-- ==== Sys2Proof/Word.lean ====
section
/-! DEFINITION. The word types of the TK-960-96 and their plainest arithmetic. -/

namespace Sys2Proof

/-- One byte of memory. -/
abbrev Byte := BitVec 8
/-- One register word (R28). -/
abbrev Word := BitVec 32
/-- One 64-bit value: a scalar register, an instruction word. -/
abbrev Word64 := BitVec 64
/-- A sparse table: pairs of key and value. Its canonical form is stated in `Machine/Ops.lean`. -/
abbrev Sparse (α : Type) := List (Nat × α)

/-- Bits `hi` down to `lo` of a natural number. -/
def slice (x hi lo : Nat) : Nat := (x >>> lo) % 2 ^ (hi + 1 - lo)

/-- The natural number whose bits `hi` down to `lo` are those of `v` and whose other bits are those of `x`. -/
def insertBits (x hi lo v : Nat) : Nat :=
  x - (slice x hi lo) * 2 ^ lo + (v % 2 ^ (hi + 1 - lo)) * 2 ^ lo

/-- Bit `i` of a natural number. -/
def bitAt (x i : Nat) : Bool := x.testBit i

/-- 1 for true, 0 for false. -/
def ofBool (b : Bool) : Nat := if b then 1 else 0

end Sys2Proof
end

