-- ==== Sys2Proof/Syntax.lean ====
section
/-! DEFINITION. The commands of the block: one constructor of `Instr` for each row of spec/opcode_table.json, and the
operand records they carry. -/

namespace Sys2Proof

/-- Form A of a Treik instruction (R98): register fields, with the reserved bits 23 to 0. The minor opcode and FN are those of the mnemonic. -/
structure FormA where
  pred : BitVec 3 := 0
  pn : Bool := false
  rd : BitVec 5 := 0
  ra : BitVec 5 := 0
  rb : BitVec 5 := 0
  rc : BitVec 5 := 0
  resv : BitVec 24 := 0
  deriving DecidableEq, Repr

/-- Form I of a Treik instruction (R98), with FN as the word has it. In class 0x1 FN is the mnemonic's and `fn` is not used. -/
structure FormI where
  pred : BitVec 3 := 0
  pn : Bool := false
  rd : BitVec 5 := 0
  ra : BitVec 5 := 0
  fn : BitVec 10 := 0
  imm : BitVec 32 := 0
  deriving DecidableEq, Repr

/-- Form G of a Treik instruction (R98, R114). -/
structure FormG where
  pred : BitVec 3 := 0
  pn : Bool := false
  q : BitVec 2 := 0
  g : Bool := false
  core : BitVec 3 := 7
  ring : BitVec 10 := 0
  rd : BitVec 5 := 0
  ra : BitVec 5 := 0
  resv : BitVec 10 := 0
  imm : BitVec 16 := 0
  deriving DecidableEq, Repr

/-- Form T of a Treik instruction (R98). -/
structure FormT where
  pred : BitVec 3 := 0
  pn : Bool := false
  rd : BitVec 5 := 0
  ra : BitVec 5 := 0
  rb : BitVec 5 := 0
  fn : BitVec 5 := 0
  imm : BitVec 32 := 0
  deriving DecidableEq, Repr

/-- Form D of a Treik instruction (R127). -/
structure FormD where
  pred : BitVec 3 := 0
  pn : Bool := false
  eng : Bool := false
  sig : Bool := false
  ring : BitVec 8 := 0
  td : BitVec 5 := 0
  ra : BitVec 5 := 0
  rb : BitVec 5 := 0
  burl : BitVec 2 := 0
  resv : BitVec 25 := 0
  deriving DecidableEq, Repr

/-- Form X of a Treik instruction (R127). -/
structure FormX where
  pred : BitVec 3 := 0
  pn : Bool := false
  ta : BitVec 5 := 0
  ra : BitVec 5 := 0
  mode : BitVec 2 := 0
  grp : Bool := false
  acc : Bool := false
  swp : Bool := false
  tb : BitVec 5 := 0
  resv : BitVec 32 := 0
  deriving DecidableEq, Repr

/-- Form V of a Treik instruction (R127). FN is the mnemonic's. -/
structure FormV where
  pred : BitVec 3 := 0
  pn : Bool := false
  vd : BitVec 6 := 0
  va : BitVec 6 := 0
  vb : BitVec 6 := 0
  vc : BitVec 6 := 0
  me : Bool := false
  vm : BitVec 6 := 0
  rs : BitVec 5 := 0
  imm : BitVec 10 := 0
  deriving DecidableEq, Repr

/-- Form Q of a Treik instruction (R127). -/
structure FormQ where
  pred : BitVec 3 := 0
  pn : Bool := false
  td : BitVec 5 := 0
  vd : BitVec 6 := 0
  va : BitVec 6 := 0
  vb : BitVec 6 := 0
  vc : BitVec 6 := 0
  vr : BitVec 6 := 0
  rs : BitVec 5 := 0
  ow : BitVec 2 := 0
  mod : BitVec 10 := 0
  deriving DecidableEq, Repr

/-- The four issue queues of a Crown core (R92). -/
inductive QName where
  | dma | array | twig | sync
  deriving DecidableEq, Repr


/-- A write that another requester makes in the same cycle (R303). -/
structure PeerWr where
  oid : BitVec 10
  ctx : BitVec 6
  addr : BitVec 48
  data : List (BitVec 8)
  deriving DecidableEq, Repr

/-- What an access meets on its way (R301, R303). A parity error on the stack interface: how many attempts failed (1 to 3 recovered by a retry,
4 failed), and where: bit 0 command/address, 1 write data, 2 read data; no error: `failed = 0`. `reports` counts the error reports of the stack's own
ECC, `later` gives the parity errors (failed, kind) that the coming accesses of engines to DRAM meet, and `also` the writes of other requesters in
the cycle of a write. -/
structure LinkErr where
  failed : Nat := 0
  kind : Nat := 0
  reports : Nat := 0
  later : List (Nat × Nat) := []
  also : List PeerWr := []
  deriving DecidableEq, Repr

/-- A row that a march test found faulty (R312): macro, row address (or byte offset in the macro), element 1 to 6, background 0 to 3. -/
structure RowFail where
  mac : Nat
  row : Nat
  element : Nat
  bg : Nat
  deriving DecidableEq, Repr

/-- Where a ring wait holds (R293): the head of a queue of a Crown core, its decode, Sapling's descriptor. -/
inductive WaitPlace where
  | queue (core : Fin 6) (q : QName)
  | decode (core : Fin 6)
  | sapling
  deriving DecidableEq, Repr

/-- What retires in a Crown core (R93): a DMA engine's instruction, a weight load, a streaming instruction, a TWIG-queue instruction. -/
inductive RetireUnit where
  | dma (eng : Bool)
  | load
  | stream
  | twig
  deriving DecidableEq, Repr

/-- A block of a root link (R368): sync header and 64 payload bits, the first bit on the line at bit 0. -/
structure LineBlock where
  sync : BitVec 2
  bits : BitVec 64
  deriving DecidableEq, Repr

/-- What a root-link port receives (R368): blocks as they stand on the line, scrambled, with the 58 payload bits before them, the oldest at bit 0. -/
structure RlkFrame where
  pre : BitVec 58
  blocks : List LineBlock
  deriving DecidableEq, Repr

/-- A station as an enumeration finds it (R381): identity, axis slots, conversion time in ns, path delay in 0.1 ns. -/
structure RlkStation where
  id : BitVec 64
  nax : BitVec 5
  tconv : BitVec 16
  dly : BitVec 16
  deriving DecidableEq, Repr

/-- A CAN frame (R401, R402): identifier (an 11-bit one in bits 28 to 18), kind bits, DLC, data bytes. -/
structure CanFrame where
  id : BitVec 29
  ide : Bool
  rtr : Bool
  fdf : Bool
  brs : Bool
  esi : Bool
  dlc : BitVec 4
  data : List (BitVec 8)
  deriving DecidableEq, Repr

/-- A CAN error (R399, R410): bit, stuff, form, ACK, CRC; the further steps of 8 that ISO 11898-1 adds for dominant bits after the error
flag; a stuff error in the arbitration field that ISO 11898-1 does not count. -/
structure CanErr where
  kinds : BitVec 5
  extra : BitVec 4
  exempt : Bool
  deriving DecidableEq, Repr

/-- The end of a transmission attempt (R397, R398). -/
inductive CanTx where
  | sent
  | lost
  | error (e : CanErr)
  deriving DecidableEq, Repr

/-- What happens at the port of a Bough pair (R457, R459, R464): a transaction whose copies agree; one whose copies differ, with both
addresses and the kinds of difference; an uncorrectable word in the L1 or L2 of a copy at a byte offset, with its syndrome. -/
inductive BghTx where
  | same
  | differ (a0 a1 : BitVec 48) (kinds : BitVec 4)
  | badWord (copy : Bool) (l2 : Bool) (off : BitVec 24) (synd : BitVec 8)
  deriving DecidableEq, Repr

/-- What an installer configuration carries (R475): axis records of Heartwood (R328), bytes of the Cambium window by offset (the records of R348 and
the trajectories of R356), and words of registers by window offset, of which the RWL fields and locks are taken. -/
structure InstCfg where
  axes : List (Fin 128 × List (BitVec 8)) := []
  cells : List (BitVec 22 × List (BitVec 8)) := []
  regs : List (BitVec 22 × BitVec 32) := []
  deriving DecidableEq, Repr

/-- An entry of the boot flash's directory (R474, R501): TYPE of the entry, the header's fields, whether its reserved bytes are 0, the verdicts of the
hash and the signature test, the SHA-384 of PUBKEY as words in the order of R470, and the payload of a Bough image or of a configuration. -/
structure BootImage where
  dir : BitVec 8
  magic : BitVec 32
  typ : BitVec 8
  key : BitVec 8
  rsvd : Bool
  hashOk : Bool
  sigOk : Bool
  keyHash : List (BitVec 32)
  rollback : BitVec 32
  uid : BitVec 64
  body : List (BitVec 8) := []
  cfg : InstCfg := {}
  deriving DecidableEq, Repr

/-- What a boot meets (R423, R501, R502): the directory's images in order, rows that fail the march tests, the seconds and the subcount
that AON has counted since the reset was asserted, and the time to READY in µs. -/
structure BootIn where
  images : List BootImage := []
  fails : List RowFail := []
  aonSec : BitVec 64 := 0
  aonSub : BitVec 15 := 0
  us : BitVec 32 := 0
  deriving DecidableEq, Repr

/-- The clocks whose loss resets the module (R499). -/
inductive LostClock where
  | hwd | xtal
  deriving DecidableEq, Repr
/-- An access that a port's command asks for: a read of `len` bytes, or a write. -/
inductive PortAcc where
  | read (addr : BitVec 48) (len : BitVec 13)
  | write (addr : BitVec 48) (data : List Byte)
  deriving DecidableEq, Repr

/-- What the test access port is asked to do (R311, R469): BYPASS, IDCODE, another IEEE 1149.1 instruction that reaches no register or memory, a
hard post-package repair of the DRAM row at an address, or an access to the address map. -/
inductive TapOp where
  | bypass
  | idcode
  | other
  | hardRepair (row : BitVec 37)
  | acc (a : PortAcc)
  deriving DecidableEq, Repr

/-- What hardware does to a field (R37): sets bits, advances a count (modulo its width, or held at its greatest value), gives it a value. -/
inductive HwKind where
  | set | count | countHold | value
  deriving DecidableEq, Repr

/-- A requester that sets EN of a stream (R237): OID, context, stream. -/
structure StreamSet where
  oid : BitVec 10
  ctx : BitVec 6
  stream : Fin 16
  deriving DecidableEq, Repr

/-- A hardware update of a register's field in a cycle (R37): its kind, the field's lowest bit, the bits, the increment or the value. -/
structure HwUpd where
  kind : HwKind
  lo : Nat
  v : BitVec 32
  deriving DecidableEq, Repr

/-- What reaches a register in a cycle: a write with its origin, context, alias (0 plain, 1 bit-set, 2 bit-clear) and data, or a hardware update
of one of its fields. -/
inductive RegReq where
  | write (oid : BitVec 10) (ctx : BitVec 6) (kind : Fin 3) (data : BitVec 32)
  | hw (u : HwUpd)
  deriving DecidableEq, Repr


/-- The commands of the block, one constructor per row of the table, in the table's order. -/
inductive Instr where
  /-- REGISTER_WRITE (R13). The register at a window offset and what reaches it in one cycle of its domain: writes and hardware updates. -/
  | registerWrite (off : BitVec 22) (reqs : List RegReq)
  /-- ALIAS_WRITE (R29). Bit-clear or bit-set alias, the address below the alias, the mask. -/
  | aliasWrite (oid : BitVec 10) (ctx : BitVec 6) (clear : Bool) (addr : BitVec 40) (data : List Byte)
  /-- NOC_READ (R302). Address, length in bytes, and what the stack interface meets. -/
  | nocRead (oid : BitVec 10) (ctx : BitVec 6) (addr : BitVec 48) (len : BitVec 13) (link : LinkErr)
  /-- NOC_WRITE (R303). Address, bytes, and what the stack interface meets. -/
  | nocWrite (oid : BitVec 10) (ctx : BitVec 6) (addr : BitVec 48) (data : List Byte) (link : LinkErr)
  /-- HOST_READ_REQUEST (R40). BAR0, BAR2 or BAR4, offset, length in bytes. -/
  | hostReadRequest (bar : Fin 3) (off : BitVec 38) (len : BitVec 13) (link : LinkErr)
  /-- HOST_WRITE_REQUEST (R40). BAR0, BAR2 or BAR4, offset, bytes. -/
  | hostWriteRequest (bar : Fin 3) (off : BitVec 38) (data : List Byte) (link : LinkErr)
  /-- SERVICE_PORT_COMMAND (R41). -/
  | servicePortCommand (a : PortAcc) (link : LinkErr)
  /-- TAP_COMMAND (R469). -/
  | tapCommand (op : TapOp) (link : LinkErr)
  /-- STRICT_WRITE (R508). Origin, context, word written. -/
  | strictWrite (oid : BitVec 10) (ctx : BitVec 6) (data : BitVec 32)
  /-- ADD (R105). -/
  | add (core : Fin 6) (f : FormA)
  /-- ADDM (R105). -/
  | addm (core : Fin 6) (f : FormA)
  /-- SUB (R105). -/
  | sub (core : Fin 6) (f : FormA)
  /-- SUBM (R105). -/
  | subm (core : Fin 6) (f : FormA)
  /-- MUL (R105). -/
  | mul (core : Fin 6) (f : FormA)
  /-- MULM (R105). -/
  | mulm (core : Fin 6) (f : FormA)
  /-- MULQ (R105). -/
  | mulq (core : Fin 6) (f : FormA)
  /-- DIV (R105). -/
  | div (core : Fin 6) (f : FormA)
  /-- REM (R105). -/
  | rem (core : Fin 6) (f : FormA)
  /-- DIVR (R105). -/
  | divr (core : Fin 6) (f : FormA)
  /-- AND (R105). -/
  | andS (core : Fin 6) (f : FormA)
  /-- OR (R105). -/
  | orS (core : Fin 6) (f : FormA)
  /-- XOR (R105). -/
  | xorS (core : Fin 6) (f : FormA)
  /-- ANDN (R105). -/
  | andn (core : Fin 6) (f : FormA)
  /-- NOT (R105). -/
  | notS (core : Fin 6) (f : FormA)
  /-- SLL (R105). -/
  | sll (core : Fin 6) (f : FormA)
  /-- SRL (R105). -/
  | srl (core : Fin 6) (f : FormA)
  /-- SRA (R105). -/
  | sra (core : Fin 6) (f : FormA)
  /-- SLS (R105). -/
  | sls (core : Fin 6) (f : FormA)
  /-- SRR (R105). -/
  | srr (core : Fin 6) (f : FormA)
  /-- MIN (R105). -/
  | minS (core : Fin 6) (f : FormA)
  /-- MAX (R105). -/
  | maxS (core : Fin 6) (f : FormA)
  /-- MINU (R105). -/
  | minu (core : Fin 6) (f : FormA)
  /-- MAXU (R105). -/
  | maxu (core : Fin 6) (f : FormA)
  /-- NEG (R105). -/
  | neg (core : Fin 6) (f : FormA)
  /-- ABS (R105). -/
  | absI (core : Fin 6) (f : FormA)
  /-- CLZ (R105). -/
  | clz (core : Fin 6) (f : FormA)
  /-- CTZ (R105). -/
  | ctz (core : Fin 6) (f : FormA)
  /-- POP (R105). -/
  | pop (core : Fin 6) (f : FormA)
  /-- CMP_EQ (R105). -/
  | cmpEq (core : Fin 6) (f : FormA)
  /-- CMP_NE (R105). -/
  | cmpNe (core : Fin 6) (f : FormA)
  /-- CMP_LT (R105). -/
  | cmpLt (core : Fin 6) (f : FormA)
  /-- CMP_LE (R105). -/
  | cmpLe (core : Fin 6) (f : FormA)
  /-- CMP_LTU (R105). -/
  | cmpLtu (core : Fin 6) (f : FormA)
  /-- CMP_LEU (R105). -/
  | cmpLeu (core : Fin 6) (f : FormA)
  /-- SEL (R105). -/
  | sel (core : Fin 6) (f : FormA)
  /-- PAND (R105). -/
  | pand (core : Fin 6) (f : FormA)
  /-- POR (R105). -/
  | por (core : Fin 6) (f : FormA)
  /-- PXOR (R105). -/
  | pxor (core : Fin 6) (f : FormA)
  /-- PANDN (R105). -/
  | pandn (core : Fin 6) (f : FormA)
  /-- PNOT (R105). -/
  | pnot (core : Fin 6) (f : FormA)
  /-- PGET (R105). -/
  | pget (core : Fin 6) (f : FormA)
  /-- PSET (R105). -/
  | pset (core : Fin 6) (f : FormA)
  /-- ADDI (R107). -/
  | addi (core : Fin 6) (f : FormI)
  /-- ADDIM (R107). -/
  | addim (core : Fin 6) (f : FormI)
  /-- MULI (R107). -/
  | muli (core : Fin 6) (f : FormI)
  /-- MULIM (R107). -/
  | mulim (core : Fin 6) (f : FormI)
  /-- ANDI (R107). -/
  | andi (core : Fin 6) (f : FormI)
  /-- ORI (R107). -/
  | ori (core : Fin 6) (f : FormI)
  /-- XORI (R107). -/
  | xori (core : Fin 6) (f : FormI)
  /-- SLLI (R107). -/
  | slli (core : Fin 6) (f : FormI)
  /-- SRLI (R107). -/
  | srli (core : Fin 6) (f : FormI)
  /-- SRAI (R107). -/
  | srai (core : Fin 6) (f : FormI)
  /-- SLSI (R107). -/
  | slsi (core : Fin 6) (f : FormI)
  /-- SRRI (R107). -/
  | srri (core : Fin 6) (f : FormI)
  /-- CMPI_EQ (R107). -/
  | cmpiEq (core : Fin 6) (f : FormI)
  /-- CMPI_NE (R107). -/
  | cmpiNe (core : Fin 6) (f : FormI)
  /-- CMPI_LT (R107). -/
  | cmpiLt (core : Fin 6) (f : FormI)
  /-- CMPI_LE (R107). -/
  | cmpiLe (core : Fin 6) (f : FormI)
  /-- CMPI_LTU (R107). -/
  | cmpiLtu (core : Fin 6) (f : FormI)
  /-- CMPI_LEU (R107). -/
  | cmpiLeu (core : Fin 6) (f : FormI)
  /-- LI (R107). -/
  | li (core : Fin 6) (f : FormI)
  /-- LIH (R107). -/
  | lih (core : Fin 6) (f : FormI)
  /-- SATI (R107). -/
  | sati (core : Fin 6) (f : FormI)
  /-- USATI (R107). -/
  | usati (core : Fin 6) (f : FormI)
  /-- SEXTI (R107). -/
  | sexti (core : Fin 6) (f : FormI)
  /-- ZEXTI (R107). -/
  | zexti (core : Fin 6) (f : FormI)
  /-- BR (R108). -/
  | br (core : Fin 6) (f : FormI)
  /-- BRR (R108). -/
  | brr (core : Fin 6) (f : FormI)
  /-- CALL (R108). -/
  | call (core : Fin 6) (f : FormI)
  /-- CALLR (R108). -/
  | callr (core : Fin 6) (f : FormI)
  /-- LOOP (R109). -/
  | loop (core : Fin 6) (f : FormI)
  /-- LBRK (R110). -/
  | lbrk (core : Fin 6) (f : FormI)
  /-- LIDX (R108). -/
  | lidx (core : Fin 6) (f : FormI)
  /-- END (R111). -/
  | endJob (core : Fin 6) (f : FormI)
  /-- FAULT (R108). -/
  | fault (core : Fin 6) (f : FormI)
  /-- NOP (R108). -/
  | nop (core : Fin 6) (f : FormI)
  /-- LDB (R112). -/
  | ldb (core : Fin 6) (f : FormI)
  /-- LDBU (R112). -/
  | ldbu (core : Fin 6) (f : FormI)
  /-- LDH (R112). -/
  | ldh (core : Fin 6) (f : FormI)
  /-- LDHU (R112). -/
  | ldhu (core : Fin 6) (f : FormI)
  /-- LDW (R112). -/
  | ldw (core : Fin 6) (f : FormI)
  /-- LDWU (R112). -/
  | ldwu (core : Fin 6) (f : FormI)
  /-- LDD (R112). -/
  | ldd (core : Fin 6) (f : FormI)
  /-- STB (R112). -/
  | stb (core : Fin 6) (f : FormI)
  /-- STH (R112). -/
  | sth (core : Fin 6) (f : FormI)
  /-- STW (R112). -/
  | stw (core : Fin 6) (f : FormI)
  /-- STD (R112). -/
  | std (core : Fin 6) (f : FormI)
  /-- RSIG (R117). -/
  | rsig (core : Fin 6) (f : FormG)
  /-- RSIGV (R117). -/
  | rsigv (core : Fin 6) (f : FormG)
  /-- RWAIT (R117). -/
  | rwait (core : Fin 6) (f : FormG)
  /-- RWAITS (R117). -/
  | rwaits (core : Fin 6) (f : FormG)
  /-- RRD (R117). -/
  | rrd (core : Fin 6) (f : FormG)
  /-- RTEST (R117). -/
  | rtest (core : Fin 6) (f : FormG)
  /-- RSIGD (R117). -/
  | rsigd (core : Fin 6) (f : FormG)
  /-- TSET (R122). -/
  | tset (core : Fin 6) (f : FormT)
  /-- TGET (R122). -/
  | tget (core : Fin 6) (f : FormT)
  /-- TLD (R122). -/
  | tld (core : Fin 6) (f : FormT)
  /-- TST (R122). -/
  | tst (core : Fin 6) (f : FormT)
  /-- TADV (R122). -/
  | tadv (core : Fin 6) (f : FormT)
  /-- TSUB (R122). -/
  | tsub (core : Fin 6) (f : FormT)
  /-- TCPY (R122). -/
  | tcpy (core : Fin 6) (f : FormT)
  /-- FFLUSH (R123). -/
  | fflush (core : Fin 6) (f : FormI)
  /-- FLAGRD (R123). -/
  | flagrd (core : Fin 6) (f : FormI)
  /-- FLAGCLR (R125). -/
  | flagclr (core : Fin 6) (f : FormI)
  /-- SVR (R124). -/
  | svr (core : Fin 6) (f : FormI)
  /-- AWLD (R133). -/
  | awld (core : Fin 6) (f : FormX)
  /-- AMM (R133). -/
  | amm (core : Fin 6) (f : FormX)
  /-- AMMC (R133). -/
  | ammc (core : Fin 6) (f : FormX)
  /-- VADD (R137). -/
  | vadd (core : Fin 6) (f : FormV)
  /-- VADDM (R137). -/
  | vaddm (core : Fin 6) (f : FormV)
  /-- VSUB (R137). -/
  | vsub (core : Fin 6) (f : FormV)
  /-- VSUBM (R137). -/
  | vsubm (core : Fin 6) (f : FormV)
  /-- VMIN (R137). -/
  | vmin (core : Fin 6) (f : FormV)
  /-- VMAX (R137). -/
  | vmax (core : Fin 6) (f : FormV)
  /-- VNEG (R137). -/
  | vneg (core : Fin 6) (f : FormV)
  /-- VABS (R137). -/
  | vabs (core : Fin 6) (f : FormV)
  /-- VAND (R137). -/
  | vand (core : Fin 6) (f : FormV)
  /-- VOR (R137). -/
  | vor (core : Fin 6) (f : FormV)
  /-- VXOR (R137). -/
  | vxor (core : Fin 6) (f : FormV)
  /-- VANDN (R137). -/
  | vandn (core : Fin 6) (f : FormV)
  /-- VMUL (R137). -/
  | vmul (core : Fin 6) (f : FormV)
  /-- VMULQ (R137). -/
  | vmulq (core : Fin 6) (f : FormV)
  /-- VMAC (R137). -/
  | vmac (core : Fin 6) (f : FormV)
  /-- VRESC (R137). -/
  | vresc (core : Fin 6) (f : FormV)
  /-- VSLL (R137). -/
  | vsll (core : Fin 6) (f : FormV)
  /-- VSRL (R137). -/
  | vsrl (core : Fin 6) (f : FormV)
  /-- VSRA (R137). -/
  | vsra (core : Fin 6) (f : FormV)
  /-- VSLS (R137). -/
  | vsls (core : Fin 6) (f : FormV)
  /-- VSRR (R137). -/
  | vsrr (core : Fin 6) (f : FormV)
  /-- VSLLI (R137). -/
  | vslli (core : Fin 6) (f : FormV)
  /-- VSRLI (R137). -/
  | vsrli (core : Fin 6) (f : FormV)
  /-- VSRAI (R137). -/
  | vsrai (core : Fin 6) (f : FormV)
  /-- VSLSI (R137). -/
  | vslsi (core : Fin 6) (f : FormV)
  /-- VSRRI (R137). -/
  | vsrri (core : Fin 6) (f : FormV)
  /-- VSAT (R137). -/
  | vsat (core : Fin 6) (f : FormV)
  /-- VUSAT (R137). -/
  | vusat (core : Fin 6) (f : FormV)
  /-- VCMP_EQ (R137). -/
  | vcmpEq (core : Fin 6) (f : FormV)
  /-- VCMP_NE (R137). -/
  | vcmpNe (core : Fin 6) (f : FormV)
  /-- VCMP_LT (R137). -/
  | vcmpLt (core : Fin 6) (f : FormV)
  /-- VCMP_LE (R137). -/
  | vcmpLe (core : Fin 6) (f : FormV)
  /-- VSEL (R137). -/
  | vsel (core : Fin 6) (f : FormV)
  /-- VMOV (R137). -/
  | vmov (core : Fin 6) (f : FormV)
  /-- VBCS (R137). -/
  | vbcs (core : Fin 6) (f : FormV)
  /-- VBCL (R137). -/
  | vbcl (core : Fin 6) (f : FormV)
  /-- VIDX (R137). -/
  | vidx (core : Fin 6) (f : FormV)
  /-- VINS (R137). -/
  | vins (core : Fin 6) (f : FormV)
  /-- VEXT (R137). -/
  | vext (core : Fin 6) (f : FormV)
  /-- VRSUM (R138). -/
  | vrsum (core : Fin 6) (f : FormV)
  /-- VRMAX (R138). -/
  | vrmax (core : Fin 6) (f : FormV)
  /-- VRMIN (R138). -/
  | vrmin (core : Fin 6) (f : FormV)
  /-- VRAMAX (R138). -/
  | vramax (core : Fin 6) (f : FormV)
  /-- VRARG (R138). -/
  | vrarg (core : Fin 6) (f : FormV)
  /-- VLD (R139). -/
  | vld (core : Fin 6) (f : FormV)
  /-- VST (R139). -/
  | vst (core : Fin 6) (f : FormV)
  /-- VACR (R137). -/
  | vacr (core : Fin 6) (f : FormV)
  /-- VACW (R137). -/
  | vacw (core : Fin 6) (f : FormV)
  /-- VRDIV (R137). -/
  | vrdiv (core : Fin 6) (f : FormV)
  /-- VQDIV (R137). -/
  | vqdiv (core : Fin 6) (f : FormV)
  /-- VQREM (R137). -/
  | vqrem (core : Fin 6) (f : FormV)
  /-- VRSQ (R140). -/
  | vrsq (core : Fin 6) (f : FormV)
  /-- VMKC (R141). -/
  | vmkc (core : Fin 6) (f : FormV)
  /-- VMKCM (R141). -/
  | vmkcm (core : Fin 6) (f : FormV)
  /-- VMKS (R141). -/
  | vmks (core : Fin 6) (f : FormV)
  /-- VMKSM (R141). -/
  | vmksm (core : Fin 6) (f : FormV)
  /-- VANY (R141). -/
  | vany (core : Fin 6) (f : FormV)
  /-- VEXP (R142). -/
  | vexp (core : Fin 6) (f : FormV)
  /-- VROTI (R142). -/
  | vroti (core : Fin 6) (f : FormV)
  /-- VROTS (R142). -/
  | vrots (core : Fin 6) (f : FormV)
  /-- TLD_TABLE (R143). -/
  | tldTable (core : Fin 6) (f : FormV)
  /-- TLU (R143). -/
  | tlu (core : Fin 6) (f : FormV)
  /-- TLI (R143). -/
  | tli (core : Fin 6) (f : FormV)
  /-- QDRN (R145). -/
  | qdrn (core : Fin 6) (f : FormQ)
  /-- QDQ (R147). -/
  | qdq (core : Fin 6) (f : FormQ)
  /-- QNT (R147). -/
  | qnt (core : Fin 6) (f : FormQ)
  /-- QSCL (R148). -/
  | qscl (core : Fin 6) (f : FormQ)
  /-- DLD (R149). -/
  | dld (core : Fin 6) (f : FormD)
  /-- DST (R149). -/
  | dst (core : Fin 6) (f : FormD)
  /-- DGTH (R149). -/
  | dgth (core : Fin 6) (f : FormD)
  /-- DSCT (R151). -/
  | dsct (core : Fin 6) (f : FormD)
  /-- DACL (R149). -/
  | dacl (core : Fin 6) (f : FormD)
  /-- DACS (R149). -/
  | dacs (core : Fin 6) (f : FormD)
  /-- DZRO (R149). -/
  | dzro (core : Fin 6) (f : FormD)
  /-- ARRAY_DISPATCH (R134). -/
  | arrayDispatch (core : Fin 6)
  /-- DMA_TAKE (R90). -/
  | dmaTake (core : Fin 6) (eng : Bool)
  /-- TWIG_ISSUE (R87). -/
  | twigIssue (core : Fin 6)
  /-- SYNC_QUEUE_HEAD (R115). -/
  | syncQueueHead (core : Fin 6)
  /-- SHADOW_LOAD_COMPLETE (R135). -/
  | shadowLoadComplete (core : Fin 6)
  /-- INSTRUCTION_RETIRE (R93). -/
  | instructionRetire (core : Fin 6) (unit : RetireUnit)
  /-- RING_WAIT_SATISFIED (R118). -/
  | ringWaitSatisfied (place : WaitPlace)
  /-- JOB_END_REPORT (R111). -/
  | jobEndReport (core : Fin 6)
  /-- RING_SIGNAL_APPLY (R118). `ring` in the SIGTGT format. -/
  | ringSignalApply (ring : BitVec 13)
  /-- RING_SIGNAL_REGISTER_WRITE (R287). A requester writes `data` to the signal register of a ring (SIGTGT format). -/
  | ringSignalRegisterWrite (oid : BitVec 10) (ctx : BitVec 6) (ring : BitVec 13) (data : BitVec 32)
  /-- SEQ_NEW (R183). The Page keeper executes the head record of queue `ctx`. -/
  | seqNew (ctx : BitVec 6)
  /-- SEQ_GRAFT (R188). The Page keeper executes the head record of queue `ctx`. -/
  | seqGraft (ctx : BitVec 6)
  /-- EXTEND (R184). The Page keeper executes the head record of queue `ctx`. -/
  | kvpExtend (ctx : BitVec 6)
  /-- WRITE (R185). The Page keeper executes the head record of queue `ctx`. -/
  | kvpWrite (ctx : BitVec 6)
  /-- GATHER (R186). The Page keeper executes the head record of queue `ctx`. -/
  | kvpGather (ctx : BitVec 6)
  /-- TRUNC (R188). The Page keeper executes the head record of queue `ctx`. -/
  | kvpTrunc (ctx : BitVec 6)
  /-- FREE (R188). The Page keeper executes the head record of queue `ctx`. -/
  | kvpFree (ctx : BitVec 6)
  /-- PAGE_ZEROED (R189). For the EXTEND of queue `ctx` in execution. -/
  | pageZeroed (ctx : BitVec 6)
  /-- ALLOCATION_RETRY (R192). For the EXTEND of queue `ctx` in execution. -/
  | allocationRetry (ctx : BitVec 6)
  /-- KVP_WAITLIM_EXPIRY (R192). For the EXTEND of queue `ctx` in execution. -/
  | kvpWaitlimExpiry (ctx : BitVec 6)
  /-- KVP_QUOTA_WRITE (R191). Origin, context, number, word written. -/
  | kvpQuotaWrite (oid : BitVec 10) (ctx : BitVec 6) (n : Fin 64) (data : BitVec 32)
  /-- CONV (R211). -/
  | splConv
  /-- POOL (R213). -/
  | splPool
  /-- RSMP (R214). -/
  | splRsmp
  /-- DECODE (R216). -/
  | splDecode
  /-- NMS (R218). -/
  | splNms
  /-- SPL_NOP (R205). -/
  | splNop
  /-- SPL_END (R204). -/
  | splEnd
  /-- CSI_FRAME_START (R238). Receiver, virtual channel, frame number, header ECC (0 good, 1 corrected, 2 uncorrectable). -/
  | csiFrameStart (rx : Fin 12) (vc : BitVec 4) (num : BitVec 16) (ecc : Fin 3)
  /-- CSI_LONG_PACKET (R234). `crcOk`: the payload CRC-16 is right; `fits`: the line fits in the line buffer. -/
  | csiLongPacket (rx : Fin 12) (vc : BitVec 4) (dt : BitVec 6) (ecc : Fin 3) (crcOk : Bool) (fits : Bool) (payload : List Byte)
  /-- CSI_FRAME_END (R250). -/
  | csiFrameEnd (rx : Fin 12) (vc : BitVec 4) (ecc : Fin 3)
  /-- FRAME_LATE (R238). -/
  | frameLate (stream : Fin 16)
  /-- HOST_SAMPLE_ADMISSION (R239). -/
  | hostSampleAdmission (stream : Fin 16)
  /-- SAMPLE_COMPLETE (R248). The sample in place `k` of the samples in flight, oldest first. -/
  | sampleComplete (stream : Fin 16) (k : Nat)
  /-- TEST_PATTERN_COMPLETE (R251). -/
  | testPatternComplete (stream : Fin 16)
  /-- PACK_TIMEOUT (R246). -/
  | packTimeout (stream : Fin 16)
  /-- STREAM_ENABLE (R237). Who sets EN of which stream. -/
  | streamEnable (set : StreamSet)
  /-- STREAM_DESCRIPTOR_WRITE (R236). A requester writes bytes at an offset of the descriptors. -/
  | streamDescriptorWrite (oid : BitVec 10) (ctx : BitVec 6) (off : BitVec 12) (data : List Byte)
  /-- CONTEXT_ENABLE (R258). Origin, context, number, word written. -/
  | contextEnable (oid : BitVec 10) (ctx : BitVec 6) (n : Fin 64) (data : BitVec 32)
  /-- TEARDOWN (R272). Origin, context, number. -/
  | teardown (oid : BitVec 10) (ctx : BitVec 6) (n : Fin 64)
  /-- CONTEXT_ACK (R258). Origin, context, number. -/
  | contextAck (oid : BitVec 10) (ctx : BitVec 6) (n : Fin 64)
  /-- VTRESET (R267). Origin, context, number. -/
  | vtreset (oid : BitVec 10) (ctx : BitVec 6) (n : Fin 64)
  /-- SCHEDULER_ENABLE (R552). Origin, context, word written. -/
  | schedulerEnable (oid : BitVec 10) (ctx : BitVec 6) (data : BitVec 32)
  /-- JOB_DESCRIPTOR_CHECK (R261). The descriptor at the head of the queue of context `ctx` is read, or a sprout descriptor once the cancelled job has stopped. -/
  | jobDescriptorCheck (ctx : BitVec 6)
  /-- JOB_DISPATCH (R265). The top-ranked job of the Crown or the Sapling class gets its units. -/
  | jobDispatch (sapling : Bool)
  /-- JOB_START (R265). For the job that holds unit `unit`, 0 to 5 Crown, 6 Sapling. -/
  | jobStart (unit : Fin 7)
  /-- JOB_SEAL (R270). For the job that holds unit `unit`, 0 to 5 Crown, 6 Sapling. -/
  | jobSeal (unit : Fin 7)
  /-- SEALWAIT_EXPIRY (R290). For the job that holds unit `unit`, 0 to 5 Crown, 6 Sapling. -/
  | sealwaitExpiry (unit : Fin 7)
  /-- SWITCH_POINT (R268). For context `ctx`. -/
  | switchPoint (ctx : BitVec 6)
  /-- DEADLINE_REACHED (R269). For context `ctx`. -/
  | deadlineReached (ctx : BitVec 6)
  /-- STOP_LIMIT_EXPIRY (R273). Unit `unit` has not stopped in time. -/
  | stopLimitExpiry (unit : Fin 7)
  /-- TEARDOWN_COMPLETE (R258). For context `ctx`. -/
  | teardownComplete (ctx : BitVec 6)
  /-- RETIRE (R273). Origin, context, number. -/
  | unitRetire (oid : BitVec 10) (ctx : BitVec 6) (n : Fin 7)
  /-- READMIT (R275). Origin, context, number. -/
  | unitReadmit (oid : BitVec 10) (ctx : BitVec 6) (n : Fin 7)
  /-- SELFTEST_COMPLETE (R275). Unit, the failing rows and the verdict of its self-test. -/
  | selftestComplete (unit : Fin 7) (fails : List RowFail) (ok : Bool)
  /-- QUARANTINE_COMPLETE (R275). Unit, and whether its signature matches. -/
  | quarantineComplete (unit : Fin 7) (ok : Bool)
  /-- ADMIT (R275). Origin, context, number. -/
  | unitAdmit (oid : BitVec 10) (ctx : BitVec 6) (n : Fin 7)
  /-- OWNERSHIP_CHANGE (R277). Origin, context, word written. -/
  | ownershipChange (oid : BitVec 10) (ctx : BitVec 6) (data : BitVec 32)
  /-- OWN_ZEROING_COMPLETE (R277). -/
  | ownZeroingComplete
  /-- REFRESH (R300). A stack refreshes; `cycles` are the cycles lost to it. -/
  | dramRefresh (stack : Fin 4) (cycles : BitVec 32)
  /-- STACK_TEMPERATURE_CROSSING (R300). -/
  | stackTemperatureCrossing (stack : Fin 4) (temp : BitVec 8)
  /-- PATROL_SCRUB (R301). The granule at a DRAM address is read. -/
  | patrolScrub (granule : BitVec 29) (link : LinkErr)
  /-- BACKGROUND_ROW_TEST (R315, R316). `fails` are the macros whose row failed its compare, and 65536 above its identifier each macro of Cambium and
  Heartwood whose row test its owner's access aborted. -/
  | backgroundRowTest (fails : List Nat)
  /-- SOFT_REPAIR_COMPLETE (R311). The oldest copy in progress completes. -/
  | softRepairComplete
  /-- MEMORY_TEST_REQUEST (R314). A write of 1 to MEM_TCMD.GO. -/
  | memoryTestRequest
  /-- MEMORY_TEST_COMPLETE (R314). The rows that failed. -/
  | memoryTestComplete (fails : List RowFail)
  /-- BULK_CLEAR (R318). A write of 1 to MEM_BCLR_CMD.GO. -/
  | bulkClear
  /-- BULK_CLEAR_COMPLETE (R318). The oldest clear completes. -/
  | bulkClearComplete
  /-- GATE_SUBMISSION (R326). Channel `ch`. -/
  | gateSubmission (ch : Fin 4)
  /-- GATE_CHECK (R329). Channel `ch`. -/
  | gateCheck (ch : Fin 4)
  /-- GATE_COMMIT (R331). Channel `ch`, and the time spent in FALLBACK by Heartwood's clock in µs. -/
  | gateCommit (ch : Fin 4) (us : BitVec 32)
  /-- GATE_CHANNEL_ENABLE (R343). Origin, context, number, word written. -/
  | gateChannelEnable (oid : BitVec 10) (ctx : BitVec 6) (n : Fin 4) (data : BitVec 32)
  /-- KICK (R332). The key, and the time since the previous kick by Heartwood's clock in ns. -/
  | hwdKick (key : BitVec 16) (ns : BitVec 32)
  /-- KICK_TIMEOUT (R332). -/
  | kickTimeout
  /-- HORIZON_EXPIRY (R332). -/
  | horizonExpiry
  /-- HEARTBEAT_TIMEOUT (R332). -/
  | heartbeatTimeout
  /-- ENTER (R334). Origin, context. -/
  | safeEnter (oid : BitVec 10) (ctx : BitVec 6)
  /-- ARM (R334). Origin, context. -/
  | safeArm (oid : BitVec 10) (ctx : BitVec 6)
  /-- HOLD_EXPIRY (R334). -/
  | holdExpiry
  /-- STOPMAX_EXPIRY (R334). -/
  | stopmaxExpiry
  /-- CROWN_RESTART_COMPLETE (R335). The duration of the restart by Heartwood's clock in µs. -/
  | crownRestartComplete (us : BitVec 32)
  /-- CROWN_RESTART_TIMEOUT (R335). The duration of the restart by Heartwood's clock in µs. -/
  | crownRestartTimeout (us : BitVec 32)
  /-- SELF_TEST_TICK (R337). The verdict of the next unit's test, and the signatures expected and obtained. -/
  | selfTestTick (ok : Bool) (expected : BitVec 32) (obtained : BitVec 32)
  /-- SIGNATURE_CHECK (R338). The 32 integer registers of copy 0 and of copy 1. -/
  | signatureCheck (r0 : List (BitVec 32)) (r1 : List (BitVec 32))
  /-- HWD_PAIR_TRANSACTION (R324). The port, and whether the two copies differ. -/
  | hwdPairTransaction (port : BitVec 8) (differ : Bool)
  /-- BARK_RULE_WRITE (R341). Origin, context, number, word written. -/
  | barkRuleWrite (oid : BitVec 10) (ctx : BitVec 6) (n : Fin 512) (data : BitVec 32)
  /-- JOINT_CYCLE_START (R346). -/
  | jointCycleStart
  /-- SAMPLE_WINDOW_CLOSE (R376). On root-link port `port`. -/
  | sampleWindowClose (port : Fin 16)
  /-- AXIS_LAW_COMPUTE (R352). The laws of the axes of `port` that `axes` names complete. -/
  | axisLawCompute (port : Fin 16) (axes : BitVec 128)
  /-- COMMAND_RELEASE (R363). On root-link port `port`. -/
  | commandRelease (port : Fin 16)
  /-- CMB_COMMIT (R349). Origin, context, word written. -/
  | cmbCommit (oid : BitVec 10) (ctx : BitVec 6) (data : BitVec 32)
  /-- CMB_BUFFER_HEADER_WRITE (R349). Heartwood writes bytes at an offset of a trajectory buffer. -/
  | cmbBufferHeaderWrite (buf : Fin 8) (off : BitVec 6) (data : List Byte)
  /-- FALLBACK_LATCH (R357). -/
  | fallbackLatch
  /-- STOP_LATCH (R357). -/
  | stopLatch
  /-- STO_LATCH (R357). -/
  | stoLatch
  /-- CLEAR (R358). Origin, context, number. -/
  | axisClear (oid : BitVec 10) (ctx : BitVec 6) (n : Fin 128)
  /-- SAMPLE (R374). The frame that `port` receives. -/
  | rlkSample (port : Fin 16) (frame : RlkFrame)
  /-- STATUS (R379). The frame that `port` receives. -/
  | rlkStatus (port : Fin 16) (frame : RlkFrame)
  /-- BREAK (R383). Sender's hop index and reason. -/
  | rlkBreak (port : Fin 16) (hop : BitVec 8) (reason : BitVec 8)
  /-- RESTORE (R384). Sender's hop index, and the stations that the port measures. -/
  | rlkRestore (port : Fin 16) (hop : BitVec 8) (stations : List RlkStation)
  /-- PORT_ENABLE (R380). Origin, context, port, word written to its CFG. -/
  | portEnable (oid : BitVec 10) (ctx : BitVec 6) (n : Fin 16) (data : BitVec 32)
  /-- ENUMERATION (R381). The stations that the port finds. -/
  | enumeration (port : Fin 16) (stations : List RlkStation)
  /-- ENUM_RETRY (R380). The stations that the port finds. -/
  | enumRetry (port : Fin 16) (stations : List RlkStation)
  /-- LINK_LOCK_LOST (R380). Lock lost, block errors. -/
  | linkLockLost (port : Fin 16) (lost : Bool) (errors : Bool)
  /-- MANAGEMENT_EXCHANGE (R379). Origin, context, number. -/
  | managementExchange (oid : BitVec 10) (ctx : BitVec 6) (n : Fin 16)
  /-- STO_REPEAT (R378). On root-link port `port`. -/
  | stoRepeat (port : Fin 16)
  /-- TX_REQUEST (R395). Origin, context, controller, the buffers requested. -/
  | txRequest (oid : BitVec 10) (ctx : BitVec 6) (n : Fin 8) (bufs : BitVec 3)
  /-- ABORT (R397). Origin, context, controller, the buffers withdrawn. -/
  | cfdAbort (oid : BitVec 10) (ctx : BitVec 6) (n : Fin 8) (bufs : BitVec 3)
  /-- SLEEP (R407). Origin, context, number. -/
  | cfdSleep (oid : BitVec 10) (ctx : BitVec 6) (n : Fin 8)
  /-- WAKE (R407). Origin, context, number. -/
  | cfdWake (oid : BitVec 10) (ctx : BitVec 6) (n : Fin 8)
  /-- RECOVER (R400). Origin, context, number. -/
  | cfdRecover (oid : BitVec 10) (ctx : BitVec 6) (n : Fin 8)
  /-- ECSET_LOAD (R411). Origin, context, number, word written. -/
  | ecsetLoad (oid : BitVec 10) (ctx : BitVec 6) (n : Fin 8) (data : BitVec 32)
  /-- TX_ARBITRATION_START (R396). Controller `ctrl`. -/
  | txArbitrationStart (ctrl : Fin 8)
  /-- TX_ATTEMPT_END (R398). Controller, outcome, ns since the SOF edge, loop delay measured. -/
  | txAttemptEnd (ctrl : Fin 8) (outcome : CanTx) (ago : BitVec 32) (tdcv : Option (BitVec 7))
  /-- RX_FRAME_VALID (R401). Controller, frame, ns since its SOF edge. -/
  | rxFrameValid (ctrl : Fin 8) (frame : CanFrame) (ago : BitVec 32)
  /-- INTEGRATION_COMPLETE (R394). Controller `ctrl`. -/
  | integrationComplete (ctrl : Fin 8)
  /-- RECOVERY_COMPLETE (R400). Controller, duration of the recovery in µs. -/
  | recoveryComplete (ctrl : Fin 8) (us : BitVec 32)
  /-- PROTOCOL_EXCEPTION (R406). Controller `ctrl`. -/
  | protocolException (ctrl : Fin 8)
  /-- SLEEP_ENTRY (R407). Controller `ctrl`. -/
  | sleepEntry (ctrl : Fin 8)
  /-- WAKE_UP_FRAME (R408). Controller in SLEEP, the frame as far as it was decoded, whether it ended in an error. -/
  | wakeUpFrame (ctrl : Fin 8) (frame : Option CanFrame) (err : Bool)
  /-- ETH_RX_FRAME (R414). A frame without FCS, whether its FCS was right, eighths of a ns since its time stamp point, FEC codewords. -/
  | ethRxFrame (port : Fin 2) (frame : List Byte) (fcsOk : Bool) (back : Nat) (cor : BitVec 16) (unc : BitVec 16)
  /-- ETH_TX_FRAME (R416). -/
  | ethTxFrame (port : Fin 2) (lead : Nat)
  /-- ETH_LINK_UP (R432). -/
  | ethLinkUp (port : Fin 2)
  /-- ETH_LINK_DOWN (R432). -/
  | ethLinkDown (port : Fin 2) (fault : BitVec 3)
  /-- TIME_ADJUST (R420). Origin, context, word written. -/
  | timeAdjust (oid : BitVec 10) (ctx : BitVec 6) (data : BitVec 32)
  /-- TIME_SET (R420). Origin, context, word written. -/
  | timeSet (oid : BitVec 10) (ctx : BitVec 6) (data : BitVec 32)
  /-- INCREMENT_COMMIT (R419). Origin, context, word written. -/
  | incrementCommit (oid : BitVec 10) (ctx : BitVec 6) (data : BitVec 32)
  /-- SLEW_COMPLETE (R420). -/
  | slewComplete
  /-- REFERENCE_FAILURE (R422). -/
  | referenceFailure
  /-- REFERENCE_LOCK (R422). -/
  | referenceLock
  /-- SYNC_HOLD_EXPIRY (R422). -/
  | syncHoldExpiry
  /-- PULSE_ENABLE (R428). Origin, context, number, word written. -/
  | pulseEnable (oid : BitVec 10) (ctx : BitVec 6) (n : Fin 8) (data : BitVec 32)
  /-- PULSE_EDGE (R428). -/
  | pulseEdge (po : Fin 8)
  /-- CAPTURE_EDGE (R429). `sub`: eighths of a ns into the present tick. -/
  | captureEdge (input : Fin 8) (rise : Bool) (sub : Fin 16)
  /-- TXQ_POP (R425). Origin, context, number. -/
  | txqPop (oid : BitVec 10) (ctx : BitVec 6) (n : Fin 2)
  /-- CAPTURE_POP (R429). Origin, context, number. -/
  | capturePop (oid : BitVec 10) (ctx : BitVec 6) (n : Fin 8)
  /-- GRV_WRITE (R439). -/
  | grvWrite (ch : BitVec 6)
  /-- GRV_SIGNAL (R439). -/
  | grvSignal (ch : BitVec 6)
  /-- WRITE_DATAGRAM (R440). The datagram from its header on. -/
  | writeDatagram (dg : List Byte)
  /-- SIGNAL_DATAGRAM (R440). The datagram from its header on. -/
  | signalDatagram (dg : List Byte)
  /-- ACK (R443). The datagram from its header on. -/
  | grvAck (dg : List Byte)
  /-- NACK (R443). The datagram from its header on. -/
  | grvNack (dg : List Byte)
  /-- ACK_TIMER (R443). -/
  | ackTimer (dev : BitVec 14) (ch : BitVec 6)
  /-- RETRANSMIT_TIMEOUT (R443). -/
  | retransmitTimeout (dev : BitVec 14) (ch : BitVec 6)
  /-- BARRIER_ARRIVAL (R446). -/
  | barrierArrival (b : BitVec 4)
  /-- ARRIVE (R447). The datagram from its header on. -/
  | barArrive (dg : List Byte)
  /-- RELEASE (R448). The datagram from its header on. -/
  | barRelease (dg : List Byte)
  /-- BARRIER_RELEASE (R448). -/
  | barrierRelease (b : BitVec 4)
  /-- BARRIER_TIMEOUT (R449). -/
  | barrierTimeout (b : BitVec 4)
  /-- SPLIT (R462). Origin, context, number. -/
  | bghSplit (oid : BitVec 10) (ctx : BitVec 6) (n : Fin 4)
  /-- SPLIT_COMPLETE (R462). Pair, dirty lines written back, duration in ns. -/
  | splitComplete (pair : Fin 4) (lines : BitVec 32) (ns : BitVec 32)
  /-- PARK (R463). Origin, context, number. -/
  | bghPark (oid : BitVec 10) (ctx : BitVec 6) (n : Fin 4)
  /-- UNPARK (R461). Origin, context, number. -/
  | bghUnpark (oid : BitVec 10) (ctx : BitVec 6) (n : Fin 4)
  /-- JOIN (R463). Origin, context, number. -/
  | bghJoin (oid : BitVec 10) (ctx : BitVec 6) (n : Fin 4)
  /-- JOIN_COMPLETE (R463). Pair, verdict of the comparator test, duration in ns. -/
  | joinComplete (pair : Fin 4) (ok : Bool) (ns : BitVec 32)
  /-- PAIR_READMIT (R464). Origin, context, number. -/
  | pairReadmit (oid : BitVec 10) (ctx : BitVec 6) (n : Fin 4)
  /-- PAIR_SELFTEST_COMPLETE (R464). Pair, failing rows, verdict. -/
  | pairSelftestComplete (pair : Fin 4) (fails : List RowFail) (ok : Bool)
  /-- PAIR_ADMIT (R464). Origin, context, number. -/
  | pairAdmit (oid : BitVec 10) (ctx : BitVec 6) (n : Fin 4)
  /-- BOUGH_PAIR_TRANSACTION (R457). Pair and what happens at its port. -/
  | boughPairTransaction (pair : Fin 4) (tx : BghTx)
  /-- BGH_AGREE_FALLBACK (R458). Pair `pair`. -/
  | bghAgreeFallback (pair : Fin 4)
  /-- PAIR_SIGNATURE_CHECK (R460). The bytes of x1 to x31, f0 to f31, pc and slice j of the L2 of copy 0 and of copy 1. -/
  | pairSignatureCheck (pair : Fin 4) (c0 : List (BitVec 8)) (c1 : List (BitVec 8))
  /-- IPSET_WRITE (R456). Origin, context, number, word written. -/
  | ipsetWrite (oid : BitVec 10) (ctx : BitVec 6) (n : Fin 8) (data : BitVec 32)
  /-- MTIMECMP_MATCH (R456). Core `core`. -/
  | mtimecmpMatch (core : Fin 8)
  /-- LIFECYCLE_COMMAND (R472). Origin, context, word written, the copies whose fuse bit does not set. -/
  | lifecycleCommand (oid : BitVec 10) (ctx : BitVec 6) (data : BitVec 32) (bad : BitVec 3)
  /-- FUSE_PROGRAM (R471). Origin, context. -/
  | fuseProgram (oid : BitVec 10) (ctx : BitVec 6)
  /-- WIPE (R479). Origin, context. -/
  | pithWipe (oid : BitVec 10) (ctx : BitVec 6)
  /-- WIPE_COMPLETE (R479). -/
  | wipeComplete
  /-- ROLLBACK_FW (R476). Origin, context. -/
  | rollbackFw (oid : BitVec 10) (ctx : BitVec 6)
  /-- ROLLBACK_CFG (R476). Origin, context. -/
  | rollbackCfg (oid : BitVec 10) (ctx : BitVec 6)
  /-- TAMPER_TRIP (R481). The sensors that trip. -/
  | tamperTrip (sensors : BitVec 5)
  /-- POWER_ON_BOOT (R502). What the boot meets. -/
  | powerOnBoot (b : BootIn)
  /-- HOST_READY (R503). Host-ready in µs from main power good. -/
  | hostReady (us : BitVec 32)
  /-- BROWN_OUT (R488). The rail, numbered in the order of R487. -/
  | brownOut (rail : Fin 8)
  /-- RESET_N_ASSERT (R499). -/
  | resetNAssert
  /-- GLOBAL_RESET_COMMAND (R500). Origin, context, word written. -/
  | globalResetCommand (oid : BitVec 10) (ctx : BitVec 6) (data : BitVec 32)
  /-- CLOCK_LOSS (R499). The clock. -/
  | clockLoss (clk : LostClock)
  /-- HOST_PORT_RESET (R499). -/
  | hostPortReset
  /-- POWER_PATH_SWITCH (R489). VAON_MAIN and VBAT in mV. -/
  | powerPathSwitch (main : BitVec 13) (bat : BitVec 13)
  /-- RETENTION_LOSS (R490). The selected supply in mV over the 2 µs. -/
  | retentionLoss (mv : BitVec 13)
  /-- VBAT_LOW_DETECT (R489). VBAT in mV. -/
  | vbatLowDetect (mv : BitVec 12)
  /-- CAP_DECISION (R495). Module power in 0.1 W as the mean of the last 1 ms, and whether every Crown domain has the slack of R494 at 0.93 V or less. -/
  | capDecision (pw : BitVec 16) (slack : Bool)
  /-- THERMAL_SAMPLE (R497). The hottest junction and the hottest HBM stack in °C. -/
  | thermalSample (tj : BitVec 8) (thbm : BitVec 8)
  /-- VOLTAGE_STEP (R493). The domain and its least measured slack in ps. -/
  | voltageStep (dom : Fin 25) (slack : BitVec 16)
  /-- SERDES_ADAPTATION (R498). Link kind (0 PCIe, 1 Ethernet, 2 root links), lane, and whether the target error rate is reached. -/
  | serdesAdaptation (kind : Fin 3) (lane : BitVec 6) (ok : Bool)
  /-- EVENT_RECORD_WRITE (R522). -/
  | eventRecordWrite
  /-- COALESCE_EXPIRY (R525). The vector. -/
  | coalesceExpiry (vec : BitVec 6)
  /-- DUMP_COMMAND (R529). Origin, context. -/
  | dumpCommand (oid : BitVec 10) (ctx : BitVec 6)
  /-- DUMP (R529). Whether the Heartwood firmware requests it; the ring banks and the sections whose clock is stopped. -/
  | dumpStart (fw : Bool) (banks : BitVec 7) (secs : BitVec 6)
  /-- DUMP_COMPLETE (R532). The duration of the dump in ns. -/
  | dumpComplete (ns : BitVec 32)
  /-- GLOBAL_RESET_RELEASE (R499). What the boot meets. -/
  | globalResetRelease (b : BootIn)
  /-- RX_FRAME_ERROR (R399). Controller and error. -/
  | rxFrameError (ctrl : Fin 8) (err : CanErr)
  /-- FUSE_PROGRAM_COMPLETE (R471). The bits that did not set in copies A, B and C. -/
  | fuseProgramComplete (a : BitVec 32) (b : BitVec 32) (c : BitVec 32)
  /-- HOST_LINK_L0 (R503). -/
  | hostLinkL0
  deriving DecidableEq, Repr

end Sys2Proof
end

