-- ==== Sys2Proof/Decode.lean ====
section
/-! DEFINITION. Commands from words: the table gives no bits to any row. -/

namespace Sys2Proof

/-- The command that a word spells by the table's bits. No row of spec/opcode_table.json gives bits, so no word spells one. -/
def decodeTableWord (_nbits _w : Nat) : Option Instr := none

end Sys2Proof
end

