-- ==== Sys2Proof/Config.lean ====
section
/-! DEFINITION. What an implementation fixes and the values the spec leaves open. -/

namespace Sys2Proof

/-- The `k`-th free value: nothing constrains it. A step that needs an open value reads it at the state's counter
and advances the counter (log entry 3). -/
opaque Config.freeValue : Nat → Nat

/-- The partial sum of a column when a weight tile loaded in one mode and group form, with its codes by key, is streamed in another form with the
given activation codes: the spec does not state it (R72, log entry 14). -/
opaque Config.mixedSum : Nat × Bool × List (Nat × Nat) → Nat × Bool → List Int → Nat → Nat

/-- Which of the places that R179 allows a page takes, and which free handle a sequence gets: the spec leaves both open, and the choice is the same in
the same state (R4, R184, log entry 15). -/
opaque Config.kvPick : List Nat → Nat

/-- Spare rows of a macro that the repair fuse words 40 to 127 hold: the spec refers for their format to a chapter that gives none (R310, R470,
log entry 76). -/
opaque Config.fusedRows : List Nat → Nat → Nat

/-- Soft post-package repairs that a stack offers after its initialisation (R311, R322): the spec gives no number (log entry 76). -/
opaque Config.pprAvail : Nat → Nat

/-- The read-only machine registers of a Bough core that the RISC-V specification leaves to the implementation and the spec does not give: `mvendorid`,
`marchid`, `mimpid` and `mconfigptr` by number, and the bits of the address-space identifier that `satp` holds (R453, log entry 113). -/
opaque Config.bghId : Nat → BitVec 64
opaque Config.bghAsid : BitVec 16

/-- The 64-bit signature that a good unit's quarantine job gives and every other constant that a given module holds
but the spec does not state is not needed: the commands carry the verdicts (log entry 11). The factory correction
of the time stamps of Ethernet port `p`, transmit in bits 15 to 0 and receive in bits 31 to 16 (R434, reset "Factory"). -/
opaque Config.factoryTscor : Nat → BitVec 32

end Sys2Proof
end

