-- ==== Sys2Proof/Machine/Flags.lean ====
section
/-! DEFINITION. The one integer arithmetic of the spec (03_integer_arithmetic.md): formats, helpers, flags, scales and
the 36-bit accumulation. Values are mathematical integers (R15). A helper that can set a flag answers the pair of its
value and the flags it sets. -/

namespace Sys2Proof.Machine

/-- A value and the flags its computation sets: bit 0 SAT, 1 DZ, 2 ACCF, 3 SCLR (R54). -/
abbrev Res := Int × BitVec 4

/-- No flag. -/
def fNone : BitVec 4 := 0
/-- SAT (R54). -/
def fSat : BitVec 4 := 1
/-- DZ (R54). -/
def fDz : BitVec 4 := 2
/-- ACCF (R54). -/
def fAccf : BitVec 4 := 4
/-- SCLR (R54). -/
def fSclr : BitVec 4 := 8

/-- Least value of a signed format of `w` bits (R48). -/
def smin (w : Nat) : Int := -(2 ^ (w - 1) : Nat)
/-- Greatest value of a signed format of `w` bits (R48). -/
def smax (w : Nat) : Int := (2 ^ (w - 1) : Nat) - 1
/-- Greatest value of an unsigned format of `w` bits (R48). -/
def umax (w : Nat) : Int := (2 ^ w : Nat) - 1

/-- Number of bits of `x`, 0 for 0 (R48). -/
def bitlen (x : Nat) : Nat := if x = 0 then 0 else Nat.log2 x + 1

/-- Signed saturation (R48). -/
def sat (x : Int) (w : Nat) : Res :=
  if x > smax w then (smax w, fSat) else if x < smin w then (smin w, fSat) else (x, fNone)

/-- Unsigned saturation (R48). -/
def usat (x : Int) (w : Nat) : Res :=
  if x > umax w then (umax w, fSat) else if x < 0 then (0, fSat) else (x, fNone)

/-- Modular, unsigned result (R48). -/
def uwrap (x : Int) (w : Nat) : Int := x % (2 ^ w : Nat)

/-- Modular, signed result (R48). -/
def wrap (x : Int) (w : Nat) : Int :=
  let u := uwrap x w
  if u > smax w then u - (2 ^ w : Nat) else u

/-- `x / 2^n` to nearest, ties to even (R48, R50). -/
def rne (x : Int) (n : Nat) : Int :=
  if n = 0 then x
  else
    let q := x / (2 ^ n : Nat)
    let r := x % (2 ^ n : Nat)
    let h : Int := (2 ^ (n - 1) : Nat)
    if r > h || (r = h && q % 2 = 1) then q + 1 else q

/-- Rounding right shift, saturated (R48). -/
def srshift (x : Int) (n w : Nat) : Res := sat (rne x n) w

/-- Arithmetic right shift: the floor (R48). -/
def asr (x : Int) (n : Nat) : Int := x / (2 ^ n : Nat)

/-- Logical right shift of the `w`-bit pattern (R48). -/
def lsr (x : Int) (n w : Nat) : Int := if n ≥ w then 0 else uwrap x w / (2 ^ n : Nat)

/-- Modular left shift (R48). -/
def lsl (x : Int) (n w : Nat) : Int := if n ≥ w then 0 else wrap (x * (2 ^ n : Nat)) w

/-- Saturating left shift (R48). -/
def ssl (x : Int) (n w : Nat) : Res :=
  if x = 0 then (0, fNone)
  else if n ≥ w then (if x > 0 then (smax w, fSat) else (smin w, fSat))
  else sat (x * (2 ^ n : Nat)) w

/-- Saturating negation (R48). -/
def negS (x : Int) (w : Nat) : Res := sat (-x) w

/-- Saturating absolute value (R48). -/
def absS (x : Int) (w : Nat) : Res := if x < 0 then sat (-x) w else (x, fNone)

/-- Quotient toward zero (R48). -/
def qdiv (a b : Int) (w : Nat) : Res :=
  if b = 0 then
    (if a > 0 then smax w else if a < 0 then smin w else 0, fDz)
  else sat (Int.tdiv a b) w

/-- Remainder with the sign of the dividend (R48). -/
def qrem (a b : Int) (_w : Nat) : Res :=
  if b = 0 then (0, fDz) else (a - b * Int.tdiv a b, fNone)

/-- Quotient to nearest, ties to even, before saturation, for a positive divisor. -/
def rdivPos (a b : Int) : Int :=
  let q := a / b
  let r := a - q * b
  if 2 * r > b || (2 * r = b && q % 2 = 1) then q + 1 else q

/-- Quotient to nearest, ties to even (R48). -/
def rdiv (a b : Int) (w : Nat) : Res :=
  if b = 0 then qdiv a b w
  else if b < 0 then sat (rdivPos (-a) (-b)) w
  else sat (rdivPos a b) w

/-- Fixed-point product (R48). -/
def qmul (a b : Int) (n w : Nat) : Res := sat (rne (a * b) n) w

/-- Apply the scale `m * 2^-e` (R48). -/
def rescale (x : Int) (m e w : Nat) : Res := sat (rne (x * m) e) w

/-- A scale: mantissa and right-shift count (R58). -/
structure Scale where
  m : Nat
  e : Nat
  deriving DecidableEq, Repr

/-- The scale a 32-bit word holds; bits 31 to 22 are ignored (R58). -/
def Scale.ofWord (w : Nat) : Scale := ⟨slice w 15 0, slice w 21 16⟩
/-- The 32-bit word of a scale (R58). -/
def Scale.toWord (s : Scale) : Nat := s.m % 2 ^ 16 + (s.e % 2 ^ 6) * 2 ^ 16

/-- A mantissa and exponent clamped into the scale word's range (the last two tests of `smul`, R59, and of QSCL, R148). -/
def clampScale (m : Int) (e : Int) : Scale × BitVec 4 :=
  if e > 63 then (⟨(rne m (e - 63).toNat).toNat, 63⟩, fSclr)
  else if e < 0 then (⟨(umax 16).toNat, 0⟩, fSclr)
  else (⟨m.toNat, e.toNat⟩, fNone)

/-- The product of two scales (R59). -/
def smul (a b : Scale) : Scale × BitVec 4 :=
  let p := a.m * b.m
  if p = 0 then (⟨0, 0⟩, fNone)
  else
    let k := bitlen p - 16
    let m := rne (p : Int) k
    if m = (2 ^ 16 : Nat) then clampScale ((2 ^ 15 : Nat) : Int) ((a.e : Int) + b.e - (k + 1 : Nat))
    else clampScale m ((a.e : Int) + b.e - k)

/-- Addition into a 36-bit accumulator element: it freezes at a rail (R64). -/
def accadd (v p : Int) : Res :=
  if v = smax 36 || v = smin 36 then (v, fNone)
  else
    let t := v + p
    if t ≥ smax 36 then (smax 36, fAccf)
    else if t ≤ smin 36 then (smin 36, fAccf)
    else (t, fNone)

/-- Is the 36-bit element frozen (R64)? -/
def accFrozen (v : Int) : Bool := v = smax 36 || v = smin 36

/-- A frozen element used in a later step gives the rail of the destination with SAT; any other value goes through `f` (R67). -/
def throughFreeze (v : Int) (w : Nat) (f : Int → Res) : Res :=
  if v = smax 36 then (smax w, fSat) else if v = smin 36 then (smin w, fSat) else f v

/-- The zero-point correction (R63). -/
def zeroCorr (acc z c zw s k : Int) : Res := sat (acc - z * c - zw * s + k * z * zw) 48

/-- Integer square root by binary digits: the greatest `x >= r` reachable with the lowest `k` bits and `x^2 <= n`. -/
def isqrtFrom (n : Nat) : Nat → Nat → Nat
  | 0, r => r
  | k + 1, r => if (r + 2 ^ k) * (r + 2 ^ k) ≤ n then isqrtFrom n k (r + 2 ^ k) else isqrtFrom n k r

/-- The integer nearest to `2^30 / sqrt a` for `a > 0` (R140): the greatest `r` with `r^2 * a <= 2^60` is its floor,
and the floor is rounded up when `(2 r + 1)^2 * a < 2^62`. -/
def rsqNearest (a : Nat) : Nat :=
  let r := isqrtFrom (2 ^ 60 / a) 31 0
  if (2 * r + 1) ^ 2 * a < 2 ^ 62 then r + 1 else r

/-- Reciprocal square root of a 32-bit lane (R140). -/
def vrsq (a : Int) : Res :=
  if a = 0 then (smax 32, fDz) else if a < 0 then (0, fDz) else (rsqNearest a.toNat, fNone)

/-- Bits of a wider two's complement pattern as a signed integer. -/
def sextN (x w : Nat) : Int := wrap (x : Int) w

end Sys2Proof.Machine
end

