-- ==== Sys2Proof/Machine/Operands.lean ====
section
/-! DEFINITION. The forms of Treik instruction words (R97, R98, R127): the word of every form, and the descriptors of tiles
(R120, R121). -/

namespace Sys2Proof.Machine

/-- Bits 63 to 52 of a word (R97). -/
def headWord (cls op : Nat) (pred : BitVec 3) (pn : Bool) : Nat :=
  cls * 2 ^ 60 + op * 2 ^ 56 + pred.toNat * 2 ^ 53 + ofBool pn * 2 ^ 52

/-- The word of form A (R98). -/
def wordA (op fn : Nat) (f : FormA) : Nat :=
  headWord 0 op f.pred f.pn + f.rd.toNat * 2 ^ 47 + f.ra.toNat * 2 ^ 42 + f.rb.toNat * 2 ^ 37 + f.rc.toNat * 2 ^ 32
    + fn * 2 ^ 24 + f.resv.toNat

/-- The word of form I with a given FN (R98). -/
def wordI (cls op fn : Nat) (f : FormI) : Nat :=
  headWord cls op f.pred f.pn + f.rd.toNat * 2 ^ 47 + f.ra.toNat * 2 ^ 42 + fn * 2 ^ 32 + f.imm.toNat

/-- The word of form G (R98). -/
def wordG (op : Nat) (f : FormG) : Nat :=
  headWord 4 op f.pred f.pn + f.q.toNat * 2 ^ 50 + ofBool f.g * 2 ^ 49 + f.core.toNat * 2 ^ 46 + f.ring.toNat * 2 ^ 36
    + f.rd.toNat * 2 ^ 31 + f.ra.toNat * 2 ^ 26 + f.resv.toNat * 2 ^ 16 + f.imm.toNat

/-- The word of form T (R98). -/
def wordT (op : Nat) (f : FormT) : Nat :=
  headWord 0xB op f.pred f.pn + f.rd.toNat * 2 ^ 47 + f.ra.toNat * 2 ^ 42 + f.rb.toNat * 2 ^ 37 + f.fn.toNat * 2 ^ 32 + f.imm.toNat

/-- The word of form D (R127). -/
def wordD (op : Nat) (f : FormD) : Nat :=
  headWord 5 op f.pred f.pn + ofBool f.eng * 2 ^ 51 + ofBool f.sig * 2 ^ 50 + f.ring.toNat * 2 ^ 42 + f.td.toNat * 2 ^ 37
    + f.ra.toNat * 2 ^ 32 + f.rb.toNat * 2 ^ 27 + f.burl.toNat * 2 ^ 25 + f.resv.toNat

/-- The word of form X (R127). -/
def wordX (op : Nat) (f : FormX) : Nat :=
  headWord 6 op f.pred f.pn + f.ta.toNat * 2 ^ 47 + f.ra.toNat * 2 ^ 42 + f.mode.toNat * 2 ^ 40 + ofBool f.grp * 2 ^ 39
    + ofBool f.acc * 2 ^ 38 + ofBool f.swp * 2 ^ 37 + f.tb.toNat * 2 ^ 32 + f.resv.toNat

/-- The word of form V (R127). -/
def wordV (cls op fn : Nat) (f : FormV) : Nat :=
  headWord cls op f.pred f.pn + f.vd.toNat * 2 ^ 46 + f.va.toNat * 2 ^ 40 + f.vb.toNat * 2 ^ 34 + f.vc.toNat * 2 ^ 28
    + fn * 2 ^ 22 + ofBool f.me * 2 ^ 21 + f.vm.toNat * 2 ^ 15 + f.rs.toNat * 2 ^ 10 + f.imm.toNat

/-- The word of form Q (R127). -/
def wordQ (op : Nat) (f : FormQ) : Nat :=
  headWord 9 op f.pred f.pn + f.td.toNat * 2 ^ 47 + f.vd.toNat * 2 ^ 41 + f.va.toNat * 2 ^ 35 + f.vb.toNat * 2 ^ 29
    + f.vc.toNat * 2 ^ 23 + f.vr.toNat * 2 ^ 17 + f.rs.toNat * 2 ^ 12 + f.ow.toNat * 2 ^ 10 + f.mod.toNat

/-! ### Tile descriptors (R120, R121) -/

/-- A tile descriptor, low half in bits 63 to 0. -/
abbrev Tile := BitVec 128

/-- BASE in bytes. -/
def Tile.base (t : Tile) : Nat := slice t.toNat 24 0
/-- Number of rows. -/
def Tile.rows (t : Tile) : Nat := slice t.toNat 47 32 + 1
/-- Row length in bytes. -/
def Tile.len (t : Tile) : Nat := 64 * (slice t.toNat 57 48 + 1)
/-- Element format. -/
def Tile.fmt (t : Tile) : Nat := slice t.toNat 61 58
/-- Distance between rows in bytes. -/
def Tile.stride (t : Tile) : Nat := 64 * slice t.toNat 82 64
/-- Scratchpad offset of row `i`. -/
def Tile.row (t : Tile) (i : Nat) : Nat := t.base + t.stride * i

/-- Is the 128-bit value a valid descriptor (R121)? -/
def Tile.valid (t : Tile) : Bool :=
  slice t.toNat 31 25 = 0 && slice t.toNat 63 62 = 0 && slice t.toNat 127 83 = 0 && slice t.toNat 5 0 = 0
    && t.fmt ≤ 8 && t.base + t.stride * (t.rows - 1) + t.len ≤ 0x1800000

/-- A descriptor with its low fields BASE and ROWSM1 replaced. -/
def Tile.withBaseRows (t : Tile) (base rowsm1 : Nat) : Tile :=
  BitVec.ofNat 128 (insertBits (insertBits t.toNat 24 0 base) 47 32 rowsm1)

/-- Bits of one element of a format (R45, R120): 64 for the accumulator image. -/
def fmtBits (fmt : Nat) : Nat :=
  match fmt with
  | 0 => 8 | 1 => 8 | 2 => 4 | 3 => 2 | 4 => 16 | 5 => 16 | 6 => 32 | 7 => 64 | _ => 32

end Sys2Proof.Machine
end

