-- ==== Sys2Proof/Machine/RegNames.lean ====
section
/-! DEFINITION. The names of the registers and of their fields: offsets in the register window of R27, from the register
tables of the spec's chapters (R43, R96, R199, R224, R256, R257, R281, R296, R321, R322, R343, R344, R366, R367, R388, R389,
R411, R433, R434, R452, R467, R486, R507, R535). -/

namespace Sys2Proof.Machine

/-- A field of a register: the register's offset in the window and the field's bits. -/
structure RegField where
  reg : Nat
  hi : Nat
  lo : Nat
  deriving DecidableEq, Repr

/-- `SYS_ID` (R43). -/
def Reg.SYS_ID : Nat := 0x0
/-- `SYS_ID.PART`. -/
def F.SYS_ID_PART : RegField := ⟨0x0, 15, 0⟩
/-- `SYS_ID.SUFFIX`. -/
def F.SYS_ID_SUFFIX : RegField := ⟨0x0, 31, 16⟩
/-- `SYS_STRICT` (R43). -/
def Reg.SYS_STRICT : Nat := 0x10
/-- `SYS_STRICT.STRICT`. -/
def F.SYS_STRICT_STRICT : RegField := ⟨0x10, 0, 0⟩
/-- `SYS_XPEN` (R43). -/
def Reg.SYS_XPEN : Nat := 0x20
/-- `SYS_XPEN.XPEN`. -/
def F.SYS_XPEN_XPEN : RegField := ⟨0x20, 26, 0⟩
/-- `SYS_COLLCNT_LO` (R43). -/
def Reg.SYS_COLLCNT_LO : Nat := 0x40
/-- `SYS_COLLCNT_LO.CNT_LO`. -/
def F.SYS_COLLCNT_LO_CNT_LO : RegField := ⟨0x40, 31, 0⟩
/-- `SYS_COLLCNT_HI` (R43). -/
def Reg.SYS_COLLCNT_HI : Nat := 0x44
/-- `SYS_COLLCNT_HI.CNT_HI`. -/
def F.SYS_COLLCNT_HI_CNT_HI : RegField := ⟨0x44, 31, 0⟩
/-- `SYS_ACCERR0` (R43). -/
def Reg.SYS_ACCERR0 : Nat := 0x50
/-- `SYS_ACCERR0.ADDR_LO`. -/
def F.SYS_ACCERR0_ADDR_LO : RegField := ⟨0x50, 31, 0⟩
/-- `SYS_ACCERR1` (R43). -/
def Reg.SYS_ACCERR1 : Nat := 0x54
/-- `SYS_ACCERR1.INFO`. -/
def F.SYS_ACCERR1_INFO : RegField := ⟨0x54, 31, 0⟩
/-- `SYS_ACCERR2` (R43). -/
def Reg.SYS_ACCERR2 : Nat := 0x58
/-- `SYS_ACCERR2.OID`. -/
def F.SYS_ACCERR2_OID : RegField := ⟨0x58, 9, 0⟩
/-- `SYS_ACCERR2.CTX`. -/
def F.SYS_ACCERR2_CTX : RegField := ⟨0x58, 15, 10⟩
/-- `SYS_ACCERR2.CODE`. -/
def F.SYS_ACCERR2_CODE : RegField := ⟨0x58, 31, 16⟩
/-- `SYS_ACCERRV` (R43). -/
def Reg.SYS_ACCERRV : Nat := 0x5C
/-- `SYS_ACCERRV.VALID`. -/
def F.SYS_ACCERRV_VALID : RegField := ⟨0x5C, 0, 0⟩
/-- `SYS_LOCK` (R43). -/
def Reg.SYS_LOCK : Nat := 0x7F0
/-- `SYS_LOCK.STRICT_LK`. -/
def F.SYS_LOCK_STRICT_LK : RegField := ⟨0x7F0, 0, 0⟩
/-- `SYS_LOCK.XPEN_LK`. -/
def F.SYS_LOCK_XPEN_LK : RegField := ⟨0x7F0, 1, 1⟩
/-- `CRN_STATE` (R96). -/
def Reg.CRN_STATE (u : Nat) : Nat := 0x100000 + 0x10000 * u
/-- `CRN_STATE.STATE`. -/
def F.CRN_STATE_STATE (u : Nat) : RegField := ⟨0x100000 + 0x10000 * u, 2, 0⟩
/-- `CRN_STATE.CTX`. -/
def F.CRN_STATE_CTX (u : Nat) : RegField := ⟨0x100000 + 0x10000 * u, 13, 8⟩
/-- `CRN_SPSIZE` (R96). -/
def Reg.CRN_SPSIZE (u : Nat) : Nat := 0x100004 + 0x10000 * u
/-- `CRN_SPSIZE.SIZE`. -/
def F.CRN_SPSIZE_SIZE (u : Nat) : RegField := ⟨0x100004 + 0x10000 * u, 31, 0⟩
/-- `CRN_PBASE` (R96). -/
def Reg.CRN_PBASE (u : Nat) : Nat := 0x100008 + 0x10000 * u
/-- `CRN_PBASE.BASE`. -/
def F.CRN_PBASE_BASE (u : Nat) : RegField := ⟨0x100008 + 0x10000 * u, 24, 6⟩
/-- `CRN_FLAGS` (R96). -/
def Reg.CRN_FLAGS (u : Nat) : Nat := 0x100010 + 0x10000 * u
/-- `CRN_FLAGS.SAT_DZ_ACCF_SCLR`. -/
def F.CRN_FLAGS_SAT_DZ_ACCF_SCLR (u : Nat) : RegField := ⟨0x100010 + 0x10000 * u, 3, 0⟩
/-- `CRN_ACCSTAT` (R96). -/
def Reg.CRN_ACCSTAT (u : Nat) : Nat := 0x100014 + 0x10000 * u
/-- `CRN_ACCSTAT.FROZEN`. -/
def F.CRN_ACCSTAT_FROZEN (u : Nat) : RegField := ⟨0x100014 + 0x10000 * u, 15, 0⟩
/-- `CRN_QSTAT` (R96). -/
def Reg.CRN_QSTAT (u : Nat) : Nat := 0x100018 + 0x10000 * u
/-- `CRN_QSTAT.DMA`. -/
def F.CRN_QSTAT_DMA (u : Nat) : RegField := ⟨0x100018 + 0x10000 * u, 4, 0⟩
/-- `CRN_QSTAT.ARRAY`. -/
def F.CRN_QSTAT_ARRAY (u : Nat) : RegField := ⟨0x100018 + 0x10000 * u, 11, 8⟩
/-- `CRN_QSTAT.TWIG`. -/
def F.CRN_QSTAT_TWIG (u : Nat) : RegField := ⟨0x100018 + 0x10000 * u, 20, 16⟩
/-- `CRN_QSTAT.SYNC`. -/
def F.CRN_QSTAT_SYNC (u : Nat) : RegField := ⟨0x100018 + 0x10000 * u, 27, 24⟩
/-- `CRN_CYC_LO` (R96). -/
def Reg.CRN_CYC_LO (u : Nat) : Nat := 0x100020 + 0x10000 * u
/-- `CRN_CYC_LO.CNT_LO`. -/
def F.CRN_CYC_LO_CNT_LO (u : Nat) : RegField := ⟨0x100020 + 0x10000 * u, 31, 0⟩
/-- `CRN_CYC_HI` (R96). -/
def Reg.CRN_CYC_HI (u : Nat) : Nat := 0x100024 + 0x10000 * u
/-- `CRN_CYC_HI.CNT_HI`. -/
def F.CRN_CYC_HI_CNT_HI (u : Nat) : RegField := ⟨0x100024 + 0x10000 * u, 31, 0⟩
/-- `CRN_ARRBUSY_LO` (R96). -/
def Reg.CRN_ARRBUSY_LO (u : Nat) : Nat := 0x100028 + 0x10000 * u
/-- `CRN_ARRBUSY_LO.CNT_LO`. -/
def F.CRN_ARRBUSY_LO_CNT_LO (u : Nat) : RegField := ⟨0x100028 + 0x10000 * u, 31, 0⟩
/-- `CRN_ARRBUSY_HI` (R96). -/
def Reg.CRN_ARRBUSY_HI (u : Nat) : Nat := 0x10002C + 0x10000 * u
/-- `CRN_ARRBUSY_HI.CNT_HI`. -/
def F.CRN_ARRBUSY_HI_CNT_HI (u : Nat) : RegField := ⟨0x10002C + 0x10000 * u, 31, 0⟩
/-- `CRN_BANKSTALL_LO` (R96). -/
def Reg.CRN_BANKSTALL_LO (u : Nat) : Nat := 0x100030 + 0x10000 * u
/-- `CRN_BANKSTALL_LO.CNT_LO`. -/
def F.CRN_BANKSTALL_LO_CNT_LO (u : Nat) : RegField := ⟨0x100030 + 0x10000 * u, 31, 0⟩
/-- `CRN_BANKSTALL_HI` (R96). -/
def Reg.CRN_BANKSTALL_HI (u : Nat) : Nat := 0x100034 + 0x10000 * u
/-- `CRN_BANKSTALL_HI.CNT_HI`. -/
def F.CRN_BANKSTALL_HI_CNT_HI (u : Nat) : RegField := ⟨0x100034 + 0x10000 * u, 31, 0⟩
/-- `CRN_ECCCNT` (R96). -/
def Reg.CRN_ECCCNT (u : Nat) : Nat := 0x100040 + 0x10000 * u
/-- `CRN_ECCCNT.CORR`. -/
def F.CRN_ECCCNT_CORR (u : Nat) : RegField := ⟨0x100040 + 0x10000 * u, 15, 0⟩
/-- `CRN_LOCK` (R96). -/
def Reg.CRN_LOCK (u : Nat) : Nat := 0x1007F0 + 0x10000 * u
/-- `CRN_LOCK.LOCK`. -/
def F.CRN_LOCK_LOCK (u : Nat) : RegField := ⟨0x1007F0 + 0x10000 * u, 0, 0⟩
/-- `CRN_STARVLIM` (R96). -/
def Reg.CRN_STARVLIM (u : Nat) : Nat := 0x100800 + 0x10000 * u
/-- `CRN_STARVLIM.LIMIT`. -/
def F.CRN_STARVLIM_LIMIT (u : Nat) : RegField := ⟨0x100800 + 0x10000 * u, 7, 0⟩
/-- `CRN_IDLEPAT` (R96). -/
def Reg.CRN_IDLEPAT (u : Nat) : Nat := 0x100804 + 0x10000 * u
/-- `CRN_IDLEPAT.HOLD`. -/
def F.CRN_IDLEPAT_HOLD (u : Nat) : RegField := ⟨0x100804 + 0x10000 * u, 0, 0⟩
/-- `KVP_CTRL` (R199). -/
def Reg.KVP_CTRL : Nat := 0x200000
/-- `KVP_CTRL.EN`. -/
def F.KVP_CTRL_EN : RegField := ⟨0x200000, 0, 0⟩
/-- `KVP_GEOM` (R199). -/
def Reg.KVP_GEOM : Nat := 0x200004
/-- `KVP_GEOM.DIM`. -/
def F.KVP_GEOM_DIM : RegField := ⟨0x200004, 0, 0⟩
/-- `KVP_GEOM.STRMM1`. -/
def F.KVP_GEOM_STRMM1 : RegField := ⟨0x200004, 10, 1⟩
/-- `KVP_CHUNKB` (R199). -/
def Reg.KVP_CHUNKB : Nat := 0x200008
/-- `KVP_CHUNKB.CB`. -/
def F.KVP_CHUNKB_CB : RegField := ⟨0x200008, 31, 0⟩
/-- `KVP_POOLBASE_LO` (R199). -/
def Reg.KVP_POOLBASE_LO : Nat := 0x200010
/-- `KVP_POOLBASE_LO.BASE_LO`. -/
def F.KVP_POOLBASE_LO_BASE_LO : RegField := ⟨0x200010, 31, 12⟩
/-- `KVP_POOLBASE_HI` (R199). -/
def Reg.KVP_POOLBASE_HI : Nat := 0x200014
/-- `KVP_POOLBASE_HI.BASE_HI`. -/
def F.KVP_POOLBASE_HI_BASE_HI : RegField := ⟨0x200014, 15, 0⟩
/-- `KVP_POOLCH` (R199). -/
def Reg.KVP_POOLCH : Nat := 0x200018
/-- `KVP_POOLCH.CHUNKS`. -/
def F.KVP_POOLCH_CHUNKS : RegField := ⟨0x200018, 18, 0⟩
/-- `KVP_FREECH` (R199). -/
def Reg.KVP_FREECH : Nat := 0x20001C
/-- `KVP_FREECH.FREE`. -/
def F.KVP_FREECH_FREE : RegField := ⟨0x20001C, 18, 0⟩
/-- `KVP_WAITLIM` (R199). -/
def Reg.KVP_WAITLIM : Nat := 0x200020
/-- `KVP_WAITLIM.LIMIT`. -/
def F.KVP_WAITLIM_LIMIT : RegField := ⟨0x200020, 19, 0⟩
/-- `KVP_LOWMARK` (R199). -/
def Reg.KVP_LOWMARK : Nat := 0x200024
/-- `KVP_LOWMARK.MARK`. -/
def F.KVP_LOWMARK_MARK : RegField := ⟨0x200024, 18, 0⟩
/-- `KVP_SEQUSED` (R199). -/
def Reg.KVP_SEQUSED : Nat := 0x200028
/-- `KVP_SEQUSED.USED`. -/
def F.KVP_SEQUSED_USED : RegField := ⟨0x200028, 12, 0⟩
/-- `KVP_CQn_BASE_LO` (R199). -/
def Reg.KVP_CQ_BASE_LO (n : Nat) : Nat := 0x200100 + 0x10 * n
/-- `KVP_CQn_BASE_LO.BASE_LO`. -/
def F.KVP_CQ_BASE_LO_BASE_LO (n : Nat) : RegField := ⟨0x200100 + 0x10 * n, 31, 6⟩
/-- `KVP_CQn_BASE_HI` (R199). -/
def Reg.KVP_CQ_BASE_HI (n : Nat) : Nat := 0x200104 + 0x10 * n
/-- `KVP_CQn_BASE_HI.BASE_HI`. -/
def F.KVP_CQ_BASE_HI_BASE_HI (n : Nat) : RegField := ⟨0x200104 + 0x10 * n, 15, 0⟩
/-- `KVP_CQn_CFG` (R199). -/
def Reg.KVP_CQ_CFG (n : Nat) : Nat := 0x200108 + 0x10 * n
/-- `KVP_CQn_CFG.QSZ`. -/
def F.KVP_CQ_CFG_QSZ (n : Nat) : RegField := ⟨0x200108 + 0x10 * n, 3, 0⟩
/-- `KVP_CQn_CFG.EN`. -/
def F.KVP_CQ_CFG_EN (n : Nat) : RegField := ⟨0x200108 + 0x10 * n, 4, 4⟩
/-- `KVP_CQn_CFG.DBRING`. -/
def F.KVP_CQ_CFG_DBRING (n : Nat) : RegField := ⟨0x200108 + 0x10 * n, 14, 5⟩
/-- `KVP_CQn_QUOTA` (R199). -/
def Reg.KVP_CQ_QUOTA (n : Nat) : Nat := 0x20010C + 0x10 * n
/-- `KVP_CQn_QUOTA.MIN16`. -/
def F.KVP_CQ_QUOTA_MIN16 (n : Nat) : RegField := ⟨0x20010C + 0x10 * n, 13, 0⟩
/-- `KVP_CQn_QUOTA.MAX16`. -/
def F.KVP_CQ_QUOTA_MAX16 (n : Nat) : RegField := ⟨0x20010C + 0x10 * n, 29, 16⟩
/-- `KVP_CQn_HEAD` (R199). -/
def Reg.KVP_CQ_HEAD (n : Nat) : Nat := 0x200500 + 0x4 * n
/-- `KVP_CQn_HEAD.HEAD`. -/
def F.KVP_CQ_HEAD_HEAD (n : Nat) : RegField := ⟨0x200500 + 0x4 * n, 31, 0⟩
/-- `KVP_CQn_USED` (R199). -/
def Reg.KVP_CQ_USED (n : Nat) : Nat := 0x200600 + 0x4 * n
/-- `KVP_CQn_USED.USED`. -/
def F.KVP_CQ_USED_USED (n : Nat) : RegField := ⟨0x200600 + 0x4 * n, 18, 0⟩
/-- `KVP_LOCK` (R199). -/
def Reg.KVP_LOCK : Nat := 0x2007F0
/-- `KVP_LOCK.LOCK`. -/
def F.KVP_LOCK_LOCK : RegField := ⟨0x2007F0, 0, 0⟩
/-- `KVP_ARB` (R199). -/
def Reg.KVP_ARB : Nat := 0x200800
/-- `KVP_ARB.RR`. -/
def F.KVP_ARB_RR : RegField := ⟨0x200800, 0, 0⟩
/-- `KVP_SUBPACK` (R199). -/
def Reg.KVP_SUBPACK : Nat := 0x200804
/-- `KVP_SUBPACK.PACK`. -/
def F.KVP_SUBPACK_PACK : RegField := ⟨0x200804, 0, 0⟩
/-- `SPL_STATE` (R224). -/
def Reg.SPL_STATE : Nat := 0x210000
/-- `SPL_STATE.STATE`. -/
def F.SPL_STATE_STATE : RegField := ⟨0x210000, 2, 0⟩
/-- `SPL_STATE.CTX`. -/
def F.SPL_STATE_CTX : RegField := ⟨0x210000, 13, 8⟩
/-- `SPL_DESC_LO` (R224). -/
def Reg.SPL_DESC_LO : Nat := 0x210008
/-- `SPL_DESC_LO.ADDR_LO`. -/
def F.SPL_DESC_LO_ADDR_LO : RegField := ⟨0x210008, 31, 0⟩
/-- `SPL_DESC_HI` (R224). -/
def Reg.SPL_DESC_HI : Nat := 0x21000C
/-- `SPL_DESC_HI.ADDR_HI`. -/
def F.SPL_DESC_HI_ADDR_HI : RegField := ⟨0x21000C, 15, 0⟩
/-- `SPL_FLAGS` (R224). -/
def Reg.SPL_FLAGS : Nat := 0x210010
/-- `SPL_FLAGS.SAT_DZ_ACCF_SCLR`. -/
def F.SPL_FLAGS_SAT_DZ_ACCF_SCLR : RegField := ⟨0x210010, 3, 0⟩
/-- `SPL_CYC_LO` (R224). -/
def Reg.SPL_CYC_LO : Nat := 0x210020
/-- `SPL_CYC_LO.CNT_LO`. -/
def F.SPL_CYC_LO_CNT_LO : RegField := ⟨0x210020, 31, 0⟩
/-- `SPL_CYC_HI` (R224). -/
def Reg.SPL_CYC_HI : Nat := 0x210024
/-- `SPL_CYC_HI.CNT_HI`. -/
def F.SPL_CYC_HI_CNT_HI : RegField := ⟨0x210024, 31, 0⟩
/-- `SPL_BUSY_LO` (R224). -/
def Reg.SPL_BUSY_LO : Nat := 0x210028
/-- `SPL_BUSY_LO.CNT_LO`. -/
def F.SPL_BUSY_LO_CNT_LO : RegField := ⟨0x210028, 31, 0⟩
/-- `SPL_BUSY_HI` (R224). -/
def Reg.SPL_BUSY_HI : Nat := 0x21002C
/-- `SPL_BUSY_HI.CNT_HI`. -/
def F.SPL_BUSY_HI_CNT_HI : RegField := ⟨0x21002C, 31, 0⟩
/-- `SPL_DONE_LO` (R224). -/
def Reg.SPL_DONE_LO : Nat := 0x210030
/-- `SPL_DONE_LO.CNT_LO`. -/
def F.SPL_DONE_LO_CNT_LO : RegField := ⟨0x210030, 31, 0⟩
/-- `SPL_DONE_HI` (R224). -/
def Reg.SPL_DONE_HI : Nat := 0x210034
/-- `SPL_DONE_HI.CNT_HI`. -/
def F.SPL_DONE_HI_CNT_HI : RegField := ⟨0x210034, 31, 0⟩
/-- `SPL_ECCCNT` (R224). -/
def Reg.SPL_ECCCNT : Nat := 0x210040
/-- `SPL_ECCCNT.CORR`. -/
def F.SPL_ECCCNT_CORR : RegField := ⟨0x210040, 15, 0⟩
/-- `SPL_LOCK` (R224). -/
def Reg.SPL_LOCK : Nat := 0x2107F0
/-- `SPL_LOCK.LOCK`. -/
def F.SPL_LOCK_LOCK : RegField := ⟨0x2107F0, 0, 0⟩
/-- `SPL_IDLEPAT` (R224). -/
def Reg.SPL_IDLEPAT : Nat := 0x210800
/-- `SPL_IDLEPAT.HOLD`. -/
def F.SPL_IDLEPAT_HOLD : RegField := ⟨0x210800, 0, 0⟩
/-- `SDB_CTRL` (R256). -/
def Reg.SDB_CTRL : Nat := 0x220000
/-- `SDB_CTRL.EN`. -/
def F.SDB_CTRL_EN : RegField := ⟨0x220000, 0, 0⟩
/-- `SDB_STRn_CTRL` (R256). -/
def Reg.SDB_STR_CTRL (n : Nat) : Nat := 0x220100 + 0x20 * n
/-- `SDB_STRn_CTRL.EN`. -/
def F.SDB_STR_CTRL_EN (n : Nat) : RegField := ⟨0x220100 + 0x20 * n, 0, 0⟩
/-- `SDB_STRn_STAT` (R256). -/
def Reg.SDB_STR_STAT (n : Nat) : Nat := 0x220104 + 0x20 * n
/-- `SDB_STRn_STAT.TPBAD`. -/
def F.SDB_STR_STAT_TPBAD (n : Nat) : RegField := ⟨0x220104 + 0x20 * n, 0, 0⟩
/-- `SDB_STRn_STAT.STUCK`. -/
def F.SDB_STR_STAT_STUCK (n : Nat) : RegField := ⟨0x220104 + 0x20 * n, 1, 1⟩
/-- `SDB_STRn_ADM` (R256). -/
def Reg.SDB_STR_ADM (n : Nat) : Nat := 0x220108 + 0x20 * n
/-- `SDB_STRn_ADM.CNT`. -/
def F.SDB_STR_ADM_CNT (n : Nat) : RegField := ⟨0x220108 + 0x20 * n, 31, 0⟩
/-- `SDB_STRn_EMIT` (R256). -/
def Reg.SDB_STR_EMIT (n : Nat) : Nat := 0x22010C + 0x20 * n
/-- `SDB_STRn_EMIT.CNT`. -/
def F.SDB_STR_EMIT_CNT (n : Nat) : RegField := ⟨0x22010C + 0x20 * n, 31, 0⟩
/-- `SDB_STRn_FAIL` (R256). -/
def Reg.SDB_STR_FAIL (n : Nat) : Nat := 0x220110 + 0x20 * n
/-- `SDB_STRn_FAIL.CNT`. -/
def F.SDB_STR_FAIL_CNT (n : Nat) : RegField := ⟨0x220110 + 0x20 * n, 31, 0⟩
/-- `SDB_STRn_RECWR` (R256). -/
def Reg.SDB_STR_RECWR (n : Nat) : Nat := 0x220114 + 0x20 * n
/-- `SDB_STRn_RECWR.CNT`. -/
def F.SDB_STR_RECWR_CNT (n : Nat) : RegField := ⟨0x220114 + 0x20 * n, 31, 0⟩
/-- `SDB_STRn_FCNT` (R256). -/
def Reg.SDB_STR_FCNT (n : Nat) : Nat := 0x220118 + 0x20 * n
/-- `SDB_STRn_FCNT.CNT`. -/
def F.SDB_STR_FCNT_CNT (n : Nat) : RegField := ⟨0x220118 + 0x20 * n, 31, 0⟩
/-- `SDB_STRn_HEAD` (R256). -/
def Reg.SDB_STR_HEAD (n : Nat) : Nat := 0x22011C + 0x20 * n
/-- `SDB_STRn_HEAD.CNT`. -/
def F.SDB_STR_HEAD_CNT (n : Nat) : RegField := ⟨0x22011C + 0x20 * n, 31, 0⟩
/-- `SDB_TPABN` (R256). -/
def Reg.SDB_TPABN : Nat := 0x220300
/-- `SDB_TPABN.CNT`. -/
def F.SDB_TPABN_CNT : RegField := ⟨0x220300, 31, 0⟩
/-- `SDB_LOCK` (R256). -/
def Reg.SDB_LOCK : Nat := 0x2207F0
/-- `SDB_LOCK.LOCK`. -/
def F.SDB_LOCK_LOCK : RegField := ⟨0x2207F0, 0, 0⟩
/-- `SDB_GUARDOVR` (R256). -/
def Reg.SDB_GUARDOVR : Nat := 0x220800
/-- `SDB_GUARDOVR.NOWH`. -/
def F.SDB_GUARDOVR_NOWH : RegField := ⟨0x220800, 0, 0⟩
/-- `CSI_CTRL` (R257). -/
def Reg.CSI_CTRL (u : Nat) : Nat := 0x230000 + 0x1000 * u
/-- `CSI_CTRL.EN`. -/
def F.CSI_CTRL_EN (u : Nat) : RegField := ⟨0x230000 + 0x1000 * u, 0, 0⟩
/-- `CSI_CTRL.LANES`. -/
def F.CSI_CTRL_LANES (u : Nat) : RegField := ⟨0x230000 + 0x1000 * u, 2, 1⟩
/-- `CSI_STAT` (R257). -/
def Reg.CSI_STAT (u : Nat) : Nat := 0x230004 + 0x1000 * u
/-- `CSI_STAT.HS`. -/
def F.CSI_STAT_HS (u : Nat) : RegField := ⟨0x230004 + 0x1000 * u, 0, 0⟩
/-- `CSI_STAT.ULPS`. -/
def F.CSI_STAT_ULPS (u : Nat) : RegField := ⟨0x230004 + 0x1000 * u, 1, 1⟩
/-- `CSI_STAT.INFRAME`. -/
def F.CSI_STAT_INFRAME (u : Nat) : RegField := ⟨0x230004 + 0x1000 * u, 2, 2⟩
/-- `CSI_HDRERR` (R257). -/
def Reg.CSI_HDRERR (u : Nat) : Nat := 0x230008 + 0x1000 * u
/-- `CSI_HDRERR.ECCCOR`. -/
def F.CSI_HDRERR_ECCCOR (u : Nat) : RegField := ⟨0x230008 + 0x1000 * u, 15, 0⟩
/-- `CSI_HDRERR.ECCUNC`. -/
def F.CSI_HDRERR_ECCUNC (u : Nat) : RegField := ⟨0x230008 + 0x1000 * u, 31, 16⟩
/-- `CSI_PAYERR` (R257). -/
def Reg.CSI_PAYERR (u : Nat) : Nat := 0x23000C + 0x1000 * u
/-- `CSI_PAYERR.CRCERR`. -/
def F.CSI_PAYERR_CRCERR (u : Nat) : RegField := ⟨0x23000C + 0x1000 * u, 15, 0⟩
/-- `CSI_PAYERR.VCDROP`. -/
def F.CSI_PAYERR_VCDROP (u : Nat) : RegField := ⟨0x23000C + 0x1000 * u, 31, 16⟩
/-- `CSI_FRAMES` (R257). -/
def Reg.CSI_FRAMES (u : Nat) : Nat := 0x230010 + 0x1000 * u
/-- `CSI_FRAMES.CNT`. -/
def F.CSI_FRAMES_CNT (u : Nat) : RegField := ⟨0x230010 + 0x1000 * u, 31, 0⟩
/-- `CSI_LOCK` (R257). -/
def Reg.CSI_LOCK (u : Nat) : Nat := 0x2307F0 + 0x1000 * u
/-- `CSI_LOCK.LOCK`. -/
def F.CSI_LOCK_LOCK (u : Nat) : RegField := ⟨0x2307F0 + 0x1000 * u, 0, 0⟩
/-- `CSI_TRIM` (R257). -/
def Reg.CSI_TRIM (u : Nat) : Nat := 0x230800 + 0x1000 * u
/-- `CSI_TRIM.TRIM`. -/
def F.CSI_TRIM_TRIM (u : Nat) : RegField := ⟨0x230800 + 0x1000 * u, 5, 0⟩
/-- `CSI_TRIM.MAN`. -/
def F.CSI_TRIM_MAN (u : Nat) : RegField := ⟨0x230800 + 0x1000 * u, 6, 6⟩
/-- `SCH_CTRL` (R281). -/
def Reg.SCH_CTRL : Nat := 0x30000
/-- `SCH_CTRL.EN`. -/
def F.SCH_CTRL_EN : RegField := ⟨0x30000, 0, 0⟩
/-- `SCH_UNITCMD` (R281). -/
def Reg.SCH_UNITCMD : Nat := 0x30004
/-- `SCH_UNITCMD.UNIT`. -/
def F.SCH_UNITCMD_UNIT : RegField := ⟨0x30004, 2, 0⟩
/-- `SCH_UNITCMD.READMIT`. -/
def F.SCH_UNITCMD_READMIT : RegField := ⟨0x30004, 8, 8⟩
/-- `SCH_UNITCMD.ADMIT`. -/
def F.SCH_UNITCMD_ADMIT : RegField := ⟨0x30004, 9, 9⟩
/-- `SCH_UNITCMD.RETIRE`. -/
def F.SCH_UNITCMD_RETIRE : RegField := ⟨0x30004, 10, 10⟩
/-- `SCH_UNITSTAT` (R281). -/
def Reg.SCH_UNITSTAT : Nat := 0x30008
/-- `SCH_UNITSTAT.INSVC`. -/
def F.SCH_UNITSTAT_INSVC : RegField := ⟨0x30008, 5, 0⟩
/-- `SCH_UNITSTAT.SPLINSVC`. -/
def F.SCH_UNITSTAT_SPLINSVC : RegField := ⟨0x30008, 6, 6⟩
/-- `SCH_UNITSTAT.LOST`. -/
def F.SCH_UNITSTAT_LOST : RegField := ⟨0x30008, 13, 8⟩
/-- `SCH_UNITSTAT.SPLLOST`. -/
def F.SCH_UNITSTAT_SPLLOST : RegField := ⟨0x30008, 14, 14⟩
/-- `SCH_OWN_ADDR_LO` (R281). -/
def Reg.SCH_OWN_ADDR_LO : Nat := 0x30010
/-- `SCH_OWN_ADDR_LO.ADDR_LO`. -/
def F.SCH_OWN_ADDR_LO_ADDR_LO : RegField := ⟨0x30010, 31, 12⟩
/-- `SCH_OWN_ADDR_HI` (R281). -/
def Reg.SCH_OWN_ADDR_HI : Nat := 0x30014
/-- `SCH_OWN_ADDR_HI.ADDR_HI`. -/
def F.SCH_OWN_ADDR_HI_ADDR_HI : RegField := ⟨0x30014, 15, 0⟩
/-- `SCH_OWN_LEN` (R281). -/
def Reg.SCH_OWN_LEN : Nat := 0x30018
/-- `SCH_OWN_LEN.LEN`. -/
def F.SCH_OWN_LEN_LEN : RegField := ⟨0x30018, 17, 0⟩
/-- `SCH_OWN_CMD` (R281). -/
def Reg.SCH_OWN_CMD : Nat := 0x3001C
/-- `SCH_OWN_CMD.CTX`. -/
def F.SCH_OWN_CMD_CTX : RegField := ⟨0x3001C, 5, 0⟩
/-- `SCH_OWN_CMD.HOST`. -/
def F.SCH_OWN_CMD_HOST : RegField := ⟨0x3001C, 6, 6⟩
/-- `SCH_OWN_CMD.GO`. -/
def F.SCH_OWN_CMD_GO : RegField := ⟨0x3001C, 7, 7⟩
/-- `SCH_OWN_STAT` (R281). -/
def Reg.SCH_OWN_STAT : Nat := 0x30020
/-- `SCH_OWN_STAT.BUSY`. -/
def F.SCH_OWN_STAT_BUSY : RegField := ⟨0x30020, 0, 0⟩
/-- `SCH_OWN_STAT.ERR`. -/
def F.SCH_OWN_STAT_ERR : RegField := ⟨0x30020, 1, 1⟩
/-- `SCH_LOCK` (R281). -/
def Reg.SCH_LOCK : Nat := 0x307F0
/-- `SCH_LOCK.LOCK`. -/
def F.SCH_LOCK_LOCK : RegField := ⟨0x307F0, 0, 0⟩
/-- `SCH_STOPLIM` (R281). -/
def Reg.SCH_STOPLIM : Nat := 0x30800
/-- `SCH_STOPLIM.LIMIT`. -/
def F.SCH_STOPLIM_LIMIT : RegField := ⟨0x30800, 7, 0⟩
/-- `SCH_CTXn_QBASE_LO` (R281). -/
def Reg.SCH_CTX_QBASE_LO (n : Nat) : Nat := 0x31000 + 0x20 * n
/-- `SCH_CTXn_QBASE_LO.BASE_LO`. -/
def F.SCH_CTX_QBASE_LO_BASE_LO (n : Nat) : RegField := ⟨0x31000 + 0x20 * n, 31, 8⟩
/-- `SCH_CTXn_QBASE_HI` (R281). -/
def Reg.SCH_CTX_QBASE_HI (n : Nat) : Nat := 0x31004 + 0x20 * n
/-- `SCH_CTXn_QBASE_HI.BASE_HI`. -/
def F.SCH_CTX_QBASE_HI_BASE_HI (n : Nat) : RegField := ⟨0x31004 + 0x20 * n, 15, 0⟩
/-- `SCH_CTXn_CFG` (R281). -/
def Reg.SCH_CTX_CFG (n : Nat) : Nat := 0x31008 + 0x20 * n
/-- `SCH_CTXn_CFG.QSZ`. -/
def F.SCH_CTX_CFG_QSZ (n : Nat) : RegField := ⟨0x31008 + 0x20 * n, 3, 0⟩
/-- `SCH_CTXn_CFG.EN`. -/
def F.SCH_CTX_CFG_EN (n : Nat) : RegField := ⟨0x31008 + 0x20 * n, 4, 4⟩
/-- `SCH_CTXn_CFG.PRIO`. -/
def F.SCH_CTX_CFG_PRIO (n : Nat) : RegField := ⟨0x31008 + 0x20 * n, 6, 5⟩
/-- `SCH_CTXn_CFG.SAFE`. -/
def F.SCH_CTX_CFG_SAFE (n : Nat) : RegField := ⟨0x31008 + 0x20 * n, 7, 7⟩
/-- `SCH_CTXn_CFG.VEC`. -/
def F.SCH_CTX_CFG_VEC (n : Nat) : RegField := ⟨0x31008 + 0x20 * n, 13, 8⟩
/-- `SCH_CTXn_CFG.SHARE`. -/
def F.SCH_CTX_CFG_SHARE (n : Nat) : RegField := ⟨0x31008 + 0x20 * n, 21, 14⟩
/-- `SCH_CTXn_TAIL` (R281). -/
def Reg.SCH_CTX_TAIL (n : Nat) : Nat := 0x3100C + 0x20 * n
/-- `SCH_CTXn_TAIL.TAIL`. -/
def F.SCH_CTX_TAIL_TAIL (n : Nat) : RegField := ⟨0x3100C + 0x20 * n, 31, 0⟩
/-- `SCH_CTXn_HEAD` (R281). -/
def Reg.SCH_CTX_HEAD (n : Nat) : Nat := 0x31010 + 0x20 * n
/-- `SCH_CTXn_HEAD.HEAD`. -/
def F.SCH_CTX_HEAD_HEAD (n : Nat) : RegField := ⟨0x31010 + 0x20 * n, 31, 0⟩
/-- `SCH_CTXn_STAT` (R281). -/
def Reg.SCH_CTX_STAT (n : Nat) : Nat := 0x31014 + 0x20 * n
/-- `SCH_CTXn_STAT.STATE`. -/
def F.SCH_CTX_STAT_STATE (n : Nat) : RegField := ⟨0x31014 + 0x20 * n, 1, 0⟩
/-- `SCH_CTXn_STAT.CAUSE`. -/
def F.SCH_CTX_STAT_CAUSE (n : Nat) : RegField := ⟨0x31014 + 0x20 * n, 31, 16⟩
/-- `SCH_CTXn_CMD` (R281). -/
def Reg.SCH_CTX_CMD (n : Nat) : Nat := 0x31018 + 0x20 * n
/-- `SCH_CTXn_CMD.TEARDOWN`. -/
def F.SCH_CTX_CMD_TEARDOWN (n : Nat) : RegField := ⟨0x31018 + 0x20 * n, 0, 0⟩
/-- `SCH_CTXn_CMD.ACK`. -/
def F.SCH_CTX_CMD_ACK (n : Nat) : RegField := ⟨0x31018 + 0x20 * n, 1, 1⟩
/-- `SCH_CTXn_CMD.VTRESET`. -/
def F.SCH_CTX_CMD_VTRESET (n : Nat) : RegField := ⟨0x31018 + 0x20 * n, 2, 2⟩
/-- `SCH_CTXn_DONE` (R281). -/
def Reg.SCH_CTX_DONE (n : Nat) : Nat := 0x3101C + 0x20 * n
/-- `SCH_CTXn_DONE.DONE`. -/
def F.SCH_CTX_DONE_DONE (n : Nat) : RegField := ⟨0x3101C + 0x20 * n, 31, 0⟩
/-- `SCH_CTXn_CBASE_LO` (R281). -/
def Reg.SCH_CTX_CBASE_LO (n : Nat) : Nat := 0x32000 + 0x20 * n
/-- `SCH_CTXn_CBASE_LO.CQSZ`. -/
def F.SCH_CTX_CBASE_LO_CQSZ (n : Nat) : RegField := ⟨0x32000 + 0x20 * n, 3, 0⟩
/-- `SCH_CTXn_CBASE_LO.BASE_LO`. -/
def F.SCH_CTX_CBASE_LO_BASE_LO (n : Nat) : RegField := ⟨0x32000 + 0x20 * n, 31, 6⟩
/-- `SCH_CTXn_CBASE_HI` (R281). -/
def Reg.SCH_CTX_CBASE_HI (n : Nat) : Nat := 0x32004 + 0x20 * n
/-- `SCH_CTXn_CBASE_HI.BASE_HI`. -/
def F.SCH_CTX_CBASE_HI_BASE_HI (n : Nat) : RegField := ⟨0x32004 + 0x20 * n, 15, 0⟩
/-- `SCH_CTXn_SPROUT_LO` (R281). -/
def Reg.SCH_CTX_SPROUT_LO (n : Nat) : Nat := 0x32008 + 0x20 * n
/-- `SCH_CTXn_SPROUT_LO.VALID`. -/
def F.SCH_CTX_SPROUT_LO_VALID (n : Nat) : RegField := ⟨0x32008 + 0x20 * n, 0, 0⟩
/-- `SCH_CTXn_SPROUT_LO.ADDR_LO`. -/
def F.SCH_CTX_SPROUT_LO_ADDR_LO (n : Nat) : RegField := ⟨0x32008 + 0x20 * n, 31, 8⟩
/-- `SCH_CTXn_SPROUT_HI` (R281). -/
def Reg.SCH_CTX_SPROUT_HI (n : Nat) : Nat := 0x3200C + 0x20 * n
/-- `SCH_CTXn_SPROUT_HI.ADDR_HI`. -/
def F.SCH_CTX_SPROUT_HI_ADDR_HI (n : Nat) : RegField := ⟨0x3200C + 0x20 * n, 15, 0⟩
/-- `SCH_CTXn_SPRBUD` (R281). -/
def Reg.SCH_CTX_SPRBUD (n : Nat) : Nat := 0x32010 + 0x20 * n
/-- `SCH_CTXn_SPRBUD.BUDGET`. -/
def F.SCH_CTX_SPRBUD_BUDGET (n : Nat) : RegField := ⟨0x32010 + 0x20 * n, 19, 0⟩
/-- `SCH_CTXn_MISS` (R281). -/
def Reg.SCH_CTX_MISS (n : Nat) : Nat := 0x32014 + 0x20 * n
/-- `SCH_CTXn_MISS.MISS`. -/
def F.SCH_CTX_MISS_MISS (n : Nat) : RegField := ⟨0x32014 + 0x20 * n, 15, 0⟩
/-- `SCH_CTXn_MISS.SWITCH`. -/
def F.SCH_CTX_MISS_SWITCH (n : Nat) : RegField := ⟨0x32014 + 0x20 * n, 31, 16⟩
/-- `SCH_CTXn_CHG_LO` (R281). -/
def Reg.SCH_CTX_CHG_LO (n : Nat) : Nat := 0x32018 + 0x20 * n
/-- `SCH_CTXn_CHG_LO.CNT_LO`. -/
def F.SCH_CTX_CHG_LO_CNT_LO (n : Nat) : RegField := ⟨0x32018 + 0x20 * n, 31, 0⟩
/-- `SCH_CTXn_CHG_HI` (R281). -/
def Reg.SCH_CTX_CHG_HI (n : Nat) : Nat := 0x3201C + 0x20 * n
/-- `SCH_CTXn_CHG_HI.CNT_HI`. -/
def F.SCH_CTX_CHG_HI_CNT_HI (n : Nat) : RegField := ⟨0x3201C + 0x20 * n, 31, 0⟩
/-- `SCH_CTXn_VT_LO` (R281). -/
def Reg.SCH_CTX_VT_LO (n : Nat) : Nat := 0x33000 + 0x10 * n
/-- `SCH_CTXn_VT_LO.VT_LO`. -/
def F.SCH_CTX_VT_LO_VT_LO (n : Nat) : RegField := ⟨0x33000 + 0x10 * n, 31, 0⟩
/-- `SCH_CTXn_VT_HI` (R281). -/
def Reg.SCH_CTX_VT_HI (n : Nat) : Nat := 0x33004 + 0x10 * n
/-- `SCH_CTXn_VT_HI.VT_HI`. -/
def F.SCH_CTX_VT_HI_VT_HI (n : Nat) : RegField := ⟨0x33004 + 0x10 * n, 31, 0⟩
/-- `CRN_RINGr` (R296). -/
def Reg.CRN_RING (u : Nat) (r : Nat) : Nat := 0x101000 + 0x10000 * u + 0x4 * r
/-- `CRN_RINGr.VAL`. -/
def F.CRN_RING_VAL (u : Nat) (r : Nat) : RegField := ⟨0x101000 + 0x10000 * u + 0x4 * r, 31, 0⟩
/-- `CRN_RSIGr` (R296). -/
def Reg.CRN_RSIG (u : Nat) (r : Nat) : Nat := 0x101400 + 0x10000 * u + 0x4 * r
/-- `CRN_RSIGr.INC`. -/
def F.CRN_RSIG_INC (u : Nat) (r : Nat) : RegField := ⟨0x101400 + 0x10000 * u + 0x4 * r, 15, 0⟩
/-- `GRN_CTRL` (R296). -/
def Reg.GRN_CTRL : Nat := 0x2C0000
/-- `GRN_CTRL.EN`. -/
def F.GRN_CTRL_EN : RegField := ⟨0x2C0000, 0, 0⟩
/-- `GRN_SEALWAIT` (R296). -/
def Reg.GRN_SEALWAIT : Nat := 0x2C0004
/-- `GRN_SEALWAIT.LIMIT`. -/
def F.GRN_SEALWAIT_LIMIT : RegField := ⟨0x2C0004, 7, 0⟩
/-- `GRN_DIRTY_LO` (R296). -/
def Reg.GRN_DIRTY_LO : Nat := 0x2C0010
/-- `GRN_DIRTY_LO.CNT_LO`. -/
def F.GRN_DIRTY_LO_CNT_LO : RegField := ⟨0x2C0010, 31, 0⟩
/-- `GRN_DIRTY_HI` (R296). -/
def Reg.GRN_DIRTY_HI : Nat := 0x2C0014
/-- `GRN_DIRTY_HI.CNT_HI`. -/
def F.GRN_DIRTY_HI_CNT_HI : RegField := ⟨0x2C0014, 31, 0⟩
/-- `GRN_SIGBAD` (R296). -/
def Reg.GRN_SIGBAD : Nat := 0x2C0018
/-- `GRN_SIGBAD.CNT`. -/
def F.GRN_SIGBAD_CNT : RegField := ⟨0x2C0018, 15, 0⟩
/-- `GRN_LOCK` (R296). -/
def Reg.GRN_LOCK : Nat := 0x2C07F0
/-- `GRN_LOCK.LOCK`. -/
def F.GRN_LOCK_LOCK : RegField := ⟨0x2C07F0, 0, 0⟩
/-- `GRN_VALr` (R296). -/
def Reg.GRN_VAL (k : Nat) (q : Nat) : Nat := 0x2C1000 + 0x1000 * k + 0x4 * q
/-- `GRN_VALr.VAL`. -/
def F.GRN_VAL_VAL (k : Nat) (q : Nat) : RegField := ⟨0x2C1000 + 0x1000 * k + 0x4 * q, 31, 0⟩
/-- `GRN_SIGr` (R296). -/
def Reg.GRN_SIG (k : Nat) (q : Nat) : Nat := 0x2C1200 + 0x1000 * k + 0x4 * q
/-- `GRN_SIGr.INC`. -/
def F.GRN_SIG_INC (k : Nat) (q : Nat) : RegField := ⟨0x2C1200 + 0x1000 * k + 0x4 * q, 15, 0⟩
/-- `MEM_CECNT_LO` (R321). -/
def Reg.MEM_CECNT_LO : Nat := 0x60000
/-- `MEM_CECNT_LO.CNT_LO`. -/
def F.MEM_CECNT_LO_CNT_LO : RegField := ⟨0x60000, 31, 0⟩
/-- `MEM_CECNT_HI` (R321). -/
def Reg.MEM_CECNT_HI : Nat := 0x60004
/-- `MEM_CECNT_HI.CNT_HI`. -/
def F.MEM_CECNT_HI_CNT_HI : RegField := ⟨0x60004, 31, 0⟩
/-- `MEM_UECNT` (R321). -/
def Reg.MEM_UECNT : Nat := 0x60008
/-- `MEM_UECNT.CNT`. -/
def F.MEM_UECNT_CNT : RegField := ⟨0x60008, 15, 0⟩
/-- `MEM_CETHR` (R321). -/
def Reg.MEM_CETHR : Nat := 0x60010
/-- `MEM_CETHR.THR`. -/
def F.MEM_CETHR_THR : RegField := ⟨0x60010, 15, 0⟩
/-- `MEM_TSEL` (R321). -/
def Reg.MEM_TSEL : Nat := 0x60020
/-- `MEM_TSEL.MACRO`. -/
def F.MEM_TSEL_MACRO : RegField := ⟨0x60020, 15, 0⟩
/-- `MEM_TSEL.FORM`. -/
def F.MEM_TSEL_FORM : RegField := ⟨0x60020, 16, 16⟩
/-- `MEM_TSEL.BGS`. -/
def F.MEM_TSEL_BGS : RegField := ⟨0x60020, 20, 17⟩
/-- `MEM_TCMD` (R321). -/
def Reg.MEM_TCMD : Nat := 0x60024
/-- `MEM_TCMD.GO`. -/
def F.MEM_TCMD_GO : RegField := ⟨0x60024, 0, 0⟩
/-- `MEM_TSTAT` (R321). -/
def Reg.MEM_TSTAT : Nat := 0x60028
/-- `MEM_TSTAT.BUSY`. -/
def F.MEM_TSTAT_BUSY : RegField := ⟨0x60028, 0, 0⟩
/-- `MEM_TSTAT.DONE`. -/
def F.MEM_TSTAT_DONE : RegField := ⟨0x60028, 1, 1⟩
/-- `MEM_TSTAT.FAIL`. -/
def F.MEM_TSTAT_FAIL : RegField := ⟨0x60028, 2, 2⟩
/-- `MEM_TSTAT.REFUSED`. -/
def F.MEM_TSTAT_REFUSED : RegField := ⟨0x60028, 3, 3⟩
/-- `MEM_BGCTRL` (R321). -/
def Reg.MEM_BGCTRL : Nat := 0x60030
/-- `MEM_BGCTRL.EN`. -/
def F.MEM_BGCTRL_EN : RegField := ⟨0x60030, 0, 0⟩
/-- `MEM_BGCTRL.PERIOD`. -/
def F.MEM_BGCTRL_PERIOD : RegField := ⟨0x60030, 15, 4⟩
/-- `MEM_BGPASS_LO` (R321). -/
def Reg.MEM_BGPASS_LO : Nat := 0x60038
/-- `MEM_BGPASS_LO.CNT_LO`. -/
def F.MEM_BGPASS_LO_CNT_LO : RegField := ⟨0x60038, 31, 0⟩
/-- `MEM_BGPASS_HI` (R321). -/
def Reg.MEM_BGPASS_HI : Nat := 0x6003C
/-- `MEM_BGPASS_HI.CNT_HI`. -/
def F.MEM_BGPASS_HI_CNT_HI : RegField := ⟨0x6003C, 31, 0⟩
/-- `MEM_RPLOG` (R321). -/
def Reg.MEM_RPLOG : Nat := 0x60040
/-- `MEM_RPLOG.SOFT`. -/
def F.MEM_RPLOG_SOFT : RegField := ⟨0x60040, 15, 0⟩
/-- `MEM_RPLOG.EXH`. -/
def F.MEM_RPLOG_EXH : RegField := ⟨0x60040, 31, 16⟩
/-- `MEM_BCLR_ADDR_LO` (R321). -/
def Reg.MEM_BCLR_ADDR_LO : Nat := 0x60050
/-- `MEM_BCLR_ADDR_LO.ADDR_LO`. -/
def F.MEM_BCLR_ADDR_LO_ADDR_LO : RegField := ⟨0x60050, 31, 21⟩
/-- `MEM_BCLR_ADDR_HI` (R321). -/
def Reg.MEM_BCLR_ADDR_HI : Nat := 0x60054
/-- `MEM_BCLR_ADDR_HI.ADDR_HI`. -/
def F.MEM_BCLR_ADDR_HI_ADDR_HI : RegField := ⟨0x60054, 15, 0⟩
/-- `MEM_BCLR_LEN` (R321). -/
def Reg.MEM_BCLR_LEN : Nat := 0x60058
/-- `MEM_BCLR_LEN.LEN`. -/
def F.MEM_BCLR_LEN_LEN : RegField := ⟨0x60058, 15, 0⟩
/-- `MEM_BCLR_CMD` (R321). -/
def Reg.MEM_BCLR_CMD : Nat := 0x6005C
/-- `MEM_BCLR_CMD.GO`. -/
def F.MEM_BCLR_CMD_GO : RegField := ⟨0x6005C, 0, 0⟩
/-- `MEM_BCLR_STAT` (R321). -/
def Reg.MEM_BCLR_STAT : Nat := 0x60060
/-- `MEM_BCLR_STAT.BUSY`. -/
def F.MEM_BCLR_STAT_BUSY : RegField := ⟨0x60060, 0, 0⟩
/-- `MEM_BCLR_STAT.ERR`. -/
def F.MEM_BCLR_STAT_ERR : RegField := ⟨0x60060, 1, 1⟩
/-- `MEM_LOCK` (R321). -/
def Reg.MEM_LOCK : Nat := 0x607F0
/-- `MEM_LOCK.LOCK`. -/
def F.MEM_LOCK_LOCK : RegField := ⟨0x607F0, 0, 0⟩
/-- `MEM_STARVLIM` (R321). -/
def Reg.MEM_STARVLIM : Nat := 0x60800
/-- `MEM_STARVLIM.LIMIT`. -/
def F.MEM_STARVLIM_LIMIT : RegField := ⟨0x60800, 7, 0⟩
/-- `DRC_STAT` (R322). -/
def Reg.DRC_STAT (u : Nat) : Nat := 0x70000 + 0x1000 * u
/-- `DRC_STAT.INIT`. -/
def F.DRC_STAT_INIT (u : Nat) : RegField := ⟨0x70000 + 0x1000 * u, 0, 0⟩
/-- `DRC_STAT.X2`. -/
def F.DRC_STAT_X2 (u : Nat) : RegField := ⟨0x70000 + 0x1000 * u, 1, 1⟩
/-- `DRC_STAT.TEMP`. -/
def F.DRC_STAT_TEMP (u : Nat) : RegField := ⟨0x70000 + 0x1000 * u, 15, 8⟩
/-- `DRC_CECNT` (R322). -/
def Reg.DRC_CECNT (u : Nat) : Nat := 0x70004 + 0x1000 * u
/-- `DRC_CECNT.CORR`. -/
def F.DRC_CECNT_CORR (u : Nat) : RegField := ⟨0x70004 + 0x1000 * u, 15, 0⟩
/-- `DRC_CECNT.UNCORR`. -/
def F.DRC_CECNT_UNCORR (u : Nat) : RegField := ⟨0x70004 + 0x1000 * u, 31, 16⟩
/-- `DRC_LINKERR` (R322). -/
def Reg.DRC_LINKERR (u : Nat) : Nat := 0x70008 + 0x1000 * u
/-- `DRC_LINKERR.RETRIED`. -/
def F.DRC_LINKERR_RETRIED (u : Nat) : RegField := ⟨0x70008 + 0x1000 * u, 15, 0⟩
/-- `DRC_LINKERR.FAILED`. -/
def F.DRC_LINKERR_FAILED (u : Nat) : RegField := ⟨0x70008 + 0x1000 * u, 31, 16⟩
/-- `DRC_PPR` (R322). -/
def Reg.DRC_PPR (u : Nat) : Nat := 0x7000C + 0x1000 * u
/-- `DRC_PPR.USED`. -/
def F.DRC_PPR_USED (u : Nat) : RegField := ⟨0x7000C + 0x1000 * u, 7, 0⟩
/-- `DRC_PPR.AVAIL`. -/
def F.DRC_PPR_AVAIL (u : Nat) : RegField := ⟨0x7000C + 0x1000 * u, 15, 8⟩
/-- `DRC_RDBYTES_LO` (R322). -/
def Reg.DRC_RDBYTES_LO (u : Nat) : Nat := 0x70010 + 0x1000 * u
/-- `DRC_RDBYTES_LO.CNT_LO`. -/
def F.DRC_RDBYTES_LO_CNT_LO (u : Nat) : RegField := ⟨0x70010 + 0x1000 * u, 31, 0⟩
/-- `DRC_RDBYTES_HI` (R322). -/
def Reg.DRC_RDBYTES_HI (u : Nat) : Nat := 0x70014 + 0x1000 * u
/-- `DRC_RDBYTES_HI.CNT_HI`. -/
def F.DRC_RDBYTES_HI_CNT_HI (u : Nat) : RegField := ⟨0x70014 + 0x1000 * u, 31, 0⟩
/-- `DRC_WRBYTES_LO` (R322). -/
def Reg.DRC_WRBYTES_LO (u : Nat) : Nat := 0x70018 + 0x1000 * u
/-- `DRC_WRBYTES_LO.CNT_LO`. -/
def F.DRC_WRBYTES_LO_CNT_LO (u : Nat) : RegField := ⟨0x70018 + 0x1000 * u, 31, 0⟩
/-- `DRC_WRBYTES_HI` (R322). -/
def Reg.DRC_WRBYTES_HI (u : Nat) : Nat := 0x7001C + 0x1000 * u
/-- `DRC_WRBYTES_HI.CNT_HI`. -/
def F.DRC_WRBYTES_HI_CNT_HI (u : Nat) : RegField := ⟨0x7001C + 0x1000 * u, 31, 0⟩
/-- `DRC_REFCYC_LO` (R322). -/
def Reg.DRC_REFCYC_LO (u : Nat) : Nat := 0x70020 + 0x1000 * u
/-- `DRC_REFCYC_LO.CNT_LO`. -/
def F.DRC_REFCYC_LO_CNT_LO (u : Nat) : RegField := ⟨0x70020 + 0x1000 * u, 31, 0⟩
/-- `DRC_REFCYC_HI` (R322). -/
def Reg.DRC_REFCYC_HI (u : Nat) : Nat := 0x70024 + 0x1000 * u
/-- `DRC_REFCYC_HI.CNT_HI`. -/
def F.DRC_REFCYC_HI_CNT_HI (u : Nat) : RegField := ⟨0x70024 + 0x1000 * u, 31, 0⟩
/-- `DRC_LOCK` (R322). -/
def Reg.DRC_LOCK (u : Nat) : Nat := 0x707F0 + 0x1000 * u
/-- `DRC_LOCK.LOCK`. -/
def F.DRC_LOCK_LOCK (u : Nat) : RegField := ⟨0x707F0 + 0x1000 * u, 0, 0⟩
/-- `DRC_SCHED` (R322). -/
def Reg.DRC_SCHED (u : Nat) : Nat := 0x70800 + 0x1000 * u
/-- `DRC_SCHED.MODE`. -/
def F.DRC_SCHED_MODE (u : Nat) : RegField := ⟨0x70800 + 0x1000 * u, 0, 0⟩
/-- `DRC_SCHED.AGECAP`. -/
def F.DRC_SCHED_AGECAP (u : Nat) : RegField := ⟨0x70800 + 0x1000 * u, 15, 8⟩
/-- `DRC_SCRUB` (R322). -/
def Reg.DRC_SCRUB (u : Nat) : Nat := 0x70804 + 0x1000 * u
/-- `DRC_SCRUB.HOURS`. -/
def F.DRC_SCRUB_HOURS (u : Nat) : RegField := ⟨0x70804 + 0x1000 * u, 7, 0⟩
/-- `HWD_STATE` (R343). -/
def Reg.HWD_STATE : Nat := 0x240000
/-- `HWD_STATE.SEQ`. -/
def F.HWD_STATE_SEQ : RegField := ⟨0x240000, 2, 0⟩
/-- `HWD_STATE.SPLIT`. -/
def F.HWD_STATE_SPLIT : RegField := ⟨0x240000, 3, 3⟩
/-- `HWD_STATE.GATE`. -/
def F.HWD_STATE_GATE : RegField := ⟨0x240000, 4, 4⟩
/-- `HWD_STATE.RESTART`. -/
def F.HWD_STATE_RESTART : RegField := ⟨0x240000, 5, 5⟩
/-- `HWD_STATE.CAUSE`. -/
def F.HWD_STATE_CAUSE : RegField := ⟨0x240000, 12, 8⟩
/-- `HWD_CAUSES` (R343). -/
def Reg.HWD_CAUSES : Nat := 0x240004
/-- `HWD_CAUSES.SEEN`. -/
def F.HWD_CAUSES_SEEN : RegField := ⟨0x240004, 15, 0⟩
/-- `HWD_SAFECFG` (R343). -/
def Reg.HWD_SAFECFG : Nat := 0x240008
/-- `HWD_SAFECFG.HOLD`. -/
def F.HWD_SAFECFG_HOLD : RegField := ⟨0x240008, 13, 0⟩
/-- `HWD_SAFECFG.STOPMAX`. -/
def F.HWD_SAFECFG_STOPMAX : RegField := ⟨0x240008, 23, 16⟩
/-- `HWD_SAFECFG.IMPLIM`. -/
def F.HWD_SAFECFG_IMPLIM : RegField := ⟨0x240008, 27, 24⟩
/-- `HWD_GATECFG` (R343). -/
def Reg.HWD_GATECFG : Nat := 0x24000C
/-- `HWD_GATECFG.AGEMAX`. -/
def F.HWD_GATECFG_AGEMAX : RegField := ⟨0x24000C, 15, 0⟩
/-- `HWD_GATECFG.HORIZMIN`. -/
def F.HWD_GATECFG_HORIZMIN : RegField := ⟨0x24000C, 31, 16⟩
/-- `HWD_FBSEL` (R343). -/
def Reg.HWD_FBSEL : Nat := 0x240010
/-- `HWD_FBSEL.MODE`. -/
def F.HWD_FBSEL_MODE : RegField := ⟨0x240010, 7, 0⟩
/-- `HWD_SAFECMD` (R343). -/
def Reg.HWD_SAFECMD : Nat := 0x240014
/-- `HWD_SAFECMD.ENTER`. -/
def F.HWD_SAFECMD_ENTER : RegField := ⟨0x240014, 0, 0⟩
/-- `HWD_SAFECMD.ARM`. -/
def F.HWD_SAFECMD_ARM : RegField := ⟨0x240014, 1, 1⟩
/-- `HWD_KICK` (R343). -/
def Reg.HWD_KICK : Nat := 0x240018
/-- `HWD_KICK.KEY`. -/
def F.HWD_KICK_KEY : RegField := ⟨0x240018, 15, 0⟩
/-- `HWD_WDG` (R343). -/
def Reg.HWD_WDG : Nat := 0x24001C
/-- `HWD_WDG.WMIN`. -/
def F.HWD_WDG_WMIN : RegField := ⟨0x24001C, 15, 0⟩
/-- `HWD_WDG.WMAX`. -/
def F.HWD_WDG_WMAX : RegField := ⟨0x24001C, 31, 16⟩
/-- `HWD_ACCEPT` (R343). -/
def Reg.HWD_ACCEPT : Nat := 0x240020
/-- `HWD_ACCEPT.CNT`. -/
def F.HWD_ACCEPT_CNT : RegField := ⟨0x240020, 31, 0⟩
/-- `HWD_REJECT` (R343). -/
def Reg.HWD_REJECT : Nat := 0x240024
/-- `HWD_REJECT.CNT`. -/
def F.HWD_REJECT_CNT : RegField := ⟨0x240024, 31, 0⟩
/-- `HWD_SAFECNT` (R343). -/
def Reg.HWD_SAFECNT : Nat := 0x240028
/-- `HWD_SAFECNT.CNT`. -/
def F.HWD_SAFECNT_CNT : RegField := ⟨0x240028, 31, 0⟩
/-- `HWD_RESTART` (R343). -/
def Reg.HWD_RESTART : Nat := 0x24002C
/-- `HWD_RESTART.DUR`. -/
def F.HWD_RESTART_DUR : RegField := ⟨0x24002C, 15, 0⟩
/-- `HWD_GCHn_SRC_LO` (R343). -/
def Reg.HWD_GCH_SRC_LO (n : Nat) : Nat := 0x240100 + 0x20 * n
/-- `HWD_GCHn_SRC_LO.ADDR_LO`. -/
def F.HWD_GCH_SRC_LO_ADDR_LO (n : Nat) : RegField := ⟨0x240100 + 0x20 * n, 31, 16⟩
/-- `HWD_GCHn_SRC_HI` (R343). -/
def Reg.HWD_GCH_SRC_HI (n : Nat) : Nat := 0x240104 + 0x20 * n
/-- `HWD_GCHn_SRC_HI.ADDR_HI`. -/
def F.HWD_GCH_SRC_HI_ADDR_HI (n : Nat) : RegField := ⟨0x240104 + 0x20 * n, 15, 0⟩
/-- `HWD_GCHn_CFG` (R343). -/
def Reg.HWD_GCH_CFG (n : Nat) : Nat := 0x240108 + 0x20 * n
/-- `HWD_GCHn_CFG.EN`. -/
def F.HWD_GCH_CFG_EN (n : Nat) : RegField := ⟨0x240108 + 0x20 * n, 0, 0⟩
/-- `HWD_GCHn_CFG.CTX`. -/
def F.HWD_GCH_CFG_CTX (n : Nat) : RegField := ⟨0x240108 + 0x20 * n, 6, 1⟩
/-- `HWD_GCHn_CFG.DBRING`. -/
def F.HWD_GCH_CFG_DBRING (n : Nat) : RegField := ⟨0x240108 + 0x20 * n, 16, 7⟩
/-- `HWD_GCHn_CFG.RETRING`. -/
def F.HWD_GCH_CFG_RETRING (n : Nat) : RegField := ⟨0x240108 + 0x20 * n, 26, 17⟩
/-- `HWD_GCHn_STEP` (R343). -/
def Reg.HWD_GCH_STEP (n : Nat) : Nat := 0x24010C + 0x20 * n
/-- `HWD_GCHn_STEP.STEPUS`. -/
def F.HWD_GCH_STEP_STEPUS (n : Nat) : RegField := ⟨0x24010C + 0x20 * n, 19, 0⟩
/-- `HWD_GCHn_AXMAPw` (R343). -/
def Reg.HWD_GCH_AXMAP (n : Nat) (w : Nat) : Nat := 0x240110 + 0x20 * n + 0x4 * w
/-- `HWD_GCHn_AXMAPw.AX`. -/
def F.HWD_GCH_AXMAP_AX (n : Nat) (w : Nat) : RegField := ⟨0x240110 + 0x20 * n + 0x4 * w, 31, 0⟩
/-- `HWD_GCHn_LASTSEQ` (R343). -/
def Reg.HWD_GCH_LASTSEQ (n : Nat) : Nat := 0x240200 + 0x4 * n
/-- `HWD_GCHn_LASTSEQ.SEQ`. -/
def F.HWD_GCH_LASTSEQ_SEQ (n : Nat) : RegField := ⟨0x240200 + 0x4 * n, 31, 0⟩
/-- `HWD_LOCK` (R343). -/
def Reg.HWD_LOCK : Nat := 0x2407F0
/-- `HWD_LOCK.LOCK`. -/
def F.HWD_LOCK_LOCK : RegField := ⟨0x2407F0, 0, 0⟩
/-- `HWD_STPER` (R343). -/
def Reg.HWD_STPER : Nat := 0x240800
/-- `HWD_STPER.PER`. -/
def F.HWD_STPER_PER : RegField := ⟨0x240800, 7, 0⟩
/-- `HWD_SIGPER` (R343). -/
def Reg.HWD_SIGPER : Nat := 0x240804
/-- `HWD_SIGPER.PER`. -/
def F.HWD_SIGPER_PER : RegField := ⟨0x240804, 15, 0⟩
/-- `BRK_DENYCNT_LO` (R344). -/
def Reg.BRK_DENYCNT_LO : Nat := 0x50000
/-- `BRK_DENYCNT_LO.CNT_LO`. -/
def F.BRK_DENYCNT_LO_CNT_LO : RegField := ⟨0x50000, 31, 0⟩
/-- `BRK_DENYCNT_HI` (R344). -/
def Reg.BRK_DENYCNT_HI : Nat := 0x50004
/-- `BRK_DENYCNT_HI.CNT_HI`. -/
def F.BRK_DENYCNT_HI_CNT_HI : RegField := ⟨0x50004, 31, 0⟩
/-- `BRK_OPBASE` (R344). -/
def Reg.BRK_OPBASE : Nat := 0x50010
/-- `BRK_OPBASE.BASE`. -/
def F.BRK_OPBASE_BASE : RegField := ⟨0x50010, 9, 0⟩
/-- `BRK_LOCK` (R344). -/
def Reg.BRK_LOCK : Nat := 0x507F0
/-- `BRK_LOCK.LOCK`. -/
def F.BRK_LOCK_LOCK : RegField := ⟨0x507F0, 0, 0⟩
/-- `BRK_RULEn_W0` (R344). -/
def Reg.BRK_RULE_W0 (g : Nat) (n : Nat) : Nat := 0x51000 + 0x1000 * g + 0x10 * n
/-- `BRK_RULEn_W0.EN`. -/
def F.BRK_RULE_W0_EN (g : Nat) (n : Nat) : RegField := ⟨0x51000 + 0x1000 * g + 0x10 * n, 0, 0⟩
/-- `BRK_RULEn_W0.RD`. -/
def F.BRK_RULE_W0_RD (g : Nat) (n : Nat) : RegField := ⟨0x51000 + 0x1000 * g + 0x10 * n, 1, 1⟩
/-- `BRK_RULEn_W0.WR`. -/
def F.BRK_RULE_W0_WR (g : Nat) (n : Nat) : RegField := ⟨0x51000 + 0x1000 * g + 0x10 * n, 2, 2⟩
/-- `BRK_RULEn_W0.DENY`. -/
def F.BRK_RULE_W0_DENY (g : Nat) (n : Nat) : RegField := ⟨0x51000 + 0x1000 * g + 0x10 * n, 3, 3⟩
/-- `BRK_RULEn_W0.OWN`. -/
def F.BRK_RULE_W0_OWN (g : Nat) (n : Nat) : RegField := ⟨0x51000 + 0x1000 * g + 0x10 * n, 4, 4⟩
/-- `BRK_RULEn_W0.CTX`. -/
def F.BRK_RULE_W0_CTX (g : Nat) (n : Nat) : RegField := ⟨0x51000 + 0x1000 * g + 0x10 * n, 11, 6⟩
/-- `BRK_RULEn_W0.CTXM`. -/
def F.BRK_RULE_W0_CTXM (g : Nat) (n : Nat) : RegField := ⟨0x51000 + 0x1000 * g + 0x10 * n, 17, 12⟩
/-- `BRK_RULEn_W0.OID`. -/
def F.BRK_RULE_W0_OID (g : Nat) (n : Nat) : RegField := ⟨0x51000 + 0x1000 * g + 0x10 * n, 27, 18⟩
/-- `BRK_RULEn_W1` (R344). -/
def Reg.BRK_RULE_W1 (g : Nat) (n : Nat) : Nat := 0x51004 + 0x1000 * g + 0x10 * n
/-- `BRK_RULEn_W1.OIDM`. -/
def F.BRK_RULE_W1_OIDM (g : Nat) (n : Nat) : RegField := ⟨0x51004 + 0x1000 * g + 0x10 * n, 9, 0⟩
/-- `BRK_RULEn_W2` (R344). -/
def Reg.BRK_RULE_W2 (g : Nat) (n : Nat) : Nat := 0x51008 + 0x1000 * g + 0x10 * n
/-- `BRK_RULEn_W2.PG_LO`. -/
def F.BRK_RULE_W2_PG_LO (g : Nat) (n : Nat) : RegField := ⟨0x51008 + 0x1000 * g + 0x10 * n, 31, 0⟩
/-- `BRK_RULEn_W3` (R344). -/
def Reg.BRK_RULE_W3 (g : Nat) (n : Nat) : Nat := 0x5100C + 0x1000 * g + 0x10 * n
/-- `BRK_RULEn_W3.PG_HI`. -/
def F.BRK_RULE_W3_PG_HI (g : Nat) (n : Nat) : RegField := ⟨0x5100C + 0x1000 * g + 0x10 * n, 3, 0⟩
/-- `BRK_RULEn_W3.NPG`. -/
def F.BRK_RULE_W3_NPG (g : Nat) (n : Nat) : RegField := ⟨0x5100C + 0x1000 * g + 0x10 * n, 31, 4⟩
/-- `CMB_CTRL` (R366). -/
def Reg.CMB_CTRL : Nat := 0x250000
/-- `CMB_CTRL.EN`. -/
def F.CMB_CTRL_EN : RegField := ⟨0x250000, 0, 0⟩
/-- `CMB_PERIOD` (R366). -/
def Reg.CMB_PERIOD : Nat := 0x250004
/-- `CMB_PERIOD.PERUS`. -/
def F.CMB_PERIOD_PERUS : RegField := ⟨0x250004, 9, 0⟩
/-- `CMB_PHASE` (R366). -/
def Reg.CMB_PHASE : Nat := 0x250008
/-- `CMB_PHASE.PHNS`. -/
def F.CMB_PHASE_PHNS : RegField := ⟨0x250008, 19, 0⟩
/-- `CMB_STAT` (R366). -/
def Reg.CMB_STAT : Nat := 0x250010
/-- `CMB_STAT.RUN`. -/
def F.CMB_STAT_RUN : RegField := ⟨0x250010, 0, 0⟩
/-- `CMB_STAT.FB`. -/
def F.CMB_STAT_FB : RegField := ⟨0x250010, 1, 1⟩
/-- `CMB_STAT.STOP`. -/
def F.CMB_STAT_STOP : RegField := ⟨0x250010, 2, 2⟩
/-- `CMB_STAT.STO`. -/
def F.CMB_STAT_STO : RegField := ⟨0x250010, 3, 3⟩
/-- `CMB_STAT.STOPDONE`. -/
def F.CMB_STAT_STOPDONE : RegField := ⟨0x250010, 15, 8⟩
/-- `CMB_COMMIT` (R366). -/
def Reg.CMB_COMMIT : Nat := 0x250014
/-- `CMB_COMMIT.CH`. -/
def F.CMB_COMMIT_CH : RegField := ⟨0x250014, 1, 0⟩
/-- `CMB_COMMIT.ARM`. -/
def F.CMB_COMMIT_ARM : RegField := ⟨0x250014, 2, 2⟩
/-- `CMB_CHSTAT` (R366). -/
def Reg.CMB_CHSTAT : Nat := 0x250018
/-- `CMB_CHSTAT.ACTIVE`. -/
def F.CMB_CHSTAT_ACTIVE : RegField := ⟨0x250018, 3, 0⟩
/-- `CMB_CHSTAT.PENDING`. -/
def F.CMB_CHSTAT_PENDING : RegField := ⟨0x250018, 7, 4⟩
/-- `CMB_CHSTAT.BUF`. -/
def F.CMB_CHSTAT_BUF : RegField := ⟨0x250018, 11, 8⟩
/-- `CMB_CYC_LO` (R366). -/
def Reg.CMB_CYC_LO : Nat := 0x250020
/-- `CMB_CYC_LO.CNT_LO`. -/
def F.CMB_CYC_LO_CNT_LO : RegField := ⟨0x250020, 31, 0⟩
/-- `CMB_CYC_HI` (R366). -/
def Reg.CMB_CYC_HI : Nat := 0x250024
/-- `CMB_CYC_HI.CNT_HI`. -/
def F.CMB_CYC_HI_CNT_HI : RegField := ⟨0x250024, 31, 0⟩
/-- `CMB_AXCMD` (R366). -/
def Reg.CMB_AXCMD : Nat := 0x250030
/-- `CMB_AXCMD.AXIS`. -/
def F.CMB_AXCMD_AXIS : RegField := ⟨0x250030, 6, 0⟩
/-- `CMB_AXCMD.CLEAR`. -/
def F.CMB_AXCMD_CLEAR : RegField := ⟨0x250030, 8, 8⟩
/-- `CMB_CHn_LAST_LO` (R366). -/
def Reg.CMB_CH_LAST_LO (n : Nat) : Nat := 0x250040 + 0x8 * n
/-- `CMB_CHn_LAST_LO.T_LO`. -/
def F.CMB_CH_LAST_LO_T_LO (n : Nat) : RegField := ⟨0x250040 + 0x8 * n, 31, 0⟩
/-- `CMB_CHn_LAST_HI` (R366). -/
def Reg.CMB_CH_LAST_HI (n : Nat) : Nat := 0x250044 + 0x8 * n
/-- `CMB_CHn_LAST_HI.T_HI`. -/
def F.CMB_CH_LAST_HI_T_HI (n : Nat) : RegField := ⟨0x250044 + 0x8 * n, 31, 0⟩
/-- `CMB_LOCK` (R366). -/
def Reg.CMB_LOCK : Nat := 0x2507F0
/-- `CMB_LOCK.LOCK`. -/
def F.CMB_LOCK_LOCK : RegField := ⟨0x2507F0, 0, 0⟩
/-- `CMB_RELEASE` (R366). -/
def Reg.CMB_RELEASE : Nat := 0x250800
/-- `CMB_RELEASE.CYC`. -/
def F.CMB_RELEASE_CYC : RegField := ⟨0x250800, 9, 0⟩
/-- `CMB_OBSOVR` (R366). -/
def Reg.CMB_OBSOVR : Nat := 0x250804
/-- `CMB_OBSOVR.OFF`. -/
def F.CMB_OBSOVR_OFF : RegField := ⟨0x250804, 0, 0⟩
/-- `CMB_AXa_STAT` (R367). -/
def Reg.CMB_AX_STAT (a : Nat) : Nat := 0x251000 + 0x4 * a
/-- `CMB_AXa_STAT.STATE`. -/
def F.CMB_AX_STAT_STATE (a : Nat) : RegField := ⟨0x251000 + 0x4 * a, 2, 0⟩
/-- `CMB_AXa_STAT.SRC`. -/
def F.CMB_AX_STAT_SRC (a : Nat) : RegField := ⟨0x251000 + 0x4 * a, 5, 3⟩
/-- `CMB_AXa_STAT.LIM`. -/
def F.CMB_AX_STAT_LIM (a : Nat) : RegField := ⟨0x251000 + 0x4 * a, 6, 6⟩
/-- `CMB_AXa_STAT.ENDED`. -/
def F.CMB_AX_STAT_ENDED (a : Nat) : RegField := ⟨0x251000 + 0x4 * a, 7, 7⟩
/-- `CMB_AXa_STAT.CH`. -/
def F.CMB_AX_STAT_CH (a : Nat) : RegField := ⟨0x251000 + 0x4 * a, 9, 8⟩
/-- `CMB_AXa_STAT.SCCNT`. -/
def F.CMB_AX_STAT_SCCNT (a : Nat) : RegField := ⟨0x251000 + 0x4 * a, 23, 16⟩
/-- `CMB_AXa_FLAGS` (R367). -/
def Reg.CMB_AX_FLAGS (a : Nat) : Nat := 0x251200 + 0x4 * a
/-- `CMB_AXa_FLAGS.SAT_DZ_ACCF_SCLR`. -/
def F.CMB_AX_FLAGS_SAT_DZ_ACCF_SCLR (a : Nat) : RegField := ⟨0x251200 + 0x4 * a, 3, 0⟩
/-- `CMB_AXa_MISS` (R367). -/
def Reg.CMB_AX_MISS (a : Nat) : Nat := 0x251400 + 0x4 * a
/-- `CMB_AXa_MISS.CNT`. -/
def F.CMB_AX_MISS_CNT (a : Nat) : RegField := ⟨0x251400 + 0x4 * a, 15, 0⟩
/-- `CMB_AXa_MISS.RUN`. -/
def F.CMB_AX_MISS_RUN (a : Nat) : RegField := ⟨0x251400 + 0x4 * a, 23, 16⟩
/-- `RLK_CTRL` (R388). -/
def Reg.RLK_CTRL : Nat := 0x260000
/-- `RLK_CTRL.EN`. -/
def F.RLK_CTRL_EN : RegField := ⟨0x260000, 0, 0⟩
/-- `RLK_STAT` (R388). -/
def Reg.RLK_STAT : Nat := 0x260004
/-- `RLK_STAT.UP`. -/
def F.RLK_STAT_UP : RegField := ⟨0x260004, 15, 0⟩
/-- `RLK_STAT.STOTX`. -/
def F.RLK_STAT_STOTX : RegField := ⟨0x260004, 16, 16⟩
/-- `RLK_Pp_CFG` (R388). -/
def Reg.RLK_P_CFG (p : Nat) : Nat := 0x260100 + 0x40 * p
/-- `RLK_Pp_CFG.EN`. -/
def F.RLK_P_CFG_EN (p : Nat) : RegField := ⟨0x260100 + 0x40 * p, 0, 0⟩
/-- `RLK_Pp_CFG.NSTM1`. -/
def F.RLK_P_CFG_NSTM1 (p : Nat) : RegField := ⟨0x260100 + 0x40 * p, 3, 1⟩
/-- `RLK_Pp_STAT` (R388). -/
def Reg.RLK_P_STAT (p : Nat) : Nat := 0x260104 + 0x40 * p
/-- `RLK_Pp_STAT.STATE`. -/
def F.RLK_P_STAT_STATE (p : Nat) : RegField := ⟨0x260104 + 0x40 * p, 1, 0⟩
/-- `RLK_Pp_STAT.REACH`. -/
def F.RLK_P_STAT_REACH (p : Nat) : RegField := ⟨0x260104 + 0x40 * p, 7, 4⟩
/-- `RLK_Pp_ERR` (R388). -/
def Reg.RLK_P_ERR (p : Nat) : Nat := 0x260108 + 0x40 * p
/-- `RLK_Pp_ERR.CRC`. -/
def F.RLK_P_ERR_CRC (p : Nat) : RegField := ⟨0x260108 + 0x40 * p, 15, 0⟩
/-- `RLK_Pp_ERR.BLK`. -/
def F.RLK_P_ERR_BLK (p : Nat) : RegField := ⟨0x260108 + 0x40 * p, 31, 16⟩
/-- `RLK_Pp_LOSS` (R388). -/
def Reg.RLK_P_LOSS (p : Nat) : Nat := 0x26010C + 0x40 * p
/-- `RLK_Pp_LOSS.BREAKS`. -/
def F.RLK_P_LOSS_BREAKS (p : Nat) : RegField := ⟨0x26010C + 0x40 * p, 15, 0⟩
/-- `RLK_Pp_LOSS.REJOINS`. -/
def F.RLK_P_LOSS_REJOINS (p : Nat) : RegField := ⟨0x26010C + 0x40 * p, 31, 16⟩
/-- `RLK_Pp_CLOSE` (R388). -/
def Reg.RLK_P_CLOSE (p : Nat) : Nat := 0x260110 + 0x40 * p
/-- `RLK_Pp_CLOSE.T`. -/
def F.RLK_P_CLOSE_T (p : Nat) : RegField := ⟨0x260110 + 0x40 * p, 23, 0⟩
/-- `RLK_Pp_MGREQ` (R388). -/
def Reg.RLK_P_MGREQ (p : Nat) : Nat := 0x260118 + 0x40 * p
/-- `RLK_Pp_MGREQ.STATION`. -/
def F.RLK_P_MGREQ_STATION (p : Nat) : RegField := ⟨0x260118 + 0x40 * p, 2, 0⟩
/-- `RLK_Pp_MGREQ.WR`. -/
def F.RLK_P_MGREQ_WR (p : Nat) : RegField := ⟨0x260118 + 0x40 * p, 3, 3⟩
/-- `RLK_Pp_MGREQ.REG`. -/
def F.RLK_P_MGREQ_REG (p : Nat) : RegField := ⟨0x260118 + 0x40 * p, 15, 8⟩
/-- `RLK_Pp_MGDATA_LO` (R388). -/
def Reg.RLK_P_MGDATA_LO (p : Nat) : Nat := 0x26011C + 0x40 * p
/-- `RLK_Pp_MGDATA_LO.D_LO`. -/
def F.RLK_P_MGDATA_LO_D_LO (p : Nat) : RegField := ⟨0x26011C + 0x40 * p, 31, 0⟩
/-- `RLK_Pp_MGDATA_HI` (R388). -/
def Reg.RLK_P_MGDATA_HI (p : Nat) : Nat := 0x260120 + 0x40 * p
/-- `RLK_Pp_MGDATA_HI.D_HI`. -/
def F.RLK_P_MGDATA_HI_D_HI (p : Nat) : RegField := ⟨0x260120 + 0x40 * p, 31, 0⟩
/-- `RLK_Pp_MGCMD` (R388). -/
def Reg.RLK_P_MGCMD (p : Nat) : Nat := 0x260124 + 0x40 * p
/-- `RLK_Pp_MGCMD.GO`. -/
def F.RLK_P_MGCMD_GO (p : Nat) : RegField := ⟨0x260124 + 0x40 * p, 0, 0⟩
/-- `RLK_Pp_MGSTAT` (R388). -/
def Reg.RLK_P_MGSTAT (p : Nat) : Nat := 0x260128 + 0x40 * p
/-- `RLK_Pp_MGSTAT.BUSY`. -/
def F.RLK_P_MGSTAT_BUSY (p : Nat) : RegField := ⟨0x260128 + 0x40 * p, 0, 0⟩
/-- `RLK_Pp_MGSTAT.DONE`. -/
def F.RLK_P_MGSTAT_DONE (p : Nat) : RegField := ⟨0x260128 + 0x40 * p, 1, 1⟩
/-- `RLK_Pp_MGSTAT.FAIL`. -/
def F.RLK_P_MGSTAT_FAIL (p : Nat) : RegField := ⟨0x260128 + 0x40 * p, 2, 2⟩
/-- `RLK_LOCK` (R388). -/
def Reg.RLK_LOCK : Nat := 0x2607F0
/-- `RLK_LOCK.LOCK`. -/
def F.RLK_LOCK_LOCK : RegField := ⟨0x2607F0, 0, 0⟩
/-- `RLK_GAP` (R388). -/
def Reg.RLK_GAP : Nat := 0x260800
/-- `RLK_GAP.GAP`. -/
def F.RLK_GAP_GAP : RegField := ⟨0x260800, 1, 0⟩
/-- `RLK_STOREP` (R388). -/
def Reg.RLK_STOREP : Nat := 0x260804
/-- `RLK_STOREP.US`. -/
def F.RLK_STOREP_US : RegField := ⟨0x260804, 7, 0⟩
/-- `RLK_Pp_Ss_ID_LO` (R389). -/
def Reg.RLK_P_S_ID_LO (p : Nat) (s : Nat) : Nat := 0x261000 + 0x80 * p + 0x10 * s
/-- `RLK_Pp_Ss_ID_LO.ID_LO`. -/
def F.RLK_P_S_ID_LO_ID_LO (p : Nat) (s : Nat) : RegField := ⟨0x261000 + 0x80 * p + 0x10 * s, 31, 0⟩
/-- `RLK_Pp_Ss_ID_HI` (R389). -/
def Reg.RLK_P_S_ID_HI (p : Nat) (s : Nat) : Nat := 0x261004 + 0x80 * p + 0x10 * s
/-- `RLK_Pp_Ss_ID_HI.ID_HI`. -/
def F.RLK_P_S_ID_HI_ID_HI (p : Nat) (s : Nat) : RegField := ⟨0x261004 + 0x80 * p + 0x10 * s, 31, 0⟩
/-- `RLK_Pp_Ss_CFG` (R389). -/
def Reg.RLK_P_S_CFG (p : Nat) (s : Nat) : Nat := 0x261008 + 0x80 * p + 0x10 * s
/-- `RLK_Pp_Ss_CFG.NAX`. -/
def F.RLK_P_S_CFG_NAX (p : Nat) (s : Nat) : RegField := ⟨0x261008 + 0x80 * p + 0x10 * s, 4, 0⟩
/-- `RLK_Pp_Ss_CFG.TCONV`. -/
def F.RLK_P_S_CFG_TCONV (p : Nat) (s : Nat) : RegField := ⟨0x261008 + 0x80 * p + 0x10 * s, 31, 16⟩
/-- `RLK_Pp_Ss_STAT` (R389). -/
def Reg.RLK_P_S_STAT (p : Nat) (s : Nat) : Nat := 0x26100C + 0x80 * p + 0x10 * s
/-- `RLK_Pp_Ss_STAT.DLY`. -/
def F.RLK_P_S_STAT_DLY (p : Nat) (s : Nat) : RegField := ⟨0x26100C + 0x80 * p + 0x10 * s, 15, 0⟩
/-- `RLK_Pp_Ss_STAT.SST`. -/
def F.RLK_P_S_STAT_SST (p : Nat) (s : Nat) : RegField := ⟨0x26100C + 0x80 * p + 0x10 * s, 23, 16⟩
/-- `RLK_Pp_Ss_STAT.LOST`. -/
def F.RLK_P_S_STAT_LOST (p : Nat) (s : Nat) : RegField := ⟨0x26100C + 0x80 * p + 0x10 * s, 24, 24⟩
/-- `CFD_CTRL` (R411). -/
def Reg.CFD_CTRL (u : Nat) : Nat := 0x270000 + 0x1000 * u
/-- `CFD_CTRL.MODE`. -/
def F.CFD_CTRL_MODE (u : Nat) : RegField := ⟨0x270000 + 0x1000 * u, 1, 0⟩
/-- `CFD_CTRL.LOOP`. -/
def F.CFD_CTRL_LOOP (u : Nat) : RegField := ⟨0x270000 + 0x1000 * u, 2, 2⟩
/-- `CFD_CTRL.ABOR`. -/
def F.CFD_CTRL_ABOR (u : Nat) : RegField := ⟨0x270000 + 0x1000 * u, 3, 3⟩
/-- `CFD_CTRL.ONESHOT`. -/
def F.CFD_CTRL_ONESHOT (u : Nat) : RegField := ⟨0x270000 + 0x1000 * u, 4, 4⟩
/-- `CFD_CTRL.TXORD`. -/
def F.CFD_CTRL_TXORD (u : Nat) : RegField := ⟨0x270000 + 0x1000 * u, 5, 5⟩
/-- `CFD_CTRL.PXHD`. -/
def F.CFD_CTRL_PXHD (u : Nat) : RegField := ⟨0x270000 + 0x1000 * u, 6, 6⟩
/-- `CFD_CTRL.SELFRX`. -/
def F.CFD_CTRL_SELFRX (u : Nat) : RegField := ⟨0x270000 + 0x1000 * u, 7, 7⟩
/-- `CFD_CMD` (R411). -/
def Reg.CFD_CMD (u : Nat) : Nat := 0x270004 + 0x1000 * u
/-- `CFD_CMD.SLEEP`. -/
def F.CFD_CMD_SLEEP (u : Nat) : RegField := ⟨0x270004 + 0x1000 * u, 0, 0⟩
/-- `CFD_CMD.WAKE`. -/
def F.CFD_CMD_WAKE (u : Nat) : RegField := ⟨0x270004 + 0x1000 * u, 1, 1⟩
/-- `CFD_CMD.RECOVER`. -/
def F.CFD_CMD_RECOVER (u : Nat) : RegField := ⟨0x270004 + 0x1000 * u, 2, 2⟩
/-- `CFD_STAT` (R411). -/
def Reg.CFD_STAT (u : Nat) : Nat := 0x270008 + 0x1000 * u
/-- `CFD_STAT.STATE`. -/
def F.CFD_STAT_STATE (u : Nat) : RegField := ⟨0x270008 + 0x1000 * u, 2, 0⟩
/-- `CFD_STAT.EWARN`. -/
def F.CFD_STAT_EWARN (u : Nat) : RegField := ⟨0x270008 + 0x1000 * u, 3, 3⟩
/-- `CFD_STAT.WAKEF`. -/
def F.CFD_STAT_WAKEF (u : Nat) : RegField := ⟨0x270008 + 0x1000 * u, 4, 4⟩
/-- `CFD_STAT.WCAUSE`. -/
def F.CFD_STAT_WCAUSE (u : Nat) : RegField := ⟨0x270008 + 0x1000 * u, 6, 5⟩
/-- `CFD_STAT.TDCV`. -/
def F.CFD_STAT_TDCV (u : Nat) : RegField := ⟨0x270008 + 0x1000 * u, 14, 8⟩
/-- `CFD_ECNT` (R411). -/
def Reg.CFD_ECNT (u : Nat) : Nat := 0x27000C + 0x1000 * u
/-- `CFD_ECNT.TEC`. -/
def F.CFD_ECNT_TEC (u : Nat) : RegField := ⟨0x27000C + 0x1000 * u, 8, 0⟩
/-- `CFD_ECNT.REC`. -/
def F.CFD_ECNT_REC (u : Nat) : RegField := ⟨0x27000C + 0x1000 * u, 16, 9⟩
/-- `CFD_ECNT.RECOV`. -/
def F.CFD_ECNT_RECOV (u : Nat) : RegField := ⟨0x27000C + 0x1000 * u, 24, 17⟩
/-- `CFD_NBT` (R411). -/
def Reg.CFD_NBT (u : Nat) : Nat := 0x270010 + 0x1000 * u
/-- `CFD_NBT.BRPM1`. -/
def F.CFD_NBT_BRPM1 (u : Nat) : RegField := ⟨0x270010 + 0x1000 * u, 7, 0⟩
/-- `CFD_NBT.TSEG1M1`. -/
def F.CFD_NBT_TSEG1M1 (u : Nat) : RegField := ⟨0x270010 + 0x1000 * u, 15, 8⟩
/-- `CFD_NBT.TSEG2M1`. -/
def F.CFD_NBT_TSEG2M1 (u : Nat) : RegField := ⟨0x270010 + 0x1000 * u, 22, 16⟩
/-- `CFD_NBT.SJWM1`. -/
def F.CFD_NBT_SJWM1 (u : Nat) : RegField := ⟨0x270010 + 0x1000 * u, 29, 23⟩
/-- `CFD_DBT` (R411). -/
def Reg.CFD_DBT (u : Nat) : Nat := 0x270014 + 0x1000 * u
/-- `CFD_DBT.BRPM1`. -/
def F.CFD_DBT_BRPM1 (u : Nat) : RegField := ⟨0x270014 + 0x1000 * u, 4, 0⟩
/-- `CFD_DBT.TSEG1M1`. -/
def F.CFD_DBT_TSEG1M1 (u : Nat) : RegField := ⟨0x270014 + 0x1000 * u, 12, 8⟩
/-- `CFD_DBT.TSEG2M1`. -/
def F.CFD_DBT_TSEG2M1 (u : Nat) : RegField := ⟨0x270014 + 0x1000 * u, 19, 16⟩
/-- `CFD_DBT.SJWM1`. -/
def F.CFD_DBT_SJWM1 (u : Nat) : RegField := ⟨0x270014 + 0x1000 * u, 27, 24⟩
/-- `CFD_DBT.TDCEN`. -/
def F.CFD_DBT_TDCEN (u : Nat) : RegField := ⟨0x270014 + 0x1000 * u, 31, 31⟩
/-- `CFD_TDC` (R411). -/
def Reg.CFD_TDC (u : Nat) : Nat := 0x270018 + 0x1000 * u
/-- `CFD_TDC.TDCO`. -/
def F.CFD_TDC_TDCO (u : Nat) : RegField := ⟨0x270018 + 0x1000 * u, 6, 0⟩
/-- `CFD_TDC.TDCF`. -/
def F.CFD_TDC_TDCF (u : Nat) : RegField := ⟨0x270018 + 0x1000 * u, 14, 8⟩
/-- `CFD_RETRYLIM` (R411). -/
def Reg.CFD_RETRYLIM (u : Nat) : Nat := 0x27001C + 0x1000 * u
/-- `CFD_RETRYLIM.LIM`. -/
def F.CFD_RETRYLIM_LIM (u : Nat) : RegField := ⟨0x27001C + 0x1000 * u, 7, 0⟩
/-- `CFD_IE` (R411). -/
def Reg.CFD_IE (u : Nat) : Nat := 0x270020 + 0x1000 * u
/-- `CFD_IE.RX_TX_WAKE_ERR`. -/
def F.CFD_IE_RX_TX_WAKE_ERR (u : Nat) : RegField := ⟨0x270020 + 0x1000 * u, 3, 0⟩
/-- `CFD_IE.VEC`. -/
def F.CFD_IE_VEC (u : Nat) : RegField := ⟨0x270020 + 0x1000 * u, 13, 8⟩
/-- `CFD_RXBASE_LO` (R411). -/
def Reg.CFD_RXBASE_LO (u : Nat) : Nat := 0x270028 + 0x1000 * u
/-- `CFD_RXBASE_LO.BASE_LO`. -/
def F.CFD_RXBASE_LO_BASE_LO (u : Nat) : RegField := ⟨0x270028 + 0x1000 * u, 31, 13⟩
/-- `CFD_RXBASE_HI` (R411). -/
def Reg.CFD_RXBASE_HI (u : Nat) : Nat := 0x27002C + 0x1000 * u
/-- `CFD_RXBASE_HI.BASE_HI`. -/
def F.CFD_RXBASE_HI_BASE_HI (u : Nat) : RegField := ⟨0x27002C + 0x1000 * u, 15, 0⟩
/-- `CFD_RXNEW_LO` (R411). -/
def Reg.CFD_RXNEW_LO (u : Nat) : Nat := 0x270030 + 0x1000 * u
/-- `CFD_RXNEW_LO.NEW_LO`. -/
def F.CFD_RXNEW_LO_NEW_LO (u : Nat) : RegField := ⟨0x270030 + 0x1000 * u, 31, 0⟩
/-- `CFD_RXNEW_HI` (R411). -/
def Reg.CFD_RXNEW_HI (u : Nat) : Nat := 0x270034 + 0x1000 * u
/-- `CFD_RXNEW_HI.NEW_HI`. -/
def F.CFD_RXNEW_HI_NEW_HI (u : Nat) : RegField := ⟨0x270034 + 0x1000 * u, 31, 0⟩
/-- `CFD_RXLOST_LO` (R411). -/
def Reg.CFD_RXLOST_LO (u : Nat) : Nat := 0x270038 + 0x1000 * u
/-- `CFD_RXLOST_LO.LOST_LO`. -/
def F.CFD_RXLOST_LO_LOST_LO (u : Nat) : RegField := ⟨0x270038 + 0x1000 * u, 31, 0⟩
/-- `CFD_RXLOST_HI` (R411). -/
def Reg.CFD_RXLOST_HI (u : Nat) : Nat := 0x27003C + 0x1000 * u
/-- `CFD_RXLOST_HI.LOST_HI`. -/
def F.CFD_RXLOST_HI_LOST_HI (u : Nat) : RegField := ⟨0x27003C + 0x1000 * u, 31, 0⟩
/-- `CFD_RXDROP` (R411). -/
def Reg.CFD_RXDROP (u : Nat) : Nat := 0x270040 + 0x1000 * u
/-- `CFD_RXDROP.DROP`. -/
def F.CFD_RXDROP_DROP (u : Nat) : RegField := ⟨0x270040 + 0x1000 * u, 15, 0⟩
/-- `CFD_RXDROP.DENY`. -/
def F.CFD_RXDROP_DENY (u : Nat) : RegField := ⟨0x270040 + 0x1000 * u, 31, 16⟩
/-- `CFD_TXREQ` (R411). -/
def Reg.CFD_TXREQ (u : Nat) : Nat := 0x270044 + 0x1000 * u
/-- `CFD_TXREQ.REQ`. -/
def F.CFD_TXREQ_REQ (u : Nat) : RegField := ⟨0x270044 + 0x1000 * u, 2, 0⟩
/-- `CFD_TXREQ.ABORT`. -/
def F.CFD_TXREQ_ABORT (u : Nat) : RegField := ⟨0x270044 + 0x1000 * u, 6, 4⟩
/-- `CFD_TXSTAT` (R411). -/
def Reg.CFD_TXSTAT (u : Nat) : Nat := 0x270048 + 0x1000 * u
/-- `CFD_TXSTAT.OK`. -/
def F.CFD_TXSTAT_OK (u : Nat) : RegField := ⟨0x270048 + 0x1000 * u, 2, 0⟩
/-- `CFD_TXSTAT.ABRT`. -/
def F.CFD_TXSTAT_ABRT (u : Nat) : RegField := ⟨0x270048 + 0x1000 * u, 6, 4⟩
/-- `CFD_TXSTAT.ABND`. -/
def F.CFD_TXSTAT_ABND (u : Nat) : RegField := ⟨0x270048 + 0x1000 * u, 10, 8⟩
/-- `CFD_WUF_ID` (R411). -/
def Reg.CFD_WUF_ID (u : Nat) : Nat := 0x270050 + 0x1000 * u
/-- `CFD_WUF_ID.ID`. -/
def F.CFD_WUF_ID_ID (u : Nat) : RegField := ⟨0x270050 + 0x1000 * u, 28, 0⟩
/-- `CFD_WUF_ID.IDE`. -/
def F.CFD_WUF_ID_IDE (u : Nat) : RegField := ⟨0x270050 + 0x1000 * u, 29, 29⟩
/-- `CFD_WUF_MASK` (R411). -/
def Reg.CFD_WUF_MASK (u : Nat) : Nat := 0x270054 + 0x1000 * u
/-- `CFD_WUF_MASK.MASK`. -/
def F.CFD_WUF_MASK_MASK (u : Nat) : RegField := ⟨0x270054 + 0x1000 * u, 28, 0⟩
/-- `CFD_WUF_CTL` (R411). -/
def Reg.CFD_WUF_CTL (u : Nat) : Nat := 0x270058 + 0x1000 * u
/-- `CFD_WUF_CTL.DLC`. -/
def F.CFD_WUF_CTL_DLC (u : Nat) : RegField := ⟨0x270058 + 0x1000 * u, 3, 0⟩
/-- `CFD_WUF_CTL.DLCEN`. -/
def F.CFD_WUF_CTL_DLCEN (u : Nat) : RegField := ⟨0x270058 + 0x1000 * u, 4, 4⟩
/-- `CFD_WUF_CTL.DATAEN`. -/
def F.CFD_WUF_CTL_DATAEN (u : Nat) : RegField := ⟨0x270058 + 0x1000 * u, 5, 5⟩
/-- `CFD_WUF_DMASK_LO` (R411). -/
def Reg.CFD_WUF_DMASK_LO (u : Nat) : Nat := 0x270060 + 0x1000 * u
/-- `CFD_WUF_DMASK_LO.DM_LO`. -/
def F.CFD_WUF_DMASK_LO_DM_LO (u : Nat) : RegField := ⟨0x270060 + 0x1000 * u, 31, 0⟩
/-- `CFD_WUF_DMASK_HI` (R411). -/
def Reg.CFD_WUF_DMASK_HI (u : Nat) : Nat := 0x270064 + 0x1000 * u
/-- `CFD_WUF_DMASK_HI.DM_HI`. -/
def F.CFD_WUF_DMASK_HI_DM_HI (u : Nat) : RegField := ⟨0x270064 + 0x1000 * u, 31, 0⟩
/-- `CFD_TXb_ID` (R411). -/
def Reg.CFD_TX_ID (u : Nat) (b : Nat) : Nat := 0x270100 + 0x1000 * u + 0x60 * b
/-- `CFD_TXb_ID.ID`. -/
def F.CFD_TX_ID_ID (u : Nat) (b : Nat) : RegField := ⟨0x270100 + 0x1000 * u + 0x60 * b, 28, 0⟩
/-- `CFD_TXb_ID.IDE`. -/
def F.CFD_TX_ID_IDE (u : Nat) (b : Nat) : RegField := ⟨0x270100 + 0x1000 * u + 0x60 * b, 29, 29⟩
/-- `CFD_TXb_ID.RTR`. -/
def F.CFD_TX_ID_RTR (u : Nat) (b : Nat) : RegField := ⟨0x270100 + 0x1000 * u + 0x60 * b, 30, 30⟩
/-- `CFD_TXb_CTL` (R411). -/
def Reg.CFD_TX_CTL (u : Nat) (b : Nat) : Nat := 0x270104 + 0x1000 * u + 0x60 * b
/-- `CFD_TXb_CTL.DLC`. -/
def F.CFD_TX_CTL_DLC (u : Nat) (b : Nat) : RegField := ⟨0x270104 + 0x1000 * u + 0x60 * b, 3, 0⟩
/-- `CFD_TXb_CTL.FDF`. -/
def F.CFD_TX_CTL_FDF (u : Nat) (b : Nat) : RegField := ⟨0x270104 + 0x1000 * u + 0x60 * b, 4, 4⟩
/-- `CFD_TXb_CTL.BRS`. -/
def F.CFD_TX_CTL_BRS (u : Nat) (b : Nat) : RegField := ⟨0x270104 + 0x1000 * u + 0x60 * b, 5, 5⟩
/-- `CFD_TXb_DATAw` (R411). -/
def Reg.CFD_TX_DATA (u : Nat) (b : Nat) (w : Nat) : Nat := 0x270108 + 0x1000 * u + 0x60 * b + 0x4 * w
/-- `CFD_TXb_DATAw.D`. -/
def F.CFD_TX_DATA_D (u : Nat) (b : Nat) (w : Nat) : RegField := ⟨0x270108 + 0x1000 * u + 0x60 * b + 0x4 * w, 31, 0⟩
/-- `CFD_TXb_TS_LO` (R411). -/
def Reg.CFD_TX_TS_LO (u : Nat) (b : Nat) : Nat := 0x270148 + 0x1000 * u + 0x60 * b
/-- `CFD_TXb_TS_LO.T_LO`. -/
def F.CFD_TX_TS_LO_T_LO (u : Nat) (b : Nat) : RegField := ⟨0x270148 + 0x1000 * u + 0x60 * b, 31, 0⟩
/-- `CFD_TXb_TS_HI` (R411). -/
def Reg.CFD_TX_TS_HI (u : Nat) (b : Nat) : Nat := 0x27014C + 0x1000 * u + 0x60 * b
/-- `CFD_TXb_TS_HI.T_HI`. -/
def F.CFD_TX_TS_HI_T_HI (u : Nat) (b : Nat) : RegField := ⟨0x27014C + 0x1000 * u + 0x60 * b, 31, 0⟩
/-- `CFD_RXo_FID` (R411). -/
def Reg.CFD_RX_FID (u : Nat) (o : Nat) : Nat := 0x270400 + 0x1000 * u + 0x8 * o
/-- `CFD_RXo_FID.ID`. -/
def F.CFD_RX_FID_ID (u : Nat) (o : Nat) : RegField := ⟨0x270400 + 0x1000 * u + 0x8 * o, 28, 0⟩
/-- `CFD_RXo_FID.IDE`. -/
def F.CFD_RX_FID_IDE (u : Nat) (o : Nat) : RegField := ⟨0x270400 + 0x1000 * u + 0x8 * o, 29, 29⟩
/-- `CFD_RXo_FID.EN`. -/
def F.CFD_RX_FID_EN (u : Nat) (o : Nat) : RegField := ⟨0x270400 + 0x1000 * u + 0x8 * o, 30, 30⟩
/-- `CFD_RXo_FMSK` (R411). -/
def Reg.CFD_RX_FMSK (u : Nat) (o : Nat) : Nat := 0x270404 + 0x1000 * u + 0x8 * o
/-- `CFD_RXo_FMSK.MASK`. -/
def F.CFD_RX_FMSK_MASK (u : Nat) (o : Nat) : RegField := ⟨0x270404 + 0x1000 * u + 0x8 * o, 28, 0⟩
/-- `CFD_RXo_FMSK.IDEM`. -/
def F.CFD_RX_FMSK_IDEM (u : Nat) (o : Nat) : RegField := ⟨0x270404 + 0x1000 * u + 0x8 * o, 29, 29⟩
/-- `CFD_RXo_FMSK.FDF`. -/
def F.CFD_RX_FMSK_FDF (u : Nat) (o : Nat) : RegField := ⟨0x270404 + 0x1000 * u + 0x8 * o, 31, 30⟩
/-- `CFD_LOCK` (R411). -/
def Reg.CFD_LOCK (u : Nat) : Nat := 0x2707F0 + 0x1000 * u
/-- `CFD_LOCK.LOCK`. -/
def F.CFD_LOCK_LOCK (u : Nat) : RegField := ⟨0x2707F0 + 0x1000 * u, 0, 0⟩
/-- `CFD_ECSET` (R411). -/
def Reg.CFD_ECSET (u : Nat) : Nat := 0x270800 + 0x1000 * u
/-- `CFD_ECSET.TEC`. -/
def F.CFD_ECSET_TEC (u : Nat) : RegField := ⟨0x270800 + 0x1000 * u, 8, 0⟩
/-- `CFD_ECSET.REC`. -/
def F.CFD_ECSET_REC (u : Nat) : RegField := ⟨0x270800 + 0x1000 * u, 16, 9⟩
/-- `CFD_ECSET.GO`. -/
def F.CFD_ECSET_GO (u : Nat) : RegField := ⟨0x270800 + 0x1000 * u, 31, 31⟩
/-- `TIM_CTRL` (R433). -/
def Reg.TIM_CTRL : Nat := 0x280000
/-- `TIM_CTRL.REF`. -/
def F.TIM_CTRL_REF : RegField := ⟨0x280000, 1, 0⟩
/-- `TIM_STAT` (R433). -/
def Reg.TIM_STAT : Nat := 0x280004
/-- `TIM_STAT.UNSET`. -/
def F.TIM_STAT_UNSET : RegField := ⟨0x280004, 0, 0⟩
/-- `TIM_STAT.REFOK`. -/
def F.TIM_STAT_REFOK : RegField := ⟨0x280004, 1, 1⟩
/-- `TIM_STAT.SLEW`. -/
def F.TIM_STAT_SLEW : RegField := ⟨0x280004, 2, 2⟩
/-- `TIM_TIME_W0` (R433). -/
def Reg.TIM_TIME_W0 : Nat := 0x280010
/-- `TIM_TIME_W0.FRAC`. -/
def F.TIM_TIME_W0_FRAC : RegField := ⟨0x280010, 15, 0⟩
/-- `TIM_TIME_W1` (R433). -/
def Reg.TIM_TIME_W1 : Nat := 0x280014
/-- `TIM_TIME_W1.NS`. -/
def F.TIM_TIME_W1_NS : RegField := ⟨0x280014, 29, 0⟩
/-- `TIM_TIME_W2` (R433). -/
def Reg.TIM_TIME_W2 : Nat := 0x280018
/-- `TIM_TIME_W2.SEC`. -/
def F.TIM_TIME_W2_SEC : RegField := ⟨0x280018, 31, 0⟩
/-- `TIM_TIME_W3` (R433). -/
def Reg.TIM_TIME_W3 : Nat := 0x28001C
/-- `TIM_TIME_W3.SEC`. -/
def F.TIM_TIME_W3_SEC : RegField := ⟨0x28001C, 31, 0⟩
/-- `TIM_SET_W0` (R433). -/
def Reg.TIM_SET_W0 : Nat := 0x280020
/-- `TIM_SET_W0.FRAC`. -/
def F.TIM_SET_W0_FRAC : RegField := ⟨0x280020, 15, 0⟩
/-- `TIM_SET_W1` (R433). -/
def Reg.TIM_SET_W1 : Nat := 0x280024
/-- `TIM_SET_W1.NS`. -/
def F.TIM_SET_W1_NS : RegField := ⟨0x280024, 29, 0⟩
/-- `TIM_SET_W2` (R433). -/
def Reg.TIM_SET_W2 : Nat := 0x280028
/-- `TIM_SET_W2.SEC`. -/
def F.TIM_SET_W2_SEC : RegField := ⟨0x280028, 31, 0⟩
/-- `TIM_SET_W3` (R433). -/
def Reg.TIM_SET_W3 : Nat := 0x28002C
/-- `TIM_SET_W3.SEC`. -/
def F.TIM_SET_W3_SEC : RegField := ⟨0x28002C, 31, 0⟩
/-- `TIM_INCR_LO` (R433). -/
def Reg.TIM_INCR_LO : Nat := 0x280030
/-- `TIM_INCR_LO.FRAC`. -/
def F.TIM_INCR_LO_FRAC : RegField := ⟨0x280030, 31, 0⟩
/-- `TIM_INCR_HI` (R433). -/
def Reg.TIM_INCR_HI : Nat := 0x280034
/-- `TIM_INCR_HI.NS`. -/
def F.TIM_INCR_HI_NS : RegField := ⟨0x280034, 3, 0⟩
/-- `TIM_ADJ` (R433). -/
def Reg.TIM_ADJ : Nat := 0x280038
/-- `TIM_ADJ.NS`. -/
def F.TIM_ADJ_NS : RegField := ⟨0x280038, 31, 0⟩
/-- `TIM_SYNC` (R433). -/
def Reg.TIM_SYNC : Nat := 0x280040
/-- `TIM_SYNC.LOCKED`. -/
def F.TIM_SYNC_LOCKED : RegField := ⟨0x280040, 0, 0⟩
/-- `TIM_SYNC.HOLD`. -/
def F.TIM_SYNC_HOLD : RegField := ⟨0x280040, 15, 8⟩
/-- `TIM_POn_START_W0` (R433). -/
def Reg.TIM_PO_START_W0 (n : Nat) : Nat := 0x280100 + 0x20 * n
/-- `TIM_POn_START_W0.NS`. -/
def F.TIM_PO_START_W0_NS (n : Nat) : RegField := ⟨0x280100 + 0x20 * n, 29, 0⟩
/-- `TIM_POn_START_W1` (R433). -/
def Reg.TIM_PO_START_W1 (n : Nat) : Nat := 0x280104 + 0x20 * n
/-- `TIM_POn_START_W1.SEC`. -/
def F.TIM_PO_START_W1_SEC (n : Nat) : RegField := ⟨0x280104 + 0x20 * n, 31, 0⟩
/-- `TIM_POn_START_W2` (R433). -/
def Reg.TIM_PO_START_W2 (n : Nat) : Nat := 0x280108 + 0x20 * n
/-- `TIM_POn_START_W2.SEC`. -/
def F.TIM_PO_START_W2_SEC (n : Nat) : RegField := ⟨0x280108 + 0x20 * n, 31, 0⟩
/-- `TIM_POn_PERIOD` (R433). -/
def Reg.TIM_PO_PERIOD (n : Nat) : Nat := 0x28010C + 0x20 * n
/-- `TIM_POn_PERIOD.NS`. -/
def F.TIM_PO_PERIOD_NS (n : Nat) : RegField := ⟨0x28010C + 0x20 * n, 31, 0⟩
/-- `TIM_POn_WIDTH` (R433). -/
def Reg.TIM_PO_WIDTH (n : Nat) : Nat := 0x280110 + 0x20 * n
/-- `TIM_POn_WIDTH.NS`. -/
def F.TIM_PO_WIDTH_NS (n : Nat) : RegField := ⟨0x280110 + 0x20 * n, 31, 0⟩
/-- `TIM_POn_COUNT` (R433). -/
def Reg.TIM_PO_COUNT (n : Nat) : Nat := 0x280114 + 0x20 * n
/-- `TIM_POn_COUNT.CNT`. -/
def F.TIM_PO_COUNT_CNT (n : Nat) : RegField := ⟨0x280114 + 0x20 * n, 31, 0⟩
/-- `TIM_POn_CTRL` (R433). -/
def Reg.TIM_PO_CTRL (n : Nat) : Nat := 0x280118 + 0x20 * n
/-- `TIM_POn_CTRL.EN`. -/
def F.TIM_PO_CTRL_EN (n : Nat) : RegField := ⟨0x280118 + 0x20 * n, 0, 0⟩
/-- `TIM_POn_CTRL.POL`. -/
def F.TIM_PO_CTRL_POL (n : Nat) : RegField := ⟨0x280118 + 0x20 * n, 1, 1⟩
/-- `TIM_CIn_CTRL` (R433). -/
def Reg.TIM_CI_CTRL (n : Nat) : Nat := 0x280200 + 0x20 * n
/-- `TIM_CIn_CTRL.EN`. -/
def F.TIM_CI_CTRL_EN (n : Nat) : RegField := ⟨0x280200 + 0x20 * n, 0, 0⟩
/-- `TIM_CIn_CTRL.EDGE`. -/
def F.TIM_CI_CTRL_EDGE (n : Nat) : RegField := ⟨0x280200 + 0x20 * n, 2, 1⟩
/-- `TIM_CIn_CTRL.FILT`. -/
def F.TIM_CI_CTRL_FILT (n : Nat) : RegField := ⟨0x280200 + 0x20 * n, 7, 4⟩
/-- `TIM_CIn_STAT` (R433). -/
def Reg.TIM_CI_STAT (n : Nat) : Nat := 0x280204 + 0x20 * n
/-- `TIM_CIn_STAT.COUNT`. -/
def F.TIM_CI_STAT_COUNT (n : Nat) : RegField := ⟨0x280204 + 0x20 * n, 4, 0⟩
/-- `TIM_CIn_STAT.OVF`. -/
def F.TIM_CI_STAT_OVF (n : Nat) : RegField := ⟨0x280204 + 0x20 * n, 8, 8⟩
/-- `TIM_CIn_STAT.DROP`. -/
def F.TIM_CI_STAT_DROP (n : Nat) : RegField := ⟨0x280204 + 0x20 * n, 31, 16⟩
/-- `TIM_CIn_POP` (R433). -/
def Reg.TIM_CI_POP (n : Nat) : Nat := 0x280208 + 0x20 * n
/-- `TIM_CIn_POP.POP`. -/
def F.TIM_CI_POP_POP (n : Nat) : RegField := ⟨0x280208 + 0x20 * n, 0, 0⟩
/-- `TIM_CIn_E0` (R433). -/
def Reg.TIM_CI_E0 (n : Nat) : Nat := 0x28020C + 0x20 * n
/-- `TIM_CIn_E0.NS`. -/
def F.TIM_CI_E0_NS (n : Nat) : RegField := ⟨0x28020C + 0x20 * n, 29, 0⟩
/-- `TIM_CIn_E0.RISE`. -/
def F.TIM_CI_E0_RISE (n : Nat) : RegField := ⟨0x28020C + 0x20 * n, 30, 30⟩
/-- `TIM_CIn_E0.VALID`. -/
def F.TIM_CI_E0_VALID (n : Nat) : RegField := ⟨0x28020C + 0x20 * n, 31, 31⟩
/-- `TIM_CIn_E1` (R433). -/
def Reg.TIM_CI_E1 (n : Nat) : Nat := 0x280210 + 0x20 * n
/-- `TIM_CIn_E1.FRAC`. -/
def F.TIM_CI_E1_FRAC (n : Nat) : RegField := ⟨0x280210 + 0x20 * n, 15, 0⟩
/-- `TIM_CIn_E2` (R433). -/
def Reg.TIM_CI_E2 (n : Nat) : Nat := 0x280214 + 0x20 * n
/-- `TIM_CIn_E2.SEC`. -/
def F.TIM_CI_E2_SEC (n : Nat) : RegField := ⟨0x280214 + 0x20 * n, 31, 0⟩
/-- `TIM_CIn_E3` (R433). -/
def Reg.TIM_CI_E3 (n : Nat) : Nat := 0x280218 + 0x20 * n
/-- `TIM_CIn_E3.SEC`. -/
def F.TIM_CI_E3_SEC (n : Nat) : RegField := ⟨0x280218 + 0x20 * n, 31, 0⟩
/-- `TIM_TXQp_STAT` (R433). -/
def Reg.TIM_TXQ_STAT (p : Nat) : Nat := 0x280400 + 0x20 * p
/-- `TIM_TXQp_STAT.COUNT`. -/
def F.TIM_TXQ_STAT_COUNT (p : Nat) : RegField := ⟨0x280400 + 0x20 * p, 5, 0⟩
/-- `TIM_TXQp_STAT.OVF`. -/
def F.TIM_TXQ_STAT_OVF (p : Nat) : RegField := ⟨0x280400 + 0x20 * p, 8, 8⟩
/-- `TIM_TXQp_STAT.DROP`. -/
def F.TIM_TXQ_STAT_DROP (p : Nat) : RegField := ⟨0x280400 + 0x20 * p, 31, 16⟩
/-- `TIM_TXQp_POP` (R433). -/
def Reg.TIM_TXQ_POP (p : Nat) : Nat := 0x280404 + 0x20 * p
/-- `TIM_TXQp_POP.POP`. -/
def F.TIM_TXQ_POP_POP (p : Nat) : RegField := ⟨0x280404 + 0x20 * p, 0, 0⟩
/-- `TIM_TXQp_E0` (R433). -/
def Reg.TIM_TXQ_E0 (p : Nat) : Nat := 0x280408 + 0x20 * p
/-- `TIM_TXQp_E0.NS`. -/
def F.TIM_TXQ_E0_NS (p : Nat) : RegField := ⟨0x280408 + 0x20 * p, 29, 0⟩
/-- `TIM_TXQp_E0.VALID`. -/
def F.TIM_TXQ_E0_VALID (p : Nat) : RegField := ⟨0x280408 + 0x20 * p, 31, 31⟩
/-- `TIM_TXQp_E1` (R433). -/
def Reg.TIM_TXQ_E1 (p : Nat) : Nat := 0x28040C + 0x20 * p
/-- `TIM_TXQp_E1.FRAC`. -/
def F.TIM_TXQ_E1_FRAC (p : Nat) : RegField := ⟨0x28040C + 0x20 * p, 15, 0⟩
/-- `TIM_TXQp_E1.TSID`. -/
def F.TIM_TXQ_E1_TSID (p : Nat) : RegField := ⟨0x28040C + 0x20 * p, 31, 16⟩
/-- `TIM_TXQp_E2` (R433). -/
def Reg.TIM_TXQ_E2 (p : Nat) : Nat := 0x280410 + 0x20 * p
/-- `TIM_TXQp_E2.SEC`. -/
def F.TIM_TXQ_E2_SEC (p : Nat) : RegField := ⟨0x280410 + 0x20 * p, 31, 0⟩
/-- `TIM_TXQp_E3` (R433). -/
def Reg.TIM_TXQ_E3 (p : Nat) : Nat := 0x280414 + 0x20 * p
/-- `TIM_TXQp_E3.SEC`. -/
def F.TIM_TXQ_E3_SEC (p : Nat) : RegField := ⟨0x280414 + 0x20 * p, 31, 0⟩
/-- `TIM_LOCK` (R433). -/
def Reg.TIM_LOCK : Nat := 0x2807F0
/-- `TIM_LOCK.LOCK`. -/
def F.TIM_LOCK_LOCK : RegField := ⟨0x2807F0, 0, 0⟩
/-- `ETH_CTRL` (R434). -/
def Reg.ETH_CTRL (u : Nat) : Nat := 0x290000 + 0x1000 * u
/-- `ETH_CTRL.EN`. -/
def F.ETH_CTRL_EN (u : Nat) : RegField := ⟨0x290000 + 0x1000 * u, 0, 0⟩
/-- `ETH_CTRL.RATE`. -/
def F.ETH_CTRL_RATE (u : Nat) : RegField := ⟨0x290000 + 0x1000 * u, 3, 1⟩
/-- `ETH_CTRL.FEC25`. -/
def F.ETH_CTRL_FEC25 (u : Nat) : RegField := ⟨0x290000 + 0x1000 * u, 5, 4⟩
/-- `ETH_CTRL.PAUSE`. -/
def F.ETH_CTRL_PAUSE (u : Nat) : RegField := ⟨0x290000 + 0x1000 * u, 6, 6⟩
/-- `ETH_STAT` (R434). -/
def Reg.ETH_STAT (u : Nat) : Nat := 0x290004 + 0x1000 * u
/-- `ETH_STAT.LINK`. -/
def F.ETH_STAT_LINK (u : Nat) : RegField := ⟨0x290004 + 0x1000 * u, 0, 0⟩
/-- `ETH_STAT.FAULT`. -/
def F.ETH_STAT_FAULT (u : Nat) : RegField := ⟨0x290004 + 0x1000 * u, 3, 1⟩
/-- `ETH_MAC_LO` (R434). -/
def Reg.ETH_MAC_LO (u : Nat) : Nat := 0x290008 + 0x1000 * u
/-- `ETH_MAC_LO.MAC`. -/
def F.ETH_MAC_LO_MAC (u : Nat) : RegField := ⟨0x290008 + 0x1000 * u, 31, 0⟩
/-- `ETH_MAC_HI` (R434). -/
def Reg.ETH_MAC_HI (u : Nat) : Nat := 0x29000C + 0x1000 * u
/-- `ETH_MAC_HI.MAC`. -/
def F.ETH_MAC_HI_MAC (u : Nat) : RegField := ⟨0x29000C + 0x1000 * u, 15, 0⟩
/-- `ETH_FECCNT` (R434). -/
def Reg.ETH_FECCNT (u : Nat) : Nat := 0x290010 + 0x1000 * u
/-- `ETH_FECCNT.CORR`. -/
def F.ETH_FECCNT_CORR (u : Nat) : RegField := ⟨0x290010 + 0x1000 * u, 15, 0⟩
/-- `ETH_FECCNT.UNCORR`. -/
def F.ETH_FECCNT_UNCORR (u : Nat) : RegField := ⟨0x290010 + 0x1000 * u, 31, 16⟩
/-- `ETH_RXDROP` (R434). -/
def Reg.ETH_RXDROP (u : Nat) : Nat := 0x290014 + 0x1000 * u
/-- `ETH_RXDROP.NOBUF`. -/
def F.ETH_RXDROP_NOBUF (u : Nat) : RegField := ⟨0x290014 + 0x1000 * u, 15, 0⟩
/-- `ETH_RXDROP.LONG`. -/
def F.ETH_RXDROP_LONG (u : Nat) : RegField := ⟨0x290014 + 0x1000 * u, 31, 16⟩
/-- `ETH_PTPQ` (R434). -/
def Reg.ETH_PTPQ (u : Nat) : Nat := 0x290018 + 0x1000 * u
/-- `ETH_PTPQ.RING`. -/
def F.ETH_PTPQ_RING (u : Nat) : RegField := ⟨0x290018 + 0x1000 * u, 2, 0⟩
/-- `ETH_PRIMAP` (R434). -/
def Reg.ETH_PRIMAP (u : Nat) : Nat := 0x29001C + 0x1000 * u
/-- `ETH_PRIMAP.MAP`. -/
def F.ETH_PRIMAP_MAP (u : Nat) : RegField := ⟨0x29001C + 0x1000 * u, 23, 0⟩
/-- `ETH_MCm_LO` (R434). -/
def Reg.ETH_MC_LO (u : Nat) (m : Nat) : Nat := 0x290080 + 0x1000 * u + 0x8 * m
/-- `ETH_MCm_LO.ADDR_LO`. -/
def F.ETH_MC_LO_ADDR_LO (u : Nat) (m : Nat) : RegField := ⟨0x290080 + 0x1000 * u + 0x8 * m, 31, 0⟩
/-- `ETH_MCm_HI` (R434). -/
def Reg.ETH_MC_HI (u : Nat) (m : Nat) : Nat := 0x290084 + 0x1000 * u + 0x8 * m
/-- `ETH_MCm_HI.ADDR_HI`. -/
def F.ETH_MC_HI_ADDR_HI (u : Nat) (m : Nat) : RegField := ⟨0x290084 + 0x1000 * u + 0x8 * m, 15, 0⟩
/-- `ETH_MCm_HI.EN`. -/
def F.ETH_MC_HI_EN (u : Nat) (m : Nat) : RegField := ⟨0x290084 + 0x1000 * u + 0x8 * m, 16, 16⟩
/-- `ETH_TXr_BASE_LO` (R434). -/
def Reg.ETH_TX_BASE_LO (u : Nat) (r : Nat) : Nat := 0x290100 + 0x1000 * u + 0x20 * r
/-- `ETH_TXr_BASE_LO.BASE`. -/
def F.ETH_TX_BASE_LO_BASE (u : Nat) (r : Nat) : RegField := ⟨0x290100 + 0x1000 * u + 0x20 * r, 31, 4⟩
/-- `ETH_TXr_BASE_HI` (R434). -/
def Reg.ETH_TX_BASE_HI (u : Nat) (r : Nat) : Nat := 0x290104 + 0x1000 * u + 0x20 * r
/-- `ETH_TXr_BASE_HI.BASE`. -/
def F.ETH_TX_BASE_HI_BASE (u : Nat) (r : Nat) : RegField := ⟨0x290104 + 0x1000 * u + 0x20 * r, 15, 0⟩
/-- `ETH_TXr_CFG` (R434). -/
def Reg.ETH_TX_CFG (u : Nat) (r : Nat) : Nat := 0x290108 + 0x1000 * u + 0x20 * r
/-- `ETH_TXr_CFG.QSZ`. -/
def F.ETH_TX_CFG_QSZ (u : Nat) (r : Nat) : RegField := ⟨0x290108 + 0x1000 * u + 0x20 * r, 3, 0⟩
/-- `ETH_TXr_CFG.EN`. -/
def F.ETH_TX_CFG_EN (u : Nat) (r : Nat) : RegField := ⟨0x290108 + 0x1000 * u + 0x20 * r, 4, 4⟩
/-- `ETH_TXr_CFG.CTX`. -/
def F.ETH_TX_CFG_CTX (u : Nat) (r : Nat) : RegField := ⟨0x290108 + 0x1000 * u + 0x20 * r, 10, 5⟩
/-- `ETH_TXr_CFG.PRIO`. -/
def F.ETH_TX_CFG_PRIO (u : Nat) (r : Nat) : RegField := ⟨0x290108 + 0x1000 * u + 0x20 * r, 12, 11⟩
/-- `ETH_TXr_TAIL` (R434). -/
def Reg.ETH_TX_TAIL (u : Nat) (r : Nat) : Nat := 0x29010C + 0x1000 * u + 0x20 * r
/-- `ETH_TXr_TAIL.TAIL`. -/
def F.ETH_TX_TAIL_TAIL (u : Nat) (r : Nat) : RegField := ⟨0x29010C + 0x1000 * u + 0x20 * r, 31, 0⟩
/-- `ETH_TXr_HEAD` (R434). -/
def Reg.ETH_TX_HEAD (u : Nat) (r : Nat) : Nat := 0x290110 + 0x1000 * u + 0x20 * r
/-- `ETH_TXr_HEAD.HEAD`. -/
def F.ETH_TX_HEAD_HEAD (u : Nat) (r : Nat) : RegField := ⟨0x290110 + 0x1000 * u + 0x20 * r, 31, 0⟩
/-- `ETH_RXr_BASE_LO` (R434). -/
def Reg.ETH_RX_BASE_LO (u : Nat) (r : Nat) : Nat := 0x290300 + 0x1000 * u + 0x20 * r
/-- `ETH_RXr_BASE_LO.BASE`. -/
def F.ETH_RX_BASE_LO_BASE (u : Nat) (r : Nat) : RegField := ⟨0x290300 + 0x1000 * u + 0x20 * r, 31, 5⟩
/-- `ETH_RXr_BASE_HI` (R434). -/
def Reg.ETH_RX_BASE_HI (u : Nat) (r : Nat) : Nat := 0x290304 + 0x1000 * u + 0x20 * r
/-- `ETH_RXr_BASE_HI.BASE`. -/
def F.ETH_RX_BASE_HI_BASE (u : Nat) (r : Nat) : RegField := ⟨0x290304 + 0x1000 * u + 0x20 * r, 15, 0⟩
/-- `ETH_RXr_CFG` (R434). -/
def Reg.ETH_RX_CFG (u : Nat) (r : Nat) : Nat := 0x290308 + 0x1000 * u + 0x20 * r
/-- `ETH_RXr_CFG.QSZ`. -/
def F.ETH_RX_CFG_QSZ (u : Nat) (r : Nat) : RegField := ⟨0x290308 + 0x1000 * u + 0x20 * r, 3, 0⟩
/-- `ETH_RXr_CFG.EN`. -/
def F.ETH_RX_CFG_EN (u : Nat) (r : Nat) : RegField := ⟨0x290308 + 0x1000 * u + 0x20 * r, 4, 4⟩
/-- `ETH_RXr_CFG.CTX`. -/
def F.ETH_RX_CFG_CTX (u : Nat) (r : Nat) : RegField := ⟨0x290308 + 0x1000 * u + 0x20 * r, 10, 5⟩
/-- `ETH_RXr_CFG.BUFSZ`. -/
def F.ETH_RX_CFG_BUFSZ (u : Nat) (r : Nat) : RegField := ⟨0x290308 + 0x1000 * u + 0x20 * r, 13, 11⟩
/-- `ETH_RXr_TAIL` (R434). -/
def Reg.ETH_RX_TAIL (u : Nat) (r : Nat) : Nat := 0x29030C + 0x1000 * u + 0x20 * r
/-- `ETH_RXr_TAIL.TAIL`. -/
def F.ETH_RX_TAIL_TAIL (u : Nat) (r : Nat) : RegField := ⟨0x29030C + 0x1000 * u + 0x20 * r, 31, 0⟩
/-- `ETH_RXr_HEAD` (R434). -/
def Reg.ETH_RX_HEAD (u : Nat) (r : Nat) : Nat := 0x290310 + 0x1000 * u + 0x20 * r
/-- `ETH_RXr_HEAD.HEAD`. -/
def F.ETH_RX_HEAD_HEAD (u : Nat) (r : Nat) : RegField := ⟨0x290310 + 0x1000 * u + 0x20 * r, 31, 0⟩
/-- `ETH_RXr_SIG` (R434). -/
def Reg.ETH_RX_SIG (u : Nat) (r : Nat) : Nat := 0x290314 + 0x1000 * u + 0x20 * r
/-- `ETH_RXr_SIG.RING`. -/
def F.ETH_RX_SIG_RING (u : Nat) (r : Nat) : RegField := ⟨0x290314 + 0x1000 * u + 0x20 * r, 15, 0⟩
/-- `ETH_RXr_SIG.SIGEN`. -/
def F.ETH_RX_SIG_SIGEN (u : Nat) (r : Nat) : RegField := ⟨0x290314 + 0x1000 * u + 0x20 * r, 16, 16⟩
/-- `ETH_RXr_SIG.VEC`. -/
def F.ETH_RX_SIG_VEC (u : Nat) (r : Nat) : RegField := ⟨0x290314 + 0x1000 * u + 0x20 * r, 22, 17⟩
/-- `ETH_LOCK` (R434). -/
def Reg.ETH_LOCK (u : Nat) : Nat := 0x2907F0 + 0x1000 * u
/-- `ETH_LOCK.LOCK`. -/
def F.ETH_LOCK_LOCK (u : Nat) : RegField := ⟨0x2907F0 + 0x1000 * u, 0, 0⟩
/-- `ETH_TSCOR` (R434). -/
def Reg.ETH_TSCOR (u : Nat) : Nat := 0x290800 + 0x1000 * u
/-- `ETH_TSCOR.TXCOR`. -/
def F.ETH_TSCOR_TXCOR (u : Nat) : RegField := ⟨0x290800 + 0x1000 * u, 15, 0⟩
/-- `ETH_TSCOR.RXCOR`. -/
def F.ETH_TSCOR_RXCOR (u : Nat) : RegField := ⟨0x290800 + 0x1000 * u, 31, 16⟩
/-- `GRV_CTRL` (R452). -/
def Reg.GRV_CTRL : Nat := 0x2A0000
/-- `GRV_CTRL.EN`. -/
def F.GRV_CTRL_EN : RegField := ⟨0x2A0000, 0, 0⟩
/-- `GRV_CTRL.V6`. -/
def F.GRV_CTRL_V6 : RegField := ⟨0x2A0000, 1, 1⟩
/-- `GRV_CTRL.L3`. -/
def F.GRV_CTRL_L3 : RegField := ⟨0x2A0000, 2, 2⟩
/-- `GRV_CTRL.PORTSEL`. -/
def F.GRV_CTRL_PORTSEL : RegField := ⟨0x2A0000, 4, 3⟩
/-- `GRV_CTRL.MTU`. -/
def F.GRV_CTRL_MTU : RegField := ⟨0x2A0000, 5, 5⟩
/-- `GRV_DEVID` (R452). -/
def Reg.GRV_DEVID : Nat := 0x2A0004
/-- `GRV_DEVID.ID`. -/
def F.GRV_DEVID_ID : RegField := ⟨0x2A0004, 13, 0⟩
/-- `GRV_UDPPORT` (R452). -/
def Reg.GRV_UDPPORT : Nat := 0x2A0008
/-- `GRV_UDPPORT.PORT`. -/
def F.GRV_UDPPORT_PORT : RegField := ⟨0x2A0008, 15, 0⟩
/-- `GRV_NET_W0` (R452). -/
def Reg.GRV_NET_W0 : Nat := 0x2A0010
/-- `GRV_NET_W0.NET`. -/
def F.GRV_NET_W0_NET : RegField := ⟨0x2A0010, 31, 0⟩
/-- `GRV_NET_W1` (R452). -/
def Reg.GRV_NET_W1 : Nat := 0x2A0014
/-- `GRV_NET_W1.NET`. -/
def F.GRV_NET_W1_NET : RegField := ⟨0x2A0014, 31, 0⟩
/-- `GRV_NET_W2` (R452). -/
def Reg.GRV_NET_W2 : Nat := 0x2A0018
/-- `GRV_NET_W2.NET`. -/
def F.GRV_NET_W2_NET : RegField := ⟨0x2A0018, 31, 0⟩
/-- `GRV_NET_W3` (R452). -/
def Reg.GRV_NET_W3 : Nat := 0x2A001C
/-- `GRV_NET_W3.NET`. -/
def F.GRV_NET_W3_NET : RegField := ⟨0x2A001C, 31, 0⟩
/-- `GRV_GWMAC_LO` (R452). -/
def Reg.GRV_GWMAC_LO : Nat := 0x2A0020
/-- `GRV_GWMAC_LO.MAC_LO`. -/
def F.GRV_GWMAC_LO_MAC_LO : RegField := ⟨0x2A0020, 31, 0⟩
/-- `GRV_GWMAC_HI` (R452). -/
def Reg.GRV_GWMAC_HI : Nat := 0x2A0024
/-- `GRV_GWMAC_HI.MAC_HI`. -/
def F.GRV_GWMAC_HI_MAC_HI : RegField := ⟨0x2A0024, 15, 0⟩
/-- `GRV_STBASE_LO` (R452). -/
def Reg.GRV_STBASE_LO : Nat := 0x2A0028
/-- `GRV_STBASE_LO.BASE_LO`. -/
def F.GRV_STBASE_LO_BASE_LO : RegField := ⟨0x2A0028, 31, 21⟩
/-- `GRV_STBASE_HI` (R452). -/
def Reg.GRV_STBASE_HI : Nat := 0x2A002C
/-- `GRV_STBASE_HI.BASE_HI`. -/
def F.GRV_STBASE_HI_BASE_HI : RegField := ⟨0x2A002C, 15, 0⟩
/-- `GRV_RXDROP` (R452). -/
def Reg.GRV_RXDROP : Nat := 0x2A0030
/-- `GRV_RXDROP.CNT`. -/
def F.GRV_RXDROP_CNT : RegField := ⟨0x2A0030, 15, 0⟩
/-- `GRV_LOCK` (R452). -/
def Reg.GRV_LOCK : Nat := 0x2A07F0
/-- `GRV_LOCK.LOCK`. -/
def F.GRV_LOCK_LOCK : RegField := ⟨0x2A07F0, 0, 0⟩
/-- `GRV_RETRY` (R452). -/
def Reg.GRV_RETRY : Nat := 0x2A0800
/-- `GRV_RETRY.RTO`. -/
def F.GRV_RETRY_RTO : RegField := ⟨0x2A0800, 9, 0⟩
/-- `GRV_RETRY.LIM`. -/
def F.GRV_RETRY_LIM : RegField := ⟨0x2A0800, 15, 10⟩
/-- `GRV_CHc_QBASE_LO` (R452). -/
def Reg.GRV_CH_QBASE_LO (c : Nat) : Nat := 0x2A1000 + 0x10 * c
/-- `GRV_CHc_QBASE_LO.BASE_LO`. -/
def F.GRV_CH_QBASE_LO_BASE_LO (c : Nat) : RegField := ⟨0x2A1000 + 0x10 * c, 31, 5⟩
/-- `GRV_CHc_QBASE_HI` (R452). -/
def Reg.GRV_CH_QBASE_HI (c : Nat) : Nat := 0x2A1004 + 0x10 * c
/-- `GRV_CHc_QBASE_HI.BASE_HI`. -/
def F.GRV_CH_QBASE_HI_BASE_HI (c : Nat) : RegField := ⟨0x2A1004 + 0x10 * c, 15, 0⟩
/-- `GRV_CHc_CFG` (R452). -/
def Reg.GRV_CH_CFG (c : Nat) : Nat := 0x2A1008 + 0x10 * c
/-- `GRV_CHc_CFG.QSZ`. -/
def F.GRV_CH_CFG_QSZ (c : Nat) : RegField := ⟨0x2A1008 + 0x10 * c, 3, 0⟩
/-- `GRV_CHc_CFG.EN`. -/
def F.GRV_CH_CFG_EN (c : Nat) : RegField := ⟨0x2A1008 + 0x10 * c, 4, 4⟩
/-- `GRV_CHc_CFG.DBRING`. -/
def F.GRV_CH_CFG_DBRING (c : Nat) : RegField := ⟨0x2A1008 + 0x10 * c, 14, 5⟩
/-- `GRV_CHc_HEAD` (R452). -/
def Reg.GRV_CH_HEAD (c : Nat) : Nat := 0x2A100C + 0x10 * c
/-- `GRV_CHc_HEAD.HEAD`. -/
def F.GRV_CH_HEAD_HEAD (c : Nat) : RegField := ⟨0x2A100C + 0x10 * c, 31, 0⟩
/-- `GRV_BARb_CFG` (R452). -/
def Reg.GRV_BAR_CFG (b : Nat) : Nat := 0x2A2000 + 0x20 * b
/-- `GRV_BARb_CFG.EN`. -/
def F.GRV_BAR_CFG_EN (b : Nat) : RegField := ⟨0x2A2000 + 0x20 * b, 0, 0⟩
/-- `GRV_BARb_CFG.CH`. -/
def F.GRV_BAR_CFG_CH (b : Nat) : RegField := ⟨0x2A2000 + 0x20 * b, 6, 1⟩
/-- `GRV_BARb_CFG.ARING`. -/
def F.GRV_BAR_CFG_ARING (b : Nat) : RegField := ⟨0x2A2000 + 0x20 * b, 16, 7⟩
/-- `GRV_BARb_CFG.RRING`. -/
def F.GRV_BAR_CFG_RRING (b : Nat) : RegField := ⟨0x2A2000 + 0x20 * b, 26, 17⟩
/-- `GRV_BARb_CFG.TMO`. -/
def F.GRV_BAR_CFG_TMO (b : Nat) : RegField := ⟨0x2A2000 + 0x20 * b, 31, 27⟩
/-- `GRV_BARb_PART` (R452). -/
def Reg.GRV_BAR_PART (b : Nat) : Nat := 0x2A2004 + 0x20 * b
/-- `GRV_BARb_PART.COORD`. -/
def F.GRV_BAR_PART_COORD (b : Nat) : RegField := ⟨0x2A2004 + 0x20 * b, 13, 0⟩
/-- `GRV_BARb_PART.NM1`. -/
def F.GRV_BAR_PART_NM1 (b : Nat) : RegField := ⟨0x2A2004 + 0x20 * b, 30, 16⟩
/-- `GRV_BARb_LEAD` (R452). -/
def Reg.GRV_BAR_LEAD (b : Nat) : Nat := 0x2A2008 + 0x20 * b
/-- `GRV_BARb_LEAD.LEAD`. -/
def F.GRV_BAR_LEAD_LEAD (b : Nat) : RegField := ⟨0x2A2008 + 0x20 * b, 15, 0⟩
/-- `GRV_BARb_STAT` (R452). -/
def Reg.GRV_BAR_STAT (b : Nat) : Nat := 0x2A200C + 0x20 * b
/-- `GRV_BARb_STAT.STATE`. -/
def F.GRV_BAR_STAT_STATE (b : Nat) : RegField := ⟨0x2A200C + 0x20 * b, 2, 0⟩
/-- `GRV_BARb_STAT.COND`. -/
def F.GRV_BAR_STAT_COND (b : Nat) : RegField := ⟨0x2A200C + 0x20 * b, 3, 3⟩
/-- `GRV_BARb_STAT.GEN`. -/
def F.GRV_BAR_STAT_GEN (b : Nat) : RegField := ⟨0x2A200C + 0x20 * b, 31, 16⟩
/-- `GRV_BARb_T_LO` (R452). -/
def Reg.GRV_BAR_T_LO (b : Nat) : Nat := 0x2A2010 + 0x20 * b
/-- `GRV_BARb_T_LO.T_LO`. -/
def F.GRV_BAR_T_LO_T_LO (b : Nat) : RegField := ⟨0x2A2010 + 0x20 * b, 31, 0⟩
/-- `GRV_BARb_T_HI` (R452). -/
def Reg.GRV_BAR_T_HI (b : Nat) : Nat := 0x2A2014 + 0x20 * b
/-- `GRV_BARb_T_HI.T_HI`. -/
def F.GRV_BAR_T_HI_T_HI (b : Nat) : RegField := ⟨0x2A2014 + 0x20 * b, 31, 0⟩
/-- `BGH_MTIME_LO` (R467). -/
def Reg.BGH_MTIME_LO : Nat := 0x2B0010
/-- `BGH_MTIME_LO.T_LO`. -/
def F.BGH_MTIME_LO_T_LO : RegField := ⟨0x2B0010, 31, 0⟩
/-- `BGH_MTIME_HI` (R467). -/
def Reg.BGH_MTIME_HI : Nat := 0x2B0014
/-- `BGH_MTIME_HI.T_HI`. -/
def F.BGH_MTIME_HI_T_HI : RegField := ⟨0x2B0014, 31, 0⟩
/-- `BGH_PAIRp_CMD` (R467). -/
def Reg.BGH_PAIR_CMD (p : Nat) : Nat := 0x2B0100 + 0x20 * p
/-- `BGH_PAIRp_CMD.SPLIT`. -/
def F.BGH_PAIR_CMD_SPLIT (p : Nat) : RegField := ⟨0x2B0100 + 0x20 * p, 0, 0⟩
/-- `BGH_PAIRp_CMD.PARK`. -/
def F.BGH_PAIR_CMD_PARK (p : Nat) : RegField := ⟨0x2B0100 + 0x20 * p, 1, 1⟩
/-- `BGH_PAIRp_CMD.UNPARK`. -/
def F.BGH_PAIR_CMD_UNPARK (p : Nat) : RegField := ⟨0x2B0100 + 0x20 * p, 2, 2⟩
/-- `BGH_PAIRp_CMD.JOIN`. -/
def F.BGH_PAIR_CMD_JOIN (p : Nat) : RegField := ⟨0x2B0100 + 0x20 * p, 3, 3⟩
/-- `BGH_PAIRp_CMD.READMIT`. -/
def F.BGH_PAIR_CMD_READMIT (p : Nat) : RegField := ⟨0x2B0100 + 0x20 * p, 4, 4⟩
/-- `BGH_PAIRp_CMD.ADMIT`. -/
def F.BGH_PAIR_CMD_ADMIT (p : Nat) : RegField := ⟨0x2B0100 + 0x20 * p, 5, 5⟩
/-- `BGH_PAIRp_CFG` (R467). -/
def Reg.BGH_PAIR_CFG (p : Nat) : Nat := 0x2B0104 + 0x20 * p
/-- `BGH_PAIRp_CFG.AGREE`. -/
def F.BGH_PAIR_CFG_AGREE (p : Nat) : RegField := ⟨0x2B0104 + 0x20 * p, 0, 0⟩
/-- `BGH_PAIRp_CFG.SPLITOK`. -/
def F.BGH_PAIR_CFG_SPLITOK (p : Nat) : RegField := ⟨0x2B0104 + 0x20 * p, 1, 1⟩
/-- `BGH_PAIRp_STAT` (R467). -/
def Reg.BGH_PAIR_STAT (p : Nat) : Nat := 0x2B0108 + 0x20 * p
/-- `BGH_PAIRp_STAT.STATE`. -/
def F.BGH_PAIR_STAT_STATE (p : Nat) : RegField := ⟨0x2B0108 + 0x20 * p, 2, 0⟩
/-- `BGH_PAIRp_STAT.SAFE`. -/
def F.BGH_PAIR_STAT_SAFE (p : Nat) : RegField := ⟨0x2B0108 + 0x20 * p, 3, 3⟩
/-- `BGH_PAIRp_STAT.PARKED`. -/
def F.BGH_PAIR_STAT_PARKED (p : Nat) : RegField := ⟨0x2B0108 + 0x20 * p, 4, 4⟩
/-- `BGH_PAIRp_STAT.AGFAIL`. -/
def F.BGH_PAIR_STAT_AGFAIL (p : Nat) : RegField := ⟨0x2B0108 + 0x20 * p, 5, 5⟩
/-- `BGH_PAIRp_STAT.ADVCNT`. -/
def F.BGH_PAIR_STAT_ADVCNT (p : Nat) : RegField := ⟨0x2B0108 + 0x20 * p, 31, 16⟩
/-- `BGH_PAIRp_ENTRY_LO` (R467). -/
def Reg.BGH_PAIR_ENTRY_LO (p : Nat) : Nat := 0x2B0110 + 0x20 * p
/-- `BGH_PAIRp_ENTRY_LO.PC_LO`. -/
def F.BGH_PAIR_ENTRY_LO_PC_LO (p : Nat) : RegField := ⟨0x2B0110 + 0x20 * p, 31, 2⟩
/-- `BGH_PAIRp_ENTRY_HI` (R467). -/
def Reg.BGH_PAIR_ENTRY_HI (p : Nat) : Nat := 0x2B0114 + 0x20 * p
/-- `BGH_PAIRp_ENTRY_HI.PC_HI`. -/
def F.BGH_PAIR_ENTRY_HI_PC_HI (p : Nat) : RegField := ⟨0x2B0114 + 0x20 * p, 15, 0⟩
/-- `BGH_COREc_STAT` (R467). -/
def Reg.BGH_CORE_STAT (c : Nat) : Nat := 0x2B0200 + 0x20 * c
/-- `BGH_COREc_STAT.CTX`. -/
def F.BGH_CORE_STAT_CTX (c : Nat) : RegField := ⟨0x2B0200 + 0x20 * c, 5, 0⟩
/-- `BGH_COREc_IPEND` (R467). -/
def Reg.BGH_CORE_IPEND (c : Nat) : Nat := 0x2B0204 + 0x20 * c
/-- `BGH_COREc_IPEND.PEND`. -/
def F.BGH_CORE_IPEND_PEND (c : Nat) : RegField := ⟨0x2B0204 + 0x20 * c, 31, 0⟩
/-- `BGH_COREc_IPSET` (R467). -/
def Reg.BGH_CORE_IPSET (c : Nat) : Nat := 0x2B0208 + 0x20 * c
/-- `BGH_COREc_IPSET.SET`. -/
def F.BGH_CORE_IPSET_SET (c : Nat) : RegField := ⟨0x2B0208 + 0x20 * c, 31, 0⟩
/-- `BGH_COREc_IEN` (R467). -/
def Reg.BGH_CORE_IEN (c : Nat) : Nat := 0x2B020C + 0x20 * c
/-- `BGH_COREc_IEN.EN`. -/
def F.BGH_CORE_IEN_EN (c : Nat) : RegField := ⟨0x2B020C + 0x20 * c, 31, 0⟩
/-- `BGH_COREc_MTIMECMP_LO` (R467). -/
def Reg.BGH_CORE_MTIMECMP_LO (c : Nat) : Nat := 0x2B0210 + 0x20 * c
/-- `BGH_COREc_MTIMECMP_LO.CMP_LO`. -/
def F.BGH_CORE_MTIMECMP_LO_CMP_LO (c : Nat) : RegField := ⟨0x2B0210 + 0x20 * c, 31, 0⟩
/-- `BGH_COREc_MTIMECMP_HI` (R467). -/
def Reg.BGH_CORE_MTIMECMP_HI (c : Nat) : Nat := 0x2B0214 + 0x20 * c
/-- `BGH_COREc_MTIMECMP_HI.CMP_HI`. -/
def F.BGH_CORE_MTIMECMP_HI_CMP_HI (c : Nat) : RegField := ⟨0x2B0214 + 0x20 * c, 31, 0⟩
/-- `BGH_LOCK` (R467). -/
def Reg.BGH_LOCK : Nat := 0x2B07F0
/-- `BGH_LOCK.LOCK`. -/
def F.BGH_LOCK_LOCK : RegField := ⟨0x2B07F0, 0, 0⟩
/-- `BGH_PAIRp_SIGPER` (R467). -/
def Reg.BGH_PAIR_SIGPER (p : Nat) : Nat := 0x2B0800 + 0x4 * p
/-- `BGH_PAIRp_SIGPER.PER`. -/
def F.BGH_PAIR_SIGPER_PER (p : Nat) : RegField := ⟨0x2B0800 + 0x4 * p, 15, 0⟩
/-- `LCS_STAT` (R486). -/
def Reg.LCS_STAT : Nat := 0x20000
/-- `LCS_STAT.STATE`. -/
def F.LCS_STAT_STATE : RegField := ⟨0x20000, 2, 0⟩
/-- `LCS_STAT.RACK`. -/
def F.LCS_STAT_RACK : RegField := ⟨0x20000, 3, 3⟩
/-- `LCS_STAT.RETLOST`. -/
def F.LCS_STAT_RETLOST : RegField := ⟨0x20000, 4, 4⟩
/-- `LCS_STAT.WIPING`. -/
def F.LCS_STAT_WIPING : RegField := ⟨0x20000, 5, 5⟩
/-- `LCS_STAT.PITHUE`. -/
def F.LCS_STAT_PITHUE : RegField := ⟨0x20000, 6, 6⟩
/-- `LCS_UID_LO` (R486). -/
def Reg.LCS_UID_LO : Nat := 0x20008
/-- `LCS_UID_LO.UID_LO`. -/
def F.LCS_UID_LO_UID_LO : RegField := ⟨0x20008, 31, 0⟩
/-- `LCS_UID_HI` (R486). -/
def Reg.LCS_UID_HI : Nat := 0x2000C
/-- `LCS_UID_HI.UID_HI`. -/
def F.LCS_UID_HI_UID_HI : RegField := ⟨0x2000C, 31, 0⟩
/-- `LCS_LCCMD` (R486). -/
def Reg.LCS_LCCMD : Nat := 0x20010
/-- `LCS_LCCMD.TARGET`. -/
def F.LCS_LCCMD_TARGET : RegField := ⟨0x20010, 2, 0⟩
/-- `LCS_LCCMD.KEY`. -/
def F.LCS_LCCMD_KEY : RegField := ⟨0x20010, 31, 16⟩
/-- `LCS_PITHCMD` (R486). -/
def Reg.LCS_PITHCMD : Nat := 0x20014
/-- `LCS_PITHCMD.WIPE`. -/
def F.LCS_PITHCMD_WIPE : RegField := ⟨0x20014, 0, 0⟩
/-- `LCS_TEN` (R486). -/
def Reg.LCS_TEN : Nat := 0x20018
/-- `LCS_TEN.EN`. -/
def F.LCS_TEN_EN : RegField := ⟨0x20018, 4, 0⟩
/-- `LCS_TAMPER` (R486). -/
def Reg.LCS_TAMPER : Nat := 0x2001C
/-- `LCS_TAMPER.TRIP`. -/
def F.LCS_TAMPER_TRIP : RegField := ⟨0x2001C, 4, 0⟩
/-- `LCS_CHG_INST` (R486). -/
def Reg.LCS_CHG_INST : Nat := 0x20020
/-- `LCS_CHG_INST.CNT`. -/
def F.LCS_CHG_INST_CNT : RegField := ⟨0x20020, 31, 0⟩
/-- `LCS_CHG_MAKER` (R486). -/
def Reg.LCS_CHG_MAKER : Nat := 0x20024
/-- `LCS_CHG_MAKER.CNT`. -/
def F.LCS_CHG_MAKER_CNT : RegField := ⟨0x20024, 31, 0⟩
/-- `LCS_FDIS` (R486). -/
def Reg.LCS_FDIS : Nat := 0x20028
/-- `LCS_FDIS.FIRST`. -/
def F.LCS_FDIS_FIRST : RegField := ⟨0x20028, 6, 0⟩
/-- `LCS_FDIS.ALLDIF`. -/
def F.LCS_FDIS_ALLDIF : RegField := ⟨0x20028, 8, 8⟩
/-- `LCS_FDIS.COUNT`. -/
def F.LCS_FDIS_COUNT : RegField := ⟨0x20028, 31, 16⟩
/-- `LCS_FPROG_IDX` (R486). -/
def Reg.LCS_FPROG_IDX : Nat := 0x20030
/-- `LCS_FPROG_IDX.WORD`. -/
def F.LCS_FPROG_IDX_WORD : RegField := ⟨0x20030, 6, 0⟩
/-- `LCS_FPROG_VAL` (R486). -/
def Reg.LCS_FPROG_VAL : Nat := 0x20034
/-- `LCS_FPROG_VAL.VAL`. -/
def F.LCS_FPROG_VAL_VAL : RegField := ⟨0x20034, 31, 0⟩
/-- `LCS_FPROG_CMD` (R486). -/
def Reg.LCS_FPROG_CMD : Nat := 0x20038
/-- `LCS_FPROG_CMD.GO`. -/
def F.LCS_FPROG_CMD_GO : RegField := ⟨0x20038, 0, 0⟩
/-- `LCS_FPROG_STAT` (R486). -/
def Reg.LCS_FPROG_STAT : Nat := 0x2003C
/-- `LCS_FPROG_STAT.BUSY`. -/
def F.LCS_FPROG_STAT_BUSY : RegField := ⟨0x2003C, 0, 0⟩
/-- `LCS_FPROG_STAT.DONE`. -/
def F.LCS_FPROG_STAT_DONE : RegField := ⟨0x2003C, 1, 1⟩
/-- `LCS_FPROG_STAT.FAIL`. -/
def F.LCS_FPROG_STAT_FAIL : RegField := ⟨0x2003C, 2, 2⟩
/-- `LCS_RBCMD` (R486). -/
def Reg.LCS_RBCMD : Nat := 0x20040
/-- `LCS_RBCMD.FW`. -/
def F.LCS_RBCMD_FW : RegField := ⟨0x20040, 0, 0⟩
/-- `LCS_RBCMD.CFG`. -/
def F.LCS_RBCMD_CFG : RegField := ⟨0x20040, 1, 1⟩
/-- `LCS_RB` (R486). -/
def Reg.LCS_RB : Nat := 0x20044
/-- `LCS_RB.FW`. -/
def F.LCS_RB_FW : RegField := ⟨0x20044, 15, 0⟩
/-- `LCS_RB.CFG`. -/
def F.LCS_RB_CFG : RegField := ⟨0x20044, 31, 16⟩
/-- `LCS_FUSEw` (R486). -/
def Reg.LCS_FUSE (w : Nat) : Nat := 0x20100 + 0x4 * w
/-- `LCS_FUSEw.VAL`. -/
def F.LCS_FUSE_VAL (w : Nat) : RegField := ⟨0x20100 + 0x4 * w, 31, 0⟩
/-- `LCS_LOCK` (R486). -/
def Reg.LCS_LOCK : Nat := 0x207F0
/-- `LCS_LOCK.LOCK`. -/
def F.LCS_LOCK_LOCK : RegField := ⟨0x207F0, 0, 0⟩
/-- `SAP_BOOT` (R507). -/
def Reg.SAP_BOOT : Nat := 0x10000
/-- `SAP_BOOT.STAGE`. -/
def F.SAP_BOOT_STAGE : RegField := ⟨0x10000, 2, 0⟩
/-- `SAP_STAT` (R507). -/
def Reg.SAP_STAT : Nat := 0x10004
/-- `SAP_STAT.HWFW`. -/
def F.SAP_STAT_HWFW : RegField := ⟨0x10004, 0, 0⟩
/-- `SAP_STAT.ICFG`. -/
def F.SAP_STAT_ICFG : RegField := ⟨0x10004, 1, 1⟩
/-- `SAP_STAT.BIMG`. -/
def F.SAP_STAT_BIMG : RegField := ⟨0x10004, 2, 2⟩
/-- `SAP_STAT.STRICTVOID`. -/
def F.SAP_STAT_STRICTVOID : RegField := ⟨0x10004, 3, 3⟩
/-- `SAP_STAT.CAPFLOOR`. -/
def F.SAP_STAT_CAPFLOOR : RegField := ⟨0x10004, 4, 4⟩
/-- `SAP_STAT.THROT`. -/
def F.SAP_STAT_THROT : RegField := ⟨0x10004, 5, 5⟩
/-- `SAP_CAP` (R507). -/
def Reg.SAP_CAP : Nat := 0x10008
/-- `SAP_CAP.CAPW`. -/
def F.SAP_CAP_CAPW : RegField := ⟨0x10008, 8, 0⟩
/-- `SAP_PWR` (R507). -/
def Reg.SAP_PWR : Nat := 0x1000C
/-- `SAP_PWR.PWR`. -/
def F.SAP_PWR_PWR : RegField := ⟨0x1000C, 15, 0⟩
/-- `SAP_CRNF` (R507). -/
def Reg.SAP_CRNF : Nat := 0x10010
/-- `SAP_CRNF.CUR`. -/
def F.SAP_CRNF_CUR : RegField := ⟨0x10010, 10, 0⟩
/-- `SAP_CRNF.FMAX`. -/
def F.SAP_CRNF_FMAX : RegField := ⟨0x10010, 26, 16⟩
/-- `SAP_TEMP` (R507). -/
def Reg.SAP_TEMP : Nat := 0x10014
/-- `SAP_TEMP.TJ`. -/
def F.SAP_TEMP_TJ : RegField := ⟨0x10014, 7, 0⟩
/-- `SAP_TEMP.THBM`. -/
def F.SAP_TEMP_THBM : RegField := ⟨0x10014, 15, 8⟩
/-- `SAP_RSTCAUSE` (R507). -/
def Reg.SAP_RSTCAUSE : Nat := 0x10018
/-- `SAP_RSTCAUSE.CAUSE`. -/
def F.SAP_RSTCAUSE_CAUSE : RegField := ⟨0x10018, 3, 0⟩
/-- `SAP_RSTCMD` (R507). -/
def Reg.SAP_RSTCMD : Nat := 0x1001C
/-- `SAP_RSTCMD.GLOBAL`. -/
def F.SAP_RSTCMD_GLOBAL : RegField := ⟨0x1001C, 0, 0⟩
/-- `SAP_RSTCMD.KEY`. -/
def F.SAP_RSTCMD_KEY : RegField := ⟨0x1001C, 31, 16⟩
/-- `SAP_VBAT` (R507). -/
def Reg.SAP_VBAT : Nat := 0x10020
/-- `SAP_VBAT.MV`. -/
def F.SAP_VBAT_MV : RegField := ⟨0x10020, 11, 0⟩
/-- `SAP_VBAT.BATLOW`. -/
def F.SAP_VBAT_BATLOW : RegField := ⟨0x10020, 12, 12⟩
/-- `SAP_BOOTT` (R507). -/
def Reg.SAP_BOOTT : Nat := 0x10024
/-- `SAP_BOOTT.US`. -/
def F.SAP_BOOTT_US : RegField := ⟨0x10024, 31, 0⟩
/-- `SAP_DOMd` (R507). -/
def Reg.SAP_DOM (d : Nat) : Nat := 0x10100 + 0x4 * d
/-- `SAP_DOMd.MHZ`. -/
def F.SAP_DOM_MHZ (d : Nat) : RegField := ⟨0x10100 + 0x4 * d, 11, 0⟩
/-- `SAP_DOMd.MV`. -/
def F.SAP_DOM_MV (d : Nat) : RegField := ⟨0x10100 + 0x4 * d, 21, 12⟩
/-- `SAP_LOCK` (R507). -/
def Reg.SAP_LOCK : Nat := 0x107F0
/-- `SAP_LOCK.LOCK`. -/
def F.SAP_LOCK_LOCK : RegField := ⟨0x107F0, 0, 0⟩
/-- `SAP_THERM` (R507). -/
def Reg.SAP_THERM : Nat := 0x10800
/-- `SAP_THERM.THROT`. -/
def F.SAP_THERM_THROT : RegField := ⟨0x10800, 7, 0⟩
/-- `SAP_THERM.TRIP`. -/
def F.SAP_THERM_TRIP : RegField := ⟨0x10800, 15, 8⟩
/-- `SAP_ADAPT` (R507). -/
def Reg.SAP_ADAPT : Nat := 0x10804
/-- `SAP_ADAPT.FREEZE`. -/
def F.SAP_ADAPT_FREEZE : RegField := ⟨0x10804, 2, 0⟩
/-- `SAP_VGUARD` (R507). -/
def Reg.SAP_VGUARD : Nat := 0x10808
/-- `SAP_VGUARD.GUARD`. -/
def F.SAP_VGUARD_GUARD : RegField := ⟨0x10808, 7, 0⟩
/-- `EVQ_CTRL` (R535). -/
def Reg.EVQ_CTRL : Nat := 0x40000
/-- `EVQ_CTRL.EN`. -/
def F.EVQ_CTRL_EN : RegField := ⟨0x40000, 0, 0⟩
/-- `EVQ_CTRL.QSZ`. -/
def F.EVQ_CTRL_QSZ : RegField := ⟨0x40000, 4, 1⟩
/-- `EVQ_BASE_LO` (R535). -/
def Reg.EVQ_BASE_LO : Nat := 0x40008
/-- `EVQ_BASE_LO.BASE_LO`. -/
def F.EVQ_BASE_LO_BASE_LO : RegField := ⟨0x40008, 31, 12⟩
/-- `EVQ_BASE_HI` (R535). -/
def Reg.EVQ_BASE_HI : Nat := 0x4000C
/-- `EVQ_BASE_HI.BASE_HI`. -/
def F.EVQ_BASE_HI_BASE_HI : RegField := ⟨0x4000C, 15, 0⟩
/-- `EVQ_WR` (R535). -/
def Reg.EVQ_WR : Nat := 0x40010
/-- `EVQ_WR.WR`. -/
def F.EVQ_WR_WR : RegField := ⟨0x40010, 31, 0⟩
/-- `EVQ_RD` (R535). -/
def Reg.EVQ_RD : Nat := 0x40014
/-- `EVQ_RD.RD`. -/
def F.EVQ_RD_RD : RegField := ⟨0x40014, 31, 0⟩
/-- `EVQ_SEQ` (R535). -/
def Reg.EVQ_SEQ : Nat := 0x40018
/-- `EVQ_SEQ.SEQ`. -/
def F.EVQ_SEQ_SEQ : RegField := ⟨0x40018, 15, 0⟩
/-- `EVQ_LOST` (R535). -/
def Reg.EVQ_LOST : Nat := 0x4001C
/-- `EVQ_LOST.CNT`. -/
def F.EVQ_LOST_CNT : RegField := ⟨0x4001C, 15, 0⟩
/-- `EVQ_VEC` (R535). -/
def Reg.EVQ_VEC : Nat := 0x40020
/-- `EVQ_VEC.VEC0–VEC4`. -/
def F.EVQ_VEC_VEC0 : RegField := ⟨0x40020, 29, 0⟩
/-- `EVQ_COAL` (R535). -/
def Reg.EVQ_COAL : Nat := 0x40024
/-- `EVQ_COAL.US`. -/
def F.EVQ_COAL_US : RegField := ⟨0x40024, 15, 0⟩
/-- `EVQ_BGH` (R535). -/
def Reg.EVQ_BGH : Nat := 0x40028
/-- `EVQ_BGH.CORES`. -/
def F.EVQ_BGH_CORES : RegField := ⟨0x40028, 7, 0⟩
/-- `EVQ_BGH.SEVMASK`. -/
def F.EVQ_BGH_SEVMASK : RegField := ⟨0x40028, 12, 8⟩
/-- `EVQ_FILT` (R535). -/
def Reg.EVQ_FILT : Nat := 0x4002C
/-- `EVQ_FILT.MINSEV`. -/
def F.EVQ_FILT_MINSEV : RegField := ⟨0x4002C, 2, 0⟩
/-- `EVQ_DUMPCFG` (R535). -/
def Reg.EVQ_DUMPCFG : Nat := 0x40030
/-- `EVQ_DUMPCFG.SEV4`. -/
def F.EVQ_DUMPCFG_SEV4 : RegField := ⟨0x40030, 0, 0⟩
/-- `EVQ_DUMPCFG.SEV3`. -/
def F.EVQ_DUMPCFG_SEV3 : RegField := ⟨0x40030, 1, 1⟩
/-- `EVQ_DUMPCMD` (R535). -/
def Reg.EVQ_DUMPCMD : Nat := 0x40034
/-- `EVQ_DUMPCMD.GO`. -/
def F.EVQ_DUMPCMD_GO : RegField := ⟨0x40034, 0, 0⟩
/-- `EVQ_DUMPSTAT` (R535). -/
def Reg.EVQ_DUMPSTAT : Nat := 0x40038
/-- `EVQ_DUMPSTAT.BUSY`. -/
def F.EVQ_DUMPSTAT_BUSY : RegField := ⟨0x40038, 0, 0⟩
/-- `EVQ_DUMPSTAT.LAST`. -/
def F.EVQ_DUMPSTAT_LAST : RegField := ⟨0x40038, 1, 1⟩
/-- `EVQ_DUMPSTAT.HOLD0`. -/
def F.EVQ_DUMPSTAT_HOLD0 : RegField := ⟨0x40038, 2, 2⟩
/-- `EVQ_DUMPSTAT.HOLD1`. -/
def F.EVQ_DUMPSTAT_HOLD1 : RegField := ⟨0x40038, 3, 3⟩
/-- `EVQ_DUMPSTAT.PENDING`. -/
def F.EVQ_DUMPSTAT_PENDING : RegField := ⟨0x40038, 4, 4⟩
/-- `EVQ_DUMPSTAT.MISSED`. -/
def F.EVQ_DUMPSTAT_MISSED : RegField := ⟨0x40038, 15, 5⟩
/-- `EVQ_DUMPSTAT.COUNT`. -/
def F.EVQ_DUMPSTAT_COUNT : RegField := ⟨0x40038, 31, 16⟩
/-- `EVQ_LOCK` (R535). -/
def Reg.EVQ_LOCK : Nat := 0x407F0
/-- `EVQ_LOCK.LOCK`. -/
def F.EVQ_LOCK_LOCK : RegField := ⟨0x407F0, 0, 0⟩

end Sys2Proof.Machine
end

