-- ==== Sys2Proof/Machine/RegTable.lean ====
section
/-! DEFINITION. The register tables of the spec as data: for every register its place, its copies and its fields with access
code, reset value and the roles of the Who column (R11, R13). Generated from the tables of the chapters; nothing else. -/

namespace Sys2Proof.Machine

/-- The access codes of R13. -/
inductive Acc where
  | rw | ro | w1c | w1s | wo | rwl | wos
  deriving DecidableEq, Repr

/-- One field: bits, access, reset value, and the role ports that may write it (bit 0 operator, 1 installer, 2 maker). -/
structure FieldDef where
  hi : Nat
  lo : Nat
  acc : Acc
  rst : Nat
  who : Nat
  deriving DecidableEq, Repr

/-- One register of a table: its offset in its block's window and up to three strides with their counts. -/
structure RegDef where
  off : Nat
  strides : List (Nat × Nat)
  fields : List FieldDef
  deriving DecidableEq, Repr

/-- Registers of block SYS, part 0. -/
def regsSYS0 : List RegDef := [
  ⟨0x0, [], [⟨15, 0, .ro, 0x960, 0⟩, ⟨31, 16, .ro, 0x96, 0⟩]⟩,
  ⟨0x10, [], [⟨0, 0, .rwl, 0x0, 3⟩]⟩,
  ⟨0x20, [], [⟨26, 0, .rwl, 0x0, 7⟩]⟩,
  ⟨0x40, [], [⟨31, 0, .ro, 0x0, 0⟩]⟩,
  ⟨0x44, [], [⟨31, 0, .ro, 0x0, 0⟩]⟩,
  ⟨0x50, [], [⟨31, 0, .ro, 0x0, 0⟩]⟩,
  ⟨0x54, [], [⟨31, 0, .ro, 0x0, 0⟩]⟩,
  ⟨0x58, [], [⟨9, 0, .ro, 0x0, 0⟩, ⟨15, 10, .ro, 0x0, 0⟩, ⟨31, 16, .ro, 0x0, 0⟩]⟩,
  ⟨0x5C, [], [⟨0, 0, .w1c, 0x0, 7⟩]⟩,
  ⟨0x7F0, [], [⟨0, 0, .wos, 0x0, 2⟩, ⟨1, 1, .wos, 0x0, 2⟩]⟩]

/-- Registers of block SYS. -/
def regsSYS : List RegDef := regsSYS0

/-- Registers of block CRN, part 0. -/
def regsCRN0 : List RegDef := [
  ⟨0x0, [], [⟨2, 0, .ro, 0x0, 0⟩, ⟨13, 8, .ro, 0x0, 0⟩]⟩,
  ⟨0x4, [], [⟨31, 0, .ro, 0x1800000, 0⟩]⟩,
  ⟨0x8, [], [⟨24, 6, .ro, 0x0, 0⟩]⟩,
  ⟨0x10, [], [⟨3, 0, .w1c, 0x0, 3⟩]⟩,
  ⟨0x14, [], [⟨15, 0, .w1c, 0x0, 3⟩]⟩,
  ⟨0x18, [], [⟨4, 0, .ro, 0x0, 0⟩, ⟨11, 8, .ro, 0x0, 0⟩, ⟨20, 16, .ro, 0x0, 0⟩, ⟨27, 24, .ro, 0x0, 0⟩]⟩,
  ⟨0x20, [], [⟨31, 0, .ro, 0x0, 0⟩]⟩,
  ⟨0x24, [], [⟨31, 0, .ro, 0x0, 0⟩]⟩,
  ⟨0x28, [], [⟨31, 0, .ro, 0x0, 0⟩]⟩,
  ⟨0x2C, [], [⟨31, 0, .ro, 0x0, 0⟩]⟩,
  ⟨0x30, [], [⟨31, 0, .ro, 0x0, 0⟩]⟩,
  ⟨0x34, [], [⟨31, 0, .ro, 0x0, 0⟩]⟩,
  ⟨0x40, [], [⟨15, 0, .ro, 0x0, 0⟩]⟩,
  ⟨0x7F0, [], [⟨0, 0, .wos, 0x0, 2⟩]⟩,
  ⟨0x800, [], [⟨7, 0, .rwl, 0x40, 3⟩]⟩,
  ⟨0x804, [], [⟨0, 0, .rwl, 0x1, 2⟩]⟩,
  ⟨0x1000, [(0x4, 256)], [⟨31, 0, .ro, 0x0, 0⟩]⟩,
  ⟨0x1400, [(0x4, 256)], [⟨15, 0, .wo, 0x0, 7⟩, ⟨31, 16, .wo, 0x0, 7⟩]⟩]

/-- Registers of block CRN. -/
def regsCRN : List RegDef := regsCRN0

/-- Registers of block KVP, part 0. -/
def regsKVP0 : List RegDef := [
  ⟨0x0, [], [⟨0, 0, .rwl, 0x0, 3⟩]⟩,
  ⟨0x4, [], [⟨0, 0, .rwl, 0x1, 3⟩, ⟨10, 1, .rwl, 0x0, 3⟩]⟩,
  ⟨0x8, [], [⟨31, 0, .ro, 0x5000, 0⟩]⟩,
  ⟨0x10, [], [⟨31, 12, .rwl, 0x0, 3⟩]⟩,
  ⟨0x14, [], [⟨15, 0, .rwl, 0x0, 3⟩]⟩,
  ⟨0x18, [], [⟨18, 0, .rwl, 0x0, 3⟩]⟩,
  ⟨0x1C, [], [⟨18, 0, .ro, 0x0, 0⟩]⟩,
  ⟨0x20, [], [⟨19, 0, .rwl, 0x3E8, 3⟩]⟩,
  ⟨0x24, [], [⟨18, 0, .rw, 0x0, 3⟩]⟩,
  ⟨0x28, [], [⟨12, 0, .ro, 0x0, 0⟩]⟩,
  ⟨0x100, [(0x10, 64)], [⟨31, 6, .rwl, 0x0, 3⟩]⟩,
  ⟨0x104, [(0x10, 64)], [⟨15, 0, .rwl, 0x0, 3⟩]⟩,
  ⟨0x108, [(0x10, 64)], [⟨3, 0, .rwl, 0x0, 3⟩, ⟨4, 4, .rwl, 0x0, 3⟩, ⟨14, 5, .rwl, 0x0, 3⟩]⟩,
  ⟨0x10C, [(0x10, 64)], [⟨13, 0, .rwl, 0x0, 3⟩, ⟨29, 16, .rwl, 0x0, 3⟩]⟩,
  ⟨0x500, [(0x4, 64)], [⟨31, 0, .ro, 0x0, 0⟩]⟩,
  ⟨0x600, [(0x4, 64)], [⟨18, 0, .ro, 0x0, 0⟩]⟩,
  ⟨0x7F0, [], [⟨0, 0, .wos, 0x0, 2⟩]⟩,
  ⟨0x800, [], [⟨0, 0, .rwl, 0x1, 2⟩]⟩,
  ⟨0x804, [], [⟨0, 0, .rwl, 0x1, 2⟩]⟩]

/-- Registers of block KVP. -/
def regsKVP : List RegDef := regsKVP0

/-- Registers of block SPL, part 0. -/
def regsSPL0 : List RegDef := [
  ⟨0x0, [], [⟨2, 0, .ro, 0x0, 0⟩, ⟨13, 8, .ro, 0x0, 0⟩]⟩,
  ⟨0x8, [], [⟨31, 0, .ro, 0x0, 0⟩]⟩,
  ⟨0xC, [], [⟨15, 0, .ro, 0x0, 0⟩]⟩,
  ⟨0x10, [], [⟨3, 0, .w1c, 0x0, 3⟩]⟩,
  ⟨0x20, [], [⟨31, 0, .ro, 0x0, 0⟩]⟩,
  ⟨0x24, [], [⟨31, 0, .ro, 0x0, 0⟩]⟩,
  ⟨0x28, [], [⟨31, 0, .ro, 0x0, 0⟩]⟩,
  ⟨0x2C, [], [⟨31, 0, .ro, 0x0, 0⟩]⟩,
  ⟨0x30, [], [⟨31, 0, .ro, 0x0, 0⟩]⟩,
  ⟨0x34, [], [⟨31, 0, .ro, 0x0, 0⟩]⟩,
  ⟨0x40, [], [⟨15, 0, .ro, 0x0, 0⟩]⟩,
  ⟨0x7F0, [], [⟨0, 0, .wos, 0x0, 2⟩]⟩,
  ⟨0x800, [], [⟨0, 0, .rwl, 0x1, 2⟩]⟩]

/-- Registers of block SPL. -/
def regsSPL : List RegDef := regsSPL0

/-- Registers of block SDB, part 0. -/
def regsSDB0 : List RegDef := [
  ⟨0x0, [], [⟨0, 0, .rwl, 0x0, 3⟩]⟩,
  ⟨0x100, [(0x20, 16)], [⟨0, 0, .rwl, 0x0, 3⟩]⟩,
  ⟨0x104, [(0x20, 16)], [⟨0, 0, .ro, 0x0, 0⟩, ⟨1, 1, .ro, 0x0, 0⟩]⟩,
  ⟨0x108, [(0x20, 16)], [⟨31, 0, .ro, 0x0, 0⟩]⟩,
  ⟨0x10C, [(0x20, 16)], [⟨31, 0, .ro, 0x0, 0⟩]⟩,
  ⟨0x110, [(0x20, 16)], [⟨31, 0, .ro, 0x0, 0⟩]⟩,
  ⟨0x114, [(0x20, 16)], [⟨31, 0, .ro, 0x0, 0⟩]⟩,
  ⟨0x118, [(0x20, 16)], [⟨31, 0, .ro, 0x0, 0⟩]⟩,
  ⟨0x11C, [(0x20, 16)], [⟨31, 0, .ro, 0x0, 0⟩]⟩,
  ⟨0x300, [], [⟨31, 0, .ro, 0x0, 0⟩]⟩,
  ⟨0x7F0, [], [⟨0, 0, .wos, 0x0, 2⟩]⟩,
  ⟨0x800, [], [⟨0, 0, .rwl, 0x0, 2⟩]⟩]

/-- Registers of block SDB. -/
def regsSDB : List RegDef := regsSDB0

/-- Registers of block CSI, part 0. -/
def regsCSI0 : List RegDef := [
  ⟨0x0, [(0x1000, 12)], [⟨0, 0, .rwl, 0x0, 3⟩, ⟨2, 1, .rwl, 0x2, 3⟩]⟩,
  ⟨0x4, [(0x1000, 12)], [⟨0, 0, .ro, 0x0, 0⟩, ⟨1, 1, .ro, 0x0, 0⟩, ⟨2, 2, .ro, 0x0, 0⟩]⟩,
  ⟨0x8, [(0x1000, 12)], [⟨15, 0, .ro, 0x0, 0⟩, ⟨31, 16, .ro, 0x0, 0⟩]⟩,
  ⟨0xC, [(0x1000, 12)], [⟨15, 0, .ro, 0x0, 0⟩, ⟨31, 16, .ro, 0x0, 0⟩]⟩,
  ⟨0x10, [(0x1000, 12)], [⟨31, 0, .ro, 0x0, 0⟩]⟩,
  ⟨0x7F0, [(0x1000, 12)], [⟨0, 0, .wos, 0x0, 2⟩]⟩,
  ⟨0x800, [(0x1000, 12)], [⟨5, 0, .rwl, 0x0, 2⟩, ⟨6, 6, .rwl, 0x0, 2⟩]⟩]

/-- Registers of block CSI. -/
def regsCSI : List RegDef := regsCSI0

/-- Registers of block SCH, part 0. -/
def regsSCH0 : List RegDef := [
  ⟨0x0, [], [⟨0, 0, .rwl, 0x0, 3⟩]⟩,
  ⟨0x4, [], [⟨2, 0, .wo, 0x0, 3⟩, ⟨8, 8, .wo, 0x0, 3⟩, ⟨9, 9, .wo, 0x0, 3⟩, ⟨10, 10, .wo, 0x0, 3⟩]⟩,
  ⟨0x8, [], [⟨5, 0, .ro, 0x0, 0⟩, ⟨6, 6, .ro, 0x0, 0⟩, ⟨13, 8, .ro, 0x0, 0⟩, ⟨14, 14, .ro, 0x0, 0⟩]⟩,
  ⟨0x10, [], [⟨31, 12, .rw, 0x0, 3⟩]⟩,
  ⟨0x14, [], [⟨15, 0, .rw, 0x0, 3⟩]⟩,
  ⟨0x18, [], [⟨17, 0, .rw, 0x0, 3⟩]⟩,
  ⟨0x1C, [], [⟨5, 0, .wo, 0x0, 3⟩, ⟨6, 6, .wo, 0x0, 3⟩, ⟨7, 7, .wo, 0x0, 3⟩]⟩,
  ⟨0x20, [], [⟨0, 0, .ro, 0x0, 0⟩, ⟨1, 1, .w1c, 0x0, 3⟩]⟩,
  ⟨0x7F0, [], [⟨0, 0, .wos, 0x0, 2⟩]⟩,
  ⟨0x800, [], [⟨7, 0, .rwl, 0xA, 2⟩]⟩,
  ⟨0x1000, [(0x20, 64)], [⟨31, 8, .rwl, 0x0, 3⟩]⟩,
  ⟨0x1004, [(0x20, 64)], [⟨15, 0, .rwl, 0x0, 3⟩]⟩,
  ⟨0x1008, [(0x20, 64)], [⟨3, 0, .rwl, 0x0, 3⟩, ⟨4, 4, .rwl, 0x0, 3⟩, ⟨6, 5, .rwl, 0x0, 3⟩, ⟨7, 7, .rwl, 0x0, 2⟩, ⟨13, 8, .rwl, 0x0, 3⟩, ⟨21, 14, .rwl, 0x10, 3⟩]⟩,
  ⟨0x100C, [(0x20, 64)], [⟨31, 0, .rw, 0x0, 3⟩]⟩,
  ⟨0x1010, [(0x20, 64)], [⟨31, 0, .ro, 0x0, 0⟩]⟩,
  ⟨0x1014, [(0x20, 64)], [⟨1, 0, .ro, 0x0, 0⟩, ⟨31, 16, .ro, 0x0, 0⟩]⟩,
  ⟨0x1018, [(0x20, 64)], [⟨0, 0, .wo, 0x0, 3⟩, ⟨1, 1, .wo, 0x0, 3⟩, ⟨2, 2, .wo, 0x0, 3⟩]⟩,
  ⟨0x101C, [(0x20, 64)], [⟨31, 0, .ro, 0x0, 0⟩]⟩,
  ⟨0x2000, [(0x20, 64)], [⟨3, 0, .rwl, 0x0, 3⟩, ⟨31, 6, .rwl, 0x0, 3⟩]⟩,
  ⟨0x2004, [(0x20, 64)], [⟨15, 0, .rwl, 0x0, 3⟩]⟩,
  ⟨0x2008, [(0x20, 64)], [⟨0, 0, .rw, 0x0, 3⟩, ⟨31, 8, .rw, 0x0, 3⟩]⟩,
  ⟨0x200C, [(0x20, 64)], [⟨15, 0, .rw, 0x0, 3⟩]⟩,
  ⟨0x2010, [(0x20, 64)], [⟨19, 0, .rw, 0x0, 3⟩]⟩,
  ⟨0x2014, [(0x20, 64)], [⟨15, 0, .ro, 0x0, 0⟩, ⟨31, 16, .ro, 0x0, 0⟩]⟩]

/-- Registers of block SCH, part 1. -/
def regsSCH1 : List RegDef := [
  ⟨0x2018, [(0x20, 64)], [⟨31, 0, .ro, 0x0, 0⟩]⟩,
  ⟨0x201C, [(0x20, 64)], [⟨31, 0, .ro, 0x0, 0⟩]⟩,
  ⟨0x3000, [(0x10, 64)], [⟨31, 0, .ro, 0x0, 0⟩]⟩,
  ⟨0x3004, [(0x10, 64)], [⟨31, 0, .ro, 0x0, 0⟩]⟩]

/-- Registers of block SCH. -/
def regsSCH : List RegDef := regsSCH0 ++ regsSCH1

/-- Registers of block GRN, part 0. -/
def regsGRN0 : List RegDef := [
  ⟨0x0, [], [⟨0, 0, .rwl, 0x1, 3⟩]⟩,
  ⟨0x4, [], [⟨7, 0, .rwl, 0x2, 3⟩]⟩,
  ⟨0x10, [], [⟨31, 0, .ro, 0x0, 0⟩]⟩,
  ⟨0x14, [], [⟨31, 0, .ro, 0x0, 0⟩]⟩,
  ⟨0x18, [], [⟨15, 0, .ro, 0x0, 0⟩]⟩,
  ⟨0x7F0, [], [⟨0, 0, .wos, 0x0, 2⟩]⟩,
  ⟨0x1000, [(0x1000, 8), (0x4, 128)], [⟨31, 0, .ro, 0x0, 0⟩]⟩,
  ⟨0x1200, [(0x1000, 8), (0x4, 128)], [⟨15, 0, .wo, 0x0, 7⟩, ⟨31, 16, .wo, 0x0, 7⟩]⟩]

/-- Registers of block GRN. -/
def regsGRN : List RegDef := regsGRN0

/-- Registers of block MEM, part 0. -/
def regsMEM0 : List RegDef := [
  ⟨0x0, [], [⟨31, 0, .ro, 0x0, 0⟩]⟩,
  ⟨0x4, [], [⟨31, 0, .ro, 0x0, 0⟩]⟩,
  ⟨0x8, [], [⟨15, 0, .ro, 0x0, 0⟩]⟩,
  ⟨0x10, [], [⟨15, 0, .rwl, 0x100, 3⟩]⟩,
  ⟨0x20, [], [⟨15, 0, .rw, 0x0, 3⟩, ⟨16, 16, .rw, 0x1, 3⟩, ⟨20, 17, .rw, 0xF, 3⟩]⟩,
  ⟨0x24, [], [⟨0, 0, .wo, 0x0, 3⟩]⟩,
  ⟨0x28, [], [⟨0, 0, .ro, 0x0, 0⟩, ⟨1, 1, .w1c, 0x0, 3⟩, ⟨2, 2, .w1c, 0x0, 3⟩, ⟨3, 3, .w1c, 0x0, 3⟩]⟩,
  ⟨0x30, [], [⟨0, 0, .rwl, 0x1, 2⟩, ⟨15, 4, .rwl, 0x40, 2⟩]⟩,
  ⟨0x38, [], [⟨31, 0, .ro, 0x0, 0⟩]⟩,
  ⟨0x3C, [], [⟨31, 0, .ro, 0x0, 0⟩]⟩,
  ⟨0x40, [], [⟨15, 0, .ro, 0x0, 0⟩, ⟨31, 16, .ro, 0x0, 0⟩]⟩,
  ⟨0x50, [], [⟨31, 21, .rw, 0x0, 3⟩]⟩,
  ⟨0x54, [], [⟨15, 0, .rw, 0x0, 3⟩]⟩,
  ⟨0x58, [], [⟨15, 0, .rw, 0x0, 3⟩]⟩,
  ⟨0x5C, [], [⟨0, 0, .wo, 0x0, 3⟩]⟩,
  ⟨0x60, [], [⟨0, 0, .ro, 0x0, 0⟩, ⟨1, 1, .w1c, 0x0, 3⟩]⟩,
  ⟨0x7F0, [], [⟨0, 0, .wos, 0x0, 2⟩]⟩,
  ⟨0x800, [], [⟨7, 0, .rwl, 0x40, 3⟩]⟩]

/-- Registers of block MEM. -/
def regsMEM : List RegDef := regsMEM0

/-- Registers of block DRC, part 0. -/
def regsDRC0 : List RegDef := [
  ⟨0x0, [(0x1000, 4)], [⟨0, 0, .ro, 0x0, 0⟩, ⟨1, 1, .ro, 0x0, 0⟩, ⟨15, 8, .ro, 0x0, 0⟩]⟩,
  ⟨0x4, [(0x1000, 4)], [⟨15, 0, .ro, 0x0, 0⟩, ⟨31, 16, .ro, 0x0, 0⟩]⟩,
  ⟨0x8, [(0x1000, 4)], [⟨15, 0, .ro, 0x0, 0⟩, ⟨31, 16, .ro, 0x0, 0⟩]⟩,
  ⟨0xC, [(0x1000, 4)], [⟨7, 0, .ro, 0x0, 0⟩, ⟨15, 8, .ro, 0x0, 0⟩]⟩,
  ⟨0x10, [(0x1000, 4)], [⟨31, 0, .ro, 0x0, 0⟩]⟩,
  ⟨0x14, [(0x1000, 4)], [⟨31, 0, .ro, 0x0, 0⟩]⟩,
  ⟨0x18, [(0x1000, 4)], [⟨31, 0, .ro, 0x0, 0⟩]⟩,
  ⟨0x1C, [(0x1000, 4)], [⟨31, 0, .ro, 0x0, 0⟩]⟩,
  ⟨0x20, [(0x1000, 4)], [⟨31, 0, .ro, 0x0, 0⟩]⟩,
  ⟨0x24, [(0x1000, 4)], [⟨31, 0, .ro, 0x0, 0⟩]⟩,
  ⟨0x7F0, [(0x1000, 4)], [⟨0, 0, .wos, 0x0, 2⟩]⟩,
  ⟨0x800, [(0x1000, 4)], [⟨0, 0, .rwl, 0x0, 3⟩, ⟨15, 8, .rwl, 0x14, 3⟩]⟩,
  ⟨0x804, [(0x1000, 4)], [⟨7, 0, .rwl, 0x18, 2⟩]⟩]

/-- Registers of block DRC. -/
def regsDRC : List RegDef := regsDRC0

/-- Registers of block HWD, part 0. -/
def regsHWD0 : List RegDef := [
  ⟨0x0, [], [⟨2, 0, .ro, 0x0, 0⟩, ⟨3, 3, .ro, 0x0, 0⟩, ⟨4, 4, .ro, 0x0, 0⟩, ⟨5, 5, .ro, 0x0, 0⟩, ⟨12, 8, .ro, 0x0, 0⟩]⟩,
  ⟨0x4, [], [⟨15, 0, .ro, 0x0, 0⟩]⟩,
  ⟨0x8, [], [⟨13, 0, .rwl, 0x3E8, 2⟩, ⟨23, 16, .rwl, 0x32, 2⟩, ⟨27, 24, .rwl, 0x1, 2⟩]⟩,
  ⟨0xC, [], [⟨15, 0, .rwl, 0x7530, 2⟩, ⟨31, 16, .rwl, 0xFA0, 2⟩]⟩,
  ⟨0x10, [], [⟨7, 0, .rwl, 0x0, 2⟩]⟩,
  ⟨0x14, [], [⟨0, 0, .wo, 0x0, 2⟩, ⟨1, 1, .wo, 0x0, 2⟩]⟩,
  ⟨0x18, [], [⟨15, 0, .wo, 0x0, 0⟩]⟩,
  ⟨0x1C, [], [⟨15, 0, .rwl, 0x64, 2⟩, ⟨31, 16, .rwl, 0x7D0, 2⟩]⟩,
  ⟨0x20, [], [⟨31, 0, .ro, 0x0, 0⟩]⟩,
  ⟨0x24, [], [⟨31, 0, .ro, 0x0, 0⟩]⟩,
  ⟨0x28, [], [⟨31, 0, .ro, 0x0, 0⟩]⟩,
  ⟨0x2C, [], [⟨15, 0, .ro, 0x0, 0⟩]⟩,
  ⟨0x100, [(0x20, 4)], [⟨31, 16, .rwl, 0x0, 2⟩]⟩,
  ⟨0x104, [(0x20, 4)], [⟨15, 0, .rwl, 0x0, 2⟩]⟩,
  ⟨0x108, [(0x20, 4)], [⟨0, 0, .rwl, 0x0, 2⟩, ⟨6, 1, .rwl, 0x0, 2⟩, ⟨16, 7, .rwl, 0x0, 2⟩, ⟨26, 17, .rwl, 0x0, 2⟩]⟩,
  ⟨0x10C, [(0x20, 4)], [⟨19, 0, .rwl, 0x3E8, 2⟩]⟩,
  ⟨0x110, [(0x20, 4), (0x4, 4)], [⟨31, 0, .rwl, 0x0, 2⟩]⟩,
  ⟨0x200, [(0x4, 4)], [⟨31, 0, .ro, 0x0, 0⟩]⟩,
  ⟨0x7F0, [], [⟨0, 0, .wos, 0x0, 2⟩]⟩,
  ⟨0x800, [], [⟨7, 0, .rwl, 0xA, 2⟩]⟩,
  ⟨0x804, [], [⟨15, 0, .rwl, 0x3E8, 2⟩]⟩]

/-- Registers of block HWD. -/
def regsHWD : List RegDef := regsHWD0

/-- Registers of block BRK, part 0. -/
def regsBRK0 : List RegDef := [
  ⟨0x0, [], [⟨31, 0, .ro, 0x0, 0⟩]⟩,
  ⟨0x4, [], [⟨31, 0, .ro, 0x0, 0⟩]⟩,
  ⟨0x10, [], [⟨9, 0, .rwl, 0x80, 2⟩]⟩,
  ⟨0x7F0, [], [⟨0, 0, .wos, 0x0, 2⟩]⟩,
  ⟨0x1000, [(0x1000, 4), (0x10, 128)], [⟨0, 0, .rw, 0x0, 3⟩, ⟨1, 1, .rw, 0x0, 3⟩, ⟨2, 2, .rw, 0x0, 3⟩, ⟨3, 3, .rw, 0x0, 3⟩, ⟨4, 4, .rw, 0x0, 3⟩, ⟨11, 6, .rw, 0x0, 3⟩, ⟨17, 12, .rw, 0x0, 3⟩, ⟨27, 18, .rw, 0x0, 3⟩]⟩,
  ⟨0x1004, [(0x1000, 4), (0x10, 128)], [⟨9, 0, .rw, 0x0, 3⟩]⟩,
  ⟨0x1008, [(0x1000, 4), (0x10, 128)], [⟨31, 0, .rw, 0x0, 3⟩]⟩,
  ⟨0x100C, [(0x1000, 4), (0x10, 128)], [⟨3, 0, .rw, 0x0, 3⟩, ⟨31, 4, .rw, 0x0, 3⟩]⟩]

/-- Registers of block BRK. -/
def regsBRK : List RegDef := regsBRK0

/-- Registers of block CMB, part 0. -/
def regsCMB0 : List RegDef := [
  ⟨0x0, [], [⟨0, 0, .rwl, 0x0, 2⟩]⟩,
  ⟨0x4, [], [⟨9, 0, .rwl, 0x3E8, 2⟩]⟩,
  ⟨0x8, [], [⟨19, 0, .rwl, 0x0, 2⟩]⟩,
  ⟨0x10, [], [⟨0, 0, .ro, 0x0, 0⟩, ⟨1, 1, .ro, 0x0, 0⟩, ⟨2, 2, .ro, 0x0, 0⟩, ⟨3, 3, .ro, 0x1, 0⟩, ⟨15, 8, .ro, 0x0, 0⟩]⟩,
  ⟨0x14, [], [⟨1, 0, .wo, 0x0, 0⟩, ⟨2, 2, .wo, 0x0, 0⟩]⟩,
  ⟨0x18, [], [⟨3, 0, .ro, 0x0, 0⟩, ⟨7, 4, .ro, 0x0, 0⟩, ⟨11, 8, .ro, 0x0, 0⟩]⟩,
  ⟨0x20, [], [⟨31, 0, .ro, 0x0, 0⟩]⟩,
  ⟨0x24, [], [⟨31, 0, .ro, 0x0, 0⟩]⟩,
  ⟨0x30, [], [⟨6, 0, .wo, 0x0, 2⟩, ⟨8, 8, .wo, 0x0, 2⟩]⟩,
  ⟨0x40, [(0x8, 4)], [⟨31, 0, .ro, 0x0, 0⟩]⟩,
  ⟨0x44, [(0x8, 4)], [⟨31, 0, .ro, 0x0, 0⟩]⟩,
  ⟨0x7F0, [], [⟨0, 0, .wos, 0x0, 2⟩]⟩,
  ⟨0x800, [], [⟨9, 0, .rwl, 0x15E, 2⟩]⟩,
  ⟨0x804, [], [⟨0, 0, .rwl, 0x0, 2⟩]⟩,
  ⟨0x1000, [(0x4, 128)], [⟨2, 0, .ro, 0x0, 0⟩, ⟨5, 3, .ro, 0x0, 0⟩, ⟨6, 6, .ro, 0x0, 0⟩, ⟨7, 7, .ro, 0x0, 0⟩, ⟨9, 8, .ro, 0x0, 0⟩, ⟨23, 16, .ro, 0x0, 0⟩]⟩,
  ⟨0x1200, [(0x4, 128)], [⟨3, 0, .w1c, 0x0, 3⟩]⟩,
  ⟨0x1400, [(0x4, 128)], [⟨15, 0, .ro, 0x0, 0⟩, ⟨23, 16, .ro, 0x0, 0⟩]⟩]

/-- Registers of block CMB. -/
def regsCMB : List RegDef := regsCMB0

/-- Registers of block RLK, part 0. -/
def regsRLK0 : List RegDef := [
  ⟨0x0, [], [⟨0, 0, .rwl, 0x0, 2⟩]⟩,
  ⟨0x4, [], [⟨15, 0, .ro, 0x0, 0⟩, ⟨16, 16, .ro, 0x0, 0⟩]⟩,
  ⟨0x100, [(0x40, 16)], [⟨0, 0, .rwl, 0x0, 2⟩, ⟨3, 1, .rwl, 0x0, 2⟩]⟩,
  ⟨0x104, [(0x40, 16)], [⟨1, 0, .ro, 0x0, 0⟩, ⟨7, 4, .ro, 0x0, 0⟩]⟩,
  ⟨0x108, [(0x40, 16)], [⟨15, 0, .ro, 0x0, 0⟩, ⟨31, 16, .ro, 0x0, 0⟩]⟩,
  ⟨0x10C, [(0x40, 16)], [⟨15, 0, .ro, 0x0, 0⟩, ⟨31, 16, .ro, 0x0, 0⟩]⟩,
  ⟨0x110, [(0x40, 16)], [⟨23, 0, .ro, 0x0, 0⟩]⟩,
  ⟨0x118, [(0x40, 16)], [⟨2, 0, .rw, 0x0, 2⟩, ⟨3, 3, .rw, 0x0, 2⟩, ⟨15, 8, .rw, 0x0, 2⟩]⟩,
  ⟨0x11C, [(0x40, 16)], [⟨31, 0, .rw, 0x0, 2⟩]⟩,
  ⟨0x120, [(0x40, 16)], [⟨31, 0, .rw, 0x0, 2⟩]⟩,
  ⟨0x124, [(0x40, 16)], [⟨0, 0, .wo, 0x0, 2⟩]⟩,
  ⟨0x128, [(0x40, 16)], [⟨0, 0, .ro, 0x0, 0⟩, ⟨1, 1, .w1c, 0x0, 2⟩, ⟨2, 2, .w1c, 0x0, 2⟩]⟩,
  ⟨0x7F0, [], [⟨0, 0, .wos, 0x0, 2⟩]⟩,
  ⟨0x800, [], [⟨1, 0, .rwl, 0x2, 2⟩]⟩,
  ⟨0x804, [], [⟨7, 0, .rwl, 0xA, 2⟩]⟩,
  ⟨0x1000, [(0x80, 16), (0x10, 8)], [⟨31, 0, .ro, 0x0, 0⟩]⟩,
  ⟨0x1004, [(0x80, 16), (0x10, 8)], [⟨31, 0, .ro, 0x0, 0⟩]⟩,
  ⟨0x1008, [(0x80, 16), (0x10, 8)], [⟨4, 0, .ro, 0x0, 0⟩, ⟨31, 16, .ro, 0x0, 0⟩]⟩,
  ⟨0x100C, [(0x80, 16), (0x10, 8)], [⟨15, 0, .ro, 0x0, 0⟩, ⟨23, 16, .ro, 0x0, 0⟩, ⟨24, 24, .ro, 0x0, 0⟩]⟩]

/-- Registers of block RLK. -/
def regsRLK : List RegDef := regsRLK0

/-- Registers of block CFD, part 0. -/
def regsCFD0 : List RegDef := [
  ⟨0x0, [(0x1000, 8)], [⟨1, 0, .rwl, 0x0, 3⟩, ⟨2, 2, .rwl, 0x0, 3⟩, ⟨3, 3, .rwl, 0x1, 3⟩, ⟨4, 4, .rwl, 0x0, 3⟩, ⟨5, 5, .rwl, 0x0, 3⟩, ⟨6, 6, .rwl, 0x0, 3⟩, ⟨7, 7, .rwl, 0x0, 3⟩]⟩,
  ⟨0x4, [(0x1000, 8)], [⟨0, 0, .wo, 0x0, 3⟩, ⟨1, 1, .wo, 0x0, 3⟩, ⟨2, 2, .wo, 0x0, 3⟩]⟩,
  ⟨0x8, [(0x1000, 8)], [⟨2, 0, .ro, 0x0, 0⟩, ⟨3, 3, .ro, 0x0, 0⟩, ⟨4, 4, .w1c, 0x0, 3⟩, ⟨6, 5, .ro, 0x0, 0⟩, ⟨14, 8, .ro, 0x0, 0⟩]⟩,
  ⟨0xC, [(0x1000, 8)], [⟨8, 0, .ro, 0x0, 0⟩, ⟨16, 9, .ro, 0x0, 0⟩, ⟨24, 17, .ro, 0x0, 0⟩]⟩,
  ⟨0x10, [(0x1000, 8)], [⟨7, 0, .rwl, 0x0, 3⟩, ⟨15, 8, .rwl, 0x3E, 3⟩, ⟨22, 16, .rwl, 0xF, 3⟩, ⟨29, 23, .rwl, 0xF, 3⟩]⟩,
  ⟨0x14, [(0x1000, 8)], [⟨4, 0, .rwl, 0x0, 3⟩, ⟨12, 8, .rwl, 0x6, 3⟩, ⟨19, 16, .rwl, 0x1, 3⟩, ⟨27, 24, .rwl, 0x1, 3⟩, ⟨31, 31, .rwl, 0x1, 3⟩]⟩,
  ⟨0x18, [(0x1000, 8)], [⟨6, 0, .rwl, 0x8, 3⟩, ⟨14, 8, .rwl, 0x4, 3⟩]⟩,
  ⟨0x1C, [(0x1000, 8)], [⟨7, 0, .rwl, 0x0, 3⟩]⟩,
  ⟨0x20, [(0x1000, 8)], [⟨3, 0, .rw, 0x0, 3⟩, ⟨13, 8, .rw, 0x0, 3⟩]⟩,
  ⟨0x28, [(0x1000, 8)], [⟨31, 13, .rw, 0x0, 3⟩]⟩,
  ⟨0x2C, [(0x1000, 8)], [⟨15, 0, .rw, 0x0, 3⟩]⟩,
  ⟨0x30, [(0x1000, 8)], [⟨31, 0, .w1c, 0x0, 3⟩]⟩,
  ⟨0x34, [(0x1000, 8)], [⟨31, 0, .w1c, 0x0, 3⟩]⟩,
  ⟨0x38, [(0x1000, 8)], [⟨31, 0, .w1c, 0x0, 3⟩]⟩,
  ⟨0x3C, [(0x1000, 8)], [⟨31, 0, .w1c, 0x0, 3⟩]⟩,
  ⟨0x40, [(0x1000, 8)], [⟨15, 0, .ro, 0x0, 0⟩, ⟨31, 16, .ro, 0x0, 0⟩]⟩,
  ⟨0x44, [(0x1000, 8)], [⟨2, 0, .w1s, 0x0, 3⟩, ⟨6, 4, .w1s, 0x0, 3⟩]⟩,
  ⟨0x48, [(0x1000, 8)], [⟨2, 0, .w1c, 0x0, 3⟩, ⟨6, 4, .w1c, 0x0, 3⟩, ⟨10, 8, .w1c, 0x0, 3⟩]⟩,
  ⟨0x50, [(0x1000, 8)], [⟨28, 0, .rwl, 0x0, 3⟩, ⟨29, 29, .rwl, 0x0, 3⟩]⟩,
  ⟨0x54, [(0x1000, 8)], [⟨28, 0, .rwl, 0x1FFFFFFF, 3⟩]⟩,
  ⟨0x58, [(0x1000, 8)], [⟨3, 0, .rwl, 0x0, 3⟩, ⟨4, 4, .rwl, 0x0, 3⟩, ⟨5, 5, .rwl, 0x0, 3⟩]⟩,
  ⟨0x60, [(0x1000, 8)], [⟨31, 0, .rwl, 0x0, 3⟩]⟩,
  ⟨0x64, [(0x1000, 8)], [⟨31, 0, .rwl, 0x0, 3⟩]⟩,
  ⟨0x100, [(0x1000, 8), (0x60, 3)], [⟨28, 0, .rw, 0x0, 3⟩, ⟨29, 29, .rw, 0x0, 3⟩, ⟨30, 30, .rw, 0x0, 3⟩]⟩]

/-- Registers of block CFD, part 1. -/
def regsCFD1 : List RegDef := [
  ⟨0x104, [(0x1000, 8), (0x60, 3)], [⟨3, 0, .rw, 0x0, 3⟩, ⟨4, 4, .rw, 0x0, 3⟩, ⟨5, 5, .rw, 0x0, 3⟩]⟩,
  ⟨0x108, [(0x1000, 8), (0x60, 3), (0x4, 16)], [⟨31, 0, .rw, 0x0, 3⟩]⟩,
  ⟨0x148, [(0x1000, 8), (0x60, 3)], [⟨31, 0, .ro, 0x0, 0⟩]⟩,
  ⟨0x14C, [(0x1000, 8), (0x60, 3)], [⟨31, 0, .ro, 0x0, 0⟩]⟩,
  ⟨0x400, [(0x1000, 8), (0x8, 64)], [⟨28, 0, .rw, 0x0, 3⟩, ⟨29, 29, .rw, 0x0, 3⟩, ⟨30, 30, .rw, 0x0, 3⟩]⟩,
  ⟨0x404, [(0x1000, 8), (0x8, 64)], [⟨28, 0, .rw, 0x1FFFFFFF, 3⟩, ⟨29, 29, .rw, 0x1, 3⟩, ⟨31, 30, .rw, 0x0, 3⟩]⟩,
  ⟨0x7F0, [(0x1000, 8)], [⟨0, 0, .wos, 0x0, 2⟩]⟩,
  ⟨0x800, [(0x1000, 8)], [⟨8, 0, .wo, 0x0, 2⟩, ⟨16, 9, .wo, 0x0, 2⟩, ⟨31, 31, .wo, 0x0, 2⟩]⟩]

/-- Registers of block CFD. -/
def regsCFD : List RegDef := regsCFD0 ++ regsCFD1

/-- Registers of block TIM, part 0. -/
def regsTIM0 : List RegDef := [
  ⟨0x0, [], [⟨1, 0, .rwl, 0x0, 3⟩]⟩,
  ⟨0x4, [], [⟨0, 0, .ro, 0x0, 0⟩, ⟨1, 1, .ro, 0x0, 0⟩, ⟨2, 2, .ro, 0x0, 0⟩]⟩,
  ⟨0x10, [], [⟨15, 0, .ro, 0x0, 0⟩]⟩,
  ⟨0x14, [], [⟨29, 0, .ro, 0x0, 0⟩]⟩,
  ⟨0x18, [], [⟨31, 0, .ro, 0x0, 0⟩]⟩,
  ⟨0x1C, [], [⟨31, 0, .ro, 0x0, 0⟩]⟩,
  ⟨0x20, [], [⟨15, 0, .rw, 0x0, 3⟩]⟩,
  ⟨0x24, [], [⟨29, 0, .rw, 0x0, 3⟩]⟩,
  ⟨0x28, [], [⟨31, 0, .rw, 0x0, 3⟩]⟩,
  ⟨0x2C, [], [⟨31, 0, .rw, 0x0, 3⟩]⟩,
  ⟨0x30, [], [⟨31, 0, .rw, 0x0, 3⟩]⟩,
  ⟨0x34, [], [⟨3, 0, .rw, 0x2, 3⟩]⟩,
  ⟨0x38, [], [⟨31, 0, .rw, 0x0, 3⟩]⟩,
  ⟨0x40, [], [⟨0, 0, .rw, 0x0, 3⟩, ⟨15, 8, .rw, 0x64, 3⟩]⟩,
  ⟨0x100, [(0x20, 8)], [⟨29, 0, .rw, 0x0, 3⟩]⟩,
  ⟨0x104, [(0x20, 8)], [⟨31, 0, .rw, 0x0, 3⟩]⟩,
  ⟨0x108, [(0x20, 8)], [⟨31, 0, .rw, 0x0, 3⟩]⟩,
  ⟨0x10C, [(0x20, 8)], [⟨31, 0, .rw, 0x3B9ACA00, 3⟩]⟩,
  ⟨0x110, [(0x20, 8)], [⟨31, 0, .rw, 0x3E8, 3⟩]⟩,
  ⟨0x114, [(0x20, 8)], [⟨31, 0, .rw, 0x0, 3⟩]⟩,
  ⟨0x118, [(0x20, 8)], [⟨0, 0, .rw, 0x0, 3⟩, ⟨1, 1, .rw, 0x0, 3⟩]⟩,
  ⟨0x200, [(0x20, 8)], [⟨0, 0, .rw, 0x0, 3⟩, ⟨2, 1, .rw, 0x1, 3⟩, ⟨7, 4, .rw, 0x0, 3⟩]⟩,
  ⟨0x204, [(0x20, 8)], [⟨4, 0, .ro, 0x0, 0⟩, ⟨8, 8, .w1c, 0x0, 3⟩, ⟨31, 16, .ro, 0x0, 0⟩]⟩,
  ⟨0x208, [(0x20, 8)], [⟨0, 0, .wo, 0x0, 3⟩]⟩]

/-- Registers of block TIM, part 1. -/
def regsTIM1 : List RegDef := [
  ⟨0x20C, [(0x20, 8)], [⟨29, 0, .ro, 0x0, 0⟩, ⟨30, 30, .ro, 0x0, 0⟩, ⟨31, 31, .ro, 0x0, 0⟩]⟩,
  ⟨0x210, [(0x20, 8)], [⟨15, 0, .ro, 0x0, 0⟩]⟩,
  ⟨0x214, [(0x20, 8)], [⟨31, 0, .ro, 0x0, 0⟩]⟩,
  ⟨0x218, [(0x20, 8)], [⟨31, 0, .ro, 0x0, 0⟩]⟩,
  ⟨0x400, [(0x20, 2)], [⟨5, 0, .ro, 0x0, 0⟩, ⟨8, 8, .w1c, 0x0, 3⟩, ⟨31, 16, .ro, 0x0, 0⟩]⟩,
  ⟨0x404, [(0x20, 2)], [⟨0, 0, .wo, 0x0, 3⟩]⟩,
  ⟨0x408, [(0x20, 2)], [⟨29, 0, .ro, 0x0, 0⟩, ⟨31, 31, .ro, 0x0, 0⟩]⟩,
  ⟨0x40C, [(0x20, 2)], [⟨15, 0, .ro, 0x0, 0⟩, ⟨31, 16, .ro, 0x0, 0⟩]⟩,
  ⟨0x410, [(0x20, 2)], [⟨31, 0, .ro, 0x0, 0⟩]⟩,
  ⟨0x414, [(0x20, 2)], [⟨31, 0, .ro, 0x0, 0⟩]⟩,
  ⟨0x7F0, [], [⟨0, 0, .wos, 0x0, 2⟩]⟩]

/-- Registers of block TIM. -/
def regsTIM : List RegDef := regsTIM0 ++ regsTIM1

/-- Registers of block ETH, part 0. -/
def regsETH0 : List RegDef := [
  ⟨0x0, [(0x1000, 2)], [⟨0, 0, .rwl, 0x0, 3⟩, ⟨3, 1, .rwl, 0x2, 3⟩, ⟨5, 4, .rwl, 0x2, 3⟩, ⟨6, 6, .rwl, 0x0, 3⟩]⟩,
  ⟨0x4, [(0x1000, 2)], [⟨0, 0, .ro, 0x0, 0⟩, ⟨3, 1, .ro, 0x0, 0⟩]⟩,
  ⟨0x8, [(0x1000, 2)], [⟨31, 0, .rwl, 0x0, 3⟩]⟩,
  ⟨0xC, [(0x1000, 2)], [⟨15, 0, .rwl, 0x0, 3⟩]⟩,
  ⟨0x10, [(0x1000, 2)], [⟨15, 0, .ro, 0x0, 0⟩, ⟨31, 16, .ro, 0x0, 0⟩]⟩,
  ⟨0x14, [(0x1000, 2)], [⟨15, 0, .ro, 0x0, 0⟩, ⟨31, 16, .ro, 0x0, 0⟩]⟩,
  ⟨0x18, [(0x1000, 2)], [⟨2, 0, .rwl, 0x0, 3⟩]⟩,
  ⟨0x1C, [(0x1000, 2)], [⟨23, 0, .rwl, 0x0, 3⟩]⟩,
  ⟨0x80, [(0x1000, 2), (0x8, 16)], [⟨31, 0, .rwl, 0x0, 3⟩]⟩,
  ⟨0x84, [(0x1000, 2), (0x8, 16)], [⟨15, 0, .rwl, 0x0, 3⟩, ⟨16, 16, .rwl, 0x0, 3⟩]⟩,
  ⟨0x100, [(0x1000, 2), (0x20, 8)], [⟨31, 4, .rwl, 0x0, 3⟩]⟩,
  ⟨0x104, [(0x1000, 2), (0x20, 8)], [⟨15, 0, .rwl, 0x0, 3⟩]⟩,
  ⟨0x108, [(0x1000, 2), (0x20, 8)], [⟨3, 0, .rwl, 0x0, 3⟩, ⟨4, 4, .rwl, 0x0, 3⟩, ⟨10, 5, .rwl, 0x0, 3⟩, ⟨12, 11, .rwl, 0x0, 3⟩]⟩,
  ⟨0x10C, [(0x1000, 2), (0x20, 8)], [⟨31, 0, .rw, 0x0, 3⟩]⟩,
  ⟨0x110, [(0x1000, 2), (0x20, 8)], [⟨31, 0, .ro, 0x0, 0⟩]⟩,
  ⟨0x300, [(0x1000, 2), (0x20, 8)], [⟨31, 5, .rwl, 0x0, 3⟩]⟩,
  ⟨0x304, [(0x1000, 2), (0x20, 8)], [⟨15, 0, .rwl, 0x0, 3⟩]⟩,
  ⟨0x308, [(0x1000, 2), (0x20, 8)], [⟨3, 0, .rwl, 0x0, 3⟩, ⟨4, 4, .rwl, 0x0, 3⟩, ⟨10, 5, .rwl, 0x0, 3⟩, ⟨13, 11, .rwl, 0x3, 3⟩]⟩,
  ⟨0x30C, [(0x1000, 2), (0x20, 8)], [⟨31, 0, .rw, 0x0, 3⟩]⟩,
  ⟨0x310, [(0x1000, 2), (0x20, 8)], [⟨31, 0, .ro, 0x0, 0⟩]⟩,
  ⟨0x314, [(0x1000, 2), (0x20, 8)], [⟨15, 0, .rw, 0x0, 3⟩, ⟨16, 16, .rw, 0x0, 3⟩, ⟨22, 17, .rw, 0x0, 3⟩]⟩,
  ⟨0x7F0, [(0x1000, 2)], [⟨0, 0, .wos, 0x0, 2⟩]⟩,
  ⟨0x800, [(0x1000, 2)], [⟨15, 0, .rwl, 0x0, 2⟩, ⟨31, 16, .rwl, 0x0, 2⟩]⟩]

/-- Registers of block ETH. -/
def regsETH : List RegDef := regsETH0

/-- Registers of block GRV, part 0. -/
def regsGRV0 : List RegDef := [
  ⟨0x0, [], [⟨0, 0, .rwl, 0x0, 3⟩, ⟨1, 1, .rwl, 0x0, 3⟩, ⟨2, 2, .rwl, 0x1, 3⟩, ⟨4, 3, .rwl, 0x2, 3⟩, ⟨5, 5, .rwl, 0x1, 3⟩]⟩,
  ⟨0x4, [], [⟨13, 0, .rwl, 0x0, 3⟩]⟩,
  ⟨0x8, [], [⟨15, 0, .rwl, 0x4B47, 3⟩]⟩,
  ⟨0x10, [], [⟨31, 0, .rwl, 0x0, 3⟩]⟩,
  ⟨0x14, [], [⟨31, 0, .rwl, 0x0, 3⟩]⟩,
  ⟨0x18, [], [⟨31, 0, .rwl, 0x0, 3⟩]⟩,
  ⟨0x1C, [], [⟨31, 0, .rwl, 0x0, 3⟩]⟩,
  ⟨0x20, [], [⟨31, 0, .rwl, 0x0, 3⟩]⟩,
  ⟨0x24, [], [⟨15, 0, .rwl, 0x0, 3⟩]⟩,
  ⟨0x28, [], [⟨31, 21, .rwl, 0x0, 3⟩]⟩,
  ⟨0x2C, [], [⟨15, 0, .rwl, 0x0, 3⟩]⟩,
  ⟨0x30, [], [⟨15, 0, .ro, 0x0, 0⟩]⟩,
  ⟨0x7F0, [], [⟨0, 0, .wos, 0x0, 2⟩]⟩,
  ⟨0x800, [], [⟨9, 0, .rwl, 0x14, 3⟩, ⟨15, 10, .rwl, 0x10, 3⟩]⟩,
  ⟨0x1000, [(0x10, 64)], [⟨31, 5, .rwl, 0x0, 3⟩]⟩,
  ⟨0x1004, [(0x10, 64)], [⟨15, 0, .rwl, 0x0, 3⟩]⟩,
  ⟨0x1008, [(0x10, 64)], [⟨3, 0, .rwl, 0x0, 3⟩, ⟨4, 4, .rwl, 0x0, 3⟩, ⟨14, 5, .rwl, 0x0, 3⟩]⟩,
  ⟨0x100C, [(0x10, 64)], [⟨31, 0, .ro, 0x0, 0⟩]⟩,
  ⟨0x2000, [(0x20, 16)], [⟨0, 0, .rwl, 0x0, 3⟩, ⟨6, 1, .rwl, 0x0, 3⟩, ⟨16, 7, .rwl, 0x0, 3⟩, ⟨26, 17, .rwl, 0x0, 3⟩, ⟨31, 27, .rwl, 0xA, 3⟩]⟩,
  ⟨0x2004, [(0x20, 16)], [⟨13, 0, .rwl, 0x0, 3⟩, ⟨30, 16, .rwl, 0x1, 3⟩]⟩,
  ⟨0x2008, [(0x20, 16)], [⟨15, 0, .rwl, 0xC8, 3⟩]⟩,
  ⟨0x200C, [(0x20, 16)], [⟨2, 0, .ro, 0x0, 0⟩, ⟨3, 3, .ro, 0x0, 0⟩, ⟨31, 16, .ro, 0x0, 0⟩]⟩,
  ⟨0x2010, [(0x20, 16)], [⟨31, 0, .ro, 0x0, 0⟩]⟩,
  ⟨0x2014, [(0x20, 16)], [⟨31, 0, .ro, 0x0, 0⟩]⟩]

/-- Registers of block GRV. -/
def regsGRV : List RegDef := regsGRV0

/-- Registers of block BGH, part 0. -/
def regsBGH0 : List RegDef := [
  ⟨0x10, [], [⟨31, 0, .ro, 0x0, 0⟩]⟩,
  ⟨0x14, [], [⟨31, 0, .ro, 0x0, 0⟩]⟩,
  ⟨0x100, [(0x20, 4)], [⟨0, 0, .wo, 0x0, 3⟩, ⟨1, 1, .wo, 0x0, 0⟩, ⟨2, 2, .wo, 0x0, 3⟩, ⟨3, 3, .wo, 0x0, 0⟩, ⟨4, 4, .wo, 0x0, 3⟩, ⟨5, 5, .wo, 0x0, 3⟩]⟩,
  ⟨0x104, [(0x20, 4)], [⟨0, 0, .rwl, 0x0, 2⟩, ⟨1, 1, .rwl, 0x0, 2⟩]⟩,
  ⟨0x108, [(0x20, 4)], [⟨2, 0, .ro, 0x0, 0⟩, ⟨3, 3, .ro, 0x1, 0⟩, ⟨4, 4, .ro, 0x0, 0⟩, ⟨5, 5, .ro, 0x0, 0⟩, ⟨31, 16, .ro, 0x0, 0⟩]⟩,
  ⟨0x110, [(0x20, 4)], [⟨31, 2, .rwl, 0x0, 2⟩]⟩,
  ⟨0x114, [(0x20, 4)], [⟨15, 0, .rwl, 0x0, 2⟩]⟩,
  ⟨0x200, [(0x20, 8)], [⟨5, 0, .ro, 0x0, 0⟩]⟩,
  ⟨0x204, [(0x20, 8)], [⟨31, 0, .w1c, 0x0, 3⟩]⟩,
  ⟨0x208, [(0x20, 8)], [⟨31, 0, .wo, 0x0, 3⟩]⟩,
  ⟨0x20C, [(0x20, 8)], [⟨31, 0, .rw, 0x0, 3⟩]⟩,
  ⟨0x210, [(0x20, 8)], [⟨31, 0, .rw, 0xFFFFFFFF, 3⟩]⟩,
  ⟨0x214, [(0x20, 8)], [⟨31, 0, .rw, 0xFFFFFFFF, 3⟩]⟩,
  ⟨0x7F0, [], [⟨0, 0, .wos, 0x0, 2⟩]⟩,
  ⟨0x800, [(0x4, 4)], [⟨15, 0, .rwl, 0x3E8, 2⟩]⟩]

/-- Registers of block BGH. -/
def regsBGH : List RegDef := regsBGH0

/-- Registers of block LCS, part 0. -/
def regsLCS0 : List RegDef := [
  ⟨0x0, [], [⟨2, 0, .ro, 0x0, 0⟩, ⟨3, 3, .ro, 0x0, 0⟩, ⟨4, 4, .ro, 0x0, 0⟩, ⟨5, 5, .ro, 0x0, 0⟩, ⟨6, 6, .ro, 0x0, 0⟩]⟩,
  ⟨0x8, [], [⟨31, 0, .ro, 0x0, 0⟩]⟩,
  ⟨0xC, [], [⟨31, 0, .ro, 0x0, 0⟩]⟩,
  ⟨0x10, [], [⟨2, 0, .wo, 0x0, 6⟩, ⟨31, 16, .wo, 0x0, 6⟩]⟩,
  ⟨0x14, [], [⟨0, 0, .wo, 0x0, 6⟩]⟩,
  ⟨0x18, [], [⟨4, 0, .rwl, 0x1F, 2⟩]⟩,
  ⟨0x1C, [], [⟨4, 0, .w1c, 0x0, 2⟩]⟩,
  ⟨0x20, [], [⟨31, 0, .ro, 0x0, 0⟩]⟩,
  ⟨0x24, [], [⟨31, 0, .ro, 0x0, 0⟩]⟩,
  ⟨0x28, [], [⟨6, 0, .ro, 0x0, 0⟩, ⟨8, 8, .ro, 0x0, 0⟩, ⟨31, 16, .ro, 0x0, 0⟩]⟩,
  ⟨0x30, [], [⟨6, 0, .rw, 0x0, 4⟩]⟩,
  ⟨0x34, [], [⟨31, 0, .rw, 0x0, 4⟩]⟩,
  ⟨0x38, [], [⟨0, 0, .wo, 0x0, 4⟩]⟩,
  ⟨0x3C, [], [⟨0, 0, .ro, 0x0, 0⟩, ⟨1, 1, .w1c, 0x0, 4⟩, ⟨2, 2, .w1c, 0x0, 4⟩]⟩,
  ⟨0x40, [], [⟨0, 0, .wo, 0x0, 6⟩, ⟨1, 1, .wo, 0x0, 2⟩]⟩,
  ⟨0x44, [], [⟨15, 0, .ro, 0x0, 0⟩, ⟨31, 16, .ro, 0x0, 0⟩]⟩,
  ⟨0x100, [(0x4, 128)], [⟨31, 0, .ro, 0x0, 0⟩]⟩,
  ⟨0x7F0, [], [⟨0, 0, .wos, 0x0, 2⟩]⟩]

/-- Registers of block LCS. -/
def regsLCS : List RegDef := regsLCS0

/-- Registers of block SAP, part 0. -/
def regsSAP0 : List RegDef := [
  ⟨0x0, [], [⟨2, 0, .ro, 0x0, 0⟩]⟩,
  ⟨0x4, [], [⟨0, 0, .ro, 0x0, 0⟩, ⟨1, 1, .ro, 0x0, 0⟩, ⟨2, 2, .ro, 0x0, 0⟩, ⟨3, 3, .w1c, 0x0, 3⟩, ⟨4, 4, .ro, 0x0, 0⟩, ⟨5, 5, .ro, 0x0, 0⟩]⟩,
  ⟨0x8, [], [⟨8, 0, .rwl, 0x12C, 3⟩]⟩,
  ⟨0xC, [], [⟨15, 0, .ro, 0x0, 0⟩]⟩,
  ⟨0x10, [], [⟨10, 0, .ro, 0x5DC, 0⟩, ⟨26, 16, .rwl, 0x708, 3⟩]⟩,
  ⟨0x14, [], [⟨7, 0, .ro, 0x0, 0⟩, ⟨15, 8, .ro, 0x0, 0⟩]⟩,
  ⟨0x18, [], [⟨3, 0, .ro, 0x0, 0⟩]⟩,
  ⟨0x1C, [], [⟨0, 0, .wo, 0x0, 7⟩, ⟨31, 16, .wo, 0x0, 7⟩]⟩,
  ⟨0x20, [], [⟨11, 0, .ro, 0x0, 0⟩, ⟨12, 12, .ro, 0x0, 0⟩]⟩,
  ⟨0x24, [], [⟨31, 0, .ro, 0x0, 0⟩]⟩,
  ⟨0x100, [(0x4, 25)], [⟨11, 0, .ro, 0x0, 0⟩, ⟨21, 12, .ro, 0x0, 0⟩]⟩,
  ⟨0x7F0, [], [⟨0, 0, .wos, 0x0, 2⟩]⟩,
  ⟨0x800, [], [⟨7, 0, .rwl, 0x69, 2⟩, ⟨15, 8, .rwl, 0x73, 2⟩]⟩,
  ⟨0x804, [], [⟨2, 0, .rwl, 0x0, 2⟩]⟩,
  ⟨0x808, [], [⟨7, 0, .rwl, 0x28, 2⟩]⟩]

/-- Registers of block SAP. -/
def regsSAP : List RegDef := regsSAP0

/-- Registers of block EVQ, part 0. -/
def regsEVQ0 : List RegDef := [
  ⟨0x0, [], [⟨0, 0, .rw, 0x0, 3⟩, ⟨4, 1, .rw, 0x0, 3⟩]⟩,
  ⟨0x8, [], [⟨31, 12, .rw, 0x0, 3⟩]⟩,
  ⟨0xC, [], [⟨15, 0, .rw, 0x0, 3⟩]⟩,
  ⟨0x10, [], [⟨31, 0, .ro, 0x0, 0⟩]⟩,
  ⟨0x14, [], [⟨31, 0, .rw, 0x0, 3⟩]⟩,
  ⟨0x18, [], [⟨15, 0, .ro, 0xFFFF, 0⟩]⟩,
  ⟨0x1C, [], [⟨15, 0, .ro, 0x0, 0⟩]⟩,
  ⟨0x20, [], [⟨29, 0, .rw, 0x0, 3⟩]⟩,
  ⟨0x24, [], [⟨15, 0, .rw, 0x64, 3⟩]⟩,
  ⟨0x28, [], [⟨7, 0, .rw, 0x0, 3⟩, ⟨12, 8, .rw, 0x1C, 3⟩]⟩,
  ⟨0x2C, [], [⟨2, 0, .rw, 0x0, 3⟩]⟩,
  ⟨0x30, [], [⟨0, 0, .rwl, 0x1, 2⟩, ⟨1, 1, .rwl, 0x0, 2⟩]⟩,
  ⟨0x34, [], [⟨0, 0, .wo, 0x0, 7⟩]⟩,
  ⟨0x38, [], [⟨0, 0, .ro, 0x0, 0⟩, ⟨1, 1, .ro, 0x0, 0⟩, ⟨2, 2, .w1c, 0x0, 2⟩, ⟨3, 3, .w1c, 0x0, 2⟩, ⟨4, 4, .ro, 0x0, 0⟩, ⟨15, 5, .ro, 0x0, 0⟩, ⟨31, 16, .ro, 0x0, 0⟩]⟩,
  ⟨0x7F0, [], [⟨0, 0, .wos, 0x0, 2⟩]⟩]

/-- Registers of block EVQ. -/
def regsEVQ : List RegDef := regsEVQ0

end Sys2Proof.Machine
end

