-- ==== Sys2Proof/Machine/State.lean ====
section
/-! DEFINITION. The state of the block as plain data, the reasons a step can stop, and the state after reset. -/

namespace Sys2Proof.Machine

/-! ### Events (25_events_dump.md) -/

/-- An event record (R518): TIME in the time layout of the event record, code, OID, context, severity, sequence number, arguments. -/
structure EvRec where
  time : Nat := 0
  code : Nat := 0
  oid : Nat := 0
  ctx : Nat := 0
  sev : Nat := 0
  seq : Nat := 0
  a0 : Nat := 0
  a1 : Nat := 0
  a2 : Nat := 0
  a3 : Nat := 0
  deriving DecidableEq, Repr

/-- What is owed to the next EVQ_LOST record (R524). -/
structure LostAcc where
  count : Nat
  sev : Nat
  first : Nat
  last : Nat
  deriving DecidableEq, Repr

/-- A dump trigger (R529, R531): TRIG, and code and SEQ of the triggering event or 0. -/
structure DumpTrig where
  trig : Nat
  code : Nat
  seq : Nat
  deriving DecidableEq, Repr

/-- A dump in progress (R529 to R532). -/
structure DumpRun where
  trig : DumpTrig
  slot : Nat
  start : Nat
  startNs : Nat
  deriving DecidableEq, Repr

/-- The event unit beside its registers (R520 to R525, R529): history, records destined for the queue, what is owed to EVQ_LOST, intervals by
vector (1 open, 2 with a record waiting), the trigger that starts the next dump, the dump in progress, the trigger held, and whether the
host port's MSI-X table is programmed. -/
structure Evq where
  hist : List EvRec := []
  queue : List EvRec := []
  lost : Option LostAcc := none
  coal : Sparse Nat := []
  want : Option DumpTrig := none
  dump : Option DumpRun := none
  held : Option DumpTrig := none
  msix : Bool := false
  deriving DecidableEq, Repr

/-! ### Crown cores (04_crown_core.md to 06_crown_isa_tensor.md) -/

/-- An entry of the loop stack (R109): start and end address, count and index. -/
structure LoopEnt where
  start : Nat
  stop : Nat
  count : Nat
  idx : Nat
  deriving DecidableEq, Repr

/-- A queued instruction with the operands captured at issue (R102) and its number `n` in the core's issue order; `seen` marks a
wait whose watch is set up (R293), a load whose last row is read, a signal that is on the network. -/
structure QEntry where
  op : Instr
  pc : Nat
  word : Nat
  x : Int := 0
  y : Int := 0
  t0 : BitVec 128 := 0
  t1 : BitVec 128 := 0
  seen : Bool := false
  n : Nat := 0
  deriving DecidableEq, Repr

/-- A ring signal on its way over the network-on-chip (R289): ring in the SIGTGT format, context, agent, increment, and the
queue entry `n` of the Crown core that sent it from its SYNC queue or with a DSCT. -/
structure OwedSig where
  ring : Nat
  ctx : Nat
  oid : Nat
  inc : Nat
  sync : Bool := false
  n : Nat := 0
  deriving DecidableEq, Repr

/-- A weight buffer of the array (R72, R73): mode and group form of the tile and its codes, key 512 * k + column. -/
structure WTile where
  mode : Nat := 0
  grp : Bool := false
  codes : Sparse (BitVec 8) := []
  deriving DecidableEq, Repr

/-- States of the shadow buffer (R135). -/
inductive ShadowSt where
  | empty | loading | ready
  deriving DecidableEq, Repr

/-- One Crown core beside its registers (R70, R101). `v` is keyed 512 * register + lane, `tab` 256 * table + index,
`acc` 512 * entry + element; `fbuf` holds the last 8 rows of 64 bytes fetched, with their row numbers (R91, R126); `heldWord` is the word of
the RWAITS that holds decode. -/
structure Crown where
  pc : Nat := 0
  s : Sparse (BitVec 64) := []
  p : BitVec 8 := 1
  t : Sparse (BitVec 128) := []
  loops : List LoopEnt := []
  fbuf : List (Nat × List Byte) := []
  v : Sparse (BitVec 32) := []
  tab : Sparse (BitVec 16) := []
  tabSigned : BitVec 8 := 0
  acc : Sparse (BitVec 36) := []
  active : WTile := {}
  shadow : WTile := {}
  shadowSt : ShadowSt := .empty
  qDma : List QEntry := []
  qArray : List QEntry := []
  qTwig : List QEntry := []
  qSync : List QEntry := []
  flDma : List QEntry := []
  flArray : List QEntry := []
  flTwig : List QEntry := []
  pendS : List Nat := []
  pendP : List Nat := []
  issued : Nat := 0
  seqWait : Option (Nat × Nat) := none
  heldWord : Nat := 0
  halted : Bool := false
  ended : Bool := false
  deriving DecidableEq, Repr

/-! ### Jobs, contexts, owners (12_jobs_scheduling.md) -/

/-- The fields of a job descriptor (R260). -/
structure JobDesc where
  jobId : Nat := 0
  eng : Nat := 0
  ncore : Nat := 0
  jflags : Nat := 0
  fmask : Nat := 0
  cores : Nat := 0
  wring : Nat := 0
  wtgt : Nat := 0
  cring : Nat := 0
  deadline : Nat := 0
  paddr : Nat := 0
  plen : Nat := 0
  pbase : Nat := 0
  gangoff : Nat := 0
  resbase : Nat := 0
  reslen : Nat := 0
  resopen : Nat := 0
  aff : List Nat := []
  args : List Nat := []
  deriving DecidableEq, Repr

/-- How far a job has come (R265, R268, R270): at the head of its queue, with units but not started, running, waiting in its seal for
owed signals, cancelled by a sprout switch and stopping. -/
inductive JobPhase where
  | queued | assigned | running | sealWait | stopping
  deriving DecidableEq, Repr

/-- A job read from its queue, numbered by `id`: its queue index, whether a unit loss put it back (its descriptor is then no longer counted
by HEAD), whether it is a sprout job, deadline and switch point (TIM time in ns), units held by rank, elapsed TIM time at their assignment,
TIM time of the start, units that reached END, deadline missed, elapsed TIM time at the start of the seal's wait, cores a
sprout takes first, dispatched under Strict mode, elapsed TIM time at which its units were told to stop (R268). -/
structure Job where
  id : Nat
  ctx : Nat
  d : JobDesc
  qidx : Nat := 0
  requeued : Bool := false
  phase : JobPhase := .queued
  sprout : Bool := false
  deadline : Option Nat := none
  switchAt : Option Nat := none
  cores : List Nat := []
  sap : Bool := false
  assigned : Nat := 0
  start : Option Nat := none
  ended : List Nat := []
  late : Bool := false
  sealSince : Nat := 0
  prefer : List Nat := []
  strict : Bool := false
  stopSince : Nat := 0
  deriving DecidableEq, Repr

/-- A unit that runs jobs, 0 to 5 Crown, 6 Sapling, beside its state register (R263, R273, R275, R278): context of its last job or 64,
residency tag, storage to be zeroed before the next job, quarantine passed, RETIRE awaited at the release. -/
structure UnitSt where
  lastCtx : Nat := 64
  tag : Nat := 0
  needZero : Bool := false
  passed : Bool := false
  retire : Bool := false
  deriving DecidableEq, Repr

/-- A result region under fixed rule F5 (R270, R340) with the job that names it: unopened until the seal. -/
structure ResRegion where
  base : Nat
  len : Nat
  ctx : Nat
  job : Nat
  host : Bool
  cons : Option Nat
  sealed : Bool
  deriving DecidableEq, Repr

/-- A change of owner in progress (R277): the command's range and the units withdrawn. -/
structure OwnChange where
  addr : Nat
  len : Nat
  owner : Nat
  units : List Nat
  deriving DecidableEq, Repr

/-- The scheduler beside its registers. Owners are keyed by address / 4 KiB for on-die memory and by address / 2 MiB for DRAM;
64 is HOST (R276). `loss` holds the contexts that tear down for a unit loss, with the unit (R273, R274), `tearing` by context the elapsed TIM time at
which its teardown began plus 1 (R272), `hot` the units whose READMIT a thermal trip still drops (R497). -/
structure Sched where
  jobs : List Job := []
  nextId : Nat := 0
  units : Sparse UnitSt := []
  owner : Sparse Nat := []
  change : Option OwnChange := none
  results : List ResRegion := []
  loss : List (Nat × Nat) := []
  tearing : Sparse Nat := []
  hot : List Nat := []
  deriving DecidableEq, Repr

/-- A page of the pool (R179, R187, R189): its first slot counted from the pool's start, its tokens, its reference count. -/
structure KvPage where
  pg : Nat
  toks : Nat
  ref : Nat
  zeroing : Bool
  deriving DecidableEq, Repr

/-- A sequence (R180): handle, context, length, its pages with the tokens it holds in each, and the ephemeral mark with the identifier plus 1 of the
job that posted its command, 0 where no job did (R182). -/
structure KvSeq where
  h : Nat
  ctx : Nat
  len : Nat
  runs : List (Nat × Nat)
  eph : Bool
  job : Nat
  deriving DecidableEq, Repr

/-- An EXTEND in execution (R184, R187, R192, R193): its record and the record's address, tags of the new tokens, tokens placed in the last page, tokens
still unplaced, the copy still to allocate and the copy made, pages allocated with the tokens placed in each, pages still being zeroed, whether it
asks for pages in the next allocation cycle, and the chunks a failed allocation waits for since an elapsed TIM time. -/
structure KvExec where
  ctx : Nat
  h : Nat
  n : Nat
  psz : Nat
  tags : List Byte
  fill : Nat
  left : Nat
  cowNeed : Option Nat
  cow : Option Nat
  pages : List (Nat × Nat)
  zero : List Nat
  raw : List Byte
  addr : Nat
  asked : Bool := false
  wait : Option Nat := none
  since : Nat := 0
  deriving DecidableEq, Repr

/-- The Page keeper's directory beside its registers (R178 to R192); `posts` holds by doorbell ring the jobs whose signals posted the last records
(identifier plus 1, or 0; R181, R182); `owner` is keyed by chunk number, 64 is no context; `last` is
the queue last served, `low` says that KV_POOL_LOW has been raised, `dead` that the directory met an uncorrectable word (R309). -/
structure Kvp where
  owner : Sparse Nat := []
  pages : List KvPage := []
  seqs : List KvSeq := []
  exec : List KvExec := []
  last : Nat := 63
  low : Bool := false
  posts : Sparse (List Nat) := []
  dead : Bool := false
  deriving DecidableEq, Repr

/-- Sapling beside its registers (R200, R204 to R207): the descriptor fetched and not complete, the ring wait of that descriptor, whether the wait
has passed, the COUNT of the previous descriptor if it was a DECODE, a fault that has stopped it, an END that has been executed, and
the stores that hold its data, 0 weight and 1 detection. -/
structure Sapling where
  held : Option (List Byte) := none
  wait : Option (Nat × Nat) := none
  passed : Bool := false
  prevCount : Option Nat := none
  halted : Bool := false
  ended : Bool := false
  filled : List Nat := []
  deriving DecidableEq, Repr

/-! ### Seedbed (11_seedbed_input.md) and Heartwood's frame table (R19, R323) -/

/-- The record of a sample (R252); `emb` holds its bytes 64 to 127. -/
structure SdbRec where
  sid : Nat := 0
  fcnt : Nat := 0
  time : Nat := 0
  status : Nat := 1
  guard : Nat := 0
  slot : Nat := 0xFFFF
  seg : Nat := 0
  tok0 : Nat := 0
  flags : Nat := 0
  rcrc : Nat := 0
  scrc : Nat := 0
  num : Nat := 0
  ntok : Nat := 0
  tdone : Nat := 0
  emb : List Byte := []
  deriving DecidableEq, Repr

/-- A sample in flight (R237 to R248) of a stream with descriptor `desc`: number, record so far, a status already given, the
augmentation block, the input (lines of a frame; of a host sample its descriptor, with `input` empty), whether its input is
complete, whether it holds a slot credit, and whether it was admitted under Strict mode (R508). -/
structure SdbSample where
  id : Nat
  desc : List Byte
  r : SdbRec
  st : Option Nat := none
  aug : List Byte := []
  input : List (List Byte) := []
  hdesc : List Byte := []
  ready : Bool := false
  credit : Bool := false
  strict : Bool := false
  deriving DecidableEq, Repr

/-- A frame being received (R234, R250): receiver, virtual channel, stream, the sample it feeds, whether it is damaged or has lost a
line, its image lines and their number, the running CRC, the first embedded line. -/
structure SdbFrame where
  rx : Nat
  vc : Nat
  stream : Nat
  desc : List Byte
  samp : Option Nat
  bad : Bool := false
  lost : Bool := false
  lines : List (List Byte) := []
  n : Nat := 0
  crc : Nat := 0xFFFFFFFF
  emb : Option (List Byte) := none
  deriving DecidableEq, Repr

/-- An edge of the stream's pulse output (R238): TIM time in units of 2^-16 ns, and whether a frame is attributed to it. -/
structure SdbEdge where
  t : Nat
  framed : Bool := false
  deriving DecidableEq, Repr

/-- An open packed row (R246): slot, tokens used, next segment, elapsed TIM time at its opening, the samples placed, its descriptor. -/
structure SdbRow where
  slot : Nat
  used : Nat
  seg : Nat
  since : Nat
  recs : List SdbRec
  desc : List Byte
  deriving DecidableEq, Repr

/-- A stream's internal state (R237): base of the release ring, credits taken, tensors emitted, previous frame number, CRC of the
previous undamaged frame and the length of the run of equal frames, a test pattern in progress, one that passed, the last frame
start (TIM time, elapsed TIM time), latched edges, open row, samples in flight in admission order. -/
structure SdbStream where
  desc : List Byte := []
  u0 : Nat := 0
  taken : Nat := 0
  k : Nat := 0
  prevNum : Option Nat := none
  lastCrc : Option Nat := none
  run : Nat := 0
  tp : Bool := false
  tpok : Bool := false
  start : Option (Nat × Nat) := none
  edges : List SdbEdge := []
  row : Option SdbRow := none
  flights : List SdbSample := []
  nextId : Nat := 0
  deriving DecidableEq, Repr

/-- Seedbed beside its registers; `filled` holds the 128 KiB parts of its buffer regions that hold its data (R235): 0 to 11 the line buffers by
receiver, 12 to 15 the resize and patch buffers. -/
structure Seedbed where
  frames : List SdbFrame := []
  streams : Sparse SdbStream := []
  filled : List Nat := []
  deriving DecidableEq, Repr

/-- An entry of Heartwood's frame table (R323): frame counter, TIME, STATUS. -/
structure FrameRec where
  fcnt : Nat
  time : Nat
  status : Nat
  deriving DecidableEq, Repr

/-! ### Memory system (14_memory_system.md) and Page keeper ownership -/

/-- A soft repair copy in progress (R311): macro identifier, row address, trigger 0 march, 1 repeated correction, 2 uncorrectable. -/
structure Repair where
  mac : Nat
  row : Nat
  trigger : Nat
  deriving DecidableEq, Repr

/-- A requested memory test (R314): target, form (true preserving), backgrounds. -/
structure MemTest where
  target : Nat
  preserving : Bool
  bgs : Nat
  deriving DecidableEq, Repr

/-- Who asks for a bulk clear (R318): the role that wrote MEM_BCLR_CMD, the scheduler for a change of owner, the Page keeper for a page. -/
inductive ClearFor where
  | role (oid : Nat)
  | owner
  | page (pg : Nat)
  deriving DecidableEq, Repr

/-- A bulk clear in progress (R318): first address, length in bytes, requester. -/
structure BulkClear where
  addr : Nat
  len : Nat
  who : ClearFor
  deriving DecidableEq, Repr

/-- A DRAM line that a Bough core's cache holds dirty (R454): address, core (2p in lockstep), and the 64 bytes that DRAM held before. -/
structure DirtyLine where
  line : Nat
  core : Nat
  was : List Byte
  deriving DecidableEq, Repr

/-- A reservation that a Bough core's LR holds (R453): the core, the address and the bytes. -/
structure Resv where
  core : Nat
  addr : Nat
  len : Nat
  deriving DecidableEq, Repr

/-- The memory system beside its registers. `synd` holds, per 8-byte word address, the stored check byte XOR the check byte
of the stored data (R306); `ueSeen` the uncorrectable words already reported (R308); `fused` the repair fuse words as power-on applied them
(R310), `bgRow` the periods of the background tester, `bgLag` by macro those that its owner's accesses took from it (R315, R316); `clears` what the
bulk-clear engine serves (R318); `links` the parity errors that the coming accesses of engines to DRAM meet (R301); `dirty` the lines that Bough
caches hold dirty and `resv` the reservations of Bough cores (R453, R454). -/
structure MemSys where
  synd : Sparse (BitVec 8) := []
  ueSeen : List Nat := []
  ceCount : Sparse Nat := []
  ceLast : Sparse Nat := []
  spareUsed : Sparse Nat := []
  repairs : List Repair := []
  fused : List Nat := []
  bgRow : Nat := 0
  bgLag : Sparse Nat := []
  test : Option MemTest := none
  clears : List BulkClear := []
  links : List (Nat × Nat) := []
  dirty : List DirtyLine := []
  resv : List Resv := []
  deriving DecidableEq, Repr

/-! ### TIM (19_ethernet_time.md) and Grove (20_grove_multidevice.md) -/

/-- A time stamp in a queue (R425, R429): time in units of 2^-16 ns, and the TSID or 1 for a rising edge. -/
structure Stamp where
  t : Nat
  tag : Nat
  deriving DecidableEq, Repr

/-- A pulse output in operation (R428): index of the pulse to come or in progress, pulses driven since EN was set, whether a pulse is in
progress and the time of its trailing edge. -/
structure PulseSt where
  k : Nat := 0
  driven : Nat := 0
  high : Bool := false
  off : Nat := 0
  deriving DecidableEq, Repr

/-- TIM and the Ethernet ports beside their registers (R418 to R432): the low 16 bits of the fraction, slew ticks left with the sign of the slew,
elapsed time at the last write of LOCKED, transmit stamps by port, capture stamps by input, pulse outputs, the transmit ring last
served by port, elapsed time plus 1 of the last ETH_FEC_UNCORR by port, elapsed time at which a port's pause ends (R413). -/
structure Tim where
  frac : Nat := 0
  slew : Int := 0
  syncSince : Nat := 0
  txq : Sparse (List Stamp) := []
  ciq : Sparse (List Stamp) := []
  po : Sparse PulseSt := []
  served : Sparse Nat := []
  fec : Sparse Nat := []
  pause : Sparse Nat := []
  deriving DecidableEq, Repr

/-- A datagram of a stream (R437): TYPE, FLAGS, LEN, ARG, the source address of a WRITE, payload of a RELEASE, and the descriptor
number it belongs to or none. -/
structure GrvDg where
  kind : Nat
  flags : Nat
  len : Nat
  arg : Nat
  laddr : Nat := 0
  body : List Byte := []
  desc : Option Nat := none
  deriving DecidableEq, Repr

/-- The sending side of a stream (R443, R444): SEQ of the oldest datagram held, datagrams held and how many of them were sent, elapsed time
since the oldest has waited, retransmissions without progress, START owed, the port it uses. -/
structure GrvTx where
  base : Nat := 0
  q : List GrvDg := []
  sent : Nat := 0
  since : Nat := 0
  tries : Nat := 0
  start : Bool := true
  port : Nat := 0
  deriving DecidableEq, Repr

/-- The receiving side of a stream (R443): the next SEQ, datagrams applied since the last ACK, elapsed time at the last of them. -/
structure GrvRx where
  next : Nat := 0
  unacked : Nat := 0
  since : Nat := 0
  deriving DecidableEq, Repr

/-- A descriptor taken and not complete (R438): number, destination, local ring of LSIG. -/
structure GrvDesc where
  k : Nat
  dst : Nat
  lring : Option Nat
  deriving DecidableEq, Repr

/-- An RSIGD that waits in a channel's order (R441): doorbell value at its arrival, device, ring, increment. -/
structure GrvSig where
  pos : Nat
  dst : Nat
  ring : Nat
  inc : Nat
  deriving DecidableEq, Repr

/-- A channel: descriptors taken (modular), those not complete, waiting RSIGDs. -/
structure GrvChan where
  taken : Nat := 0
  descs : List GrvDesc := []
  sigs : List GrvSig := []
  deriving DecidableEq, Repr

/-- A barrier beside its registers (R446 to R449): arrival ring value at the last arrival, elapsed time at it, at the coordinator the devices
counted for this and the next generation with their REFOK, and T and COND of an armed release (T in ns). -/
structure GrvBar where
  base : Nat := 0
  since : Nat := 0
  now : List (Nat × Bool) := []
  next : List (Nat × Bool) := []
  t : Nat := 0
  cond : Bool := false
  deriving DecidableEq, Repr

/-- Grove beside its registers. Streams are keyed 64 * device + channel. -/
structure Grove where
  tx : Sparse GrvTx := []
  rx : Sparse GrvRx := []
  chan : Sparse GrvChan := []
  bar : Sparse GrvBar := []
  deriving DecidableEq, Repr

/-! ### Heartwood (15_heartwood_safety.md), Cambium (16_cambium_control.md) and the root links (17_root_links.md) -/

/-- A cause on its way to the safe-state sequencer (R333): its code, and the channel, or the unit for 0x08. -/
structure HwdCause where
  code : Nat
  arg : Nat := 0
  deriving DecidableEq, Repr

/-- A submission in progress (R326, R330): the copy, whether its source was owned by the channel's context, and once it is accepted the cycle
`ts` at which it takes over (ns) and the step `s`. -/
structure GateSub where
  raw : List Byte
  owned : Bool
  ready : Option (Nat × Nat) := none
  deriving DecidableEq, Repr

/-- A gate channel beside its registers (R326, R329): submissions taken, consecutive implausible rejections, whether check 2 applies, the
submission in progress. -/
structure GateChan where
  taken : Nat := 0
  imp : Nat := 0
  accepted : Bool := false
  sub : Option GateSub := none
  deriving DecidableEq, Repr

/-- An entry of Heartwood's fault log (R459): the pair of a compare error and the report's numbers. -/
structure HwdFault where
  pair : Nat
  a0 : Nat
  a1 : Nat
  a2 : Nat
  deriving DecidableEq, Repr

/-- Heartwood beside its registers: causes due (R333), the fallback, controlled-stop and safe torque-off lines (R323), cores a Crown restart still waits for and the forgetting of SEQs it owes (R334, R335), the channels, the axis
records (R328), keys of the next kick (R332), whether a kick has come, the next check unit (R337), the next slice (R338),
whether the pair has stopped issuing (R324), elapsed time at the last pulse of Cambium's heartbeat line (R332), and the fault log (R459). -/
structure Hwd where
  due : List HwdCause := []
  fb : Bool := false
  stop : Bool := false
  sto : Bool := true
  left : List Nat := []
  forget : Bool := false
  chans : Sparse GateChan := []
  axrec : Sparse (List Byte) := []
  keyAlt : Bool := false
  kicked : Bool := false
  nextUnit : Nat := 0
  slice : Nat := 0
  stopped : Bool := false
  beat : Nat := 0
  faults : List HwdFault := []
  deriving DecidableEq, Repr

/-- An axis beside its records and registers (R349 to R361): a latched source change with its captured position (none: the first valid
sample) and the TIM time of the latch (ns), plat and whether it still waits for that sample, first cycle under the source (ns), setpoint in
force, law done in this cycle, valid sample in the previous cycle with its position and velocity (R354), valid sample in the last cycle, state
before a resume that the next law completes. -/
structure CmbAxis where
  next : Option (Nat × Option Int) := none
  nextAt : Nat := 0
  plat : Int := 0
  wait : Bool := false
  t0 : Nat := 0
  ps : Int := 0
  vs : Int := 0
  done : Bool := false
  seen : Bool := false
  pp : Int := 0
  vp : Int := 0
  valid : Bool := false
  resume : Option Nat := none
  deriving DecidableEq, Repr

/-- Cambium beside its registers: boundary of its cycle in progress (TIM time in ns), instant from which its boundaries count, last boundary that
the root links took and the number of its cycle (R372), TIM time (ns) of each channel's commit (R22), record check due at the next fallback
latch (R348). -/
structure Cmb where
  last : Option Nat := none
  since : Nat := 0
  bound : Option Nat := none
  cycle : Nat := 0
  commitAt : Sparse Nat := []
  afterSto : Bool := true
  axes : Sparse CmbAxis := []
  deriving DecidableEq, Repr

/-- A root-link port beside its registers (R370 to R384): samples of the cycle by hop index, window closed, commands released, management
exchange (0 none, 1 asked for, 2 due in this cycle, 3 sent) with the request and data captured at GO, stations that rejoin at the next
boundary, cycle of the last RLK_FRAME_ERR plus 1, identities found by the last enumeration, errors reported since the port entered ENUM. -/
structure RlkPort where
  got : List (Nat × List Byte) := []
  closed : Bool := false
  released : Bool := false
  mg : Nat := 0
  mgReq : Nat := 0
  mgData : Nat := 0
  rejoin : Option Nat := none
  errAt : Nat := 0
  ids : List Nat := []
  toldTopo : Bool := false
  toldSched : Bool := false
  deriving DecidableEq, Repr

/-! ### CAN FD (18_can_fd.md) -/

/-- A CAN controller beside its registers (R395 to R407): buffer on the bus, pending buffers by request, failed attempts by buffer, buffers
that were pending at the last recovery, whether a recovery runs, frame error counter of SLEEP, SEQ by object, the last error. -/
structure Can where
  cur : Option Nat := none
  order : List Nat := []
  tries : Sparse Nat := []
  first : List Nat := []
  recovering : Bool := false
  errs : Nat := 0
  seq : Sparse Nat := []
  lastErr : Nat := 0
  deriving DecidableEq, Repr

/-! ### Bough pairs (21_bough_lockstep.md) -/

/-- A Bough pair beside its registers (R460, R464): next slice of the signature check, quarantine passed. -/
structure BghPair where
  slice : Nat := 0
  passed : Bool := false
  deriving DecidableEq, Repr

/-- The privilege modes of a Bough core (R453). -/
inductive BghMode where
  | user | supervisor | machine
  deriving DecidableEq, Repr

/-- The architectural state of a Bough core (R453, R463): x1 to x31, f0 to f31, `pc`, the privilege mode, and the CSRs by number, each as written.
In lockstep the entry of core 2p is the state of both copies (R457). -/
structure BghCore where
  x : Sparse Word64 := []
  f : Sparse Word64 := []
  pc : Word64 := 0
  mode : BghMode := .machine
  csr : Sparse Word64 := []
  deriving DecidableEq, Repr

/-! ### Lifecycle (22_roles_lifecycle_pith.md), power and reset (23_power_clocks_reset_boot.md) -/

/-- The LCS block beside its registers: the fuse copies, key 3 * word + copy (R470); the wipe in progress with its cause and the OID its event
carries (R479); sensors that tripped and the wipe that completed while main power was absent (R481, R479); ROLLBACK of the running Heartwood firmware and of the
accepted installer configuration, and whether a return authorisation was accepted in this boot (R472, R476); the fuse program in progress with
word, value and old value (R471); the transition that waits for it with target and OID (R484); whether the
test access port is in use beyond BYPASS and IDCODE (R482); the fuse option RACK as the last power-on found it (R3); the transition to report at the next
boot with old state, OID and counter (R473); elapsed time plus 1 of the last ROLE_DENIED by port (R468). -/
structure Lcs where
  fuse : Sparse Word := []
  wipe : Option (Nat × Nat) := none
  owedTamper : Nat := 0
  owedWipe : Option (Nat × Nat) := none
  fwRb : Option Nat := none
  cfgRb : Option Nat := none
  retOk : Bool := false
  prog : Option (Nat × Nat × Nat) := none
  next : Option (Nat × Nat) := none
  tap : Bool := false
  rack : Bool := false
  changed : Option (Nat × Nat × Nat) := none
  denied : Sparse Nat := []
  deriving DecidableEq, Repr

/-- Power, resets and Sap beside their registers: main power good (R488); the AON supply on VAON_MAIN (R489); retention lost recorded (R490);
the cause of an asserted global reset with the rail of a brown-out (R499); the PCIe link at L0 and host-ready reported (R503);
BACKUP_LOW raised in this boot (R489); the loop that last chose F in this decision and F before it (R505); decisions in a row above 1.1 times the
cap, and decisions since the last SAP_CAP_STRICT plus 1, the cap in force under Strict mode (R496, R505); voltages of the adaptive domains in 0.5 mV (R493);
the AON count in 1/32,768 s at the last load and the elapsed TIM time of that load (R423, R490). -/
structure Sap where
  power : Bool := false
  onMain : Bool := false
  lost : Bool := false
  held : Option (Nat × Nat) := none
  l0 : Bool := false
  told : Bool := false
  lowTold : Bool := false
  base : Option (Bool × Nat) := none
  excess : Nat := 0
  since : Nat := 0
  cap : Nat := 300
  mv : Sparse Nat := []
  aon : Nat := 0
  aonAt : Nat := 0
  deriving DecidableEq, Repr

/-! ### Requesters and what leaves the block -/

/-- The status a requester receives (R41, R308). -/
inductive RespSt where
  | ok | abort | unsupported | poisoned
  deriving DecidableEq, Repr

/-- An answer given to a requester (R41): its OID, the status and the bytes read. -/
structure Resp where
  oid : Nat
  st : RespSt
  data : List Byte
  deriving DecidableEq, Repr

/-- The lines on which Cambium and the root links answer Heartwood (R345, R357, R365, R378): Cambium's heartbeat, acknowledgement, axis-fault line
and stop-done line of a group, and the root links' acknowledgement of a test. -/
inductive HwdLine where
  | heartbeat | acknowledge | axisFault
  | stopDone (group : Nat)
  | linkAcknowledge
  deriving DecidableEq, Repr

/-- What leaves the block at its pins and links, and the pulses on the lines to Heartwood. -/
inductive Out where
  /-- A pulse on a line to Heartwood. -/
  | line (l : HwdLine)
  /-- An MSI-X message of the host port with the vector (R525). -/
  | msix (vec : Nat)
  /-- Blocks sent by a root-link port (R368 to R379): the frame type, 0 for IDLE blocks, and the blocks before the scrambler. -/
  | rlk (port : Nat) (kind : Nat) (blocks : List LineBlock)
  /-- A CAN frame of controller and buffer handed to the bus (R396). -/
  | can (ctrl : Nat) (buf : Nat)
  /-- An Ethernet frame of port (R416). -/
  | eth (port : Nat) (bytes : List Byte)
  /-- A Grove datagram (R435, R437): port, MAC address, IP address, UDP port, and the bytes from its header on. -/
  | grove (port mac ip udp : Nat) (bytes : List Byte)
  /-- An edge of a pulse output (R428): output, level, time in ns. -/
  | pulse (n : Nat) (level : Bool) (ns : Nat)
  /-- A machine timer interrupt (bit 7) becomes pending at a Bough core (R456). -/
  | bghIrq (core : Nat) (bit : Nat)
  deriving DecidableEq, Repr

/-- The state of the block. `elapsed` is the TIM time that has elapsed since reset in units of 2^-32 ns, which no step or set moves (R553);
`resp` holds the answers given, `out` what has left the block. -/
structure State where
  mem : Sparse Byte := []
  memsys : MemSys := {}
  kvp : Kvp := {}
  spl : Sapling := {}
  sdb : Seedbed := {}
  frameTab : Sparse (List FrameRec) := []
  elapsed : Nat := 0
  tim : Tim := {}
  grove : Grove := {}
  regs : Sparse Word := []
  wos : List (Nat × Nat) := []
  rdShadow : Sparse (Option Word) := []
  wrStage : Sparse (Option Word) := []
  resp : List Resp := []
  out : List Out := []
  free : Nat := 0
  evq : Evq := {}
  crown : Sparse Crown := []
  owed : List OwedSig := []
  sched : Sched := {}
  hwd : Hwd := {}
  cmb : Cmb := {}
  rlk : Sparse RlkPort := []
  can : Sparse Can := []
  bgh : Sparse BghPair := []
  bghCore : Sparse BghCore := []
  lcs : Lcs := {}
  sap : Sap := {}
  pending : List Instr := []
  deriving DecidableEq, Repr

/-- The machine's own stops. The spec lets every command run on, so no meaning faults. -/
inductive Fault where
  /-- Raised by no meaning. Safe. -/
  | none
  deriving DecidableEq, Repr

/-- Why a command is refused. -/
inductive Refusal where
  /-- An arm without a meaning yet; no meaning answers it. Safe. -/
  | notModelled (mnemonic : String)
  deriving DecidableEq, Repr

/-- The machine right after global reset: every register at its reset value (an unlisted register holds it), memory
with nothing listed, every queue empty. -/
def State.reset : State := {}

end Sys2Proof.Machine
end

