-- ==== Sys2Proof/Machine/Ops.lean ====
section
/-! DEFINITION. The named operations over the state: sparse tables, registers, memory, time, events and the part of a
teardown that an event starts. -/

namespace Sys2Proof.Machine

/-! ### Sparse tables -/

/-- The entry at key `k`, or `d`. -/
def spGet {α : Type} (d : α) : Sparse α → Nat → α
  | [], _ => d
  | (j, v) :: t, k => if j = k then v else spGet d t k

/-- The table with the entry `(k, v)` before the first key that is not below `k`. -/
def spIns {α : Type} (k : Nat) (v : α) : Sparse α → Sparse α
  | [] => [(k, v)]
  | e :: t => if e.1 < k then e :: spIns k v t else (k, v) :: e :: t

/-- The table with `v` at key `k`, in canonical form when the table is: keys rise, no entry holds the default `d`. -/
def spSet {α : Type} [DecidableEq α] (d : α) (k : Nat) (v : α) (t : Sparse α) : Sparse α :=
  if v = d then t.filter (fun e => e.1 ≠ k) else spIns k v (t.filter fun e => e.1 ≠ k)

/-- The table with `f j` at key `base + j` for every `j` below `n`. -/
def spRange {α : Type} [DecidableEq α] (d : α) (base n : Nat) (f : Nat → α) (t : Sparse α) : Sparse α :=
  t.filter (fun e => e.1 < base)
    ++ ((List.range n).filterMap fun j => if f j = d then none else some (base + j, f j))
    ++ t.filter (fun e => base + n ≤ e.1)

/-- The table with the default at the `n` keys from `base`. -/
def spClear {α : Type} (base n : Nat) (t : Sparse α) : Sparse α :=
  t.filter fun e => e.1 < base || base + n ≤ e.1

/-- Keys rise strictly and no entry equals what an unlisted key reads as. -/
def spWf {α : Type} [DecidableEq α] (d : Nat → α) : Sparse α → Bool
  | [] => true
  | [(k, v)] => decide (v ≠ d k)
  | (k, v) :: (j, w) :: t => decide (v ≠ d k) && decide (k < j) && spWf d ((j, w) :: t)

/-! ### Registers -/

/-- Does the offset from a register's first copy hit one of its copies? The strides fall in size. -/
def strideHit : List (Nat × Nat) → Nat → Bool
  | [], o => o = 0
  | (st, n) :: r, o => o / st < n && strideHit r (o % st)

/-- The register tables by block number of R27 (window offset / 64 KiB). -/
def blockRegs (b : Nat) : List RegDef :=
  match b with
  | 0x00 => regsSYS | 0x01 => regsSAP | 0x02 => regsLCS | 0x03 => regsSCH | 0x04 => regsEVQ
  | 0x05 => regsBRK | 0x06 => regsMEM | 0x07 => regsDRC
  | 0x10 => regsCRN | 0x11 => regsCRN | 0x12 => regsCRN | 0x13 => regsCRN | 0x14 => regsCRN | 0x15 => regsCRN
  | 0x20 => regsKVP | 0x21 => regsSPL | 0x22 => regsSDB | 0x23 => regsCSI | 0x24 => regsHWD | 0x25 => regsCMB
  | 0x26 => regsRLK | 0x27 => regsCFD | 0x28 => regsTIM | 0x29 => regsETH | 0x2A => regsGRV | 0x2B => regsBGH
  | 0x2C => regsGRN
  | _ => []

/-- The definition of the register at a window offset, if one occupies it (R27). -/
def findReg (off : Nat) : Option RegDef :=
  (blockRegs (off / 0x10000)).find? fun d =>
    d.off ≤ off % 0x10000 && strideHit d.strides (off % 0x10000 - d.off)

/-- The word whose fields hold their reset values (R11). -/
def RegDef.resetWord (d : RegDef) : Nat :=
  d.fields.foldl (fun w f => w + f.rst * 2 ^ f.lo) 0

/-- What an unlisted register holds: its reset value (R11), the module's factory correction for ETH_TSCOR (R434). -/
def regDefault (off : Nat) : Word :=
  if off = Reg.ETH_TSCOR 0 then Config.factoryTscor 0
  else if off = Reg.ETH_TSCOR 1 then Config.factoryTscor 1
  else match findReg off with
    | some d => BitVec.ofNat 32 d.resetWord
    | none => 0

/-- The word of the register at a window offset. -/
def State.reg (s : State) (off : Nat) : Word := spGet (regDefault off) s.regs off

/-- The state with `v` in the register at a window offset. -/
def State.setReg (s : State) (off : Nat) (v : Word) : State :=
  { s with regs := spSet (regDefault off) off v s.regs }

/-- The value of a register field. -/
def State.fld (s : State) (f : RegField) : Nat := slice (s.reg f.reg).toNat f.hi f.lo

/-- The state with `v` in a register field; the register's other bits stay. -/
def State.put (s : State) (f : RegField) (v : Nat) : State :=
  s.setReg f.reg (BitVec.ofNat 32 (insertBits (s.reg f.reg).toNat f.hi f.lo v))

/-- A field read as a flag. -/
def State.flag (s : State) (f : RegField) : Bool := s.fld f ≠ 0

/-- The field plus one, held at its greatest value. -/
def State.incHold (s : State) (f : RegField) : State :=
  if s.fld f + 1 < 2 ^ (f.hi + 1 - f.lo) then s.put f (s.fld f + 1) else s

/-- The field plus `n`, modulo its width. -/
def State.incMod (s : State) (f : RegField) (n : Nat := 1) : State :=
  s.put f ((s.fld f + n) % 2 ^ (f.hi + 1 - f.lo))

/-- A 64-bit value in two consecutive registers, low word first (R39). -/
def State.reg64 (s : State) (lo : Nat) : Nat := (s.reg lo).toNat + (s.reg (lo + 4)).toNat * 2 ^ 32

/-- Write a 64-bit value into two consecutive registers. -/
def State.setReg64 (s : State) (lo : Nat) (v : Nat) : State :=
  (s.setReg lo (BitVec.ofNat 32 v)).setReg (lo + 4) (BitVec.ofNat 32 (v / 2 ^ 32))

/-- Add to a 64-bit counter modulo 2^64. -/
def State.inc64 (s : State) (lo : Nat) (n : Nat := 1) : State := s.setReg64 lo ((s.reg64 lo + n) % 2 ^ 64)

/-! ### Memory (R10, R25) -/

/-- First address of the register window (R25). -/
def regBase : Nat := 0x3000000000

/-- One byte of memory. -/
def State.byte (s : State) (a : Nat) : Byte := spGet 0 s.mem a

/-- `n` bytes from address `a`. -/
def State.bytes (s : State) (a n : Nat) : List Byte := (List.range n).map fun i => s.byte (a + i)

/-- Little-endian value of bytes (R10). -/
def leNat : List Byte → Nat
  | [] => 0
  | b :: t => b.toNat + 256 * leNat t

/-- The `n` little-endian bytes of a value (R10). -/
def leBytes : Nat → Nat → List Byte
  | 0, _ => []
  | n + 1, v => BitVec.ofNat 8 v :: leBytes n (v / 256)

/-- The `n`-byte value at `a`. -/
def State.rdN (s : State) (a n : Nat) : Nat := leNat (s.bytes a n)

/-- 8-byte words that an access of `n` bytes at `a` covers wholly. -/
def wholeWords (a n : Nat) (w : Nat) : Bool := a ≤ w && w + 8 ≤ a + n

/-- The memory system updated. -/
def State.setMs (s : State) (m : MemSys) : State := { s with memsys := m }

/-- The words wholly written from `a` hold valid check bits again (R306, R308). -/
def cleanWords (a n : Nat) (m : MemSys) : MemSys :=
  { m with synd := m.synd.filter (fun e => !(wholeWords a n e.1)), ueSeen := m.ueSeen.filter fun w => !(wholeWords a n w) }

/-- Write bytes at `a`. -/
def State.wrBytes (s : State) (a : Nat) (bs : List Byte) : State :=
  { s with mem := spRange 0 a bs.length (fun i => bs.getD i 0) s.mem, memsys := cleanWords a bs.length s.memsys }

/-- Write the `n`-byte value `v` at `a`. -/
def State.wrN (s : State) (a n v : Nat) : State := s.wrBytes a (leBytes n v)

/-- Zero `n` bytes from `a`. -/
def State.zero (s : State) (a n : Nat) : State :=
  { s with mem := spClear a n s.mem, memsys := cleanWords a n s.memsys }

/-- First address of Crown core `c`'s scratchpad (R25). -/
def spBase (c : Nat) : Nat := 0x2000000000 + c * 0x2000000
/-- Bytes of a scratchpad (R78). -/
def spSize : Nat := 0x1800000

/-! ### Time (R418, R518, R519) -/

/-- TIM time in units of 2^-16 ns. -/
def State.time (s : State) : Nat :=
  (((s.reg Reg.TIM_TIME_W2).toNat + (s.reg Reg.TIM_TIME_W3).toNat * 2 ^ 32) * 1000000000
    + s.fld F.TIM_TIME_W1_NS) * 65536 + s.fld F.TIM_TIME_W0_FRAC

/-- TIM time in whole nanoseconds. -/
def State.ns (s : State) : Nat := s.time / 65536

/-- Has a duration of `us` microseconds of elapsed TIM time passed since `t` (R553)? -/
def State.passed (s : State) (t us : Nat) : Bool := t + us * 1000 * 2 ^ 32 ≤ s.elapsed

/-- A time in nanoseconds in the time layout of the event record: SEC[33:0] above NS (R518). -/
def recTime (ns : Nat) : Nat := (ns / 1000000000 % 2 ^ 34) * 2 ^ 30 + ns % 1000000000

/-- The instant in ns, nearest to the present time `now` (ns), that a value in the time layout names; ties go to the later (R518). -/
def completeTime (now v : Nat) : Nat :=
  let sec := v / 2 ^ 30
  let nsf := v % 2 ^ 30
  let span := 2 ^ 34 * 1000000000
  let base := sec * 1000000000 + nsf
  let k := if now + span / 2 < base then 0 else (now + span / 2 - base) / span
  base + k * span

/-! ### Events (R518 to R529) -/

/-- Append to what left the block. -/
def State.emit (s : State) (o : Out) : State := { s with out := s.out ++ [o] }

/-- The event unit updated. -/
def State.setEvq (s : State) (e : Evq) : State := { s with evq := e }

/-- An MSI-X message, unless the host port's table is cleared (R525). -/
def State.msix (s : State) (vec : Nat) : State := if s.evq.msix then s.emit (.msix (vec % 64)) else s

/-- The vector of severity `v` (R525). -/
def sevVec (s : State) (sev : Nat) : Nat := slice (s.reg Reg.EVQ_VEC).toNat (6 * sev + 5) (6 * sev)

/-- Set pending bits of Bough core `c` (R456). -/
def bghPend (c bit : Nat) (s : State) : State :=
  s.put (F.BGH_CORE_IPEND_PEND c) (s.fld (F.BGH_CORE_IPEND_PEND c) ||| 2 ^ bit)

/-- Notify by severity (R525): the vector at once for severity 2 and more, once per coalescing interval for 0 and 1, and
the Bough cores that EVQ_BGH names. In `coal`, 1 is an open interval and 2 one with a record waiting for its end. -/
def notify (sev : Nat) (s : State) : State :=
  let v := sevVec s sev
  let s :=
    if sev ≥ 2 || s.fld F.EVQ_COAL_US = 0 then s.msix v
    else if spGet 0 s.evq.coal v = 0 then (s.setEvq { s.evq with coal := spSet 0 v 1 s.evq.coal }).msix v
    else s.setEvq { s.evq with coal := spSet 0 v 2 s.evq.coal }
  if bitAt (s.fld F.EVQ_BGH_SEVMASK) sev then
    (List.range 8).foldl (fun s c => if bitAt (s.fld F.EVQ_BGH_CORES) c then bghPend c (16 + sev) s else s) s
  else s

/-- A destined record is dropped (R524): counted, its extremes kept for the EVQ_LOST owed, its severity notified. -/
def dropRecord (r : EvRec) (s : State) : State :=
  let l := match s.evq.lost with
    | none => (⟨1, r.sev, r.seq, r.seq⟩ : LostAcc)
    | some l => ⟨l.count + 1, max l.sev r.sev, l.first, r.seq⟩
  notify r.sev ((s.setEvq { s.evq with lost := some l }).incHold F.EVQ_LOST_CNT)

/-- The dump engine takes a trigger (R529): it starts a dump, through the DUMP command; while one runs or starts, one trigger is held and the
others are counted. -/
def dumpTrigger (t : DumpTrig) (s : State) : State :=
  if s.evq.dump.isNone && s.evq.want.isNone then s.setEvq { s.evq with want := some t }
  else if s.evq.held.isNone then (s.setEvq { s.evq with held := some t }).put F.EVQ_DUMPSTAT_PENDING 1
  else s.incHold F.EVQ_DUMPSTAT_MISSED

/-- An event takes its number, and the present time unless the happening has one of its own (R519; log entry 116), and enters the history, and the queue's backlog if it is destined for the queue (R520, R521, R524). -/
def enterHist (destined : Bool) (e : EvRec) (s : State) : EvRec × State :=
  let seq := (s.fld F.EVQ_SEQ_SEQ + 1) % 65536
  let r := { e with seq := seq, time := if e.time = 0 then recTime s.ns else e.time }
  let s := s.put F.EVQ_SEQ_SEQ seq
  let hist := s.evq.hist ++ [r]
  let queue := if destined then s.evq.queue ++ [r] else s.evq.queue
  let s := s.setEvq { s.evq with hist := hist.drop (hist.length - 64), queue := queue }
  (r, if hist.length ≤ 64 then s
    else match hist.head?, s.evq.queue with
      | some h, q :: rest => if q.seq = h.seq && q ≠ r then dropRecord q (s.setEvq { s.evq with queue := rest }) else s
      | _, _ => s)

/-- The EVQ accepts an event (R520, R523, R524, R529). -/
def acceptEv (e : EvRec) (s : State) : State :=
  let x := enterHist (s.flag F.EVQ_CTRL_EN && decide (min (s.fld F.EVQ_FILT_MINSEV) 4 ≤ e.sev)) e s
  let r := x.1
  let s := x.2
  if r.sev = 4 && s.flag F.EVQ_DUMPCFG_SEV4 then dumpTrigger ⟨1, r.code, r.seq⟩ s
  else if r.sev = 3 && s.flag F.EVQ_DUMPCFG_SEV3 then dumpTrigger ⟨2, r.code, r.seq⟩ s
  else s

/-! ### Contexts and units, as far as an event reaches them (R258, R273) -/

/-- Context states (R258). -/
def ctxDisabled : Nat := 0
def ctxActive : Nat := 1
def ctxTearing : Nat := 2
def ctxFaulted : Nat := 3

/-- Unit states (R96, R275). -/
def uOff : Nat := 0
def uIdle : Nat := 1
def uRunning : Nat := 2
def uSelftest : Nat := 3
def uQuarantine : Nat := 4
def uLost : Nat := 5

/-- The state field of unit `u`, 0 to 5 Crown, 6 Sapling. -/
def unitField (u : Nat) : RegField := if u < 6 then F.CRN_STATE_STATE u else F.SPL_STATE_STATE
/-- The context field of unit `u`. -/
def unitCtxField (u : Nat) : RegField := if u < 6 then F.CRN_STATE_CTX u else F.SPL_STATE_CTX
/-- The OID of unit `u` (R31). -/
def unitOid (u : Nat) : Nat := if u < 6 then 0x10 + u else 0x18

/-- The units a job holds. -/
def Job.units (j : Job) : List Nat := j.cores ++ (if j.sap then [6] else [])

/-- Is the job dispatched (it holds units)? -/
def Job.dispatched (j : Job) : Bool := j.phase ≠ .queued

/-- Has the context a dispatched job? -/
def hasRunning (s : State) (c : Nat) : Bool := s.sched.jobs.any fun j => j.ctx = c && j.dispatched

/-- A condition of R258 that starts a teardown of context `c` holds; `code` is the causing event, 0 for the command. A PROG_FAULT that
follows the refusal which began the teardown is its cause (R280). -/
def tearCtx (c code : Nat) (s : State) : State :=
  let st := s.fld (F.SCH_CTX_STAT_STATE c)
  if st = ctxActive || (st = ctxDisabled && hasRunning s c) then
    (({ s with sched := { s.sched with tearing := spSet 0 c (s.elapsed + 1) s.sched.tearing } }).put (F.SCH_CTX_STAT_STATE c) ctxTearing).put (F.SCH_CTX_STAT_CAUSE c) code
  else if st = ctxTearing && code = 0x400B && !(s.sched.loss.any fun e => e.1 = c) then s.put (F.SCH_CTX_STAT_CAUSE c) code
  else s

/-- The scheduler's record updated. -/
def State.setSched (s : State) (x : Sched) : State := { s with sched := x }

/-- A unit's record. -/
def unitSt (s : State) (u : Nat) : UnitSt := spGet {} s.sched.units u
/-- A unit's record updated. -/
def setUnit (u : Nat) (x : UnitSt) (s : State) : State := s.setSched { s.sched with units := spSet {} u x s.sched.units }

/-- Has a job started on unit `u` and not been cancelled (R265, R268)? -/
def unitStarted (s : State) (u : Nat) : Bool :=
  s.sched.jobs.any fun j => j.units.contains u && (j.phase = .running || j.phase = .sealWait)

/-- A cause on its way to the safe-state sequencer (R333), with its channel or unit. -/
def hwdDue (cause : Nat) (s : State) (arg : Nat := 0) : State := { s with hwd := { s.hwd with due := s.hwd.due ++ [⟨cause, arg⟩] } }

/-- Does a CORE_LOST that lists these contexts count as cause 0x04 (R333)? The one of the Crown restart does not. -/
def crownFault (s : State) (ctxs : List Nat) (cause : Nat) : Bool :=
  cause ≠ 0xA001 && (ctxs.any (fun c => s.flag (F.SCH_CTX_CFG_SAFE c)) || cause = 0xC005)

/-- Unit losses (R273): the units of `us` that are IDLE or RUNNING become LOST, the contexts with a job on them tear down
for a unit loss, and CORE_LOST lists those contexts. -/
def loseUnits (us : List Nat) (cause : Nat) (s : State) : State :=
  let us := us.filter fun u => s.fld (unitField u) = uIdle || s.fld (unitField u) = uRunning
  if us = [] then s
  else
    let hit := s.sched.jobs.filter fun j => j.dispatched && j.units.any fun u => us.contains u
    let ctxs := (hit.map Job.ctx).eraseDups
    let torn := ctxs.filter fun c => s.fld (F.SCH_CTX_STAT_STATE c) ≠ ctxTearing
    let requeued := (s.sched.jobs.filter fun j => j.dispatched && j.phase ≠ .stopping && torn.contains j.ctx && bitAt j.d.jflags 0).length
    let s := us.foldl (fun s u =>
      setUnit u { unitSt s u with needZero := true, passed := false, retire := false }
        ((s.put (unitField u) uLost).put (unitCtxField u) 0)) s
    let s := torn.foldl (fun s c => tearCtx c 0x4002 s) s
    let s := s.setSched { s.sched with loss := s.sched.loss ++ torn.map fun c => (c, us.headD 0) }
    let bits := ctxs.foldl (fun b c => b ||| 2 ^ c) 0
    let s := acceptEv { code := 0x4002, oid := unitOid (us.headD 0), ctx := ctxs.headD 0, sev := 3
                        a0 := bits % 2 ^ 32, a1 := bits / 2 ^ 32, a2 := cause, a3 := requeued } s
    if crownFault s ctxs cause then hwdDue 4 s else s

/-- Raise an event (R520, R526, R527): the EVQ accepts it; severity 2 tears its context down (R258); severity 3 that names a
Crown core or Sapling takes the unit out of service (R273). -/
def raise (e : EvRec) (s : State) : State :=
  let s := acceptEv e s
  if e.sev = 2 then tearCtx e.ctx e.code s
  else if e.sev = 3 && decide (0x10 ≤ e.oid) && decide (e.oid ≤ 0x15) then loseUnits [e.oid - 0x10] e.code s
  else if e.sev = 3 && e.oid = 0x18 then loseUnits [6] e.code s
  else s

/-- The answer a requester receives (R41): host writes are posted and receive none. -/
def State.answer (s : State) (oid : Nat) (wr : Bool) (st : RespSt) (data : List Byte) : State :=
  if oid = 0 && wr then s else { s with resp := s.resp ++ [⟨oid, st, data⟩] }

/-- A fresh free value (log entry 3): the state's counter names it, and moves on. -/
def State.freeNat (s : State) : Nat × State := (Config.freeValue s.free, { s with free := s.free + 1 })

/-- `n` fresh free bytes. -/
def State.freeBytes (s : State) (n : Nat) : List Byte × State :=
  ((List.range n).map fun i => BitVec.ofNat 8 (Config.freeValue (s.free + i)), { s with free := s.free + n })

end Sys2Proof.Machine
end

