-- ==== Sys2Proof/Machine/Bark.lean ====
section
/-! DEFINITION. The physical map, the populated windows, the aliases, and Bark's judgement of a transaction
(R25 to R31, R42, R43, R202, R235, R276 to R278, R286, R340, R341, R477). -/

namespace Sys2Proof.Machine

/-- What an address of the map names (R25, R27): a memory window and the offset in it, or a register; and the storage that has no address in R25
(R297), the accumulator files, the Page keeper directory and the Bough L1 and L2, which stands above the 48 address bits that a
transaction has (log entry 12). -/
inductive Place where
  | dram (a : Nat)
  | scratch (core off : Nat)
  | canopy (off : Nat)
  | sapling (off : Nat)
  | cambium (off : Nat)
  | seedbed (off : Nat)
  | pith (off : Nat)
  | hwd (off : Nat)
  | reg (off : Nat)
  | acc (core off : Nat)
  | dir (off : Nat)
  | l1 (core off : Nat)
  | l2 (core off : Nat)
  deriving DecidableEq, Repr

/-- First place of the storage without an address of its own: accumulator file of core `c`, page directory, Bough L1 and L2 of core `c`. -/
def accBase (c : Nat) : Nat := 2 ^ 48 + c * 0x240000
/-- The page directory's first place. -/
def dirBase : Nat := 2 ^ 48 + 0x1000000
/-- The first place of a Bough core's L1. -/
def l1Base (c : Nat) : Nat := 2 ^ 48 + 0x2000000 + c * 0x10000
/-- The first place of a Bough core's L2 slice. -/
def l2Base (c : Nat) : Nat := 2 ^ 48 + 0x3000000 + c * 0x80000

/-- The storage without an address of its own (R297). -/
def hiddenPlace (x : Nat) : Option Place :=
  if x < 6 * 0x240000 then some (.acc (x / 0x240000) (x % 0x240000))
  else if 0x1000000 ≤ x && x < 0x1200000 then some (.dir (x - 0x1000000))
  else if 0x2000000 ≤ x && x < 0x2080000 then some (.l1 ((x - 0x2000000) / 0x10000) (x % 0x10000))
  else if 0x3000000 ≤ x && x < 0x3400000 then some (.l2 ((x - 0x3000000) / 0x80000) (x % 0x80000))
  else none

/-- Number of populated function pages of the block with window number `b` (R27). -/
def populatedPages (b : Nat) : Nat :=
  match b with
  | 0x00 => 1 | 0x01 => 1 | 0x02 => 1 | 0x03 => 4 | 0x04 => 1 | 0x05 => 5 | 0x06 => 1 | 0x07 => 4
  | 0x10 => 2 | 0x11 => 2 | 0x12 => 2 | 0x13 => 2 | 0x14 => 2 | 0x15 => 2
  | 0x20 => 1 | 0x21 => 1 | 0x22 => 1 | 0x23 => 12 | 0x24 => 1 | 0x25 => 2 | 0x26 => 2 | 0x27 => 8
  | 0x28 => 1 | 0x29 => 2 | 0x2A => 3 | 0x2B => 1 | 0x2C => 9
  | _ => 0

/-- The place of a physical address below the aliases, none where unmapped (R25, R27). -/
def place (a : Nat) : Option Place :=
  if a < 0x1800000000 then some (.dram a)
  else if 2 ^ 48 ≤ a then hiddenPlace (a - 2 ^ 48)
  else if 0x2000000000 ≤ a && a < 0x200C000000 then
    if (a - 0x2000000000) % 0x2000000 < 0x1800000
    then some (.scratch ((a - 0x2000000000) / 0x2000000) ((a - 0x2000000000) % 0x2000000)) else none
  else if 0x2010000000 ≤ a && a < 0x2012000000 then some (.canopy (a - 0x2010000000))
  else if 0x2020000000 ≤ a && a < 0x2020200000 then some (.sapling (a - 0x2020000000))
  else if 0x2021000000 ≤ a && a < 0x2021400000 then some (.cambium (a - 0x2021000000))
  else if 0x2022000000 ≤ a && a < 0x2022240000 then some (.seedbed (a - 0x2022000000))
  else if 0x2023000000 ≤ a && a < 0x2023040000 then some (.pith (a - 0x2023000000))
  else if 0x2024000000 ≤ a && a < 0x2024100000 then some (.hwd (a - 0x2024000000))
  else if regBase ≤ a && (a - regBase) % 0x10000 / 0x1000 < populatedPages ((a - regBase) / 0x10000)
  then some (.reg (a - regBase))
  else none

/-- The kinds of access by alias (R29, R42): 0 plain, 1 bit-set, 2 bit-clear. -/
abbrev AliasKind := Nat

/-- The underlying address and alias kind of an address (R29): aliases of DRAM and of unmapped addresses are unmapped. -/
def unalias (a : Nat) : Option (Nat × AliasKind) :=
  let under (b : Nat) (k : AliasKind) : Option (Nat × AliasKind) :=
    match place b with
    | some (.dram _) => none
    | some _ => some (b, k)
    | none => none
  if a < 0x10000000000 then (if (place a).isSome then some (a, 0) else none)
  else if a < 0x20000000000 then under (a - 0x10000000000) 1
  else if a < 0x30000000000 then under (a - 0x20000000000) 2
  else none

/-- The whole access lies in populated addresses (R26). Every window's bounds are multiples of 64, so the ends of each
64-byte piece decide. -/
def mappedRange (a n : Nat) : Bool :=
  n = 0 || ((List.range ((a + n - 1) / 64 + 1 - a / 64)).all fun i =>
    (unalias (max a ((a / 64 + i) * 64))).isSome)

/-- The pieces of an access: cut at 64-byte boundaries, ascending (R28): start and length. -/
def pieces (a n : Nat) : List (Nat × Nat) :=
  if n = 0 then []
  else (List.range ((a + n - 1) / 64 + 1 - a / 64)).map fun i =>
    let lo := max a ((a / 64 + i) * 64)
    let hi := min (a + n) ((a / 64 + i + 1) * 64)
    (lo, hi - lo)

/-- Does the OID carry a meaningful context number (R31)? -/
def hasCtx (oid : Nat) : Bool :=
  (0x10 ≤ oid && oid ≤ 0x15) || oid = 0x18 || oid = 0x19 || oid = 0x1A || (0x20 ≤ oid && oid ≤ 0x2B) || oid = 0x34 || oid = 0x35

/-- Is the OID a role port (R8)? -/
def isRole (oid : Nat) : Bool := oid ≤ 2

/-! ### Owners (R276) -/

/-- The owner-table key of the buffer unit at a place of the map: 2 MiB units in DRAM, 4 KiB units in scratchpads, Canopy
and Sapling's working memory. -/
def ownKey (a : Nat) : Option Nat :=
  match place a with
  | some (.dram x) => some (x / 0x200000)
  | some (.scratch _ _) => some (a / 0x1000)
  | some (.canopy _) => some (a / 0x1000)
  | some (.sapling off) => if off ≥ 0x180000 then some (a / 0x1000) else none
  | _ => none

/-- The recorded owner of a unit: 0 to 63, or 64 for HOST. -/
def ownerOf (s : State) (key : Nat) : Nat := spGet 64 s.sched.owner key

/-- Pool base address (R199). -/
def kvpBase (s : State) : Nat :=
  s.fld F.KVP_POOLBASE_LO_BASE_LO * 0x1000 + s.fld F.KVP_POOLBASE_HI_BASE_HI * 2 ^ 32

/-- Head dimension (R178, R199). -/
def kvpDim (s : State) : Nat := if s.flag F.KVP_GEOM_DIM then 128 else 64

/-- Stream count (R178, R199). -/
def kvpStreams (s : State) : Nat := s.fld F.KVP_GEOM_STRMM1 + 1

/-- Chunk bytes (R178). -/
def kvpChunk (s : State) : Nat := (256 + kvpStreams s * (128 * kvpDim s + 256) + 0xFFF) / 0x1000 * 0x1000

/-- Chunks in the pool (R199). -/
def kvpChunks (s : State) : Nat := s.fld F.KVP_POOLCH_CHUNKS

/-- The chunk that holds an address of the enabled Page keeper pool (R178). -/
def chunkAt (s : State) (a : Nat) : Option Nat :=
  if s.flag F.KVP_CTRL_EN && decide (kvpBase s ≤ a) && decide (a < kvpBase s + kvpChunks s * kvpChunk s) && decide (0 < kvpChunk s)
  then some ((a - kvpBase s) / kvpChunk s) else none

/-- Is every page of the chunk being zeroed (R189)? A page of less than a chunk shares its rows with the chunk's other pages, which stay in reach. -/
def chunkZeroing (s : State) (ch : Nat) : Bool :=
  let l := s.kvp.pages.filter fun p => p.pg < ch * 64 + 64 && ch * 64 < p.pg + p.toks
  l ≠ [] && l.all (·.zeroing)

/-- Context of the job that core `k` runs, if it runs one (R96). -/
def coreCtx (s : State) (k : Nat) : Option Nat :=
  if s.fld (F.CRN_STATE_STATE k) = uRunning then some (s.fld (F.CRN_STATE_CTX k)) else none

/-- Is the unit withdrawn by a change of owner in progress (R277)? -/
def withdrawn (s : State) (key : Nat) : Bool :=
  match s.sched.change with
  | some c => c.units.contains key
  | none => false

/-! ### Fixed rules (R340) -/

/-- A decision of one rule: admitted, refused, or the rule does not decide. -/
inductive Verdict where
  | allow | refuse | pass
  deriving DecidableEq, Repr

/-- Refuse unless the condition holds. -/
def allowIf (b : Bool) : Verdict := if b then .allow else .refuse

/-- Is the test access port open (R8, R469): lifecycle state Maker (1) or Return (4)? -/
def tapOpen (s : State) : Bool := s.fld F.LCS_STAT_STATE = 1 || s.fld F.LCS_STAT_STATE = 4

/-- F0 to F3: private windows, the register windows of the safety blocks, Sapling stores, Seedbed buffers, Pith (R340, R202, R235, R477). -/
def fixedWindows (s : State) (oid : Nat) (p : Place) (wr : Bool) : Nat × Verdict :=
  match p with
  | .hwd _ => (0, if wr then allowIf (oid = 0x30 || oid = 0x38) else allowIf (oid = 0x30 || oid = 0x38 || oid = 0x3F))
  | .cambium _ =>
    (1, if wr then allowIf (oid = 0x30 || oid = 0x31 || oid = 0x38)
        else allowIf (isRole oid || oid = 0x30 || oid = 0x31 || oid = 0x38 || oid = 0x3F))
  | .reg off =>
    let b := off / 0x10000
    if b = 0 || b = 1 || b = 2 || b = 5 || b = 0x24 || b = 0x25 || b = 0x26 then (2, allowIf (isRole oid || oid = 0x30))
    else (2, .pass)
  | .sapling off => (3, if off < 0x180000 then allowIf (oid = 0x18 || oid = 0x38 || oid = 0x3F) else .pass)
  | .seedbed off => (3, if off < 0x200000 then allowIf (oid = 0x19 || oid = 0x38 || oid = 0x3F) else .pass)
  | .pith off =>
    let maker := oid = 2 && tapOpen s
    if off < 0x10000 then
      (3, if wr then allowIf (oid = 0x3F || oid = 0x38) else allowIf (oid = 1 || oid = 0 || oid = 0x30 || oid = 0x38 || maker))
    else (3, allowIf (oid = 1 || oid = 0x30 || oid = 0x38 || maker))
  | _ => (0, .pass)

/-- F4: core rings (R286). -/
def fixedRings (s : State) (oid ctx : Nat) (p : Place) (wr : Bool) : Verdict :=
  match p with
  | .reg off =>
    if 0x100000 ≤ off && off < 0x160000 && off % 0x10000 ≥ 0x1000 then
      allowIf (isRole oid || (hasCtx oid && coreCtx s ((off - 0x100000) / 0x10000) = some ctx) || (oid = 0x30 && !wr))
    else .pass
  | _ => .pass

/-- F5: result regions before and after the seal, and retained regions fenced from the core's own engines (R270, R278). -/
def fixedResults (s : State) (oid ctx a : Nat) (p : Place) (wr : Bool) : Verdict :=
  match s.sched.results.find? (fun r => r.base ≤ a && a < r.base + r.len) with
  | some r =>
    let mine := hasCtx oid && decide (ctx = r.ctx)
    if !r.sealed then allowIf mine
    else allowIf (mine || (oid = 0 && (wr || r.host)) || (!wr && hasCtx oid && r.cons = some ctx))
  | none =>
    match p with
    | .scratch k _ =>
      match coreCtx s k, ownKey a with
      | some c, some key => if oid = 0x10 + k && ownerOf s key ≠ 64 && ownerOf s key ≠ c then .refuse else .pass
      | _, _ => .pass
    | _ => .pass

/-- F6: units the scheduler owns and Page keeper chunks (R179, R189, R190, R276, R277). No agent writes the zero chunk; a chunk that is being zeroed is
reached by the Page keeper and the bulk-clear engine alone; a context reaches its own chunks. -/
def fixedOwned (s : State) (oid ctx a : Nat) (p : Place) (wr : Bool) : Verdict :=
  let trusted := oid = 0 || oid = 0x30
  match chunkAt s a with
  | some ch =>
    let mine := hasCtx oid && decide (spGet 64 s.kvp.owner ch = ctx)
    if ch = 0 then (if wr then .refuse else if trusted || hasCtx oid then .allow else .pass)
    else if chunkZeroing s ch then allowIf (oid = 0x38 || (oid = 0x1A && mine))
    else if trusted then .allow
    else if hasCtx oid then allowIf mine
    else .pass
  | none =>
    match ownKey a with
    | none => .pass
    | some key =>
      if withdrawn s key then
        if trusted then .allow else if hasCtx oid then .refuse else .pass
      else if trusted then .allow
      else if hasCtx oid && decide (ownerOf s key = ctx) then .allow
      else match p with
        | .scratch k _ => if hasCtx oid && decide (ownerOf s key = 64) && coreCtx s k = some ctx then .allow else .pass
        | _ => .pass

/-- The fixed rules in order (R340): the index of the first that covers the transaction and its decision. -/
def fixedRule (s : State) (oid ctx a : Nat) (p : Place) (wr : Bool) : Nat × Verdict :=
  let w := fixedWindows s oid p wr
  if w.2 ≠ .pass then w
  else if fixedRings s oid ctx p wr ≠ .pass then (4, fixedRings s oid ctx p wr)
  else if fixedResults s oid ctx a p wr ≠ .pass then (5, fixedResults s oid ctx a p wr)
  else if fixedOwned s oid ctx a p wr ≠ .pass then (6, fixedOwned s oid ctx a p wr)
  else match p with
    | .reg _ => (7, .pass)
    | _ => (7, if oid = 0x30 && !wr then .allow else .pass)

/-! ### The rule table (R341) -/

/-- Does rule `n` match a transaction to the page of `a`? -/
def ruleMatches (s : State) (n oid ctx a : Nat) : Bool :=
  let g := n / 128
  let i := n % 128
  let c := if hasCtx oid then ctx else 0
  let oidm := s.fld (F.BRK_RULE_W1_OIDM g i)
  let ctxm := s.fld (F.BRK_RULE_W0_CTXM g i)
  let pg := s.fld (F.BRK_RULE_W2_PG_LO g i) + s.fld (F.BRK_RULE_W3_PG_HI g i) * 2 ^ 32
  let page := a / 0x1000
  s.flag (F.BRK_RULE_W0_EN g i)
    && decide (oid &&& oidm = s.fld (F.BRK_RULE_W0_OID g i) &&& oidm)
    && decide (c &&& ctxm = s.fld (F.BRK_RULE_W0_CTX g i) &&& ctxm)
    && decide (pg ≤ page) && decide (page < pg + s.fld (F.BRK_RULE_W3_NPG g i))

/-- The recorded owner of the unit or chunk at `a`, 64 for HOST or none. -/
def recordedOwner (s : State) (a : Nat) : Nat :=
  match chunkAt s a with
  | some ch => spGet 64 s.kvp.owner ch
  | none => match ownKey a with
    | some key => ownerOf s key
    | none => 64

/-- The decision of matching rule `n`. -/
def ruleDecides (s : State) (n ctx a : Nat) (wr : Bool) : Bool :=
  let g := n / 128
  let i := n % 128
  !(s.flag (F.BRK_RULE_W0_DENY g i))
    && (if wr then s.flag (F.BRK_RULE_W0_WR g i) else s.flag (F.BRK_RULE_W0_RD g i))
    && (!(s.flag (F.BRK_RULE_W0_OWN g i)) || decide (recordedOwner s a = ctx))

/-- The lowest matching rule of the table, none if no rule matches. -/
def firstRule (s : State) (oid ctx a : Nat) : Option Nat :=
  (List.range 512).find? fun n => ruleMatches s n oid ctx a

/-- Bark's judgement of an access to the page of `a` (R340): none admits, otherwise arg3 of BARK_DENY. -/
def barkPage (s : State) (oid ctx a : Nat) (wr : Bool) : Option Nat :=
  match place a with
  | none => some 0xFFFFFFFF
  | some p =>
    match fixedRule s oid ctx a p wr with
    | (_, .allow) => none
    | (k, .refuse) => some (0x1000 + k)
    | (_, .pass) =>
      match firstRule s oid ctx a with
      | none => some 0xFFFFFFFF
      | some n => if ruleDecides s n ctx a wr then none else some n

/-- Bark's judgement of one piece at the underlying address `a`: every page it spans must be admitted (R340). Result
regions and owner units are whole pages, chunks multiples of 4 KiB. -/
def barkPiece (s : State) (oid ctx a n : Nat) (wr : Bool) : Option Nat :=
  match barkPage s oid ctx a wr with
  | some r => some r
  | none => if (a + (n - 1)) / 0x1000 = a / 0x1000 then none else barkPage s oid ctx (a + (n - 1)) wr

/-! ### Access-class events (R42, R43) -/

/-- arg1 of an access-class event (R42). -/
def accInfo (a n : Nat) (wr : Bool) (kind : AliasKind) : Nat :=
  a / 2 ^ 32 % 2 ^ 16 + (n % 128) * 2 ^ 16 + ofBool wr * 2 ^ 23 + kind * 2 ^ 24

/-- Raise an access-class event and capture it in SYS_ACCERR unless a capture is held (R42, R43); WRITE_COLLISION and
BARK_DENY advance their counts (R43, R344). -/
def accessEvent (code oid ctx a n : Nat) (wr : Bool) (kind : AliasKind) (data arg3 sev : Nat) (s : State) : State :=
  let s :=
    if s.flag F.SYS_ACCERRV_VALID then s
    else
      let s := s.setReg Reg.SYS_ACCERR0 (BitVec.ofNat 32 a)
      let s := s.setReg Reg.SYS_ACCERR1 (BitVec.ofNat 32 (accInfo a n wr kind))
      let s := s.setReg Reg.SYS_ACCERR2 (BitVec.ofNat 32 (oid % 1024 + (ctx % 64) * 2 ^ 10 + code * 2 ^ 16))
      s.put F.SYS_ACCERRV_VALID 1
  let s := if code = 0x3003 then s.inc64 Reg.SYS_COLLCNT_LO else s
  let s := if code = 0x3010 then s.inc64 Reg.BRK_DENYCNT_LO else s
  raise { code := code, oid := oid, ctx := ctx, sev := sev, a0 := a % 2 ^ 32, a1 := accInfo a n wr kind, a2 := data % 2 ^ 32, a3 := arg3 } s

/-- Severity of an unmapped, bad or denied access: 2 for a requester with a meaningful context, else 1 (R42). -/
def accSev (oid : Nat) : Nat := if hasCtx oid then 2 else 1

/-- Why an access is not performed (R26, R28, R340): the event code, the piece that meets the condition, and arg3. -/
structure AccFail where
  code : Nat
  addr : Nat
  len : Nat
  kind : AliasKind
  arg3 : Nat
  deriving DecidableEq, Repr

/-- The pieces that an access is judged and reported in: as a whole up to 64 bytes, cut at 64-byte boundaries above (R28, R42). -/
def judgePieces (a n : Nat) : List (Nat × Nat) := if n ≤ 64 then [(a, n)] else pieces a n

/-- Judge one piece (R26, R28, R340). -/
def judgePiece (s : State) (oid ctx : Nat) (wr : Bool) (a n : Nat) : Option AccFail :=
  match unalias a, unalias (a + (n - 1)) with
  | some (b, k), some _ =>
    match barkPiece s oid ctx b n wr with
    | some r => some ⟨0x3010, a, n, k, r⟩
    | none =>
      match place b with
      | some (.reg _) => if (n = 4 && a % 4 = 0) || (n = 8 && a % 8 = 0) then none else some ⟨0x3005, a, n, k, 0⟩
      | _ => none
  | some (_, k), none => some ⟨0x3004, a, n, k, 0⟩
  | none, _ => some ⟨0x3004, a, n, if a < 0x10000000000 then 0 else if a < 0x20000000000 then 1 else if a < 0x30000000000 then 2 else 0, 0⟩

/-- The first failing piece of an access: an unmapped byte anywhere comes first, since then nothing is performed and the
access reaches no target port (R26), then the others in order. -/
def judge (s : State) (oid ctx a n : Nat) (wr : Bool) : Option AccFail :=
  let ps := judgePieces a n
  let un := ps.find? fun p => (unalias p.1).isNone || (unalias (p.1 + (p.2 - 1))).isNone
  match un with
  | some p => judgePiece s oid ctx wr p.1 p.2
  | none => ps.findSome? fun p => judgePiece s oid ctx wr p.1 p.2

/-- Report a failed access (R26, R42): a refused or unmapped access by the 32-bit data `d` of the failing piece. -/
def reportFail (oid ctx : Nat) (wr : Bool) (f : AccFail) (d : Nat) (s : State) : State :=
  accessEvent f.code oid (if hasCtx oid then ctx else 0) f.addr f.len wr f.kind (if wr then d else 0) f.arg3 (accSev oid) s

end Sys2Proof.Machine
end

