-- ==== Sys2Proof/Machine/RegView.lean ====
section
/-! DEFINITION. What a read of a register gives: the views that are computed from other state, the multi-word values of R39 with their
shadows, and what a register access by an engine does (R11, R13, R28, R30, R32, R39, R287). -/

namespace Sys2Proof.Machine

/-! ### Rings and signals (R114 to R119, R287) -/

/-- The value register of a ring in the SIGTGT format of R182, none for a value that names no ring. -/
def ringReg (t : Nat) : Option Nat :=
  let r := t % 1024
  let k := t / 1024
  if k < 6 then (if r < 256 then some (Reg.CRN_RING k r) else none)
  else if k = 6 then some (Reg.GRN_VAL (r / 128) (r % 128))
  else none

/-- The signal register of a ring in the SIGTGT format. -/
def ringSigReg (t : Nat) : Nat :=
  let r := t % 1024
  let k := t / 1024
  if k < 6 then Reg.CRN_RSIG k r else Reg.GRN_SIG (r / 128) (r % 128)

/-- Is the ring a global ring? -/
def ringGlobal (t : Nat) : Bool := t / 1024 = 6

/-- The ring in the SIGTGT format whose signal register lies at a window offset. -/
def ringOfSigReg (off : Nat) : Option Nat :=
  if 0x100000 ≤ off && off < 0x160000 && 0x1400 ≤ off % 0x10000 && off % 0x10000 < 0x1800 && off % 4 = 0 then
    some ((off - 0x100000) / 0x10000 * 1024 + (off % 0x10000 - 0x1400) / 4)
  else if 0x2C1000 ≤ off && off < 0x2C9000 && 0x200 ≤ off % 0x1000 && off % 0x1000 < 0x400 && off % 4 = 0 then
    some (6 * 1024 + (off - 0x2C1000) / 0x1000 * 128 + (off % 0x1000 - 0x200) / 4)
  else none

/-- The value of a ring, 0 for a value that names none. -/
def ringVal (s : State) (t : Nat) : Nat :=
  match ringReg t with
  | some r => (s.reg r).toNat
  | none => 0

/-- A signal of increment `d` (R116). -/
def bumpRing (t d : Nat) (s : State) : State :=
  match ringReg t with
  | some r => s.setReg r (BitVec.ofNat 32 ((s.reg r).toNat + d))
  | none => s

/-- RING_SIGNAL_BAD: the signal is dropped and counted (R287, R296). -/
def signalBad (t oid ctx data : Nat) (s : State) : State :=
  raise { code := 0x6002, oid := oid, ctx := if hasCtx oid then ctx else 0, sev := 1, a0 := t, a1 := data } (s.incHold F.GRN_SIGBAD_CNT)

/-- A signal to the doorbell of an enabled queue of the Page keeper posts records: the job on whose unit its sender is posts them (R181, R182). -/
def notePost (t oid data : Nat) (s : State) : State :=
  if ringGlobal t && s.flag F.KVP_CTRL_EN
      && (List.range 64).any (fun c => s.flag (F.KVP_CQ_CFG_EN c) && s.fld (F.KVP_CQ_CFG_DBRING c) = t % 1024) then
    let job := (((List.range 7).find? fun u => unitOid u = oid).bind fun u => s.sched.jobs.find? fun j => j.dispatched && j.units.contains u).map (·.id + 1)
    let l := spGet [] s.kvp.posts (t % 1024) ++ List.replicate (min data 1024) (job.getD 0)
    { s with kvp := { s.kvp with posts := spSet [] (t % 1024) (l.drop (l.length - 1024)) s.kvp.posts } }
  else s

/-- An admitted signal of the written data at a ring's block (R287, R296); an increment of 0 changes nothing. -/
def applySignal (t oid ctx data : Nat) (s : State) : State :=
  if data = 0 then s
  else if data / 2 ^ 16 ≠ 0 || (ringGlobal t && !s.flag F.GRN_CTRL_EN) then signalBad t oid ctx data s
  else bumpRing t data (notePost t oid data s)

/-! ### Computed views -/

/-- Free chunks: neither the zero chunk nor owned. -/
def kvpFreeCh (s : State) : Nat := kvpChunks s - 1 - s.kvp.owner.length

/-- Chunks that context `c` holds. -/
def kvpUsed (s : State) (c : Nat) : Nat := (s.kvp.owner.filter fun e => e.2 = c).length

/-- Doorbell minus HEAD (R181). -/
def kvpBacklog (s : State) (c : Nat) : Int :=
  wrap ((ringVal s (6 * 1024 + s.fld (F.KVP_CQ_CFG_DBRING c)) : Int) - s.fld (F.KVP_CQ_HEAD_HEAD c)) 32

/-- Has the queue a record and is it served? -/
def kvpWaiting (s : State) (c : Nat) : Bool :=
  s.flag F.KVP_CTRL_EN && s.flag (F.KVP_CQ_CFG_EN c) && decide (0 < kvpBacklog s c)

/-- Is a command of the queue in execution? -/
def kvpBusy (s : State) (c : Nat) : Bool := s.kvp.exec.any fun e => e.ctx = c

/-- The value of CRN_QSTAT: entries held in each queue (R96). -/
def qstat (k : Crown) : Nat :=
  k.qDma.length + k.qArray.length * 2 ^ 8 + k.qTwig.length * 2 ^ 16 + k.qSync.length * 2 ^ 24

/-- BGH_MTIME (R456). -/
def bghMtime (s : State) : Nat := ((s.ns / 1000000000) * 100000000 + s.ns % 1000000000 / 10) % 2 ^ 64

/-- SCH_UNITSTAT (R281). -/
def unitStat (s : State) : Nat :=
  let st (u : Nat) : Nat := s.fld (unitField u)
  (List.range 7).foldl (fun w u => w
    + ofBool (st u = uIdle || st u = uRunning) * 2 ^ u
    + ofBool (st u = uLost || st u = uSelftest || st u = uQuarantine) * 2 ^ (8 + u)) 0

/-- Registers that count cycles of a clock the model does not keep (R96, R224): 0 at reset, and a free value once time has passed
(log entry 13). -/
def cycleCounters : List Nat :=
  ((List.range 6).flatMap fun c => [Reg.CRN_CYC_LO c, Reg.CRN_CYC_HI c, Reg.CRN_BANKSTALL_LO c, Reg.CRN_BANKSTALL_HI c])
    ++ [Reg.SPL_CYC_LO, Reg.SPL_CYC_HI]

/-- The views that are computed from other state: chunk bytes and counts of the Page keeper (R199), unit states (R281), queue entries
(R96), the Bough time (R456). -/
def viewReg (s : State) (off : Nat) : Option Nat :=
  let b := off / 0x10000
  if off = Reg.KVP_CHUNKB then some (kvpChunk s)
  else if off = Reg.KVP_FREECH then some (kvpFreeCh s)
  else if off = Reg.KVP_SEQUSED then some s.kvp.seqs.length
  else if Reg.KVP_CQ_USED 0 ≤ off && off < Reg.KVP_CQ_USED 64 && off % 4 = 0 then some (kvpUsed s ((off - Reg.KVP_CQ_USED 0) / 4))
  else if off = Reg.SCH_UNITSTAT then some (unitStat s)
  else if 0x10 ≤ b && b < 0x16 && off = Reg.CRN_QSTAT (b - 0x10) then some (qstat (spGet {} s.crown (b - 0x10)))
  else if off = Reg.BGH_MTIME_LO then some (bghMtime s % 2 ^ 32)
  else if off = Reg.BGH_MTIME_HI then some (bghMtime s / 2 ^ 32)
  else none

/-- The current value of the register at a window offset as it reads, 0 where no register is. While a CAN controller recovers from bus-off
its count of recovery sequences is free, at most 128 (R400, R411); while a receiver is on, the state of its lanes is free: a burst, ULPS or neither
(R257, log entry 25). -/
def regValue (off : Nat) (s : State) : Nat × State :=
  if cycleCounters.contains off then
    if s.elapsed = 0 then (0, s) else
    let f := s.freeNat
    (f.1 % 2 ^ 32, f.2)
  else if off / 0x10000 = 0x27 && off % 0x1000 = 0xC && (spGet ({} : Can) s.can (off % 0x10000 / 0x1000)).recovering then
    let f := s.freeNat
    (insertBits (s.reg off).toNat 24 17 (f.1 % 129), f.2)
  else if off / 0x10000 = 0x23 && off % 0x1000 = 4 && s.flag F.SDB_CTRL_EN && s.flag (F.CSI_CTRL_EN (off % 0x10000 / 0x1000)) then
    let f := s.freeNat
    (insertBits (s.reg off).toNat 1 0 (f.1 % 3), f.2)
  else match viewReg s off with
    | some v => (v % 2 ^ 32, s)
    | none => if (findReg off).isSome then ((s.reg off).toNat, s) else (0, s)

/-! ### Multi-word values (R39) -/

/-- The values wider than 32 bits of the register tables: offset of the low word of the first copy, strides of the copies, words. -/
def multiWords : List (Nat × List (Nat × Nat) × Nat) := [
  (Reg.SYS_COLLCNT_LO, [], 2), (Reg.SYS_ACCERR0, [], 3),
  (Reg.CRN_CYC_LO 0, [(0x10000, 6)], 2), (Reg.CRN_ARRBUSY_LO 0, [(0x10000, 6)], 2), (Reg.CRN_BANKSTALL_LO 0, [(0x10000, 6)], 2),
  (Reg.KVP_POOLBASE_LO, [], 2), (Reg.KVP_CQ_BASE_LO 0, [(0x10, 64)], 2), (Reg.SPL_DESC_LO, [], 2), (Reg.SPL_CYC_LO, [], 2), (Reg.SPL_BUSY_LO, [], 2), (Reg.SPL_DONE_LO, [], 2),
  (Reg.SCH_OWN_ADDR_LO, [], 2), (Reg.SCH_CTX_QBASE_LO 0, [(0x20, 64)], 2), (Reg.SCH_CTX_CBASE_LO 0, [(0x20, 64)], 2),
  (Reg.SCH_CTX_SPROUT_LO 0, [(0x20, 64)], 2), (Reg.SCH_CTX_CHG_LO 0, [(0x20, 64)], 2), (Reg.SCH_CTX_VT_LO 0, [(0x10, 64)], 2), (Reg.GRN_DIRTY_LO, [], 2),
  (Reg.MEM_CECNT_LO, [], 2), (Reg.MEM_BGPASS_LO, [], 2), (Reg.MEM_BCLR_ADDR_LO, [], 2),
  (Reg.DRC_RDBYTES_LO 0, [(0x1000, 4)], 2), (Reg.DRC_WRBYTES_LO 0, [(0x1000, 4)], 2), (Reg.DRC_REFCYC_LO 0, [(0x1000, 4)], 2),
  (Reg.BRK_RULE_W0 0 0, [(0x1000, 4), (0x10, 128)], 4), (Reg.BRK_DENYCNT_LO, [], 2),
  (Reg.HWD_GCH_SRC_LO 0, [(0x20, 4)], 2), (Reg.HWD_GCH_AXMAP 0 0, [(0x20, 4)], 4),
  (Reg.CMB_CYC_LO, [], 2), (Reg.CMB_CH_LAST_LO 0, [(8, 4)], 2),
  (Reg.RLK_P_MGDATA_LO 0, [(0x40, 16)], 2), (Reg.RLK_P_S_ID_LO 0 0, [(0x80, 16), (0x10, 8)], 2)]

/-- The values wider than 32 bits, part 2. -/
def multiWords2 : List (Nat × List (Nat × Nat) × Nat) := [
  (Reg.CFD_RXBASE_LO 0, [(0x1000, 8)], 2), (Reg.CFD_RXNEW_LO 0, [(0x1000, 8)], 2), (Reg.CFD_RXLOST_LO 0, [(0x1000, 8)], 2),
  (Reg.CFD_WUF_DMASK_LO 0, [(0x1000, 8)], 2), (Reg.CFD_TX_TS_LO 0 0, [(0x1000, 8), (0x60, 3)], 2),
  (Reg.TIM_TIME_W0, [], 4), (Reg.TIM_SET_W0, [], 4), (Reg.TIM_INCR_LO, [], 2), (Reg.TIM_PO_START_W0 0, [(0x20, 8)], 3),
  (Reg.TIM_CI_E0 0, [(0x20, 8)], 4), (Reg.TIM_TXQ_E0 0, [(0x20, 2)], 4),
  (Reg.ETH_MAC_LO 0, [(0x1000, 2)], 2), (Reg.ETH_MC_LO 0 0, [(0x1000, 2), (8, 16)], 2), (Reg.ETH_TX_BASE_LO 0 0, [(0x1000, 2), (0x20, 8)], 2),
  (Reg.ETH_RX_BASE_LO 0 0, [(0x1000, 2), (0x20, 8)], 2), (Reg.EVQ_BASE_LO, [], 2),
  (Reg.GRV_NET_W0, [], 4), (Reg.GRV_GWMAC_LO, [], 2), (Reg.GRV_STBASE_LO, [], 2), (Reg.GRV_CH_QBASE_LO 0, [(0x10, 64)], 2),
  (Reg.GRV_BAR_T_LO 0, [(0x20, 16)], 2),
  (Reg.BGH_MTIME_LO, [], 2), (Reg.BGH_PAIR_ENTRY_LO 0, [(0x20, 4)], 2), (Reg.BGH_CORE_MTIMECMP_LO 0, [(0x20, 8)], 2),
  (Reg.LCS_UID_LO, [], 2)]

/-- What is left of an offset from a register's first copy inside the copy it falls in, none where it falls in no copy. -/
def copyRest : List (Nat × Nat) → Nat → Option Nat
  | [], o => some o
  | (st, n) :: r, o => if o / st < n then copyRest r (o % st) else none

/-- The low word and the number of words of the multi-word value that a register belongs to. -/
def wordGroup (off : Nat) : Option (Nat × Nat) :=
  (multiWords ++ multiWords2).findSome? fun g =>
    if off < g.1 then none
    else match copyRest g.2.1 (off - g.1) with
      | some r => if r < 4 * g.2.2 then some (off - r, g.2.2) else none
      | none => none

/-- The key of a requester's shadow or staging register. -/
def shadowKey (oid off : Nat) : Nat := oid * 2 ^ 24 + off

/-- A higher word's current value goes into the requester's shadow. -/
def latchWord (oid off : Nat) (s : State) : State :=
  let r := regValue off s
  { r.2 with rdShadow := spSet none (shadowKey oid off) (some (BitVec.ofNat 32 r.1)) r.2.rdShadow }

/-- A requester reads the register at a window offset (R39): a plain read of a low word latches the higher words into its shadow; a read of
a higher word gives the shadow, once there is one. A read through an alias gives the current value and latches nothing (R30). -/
def readReg (oid off : Nat) (kind : AliasKind) (s : State) : Nat × State :=
  match wordGroup off with
  | none => regValue off s
  | some (low, n) =>
    if kind ≠ 0 then regValue off s
    else if off = low then
      let r := regValue off s
      (r.1, (List.range (n - 1)).foldl (fun s i => latchWord oid (low + 4 * (i + 1)) s) r.2)
    else match spGet none s.rdShadow (shadowKey oid off) with
      | some v => (v.toNat, s)
      | none => regValue off s

/-- A requester's read of 4 or 8 bytes of registers, the lower address first (R28). -/
def readRegs (oid off n : Nat) (kind : AliasKind) (s : State) : List Byte × State :=
  let a := readReg oid off kind s
  if n ≤ 4 then (leBytes n a.1, a.2)
  else
    let b := readReg oid (off + 4) kind a.2
    (leBytes 4 a.1 ++ leBytes 4 b.1, b.2)

/-! ### Expert registers (R32, R44) -/

/-- The bit of SYS_XPEN for the block with window number `b` (R44). -/
def xpenBit (b : Nat) : Nat := if b < 8 then b else if b < 0x16 then b - 8 else b - 0x12

/-- Does SYS_XPEN keep this writer from the register (R32)? -/
def xpenDenied (s : State) (oid off : Nat) : Bool :=
  (findReg off).isSome && decide (0x800 ≤ off % 0x1000) && oid ≠ 0x30 && !(bitAt (s.fld F.SYS_XPEN_XPEN) (xpenBit (off / 0x10000)))

/-- The context an access-class event carries (R31, R42). -/
def evCtx (oid ctx : Nat) : Nat := if hasCtx oid then ctx else 0

/-- XPEN_DENIED for an access of `n` bytes at register address `a` (R32, R42). -/
def xpenEvent (oid ctx a n off : Nat) (kind : AliasKind) (data : Nat) (s : State) : State :=
  accessEvent 0x3002 oid (evCtx oid ctx) a n true kind data (xpenBit (off / 0x10000)) 1 s

/-- An engine writes one register word (R11, R13): only a ring's signal register takes it (R287), since the Who column of every other
field names the roles. False after XPEN_DENIED. -/
def engineRegWord (oid ctx a n off : Nat) (kind : AliasKind) (data first : Nat) (s : State) : Bool × State :=
  if xpenDenied s oid off then (false, xpenEvent oid ctx a n off kind first s)
  else match ringOfSigReg off with
    | some t => (true, if kind = 0 then applySignal t oid ctx data s else s)
    | none => (true, s)

/-- An engine writes 4 or 8 bytes of registers (R28). -/
def engineRegWrite (oid ctx a off : Nat) (kind : AliasKind) (bs : List Byte) (s : State) : Bool × State :=
  let d (i : Nat) : Nat := leNat ((bs.drop i).take 4)
  let x := engineRegWord oid ctx a bs.length off kind (d 0) (d 0) s
  if bs.length ≤ 4 then x
  else
    let y := engineRegWord oid ctx a bs.length (off + 4) kind (d 4) (d 0) x.2
    (x.1 && y.1, y.2)

end Sys2Proof.Machine
end

