-- ==== Sys2Proof/Machine/MemSys.lean ====
section
/-! DEFINITION. Reads and writes of memory by every requester, SECDED, repair, test, scrub and bulk clear
(14_memory_system.md), and the nine commands of the memory family. -/

namespace Sys2Proof.Machine

/-! ### Macros (R297) and DRAM placement (R298) -/

/-- Pseudo-channel number 0 to 127 of a DRAM address: stack and channel (R298). -/
def dramChan (a : Nat) : Nat :=
  let g := a / 256
  (g % 128) ^^^ (g / 2 ^ 7 % 128) ^^^ (g / 2 ^ 14 % 128)

/-- Canopy bank of an offset (R304). -/
def canopyBank (off : Nat) : Nat :=
  let q := off / 64
  slice q 5 0 ^^^ slice q 11 6 ^^^ slice q 17 12

/-- Macro identifier of a place (R297), 0 for a register. -/
def macOf (p : Place) : Nat :=
  match p with
  | .dram a => 0xA000 + dramChan a
  | .scratch n off => 48 * n + off / 64 % 48
  | .canopy off => 0x2000 + canopyBank off
  | .sapling off => 0x4000 + (if off < 0x100000 then 0 else if off < 0x180000 then 1 else 2)
  | .cambium off => 0x5000 + off / 0x80000
  | .seedbed off => 0x9000 + (if off < 0x180000 then off / 0x20000 else 12)
  | .pith _ => 0x8000
  | .hwd off => 0x7000 + off / 0x80000
  | .acc n _ => 0x1000 + n
  | .dir _ => 0x3000
  | .l1 c _ => 0x6000 + 2 * c
  | .l2 c _ => 0x6001 + 2 * c
  | .reg _ => 0

/-- Row number of a place in its macro, 64-byte rows (R78, R304; elsewhere rows in address order, log entry 12). -/
def rowOf (p : Place) : Nat :=
  match p with
  | .dram a => (a / 256) / 128
  | .scratch _ off => off / 64 / 48
  | .canopy off => slice (off / 64) 18 6
  | .sapling off => (if off < 0x100000 then off else if off < 0x180000 then off - 0x100000 else off - 0x180000) / 64
  | .cambium off => off % 0x80000 / 64
  | .seedbed off => (if off < 0x180000 then off % 0x20000 else off - 0x180000) / 64
  | .pith off => off / 64
  | .hwd off => off % 0x80000 / 64
  | .acc _ off => off / 64
  | .dir off => off / 64
  | .l1 _ off => off / 64
  | .l2 _ off => off / 64
  | .reg _ => 0

/-- First place of a macro without an address in R25; 0 for the others (R320). -/
def macBase (mac : Nat) : Nat :=
  let i := mac % 0x1000
  if mac / 0x1000 = 1 then accBase i
  else if mac / 0x1000 = 3 then dirBase
  else if mac / 0x1000 = 6 then (if i % 2 = 0 then l1Base (i / 2) else l2Base (i / 2))
  else 0

/-- Rows of 64 bytes of an SRAM macro (R297); 0 for what is none. -/
def macRows (mac : Nat) : Nat :=
  let i := mac % 0x1000
  match mac / 0x1000 with
  | 0 => if i < 288 then 8192 else 0
  | 1 => if i < 6 then 36864 else 0
  | 2 => if i < 64 then 8192 else 0
  | 3 => if i = 0 then 32768 else 0
  | 4 => if i = 0 then 16384 else if i < 3 then 8192 else 0
  | 5 => if i < 8 then 8192 else 0
  | 6 => if i < 16 then (if i % 2 = 0 then 1024 else 8192) else 0
  | 7 => if i < 2 then 8192 else 0
  | 8 => if i = 0 then 4096 else 0
  | 9 => if i < 12 then 2048 else if i = 12 then 12288 else 0
  | _ => 0

/-- First byte of row `r` of an SRAM macro: scratchpad banks hold every 48th row (R78), Canopy banks those of R304. -/
def rowAddr (mac r : Nat) : Nat :=
  let i := mac % 0x1000
  match mac / 0x1000 with
  | 0 => spBase (i / 48) + (48 * r + i % 48) * 64
  | 2 => 0x2010000000 + (64 * r + (i ^^^ (r % 64) ^^^ (r / 64 % 64))) * 64
  | 4 => 0x2020000000 + (if i = 0 then 0 else if i = 1 then 0x100000 else 0x180000) + 64 * r
  | 5 => 0x2021000000 + 0x80000 * i + 64 * r
  | 7 => 0x2024000000 + 0x80000 * i + 64 * r
  | 8 => 0x2023000000 + 64 * r
  | 9 => 0x2022000000 + (if i < 12 then 0x20000 * i else 0x180000) + 64 * r
  | _ => macBase mac + 64 * r

/-- Spare rows of a macro (R310): 8 from 512 KiB up, else 4 (Pith, Seedbed line buffers, Bough L1). -/
def spareRows (mac : Nat) : Nat :=
  if mac = 0x8000 || (0x9000 ≤ mac && mac < 0x900C) || (mac / 0x1000 = 6 && mac % 2 = 0) then 4 else 8

/-- Spare rows that fused repairs hold (R310, log entry 76); repair words that are all 0 hold none. -/
def fusedRows (s : State) (mac : Nat) : Nat := if s.memsys.fused.all (· = 0) then 0 else Config.fusedRows s.memsys.fused mac

/-- Spare rows of a macro, or of the stack of a pseudo-channel, that neither a repair nor a copy in progress has taken (R310, R311). -/
def spareLeft (s : State) (mac : Nat) : Nat :=
  if mac / 0x1000 = 0xA then
    s.fld (F.DRC_PPR_AVAIL (mac % 0x1000 / 32)) - (s.memsys.repairs.filter fun r => r.mac / 0x1000 = 0xA && r.mac % 0x1000 / 32 = mac % 0x1000 / 32).length
  else spareRows mac - fusedRows s mac - spGet 0 s.memsys.spareUsed mac - (s.memsys.repairs.filter fun r => r.mac = mac).length

/-! ### SECDED (R306) -/

/-- Number of 1 bits of an 8-bit value. -/
def pop8 (x : Nat) : Nat := ((List.range 8).filter fun i => x.testBit i).length

/-- The columns of the 64 data bits. -/
def eccColumns : List Nat :=
  (List.range 256).filter (fun x => pop8 x = 3) ++ [0x1F, 0x2F, 0x37, 0x3B, 0x3D, 0x3E, 0x4F, 0x57]

/-- The check byte of a 64-bit word. -/
def checkByte (w : Nat) : Nat :=
  (List.range 64).foldl (fun x k => if w.testBit k then x ^^^ eccColumns.getD k 0 else x) 0

/-- What a syndrome decodes to: good, a correctable error (in data bit `k`, or in a check bit), or uncorrectable. -/
inductive EccRes where
  | good | data (k : Nat) | check | bad
  deriving DecidableEq, Repr

/-- Decode a syndrome. -/
def eccDecode (x : Nat) : EccRes :=
  if x = 0 then .good
  else match eccColumns.findIdx? (· = x) with
    | some k => .data k
    | none => if pop8 x = 1 then .check else .bad

/-- The syndrome stored for the word that holds address `a`. -/
def synd (s : State) (a : Nat) : Nat := (spGet 0 s.memsys.synd (a / 8 * 8)).toNat

/-! ### Soft repair (R311) -/

/-- Argument 0 of a memory event (R320): the address, or the byte offset in a macro without one. -/
def memArg0 (a mac : Nat) : Nat := (a - macBase mac) % 2 ^ 32

/-- Argument 1 of a memory event (R320). -/
def memArg1 (a mac : Nat) : Nat := (a - macBase mac) / 2 ^ 32 % 2 ^ 16 + mac * 2 ^ 16

/-- Is a copy of the row at `a` under way (R311)? -/
def inRepair (s : State) (mac a : Nat) : Bool := s.memsys.repairs.any fun r => r.mac = mac && r.row = a

/-- A soft repair of the row at `a` in macro `mac` is triggered; without a free spare row REPAIR_EXHAUSTED (R311). -/
def startRepair (mac a trigger : Nat) (s : State) : State :=
  if inRepair s mac a then s
  else if spareLeft s mac = 0 then
    raise { code := 0x2004, oid := 0x38, sev := 1, a0 := memArg0 a mac, a1 := memArg1 a mac, a2 := trigger * 2 }
      (s.incHold F.MEM_RPLOG_EXH)
  else s.setMs { s.memsys with repairs := s.memsys.repairs ++ [⟨mac, a, trigger⟩] }

/-! ### Corrections and uncorrectable words (R307 to R309) -/

/-- Count a correction in the counter of its block (R307). -/
def countCe (p : Place) (s : State) : State :=
  match p with
  | .scratch n _ => s.incHold (F.CRN_ECCCNT_CORR n)
  | .sapling _ => s.incHold F.SPL_ECCCNT_CORR
  | .dram a => s.incHold (F.DRC_CECNT_CORR (dramChan a / 32))
  | .acc n _ => s.incHold (F.CRN_ECCCNT_CORR n)
  | .l1 _ _ => s
  | .l2 _ _ => s
  | _ => s.inc64 Reg.MEM_CECNT_LO

/-- The bit `k` of the word at `w` is the other way round: in memory, or in the accumulator file, whose 64-bit words run over its 36-bit elements
in order (log entry 12). The directory and the Bough caches are kept by content, and their bits by syndrome alone. -/
def flipBit (w k : Nat) (p : Place) (s : State) : State :=
  match p with
  | .acc n off =>
    let b := 8 * off + k
    let x := spGet {} s.crown n
    let v := spGet 0 x.acc (b / 36) ^^^ BitVec.ofNat 36 (2 ^ (b % 36))
    { s with crown := spSet {} n { x with acc := spSet 0 (b / 36) v x.acc } s.crown }
  | .dir _ => s
  | .l1 _ _ => s
  | .l2 _ _ => s
  | _ => { s with mem := spSet 0 (w + k / 8) (s.byte (w + k / 8) ^^^ BitVec.ofNat 8 (2 ^ (k % 8))) s.mem }

/-- A single-bit error in the word at `w` is corrected on the way (R307): delivered, written back, counted; MEM_CE at each
multiple of the threshold; a second correction in a row at one word triggers soft repair. -/
def correctWord (oid w : Nat) (p : Place) (s : State) : State :=
  let x := synd s w
  let mac := macOf p
  let s := match eccDecode x with
    | .data k => flipBit w k p s
    | _ => s
  let n := spGet 0 s.memsys.ceCount mac + 1
  let again := spGet 0 s.memsys.ceLast mac = w + 1
  let s := s.setMs { s.memsys with
    synd := spSet 0 w 0 s.memsys.synd
    ceCount := spSet 0 mac n s.memsys.ceCount
    ceLast := spSet 0 mac (w + 1) s.memsys.ceLast }
  let s := countCe p s
  let thr := s.fld F.MEM_CETHR_THR
  let s := if thr ≠ 0 && n % thr = 0 then
      raise { code := 0x2001, oid := oid, a0 := memArg0 w mac, a1 := memArg1 w mac, a2 := x, a3 := n } s
    else s
  if again then startRepair mac (w / 64 * 64) 1 s else s

/-- The stream that a word of Seedbed's buffers serves (R309, log entry 99): in a line buffer that of the receiver's open frame, in the resize and
patch buffers the lowest stream with a sample in flight. -/
def bufferStream (s : State) (off : Nat) : Option Nat :=
  if off < 0x180000 then (s.sdb.frames.find? fun f => f.rx = off / 0x20000).map (·.stream)
  else (s.sdb.streams.find? fun e => e.2.flights ≠ []).map (·.1)

/-- Severity and context of MEM_UE for the word at a place (R309). -/
def ueClass (s : State) (a : Nat) (p : Place) : Nat × Nat :=
  let owned (o : Nat) : Nat × Nat := if o < 64 then (2, o) else (1, 0)
  match p with
  | .scratch n _ =>
    let o := recordedOwner s a
    match coreCtx s n with
    | some c => (2, c)
    | none => owned o
  | .canopy _ => owned (recordedOwner s a)
  | .dram _ => owned (recordedOwner s a)
  | .sapling off =>
    if off ≥ 0x180000 then owned (recordedOwner s a)
    else if s.fld F.SPL_STATE_STATE = uRunning then (2, s.fld F.SPL_STATE_CTX) else (1, 0)
  | .seedbed off =>
    match bufferStream s off with
    | some n => (2, ((s.bytes (0x2022200000 + 0x100 * n) 11).getD 10 0).toNat % 64)
    | none => (1, 0)
  | .acc n _ => match coreCtx s n with
    | some c => (2, c)
    | none => (1, 0)
  | .dir _ => (3, 0)
  | .l1 _ _ => (3, 0)
  | .l2 _ _ => (3, 0)
  | .pith _ => (3, 0)
  | .cambium _ => (4, 0)
  | .hwd _ => (4, 0)
  | .reg _ => (1, 0)

/-- The Page keeper's directory has met an uncorrectable word (R309): EN is cleared until a global reset, and every context with a command pending or
in execution is torn down. -/
def directoryLost (s : State) : State :=
  let hit := (List.range 64).filter fun c => kvpWaiting s c || kvpBusy s c
  let s := { s with kvp := { s.kvp with dead := true } }.put F.KVP_CTRL_EN 0
  hit.foldl (fun s c => tearCtx c 0x2002 s) s

/-- The samples in flight of a stream complete with status 0xFE (R254, R309). -/
def failSamples (n : Nat) (s : State) : State :=
  let x := spGet {} s.sdb.streams n
  let x := { x with flights := x.flights.map fun f => { f with st := some 0xFE } }
  { s with sdb := { s.sdb with streams := spSet {} n x s.sdb.streams } }

/-- A read or a test meets an uncorrectable word: MEM_UE for the first time, and a soft repair of its row (R308, R311). -/
def meetBad (oid w : Nat) (p : Place) (tester : Bool) (s : State) : State :=
  if s.memsys.ueSeen.contains w then s
  else
    let mac := macOf p
    let (sev, c) := ueClass s w p
    let s := s.setMs { s.memsys with ueSeen := s.memsys.ueSeen ++ [w] }
    let s := s.incHold F.MEM_UECNT_CNT
    let s := match p with
      | .dram a => s.incHold (F.DRC_CECNT_UNCORR (dramChan a / 32))
      | .pith _ => s.put F.LCS_STAT_PITHUE 1
      | _ => s
    let s := raise { code := 0x2002, oid := oid, ctx := c, sev := sev, a0 := memArg0 w mac, a1 := memArg1 w mac
                     a2 := synd s w + ofBool tester * 2 ^ 8 } s
    let s := match p with
      | .cambium _ => hwdDue 0x0A s
      | .hwd _ => hwdDue 0x0B s
      | .dir _ => directoryLost s
      | .seedbed off => match bufferStream s off with
        | some n => failSamples n s
        | none => s
      | _ => s
    startRepair mac (w / 64 * 64) 2 s

/-- The words an access touches. -/
def wordsOf (a n : Nat) : List Nat :=
  if n = 0 then [] else (List.range ((a + n - 1) / 8 + 1 - a / 8)).map fun i => (a / 8 + i) * 8

/-- Correct or report the words of a read in ascending order; true when no word is uncorrectable (R306 to R308). -/
def scanWords (oid : Nat) (tester : Bool) : List Nat → State → Bool × State
  | [], s => (true, s)
  | w :: ws, s =>
    match place w with
    | none => scanWords oid tester ws s
    | some p =>
      match eccDecode (synd s w) with
      | .good => scanWords oid tester ws s
      | .bad =>
        let s := meetBad oid w p tester s
        if tester then
          let r := scanWords oid tester ws s
          (false, r.2)
        else (false, s)
      | _ => scanWords oid tester ws (correctWord oid w p s)

/-- The words that an error may concern: those with a non-zero syndrome inside the access, in ascending order. -/
def suspectWords (s : State) (a n : Nat) : List Nat :=
  (s.memsys.synd.filter fun e => e.1 < a + n && a < e.1 + 8).map (·.1)

/-- The Bough core that issues under an OID (R31): core 2p for a pair in lockstep. -/
def boughOf (oid : Nat) : Option Nat :=
  if 0x20 ≤ oid && oid < 0x28 then some (oid - 0x20) else if 0x28 ≤ oid && oid < 0x2C then some (2 * (oid - 0x28)) else none

/-- An access by `oid` to `n` bytes at `a` reaches the caches of the other Bough cores (R454): a line that one of them holds dirty is written back, and a
write ends the reservations on its lines (R453). -/
def snoop (oid a n : Nat) (wr : Bool) (m : MemSys) : MemSys :=
  let meets (x : Nat) : Bool := x / 64 * 64 < a + n && a < x / 64 * 64 + 64
  { m with dirty := m.dirty.filter fun d => boughOf oid = some d.core || !(meets d.line)
           resv := m.resv.filter fun r => !wr || boughOf oid = some r.core || !(meets r.addr) }

/-- A read of `n` bytes at a populated memory address: the bytes, or none after an uncorrectable word (R308). -/
def memRead (oid a n : Nat) (s : State) : Option (List Byte) × State :=
  let r := scanWords oid false (suspectWords s a n) s
  let s := r.2
  let s := match place a with
    | some (.dram x) => (s.setMs (snoop oid a n false s.memsys)).inc64 (Reg.DRC_RDBYTES_LO (dramChan x / 32)) n
    | _ => s
  if r.1 then (some (s.bytes a n), s) else (none, s)

/-- Bytes of a write that lie in the descriptor of an enabled stream and would change it (R236). -/
def sdbLocked (s : State) (a : Nat) (b : Byte) : Bool :=
  0x2022200000 ≤ a && a < 0x2022201000 && s.flag (F.SDB_STR_CTRL_EN ((a - 0x2022200000) / 0x100)) && b ≠ s.byte a

/-- Write the bytes of one piece, plain or through an alias (R29), keeping the bytes of enabled stream descriptors (R236):
the byte list that is stored, and whether a locked byte would have changed. -/
def pieceBytes (s : State) (a : Nat) (kind : AliasKind) (bs : List Byte) : List Byte × Bool :=
  let new (i : Nat) (b : Byte) : Byte :=
    if kind = 1 then s.byte (a + i) ||| b else if kind = 2 then s.byte (a + i) &&& ~~~b else b
  let l := (List.range bs.length).map fun i => new i (bs.getD i 0)
  let hit := (List.range bs.length).any fun i => sdbLocked s (a + i) (l.getD i 0)
  ((List.range bs.length).map fun i => if sdbLocked s (a + i) (l.getD i 0) then s.byte (a + i) else l.getD i 0, hit)

/-- Words that a write covers in part and that hold a correctable error are corrected first (R306, R307). -/
def correctPartial (oid a n : Nat) (s : State) : State :=
  (suspectWords s a n).foldl (fun s w =>
    if wholeWords a n w then s
    else match place w, eccDecode (synd s w) with
      | some p, .data _ => correctWord oid w p s
      | some p, .check => correctWord oid w p s
      | _, _ => s) s

/-- A write of bytes at a populated memory address (underlying address `a`): true when it would have changed a byte of an
enabled stream descriptor, which kept its value (R236). -/
def memStore (oid a : Nat) (kind : AliasKind) (bs : List Byte) (s : State) : Bool × State :=
  let s := correctPartial oid a bs.length s
  let (l, hit) := pieceBytes s a kind bs
  let s := { s with mem := spRange 0 a l.length (fun i => l.getD i 0) s.mem, memsys := cleanWords a l.length s.memsys }
  (hit, match place a with
    | some (.dram x) => (s.setMs (snoop oid a l.length true s.memsys)).inc64 (Reg.DRC_WRBYTES_LO (dramChan x / 32)) l.length
    | _ => s)

/-- A write of bytes by a unit into its own memory, where no stream descriptor lies. -/
def memWrite (oid a : Nat) (bs : List Byte) (s : State) : State := (memStore oid a 0 bs s).2

/-- Does a wipe of the Pith store run (R479)? -/
def wiping (s : State) : Bool := s.flag F.LCS_STAT_WIPING

/-- A parity error on the stack interface of pseudo-channel `c` (R301): true when the request succeeds. -/
def parityError (oid c failed kind : Nat) (s : State) : Bool × State :=
  if failed = 0 then (true, s)
  else
    let ok := failed ≤ 3
    let s := if ok then s.incHold (F.DRC_LINKERR_RETRIED (c / 32)) else s.incHold (F.DRC_LINKERR_FAILED (c / 32))
    (ok, raise { code := 0x2007, oid := oid, sev := if ok then 1 else 3, a0 := c / 32, a1 := c % 32, a2 := kind % 8
                 a3 := min (failed + ofBool ok) 4 } s)

/-- An engine's access to DRAM at `x` meets the next parity error that is to come (R301). -/
def engineLink (oid x : Nat) (s : State) : Bool × State :=
  match s.memsys.links with
  | [] => (true, s)
  | l :: r => parityError oid (dramChan x) l.1 l.2 (s.setMs { s.memsys with links := r })

/-- What an access meets on the stack interface, and what the stack's own ECC reports (R301): true when the request succeeds. -/
def linkError (oid a : Nat) (l : LinkErr) (s : State) : Bool × State :=
  match place a with
  | some (.dram x) =>
    let s := (List.range l.reports).foldl (fun s _ => s.incHold (F.DRC_CECNT_CORR (dramChan x / 32))) s
    let s := if l.later = [] then s else s.setMs { s.memsys with links := s.memsys.links ++ l.later }
    parityError oid (dramChan x) l.failed l.kind s
  | _ => (true, s)

/-- Does the place hold data that an engine keeps there in a layout of its own: Sapling's weight and detection stores (R200), and Seedbed's
buffers (R235)? The spec gives no layout (log entry 24). -/
def engineData (s : State) (p : Place) : Bool :=
  match p with
  | .sapling off => s.spl.filled.contains (if off < 0x100000 then 0 else if off < 0x180000 then 1 else 2)
  | .seedbed off => decide (off < 0x200000) && s.sdb.filled.contains (off / 0x20000)
  | _ => false

/-- One piece of a read that Bark admits: registers (R39), the Pith store during a wipe, which reads 0 (R479), an engine's own data, which is a free
value, or memory. -/
def pieceRead (oid a n : Nat) (s : State) : Option (List Byte) × State :=
  let u := (unalias a).getD (a, 0)
  match place u.1 with
  | some (.reg off) => let r := readRegs oid off n u.2 s; (some r.1, r.2)
  | some (.pith _) => if wiping s then (some (List.replicate n 0), s) else memRead oid u.1 n s
  | some (.dram x) =>
    match engineLink oid x s with
    | (true, s) => memRead oid u.1 n s
    | (false, s) => (none, s)
  | some p =>
    match memRead oid u.1 n s with
    | (some b, s) => if engineData s p then let f := s.freeNat; (some (leBytes n f.1), f.2) else (some b, s)
    | (none, s) => (none, s)
  | none => memRead oid u.1 n s

/-- How one piece of a write ends: performed, with a locked byte kept (R236), or with an error response. -/
inductive PieceRes where
  | ok | locked | error
  deriving DecidableEq, Repr

/-- One piece of an engine's write that Bark admits: registers, the Pith store during a wipe, which drops it (R479), or memory. -/
def pieceWrite (oid ctx a : Nat) (bs : List Byte) (s : State) : PieceRes × State :=
  let u := (unalias a).getD (a, 0)
  let mem : PieceRes × State :=
    let x := memStore oid u.1 u.2 bs s
    (if x.1 then .locked else .ok, x.2)
  match place u.1 with
  | some (.reg off) =>
    let x := engineRegWrite oid ctx a off u.2 bs s
    (if x.1 then .ok else .error, x.2)
  | some (.pith _) => if wiping s then (.error, s) else mem
  | some (.dram x) =>
    match engineLink oid x s with
    | (true, s) =>
      let y := memStore oid u.1 u.2 bs s
      (if y.1 then .locked else .ok, y.2)
    | (false, s) => (.error, s)
  | _ => mem

/-- A read of memory across the network-on-chip under Bark (R28, R340): the bytes, or none with its event. -/
def nocRead (oid ctx a n : Nat) (s : State) : Option (List Byte) × State :=
  match judge s oid ctx a n false with
  | some f => (none, reportFail oid ctx false f 0 s)
  | none =>
    (pieces a n).foldl (fun r p =>
      match r.1 with
      | none => r
      | some l =>
        match pieceRead oid p.1 p.2 r.2 with
        | (some b, s) => (some (l ++ b), s)
        | (none, s) => (none, s)) (some [], s)

/-- A network write with the address of the transaction that failed (R28, R35, R41, R236): LOCK_VIOLATION comes once. -/
def netWrite (oid ctx a : Nat) (bs : List Byte) (s : State) : Option Nat × State :=
  match judge s oid ctx a bs.length true with
  | some f => (some f.addr, reportFail oid ctx true f (leNat ((bs.drop (f.addr - a)).take 4)) s)
  | none =>
    let r := (pieces a bs.length).foldl (fun (r : Option Nat × Option (Nat × Nat) × State) p =>
      match pieceWrite oid ctx p.1 ((bs.drop (p.1 - a)).take p.2) r.2.2 with
      | (.ok, s) => (r.1, r.2.1, s)
      | (.locked, s) => (r.1.or (some p.1), r.2.1.or (some p), s)
      | (.error, s) => (r.1.or (some p.1), r.2.1, s)) (none, none, s)
    match r.2 with
    | (none, s) => (r.1, s)
    | (some p, s) => (r.1, accessEvent 0x3001 oid (evCtx oid ctx) p.1 p.2 true ((unalias p.1).getD (p.1, 0)).2
        (leNat ((bs.drop (p.1 - a)).take 4)) 0 1 s)

/-- A write of memory across the network-on-chip under Bark: true when it took effect. -/
def nocWrite (oid ctx a : Nat) (bs : List Byte) (s : State) : Bool × State :=
  let r := netWrite oid ctx a bs s
  (r.1.isNone, r.2)

/-- A network read with the address of the transaction that failed (R28, R41). -/
def netRead (oid ctx a n : Nat) (s : State) : (Nat ⊕ List Byte) × State :=
  match judge s oid ctx a n false with
  | some f => (.inl f.addr, reportFail oid ctx false f 0 s)
  | none =>
    (pieces a n).foldl (fun r p =>
      match r.1 with
      | .inl _ => r
      | .inr l =>
        match pieceRead oid p.1 p.2 r.2 with
        | (some b, s) => (.inr (l ++ b), s)
        | (none, s) => (.inl p.1, s)) (.inr [], s)

/-! ### The commands -/

/-- REFRESH (R300): refresh runs from the initialisation of the controller at boot. -/
def execDramRefresh (stack : Fin 4) (cycles : BitVec 32) (s : State) : Host.Outcome State Fault Refusal :=
  .next (if s.flag (F.DRC_STAT_INIT stack) then s.inc64 (Reg.DRC_REFCYC_LO stack) cycles.toNat else s)

/-- STACK_TEMPERATURE_CROSSING (R300). -/
def execStackTemperatureCrossing (stack : Fin 4) (temp : BitVec 8) (s : State) : Host.Outcome State Fault Refusal :=
  let s := s.put (F.DRC_STAT_TEMP stack) temp.toNat
  if temp.toNat > 85 then
    if s.flag (F.DRC_STAT_X2 stack) then .next s
    else .next (raise { code := 0x2006, oid := 0x38, sev := 1, a0 := stack, a1 := temp.toNat } (s.put (F.DRC_STAT_X2 stack) 1))
  else if temp.toNat < 82 then .next (s.put (F.DRC_STAT_X2 stack) 0)
  else .next s

/-- PATROL_SCRUB (R301): the granule is read under OID 0x038, corrected in place; an uncorrectable word is reported and left. -/
def execPatrolScrub (granule : BitVec 29) (link : LinkErr) (s : State) : Host.Outcome State Fault Refusal :=
  let a := granule.toNat * 256
  if a < 0x1800000000 && s.flag (F.DRC_SCRUB_HOURS (dramChan a / 32)) then
    match linkError 0x38 a link s with
    | (false, s) => .next s
    | (true, s) =>
      .next ((scanWords 0x38 true (suspectWords s a 256) s).2.inc64 (Reg.DRC_RDBYTES_LO (dramChan a / 32)) 256)
  else .next s

/-- Rows of the largest macro: the accumulator file, 2.25 MiB (R83, R297). -/
def bgRows : Nat := 36864

/-- The failing rows that lie in the macro they name: macro, address, element and background (R312, R320). -/
def failRows (fails : List RowFail) : List RowFail :=
  (fails.map fun f => { f with row := macBase f.mac + f.row }).filter fun f =>
    match place f.row with
    | some p => macOf p = f.mac
    | none => false

/-- Rows that failed a test: repaired under R311, each with its MARCH_FAIL, of severity 3 in a macro with a failing row that has no repair (R312). -/
def marchFails (fails : List RowFail) (s : State) : State :=
  let l := failRows fails
  let s := l.foldl (fun s f => startRepair f.mac (f.row / 64 * 64) 0 s) s
  let lost (mac : Nat) : Bool := l.any fun f => f.mac = mac && !(inRepair s mac (f.row / 64 * 64))
  l.foldl (fun t f => raise { code := 0x2005, oid := 0x38, sev := if lost f.mac then 3 else 1, a0 := memArg0 f.row f.mac, a1 := memArg1 f.row f.mac
                              a2 := f.element, a3 := f.bg } t) s

/-- The row of macro `mac` that the background tester takes next (R315, R316). -/
def bgRowOf (s : State) (mac : Nat) : Nat := (s.memsys.bgRow - spGet 0 s.memsys.bgLag mac) % macRows mac

/-- Does the background tester's period test the row of the word at `w`? DRAM has no background tester, and a test that the owner's access aborts
leaves its row for the next period (R315, R316). -/
def bgTests (s : State) (aborted : List Nat) (w : Nat) : Bool :=
  match place w with
  | none => false
  | some p => macOf p / 0x1000 ≠ 0xA && !(aborted.contains (macOf p)) && rowOf p = bgRowOf s (macOf p)

/-- A failed compare of the background tester (R315): the row of that macro; the spec gives the event no element and no background, which are free. -/
def bgFail (mac : Nat) (s : State) : State :=
  let e := s.freeNat
  let b := e.2.freeNat
  marchFails [⟨mac, rowAddr mac (bgRowOf s mac) - macBase mac, 1 + e.1 % 6, b.1 % 4⟩] b.2

/-- BACKGROUND_ROW_TEST (R315, R316): one row of every macro; errors of the row's words are corrected or reported with OID 0x038,
failed compares are repaired and reported; data are never changed. -/
def execBackgroundRowTest (fails : List Nat) (s : State) : Host.Outcome State Fault Refusal :=
  if s.flag F.MEM_BGCTRL_EN then
    let aborted := ((fails.filter (65536 ≤ ·)).map (· - 65536)).filter fun m => m / 0x1000 = 5 || m / 0x1000 = 7
    let s := (scanWords 0x38 true ((s.memsys.synd.map (·.1)).filter (bgTests s aborted)) s).2
    let s := (fails.filter (· < 65536)).foldl (fun s m => bgFail m s) s
    let lag := aborted.foldl (fun t m => spSet 0 m (spGet 0 t m + 1) t) s.memsys.bgLag
    let s := s.setMs { s.memsys with bgRow := s.memsys.bgRow + 1, bgLag := lag }
    .next (if s.memsys.bgRow % bgRows = 0 then s.inc64 Reg.MEM_BGPASS_LO else s)
  else .next s

/-- The words of a repaired row are copied corrected and counted, or marked uncorrectable (R307, R308, R311). -/
def repairWords (row : Nat) (s : State) : State :=
  (suspectWords s row 64).foldl (fun s w =>
    let clear (s : State) : State := s.setMs { s.memsys with synd := spSet 0 w 0 s.memsys.synd }
    match place w, eccDecode (synd s w) with
    | some _, .bad => s.setMs { s.memsys with synd := spSet 0 w 0xFF s.memsys.synd }
    | some p, .data k => countCe p (clear (flipBit w k p s))
    | some p, .check => countCe p (clear s)
    | _, _ => clear s) s

/-- SOFT_REPAIR_COMPLETE (R311): the row's address switches to the spare. -/
def execSoftRepairComplete (s : State) : Host.Outcome State Fault Refusal :=
  match s.memsys.repairs with
  | [] => .next s
  | r :: rest =>
    let dram := r.mac / 0x1000 = 0xA
    let stack := r.mac % 0x1000 / 32
    let s := s.setMs { s.memsys with repairs := rest }
    let s := repairWords r.row s
    let s := if dram then
        (s.put (F.DRC_PPR_AVAIL stack) (s.fld (F.DRC_PPR_AVAIL stack) - 1)).incHold (F.DRC_PPR_USED stack)
      else s.setMs { s.memsys with spareUsed := spSet 0 r.mac (spGet 0 s.memsys.spareUsed r.mac + 1) s.memsys.spareUsed }
    let s := s.incHold F.MEM_RPLOG_SOFT
    .next (raise { code := 0x2003, oid := 0x38, a0 := memArg0 r.row r.mac, a1 := memArg1 r.row r.mac
                   a2 := ofBool dram + r.trigger * 2, a3 := spareLeft s r.mac } s)

/-- Is the unit of a test group LOST, so that a destructive test is accepted (R314)? -/
def groupLost (s : State) (target : Nat) : Bool :=
  target / 0x1000 = 0xF && target % 0x1000 ≤ 6 && s.fld (unitField (target % 0x1000)) = uLost

/-- GO of MEM_TCMD (R314): the preserving form is for the SRAM macros but Cambium's and Heartwood's. -/
def startTest (s : State) : State :=
  let t := s.fld F.MEM_TSEL_MACRO
  let preserving := s.flag F.MEM_TSEL_FORM
  let ok := if preserving then macRows t ≠ 0 && t / 0x1000 ≠ 5 && t / 0x1000 ≠ 7 else groupLost s t
  if s.flag F.MEM_TSTAT_BUSY || !ok then s.put F.MEM_TSTAT_REFUSED 1
  else (s.put F.MEM_TSTAT_BUSY 1).setMs { s.memsys with test := some ⟨t, preserving, s.fld F.MEM_TSEL_BGS⟩ }

/-- MEMORY_TEST_REQUEST (R314). -/
def execMemoryTestRequest (s : State) : Host.Outcome State Fault Refusal := .next (startTest s)

/-- The storage of unit `u` is left zero by a destructive march (R312). -/
def zeroUnitStores (u : Nat) (s : State) : State :=
  if u < 6 then
    let x := spGet {} s.crown u
    ({ s with crown := spSet {} u { x with acc := [] } s.crown }.zero (accBase u) 0x240000).zero (spBase u) spSize
  else { s with spl := { s.spl with filled := [] } }.zero 0x2020000000 0x200000

/-- Is the macro one that a test covers (R297, R314)? -/
def testCovers (t : MemTest) (mac : Nat) : Bool :=
  if t.preserving then mac = t.target
  else if t.target % 0x1000 < 6 then mac / 0x1000 ≤ 1 && (if mac / 0x1000 = 0 then mac / 48 else mac % 0x1000) = t.target % 0x1000
  else mac / 0x1000 = 4

/-- MEMORY_TEST_COMPLETE (R312, R314): the preserving form saves and restores every row corrected, the destructive form leaves zeros; the failing rows are
of the tested macros and the chosen backgrounds. -/
def execMemoryTestComplete (fails : List RowFail) (s : State) : Host.Outcome State Fault Refusal :=
  match s.memsys.test with
  | none => .next s
  | some t =>
    let ws := (s.memsys.synd.map (·.1)).filter fun w => match place w with
      | some p => testCovers t (macOf p)
      | none => false
    let s := if t.preserving then (scanWords 0x38 true ws s).2 else zeroUnitStores (t.target % 0x1000) s
    let fails := fails.filter fun f => testCovers t f.mac && bitAt t.bgs f.bg
    let s := marchFails fails s
    let s := ((s.setMs { s.memsys with test := none }).put F.MEM_TSTAT_BUSY 0).put F.MEM_TSTAT_DONE 1
    .next (if fails = [] then s else s.put F.MEM_TSTAT_FAIL 1)

/-! ### The bulk-clear engine (R317, R318) -/

/-- Bytes of `n` bytes of DRAM from `a`, both multiples of a granule, that stack `k` holds: any 128 granules from a multiple of 128 place 32 on every
stack (R298). -/
def stackBytes (a n k : Nat) : Nat :=
  if a % 0x8000 = 0 && n % 0x8000 = 0 then n / 4
  else ((List.range (n / 256)).filter fun i => dramChan (a + 256 * i) / 32 = k).length * 256

/-- The engine writes zeros over `n` bytes of DRAM from `a` (R317, R318): the bytes count as written (R322). -/
def bulkZero (a n : Nat) (s : State) : State :=
  (List.range 4).foldl (fun s k => s.inc64 (Reg.DRC_WRBYTES_LO k) (stackBytes a n k))
    (let t := s.zero a n
     t.setMs (snoop 0x38 a n true t.memsys))

/-- A request joins the engine's queue (R318). An access that Bark admits to its range waits for the clear and then finds zeros or applies over them, so
the bytes are zero from the request on (R317, R319). -/
def enqueueClear (c : BulkClear) (s : State) : State :=
  bulkZero c.addr c.len (s.setMs { s.memsys with clears := s.memsys.clears ++ [c] })

/-- The request at the front is complete (R318). -/
def dequeueClear (s : State) : State := s.setMs { s.memsys with clears := s.memsys.clears.drop 1 }

/-- Is the request of `w` the one that the engine clears, or has it none (R318)? -/
def clearTurn (s : State) (w : ClearFor) : Bool :=
  match s.memsys.clears.find? fun c => c.who = w with
  | none => true
  | some c => s.memsys.clears.head? = some c

/-- The engine reports the request of `w` complete to its requester (R318). -/
def clearDone (w : ClearFor) (s : State) : State :=
  if (s.memsys.clears.head?.map (·.who)) = some w then dequeueClear s else s

/-- May a role clear the 2 MiB unit `u`? It is HOST-owned, not in a change of owner, and holds no byte of the Page keeper's pool (R318). -/
def clearable (s : State) (u : Nat) : Bool :=
  let a := u * 0x200000
  let pool := s.flag F.KVP_CTRL_EN && decide (a < kvpBase s + kvpChunks s * kvpChunk s) && decide (kvpBase s < a + 0x200000)
  ownerOf s u = 64 && !(withdrawn s u) && !pool

/-- GO of MEM_BCLR_CMD by role `oid` (R318): a request for a HOST-owned range of whole 2 MiB units. -/
def startClear (oid : Nat) (s : State) : State :=
  if s.flag F.MEM_BCLR_STAT_BUSY then s
  else
    let a := s.fld F.MEM_BCLR_ADDR_LO_ADDR_LO * 0x200000 + s.fld F.MEM_BCLR_ADDR_HI_ADDR_HI * 2 ^ 32
    let n := s.fld F.MEM_BCLR_LEN_LEN
    let ok := a + n * 0x200000 ≤ 0x1800000000 && (List.range n).all fun i => clearable s (a / 0x200000 + i)
    if n = 0 || !ok then s.put F.MEM_BCLR_STAT_ERR 1
    else enqueueClear ⟨a, n * 0x200000, .role oid⟩ (s.put F.MEM_BCLR_STAT_BUSY 1)

/-- BULK_CLEAR (R318): the command names no writer; it stands for a write by the host. -/
def execBulkClear (s : State) : Host.Outcome State Fault Refusal := .next (startClear 0 s)

/-- BULK_CLEAR_COMPLETE (R318): every byte of the range reads zero, and BCLR_DONE is raised. A request of the scheduler or the Page keeper at the front
completes with OWN_ZEROING_COMPLETE or PAGE_ZEROED. -/
def execBulkClearComplete (s : State) : Host.Outcome State Fault Refusal :=
  match s.memsys.clears with
  | [] => .next s
  | c :: _ =>
    match c.who with
    | .role oid =>
      .next (raise { code := 0x2008, oid := 0x38, a0 := c.addr % 2 ^ 32, a1 := memArg1 c.addr 0, a2 := c.len / 0x200000, a3 := oid }
        ((dequeueClear s).put F.MEM_BCLR_STAT_BUSY 0))
    | _ => .next s

end Sys2Proof.Machine
end

