-- ==== Sys2Proof/Machine/Rings.lean ====
section
/-! DEFINITION. Growth rings: the ring named by a SIGTGT value, signals and reads of rings under Bark
(13_growth_rings.md, R114 to R119, R282 to R292). -/

namespace Sys2Proof.Machine

/-- Has the ring value `v` reached the target (R116)? -/
def reached (v tgt : Nat) : Bool := 0 ≤ wrap ((v : Int) - tgt) 32

/-- A ring signal by an agent over the network-on-chip (R119, R286): false when Bark refuses it. -/
def netSignal (t oid ctx d : Nat) (s : State) : Bool × State :=
  match barkPiece s oid ctx (regBase + ringSigReg t) 4 true with
  | some r => (false, reportFail oid ctx true ⟨0x3010, regBase + ringSigReg t, 4, 0, r⟩ d s)
  | none => (true, applySignal t oid ctx d s)

/-- A read of a global ring over the network-on-chip (R119): false when Bark refuses it. -/
def netRingRead (t oid ctx : Nat) (s : State) : Bool × State :=
  match ringReg t with
  | none => (true, s)
  | some r =>
    match barkPiece s oid ctx (regBase + r) 4 false with
    | some x => (false, reportFail oid ctx false ⟨0x3010, regBase + r, 4, 0, x⟩ 0 s)
    | none => (true, s)

end Sys2Proof.Machine
end

