-- ==== Sys2Proof/Machine/CrownCore.lean ====
section
/-! DEFINITION. One Crown core: access to its register files, its own scratchpad accesses, program faults, the sequencer's
common steps, and issue into the queues (R91 to R104, R110, R278). -/

namespace Sys2Proof.Machine

/-- What a command answers. -/
abbrev Ans := Host.Outcome State Fault Refusal

/-- Core `c`'s storage. -/
def State.core (s : State) (c : Nat) : Crown := spGet {} s.crown c
/-- The state with core `c`'s storage replaced. -/
def State.setCore (s : State) (c : Nat) (k : Crown) : State := { s with crown := spSet {} c k s.crown }

/-- Scalar register `r` as a signed integer; s0 reads 0 (R101). -/
def Crown.sreg (k : Crown) (r : Nat) : Int := if r = 0 then 0 else (spGet 0 k.s r : BitVec 64).toInt
/-- Write the 64-bit pattern of `v` into scalar register `r`; s0 discards it. -/
def Crown.setS (k : Crown) (r : Nat) (v : Int) : Crown :=
  if r = 0 then k else { k with s := spSet 0 r (BitVec.ofInt 64 v) k.s }
/-- Predicate `r`; p0 reads 1. -/
def Crown.preg (k : Crown) (r : Nat) : Bool := r = 0 || k.p.getLsbD r
/-- Write predicate `r`; p0 discards it. -/
def Crown.setP (k : Crown) (r : Nat) (b : Bool) : Crown :=
  if r = 0 then k
  else { k with p := if b then k.p ||| BitVec.ofNat 8 (2 ^ r) else k.p &&& ~~~(BitVec.ofNat 8 (2 ^ r)) }
/-- Tile descriptor register `r`. -/
def Crown.treg (k : Crown) (r : Nat) : Tile := spGet 0 k.t r
/-- Write tile descriptor register `r`. -/
def Crown.setT (k : Crown) (r : Nat) (t : Tile) : Crown := { k with t := spSet 0 r t k.t }

/-- Set flags of core `c`'s flag word (R54, R55). -/
def orFlags (c : Nat) (f : BitVec 4) (s : State) : State :=
  if f = 0 then s
  else s.put (F.CRN_FLAGS_SAT_DZ_ACCF_SCLR c) (s.fld (F.CRN_FLAGS_SAT_DZ_ACCF_SCLR c) ||| f.toNat)

/-- The context of the job that core `c` runs. -/
def coreCtxN (s : State) (c : Nat) : Nat := s.fld (F.CRN_STATE_CTX c)
/-- The OID of core `c` (R31). -/
def coreOid (c : Nat) : Nat := 0x10 + c

/-- The job that core `c` runs. -/
def coreJob (s : State) (c : Nat) : Option Job := s.sched.jobs.find? fun j => j.dispatched && j.cores.contains c

/-- Does core `c` run a started job whose context is not being torn down? -/
def coreRuns (s : State) (c : Nat) : Bool :=
  s.fld (unitField c) = uRunning && unitStarted s c
    && (let st := s.fld (F.SCH_CTX_STAT_STATE (coreCtxN s c)); st ≠ ctxTearing && st ≠ ctxFaulted)

/-- The core stops issuing. -/
def haltCore (c : Nat) (s : State) : State := s.setCore c { s.core c with halted := true }

/-- A program fault (R103, R104): the core stops and PROG_FAULT carries the report. -/
def progFault (c cause pc word : Nat) (w3 : Int) (code : Nat) (s : State) : State :=
  raise { code := 0x400B, oid := coreOid c, ctx := coreCtxN s c, sev := 2, a0 := cause + c * 2 ^ 8 + code * 2 ^ 16
          a1 := pc % 2 ^ 25, a2 := word / 2 ^ 32 % 2 ^ 32, a3 := (uwrap w3 32).toNat } (haltCore c s)

/-! ### The core's own accesses to its scratchpad (R79, R278, R308) -/

/-- How an own read ends: the bytes, zeros after a fenced access, or an uncorrectable word. -/
inductive OwnRead where
  | ok (bs : List Byte)
  | fenced
  | bad
  deriving DecidableEq, Repr

/-- Is a 4 KiB region of core `c`'s scratchpad retained by another context while a job runs on it (R278), or withdrawn by a change of owner
(R277, R279)? -/
def fencedKey (s : State) (c key : Nat) : Bool :=
  let o := ownerOf s key
  (o ≠ 64 && o ≠ coreCtxN s c) || withdrawn s key

/-- The first fenced region that an access of `n` bytes at offset `off` touches: its first byte in the access. -/
def fencedAt (s : State) (c off n : Nat) : Option Nat :=
  if n = 0 then none
  else
    ((List.range ((off + n - 1) / 0x1000 + 1 - off / 0x1000)).find? fun i => fencedKey s c ((spBase c) / 0x1000 + off / 0x1000 + i)).map
      fun i => max off ((off / 0x1000 + i) * 0x1000)

/-- The BARK_DENY of a fenced access by the core itself: its sequencer, array or Twig unit. -/
def denyOwn (c off n : Nat) (wr : Bool) (data : Nat) (s : State) : State :=
  haltCore c (reportFail (coreOid c) (coreCtxN s c) wr ⟨0x3010, spBase c + off, min n 64, 0, 0x1005⟩ data s)

/-- The core reads `n` bytes at offset `off` of its scratchpad. -/
def ownRead (c off n : Nat) (s : State) : OwnRead × State :=
  match fencedAt s c off n with
  | some x => (.fenced, denyOwn c x (min (off + n - x) 64) false 0 s)
  | none =>
    match memRead (coreOid c) (spBase c + off) n s with
    | (some b, s) => (.ok b, s)
    | (none, s) => (.bad, haltCore c s)

/-- The core writes bytes at offset `off`: false when the region is fenced. -/
def ownWrite (c off : Nat) (bs : List Byte) (s : State) : Bool × State :=
  match fencedAt s c off bs.length with
  | some x => (false, denyOwn c x (min (off + bs.length - x) 64) true (leNat ((bs.drop (x - off)).take 4)) s)
  | none => (true, memWrite (coreOid c) (spBase c + off) bs s)

/-! ### The sequencer -/

/-- How the effect of a sequencer instruction ends. -/
inductive Done where
  /-- It completes, and the next word follows. -/
  | step (s : State)
  /-- It is a taken branch to a target, still to be checked. -/
  | jump (s : State) (t : Int)
  /-- It stays at decode. -/
  | hold (s : State)
  /-- It faults with a cause and the word 3 of the report. -/
  | fault (cause : Nat) (w3 : Int) (code : Nat)
  /-- The core stops without a program fault. -/
  | stop (s : State)
  /-- A fault after a state change of its own, such as the event of a refused ring access. -/
  | faultIn (s : State) (cause : Nat) (w3 : Int)

/-- Is `t` a legal pc (R104, FETCH_RANGE)? -/
def pcOk (t : Int) : Bool := 0 ≤ t && t % 8 = 0 && t < 0x1800000 - 7

/-- The loop stack and the pc after the instruction at `pc` completes (R110). -/
def loopEnd (pc : Nat) : List LoopEnt → List LoopEnt × Nat
  | [] => ([], pc + 8)
  | e :: r =>
    if e.stop = pc then
      if e.idx + 1 < e.count then ({ e with idx := e.idx + 1 } :: r, e.start) else loopEnd pc r
    else (e :: r, pc + 8)

/-- The instruction at the core's pc completes: the loop logic, then the next pc, which is checked (R104, R110). -/
def advance (c word : Nat) (s : State) : State :=
  let k := s.core c
  let r := loopEnd k.pc k.loops
  if pcOk r.2 then s.setCore c { k with loops := r.1, pc := r.2 }
  else progFault c 2 k.pc word r.2 0 (s.setCore c { k with loops := r.1 })

/-- Does the fetch buffer hold row `r` (R126)? -/
def Crown.holdsRow (k : Crown) (r : Nat) : Bool := k.fbuf.any fun e => e.1 = r

/-- Row `r` with its bytes enters the fetch buffer, which holds the last 8 rows (R91, R126). -/
def fetchRow (r : Nat) (bs : List Byte) (k : Crown) : Crown :=
  if k.holdsRow r then k else { k with fbuf := (k.fbuf ++ [(r, bs)]).drop (k.fbuf.length + 1 - 8) }

/-- The word at the pc as the fetch buffer holds it (R91, R97): 8 bytes, little-endian. -/
def bufferedWord (k : Crown) : Nat :=
  match k.fbuf.find? fun e => e.1 = k.pc / 64 with
  | some e => leNat ((e.2.drop (k.pc % 64)).take 8)
  | none => 0

/-- Finish a sequencer instruction. -/
def finish (c word : Nat) (s0 : State) (d : Done) : State :=
  match d with
  | .step s => advance c word s
  | .jump s t =>
    if pcOk t then s.setCore c { s.core c with pc := t.toNat } else progFault c 2 (s0.core c).pc word t 0 s0
  | .hold s => s
  | .fault cause w3 code => progFault c cause (s0.core c).pc word w3 code s0
  | .stop s => s
  | .faultIn s cause w3 => progFault c cause (s0.core c).pc word w3 0 s

/-- The fetch of the word at the pc: from the fetch buffer, or of its row of 64 bytes from the scratchpad (R91, R126). -/
def fetchWord (c : Nat) (s : State) : OwnRead × State :=
  if (s.core c).holdsRow ((s.core c).pc / 64) then (.ok [], s)
  else
    match ownRead c ((s.core c).pc / 64 * 64) 64 s with
    | (.ok b, s) => (.ok b, s.setCore c (fetchRow ((s.core c).pc / 64) b (s.core c)))
    | r => r

/-- Decode and execute the instruction at the pc of core `c` (R99, R100, R102, R103): `legal` is the word's legality beside the
predicate field, `rs` and `ps` the scalar and predicate registers it reads or writes. -/
def seqRun (c : Fin 6) (word : Nat) (pred : BitVec 3) (pn : Bool) (legal : Bool) (rs ps : List Nat) (body : State → Done)
    (s : State) : Ans :=
  let k := s.core c
  if !(coreRuns s c) || k.halted || k.ended || k.seqWait.isSome then .next s
  else
    match fetchWord c s with
    | (.fenced, s) => .next s
    | (.bad, s) => .next s
    | (.ok _, s) =>
      if !legal || (pred = 0 && pn) then .next (progFault c 1 k.pc word word 0 s)
      else if k.pendP.contains pred.toNat then .next s
      else if k.preg pred.toNat = pn then .next (advance c word s)
      else if rs.any (fun r => r ≠ 0 && k.pendS.contains r) || ps.any (fun p => p ≠ 0 && k.pendP.contains p) then .next s
      else .next (finish c word s (body s))

/-- Update core `c`'s storage and complete. -/
def doneCore (c : Nat) (f : Crown → Crown) (s : State) : Done := .step (s.setCore c (f (s.core c)))

/-- Write a result with its flags into scalar register `rd` and complete. -/
def doneS (c rd : Nat) (r : Res) (s : State) : Done :=
  .step ((orFlags c r.2 s).setCore c ((s.core c).setS rd r.1))

/-! ### The issue queues (R92, R102) -/

/-- Depth of a queue (R92). -/
def queueDepth (q : QName) : Nat := match q with | .dma => 16 | .array => 8 | .twig => 16 | .sync => 8

/-- The entries of a queue. -/
def Crown.queue (k : Crown) (q : QName) : List QEntry :=
  match q with | .dma => k.qDma | .array => k.qArray | .twig => k.qTwig | .sync => k.qSync

/-- Replace a queue. -/
def Crown.setQueue (k : Crown) (q : QName) (l : List QEntry) : Crown :=
  match q with
  | .dma => { k with qDma := l } | .array => { k with qArray := l } | .twig => { k with qTwig := l } | .sync => { k with qSync := l }

/-- The instructions of a queue's engines that have been taken and have not retired. -/
def Crown.flight (k : Crown) (q : QName) : List QEntry :=
  match q with | .dma => k.flDma | .array => k.flArray | .twig => k.flTwig | .sync => []

/-- Replace the instructions in flight. -/
def Crown.setFlight (k : Crown) (q : QName) (l : List QEntry) : Crown :=
  match q with
  | .dma => { k with flDma := l } | .array => { k with flArray := l } | .twig => { k with flTwig := l } | .sync => k

/-- Is the entry a ring signal placed in an engine's queue? -/
def QEntry.isSignal (e : QEntry) : Bool := match e.op with | .rsig .. => true | .rsigv .. => true | _ => false

/-- The increment of a signal entry. -/
def QEntry.inc (e : QEntry) : Nat := e.x.toNat

/-- Is the entry a wait on a ring? -/
def QEntry.isWait (e : QEntry) : Bool := match e.op with | .rwait .. => true | _ => false

/-- The ring that a form G names for core `c`, in the SIGTGT format (R114). -/
def ringOf (c : Nat) (f : FormG) : Nat :=
  if f.g then 6 * 1024 + f.ring.toNat else if f.core = 7 then c * 1024 + f.ring.toNat % 256 else f.core.toNat * 1024 + f.ring.toNat % 256

/-- The ring an entry names. -/
def QEntry.ring (c : Nat) (e : QEntry) : Nat :=
  match e.op with
  | .rsig _ f => ringOf c f | .rsigv _ f => ringOf c f | .rwait _ f => ringOf c f | .rsigd _ f => ringOf c f
  | _ => 0

/-- The leading signals of an engine's queue that nothing earlier holds: no unretired instruction is older (R115). -/
def readySignals (k : Crown) (q : QName) : List QEntry :=
  let rec go : List QEntry → List QEntry
    | [] => []
    | e :: r => if e.isSignal then (if (k.flight q).any (fun g => g.n < e.n) then [] else e :: go r) else []
  go (k.queue q)

/-- Signals of an engine's queue take effect when every earlier instruction of the queue has retired (R115). -/
def settle (c : Nat) (q : QName) (s : State) : State :=
  if q = .sync then s
  else
    let k := s.core c
    let l := readySignals k q
    if l = [] then s
    else l.foldl (fun s e => bumpRing (e.ring c) e.x.toNat s) (s.setCore c (k.setQueue q ((k.queue q).drop l.length)))

/-- Issue an entry into a queue; a full queue holds the sequencer (R92). -/
def issue (c : Nat) (q : QName) (e : QEntry) (s : State) : Done :=
  let k := s.core c
  if queueDepth q ≤ (k.queue q).length then .hold s
  else .step (settle c q (s.setCore c { k.setQueue q (k.queue q ++ [{ e with n := k.issued, pc := k.pc }]) with issued := k.issued + 1 }))

/-- The oldest entry of a queue that is not a signal, with the entries before it and after it. -/
def effHead (l : List QEntry) : Option (List QEntry × QEntry × List QEntry) :=
  match l.dropWhile QEntry.isSignal with
  | [] => none
  | e :: r => some (l.takeWhile QEntry.isSignal, e, r)

/-- May the engines of core `c` act? -/
def engineRuns (s : State) (c : Nat) : Bool := coreRuns s c && !(s.core c).halted

/-- A fault that a queued instruction meets when it executes (R103). -/
def queueFault (c : Nat) (e : QEntry) (cause : Nat) (w3 : Int) (s : State) : State :=
  progFault c cause e.pc e.word w3 0 s

end Sys2Proof.Machine
end

