-- ==== Sys2Proof/Machine/CrownArray.lean ====
section
/-! DEFINITION. The MAC array, class 0x6 (R72 to R76, R83 to R85, R132 to R136), and the packing of narrow formats (R45, R46). -/

namespace Sys2Proof.Machine

/-! ### Elements of packed rows -/

/-- The bits of element `i` of a row of elements of `w` bits (R10, R46). -/
def elemRaw (row : Array Byte) (w i : Nat) : Nat :=
  let b (k : Nat) : Nat := (row.getD k 0).toNat
  if w < 8 then slice (b (i * w / 8)) (i * w % 8 + w - 1) (i * w % 8)
  else leNat ((List.range (w / 8)).map fun k => row.getD (i * (w / 8) + k) 0)

/-- Is the format unsigned (R120)? -/
def fmtUnsigned (fmt : Nat) : Bool := fmt = 1 || fmt = 5

/-- The lane value of an element (R139): a scale word keeps bits 21 to 0. -/
def elemVal (fmt : Nat) (row : Array Byte) (i : Nat) : Int :=
  let raw := elemRaw row (fmtBits fmt) i
  if fmt = 8 then (raw % 2 ^ 22 : Nat) else if fmtUnsigned fmt then raw else sextN raw (fmtBits fmt)

/-- Pack `n` element values of `w` bits into bytes (R46). -/
def packRow (w n : Nat) (v : Nat → Int) : List Byte :=
  (List.range (n * w / 8)).map fun k =>
    if w < 8 then
      BitVec.ofNat 8 ((List.range (8 / w)).foldl (fun t j => t + (uwrap (v (k * (8 / w) + j)) w).toNat * 2 ^ (w * j)) 0)
    else BitVec.ofNat 8 ((uwrap (v (k * 8 / w)) w).toNat / 2 ^ (8 * (k % (w / 8))))

/-! ### The accumulator file -/

/-- Element `j` of accumulator entry `e`. -/
def Crown.accAt (k : Crown) (e j : Nat) : Int := (spGet 0 k.acc (512 * e + j) : BitVec 36).toInt

/-- The 512 elements of entry `e`. -/
def Crown.accRow (k : Crown) (e : Nat) : Array Int :=
  let l := k.acc.filter fun x => 512 * e ≤ x.1 && x.1 < 512 * e + 512
  ((List.range 512).map fun j => (spGet 0 l (512 * e + j) : BitVec 36).toInt).toArray

/-- Write the 512 elements of entry `e`. -/
def Crown.setAcc (k : Crown) (e : Nat) (v : Array Int) : Crown :=
  { k with acc := spRange 0 (512 * e) 512 (fun j => BitVec.ofInt 36 (v.getD j 0)) k.acc }

/-- Record a freeze in the region of entry `e` (R83). -/
def markFrozen (c e : Nat) (s : State) : State :=
  let x := F.CRN_ACCSTAT_FROZEN c
  orFlags c fAccf (s.put x (s.fld x ||| 2 ^ (e / 64)))

/-- Core `c` reads accumulator entry `e` (R79, R306): none after an uncorrectable word, which stops the core (R308). -/
def readAcc (c e : Nat) (s : State) : Option (Array Int) × State :=
  match scanWords (coreOid c) false (suspectWords s (accBase c + 2304 * e) 2304) s with
  | (true, s) => (some ((s.core c).accRow e), s)
  | (false, s) => (none, haltCore c s)

/-- Core `c` writes entry `e` whole, with its check bits. -/
def writeAcc (c e : Nat) (v : Array Int) (s : State) : State :=
  (s.setMs (cleanWords (accBase c + 2304 * e) 2304 s.memsys)).setCore c ((s.core c).setAcc e v)

/-- One row of partial sums reaches entry `e`: replaced, or added by `accadd` (R74, R84). -/
def accumulate (c e : Nat) (add : Bool) (p : Nat → Int) (s : State) : State :=
  match (if add then readAcc c e s else (some #[], s)) with
  | (none, s) => s
  | (some old, s) =>
    let res : Array Res := ((List.range 512).map fun j => if add then accadd (old.getD j 0) (p j) else (wrap (p j) 36, fNone)).toArray
    let s := writeAcc c e (res.map (·.1)) s
    if res.any (fun r => r.2 ≠ 0) then markFrozen c e s else s

/-! ### Shapes (R132) -/

/-- Rows of a weight tile. -/
def tileRows (mode : Nat) (grp : Bool) : Nat := if mode = 0 || grp then 128 else if mode = 1 then 256 else 512

/-- Bytes of one slice of an activation row. -/
def sliceBytes (mode : Nat) (grp : Bool) : Nat :=
  if mode = 0 then 128 else if mode = 1 then (if grp then 128 else 256) else if grp then 64 else 256

/-- The weight descriptor has exactly the format and row length of the mode. -/
def weightOk (t : Tile) (mode : Nat) : Bool :=
  if mode = 0 then t.fmt = 0 && t.len = 512 else (t.fmt = 2 && t.len = 256) || (t.fmt = 3 && t.len = 128)

/-- The activation descriptor has the format of the mode and 1 to 1,024 rows. -/
def actOk (t : Tile) (mode : Nat) : Bool := t.fmt = (if mode = 2 then 2 else 0) && t.rows ≤ 1024

/-! ### The array's own reads -/

/-- Read rows `from`.. of a tile into codes of a weight buffer, row by row in ascending order (R132): none when a read fails. -/
def loadCodes (c : Nat) (t : Tile) (first : Nat) : List Nat → Sparse (BitVec 8) → State → Option (Sparse (BitVec 8)) × State
  | [], codes, s => (some codes, s)
  | k :: ks, codes, s =>
    match ownRead c (t.row (first + k)) t.len s with
    | (.ok b, s) =>
      let row := b.toArray
      let l := (List.range 512).filterMap fun j =>
        let v := BitVec.ofInt 8 (elemVal t.fmt row j)
        if v = 0 then none else some (512 * k + j, v)
      loadCodes c t first ks (codes ++ l) s
    | (_, s) => (none, s)

/-- The exact partial sum of column `j` for activation codes `a` (R72). -/
def psum (w : Sparse (BitVec 8)) (a : Array Int) (j : Nat) : Int :=
  w.foldl (fun t e => if e.1 % 512 = j then t + e.2.toInt * a.getD (e.1 / 512) 0 else t) 0

/-- The mode and group form with which a tile was loaded match: W8A8 has one form whatever GRP (R132); an empty buffer holds zeros in every
mode. -/
def tileKnown (w : WTile) (mode : Nat) (grp : Bool) : Bool := w.codes = [] || (w.mode = mode && (mode = 0 || w.grp = grp))

/-- A partial sum of a mode has at most this many bits (R72): its magnitude is at most 2^21, 2^18 or 2^15. -/
def psumBits (mode : Nat) : Nat := if mode = 0 then 22 else if mode = 1 then 19 else 16

/-- The partial sum of column `j` when the active tile was loaded for another mode: the spec does not state it; it is free, the same for the same
tile, activations and form (R4, R72, log entry 14). -/
def mixedSum (w : WTile) (mode : Nat) (grp : Bool) (a : Array Int) (j : Nat) : Int :=
  sextN (Config.mixedSum (w.mode, w.grp, w.codes.map fun e => (e.1, e.2.toNat)) (mode, grp) a.toList j) (psumBits mode)

/-- Stream slice `u` of every row through the active tile into entries from `e0` (R74, R133). -/
def streamRows (c : Nat) (t : Tile) (mode : Nat) (grp add : Bool) (e0 u : Nat) : List Nat → State → State
  | [], s => s
  | i :: is, s =>
    match ownRead c (t.row i + u * sliceBytes mode grp) (sliceBytes mode grp) s with
    | (.ok b, s) =>
      let row := b.toArray
      let a := ((List.range (tileRows mode grp)).map fun k => elemVal t.fmt row k).toArray
      let w := (s.core c).active
      let p := if tileKnown w mode grp then psum w.codes a else mixedSum w mode grp a
      let s := accumulate c (e0 + i) add p (s.inc64 (Reg.CRN_ARRBUSY_LO c))
      if (s.core c).halted then s else streamRows c t mode grp add e0 u is s
    | (_, s) => s

/-- A swap (R135): none while the load is under way, otherwise the state after the swap or the fault. -/
def swapTile (c : Nat) (e : QEntry) (mode : Nat) (grp : Bool) (s : State) : Option (Bool × State) :=
  let k := s.core c
  let w3 := mode + ofBool grp * 4
  match k.shadowSt with
  | .loading => none
  | .empty => some (false, queueFault c e 0x12 (w3 + 8 : Nat) s)
  | .ready =>
    if k.shadow.mode = mode && k.shadow.grp = grp then
      some (true, s.setCore c { k with active := k.shadow, shadow := k.active, shadowSt := .empty })
    else some (false, queueFault c e 0x12 w3 s)

/-- The tiles of an AMMC after the first: load tile `u` and stream slice `u` (R75, R133). -/
def chainTiles (c : Nat) (ta tb : Tile) (mode : Nat) (grp : Bool) (e0 : Nat) : List Nat → State → State
  | [], s => s
  | u :: us, s =>
    if (s.core c).halted then s
    else
      match loadCodes c tb (u * tileRows mode grp) (List.range (tileRows mode grp)) [] s with
      | (none, s) => s
      | (some codes, s) =>
        let s := s.setCore c { s.core c with active := ⟨mode, grp, codes⟩ }
        let s := streamRows c ta mode grp true e0 u (List.range ta.rows) s
        chainTiles c ta tb mode grp e0 us s

/-- Is the entry an AWLD? -/
def QEntry.isLoad (e : QEntry) : Bool := match e.op with | .awld .. => true | _ => false

/-- A dispatched streaming instruction whose swap still waits for the load of its tile (R134, R135). -/
def waitingStream (k : Crown) : Option QEntry := k.flArray.find? fun e => !e.isLoad && !e.seen

/-- A dispatched streaming instruction has been granted its last row. -/
def streamed (c : Nat) (e : QEntry) (s : State) : State :=
  let k := s.core c
  s.setCore c { k with flArray := k.flArray.map fun x => if x.n = e.n then { x with seen := true } else x }

/-- A dispatched streaming instruction runs from its swap on; while the shadow buffer is LOADING it waits there (R133 to R135). -/
def runStream (c : Nat) (e : QEntry) (s : State) : State :=
  match e.op with
  | .amm _ f =>
    let mode := f.mode.toNat
    let go (s : State) : State := streamRows c e.t0 mode f.grp f.acc e.x.toNat 0 (List.range (Tile.rows e.t0)) (streamed c e s)
    if f.swp then
      match swapTile c e mode f.grp s with
      | none => s
      | some (true, s) => go s
      | some (false, s) => s
    else go s
  | .ammc _ f =>
    let mode := f.mode.toNat
    match swapTile c e mode f.grp s with
    | none => s
    | some (false, s) => s
    | some (true, s) =>
      let s := streamRows c e.t0 mode f.grp f.acc e.x.toNat 0 (List.range (Tile.rows e.t0)) (streamed c e s)
      chainTiles c e.t0 e.t1 mode f.grp e.x.toNat ((List.range (Tile.rows e.t1 / tileRows mode f.grp)).drop 1) s
  | _ => s

/-! ### The instructions -/

/-- AWLD (R133). -/
def execAwld (core : Fin 6) (f : FormX) (s : State) : Ans :=
  seqRun core (wordX 0 f) f.pred f.pn (f.mode ≠ 3 && f.resv = 0 && f.ra = 0 && !f.acc && !f.swp && f.tb = 0) [] []
    (fun s =>
      let t := (s.core core).treg f.ta.toNat
      if !(weightOk t f.mode.toNat) || t.rows ≠ tileRows f.mode.toNat f.grp then .fault 0x10 f.ta.toNat 0
      else issue core .array { op := .awld core f, pc := 0, word := wordX 0 f, t0 := t } s) s

/-- The check of E0 (R133). -/
def accRangeOk (e0 : Int) (m : Nat) : Bool := 0 ≤ e0 && e0 + m ≤ 1024

/-- AMM (R133). -/
def execAmm (core : Fin 6) (f : FormX) (s : State) : Ans :=
  seqRun core (wordX 1 f) f.pred f.pn (f.mode ≠ 3 && f.resv = 0 && f.tb = 0) [f.ra.toNat] []
    (fun s =>
      let k := s.core core
      let t := k.treg f.ta.toNat
      let e0 := k.sreg f.ra.toNat
      if !(actOk t f.mode.toNat) || t.len < sliceBytes f.mode.toNat f.grp then .fault 0x10 f.ta.toNat 0
      else if !(accRangeOk e0 t.rows) then .fault 0x11 e0 0
      else issue core .array { op := .amm core f, pc := 0, word := wordX 1 f, x := e0, t0 := t } s) s

/-- AMMC (R133). -/
def execAmmc (core : Fin 6) (f : FormX) (s : State) : Ans :=
  seqRun core (wordX 2 f) f.pred f.pn (f.mode ≠ 3 && f.resv = 0 && !f.swp) [f.ra.toNat] []
    (fun s =>
      let k := s.core core
      let ta := k.treg f.ta.toNat
      let tb := k.treg f.tb.toNat
      let e0 := k.sreg f.ra.toNat
      let kt := tileRows f.mode.toNat f.grp
      let n := tb.rows / kt
      if !(actOk ta f.mode.toNat) then .fault 0x10 f.ta.toNat 0
      else if !(weightOk tb f.mode.toNat) || tb.rows % kt ≠ 0 || 64 < n then .fault 0x10 f.tb.toNat 0
      else if ta.len < n * sliceBytes f.mode.toNat f.grp then .fault 0x10 f.ta.toNat 0
      else if !(accRangeOk e0 ta.rows) then .fault 0x11 e0 0
      else issue core .array { op := .ammc core f, pc := 0, word := wordX 2 f, x := e0, t0 := ta, t1 := tb } s) s

end Sys2Proof.Machine
end

