-- ==== Sys2Proof/Machine/Burl.lean ====
section
/-! DEFINITION. Burl blocks (R225 to R231) and CRC-32C. -/

namespace Sys2Proof.Machine

/-- One bit of a reflected CRC with polynomial `poly`. -/
def crcBit (poly x : Nat) : Nat := if x % 2 = 1 then (x / 2) ^^^ poly else x / 2

/-- One byte of a reflected CRC. -/
def crcByte (poly x : Nat) (b : Byte) : Nat := (List.range 8).foldl (fun x _ => crcBit poly x) (x ^^^ b.toNat)

/-- CRC-32C (R227): Castagnoli, reflected, initial value and final XOR all ones. -/
def crc32c (bs : List Byte) : Nat := (bs.foldl (crcByte 0x82F63B78) 0xFFFFFFFF) ^^^ 0xFFFFFFFF

/-- The INT8 value of a byte. -/
def s8 (b : Byte) : Int := b.toInt

/-- Bytes of INT8 values. -/
def bytesOf8 (l : List Int) : List Byte := l.map (BitVec.ofInt 8)

/-- The reconstructed values of a block of residual width `b` (R227). -/
def burlLevels (blk b : Nat) : List Int :=
  let base := sextN (slice blk 7 0) 8
  let sh := slice blk 11 8
  let oi := slice blk 37 32
  let ov := sextN (slice blk 45 38) 8
  let h : Int := if sh = 0 then 0 else (2 ^ (sh - 1) : Nat)
  (List.range 64).map fun k =>
    if k = oi then ov
    else min (base + ((slice blk (64 + b * k + b - 1) (64 + b * k) : Nat) : Int) * (2 ^ sh : Nat) + h) 127

/-- Decode a block: none when it fails its check (R227, R231). -/
def burlDecode (blk b : Nat) : Option (List Byte) :=
  let ok := slice blk 63 46 = 0 && slice blk 11 8 ≤ 8 - b && slice blk 15 12 = (if b = 3 then 1 else 2)
  let y := bytesOf8 (burlLevels blk b)
  if ok && crc32c y % 2 ^ 16 = slice blk 31 16 then some y else none

/-- Lowest index of the greatest value. -/
def argGreatest (x : List Int) : Nat :=
  let m := x.foldl max (-128)
  (x.findIdx? (· = m)).getD 0

/-- Lowest index of the least value. -/
def argLeast (x : List Int) : Nat :=
  let m := x.foldl min 127
  (x.findIdx? (· = m)).getD 0

/-- Least and greatest value of the elements but one. -/
def boundsBut (x : List Int) (i : Nat) : Int × Int :=
  let l := x.take i ++ x.drop (i + 1)
  (l.foldl min 127, l.foldl max (-128))

/-- Encode 64 values with residual width `b` (R228). -/
def burlEncode (x : List Int) (b : Nat) : Nat :=
  let imax := argGreatest x
  let imin := argLeast x
  let span (i : Nat) : Int := (boundsBut x i).2 - (boundsBut x i).1
  let oi := if span imax < span imin then imax else if span imax = span imin && imax < imin then imax else imin
  let base := (boundsBut x oi).1
  let d := span oi
  let sh := ((List.range 9).find? fun s => d < (2 ^ (b + s) : Nat)).getD 8
  let res := (List.range 64).foldl (fun t k =>
    if k = oi then t else t + (((x.getD k 0 - base) / (2 ^ sh : Nat)).toNat) * 2 ^ (64 + b * k)) 0
  let blk := (uwrap base 8).toNat + sh * 2 ^ 8 + (if b = 3 then 1 else 2) * 2 ^ 12 + oi * 2 ^ 32
    + (uwrap (x.getD oi 0) 8).toNat * 2 ^ 38 + res
  blk + (crc32c (bytesOf8 (burlLevels blk b)) % 2 ^ 16) * 2 ^ 16

/-- Block bytes of a BURL field: 32 for 2:1, 16 for 4:1 (R225). -/
def burlBytes (burl : BitVec 2) : Nat := if burl = 1 then 32 else 16
/-- Residual width of a BURL field. -/
def burlWidth (burl : BitVec 2) : Nat := if burl = 1 then 3 else 1

/-- Remote bytes of a row of `r` scratchpad bytes (R149). -/
def remoteLen (burl : BitVec 2) (r : Nat) : Nat := if burl = 0 then r else if burl = 1 then r / 2 else r / 4

/-- Compress a row of whole 64-byte scratchpad rows. -/
def burlRow (burl : BitVec 2) (bs : List Byte) : List Byte :=
  (List.range (bs.length / 64)).flatMap fun k =>
    leBytes (burlBytes burl) (burlEncode (((bs.drop (64 * k)).take 64).map s8) (burlWidth burl))

/-- Decompress `n` consecutive blocks: the decoded bytes up to the first failing block, and its number. -/
def unburl (burl : BitVec 2) (bs : List Byte) (n : Nat) : List Byte × Option Nat :=
  let blocks := (List.range n).map fun k =>
    burlDecode (leNat ((bs.drop (burlBytes burl * k)).take (burlBytes burl))) (burlWidth burl)
  let good := blocks.takeWhile Option.isSome
  (good.flatMap fun o => o.getD [], if good.length < n then some good.length else none)

end Sys2Proof.Machine
end

