-- ==== Sys2Proof/Machine/CrownDma.lean ====
section
/-! DEFINITION. The DMA engines of a Crown core, class 0x5 (R89, R90, R149 to R152). -/

namespace Sys2Proof.Machine

/-- A network read of a DMA engine: the bytes, or the address of the transaction that failed (R28, R152). -/
def dmaRead (c a n : Nat) (s : State) : (Nat ⊕ List Byte) × State := netRead (coreOid c) (coreCtxN s c) a n s

/-- A network write of a DMA engine: none, or the address of the transaction that failed. -/
def dmaWrite (c a : Nat) (bs : List Byte) (s : State) : Option Nat × State := netWrite (coreOid c) (coreCtxN s c) a bs s

/-- Read the core's own scratchpad for a transfer; a fenced region gives the error response (R278). -/
def dmaOwnRead (c off n : Nat) (s : State) : (Nat ⊕ List Byte) × State :=
  match fencedAt s c off n with
  | some x =>
    (.inl (spBase c + x), reportFail (coreOid c) (coreCtxN s c) false ⟨0x3010, spBase c + x, min (off + n - x) 64, 0, 0x1005⟩ 0 s)
  | none =>
    match memRead (coreOid c) (spBase c + off) n s with
    | (some b, s) => (.inr b, s)
    | (none, s) => (.inl (spBase c + off), s)

/-- Write the core's own scratchpad for a transfer. -/
def dmaOwnWrite (c off : Nat) (bs : List Byte) (s : State) : Option Nat × State :=
  match fencedAt s c off bs.length with
  | some x =>
    (some (spBase c + x), reportFail (coreOid c) (coreCtxN s c) true
      ⟨0x3010, spBase c + x, min (off + bs.length - x) 64, 0, 0x1005⟩ (leNat ((bs.drop (x - off)).take 4)) s)
  | none => (none, memWrite (coreOid c) (spBase c + off) bs s)

/-- How one row ends: moved, or the fault's cause and word 3. -/
abbrev RowEnd := Option (Nat × Nat) × State

/-- DMA_ERROR after a failed transaction at an address. -/
def dmaErr (a : Nat) (s : State) : RowEnd := (some (0x14, a), s)

/-- One row into the scratchpad from a remote address (R149, R152, R231). -/
def rowIn (c : Nat) (f : FormD) (t : Tile) (i a : Nat) (s : State) : RowEnd :=
  match dmaRead c a (remoteLen f.burl t.len) s with
  | (.inl x, s) => dmaErr x s
  | (.inr bs, s) =>
    if f.burl = 0 then
      match dmaOwnWrite c (t.row i) bs s with
      | (some x, s) => dmaErr x s
      | (none, s) => (none, s)
    else
      let u := unburl f.burl bs (t.len / 64)
      match dmaOwnWrite c (t.row i) u.1 s with
      | (some x, s) => dmaErr x s
      | (none, s) =>
        match u.2 with
        | some k => (some (0x16, a + k * burlBytes f.burl), s)
        | none => (none, s)

/-- One row out of the scratchpad to a remote address. -/
def rowOut (c : Nat) (f : FormD) (t : Tile) (i a : Nat) (s : State) : RowEnd :=
  match dmaOwnRead c (t.row i) t.len s with
  | (.inl x, s) => dmaErr x s
  | (.inr bs, s) =>
    match dmaWrite c a (if f.burl = 0 then bs else burlRow f.burl bs) s with
    | (some x, s) => dmaErr x s
    | (none, s) => (none, s)

/-- Does the table entry keep R151? `prev` is the least address DSCT allows. -/
def entryOk (f : FormD) (scatter : Bool) (lr v prev : Nat) : Bool :=
  let a := slice v 47 0
  let arv := v.testBit 48
  slice v 63 57 = 0 && a + lr ≤ 2 ^ 48 && (f.burl = 0 || a % burlBytes f.burl = 0)
    && (if scatter then prev ≤ a && (!arv || (match place a, place (a + lr - 1) with
          | some (.scratch k _), some (.scratch k' _) => k = k'
          | _, _ => false))
        else !arv)

/-- The core whose scratchpad holds an address. -/
def scratchCore (a : Nat) : Nat := (a - 0x2000000000) / 0x2000000

/-- One row of a gather or scatter: the entry, its checks, the row, and the arrival signal on its way (R151, R289). -/
def rowTable (c : Nat) (e : QEntry) (f : FormD) (scatter : Bool) (t : Tile) (i prev : Nat) (s : State) : RowEnd × Nat :=
  let lr := remoteLen f.burl t.len
  match dmaOwnRead c (e.x.toNat + 8 * i) 8 s with
  | (.inl x, s) => (dmaErr x s, prev)
  | (.inr bs, s) =>
    let v := leNat bs
    let a := slice v 47 0
    if !(entryOk f scatter lr v prev) then ((some (0x15, i), s), prev)
    else if scatter then
      match rowOut c f t i a s with
      | (none, s) =>
        let s := if v.testBit 48 then
            { s with owed := s.owed ++ [⟨scratchCore a * 1024 + slice v 56 49, coreCtxN s c, coreOid c, 1, false, e.n⟩] }
          else s
        ((none, s), a + lr)
      | r => (r, prev)
    else (rowIn c f t i a s, prev)

/-- One row of an accumulator load (R85). -/
def rowAcl (c : Nat) (t : Tile) (i ent : Nat) (s : State) : RowEnd :=
  match dmaOwnRead c (t.row i) 4096 s with
  | (.inl x, s) => dmaErr x s
  | (.inr bs, s) =>
    let row := bs.toArray
    let r : Array Res := ((List.range 512).map fun j => sat (sextN (elemRaw row 64 j) 64) 36).toArray
    let s := orFlags c (r.foldl (fun x y => x ||| y.2) fNone) s
    (none, writeAcc c ent (r.map (·.1)) s)

/-- One row of an accumulator store (R85); an entry with an uncorrectable word stops it (R152, R308), and the file having no address, the report names the
entry's offset in it (log entry 99). -/
def rowAcs (c : Nat) (t : Tile) (i ent : Nat) (s : State) : RowEnd :=
  match scanWords (coreOid c) false (suspectWords s (accBase c + 2304 * ent) 2304) s with
  | (false, s) => dmaErr (2304 * ent) s
  | (true, s) =>
  let a := (s.core c).accRow ent
  match dmaOwnWrite c (t.row i) (packRow 64 512 fun j => a.getD j 0) s with
  | (some x, s) => dmaErr x s
  | (none, s) => (none, s)

/-- The rows of a transfer in ascending order, until one fails (R152); `prev` is the running bound of DSCT. -/
def dmaRows (c : Nat) (e : QEntry) : List Nat → Nat → State → State
  | [], _, s => s
  | i :: is, prev, s =>
    let t : Tile := e.t0
    let r : RowEnd × Nat :=
      match e.op with
      | .dld _ f => (rowIn c f t i (e.x.toNat + i * e.y.toNat) s, 0)
      | .dst _ f => (rowOut c f t i (e.x.toNat + i * e.y.toNat) s, 0)
      | .dgth _ f => rowTable c e f false t i prev s
      | .dsct _ f => rowTable c e f true t i prev s
      | .dacl _ _ => (rowAcl c t i (e.x.toNat + i) s, 0)
      | .dacs _ _ => (rowAcs c t i (e.x.toNat + i) s, 0)
      | .dzro _ _ => (match dmaOwnWrite c (t.row i) (List.replicate t.len 0) s with
          | (some x, s) => dmaErr x s
          | (none, s) => (none, s), 0)
      | _ => ((none, s), 0)
    match r with
    | ((some (cause, w3), s), _) => queueFault c e cause w3 s
    | ((none, s), p) => dmaRows c e is p s

/-- Does the entry name engine `eng`? -/
def dmaEngine (e : QEntry) : Option Bool :=
  match e.op with
  | .dld _ f => some f.eng | .dst _ f => some f.eng | .dgth _ f => some f.eng | .dsct _ f => some f.eng
  | .dacl _ f => some f.eng | .dacs _ f => some f.eng | .dzro _ f => some f.eng
  | _ => none

/-- The ring a DMA instruction signals when it retires (R149). -/
def dmaSignal (e : QEntry) : Option Nat :=
  let g (f : FormD) : Option Nat := if f.sig then some f.ring.toNat else none
  match e.op with
  | .dld _ f => g f | .dst _ f => g f | .dgth _ f => g f | .dsct _ f => g f | .dacl _ f => g f | .dacs _ f => g f | .dzro _ f => g f
  | _ => none

/-! ### The instructions -/

/-- Decode a class 0x5 instruction: `check` sees A, P and the tile. -/
def runD (c : Fin 6) (op : Nat) (f : FormD) (ok : Bool) (i : Instr) (check : Int → Int → Tile → Option (Nat × Int)) (s : State) : Ans :=
  seqRun c (wordD op f) f.pred f.pn (f.resv = 0 && f.burl ≠ 3 && ok) [f.ra.toNat, f.rb.toNat] []
    (fun s =>
      let k := s.core c
      let a := k.sreg f.ra.toNat
      let p := k.sreg f.rb.toNat
      let t := k.treg f.td.toNat
      match check a p t with
      | some (cause, w3) => .fault cause w3 0
      | none => issue c .dma { op := i, pc := 0, word := wordD op f, x := a, y := p, t0 := t } s) s

/-- A compressed transfer needs INT8 rows (R149). -/
def burlShape (f : FormD) (t : Tile) : Bool := f.burl = 0 || t.fmt = 0

/-- The checks of DLD and DST (R149, R150). -/
def linearCheck (f : FormD) (a p : Int) (t : Tile) : Option (Nat × Int) :=
  if !(burlShape f t) then some (0x10, (f.td.toNat : Int))
  else if a < 0 then some (0x17, a)
  else if p < 0 then some (0x17, p)
  else if a + ((t.rows : Int) - 1) * p + remoteLen f.burl t.len > 2 ^ 48 then some (0x17, a)
  else if f.burl ≠ 0 && a % burlBytes f.burl ≠ 0 then some (0x17, a)
  else if f.burl ≠ 0 && p % burlBytes f.burl ≠ 0 then some (0x17, p)
  else none

/-- The checks of DGTH and DSCT (R149, R150). -/
def tableAddrCheck (f : FormD) (a _p : Int) (t : Tile) : Option (Nat × Int) :=
  if !(burlShape f t) then some (0x10, (f.td.toNat : Int))
  else if a < 0 || a % 8 ≠ 0 || a + 8 * t.rows > 0x1800000 then some (0x17, a)
  else none

/-- The checks of DACL and DACS (R149). -/
def accImageCheck (f : FormD) (a _p : Int) (t : Tile) : Option (Nat × Int) :=
  if t.fmt ≠ 7 || t.len < 4096 then some (0x10, (f.td.toNat : Int))
  else if !(accRangeOk a t.rows) then some (0x11, a)
  else none

/-- DLD (R149). -/
def execDld (core : Fin 6) (f : FormD) (s : State) : Ans := runD core 0 f true (.dld core f) (linearCheck f) s
/-- DST (R149). -/
def execDst (core : Fin 6) (f : FormD) (s : State) : Ans := runD core 1 f true (.dst core f) (linearCheck f) s
/-- DGTH (R149, R151). -/
def execDgth (core : Fin 6) (f : FormD) (s : State) : Ans := runD core 2 f (f.rb = 0) (.dgth core f) (tableAddrCheck f) s
/-- DSCT (R149, R151). -/
def execDsct (core : Fin 6) (f : FormD) (s : State) : Ans := runD core 3 f (f.rb = 0) (.dsct core f) (tableAddrCheck f) s
/-- DACL (R149, R85). -/
def execDacl (core : Fin 6) (f : FormD) (s : State) : Ans :=
  runD core 4 f (f.rb = 0 && f.burl = 0) (.dacl core f) (accImageCheck f) s
/-- DACS (R149, R85). -/
def execDacs (core : Fin 6) (f : FormD) (s : State) : Ans :=
  runD core 5 f (f.rb = 0 && f.burl = 0) (.dacs core f) (accImageCheck f) s
/-- DZRO (R149). -/
def execDzro (core : Fin 6) (f : FormD) (s : State) : Ans :=
  runD core 6 f (f.ra = 0 && f.rb = 0 && f.burl = 0) (.dzro core f) (fun _ _ _ => none) s

end Sys2Proof.Machine
end

