-- ==== Sys2Proof/Machine/CrownControl.lean ====
section
/-! DEFINITION. Treik classes 0x2, 0x3, 0x4, 0xB and 0xF: branch and control (R108 to R111), scalar load and store (R112), rings
(R114 to R119), tile descriptors (R122) and system (R123 to R125). -/

namespace Sys2Proof.Machine

/-! ### Branch and control, class 0x2 -/

/-- A class 0x2 instruction; `ok` is the legality of its fields, `rs` the registers it uses. -/
def runCtl (c : Fin 6) (op : Nat) (f : FormI) (ok : Bool) (body : State → Done) (s : State) : Ans :=
  seqRun c (wordI 2 op f.fn.toNat f) f.pred f.pn ok [f.rd.toNat, f.ra.toNat] [] body s

/-- BR (R108). -/
def execBr (core : Fin 6) (f : FormI) (s : State) : Ans :=
  runCtl core 0 f (f.rd = 0 && f.ra = 0 && f.fn = 0) (fun s => .jump s ((s.core core).pc + 8 * f.imm.toInt)) s

/-- BRR (R108). -/
def execBrr (core : Fin 6) (f : FormI) (s : State) : Ans :=
  runCtl core 1 f (f.rd = 0 && f.fn = 0) (fun s => .jump s ((s.core core).sreg f.ra.toNat + f.imm.toInt)) s

/-- Write the link register and jump (R108). -/
def callTo (c rd : Nat) (t : Int) (s : State) : Done :=
  .jump (s.setCore c ((s.core c).setS rd ((s.core c).pc + 8))) t

/-- CALL (R108). -/
def execCall (core : Fin 6) (f : FormI) (s : State) : Ans :=
  runCtl core 2 f (f.ra = 0 && f.fn = 0) (fun s => callTo core f.rd.toNat ((s.core core).pc + 8 * f.imm.toInt) s) s

/-- CALLR (R108). -/
def execCallr (core : Fin 6) (f : FormI) (s : State) : Ans :=
  runCtl core 3 f (f.fn = 0) (fun s => callTo core f.rd.toNat ((s.core core).sreg f.ra.toNat + f.imm.toInt) s) s

/-- Enter a counted loop (R109). A count that saturates below 0 sets SAT (R48, R54) and skips the body; one that saturates above is a fault. -/
def enterLoop (c : Nat) (f : FormI) (s : State) : Done :=
  let k := s.core c
  let r := sat (k.sreg f.ra.toNat + f.imm.toInt) 64
  let count := r.1
  let stop := k.pc + 8 * f.fn.toNat
  if count ≤ 0 then .jump (orFlags c r.2 s) (stop + 8 : Nat)
  else if count > 4294967295 then .fault 6 count 0
  else if 4 ≤ k.loops.length then .fault 6 count 0
  else if (k.loops.head?.map fun e => decide (e.stop < stop)).getD false then .fault 6 count 0
  else .step (s.setCore c { k with loops := ⟨k.pc + 8, stop, count.toNat, 0⟩ :: k.loops })

/-- LOOP (R109, R110). -/
def execLoop (core : Fin 6) (f : FormI) (s : State) : Ans :=
  runCtl core 4 f (f.rd = 0 && f.fn ≠ 0) (enterLoop core f) s

/-- LBRK (R108, R110). -/
def execLbrk (core : Fin 6) (f : FormI) (s : State) : Ans :=
  runCtl core 5 f (f.rd = 0 && f.ra = 0 && f.imm = 0 && 1 ≤ f.fn.toNat && f.fn.toNat ≤ 4)
    (fun s =>
      let k := s.core core
      if k.loops.length < f.fn.toNat then .fault 6 f.fn.toNat 0
      else .step (s.setCore core { k with loops := k.loops.drop f.fn.toNat })) s

/-- LIDX (R108, R110). -/
def execLidx (core : Fin 6) (f : FormI) (s : State) : Ans :=
  runCtl core 6 f (f.ra = 0 && f.imm = 0 && f.fn.toNat < 4)
    (fun s =>
      let k := s.core core
      match k.loops[f.fn.toNat]? with
      | none => .fault 6 f.fn.toNat 0
      | some e => .step (s.setCore core (k.setS f.rd.toNat e.idx))) s

/-- END (R111): the sequencer stops fetching; JOB_END_REPORT follows when the queues have drained. -/
def execEnd (core : Fin 6) (f : FormI) (s : State) : Ans :=
  runCtl core 7 f (f.rd = 0 && f.ra = 0 && f.fn = 0 && f.imm = 0)
    (fun s => .stop (s.setCore core { s.core core with ended := true })) s

/-- FAULT (R108). -/
def execFault (core : Fin 6) (f : FormI) (s : State) : Ans :=
  runCtl core 8 f (f.rd = 0 && f.ra = 0 && f.fn = 0 && f.imm.toNat < 65536)
    (fun _ => .fault 9 (wordI 2 8 f.fn.toNat f % 2 ^ 32 : Nat) f.imm.toNat) s

/-- NOP (R108). -/
def execNop (core : Fin 6) (f : FormI) (s : State) : Ans :=
  runCtl core 9 f (f.rd = 0 && f.ra = 0 && f.fn = 0 && f.imm = 0) (fun s => .step s) s

/-! ### Scalar load and store, class 0x3 -/

/-- Check the address of a scalar or descriptor access: LS_RANGE first, then LS_ALIGN (R112). -/
def lsCheck (addr : Int) (size : Nat) : Option Nat :=
  if addr < 0 || addr + size > 0x1800000 then some 3 else if addr % size ≠ 0 then some 4 else none

/-- Load `n` bytes and hand them to `g`; after a fenced read the core has read zeros and stops (R278). -/
def loadOwn (c : Nat) (addr : Int) (n : Nat) (g : List Byte → State → Done) (s : State) : Done :=
  match lsCheck addr n with
  | some cause => .fault cause addr 0
  | none =>
    match ownRead c addr.toNat n s with
    | (.ok b, s) => g b s
    | (.fenced, s) => match g (List.replicate n 0) s with
      | .step s => .stop s
      | d => d
    | (.bad, s) => .stop s

/-- Store bytes; a fenced store is dropped and the core stops (R278). -/
def storeOwn (c : Nat) (addr : Int) (bs : List Byte) (s : State) : Done :=
  match lsCheck addr bs.length with
  | some cause => .fault cause addr 0
  | none =>
    match ownWrite c addr.toNat bs s with
    | (true, s) => .step s
    | (false, s) => .stop s

/-- A scalar load of `n` bytes, signed or not (R112). -/
def runLoad (c : Fin 6) (op n : Nat) (signed : Bool) (f : FormI) (s : State) : Ans :=
  seqRun c (wordI 3 op f.fn.toNat f) f.pred f.pn (f.fn = 0) [f.rd.toNat, f.ra.toNat] []
    (fun s => loadOwn c ((s.core c).sreg f.ra.toNat + f.imm.toInt) n
      (fun b s => .step (s.setCore c ((s.core c).setS f.rd.toNat (if signed then sextN (leNat b) (8 * n) else leNat b)))) s) s

/-- A scalar store of `n` bytes (R112). -/
def runStore (c : Fin 6) (op n : Nat) (f : FormI) (s : State) : Ans :=
  seqRun c (wordI 3 op f.fn.toNat f) f.pred f.pn (f.fn = 0) [f.rd.toNat, f.ra.toNat] []
    (fun s => storeOwn c ((s.core c).sreg f.ra.toNat + f.imm.toInt)
      (leBytes n (uwrap ((s.core c).sreg f.rd.toNat) (8 * n)).toNat) s) s

/-- LDB (R112). -/
def execLdb (core : Fin 6) (f : FormI) (s : State) : Ans := runLoad core 0 1 true f s
/-- LDBU (R112). -/
def execLdbu (core : Fin 6) (f : FormI) (s : State) : Ans := runLoad core 1 1 false f s
/-- LDH (R112). -/
def execLdh (core : Fin 6) (f : FormI) (s : State) : Ans := runLoad core 2 2 true f s
/-- LDHU (R112). -/
def execLdhu (core : Fin 6) (f : FormI) (s : State) : Ans := runLoad core 3 2 false f s
/-- LDW (R112). -/
def execLdw (core : Fin 6) (f : FormI) (s : State) : Ans := runLoad core 4 4 true f s
/-- LDWU (R112). -/
def execLdwu (core : Fin 6) (f : FormI) (s : State) : Ans := runLoad core 5 4 false f s
/-- LDD (R112). -/
def execLdd (core : Fin 6) (f : FormI) (s : State) : Ans := runLoad core 6 8 true f s
/-- STB (R112). -/
def execStb (core : Fin 6) (f : FormI) (s : State) : Ans := runStore core 8 1 f s
/-- STH (R112). -/
def execSth (core : Fin 6) (f : FormI) (s : State) : Ans := runStore core 9 2 f s
/-- STW (R112). -/
def execStw (core : Fin 6) (f : FormI) (s : State) : Ans := runStore core 0xA 4 f s
/-- STD (R112). -/
def execStd (core : Fin 6) (f : FormI) (s : State) : Ans := runStore core 0xB 8 f s

/-! ### Rings, class 0x4 -/

/-- Is the ring of an instruction other than RSIGD legal on core `c` (R114)? `other` allows another core's ring. -/
def ringLegal (c : Nat) (f : FormG) (other : Bool) : Bool :=
  if f.g then f.core = 0
  else f.ring.toNat < 256 && (f.core = 7 || (other && f.core.toNat < 6 && f.core.toNat ≠ c))

/-- Is the ring of an RSIGD legal (R114)? -/
def ringLegalD (f : FormG) : Bool := if f.g then f.core = 0 else f.ring.toNat < 256 && f.core.toNat < 6

/-- The queue of field Q (R115). -/
def queueOf (q : BitVec 2) : QName := if q = 0 then .sync else if q = 1 then .dma else if q = 2 then .array else .twig

/-- A signal must travel through SYNC unless it names the core's own ring (R115). -/
def signalPlaceOk (f : FormG) : Bool := f.q = 0 || (!f.g && f.core = 7)

/-- The target of a wait or test (R116). -/
def ringTarget (x : Int) (imm : BitVec 16) : Int := uwrap (x + imm.toInt) 32

/-- A class 0x4 instruction. -/
def runRing (c : Fin 6) (op : Nat) (f : FormG) (ok : Bool) (rs ps : List Nat) (body : State → Done) (s : State) : Ans :=
  seqRun c (wordG op f) f.pred f.pn (f.resv = 0 && ok) rs ps body s

/-- RSIG (R117). -/
def execRsig (core : Fin 6) (f : FormG) (s : State) : Ans :=
  runRing core 0 f (ringLegal core f true && signalPlaceOk f && f.rd = 0 && f.ra = 0 && f.imm ≠ 0) [] []
    (issue core (queueOf f.q) { op := .rsig core f, pc := 0, word := wordG 0 f, x := f.imm.toNat }) s

/-- RSIGV (R117). -/
def execRsigv (core : Fin 6) (f : FormG) (s : State) : Ans :=
  runRing core 1 f (ringLegal core f true && signalPlaceOk f && f.rd = 0 && f.imm = 0) [f.ra.toNat] []
    (fun s =>
      let v := (s.core core).sreg f.ra.toNat
      if v < 0 || v > 65535 then .fault 7 v 0
      else issue core (queueOf f.q) { op := .rsigv core f, pc := 0, word := wordG 1 f, x := v } s) s

/-- RWAIT (R117). -/
def execRwait (core : Fin 6) (f : FormG) (s : State) : Ans :=
  runRing core 2 f (ringLegal core f false && f.rd = 0) [f.ra.toNat] []
    (fun s => issue core (queueOf f.q)
      { op := .rwait core f, pc := 0, word := wordG 2 f, x := ringTarget ((s.core core).sreg f.ra.toNat) f.imm } s) s

/-- The sequencer reads a ring: a global ring across the network-on-chip, where Bark may refuse it (R119). -/
def seqRing (c : Nat) (f : FormG) (g : Nat → State → Done) (s : State) : Done :=
  let t := ringOf c f
  if f.g then
    match netRingRead t (coreOid c) (coreCtxN s c) s with
    | (true, s) => g (ringVal s t) s
    | (false, s) => .faultIn s 8 ((ringReg t).getD 0 : Nat)
  else g (ringVal s t) s

/-- RWAITS (R117): decode holds until the ring is reached. -/
def execRwaits (core : Fin 6) (f : FormG) (s : State) : Ans :=
  runRing core 3 f (ringLegal core f false && f.q = 0 && f.rd = 0) [f.ra.toNat] []
    (fun s =>
      let tgt := (ringTarget ((s.core core).sreg f.ra.toNat) f.imm).toNat
      seqRing core f (fun v s =>
        if reached v tgt then .step s
        else .hold (s.setCore core { s.core core with seqWait := some (ringOf core f, tgt), heldWord := wordG 3 f })) s) s

/-- RRD (R117). -/
def execRrd (core : Fin 6) (f : FormG) (s : State) : Ans :=
  runRing core 4 f (ringLegal core f false && f.q = 0 && f.ra = 0 && f.imm = 0) [f.rd.toNat] []
    (seqRing core f fun v s => .step (s.setCore core ((s.core core).setS f.rd.toNat v))) s

/-- RTEST (R117). -/
def execRtest (core : Fin 6) (f : FormG) (s : State) : Ans :=
  runRing core 5 f (ringLegal core f false && f.q = 0 && f.rd.toNat < 8) [f.ra.toNat] [f.rd.toNat]
    (fun s =>
      let tgt := (ringTarget ((s.core core).sreg f.ra.toNat) f.imm).toNat
      seqRing core f (fun v s => .step (s.setCore core ((s.core core).setP f.rd.toNat (reached v tgt)))) s) s

/-- RSIGD (R117): checked when it reaches the head of SYNC. -/
def execRsigd (core : Fin 6) (f : FormG) (s : State) : Ans :=
  runRing core 6 f (ringLegalD f && f.q = 0 && f.rd = 0 && f.imm ≠ 0) [f.ra.toNat] []
    (fun s => issue core .sync
      { op := .rsigd core f, pc := 0, word := wordG 6 f, x := (s.core core).sreg f.ra.toNat, y := f.imm.toNat } s) s

/-! ### Tile descriptors, class 0xB -/

/-- Write a tile descriptor register after its check (R121). -/
def writeTile (c rd : Nat) (ok : Bool) (t : Tile) (s : State) : Done :=
  if ok && t.valid then doneCore c (fun k => k.setT rd t) s else .fault 5 (t.toNat % 2 ^ 32 : Nat) 0

/-- A class 0xB instruction. -/
def runTile (c : Fin 6) (op : Nat) (f : FormT) (ok : Bool) (rs : List Nat) (body : State → Done) (s : State) : Ans :=
  seqRun c (wordT op f) f.pred f.pn ok rs [] body s

/-- TSET (R122). -/
def execTset (core : Fin 6) (f : FormT) (s : State) : Ans :=
  runTile core 0 f (f.fn = 0 && f.imm = 0) [f.ra.toNat, f.rb.toNat]
    (fun s =>
      let k := s.core core
      writeTile core f.rd.toNat true (BitVec.ofNat 128 (pat (k.sreg f.ra.toNat) + pat (k.sreg f.rb.toNat) * 2 ^ 64)) s) s
where
  /-- The 64-bit pattern of a scalar. -/
  pat (v : Int) : Nat := (BitVec.ofInt 64 v).toNat

/-- TGET (R122). -/
def execTget (core : Fin 6) (f : FormT) (s : State) : Ans :=
  runTile core 1 f (f.rb = 0 && f.imm = 0 && f.fn.toNat < 2) [f.rd.toNat]
    (doneCore core fun k => k.setS f.rd.toNat (sextN ((k.treg f.ra.toNat).toNat / 2 ^ (64 * f.fn.toNat) % 2 ^ 64) 64)) s

/-- TLD of class 0xB (R122). -/
def execTld (core : Fin 6) (f : FormT) (s : State) : Ans :=
  runTile core 2 f (f.rb = 0 && f.fn = 0) [f.ra.toNat]
    (fun s => loadOwn core ((s.core core).sreg f.ra.toNat + f.imm.toInt) 16
      (fun b s => writeTile core f.rd.toNat true (BitVec.ofNat 128 (leNat b)) s) s) s

/-- TST (R122). -/
def execTst (core : Fin 6) (f : FormT) (s : State) : Ans :=
  runTile core 3 f (f.rb = 0 && f.fn = 0) [f.ra.toNat]
    (fun s => storeOwn core ((s.core core).sreg f.ra.toNat + f.imm.toInt)
      (leBytes 16 ((s.core core).treg f.rd.toNat).toNat) s) s

/-- TADV (R122): the new BASE must be a multiple of 64 within the scratchpad. DESIGN CHOICE (log entry 97): a BASE that does not fit its 25 bits
is reported in word 3 of TILE_INVALID modulo 2^25. -/
def execTadv (core : Fin 6) (f : FormT) (s : State) : Ans :=
  runTile core 4 f (f.fn = 0) [f.rb.toNat]
    (fun s =>
      let k := s.core core
      let t := k.treg f.ra.toNat
      let b := (t.base : Int) + k.sreg f.rb.toNat + f.imm.toInt
      writeTile core f.rd.toNat (0 ≤ b && b < 0x1800000) (t.withBaseRows (uwrap b 25).toNat (t.rows - 1)) s) s

/-- TSUB (R122). DESIGN CHOICE (log entry 97): a BASE or ROWSM1 that does not fit its field is reported in word 3 of TILE_INVALID modulo 2^25
or 2^16. -/
def execTsub (core : Fin 6) (f : FormT) (s : State) : Ans :=
  runTile core 5 f (f.fn = 0) [f.rb.toNat]
    (fun s =>
      let k := s.core core
      let t := k.treg f.ra.toNat
      let n := k.sreg f.rb.toNat
      let b := (t.base : Int) + t.stride * n
      writeTile core f.rd.toNat (0 ≤ n && b < 0x1800000 && 1 ≤ f.imm.toInt && f.imm.toInt ≤ 65536)
        (t.withBaseRows (uwrap b 25).toNat (uwrap (f.imm.toInt - 1) 16).toNat) s) s

/-- TCPY (R122). -/
def execTcpy (core : Fin 6) (f : FormT) (s : State) : Ans :=
  runTile core 6 f (f.rb = 0 && f.fn = 0 && f.imm = 0) []
    (fun s => writeTile core f.rd.toNat true ((s.core core).treg f.ra.toNat) s) s

/-! ### System, class 0xF -/

/-- A class 0xF instruction. -/
def runSys (c : Fin 6) (op : Nat) (f : FormI) (ok : Bool) (body : State → Done) (s : State) : Ans :=
  seqRun c (wordI 0xF op f.fn.toNat f) f.pred f.pn (f.ra = 0 && f.fn = 0 && ok) [f.rd.toNat] [] body s

/-- FFLUSH (R123). -/
def execFflush (core : Fin 6) (f : FormI) (s : State) : Ans :=
  runSys core 0 f (f.rd = 0 && f.imm = 0) (doneCore core fun k => { k with fbuf := [] }) s

/-- FLAGRD (R123, R125). -/
def execFlagrd (core : Fin 6) (f : FormI) (s : State) : Ans :=
  runSys core 1 f (f.imm = 0)
    (fun s => doneCore core (fun k => k.setS f.rd.toNat (s.fld (F.CRN_FLAGS_SAT_DZ_ACCF_SCLR core))) s) s

/-- FLAGCLR (R123, R125). -/
def execFlagclr (core : Fin 6) (f : FormI) (s : State) : Ans :=
  runSys core 2 f (f.rd = 0 && f.imm.toNat < 16)
    (fun s =>
      let x := F.CRN_FLAGS_SAT_DZ_ACCF_SCLR core
      .step (s.put x (s.fld x &&& (15 - f.imm.toNat % 16)))) s

/-- Is the selector of SVR defined (R124)? -/
def svrOk (n : Nat) : Bool := n ≤ 8 || (0x10 ≤ n && n ≤ 0x17)

/-- The value of a system selector (R124); the cycle count is a free value, since the model keeps no clock cycles (log entry 13). -/
def svrValue (c n : Nat) (s : State) : Int × State :=
  let j := coreJob s c
  match n with
  | 0 => (c, s)
  | 1 => (coreCtxN s c, s)
  | 2 => (sextN ((j.map fun j => j.d.jobId).getD 0) 64, s)
  | 3 => let r := s.freeNat; (sextN r.1 64, r.2)
  | 4 => (if s.flag F.GRV_CTRL_EN then s.fld F.GRV_DEVID_ID else 0, s)
  | 5 => (s.fld F.SYS_STRICT_STRICT, s)
  | 6 => (qstat (s.core c), s)
  | 7 => (spSize, s)
  | 8 => (s.fld (F.CRN_PBASE_BASE c) * 64, s)
  | n => (sextN ((j.map fun j => j.d.args.getD (n - 0x10) 0).getD 0) 64, s)

/-- SVR (R123, R124). -/
def execSvr (core : Fin 6) (f : FormI) (s : State) : Ans :=
  runSys core 3 f (svrOk f.imm.toNat)
    (fun s => let r := svrValue core f.imm.toNat s; doneCore core (fun k => k.setS f.rd.toNat r.1) r.2) s

end Sys2Proof.Machine
end

