-- ==== Sys2Proof/Machine/CrownTwig.lean ====
section
/-! DEFINITION. The Twig unit, classes 0x7, 0x8 and 0xA (R86, R127 to R131, R137 to R143): what each instruction checks and
captures at issue, and what it does when it issues from the TWIG queue. -/

namespace Sys2Proof.Machine

/-! ### Vector registers and tables -/

/-- The 512 lanes of vector register `r`. -/
def Crown.vec (k : Crown) (r : Nat) : Array (BitVec 32) :=
  let l := k.v.filter fun x => 512 * r ≤ x.1 && x.1 < 512 * r + 512
  ((List.range 512).map fun j => spGet 0 l (512 * r + j)).toArray

/-- Lane `j` as a signed integer. -/
def lane (v : Array (BitVec 32)) (j : Nat) : Int := (v.getD j 0).toInt

/-- Write the 512 lanes of vector register `r`. -/
def Crown.setV (k : Crown) (r : Nat) (g : Nat → BitVec 32) : Crown := { k with v := spRange 0 (512 * r) 512 g k.v }

/-- Is lane `j` active under the mask fields (R129)? -/
def activeLane (k : Crown) (f : FormV) : Nat → Bool :=
  if f.me then (let m := k.vec f.vm.toNat; fun j => (m.getD j 0).getLsbD 0) else fun _ => true

/-- Entry `i` of table `t` as a 16-bit pattern. -/
def Crown.tabRaw (k : Crown) (t i : Nat) : Nat := (spGet 0 k.tab (256 * t + i) : BitVec 16).toNat

/-- Entry `i` of table `t` as its signedness says (R143). -/
def Crown.tabVal (k : Crown) (t i : Nat) : Int :=
  if k.tabSigned.getLsbD t then sextN (k.tabRaw t i) 16 else k.tabRaw t i

/-! ### Execution -/

/-- An instruction of one result per active lane: `g` has the lane number and the lanes of va, vb and vc. -/
def laneOp (c : Nat) (f : FormV) (g : Nat → Int → Int → Int → Res) (s : State) : State :=
  let k := s.core c
  let a := k.vec f.va.toNat
  let b := k.vec f.vb.toNat
  let x := k.vec f.vc.toNat
  let old := k.vec f.vd.toNat
  let act := activeLane k f
  let r : Array (Option Res) :=
    ((List.range 512).map fun j => if act j then some (g j (lane a j) (lane b j) (lane x j)) else none).toArray
  let fl := r.foldl (fun t y => match y with | some y => t ||| y.2 | none => t) fNone
  (orFlags c fl s).setCore c (k.setV f.vd.toNat fun j =>
    match r.getD j none with
    | some y => BitVec.ofInt 32 y.1
    | none => old.getD j 0)

/-- Lane L of a captured scalar (R128). -/
def laneOf (x : Int) : Nat := (uwrap x 9).toNat

/-- Write one lane of vd and keep the others. -/
def setLane (c vd l : Nat) (r : Res) (s : State) : State :=
  let k := s.core c
  (orFlags c r.2 s).setCore c { k with v := spSet 0 (512 * vd + l) (BitVec.ofInt 32 r.1) k.v }

/-- The values of the active lanes of va with their lane numbers, ascending. -/
def activeVals (k : Crown) (f : FormV) : List (Nat × Int) :=
  let a := k.vec f.va.toNat
  let act := activeLane k f
  (List.range 512).filterMap fun j => if act j then some (j, lane a j) else none

/-- The greatest value, the lowest lane first (R68, R138). -/
def argMax (l : List (Nat × Int)) : Option (Nat × Int) :=
  l.foldl (fun t y => match t with
    | none => some y
    | some x => if y.2 > x.2 then some y else some x) none

/-- A reduction over the active lanes (R138). -/
def reduce (c : Nat) (f : FormV) (x : Int) (g : List (Nat × Int) → Res) (s : State) : State :=
  setLane c f.vd.toNat (laneOf x) (g (activeVals (s.core c) f)) s

/-- The result of VRSUM. -/
def redSum (l : List (Nat × Int)) : Res := sat (l.foldl (fun t y => t + y.2) 0) 32
/-- The result of VRMAX. -/
def redMax (l : List (Nat × Int)) : Res := (((argMax l).map (·.2)).getD (smin 32), fNone)
/-- The result of VRMIN. -/
def redMin (l : List (Nat × Int)) : Res := (l.foldl (fun t y => if y.2 < t then y.2 else t) (smax 32), fNone)
/-- The result of VRAMAX. -/
def redAmax (l : List (Nat × Int)) : Res := sat (l.foldl (fun t y => max t (y.2.natAbs : Int)) 0) 32
/-- The result of VRARG. -/
def redArg (l : List (Nat × Int)) : Res := ((((argMax l).map fun y => (y.1 : Int))).getD (-1), fNone)

/-- Scratchpad offset of the piece of 512 elements that VLD and VST move (R139). -/
def pieceOff (t : Tile) (row h : Nat) : Nat := t.row row + h * (512 * fmtBits t.fmt / 8)

/-- VLD (R139). -/
def doVld (c : Nat) (e : QEntry) (f : FormV) (s : State) : State :=
  let t : Tile := e.t0
  match ownRead c (pieceOff t e.x.toNat f.imm.toNat) (512 * fmtBits t.fmt / 8) s with
  | (.ok b, s) => let row := b.toArray; laneOp c f (fun j _ _ _ => (elemVal t.fmt row j, fNone)) s
  | (_, s) => s

/-- The element VST writes for a lane value (R139). -/
def storeElem (fmt : Nat) (a : Int) : Res :=
  if fmt = 6 then (a, fNone) else if fmt = 8 then (uwrap a 22, fNone)
  else if fmtUnsigned fmt then usat a (fmtBits fmt) else sat a (fmtBits fmt)

/-- The runs of neighbouring numbers below 512 for which `p` holds, ascending: the first number of each and its length. -/
def runsOf (p : Nat → Bool) : List (Nat × Nat) :=
  ((List.range 512).foldl (fun (l : List (Nat × Nat)) j =>
    if p j then
      match l with
      | (a, n) :: r => if a + n = j then (a, n + 1) :: r else (j, 1) :: l
      | [] => [(j, 1)]
    else l) []).reverse

/-- Write pieces of a row, each at its offset, until one meets a fenced region (R278). -/
def ownWrites (c : Nat) : List (Nat × List Byte) → State → State
  | [], s => s
  | x :: xs, s =>
    match ownWrite c x.1 x.2 s with
    | (true, s) => ownWrites c xs s
    | (false, s) => s

/-- VST (R129, R139): the active lanes' elements are written, and the bytes of inactive lanes are not. A masked store moves whole bytes per
element, since the formats of 4 and 2 bits admit no mask. -/
def doVst (c : Nat) (e : QEntry) (f : FormV) (s : State) : State :=
  let t : Tile := e.t0
  let k := s.core c
  let a := k.vec f.va.toNat
  let act := activeLane k f
  let w := fmtBits t.fmt
  let off := pieceOff t e.x.toNat f.imm.toNat
  let r : Array Res := ((List.range 512).map fun j => if act j then storeElem t.fmt (lane a j) else (0, fNone)).toArray
  let fl := r.foldl (fun x y => x ||| y.2) fNone
  ownWrites c ((runsOf act).map fun x => (off + x.1 * w / 8, packRow w x.2 fun j => (r.getD (x.1 + j) (0, 0)).1)) (orFlags c fl s)

/-- VACW (R137): the active elements of the entry. -/
def doVacw (c : Nat) (e : QEntry) (f : FormV) (s : State) : State :=
  match readAcc c e.x.toNat s with
  | (none, s) => s
  | (some old, s) =>
    let k := s.core c
    let a := k.vec f.va.toNat
    let act := activeLane k f
    writeAcc c e.x.toNat (((List.range 512).map fun j => if act j then lane a j else old.getD j 0).toArray) s

/-- The exp2 step (R142); past 17 places every entry rounds to 0, so the shift count is cut there. -/
def vexpStep (k : Crown) (t : Nat) (a : Int) : Int :=
  let d := if a ≥ 0 then 0 else (-a).toNat
  rne (k.tabRaw t (d % 256) : Nat) (min (d / 256) 20)

/-- Write every lane of vd from a function of all lanes, without mask. -/
def wholeOp (c : Nat) (f : FormV) (g : Array (BitVec 32) → Array (BitVec 32) → Array (BitVec 32) → Nat → Res) (s : State) : State :=
  let k := s.core c
  let a := k.vec f.va.toNat
  let b := k.vec f.vb.toNat
  let x := k.vec f.vc.toNat
  let r : Array Res := ((List.range 512).map fun j => g a b x j).toArray
  (orFlags c (r.foldl (fun t y => t ||| y.2) fNone) s).setCore c (k.setV f.vd.toNat fun j => BitVec.ofInt 32 (r.getD j (0, 0)).1)

/-- The rotation of the pair of lanes `(u, w)` with the angle at lane `u` (R142): `first` selects its first result. -/
def rotate (a b x : Array (BitVec 32)) (u w : Nat) (first : Bool) : Res :=
  if first then srshift (lane a u * lane b u - lane a w * lane x u) 14 32
  else srshift (lane a u * lane x u + lane a w * lane b u) 14 32

/-- VROTI: lanes 2i and 2i + 1. -/
def rotI (a b x : Array (BitVec 32)) (j : Nat) : Res := rotate a b x (j / 2 * 2) (j / 2 * 2 + 1) (j % 2 = 0)

/-- VROTS: the halves of each group of `h` lanes. -/
def rotS (h : Nat) (a b x : Array (BitVec 32)) (j : Nat) : Res :=
  let u := j / h * h + j % (h / 2)
  rotate a b x u (u + h / 2) (j % h < h / 2)

/-- TLD of class 0xA (R143). -/
def doTldTable (c : Nat) (e : QEntry) (f : FormV) (s : State) : State :=
  let t : Tile := e.t0
  let n := f.imm.toNat % 8
  match ownRead c (t.row e.x.toNat) 512 s with
  | (.ok b, s) =>
    let row := b.toArray
    let k := s.core c
    let bit := BitVec.ofNat 8 (2 ^ n)
    s.setCore c { k with
      tab := spRange 0 (256 * n) 256 (fun q => BitVec.ofNat 16 (elemRaw row 16 q)) k.tab
      tabSigned := if t.fmt = 4 then k.tabSigned ||| bit else k.tabSigned &&& ~~~bit }
  | (_, s) => s

/-- TLU and TLI (R143). -/
def tableLook (k : Crown) (f : FormV) (x : Int) (interp : Bool) (a : Int) : Int :=
  let t := f.imm.toNat % 8
  let n := f.imm.toNat / 8 % 32
  let u := a - x
  let idx := u / (2 ^ n : Nat)
  let fr := u - idx * (2 ^ n : Nat)
  let p : Int × Int := if idx < 0 then (0, 0) else if idx ≥ 255 then (255, 0) else (idx, fr)
  let i := p.1.toNat
  if interp && i < 255 then k.tabVal t i + rne ((k.tabVal t (i + 1) - k.tabVal t i) * p.2) n else k.tabVal t i

/-- Truth as a lane value. -/
def truth (b : Bool) : Res := ((ofBool b : Nat), fNone)

/-- A logic operation on 32-bit lanes. -/
def bits32 (g : BitVec 32 → BitVec 32 → BitVec 32) (a b : Int) : Res := ((g (BitVec.ofInt 32 a) (BitVec.ofInt 32 b)).toInt, fNone)

/-- A result without flags. -/
def bare (v : Int) : Res := (v, fNone)

/-- The shift count of a vector shift. -/
def cntV (b : Int) : Nat := (uwrap b 8).toNat

/-- What a vector, mask or table instruction does when the Twig unit issues it. -/
def twigEffect (c : Nat) (e : QEntry) (s : State) : State :=
  match e.op with
  | .vadd _ f => laneOp c f (fun _ a b _ => sat (a + b) 32) s
  | .vaddm _ f => laneOp c f (fun _ a b _ => bare (wrap (a + b) 32)) s
  | .vsub _ f => laneOp c f (fun _ a b _ => sat (a - b) 32) s
  | .vsubm _ f => laneOp c f (fun _ a b _ => bare (wrap (a - b) 32)) s
  | .vmin _ f => laneOp c f (fun _ a b _ => bare (min a b)) s
  | .vmax _ f => laneOp c f (fun _ a b _ => bare (max a b)) s
  | .vneg _ f => laneOp c f (fun _ a _ _ => negS a 32) s
  | .vabs _ f => laneOp c f (fun _ a _ _ => absS a 32) s
  | .vand _ f => laneOp c f (fun _ a b _ => bits32 (· &&& ·) a b) s
  | .vor _ f => laneOp c f (fun _ a b _ => bits32 (· ||| ·) a b) s
  | .vxor _ f => laneOp c f (fun _ a b _ => bits32 (· ^^^ ·) a b) s
  | .vandn _ f => laneOp c f (fun _ a b _ => bits32 (fun x y => x &&& ~~~y) a b) s
  | .vmul _ f => laneOp c f (fun _ a b _ => sat (a * b) 32) s
  | .vmulq _ f => laneOp c f (fun _ a b _ => qmul a b f.imm.toNat 32) s
  | .vmac _ f => laneOp c f (fun _ a b x => sat (x + rne (a * b) f.imm.toNat) 32) s
  | .vresc _ f => laneOp c f (fun _ a b _ => let z := Scale.ofWord (uwrap b 32).toNat; rescale a z.m z.e 32) s
  | .vsll _ f => laneOp c f (fun _ a b _ => bare (lsl a (cntV b) 32)) s
  | .vsrl _ f => laneOp c f (fun _ a b _ => bare (wrap (lsr a (cntV b) 32) 32)) s
  | .vsra _ f => laneOp c f (fun _ a b _ => bare (asr a (cntV b))) s
  | .vsls _ f => laneOp c f (fun _ a b _ => ssl a (cntV b) 32) s
  | .vsrr _ f => laneOp c f (fun _ a b _ => srshift a (cntV b) 32) s
  | .vslli _ f => laneOp c f (fun _ a _ _ => bare (lsl a f.imm.toNat 32)) s
  | .vsrli _ f => laneOp c f (fun _ a _ _ => bare (wrap (lsr a f.imm.toNat 32) 32)) s
  | .vsrai _ f => laneOp c f (fun _ a _ _ => bare (asr a f.imm.toNat)) s
  | .vslsi _ f => laneOp c f (fun _ a _ _ => ssl a f.imm.toNat 32) s
  | .vsrri _ f => laneOp c f (fun _ a _ _ => srshift a f.imm.toNat 32) s
  | .vsat _ f => laneOp c f (fun _ a _ _ => sat a f.imm.toNat) s
  | .vusat _ f => laneOp c f (fun _ a _ _ => usat a f.imm.toNat) s
  | .vcmpEq _ f => laneOp c f (fun _ a b _ => truth (a = b)) s
  | .vcmpNe _ f => laneOp c f (fun _ a b _ => truth (a ≠ b)) s
  | .vcmpLt _ f => laneOp c f (fun _ a b _ => truth (a < b)) s
  | .vcmpLe _ f => laneOp c f (fun _ a b _ => truth (a ≤ b)) s
  | .vsel _ f => laneOp c f (fun _ a b x => bare (if x % 2 = 1 then a else b)) s
  | .vmov _ f => laneOp c f (fun _ a _ _ => bare a) s
  | .vbcs _ f => laneOp c f (fun _ _ _ _ => sat e.x 32) s
  | .vbcl _ f => let v := lane ((s.core c).vec f.va.toNat) (laneOf e.x); laneOp c f (fun _ _ _ _ => bare v) s
  | .vidx _ f => laneOp c f (fun j _ _ _ => sat (e.x + j) 32) s
  | .vins _ f => setLane c f.vd.toNat f.imm.toNat (sat e.x 32) s
  | .vext _ f => s.setCore c ((s.core c).setS f.rs.toNat (lane ((s.core c).vec f.va.toNat) f.imm.toNat))
  | .vrsum _ f => reduce c f e.x redSum s
  | .vrmax _ f => reduce c f e.x redMax s
  | .vrmin _ f => reduce c f e.x redMin s
  | .vramax _ f => reduce c f e.x redAmax s
  | .vrarg _ f => reduce c f e.x redArg s
  | .vld _ f => doVld c e f s
  | .vst _ f => doVst c e f s
  | .vacr _ f =>
    match readAcc c e.x.toNat s with
    | (none, s) => s
    | (some r, s) => laneOp c f (fun j _ _ _ => sat (r.getD j 0) 32) s
  | .vacw _ f => doVacw c e f s
  | .vrdiv _ f => laneOp c f (fun _ a b _ => rdiv a b 32) s
  | .vqdiv _ f => laneOp c f (fun _ a b _ => qdiv a b 32) s
  | .vqrem _ f => laneOp c f (fun _ a b _ => qrem a b 32) s
  | .vrsq _ f => laneOp c f (fun _ a _ _ => vrsq a) s
  | .vmkc _ f => laneOp c f (fun _ a b _ => bare (if b ≤ e.x then a else smin 32)) s
  | .vmkcm _ f => laneOp c f (fun _ _ b _ => truth (b ≤ e.x)) s
  | .vmks _ f => laneOp c f (fun _ a b _ => bare (if b = e.x then a else smin 32)) s
  | .vmksm _ f => laneOp c f (fun _ _ b _ => truth (b = e.x)) s
  | .vany _ f => let any := (activeVals (s.core c) f).any fun y => y.2 % 2 = 1; s.setCore c ((s.core c).setP f.imm.toNat any)
  | .vexp _ f => let k := s.core c; laneOp c f (fun _ a _ _ => bare (vexpStep k f.imm.toNat a)) s
  | .vroti _ f => wholeOp c f rotI s
  | .vrots _ f => wholeOp c f (rotS (if f.imm = 0 then 64 else 128)) s
  | .tldTable _ f => doTldTable c e f s
  | .tlu _ f => let k := s.core c; laneOp c f (fun _ a _ _ => bare (tableLook k f e.x false a)) s
  | .tli _ f => let k := s.core c; laneOp c f (fun _ a _ _ => bare (tableLook k f e.x true a)) s
  | _ => s

/-! ### Issue -/

/-- Fields of form V that an instruction uses; `vb` is a vector register, and `tile` a tile descriptor in its place. -/
structure VUse where
  vd : Bool := false
  va : Bool := false
  vb : Bool := false
  vc : Bool := false
  rs : Bool := false
  tile : Bool := false
  mask : Bool := true

/-- The fields an instruction does not use are 0, its tile and mask fields are legal (R100, R128, R129); `imm` is the legality of
its immediate. -/
def vLegal (f : FormV) (u : VUse) (imm : Bool) : Bool :=
  (u.vd || f.vd = 0) && (u.va || f.va = 0) && (u.vb || (u.tile && f.vb.toNat < 32) || f.vb = 0) && (u.vc || f.vc = 0)
    && (u.rs || f.rs = 0) && (if f.me then u.mask else f.vm = 0) && imm

/-- Decode an instruction of form V: `check` names a fault found at decode. -/
def runV (c : Fin 6) (cls op fn : Nat) (f : FormV) (u : VUse) (imm : Bool) (i : Instr)
    (check : Int → Tile → Option (Nat × Int)) (s : State) : Ans :=
  seqRun c (wordV cls op fn f) f.pred f.pn (vLegal f u imm) [f.rs.toNat] []
    (fun s =>
      let k := s.core c
      let x := k.sreg f.rs.toNat
      let t : Tile := if u.tile then k.treg f.vb.toNat else 0
      match check x t with
      | some (cause, w3) => .fault cause w3 0
      | none => issue c .twig { op := i, pc := 0, word := wordV cls op fn f, x := x, t0 := t } s) s

/-- No fault at decode. -/
def noCheck : Int → Tile → Option (Nat × Int) := fun _ _ => none

/-- The entry of VACR and VACW lies in the accumulator file (R137). -/
def accCheck : Int → Tile → Option (Nat × Int) := fun x _ => if x < 0 || x > 1023 then some (0x11, x) else none

/-- The row lies in the tile (R139, R143). -/
def rowCheck (x : Int) (t : Tile) : Option (Nat × Int) := if x < 0 || x ≥ t.rows then some (0x13, x) else none

/-- The checks of VLD and VST: shape, then row (R139). -/
def pieceCheck (f : FormV) (x : Int) (t : Tile) : Option (Nat × Int) :=
  if t.fmt = 7 || t.len < 512 * (f.imm.toNat + 1) * fmtBits t.fmt / 8 then some (0x10, (f.vb.toNat : Int)) else rowCheck x t

/-- The checks of TLD: shape, then row (R143). -/
def tableCheck (f : FormV) (x : Int) (t : Tile) : Option (Nat × Int) :=
  if (t.fmt ≠ 4 && t.fmt ≠ 5) || t.len < 512 then some (0x10, (f.vb.toNat : Int)) else rowCheck x t

/-- Mark the scalar register of VEXT pending until it retires (R102). -/
def pendScalar (c r : Nat) (d : Done) : Done :=
  match d with
  | .step s => .step (s.setCore c { s.core c with pendS := (s.core c).pendS ++ [r] })
  | d => d

/-- Mark the predicate of VANY pending until it retires (R102). -/
def pendPred (c r : Nat) (d : Done) : Done :=
  match d with
  | .step s => .step (s.setCore c { s.core c with pendP := (s.core c).pendP ++ [r] })
  | d => d
/-- VADD (R137). -/
def execVadd (core : Fin 6) (f : FormV) (s : State) : Ans :=
  runV core 7 0 0 f { vd := true, va := true, vb := true } (f.imm = 0) (.vadd core f) noCheck s

/-- VADDM (R137). -/
def execVaddm (core : Fin 6) (f : FormV) (s : State) : Ans :=
  runV core 7 0 1 f { vd := true, va := true, vb := true } (f.imm = 0) (.vaddm core f) noCheck s

/-- VSUB (R137). -/
def execVsub (core : Fin 6) (f : FormV) (s : State) : Ans :=
  runV core 7 0 2 f { vd := true, va := true, vb := true } (f.imm = 0) (.vsub core f) noCheck s

/-- VSUBM (R137). -/
def execVsubm (core : Fin 6) (f : FormV) (s : State) : Ans :=
  runV core 7 0 3 f { vd := true, va := true, vb := true } (f.imm = 0) (.vsubm core f) noCheck s

/-- VMIN (R137). -/
def execVmin (core : Fin 6) (f : FormV) (s : State) : Ans :=
  runV core 7 0 4 f { vd := true, va := true, vb := true } (f.imm = 0) (.vmin core f) noCheck s

/-- VMAX (R137). -/
def execVmax (core : Fin 6) (f : FormV) (s : State) : Ans :=
  runV core 7 0 5 f { vd := true, va := true, vb := true } (f.imm = 0) (.vmax core f) noCheck s

/-- VNEG (R137). -/
def execVneg (core : Fin 6) (f : FormV) (s : State) : Ans :=
  runV core 7 0 6 f { vd := true, va := true } (f.imm = 0) (.vneg core f) noCheck s

/-- VABS (R137). -/
def execVabs (core : Fin 6) (f : FormV) (s : State) : Ans :=
  runV core 7 0 7 f { vd := true, va := true } (f.imm = 0) (.vabs core f) noCheck s

/-- VAND (R137). -/
def execVand (core : Fin 6) (f : FormV) (s : State) : Ans :=
  runV core 7 0 8 f { vd := true, va := true, vb := true } (f.imm = 0) (.vand core f) noCheck s

/-- VOR (R137). -/
def execVor (core : Fin 6) (f : FormV) (s : State) : Ans :=
  runV core 7 0 9 f { vd := true, va := true, vb := true } (f.imm = 0) (.vor core f) noCheck s

/-- VXOR (R137). -/
def execVxor (core : Fin 6) (f : FormV) (s : State) : Ans :=
  runV core 7 0 10 f { vd := true, va := true, vb := true } (f.imm = 0) (.vxor core f) noCheck s

/-- VANDN (R137). -/
def execVandn (core : Fin 6) (f : FormV) (s : State) : Ans :=
  runV core 7 0 11 f { vd := true, va := true, vb := true } (f.imm = 0) (.vandn core f) noCheck s

/-- VMUL (R137). -/
def execVmul (core : Fin 6) (f : FormV) (s : State) : Ans :=
  runV core 7 1 0 f { vd := true, va := true, vb := true } (f.imm = 0) (.vmul core f) noCheck s

/-- VMULQ (R137). -/
def execVmulq (core : Fin 6) (f : FormV) (s : State) : Ans :=
  runV core 7 1 1 f { vd := true, va := true, vb := true } (f.imm.toNat < 64) (.vmulq core f) noCheck s

/-- VMAC (R137). -/
def execVmac (core : Fin 6) (f : FormV) (s : State) : Ans :=
  runV core 7 1 2 f { vd := true, va := true, vb := true, vc := true } (f.imm.toNat < 64) (.vmac core f) noCheck s

/-- VRESC (R137). -/
def execVresc (core : Fin 6) (f : FormV) (s : State) : Ans :=
  runV core 7 1 3 f { vd := true, va := true, vb := true } (f.imm = 0) (.vresc core f) noCheck s

/-- VSLL (R137). -/
def execVsll (core : Fin 6) (f : FormV) (s : State) : Ans :=
  runV core 7 2 0 f { vd := true, va := true, vb := true } (f.imm = 0) (.vsll core f) noCheck s

/-- VSRL (R137). -/
def execVsrl (core : Fin 6) (f : FormV) (s : State) : Ans :=
  runV core 7 2 1 f { vd := true, va := true, vb := true } (f.imm = 0) (.vsrl core f) noCheck s

/-- VSRA (R137). -/
def execVsra (core : Fin 6) (f : FormV) (s : State) : Ans :=
  runV core 7 2 2 f { vd := true, va := true, vb := true } (f.imm = 0) (.vsra core f) noCheck s

/-- VSLS (R137). -/
def execVsls (core : Fin 6) (f : FormV) (s : State) : Ans :=
  runV core 7 2 3 f { vd := true, va := true, vb := true } (f.imm = 0) (.vsls core f) noCheck s

/-- VSRR (R137). -/
def execVsrr (core : Fin 6) (f : FormV) (s : State) : Ans :=
  runV core 7 2 4 f { vd := true, va := true, vb := true } (f.imm = 0) (.vsrr core f) noCheck s

/-- VSLLI (R137). -/
def execVslli (core : Fin 6) (f : FormV) (s : State) : Ans :=
  runV core 7 2 8 f { vd := true, va := true } (f.imm.toNat < 256) (.vslli core f) noCheck s

/-- VSRLI (R137). -/
def execVsrli (core : Fin 6) (f : FormV) (s : State) : Ans :=
  runV core 7 2 9 f { vd := true, va := true } (f.imm.toNat < 256) (.vsrli core f) noCheck s

/-- VSRAI (R137). -/
def execVsrai (core : Fin 6) (f : FormV) (s : State) : Ans :=
  runV core 7 2 10 f { vd := true, va := true } (f.imm.toNat < 256) (.vsrai core f) noCheck s

/-- VSLSI (R137). -/
def execVslsi (core : Fin 6) (f : FormV) (s : State) : Ans :=
  runV core 7 2 11 f { vd := true, va := true } (f.imm.toNat < 256) (.vslsi core f) noCheck s

/-- VSRRI (R137). -/
def execVsrri (core : Fin 6) (f : FormV) (s : State) : Ans :=
  runV core 7 2 12 f { vd := true, va := true } (f.imm.toNat < 256) (.vsrri core f) noCheck s

/-- VSAT (R137). -/
def execVsat (core : Fin 6) (f : FormV) (s : State) : Ans :=
  runV core 7 2 16 f { vd := true, va := true } (1 ≤ f.imm.toNat && f.imm.toNat ≤ 32) (.vsat core f) noCheck s

/-- VUSAT (R137). -/
def execVusat (core : Fin 6) (f : FormV) (s : State) : Ans :=
  runV core 7 2 17 f { vd := true, va := true } (1 ≤ f.imm.toNat && f.imm.toNat ≤ 32) (.vusat core f) noCheck s

/-- VCMP_EQ (R137). -/
def execVcmpEq (core : Fin 6) (f : FormV) (s : State) : Ans :=
  runV core 7 3 0 f { vd := true, va := true, vb := true } (f.imm = 0) (.vcmpEq core f) noCheck s

/-- VCMP_NE (R137). -/
def execVcmpNe (core : Fin 6) (f : FormV) (s : State) : Ans :=
  runV core 7 3 1 f { vd := true, va := true, vb := true } (f.imm = 0) (.vcmpNe core f) noCheck s

/-- VCMP_LT (R137). -/
def execVcmpLt (core : Fin 6) (f : FormV) (s : State) : Ans :=
  runV core 7 3 2 f { vd := true, va := true, vb := true } (f.imm = 0) (.vcmpLt core f) noCheck s

/-- VCMP_LE (R137). -/
def execVcmpLe (core : Fin 6) (f : FormV) (s : State) : Ans :=
  runV core 7 3 3 f { vd := true, va := true, vb := true } (f.imm = 0) (.vcmpLe core f) noCheck s

/-- VSEL (R137). -/
def execVsel (core : Fin 6) (f : FormV) (s : State) : Ans :=
  runV core 7 3 4 f { vd := true, va := true, vb := true, vc := true } (f.imm = 0) (.vsel core f) noCheck s

/-- VMOV (R137). -/
def execVmov (core : Fin 6) (f : FormV) (s : State) : Ans :=
  runV core 7 4 0 f { vd := true, va := true } (f.imm = 0) (.vmov core f) noCheck s

/-- VBCS (R137). -/
def execVbcs (core : Fin 6) (f : FormV) (s : State) : Ans :=
  runV core 7 4 1 f { vd := true, rs := true } (f.imm = 0) (.vbcs core f) noCheck s

/-- VBCL (R137). -/
def execVbcl (core : Fin 6) (f : FormV) (s : State) : Ans :=
  runV core 7 4 2 f { vd := true, va := true, rs := true } (f.imm = 0) (.vbcl core f) noCheck s

/-- VIDX (R137). -/
def execVidx (core : Fin 6) (f : FormV) (s : State) : Ans :=
  runV core 7 4 3 f { vd := true, rs := true } (f.imm = 0) (.vidx core f) noCheck s

/-- VINS (R137). -/
def execVins (core : Fin 6) (f : FormV) (s : State) : Ans :=
  runV core 7 4 4 f { vd := true, rs := true, mask := false } (f.imm.toNat < 512) (.vins core f) noCheck s

/-- VRSUM (R137). -/
def execVrsum (core : Fin 6) (f : FormV) (s : State) : Ans :=
  runV core 7 5 0 f { vd := true, va := true, rs := true } (f.imm = 0) (.vrsum core f) noCheck s

/-- VRMAX (R137). -/
def execVrmax (core : Fin 6) (f : FormV) (s : State) : Ans :=
  runV core 7 5 1 f { vd := true, va := true, rs := true } (f.imm = 0) (.vrmax core f) noCheck s

/-- VRMIN (R137). -/
def execVrmin (core : Fin 6) (f : FormV) (s : State) : Ans :=
  runV core 7 5 2 f { vd := true, va := true, rs := true } (f.imm = 0) (.vrmin core f) noCheck s

/-- VRAMAX (R137). -/
def execVramax (core : Fin 6) (f : FormV) (s : State) : Ans :=
  runV core 7 5 3 f { vd := true, va := true, rs := true } (f.imm = 0) (.vramax core f) noCheck s

/-- VRARG (R137). -/
def execVrarg (core : Fin 6) (f : FormV) (s : State) : Ans :=
  runV core 7 5 4 f { vd := true, va := true, rs := true } (f.imm = 0) (.vrarg core f) noCheck s

/-- VLD (R137). -/
def execVld (core : Fin 6) (f : FormV) (s : State) : Ans :=
  runV core 7 6 0 f { vd := true, rs := true, tile := true } true (.vld core f) (pieceCheck f) s

/-- VACR (R137). -/
def execVacr (core : Fin 6) (f : FormV) (s : State) : Ans :=
  runV core 7 6 2 f { vd := true, rs := true } (f.imm = 0) (.vacr core f) accCheck s

/-- VACW (R137). -/
def execVacw (core : Fin 6) (f : FormV) (s : State) : Ans :=
  runV core 7 6 3 f { va := true, rs := true } (f.imm = 0) (.vacw core f) accCheck s

/-- VRDIV (R137). -/
def execVrdiv (core : Fin 6) (f : FormV) (s : State) : Ans :=
  runV core 7 7 0 f { vd := true, va := true, vb := true } (f.imm = 0) (.vrdiv core f) noCheck s

/-- VQDIV (R137). -/
def execVqdiv (core : Fin 6) (f : FormV) (s : State) : Ans :=
  runV core 7 7 1 f { vd := true, va := true, vb := true } (f.imm = 0) (.vqdiv core f) noCheck s

/-- VQREM (R137). -/
def execVqrem (core : Fin 6) (f : FormV) (s : State) : Ans :=
  runV core 7 7 2 f { vd := true, va := true, vb := true } (f.imm = 0) (.vqrem core f) noCheck s

/-- VRSQ (R137). -/
def execVrsq (core : Fin 6) (f : FormV) (s : State) : Ans :=
  runV core 7 7 3 f { vd := true, va := true } (f.imm = 0) (.vrsq core f) noCheck s

/-- VMKC (R141). -/
def execVmkc (core : Fin 6) (f : FormV) (s : State) : Ans :=
  runV core 8 0 0 f { vd := true, va := true, vb := true, rs := true } (f.imm = 0) (.vmkc core f) noCheck s

/-- VMKCM (R141). -/
def execVmkcm (core : Fin 6) (f : FormV) (s : State) : Ans :=
  runV core 8 0 1 f { vd := true, vb := true, rs := true } (f.imm = 0) (.vmkcm core f) noCheck s

/-- VMKS (R141). -/
def execVmks (core : Fin 6) (f : FormV) (s : State) : Ans :=
  runV core 8 1 0 f { vd := true, va := true, vb := true, rs := true } (f.imm = 0) (.vmks core f) noCheck s

/-- VMKSM (R141). -/
def execVmksm (core : Fin 6) (f : FormV) (s : State) : Ans :=
  runV core 8 1 1 f { vd := true, vb := true, rs := true } (f.imm = 0) (.vmksm core f) noCheck s

/-- VEXP (R141). -/
def execVexp (core : Fin 6) (f : FormV) (s : State) : Ans :=
  runV core 8 3 0 f { vd := true, va := true } (f.imm.toNat < 8) (.vexp core f) noCheck s

/-- VROTI (R141). -/
def execVroti (core : Fin 6) (f : FormV) (s : State) : Ans :=
  runV core 8 4 0 f { vd := true, va := true, vb := true, vc := true, mask := false } (f.imm = 0) (.vroti core f) noCheck s

/-- VROTS (R141). -/
def execVrots (core : Fin 6) (f : FormV) (s : State) : Ans :=
  runV core 8 4 1 f { vd := true, va := true, vb := true, vc := true, mask := false } (f.imm.toNat < 2) (.vrots core f) noCheck s

/-- TLD_TABLE (R143). -/
def execTldTable (core : Fin 6) (f : FormV) (s : State) : Ans :=
  runV core 10 0 0 f { rs := true, tile := true, mask := false } (f.imm.toNat < 8) (.tldTable core f) (tableCheck f) s

/-- TLU (R143). -/
def execTlu (core : Fin 6) (f : FormV) (s : State) : Ans :=
  runV core 10 1 0 f { vd := true, va := true, rs := true } (f.imm.toNat < 256) (.tlu core f) noCheck s

/-- TLI (R143). -/
def execTli (core : Fin 6) (f : FormV) (s : State) : Ans :=
  runV core 10 2 0 f { vd := true, va := true, rs := true } (f.imm.toNat < 256) (.tli core f) noCheck s

/-- VST (R139): a mask with an INT4 or INT2 tile is illegal, which depends on the captured descriptor. -/
def execVst (core : Fin 6) (f : FormV) (s : State) : Ans :=
  runV core 7 6 1 f { va := true, rs := true, tile := true } true (.vst core f)
    (fun x t => if f.me && (t.fmt = 2 || t.fmt = 3) then some (1, ((wordV 7 6 1 f % 2 ^ 32 : Nat) : Int)) else pieceCheck f x t) s

/-- VEXT (R137): s[rs] is pending until it retires. -/
def execVext (core : Fin 6) (f : FormV) (s : State) : Ans :=
  seqRun core (wordV 7 4 5 f) f.pred f.pn (vLegal f { va := true, rs := true, mask := false } (f.imm.toNat < 512)) [f.rs.toNat] []
    (fun s => pendScalar core f.rs.toNat (issue core .twig { op := .vext core f, pc := 0, word := wordV 7 4 5 f } s)) s

/-- VANY (R141): the predicate is pending until it retires. -/
def execVany (core : Fin 6) (f : FormV) (s : State) : Ans :=
  seqRun core (wordV 8 2 0 f) f.pred f.pn (vLegal f { va := true } (1 ≤ f.imm.toNat && f.imm.toNat < 8)) [] [f.imm.toNat]
    (fun s => pendPred core f.imm.toNat (issue core .twig { op := .vany core f, pc := 0, word := wordV 8 2 0 f } s)) s

end Sys2Proof.Machine
end

