-- ==== Sys2Proof/Machine/CrownQuant.lean ====
section
/-! DEFINITION. Quantise and de-quantise, class 0x9 (R144 to R148; 07_quantized_matmul.md puts them together). -/

namespace Sys2Proof

/-- Bit of MOD. -/
def FormQ.wr (f : FormQ) : Bool := f.mod.getLsbD 9
/-- Row zero points. -/
def FormQ.za (f : FormQ) : Bool := f.mod.getLsbD 8
/-- Weight zero points. -/
def FormQ.zw (f : FormQ) : Bool := f.mod.getLsbD 7
/-- Output multiplier. -/
def FormQ.oq (f : FormQ) : Bool := f.mod.getLsbD 6
/-- Row maximum. -/
def FormQ.mx (f : FormQ) : Bool := f.mod.getLsbD 5
/-- Row sum. -/
def FormQ.rsum (f : FormQ) : Bool := f.mod.getLsbD 4
/-- Accumulate into vd. -/
def FormQ.acm (f : FormQ) : Bool := f.mod.getLsbD 3

end Sys2Proof

namespace Sys2Proof.Machine

/-- Output width of OW (R144). -/
def owBits (ow : BitVec 2) : Nat := if ow = 0 then 32 else if ow = 1 then 16 else if ow = 2 then 8 else 4

/-- The format OW names (R145). -/
def owFmt (ow : BitVec 2) : Nat := if ow = 0 then 6 else if ow = 1 then 4 else if ow = 2 then 0 else 2

/-- The scale word in lane `l` of a vector register. -/
def scaleAt (v : Array (BitVec 32)) (l : Nat) : Scale := Scale.ofWord (v.getD l 0).toNat

/-- One row of a drain (R145): the 512 outputs with their flags. -/
def drainRow (k : Crown) (f : FormQ) (x : Int) (e : Nat) : Array Res :=
  let l := e % 512
  let w := owBits f.ow
  let base := f.vr.toNat
  let rowScale := scaleAt (k.vec base) l
  let mult := scaleAt (k.vec (base + 3)) l
  let cols := k.vec f.vb.toNat
  let sums := k.vec f.va.toNat
  let zws := k.vec f.vc.toNat
  let z := if f.za then lane (k.vec (base + 1)) l else 0
  let sr := if f.zw then lane (k.vec (base + 2)) l else 0
  let terms : Int := if f.za && f.zw then (uwrap x 32 / 1024) else 0
  let acc := k.accRow e
  ((List.range 512).map fun j =>
    let s1 := smul rowScale (scaleAt cols j)
    let s2 := if f.oq then smul s1.1 mult else (s1.1, fNone)
    let zc := if f.zw then lane zws j else 0
    let o := throughFreeze (acc.getD j 0) w fun v =>
      let corr := zeroCorr v z (if f.za then lane sums j else 0) zc sr terms
      let r := rescale corr.1 s2.1.m s2.1.e w
      (r.1, corr.2 ||| r.2)
    (o.1, o.2 ||| s1.2 ||| s2.2)).toArray

/-- The largest magnitude of a row. -/
def rowMax (o : Array Res) : Int := o.foldl (fun t y => max t (y.1.natAbs : Int)) 0

/-- Update the row maximum and the row sum of lane `l` (R145). -/
def rowStats (c : Nat) (f : FormQ) (l : Nat) (o : Array Res) (s : State) : State :=
  let s := if f.mx then
      setLane c (f.vr.toNat + 4) l (sat (max (lane ((s.core c).vec (f.vr.toNat + 4)) l) (rowMax o)) 32) s else s
  if f.rsum then
    setLane c (f.vr.toNat + 5) l (sat (lane ((s.core c).vec (f.vr.toNat + 5)) l + o.foldl (fun t y => t + y.1) 0) 32) s
  else s

/-- The flags of a row. -/
def rowFlags (o : Array Res) : BitVec 4 := o.foldl (fun t y => t ||| y.2) fNone

/-- QDRN over the rows of its tile (R145). -/
def drainRows (c : Nat) (e : QEntry) (f : FormQ) : List Nat → State → State
  | [], s => s
  | i :: is, s =>
    let t : Tile := e.t0
    let ent := (uwrap e.x 10).toNat + i
    let s := (readAcc c ent s).2
    if (s.core c).halted then s else
    let o := drainRow (s.core c) f e.x ent
    let s := orFlags c (rowFlags o) s
    let s := if f.wr then (ownWrite c (t.row i) (packRow (owBits f.ow) 512 fun j => (o.getD j (0, 0)).1) s).2 else s
    if (s.core c).halted then s else drainRows c e f is (rowStats c f (ent % 512) o s)

/-- QDQ (R147). -/
def doQdq (c : Nat) (e : QEntry) (f : FormQ) (s : State) : State :=
  let ent := (uwrap e.x 10).toNat
  match readAcc c ent s with
  | (none, s) => s
  | (some _, s) =>
  let k := s.core c
  let o := drainRow k f e.x ent
  let acc := k.accRow ent
  let old := k.vec f.vd.toNat
  let r : Array Res := ((List.range 512).map fun j =>
    let y := o.getD j (0, 0)
    if f.acm then
      if accFrozen (acc.getD j 0) then (if acc.getD j 0 > 0 then smax 32 else smin 32, y.2)
      else let t := sat (lane old j + y.1) 32; (t.1, t.2 ||| y.2)
    else y).toArray
  (orFlags c (rowFlags r) s).setCore c (k.setV f.vd.toNat fun j => BitVec.ofInt 32 (r.getD j (0, 0)).1)

/-- QNT (R147). -/
def doQnt (c : Nat) (e : QEntry) (f : FormQ) (s : State) : State :=
  let t : Tile := e.t0
  let k := s.core c
  let l := laneOf e.x
  let m := scaleAt (k.vec (f.vr.toNat + 3)) l
  let a := k.vec f.va.toNat
  let o : Array Res := ((List.range 512).map fun j => rescale (lane a j) m.m m.e (owBits f.ow)).toArray
  let s := orFlags c (rowFlags o) s
  let s := (ownWrite c (t.row (uwrap e.x 16).toNat) (packRow (owBits f.ow) 512 fun j => (o.getD j (0, 0)).1) s).2
  if (s.core c).halted then s else rowStats c f l o s

/-- Lower the exponent until the mantissa fits 16 bits (R148): the quotient `num * 2^k / den`, kept integral by 32 places. -/
def fitMantissa (num den : Nat) : Nat → Int → Int × Int
  | 0, k => ((rdiv ((num * 2 ^ (k + 32).toNat : Nat) : Int) ((den * 2 ^ 32 : Nat) : Int) 64).1, k)
  | n + 1, k =>
    let m := (rdiv ((num * 2 ^ (k + 32).toNat : Nat) : Int) ((den * 2 ^ 32 : Nat) : Int) 64).1
    if m ≥ 2 ^ 16 then fitMantissa num den n (k - 1) else (m, k)

/-- The scale and multiplier words of one lane of QSCL (R148). -/
def qsclLane (a : Int) (f q : Nat) : (Nat × Nat) × BitVec 4 :=
  let x := absS a 32
  if x.1 = 0 then ((0, 0), fNone)
  else
    let n := x.1.toNat
    let r := fitMantissa n q 3 ((16 : Int) + bitlen q - bitlen n)
    let sc := clampScale r.1 ((f : Int) + r.2)
    let r2 := fitMantissa q n 3 ((16 : Int) + bitlen n - bitlen q)
    ((sc.1.toWord, Scale.toWord ⟨r2.1.toNat, r2.2.toNat⟩), x.2 ||| sc.2)

/-- QSCL (R148). -/
def doQscl (c : Nat) (f : FormQ) (s : State) : State :=
  let k := s.core c
  let a := k.vec f.va.toNat
  let q := if f.ow = 2 then 127 else 7
  let r : Array ((Nat × Nat) × BitVec 4) :=
    ((List.range 512).map fun j => qsclLane (lane a j) (f.mod.toNat % 64) q).toArray
  let k := k.setV f.vd.toNat fun j => BitVec.ofNat 32 (r.getD j ((0, 0), 0)).1.1
  let k := k.setV (f.vd.toNat + 1) fun j => BitVec.ofNat 32 (r.getD j ((0, 0), 0)).1.2
  (orFlags c (r.foldl (fun t y => t ||| y.2) fNone) s).setCore c k

/-- What a class 0x9 instruction does when the Twig unit issues it. -/
def quantEffect (c : Nat) (e : QEntry) (s : State) : State :=
  match e.op with
  | .qdrn _ f => drainRows c e f (List.range (Tile.rows e.t0)) s
  | .qdq _ f => doQdq c e f s
  | .qnt _ f => doQnt c e f s
  | .qscl _ f => doQscl c f s
  | _ => s

/-- The output tile has the format OW names and rows of 512 elements (R145). DESIGN CHOICE for QNT, of which R147 states no shape rule: the same
rule, with TILE_SHAPE (log entry 98). -/
def outShape (f : FormQ) (t : Tile) : Bool := t.fmt = owFmt f.ow && 512 * owBits f.ow / 8 ≤ t.len

/-- Decode an instruction of form Q. -/
def runQ (c : Fin 6) (op : Nat) (f : FormQ) (ok : Bool) (i : Instr) (check : Int → Tile → Option (Nat × Int)) (s : State) : Ans :=
  seqRun c (wordQ op f) f.pred f.pn ok [f.rs.toNat] []
    (fun s =>
      let k := s.core c
      let x := k.sreg f.rs.toNat
      let t := k.treg f.td.toNat
      match check x t with
      | some (cause, w3) => .fault cause w3 0
      | none => issue c .twig { op := i, pc := 0, word := wordQ op f, x := x, t0 := t } s) s

/-- QDRN (R145). -/
def execQdrn (core : Fin 6) (f : FormQ) (s : State) : Ans :=
  runQ core 0 f (f.vd = 0 && f.vr.toNat ≤ 58 && f.mod.toNat % 16 = 0) (.qdrn core f)
    (fun x t =>
      if f.wr && !(outShape f t) then some (0x10, (f.td.toNat : Int))
      else if (uwrap x 10).toNat + t.rows > 1024 then some (0x11, x) else none) s

/-- QDQ (R147). -/
def execQdq (core : Fin 6) (f : FormQ) (s : State) : Ans :=
  runQ core 1 f (f.td = 0 && f.vr.toNat ≤ 58 && f.mod.toNat % 8 = 0 && !f.wr && !f.mx && !f.rsum) (.qdq core f) noCheck s

/-- QNT (R147). The TILE_SHAPE check of its output tile is a DESIGN CHOICE (log entry 98). -/
def execQnt (core : Fin 6) (f : FormQ) (s : State) : Ans :=
  runQ core 2 f
    (f.vd = 0 && f.vb = 0 && f.vc = 0 && f.vr.toNat ≤ 58 && f.ow ≠ 0 && f.mod.toNat % 16 = 0 && !f.wr && !f.za && !f.zw && !f.oq)
    (.qnt core f)
    (fun x t =>
      if !(outShape f t) then some (0x10, (f.td.toNat : Int))
      else if (uwrap x 16).toNat ≥ t.rows then some (0x13, x) else none) s

/-- QSCL (R147, R148). -/
def execQscl (core : Fin 6) (f : FormQ) (s : State) : Ans :=
  runQ core 3 f
    (f.td = 0 && f.vb = 0 && f.vc = 0 && f.vr = 0 && f.rs = 0 && f.vd.toNat ≤ 62 && (f.ow = 2 || f.ow = 3) && f.mod.toNat < 64)
    (.qscl core f) noCheck s

end Sys2Proof.Machine
end

