-- ==== Sys2Proof/Machine/SeedbedPix.lean ====
section
/-! DEFINITION. Seedbed's pixels: unpacking, debayering, resizing, orientation and quantisation (R234, R242 to R244), and the
fields of a stream descriptor (R236). -/

namespace Sys2Proof.Machine

/-! ### Descriptor fields -/

/-- Little-endian field of `n` bytes at byte `i` of a descriptor or record. -/
def leAt (d : List Byte) (i n : Nat) : Nat := leNat ((d.drop i).take n)

/-- Signed 32-bit field. -/
def leAtS (d : List Byte) (i : Nat) : Int := sextN (leAt d i 4) 32

/-- A stream descriptor is for host samples (R236). -/
def sdHost (d : List Byte) : Bool := leAt d 0 1 % 16 = 15

/-- The context of a stream. -/
def sdCtx (d : List Byte) : Nat := leAt d 10 1 % 64

/-- Bits of a pixel code by input type: 10, 12, 16, or 8 (R242). -/
def dtBits (dt : Nat) : Nat := if dt = 0x2B then 10 else if dt = 0x2C then 12 else if dt = 0x2E then 16 else 8

/-- The image types of the receivers (R233). -/
def cameraDt (dt : Nat) : Bool := dt = 0x2B || dt = 0x2C || dt = 0x2E || dt = 0x1E

/-- The RAW types. -/
def rawDt (dt : Nat) : Bool := dt = 0x2B || dt = 0x2C || dt = 0x2E

/-- Payload bytes of a line of `w` pixels (R234, R236). -/
def lineBytes (dt w : Nat) : Nat :=
  if rawDt dt then (w * dtBits dt + 7) / 8 else if dt = 0x1E then 2 * w else 3 * w

/-- Channels of the tensor (R242). -/
def channels (dt dms : Nat) : Nat := if rawDt dt && dms = 0 then 1 else 3

/-! ### Input codes (R234, R242) -/

/-- Byte `i` of line `y`. -/
def lineByte (l : Array (Array Byte)) (y i : Nat) : Nat := ((l.getD y #[]).getD i 0).toNat

/-- Channel `c` of the input pixel at `x` of line `y`: the code of a RAW pixel, Y, U, V of a UYVY pixel, R, G, B. RAW16 is
little-endian (R10). -/
def inCode (dt : Nat) (l : Array (Array Byte)) (y x c : Nat) : Nat :=
  if dt = 0x2B then lineByte l y (x / 4 * 5 + x % 4) * 4 + slice (lineByte l y (lowByte x)) (2 * (x % 4) + 1) (2 * (x % 4))
  else if dt = 0x2C then lineByte l y (x / 2 * 3 + x % 2) * 16 + slice (lineByte l y (x / 2 * 3 + 2)) (4 * (x % 2) + 3) (4 * (x % 2))
  else if dt = 0x2E then lineByte l y (2 * x) + 256 * lineByte l y (2 * x + 1)
  else if dt = 0x1E then
    (if c = 0 then lineByte l y (2 * x + 1) else if c = 1 then lineByte l y (x / 2 * 4) else lineByte l y (x / 2 * 4 + 2))
  else lineByte l y (3 * x + c)
where
  /-- The byte of low bits of a RAW10 pixel: the fifth of its group, the third where the last group holds 2 pixels. -/
  lowByte (x : Nat) : Nat :=
    let g := x / 4 * 5
    if g + 4 < (l.getD y #[]).size then g + 4 else g + 2

/-- The UINT16 value of an input code after the black level (R242). -/
def inVal (dt bl : Nat) (l : Array (Array Byte)) (y x c : Nat) : Int :=
  max (((inCode dt l y x c * 2 ^ (16 - dtBits dt) : Nat) : Int) - bl) 0

/-! ### Debayering (R242) -/

/-- Colour of the mosaic at a position: 0 R, 1 G, 2 B. -/
def cfaColour (cfa y x : Nat) : Nat :=
  let gx := (x + cfa % 2) % 2
  let gy := (y + cfa / 2) % 2
  if gx = 0 && gy = 0 then 0 else if gx = 1 && gy = 1 then 2 else 1

/-- Index −1 reads 1 and index `n` reads `n - 2`. -/
def mirror (i : Int) (n : Nat) : Nat := if i < 0 then 1 else if (n : Int) ≤ i then n - 2 else i.toNat

/-- A pixel function of row, column and channel. -/
abbrev Pix := Nat → Nat → Nat → Int

/-- The four quad positions in order, with their colours. -/
def quadVal (cfa : Nat) (v : Nat → Nat → Int) (y x c : Nat) : Int :=
  let ps := [(0, 0), (0, 1), (1, 0), (1, 1)].filter fun p => cfaColour cfa p.1 p.2 = c
  let t := ps.foldl (fun t p => t + v (2 * y + p.1) (2 * x + p.2)) 0
  if c = 1 then rne t 1 else t

/-- Bilinear debayering: the own colour, otherwise the neighbours of that colour in line, in cross or diagonal. -/
def bilinearVal (cfa w h : Nat) (v : Nat → Nat → Int) (y x c : Nat) : Int :=
  let at' (dy dx : Int) : Int := v (mirror (y + dy) h) (mirror (x + dx) w)
  let own := cfaColour cfa y x
  if own = c then v y x
  else if own = 1 then
    (if cfaColour cfa y (x + 1) = c then rne (at' 0 (-1) + at' 0 1) 1 else rne (at' (-1) 0 + at' 1 0) 1)
  else if c = 1 then rne (at' 0 (-1) + at' 0 1 + at' (-1) 0 + at' 1 0) 2
  else rne (at' (-1) (-1) + at' (-1) 1 + at' 1 (-1) + at' 1 1) 2

/-- Debayer a crop of `w` by `h` pixels: the pixel function, its width and its height. -/
def debayer (dt dms cfa w h : Nat) (v : Pix) : Pix × Nat × Nat :=
  if rawDt dt && dms = 1 then (quadVal cfa fun y x => v y x 0, w / 2, h / 2)
  else if rawDt dt && dms = 2 then (bilinearVal cfa w h fun y x => v y x 0, w, h)
  else (v, w, h)

/-! ### Resizing and orientation (R243) -/

/-- Source position, in 256ths, of output index `o` for step `st`. -/
def resizePos (st : Int) (o n : Nat) : Nat := (min (max (rne ((2 * o + 1 : Nat) * st) 1 - 128) 0) ((n - 1) * 256 : Nat)).toNat

/-- A resized channel value. -/
def resizeVal (d : Pix) (dw dh rw rh yo xo c : Nat) : Int :=
  let px := resizePos (rdiv (dw * 256 : Nat) rw 32).1 xo dw
  let py := resizePos (rdiv (dh * 256 : Nat) rh 32).1 yo dh
  let i := px / 256
  let j := py / 256
  let fx : Int := (px % 256 : Nat)
  let fy : Int := (py % 256 : Nat)
  let term (w : Int) (y x : Nat) : Int := if w = 0 then 0 else w * d y x c
  rne (term ((256 - fx) * (256 - fy)) j i + term (fx * (256 - fy)) j (i + 1) + term ((256 - fx) * fy) (j + 1) i + term (fx * fy) (j + 1) (i + 1)) 16

/-- The resized position that the output position shows. -/
def orient (ori rw rh y x : Nat) : Nat × Nat :=
  let (y, x) := if ori.testBit 2 then (x, y) else (y, x)
  (if ori.testBit 1 then rh - 1 - y else y, if ori.testBit 0 then rw - 1 - x else x)

/-! ### Quantisation (R244) -/

/-- The code of a channel value with its flags. -/
def sdCode (d aug : List Byte) (v : Int) (c : Nat) : Res :=
  let (v, f1) := usat (rne (v * leAt aug (12 + 2 * c) 2) 12) 16
  let sc := Scale.ofWord (leAt d (76 + 4 * c) 4)
  let (r, f2) := rescale (v - leAtS d (64 + 4 * c)) sc.m sc.e 32
  let (q, f3) := sat (r + ((leAt d 56 1 : Nat) - 128 : Int)) 8
  (q, f1 ||| f2 ||| f3)

/-! ### Checks (R236, R237, R240, R242, R243, R245) -/

/-- The augmentation block is legal for a frame of `iw` by `ih` pixels (R240). -/
def augOk (aug : List Byte) (iw ih : Nat) : Bool :=
  let cx := leAt aug 0 2
  let cy := leAt aug 2 2
  let cw := leAt aug 4 2
  let ch := leAt aug 6 2
  cx % 2 = 0 && cy % 2 = 0 && cw % 2 = 0 && ch % 2 = 0 && 2 ≤ cw && 2 ≤ ch && cx + cw ≤ iw && cy + ch ≤ ih && leAt aug 8 1 < 8
    && leAt aug 9 3 = 0 && leAt aug 18 14 = 0

/-- The resize target in the direction of the input (R243). -/
def resizeTarget (d aug : List Byte) : Nat × Nat :=
  if (leAt aug 8 1).testBit 2 then (leAt d 32 2, leAt d 30 2) else (leAt d 30 2, leAt d 32 2)

/-- The debayered size of a crop. -/
def debayeredSize (d aug : List Byte) : Nat × Nat :=
  let k := if rawDt (leAt d 2 1) && slice (leAt d 3 1) 3 2 = 1 then 2 else 1
  (leAt aug 4 2 / k, leAt aug 6 2 / k)

/-- The resize stays between 1 and 1/4 (R243). -/
def resizeOk (d aug : List Byte) : Bool :=
  let (rw, rh) := resizeTarget d aug
  let (dw, dh) := debayeredSize d aug
  rw ≤ dw && dw ≤ 4 * rw && rh ≤ dh && dh ≤ 4 * rh

/-- Patch size, 0 for image layout. -/
def sdPatch (d : List Byte) : Nat := leAt d 34 1
/-- Packing. -/
def sdPack (d : List Byte) : Bool := (leAt d 35 1).testBit 0
/-- Writing of tag words. -/
def sdTags (d : List Byte) : Bool := (leAt d 35 1).testBit 1
/-- Channels of the stream's tensors. -/
def sdChans (d : List Byte) : Nat := channels (leAt d 2 1) (slice (leAt d 3 1) 3 2)
/-- Tokens of a sample (R245). -/
def sdTokens (d : List Byte) : Nat := (leAt d 30 2 / sdPatch d) * (leAt d 32 2 / sdPatch d)

/-- The layout rules of R245; a packed stream judges the token count by R246. -/
def layoutOk (d : List Byte) : Bool :=
  let ow := leAt d 30 2
  let oh := leAt d 32 2
  let p := sdPatch d
  if p = 0 then ow * sdChans d ≤ leAt d 36 4
  else ow % p = 0 && oh % p = 0 && (sdPack d || sdTokens d ≤ leAt d 48 2) && p * p * sdChans d ≤ leAt d 36 4

/-- Does a value in the SIGTGT format of R182 name a ring? -/
def sigtgtOk (t : Nat) : Bool := t / 1024 = 6 || (t / 1024 < 6 && t % 1024 < 256)

/-- No reserved byte is non-zero and no field is outside the range its row states (R236, R237, R242, R246). -/
def streamLegal (d : List Byte) : Bool :=
  let host := sdHost d
  let dt := leAt d 2 1
  let dms := slice (leAt d 3 1) 3 2
  let p := sdPatch d
  leAt d 57 7 = 0 && leAt d 160 96 = 0 && leAt d 0 1 < 16 && (if host then leAt d 1 1 = 0 else leAt d 1 1 < 16)
    && (cameraDt dt || (host && dt = 0x24)) && dms ≠ 3 && (rawDt dt || dms = 0)
    && (host || (2 ≤ leAt d 4 2 && leAt d 4 2 ≤ 8192 && leAt d 4 2 % 2 = 0 && 2 ≤ leAt d 6 2 && leAt d 6 2 ≤ 8192 && leAt d 6 2 % 2 = 0))
    && sigtgtOk (leAt d 12 2) && leAt d 14 2 < 2 ^ 13 && slice (leAt d 14 2) 12 10 = 6 && leAt d 16 8 % 64 = 0 && leAt d 24 4 % 64 = 0 && 1 ≤ leAt d 28 2 && leAt d 28 2 ≤ 1024
    && (p = 0 || p = 4 || p = 8 || p = 14 || p = 16 || p = 32) && (p = 0 || (leAt d 36 4 % 64 = 0 && 1 ≤ leAt d 48 2 && leAt d 48 2 ≤ 4096))
    && (!(sdPack d) || (p ≠ 0 && sdTags d)) && leAt d 120 8 % 128 = 0 && leAt d 128 1 % 16 ≤ 12
    && (!(host || (leAt d 129 1).testBit 4) || (leAt d 129 1 % 16 ≤ 10 && leAt d 130 2 < 2 ^ 13 && slice (leAt d 130 2) 12 10 = 6 && leAt d 132 8 % 64 = 0))

/-! ### A sample and the test pattern -/

/-- Channel values of a sample after debayering, its width and height: the crop of the input. -/
def sampleVals (d aug : List Byte) (l : Array (Array Byte)) : Pix × Nat × Nat :=
  let dt := leAt d 2 1
  let m := leAt d 3 1
  debayer dt (slice m 3 2) (slice m 1 0) (leAt aug 4 2) (leAt aug 6 2) fun y x c =>
    inVal dt (leAt d 8 2) l (leAt aug 2 2 + y) (leAt aug 0 2 + x) c

/-- The code with its flags of the tensor element at row `y`, column `x`, channel `c`. -/
def sampleCode (d aug : List Byte) (v : Pix × Nat × Nat) (y x c : Nat) : Res :=
  let (rw, rh) := resizeTarget d aug
  let (yr, xr) := orient (leAt aug 8 1) rw rh y x
  sdCode d aug (resizeVal v.1 v.2.1 v.2.2 rw rh yr xr c) c

/-- Bytes of a list of codes and the flags they set. -/
def codesOf (l : List Res) : List Byte × BitVec 4 :=
  (l.map fun r => BitVec.ofInt 8 r.1, l.foldl (fun t r => t ||| r.2) fNone)

/-- The rows of the tensor (image layout) or its tokens (patch layout) as bytes, with the sample's flags (R245). -/
def sampleRows (d aug : List Byte) (l : Array (Array Byte)) : List (List Byte) × BitVec 4 :=
  let v := sampleVals d aug l
  let cs := List.range (sdChans d)
  let p := sdPatch d
  let rows :=
    if p = 0 then
      (List.range (leAt d 32 2)).map fun y => codesOf ((List.range (leAt d 30 2)).flatMap fun x => cs.map fun c => sampleCode d aug v y x c)
    else
      let w := leAt d 30 2 / p
      (List.range (sdTokens d)).map fun t =>
        let r := codesOf ((List.range p).flatMap fun dy => (List.range p).flatMap fun dx => cs.map fun c =>
          sampleCode d aug v (t / w * p + dy) (t % w * p + dx) c)
        (r.1 ++ List.replicate (leAt d 36 4 - r.1.length) 0, r.2)
  (rows.map (·.1), rows.foldl (fun t r => t ||| r.2) fNone)

/-- Word `k` of the test pattern's sequence: bits 31 to 16 (R251). -/
def tpWord (seed k : Nat) : Nat := ((k + 1) * 0x9E3779B9 + seed) % 2 ^ 32 / 2 ^ 16

/-- An input value of the 64 by 64 test pattern (R251). -/
def tpVal (d : List Byte) (y x c : Nat) : Int :=
  let dt := leAt d 2 1
  let seed := leAt d 152 4
  let b := dtBits dt
  let code :=
    if dt = 0x1E then tpWord seed (y * 128 + (if c = 0 then 2 * x + 1 else if c = 1 then x / 2 * 4 else x / 2 * 4 + 2)) / 2 ^ 8
    else tpWord seed (y * 64 + x) / 2 ^ (16 - b)
  max (((code * 2 ^ (16 - b) : Nat) : Int) - leAt d 8 2) 0

/-- CRC-32C of the test pattern's output codes (R251). -/
def tpCrc (d : List Byte) : Nat :=
  let m := leAt d 3 1
  let (v, w, h) := debayer (leAt d 2 1) (slice m 3 2) (slice m 1 0) 64 64 (tpVal d)
  crc32c ((List.range h).flatMap fun y => (List.range w).flatMap fun x => (List.range (sdChans d)).map fun c =>
    BitVec.ofInt 8 (sdCode d ((d.drop 88).take 32) (v y x c) c).1)

end Sys2Proof.Machine
end

