-- ==== Sys2Proof/Machine/Seedbed.lean ====
section
/-! DEFINITION. Seedbed: receivers, streams, admission, packing, emergence, guards and records (R233 to R257). -/

namespace Sys2Proof.Machine

/-- Seedbed's OID (R31). -/
def sdOid : Nat := 0x19

/-- Seedbed's record updated. -/
def State.setSdb (s : State) (x : Seedbed) : State := { s with sdb := x }

/-- Internal state of stream `n`. -/
def sdStream (s : State) (n : Nat) : SdbStream := spGet {} s.sdb.streams n

/-- Set the internal state of stream `n`. -/
def setStream (n : Nat) (x : SdbStream) (s : State) : State := s.setSdb { s.sdb with streams := spSet {} n x s.sdb.streams }

/-- The descriptor of stream `n` in Seedbed's parameter memory (R235). -/
def sdDescOf (s : State) (n : Nat) : List Byte := s.bytes (0x2022200000 + 0x100 * n) 256

/-- The descriptor in force: memory while the stream is enabled (its bytes are locked then, R236), as latched for samples in flight. -/
def sdDesc (s : State) (n : Nat) : List Byte := (sdStream s n).desc

/-- The open frame of a receiver and virtual channel. -/
def openFrame (s : State) (rx vc : Nat) : Option SdbFrame := s.sdb.frames.find? fun f => f.rx = rx && f.vc = vc

/-- Replace the open frame of its receiver and virtual channel. -/
def setFrame (f : SdbFrame) (s : State) : State :=
  s.setSdb { s.sdb with frames := s.sdb.frames.map fun g => if g.rx = f.rx && g.vc = f.vc then f else g }

/-- Parts of the buffer regions hold Seedbed's data (R235, log entry 24). -/
def fillBuffers (l : List Nat) (s : State) : State :=
  s.setSdb { s.sdb with filled := s.sdb.filled ++ l.filter fun p => !(s.sdb.filled.contains p) }

/-- Remove the open frame; INFRAME falls with the receiver's last (R257). -/
def dropFrame (rx vc : Nat) (s : State) : State :=
  let fs := s.sdb.frames.filter fun f => !(f.rx = rx && f.vc = vc)
  (s.setSdb { s.sdb with frames := fs }).put (F.CSI_STAT_INFRAME rx) (ofBool (fs.any fun f => f.rx = rx))

/-- Is stream `n` an enabled camera stream that names a receiver and virtual channel (R237)? -/
def namesVc (s : State) (rx vc n : Nat) : Bool :=
  s.flag (F.SDB_STR_CTRL_EN n) && leAt (sdDesc s n) 0 1 % 16 = rx && leAt (sdDesc s n) 1 1 = vc && cameraDt (leAt (sdDesc s n) 2 1)

/-- The stream that takes the frames of a receiver and virtual channel: the lowest enabled camera stream that names them (R237). -/
def claimant (s : State) (rx vc : Nat) : Option Nat := (List.range 16).find? fun n => namesVc s rx vc n

/-- The other enabled streams that name the virtual channel: they admit no frame, but their frame counters count (R237, R238). -/
def countOthers (rx vc n : Nat) (s : State) : State :=
  ((List.range 16).filter fun m => m ≠ n && namesVc s rx vc m).foldl (fun s m => s.incMod (F.SDB_STR_FCNT_CNT m)) s

/-- Is anything received on receiver `rx`? -/
def rxOn (s : State) (rx : Nat) : Bool := s.flag F.SDB_CTRL_EN && s.flag (F.CSI_CTRL_EN rx)

/-- A packet dropped and counted (R233). -/
def vcDrop (rx : Nat) (s : State) : State := s.incHold (F.CSI_PAYERR_VCDROP rx)

/-- Header ECC of a packet: 0 good, 1 corrected, 2 uncorrectable (R233, R257). -/
def countEcc (rx ecc : Nat) (s : State) : State :=
  if ecc = 1 then s.incHold (F.CSI_HDRERR_ECCCOR rx) else if ecc = 2 then s.incHold (F.CSI_HDRERR_ECCUNC rx) else s

/-- A frame is damaged for reasons `bits` (R234): CSI_LINK_ERR once. -/
def damage (f : SdbFrame) (bits : Nat) (s : State) : State :=
  if f.bad then s
  else
    raise { code := 0xE005, oid := sdOid, ctx := sdCtx f.desc, sev := 1, a0 := f.rx, a1 := bits, a2 := f.vc, a3 := leAt f.desc 2 1 }
      (setFrame { f with bad := true } s)

/-! ### Credits (R247) -/

/-- Does a slot credit exist? -/
def hasCredit (s : State) (d : List Byte) (x : SdbStream) : Bool :=
  (x.taken : Int) - wrap ((ringVal s (leAt d 14 2) : Int) - x.u0) 32 < leAt d 28 2

/-! ### Records (R248, R252, R253) -/

/-- The 128 bytes of a record. -/
def recBytes (r : SdbRec) : List Byte :=
  leBytes 4 r.sid ++ leBytes 4 r.fcnt ++ leBytes 8 r.time ++ leBytes 1 r.status ++ leBytes 1 r.guard ++ leBytes 2 r.slot
    ++ leBytes 2 r.seg ++ leBytes 2 r.tok0 ++ leBytes 4 r.flags ++ leBytes 4 r.rcrc ++ leBytes 4 r.scrc ++ leBytes 2 r.num
    ++ leBytes 2 r.ntok ++ leBytes 8 r.tdone ++ List.replicate 16 0 ++ r.emb ++ List.replicate (64 - r.emb.length) 0

/-- Write a record, hand it to Heartwood (R19) and raise SAMPLE_FAILED for every status but 0x01. -/
def writeRecord (n : Nat) (d : List Byte) (s : State) (r : SdbRec) : State :=
  let i := s.fld (F.SDB_STR_RECWR_CNT n)
  let s := (nocWrite sdOid (sdCtx d) (leAt d 120 6 + i % 2 ^ (leAt d 128 1 % 16) * 128) (recBytes r) s).2
  let s := s.incMod (F.SDB_STR_RECWR_CNT n)
  let tab := spGet [] s.frameTab n ++ [(⟨r.fcnt, r.time, r.status⟩ : FrameRec)]
  let s := { s with frameTab := spSet [] n (tab.drop (tab.length - 64)) s.frameTab }
  if r.status = 1 then s
  else
    raise { code := 0xE001, oid := sdOid, ctx := sdCtx d, sev := 1, a0 := n + r.status * 2 ^ 8, a1 := r.sid, a2 := r.fcnt, a3 := r.guard }
      (s.incMod (F.SDB_STR_FAIL_CNT n))

/-- A tensor emerges (R20, R248): the records, Heartwood, then the ring. -/
def emergeTensor (n : Nat) (d : List Byte) (rs : List SdbRec) (s : State) : State :=
  let s := rs.foldl (writeRecord n d) s
  let s := s.incMod (F.SDB_STR_EMIT_CNT n)
  if (ringReg (leAt d 12 2)).isSome then (netSignal (leAt d 12 2) sdOid (sdCtx d) 1 s).2 else s

/-- A failed sample's record in its turn: behind the samples of an open row, else at once (R248). -/
def emergeFailed (n : Nat) (d : List Byte) (r : SdbRec) (s : State) : State :=
  let x := sdStream s n
  match x.row with
  | some w => setStream n { x with row := some { w with recs := w.recs ++ [r] } } s
  | none => writeRecord n d s r

/-! ### Writing tensors (R245, R246) -/

/-- Write byte strings at rising addresses; false when Bark or memory refuses one. -/
def writeRows (ctx base pitch : Nat) : List (List Byte) → State → Bool × State
  | [], s => (true, s)
  | b :: bs, s =>
    match nocWrite sdOid ctx base b s with
    | (true, s) => writeRows ctx (base + pitch) pitch bs s
    | (false, s) => (false, s)

/-- Write tokens from number `t0` of slot `k` on, and their tag words when the stream writes them. -/
def writeTokens (d : List Byte) (k t0 : Nat) (rows : List (List Byte)) (tag : Nat → Nat) (s : State) : Bool × State :=
  match writeRows (sdCtx d) (leAt d 16 6 + k * leAt d 24 4 + t0 * leAt d 36 4) (leAt d 36 4) rows s with
  | (false, s) => (false, s)
  | (true, s) =>
    if sdTags d then
      writeRows (sdCtx d) (leAt d 40 6 + k * (4 * leAt d 48 2) + 4 * t0) 4 ((List.range rows.length).map fun i => leBytes 4 (tag i)) s
    else (true, s)

/-- Close the open row of stream `n` (R246): unused tokens are 0 with the padding tag, and the row emerges. -/
def closeRow (n : Nat) (s : State) : State :=
  let x := sdStream s n
  match x.row with
  | none => s
  | some w =>
    let rest := leAt w.desc 48 2 - w.used
    let s := (writeTokens w.desc w.slot w.used (List.replicate rest (List.replicate (leAt w.desc 36 4) 0)) (fun _ => 0xFFFFFFFF) s).2
    emergeTensor n w.desc w.recs (setStream n { sdStream s n with row := none } s)

/-! ### Admission (R238, R239, R247) -/

/-- Put a sample in flight. -/
def putFlight (n : Nat) (f : SdbSample) (s : State) : State :=
  let x := sdStream s n
  setStream n { x with flights := x.flights ++ [f], nextId := x.nextId + 1, taken := x.taken + ofBool f.credit } s

/-- Is the sample's status of R237, R242 or R245 fixed at admission? -/
def admitStatus (d : List Byte) : Option Nat := if layoutOk d then none else some 0x16

/-- The augmentation block of a camera frame (R241): the next pending record of the queue, or DAUG; the spec does not say what an
unreadable record holds, so its bytes are free values. -/
def takeAug (n : Nat) (d : List Byte) (s : State) : List Byte × State :=
  let head := s.fld (F.SDB_STR_HEAD_CNT n)
  if (leAt d 129 1).testBit 4 && decide (0 < wrap ((ringVal s (leAt d 130 2) : Int) - head) 32) then
    let r := nocRead sdOid (sdCtx d) (leAt d 132 6 + head % 2 ^ (leAt d 129 1 % 16) * 32) 32 s
    let s := r.2.incMod (F.SDB_STR_HEAD_CNT n)
    match r.1 with
    | some b => (b, s)
    | none => s.freeBytes 32
  else ((d.drop 88).take 32, s)

/-- Does a sample close the packed row (R246)? -/
def closes (f : SdbSample) : Bool := sdPack f.desc && f.hdesc ≠ [] && (leAt f.hdesc 12 1).testBit 0

/-- Emerge flight number `i` of stream `n` as a record alone; with CLOSE it closes the open row (R246). -/
def failFlight (n i : Nat) (f : SdbSample) (status : Nat) (s : State) : State :=
  let x := sdStream s n
  let s := setStream n { x with flights := x.flights.eraseIdx i, taken := x.taken - ofBool f.credit } s
  let s := emergeFailed n f.desc { f.r with status := status, tdone := recTime s.ns } s
  if closes f then closeRow n s else s

/-- The latest edge of stream state `x` whose window holds time `t`: its place (R238). -/
def edgeOf (d : List Byte) (x : SdbStream) (t : Nat) : Option Nat :=
  let us := 1000 * 65536
  ((List.range x.edges.length).filter fun i =>
    match x.edges[i]? with
    | some e => decide (e.t + leAt d 140 2 * us ≤ t) && decide (t ≤ e.t + leAt d 142 2 * us)
    | none => false).getLast?

/-- The frame start of a stream (R238, R247, R250, R251). -/
def streamFrameStart (rx vc num n : Nat) (s : State) : State :=
  let d := sdDesc s n
  let x := sdStream s n
  let s := s.incMod (F.SDB_STR_FCNT_CNT n)
  let fcnt := s.fld (F.SDB_STR_FCNT_CNT n)
  let want := match x.prevNum with | some p => if p = 0xFFFF then 1 else p + 1 | none => num
  let skip := (leAt d 151 1).testBit 0 && want ≠ num
  let s := if skip then raise { code := 0xE003, oid := sdOid, ctx := sdCtx d, sev := 0, a0 := n, a1 := want, a2 := num } s else s
  let s := if x.tp then s.incMod F.SDB_TPABN_CNT else s
  let tpbad := (leAt d 151 1).testBit 3 && s.flag (F.SDB_STR_STAT_TPBAD n)
  let now := s.time
  let trig := (leAt d 11 1).testBit 3
  let at' := if trig then edgeOf d x now else none
  let edge := at'.bind fun i => x.edges[i]?
  let status : Option Nat :=
    if trig && (match edge with | some e => e.framed | none => true) then some 0x13
    else if (x.row.isNone || !(sdPack d)) && !(hasCredit s d x) then some 0x14
    else none
  let time := match edge with
    | some e => recTime (e.t / 65536)
    | none => recTime s.ns
  let r : SdbRec := { sid := fcnt, fcnt := fcnt, time := time, num := num
                      guard := (if tpbad then 4 else 0) + (if skip then 8 else 0) + (if x.tpok then 16 else 0) }
  let x := { sdStream s n with
    prevNum := some num, tp := false, tpok := false, start := some (now, s.elapsed)
    edges := (List.range x.edges.length).filterMap fun i =>
      (x.edges[i]?).map fun e => if at' = some i && status ≠ some 0x13 then { e with framed := true } else e }
  let s := setStream n x s
  let id := x.nextId
  match status with
  | some st =>
    let fr := s.freeNat
    let f : SdbSample := { id := id, desc := d, r := { r with rcrc := fr.1 % 2 ^ 32 }, st := some st, ready := true, strict := s.flag F.SYS_STRICT_STRICT }
    let s := putFlight n f fr.2
    let s := s.setSdb { s.sdb with frames := s.sdb.frames ++ [{ rx := rx, vc := vc, stream := n, desc := d, samp := none }] }
    if s.flag F.SYS_STRICT_STRICT && x.flights ≠ [] then s else failFlight n x.flights.length f st s
  | none =>
    let (aug, s) := takeAug n d s
    let f : SdbSample := { id := id, desc := d, r := r, st := admitStatus d, aug := aug, credit := !(sdPack d)
                           strict := s.flag F.SYS_STRICT_STRICT }
    let s := (putFlight n f s).incMod (F.SDB_STR_ADM_CNT n)
    s.setSdb { s.sdb with frames := s.sdb.frames ++ [{ rx := rx, vc := vc, stream := n, desc := d, samp := some id }] }

/-! ### The end of a frame (R234, R250) -/

/-- The sensor CRC in the first embedded line (R250). -/
def sensorCrc (d : List Byte) (emb : Option (List Byte)) : Option Nat :=
  let o := leAt d 148 2
  match emb with
  | some e => if o ≠ 0xFFFF && o + 4 ≤ e.length then some (leAt e o 4) else none
  | none => none

/-- An open frame closes: its sample gets its input and the outcome of the guard checks. Lines that never came are free values. -/
def endFrame (f : SdbFrame) (s : State) : State :=
  let n := f.stream
  let d := f.desc
  let x := sdStream s n
  let rcrc := f.crc ^^^ 0xFFFFFFFF
  let g := leAt d 151 1
  let sc := sensorCrc d f.emb
  let live := x.flights.any fun y => some y.id = f.samp
  let whole := !f.bad && !f.lost
  let run := if x.lastCrc = some rcrc then x.run + 1 else 0
  let stuck := g.testBit 2 && 1 ≤ leAt d 150 1 && leAt d 150 1 ≤ run
  let bads := ofBool (g.testBit 1 && leAt d 148 2 ≠ 0xFFFF && sc ≠ some rcrc) + 2 * ofBool stuck
  let miss := if whole then (leAt d 6 2 - f.n) * lineBytes (leAt d 2 1) (leAt d 4 2) else 0
  let fb := if live then s.freeBytes miss else ([], s)
  let lines := f.lines ++ [fb.1]
  let s := fb.2
  let y := sdStream s n
  let done (q : SdbSample) : SdbSample :=
    if some q.id = f.samp then
      let guard := if whole then q.r.guard + bads else q.r.guard
      let st : Option Nat :=
        if q.st.isSome then q.st else if f.bad then some 0x11 else if f.lost then some 0x15
        else if guard % 8 ≠ 0 then some 0x10 else none
      { q with r := { q.r with guard := guard, rcrc := rcrc, scrc := sc.getD 0, emb := (f.emb.getD []).take 64 }, st := st
               input := if whole then lines else [], ready := true }
    else q
  let s := setStream n { y with flights := y.flights.map done
                                run := if live && whole then run else y.run
                                lastCrc := if live && whole then some rcrc else y.lastCrc } s
  let s := if live && whole then s.put (F.SDB_STR_STAT_STUCK n) (ofBool stuck) else s
  dropFrame f.rx f.vc s

/-! ### The commands -/

/-- CSI_FRAME_START (R238). -/
def execCsiFrameStart (rx : Fin 12) (vc : BitVec 4) (num : BitVec 16) (ecc : Fin 3) (s : State) : Ans :=
  if !(rxOn s rx) then .next s
  else
    let s := countEcc rx ecc s
    let old := openFrame s rx vc.toNat
    if ecc = 2 then
      .next (match old with | some f => damage f 1 s | none => s)
    else
      let s := s.incMod (F.CSI_FRAMES_CNT rx)
      let s := match old with
        | some f => let s := damage f 4 s
                    endFrame { f with bad := true } s
        | none => s
      match claimant s rx vc.toNat with
      | none => .next (vcDrop rx s)
      | some n => .next (countOthers rx vc.toNat n ((streamFrameStart rx vc.toNat num.toNat n s).put (F.CSI_STAT_INFRAME rx) 1))

/-- CSI_LONG_PACKET (R233, R234, R249, R250): `dt` and payload of a long packet, its header ECC, whether its CRC-16 is right, and
whether the line fits in the line buffer. -/
def execCsiLongPacket (rx : Fin 12) (vc : BitVec 4) (dt : BitVec 6) (ecc : Fin 3) (crcOk fits : Bool) (payload : List Byte) (s : State) : Ans :=
  if !(rxOn s rx) then .next s
  else
    let s := countEcc rx ecc s
    let old := openFrame s rx vc.toNat
    if ecc = 2 then
      .next (match old with | some f => damage f 1 s | none => s)
    else
      let s := if crcOk then s else s.incHold (F.CSI_PAYERR_CRCERR rx)
      if !(cameraDt dt.toNat) && dt.toNat ≠ 0x12 then
        let s := vcDrop rx s
        .next (match old with
          | some f => if crcOk then s else damage f 2 s
          | none => s)
      else
        match old with
        | none => .next (if (claimant s rx vc.toNat).isNone then vcDrop rx s else s)
        | some f =>
          let bad := ofBool (!crcOk) * 2
          if dt.toNat = 0x12 then
            let f := { f with emb := if f.emb.isNone then some payload else f.emb }
            let s := setFrame f s
            .next (if bad = 0 then s else damage f bad s)
          else
            let wrong := payload.length ≠ lineBytes (leAt f.desc 2 1) (leAt f.desc 4 2) || leAt f.desc 6 2 ≤ f.n
            let bad := bad + ofBool wrong * 8
            let f := { f with n := f.n + 1, crc := payload.foldl (crcByte 0x82F63B78) f.crc, lost := f.lost || !fits
                              lines := if f.bad || bad ≠ 0 || !fits || f.samp.isNone then f.lines else f.lines ++ [payload] }
            let s := fillBuffers [rx] (setFrame f s)
            .next (if bad = 0 then s else damage f bad s)

/-- CSI_FRAME_END (R250, R251). -/
def execCsiFrameEnd (rx : Fin 12) (vc : BitVec 4) (ecc : Fin 3) (s : State) : Ans :=
  if !(rxOn s rx) then .next s
  else
    let s := countEcc rx ecc s
    match openFrame s rx vc.toNat with
    | none => .next (if ecc ≠ 2 && (claimant s rx vc.toNat).isNone then vcDrop rx s else s)
    | some f =>
      if ecc = 2 then .next (damage f 1 s)
      else
        let s := endFrame f s
        if (leAt f.desc 151 1).testBit 3 && s.flag (F.SDB_STR_CTRL_EN f.stream) then
          .next (setStream f.stream { sdStream s f.stream with tp := true } s)
        else .next s

/-- FRAME_LATE (R238): the oldest edge without a frame whose window has passed, or the lateness limit of a free-running stream. -/
def execFrameLate (stream : Fin 16) (s : State) : Ans :=
  let n : Nat := stream
  let d := sdDesc s n
  let x := sdStream s n
  if !(s.flag (F.SDB_STR_CTRL_EN n)) || sdHost d then .next s
  else
    let ev (ns : Nat) (s : State) : State :=
      raise { code := 0xE002, oid := sdOid, ctx := sdCtx d, sev := 1, a0 := n, a1 := s.fld (F.SDB_STR_FCNT_CNT n), a2 := ns % 1000000000 } s
    if (leAt d 11 1).testBit 3 then
      match x.edges.find? fun e => !e.framed && decide (e.t + leAt d 142 2 * (1000 * 65536) < s.time) with
      | none => .next s
      | some e => .next (ev (e.t / 65536) (setStream n { x with edges := x.edges.filter fun y => y ≠ e } s))
    else
      match x.start with
      | none => .next s
      | some (t, el) =>
        if leAt d 144 4 ≠ 0 && s.passed el (leAt d 144 4) then .next (ev (t / 65536) (setStream n { x with start := none } s))
        else .next s

/-- The first field of a host descriptor that breaks its rule (R239): its byte offset. -/
def hostDescBad (h : List Byte) : Option Nat :=
  let dim (i : Nat) : Bool := 2 ≤ leAt h i 2 && leAt h i 2 ≤ 8192 && leAt h i 2 % 2 = 0
  if !(dim 4) then some 4 else if !(dim 6) then some 6 else if 4 ≤ leAt h 12 1 then some 12 else none

/-- HOST_SAMPLE_ADMISSION (R239, R247). -/
def execHostSampleAdmission (stream : Fin 16) (s : State) : Ans :=
  let n : Nat := stream
  let d := sdDesc s n
  let x := sdStream s n
  let head := s.fld (F.SDB_STR_HEAD_CNT n)
  if !(s.flag F.SDB_CTRL_EN) || !(s.flag (F.SDB_STR_CTRL_EN n)) || !(sdHost d) || 4 ≤ x.flights.length
      || decide (wrap ((ringVal s (leAt d 130 2) : Int) - head) 32 ≤ 0) || ((x.row.isNone || !(sdPack d)) && !(hasCredit s d x)) then .next s
  else
    match nocRead sdOid (sdCtx d) (leAt d 132 6 + head % 2 ^ (leAt d 129 1 % 16) * 64) 64 s with
    | (none, s) => .next s
    | (some h, s) =>
      match hostDescBad h with
      | some o => .next (raise { code := 0xE006, oid := sdOid, ctx := sdCtx d, sev := 2, a0 := n, a1 := head, a2 := o } s)
      | none =>
        let f1 := s.freeNat
        let f2 := f1.2.freeNat
        let r : SdbRec := { sid := leAt h 0 4, fcnt := head, time := recTime s.ns, rcrc := f1.1 % 2 ^ 32, num := f2.1 % 2 ^ 16 }
        let f : SdbSample := { id := x.nextId, desc := d, r := r, st := admitStatus d, aug := (h.drop 32).take 32, hdesc := h
                               ready := true, credit := !(sdPack d), strict := s.flag F.SYS_STRICT_STRICT }
        .next (((putFlight n f f2.2).incMod (F.SDB_STR_HEAD_CNT n)).incMod (F.SDB_STR_ADM_CNT n))

/-- The rows of a host sample (R239): none when one cannot be read. -/
def hostRows (ctx addr pitch bytes : Nat) : Nat → Nat → State → Option (List (List Byte)) × State
  | 0, _, s => (some [], s)
  | k + 1, y, s =>
    match nocRead sdOid ctx (addr + y * pitch) bytes s with
    | (none, s) => (none, s)
    | (some b, s) =>
      match hostRows ctx addr pitch bytes k (y + 1) s with
      | (some l, s) => (some (b :: l), s)
      | (none, s) => (none, s)

/-- The input lines of a sample, or its failing status. -/
def sampleInput (f : SdbSample) (s : State) : (Nat ⊕ Array (Array Byte)) × State :=
  let d := f.desc
  let dt := leAt d 2 1
  let n := lineBytes dt (leAt d 4 2)
  if f.hdesc = [] then
    let all := f.input.flatten.toArray
    (.inr ((Array.range (leAt d 6 2)).map fun y => all.extract (y * n) (y * n + n)), s)
  else
    match hostRows (sdCtx d) (leAt f.hdesc 16 6) (leAt f.hdesc 8 4) (lineBytes dt (leAt f.hdesc 4 2)) (leAt f.hdesc 6 2) 0 s with
    | (none, s) => (.inl 0x12, s)
    | (some l, s) =>
      if (leAt f.hdesc 12 1).testBit 1 && crc32c l.flatten ≠ leAt f.hdesc 24 4 then (.inl 0x12, s)
      else (.inr (l.map List.toArray).toArray, s)

/-- The status of R237, R240, R242 and R243. -/
def sampleInvalid (f : SdbSample) : Bool :=
  let d := f.desc
  let (iw, ih) := if f.hdesc = [] then (leAt d 4 2, leAt d 6 2) else (leAt f.hdesc 4 2, leAt f.hdesc 6 2)
  !(streamLegal d) || !(augOk f.aug iw ih) || !(resizeOk d f.aug)

/-- The tensor of a sample of an unpacked stream: written to the next slot, and emerged. -/
def emergeSlot (n i : Nat) (f : SdbSample) (rows : List (List Byte)) (flags : BitVec 4) (status : Nat) (s : State) : State :=
  let d := f.desc
  let x := sdStream s n
  let k := x.k % leAt d 28 2
  let w := if sdPatch d = 0 then writeRows (sdCtx d) (leAt d 16 6 + k * leAt d 24 4) (leAt d 36 4) rows s
    else writeTokens d k 0 rows (fun t => t) s
  if w.1 then
    let x := sdStream w.2 n
    let s := setStream n { x with flights := x.flights.eraseIdx i, k := x.k + 1 } w.2
    emergeTensor n d [{ f.r with status := status, slot := k, flags := flags.toNat, tdone := recTime s.ns
                                 ntok := if sdPatch d = 0 then 0 else rows.length }] s
  else failFlight n i f 0xFE w.2

/-- The sample of a packed stream takes the next tokens of the open row (R246). -/
def emergePacked (n i : Nat) (f : SdbSample) (rows : List (List Byte)) (flags : BitVec 4) (status : Nat) (s : State) : State :=
  let d := f.desc
  let tmax := leAt d 48 2
  if tmax < rows.length then failFlight n i f 0x18 s
  else
    let s := match (sdStream s n).row with
      | some w => if tmax < w.used + rows.length then closeRow n s else s
      | none => s
    let x := sdStream s n
    let w? : Option SdbRow := match x.row with
      | some w => some w
      | none => if hasCredit s d x then some ⟨x.k % leAt d 28 2, 0, 0, s.elapsed, [], d⟩ else none
    match w? with
    | none => if f.hdesc = [] then failFlight n i f 0x14 s else s
    | some w =>
      let x := if x.row.isSome then x else { x with k := x.k + 1, taken := x.taken + 1 }
      let s := setStream n { x with row := some w } s
      match writeTokens d w.slot w.used rows (fun t => t + w.seg * 2 ^ 20) s with
      | (false, s) => failFlight n i f 0xFE s
      | (true, s) =>
        let x := sdStream s n
        let r := { f.r with status := status, slot := w.slot, seg := w.seg, tok0 := w.used, flags := flags.toNat, ntok := rows.length
                            tdone := recTime s.ns }
        let s := setStream n { x with flights := x.flights.eraseIdx i
                                      row := some { w with used := w.used + rows.length, seg := w.seg + 1, recs := w.recs ++ [r] } } s
        if closes f || w.seg = 4094 then closeRow n s else s

/-- SAMPLE_COMPLETE (R248, R253): the sample in place `k` of the stream's samples in flight emerges; one admitted under Strict mode
only as the oldest (R508). -/
def execSampleComplete (stream : Fin 16) (k : Nat) (s : State) : Ans :=
  let n : Nat := stream
  match (sdStream s n).flights[k]? with
  | none => .next s
  | some f =>
    if !f.ready || (f.strict && k ≠ 0) then .next s
    else
      let nowh := f.st = some 0x10 && s.flag F.SDB_GUARDOVR_NOWH
      match f.st, nowh with
      | some st, false => .next (failFlight n k f st s)
      | _, _ =>
        if sampleInvalid f then .next (failFlight n k f (if nowh then 0x10 else 0x16) s)
        else
          match sampleInput f s with
          | (.inl st, s) => .next (failFlight n k f st s)
          | (.inr l, s) =>
            let (rows, flags) := sampleRows f.desc f.aug l
            let s := fillBuffers [12, 13, 14, 15] s
            let st := if nowh then 0x10 else 1
            .next (if sdPack f.desc then emergePacked n k f rows flags st s else emergeSlot n k f rows flags st s)

/-- TEST_PATTERN_COMPLETE (R251). -/
def execTestPatternComplete (stream : Fin 16) (s : State) : Ans :=
  let n : Nat := stream
  let d := sdDesc s n
  let x := sdStream s n
  if !x.tp then .next s
  else
    let c := tpCrc d
    let ok := c = leAt d 156 4
    let s := (setStream n { x with tp := false, tpok := ok } s).put (F.SDB_STR_STAT_TPBAD n) (ofBool (!ok))
    .next (if ok then s else raise { code := 0xE004, oid := sdOid, ctx := sdCtx d, sev := 3, a0 := n, a1 := c, a2 := leAt d 156 4 } s)

/-- PACK_TIMEOUT (R246). -/
def execPackTimeout (stream : Fin 16) (s : State) : Ans :=
  let n : Nat := stream
  match (sdStream s n).row with
  | none => .next s
  | some w =>
    if leAt w.desc 50 2 ≠ 0 && !(s.flag F.SYS_STRICT_STRICT) && s.passed w.since (leAt w.desc 50 2) then .next (closeRow n s) else .next s

/-- The effect of setting EN of stream `n` (R237): samples in flight keep their credits and complete. -/
def enableStream (n : Nat) (s : State) : State :=
  if s.flag (F.SDB_STR_CTRL_EN n) then s
  else
    let d := sdDescOf s n
    let x := sdStream s n
    let rx := leAt d 0 1 % 16
    let s := if rx < 12 then (s.setSdb { s.sdb with filled := s.sdb.filled.filter (· ≠ rx) }).zero (0x2022000000 + 0x20000 * rx) 0x20000 else s
    let s := s.put (F.SDB_STR_STAT_TPBAD n) 0
    let s := s.put (F.SDB_STR_STAT_STUCK n) 0
    let s := s.put (F.SDB_STR_HEAD_CNT n) (ringVal s (leAt d 130 2))
    let s := setStream n { desc := d, u0 := ringVal s (leAt d 14 2), flights := x.flights, nextId := x.nextId, row := x.row
                           taken := (x.flights.filter (·.credit)).length + ofBool x.row.isSome } s
    s.put (F.SDB_STR_CTRL_EN n) 1

/-- A leading edge of pulse output `po` at TIM time `t` (R238, R430): latched by the enabled streams that name it. -/
def latchEdge (po t : Nat) (s : State) : State :=
  (List.range 16).foldl (fun s n =>
    let d := sdDesc s n
    let x := sdStream s n
    if s.flag (F.SDB_STR_CTRL_EN n) && !(sdHost d) && (leAt d 11 1).testBit 3 && leAt d 11 1 % 8 = po then
      setStream n { x with edges := (x.edges.filter fun e => !e.framed || decide (t ≤ e.t + leAt d 142 2 * (1000 * 65536))) ++ [⟨t, false⟩] } s
    else s) s

/-- A teardown of context `c` (R254): every sample in flight ends with status 0xFE, and an open row is discarded with its credit, so that the slot
it had is the next to fill (R247). -/
def sdbTeardown (c : Nat) (s : State) : State :=
  (List.range 16).foldl (fun s n =>
    let x := sdStream s n
    if sdCtx x.desc = c then
      let recs := (match x.row with | some w => w.recs | none => []) ++ x.flights.map (·.r)
      let back := (x.flights.filter (·.credit)).length + ofBool x.row.isSome
      let s := setStream n { x with flights := [], row := none, taken := x.taken - back, k := x.k - ofBool x.row.isSome } s
      recs.foldl (fun s r => writeRecord n x.desc s (if r.status ≠ 1 && r.slot = 0xFFFF then r else { r with status := 0xFE, tdone := recTime s.ns })) s
    else s) s

end Sys2Proof.Machine
end

