-- ==== Sys2Proof/Machine/Tim.lean ====
section
/-! DEFINITION. The timebase: ticks, slews, steps, the reference, pulse outputs, capture inputs and time stamp queues (R418 to R431). -/

namespace Sys2Proof.Machine

/-- TIM's record updated. -/
def State.setTim (s : State) (x : Tim) : State := { s with tim := x }

/-- OID of Ethernet and TIM (R31, R432). -/
def ethOid : Nat := 0x34

/-- Nanoseconds in units of 2^-32 ns. -/
def ns32 : Nat := 2 ^ 32

/-- Seconds count of TIM. -/
def timSec (s : State) : Nat := (s.reg Reg.TIM_TIME_W2).toNat + (s.reg Reg.TIM_TIME_W3).toNat * 2 ^ 32

/-- NS and the 32-bit fraction in units of 2^-32 ns. -/
def timFine (s : State) : Nat := (s.fld F.TIM_TIME_W1_NS * 2 ^ 16 + s.fld F.TIM_TIME_W0_FRAC) * 2 ^ 16 + s.tim.frac

/-- Set the time from whole seconds and units of 2^-32 ns below a second; SEC wraps modulo 2^64 (R418). -/
def setTime (sec fine : Nat) (s : State) : State :=
  let s := s.put F.TIM_TIME_W0_FRAC (fine / 2 ^ 16 % 2 ^ 16)
  let s := s.put F.TIM_TIME_W1_NS (fine / 2 ^ 32)
  let s := s.setReg Reg.TIM_TIME_W2 (BitVec.ofNat 32 sec)
  let s := s.setReg Reg.TIM_TIME_W3 (BitVec.ofNat 32 (sec / 2 ^ 32))
  s.setTim { s.tim with frac := fine % 2 ^ 16 }

/-- Add a signed number of units of 2^-32 ns to the time. -/
def moveTime (d : Int) (s : State) : State :=
  let one : Int := (1000000000 * ns32 : Nat)
  let t := (timFine s : Int) + d
  setTime (((timSec s : Int) + t / one) % (2 ^ 64 : Nat)).toNat (t % one).toNat s

/-- The tick length TIM_INCR in units of 2^-32 ns (R419). -/
def timIncr (s : State) : Nat := s.fld F.TIM_INCR_HI_NS * 2 ^ 32 + s.fld F.TIM_INCR_LO_FRAC

/-- The sign of an integer. -/
def sgn (x : Int) : Int := if 0 < x then 1 else if x < 0 then -1 else 0

/-- The slew shown in TIM_ADJ: nanoseconds still to be applied, rounded toward 0 (R420). -/
def showSlew (s : State) : State := s.put F.TIM_ADJ_NS (uwrap (sgn s.tim.slew * ((s.tim.slew.natAbs / 512 : Nat) : Int)) 32).toNat

/-- The AON count in 1/32,768 s (R423, R490): it runs on from its last load. -/
def aonCount (s : State) : Nat := s.sap.aon + (s.elapsed - s.sap.aonAt) * 32768 / (1000000000 * ns32)

/-- The AON seconds counter is loaded from TIM (R490). -/
def loadAon (ticks : Nat) (s : State) : State := { s with sap := { s.sap with aon := ticks, aonAt := s.elapsed } }

/-- One CK_TIM tick (R418 to R420, R490, R553): the time and the elapsed time advance by TIM_INCR, by 2^-9 ns more or less in a slew; at a whole second
the AON seconds counter is loaded. -/
def timTick (s : State) : State :=
  let old := timSec s
  let d : Int := timIncr s + sgn s.tim.slew * (2 ^ 23 : Nat)
  let s := moveTime d s
  let s := s.setTim { s.tim with slew := s.tim.slew - sgn s.tim.slew }
  let s := { showSlew s with elapsed := s.elapsed + d.toNat }
  if timSec s = old then s else loadAon (timSec s * 32768) s

/-- No pulse output is enabled and joint cycles do not run (R420). -/
def stepAllowed (s : State) : Bool :=
  (List.range 8).all (fun n => !(s.flag (F.TIM_PO_CTRL_EN n))) && !(s.flag F.CMB_CTRL_EN)

/-- Cancel any slew (R420). -/
def endSlew (s : State) : State := (s.setTim { s.tim with slew := 0 }).put F.TIM_ADJ_NS 0 |>.put F.TIM_STAT_SLEW 0

/-- An accepted step or set is reported, with the change in ns saturated to 32 bits (R420, R432). -/
def stepDone (kind : Nat) (change : Int) (s : State) : State :=
  raise { code := 0x9006, oid := ethOid, sev := 0, a0 := kind, a1 := (uwrap (sat change 32).1 32).toNat } ((endSlew s).put F.TIM_STAT_UNSET 0)

/-- The signed value of a write to TIM_ADJ. -/
def adjVal (data : Nat) : Int := sextN (data % 2 ^ 32) 32

/-- A write to TIM_ADJ is a step, which joint cycles and pulse outputs forbid (R420). -/
def adjLocked (data : Nat) (s : State) : Bool := 1000000 < (adjVal data).natAbs && !(stepAllowed s)

/-- The effect of a write to TIM_ADJ that is not refused (R420). -/
def timAdjust (data : Nat) (s : State) : State :=
  let a := adjVal data
  if 1000000 < a.natAbs then
    stepDone 2 a (moveTime (a * ns32) s)
  else
    let s := showSlew (s.setTim { s.tim with slew := a * 512 })
    s.put F.TIM_STAT_SLEW (ofBool (a ≠ 0))

/-- The commit of TIM_SET is refused (R420). -/
def setLocked (s : State) : Bool := 1000000000 ≤ s.fld F.TIM_SET_W1_NS || !(stepAllowed s)

/-- The effect of the commit of TIM_SET (R420). -/
def timSet (s : State) : State :=
  let old : Int := ((timSec s * 1000000000 * 2 ^ 32 + timFine s : Nat) : Int)
  let sec := (s.reg Reg.TIM_SET_W2).toNat + (s.reg Reg.TIM_SET_W3).toNat * 2 ^ 32
  let fine := (s.fld F.TIM_SET_W1_NS * 2 ^ 16 + s.fld F.TIM_SET_W0_FRAC) * 2 ^ 16
  let d : Int := ((sec * 1000000000 * 2 ^ 32 + fine : Nat) : Int) - old
  stepDone 1 (sgn d * ((d.natAbs / 2 ^ 32 : Nat) : Int)) (setTime sec fine s)

/-- An increment outside 1.9 to 2.1 ns is refused (R419): the increment in units of 2^-32 ns. -/
def incrLocked (v : Nat) : Bool := 10 * v < 19 * 2 ^ 32 || 21 * 2 ^ 32 < 10 * v

/-! ### Reference and lock (R422) -/

/-- SLEW_COMPLETE (R420): the slew's tick count has run out. -/
def execSlewComplete (s : State) : Ans :=
  .next (if s.flag F.TIM_STAT_SLEW && s.tim.slew = 0 then endSlew s else s)

/-- REFERENCE_FAILURE (R422). -/
def execReferenceFailure (s : State) : Ans :=
  .next (if s.flag F.TIM_STAT_REFOK then
    raise { code := 0x9003, oid := ethOid, sev := 1, a0 := s.fld F.TIM_CTRL_REF } (s.put F.TIM_STAT_REFOK 0) else s)

/-- REFERENCE_LOCK (R422). -/
def execReferenceLock (s : State) : Ans := .next (if s.fld F.TIM_CTRL_REF = 0 then s else s.put F.TIM_STAT_REFOK 1)

/-- The effect of a write that selects a source (R422): the new source is not locked yet. -/
def refChanged (s : State) : State := s.put F.TIM_STAT_REFOK 0

/-- LOCKED clears by itself (R422). -/
def syncLapse (s : State) : State :=
  raise { code := 0x9005, oid := ethOid, sev := 0, a0 := s.fld F.TIM_SYNC_HOLD } (s.put F.TIM_SYNC_LOCKED 0)

/-- SYNC_HOLD_EXPIRY (R422). -/
def execSyncHoldExpiry (s : State) : Ans :=
  .next (if s.flag F.TIM_SYNC_LOCKED && s.passed s.tim.syncSince (s.fld F.TIM_SYNC_HOLD * 1000) then syncLapse s else s)

/-- The effect of a write of TIM_SYNC that holds LOCKED = 1 (R422, R433): the hold restarts; a hold of 0 clears LOCKED at once. -/
def syncWritten (s : State) : State :=
  let s := s.setTim { s.tim with syncSince := s.elapsed }
  if s.fld F.TIM_SYNC_HOLD = 0 then syncLapse s else s

/-! ### Pulse outputs (R428) -/

/-- START of a pulse output in ns. -/
def poStart (s : State) (n : Nat) : Nat :=
  ((s.reg (Reg.TIM_PO_START_W1 n)).toNat + (s.reg (Reg.TIM_PO_START_W2 n)).toNat * 2 ^ 32) * 1000000000 + s.fld (F.TIM_PO_START_W0_NS n)

/-- A write that sets EN is refused for a period or a width out of range (R428). -/
def pulseLocked (s : State) (n : Nat) : Bool :=
  let p := s.fld (F.TIM_PO_PERIOD_NS n)
  let w := s.fld (F.TIM_PO_WIDTH_NS n)
  p < 100 || w < 4 || p < w + 4

/-- Set the operation of a pulse output. -/
def setPo (n : Nat) (x : PulseSt) (s : State) : State := s.setTim { s.tim with po := spSet {} n x s.tim.po }

/-- The effect of EN going from 0 to 1 (R428): the first pulse is the lowest whose leading edge lies at least 100 ns ahead. -/
def pulseStart (n : Nat) (s : State) : State :=
  let p := s.fld (F.TIM_PO_PERIOD_NS n)
  let st := poStart s n
  let now := s.time + 100 * 65536
  let k := if now ≤ st * 65536 then 0 else (now - st * 65536 + p * 65536 - 1) / (p * 65536)
  setPo n { spGet {} s.tim.po n with k := k, driven := 0 } s

/-- PULSE_EDGE (R428, R430): the next edge of a pulse output whose scheduled time has come is driven, and a leading edge is latched. -/
def execPulseEdge (po : Fin 8) (s : State) : Ans :=
  let n : Nat := po
  let x := spGet {} s.tim.po n
  let pol := s.flag (F.TIM_PO_CTRL_POL n)
  if x.high then
    (if x.off * 65536 ≤ s.time then .next ((setPo n { x with high := false } s).emit (.pulse n pol x.off)) else .next s)
  else
    let cnt := s.fld (F.TIM_PO_COUNT_CNT n)
    let t := poStart s n + x.k * s.fld (F.TIM_PO_PERIOD_NS n)
    if s.flag (F.TIM_PO_CTRL_EN n) && (cnt = 0 || x.driven < cnt) && decide (t * 65536 ≤ s.time) then
      .next (latchEdge n (t * 65536) ((setPo n ⟨x.k + 1, x.driven + 1, true, t + s.fld (F.TIM_PO_WIDTH_NS n)⟩ s).emit (.pulse n (!pol) t)))
    else .next s

/-! ### Stamp queues (R425, R429) -/

/-- The words E0 to E3 of a queue's head: NS with two flags, FRAC with the tag, SEC (R433). -/
def showStamp (e0 : Nat) (h : Option Stamp) (tx : Bool) (s : State) : State :=
  match h with
  | none => (((s.setReg e0 0).setReg (e0 + 4) 0).setReg (e0 + 8) 0).setReg (e0 + 12) 0
  | some x =>
    let ns := x.t / 65536
    let w0 := ns % 1000000000 + (if tx then 0 else x.tag % 2) * 2 ^ 30 + 2 ^ 31
    let w1 := x.t % 65536 + (if tx then x.tag % 2 ^ 16 * 2 ^ 16 else 0)
    let sec := ns / 1000000000
    (((s.setReg e0 (BitVec.ofNat 32 w0)).setReg (e0 + 4) (BitVec.ofNat 32 w1)).setReg (e0 + 8) (BitVec.ofNat 32 sec)).setReg (e0 + 12)
      (BitVec.ofNat 32 (sec / 2 ^ 32))

/-- Set the transmit stamp queue of a port and what its registers show. -/
def setTxq (p : Nat) (l : List Stamp) (s : State) : State :=
  showStamp (Reg.TIM_TXQ_E0 p) l.head? true ((s.setTim { s.tim with txq := spSet [] p l s.tim.txq }).put (F.TIM_TXQ_STAT_COUNT p) l.length)

/-- Set the queue of a capture input and what its registers show. -/
def setCiq (n : Nat) (l : List Stamp) (s : State) : State :=
  showStamp (Reg.TIM_CI_E0 n) l.head? false ((s.setTim { s.tim with ciq := spSet [] n l s.tim.ciq }).put (F.TIM_CI_STAT_COUNT n) l.length)

/-- A dropped stamp (R425, R429): OVF, DROP, and an event at the first drop since OVF was cleared. -/
def dropStamp (ovf drop : RegField) (code a0 a2 : Nat) (s : State) : State :=
  let first := !(s.flag ovf)
  let s := (s.put ovf 1).incHold drop
  if first then raise { code := code, oid := ethOid, sev := 1, a0 := a0, a1 := s.fld drop, a2 := a2 } s else s

/-- A transmit time stamp (R425). -/
def pushTx (p : Nat) (x : Stamp) (s : State) : State :=
  let l := spGet [] s.tim.txq p
  if l.length < 32 then setTxq p (l ++ [x]) s else dropStamp (F.TIM_TXQ_STAT_OVF p) (F.TIM_TXQ_STAT_DROP p) 0x9001 p x.tag s

/-- The effect of a write of 1 to a POP register (R425). -/
def popTx (p : Nat) (s : State) : State := setTxq p ((spGet [] s.tim.txq p).drop 1) s

/-- The effect of a write of 1 to a capture POP register (R429). -/
def popCapture (n : Nat) (s : State) : State := setCiq n ((spGet [] s.tim.ciq n).drop 1) s

/-- CAPTURE_EDGE (R429): an edge that passed the filter, `sub` eighths of a nanosecond into the present tick. -/
def execCaptureEdge (input : Fin 8) (rise : Bool) (sub : Fin 16) (s : State) : Ans :=
  let n : Nat := input
  let sel := s.fld (F.TIM_CI_CTRL_EDGE n)
  if !(s.flag (F.TIM_CI_CTRL_EN n)) || !(sel.testBit (if rise then 0 else 1)) then .next s
  else
    let l := spGet [] s.tim.ciq n
    if l.length < 16 then .next (setCiq n (l ++ [⟨s.time + sub * 8192, ofBool rise⟩]) s)
    else .next (dropStamp (F.TIM_CI_STAT_OVF n) (F.TIM_CI_STAT_DROP n) 0x9002 n 0 s)

end Sys2Proof.Machine
end

