-- ==== Sys2Proof/Machine/Grove.lean ====
section
/-! DEFINITION. Grove: channels, streams, datagrams, loss and retry, barriers (R435 to R452). -/

namespace Sys2Proof.Machine

/-- Grove's OID (R31). -/
def grvOid : Nat := 0x35

/-- Grove's record updated. -/
def State.setGrove (s : State) (x : Grove) : State := { s with grove := x }

/-- This module's device ID. -/
def devId (s : State) : Nat := s.fld F.GRV_DEVID_ID

/-- Key of the stream with a device on a channel. -/
def streamKey (dev c : Nat) : Nat := dev * 64 + c

/-- Sending side of a stream. -/
def grvTx (s : State) (dev c : Nat) : GrvTx := spGet {} s.grove.tx (streamKey dev c)
/-- Set the sending side of a stream. -/
def setTx (dev c : Nat) (x : GrvTx) (s : State) : State := s.setGrove { s.grove with tx := spSet {} (streamKey dev c) x s.grove.tx }
/-- A channel. -/
def grvChan (s : State) (c : Nat) : GrvChan := spGet {} s.grove.chan c
/-- Set a channel. -/
def setChan (c : Nat) (x : GrvChan) (s : State) : State := s.setGrove { s.grove with chan := spSet {} c x s.grove.chan }
/-- A barrier. -/
def grvBar (s : State) (b : Nat) : GrvBar := spGet {} s.grove.bar b
/-- Set a barrier. -/
def setBar (b : Nat) (x : GrvBar) (s : State) : State := s.setGrove { s.grove with bar := spSet {} b x s.grove.bar }

/-- Is the channel enabled? -/
def chanOn (s : State) (c : Nat) : Bool := s.flag F.GRV_CTRL_EN && s.flag (F.GRV_CH_CFG_EN c)

/-! ### Addresses, ports and frames (R435, R437, R444) -/

/-- Replace the low 14 bits of an address by a device ID. -/
def withDev (a dev : Nat) : Nat := a / 2 ^ 14 * 2 ^ 14 + dev % 2 ^ 14

/-- The MAC address that frames to a device carry (R435). -/
def grvMac (s : State) (dev : Nat) : Nat :=
  let gw := s.fld F.GRV_GWMAC_LO_MAC_LO + s.fld F.GRV_GWMAC_HI_MAC_HI * 2 ^ 32
  if s.flag F.GRV_CTRL_L3 then gw else withDev gw dev

/-- The IP address of a device (R435). -/
def grvIp (s : State) (dev : Nat) : Nat :=
  let w (r : Nat) : Nat := (s.reg r).toNat
  if s.flag F.GRV_CTRL_V6 then
    withDev (w Reg.GRV_NET_W0 + w Reg.GRV_NET_W1 * 2 ^ 32 + w Reg.GRV_NET_W2 * 2 ^ 64 + w Reg.GRV_NET_W3 * 2 ^ 96) dev
  else withDev (w Reg.GRV_NET_W0) dev

/-- The port that GRV_CTRL.PORTSEL binds a stream to; the reserved value binds like 0b10 (R444). -/
def boundPort (s : State) (dev c : Nat) : Nat :=
  match s.fld F.GRV_CTRL_PORTSEL with | 0 => 0 | 1 => 1 | _ => (dev ^^^ c) % 2

/-- Is a port's link up? -/
def linkUp (s : State) (p : Nat) : Bool := s.flag (F.ETH_STAT_LINK p)

/-- The port a stream uses: the bound one unless its link is down and the other's is up (R444). -/
def wantPort (s : State) (dev c : Nat) : Nat :=
  let p := boundPort s dev c
  if !(linkUp s p) && linkUp s (1 - p) then 1 - p else p

/-- The 32-byte header (R437). -/
def grvHeader (s : State) (dev c kind flags seq len arg : Nat) : List Byte :=
  leBytes 1 (1 + kind * 16) ++ leBytes 1 flags ++ leBytes 2 (devId s) ++ leBytes 2 dev ++ leBytes 1 c ++ [0] ++ leBytes 4 seq
    ++ leBytes 4 len ++ leBytes 8 arg ++ List.replicate 8 0

/-- Hand a datagram to a port; a port whose link is down sends nothing. -/
def grvEmit (p dev : Nat) (bytes : List Byte) (s : State) : State :=
  if linkUp s p then s.emit (.grove p (grvMac s dev) (grvIp s dev) (s.fld F.GRV_UDPPORT_PORT) bytes) else s

/-- Raise an event of Grove (R451). -/
def grvEvent (code sev c a0 a1 a2 a3 : Nat) (s : State) : State :=
  raise { code := code, oid := grvOid, ctx := c, sev := sev, a0 := a0, a1 := a1, a2 := a2, a3 := a3 } s

/-! ### Descriptors (R438, R439) -/

/-- Address of descriptor `k` of a channel. -/
def grvDescAddr (s : State) (c k : Nat) : Nat :=
  s.fld (F.GRV_CH_QBASE_LO_BASE_LO c) * 32 + s.fld (F.GRV_CH_QBASE_HI_BASE_HI c) * 2 ^ 32 + k % 2 ^ s.fld (F.GRV_CH_CFG_QSZ c) * 32

/-- Descriptors of a channel that its doorbell has counted and Grove has not taken. -/
def grvPending (s : State) (c : Nat) : Int :=
  wrap ((ringVal s (6 * 1024 + s.fld (F.GRV_CH_CFG_DBRING c)) : Int) - (grvChan s c).taken) 32

/-- Write a descriptor's STATUS and count it in HEAD (R438). -/
def grvStatus (c k status : Nat) (s : State) : State :=
  ((netWrite grvOid c (grvDescAddr s c k + 30) [BitVec.ofNat 8 status] s).2).incMod (F.GRV_CH_HEAD_HEAD c)

/-- A descriptor ends with a status, LSIG behind a delivery (R439). -/
def grvFinish (c status : Nat) (s : State) (d : GrvDesc) : State :=
  let x := grvChan s c
  let s := grvStatus c d.k status (setChan c { x with descs := x.descs.filter fun e => e.k ≠ d.k } s)
  match d.lring with
  | some t => if status = 1 && (ringReg t).isSome then (netSignal t grvOid c 1 s).2 else s
  | none => s

/-- The channel stops: every descriptor taken or pending ends with `status`, waiting RSIGDs are discarded, and nothing is sent
again (R443, R450). -/
def grvStop (c status : Nat) (s : State) : State :=
  let x := grvChan s c
  let s := x.descs.foldl (fun s d => grvFinish c status s { d with lring := none }) s
  let n := (grvPending s c).toNat
  let s := (List.range (min n (2 ^ s.fld (F.GRV_CH_CFG_QSZ c)))).foldl (fun s i => grvStatus c (x.taken + i) status s) s
  let s := setChan c { taken := (x.taken + n) % 2 ^ 32 } s
  let tx := s.grove.tx.map fun e =>
    if e.1 % 64 = c then (e.1, { e.2 with base := (e.2.base + e.2.sent) % 2 ^ 32, q := [], sent := 0, tries := 0 }) else e
  s.setGrove { s.grove with tx := tx }

/-- The effect of clearing the channel's EN (R450). -/
def grvChanOff (c : Nat) (s : State) : State := grvStop c 0xFE (s.put (F.GRV_CH_CFG_EN c) 0)

/-- The effect of setting the channel's EN (R443): its streams restart with START, and descriptors count from HEAD. -/
def grvChanStart (c : Nat) (s : State) : State :=
  let s := s.setGrove { s.grove with tx := s.grove.tx.filter fun e => e.1 % 64 ≠ c }
  setChan c { taken := s.fld (F.GRV_CH_HEAD_HEAD c) } s

/-! ### Sending (R440, R443) -/

/-- Send datagram `i` of a stream; a WRITE's bytes are read from the source, false when they cannot be. -/
def sendDg (dev c : Nat) (i : Nat) (g : GrvDg) (s : State) : Bool × State :=
  let x := grvTx s dev c
  let body := if g.kind = 1 then netRead grvOid c g.laddr g.len s else (.inr g.body, s)
  match body with
  | (.inl _, s) => (false, s)
  | (.inr b, s) =>
    let seq := (x.base + i) % 2 ^ 32
    let flags := g.flags + ofBool (x.start && seq = 0)
    (true, grvEmit x.port dev (grvHeader s dev c g.kind flags seq (if g.kind = 1 then g.len else 0) g.arg ++ b) s)

/-- A descriptor whose source cannot be read ends with STATUS 0x02, and its datagrams that were not sent are dropped (R439). -/
def sourceLost (dev c : Nat) (g : GrvDg) (s : State) : State :=
  let x := grvTx s dev c
  let s := setTx dev c { x with q := x.q.take x.sent ++ (x.q.drop x.sent).filter fun e => e.desc ≠ g.desc || e.desc = none } s
  match (grvChan s c).descs.find? fun d => some d.k = g.desc with
  | some d => grvFinish c 0x02 s { d with lring := none }
  | none => s

/-- Send what the window of 256 allows (R443). -/
def fillWindow (dev c : Nat) : Nat → State → State
  | 0, s => s
  | fuel + 1, s =>
    let x := grvTx s dev c
    if 256 ≤ x.sent then s
    else
      match x.q[x.sent]? with
      | none => s
      | some g =>
        match sendDg dev c x.sent g s with
        | (false, s) => fillWindow dev c fuel (sourceLost dev c g s)
        | (true, s) =>
          fillWindow dev c fuel (setTx dev c { x with sent := x.sent + 1, since := if x.sent = 0 then s.elapsed else x.since } s)

/-- Send again what is unacknowledged (R443, R444). -/
def resend (dev c : Nat) (s : State) : State :=
  let x := grvTx s dev c
  let s := setTx dev c { x with since := s.elapsed } s
  (List.range x.sent).foldl (fun s i => match x.q[i]? with | some g => (sendDg dev c i g s).2 | none => s) s

/-- Move a stream to the port it should use (R444): it resends, and GRV_FAILOVER is raised. -/
def movePort (dev c : Nat) (s : State) : State :=
  let x := grvTx s dev c
  let p := wantPort s dev c
  if x.port = p then s
  else grvEvent 0x80C4 1 c c dev p 0 (resend dev c (setTx dev c { x with port := p } s))

/-- Every stream with datagrams in hand moves to the port it should use: what a link change does. -/
def moveStreams (s : State) : State :=
  s.grove.tx.foldl (fun s e => if e.2.q = [] then s else movePort (e.1 / 64) (e.1 % 64) s) s

/-- Append datagrams to a stream and send. A stream that carries nothing yet starts on its bound port. -/
def pushDgs (dev c : Nat) (gs : List GrvDg) (s : State) : State :=
  let x := grvTx s dev c
  let x := if x.q = [] && x.base = 0 then { x with port := boundPort s dev c } else x
  let s := movePort dev c (setTx dev c { x with q := x.q ++ gs } s)
  fillWindow dev c (x.q.length + gs.length + 1) s

/-- Put the RSIGDs whose place in the channel's order has come on their streams (R441). -/
def flushSigs (c : Nat) (s : State) : State :=
  let x := grvChan s c
  let (go, stay) := x.sigs.partition fun g => decide (wrap ((g.pos : Int) - x.taken) 32 ≤ 0)
  go.foldl (fun s g => pushDgs g.dst c [{ kind := 2, flags := 0, len := 0, arg := g.ring + g.inc * 2 ^ 16 }] s) (setChan c { x with sigs := stay } s)

/-- An RSIGD reaches Grove (R441): it waits behind every descriptor that the doorbell counts now. On a channel that is not enabled it is
discarded like that channel's descriptors. -/
def grvRsigd (c dev ring inc : Nat) (s : State) : State :=
  if !(chanOn s c) then s
  else
    let x := grvChan s c
    let pos := ringVal s (6 * 1024 + s.fld (F.GRV_CH_CFG_DBRING c))
    flushSigs c (setChan c { x with sigs := x.sigs ++ [⟨if 0 ≤ grvPending s c then pos else x.taken, dev, ring, inc⟩] } s)

/-- Does an RSIGD of context `c` wait for delivery (R289)? -/
def grvOwes (s : State) (c : Nat) : Bool :=
  (grvChan s c).sigs ≠ [] || s.grove.tx.any fun e => e.1 % 64 = c && e.2.q.any fun g => g.kind = 2 && g.desc = none

/-- A broken descriptor (R438). -/
def grvDescErr (c k off : Nat) (s : State) : State := grvChanOff c (grvEvent 0x80C3 2 c c k off 0 s)

/-- The first field of a descriptor that breaks R439: its byte offset. -/
def grvDescBad (s : State) (d : List Byte) : Option Nat :=
  let opc := leAt d 0 1
  let fl := leAt d 1 1
  let len := leAt d 4 4
  if opc ≠ 1 && opc ≠ 2 then some 0
  else if 4 ≤ fl then some 1
  else if 2 ^ 14 ≤ leAt d 2 2 || leAt d 2 2 = devId s then some 2
  else if (opc = 1 && (len = 0 || 16777216 < len)) || (opc = 2 && len ≠ 0) then some 4
  else if (fl.testBit 0 || opc = 2) && leAt d 28 2 = 0 then some 28
  else if leAt d 31 1 ≠ 0 then some 31
  else none

/-- The datagrams of a descriptor (R439). -/
def cutDgs (mtu k : Nat) (d : List Byte) : List GrvDg :=
  let len := leAt d 4 4
  let n := (len + mtu - 1) / mtu
  let sig (last : Bool) : GrvDg :=
    { kind := 2, flags := 2 * ofBool last, len := 0, arg := leAt d 24 2 + leAt d 28 2 * 2 ^ 16, desc := some k }
  if leAt d 0 1 = 2 then [sig true]
  else
    ((List.range n).map fun i =>
      { kind := 1, flags := 2 * ofBool (i + 1 = n), len := min mtu (len - i * mtu), arg := leAt d 16 6 + i * mtu
        laddr := leAt d 8 6 + i * mtu, desc := some k })
      ++ (if (leAt d 1 1).testBit 0 then [sig false] else [])

/-- Take the next pending descriptor of a channel when its opcode is `op` or reserved. -/
def grvTake (op c : Nat) (s : State) : State :=
  let s := if chanOn s c then flushSigs c s else s
  if !(chanOn s c) || grvPending s c ≤ 0 then s
  else
    let x := grvChan s c
    match netRead grvOid c (grvDescAddr s c x.taken) 32 s with
    | (.inl _, s) => s
    | (.inr d, s) =>
      if leAt d 0 1 ≠ op && (leAt d 0 1 = 1 || leAt d 0 1 = 2) then s
      else
        match grvDescBad s d with
        | some o => grvDescErr c x.taken o s
        | none =>
          let lr := if (leAt d 1 1).testBit 1 then some (leAt d 26 2) else none
          let s := setChan c { x with taken := (x.taken + 1) % 2 ^ 32, descs := x.descs ++ [⟨x.taken, leAt d 2 2, lr⟩] } s
          flushSigs c (pushDgs (leAt d 2 2) c (cutDgs (if s.flag F.GRV_CTRL_MTU then 8192 else 4096) x.taken d) s)

/-- GRV_WRITE (R438 to R440). -/
def execGrvWrite (ch : BitVec 6) (s : State) : Ans := .next (grvTake 1 ch.toNat s)

/-- GRV_SIGNAL (R438 to R440). -/
def execGrvSignal (ch : BitVec 6) (s : State) : Ans := .next (grvTake 2 ch.toNat s)

/-! ### What comes back (R442, R443) -/

/-- Datagrams up to `upTo` exclusive are acknowledged: descriptors without a datagram left are delivered, and the window moves on. -/
def grvAcked (dev c upTo : Nat) (s : State) : State :=
  let x := grvTx s dev c
  let n := (upTo + 2 ^ 32 - x.base) % 2 ^ 32
  if n = 0 || x.sent < n then s
  else
    let y : GrvTx := { x with base := upTo % 2 ^ 32, q := x.q.drop n, sent := x.sent - n, since := s.elapsed, tries := 0, start := false }
    let s := setTx dev c y s
    let done := (grvChan s c).descs.filter fun d => d.dst = dev && !(y.q.any fun g => g.desc = some d.k)
    fillWindow dev c (y.q.length + 1) (done.foldl (grvFinish c 1) s)

/-- A destination refuses a datagram (R442). -/
def grvRefused (dev c seq : Nat) (s : State) : State :=
  let x := grvTx s dev c
  let k := (x.q[(seq + 2 ^ 32 - x.base) % 2 ^ 32]?).bind (·.desc)
  let s := match (grvChan s c).descs.find? fun d => some d.k = k with
    | some d => grvFinish c 0x03 s { d with lring := none }
    | none => s
  grvChanOff c (grvEvent 0x80C1 2 c c dev seq 0 s)

/-- Retransmit, or lose the stream after LIM retransmissions without progress (R443). -/
def grvRetry (dev c : Nat) (s : State) : State :=
  let x := grvTx s dev c
  if max 1 (s.fld F.GRV_RETRY_LIM) ≤ x.tries then
    let s := grvEvent 0x80C0 2 c c dev x.base x.tries s
    let s := ((grvChan s c).descs.filter fun d => d.dst = dev).foldl (fun s d => grvFinish c 0x04 s { d with lring := none }) s
    grvChanOff c s
  else resend dev c (setTx dev c { x with tries := x.tries + 1 } s)

/-- RETRANSMIT_TIMEOUT (R443): the oldest unacknowledged datagram of the stream to a device has waited RTO. -/
def execRetransmitTimeout (dev : BitVec 14) (ch : BitVec 6) (s : State) : Ans :=
  let x := grvTx s dev.toNat ch.toNat
  .next (if 0 < x.sent && chanOn s ch.toNat && s.passed x.since (max 1 (s.fld F.GRV_RETRY_RTO)) then grvRetry dev.toNat ch.toNat s else s)

/-- Send an ACK or a NACK of a stream (R443). -/
def grvReply (dev c kind flags seq : Nat) (s : State) : State :=
  grvEmit (wantPort s dev c) dev (grvHeader s dev c kind flags seq 0 0) s

/-! ### Receiving (R437, R440, R442, R443) -/

/-- A received datagram: its bytes from the header on. -/
abbrev Dg := List Byte

/-- Its TYPE. -/
def dgKind (g : Dg) : Nat := leAt g 0 1 / 16
/-- Its source device. -/
def dgSrc (g : Dg) : Nat := leAt g 2 2
/-- Its channel. -/
def dgChan (g : Dg) : Nat := leAt g 6 1
/-- Its SEQ. -/
def dgSeq (g : Dg) : Nat := leAt g 8 4
/-- Its ARG. -/
def dgArg (g : Dg) : Nat := leAt g 16 8

/-- The reserved bits of ARG by TYPE (R437). -/
def argOk (k a : Nat) : Bool :=
  if k = 1 then a < 2 ^ 48 else if k = 2 then a < 2 ^ 32
  else if k = 5 || k = 6 then slice a 7 4 = 0 && a < 2 ^ 26 else a = 0

/-- A datagram is well formed and meant for this module (R437). -/
def dgOk (s : State) (g : Dg) : Bool :=
  let k := dgKind g
  32 ≤ g.length && leAt g 0 1 % 16 = 1 && 1 ≤ k && k ≤ 6 && leAt g 1 1 < 8 && dgSrc g < 2 ^ 14 && leAt g 4 2 = devId s && dgChan g < 64
    && leAt g 7 1 = 0 && leAt g 24 8 = 0 && argOk k (dgArg g) && (if k = 1 then leAt g 12 4 = g.length - 32 else leAt g 12 4 = 0)

/-- A datagram applied in stream order: the receiving side moves on, and every 16 datagrams an ACK goes out (R443). -/
def dgApplied (g : Dg) (s : State) : State :=
  let key := streamKey (dgSrc g) (dgChan g)
  let x := spGet {} s.grove.rx key
  let n := x.unacked + 1
  let ack := n = 16
  let s := s.setGrove { s.grove with rx := spSet {} key ⟨(x.next + 1) % 2 ^ 32, if ack then 0 else n, s.elapsed⟩ s.grove.rx }
  if ack then grvReply (dgSrc g) (dgChan g) 3 0 x.next s else s

/-- Take a sequenced datagram (R440, R442, R443): `go` applies it and says whether it was admitted. -/
def dgTake (g : Dg) (go : State → Bool × State) (s : State) : State :=
  let src := dgSrc g
  let c := dgChan g
  if !(dgOk s g) then s.incHold F.GRV_RXDROP_CNT
  else if !(s.flag (F.GRV_CH_CFG_EN c)) then
    grvReply src c 4 4 (dgSeq g) (grvEvent 0x80C2 1 c c src (dgSeq g) 0 s)
  else
    let key := streamKey src c
    let s := if (leAt g 1 1).testBit 0 && dgSeq g = 0 then s.setGrove { s.grove with rx := spSet {} key {} s.grove.rx } else s
    let x := spGet {} s.grove.rx key
    if dgSeq g = x.next then
      match go s with
      | (true, s) => dgApplied g s
      | (false, s) => grvReply src c 4 4 (dgSeq g) s
    else if decide (0 < wrap ((dgSeq g : Int) - x.next) 32) then grvReply src c 4 0 x.next s
    else grvReply src c 3 0 ((x.next + 2 ^ 32 - 1) % 2 ^ 32) s

/-- A command for a datagram of TYPE `k`: another TYPE is not its concern, a malformed one is dropped. -/
def dgCommand (k : Nat) (g : Dg) (go : State → State) (s : State) : Ans :=
  if !(s.flag F.GRV_CTRL_EN) then .next s
  else if dgOk s g && dgKind g ≠ k then .next s
  else if dgOk s g then .next (go s) else .next (s.incHold F.GRV_RXDROP_CNT)

/-- Apply a WRITE (R442). -/
def goWrite (g : Dg) (s : State) : Bool × State := nocWrite grvOid (dgChan g) (dgArg g) (g.drop 32) s

/-- Apply a SIGNAL as a ring signal (R442). -/
def goSignal (g : Dg) (s : State) : Bool × State :=
  if (ringReg (dgArg g % 2 ^ 16)).isSome then netSignal (dgArg g % 2 ^ 16) grvOid (dgChan g) (dgArg g / 2 ^ 16) s else (true, s)

/-- WRITE_DATAGRAM (R440, R442). -/
def execWriteDatagram (dg : List Byte) (s : State) : Ans := dgCommand 1 dg (dgTake dg (goWrite dg)) s

/-- SIGNAL_DATAGRAM (R440, R442). -/
def execSignalDatagram (dg : List Byte) (s : State) : Ans := dgCommand 2 dg (dgTake dg (goSignal dg)) s

/-- A received ACK (R443). -/
def gotAck (g : Dg) (s : State) : State :=
  if chanOn s (dgChan g) then grvAcked (dgSrc g) (dgChan g) ((dgSeq g + 1) % 2 ^ 32) s else s

/-- ACK (R443). -/
def execGrvAck (dg : List Byte) (s : State) : Ans := dgCommand 3 dg (gotAck dg) s

/-- A received NACK (R442, R443): ERR halts the channel; otherwise what comes before the expected SEQ is acknowledged and the rest sent again. -/
def gotNack (g : Dg) (s : State) : State :=
  let dev := dgSrc g
  let c := dgChan g
  if !(chanOn s c) then s
  else if (leAt g 1 1).testBit 2 then grvRefused dev c (dgSeq g) s
  else
    let s := grvAcked dev c (dgSeq g) s
    if 0 < (grvTx s dev c).sent then grvRetry dev c s else s

/-- NACK (R442, R443). -/
def execGrvNack (dg : List Byte) (s : State) : Ans := dgCommand 4 dg (gotNack dg) s

/-- ACK_TIMER (R443): 2 µs after the last datagram of a stream that is not acknowledged. -/
def execAckTimer (dev : BitVec 14) (ch : BitVec 6) (s : State) : Ans :=
  let key := streamKey dev.toNat ch.toNat
  let x := spGet {} s.grove.rx key
  if 0 < x.unacked && s.passed x.since 2 then
    .next (grvReply dev.toNat ch.toNat 3 0 ((x.next + 2 ^ 32 - 1) % 2 ^ 32) (s.setGrove { s.grove with rx := spSet {} key { x with unacked := 0 } s.grove.rx }))
  else .next s

/-! ### Barriers (R446 to R449) -/

/-- States of a barrier (R452). -/
def barArrived : Nat := 1
def barArmed : Nat := 2
def barReleased : Nat := 3
def barFailed : Nat := 4

/-- The channel of a barrier. -/
def barChan (s : State) (b : Nat) : Nat := s.fld (F.GRV_BAR_CFG_CH b)

/-- This device's REFOK condition (R446). -/
def refOk (s : State) : Bool := s.flag F.TIM_STAT_REFOK && s.fld F.TIM_CTRL_REF ≠ 0

/-- The effect of setting a barrier's EN: arrivals are advances of ARING from now on. -/
def barStart (b : Nat) (s : State) : State := setBar b { base := ringVal s (6 * 1024 + s.fld (F.GRV_BAR_CFG_ARING b)) } s

/-- The coordinator releases when every participant has arrived (R447): T is rounded up to a multiple of 100 ns. -/
def barRelease (b : Nat) (s : State) : State :=
  let x := grvBar s b
  let c := barChan s b
  if x.now.length < s.fld (F.GRV_BAR_PART_NM1 b) + 1 || s.fld (F.GRV_BAR_STAT_STATE b) = barArmed then s
  else
    let ns := s.time + max 10 (s.fld (F.GRV_BAR_LEAD_LEAD b)) * 1000 * 65536
    let t := (ns + 100 * 65536 - 1) / (100 * 65536) * 100
    let cond := x.now.any fun e => !e.2
    let g := s.fld (F.GRV_BAR_STAT_GEN b)
    let dg : GrvDg := { kind := 6, flags := 0, len := 0, arg := b + g * 2 ^ 8 + ofBool cond * 2 ^ 25, body := leBytes 8 (recTime t) }
    let devs := (x.now.map (·.1)).mergeSort (· ≤ ·)
    let s := (devs.filter fun d => d ≠ devId s).foldl (fun s d => pushDgs d c [dg] s) s
    (setBar b { grvBar s b with t := t, cond := cond } s).put (F.GRV_BAR_STAT_STATE b) barArmed

/-- The coordinator counts an arrival of a device for a generation (R447): once each, one for the next generation is held. -/
def barCount (b dev gen : Nat) (ok : Bool) (s : State) : State :=
  let x := grvBar s b
  let g := s.fld (F.GRV_BAR_STAT_GEN b)
  if gen = g then
    (if x.now.any fun e => e.1 = dev then s else barRelease b (setBar b { x with now := x.now ++ [(dev, ok)] } s))
  else if gen = (g + 1) % 2 ^ 16 then
    (if x.next.any fun e => e.1 = dev then s else setBar b { x with next := x.next ++ [(dev, ok)] } s)
  else s

/-- BARRIER_ARRIVAL (R446): the arrival ring has advanced and LOCKED is set. -/
def execBarrierArrival (b : BitVec 4) (s : State) : Ans :=
  let b := b.toNat
  let x := grvBar s b
  let v := ringVal s (6 * 1024 + s.fld (F.GRV_BAR_CFG_ARING b))
  if !(s.flag F.GRV_CTRL_EN) || !(s.flag (F.GRV_BAR_CFG_EN b)) || v = x.base || !(s.flag F.TIM_SYNC_LOCKED) then .next s
  else
    let g := s.fld (F.GRV_BAR_STAT_GEN b)
    let fresh := s.fld (F.GRV_BAR_STAT_STATE b) ≠ barArrived && s.fld (F.GRV_BAR_STAT_STATE b) ≠ barArmed
    let s := setBar b { x with base := v, since := if fresh then s.elapsed else x.since } s
    let s := if fresh then s.put (F.GRV_BAR_STAT_STATE b) barArrived else s
    let coord := s.fld (F.GRV_BAR_PART_COORD b)
    if coord = devId s then .next (barCount b coord g (refOk s) s)
    else .next (pushDgs coord (barChan s b) [{ kind := 5, flags := 0, len := 0, arg := b + g * 2 ^ 8 + ofBool (refOk s) * 2 ^ 24 }] s)

/-- Apply an ARRIVE at the coordinator (R447). -/
def goArrive (g : Dg) (s : State) : Bool × State :=
  let b := dgArg g % 16
  (true, if s.flag (F.GRV_BAR_CFG_EN b) && s.fld (F.GRV_BAR_PART_COORD b) = devId s then
      barCount b (dgSrc g) (slice (dgArg g) 23 8) ((dgArg g).testBit 24) s else s)

/-- ARRIVE (R447). -/
def execBarArrive (dg : List Byte) (s : State) : Ans := dgCommand 5 dg (dgTake dg (goArrive dg)) s

/-- A barrier fails on this device (R449). -/
def barFail (b code a2 a3 : Nat) (s : State) : State :=
  let c := barChan s b
  grvEvent code 2 c b (s.fld (F.GRV_BAR_STAT_GEN b)) a2 a3 (s.put (F.GRV_BAR_STAT_STATE b) barFailed)

/-- Apply a RELEASE (R448, R449): it arms the release when it comes no later than T − 1 µs. -/
def goRelease (g : Dg) (s : State) : Bool × State :=
  let b := dgArg g % 16
  if !(s.flag (F.GRV_BAR_CFG_EN b)) || slice (dgArg g) 23 8 ≠ s.fld (F.GRV_BAR_STAT_GEN b) || s.fld (F.GRV_BAR_STAT_STATE b) ≠ barArrived then (true, s)
  else
    let t := completeTime s.ns (leNat ((g.drop 32).take 8))
    if s.time + 1000 * 65536 ≤ t * 65536 then
      (true, (setBar b { grvBar s b with t := t, cond := (dgArg g).testBit 25 } s).put (F.GRV_BAR_STAT_STATE b) barArmed)
    else (true, barFail b 0x80C5 (t % 1000000000) (s.ns % 1000000000) s)

/-- RELEASE (R448). -/
def execBarRelease (dg : List Byte) (s : State) : Ans := dgCommand 6 dg (dgTake dg (goRelease dg)) s

/-- BARRIER_RELEASE (R448, R449): TIM time T + 100 ns of an armed barrier. -/
def execBarrierRelease (b : BitVec 4) (s : State) : Ans :=
  let b := b.toNat
  let x := grvBar s b
  if s.fld (F.GRV_BAR_STAT_STATE b) ≠ barArmed || decide (s.time < (x.t + 100) * 65536) then .next s
  else if !(s.flag F.TIM_SYNC_LOCKED) then .next (barFail b 0x80C6 (x.t % 1000000000) 0 s)
  else
    let s := applySignal (6 * 1024 + s.fld (F.GRV_BAR_CFG_RRING b)) grvOid (barChan s b) 1 s
    let s := s.incMod (F.GRV_BAR_STAT_GEN b)
    let s := (s.put (F.GRV_BAR_STAT_STATE b) barReleased).put (F.GRV_BAR_STAT_COND b) (ofBool (x.cond || !(refOk s)))
    let s := (s.setReg (Reg.GRV_BAR_T_LO b) (BitVec.ofNat 32 (recTime x.t))).setReg (Reg.GRV_BAR_T_HI b) (BitVec.ofNat 32 (recTime x.t / 2 ^ 32))
    .next (barRelease b (setBar b { grvBar s b with now := x.next, next := [] } s))

/-- BARRIER_TIMEOUT (R449): no RELEASE within TMO of the device's arrival. -/
def execBarrierTimeout (b : BitVec 4) (s : State) : Ans :=
  let b := b.toNat
  let x := grvBar s b
  if s.fld (F.GRV_BAR_STAT_STATE b) = barArrived && s.passed x.since (max 1 (s.fld (F.GRV_BAR_CFG_TMO b)) * 100000) then
    .next (barFail b 0x80C7 (if s.fld (F.GRV_BAR_PART_COORD b) = devId s then x.now.length else 0) 0 s)
  else .next s

/-! ### What the Ethernet ports and the scheduler ask of Grove -/

/-- A UDP datagram for Grove's port (R414, R435): `bad` for a fragment or a wrong checksum. A RELEASE carries 8 bytes behind its header. -/
def grvReceive (bad : Bool) (g : Dg) (s : State) : State :=
  if !(s.flag F.GRV_CTRL_EN) then s
  else if bad || !(dgOk s g) then s.incHold F.GRV_RXDROP_CNT
  else
    match dgKind g with
    | 1 => dgTake g (goWrite g) s
    | 2 => dgTake g (goSignal g) s
    | 3 => gotAck g s
    | 4 => gotNack g s
    | 5 => dgTake g (goArrive g) s
    | _ => dgTake g (goRelease g) s

/-- A teardown of context `c` (R450): descriptors end with STATUS 0xFE, and an armed barrier of the channel does not release. -/
def grvTeardown (c : Nat) (s : State) : State :=
  let s := if s.flag (F.GRV_CH_CFG_EN c) then grvStop c 0xFE s else s
  (List.range 16).foldl (fun s b =>
    if barChan s b = c && s.fld (F.GRV_BAR_STAT_STATE b) = barArmed then s.put (F.GRV_BAR_STAT_STATE b) barFailed else s) s

end Sys2Proof.Machine
end

