-- ==== Sys2Proof/Machine/Sapling.lean ====
section
/-! DEFINITION. Sapling: descriptor lists, convolution, pooling, resampling, box decoding and suppression (R200 to R224). -/

namespace Sys2Proof.Machine

/-- Sapling's record updated. -/
def State.setSpl (s : State) (x : Sapling) : State := { s with spl := x }

/-- Sapling's OID (R31). -/
def splOid : Nat := 0x18

/-- The context of Sapling's running job. -/
def splCtx (s : State) : Nat := s.fld F.SPL_STATE_CTX

/-- Address of the descriptor in execution (R224). -/
def splDesc (s : State) : Nat := s.fld F.SPL_DESC_LO_ADDR_LO + s.fld F.SPL_DESC_HI_ADDR_HI * 2 ^ 32

/-- Set the address of the descriptor in execution. -/
def setSplDesc (a : Nat) (s : State) : State :=
  (s.put F.SPL_DESC_LO_ADDR_LO (a % 2 ^ 32)).put F.SPL_DESC_HI_ADDR_HI (a / 2 ^ 32 % 2 ^ 16)

/-- Does Sapling run a started job whose context is not being torn down? -/
def splRuns (s : State) : Bool :=
  s.fld F.SPL_STATE_STATE = uRunning && unitStarted s 6 && (let st := s.fld (F.SCH_CTX_STAT_STATE (splCtx s)); st ≠ ctxTearing && st ≠ ctxFaulted)
    && !s.spl.halted && !s.spl.ended

/-- Little-endian field of a descriptor. -/
def dField (d : List Byte) (i n : Nat) : Nat := leNat ((d.drop i).take n)

/-- Set flags of the descriptor in execution (R55, R220). -/
def splFlags (f : BitVec 4) (s : State) : State :=
  if f = 0 then s else s.put F.SPL_FLAGS_SAT_DZ_ACCF_SCLR (s.fld F.SPL_FLAGS_SAT_DZ_ACCF_SCLR ||| f.toNat)

/-! ### Faults and completion (R207, R220, R221) -/

/-- The writeback of the descriptor in execution (R207): the address of a failed transaction, or none. CYCLES is a free value, since the model
keeps no clock cycles (log entry 13). -/
def writeback (status ovf count : Nat) (s : State) : Option Nat × State :=
  let cyc := s.freeNat
  netWrite splOid (splCtx s) (splDesc s + 112)
    (leBytes 1 status ++ leBytes 1 ovf ++ [0, 0] ++ leBytes 4 (s.fld F.SPL_FLAGS_SAT_DZ_ACCF_SCLR) ++ leBytes 4 count ++ leBytes 4 cyc.1) cyc.2

/-- Is the writeback of the descriptor in execution reachable (R221)? -/
def canWriteBack (s : State) : Bool := splDesc s % 128 = 0 && (judge s splOid (splCtx s) (splDesc s + 112) 16 true).isNone

/-- A failing descriptor (R221): it completes with its cause as STATUS where its writeback is reachable, with `count` records written, and
PROG_FAULT is raised (log entry 105). -/
def splFail (opc cause w3 count : Nat) (s : State) : State :=
  let a := splDesc s
  let s := s.setSpl { s.spl with halted := true, wait := none, held := none }
  let s := if canWriteBack s then (writeback cause 0 count s).2 else s
  raise { code := 0x400B, oid := splOid, ctx := splCtx s, sev := 2, a0 := cause + opc * 2 ^ 8, a1 := a % 2 ^ 32
          a2 := a / 2 ^ 32 % 2 ^ 16, a3 := w3 % 2 ^ 32 } s

/-- The arithmetic events of a flag word under a mask (R57). -/
def arithEvents (oid ctx flags mask a1 a2 : Nat) (s : State) : State :=
  (List.range 4).foldl (fun s i =>
    if flags.testBit i && mask.testBit i then
      raise { code := 0x1001 + i, oid := oid, ctx := ctx, sev := if i = 0 then 0 else 1, a0 := flags, a1 := a1, a2 := a2 } s
    else s) s

/-- A descriptor completes: the writeback, its arithmetic events, the signal, and the next descriptor (R206, R207, R220). -/
def splComplete (d : List Byte) (opc ovf count : Nat) (decode : Bool) (s : State) : State :=
  let a := splDesc s
  let c := splCtx s
  let fl := s.fld F.SPL_FLAGS_SAT_DZ_ACCF_SCLR
  match writeback 1 ovf count s with
  | (some x, s) => splFail opc 6 x count s
  | (none, s) =>
    let s := arithEvents splOid c fl (dField d 2 1) (a % 2 ^ 32) 0 (s.inc64 Reg.SPL_DONE_LO)
    let next (s : State) : State :=
      setSplDesc (a + 128) (s.setSpl { s.spl with held := none, passed := false, prevCount := if decode then some count else none })
    if (dField d 1 1).testBit 1 then
      match netSignal (dField d 10 2) splOid c 1 s with
      | (true, s) => next s
      | (false, s) => splFail opc 7 (ringSigReg (dField d 10 2)) count s
    else next s

/-- END completes (R204): the job's end is due; nothing is written back or signalled (log entry 105). -/
def splEnded (s : State) : State := (s.setSpl { s.spl with held := none, ended := true }).inc64 Reg.SPL_DONE_LO

/-! ### Fetch and header (R204 to R206) -/

/-- A check of a descriptor: whether it holds, and otherwise cause and word 3. -/
abbrev SplCheck := Bool × Nat × Nat

/-- The first check that fails. -/
def firstFail (l : List SplCheck) : Option (Nat × Nat) := (l.find? fun x => !x.1).map (·.2)

/-- Bytes `i` to `j` are 0. -/
def zeroBytes (d : List Byte) (i j : Nat) : SplCheck := (((d.drop i).take (j + 1 - i)).all (· = 0), 2, i)

/-- The checks of the header (R205): the reserved bits of the two rings count whether or not they are used. -/
def headerChecks (d : List Byte) : List SplCheck :=
  let ctl := dField d 1 1
  [(dField d 0 1 ≤ 6, 2, 0), (ctl < 4, 2, 1), (dField d 2 1 < 16, 2, 2), zeroBytes d 3 3,
   (dField d 8 2 < 2 ^ 13 && (!(ctl.testBit 0) || (dField d 8 2 / 1024 = 6)), 2, 8),
   (dField d 10 2 < 2 ^ 13 && (!(ctl.testBit 1) || (ringReg (dField d 10 2)).isSome), 2, 10),
   zeroBytes d 12 15, zeroBytes d 22 23, zeroBytes d 30 31]

/-- How an operation ends: a cause, word 3 and the records written before it failed, or OVF, COUNT. -/
abbrev SplEnd := ((Nat × Nat × Nat) ⊕ (Nat × Nat)) × State

/-- A failed transaction at address `x` (R221): an uncorrectable word of Sapling's own working memory is STORE_ECC with its store offset, every
other error response MEM_ERROR (log entry 105). -/
def netFail (x : Nat) (s : State) : Nat × Nat :=
  match place x with
  | some (.sapling _) =>
    match (suspectWords s x (64 - x % 64)).find? fun w => eccDecode (synd s w) = .bad with
    | some w => if (judge s splOid (splCtx s) x 1 false).isNone then (8, w - 0x2020000000) else (6, x)
    | none => (6, x)
  | _ => (6, x)

/-- A descriptor starts when it is fetched (R55, R204, log entry 105): it is held until it completes, and its flag word is clear. -/
def startDesc (d : List Byte) (s : State) : State := (s.setSpl { s.spl with held := some d }).put F.SPL_FLAGS_SAT_DZ_ACCF_SCLR 0

/-- The descriptor in execution (R204): the one held, or the one fetched now; the cause and word 3 where the fetch fails. -/
def fetchDesc (s : State) : ((Nat × Nat) ⊕ List Byte) × State :=
  match s.spl.held with
  | some d => (.inr d, s)
  | none =>
    let a := splDesc s
    if a % 128 ≠ 0 then (.inl (6, a), s)
    else
      match netRead splOid (splCtx s) a 128 s with
      | (.inl x, s) => (.inl (netFail x s), s)
      | (.inr d, s) => (.inr d, startDesc d s)

/-- Execute Sapling's descriptor when its opcode is `op` (or reserved): the checks, the wait, the operation. END neither waits nor signals
(log entry 105). -/
def splRun (op : Nat) (checks : State → List Byte → List SplCheck) (go : List Byte → State → SplEnd) (s : State) : Ans :=
  if !(splRuns s) || s.spl.wait.isSome then .next s
  else
    match fetchDesc s with
    | (.inl (cause, w3), s) => .next (splFail 0 cause w3 0 s)
    | (.inr d, s) =>
      let c := splCtx s
      let opc := dField d 0 1
      if opc ≠ op && opc ≤ 6 then .next s
      else
        match firstFail (headerChecks d ++ checks s d) with
        | some (cause, w3) => .next (splFail opc cause w3 0 s)
        | none =>
          let t := dField d 8 2
          let w := op ≠ 0 && (dField d 1 1).testBit 0 && !s.spl.passed
          match (if w then netRingRead t splOid c s else (true, s)) with
          | (false, s) => .next (splFail opc 7 ((ringReg t).getD 0) 0 s)
          | (true, s) =>
            if w && !(reached (ringVal s t) (dField d 4 4)) then .next (s.setSpl { s.spl with wait := some (t, dField d 4 4) })
            else
              match go d s with
              | (.inl (cause, w3, count), s) => .next (splFail opc cause w3 count s)
              | (.inr (ovf, count), s) => .next (if op = 0 then splEnded s else splComplete d opc ovf count (op = 4) s)

/-- Sapling uses store `k` (R200), 0 weight and 1 detection, of `n` bytes at `base`: the store holds data of the engine from now on. The offset of
an uncorrectable word it reads there (R221), or none; which words it reads is free, since the spec gives the store no layout
(log entries 24, 105). -/
def useStore (k base n : Nat) (s : State) : Option Nat × State :=
  let s := s.setSpl { s.spl with filled := if s.spl.filled.contains k then s.spl.filled else s.spl.filled ++ [k] }
  let l := suspectWords s base n
  if l = [] then (none, s)
  else
    let f := s.freeNat
    let l := ((List.range l.length).zip l).filterMap fun e => if f.1.testBit e.1 then some e.2 else none
    match scanWords splOid false l f.2 with
    | (true, s) => (none, s)
    | (false, t) => (some ((l.find? fun w => eccDecode (synd s w) = .bad).getD base - 0x2020000000), t)

/-! ### Row by row over a tensor -/

/-- Input rows, each as bytes. -/
abbrev Rows := Array (Array Byte)

/-- Code at a position of the rows. -/
def codeAt (r : Rows) (c y x ch : Nat) : Int := ((r.getD y #[]).getD (x * c + ch) 0).toInt

/-- Read the rows up to number `upTo`. -/
def loadRows (ctx src pitch n : Nat) (upTo : Nat) : Nat → Rows → State → (Nat ⊕ Rows) × State
  | 0, r, s => (.inr r, s)
  | fuel + 1, r, s =>
    if upTo < r.size then (.inr r, s)
    else
      match netRead splOid ctx (src + r.size * pitch) n s with
      | (.inl x, s) => (.inl x, s)
      | (.inr b, s) => loadRows ctx src pitch n upTo fuel (r.push b.toArray) s

/-- Geometry of a row operation: source, its pitch and row bytes, destination and its pitch, cycles in which the MAC array computes a term
set for one output row. -/
structure RowGeo where
  src : Nat
  pitch : Nat
  bytes : Nat
  dst : Nat
  dpitch : Nat
  busy : Nat

/-- Produce the output rows in ascending order, reading each input row when the first output row needs it (R210, R222), and count the cycles of
the MAC array (R212, R224): the address of a failed transaction, or none. -/
def rowOps (ctx : Nat) (g : RowGeo) (need : Nat → Nat) (out : Rows → Nat → List Byte × BitVec 4) : List Nat → Rows → State → Option Nat × State
  | [], _, s => (none, s)
  | y :: ys, r, s =>
    match loadRows ctx g.src g.pitch g.bytes (need y) (need y + 1) r s with
    | (.inl x, s) => (some x, s)
    | (.inr r, s) =>
      let o := out r y
      let s := if g.busy = 0 then s else s.inc64 Reg.SPL_BUSY_LO g.busy
      match netWrite splOid ctx (g.dst + y * g.dpitch) o.1 (splFlags o.2 s) with
      | (some x, s) => (some x, s)
      | (none, s) => rowOps ctx g need out ys r s

/-- The end of a row operation. -/
def rowEnd (r : Option Nat × State) : SplEnd :=
  match r with
  | (some x, s) => (.inl ((netFail x s).1, (netFail x s).2, 0), s)
  | (none, s) => (.inr (0, 0), s)

/-- An operation that ends for a failed transaction at address `x`, with the records written before it. -/
def netEnd (x count : Nat) (s : State) : SplEnd := (.inl ((netFail x s).1, (netFail x s).2, count), s)

/-- Bytes of a list of codes with the flags they set. -/
def codeRow (l : List Res) : List Byte × BitVec 4 :=
  (l.map fun r => BitVec.ofInt 8 r.1, l.foldl (fun t r => t ||| r.2) fNone)

/-! ### CONV (R208 to R211) -/

/-- The fields of bytes 32 to 47 that CONV, POOL and RSMP share. -/
structure Geo where
  win : Nat
  hin : Nat
  cin : Nat
  cout : Nat
  spitch : Nat
  dpitch : Nat

/-- Read the shared fields. -/
def Geo.of (d : List Byte) : Geo :=
  ⟨dField d 32 2, dField d 34 2, dField d 36 2, dField d 38 2, dField d 40 4, dField d 44 4⟩

/-- The kernel fields of CONV. -/
structure Conv where
  kh : Nat
  kw : Nat
  sy : Nat
  sx : Nat
  dy : Nat
  dx : Nat
  pt : Nat
  pb : Nat
  pl : Nat
  pr : Nat
  edge : Bool
  act : Nat

/-- Read the kernel fields. -/
def Conv.of (d : List Byte) : Conv :=
  let a := dField d 48 1
  let b := dField d 49 1
  let p := dField d 50 1
  let m := dField d 51 1
  ⟨a % 16, a / 16, 2 ^ (b % 4), 2 ^ (b / 4 % 4), 2 ^ (b / 16 % 4), 2 ^ (b / 64), p % 4, p / 4 % 4, p / 16 % 4, p / 64, m % 2 = 1, m / 2 % 4⟩

/-- Output size along one axis (R209). -/
def convOut (n p0 p1 dil k st : Nat) : Int := ((n : Int) + p0 + p1 - dil * ((k : Int) - 1) - 1) / st + 1

/-- Do two byte ranges overlap? -/
def overlap (a n b m : Nat) : Bool := a < b + m && b < a + n

/-- Terms per output, padded to 16 (R210). -/
def tPad (g : Geo) (k : Conv) : Nat := 16 * ((k.kh * k.kw * g.cin + 15) / 16)

/-- The checks of a CONV descriptor (R208, R209). -/
def convChecks (d : List Byte) : List SplCheck :=
  let g := Geo.of d
  let k := Conv.of d
  let st := dField d 49 1
  let ho := convOut g.hin k.pt k.pb k.dy k.kh k.sy
  let wo := convOut g.win k.pl k.pr k.dx k.kw k.sx
  let lb := (k.dy * (k.kh - 1) + 1 + k.sy) * (g.win + k.pl + k.pr) * g.cin
  let dst := dField d 24 6
  let dlen := (ho.toNat - 1) * g.dpitch + wo.toNat * g.cout
  [(1 ≤ g.win && g.win ≤ 4096, 2, 32), (1 ≤ g.hin && g.hin ≤ 4096, 2, 34), (1 ≤ g.cin && g.cin ≤ 1024, 2, 36),
   (1 ≤ g.cout && g.cout ≤ 1024, 2, 38), (g.win * g.cin ≤ g.spitch, 2, 40),
   (wo ≤ 0 || wo.toNat * g.cout ≤ g.dpitch, 2, 44),
   (1 ≤ k.kh && k.kh ≤ 7 && 1 ≤ k.kw && k.kw ≤ 7, 2, 48),
   (st % 4 ≠ 3 && st / 4 % 4 ≠ 3 && st / 16 % 4 ≠ 3 && st / 64 ≠ 3, 2, 49),
   (dField d 51 1 < 8 && k.act ≠ 3, 2, 51), zeroBytes d 54 55,
   (dField d 70 2 = 0, 2, 64), (dField d 78 2 = 0, 2, 72), (dField d 86 2 = 0, 2, 80), zeroBytes d 88 111,
   (g.cin ≤ 16 || g.cout ≤ 16, 3, 36), (1 ≤ ho, 3, 34), (1 ≤ wo, 3, 32), (lb ≤ 196608, 4, lb),
   (!(overlap dst dlen (dField d 16 6) ((g.hin - 1) * g.spitch + g.win * g.cin))
      && !(overlap dst dlen (dField d 64 6) (g.cout * tPad g k)) && !(overlap dst dlen (dField d 72 6) (8 * g.cout))
      && !(k.act = 2 && overlap dst dlen (dField d 80 6) 256), 5, dst % 2 ^ 32)]

/-- Clamp an index. -/
def clampIdx (i : Int) (n : Nat) : Nat := min i.toNat (n - 1)

/-- The input code under a kernel position (R211). -/
def convIn (g : Geo) (k : Conv) (zin : Int) (r : Rows) (iy ix : Int) (ci : Nat) : Int :=
  if 0 ≤ iy && iy < g.hin && 0 ≤ ix && ix < g.win then codeAt r g.cin iy.toNat ix.toNat ci
  else if k.edge then codeAt r g.cin (clampIdx iy g.hin) (clampIdx ix g.win) ci
  else zin

/-- One output code of CONV (R211). -/
def convCode (d : List Byte) (g : Geo) (k : Conv) (w par : Array Byte) (tab : Array Byte) (r : Rows) (y x o : Nat) : Res :=
  let zin : Int := (dField d 52 1 : Int) - 128
  let zout : Int := (dField d 53 1 : Int) - 128
  let wt (t : Nat) : Int := (w.getD (o * tPad g k + t) 0).toInt
  let terms := (List.range k.kh).flatMap fun ky => (List.range k.kw).flatMap fun kx => (List.range g.cin).map fun ci => (ky, kx, ci)
  let acc := terms.foldl (fun t p =>
    t + convIn g k zin r ((y * k.sy + p.1 * k.dy : Nat) - (k.pt : Int)) ((x * k.sx + p.2.1 * k.dx : Nat) - (k.pl : Int)) p.2.2
      * wt ((p.1 * k.kw + p.2.1) * g.cin + p.2.2)) 0
  let sumW := (List.range (k.kh * k.kw * g.cin)).foldl (fun t i => t + wt i) 0
  let word (i : Nat) : Nat := leNat ((List.range 4).map fun j => par.getD (8 * o + i + j) 0)
  let v := acc - zin * sumW + sextN (word 4) 32
  let s1 := smul (Scale.ofWord (dField d 56 4)) (Scale.ofWord (word 0))
  let s2 := smul s1.1 (Scale.ofWord (dField d 60 4))
  let r1 := rescale v s2.1.m s2.1.e 32
  let q := sat (r1.1 + zout) 8
  let z : Int :=
    if k.act = 1 then max q.1 zout else if k.act = 2 then (tab.getD (q.1 + 128).toNat 0).toInt else q.1
  (z, s1.2 ||| s2.2 ||| r1.2 ||| q.2)

/-- Cycles in which the MAC array computes one output row of `wo` columns (R212): 256 slots in `ocl` channels and `oxl` columns, 16 terms a cycle. -/
def convBusy (g : Geo) (k : Conv) (wo : Nat) : Nat :=
  let n := min g.cout 16
  let ocl := if n ≤ 1 then 1 else if n ≤ 2 then 2 else if n ≤ 4 then 4 else if n ≤ 8 then 8 else 16
  let oxl := 256 / ocl
  ((wo + oxl - 1) / oxl) * ((g.cout + ocl - 1) / ocl) * ((k.kh * k.kw * g.cin + 15) / 16)

/-- CONV (R211): weights, parameters and table first, then the rows. -/
def doConv (d : List Byte) (s : State) : SplEnd :=
  let g := Geo.of d
  let k := Conv.of d
  let c := splCtx s
  let ho := (convOut g.hin k.pt k.pb k.dy k.kh k.sy).toNat
  let wo := (convOut g.win k.pl k.pr k.dx k.kw k.sx).toNat
  match netRead splOid c (dField d 64 6) (g.cout * tPad g k) s with
  | (.inl x, s) => netEnd x 0 s
  | (.inr w, s) =>
    match netRead splOid c (dField d 72 6) (8 * g.cout) s with
    | (.inl x, s) => netEnd x 0 s
    | (.inr par, s) =>
      match (if k.act = 2 then netRead splOid c (dField d 80 6) 256 s else (.inr [], s)) with
      | (.inl x, s) => netEnd x 0 s
      | (.inr tab, s) =>
        match useStore 0 0x2020000000 0x100000 s with
        | (some x, s) => (.inl (8, x, 0), s)
        | (none, s) =>
          let wa := w.toArray
          let pa := par.toArray
          let ta := tab.toArray
          rowEnd (rowOps c ⟨dField d 16 6, g.spitch, g.win * g.cin, dField d 24 6, g.dpitch, convBusy g k wo⟩
            (fun y => clampIdx ((y * k.sy + (k.kh - 1) * k.dy : Nat) - (k.pt : Int)) g.hin)
            (fun r y => codeRow ((List.range wo).flatMap fun x => (List.range g.cout).map fun o => convCode d g k wa pa ta r y x o))
            (List.range ho) #[] s)

/-- CONV. -/
def execSplConv (s : State) : Ans := splRun 1 (fun _ d => convChecks d) doConv s

/-! ### POOL (R213) -/

/-- The window of POOL: 0 for global. -/
def poolWin (d : List Byte) : Nat := match dField d 48 1 % 4 with | 0 => 2 | 1 => 3 | _ => 0

/-- Output size of POOL along an axis. -/
def poolOut (d : List Byte) (n : Nat) : Int :=
  let m := dField d 48 1
  let k := poolWin d
  if k = 0 then 1 else ((n : Int) + 2 * (m / 16 % 2 : Nat) - k) / (1 + m / 8 % 2 : Nat) + 1

/-- The shared range checks of POOL and RSMP: their rules fail with SHAPE. -/
def poolGeoChecks (g : Geo) (wo : Int) : List SplCheck :=
  [(1 ≤ g.win && g.win ≤ 4096, 3, 32), (1 ≤ g.hin && g.hin ≤ 4096, 3, 34), (1 ≤ g.cin && g.cin ≤ 1024, 3, 36), (g.cout = 0, 3, 38),
   (g.win * g.cin ≤ g.spitch, 3, 40), (wo ≤ 0 || wo.toNat * g.cin ≤ g.dpitch, 3, 44)]

/-- The checks of a POOL descriptor. -/
def poolChecks (d : List Byte) : List SplCheck :=
  let g := Geo.of d
  let m := dField d 48 1
  ([(m < 32 && m % 4 ≠ 3 && (m % 4 ≠ 2 || m / 8 % 2 = 0) && (m % 4 = 1 || m / 16 = 0), 2, 48), zeroBytes d 49 111] : List SplCheck)
    ++ poolGeoChecks g (poolOut d g.win) ++ ([(1 ≤ poolOut d g.hin, 3, 34), (1 ≤ poolOut d g.win, 3, 32)] : List SplCheck)

/-- One output code of POOL. -/
def poolCode (d : List Byte) (g : Geo) (r : Rows) (y x ch : Nat) : Res :=
  let m := dField d 48 1
  let k := poolWin d
  let st := 1 + m / 8 % 2
  let pad : Nat := m / 16 % 2
  let ys := if k = 0 then List.range g.hin else (List.range k).filterMap fun j => if y * st + j < pad || g.hin + pad ≤ y * st + j then none else some (y * st + j - pad)
  let xs := if k = 0 then List.range g.win else (List.range k).filterMap fun j => if x * st + j < pad || g.win + pad ≤ x * st + j then none else some (x * st + j - pad)
  let l := ys.flatMap fun iy => xs.map fun ix => codeAt r g.cin iy ix ch
  if m / 4 % 2 = 1 then rdiv (l.foldl (· + ·) 0) l.length 8 else (l.foldl max (-128), fNone)

/-- POOL (R213): the rows in order. -/
def doPool (d : List Byte) (s : State) : SplEnd :=
  let g := Geo.of d
  let m := dField d 48 1
  let k := poolWin d
  rowEnd (rowOps (splCtx s) ⟨dField d 16 6, g.spitch, g.win * g.cin, dField d 24 6, g.dpitch, 0⟩
    (fun y => if k = 0 then g.hin - 1 else min (y * (1 + m / 8 % 2) + k - 1 - m / 16 % 2) (g.hin - 1))
    (fun r y => codeRow ((List.range (poolOut d g.win).toNat).flatMap fun x => (List.range g.cin).map fun ch => poolCode d g r y x ch))
    (List.range (poolOut d g.hin).toNat) #[] s)

/-- POOL. -/
def execSplPool (s : State) : Ans := splRun 2 (fun _ d => poolChecks d) doPool s

/-! ### RSMP (R214) -/

/-- Output size of RSMP along an axis. -/
def rsmpOut (half : Bool) (n : Nat) : Nat := if half then n / 2 else 2 * n

/-- The checks of an RSMP descriptor. -/
def rsmpChecks (d : List Byte) : List SplCheck :=
  let g := Geo.of d
  let half := (dField d 48 1).testBit 1
  ([(dField d 48 1 < 4, 2, 48), zeroBytes d 49 111] : List SplCheck) ++ poolGeoChecks g (rsmpOut half g.win)
    ++ (if half then ([(2 ≤ g.win, 3, 32), (2 ≤ g.hin, 3, 34)] : List SplCheck) else ([(g.win ≤ 2048, 3, 32), (g.hin ≤ 2048, 3, 34)] : List SplCheck))

/-- The two source indices and weights of bilinear doubling along an axis. -/
def bilin (o n : Nat) : (Nat × Nat) × (Int × Int) :=
  if o % 2 = 0 then ((clampIdx ((o / 2 : Nat) - (1 : Int)) n, clampIdx (o / 2 : Nat) n), (1, 3))
  else ((clampIdx ((o - 1) / 2 : Nat) n, clampIdx ((o + 1) / 2 : Nat) n), (3, 1))

/-- One output code of RSMP. -/
def rsmpCode (d : List Byte) (g : Geo) (r : Rows) (y x ch : Nat) : Res :=
  let m := dField d 48 1
  let v (iy ix : Nat) : Int := codeAt r g.cin (min iy (g.hin - 1)) (min ix (g.win - 1)) ch
  let q : Int :=
    match m.testBit 0, m.testBit 1 with
    | false, false => v (y / 2) (x / 2)
    | false, true => v (2 * y) (2 * x)
    | true, true => rne (v (2 * y) (2 * x) + v (2 * y) (2 * x + 1) + v (2 * y + 1) (2 * x) + v (2 * y + 1) (2 * x + 1)) 2
    | true, false =>
      let a := bilin y g.hin
      let b := bilin x g.win
      rne (a.2.1 * b.2.1 * v a.1.1 b.1.1 + a.2.1 * b.2.2 * v a.1.1 b.1.2 + a.2.2 * b.2.1 * v a.1.2 b.1.1 + a.2.2 * b.2.2 * v a.1.2 b.1.2) 4
  (q, fNone)

/-- RSMP (R214): the rows in order. -/
def doRsmp (d : List Byte) (s : State) : SplEnd :=
  let g := Geo.of d
  let half := (dField d 48 1).testBit 1
  rowEnd (rowOps (splCtx s) ⟨dField d 16 6, g.spitch, g.win * g.cin, dField d 24 6, g.dpitch, 0⟩
    (fun y => min (if half then 2 * y + 1 else (y + 1) / 2) (g.hin - 1))
    (fun r y => codeRow ((List.range (rsmpOut half g.win)).flatMap fun x => (List.range g.cin).map fun ch => rsmpCode d g r y x ch))
    (List.range (rsmpOut half g.hin)) #[] s)

/-- RSMP. -/
def execSplRsmp (s : State) : Ans := splRun 3 (fun _ d => rsmpChecks d) doRsmp s

/-! ### DECODE (R215, R216) -/

/-- Greatest `x ≥ r` reachable with the lowest `k` bits whose 256th power is at most `n`. -/
def root256 (n : Nat) : Nat → Nat → Nat
  | 0, r => r
  | k + 1, r => if (r + 2 ^ k) ^ 256 ≤ n then root256 n k (r + 2 ^ k) else root256 n k r

/-- Entry `i` of the exp2 table (R169): the integer nearest `2^14 * 2^(-i/256)`. -/
def exp2Entry (i : Nat) : Nat :=
  let r := root256 (2 ^ (3584 - i)) 15 0
  if (2 * r + 1) ^ 256 < 2 ^ (3584 - i + 256) then r + 1 else r

/-- The size of a decoded box along one axis (R216). -/
def wdec (d : Int) (a dws : Nat) : Res :=
  let u0 := d * (2 ^ (8 - dws) : Nat)
  let u := if u0 > 2048 then 2048 else if u0 < -2048 then -2048 else u0
  let n := u / 256
  let i := (u - 256 * n).toNat
  let g : Int := if i = 0 then 16384 else 2 * exp2Entry (256 - i)
  (rne (a * g) (14 - n).toNat, if u = u0 then fNone else fSat)

/-- The checks of a DECODE descriptor. -/
def decodeChecks (d : List Byte) : List SplCheck :=
  let na := dField d 32 4
  let nc := dField d 36 1
  let sh := dField d 37 1
  let iw := dField d 40 4
  let ih := dField d 44 4
  [(dField d 39 1 < 2, 2, 39), (dField d 54 2 = 0, 2, 48), (dField d 62 2 = 0, 2, 56), zeroBytes d 64 111,
   (1 ≤ na && na ≤ 65536, 3, 32), (1 ≤ nc && nc ≤ 16, 3, 36), (sh % 16 ≤ 10 && sh / 16 ≤ 8, 3, 37),
   (1 ≤ iw && iw ≤ 2 ^ 20, 3, 40), (1 ≤ ih && ih ≤ 2 ^ 20, 3, 44)]

/-- The candidates in order: score code descending, then key ascending (R216). -/
def candidates (scores : List Int) (thr : Int) : List (Nat × Int) :=
  let l := (List.range scores.length).zip scores
  (List.range (128 - thr).toNat).flatMap fun j => l.filter fun e => e.2 = 127 - (j : Int)

/-- The record and flags of the candidate with this anchor and these deltas, or none when the anchor is out of range. -/
def candRecord (d anc del : List Byte) (key : Nat) (score : Int) : Option (List Byte × BitVec 4) :=
  let nc := dField d 36 1
  let n := key / nc
  let word (i : Nat) : Int := sextN (dField anc (4 * i) 4) 32
  let dl (i : Nat) : Int := (del.getD i 0).toInt
  let okC (v : Int) : Bool := 0 ≤ v && v ≤ 2 ^ 20
  let okS (v : Int) : Bool := 1 ≤ v && v ≤ 65535
  if !(okC (word 0) && okC (word 1) && okS (word 2) && okS (word 3)) then none
  else
    let dxs := dField d 37 1 % 16
    let dws := dField d 37 1 / 16
    let cx := word 0 + rne (dl 0 * word 2) dxs
    let cy := word 1 + rne (dl 1 * word 3) dxs
    let w := wdec (dl 2) (word 2).toNat dws
    let h := wdec (dl 3) (word 3).toNat dws
    let clip := dField d 39 1 = 1
    let cl (v : Int) (m : Nat) : Int := if clip then min (max v 0) m else v
    let b (v : Int) : List Byte := leBytes 4 (uwrap v 32).toNat
    some (b (cl (cx - rne w.1 1) (dField d 40 4)) ++ b (cl (cy - rne h.1 1) (dField d 44 4))
      ++ b (cl (cx + rne w.1 1) (dField d 40 4)) ++ b (cl (cy + rne h.1 1) (dField d 44 4))
      ++ [BitVec.ofInt 8 score, BitVec.ofNat 8 (key % nc), 0, 0] ++ leBytes 4 n ++ List.replicate 8 0, w.2 ||| h.2)

/-- Write records one after another, `n` being written: the address of a failed transaction or none, and the records written. -/
def writeRecords (ctx : Nat) : Nat → Nat → List (List Byte) → State → (Option Nat × Nat) × State
  | _, n, [], s => ((none, n), s)
  | a, n, r :: rs, s =>
    match netWrite splOid ctx a r s with
    | (some x, s) => ((some x, n), s)
    | (none, s) => writeRecords ctx (a + 32) (n + 1) rs s

/-- The kept candidates one after another, `n` being written (R216): the anchor and the deltas of each are read, checked and used. -/
def decodeAll (d : List Byte) (ovf : Nat) : Nat → List (Nat × Int) → State → SplEnd
  | n, [], s => (.inr (ovf, n), s)
  | n, e :: es, s =>
    let c := splCtx s
    let a := e.1 / dField d 36 1
    match netRead splOid c (dField d 48 6 + 16 * a) 16 s with
    | (.inl x, s) => netEnd x n s
    | (.inr anc, s) =>
      match netRead splOid c (dField d 56 6 + 4 * a) 4 s with
      | (.inl x, s) => netEnd x n s
      | (.inr del, s) =>
        match candRecord d anc del e.1 e.2 with
        | none => (.inl (3, 48, n), s)
        | some (r, f) =>
          match netWrite splOid c (dField d 24 6 + 32 * n) r (splFlags f s) with
          | (some x, s) => netEnd x n s
          | (none, s) => decodeAll d ovf (n + 1) es s

/-- DECODE (R216). -/
def doDecode (d : List Byte) (s : State) : SplEnd :=
  match netRead splOid (splCtx s) (dField d 16 6) (dField d 32 4 * dField d 36 1) s with
  | (.inl x, s) => netEnd x 0 s
  | (.inr sc, s) =>
    match useStore 1 0x2020100000 0x80000 s with
    | (some x, s) => (.inl (8, x, 0), s)
    | (none, s) =>
      let all := candidates (sc.map BitVec.toInt) (sextN (dField d 38 1) 8)
      decodeAll d (ofBool (4096 < all.length)) 0 (all.take 4096) s

/-- DECODE. -/
def execSplDecode (s : State) : Ans := splRun 4 (fun _ d => decodeChecks d) doDecode s

/-! ### NMS (R217, R218) -/

/-- A box of a candidate record. -/
structure Box where
  x1 : Int
  y1 : Int
  x2 : Int
  y2 : Int
  cls : Nat

/-- The box of a record. -/
def Box.of (r : List Byte) : Box :=
  let w (i : Nat) : Int := sextN (dField r i 4) 32
  ⟨w 0, w 4, w 8, w 12, dField r 17 1⟩

/-- Area of a box (R218). -/
def Box.area (b : Box) : Int := max 0 (b.x2 - b.x1) * max 0 (b.y2 - b.y1)

/-- Does a kept box suppress another (R218)? -/
def suppresses (tn : Nat) (cls : Bool) (k b : Box) : Bool :=
  (!cls || k.cls = b.cls) &&
    (let iw := max 0 (min b.x2 k.x2 - max b.x1 k.x1)
     let ih := max 0 (min b.y2 k.y2 - max b.y1 k.y1)
     let inter := iw * ih
     256 * inter > tn * (b.area + k.area - inter))

/-- The records kept (R218). -/
def nmsKeep (kmax tn : Nat) (cls : Bool) : List (List Byte) → List (List Byte) → List (List Byte)
  | [], kept => kept
  | r :: rs, kept =>
    if kept.length = kmax then kept
    else if kept.any fun k => suppresses tn cls (Box.of k) (Box.of r) then nmsKeep kmax tn cls rs kept
    else nmsKeep kmax tn cls rs (kept ++ [r])

/-- The checks of an NMS descriptor (R217). -/
def nmsChecks (s : State) (d : List Byte) : List SplCheck :=
  [(dField d 37 1 < 2, 2, 37), zeroBytes d 38 111, (dField d 32 2 ≤ 4096, 3, 32),
   (1 ≤ dField d 34 2 && dField d 34 2 ≤ 256, 3, 34), (dField d 32 2 ≠ 0 || s.spl.prevCount.isSome, 3, 32)]

/-- NMS (R217, R218): the candidates are read, the kept ones written. -/
def doNms (d : List Byte) (s : State) : SplEnd :=
  let c := splCtx s
  let n := if dField d 32 2 = 0 then s.spl.prevCount.getD 0 else dField d 32 2
  match netRead splOid c (dField d 16 6) (32 * n) s with
  | (.inl x, s) => netEnd x 0 s
  | (.inr bs, s) =>
    match useStore 1 0x2020100000 0x80000 s with
    | (some x, s) => (.inl (8, x, 0), s)
    | (none, s) =>
      let recs := (List.range n).map fun i => (bs.drop (32 * i)).take 32
      let kept := nmsKeep (dField d 34 2) (dField d 36 1) (dField d 37 1 = 1) recs []
      match writeRecords c (dField d 24 6) 0 kept s with
      | ((some x, n), s) => netEnd x n s
      | ((none, n), s) => (.inr (0, n), s)

/-- NMS. -/
def execSplNms (s : State) : Ans := splRun 5 nmsChecks doNms s

/-- SPL_NOP (R205). -/
def execSplNop (s : State) : Ans := splRun 6 (fun _ d => [zeroBytes d 32 111]) (fun _ s => (.inr (0, 0), s)) s

/-- SPL_END (R204): the job's end is due. -/
def execSplEnd (s : State) : Ans := splRun 0 (fun _ d => [zeroBytes d 32 111]) (fun _ s => (.inr (0, 0), s)) s

/-- A teardown of Sapling's context (R207, R222): the descriptor in execution completes with STATUS 0xFE where its writeback is reachable, nothing is
signalled. Between the assignment and the start of a job no descriptor is in execution. -/
def splTeardown (s : State) : State :=
  if s.fld F.SPL_STATE_STATE = uRunning && (s.sched.jobs.any fun j => j.sap && j.start.isSome) && !s.spl.halted && !s.spl.ended && canWriteBack s then
    (writeback 0xFE 0 0 s).2
  else s

end Sys2Proof.Machine
end

