-- ==== Sys2Proof/Machine/CrownEngines.lean ====
section
/-! DEFINITION. What the units of a Crown core do with their queues: taking, dispatching, signals, waits, retiring and the end of a
job on a core (R87, R90 to R93, R111, R115 to R119, R134 to R136, R289, R293). -/

namespace Sys2Proof.Machine

/-! ### Waits at the head of a queue -/

/-- Mark the oldest entry of a queue that is not a signal. -/
def markSeen (c : Nat) (q : QName) (s : State) : State :=
  let k := s.core c
  match effHead (k.queue q) with
  | some (pre, e, post) => s.setCore c (k.setQueue q (pre ++ { e with seen := true } :: post))
  | none => s

/-- An RWAIT at the head sets up its watch: a wait on a global ring is checked once (R119, R293). -/
def armWait (c : Nat) (q : QName) (e : QEntry) (s : State) : State :=
  if e.seen || !(ringGlobal (e.ring c)) then s
  else
    match netRingRead (e.ring c) (coreOid c) (coreCtxN s c) s with
    | (true, s) => markSeen c q s
    | (false, s) => queueFault c e 8 ((ringReg (e.ring c)).getD 0 : Nat) s

/-- Drop the oldest entry of a queue that is not a signal. -/
def popHead (c : Nat) (q : QName) (s : State) : State :=
  let k := s.core c
  match effHead (k.queue q) with
  | some (pre, _, post) => s.setCore c (k.setQueue q (pre ++ post))
  | none => s

/-! ### The engines take instructions -/

/-- The oldest instruction that a DMA engine may take: none behind a wait (R90, R115). -/
def dmaNext (eng : Bool) : List QEntry → Option QEntry
  | [] => none
  | e :: r => if e.isWait then none else if dmaEngine e = some eng then some e else dmaNext eng r

/-- DMA_TAKE (R90, R152): a free engine takes its oldest instruction and moves its rows. -/
def execDmaTake (core : Fin 6) (eng : Bool) (s : State) : Ans :=
  let c : Nat := core
  let k := s.core c
  if !(engineRuns s c) then .next s
  else
    match effHead k.qDma with
    | none => .next s
    | some (_, h, _) =>
      if h.isWait then .next (armWait c .dma h s)
      else if k.flDma.any fun e => dmaEngine e = some eng then .next s
      else
        match dmaNext eng k.qDma with
        | none => .next s
        | some e =>
          let s := s.setCore c { k with qDma := k.qDma.filter fun x => x.n ≠ e.n, flDma := k.flDma ++ [e] }
          .next (dmaRows c e (List.range (Tile.rows e.t0)) 0 s)

/-- ARRAY_DISPATCH (R134, R135): the load unit takes an AWLD when it is idle and no dispatched instruction has still to swap in its tile; the
stream unit takes an AMM or AMMC when it is idle, and waits at its swap while the tile loads. -/
def execArrayDispatch (core : Fin 6) (s : State) : Ans :=
  let c : Nat := core
  let k := s.core c
  if !(engineRuns s c) then .next s
  else
    match effHead k.qArray with
    | none => .next s
    | some (_, e, _) =>
      if e.isWait then .next (armWait c .array e s)
      else
        match e.op with
        | .awld .. =>
          if k.flArray.any (fun x => x.isLoad && !x.seen) || (waitingStream k).isSome then .next s
          else
            let s := popHead c .array s
            let k := s.core c
            .next (s.setCore c { k with flArray := k.flArray ++ [e], shadowSt := .loading })
        | _ =>
          if (waitingStream k).isSome then .next s
          else
            let s := popHead c .array s
            let k := s.core c
            .next (runStream c e (s.setCore c { k with flArray := k.flArray ++ [e] }))

/-- TWIG_ISSUE (R87, R115): the Twig unit issues the head of its queue. -/
def execTwigIssue (core : Fin 6) (s : State) : Ans :=
  let c : Nat := core
  if !(engineRuns s c) then .next s
  else
    match effHead (s.core c).qTwig with
    | none => .next s
    | some (_, e, _) =>
      if e.isWait then .next (armWait c .twig e s)
      else
        let s := popHead c .twig s
        let k := s.core c
        let s := s.setCore c { k with flTwig := k.flTwig ++ [e] }
        match e.op with
        | .qdrn .. => .next (quantEffect c e s)
        | .qdq .. => .next (quantEffect c e s)
        | .qnt .. => .next (quantEffect c e s)
        | .qscl .. => .next (quantEffect c e s)
        | _ => .next (twigEffect c e s)

/-- SHADOW_LOAD_COMPLETE (R132, R135): the load unit has read the last weight row of its AWLD, and a stream that waits for it swaps. -/
def execShadowLoadComplete (core : Fin 6) (s : State) : Ans :=
  let c : Nat := core
  let k := s.core c
  if !(engineRuns s c) then .next s
  else
    match k.flArray.find? fun x => x.isLoad && !x.seen with
    | none => .next s
    | some e =>
      match e.op with
      | .awld _ f =>
        match loadCodes c e.t0 0 (List.range (Tile.rows e.t0)) [] s with
        | (none, s) => .next s
        | (some codes, s) =>
          let k := s.core c
          let s := s.setCore c { k with shadow := ⟨f.mode.toNat, f.grp, codes⟩, shadowSt := .ready
                                        flArray := k.flArray.map fun x => if x.n = e.n then { x with seen := true } else x }
          match waitingStream (s.core c) with
          | none => .next s
          | some w => .next (runStream c w s)
      | _ => .next s

/-! ### The SYNC queue (R93, R115, R119, R441) -/

/-- SYNC_QUEUE_HEAD (R115, R117, R119, R441): the ring unit acts on the head of SYNC. A signal to the core's own ring takes effect; one to
another core's or a global ring goes onto the network and stays at the head until its ring's block has applied it; a wait sets up
its watch; an RSIGD goes to Grove. -/
def execSyncQueueHead (core : Fin 6) (s : State) : Ans :=
  let c : Nat := core
  let k := s.core c
  if !(engineRuns s c) then .next s
  else
    match k.qSync with
    | [] => .next s
    | e :: rest =>
      let t := e.ring c
      match e.op with
      | .rwait .. => .next (armWait c .sync e s)
      | .rsigd _ _ =>
        if e.x < 0 || 2 ^ 14 ≤ e.x || e.x = devId s then .next (queueFault c e 7 e.x s)
        else .next (grvRsigd (coreCtxN s c) e.x.toNat t e.y.toNat (s.setCore c { k with qSync := rest }))
      | _ =>
        if e.inc = 0 || t / 1024 = c then .next (bumpRing t e.inc (s.setCore c { k with qSync := rest }))
        else if e.seen then .next s
        else
          let o : OwedSig := ⟨t, coreCtxN s c, coreOid c, e.inc, true, e.n⟩
          let s := s.setCore c { k with qSync := { e with seen := true } :: rest }
          .next { s with owed := s.owed ++ [o] }

/-- One owed signal reaches its ring's block, which applies or refuses it (R119, R286). A signal of a SYNC queue that is still at its head
retires; a refusal faults the instruction. -/
def applyOwed (s : State) (o : OwedSig) : State :=
  let c := o.oid - 0x10
  match netSignal o.ring o.oid o.ctx o.inc s with
  | (true, s) =>
    let k := s.core c
    if o.sync then s.setCore c { k with qSync := k.qSync.filter fun e => !(e.n = o.n && e.seen) } else s
  | (false, s) =>
    let k := s.core c
    if o.sync then
      match k.qSync.find? fun e => e.n = o.n && e.seen with
      | some e => queueFault c e 8 (ringSigReg o.ring : Nat) s
      | none => s
    else
      match k.flDma.find? fun e => e.n = o.n with
      | some e => queueFault c e 0x14 ((regBase + ringSigReg o.ring) % 2 ^ 32 : Nat) s
      | none => s

/-- RING_SIGNAL_APPLY (R118, R119, R286): every signal on its way to a ring takes effect. -/
def execRingSignalApply (ring : BitVec 13) (s : State) : Ans :=
  let l := s.owed.filter fun o => o.ring = ring.toNat
  .next (l.foldl applyOwed { s with owed := s.owed.filter fun o => o.ring ≠ ring.toNat })

/-! ### Retiring (R93, R115, R136) -/

/-- The queue that a unit serves. -/
def retireQueue : RetireUnit → QName
  | .dma _ => .dma
  | .load => .array
  | .stream => .array
  | .twig => .twig

/-- May this instruction in flight retire from a unit? A DSCT stays while its arrival signals are on their way. -/
def retires (s : State) (c : Nat) (u : RetireUnit) (e : QEntry) : Bool :=
  match u with
  | .dma g => dmaEngine e = some g && !(s.owed.any fun o => o.oid = coreOid c && !o.sync && o.n = e.n)
  | .load => e.seen && e.isLoad
  | .stream => e.seen && !e.isLoad
  | .twig => true

/-- Registers that wait for a TWIG-queue instruction are ready (R102). -/
def releaseRegs (k : Crown) (e : QEntry) : Crown :=
  match e.op with
  | .vext _ f => { k with pendS := k.pendS.erase f.rs.toNat }
  | .vany _ f => { k with pendP := k.pendP.erase f.imm.toNat }
  | _ => k

/-- INSTRUCTION_RETIRE (R93, R136): the oldest instruction of a unit retires; a DMA instruction with SIG = 1 signals its ring, and the signals
of its queue that waited for it take effect. -/
def execInstructionRetire (core : Fin 6) (unit : RetireUnit) (s : State) : Ans :=
  let c : Nat := core
  let q := retireQueue unit
  let k := s.core c
  if !(engineRuns s c) then .next s
  else
    match (k.flight q).find? (retires s c unit) with
    | none => .next s
    | some e =>
      let s := s.setCore c (releaseRegs (k.setFlight q ((k.flight q).filter fun x => x.n ≠ e.n)) e)
      let s := match dmaSignal e with | some r => bumpRing (c * 1024 + r % 256) 1 s | none => s
      .next (settle c q s)

/-! ### Waits end (R116, R118, R293) -/

/-- A wait at the head of a queue whose ring has reached its target frees the queue. -/
def releaseQueue (c : Nat) (q : QName) (s : State) : State :=
  match effHead ((s.core c).queue q) with
  | some (pre, e, _) =>
    if e.isWait && (q ≠ .sync || pre = []) && (e.seen || !(ringGlobal (e.ring c))) && reached (ringVal s (e.ring c)) e.x.toNat then
      settle c q (popHead c q s)
    else s
  | none => s

/-- RING_WAIT_SATISFIED (R116, R118, R206): a wait whose ring has reached its target resumes. -/
def execRingWaitSatisfied (place : WaitPlace) (s : State) : Ans :=
  match place with
  | .queue core q => .next (if engineRuns s core then releaseQueue core q s else s)
  | .decode core =>
    let c : Nat := core
    let k := s.core c
    match k.seqWait with
    | none => .next s
    | some (t, tgt) =>
      if engineRuns s c && reached (ringVal s t) tgt then
        .next (advance c k.heldWord (s.setCore c { k with seqWait := none }))
      else .next s
  | .sapling =>
    match s.spl.wait with
    | none => .next s
    | some (t, tgt) =>
      .next (if reached (ringVal s t) tgt && !s.spl.halted then s.setSpl { s.spl with wait := none, passed := true } else s)

/-- JOB_END_REPORT (R111): END has been executed, the queues are empty and every instruction has retired; the core reports the end. -/
def execJobEndReport (core : Fin 6) (s : State) : Ans :=
  let c : Nat := core
  let k := s.core c
  if !(engineRuns s c) || !k.ended || k.qDma ≠ [] || k.qArray ≠ [] || k.qTwig ≠ [] || k.qSync ≠ [] || k.flDma ≠ [] || k.flArray ≠ []
      || k.flTwig ≠ [] then .next s
  else
    .next (s.setSched { s.sched with jobs := s.sched.jobs.map fun j =>
      if j.dispatched && j.cores.contains c && !(j.ended.contains c) then { j with ended := j.ended ++ [c] } else j })

end Sys2Proof.Machine
end

