-- ==== Sys2Proof/Machine/Ethernet.lean ====
section
/-! DEFINITION. The Ethernet ports: filtering and steering, rings, one-step time stamps, links (R412 to R417, R424 to R427). -/

namespace Sys2Proof.Machine

/-! ### Frames -/

/-- Big-endian value of bytes, as on the wire. -/
def beAt (f : List Byte) (i n : Nat) : Nat := leNat ((f.drop i).take n).reverse

/-- Big-endian bytes of a value. -/
def beBytes (n v : Nat) : List Byte := (leBytes n v).reverse

/-- Replace bytes from place `i` on. -/
def patch (f : List Byte) (i : Nat) (b : List Byte) : List Byte := f.take i ++ b ++ f.drop (i + b.length)

/-- Is the frame tagged (IEEE 802.1Q)? -/
def ethTagged (f : List Byte) : Bool := beAt f 12 2 = 0x8100
/-- Offset of the payload behind the EtherType. -/
def ethPay (f : List Byte) : Nat := if ethTagged f then 18 else 14
/-- The EtherType. -/
def ethType (f : List Byte) : Nat := beAt f (ethPay f - 2) 2
/-- Is the frame IPv4? -/
def isV4 (f : List Byte) : Bool := ethType f = 0x0800 && (leAt f (ethPay f) 1) / 16 = 4
/-- Is the frame IPv6? -/
def isV6 (f : List Byte) : Bool := ethType f = 0x86DD && (leAt f (ethPay f) 1) / 16 = 6
/-- Is the IPv4 datagram a fragment? -/
def isFrag (f : List Byte) : Bool := isV4 f && (beAt f (ethPay f + 6) 2) % 2 ^ 14 ≠ 0
/-- Offset of the UDP header, none when the frame is not UDP over IPv4 or IPv6. -/
def udpOff (f : List Byte) : Option Nat :=
  let p := ethPay f
  if isV4 f && leAt f (p + 9) 1 = 17 then some (p + leAt f p 1 % 16 * 4)
  else if isV6 f && leAt f (p + 6) 1 = 17 then some (p + 40)
  else none
/-- UDP destination port. -/
def udpPort (f : List Byte) : Option Nat := (udpOff f).map fun o => beAt f (o + 2) 2

/-- Sum of 16-bit big-endian words. -/
def sumWords : List Byte → Nat
  | [] => 0
  | [a] => a.toNat * 256
  | a :: b :: t => a.toNat * 256 + b.toNat + sumWords t

/-- One's complement fold to 16 bits. -/
def foldSum (x : Nat) : Nat := let y := x % 2 ^ 16 + x / 2 ^ 16; let z := y % 2 ^ 16 + y / 2 ^ 16; z % 2 ^ 16 + z / 2 ^ 16

/-- One's complement sum of the pseudo-header and the UDP datagram at offset `o`. -/
def udpSum (f : List Byte) (o : Nat) : Nat :=
  let p := ethPay f
  let n := beAt f (o + 4) 2
  let addr := if isV4 f then (f.drop (p + 12)).take 8 else (f.drop (p + 8)).take 32
  foldSum (sumWords addr + 17 + n + sumWords ((f.drop o).take n))

/-- The UDP checksum is present and right. -/
def udpGood (f : List Byte) : Bool := match udpOff f with | some o => beAt f (o + 6) 2 ≠ 0 && udpSum f o = 0xFFFF | none => false

/-- The UDP checksum is wrong; over IPv4 a checksum of 0 is none. -/
def udpBad (f : List Byte) : Bool := !(udpGood f) && !(isV4 f && (match udpOff f with | some o => beAt f (o + 6) 2 = 0 | none => true))

/-- Set the UDP checksum (R416). -/
def setUdpSum (f : List Byte) : List Byte :=
  match udpOff f with
  | none => f
  | some o =>
    let g := patch f (o + 6) [0, 0]
    let c := 0xFFFF - udpSum g o
    patch g (o + 6) (beBytes 2 (if c = 0 then 0xFFFF else c))

/-- Is the frame a PTP message (R414)? -/
def isPtp (f : List Byte) : Bool := ethType f = 0x88F7 || udpPort f = some 319 || udpPort f = some 320

/-! ### Time stamps (R424) -/

/-- A correction in tenths of a ns as units of 2^-16 ns. -/
def corr (w : Nat) : Int := (rdiv (sextN w 16 * 65536) 10 32).1

/-- The stamp for a crossing of the MAC/PCS boundary `eighths` of 0.125 ns before now, with a correction. -/
def stampAt (s : State) (eighths : Nat) (c : Int) : Nat := ((s.time : Int) - (eighths * 8192 : Nat) + c).toNat

/-! ### Events and links -/

/-- Codewords that FEC corrected and could not correct (R432, R433): ETH_FEC_UNCORR comes at most once per second and port. -/
def fecCount (p cor unc : Nat) (s : State) : State :=
  let s := s.put (F.ETH_FECCNT_CORR p) (min 0xFFFF (s.fld (F.ETH_FECCNT_CORR p) + cor))
  let s := s.put (F.ETH_FECCNT_UNCORR p) (min 0xFFFF (s.fld (F.ETH_FECCNT_UNCORR p) + unc))
  let last := spGet 0 s.tim.fec p
  if unc = 0 || (last ≠ 0 && !(s.passed (last - 1) 1000000)) then s
  else
    raise { code := 0x8083, oid := ethOid, sev := 0, a0 := p, a1 := s.fld (F.ETH_FECCNT_UNCORR p) }
      (s.setTim { s.tim with fec := spSet 0 p (s.elapsed + 1) s.tim.fec })

/-- ETH_LINK_UP (R424, R432, R444): the factory corrections are loaded. -/
def execEthLinkUp (port : Fin 2) (s : State) : Ans :=
  let p : Nat := port
  if !(s.flag (F.ETH_CTRL_EN p)) || s.flag (F.ETH_STAT_LINK p) then .next s
  else
    let s := ((s.put (F.ETH_STAT_LINK p) 1).put (F.ETH_STAT_FAULT p) 0).setReg (Reg.ETH_TSCOR p) (Config.factoryTscor p)
    .next (moveStreams (raise { code := 0x8081, oid := ethOid, sev := 0, a0 := p, a1 := s.fld (F.ETH_CTRL_RATE p) } s))

/-- The link of a port goes down for the reasons of ETH_STAT.FAULT. -/
def linkLost (p fault : Nat) (s : State) : State :=
  if !(s.flag (F.ETH_STAT_LINK p)) then s.put (F.ETH_STAT_FAULT p) fault
  else
    let s := (s.put (F.ETH_STAT_LINK p) 0).put (F.ETH_STAT_FAULT p) fault
    moveStreams (raise { code := 0x8080, oid := ethOid, sev := 1, a0 := p, a1 := fault } s)

/-- ETH_LINK_DOWN (R432, R444). -/
def execEthLinkDown (port : Fin 2) (fault : BitVec 3) (s : State) : Ans := .next (linkLost port fault.toNat s)

/-- ETH_DESC_ERR (R415): the ring's EN is cleared. -/
def ethDescErr (p r rx ctx index off : Nat) (s : State) : State :=
  let s := if rx = 1 then s.put (F.ETH_RX_CFG_EN p r) 0 else s.put (F.ETH_TX_CFG_EN p r) 0
  raise { code := 0x8082, oid := ethOid, ctx := ctx, sev := 2, a0 := p, a1 := r + rx * 16, a2 := index, a3 := off } s

/-! ### Receiving (R413, R414, R417) -/

/-- The port keeps frames to this address (R414). -/
def keeps (s : State) (p mac : Nat) : Bool :=
  mac = s.fld (F.ETH_MAC_LO_MAC p) + s.fld (F.ETH_MAC_HI_MAC p) * 2 ^ 32 || mac = 2 ^ 48 - 1
    || (List.range 16).any fun m => s.flag (F.ETH_MC_HI_EN p m) && mac = s.fld (F.ETH_MC_LO_ADDR_LO p m) + s.fld (F.ETH_MC_HI_ADDR_HI p m) * 2 ^ 32

/-- A frame is written to receive ring `r` of a port (R415, R417). -/
def rxRing (p r : Nat) (f : List Byte) (stamp : Nat) (s : State) : State :=
  let head := (s.reg (Reg.ETH_RX_HEAD p r)).toNat
  let c := s.fld (F.ETH_RX_CFG_CTX p r)
  if 2 ^ (s.fld (F.ETH_RX_CFG_BUFSZ p r) + 8) < f.length then s.incHold (F.ETH_RXDROP_LONG p)
  else if !(s.flag (F.ETH_RX_CFG_EN p r)) || decide (wrap ((s.reg (Reg.ETH_RX_TAIL p r)).toNat - (head : Int)) 32 ≤ 0) then
    s.incHold (F.ETH_RXDROP_NOBUF p)
  else
    let da := s.fld (F.ETH_RX_BASE_LO_BASE p r) * 32 + s.fld (F.ETH_RX_BASE_HI_BASE p r) * 2 ^ 32 + head % 2 ^ s.fld (F.ETH_RX_CFG_QSZ p r) * 32
    match netRead ethOid c da 32 s with
    | (.inl _, s) => s
    | (.inr d, s) =>
      if leAt d 6 2 ≠ 0 then ethDescErr p r 1 c head 0 s
      else
        match netWrite ethOid c (leAt d 0 6) f s with
        | (some _, s) => ethDescErr p r 1 c head 0 s
        | (none, s) =>
          let cls := ofBool (isPtp f) + 2 * ofBool (ethTagged f) + 4 * ofBool (isV4 f) + 8 * ofBool (isV6 f) + 16 * ofBool (udpGood f)
          let ns := stamp / 65536
          let wb := leBytes 2 f.length ++ [1] ++ leBytes 1 cls ++ leBytes 2 (if ethTagged f then beAt f 14 2 else 0) ++ [0, 0]
            ++ leBytes 2 (stamp % 65536) ++ leBytes 4 (ns % 1000000000) ++ leBytes 6 (ns / 1000000000) ++ [0, 0, 0, 0]
          let s := (netWrite ethOid c (da + 8) wb s).2
          let s := s.setReg (Reg.ETH_RX_HEAD p r) (BitVec.ofNat 32 (head + 1))
          let t := s.fld (F.ETH_RX_SIG_RING p r)
          let s := if s.flag (F.ETH_RX_SIG_SIGEN p r) && (ringReg t).isSome then (netSignal t ethOid c 1 s).2 else s
          s.msix (s.fld (F.ETH_RX_SIG_VEC p r))

/-- Gb/s of the rate in use (R412). -/
def ethGbps (s : State) (p : Nat) : Nat :=
  match s.fld (F.ETH_CTRL_RATE p) with | 0 => 25 | 1 => 50 | 2 => 100 | 3 => 100 | 4 => 200 | _ => 400

/-- A pause frame that an enabled PAUSE honours (R413, IEEE 802.3 Annex 31B): the reserved or the port's own address, opcode 1. -/
def isPause (s : State) (p : Nat) (f : List Byte) : Bool :=
  s.flag (F.ETH_CTRL_PAUSE p) && f.length = 60 && beAt f 12 4 = 0x88080001
    && (beAt f 0 6 = 0x0180C2000001 || beAt f 0 6 = s.fld (F.ETH_MAC_LO_MAC p) + s.fld (F.ETH_MAC_HI_MAC p) * 2 ^ 32)

/-- The port sends nothing for the frame's quanta of 512 bit times from now (R413, R553); a later pause frame replaces the time. -/
def takePause (p quanta : Nat) (s : State) : State :=
  s.setTim { s.tim with pause := spSet 0 p (s.elapsed + quanta * 512 * 2 ^ 32 / ethGbps s p) s.tim.pause }

/-- Transmission of a port is paused (R413). -/
def ethPaused (s : State) (p : Nat) : Bool := decide (s.elapsed < spGet 0 s.tim.pause p)

/-- ETH_RX_FRAME (R414, R417): a frame without its FCS, whether the FCS was right, how many eighths of a ns ago its time stamp point crossed the
MAC/PCS boundary, and the FEC codewords corrected and not correctable. -/
def execEthRxFrame (port : Fin 2) (frame : List Byte) (fcsOk : Bool) (back : Nat) (cor unc : BitVec 16) (s : State) : Ans :=
  let p : Nat := port
  if !(s.flag (F.ETH_CTRL_EN p)) || !(linkUp s p) then .next s
  else
    let s := fecCount p cor.toNat unc.toNat s
    if frame.length < 60 then .next s
    else if fcsOk && isPause s p frame then .next (takePause p (beAt frame 16 2) s)
    else if !(keeps s p (beAt frame 0 6)) then .next s
    else if 9220 < frame.length + 4 then .next (s.incHold (F.ETH_RXDROP_LONG p))
    else if !fcsOk then
      let r := s.freeNat
      .next (if r.1 % 2 = 0 then r.2.incHold (F.ETH_RXDROP_NOBUF p) else r.2.incHold (F.ETH_RXDROP_LONG p))
    else if udpPort frame = some (s.fld F.GRV_UDPPORT_PORT) then
      let o := (udpOff frame).getD 0
      .next (grvReceive (isFrag frame || udpBad frame) ((frame.drop (o + 8)).take (beAt frame (o + 4) 2 - 8)) s)
    else
      let stamp := stampAt s back (-(corr (s.fld (F.ETH_TSCOR_RXCOR p))))
      let pcp := if ethTagged frame then beAt frame 14 2 / 2 ^ 13 else 0
      let r := if isPtp frame then s.fld (F.ETH_PTPQ_RING p) else slice (s.fld (F.ETH_PRIMAP_MAP p)) (3 * pcp + 2) (3 * pcp)
      .next (rxRing p r frame stamp s)

/-! ### Sending (R415, R416, R425, R426) -/

/-- Pending transmit descriptors of a ring. -/
def txPending (s : State) (p r : Nat) : Bool :=
  s.flag (F.ETH_TX_CFG_EN p r) && decide (0 < wrap ((s.reg (Reg.ETH_TX_TAIL p r)).toNat - ((s.reg (Reg.ETH_TX_HEAD p r)).toNat : Int)) 32)

/-- The ring that sends next (R415): the highest PRIO, round-robin by index behind the ring last served. -/
def txNext (s : State) (p : Nat) : Option Nat :=
  let last := spGet 7 s.tim.served p
  let order := (List.range 8).map fun i => (last + 1 + i) % 8
  let ready := order.filter fun r => txPending s p r
  let top := ready.foldl (fun m r => max m (s.fld (F.ETH_TX_CFG_PRIO p r))) 0
  ready.find? fun r => s.fld (F.ETH_TX_CFG_PRIO p r) = top

/-- The first field of a transmit descriptor that breaks R416. -/
def txBad (d : List Byte) : Option Nat :=
  if leAt d 6 2 ≠ 0 then some 0 else if leAt d 8 2 < 14 || 9216 < leAt d 8 2 then some 8 else if 8 ≤ leAt d 10 1 then some 10 else none

/-- The originTimestamp of a one-step Sync (R426): unchanged when the frame is no Sync or the field lies beyond it. -/
def oneStep (f : List Byte) (off stamp : Nat) : List Byte :=
  if f.length < off + 44 || leAt f off 1 % 16 ≠ 0 then f
  else
    let ns := stamp / 65536
    let g := patch f (off + 34) (beBytes 6 (ns / 1000000000) ++ beBytes 4 (ns % 1000000000))
    match udpOff g with
    | some o => if isV4 g then patch g (o + 6) [0, 0] else setUdpSum g
    | none => g

/-- A transmit descriptor completes with a STATUS. -/
def txDone (p r c da head status : Nat) (s : State) : State :=
  ((netWrite ethOid c (da + 11) [BitVec.ofNat 8 status] s).2.setReg (Reg.ETH_TX_HEAD p r) (BitVec.ofNat 32 (head + 1)))

/-- ETH_TX_FRAME (R415, R416, R425, R426): the port sends the next pending frame; its time stamp point crosses the MAC/PCS boundary `lead`
eighths of a ns before the frame is complete. -/
def execEthTxFrame (port : Fin 2) (lead : Nat) (s : State) : Ans :=
  let p : Nat := port
  match (if s.flag (F.ETH_CTRL_EN p) && !(ethPaused s p) then txNext s p else none) with
  | none => .next s
  | some r =>
    let s := s.setTim { s.tim with served := spSet 7 p r s.tim.served }
    let head := (s.reg (Reg.ETH_TX_HEAD p r)).toNat
    let c := s.fld (F.ETH_TX_CFG_CTX p r)
    let da := s.fld (F.ETH_TX_BASE_LO_BASE p r) * 16 + s.fld (F.ETH_TX_BASE_HI_BASE p r) * 2 ^ 32 + head % 2 ^ s.fld (F.ETH_TX_CFG_QSZ p r) * 16
    match netRead ethOid c da 16 s with
    | (.inl _, s) => .next s
    | (.inr d, s) =>
      match txBad d with
      | some o => .next (ethDescErr p r 0 c head o s)
      | none =>
        if !(linkUp s p) then .next (txDone p r c da head 2 s)
        else
          let len := leAt d 8 2
          match judge s ethOid c (leAt d 0 6) len false with
          | some f =>
            let s := reportFail ethOid c false f 0 s
            .next (if f.code = 0x3010 then ethDescErr p r 0 c head 0 s else txDone p r c da head 3 s)
          | none =>
            match netRead ethOid c (leAt d 0 6) len s with
            | (.inl _, s) => .next (txDone p r c da head 3 s)
            | (.inr f, s) =>
              let stamp := stampAt s lead (corr (s.fld (F.ETH_TSCOR_TXCOR p)))
              let f := if (leAt d 10 1).testBit 2 then setUdpSum f else f
              let f := if (leAt d 10 1).testBit 1 then oneStep f (leAt d 14 2) stamp else f
              let s := txDone p r c da head 1 (s.emit (.eth p (f ++ List.replicate (60 - f.length) 0)))
              .next (if (leAt d 10 1).testBit 0 then pushTx p ⟨stamp, leAt d 12 2⟩ s else s)

end Sys2Proof.Machine
end

