-- ==== Sys2Proof/Machine/Kvp.lean ====
section
/-! DEFINITION. The Page keeper: pool, sequences, command queues, and its commands (R178 to R199). -/

namespace Sys2Proof.Machine

/-- The directory updated. -/
def State.setKvp (s : State) (k : Kvp) : State := { s with kvp := k }

/-- The OID of the Page keeper (R31). -/
def kvpOid : Nat := 0x1A

/-! ### The pool (R178, R179, R191) -/

/-- Chunks reserved for context `c` (R191). -/
def kvpReserve (s : State) (c : Nat) : Nat := s.fld (F.KVP_CQ_QUOTA_MIN16 c) * 16

/-- May context `c` take `n` more chunks (R191)? -/
def quotaOk (s : State) (c n : Nat) : Bool :=
  let max := s.fld (F.KVP_CQ_QUOTA_MAX16 c) * 16
  let others := (List.range 64).foldl (fun t k => if k = c then t else t + (kvpReserve s k - kvpUsed s k)) 0
  (max = 0 || kvpUsed s c + n ≤ max) && others + n ≤ kvpFreeCh s

/-- Raise KV_POOL_LOW once when the free count has fallen below the mark (R191). -/
def poolLow (c : Nat) (s : State) : State :=
  let f := kvpFreeCh s
  if f < s.fld F.KVP_LOWMARK_MARK then
    if s.kvp.low then s
    else raise { code := 0x5004, oid := kvpOid, ctx := c, sev := 1, a0 := f, a1 := s.fld F.KVP_LOWMARK_MARK }
      (s.setKvp { s.kvp with low := true })
  else s.setKvp { s.kvp with low := false }

/-- Is the slot range free of every page? -/
def slotsFree (s : State) (pg n : Nat) : Bool := !(s.kvp.pages.any fun p => p.pg < pg + n && pg < p.pg + p.toks)

/-- Where a page of `n` tokens fits for context `c`: first slot and new chunks (R179). -/
def pagePlaces (s : State) (c n : Nat) : List (Nat × Nat) :=
  if 64 ≤ n then
    let k := n / 64
    ((List.range (kvpChunks s / k)).filter fun i => i ≠ 0 && (List.range k).all fun j => spGet 64 s.kvp.owner (i * k + j) = 64).map
      fun i => (i * k * 64, k)
  else
    let fresh := ((List.range (kvpChunks s)).filter fun i => i ≠ 0 && spGet 64 s.kvp.owner i = 64).flatMap
      fun i => (List.range (64 / n)).map fun q => (i * 64 + q * n, 1)
    let packed := if s.flag F.KVP_SUBPACK_PACK && !s.flag F.SYS_STRICT_STRICT then
        (s.kvp.owner.filter fun e => e.2 = c).flatMap fun e =>
          ((List.range (64 / n)).map fun q => (e.1 * 64 + q * n, 0)).filter fun x => slotsFree s x.1 n
      else []
    packed ++ fresh


/-- The page that starts at a slot. -/
def kvPage (s : State) (pg : Nat) : KvPage := (s.kvp.pages.find? fun p => p.pg = pg).getD ⟨pg, 16, 1, false⟩

/-! ### Places in the planes (R178) -/

/-- First byte of a chunk. -/
def chunkAddr (s : State) (ch : Nat) : Nat := kvpBase s + ch * kvpChunk s
/-- First byte of stream `st`'s planes in a chunk. -/
def streamAddr (s : State) (ch st : Nat) : Nat := chunkAddr s ch + 0x100 + st * (128 * kvpDim s + 256)
/-- Tag word of a slot. -/
def tagAddr (s : State) (slot : Nat) : Nat := chunkAddr s (slot / 64) + 4 * (slot % 64)
/-- Byte `k` of the key of a slot. -/
def keyAddr (s : State) (slot st k : Nat) : Nat := streamAddr s (slot / 64) st + 64 * k + slot % 64
/-- Value row of a slot. -/
def valAddr (s : State) (slot st : Nat) : Nat := streamAddr s (slot / 64) st + 64 * kvpDim s + slot % 64 * kvpDim s
/-- Scale word of a slot. -/
def scaleAddr (s : State) (slot st : Nat) : Nat := streamAddr s (slot / 64) st + 128 * kvpDim s + 4 * (slot % 64)

/-- The Page keeper writes bytes in the pool for the queue of context `c` (R181): Bark checks it. -/
def poolWrite (c a : Nat) (bs : List Byte) (s : State) : State := (nocWrite kvpOid c a bs s).2

/-- Set key, value and scale of a slot in a stream. -/
def setSlot (c slot st : Nat) (key val scale : List Byte) (s : State) : State :=
  let s := (List.range key.length).foldl (fun s k => poolWrite c (keyAddr s slot st k) [key.getD k 0] s) s
  poolWrite c (scaleAddr s slot st) scale (poolWrite c (valAddr s slot st) val s)

/-- The zeroing of a page starts (R189, R317): its slots read 0 in every plane. Whole chunks are the bulk-clear engine's, a part of one the Page keeper's. -/
def zeroPage (p : KvPage) (s : State) : State :=
  let n := 256 + kvpStreams s * (128 * kvpDim s + 256)
  if 64 ≤ p.toks then
    (List.range (p.toks / 64)).foldl (fun s j => bulkZero (chunkAddr s (p.pg / 64 + j)) n s)
      (s.setMs { s.memsys with clears := s.memsys.clears ++ [⟨chunkAddr s (p.pg / 64), p.toks / 64 * kvpChunk s, .page p.pg⟩] })
  else
    let z (a n : Nat) (s : State) : State := memWrite kvpOid a (List.replicate n 0) s
    (List.range p.toks).foldl (fun s t =>
      let slot := p.pg + t
      (List.range (kvpStreams s)).foldl (fun s st =>
        (List.range (kvpDim s)).foldl (fun s k => z (keyAddr s slot st k) 1 s) (z (scaleAddr s slot st) 4 (z (valAddr s slot st) (kvpDim s) s)))
        (z (tagAddr s slot) 4 s)) s

/-- Copy every plane of a slot (R187): false when a read fails, and nothing derived from it is written (R308). -/
def copySlot (c src dst : Nat) (s : State) : Bool × State :=
  let copy (a b n : Nat) (r : Bool × State) : Bool × State :=
    if !r.1 then r
    else match nocRead kvpOid c a n r.2 with
      | (some bs, s) => (true, poolWrite c b bs s)
      | (none, s) => (false, s)
  (List.range (kvpStreams s)).foldl (fun r st =>
    (List.range (kvpDim s)).foldl (fun r k => copy (keyAddr s src st k) (keyAddr s dst st k) 1 r)
      (copy (scaleAddr s src st) (scaleAddr s dst st) 4 (copy (valAddr s src st) (valAddr s dst st) (kvpDim s) r)))
    (copy (tagAddr s src) (tagAddr s dst) 4 (true, s))

/-! ### Allocation and release (R184, R188, R189) -/

/-- The place that a page of `n` tokens for context `c` takes, and its new chunks: which of the fitting places is left open (log entry 15). -/
def pickPlace (s : State) (c n : Nat) : Option (Nat × Nat) :=
  let l := (pagePlaces s c n).filter fun x => x.2 = 0 || quotaOk s c x.2
  l[Config.kvPick (l.map (·.1)) % l.length]?

/-- Allocate a page of `n` tokens for context `c`: it is ZEROING (R189). -/
def allocPage (c n : Nat) (s : State) : Option (Nat × State) :=
  (pickPlace s c n).map fun x =>
    let owner := (List.range x.2).foldl (fun t j => spSet 64 (x.1 / 64 + j) c t) s.kvp.owner
    let p : KvPage := ⟨x.1, n, 1, true⟩
    (x.1, zeroPage p (poolLow c (s.setKvp { s.kvp with owner := owner, pages := s.kvp.pages ++ [p] })))

/-- Allocate a page of `n` tokens, or outside Strict mode, when no aligned run of that size is free, the largest smaller size
that is free (R184). -/
def allocSized (c n : Nat) (s : State) : Nat → Option (Nat × Nat × State)
  | 0 => none
  | fuel + 1 =>
    if pagePlaces s c n = [] then
      if s.flag F.SYS_STRICT_STRICT || n ≤ 16 then none else allocSized c (n / 2) s fuel
    else (allocPage c n s).map fun x => (x.1, n, x.2)

/-- Chunks without a page return to the pool (R188); at the mark or above, the next fall below it is reported again (R191). -/
def releaseChunks (s : State) : State :=
  let s := s.setKvp { s.kvp with owner := s.kvp.owner.filter fun e => s.kvp.pages.any fun p => p.pg < e.1 * 64 + 64 && e.1 * 64 < p.pg + p.toks }
  if s.fld F.KVP_LOWMARK_MARK ≤ kvpFreeCh s then s.setKvp { s.kvp with low := false } else s

/-- A holder drops a page (R188, R189). -/
def dropPage (pg : Nat) (s : State) : State :=
  let gone := s.kvp.pages.any fun p => p.pg = pg && p.ref ≤ 1
  let s := if gone then s.setMs { s.memsys with clears := s.memsys.clears.filter fun c => c.who ≠ .page pg } else s
  releaseChunks (s.setKvp { s.kvp with
    pages := s.kvp.pages.filterMap fun p => if p.pg = pg then (if p.ref ≤ 1 then none else some { p with ref := p.ref - 1 }) else some p })

/-! ### Queues (R181, R182) -/

/-- A command record. -/
structure KvRec where
  raw : List Byte
  addr : Nat
  deriving DecidableEq, Repr

/-- Little-endian value of bytes `i` to `i + n - 1`. -/
def recField (l : List Byte) (i n : Nat) : Nat := leNat ((l.drop i).take n)

/-- The queue that the arbiter serves next (R181). -/
def kvpNext (s : State) : Option Nat :=
  let ready (c : Nat) : Bool := kvpWaiting s c && !(kvpBusy s c)
  if 4 ≤ s.kvp.exec.length then none
  else if s.flag F.KVP_ARB_RR then ((List.range 64).map fun i => (s.kvp.last + 1 + i) % 64).find? ready
  else (List.range 64).find? ready

/-- Address of the record at a queue's head. -/
def kvpRecAddr (s : State) (c : Nat) : Nat :=
  s.fld (F.KVP_CQ_BASE_LO_BASE_LO c) * 64 + s.fld (F.KVP_CQ_BASE_HI_BASE_HI c) * 2 ^ 32
    + s.fld (F.KVP_CQ_HEAD_HEAD c) % 2 ^ s.fld (F.KVP_CQ_CFG_QSZ c) * 64

/-- Complete the record at the head of a queue: RESULT and STATUS, HEAD, the signal, and the error event (R182, R197, R198), whose record index is the
whole HEAD (log entry 22). A SIGTGT that names no ring signals nothing. -/
def kvpComplete (c status result : Nat) (r : KvRec) (s : State) : State :=
  let idx := s.fld (F.KVP_CQ_HEAD_HEAD c)
  let s := (nocWrite kvpOid c (r.addr + 36) (leBytes 4 result) s).2
  let s := (nocWrite kvpOid c (r.addr + 32) (leBytes 1 status) s).2
  let s := s.put (F.KVP_CQ_HEAD_HEAD c) ((idx + 1) % 2 ^ 32)
  let s := if recField r.raw 1 1 % 2 = 1 && (ringReg (recField r.raw 30 2)).isSome
    then (netSignal (recField r.raw 30 2) kvpOid c 1 s).2 else s
  if 0x80 ≤ status && status ≤ 0x8F then
    raise { code := 0x5003, oid := kvpOid, ctx := c, sev := 2, a0 := status, a1 := idx, a2 := recField r.raw 0 1, a3 := recField r.raw 2 2 } s
  else s

/-- Are the record's reserved fields 0 (R182, R197)? -/
def kvpReservedOk (l : List Byte) : Bool :=
  recField l 1 1 < 4 && recField l 2 2 < 4096 && recField l 14 2 = 0 && recField l 21 1 = 0 && recField l 30 2 < 8192
    && recField l 33 3 = 0 && (l.drop 40).all (· = 0)

/-- The sequence of a handle, if it belongs to the context. -/
def kvpSeq (s : State) (c h : Nat) : Option KvSeq := s.kvp.seqs.find? fun q => q.h = h && q.ctx = c

/-- Replace a sequence. -/
def setSeq (q : KvSeq) (s : State) : State :=
  s.setKvp { s.kvp with seqs := s.kvp.seqs.map fun x => if x.h = q.h then q else x }

/-- Page-list entries over all sequences (R180). -/
def kvpEntries (s : State) : Nat := s.kvp.seqs.foldl (fun t q => t + q.runs.length) 0

/-- The Page keeper reads its directory: false after an uncorrectable word (R309, log entry 99). -/
def directoryCheck (s : State) : Bool × State := scanWords kvpOid false (suspectWords s dirBase 0x200000) s

/-- The job that posted the record at the head of context `c`'s queue: the one whose signal made the doorbell reach it (R181, R182). -/
def posterOf (s : State) (c : Nat) : Nat :=
  let l := spGet [] s.kvp.posts (s.fld (F.KVP_CQ_CFG_DBRING c))
  let n := (kvpBacklog s c).toNat
  if n ≤ l.length then l.getD (l.length - n) 0 else 0

/-- The Page keeper serves the record at the head of context `c`'s queue, whose opcode is `op` or reserved. `go` is the command's
effect: a status and result with the state, or the state of a command that stays in execution. A record that cannot be read leaves the queue and
the arbiter as they are (log entry 22). -/
def serveRecord (c op : Nat) (go : KvRec → State → (Option (Nat × Nat)) × State) (s : State) : Ans :=
  if kvpNext s ≠ some c then .next s
  else
    match nocRead kvpOid c (kvpRecAddr s c) 64 s with
    | (none, s) => .next s
    | (some l, s) =>
      let r : KvRec := ⟨l, kvpRecAddr s c⟩
      let o := recField l 0 1
      if o = 0 || 7 < o then .next (kvpComplete c 0x80 0 r (s.setKvp { s.kvp with last := c }))
      else if o ≠ op then .next s
      else
        let s := s.setKvp { s.kvp with last := c }
        if !(kvpReservedOk l) then .next (kvpComplete c 0x80 0 r s)
        else
          match go r s with
          | (some (st, res), s) => .next (kvpComplete c st res r s)
          | (none, s) => .next s

/-- A handle in no use; which one is left open (log entry 15). -/
def freeHandle (s : State) : Nat :=
  let l := (List.range 4096).filter fun h => !(s.kvp.seqs.any fun q => q.h = h)
  l.getD (Config.kvPick l % l.length) 0

/-- The pages that hold the first `n` tokens of a list of pages. -/
def firstRuns : Nat → List (Nat × Nat) → List (Nat × Nat)
  | _, [] => []
  | n, (pg, k) :: t => if n = 0 then [] else if n ≤ k then [(pg, n)] else (pg, k) :: firstRuns (n - k) t

/-- The slots of a sequence's tokens in order. -/
def seqSlots (q : KvSeq) : List Nat := q.runs.flatMap fun x => (List.range x.2).map fun i => x.1 + i

/-- Replace the EXTEND in execution of a context. -/
def setExec (e : KvExec) (s : State) : State :=
  s.setKvp { s.kvp with exec := s.kvp.exec.map fun x => if x.ctx = e.ctx then e else x }

/-- Remove the EXTEND in execution of a context. -/
def dropExec (c : Nat) (s : State) : State := s.setKvp { s.kvp with exec := s.kvp.exec.filter fun x => x.ctx ≠ c }

/-- Return the pages that an uncommitted EXTEND has allocated (R195). -/
def returnPages (e : KvExec) (s : State) : State :=
  (e.pages.map (·.1) ++ e.cow.toList).foldl (fun s pg => dropPage pg s) s

/-- EXTEND commits: the copy, the new pages, the tags, the length (R184, R187, R189). A copy whose source cannot be read commits nothing; the MEM_UE tears
the context down (R309). -/
def commitExtend (e : KvExec) (s : State) : State :=
  match kvpSeq s e.ctx e.h with
  | none => dropExec e.ctx s
  | some q =>
    let lastRun := q.runs.getLastD (0, 0)
    let copied : Bool × State := match e.cow with
      | some pg => (List.range lastRun.2).foldl (fun r i => if r.1 then copySlot e.ctx (lastRun.1 + i) (pg + i) r.2 else r) (true, s)
      | none => (true, s)
    if !copied.1 then copied.2
    else
      let s := copied.2
      let s := match e.cow with
        | some _ => dropPage lastRun.1 (raise { code := 0x5005, oid := kvpOid, ctx := e.ctx, a0 := e.h, a1 := lastRun.2
                                                a2 := (kvPage s lastRun.1).toks } s)
        | none => s
      let kept := match e.cow with
        | some pg => q.runs.dropLast ++ [(pg, lastRun.2 + e.fill)]
        | none => if e.fill = 0 then q.runs else q.runs.dropLast ++ [(lastRun.1, lastRun.2 + e.fill)]
      let q2 := { q with len := q.len + e.n, runs := kept ++ e.pages }
      let slots := (seqSlots q2).drop q.len
      let s := (List.range e.n).foldl (fun s i => poolWrite e.ctx (tagAddr s (slots.getD i 0)) ((e.tags.drop (4 * i)).take 4) s) (setSeq q2 s)
      kvpComplete e.ctx 1 0 ⟨e.raw, e.addr⟩ (dropExec e.ctx s)

/-- The size of the next page for `r` unplaced tokens (R184): 2^PSZ, or the smallest power of two that holds the rest and is at least 16. -/
def nextSize (r psz : Nat) : Nat :=
  if 2 ^ psz ≤ r then 2 ^ psz else ((List.range 9).map fun i => 16 * 2 ^ i).find? (fun p => r ≤ p) |>.getD 4096

/-- An allocation cycle as one request meets it (R192, R193): the state at its start, and whether a request of a lower context has been granted in it. -/
structure AllocCycle where
  start : State
  others : Bool

/-- A failed allocation of `size` tokens (R192, R193): PAGE_WAIT, unless it is the retry of one already reported, and the command waits. It has lost a
same-cycle request when a lower context was granted in the cycle and the allocation had a place at its start. -/
def kvpFail (cy : AllocCycle) (quiet : Bool) (e : KvExec) (size : Nat) (s : State) : KvExec × State :=
  let lost := cy.others && (pickPlace cy.start e.ctx size).isSome
  let need := max 1 (size / 64)
  ({ e with wait := some need, since := if e.wait.isSome then e.since else s.elapsed },
    if quiet && !lost then s
    else raise { code := 0x5001, oid := kvpOid, ctx := e.ctx, a0 := e.h, a1 := need, a2 := kvpFreeCh s, a3 := ofBool lost } s)

/-- Take pages until every token has a place or an allocation fails (R184, R187). -/
def placeTokens (cy : AllocCycle) (quiet : Bool) : Nat → KvExec → State → KvExec × State
  | 0, e, s => ({ e with wait := none }, s)
  | fuel + 1, e, s =>
    match e.cowNeed with
    | some size =>
      match allocPage e.ctx size s with
      | some (pg, s) => placeTokens cy false fuel { e with cowNeed := none, cow := some pg, zero := e.zero ++ [pg], wait := none } s
      | none => kvpFail cy quiet e size s
    | none =>
      if e.left = 0 then ({ e with wait := none }, s)
      else
        let size := nextSize e.left e.psz
        match allocSized e.ctx size s 9 with
        | some (pg, got, s) =>
          let k := min got e.left
          placeTokens cy false fuel { e with left := e.left - k, pages := e.pages ++ [(pg, k)], zero := e.zero ++ [pg], wait := none } s
        | none => kvpFail cy quiet e size s

/-- An EXTEND whose pages are all zeroed and placed commits. -/
def finishExtend (e : KvExec) (s : State) : State :=
  if e.wait = none && e.zero = [] && e.left = 0 && e.cowNeed = none then commitExtend e (setExec e s) else setExec e s

/-- A starved command (R192): status 0xFF and KV_STARVED. -/
def starve (e : KvExec) (need : Nat) (s : State) : State :=
  let s := kvpComplete e.ctx 0xFF 0 ⟨e.raw, e.addr⟩ (dropExec e.ctx (returnPages e s))
  raise { code := 0x5002, oid := kvpOid, ctx := e.ctx, sev := 2, a0 := e.h, a1 := need, a2 := kvpFreeCh s, a3 := s.fld F.KVP_WAITLIM_LIMIT } s

/-- Run the allocation of an EXTEND and what follows from it; a retry that fails again only goes on waiting (R192). -/
def runExtend (cy : AllocCycle) (e : KvExec) (s : State) : State :=
  let (e2, s) := placeTokens cy e.wait.isSome 300 { e with asked := false } s
  match e2.wait with
  | some need => if s.fld F.KVP_WAITLIM_LIMIT = 0 && e.wait.isNone then starve e2 need s else setExec e2 s
  | none =>
    if 2 ^ 20 < kvpEntries s + e2.pages.length then kvpComplete e2.ctx 0x86 0 ⟨e.raw, e.addr⟩ (dropExec e2.ctx (returnPages e2 s))
    else finishExtend e2 s

/-- The requests of an allocation cycle in the order of R193, the lowest context first: those that ask, and in a cycle in which a page was freed or a
retry is due also those that wait (R192). -/
def allocPass (retry : Bool) (start : State) : List Nat → Bool → State → State
  | [], _, s => s
  | c :: cs, others, s =>
    match s.kvp.exec.find? fun e => e.ctx = c with
    | none => allocPass retry start cs others s
    | some e =>
      if e.asked || (retry && e.wait.isSome) then
        let t := runExtend ⟨start, others⟩ e s
        allocPass retry start cs (others || t.kvp.pages ≠ s.kvp.pages) t
      else allocPass retry start cs others s

/-- Was a page freed between two states (R192)? -/
def pageFreed (s t : State) : Bool := s.kvp.pages.any fun p => !(t.kvp.pages.any fun q => q.pg = p.pg)

/-- An allocation cycle, and after it one for each that frees a page (R192). -/
def allocCycles (retry : Bool) : Nat → State → State
  | 0, s => s
  | n + 1, s =>
    let t := allocPass retry s (List.range 64) false s
    if pageFreed s t then allocCycles true n t else t

/-- What a command has freed is offered to the requests that wait, in the cycle of the free (R192). -/
def offerFreed (s t : State) : State := if pageFreed s t then allocCycles true 64 t else t

/-- The Page keeper serves a queue's head: it reads its directory, and offers what the command frees (R181, R189, R192). -/
def kvpServe (c op : Nat) (go : KvRec → State → (Option (Nat × Nat)) × State) (s : State) : Ans :=
  match directoryCheck s with
  | (false, s) => .next s
  | (true, s) =>
    match serveRecord c op go s with
    | .next t => .next (offerFreed s t)
    | r => r

/-! ### The commands -/

/-- SEQ_NEW (R183). -/
def execSeqNew (ctx : BitVec 6) (s : State) : Ans :=
  kvpServe ctx.toNat 1 (fun r s =>
    if 4096 ≤ s.kvp.seqs.length then (some (0x85, 0), s)
    else
      let h := freeHandle s
      (some (1, h), s.setKvp { s.kvp with seqs := s.kvp.seqs ++ [⟨h, ctx.toNat, 0, [], (recField r.raw 1 1).testBit 1, posterOf s ctx.toNat⟩] })) s

/-- SEQ_GRAFT (R183, R188). -/
def execSeqGraft (ctx : BitVec 6) (s : State) : Ans :=
  kvpServe ctx.toNat 2 (fun r s =>
    match kvpSeq s ctx.toNat (recField r.raw 22 2) with
    | none => (some (0x81, 0), s)
    | some q =>
      let n := recField r.raw 4 4
      let runs := firstRuns n q.runs
      if q.len < n then (some (0x83, 0), s)
      else if 4096 ≤ s.kvp.seqs.length then (some (0x85, 0), s)
      else if 2 ^ 20 < kvpEntries s + runs.length then (some (0x86, 0), s)
      else if runs.any fun x => 65535 ≤ (kvPage s x.1).ref then (some (0x87, 0), s)
      else
        let h := freeHandle s
        (some (1, h), s.setKvp { s.kvp with
          seqs := s.kvp.seqs ++ [⟨h, ctx.toNat, n, runs, (recField r.raw 1 1).testBit 1, posterOf s ctx.toNat⟩]
          pages := s.kvp.pages.map fun p => if runs.any (fun x => x.1 = p.pg) then { p with ref := p.ref + 1 } else p })) s

/-- EXTEND (R184): its requests for pages join the next allocation cycle (R193). -/
def execExtend (ctx : BitVec 6) (s : State) : Ans :=
  let c := ctx.toNat
  kvpServe c 3 (fun r s =>
    let n := recField r.raw 4 4
    let psz := recField r.raw 20 1
    let addr := recField r.raw 8 6
    match kvpSeq s c (recField r.raw 2 2) with
    | none => (some (0x81, 0), s)
    | some q =>
      if psz < 4 || 12 < psz then (some (0x89, 0), s)
      else if n = 0 || 4096 < n then (some (0x83, 0), s)
      else if 131072 < q.len + n then (some (0x88, 0), s)
      else if addr % 4 ≠ 0 then (some (0x82, 0), s)
      else
        match nocRead kvpOid c addr (4 * n) s with
        | (none, s) => (some (0x82, 0), s)
        | (some tags, s) =>
          let lastRun := q.runs.getLastD (0, 0)
          let p := kvPage s lastRun.1
          let room := if q.runs = [] then 0 else p.toks - lastRun.2
          let fill := min room n
          let cow := if room ≠ 0 && 2 ≤ p.ref then some p.toks else none
          let e : KvExec := { ctx := c, h := q.h, n := n, psz := psz, tags := tags, fill := fill, left := n - fill, cowNeed := cow, cow := none, pages := []
                              zero := [], raw := r.raw, addr := r.addr, asked := n ≠ fill || cow.isSome }
          (none, finishExtend e (s.setKvp { s.kvp with exec := s.kvp.exec ++ [e] }))) s

/-- WRITE (R185): keys transposed into the key plane, values and scales as they are. -/
def execKvpWrite (ctx : BitVec 6) (s : State) : Ans :=
  let c := ctx.toNat
  kvpServe c 4 (fun r s =>
    let n := recField r.raw 4 4
    let t0 := recField r.raw 24 4
    let strm := recField r.raw 16 2
    let ns := recField r.raw 18 2
    let addr := recField r.raw 8 6
    let d := kvpDim s
    let group := (n * (2 * d + 4) + 63) / 64 * 64
    match kvpSeq s c (recField r.raw 2 2) with
    | none => (some (0x81, 0), s)
    | some q =>
      let slots := ((seqSlots q).drop t0).take n
      if ns = 0 || kvpStreams s < strm + ns then (some (0x89, 0), s)
      else if n = 0 || q.len < t0 + n then (some (0x83, 0), s)
      else if slots.any fun x => s.kvp.pages.any fun p => p.pg ≤ x && x < p.pg + p.toks && 2 ≤ p.ref then (some (0x84, 0), s)
      else if addr % 64 ≠ 0 then (some (0x82, 0), s)
      else
        match nocRead kvpOid c addr (group * ns) s with
        | (none, s) => (some (0x82, 0), s)
        | (some bs, s) =>
          let s := (List.range ns).foldl (fun s i =>
            let g := (bs.drop (group * i)).take group
            (List.range n).foldl (fun s t =>
              setSlot c (slots.getD t 0) (strm + i) ((g.drop (t * d)).take d) ((g.drop (n * d + t * d)).take d)
                ((g.drop (2 * n * d + 4 * t)).take 4) s) s) s
          (some (1, 0), s)) s

/-- The chunk view of a sequence (R186): each chunk with the slots of one run of consecutive tokens. -/
def chunkView (q : KvSeq) : List (Nat × List Nat) :=
  (seqSlots q).foldr (fun slot t => match t with
    | (ch, l) :: r => if ch = slot / 64 then (ch, slot :: l) :: r else (slot / 64, [slot]) :: (ch, l) :: r
    | [] => [(slot / 64, [slot])]) []

/-- The 8 bytes of gather entry. -/
def gatherEntry (a : Nat) : List Byte := leBytes 8 (a % 2 ^ 48)

/-- The record of block `b` for a stream (R186). -/
def gatherRecord (s : State) (q : KvSeq) (st b : Nat) : List Byte :=
  let d := kvpDim s
  let view := ((chunkView q).drop (8 * b)).take 8
  let ch (u : Nat) : Nat := ((view[u]?).map (·.1)).getD 0
  let tag (t : Nat) : Option Nat :=
    let slot := ch (t / 64) * 64 + t % 64
    match view[t / 64]? with
    | some (_, l) => if l.contains slot then some (s.rdN (tagAddr s slot) 4) else none
    | none => none
  let tags := (List.range 512).map tag
  let valid := tags.filterMap id
  let pos := valid.map fun x => x % 2 ^ 20
  let seg := valid.map fun x => x / 2 ^ 20
  leBytes 4 valid.length ++ leBytes 4 (pos.foldl min 0xFFFFF) ++ leBytes 4 (pos.foldl max 0)
    ++ leBytes 2 (seg.foldl min 0xFFF) ++ leBytes 2 (seg.foldl max 0) ++ List.replicate 48 0
    ++ (tags.flatMap fun t => leBytes 4 (t.getD 0xFFFFFFFF))
    ++ ((List.range (8 * d)).flatMap fun i => gatherEntry (streamAddr s (ch (i % 8)) st + 64 * (i / 8)))
    ++ ((List.range 512).flatMap fun t => gatherEntry (streamAddr s (ch (t / 64)) st + 64 * d + t % 64 * d))
    ++ ((List.range 8).flatMap fun u => gatherEntry (streamAddr s (ch u) st + 128 * d))

/-- The tag planes that the records of `nb` blocks from `b` need are read (R186): false when a read fails. -/
def readTags (c b nb : Nat) (q : KvSeq) (s : State) : Bool × State :=
  (((chunkView q).drop (8 * b)).take (8 * nb)).foldl (fun r v =>
    if !r.1 then r
    else match nocRead kvpOid c (chunkAddr s v.1) 256 r.2 with
      | (some _, s) => (true, s)
      | (none, s) => (false, s)) (true, s)

/-- Does the range lie in the populated part of one Crown scratchpad window (R186)? -/
def inScratch (a n : Nat) : Bool :=
  match place a, place (a + n - 1) with
  | some (.scratch k _), some (.scratch k' _) => k = k'
  | _, _ => false

/-- GATHER (R186). -/
def execKvpGather (ctx : BitVec 6) (s : State) : Ans :=
  let c := ctx.toNat
  kvpServe c 5 (fun r s =>
    let nb := recField r.raw 28 2
    let t0 := recField r.raw 24 4
    let st := recField r.raw 16 2
    let addr := recField r.raw 8 6
    match kvpSeq s c (recField r.raw 2 2) with
    | none => (some (0x81, 0), s)
    | some q =>
      let blocks := ((chunkView q).length + 7) / 8
      if kvpStreams s ≤ st then (some (0x89, 0), s)
      else if nb = 0 || 256 < nb || blocks < t0 + nb then (some (0x83, 0), s)
      else if addr % 64 ≠ 0 || !(inScratch addr (nb * (0x1880 + 0x40 * kvpDim s))) then (some (0x82, 0), s)
      else
        match readTags c t0 nb q s with
        | (false, s) => (none, s)
        | (true, s) =>
        let bs := (List.range nb).flatMap fun i => gatherRecord s q st (t0 + i)
        match nocWrite kvpOid c addr bs s with
        | (true, s) => (some (1, 0), s)
        | (false, s) => (some (0x82, 0), s)) s

/-- Drop the pages of a list that a shorter list no longer names. -/
def dropRuns (old new : List (Nat × Nat)) (s : State) : State :=
  (old.filter fun x => !(new.any fun y => y.1 = x.1)).foldl (fun s x => dropPage x.1 s) s

/-- TRUNC (R188). -/
def execKvpTrunc (ctx : BitVec 6) (s : State) : Ans :=
  kvpServe ctx.toNat 6 (fun r s =>
    match kvpSeq s ctx.toNat (recField r.raw 2 2) with
    | none => (some (0x81, 0), s)
    | some q =>
      let n := recField r.raw 4 4
      if q.len < n then (some (0x83, 0), s)
      else
        let runs := firstRuns n q.runs
        (some (1, 0), dropRuns q.runs runs (setSeq { q with len := n, runs := runs } s))) s

/-- Delete a sequence (R188). -/
def deleteSeq (q : KvSeq) (s : State) : State :=
  dropRuns q.runs [] (s.setKvp { s.kvp with seqs := s.kvp.seqs.filter fun x => x.h ≠ q.h })

/-- FREE (R188). -/
def execKvpFree (ctx : BitVec 6) (s : State) : Ans :=
  kvpServe ctx.toNat 7 (fun r s =>
    match kvpSeq s ctx.toNat (recField r.raw 2 2) with
    | none => (some (0x81, 0), s)
    | some q => (some (1, 0), deleteSeq q s)) s

/-- PAGE_ZEROED (R189, R318): the oldest page that the context's EXTEND has in zeroing becomes exclusive, not before the bulk-clear engine has
served the requests ahead of it; after the last, the EXTEND commits. -/
def execPageZeroed (ctx : BitVec 6) (s : State) : Ans :=
  let s := allocCycles false 64 s
  match s.kvp.exec.find? fun e => e.ctx = ctx.toNat with
  | none => .next s
  | some e =>
    match e.zero with
    | [] => .next s
    | pg :: rest =>
      if !(clearTurn s (.page pg)) then .next s
      else
        let s := clearDone (.page pg) s
        let t := s.setKvp { s.kvp with pages := s.kvp.pages.map fun p => if p.pg = pg then { p with zeroing := false } else p }
        .next (offerFreed s (finishExtend { e with zero := rest } t))

/-- ALLOCATION_RETRY (R192, R193): every request that waits is retried in the one cycle, the lower context first. -/
def execAllocationRetry (ctx : BitVec 6) (s : State) : Ans :=
  match s.kvp.exec.find? fun e => e.ctx = ctx.toNat with
  | none => .next s
  | some e => if e.wait = none && !e.asked then .next s else .next (allocCycles true 64 s)

/-- KVP_WAITLIM_EXPIRY (R192): the limit of a waiting command passes. A free of the same cycle is seen first. -/
def execKvpWaitlimExpiry (ctx : BitVec 6) (s : State) : Ans :=
  match s.kvp.exec.find? fun e => e.ctx = ctx.toNat with
  | none => .next s
  | some e =>
    if e.wait.isNone || !(s.passed e.since (s.fld F.KVP_WAITLIM_LIMIT)) then .next s
    else
      let s := allocCycles true 64 s
      match (s.kvp.exec.find? fun e => e.ctx = ctx.toNat).bind fun x => x.wait.map fun n => (x, n) with
      | some (x, need) => .next (offerFreed s (starve x need s))
      | none => .next s

/-- The quota write of context `c` (R191): dropped with KV_QUOTA when it over-reserves the pool. -/
def quotaWrite (c data : Nat) (s : State) : State :=
  let sum := (List.range 64).foldl (fun t k => t + (if k = c then slice data 13 0 * 16 else kvpReserve s k)) 0
  if kvpChunks s - 1 < sum && s.fld (F.KVP_CQ_QUOTA_MIN16 c) < slice data 13 0 then
    raise { code := 0x5006, oid := kvpOid, ctx := c, sev := 1, a0 := c, a1 := slice data 13 0, a2 := sum } s
  else (s.put (F.KVP_CQ_QUOTA_MIN16 c) (slice data 13 0)).put (F.KVP_CQ_QUOTA_MAX16 c) (slice data 29 16)

/-! ### What the scheduler asks of the Page keeper -/

/-- The ephemeral sequences whose commands job `id` posted are freed at its seal (R182, R188). -/
def kvpSeal (c id : Nat) (s : State) : State :=
  offerFreed s ((s.kvp.seqs.filter fun q => q.ctx = c && q.eph && q.job = id + 1).foldl (fun s q => deleteSeq q s) s)

/-- A teardown of context `c` (R194): pending records get status 0xFE and result 0 and do not signal (R291), the command in execution stops, every
sequence is dropped, HEAD equals the doorbell. -/
def kvpTeardown (c : Nat) (s : State) : State :=
  let s0 := s
  let n := if s.flag (F.KVP_CQ_CFG_EN c) && s.flag F.KVP_CTRL_EN then (kvpBacklog s c).toNat else 0
  let size := 2 ^ s.fld (F.KVP_CQ_CFG_QSZ c)
  let base := s.fld (F.KVP_CQ_BASE_LO_BASE_LO c) * 64 + s.fld (F.KVP_CQ_BASE_HI_BASE_HI c) * 2 ^ 32
  let head := s.fld (F.KVP_CQ_HEAD_HEAD c)
  let s := (List.range (min n size)).foldl (fun s i =>
    let a := base + (head + i) % size * 64
    (nocWrite kvpOid c (a + 32) [0xFE] (nocWrite kvpOid c (a + 36) (leBytes 4 0) s).2).2) s
  let s := (s.kvp.exec.filter fun e => e.ctx = c).foldl (fun s e => dropExec c (returnPages e s)) s
  let s := (s.kvp.seqs.filter fun q => q.ctx = c).foldl (fun s q => deleteSeq q s) s
  offerFreed s0 (s.put (F.KVP_CQ_HEAD_HEAD c) (ringVal s (6 * 1024 + s.fld (F.KVP_CQ_CFG_DBRING c))))

end Sys2Proof.Machine
end

