-- ==== Sys2Proof/Machine/Sched.lean ====
section
/-! DEFINITION. The scheduler: contexts, queues, descriptors, placement, dispatch, the seal, charges, sprout switches, deadlines,
teardown, unit states and owners (R258 to R281, R508 to R512, R552). -/

namespace Sys2Proof.Machine

/-! ### Jobs in the scheduler's hands -/

/-- The state with the job of number `id` changed. -/
def modJob (id : Nat) (f : Job → Job) (s : State) : State :=
  s.setSched { s.sched with jobs := s.sched.jobs.map fun j => if j.id = id then f j else j }

/-- The state without the job of number `id`. -/
def dropJob (id : Nat) (s : State) : State :=
  s.setSched { s.sched with jobs := s.sched.jobs.filter fun j => j.id ≠ id }

/-- A job enters the scheduler under a number of its own. -/
def addJob (j : Job) (s : State) : State :=
  s.setSched { s.sched with jobs := s.sched.jobs ++ [{ j with id := s.sched.nextId }], nextId := s.sched.nextId + 1 }

/-- The state of context `c` (R258). -/
def ctxState (s : State) (c : Nat) : Nat := s.fld (F.SCH_CTX_STAT_STATE c)

/-- Descriptors pending in the queue of context `c` (R259). -/
def queuePending (s : State) (c : Nat) : Nat :=
  (wrap ((s.fld (F.SCH_CTX_TAIL_TAIL c) : Int) - s.fld (F.SCH_CTX_HEAD_HEAD c)) 32).toNat

/-- Entries of the queue of context `c` (R259). -/
def queueSize (s : State) (c : Nat) : Nat := 2 ^ s.fld (F.SCH_CTX_CFG_QSZ c)

/-- Address of the descriptor with index `i` of context `c` (R259). -/
def queueAddr (s : State) (c i : Nat) : Nat :=
  s.fld (F.SCH_CTX_QBASE_LO_BASE_LO c) * 2 ^ 8 + s.fld (F.SCH_CTX_QBASE_HI_BASE_HI c) * 2 ^ 32 + 256 * (i % queueSize s c)

/-- The job at the head of the queue of context `c`, once its descriptor is read. -/
def headJob (s : State) (c : Nat) : Option Job :=
  s.sched.jobs.find? fun j => j.ctx = c && j.phase = .queued && !j.sprout

/-- HEAD counts one more descriptor (R259). -/
def bumpHead (c : Nat) (s : State) : State := s.incMod (F.SCH_CTX_HEAD_HEAD c)

/-- A job leaves the place where it waits: HEAD counts it unless it was counted before (R259, R274). -/
def takeJob (j : Job) (s : State) : State :=
  let s := dropJob j.id s
  if j.requeued || j.sprout then s else bumpHead j.ctx s

/-- Has context `c` a job queued or running (R267)? -/
def ctxBusy (s : State) (c : Nat) : Bool := decide (0 < queuePending s c) || s.sched.jobs.any fun j => j.ctx = c

/-- The least virtual time among the other contexts that have a job queued or running (R267). -/
def leastVt (s : State) (c : Nat) : Option Nat :=
  (((List.range 64).filter fun m => m ≠ c && ctxBusy s m).map fun m => s.reg64 (Reg.SCH_CTX_VT_LO m)).min?

/-! ### Records and charges (R266, R267, R271) -/

/-- The charge of a job released now (R266): elapsed TIM time since the assignment, summed over its units, in whole nanoseconds. -/
def chargeOf (s : State) (j : Job) : Nat := j.units.length * (s.elapsed - j.assigned) / 2 ^ 32

/-- The charge goes to the context's counter and its virtual time (R266, R267). -/
def addCharge (c ch : Nat) (s : State) : State :=
  let s := s.inc64 (Reg.SCH_CTX_CHG_LO c) ch
  let sh := s.fld (F.SCH_CTX_CFG_SHARE c)
  if sh = 0 then s
  else s.setReg64 (Reg.SCH_CTX_VT_LO c) ((s.reg64 (Reg.SCH_CTX_VT_LO c) + (rdiv (ch * 256 : Nat) sh 64).1.toNat) % 2 ^ 64)

/-- The units byte of a record (R271). -/
def unitsByte (j : Job) : Nat :=
  (j.cores.foldl (fun b k => b ||| 2 ^ k) 0) + ofBool j.sap * 2 ^ 6 + ofBool j.late * 2 ^ 7

/-- The record of a job (R271): written under OID 0x000 and the context; DONE counts it whether or not the write succeeds. -/
def jobRecord (j : Job) (status cause flags dirty charge : Nat) (s : State) : State :=
  let c := j.ctx
  let a := s.fld (F.SCH_CTX_CBASE_LO_BASE_LO c) * 2 ^ 6 + s.fld (F.SCH_CTX_CBASE_HI_BASE_HI c) * 2 ^ 32
    + s.fld (F.SCH_CTX_DONE_DONE c) % 2 ^ s.fld (F.SCH_CTX_CBASE_LO_CQSZ c) * 64
  let start := match j.start with
    | some t => recTime t
    | none => 0
  let bs := leBytes 8 j.d.jobId ++ leBytes 1 status ++ leBytes 1 (unitsByte j) ++ [0, 0] ++ leBytes 4 flags ++ leBytes 8 start
    ++ leBytes 8 (recTime s.ns) ++ leBytes 4 dirty ++ leBytes 4 cause ++ leBytes 8 charge ++ leBytes 16 0
  ((nocWrite 0 c a bs s).2).incMod (F.SCH_CTX_DONE_DONE c)

/-- What a unit still has queued, in flight or waiting is discarded (R272, R291). -/
def clearUnit (u : Nat) (s : State) : State :=
  if u < 6 then
    let k := s.core u
    s.setCore u { k with qDma := [], qArray := [], qTwig := [], qSync := [], flDma := [], flArray := [], flTwig := []
                         pendS := [], pendP := [], seqWait := none }
  else s.setSpl { filled := s.spl.filled }

/-- A unit is released (R275, R291): its queues are empty; unless it was lost it becomes IDLE, and an awaited RETIRE takes effect (R273). -/
def freeUnit (u : Nat) (s : State) : State :=
  if s.sched.jobs.any (fun j => j.dispatched && j.units.contains u) then s
  else if s.fld (unitField u) ≠ uRunning then clearUnit u s
  else
    let s := clearUnit u ((s.put (unitField u) uIdle).put (unitCtxField u) 0)
    if (unitSt s u).retire then loseUnits [u] 0 (setUnit u { unitSt s u with retire := false } s) else s

/-- The units of a job are released; at the seal the cores record its affinity tags (R263, R270). -/
def releaseJob (j : Job) (sealed : Bool) (s : State) : State :=
  let s := dropJob j.id s
  let s := if sealed then
      (List.range j.cores.length).foldl (fun s r =>
        let k := j.cores.getD r 0
        setUnit k { unitSt s k with tag := j.d.aff.getD r 0 } s) s
    else s
  j.units.foldl (fun s u => freeUnit u s) s

/-- A job that holds units ends without a seal: its record with its charge, the release and the charge (R266, R271). -/
def closeJob (j : Job) (status cause : Nat) (s : State) : State :=
  let ch := chargeOf s j
  releaseJob j false (addCharge j.ctx ch (jobRecord j status cause 0 0 ch s))

/-- The result region of a job is zeroed (R268, R274); bytes of DRAM count as written (R322). -/
def zeroResult (d : JobDesc) (s : State) : State :=
  let n := d.reslen * 0x1000
  match place d.resbase with
  | some (.dram _) => if n = 0 then s else bulkZero d.resbase n s
  | _ => s.zero d.resbase n

/-! ### Descriptors (R260, R261) -/

/-- Little-endian field of `n` bytes at `i`. -/
def jf (raw : List Byte) (i n : Nat) : Nat := leNat ((raw.drop i).take n)

/-- The fields of a descriptor (R260). -/
def parseJob (raw : List Byte) : JobDesc :=
  { jobId := jf raw 0 8, eng := jf raw 8 1, ncore := jf raw 9 1, jflags := jf raw 10 1, fmask := jf raw 11 1, cores := jf raw 12 1
    wring := jf raw 14 2, wtgt := jf raw 16 4, cring := jf raw 20 2, deadline := jf raw 24 8, paddr := jf raw 32 6
    plen := jf raw 40 4, pbase := jf raw 44 4, gangoff := jf raw 48 4, resbase := jf raw 56 6, reslen := jf raw 64 4
    resopen := jf raw 68 1, aff := (List.range 6).map fun r => jf raw (72 + 4 * r) 4
    args := (List.range 8).map fun r => jf raw (128 + 8 * r) 8 }

/-- RESTART of JFLAGS. -/
def JobDesc.restart (d : JobDesc) : Bool := bitAt d.jflags 0
/-- STATIC of JFLAGS. -/
def JobDesc.pinned (d : JobDesc) : Bool := bitAt d.jflags 1
/-- WAIT of JFLAGS. -/
def JobDesc.waits (d : JobDesc) : Bool := bitAt d.jflags 2
/-- SIGC of JFLAGS. -/
def JobDesc.sigc (d : JobDesc) : Bool := bitAt d.jflags 3
/-- Is the job a Crown job? -/
def JobDesc.crown (d : JobDesc) : Bool := d.eng = 0

/-- The bits of byte `i` of a descriptor that are reserved (R260). -/
def jobReserved (i : Nat) : Nat :=
  if i = 9 then 0xF8 else if i = 10 then 0xF0 else if i = 11 then 0xF0 else if i = 12 then 0xC0
  else if i = 13 || i = 22 || i = 23 || i = 38 || i = 39 || (52 ≤ i && i < 56) || i = 62 || i = 63 || (69 ≤ i && i < 72)
    || (96 ≤ i && i < 128) || (192 ≤ i && i < 256) then 0xFF
  else 0

/-- Is a scratchpad unit retained for context `c` (R261, R276)? A unit withdrawn by a change of owner has no context owner (R277). -/
def retainedFor (s : State) (c key : Nat) : Bool := ownerOf s key = c && !(withdrawn s key)

/-- Is a page of the result region owned by the context and outside the scratchpads (R261)? -/
def resultPageOk (s : State) (c a : Nat) : Bool :=
  match place a, ownKey a with
  | some (.scratch _ _), _ => false
  | _, some key => retainedFor s c key
  | _, none => false

/-- The offset of the first field of a descriptor at fault (R261), in the order of its list; `waits` says whether WAIT counts. -/
def jobFault (s : State) (c : Nat) (raw : List Byte) (waits : Bool) : Option Nat :=
  let d := parseJob raw
  let res := (List.range 256).find? fun i => (raw.getD i 0).toNat &&& jobReserved i ≠ 0
  let pop := ((List.range 6).filter fun k => bitAt d.cores k).length
  if res.isSome then res
  else if (d.eng = 0 && d.ncore = 0) || (d.eng = 1 && d.ncore ≠ 0) || 6 < d.ncore then some 9
  else if 1 < d.eng then some 8
  else if d.pinned && pop ≠ d.ncore then some 12
  else if d.crown && !d.pinned && s.flag F.SYS_STRICT_STRICT then some 10
  else if waits && d.waits && !((ringReg d.wring).isSome && ringGlobal d.wring) then some 14
  else if d.sigc && (ringReg d.cring).isNone then some 20
  else if d.crown && (d.plen % 64 ≠ 0 || 0x100000 < d.plen) then some 40
  else if d.crown && d.pbase % 64 ≠ 0 then some 44
  else if d.crown && d.gangoff % 64 ≠ 0 then some 48
  else if d.crown && spSize < d.pbase + d.plen then some 44
  else if d.crown && spSize < d.gangoff + 64 then some 48
  else if d.plen ≠ 0 && !(mappedRange d.paddr d.plen) then some 32
  else if d.reslen ≠ 0 && d.resbase % 0x1000 ≠ 0 then some 56
  else if 16384 < d.reslen then some 64
  else if !((List.range d.reslen).all fun i => resultPageOk s c (d.resbase + i * 0x1000)) then some 56
  else none

/-- A job that holds no units is refused (R261): its record, and JOB_DESC_ERR, which tears the context down. -/
def refuseJob (j : Job) (off : Nat) (s : State) : State :=
  raise { code := 0x4005, ctx := j.ctx, sev := 2, a0 := j.d.jobId % 2 ^ 32, a1 := if j.sprout then 0xFFFFFFFF else j.qidx, a2 := off }
    (jobRecord j 0x13 0x4005 0 0 0 s)

/-- Number of `b`'s sprout budget in nanoseconds before the deadline (R268): none where VALID is 0. -/
def switchPoint (s : State) (c d : Nat) : Option Nat :=
  if s.flag (F.SCH_CTX_SPROUT_LO_VALID c) then some (d - s.fld (F.SCH_CTX_SPRBUD_BUDGET c) * 1000) else none

/-- The descriptor at HEAD is read and checked (R259, R261); deadline and switch point are fixed (R268). -/
def readHead (c : Nat) (s : State) : State :=
  let q := s.fld (F.SCH_CTX_HEAD_HEAD c) % queueSize s c
  match nocRead 0 c (queueAddr s c q) 256 s with
  | (none, s) => refuseJob { id := 0, ctx := c, d := {}, qidx := q } 0 (bumpHead c s)
  | (some raw, s) =>
    let d := parseJob raw
    let dl := if d.deadline = 0 then none else some (completeTime s.ns d.deadline)
    let j : Job := { id := 0, ctx := c, d := d, qidx := q, deadline := dl, switchAt := dl.bind (switchPoint s c) }
    match jobFault s c raw true with
    | some off => refuseJob j off (bumpHead c s)
    | none => addJob j s

/-- Address of the sprout descriptor of context `c`. -/
def sproutAddr (s : State) (c : Nat) : Nat :=
  s.fld (F.SCH_CTX_SPROUT_LO_ADDR_LO c) * 2 ^ 8 + s.fld (F.SCH_CTX_SPROUT_HI_ADDR_HI c) * 2 ^ 32

/-- Step 3 and 4 of the switch (R268): the result region is zeroed; the sprout descriptor is read, checked, and waits at the top rank. -/
def startSprout (j : Job) (s : State) : State :=
  let c := j.ctx
  let s := zeroResult j.d s
  if ctxState s c ≠ ctxActive then s
  else
    match nocRead 0 c (sproutAddr s c) 256 s with
    | (none, s) => refuseJob { id := 0, ctx := c, d := {}, sprout := true } 0 s
    | (some raw, s) =>
      let p : Job := { id := 0, ctx := c, d := parseJob raw, sprout := true, deadline := j.deadline, prefer := j.cores }
      match jobFault s c raw false with
      | some off => refuseJob p off s
      | none => addJob p s

/-- A due instant in nanoseconds: the TIM tick that holds it has ended (R269). -/
def pastNs (s : State) (t : Option Nat) : Bool := match t with | some x => x * 65536 < s.time | none => false

/-- A switch point is reached (R268): SPROUT_SWITCH, and the job is cancelled; a job with units stops first. -/
def switchJob (j : Job) (s : State) : State :=
  let c := j.ctx
  let s := modJob j.id (fun j => { j with switchAt := none }) s
  if !(s.flag (F.SCH_CTX_SPROUT_LO_VALID c)) then s
  else
    let spId := if (judge s 0 c (sproutAddr s c) 256 false).isNone then s.rdN (sproutAddr s c) 4 else 0
    let how := if j.dispatched then 2 else if j.d.waits && !(reached (ringVal s j.d.wring) j.d.wtgt) then 1 else 0
    let s := raise { time := recTime (j.switchAt.getD 0), code := 0x4004, ctx := c, sev := 1, a0 := j.d.jobId % 2 ^ 32, a1 := spId
                     a2 := j.switchAt.getD 0 % 1000000000, a3 := how } s
    let s := s.incHold (F.SCH_CTX_MISS_SWITCH c)
    if j.dispatched then modJob j.id (fun j => { j with phase := .stopping, stopSince := s.elapsed }) s
    else startSprout j (jobRecord j 0x20 0x4004 0 0 0 (takeJob j s))

/-- JOB_DESCRIPTOR_CHECK (R261, R268): the units of a job that a switch cancelled have stopped and its sprout descriptor is checked;
otherwise the descriptor that reaches the head of the queue is. A switch point already past acts at once. -/
def execJobDescriptorCheck (ctx : BitVec 6) (s : State) : Ans :=
  let c := ctx.toNat
  match s.sched.jobs.find? (fun j => j.ctx = c && j.phase = .stopping) with
  | some j => .next (if ctxState s c = ctxTearing then s else startSprout j (closeJob j 0x20 0x4004 s))
  | none =>
    if ctxState s c ≠ ctxActive || (headJob s c).isSome || queuePending s c = 0 then .next s
    else
      let s := readHead c s
      match headJob s c with
      | some j => .next (if pastNs s j.switchAt then switchJob j s else s)
      | none => .next s

/-- SWITCH_POINT (R268): the first job of the context whose switch point is reached. -/
def execSwitchPoint (ctx : BitVec 6) (s : State) : Ans :=
  let c := ctx.toNat
  match s.sched.jobs.find? (fun j => j.ctx = c && j.phase ≠ .stopping && pastNs s j.switchAt) with
  | some j => .next (if ctxState s c = ctxActive then switchJob j s else s)
  | none => .next s

/-! ### Ranking and placement (R262, R263) -/

/-- Is unit `u` in service? -/
def inService (s : State) (u : Nat) : Bool := s.fld (unitField u) = uIdle || s.fld (unitField u) = uRunning

/-- Can the job's engine class accept it with the units in service (R262, R274)? -/
def classAccepts (s : State) (d : JobDesc) : Bool :=
  if !d.crown then inService s 6
  else if d.pinned then (List.range 6).all fun k => !(bitAt d.cores k) || inService s k
  else d.ncore ≤ ((List.range 6).filter fun k => inService s k).length

/-- The eligible head job of context `c` in a class (R262). -/
def eligible (s : State) (crown : Bool) (c : Nat) : Option Job :=
  if ctxState s c ≠ ctxActive then none
  else match headJob s c with
    | some j =>
      if j.d.crown = crown && classAccepts s j.d && (!j.d.waits || reached (ringVal s j.d.wring) j.d.wtgt) then some j else none
    | none => none

/-- Does context `c` rank before context `b` (R262)? The contexts are compared with `b` below `c`. -/
def ranksBefore (s : State) (c b : Nat) : Bool :=
  let pc := s.fld (F.SCH_CTX_CFG_PRIO c)
  let pb := s.fld (F.SCH_CTX_CFG_PRIO b)
  if pc ≠ pb then pb < pc
  else if s.flag F.SYS_STRICT_STRICT then false
  else
    let zc := s.fld (F.SCH_CTX_CFG_SHARE c) = 0
    let zb := s.fld (F.SCH_CTX_CFG_SHARE b) = 0
    if zc ≠ zb then zb else s.reg64 (Reg.SCH_CTX_VT_LO c) < s.reg64 (Reg.SCH_CTX_VT_LO b)

/-- The top-ranked job of a class: a sprout job that waits, else the best eligible head (R262, R268). -/
def topJob (s : State) (crown : Bool) : Option Job :=
  match s.sched.jobs.find? (fun j => j.sprout && j.phase = .queued && j.d.crown = crown && ctxState s j.ctx = ctxActive
      && classAccepts s j.d) with
  | some j => some j
  | none =>
    (List.range 64).foldl (fun best c =>
      match eligible s crown c, best with
      | some j, none => some j
      | some j, some b => if ranksBefore s j.ctx b.ctx then some j else best
      | none, _ => best) none

/-- The core for rank `r` of job `j` among the free cores (R263, R268). -/
def pickCore (s : State) (j : Job) (r : Nat) (free : List Nat) : Option Nat :=
  let aff := j.d.aff.getD r 0
  let same := free.filter fun k => (unitSt s k).lastCtx = j.ctx
  match j.prefer.find? fun k => free.contains k with
  | some k => some k
  | none => match same.find? fun k => aff ≠ 0 && (unitSt s k).tag = aff with
    | some k => some k
    | none => match same with
      | k :: _ => some k
      | [] => free.head?

/-- The cores of ranks `r`, `r + 1`, … of a job from the free cores: `n` of them (R263). -/
def pickCores (s : State) (j : Job) : Nat → Nat → List Nat → Option (List Nat)
  | 0, _, _ => some []
  | n + 1, r, free =>
    match pickCore s j r free with
    | none => none
    | some k => (pickCores s j n (r + 1) (free.filter fun x => x ≠ k)).map (k :: ·)

/-- The cores a job takes, none while they are not all available (R263). -/
def placeJob (s : State) (j : Job) : Option (List Nat) :=
  let free := (List.range 6).filter fun k => s.fld (unitField k) = uIdle
  if !j.d.crown then (if s.fld (unitField 6) = uIdle then some [] else none)
  else if j.d.pinned then
    let want := (List.range 6).filter fun k => bitAt j.d.cores k
    if want.all fun k => free.contains k then some want else none
  else pickCores s j j.d.ncore 0 free

/-! ### Dispatch (R261, R264, R265, R278, R511) -/

/-- The registers checked for a Strict job, with whether the value holds (R511): register, value read, required. -/
def strictChecks (s : State) (j : Job) (cores : List Nat) : List (Nat × Bool) :=
  [(Reg.SAP_CRNF, decide (0x5DC ≤ s.fld F.SAP_CRNF_FMAX))]
  ++ cores.map (fun k => (Reg.CRN_STARVLIM k, decide (s.fld (F.CRN_STARVLIM_LIMIT k) = 0x40)))
  ++ cores.map (fun k => (Reg.CRN_IDLEPAT k, s.flag (F.CRN_IDLEPAT_HOLD k)))
  ++ (if j.d.crown then [] else [(Reg.SPL_IDLEPAT, s.flag F.SPL_IDLEPAT_HOLD)])
  ++ [(Reg.MEM_STARVLIM, decide (s.fld F.MEM_STARVLIM_LIMIT = 0x40))]
  ++ (if j.d.crown && s.flag F.KVP_CTRL_EN then [(Reg.KVP_ARB, !(s.flag F.KVP_ARB_RR))] else [])

/-- A Strict job is refused for a checked register (R511): its record and STRICT_CONFIG. -/
def refuseStrict (j : Job) (off : Nat) (s : State) : State :=
  raise { code := 0x400A, ctx := j.ctx, sev := 2, a0 := (regBase + off) % 2 ^ 32, a1 := (s.reg off).toNat, a2 := j.d.jobId % 2 ^ 32 }
    (jobRecord j 0x14 0x400A 0 0 0 (takeJob j s))

/-- The result regions without the bytes of a range: what a later job names or what changes owner leaves its rule (R270). -/
def cutRegions (base len : Nat) (l : List ResRegion) : List ResRegion :=
  l.flatMap fun r =>
    let lo := max r.base base
    let hi := min (r.base + r.len) (base + len)
    if hi ≤ lo then [r]
    else (if r.base < lo then [{ r with len := lo - r.base }] else [])
      ++ (if hi < r.base + r.len then [{ r with base := hi, len := r.base + r.len - hi }] else [])

/-- The result region of a dispatched job is open to its context only (R270). -/
def fenceResult (j : Job) (s : State) : State :=
  if j.d.reslen = 0 then s
  else
    let n := j.d.reslen * 0x1000
    s.setSched { s.sched with results := cutRegions j.d.resbase n s.sched.results ++ [⟨j.d.resbase, n, j.ctx, j.id, false, none, false⟩] }

/-- Is the byte at `a` in a floating region of core `k`'s scratchpad (R276)? -/
def floatingAt (s : State) (k a : Nat) : Bool := spBase k ≤ a && a < spBase k + spSize && ownerOf s (a / 0x1000) = 64

/-- The floating regions of core `k` read 0 (R94, R276). -/
def zeroFloating (k : Nat) (s : State) : State :=
  { s with mem := s.mem.filter fun e => !(floatingAt s k e.1)
           memsys := { s.memsys with synd := s.memsys.synd.filter fun e => !(floatingAt s k e.1)
                                     ueSeen := s.memsys.ueSeen.filter fun w => !(floatingAt s k w) } }

/-- The zeroing engine clears the storage of core `k` but its retained regions (R94). -/
def zeroCore (k : Nat) (s : State) : State :=
  let s := ((zeroFloating k s).setCore k { issued := (s.core k).issued }).zero (accBase k) 0x240000
  (s.put (F.CRN_ACCSTAT_FROZEN k) 0).put (F.CRN_FLAGS_SAT_DZ_ACCF_SCLR k) 0

/-- The stores of Sapling that R203 clears. -/
def zeroSapling (s : State) : State := (s.setSpl { s.spl with filled := [] }).zero 0x2020000000 0x180000

/-- A unit is assigned to a job of context `c`: RUNNING with the context, its tag cleared, its storage zeroed where the zeroing rule of
R278 or R203 applies. -/
def assignUnit (c u : Nat) (s : State) : State :=
  let x := unitSt s u
  let other := x.lastCtx ≠ 64 && x.lastCtx ≠ c
  let s := (s.put (unitField u) uRunning).put (unitCtxField u) c
  let s := setUnit u { x with lastCtx := c, tag := 0, needZero := false } s
  if u < 6 then (if other || x.needZero then zeroCore u s else s)
  else if other then zeroSapling s else s

/-- The gang record (R264). -/
def gangRecord (j : Job) (cores : List Nat) (r : Nat) : List Byte :=
  leBytes 8 j.d.jobId ++ [BitVec.ofNat 8 r, BitVec.ofNat 8 j.d.ncore] ++ (List.range 6).map (fun i => BitVec.ofNat 8 (cores.getD i 0xFF))
    ++ [BitVec.ofNat 8 (ofBool j.sprout)] ++ List.replicate 47 0

/-- The program is copied to PBASE of the placed cores by their DMA engines (R265): false at the first error response. -/
def copyProgram (d : JobDesc) : List Nat → State → Bool × State
  | [], s => (true, s)
  | k :: ks, s =>
    if d.plen = 0 then (true, s)
    else match dmaRead k d.paddr d.plen s with
      | (.inl _, s) => (false, s)
      | (.inr bs, s) =>
        match dmaOwnWrite k d.pbase bs s with
        | (some _, s) => (false, s)
        | (none, s) => copyProgram d ks s

/-- The units go to the job, which is prepared for its start (R264, R265); a failed copy refuses it (R261). -/
def dispatchJob (j : Job) (cores : List Nat) (s : State) : State :=
  let j := { j with cores := cores, sap := !j.d.crown, phase := .assigned, assigned := s.elapsed, strict := s.flag F.SYS_STRICT_STRICT }
  let s := takeJob j s
  let s := s.setSched { s.sched with jobs := s.sched.jobs ++ [j] }
  let s := j.units.foldl (fun s u => assignUnit j.ctx u s) (fenceResult j s)
  match (if j.d.crown then copyProgram j.d cores s else (true, s)) with
  | (true, s) =>
    (List.range cores.length).foldl (fun s r =>
      let k := cores.getD r 0
      s.wrBytes (spBase k + j.d.gangoff) (gangRecord j cores r)) s
  | (false, s) => refuseJob j 32 (releaseJob j false s)

/-- JOB_DISPATCH (R262 to R265, R509, R511, R552): the top-ranked job of the class gets its units. -/
def execJobDispatch (sapling : Bool) (s : State) : Ans :=
  let strict := s.flag F.SYS_STRICT_STRICT
  if !(s.flag F.SCH_CTRL_EN) || (strict && s.fld F.SAP_CRNF_CUR ≠ 1500) then .next s
  else match topJob s (!sapling) with
    | none => .next s
    | some j => match placeJob s j with
      | none => .next s
      | some cores =>
        if j.d.crown && j.d.plen = 0 && cores.any (fun k => !(retainedFor s j.ctx ((spBase k + j.d.pbase) / 0x1000))) then
          .next (refuseJob j 40 (takeJob j s))
        else match (if strict then (strictChecks s j cores).find? (fun e => !e.2) else none) with
          | some e => .next (refuseStrict j e.1 s)
          | none => .next (dispatchJob j cores s)

/-- The job that holds unit `u` in a phase. -/
def jobOn (s : State) (u : Nat) (p : JobPhase) : Option Job := s.sched.jobs.find? fun j => j.phase = p && j.units.contains u

/-- A core at the start of a job (R55, R91, R101, R135): registers, loop stack, fetch buffer and shadow state reset, CRN_PBASE loaded. The number of
the next instruction goes on, so that a signal on its way names no instruction of another job (R291). -/
def startCore (d : JobDesc) (k : Nat) (s : State) : State :=
  let x := s.core k
  let s := s.setCore k
    { ({} : Crown) with
      tab := x.tab, tabSigned := x.tabSigned, acc := x.acc, active := x.active, shadow := x.shadow, pc := d.pbase, issued := x.issued }
  (s.put (F.CRN_PBASE_BASE k) (d.pbase / 64)).put (F.CRN_FLAGS_SAT_DZ_ACCF_SCLR k) 0

/-- JOB_START (R265): the gang of the job that holds the unit starts together; Sapling gets the address of its first descriptor (R204). -/
def execJobStart (unit : Fin 7) (s : State) : Ans :=
  match jobOn s unit .assigned with
  | none => .next s
  | some j =>
    if ctxState s j.ctx = ctxTearing then .next s
    else
      let s := modJob j.id (fun j => { j with phase := .running, start := some s.ns }) s
      let s := j.cores.foldl (fun s k => startCore j.d k s) s
      .next (if j.sap then setSplDesc j.d.paddr (s.setSpl { filled := s.spl.filled }) else s)

/-! ### Deadlines (R269) -/

/-- A job misses its deadline (R269): counted, reported, and for a SAFE context signalled to Heartwood. -/
def missDeadline (j : Job) (s : State) : State :=
  let safe := s.flag (F.SCH_CTX_CFG_SAFE j.ctx)
  let s := modJob j.id (fun j => { j with late := true }) s
  let s := raise { time := recTime (j.deadline.getD 0), code := 0x4003, ctx := j.ctx, sev := if safe then 4 else 1, a0 := j.d.jobId % 2 ^ 32, a1 := ofBool j.sprout
                   a2 := j.deadline.getD 0 % 1000000000 } (s.incHold (F.SCH_CTX_MISS_MISS j.ctx))
  if safe then hwdDue 3 s else s

/-- The first job of context `c` whose deadline has passed unreported (R269). -/
def lateJob (s : State) (c : Nat) : Option Job :=
  s.sched.jobs.find? fun j => j.ctx = c && j.phase ≠ .stopping && !j.late && pastNs s j.deadline

/-- A deadline of context `c` passes (R269). -/
def deadlineReached (c : Nat) (s : State) : State :=
  match lateJob s c with
  | some j => missDeadline j s
  | none => s

/-! ### The seal (R270, R289, R290) -/

/-- Rings that the records in the Page keeper queue of context `c` will signal (R181, R182, R289). -/
def kvpOwed (s : State) (c : Nat) : List Nat :=
  let n := if s.flag F.KVP_CTRL_EN && s.flag (F.KVP_CQ_CFG_EN c) then min (kvpBacklog s c).toNat (2 ^ s.fld (F.KVP_CQ_CFG_QSZ c)) else 0
  let base := s.fld (F.KVP_CQ_BASE_LO_BASE_LO c) * 64 + s.fld (F.KVP_CQ_BASE_HI_BASE_HI c) * 2 ^ 32
  (List.range n).filterMap fun i =>
    let a := base + (s.fld (F.KVP_CQ_HEAD_HEAD c) + i) % 2 ^ s.fld (F.KVP_CQ_CFG_QSZ c) * 64
    if bitAt (s.byte (a + 1)).toNat 0 then some (s.rdN (a + 30) 2) else none

/-- The RSIGDs of context `c` that Grove has not delivered (R289): ring of the remote device in the SIGTGT format, device, increment. -/
def grvOwed (s : State) (c : Nat) : List (Nat × Nat × Nat) :=
  ((grvChan s c).sigs.map fun g => (g.ring, g.dst, g.inc))
    ++ s.grove.tx.flatMap fun e =>
      if e.1 % 64 = c then (e.2.q.filter fun g => g.kind = 2 && g.desc = none).map fun g => (g.arg % 2 ^ 16, e.1 / 64, g.arg / 2 ^ 16)
      else []

/-- The signals issued into the queues of core `k` that have not left them (R289): ring in the SIGTGT format, remote device plus 1 or 0, increment. A
signal whose transaction is on the network is held in `owed`. -/
def queueOwed (s : State) (k : Nat) : List (Nat × Nat × Nat) :=
  let x := s.core k
  (x.qDma ++ x.qArray ++ x.qTwig ++ x.qSync).filterMap fun e =>
    match e.op with
    | .rsigd .. => some (e.ring k, 1 + (e.x % 2 ^ 14).toNat, e.y.toNat)
    | _ => if e.isSignal && !e.seen && e.inc ≠ 0 then some (e.ring k, 0, e.inc) else none

/-- The signals of context `c` still in the queues of the cores that run its jobs (R289). -/
def coresOwed (s : State) (c : Nat) : List (Nat × Nat × Nat × Nat) :=
  ((List.range 6).filter fun k => coreCtx s k = some c).flatMap fun k => (queueOwed s k).map fun o => (o.1, o.2.1, coreOid k, o.2.2)

/-- The signals that context `c` owes (R289): the ring in the SIGTGT format, and the remote device plus 1 or 0. -/
def owedRings (s : State) (c : Nat) : List (Nat × Nat) :=
  ((s.owed.filter fun o => o.ctx = c).map fun o => (o.ring, 0)) ++ (kvpOwed s c).map (fun r => (r, 0))
    ++ (coresOwed s c).map (fun o => (o.1, o.2.1)) ++ (grvOwed s c).map fun g => (g.1, 1 + g.2.1)

/-- The flag word of core `k`. -/
def coreFlags (s : State) (k : Nat) : Nat := s.fld (F.CRN_FLAGS_SAT_DZ_ACCF_SCLR k)

/-- The job's flag word (R55). -/
def jobFlags (s : State) (j : Job) : Nat := j.cores.foldl (fun w k => w ||| coreFlags s k) 0

/-- The arithmetic events of a seal (R57). -/
def sealEvents (j : Job) (s : State) : State :=
  let w := jobFlags s j
  (List.range 4).foldl (fun s i =>
    if bitAt w i && bitAt j.d.fmask i then
      let held := j.cores.filter fun k => bitAt (coreFlags s k) i
      raise { code := 0x1001 + i, oid := 0x10 + held.min?.getD 0, ctx := j.ctx, sev := if i = 0 then 0 else 1, a0 := w
              a1 := j.d.jobId % 2 ^ 32, a2 := held.foldl (fun b k => b ||| 2 ^ k) 0 } s
    else s) s

/-- The result region opens to the readers that RESOPEN names (R270). -/
def openResult (j : Job) (s : State) : State :=
  s.setSched { s.sched with results := s.sched.results.map fun r =>
    if r.job = j.id && !r.sealed then
      { r with sealed := true, host := bitAt j.d.resopen 0, cons := if bitAt j.d.resopen 1 then some (j.d.resopen / 4 % 64) else none }
    else r }

/-- The OID of the lowest-numbered unit a job holds (R270). -/
def jobOid (j : Job) : Nat := match j.cores.min? with | some k => 0x10 + k | none => 0x18

/-- Steps 3 to 7 of the seal (R270), with the count of rings left dirty. -/
def sealSteps (j : Job) (dirty : Nat) (s : State) : State :=
  let c := j.ctx
  let s := sealEvents j s
  let s := kvpSeal c j.id (openResult j s)
  let ch := chargeOf s j
  let s := jobRecord j (if j.sprout then 2 else 1) 0 (jobFlags s j) dirty ch s
  let s := if dirty = 0 then s else s.inc64 Reg.GRN_DIRTY_LO
  let s := if j.d.sigc then (netSignal j.d.cring (jobOid j) c 1 s).2 else s
  let s := s.msix (s.fld (F.SCH_CTX_CFG_VEC c))
  addCharge c ch (releaseJob j true s)

/-- The job of unit `u` that has reached END on all its units, in a phase of the seal. -/
def endedJob (s : State) (u : Nat) (p : JobPhase) : Option Job :=
  match jobOn s u p with
  | some j =>
    if ctxState s j.ctx ≠ ctxTearing && (if j.sap then s.spl.ended else j.cores.all fun k => j.ended.contains k) then some j else none
  | none => none

/-- Has the switch point of a job been reached in an earlier tick, so that its switch comes before the seal instant (R268, R279)? -/
def switchDue (s : State) (j : Job) : Bool :=
  pastNs s j.switchAt && s.flag (F.SCH_CTX_SPROUT_LO_VALID j.ctx) && ctxState s j.ctx = ctxActive

/-- JOB_SEAL (R270): a job that has reached END on every unit seals, or waits for the signals its context owes (R290). A switch point
reached in an earlier tick comes first (R268), and a deadline passed is missed (R269). -/
def sealJob (u : Nat) (s : State) : State :=
  match endedJob s u .running with
  | some j =>
    if switchDue s j then s
    else if owedRings s j.ctx = [] then
      let s := if !j.late && pastNs s j.deadline then missDeadline j s else s
      sealSteps { j with late := j.late || pastNs s j.deadline } 0 s
    else modJob j.id (fun j => { j with phase := .sealWait, sealSince := s.elapsed }) s
  | none => match endedJob s u .sealWait with
    | some j =>
      if switchDue s j || owedRings s j.ctx ≠ [] then s
      else
        let s := if !j.late && pastNs s j.deadline then missDeadline j s else s
        sealSteps { j with late := j.late || pastNs s j.deadline } 0 s
    | none => s

/-- SEALWAIT_EXPIRY (R290, R292): the wait for owed signals has lasted GRN_SEALWAIT µs; the job seals with its rings left dirty. -/
def sealExpiry (u : Nat) (s : State) : State :=
  match endedJob s u .sealWait with
  | none => s
  | some j =>
    if switchDue s j || !(s.passed j.sealSince (s.fld F.GRN_SEALWAIT_LIMIT)) then s
    else
      let l := owedRings s j.ctx
      let rings := l.eraseDups
      let s := if !j.late && pastNs s j.deadline then missDeadline j s else s
      let j := { j with late := j.late || pastNs s j.deadline }
      let s := if l = [] then s else
        raise { code := 0x6001, oid := jobOid j, ctx := j.ctx, sev := 1, a0 := j.d.jobId % 2 ^ 32, a1 := rings.length
                a2 := (rings.map (·.1)).min?.getD 0, a3 := l.length } s
      sealSteps j rings.length s

/-! ### Teardown (R258, R272 to R274) -/

/-- The descriptors pending behind HEAD are discarded with a record each, and HEAD equals TAIL (R272). `skip` of them stand in jobs
already read. -/
def discardQueue (c status cause skip : Nat) (s : State) : State :=
  let h := s.fld (F.SCH_CTX_HEAD_HEAD c)
  let n := min (queuePending s c) (queueSize s c)
  let s := (List.range (n - skip)).foldl (fun s i =>
    let q := (h + skip + i) % queueSize s c
    match nocRead 0 c (queueAddr s c q) 256 s with
    | (some raw, s) => jobRecord { id := 0, ctx := c, d := parseJob raw, qidx := q } status cause 0 0 0 s
    | (none, s) => jobRecord { id := 0, ctx := c, d := {}, qidx := q } status cause 0 0 0 s) s
  s.put (F.SCH_CTX_HEAD_HEAD c) (s.fld (F.SCH_CTX_TAIL_TAIL c))

/-- The queued jobs of a torn-down context are discarded with status 0x10 (R272). -/
def discardQueued (c cause : Nat) (s : State) : State :=
  let l := s.sched.jobs.filter fun j => j.ctx = c && j.phase = .queued
  let skip := (l.filter fun j => !j.requeued && !j.sprout).length
  let s := l.foldl (fun s j => jobRecord j 0x10 cause 0 0 0 (dropJob j.id s)) s
  discardQueue c 0x10 cause skip s

/-- The cores of a job have storage to be zeroed before any further job (R272, R278). -/
def markZero (j : Job) (s : State) : State :=
  j.cores.foldl (fun s k => setUnit k { unitSt s k with needZero := true } s) s

/-- A stopped job in a teardown (R268, R272, R274); `lost` is the lost unit in a teardown for unit loss. -/
def stopJob (cause : Nat) (lost : Option Nat) (j : Job) (s : State) : State :=
  let s := markZero j s
  if j.phase = .stopping then zeroResult j.d (closeJob j 0x20 0x4004 s)
  else match lost with
    | none => closeJob j 0x10 cause s
    | some u =>
      if j.d.restart then
        let s := zeroResult j.d (closeJob j 0x11 0x4002 s)
        let s := raise { code := 0x4009, ctx := j.ctx, a0 := j.d.jobId % 2 ^ 32, a1 := ((j.units.find? fun k => s.fld (unitField k) = uLost).getD u) } s
        let q : Job := { id := j.id, ctx := j.ctx, d := j.d, qidx := j.qidx, requeued := true, sprout := j.sprout, deadline := j.deadline
                         switchAt := j.switchAt, late := j.late }
        let (before, after) := s.sched.jobs.span fun x => !(x.ctx = j.ctx && x.phase = .queued && decide (j.id < x.id))
        s.setSched { s.sched with jobs := before ++ [q] ++ after }
      else closeJob j 0x12 0x4002 s

/-- The end of a teardown is reported (R258, R280). -/
def tornDown (c cause : Nat) (jobs : List Job) (s : State) : State :=
  let units := jobs.foldl (fun b j => b ||| unitsByte { j with late := false }) 0
  raise { code := 0x4001, ctx := c, sev := 2, a0 := c, a1 := cause, a2 := (jobs.map fun j => j.d.jobId % 2 ^ 32).headD 0, a3 := units } s

/-- TEARDOWN_COMPLETE (R258, R272, R274): every engine of the context has stopped. -/
def execTeardownComplete (ctx : BitVec 6) (s : State) : Ans :=
  let c := ctx.toNat
  if ctxState s c ≠ ctxTearing then .next s
  else
    let lost := (s.sched.loss.find? fun e => e.1 = c).map (·.2)
    let cause := s.fld (F.SCH_CTX_STAT_CAUSE c)
    let run := s.sched.jobs.filter fun j => j.ctx = c && j.dispatched
    let live := run.filter fun j => j.phase ≠ .stopping
    let s := if run.any (·.sap) then splTeardown s else s
    let s := grvTeardown c (kvpTeardown c (sdbTeardown c s))
    let s := run.foldl (fun s j => stopJob cause lost j s) s
    let s := s.setSched { s.sched with loss := s.sched.loss.filter fun e => e.1 ≠ c, tearing := spSet 0 c 0 s.sched.tearing }
    let next (st : Nat) (s : State) : State := s.put (F.SCH_CTX_STAT_STATE c) (if s.flag (F.SCH_CTX_CFG_EN c) then st else ctxDisabled)
    if lost.isSome && live.all (fun j => j.d.restart) then .next (next ctxActive s)
    else
      let s := next ctxFaulted (discardQueued c cause s)
      let first := if lost.isSome then live.filter (fun j => !j.d.restart) ++ live.filter (fun j => j.d.restart) else live
      .next (tornDown c cause first s)

/-- SCH_STOPLIM in µs (R281): 0 is treated as 1. -/
def stopLimit (s : State) : Nat := max 1 (s.fld F.SCH_STOPLIM_LIMIT)

/-- Has a job been told to stop for SCH_STOPLIM (R268, R272)? -/
def stopOverdue (s : State) (j : Job) : Bool :=
  (j.phase = .stopping && s.passed j.stopSince (stopLimit s))
    || (ctxState s j.ctx = ctxTearing && s.passed (spGet 0 s.sched.tearing j.ctx - 1) (stopLimit s))

/-- A unit that must stop has not stopped within SCH_STOPLIM: it is lost (R273). -/
def stopExpiry (u : Nat) (s : State) : State :=
  if s.fld (unitField u) = uRunning && s.sched.jobs.any (fun j => j.dispatched && j.units.contains u && stopOverdue s j) then loseUnits [u] 0x4002 s
  else s

/-! ### What writes of the scheduler's registers do -/

/-- The queued jobs of context `c` are discarded with a record each (R258, R271), and HEAD equals TAIL (log entry 45). -/
def restartQueue (c : Nat) (s : State) : State := discardQueued c 0 s

/-- EN of context `c` was written: `was` is its value before (R258). -/
def ctxEnWritten (c : Nat) (was : Bool) (s : State) : State :=
  let now := s.flag (F.SCH_CTX_CFG_EN c)
  if now && !was && ctxState s c = ctxDisabled then (restartQueue c s).put (F.SCH_CTX_STAT_STATE c) ctxActive
  else if was && !now && (ctxState s c = ctxActive || ctxState s c = ctxFaulted) then s.put (F.SCH_CTX_STAT_STATE c) ctxDisabled
  else s

/-- TAIL of context `c` was written: a context that had no job and has one now takes part in the virtual time (R267). -/
def ctxTailWritten (c : Nat) (was : Bool) (s : State) : State :=
  if !was && decide (0 < queuePending s c) then
    match leastVt s c with
    | some v => s.setReg64 (Reg.SCH_CTX_VT_LO c) (max (s.reg64 (Reg.SCH_CTX_VT_LO c)) v)
    | none => s
  else s

/-- SCH_CTXn_CMD was written (R258, R267, R279): a TEARDOWN drops an ACK of the same write. -/
def ctxCmdWritten (c data : Nat) (s : State) : State :=
  let s := if bitAt data 2 then
      match leastVt s c with
      | some v => s.setReg64 (Reg.SCH_CTX_VT_LO c) v
      | none => s
    else s
  if bitAt data 0 then tearCtx c 0 s
  else if bitAt data 1 && ctxState s c = ctxFaulted then (restartQueue c s).put (F.SCH_CTX_STAT_STATE c) ctxActive
  else s

/-- SCH_CTRL.EN is 1: units leave OFF (R275, R552). -/
def schCtrlWritten (s : State) : State :=
  if s.flag F.SCH_CTRL_EN then
    (List.range 7).foldl (fun s u => if s.fld (unitField u) = uOff then s.put (unitField u) uIdle else s) s
  else s

/-- RETIRE of unit `u` (R273): a running unit is lost at the release of its job. -/
def retireUnit (u : Nat) (s : State) : State :=
  if s.fld (unitField u) = uRunning then setUnit u { unitSt s u with retire := true } s else loseUnits [u] 0 s

/-- READMIT of unit `u` (R275); dropped while a thermal trip holds it (R497). -/
def readmitUnit (u : Nat) (s : State) : State :=
  if s.fld (unitField u) = uLost && !(s.sched.hot.contains u) then (setUnit u { unitSt s u with passed := false } s).put (unitField u) uSelftest else s

/-- A Crown restart no longer waits for unit `u` (R335). -/
def unitBack (u : Nat) (s : State) : State := { s with hwd := { s.hwd with left := s.hwd.left.filter fun k => k ≠ u } }

/-- ADMIT of unit `u` (R275): dropped before the quarantine check has passed. -/
def admitUnit (u : Nat) (s : State) : State :=
  if s.fld (unitField u) = uQuarantine && (unitSt s u).passed then
    let s := if u < 6 then zeroCore u s else zeroSapling s
    let s := setUnit u { unitSt s u with passed := false, needZero := true } s
    unitBack u (raise { code := 0x4006, oid := unitOid u, a0 := u } (s.put (unitField u) uIdle))
  else s

/-- A unit fails its re-admission (R275): bit 0 of `why` for the self-test, bit 1 for the signature. -/
def readmitFailed (u why : Nat) (s : State) : State :=
  unitBack u (raise { code := 0x4007, oid := unitOid u, sev := 3, a0 := u, a1 := why } (s.put (unitField u) uLost))

/-- SELFTEST_COMPLETE (R275, R312, R313): the march over the unit's macros leaves them zero and reports failing rows. -/
def execSelftestComplete (unit : Fin 7) (fails : List RowFail) (ok : Bool) (s : State) : Ans :=
  let u : Nat := unit
  if s.fld (unitField u) ≠ uSelftest then .next s
  else
    let s := zeroUnitStores u s
    let s := marchFails fails (if u < 6 then s.setCore u { issued := (s.core u).issued } else s)
    .next (if ok then s.put (unitField u) uQuarantine else readmitFailed u 1 s)

/-- QUARANTINE_COMPLETE (R275, R335): the signature is compared; during a Crown restart Heartwood writes ADMIT. -/
def execQuarantineComplete (unit : Fin 7) (ok : Bool) (s : State) : Ans :=
  let u : Nat := unit
  if s.fld (unitField u) ≠ uQuarantine || (unitSt s u).passed then .next s
  else if !ok then .next (readmitFailed u 2 s)
  else
    let s := setUnit u { unitSt s u with passed := true } s
    .next (if s.flag F.HWD_STATE_RESTART && u < 6 then admitUnit u s else s)

/-! ### Owners (R276, R277) -/

/-- Bytes of a buffer unit at `a`, and the bounds of its buffer (R276): none outside the table. -/
def bufferAt (a : Nat) : Option (Nat × Nat × Nat) :=
  match place a with
  | some (.dram _) => some (0x200000, 0, 0x1800000000)
  | some (.scratch k _) => some (0x1000, spBase k, spBase k + spSize)
  | some (.canopy _) => some (0x1000, 0x2010000000, 0x2012000000)
  | some (.sapling off) => if 0x180000 ≤ off then some (0x1000, 0x2020180000, 0x2020200000) else none
  | _ => none

/-- The unit size of a range that an ownership command may name (R277): none where the range is not aligned, leaves its buffer or touches
the Page keeper pool. -/
def ownRange (s : State) (a n : Nat) : Option Nat :=
  match bufferAt a with
  | none => none
  | some (sz, _, hi) =>
    let pool := s.flag F.KVP_CTRL_EN && decide (a < kvpBase s + kvpChunks s * kvpChunk s) && decide (kvpBase s < a + n * sz)
    if a % sz ≠ 0 || hi < a + n * sz || pool then none else some sz

/-- SCH_OWN_CMD was written (R277): the units whose owner changes are withdrawn and read zero, out of any result region. -/
def ownCmdWritten (data : Nat) (s : State) : State :=
  if !(bitAt data 7) then s
  else
    let a := s.fld F.SCH_OWN_ADDR_LO_ADDR_LO * 0x1000 + s.fld F.SCH_OWN_ADDR_HI_ADDR_HI * 2 ^ 32
    let n := s.fld F.SCH_OWN_LEN_LEN
    let owner := if bitAt data 6 then 64 else data % 64
    match ownRange s a n with
    | none => s.put F.SCH_OWN_STAT_ERR 1
    | some sz =>
      let units := ((List.range n).map fun i => (a + i * sz) / sz).filter fun key => ownerOf s key ≠ owner
      let s := if sz = 0x200000 then units.foldl (fun s key => enqueueClear ⟨key * sz, sz, .owner⟩ s) s
        else units.foldl (fun s key => s.zero (key * sz) sz) s
      let res := units.foldl (fun l key => cutRegions (key * sz) sz l) s.sched.results
      (s.setSched { s.sched with change := some ⟨a, n, owner, units⟩, results := res }).put F.SCH_OWN_STAT_BUSY 1

/-- OWN_ZEROING_COMPLETE (R277): not before the bulk-clear engine has served the requests ahead of a change of owner in DRAM (R318). The new owner is set, BUSY clears and OWN_DONE is raised. -/
def execOwnZeroingComplete (s : State) : Ans :=
  match s.sched.change with
  | none => .next s
  | some x =>
    if !(clearTurn s .owner) then .next s else
    let s := x.units.foldl (fun s _ => clearDone .owner s) s
    let owner := x.units.foldl (fun t key => spSet 64 key x.owner t) s.sched.owner
    let s := (s.setSched { s.sched with change := none, owner := owner }).put F.SCH_OWN_STAT_BUSY 0
    .next (raise { code := 0x4008, ctx := if x.owner = 64 then 0 else x.owner, a0 := x.addr % 2 ^ 32, a1 := x.addr / 2 ^ 32 % 2 ^ 16
                   a2 := x.len, a3 := x.owner } s)

end Sys2Proof.Machine
end

