-- ==== Sys2Proof/Machine/Cambium.lean ====
section
/-! DEFINITION. Cambium, the joint control engine: axis records, setpoints, the axis law, the observer, law sources and axis states
(R345 to R367). -/

namespace Sys2Proof.Machine

/-! ### The Cambium window (R347) -/

/-- First address of the Cambium window (R25). -/
def cmbWin : Nat := 0x2021000000
/-- The parameter record of axis `a`. -/
def axRec (a : Nat) : Nat := cmbWin + 0x800 * a
/-- The live state of axis `a`. -/
def axLive (a : Nat) : Nat := cmbWin + 0xC0000 + 0x200 * a
/-- Trajectory buffer `b` of gate channel `n`. -/
def trajBuf (n b : Nat) : Nat := cmbWin + 0x40000 + 0x20000 * n + 0x10000 * b
/-- The stored trajectory of group `g`: `k` = 0 fallback, 1 controlled stop. -/
def storedTraj (g k : Nat) : Nat := cmbWin + 0x100000 + 0x30000 * (2 * g + k)

/-- Cambium's OID (R31). -/
def cmbOid : Nat := 0x31
/-- Cambium's own read of its SRAM: none for an uncorrectable word. -/
def cmbRead (a n : Nat) (s : State) : Option (List Byte) × State := memRead cmbOid a n s

/-- Cambium's record updated. -/
def State.setCmb (s : State) (x : Cmb) : State := { s with cmb := x }
/-- What Cambium keeps of axis `a`. -/
def cmbAxis (s : State) (a : Nat) : CmbAxis := spGet {} s.cmb.axes a
/-- The state with axis `a` changed. -/
def modAxis (a : Nat) (f : CmbAxis → CmbAxis) (s : State) : State :=
  s.setCmb { s.cmb with axes := spSet {} a (f (cmbAxis s a)) s.cmb.axes }

/-- The record of axis `a`, as it stands (R348). -/
def axRecord (s : State) (a : Nat) : List Byte := s.bytes (axRec a) 0x110
/-- CFG of an axis record. -/
def axCfg (r : List Byte) : Nat := leAt r 0x10B 1
/-- Is axis `a` enabled (CFG.EN)? -/
def axOn (s : State) (a : Nat) : Bool := bitAt (s.byte (axRec a + 0x10B)).toNat 0
/-- GROUP of axis `a`. -/
def axGroup (s : State) (a : Nat) : Nat := (s.byte (axRec a + 0x10B)).toNat / 32
/-- PORT, STATION and SLOT of axis `a`. -/
def axPlace (s : State) (a : Nat) : Nat × Nat × Nat :=
  ((s.byte (axRec a + 0x108)).toNat, (s.byte (axRec a + 0x109)).toNat, (s.byte (axRec a + 0x10A)).toNat)
/-- The enabled axes, ascending. -/
def axesOn (s : State) : List Nat := (List.range 128).filter fun a => axOn s a

/-- Axis states (R367). -/
def axOff : Nat := 0
def axActive : Nat := 1
def axLost : Nat := 2
def axFault : Nat := 3
def axAsto : Nat := 4
/-- Law sources (R367). -/
def srcSto : Nat := 0
def srcChunk : Nat := 1
def srcHold : Nat := 2
def srcTraj : Nat := 3
def srcStop : Nat := 4
def srcStopped : Nat := 5

/-- State of axis `a`. -/
def axState (s : State) (a : Nat) : Nat := s.fld (F.CMB_AX_STAT_STATE a)
/-- Law source of axis `a`. -/
def axSrc (s : State) (a : Nat) : Nat := s.fld (F.CMB_AX_STAT_SRC a)
/-- The law source of axis `a` once a latched change has applied. -/
def nextSrc (s : State) (a : Nat) : Nat := match (cmbAxis s a).next with | some e => e.1 | none => axSrc s a
/-- Has every enabled axis law source STO (R346)? -/
def allSto (s : State) : Bool := (axesOn s).all fun a => axSrc s a = srcSto

/-- An event of the control class (R365), with the time of the happening where its rule gives one (R519). -/
def cmbEvent (code sev a0 a1 a2 a3 : Nat) (s : State) (time : Nat := 0) : State :=
  raise { time := time, code := code, oid := cmbOid, sev := sev, a0 := a0, a1 := a1, a2 := a2, a3 := a3 } s

/-- Cambium pulses one of its lines to Heartwood (R345, R357, R365). -/
def pulseLine (l : HwdLine) (s : State) : State := s.emit (.line l)

/-- A completed cycle pulses the heartbeat line (R332, R357). -/
def heartbeat (s : State) : State := pulseLine .heartbeat { s with hwd := { s.hwd with beat := s.elapsed } }

/-- 32 bits of a signed value. -/
def word32 (x : Int) : Nat := (uwrap x 32).toNat

/-- Signed field of `n` bytes of live state. -/
def liveS (s : State) (a off n : Nat) : Int := sextN (s.rdN (axLive a + off) n) (8 * n)
/-- The last command of axis `a`. -/
def axU (s : State) (a : Nat) : Int := liveS s a 0x16 2

/-- A 2- or 4-byte signed field of a record. -/
def recS (r : List Byte) (i n : Nat) : Int := sextN (leAt r i n) (8 * n)

/-! ### Joint cycles (R346) -/

/-- The period in ns. -/
def periodNs (s : State) : Nat := 1000 * s.fld F.CMB_PERIOD_PERUS
/-- Does a TIM time in ns lie on a cycle boundary? -/
def onBoundary (s : State) (t : Nat) : Bool := ((t : Int) - s.fld F.CMB_PHASE_PHNS) % periodNs s = 0
/-- The last boundary at or before `t`: none before the first. -/
def boundaryBefore (s : State) (t : Nat) : Option Nat :=
  let ph := s.fld F.CMB_PHASE_PHNS
  if t < ph then none else some (t - (t - ph) % periodNs s)

/-! ### Setpoints (R349, R350, R356) -/

/-- A trajectory in memory: base address, steps, spacing in µs, axis map. -/
structure Traj where
  base : Nat
  nstep : Nat
  stepus : Nat
  axmap : Nat
  deriving DecidableEq, Repr

/-- The trajectory of a buffer (R349) or, with `stored`, of a slot for stored ones (R356); none for an uncorrectable word. -/
def readTraj (base : Nat) (stored : Bool) (s : State) : Option Traj × State :=
  match cmbRead base 64 s with
  | (none, s) => (none, s)
  | (some h, s) =>
    (some (if stored then ⟨base, leAt h 0 2, leAt h 4 4, leAt h 16 16⟩ else ⟨base, leAt h 8 2, leAt h 12 4, leAt h 16 16⟩), s)

/-- The number of bits of `m` below bit `n`. -/
def bitsBelow (m n : Nat) : Nat := ((List.range n).filter fun i => bitAt m i).length

/-- POS and VEL of axis `a` at step `k` (R327). -/
def trajPoint (t : Traj) (a k : Nat) (s : State) : Option (Int × Int) × State :=
  match cmbRead (t.base + 64 + 8 * (k * bitsBelow t.axmap 128 + bitsBelow t.axmap a)) 8 s with
  | (some b, s) => (some (sextN (leAt b 0 4) 32, sextN (leAt b 4 4) 32), s)
  | (none, s) => (none, s)

/-- The setpoint of an axis for a cycle (R350): position, velocity, past the last step, and the flags of the helpers that formed it (R54). -/
structure Setpoint where
  p : Int
  v : Int
  ended : Bool := false
  fl : BitVec 4 := 0
  deriving DecidableEq, Repr

/-- The interpolation of R350 between two steps, `n` cycles of `d` after the first. -/
def interpolate (p0 p1 : Int × Int) (stepus d n : Int) : Setpoint :=
  let m0 := rdiv (p0.2 * stepus) 1000000 64
  let m1 := rdiv (p1.2 * stepus) 1000000 64
  let h00 := 2 * n ^ 3 - 3 * n ^ 2 * d + d ^ 3
  let h10 := n ^ 3 - 2 * n ^ 2 * d + n * d ^ 2
  let h01 := -2 * n ^ 3 + 3 * n ^ 2 * d
  let h11 := n ^ 3 - n ^ 2 * d
  let ps := rdiv (h00 * p0.1 + h10 * m0.1 + h01 * p1.1 + h11 * m1.1) (d ^ 3) 32
  let vs := rdiv (p0.2 * (d - n) + p1.2 * n) d 32
  { p := ps.1, v := vs.1, fl := m0.2 ||| m1.2 ||| ps.2 ||| vs.2 }

/-- The setpoint of axis `a` in cycle `j` of a trajectory (R350). None for an uncorrectable word. A trajectory without steps, or with a spacing
below the period, gives free values. -/
def trajSetpoint (t : Traj) (a j : Nat) (s : State) : Option Setpoint × State :=
  let p := s.fld F.CMB_PERIOD_PERUS
  let d := t.stepus / p
  if t.nstep = 0 || d = 0 then
    let x := s.freeNat
    let y := x.2.freeNat
    (some { p := wrap x.1 32, v := wrap y.1 32, ended := true }, y.2)
  else
    let k := j / d
    let n := j % d
    if t.nstep - 1 ≤ k then
      match trajPoint t a (t.nstep - 1) s with
      | (none, s) => (none, s)
      | (some e, s) => (some (if k = t.nstep - 1 && n = 0 then { p := e.1, v := e.2 } else { p := e.1, v := 0, ended := true }), s)
    else match trajPoint t a k s with
      | (none, s) => (none, s)
      | (some e, s) => match trajPoint t a (k + 1) s with
        | (none, s) => (none, s)
        | (some f, s) => (some (interpolate e f t.stepus d n), s)

/-- Whole cycles from `t0` to boundary `b`, both in ns; 0 before `t0`. -/
def cyclesSince (s : State) (t0 b : Nat) : Nat := (b - t0) / periodNs s

/-- TS of a buffer in ns (R349). -/
def bufTs (s : State) (base : Nat) : Nat := completeTime s.ns (s.rdN base 8)

/-- A position in INT32; a sum outside the format is a free value. -/
def pos32 (x : Int) (s : State) : Int × State :=
  if smin 32 ≤ x && x ≤ smax 32 then (x, s) else let r := s.freeNat; (wrap r.1 32, r.2)

/-- The setpoint of axis `a` for the cycle at boundary `b`, by its law source (R350, R355, R356); none keeps the last. -/
def axSetpoint (a b : Nat) (s : State) : Option Setpoint × State :=
  let x := cmbAxis s a
  let src := axSrc s a
  if src = srcHold then (some { p := x.plat, v := 0 }, s)
  else if src = srcChunk then
    let n := s.fld (F.CMB_AX_STAT_CH a)
    let base := trajBuf n (ofBool (bitAt (s.fld F.CMB_CHSTAT_BUF) n))
    match readTraj base false s with
    | (some t, s) => if bitAt t.axmap a then trajSetpoint t a (cyclesSince s (bufTs s base) b) s else (none, s)
    | (none, s) => (none, s)
  else if src = srcTraj || src = srcStop then
    match readTraj (storedTraj (axGroup s a) (if src = srcStop then 1 else 0)) true s with
    | (none, s) => (none, s)
    | (some t, s) =>
      let j := cyclesSince s x.t0 b
      let d := t.stepus / s.fld F.CMB_PERIOD_PERUS
      let past := t.nstep = 0 || (t.nstep - 1) * d < j
      if t.nstep = 0 || !(bitAt t.axmap a) then (some { p := x.plat, v := 0, ended := past }, s)
      else match trajSetpoint t a j s with
        | (none, s) => (none, s)
        | (some e, s) => let q := pos32 (x.plat + e.p) s; (some { e with p := q.1 }, q.2)
  else (none, s)

/-! ### Axis states and faults (R358 to R361) -/

/-- The miss run of axis `a`, in its register and in its live state (R353, R367). -/
def setRun (a n : Nat) (s : State) : State := (s.put (F.CMB_AX_MISS_RUN a) n).wrN (axLive a + 0x2D) 1 n

/-- An event that names an axis and pulses the axis-fault line (R365). -/
def axisEvent (code sev a a1 a2 a3 : Nat) (s : State) : State := pulseLine .axisFault (cmbEvent code sev a a1 a2 a3 s)

/-- An ACTIVE axis enters LOST (R358, R361, R364). -/
def loseAxis (a : Nat) (s : State) : State :=
  if axState s a ≠ axActive then s
  else
    let p := axPlace s a
    axisEvent 0x7003 1 a p.1 p.2.1 (word32 (axU s a)) (setRun a 0 (s.put (F.CMB_AX_STAT_STATE a) axLost))

/-- An ACTIVE axis enters FAULT (R358). -/
def faultAxis (a reason value : Nat) (s : State) : State :=
  if axState s a ≠ axActive then s
  else axisEvent 0x7002 3 a reason (ofBool (bitAt (axCfg (axRecord s a)) 2)) (value % 2 ^ 32) (s.put (F.CMB_AX_STAT_STATE a) axFault)

/-- A miss of axis `a` (R359). -/
def missAxis (a bits : Nat) (s : State) : State :=
  let run := min (s.fld (F.CMB_AX_MISS_RUN a) + 1) 255
  let s := setRun a run (s.incHold (F.CMB_AX_MISS_CNT a))
  let s := if run = 1 then cmbEvent 0x7001 1 a bits (s.reg Reg.CMB_CYC_LO).toNat (word32 (axU s a)) s else s
  if 3 ≤ run then faultAxis a 1 0 s else s

/-- A short-circuit report of axis `a` in its AST (R360, R374, R375). -/
def shortReport (a ast : Nat) (s : State) : State :=
  let p := axPlace s a
  let st := axState s a
  if bitAt ast 3 || (bitAt ast 1 && !(bitAt ast 2)) then
    if st = axActive || st = axLost || st = axFault then axisEvent 0x7006 4 a p.1 p.2.1 0 (s.put (F.CMB_AX_STAT_STATE a) axAsto) else s
  else if bitAt ast 1 then
    let lim := leAt (axRecord s a) 0x107 1
    let s := s.incHold (F.CMB_AX_STAT_SCCNT a)
    let n := s.fld (F.CMB_AX_STAT_SCCNT a)
    let s := cmbEvent 0x7005 1 a n lim 0 s
    if max lim 1 ≤ n then faultAxis a 4 n s else s
  else s

/-- A bumpless resume is due (R354, R361): the axis is ACTIVE, its observer restarts, and its next law starts from the held command. -/
def resumeAxis (a : Nat) (s : State) : State :=
  let old := axState s a
  let s := modAxis a (fun x => { x with resume := some old, seen := false }) (s.put (F.CMB_AX_STAT_STATE a) axActive)
  (s.wrN (axLive a + 0x28) 4 (leAt (axRecord s a) 0x100 4)).wrN (axLive a + 0x2C) 1 0

/-- STOP_DONE of each group whose enabled axes have all stopped, with its line (R356). -/
def stopDone (s : State) : State :=
  if !(s.flag F.CMB_STAT_STOP) then s
  else (List.range 8).foldl (fun s g =>
    let l := (axesOn s).filter fun a => axGroup s a = g && axState s a ≠ axOff
    if l ≠ [] && !(bitAt (s.fld F.CMB_STAT_STOPDONE) g) && l.all (fun a => axSrc s a = srcStopped || axState s a = axAsto) then
      let s := s.put F.CMB_STAT_STOPDONE (s.fld F.CMB_STAT_STOPDONE ||| 2 ^ g)
      cmbEvent 0x7008 1 g (s.fld F.CMB_STAT_STOPDONE) 0 0 (pulseLine (.stopDone g) s)
    else s) s

/-- CLEAR of axis `a` (R358); an axis that goes OFF may be the last of its group to stop (R356). -/
def clearAxis (a : Nat) (s : State) : State :=
  let st := axState s a
  if !(axOn s a) then s
  else if (st = axLost || st = axFault) && (cmbAxis s a).valid then resumeAxis a s
  else if st = axAsto && axSrc s a = srcSto then stopDone (s.put (F.CMB_AX_STAT_STATE a) axOff)
  else s

/-! ### Record check and law sources (R348, R357) -/

/-- The byte offset of the first failing field of the record of axis `a` (R348). -/
def recordFault (s : State) (a : Nat) : Option Nat :=
  let r := axRecord s a
  let p := s.fld F.CMB_PERIOD_PERUS
  let badStep (k : Nat) : Bool :=
    let base := storedTraj (axGroup s a) k
    let st := s.rdN (base + 4) 4
    s.rdN base 2 ≠ 0 && (st % p ≠ 0 || st < p || 40 * p < st)
  match ([0xC8, 0xC9, 0xCA, 0xCB, 0xCC, 0xCD, 0xCE, 0xCF, 0x105].find? fun i => 47 < leAt r i 1) with
  | some i => some i
  | none =>
    if recS r 0xF2 2 < recS r 0xF0 2 then some 0xF0
    else if recS r 0xEC 4 < recS r 0xE8 4 then some 0xE8
    else if !(leAt r 0xF4 2 ≤ leAt r 0xF8 2 && leAt r 0xF8 2 ≤ leAt r 0xF6 2) then some 0xF8
    else if (axesOn s).any (fun b => b ≠ a && axPlace s b = axPlace s a) then some 0x108
    else if badStep 0 || badStep 1 then some 0x10B
    else none

/-- The record check of axis `a` at the first fallback latch after STO (R348, R358). -/
def checkAxis (a : Nat) (s : State) : State :=
  match recordFault s a with
  | some off => axisEvent 0x7009 3 a off 0 0 (s.put (F.CMB_AX_STAT_STATE a) axOff)
  | none =>
    if axState s a ≠ axOff then s
    else
      let r := axRecord s a
      let s := ((s.put (F.CMB_AX_STAT_STATE a) axActive).put (F.CMB_AX_STAT_SCCNT a) 0).put (F.CMB_AX_MISS_RUN a) 0
      let s := (s.put (F.CMB_AX_STAT_LIM a) 0).wrBytes (axLive a) (leBytes 20 0 ++ leBytes 4 (leAt r 0xF8 2) ++ leBytes 16 0
        ++ leBytes 4 (leAt r 0x100 4) ++ leBytes 8 0)
      modAxis a (fun x => { x with seen := false, resume := none }) s

/-- The fallback command acts on the enabled axes (R357): after STO their records are checked first. -/
def fallbackAxes (rising : Bool) (s : State) : State :=
  let s := if s.cmb.afterSto then (axesOn s).foldl (fun s a => checkAxis a s) (s.setCmb { s.cmb with afterSto := false }) else s
  (axesOn s).foldl (fun s a =>
    let kind := if bitAt (s.fld F.HWD_FBSEL_MODE) (axGroup s a) then srcTraj else srcHold
    let src := nextSrc s a
    if src = srcSto then modAxis a (fun x => { x with next := some (kind, none), nextAt := s.ns, wait := true }) s
    else if rising && (src = srcChunk || src = srcStopped) then modAxis a (fun x => { x with next := some (kind, some x.ps), nextAt := s.ns }) s
    else s) s

/-- Pending commits are discarded (R339, R357). -/
def dropCommits (s : State) : State := s.put F.CMB_CHSTAT_PENDING 0

/-- Cambium acknowledges the latch of a line that has changed (R357). -/
def acknowledge (line was : Bool) (s : State) : State := if line = was then s else pulseLine .acknowledge s

/-- Cambium latches the safe torque-off line (R357, R364). -/
def latchSto (s : State) : State :=
  let was := s.flag F.CMB_STAT_STO
  let s := acknowledge s.hwd.sto was s
  let s := s.put F.CMB_STAT_STO (ofBool s.hwd.sto)
  if s.hwd.sto && !was then
    let s := (dropCommits s).setCmb { s.cmb with afterSto := true }
    (axesOn s).foldl (fun s a => modAxis a (fun x => { x with next := some (srcSto, none), nextAt := s.ns, wait := false }) s) s
  else if !s.hwd.sto && was && s.flag F.CMB_STAT_FB then fallbackAxes true s
  else s

/-- Cambium latches the fallback line (R357). -/
def latchFallback (s : State) : State :=
  let was := s.flag F.CMB_STAT_FB
  let s := acknowledge s.hwd.fb was s
  let s := s.put F.CMB_STAT_FB (ofBool s.hwd.fb)
  if s.hwd.fb && !was then
    let s := (dropCommits s).put F.CMB_STAT_STOPDONE 0
    if s.flag F.CMB_STAT_STO then s else fallbackAxes true s
  else s

/-- Cambium latches the controlled-stop line (R357). An axis that still waits for its first valid sample keeps waiting for its position. -/
def latchStop (s : State) : State :=
  let was := s.flag F.CMB_STAT_STOP
  let s := acknowledge s.hwd.stop was s
  let s := s.put F.CMB_STAT_STOP (ofBool s.hwd.stop)
  if s.hwd.stop && !was then
    (axesOn s).foldl (fun s a =>
      let src := nextSrc s a
      if src = srcChunk || src = srcHold || src = srcTraj then
        modAxis a (fun x => { x with next := some (srcStop, if x.wait then none else some x.ps), nextAt := s.ns }) s
      else s)
      (dropCommits s)
  else s

/-! ### Commits and switches (R22, R349) -/

/-- A write of CMB_COMMIT with ARM = 1 (R22, R349): the buffer not shown active is pending from now on. -/
def commitChannel (n : Nat) (s : State) : State :=
  (s.setCmb { s.cmb with commitAt := spSet 0 n s.ns s.cmb.commitAt }).put F.CMB_CHSTAT_PENDING (s.fld F.CMB_CHSTAT_PENDING ||| 2 ^ n)

/-- The buffer that a commit of channel `n` names. -/
def pendBuf (s : State) (n : Nat) : Nat := trajBuf n (1 - ofBool (bitAt (s.fld F.CMB_CHSTAT_BUF) n))

/-- A write of `len` bytes at `a` into the header of a pending buffer cancels its commit (R349). -/
def noteCmbWrite (a len : Nat) (s : State) : State :=
  (List.range 4).foldl (fun s n =>
    if bitAt (s.fld F.CMB_CHSTAT_PENDING) n && a < pendBuf s n + 64 && pendBuf s n < a + len then
      s.put F.CMB_CHSTAT_PENDING (s.fld F.CMB_CHSTAT_PENDING &&& (15 - 2 ^ n)) else s) s

/-- ACTIVE of each channel: its active buffer governs an axis (R349). -/
def refreshChannels (s : State) : State :=
  let on := axesOn s
  s.put F.CMB_CHSTAT_ACTIVE ((List.range 4).foldl (fun m n =>
    if on.any fun a => axSrc s a = srcChunk && s.fld (F.CMB_AX_STAT_CH a) = n then m ||| 2 ^ n else m) 0)

/-- Source changes of a cycle: per new source and channel, the groups that changed (R365). -/
abbrev Changes := Sparse Nat

/-- Axis `a` takes a law source for the cycle at boundary `b` (R357). -/
def setSource (a src ch b : Nat) (r : Changes × State) : Changes × State :=
  let s := r.2
  let key := src * 4 + (if src = srcChunk then ch else 0)
  let c := if axSrc s a = src then r.1 else spSet 0 key (spGet 0 r.1 key ||| 2 ^ axGroup s a) r.1
  let s := s.put (F.CMB_AX_STAT_SRC a) src
  let s := if src = srcChunk then s.put (F.CMB_AX_STAT_CH a) ch else s
  (c, if src = srcTraj || src = srcStop then modAxis a (fun x => { x with t0 := b }) s else s)

/-- A source change latched before the boundary `b` applies at it (R357); one latched in its cycle counts after it (R364). -/
def applyNext (b : Nat) (r : Changes × State) (a : Nat) : Changes × State :=
  match (cmbAxis r.2 a).next with
  | none => r
  | some (src, cap) =>
    if b ≤ (cmbAxis r.2 a).nextAt then r
    else
      let s := modAxis a (fun x => match cap with
        | some v => { x with next := none, plat := v, wait := false }
        | none => { x with next := none }) r.2
      setSource a src 0 b (r.1, s)

/-- The pending buffer of channel `n` becomes active where `b` is its boundary (R22, R349); a commit in the cycle of the boundary counts after it. -/
def switchChannel (b : Nat) (r : Changes × State) (n : Nat) : Changes × State :=
  let s := r.2
  let base := pendBuf s n
  let ts := bufTs s base
  let step := s.rdN (base + 12) 4 * 1000
  if !(bitAt (s.fld F.CMB_CHSTAT_PENDING) n) || b ≤ spGet 0 s.cmb.commitAt n || b < ts || (b - ts) % step ≠ 0 then r
  else
    let map := s.rdN (base + 16) 16
    let s := s.put F.CMB_CHSTAT_PENDING (s.fld F.CMB_CHSTAT_PENDING &&& (15 - 2 ^ n))
    let s := s.put F.CMB_CHSTAT_BUF (s.fld F.CMB_CHSTAT_BUF ^^^ 2 ^ n)
    let s := s.setReg64 (Reg.CMB_CH_LAST_LO n) (recTime (ts + (s.rdN (base + 8) 2 - 1) * step))
    ((axesOn s).filter fun a => bitAt map a).foldl (fun r a =>
      let src := axSrc r.2 a
      if src = srcChunk || src = srcHold || src = srcTraj then setSource a srcChunk n b r else r) (r.1, s)

/-- SAT of the flag word of axis `a` is set where a helper clamped (R54, R353). -/
def flagSat (a : Nat) (fl : BitVec 4) (s : State) : State :=
  s.put (F.CMB_AX_FLAGS_SAT_DZ_ACCF_SCLR a) (s.fld (F.CMB_AX_FLAGS_SAT_DZ_ACCF_SCLR a) ||| fl.toNat % 2)

/-- The setpoint of axis `a` for the cycle at boundary `b`; a STOP axis past its last step is STOPPED (R350, R356). -/
def updateSetpoint (b : Nat) (r : Changes × State) (a : Nat) : Changes × State :=
  match axSetpoint a b r.2 with
  | (none, s) => (r.1, s)
  | (some e, s) =>
    let s := modAxis a (fun x => { x with ps := e.p, vs := e.v }) (flagSat a e.fl (s.put (F.CMB_AX_STAT_ENDED a) (ofBool e.ended)))
    if axSrc s a = srcStop && e.ended then setSource a srcStopped 0 b (r.1, s) else (r.1, s)

/-- Cambium's part of a cycle start at boundary `b` (R346, R349, R350, R356, R357): the cycle before completes, laws still in
computation are missed, source changes and switches apply, setpoints follow. -/
def startCycle (b : Nat) (waiting : Nat → Bool) (s : State) : State :=
  let on := axesOn s
  let s := if s.cmb.last.isSome then
      heartbeat (on.foldl (fun s a => if waiting a then missAxis a 2 s else s) (s.inc64 Reg.CMB_CYC_LO))
    else s
  let s := on.foldl (fun s a => modAxis a (fun x => { x with seen := x.seen && x.done, done := false }) s) s
  let s := s.setCmb { s.cmb with last := some b }
  let s := s.put F.CMB_STAT_RUN 1
  let r := on.foldl (applyNext b) (([] : Changes), s)
  let r := (List.range 4).foldl (switchChannel b) r
  let r := on.foldl (updateSetpoint b) r
  let s := stopDone (refreshChannels r.2)
  r.1.foldl (fun s e => cmbEvent 0x7007 0 e.2 (e.1 / 4) (b % 1000000000) (if e.1 / 4 = srcChunk then e.1 % 4 else 0) s (recTime b)) s

/-! ### The axis law (R352, R353, R355, R361) -/

/-- A value with the flags gathered so far. -/
abbrev Flagged := Int × BitVec 4

/-- Sum of products of two lists. -/
def dot (x y : List Int) : Int := (x.zip y).foldl (fun t e => t + e.1 * e.2) 0

/-- `n` signed 16-bit values of a byte list from `i`. -/
def ints16 (r : List Byte) (i n : Nat) : List Int := (List.range n).map fun k => recS r (i + 2 * k) 2

/-- What a law computes: command, held at a bound, law states, integrator, gain, flags. -/
structure LawOut where
  u : Int
  lim : Bool
  x : List Int
  ia : Int
  g : Int
  fl : BitVec 4
  deriving DecidableEq, Repr

/-- A value held between two bounds. -/
def clampI (x lo hi : Int) : Int := min (max x lo) hi

/-- The law of R352 with record `r`, law states, integrator and gain of the previous cycle, setpoint and sample; `held` is the held
command in the first cycle after a resume (R361). -/
def axisLaw (r : List Byte) (x : List Int) (ia g ps vs pm vm tm : Int) (chunk : Bool) (held : Option Int) : LawOut :=
  let x := if held.isSome then List.replicate 8 0 else x
  let kp := qmul (recS r 0xD0 4) g 14 32
  let ki := qmul (recS r 0xD4 4) g 14 32
  let kd := qmul (recS r 0xD8 4) g 14 32
  let ep := sat (ps - pm) 32
  let ev := sat (vs - vm) 32
  let y0 := srshift ep.1 (leAt r 0xC8 1) 16
  let y1 := srshift ev.1 (leAt r 0xC9 1) 16
  let y := [y0.1, y1.1, tm]
  let uss := srshift (dot (ints16 r 0xB0 8) x + dot (ints16 r 0xC0 3) y) (leAt r 0xCA 1) 32
  let xn := (List.range 8).map fun i => srshift (dot (ints16 r (16 * i) 8) x + dot (ints16 r (0x80 + 6 * i) 3) y) 14 16
  let up := srshift (kp.1 * ep.1) (leAt r 0xCB 1) 32
  let ud := srshift (kd.1 * ev.1) (leAt r 0xCC 1) 32
  let uf := srshift (recS r 0xDC 4 * vs) (leAt r 0xCE 1) 32
  let imin := recS r 0xE8 4
  let imax := recS r 0xEC 4
  let ia := match held with
    | some h => clampI ((h - (uss.1 + up.1 + ud.1 + uf.1)) * 65536) imin imax
    | none => ia
  let ui := srshift ia 16 32
  let ur := sat (uss.1 + up.1 + ud.1 + ui.1 + uf.1) 32
  let u := min (max ur.1 (recS r 0xF0 2)) (recS r 0xF2 2)
  let lim := u ≠ ur.1
  let di := srshift (ki.1 * ep.1) (leAt r 0xCD 1) 32
  let dj := if lim && ((0 < di.1 && u < ur.1) || (di.1 < 0 && ur.1 < u)) then 0 else di.1
  let is := sat (ia + dj) 32
  let adapt := !lim && chunk
  let ay := absS y0.1 16
  let dg := srshift (recS r 0xFC 2 * (ay.1 - leAt r 0xFE 2)) (leAt r 0xCF 1) 32
  let step : Int := leAt r 0xFA 2
  let g' := if adapt then clampI (g + clampI dg.1 (-step) step) (leAt r 0xF4 2) (leAt r 0xF6 2) else g
  let base := kp.2 ||| ki.2 ||| kd.2 ||| ep.2 ||| ev.2 ||| y0.2 ||| y1.2 ||| uss.2 ||| up.2 ||| ud.2 ||| uf.2 ||| ui.2 ||| ur.2 ||| di.2 ||| is.2
  let fl := (xn.map Prod.snd).foldl (· ||| ·) base
  ⟨u, lim, xn.map (·.1), clampI is.1 imin imax, g', if adapt then fl ||| ay.2 ||| dg.2 else fl⟩

/-- Stance hold (R355): the integrator is kept, the law states and the gain stay. -/
def holdLaw (r : List Byte) (x : List Int) (ia g plat pm vm : Int) (held : Option Int) : LawOut :=
  let e := sat (plat - pm) 32
  let v := sat (0 - vm) 32
  let up := srshift (recS r 0xE0 4 * e.1) (leAt r 0xCB 1) 32
  let ud := srshift (recS r 0xE4 4 * v.1) (leAt r 0xCC 1) 32
  let x := if held.isSome then List.replicate 8 0 else x
  let ia := match held with
    | some h => clampI ((h - (up.1 + ud.1)) * 65536) (recS r 0xE8 4) (recS r 0xEC 4)
    | none => ia
  let ui := srshift ia 16 32
  let ur := sat (up.1 + ud.1 + ui.1) 32
  let u := min (max ur.1 (recS r 0xF0 2)) (recS r 0xF2 2)
  ⟨u, u ≠ ur.1, x, ia, g, e.2 ||| v.2 ||| up.2 ||| ud.2 ||| ui.2 ||| ur.2⟩

/-- The observer (R354) with the previous valid sample `pp`, `vp`: new mean and count, fault with its residual, flags. -/
def observe (r : List Byte) (perus : Nat) (pp vp pm vm mr : Int) (oc : Nat) : Int × Nat × Option Int × BitVec 4 :=
  let perq := (rdiv ((perus * 2 ^ 32 : Nat) : Int) 1000000 64).1
  let e := sat (pm - (pp + rne ((vm + vp) * perq) 33)) 32
  let res := absS e.1 32
  let lm := max (leAt r 0x100 4 : Int) (rne (mr * leAt r 0x104 1) 4)
  if lm < res.1 then
    let oc := min (oc + 1) 255
    (mr, oc, if max (leAt r 0x106 1) 1 ≤ oc then some res.1 else none, e.2 ||| res.2)
  else
    let d := srshift (res.1 - mr) (leAt r 0x105 1) 32
    (mr + d.1, 0, none, e.2 ||| res.2 ||| d.2)

/-- The live state row (R353); byte 0x2E shows ENDED (R350; DESIGN CHOICE, log entry 107). -/
def liveRow (o : LawOut) (ps vs pm vm mr plat : Int) (oc run : Nat) (ended : Bool) : List Byte :=
  o.x.flatMap (fun v => leBytes 2 (uwrap v 16).toNat) ++ leBytes 4 (word32 o.ia) ++ leBytes 2 (uwrap o.g 16).toNat ++ leBytes 2 (uwrap o.u 16).toNat
    ++ leBytes 4 (word32 ps) ++ leBytes 4 (word32 vs) ++ leBytes 4 (word32 pm) ++ leBytes 4 (word32 vm) ++ leBytes 4 (word32 mr)
    ++ leBytes 1 oc ++ leBytes 1 run ++ leBytes 1 (ofBool ended) ++ [0] ++ leBytes 4 (word32 plat) ++ leBytes 12 0

/-- The law of axis `a` with its sample completes (R352 to R355, R361). An uncorrectable word in the axis's records is a miss (R359). -/
def computeAxis (a : Nat) (pm vm tm : Int) (s : State) : State :=
  match cmbRead (axRec a) 0x110 s with
  | (none, s) => missAxis a 1 s
  | (some r, s) => match cmbRead (axLive a) 0x40 s with
    | (none, s) => missAxis a 1 s
    | (some v, s) =>
      let x := cmbAxis s a
      let held := if x.resume.isSome then some (recS v 0x16 2) else none
      let o := if axSrc s a = srcHold then holdLaw r (ints16 v 0 8) (recS v 0x10 4) (leAt v 0x14 2) x.plat pm vm held
        else axisLaw r (ints16 v 0 8) (recS v 0x10 4) (leAt v 0x14 2) x.ps x.vs pm vm tm (axSrc s a = srcChunk) held
      let mr : Int := recS v 0x28 4
      let ob := if bitAt (axCfg r) 3 && x.seen then observe r (s.fld F.CMB_PERIOD_PERUS) x.pp x.vp pm vm mr (leAt v 0x2C 1)
        else (mr, leAt v 0x2C 1, none, 0)
      let s := (s.put (F.CMB_AX_MISS_RUN a) 0).put (F.CMB_AX_STAT_LIM a) (ofBool o.lim)
      let s := flagSat a (o.fl ||| ob.2.2.2) s
      let s := memWrite cmbOid (axLive a) (liveRow o x.ps x.vs pm vm ob.1 x.plat ob.2.1 0 (s.flag (F.CMB_AX_STAT_ENDED a))) s
      let s := match x.resume with
        | some st => cmbEvent 0x7004 0 a st (word32 o.u) 0 s
        | none => s
      let s := modAxis a (fun x => { x with resume := none }) s
      match ob.2.2.1 with
      | some res => if s.flag F.CMB_OBSOVR_OFF then s else faultAxis a 2 (word32 res) s
      | none => s

/-- The first valid sample after a latch gives plat to an axis that leaves STO; under its new source the setpoint of the cycle follows
(R355, R357). -/
def captureSample (a : Nat) (pm : Int) (s : State) : State :=
  if !(cmbAxis s a).wait then s
  else
    let s := modAxis a (fun x => { x with plat := pm, wait := false }) s
    if axSrc s a = srcSto then s else (updateSetpoint (s.cmb.last.getD 0) ([], s) a).2

/-- A sample of axis `a` is in Cambium's inputs (R354, R358, R363): two axis blocks of its SAMPLE frame. A valid sample of an ACTIVE axis is the one
that the observer's next prediction starts from. -/
def axisSample (a : Nat) (blk : List Byte) (s : State) : State :=
  let valid := bitAt (leAt blk 10 2) 0
  let pm := sextN (leAt blk 0 4) 32
  let vm := sextN (leAt blk 4 4) 32
  let s := modAxis a (fun x => { x with valid := valid, done := true }) s
  if !valid then loseAxis a s
  else
    let s := captureSample a pm s
    let s := if axState s a = axLost && bitAt (axCfg (axRecord s a)) 1 then resumeAxis a s else s
    if axState s a ≠ axActive then s
    else modAxis a (fun x => { x with seen := true, pp := pm, vp := vm })
      (if axSrc s a = srcSto then s else computeAxis a pm vm (sextN (leAt blk 8 2) 16) s)

/-- The setpoint that Cambium will use for axis `a` at boundary `ts` (R330). -/
def reference (a ts : Nat) (s : State) : Int × Int :=
  if axSrc s a = srcChunk then
    match axSetpoint a ts s with
    | (some e, _) => (e.p, e.v)
    | (none, _) => (liveS s a 0x18 4, liveS s a 0x1C 4)
  else (liveS s a 0x18 4, liveS s a 0x1C 4)

end Sys2Proof.Machine
end

