-- ==== Sys2Proof/Machine/Heartwood.lean ====
section
/-! DEFINITION. Heartwood: the safe-state sequencer, the Crown restart, the checked-write gate, the watchdogs, the self-tests and the core
pair (R323 to R339, R342, R343), and the four commands of the scheduler that can raise a cause. -/

namespace Sys2Proof.Machine

/-- Heartwood's OID (R31). -/
def hwdOid : Nat := 0x30
/-- First address of the Heartwood private window (R25). -/
def hwdWin : Nat := 0x2024000000
/-- Heartwood's record updated. -/
def State.setHwd (s : State) (x : Hwd) : State := { s with hwd := x }

/-- An event of the safety class (R342). -/
def hwdEvent (code sev a0 a1 a2 a3 : Nat) (s : State) (ctx : Nat := 0) : State :=
  raise { code := code, oid := hwdOid, ctx := ctx, sev := sev, a0 := a0, a1 := a1, a2 := a2, a3 := a3 } s

/-- States of the sequencer (R343). -/
def seqInit : Nat := 0
def seqNormal : Nat := 1
def seqFallback : Nat := 2
def seqStopping : Nat := 3
def seqSto : Nat := 4
def seqRack : Nat := 5

/-- The sequencer's state. -/
def seqState (s : State) : Nat := s.fld F.HWD_STATE_SEQ
/-- The rack configuration (R325). -/
def inRack (s : State) : Bool := s.flag F.HWD_STATE_SPLIT
/-- Is one of the causes 0x06 to 0x0B recorded (R334)? -/
def badSeen (s : State) : Bool := s.fld F.HWD_CAUSES_SEEN &&& 0xFC0 ≠ 0

/-! ### Gate channels (R326, R334, R339) -/

/-- Channel `n` beside its registers. -/
def gateChan (s : State) (n : Nat) : GateChan := spGet {} s.hwd.chans n
/-- The state with channel `n` changed. -/
def setGate (n : Nat) (x : GateChan) (s : State) : State := s.setHwd { s.hwd with chans := spSet {} n x s.hwd.chans }
/-- The doorbell and the return ring of channel `n` in the SIGTGT format. -/
def gateBell (s : State) (n : Nat) : Nat := 6 * 1024 + s.fld (F.HWD_GCH_CFG_DBRING n)
def gateRet (s : State) (n : Nat) : Nat := 6 * 1024 + s.fld (F.HWD_GCH_CFG_RETRING n)

/-- Heartwood reads the doorbell of channel `n`: its pending submissions, compared under R116 (R326); 0 for a read that Bark refuses. -/
def gatePending (n : Nat) (s : State) : Nat × State :=
  match netRingRead (gateBell s n) hwdOid 0 s with
  | (false, s) => (0, s)
  | (true, s) => ((wrap ((ringVal s (gateBell s n) : Int) - (gateChan s n).taken) 32).toNat, s)

/-- `k` return signals of channel `n` (R326, R334). -/
def gateReturn (n : Nat) : Nat → State → State
  | 0, s => s
  | k + 1, s => gateReturn n k (netSignal (gateRet s n) hwdOid 0 1 s).2

/-- The pending submissions of channel `n` are discarded (R334, R339). -/
def gateDiscard (n : Nat) (s : State) : State :=
  match gatePending n s with
  | (0, s) => s
  | (p, s) =>
    let x := gateChan s n
    let s := setGate n { x with taken := x.taken + p } s
    gateReturn n p (hwdEvent 0xA003 1 n p 0 0 s (s.fld (F.HWD_GCH_CFG_CTX n)))

/-- Should the gate be open (R334)? -/
def gateWanted (s : State) : Bool :=
  seqState s = seqNormal || (seqState s = seqFallback && !(s.flag F.HWD_STATE_RESTART) && !(badSeen s))

/-- The gate opens or closes (R334): a closing gate drops what is in progress and discards what is pending; a gate that
reopens after a restart forgets every last SEQ. -/
def gateUpdate (s : State) : State :=
  let want := gateWanted s
  if want = s.flag F.HWD_STATE_GATE then s
  else
    let s := s.put F.HWD_STATE_GATE (ofBool want)
    if want then
      if s.hwd.forget then
        let s := (List.range 4).foldl (fun s n => setGate n { gateChan s n with accepted := false } s) s
        s.setHwd { s.hwd with forget := false }
      else s
    else (List.range 4).foldl (fun s n =>
      let s := setGate n { gateChan s n with sub := none } s
      if s.flag (F.HWD_GCH_CFG_EN n) then gateDiscard n s else s) s

/-! ### The safe-state sequencer (R333, R334, R339) -/

/-- Set the three lines (R323). -/
def setLines (fb stop sto : Bool) (s : State) : State := s.setHwd { s.hwd with fb := fb, stop := stop, sto := sto }

/-- Entry into FALLBACK, STOPPING or STO (R334, R342): `why` is arg0 of STO_COMMANDED. -/
def enterSafe (st cause arg why : Nat) (s : State) : State :=
  let s := ((s.put F.HWD_STATE_SEQ st).put F.HWD_STATE_CAUSE cause).incMod F.HWD_SAFECNT_CNT
  let s := if st = seqFallback then setLines true false false s
    else if st = seqStopping then setLines s.hwd.fb true s.hwd.sto s
    else setLines false false true s
  let s := hwdEvent 0xA001 4 cause st arg (s.fld F.HWD_CAUSES_SEEN) s
  let s := if st = seqSto then hwdEvent 0xA005 4 why cause 0 0 s else s
  gateUpdate s

/-- Is core `k` in re-admission or lost? -/
def coreOut (s : State) (k : Nat) : Bool :=
  s.fld (unitField k) = uLost || s.fld (unitField k) = uSelftest || s.fld (unitField k) = uQuarantine

/-- The Crown restart (R335): the six cores are lost and reset, their rings return to 0 and the scratchpads to HOST, and every core
out of service is re-admitted. -/
def crownRestart (s : State) : State :=
  let s := (s.put F.HWD_STATE_RESTART 1).setHwd { s.hwd with forget := true }
  let s := loseUnits (List.range 6) 0xA001 s
  let s := (List.range 6).foldl (fun s k => s.setCore k {}) s
  let s := { s with regs := s.regs.filter fun e => !(0x100000 ≤ e.1 && e.1 < 0x160000 && 0x1000 ≤ e.1 % 0x10000 && e.1 % 0x10000 < 0x1400) }
  let s := s.setSched { s.sched with owner := s.sched.owner.filter fun e => !(spBase 0 ≤ e.1 * 0x1000 && e.1 * 0x1000 < spBase 6) }
  let s := s.setHwd { s.hwd with left := (List.range 6).filter fun k => coreOut s k }
  (List.range 6).foldl (fun s k => admitUnit k (readmitUnit k s)) s

/-- The path of a failed check unit (R337): 0 GATE, 1 STO, 2 STOPPING. -/
def unitPath (u : Nat) : Nat := if u < 2 then 0 else if u = 2 then 1 else 2

/-- Does the cause lead to STO, to STOPPING, to FALLBACK (R333, R334)? -/
def causeSto (c : HwdCause) : Bool := c.code = 9 || c.code = 0xA || (c.code = 8 && unitPath c.arg = 1)
def causeStopping (c : HwdCause) : Bool := c.code = 6 || c.code = 7 || c.code = 0xB || (c.code = 8 && unitPath c.arg = 2)
def causeFallback (c : HwdCause) : Bool := c.code ≤ 5 || (c.code = 8 && unitPath c.arg = 0)

/-- The cause with the lowest code. -/
def lowestCause : List HwdCause → HwdCause
  | [] => ⟨0, 0⟩
  | c :: l => l.foldl (fun m x => if x.code < m.code then x else m) c

/-- Cambium reports the end of the controlled stop in every group with axes in operation (R334). -/
def allStopped (s : State) : Bool :=
  let l := (axesOn s).filter fun a => axState s a ≠ axOff
  l ≠ [] && l.all fun a => bitAt (s.fld F.CMB_STAT_STOPDONE) (axGroup s a)

/-- The end of the controlled stop leads to STO (R334). -/
def stopCheck (s : State) : State :=
  if seqState s = seqStopping && allStopped s then enterSafe seqSto (s.fld F.HWD_STATE_CAUSE) 0 1 s else s

/-- The sequencer serves the causes it has received (R334, R339). -/
def hwdServe (s : State) : State :=
  let cs := s.hwd.due
  if cs = [] then stopCheck s
  else
    let s := s.setHwd { s.hwd with due := [] }
    let s := s.put F.HWD_CAUSES_SEEN (cs.foldl (fun m c => m ||| 2 ^ c.code) (s.fld F.HWD_CAUSES_SEEN))
    let low := lowestCause cs
    let st := seqState s
    if st = seqRack then s
    else if cs.any causeSto && st ≠ seqSto then enterSafe seqSto low.code low.arg 4 s
    else if cs.any causeStopping && (st = seqNormal || st = seqFallback) then enterSafe seqStopping low.code low.arg 0 s
    else if cs.any causeFallback && st = seqNormal then gateUpdate (crownRestart (enterSafe seqFallback low.code low.arg 0 s))
    else stopCheck (gateUpdate s)

/-- HWD_SAFECMD was written (R333, R334, R339, R504): causes first, then ARM in the resulting state. -/
def safeCmdWritten (data : Nat) (s : State) : State :=
  let s := hwdServe (if bitAt data 0 then hwdDue 5 s else s)
  let ready := s.flag F.SAP_STAT_HWFW && s.flag F.SAP_STAT_ICFG
  if bitAt data 1 && ready && (seqState s = seqInit || (seqState s = seqSto && !(badSeen s))) then enterSafe seqFallback 0 0 0 s
  else s

/-- HOLD_EXPIRY (R334). -/
def execHoldExpiry (s : State) : Ans :=
  let s := hwdServe s
  .next (if seqState s = seqFallback then enterSafe seqStopping (s.fld F.HWD_STATE_CAUSE) 0 0 s else s)

/-- STOPMAX_EXPIRY (R334). -/
def execStopmaxExpiry (s : State) : Ans :=
  let s := hwdServe s
  .next (if seqState s = seqStopping then enterSafe seqSto (s.fld F.HWD_STATE_CAUSE) 0 2 s else s)

/-- The cores in service. -/
def coresInService (s : State) : Nat := (List.range 6).foldl (fun m k => if inService s k then m ||| 2 ^ k else m) 0

/-- CROWN_RESTART_COMPLETE (R335, R343). -/
def execCrownRestartComplete (us : BitVec 32) (s : State) : Ans :=
  let s := hwdServe s
  if s.flag F.HWD_STATE_RESTART && s.hwd.left = [] then
    let s := (s.put F.HWD_STATE_RESTART 0).put F.HWD_RESTART_DUR (min us.toNat 0xFFFF)
    .next (gateUpdate (hwdEvent 0xA007 1 (coresInService s) us.toNat 0 0 s))
  else .next s

/-- CROWN_RESTART_TIMEOUT (R335): 40 ms have passed. -/
def execCrownRestartTimeout (us : BitVec 32) (s : State) : Ans :=
  let s := hwdServe s
  .next (if s.flag F.HWD_STATE_RESTART && s.hwd.left ≠ [] then hwdEvent 0xA008 3 (coresInService s) us.toNat 0 0 s else s)

/-! ### The gate (R326 to R331) -/

/-- AXMAP of channel `n`. -/
def gateAxmap (s : State) (n : Nat) : Nat :=
  (List.range 4).foldl (fun m w => m + (s.reg (Reg.HWD_GCH_AXMAP n w)).toNat * 2 ^ (32 * w)) 0

/-- A write that sets EN of channel `n` while its AXMAP shares an axis with an enabled channel is refused (R343). -/
def gateEnLocked (s : State) (n : Nat) : Bool :=
  (List.range 4).any fun m => m ≠ n && s.flag (F.HWD_GCH_CFG_EN m) && decide (gateAxmap s n &&& gateAxmap s m ≠ 0)

/-- EN of channel `n` was set (R326, R343): the submission count and the implausible count start again. -/
def gateEnabled (n : Nat) (s : State) : State := setGate n {} s

/-- The address of the buffer of the `k`-th submission of channel `n` (R326). -/
def gateSource (s : State) (n k : Nat) : Nat :=
  s.fld (F.HWD_GCH_SRC_LO_ADDR_LO n) * 2 ^ 16 + s.fld (F.HWD_GCH_SRC_HI_ADDR_HI n) * 2 ^ 32 + 0x10000 * (k % 2)

/-- Does a range lie in Canopy or in the populated part of a scratchpad (R326)? -/
def gateSourceOk (a n : Nat) : Bool :=
  (List.range ((a + n - 1) / 0x1000 + 1 - a / 0x1000)).all fun i =>
    match place ((a / 0x1000 + i) * 0x1000) with
    | some (.canopy _) => true
    | some (.scratch _ _) => true
    | _ => false

/-- Are the pages of a range owned by context `c` (R329)? -/
def pagesOwned (s : State) (c a n : Nat) : Bool :=
  (List.range ((a + n - 1) / 0x1000 + 1 - a / 0x1000)).all fun i => ownerOf s (a / 0x1000 + i) = c

/-- Bytes of a chunk by its header (R327). -/
def chunkSize (h : List Byte) : Nat := 64 + 8 * leAt h 2 2 * bitsBelow (leAt h 32 16) 128

/-- The next submission of channel `n` is copied and its return signalled (R326). A source that cannot be read gives an empty copy. -/
def takeSubmission (n : Nat) (s : State) : State :=
  let x := gateChan s n
  let a := gateSource s n x.taken
  let len := min (chunkSize (s.bytes a 64)) 65536
  let ok := gateSourceOk a len
  let owned := ok && pagesOwned s (s.fld (F.HWD_GCH_CFG_CTX n)) a len
  let r := if ok then nocRead hwdOid 0 a len s else (none, s)
  let s := setGate n { x with taken := x.taken + 1, sub := some { raw := r.1.getD [], owned := owned } } r.2
  gateReturn n 1 s

/-- GATE_SUBMISSION (R326, R334, R339): the doorbell is read; a pending submission is copied, or discarded while the gate is closed. -/
def execGateSubmission (ch : Fin 4) (s : State) : Ans :=
  let s := hwdServe s
  let n : Nat := ch
  if inRack s || s.hwd.stopped || !(s.flag (F.HWD_GCH_CFG_EN n)) then .next s
  else if !(s.flag F.HWD_STATE_GATE) then .next (gateDiscard n s)
  else if (gateChan s n).sub.isSome then .next s
  else match gatePending n s with
    | (0, s) => .next s
    | (_, s) => .next (takeSubmission n s)

/-- The axis record of axis `a` (R328). -/
def hwdAxis (s : State) (a : Nat) : List Byte := spGet [] s.hwd.axrec a

/-- Check 1 fails (R329). -/
def formatBad (s : State) (n : Nat) (x : GateSub) : Bool :=
  let h := x.raw
  let p := s.fld F.CMB_PERIOD_PERUS
  let nstep := leAt h 2 2
  let step := leAt h 16 4
  let map := leAt h 32 16
  let axOk (a : Nat) : Bool := !(bitAt map a) || (bitAt (gateAxmap s n) a && bitAt (leAt (hwdAxis s a) 28 1) 7)
  leAt h 21 3 ≠ 0 || leAt h 28 4 ≠ 0 || leAt h 48 16 ≠ 0 || leAt h 0 2 ≠ 1 || nstep < 1 || 8184 < nstep || 65536 < chunkSize h
    || map = 0 || !((List.range 128).all axOk) || step ≠ s.fld (F.HWD_GCH_STEP_STEPUS n) || step % p ≠ 0 || step < p || 40 * p < step
    || !(onBoundary s (completeTime s.ns (leAt h 8 8))) || !x.owned

/-- TIME of the frame record for (STREAM, FCNT) with STATUS 0x01 in ns (R329). -/
def frameTime (s : State) (stream fcnt : Nat) : Option Nat :=
  ((spGet [] s.frameTab stream).reverse.find? fun f => f.fcnt = fcnt && f.status = 1).map fun f => completeTime s.ns f.time

/-- The commit bound W of R330 in units of 2^-16 ns, for a chunk of `b` bytes with `p` points. -/
def commitBound (b p : Nat) : Nat := (9600 + 5 * ((b + 31) / 32 + 12 * p + (8 * p + 31) / 32)) * 2 ^ 15

/-- The take-over cycle `ts` in ns and the switch step `s` of a chunk (R330). -/
def switchStep (s : State) (h : List Byte) : Nat × Nat :=
  let t1 := completeTime s.ns (leAt h 8 8)
  let step := leAt h 16 4 * 1000
  let due := s.time + commitBound (chunkSize h) (leAt h 2 2 * bitsBelow (leAt h 32 16) 128)
  let k := if due ≤ t1 * 65536 then 0 else (due - t1 * 65536 + step * 65536 - 1) / (step * 65536)
  (t1 + k * step, k)

/-- A failed check (R329, R342): its number, axis, step and the value reported. -/
structure GateFault where
  check : Nat
  axis : Nat := 0
  step : Nat := 0
  value : Int := 0
  deriving DecidableEq, Repr

/-- Checks 6 and 7 at one point (R329): position and velocity now, and at the step before. -/
def pointBad (r : List Byte) (a k : Nat) (pos vel : Int) (prev : Option (Int × Int)) : Option GateFault :=
  if pos < leAtS r 0 || leAtS r 4 < pos then some ⟨6, a, k, pos⟩
  else if leAt r 8 4 < vel.natAbs then some ⟨6, a, k, vel⟩
  else match prev with
    | none => none
    | some (p, v) =>
      if leAt r 12 4 < (pos - p).natAbs then some ⟨7, a, k, pos - p⟩
      else if leAt r 16 4 < (vel - v).natAbs then some ⟨7, a, k, vel - v⟩
      else none

/-- The first failing point of checks 6 to 8 (R329). -/
def pointFault (s : State) (h : List Byte) (ts sw : Nat) : Option GateFault :=
  let axes := (List.range 128).filter fun a => bitAt (leAt h 32 16) a
  let na := axes.length
  let pos (k i : Nat) : Int := leAtS h (64 + 8 * (k * na + i))
  let vel (k i : Nat) : Int := leAtS h (68 + 8 * (k * na + i))
  let env := (List.range (leAt h 2 2)).findSome? fun k => (List.range na).findSome? fun i =>
    let a := axes.getD i 0
    pointBad (hwdAxis s a) a k (pos k i) (vel k i) (if k = 0 then none else some (pos (k - 1) i, vel (k - 1) i))
  match env with
  | some f => some f
  | none => (List.range na).findSome? fun i =>
    let a := axes.getD i 0
    let r := hwdAxis s a
    let e := reference a ts s
    if leAt r 20 4 < (pos sw i - e.1).natAbs then some ⟨8, a, sw, pos sw i - e.1⟩
    else if leAt r 24 4 < (vel sw i - e.2).natAbs then some ⟨8, a, sw, vel sw i - e.2⟩
    else none

/-- The checks of R329 in order: the fault, or the take-over cycle and the switch step. -/
def gateChecks (s : State) (n : Nat) (x : GateSub) : GateFault ⊕ (Nat × Nat) :=
  let h := x.raw
  if formatBad s n x then .inl ⟨1, 0, 0, 0⟩
  else if (gateChan s n).accepted && wrap ((leAt h 4 4 : Int) - s.fld (F.HWD_GCH_LASTSEQ_SEQ n)) 32 ≤ 0 then .inl ⟨2, 0, 0, 0⟩
  else match frameTime s (leAt h 20 1) (leAt h 24 4) with
    | none => .inl ⟨3, 0, 0, 0⟩
    | some tf =>
      if tf * 65536 + s.fld F.HWD_GATECFG_AGEMAX * 1000 * 65536 < s.time || completeTime s.ns (leAt h 8 8) < tf then .inl ⟨4, 0, 0, 0⟩
      else
        let w := switchStep s h
        if leAt h 2 2 ≤ w.2 then .inl ⟨5, 0, 0, 0⟩
        else match pointFault s h w.1 w.2 with
          | some f => .inl f
          | none => .inr w

/-- A rejected chunk (R329, R342): IMPLIM consecutive implausible ones are cause 0x01. -/
def rejectChunk (n : Nat) (x : GateSub) (f : GateFault) (s : State) : State :=
  let c := gateChan s n
  let imp := if 6 ≤ f.check then c.imp + 1 else c.imp
  let s := (setGate n { c with sub := none, imp := imp } s).incMod F.HWD_REJECT_CNT
  let s := hwdEvent 0xA002 1 (n + f.check * 2 ^ 8) (leAt x.raw 4 4) (f.axis + f.step * 2 ^ 8) (word32 f.value) s (s.fld (F.HWD_GCH_CFG_CTX n))
  if 6 ≤ f.check && max (s.fld F.HWD_SAFECFG_IMPLIM) 1 ≤ imp then hwdDue 1 s n else s

/-- GATE_CHECK (R324, R329, R330): checks 1 to 8 of the submission in progress, the first five by the firmware. -/
def execGateCheck (ch : Fin 4) (s : State) : Ans :=
  let s := hwdServe s
  let n : Nat := ch
  match (gateChan s n).sub with
  | none => .next s
  | some x =>
    if x.ready.isSome || s.hwd.stopped then .next s
    else match gateChecks s n x with
      | .inl f => .next (hwdServe (rejectChunk n x f s))
      | .inr w => .next (setGate n { gateChan s n with sub := some { x with ready := some w } } s)

/-- The bytes of Cambium's buffer for a chunk from step `sw` on (R331, R349). -/
def bufferBytes (h : List Byte) (ts sw : Nat) : List Byte :=
  let na := bitsBelow (leAt h 32 16) 128
  let n := leAt h 2 2 - sw
  leBytes 8 (recTime ts) ++ leBytes 2 n ++ [0, 0] ++ leBytes 4 (leAt h 16 4) ++ leBytes 16 (leAt h 32 16) ++ leBytes 4 (leAt h 4 4)
    ++ List.replicate 28 0 ++ ((h.drop (64 + 8 * sw * na)).take (8 * n * na))

/-- GATE_COMMIT (R330, R331, R334): an accepted chunk becomes visible to Cambium, when T1 < ts no earlier than the boundary before ts. -/
def execGateCommit (ch : Fin 4) (us : BitVec 32) (s : State) : Ans :=
  let s := hwdServe s
  let n : Nat := ch
  let c := gateChan s n
  match c.sub with
  | none => .next s
  | some x => match x.ready with
    | none => .next s
    | some (ts, sw) =>
      if s.hwd.stopped || (sw ≠ 0 && s.time + periodNs s * 65536 < ts * 65536) then .next s
      else
        let seq := leAt x.raw 4 4
        let base := pendBuf s n
        let bs := bufferBytes x.raw ts sw
        let s := noteCmbWrite base bs.length (nocWrite hwdOid 0 base bs s).2
        let s := (commitChannel n s).incMod F.HWD_ACCEPT_CNT
        let s := s.put (F.HWD_GCH_LASTSEQ_SEQ n) seq
        let s := setGate n { c with sub := none, imp := 0, accepted := true } s
        if seqState s = seqFallback then
          let s := setLines false s.hwd.stop s.hwd.sto (s.put F.HWD_STATE_SEQ seqNormal)
          .next (gateUpdate (hwdEvent 0xA004 1 n seq us.toNat 0 s))
        else .next s

/-! ### Watchdogs (R332) -/

/-- A kick with this key, `ns` after the previous one by Heartwood's clock (R332). -/
def kickWritten (key ns : Nat) (s : State) : State :=
  let early := s.hwd.kicked && ns < s.fld F.HWD_WDG_WMIN * 1000
  let late := s.hwd.kicked && s.fld F.HWD_WDG_WMAX * 1000 ≤ ns
  let wrong := key ≠ (if s.hwd.keyAlt then 0x3C3C else 0xC3C3)
  let s := s.setHwd { s.hwd with kicked := true, keyAlt := !s.hwd.keyAlt }
  if early || late || wrong then hwdServe (hwdDue 7 s) else s

/-- KICK (R332, R324, R325, R339): the firmware's write to HWD_KICK; a pair that has stopped writes nothing. -/
def execKick (key : BitVec 16) (ns : BitVec 32) (s : State) : Ans :=
  let s := hwdServe s
  if s.hwd.stopped then .next s
  else if inRack s then .next (accessEvent 0x3001 hwdOid 0 (regBase + Reg.HWD_KICK) 4 true 0 key.toNat 0 1 s)
  else .next (kickWritten key.toNat ns.toNat s)

/-- KICK_TIMEOUT (R332): WMAX has passed since the last kick. -/
def execKickTimeout (s : State) : Ans :=
  let s := hwdServe s
  .next (if s.hwd.kicked && !(inRack s) then hwdServe (hwdDue 7 s) else s)

/-- The earliest last step of the chunks in force, in ns. -/
def lastInForce (s : State) : Option Nat :=
  (((List.range 4).filter fun n => bitAt (s.fld F.CMB_CHSTAT_ACTIVE) n).map fun n => completeTime s.ns (s.reg64 (Reg.CMB_CH_LAST_LO n))).min?

/-- HORIZON_EXPIRY (R332): in NORMAL, the chunk in force ends less than HORIZMIN ahead. -/
def execHorizonExpiry (s : State) : Ans :=
  let s := hwdServe s
  match lastInForce s with
  | none => .next s
  | some t =>
    .next (if seqState s = seqNormal && t * 65536 < s.time + s.fld F.HWD_GATECFG_HORIZMIN * 1000 * 65536 then hwdServe (hwdDue 2 s) else s)

/-- Has Cambium completed no joint cycle within 2 periods plus 10 µs (R332)? -/
def heartbeatLate (s : State) : Bool := s.passed s.hwd.beat (2 * s.fld F.CMB_PERIOD_PERUS + 10)

/-- HEARTBEAT_TIMEOUT (R332, R334, R346): in every state but RACK. -/
def execHeartbeatTimeout (s : State) : Ans :=
  let s := hwdServe s
  .next (if seqState s = seqRack || !(heartbeatLate s) then s else hwdServe (hwdDue 9 s))

/-! ### Self-tests and the pair (R324, R325, R337, R338) -/

/-- The test-tagged loopback that a unit's test sends is acknowledged (R337, R357, R378): by Cambium for U2, by the root links for U3. -/
def testLoopback (u : Nat) (s : State) : State :=
  if u = 2 then pulseLine .acknowledge s else if u = 3 then pulseLine .linkAcknowledge s else s

/-- SELF_TEST_TICK (R337): the next check unit is tested. -/
def execSelfTestTick (ok : Bool) (expected obtained : BitVec 32) (s : State) : Ans :=
  let s := hwdServe s
  if inRack s then .next s
  else
    let u := s.hwd.nextUnit
    let s := s.setHwd { s.hwd with nextUnit := (u + 1) % 8 }
    .next (if ok then testLoopback u s else hwdServe (hwdDue 8 (hwdEvent 0xA006 4 u expected.toNat obtained.toNat 0 s) u))

/-- The signature of copy `k` with slice `j` (R338). -/
def pairSignature (s : State) (k j : Nat) (regs : List (BitVec 32)) : Nat :=
  crc32c (regs.flatMap (fun r => leBytes 4 r.toNat) ++ s.bytes (hwdWin + 0x80000 * k + 0x1000 * j) 0x1000)

/-- SIGNATURE_CHECK (R338). -/
def execSignatureCheck (r0 r1 : List (BitVec 32)) (s : State) : Ans :=
  let s := hwdServe s
  if inRack s then .next s
  else
    let j := s.hwd.slice
    let a := pairSignature s 0 j r0
    let b := pairSignature s 1 j r1
    let s := s.setHwd { s.hwd with slice := (j + 1) % 128 }
    .next (if a = b then s else hwdEvent 0xB102 1 j a b 0 s)

/-- HWD_PAIR_TRANSACTION (R324): copies that differ stop the pair; the cycle count of the event is free. -/
def execHwdPairTransaction (port : BitVec 8) (differ : Bool) (s : State) : Ans :=
  let s := hwdServe s
  if inRack s || s.hwd.stopped || !differ then .next s
  else
    let f := s.freeNat
    let s := f.2.setHwd { f.2.hwd with stopped := true }
    .next (hwdServe (hwdDue 6 (hwdEvent 0xB101 4 port.toNat (f.1 % 2 ^ 32) 0 0 s)))

/-! ### Scheduler commands that can raise a cause (R269, R270, R273) -/

/-- DEADLINE_REACHED (R269, R333). -/
def execDeadlineReached (ctx : BitVec 6) (s : State) : Ans := .next (hwdServe (deadlineReached ctx.toNat s))

/-- JOB_SEAL (R270). -/
def execJobSeal (unit : Fin 7) (s : State) : Ans := .next (hwdServe (sealJob unit s))

/-- SEALWAIT_EXPIRY (R290, R292). -/
def execSealwaitExpiry (unit : Fin 7) (s : State) : Ans := .next (hwdServe (sealExpiry unit s))

/-- STOP_LIMIT_EXPIRY (R273). -/
def execStopLimitExpiry (unit : Fin 7) (s : State) : Ans := .next (hwdServe (stopExpiry unit s))

end Sys2Proof.Machine
end

