-- ==== Sys2Proof/Machine/RootLinks.lean ====
section
/-! DEFINITION. The root links: frames, enumeration, schedule, samples, commands, management, breaks and rejoins (R368 to R389), and the
joint cycle that they share with Cambium (R346, R357, R363). -/

namespace Sys2Proof.Machine

/-- OID of the root links (R368). -/
def rlkOid : Nat := 0x32
/-- Port `p` beside its registers. -/
def rlkPort (s : State) (p : Nat) : RlkPort := spGet {} s.rlk p
/-- The state with port `p` changed. -/
def modPort (p : Nat) (f : RlkPort → RlkPort) (s : State) : State := { s with rlk := spSet {} p (f (rlkPort s p)) s.rlk }

/-- An event of the links class (R387). -/
def rlkEvent (code sev a0 a1 a2 a3 : Nat) (s : State) : State :=
  raise { code := code, oid := rlkOid, sev := sev, a0 := a0, a1 := a1, a2 := a2, a3 := a3 } s

/-- Port states (R380, R388). -/
def rlkDisabled : Nat := 0
def rlkTrain : Nat := 1
def rlkEnum : Nat := 2
def rlkUp : Nat := 3

/-- State and reach of a port. -/
def portState (s : State) (p : Nat) : Nat := s.fld (F.RLK_P_STAT_STATE p)
def portReach (s : State) (p : Nat) : Nat := s.fld (F.RLK_P_STAT_REACH p)
/-- The ports. -/
def rlkPorts : List Nat := List.range 16
/-- Idle blocks between frames (R388). -/
def rlkGap (s : State) : Nat := max (s.fld F.RLK_GAP_GAP) 1
/-- A block in units of 0.1 ns (R368). -/
def rlkTb : Nat := 132

/-! ### Blocks (R368, R369) -/

/-- A control block of a type, and a data block, of 8 bytes: byte 0 goes out first, each byte from its least significant bit. -/
def controlBlock (typ : Nat) (bs : List Byte) : LineBlock := ⟨2, BitVec.ofNat 64 (leNat (BitVec.ofNat 8 typ :: bs))⟩
def dataBlock (bs : List Byte) : LineBlock := ⟨1, BitVec.ofNat 64 (leNat bs)⟩
/-- An IDLE block. -/
def idleBlock : LineBlock := controlBlock 0x1E []

/-- The data bytes in blocks of 8. -/
def dataBlocks (data : List Byte) : List LineBlock := (List.range (data.length / 8)).map fun i => dataBlock ((data.drop (8 * i)).take 8)

/-- The blocks of a frame (R369, R370): SOF with the header, data, EOF with the CRC. -/
def frameBlocks (hdr data : List Byte) : List LineBlock :=
  controlBlock 0x78 hdr :: dataBlocks data ++ [controlBlock 0xB4 (leBytes 4 (crc32c (hdr ++ data)))]

/-- The payload of line blocks, as the self-synchronising descrambler 1 + x^39 + x^58 gives it (R368): each bit is the line bit combined with those
39 and 58 places before it; `pre` holds the 58 line bits before the first block. -/
def descramble : Nat → List LineBlock → List LineBlock
  | _, [] => []
  | pre, b :: l =>
    let w := pre + b.bits.toNat * 2 ^ 58
    ⟨b.sync, BitVec.ofNat 64 ((w >>> 58) ^^^ (w >>> 19) ^^^ w)⟩ :: descramble (w / 2 ^ 64) l

/-- What a descrambled block is (R369). -/
inductive BlockKind where
  | data (bs : List Byte)
  | idle
  | sof (hdr : List Byte)
  | eof (bs : List Byte)
  | brk (hop reason : Nat)
  | restore (hop : Nat)
  | invalid
  deriving DecidableEq, Repr

/-- The kind of a block (R368, R369): any other sync header or type makes it invalid. -/
def blockKind (b : LineBlock) : BlockKind :=
  let bs := leBytes 8 b.bits.toNat
  if b.sync = 1 then .data bs
  else if b.sync ≠ 2 then .invalid
  else match leAt bs 0 1 with
    | 0x1E => .idle
    | 0x78 => .sof (bs.drop 1)
    | 0xB4 => .eof (bs.drop 1)
    | 0x4B => .brk (leAt bs 1 1) (leAt bs 2 1)
    | 0x4C => .restore (leAt bs 1 1)
    | _ => .invalid

/-- Does lock end, or are there too many invalid blocks: some 64 consecutive blocks hold `n` for which `p` holds (R368, R380)? -/
def window64 (n : Nat) (p : LineBlock → Bool) : List LineBlock → Bool
  | [] => false
  | b :: l => decide (n ≤ ((b :: l).take 64).countP p) || window64 n p l

/-- A received frame: SOF bytes 1 to 7, data bytes, EOF bytes 1 to 7, and whether a block in it was invalid or stood where it may not. -/
structure RxFrame where
  hdr : List Byte
  data : List Byte := []
  eof : List Byte := []
  bad : Bool := false
  deriving DecidableEq, Repr

/-- What a port has received: the frame, the breaks in order, the invalid blocks. -/
structure Rx where
  frame : Option RxFrame := none
  breaks : List (Nat × Nat) := []
  invalid : Nat := 0
  deriving DecidableEq, Repr

/-- A port takes the next block (R369, R370): BREAK and RESTORE are removed from the frame in which they stand; `isOpen` says whether a frame is begun. -/
def rxBlock (isOpen : Bool) (k : BlockKind) (r : Rx) : Bool × Rx :=
  let spoil : Rx := { r with frame := r.frame.map fun f => { f with bad := true } }
  match k with
  | .brk h n => (isOpen, { r with breaks := r.breaks ++ [(h, n)] })
  | .restore _ => (isOpen, r)
  | .invalid => (isOpen, { (if isOpen then spoil else r) with invalid := r.invalid + 1 })
  | .sof h => if isOpen then (true, spoil) else if r.frame.isSome then (false, r) else (true, { r with frame := some { hdr := h } })
  | .data bs => (isOpen, if isOpen then { r with frame := r.frame.map fun f => { f with data := f.data ++ bs } } else r)
  | .eof bs => (false, if isOpen then { r with frame := r.frame.map fun f => { f with eof := bs } } else r)
  | .idle => (isOpen, if isOpen then spoil else r)

/-- The blocks in turn; a frame without an end is bad. -/
def rxBlocks : Bool → List BlockKind → Rx → Rx
  | true, [], r => { r with frame := r.frame.map fun f => { f with bad := true } }
  | false, [], r => r
  | o, k :: l, r => let x := rxBlock o k r; rxBlocks x.1 l x.2

/-- What the blocks of a receive command hold (R368 to R370). -/
def received (f : RlkFrame) : Rx := rxBlocks false ((descramble f.pre.toNat f.blocks).map blockKind) {}

/-! ### Frames (R370, R371) -/

/-- Blocks leave a port. -/
def sendBlocks (p kind : Nat) (l : List LineBlock) (s : State) : State := s.emit (.rlk p kind l)

/-- SOF bytes 1 to 7 of a frame that is sent now (R370). -/
def frameHeader (s : State) (ftype addr len : Nat) : List Byte :=
  [BitVec.ofNat 8 ftype, BitVec.ofNat 8 addr, BitVec.ofNat 8 s.cmb.cycle, BitVec.ofNat 8 len, 0, 0, 0]

/-- A frame leaves a port (R370). -/
def sendFrame (p ftype addr : Nat) (data : List Byte) (s : State) : State :=
  sendBlocks p ftype (frameBlocks (frameHeader s ftype addr (data.length / 8)) data) s

/-- A STO frame (R378). -/
def sendSto (p : Nat) (s : State) : State := sendFrame p 5 0x80 [] s
/-- An MGMT frame to station `k` (R379). -/
def sendMgmt (p k reg : Nat) (wr : Bool) (data : Nat) (s : State) : State :=
  sendFrame p 4 k (leBytes 1 reg ++ leBytes 1 (ofBool wr) ++ List.replicate 6 0 ++ leBytes 8 data) s

/-- FTYPE and hop index of a received header. -/
def frameType (f : RxFrame) : Nat := leAt f.hdr 0 1
def frameHop (f : RxFrame) : Nat := leAt f.hdr 1 1 % 8

/-- Is a byte of a SAMPLE or STATUS block reserved, and in which bits (R374, R375, R379)? -/
def dataReserved (ftype i : Nat) : Nat :=
  if ftype = 2 then
    if i = 0 then 0xE0 else if i = 1 || i = 3 || i = 6 || i = 7 then 0xFF
    else if i < 8 then 0
    else if i % 16 = 2 then 0x20 else if i % 16 = 3 || (4 ≤ i % 16 && i % 16 < 8) then 0xFF else 0
  else if i = 1 then 0xFE else if 3 ≤ i && i < 8 then 0xFF else 0

/-- Is a received frame whole: valid blocks, CRC, LEN and reserved fields (R370)? -/
def frameOk (f : RxFrame) : Bool :=
  !f.bad && decide (crc32c (f.hdr ++ f.data) = leAt f.eof 0 4) && decide (leAt f.eof 4 3 = 0) && decide (8 * leAt f.hdr 3 1 = f.data.length)
    && decide (leAt f.hdr 1 1 / 8 % 16 = 0) && decide (leAt f.hdr 4 1 ≤ 1) && decide (leAt f.hdr 5 2 = 0)
    && (List.range f.data.length).all (fun i => (f.data.getD i 0).toNat &&& dataReserved (frameType f) i = 0)
    && (frameType f ≠ 2 || decide (leAt f.hdr 3 1 = 1 + 2 * leAt f.data 2 1)) && (frameType f ≠ 6 || decide (leAt f.hdr 3 1 = 2))

/-- A discarded frame is counted and reported at most once in 1,000 cycles (R370, R387). -/
def frameError (p : Nat) (f : RxFrame) (s : State) : State :=
  let s := s.incHold (F.RLK_P_ERR_CRC p)
  let x := rlkPort s p
  if x.errAt ≠ 0 && s.cmb.cycle + 1 < x.errAt + 1000 then s
  else rlkEvent 0x8004 0 p (if f.bad then 0xFF else frameHop f) (if f.bad then 0 else frameType f) (s.fld (F.RLK_P_ERR_CRC p))
    (modPort p (fun x => { x with errAt := s.cmb.cycle + 1 }) s)

/-! ### Port states and losses (R380, R383) -/

/-- Heartwood holds the root links at safe torque-off (R325, R378): its line is asserted, or the sequencer is in RACK. -/
def stoHeld (s : State) : Bool := s.hwd.sto || inRack s

/-- RLK_STAT shows the ports in UP and whether STO frames are sent (R388). -/
def showPorts (s : State) : State :=
  let up := rlkPorts.foldl (fun m p => if portState s p = rlkUp then m ||| 2 ^ p else m) 0
  let tx := stoHeld s && rlkPorts.any fun p => portState s p = rlkUp || portState s p = rlkEnum
  (s.put F.RLK_STAT_UP up).put F.RLK_STAT_STOTX (ofBool tx)

/-- A management exchange ends (R379). -/
def endExchange (p : Nat) (ok : Bool) (s : State) : State :=
  let s := modPort p (fun x => { x with mg := 0 }) (s.put (F.RLK_P_MGSTAT_BUSY p) 0)
  if ok then s.put (F.RLK_P_MGSTAT_DONE p) 1 else s.put (F.RLK_P_MGSTAT_FAIL p) 1

/-- A port enters a state other than UP: no cycle, no rejoin, no exchange. -/
def leaveUp (p st : Nat) (s : State) : State :=
  let s := if (rlkPort s p).mg ≠ 0 then endExchange p false s else s
  let s := modPort p (fun x => { x with got := [], closed := false, released := false, rejoin := none, toldTopo := false, toldSched := false }) s
  showPorts (s.put (F.RLK_P_STAT_STATE p) st)

/-- The enabled axes of station `k` of port `p`. -/
def stationAxes (s : State) (p k : Nat) : List Nat := (axesOn s).filter fun a => (axPlace s a).1 = p && (axPlace s a).2.1 = k

/-- Station `k` of port `p` is lost: its axes too (R361, R376, R383). -/
def loseStation (p k : Nat) (s : State) : State :=
  let s := modPort p (fun x => { x with got := x.got.filter fun e => e.1 ≠ k }) (s.put (F.RLK_P_S_STAT_LOST p k) 1)
  (stationAxes s p k).foldl (fun s a => loseAxis a (modAxis a (fun x => { x with valid := false }) s)) s

/-- Every reachable station of a port is lost. -/
def losePort (p : Nat) (s : State) : State :=
  ((List.range (portReach s p)).foldl (fun s k => loseStation p k s) s).put (F.RLK_P_STAT_REACH p) 0

/-- EN of a port, or of the block, was written (R380, R388). -/
def portWritten (p : Nat) (s : State) : State :=
  let on := s.flag F.RLK_CTRL_EN && s.flag (F.RLK_P_CFG_EN p)
  if !on && portState s p ≠ rlkDisabled then sendBlocks p 0 [idleBlock] (sendSto p (leaveUp p rlkDisabled (losePort p s)))
  else if on && portState s p = rlkDisabled then sendBlocks p 0 [idleBlock] (leaveUp p rlkTrain s)
  else s

/-- The receive link of a port in UP has lost lock, or has carried too many invalid blocks (R380, R387). -/
def portDown (p : Nat) (lost errors : Bool) (s : State) : State :=
  if portState s p ≠ rlkUp || !(lost || errors) then s
  else
    let r := portReach s p
    let s := (losePort p s).incHold (F.RLK_P_LOSS_BREAKS p)
    leaveUp p rlkTrain (rlkEvent 0x8001 1 p (ofBool lost + 2 * ofBool errors) r 0 s)

/-- LINK_LOCK_LOST (R380). -/
def execLinkLockLost (port : Fin 16) (lost errors : Bool) (s : State) : Ans := .next (portDown port lost errors s)

/-! ### Schedule and enumeration (R373, R376, R381, R382) -/

/-- What the schedule of R376 needs of a station: NAX, TCONV in ns, d in 0.1 ns. -/
structure StationFig where
  nax : Nat
  tconv : Nat
  d : Nat
  deriving DecidableEq, Repr

/-- The schedule of a port (R373, R376, R382), in 0.1 ns: ts and close after the boundary, TXO by station, the time the cycle needs. -/
structure RlkPlan where
  ts : Nat
  close : Int
  txo : List Int
  need : Int
  deriving DecidableEq, Repr

/-- The starts s(k) of the upstream frames (R376). -/
def frameStarts (g : Nat) : Nat → List StationFig → List Nat
  | _, [] => []
  | t, x :: l => t :: frameStarts g (t + (2 * x.nax + 3 + g) * rlkTb) l

/-- The schedule of R376 for the stations of a port. -/
def rlkPlan (g : Nat) (l : List StationFig) : RlkPlan :=
  let last := (l.getLast?.map (·.d)).getD 0
  let ts := 3 * rlkTb + last
  let st := frameStarts g 0 l
  let c := l.foldl (fun m x => max m x.tconv) 0 * 10
  let diff := (l.zip st).map fun e => (e.1.d : Int) - e.2
  let a0 : Int := ts + c + (diff.max?.getD 0)
  let lLast := (l.getLast?.map (fun x => 2 * x.nax + 3)).getD 0
  let close := a0 + st.getLast?.getD 0 + ((lLast + 4) * rlkTb : Nat)
  let train := l.foldl (fun t x => t + (x.nax + 3) * rlkTb) 0 + (l.length - 1) * g * rlkTb
  ⟨ts, close, (l.zip st).map fun e => a0 + e.2 - e.1.d - ts, close + 7500 + train + last + 20000⟩

/-- The figures that the registers hold of the first `n` stations (R389). -/
def stationFigs (s : State) (p n : Nat) : List StationFig :=
  (List.range n).map fun k => ⟨s.fld (F.RLK_P_S_CFG_NAX p k), s.fld (F.RLK_P_S_CFG_TCONV p k), s.fld (F.RLK_P_S_STAT_DLY p k)⟩

/-- Steps 2 and 3 of R381: the reads and writes of every station, and its registers here (R389). -/
def measureStations (p : Nat) (l : List RlkStation) (s : State) : State :=
  let figs := l.map fun x => (⟨x.nax.toNat, x.tconv.toNat, x.dly.toNat⟩ : StationFig)
  let plan := rlkPlan (rlkGap s) figs
  let last := (figs.getLast?.map (·.d)).getD 0
  let s := (List.range l.length).foldl (fun s k => sendMgmt p k 1 false 0 (sendMgmt p k 0 false 0 s)) s
  (List.range l.length).foldl (fun s k =>
    match l[k]? with
    | none => s
    | some x =>
      let s := sendMgmt p k 2 true (plan.txo.getD k 0).toNat s
      let s := sendMgmt p k 3 true (last - x.dly.toNat) s
      let s := sendMgmt p k 4 true k s
      let s := s.setReg64 (Reg.RLK_P_S_ID_LO p k) x.id.toNat
      let s := (s.put (F.RLK_P_S_CFG_NAX p k) x.nax.toNat).put (F.RLK_P_S_CFG_TCONV p k) x.tconv.toNat
      s.put (F.RLK_P_S_STAT_DLY p k) x.dly.toNat) s

/-- Step 4 of R381: an identity that differs from the one recorded is reported; the new ones are recorded. -/
def checkIds (p : Nat) (l : List RlkStation) (s : State) : State :=
  let old := (rlkPort s p).ids
  let s := (List.range l.length).foldl (fun s k =>
    match l[k]?, old[k]? with
    | some x, some i => if i = x.id.toNat then s else rlkEvent 0x8005 3 p l.length (s.fld (F.RLK_P_CFG_NSTM1 p) + 1) k s
    | _, _ => s) s
  modPort p (fun x => { x with ids := l.map (fun e => e.id.toNat) ++ old.drop l.length }) s

/-- Does the cycle of the first `n` stations fit the period (R382)? The time needed in ns. -/
def cycleNeed (s : State) (p n : Nat) : Nat := ((rlkPlan (rlkGap s) (stationFigs s p n)).need.toNat + 9) / 10
def cycleFits (s : State) (p n : Nat) : Bool := (rlkPlan (rlkGap s) (stationFigs s p n)).need ≤ periodNs s * 10

/-- The schedule of `n` stations is in force: reach, close, no station lost. -/
def installPlan (p n : Nat) (s : State) : State :=
  let s := (s.put (F.RLK_P_STAT_REACH p) n).put (F.RLK_P_CLOSE_T p) (rlkPlan (rlkGap s) (stationFigs s p n)).close.toNat
  (List.range n).foldl (fun s k => s.put (F.RLK_P_S_STAT_LOST p k) 0) s

/-- An enumeration in state ENUM (R380 to R382). -/
def enumerate (p : Nat) (stations : List RlkStation) (s : State) : State :=
  let l := stations.take 8
  let n := l.length
  let exp := s.fld (F.RLK_P_CFG_NSTM1 p) + 1
  let s := sendFrame p 7 0x80 (List.replicate 8 0) s
  if n ≠ exp then
    if (rlkPort s p).toldTopo then s
    else rlkEvent 0x8005 3 p n exp 0xFF (modPort p (fun x => { x with toldTopo := true }) s)
  else
    let s := checkIds p l (measureStations p l s)
    if cycleFits s p n then showPorts ((installPlan p n s).put (F.RLK_P_STAT_STATE p) rlkUp)
    else if (rlkPort s p).toldSched then s
    else rlkEvent 0x8006 3 p (cycleNeed s p n) (periodNs s) 0 (modPort p (fun x => { x with toldSched := true }) s)

/-- ENUMERATION (R380, R381): a trained port enters ENUM and enumerates. -/
def execEnumeration (port : Fin 16) (stations : List RlkStation) (s : State) : Ans :=
  let p : Nat := port
  if portState s p ≠ rlkTrain then .next s
  else .next (enumerate p stations (leaveUp p rlkEnum s))

/-- ENUM_RETRY (R380). -/
def execEnumRetry (port : Fin 16) (stations : List RlkStation) (s : State) : Ans :=
  let p : Nat := port
  .next (if portState s p = rlkEnum then enumerate p stations s else s)

/-- A BREAK from hop index `k` arrives (R383, R384, R386). -/
def portBreak (p k reason : Nat) (s : State) : State :=
  if portState s p ≠ rlkUp then s
  else
    let r := portReach s p
    let s := modPort p (fun x => { x with rejoin := none }) s
    let s := (List.range (r - (k + 1))).foldl (fun s i => loseStation p (k + 1 + i) s) s
    let s := (s.put (F.RLK_P_STAT_REACH p) (min r (k + 1))).incHold (F.RLK_P_LOSS_BREAKS p)
    rlkEvent 0x8002 1 p k reason ((r - (k + 1)) % 256) s

/-- BREAK (R383, R384, R386). -/
def execBreak (port : Fin 16) (hop reason : BitVec 8) (s : State) : Ans := .next (portBreak port hop.toNat reason.toNat s)

/-- A port that is not DISABLED takes the blocks it has received (R368 to R370, R380, R386): a BREAK first, then the frame, which `use` takes if it is
whole; then lock and the invalid blocks are judged. -/
def receive (p : Nat) (f : RlkFrame) (use : RxFrame → State → State) (s : State) : State :=
  if portState s p = rlkDisabled then s
  else
    let r := received f
    let s := r.breaks.foldl (fun s b => portBreak p b.1 b.2 s) s
    let s := if r.invalid = 0 then s else s.put (F.RLK_P_ERR_BLK p) (min (s.fld (F.RLK_P_ERR_BLK p) + r.invalid) 0xFFFF)
    let s := match r.frame with
      | none => s
      | some g => if frameOk g then use g s else frameError p g s
    let l := descramble f.pre.toNat f.blocks
    portDown p (window64 16 (fun b => b.sync = 0 || b.sync = 3) l) (window64 8 (fun b => blockKind b = .invalid) l) s

/-- RESTORE (R384, R381, R382): the stations are measured again; where the cycle fits, they rejoin at the next boundary. -/
def execRestore (port : Fin 16) (hop : BitVec 8) (stations : List RlkStation) (s : State) : Ans :=
  let p : Nat := port
  let l := stations.take 8
  if portState s p ≠ rlkUp || portReach s p ≠ hop.toNat + 1 || l.length ≤ portReach s p then .next s
  else
    let s := checkIds p l (measureStations p l s)
    if cycleFits s p l.length then .next (modPort p (fun x => { x with rejoin := some l.length }) s)
    else .next (rlkEvent 0x8006 3 p (cycleNeed s p l.length) (periodNs s) 0 s)

/-! ### The joint cycle (R346, R357, R363, R372 to R378) -/

/-- Is the law of axis `a` due in this cycle and not complete? -/
def lawWaits (s : State) (a : Nat) : Bool :=
  let (p, k, i) := axPlace s a
  let x := rlkPort s p
  axState s a = axActive && axSrc s a ≠ srcSto && !(cmbAxis s a).done && !x.released
    && match x.got.find? (fun e => e.1 = k) with
      | some e => bitAt (leAt e.2 (8 + 16 * i + 10) 2) 0
      | none => false

/-- A port at a boundary (R372, R379, R384): an exchange without answer fails, one asked for is due, restored stations rejoin, the
TRIGGER leaves. TOFF is free between 0 and 132. -/
def portBoundary (b p : Nat) (s : State) : State :=
  if portState s p ≠ rlkUp then s
  else
    let s := if (rlkPort s p).mg = 3 then endExchange p false s else s
    let s := match (rlkPort s p).rejoin with
      | none => s
      | some n =>
        let r := portReach s p
        rlkEvent 0x8003 0 p ((n - r) % 256) (b % 1000000000) 0 ((installPlan p n s).incHold (F.RLK_P_LOSS_REJOINS p))
    let s := modPort p (fun x => { x with got := [], closed := false, released := false, rejoin := none, mg := if x.mg = 1 then 2 else x.mg }) s
    let f := s.freeNat
    sendFrame p 1 0x80 (leBytes 4 s.cmb.cycle ++ leBytes 2 (f.1 % 133) ++ leBytes 2 (s.fld F.CMB_PERIOD_PERUS)) f.2

/-- The MGMT frame of an exchange that is due leaves after the last COMMAND, or the exchange fails (R379). -/
def runExchange (p : Nat) (s : State) : State :=
  let x := rlkPort s p
  if x.mg ≠ 2 then s
  else
    let k := x.mgReq % 8
    let wr := bitAt x.mgReq 3
    let reg := x.mgReq / 256 % 256
    let busy := wr && (axesOn s).any fun a => (axPlace s a).1 = p && axSrc s a ≠ srcSto
    if (2 ≤ reg && reg ≤ 4) || busy then endExchange p false s
    else modPort p (fun x => { x with mg := 3 }) (sendMgmt p k reg wr (if wr then x.mgData else 0) s)

/-- The axes of stations that a port does not reach, or whose port is not UP, are lost in this cycle and every cycle until they rejoin (R358, R383). -/
def loseUnreached (s : State) : State :=
  (axesOn s).foldl (fun s a =>
    let q := axPlace s a
    if portState s q.1 = rlkUp && q.2.1 < portReach s q.1 then s else loseAxis a (modAxis a (fun x => { x with valid := false }) s)) s

/-- JOINT_CYCLE_START (R346, R372): the boundary at or before the present time, unless the root links have taken it. It starts a cycle of Cambium while
EN = 1, and every port in UP sends its TRIGGER; without a cycle of Cambium an exchange that is due follows the TRIGGER. -/
def execJointCycleStart (s : State) : Ans :=
  match boundaryBefore s s.ns with
  | none => .next s
  | some b =>
    if s.cmb.bound.any fun t => b ≤ t then .next s
    else
      let runs := s.flag F.CMB_CTRL_EN && !inRack s && (s.cmb.last.isSome || decide (s.cmb.since ≤ b))
      let waits := lawWaits s
      let s := s.setCmb { s.cmb with bound := some b, cycle := (s.cmb.cycle + 1) % 2 ^ 32 }
      let s := if runs then startCycle b waits s else s
      let s := rlkPorts.foldl (fun s p => portBoundary b p s) s
      .next (hwdServe (if runs then loseUnreached s else rlkPorts.foldl (fun s p => runExchange p s) s))

/-- A valid sample that arrives after its port's commands were released is a miss of its axis (R359): the law of the cycle was not computed, and the
axis has been lost with its station at the close of the window. -/
def lateSample (a ast : Nat) (s : State) : State :=
  if bitAt ast 0 && (axState s a = axActive || axState s a = axLost) && axSrc s a ≠ srcSto && !(cmbAxis s a).done then missAxis a 4 s else s

/-- A whole frame of this cycle from a reachable station (R374, R375, R385, R386): handed to Cambium, which takes short-circuit reports at once
(R360, R356); a sample after its port's release is a miss (R359). -/
def takeSample (p : Nat) (f : RxFrame) (s : State) : State :=
  let k := frameHop f
  let d := f.data
  if portState s p ≠ rlkUp || s.cmb.bound.isNone || frameType f ≠ 2 || leAt f.hdr 4 1 ≠ 0 || portReach s p ≤ k
    || leAt f.hdr 2 1 ≠ s.cmb.cycle % 256 || (rlkPort s p).got.any (fun e => e.1 = k) then s
  else
    let sst := leAt d 0 2
    let ast (s : State) (a : Nat) : Nat := leAt d (8 + 16 * (axPlace s a).2.2 + 10) 2
    let first := bitAt sst 1 && !(bitAt (s.fld (F.RLK_P_S_STAT_SST p k)) 1)
    let s := s.put (F.RLK_P_S_STAT_SST p k) (sst % 256)
    let s := if first then rlkEvent 0x8007 1 p k sst 0 s else s
    let s := stopDone ((stationAxes s p k).foldl (fun s a => shortReport a (ast s a) s) s)
    let x := rlkPort s p
    if !x.closed then modPort p (fun x => { x with got := x.got ++ [(k, d)] }) (s.put (F.RLK_P_S_STAT_LOST p k) 0)
    else if x.released then (stationAxes s p k).foldl (fun s a => lateSample a (ast s a) s) s
    else s

/-- SAMPLE (R368 to R370, R374, R375). -/
def execSample (port : Fin 16) (frame : RlkFrame) (s : State) : Ans := .next (hwdServe (receive port frame (takeSample port) s))

/-- Have the samples of every reachable station arrived? -/
def allArrived (s : State) (p : Nat) : Bool := (List.range (portReach s p)).all fun k => (rlkPort s p).got.any fun e => e.1 = k

/-- SAMPLE_WINDOW_CLOSE (R376): a station without a whole sample is lost for the cycle. -/
def execSampleWindowClose (port : Fin 16) (s : State) : Ans :=
  let p : Nat := port
  if portState s p ≠ rlkUp || s.cmb.bound.isNone || (rlkPort s p).closed then .next s
  else
    let s := modPort p (fun x => { x with closed := true }) s
    .next ((List.range (portReach s p)).foldl (fun s k => if (rlkPort s p).got.any (fun e => e.1 = k) then s else loseStation p k s) s)

/-- The samples of a port are in Cambium's inputs and its commands are not released (R363). -/
def portReady (s : State) (p : Nat) : Bool :=
  portState s p = rlkUp && s.cmb.last.isSome && !(rlkPort s p).released && ((rlkPort s p).closed || allArrived s p)

/-- AXIS_LAW_COMPUTE (R352, R363): the named axes of the port whose sample is in. -/
def execAxisLawCompute (port : Fin 16) (axes : BitVec 128) (s : State) : Ans :=
  let p : Nat := port
  if !(portReady s p) then .next s
  else
    .next (hwdServe ((List.range 128).foldl (fun s a =>
      if bitAt axes.toNat a && axOn s a && (axPlace s a).1 = p && !(cmbAxis s a).done then
        match (rlkPort s p).got.find? (fun e => e.1 = (axPlace s a).2.1) with
        | some e => axisSample a ((e.2.drop (8 + 16 * (axPlace s a).2.2)).take 16) s
        | none => s
      else s) s))

/-- The block of slot `i` of station `k` in a COMMAND frame (R377, R378). -/
def slotBlock (s : State) (p k i : Nat) : List Byte :=
  match (axesOn s).find? fun a => axPlace s a = (p, k, i) with
  | none => [0, 0, 2, 0, 0, 0, 0, 0]
  | some a =>
    let st := axState s a
    let off := stoHeld s || st = axOff || st = axAsto || (st = axFault && bitAt (axCfg (axRecord s a)) 2) || axSrc s a = srcSto
    if off then [0, 0, 2, 0, 0, 0, 0, 0] else leBytes 2 (word32 (axU s a)) ++ [0, 0, 0, 0, 0, 0]

/-- The COMMAND frames of the `n` nearest stations in descending hop order, separated by IDLE blocks (R377). -/
def sendTrain (p tapp : Nat) : Nat → State → State
  | 0, s => s
  | k + 1, s =>
    let s := sendFrame p 3 k (leBytes 4 tapp ++ [0, 0, 0, 0] ++ (List.range (s.fld (F.RLK_P_S_CFG_NAX p k))).flatMap fun i => slotBlock s p k i) s
    sendTrain p tapp k (if k = 0 then s else sendBlocks p 0 (List.replicate (rlkGap s) idleBlock) s)

/-- COMMAND_RELEASE (R359, R363, R377): axes whose law is not complete miss; the COMMAND frames leave in descending hop order with one
TAPP, which is free. -/
def execCommandRelease (port : Fin 16) (s : State) : Ans :=
  let p : Nat := port
  if !(portReady s p) then .next s
  else
    let s := (axesOn s).foldl (fun s a => if (axPlace s a).1 = p && lawWaits s a then missAxis a 1 s else s) s
    let s := modPort p (fun x => { x with released := true }) s
    let f := s.freeNat
    .next (runExchange p (sendTrain p f.1 (portReach s p) f.2))

/-! ### Lines (R357, R378) -/

/-- FALLBACK_LATCH (R357). -/
def execFallbackLatch (s : State) : Ans := .next (hwdServe (latchFallback s))

/-- STOP_LATCH (R357). -/
def execStopLatch (s : State) : Ans := .next (hwdServe (latchStop s))

/-- STO frames on the ports in UP or ENUM (R378). -/
def stoFrames (s : State) : State :=
  rlkPorts.foldl (fun s p => if portState s p = rlkUp || portState s p = rlkEnum then sendSto p s else s) s

/-- STO_LATCH (R357, R378): Cambium and the root links take the line; its assertion sends the first STO frames. -/
def execStoLatch (s : State) : Ans :=
  let was := s.flag F.CMB_STAT_STO
  let s := showPorts (latchSto s)
  .next (hwdServe (if s.hwd.sto && !was then stoFrames s else s))

/-- STO_REPEAT (R378). -/
def execStoRepeat (port : Fin 16) (s : State) : Ans :=
  let p : Nat := port
  .next (if stoHeld s && (portState s p = rlkUp || portState s p = rlkEnum) then sendSto p s else s)

/-! ### Management (R379) -/

/-- GO was written to RLK_Pp_MGCMD (R379, R388): dropped while BUSY = 1; without cycles on the port the exchange fails. -/
def startExchange (p : Nat) (s : State) : State :=
  if s.flag (F.RLK_P_MGSTAT_BUSY p) then s
  else
    let req := (s.reg (Reg.RLK_P_MGREQ p)).toNat
    let data := s.reg64 (Reg.RLK_P_MGDATA_LO p)
    let s := modPort p (fun x => { x with mg := 1, mgReq := req, mgData := data }) (s.put (F.RLK_P_MGSTAT_BUSY p) 1)
    if portState s p = rlkUp then s else endExchange p false s

/-- The answer of the station asked (R379, R386); a STATUS without an exchange is discarded. -/
def takeStatus (p : Nat) (f : RxFrame) (s : State) : State :=
  let x := rlkPort s p
  if portState s p ≠ rlkUp || frameType f ≠ 6 || leAt f.hdr 4 1 ≠ 0 || x.mg ≠ 3 || frameHop f ≠ x.mgReq % 8 then s
  else endExchange p (decide (leAt f.data 2 1 = 0)) (s.setReg64 (Reg.RLK_P_MGDATA_LO p) (leAt f.data 8 8))

/-- STATUS (R368 to R370, R379). -/
def execStatus (port : Fin 16) (frame : RlkFrame) (s : State) : Ans := .next (receive port frame (takeStatus port) s)

/-! ### Register effects of Cambium (R346) -/

/-- CMB_CTRL.EN was written (R346): `was` is its value before; boundaries count from now. -/
def cmbEnWritten (was : Bool) (s : State) : State :=
  if s.flag F.CMB_CTRL_EN = was then s
  else
    let s := s.setCmb { s.cmb with last := none, since := (s.time + 65535) / 65536 }
    if was then s.put F.CMB_STAT_RUN 0 else s

/-- A value of CMB_PERIOD or CMB_PHASE is refused (R346). -/
def periodLocked (s : State) (perus phns : Nat) : Bool :=
  !(allSto s) || perus < 25 || 1000 < perus || 1000000 % perus ≠ 0 || 1000 * perus ≤ phns

end Sys2Proof.Machine
end

