-- ==== Sys2Proof/Machine/CanFd.lean ====
section
/-! DEFINITION. The CAN FD controllers: buffers, arbitration, error states, receive objects, sleep and wake (R390 to R411). -/

namespace Sys2Proof.Machine

/-- Controller `c` beside its registers. -/
def canSt (s : State) (c : Nat) : Can := spGet {} s.can c
/-- The state with controller `c` changed. -/
def modCan (c : Nat) (f : Can → Can) (s : State) : State := { s with can := spSet {} c (f (canSt s c)) s.can }

/-- An event of the controllers (R410). -/
def canEvent (code sev c a1 a2 a3 : Nat) (s : State) : State :=
  raise { code := code, oid := 0x33, sev := sev, a0 := c, a1 := a1, a2 := a2, a3 := a3 } s

/-- States of a controller (R411). -/
def canInit : Nat := 0
def canIntegrating : Nat := 1
def canActive : Nat := 2
def canPassive : Nat := 3
def canBusOff : Nat := 4
def canSleepPending : Nat := 5
def canSleep : Nat := 6

/-- The state of controller `c`. -/
def canState (s : State) (c : Nat) : Nat := s.fld (F.CFD_STAT_STATE c)
/-- Does the controller take part in bus traffic (R394, R407)? -/
def canOnBus (s : State) (c : Nat) : Bool := canState s c = canActive || canState s c = canPassive || canState s c = canSleepPending

/-- The controller's interrupt for source `i` of CFD_IE: 0 RX, 1 TX, 2 WAKE, 3 ERR (R411). -/
def canIrq (c i : Nat) (s : State) : State := if bitAt (s.fld (F.CFD_IE_RX_TX_WAKE_ERR c)) i then s.msix (s.fld (F.CFD_IE_VEC c)) else s

/-! ### Error counters (R399) -/

/-- 0 error-active, 1 error-passive, 2 bus-off. -/
def faultLevel (tec rec' : Nat) : Nat := if 255 < tec then 2 else if 127 < tec || 127 < rec' then 1 else 0

/-- Entry into bus-off (R399, R400). -/
def enterBusOff (c : Nat) (s : State) : State :=
  let s := modCan c (fun x => { x with cur := none, recovering := s.flag (F.CFD_CTRL_ABOR c) }) s
  (s.put (F.CFD_STAT_STATE c) canBusOff).put (F.CFD_ECNT_RECOV c) 0

/-- The counters take new values; EWARN, events and the error state follow (R399). -/
def setCounts (c tec rec' : Nat) (s : State) : State :=
  let old := faultLevel (s.fld (F.CFD_ECNT_TEC c)) (s.fld (F.CFD_ECNT_REC c))
  let tec := min tec 256
  let rec' := min rec' 255
  let new := faultLevel tec rec'
  let s := (s.put (F.CFD_ECNT_TEC c) tec).put (F.CFD_ECNT_REC c) rec'
  let s := s.put (F.CFD_STAT_EWARN c) (ofBool (96 ≤ tec || 96 ≤ rec'))
  let on := canOnBus s c
  let s := if on && new = 2 then enterBusOff c s
    else if on && canState s c ≠ canSleepPending then s.put (F.CFD_STAT_STATE c) (if new = 1 then canPassive else canActive)
    else s
  if new = 2 && old ≠ 2 then canIrq c 3 (canEvent 0x8041 1 c (s.fld (F.CFD_TXREQ_REQ c)) (canSt s c).lastErr 0 s)
  else if new = 1 && old = 0 then canIrq c 3 (canEvent 0x8040 1 c tec rec' 0 s)
  else s

/-- Counters change in every mode but restricted operation (R405). -/
def countError (c : Nat) (tec rec' : Nat) (s : State) : State :=
  if s.fld (F.CFD_CTRL_MODE c) = 3 then s else setCounts c tec rec' s

/-! ### Frames and receive objects (R401 to R404, R408) -/

/-- Data bytes of a frame (R390). -/
def canLen (f : CanFrame) : Nat :=
  let d := f.dlc.toNat
  if !f.fdf then (if f.rtr then 0 else min d 8)
  else [0, 1, 2, 3, 4, 5, 6, 7, 8, 12, 16, 20, 24, 32, 48, 64].getD d 0

/-- The identifier compared with a filter: bits 17 to 0 of a base identifier are 0. -/
def canId (f : CanFrame) : Nat := if f.ide then f.id.toNat else f.id.toNat / 2 ^ 18 * 2 ^ 18

/-- The data of a frame in 64 bytes. -/
def canData (f : CanFrame) : List Byte :=
  let d := f.data.take (canLen f)
  d ++ List.replicate (64 - d.length) 0

/-- Does the frame match object `o` (R401)? A reserved selector passes by bit `o` of the free value `x`. -/
def canMatches (s : State) (c x : Nat) (f : CanFrame) (o : Nat) : Bool :=
  let m := s.fld (F.CFD_RX_FMSK_MASK c o)
  let sel := s.fld (F.CFD_RX_FMSK_FDF c o)
  s.flag (F.CFD_RX_FID_EN c o) && decide (canId f &&& m = s.fld (F.CFD_RX_FID_ID c o) &&& m)
    && (!(s.flag (F.CFD_RX_FMSK_IDEM c o)) || f.ide = s.flag (F.CFD_RX_FID_IDE c o))
    && (if sel = 0 then true else if sel = 1 then !f.fdf else if sel = 2 then f.fdf else bitAt x o)

/-- The object's bit in a pair of registers (R411). -/
def canBit (lo : Nat) (s : State) (o : Nat) : Bool := bitAt (s.reg64 lo) o
/-- Set the object's bit in a pair of registers. -/
def setCanBit (lo o : Nat) (s : State) : State := s.setReg64 lo (s.reg64 lo ||| 2 ^ o)

/-- Bytes 4 to 87 of a slot (R402). -/
def slotBytes (f : CanFrame) (t : Nat) : List Byte :=
  leBytes 4 (canId f + ofBool f.ide * 2 ^ 29 + ofBool f.rtr * 2 ^ 30) ++ leBytes 1 f.dlc.toNat
    ++ leBytes 1 (ofBool f.fdf + 2 * ofBool f.brs + 4 * ofBool f.esi) ++ List.replicate 6 0 ++ leBytes 8 t ++ canData f

/-- The writes of a slot in their order; false when Bark refuses one (R402). -/
def writeSlot (a seq : Nat) (bs : List Byte) (s : State) : Bool × State :=
  match nocWrite 0x33 0 a (leBytes 4 (seq + 1)) s with
  | (false, s) => (false, s)
  | (true, s) => match nocWrite 0x33 0 (a + 4) bs s with
    | (false, s) => (false, s)
    | (true, s) => nocWrite 0x33 0 a (leBytes 4 (seq + 2)) s

/-- A frame is stored in the lowest matching object (R401 to R404). -/
def storeFrame (c : Nat) (f : CanFrame) (t : Nat) (s : State) : State :=
  let x := s.freeNat
  match (List.range 64).find? (canMatches s c x.1 f) with
  | none => s.incHold (F.CFD_RXDROP_DROP c)
  | some o =>
    let s := if s.fld (F.CFD_RX_FMSK_FDF c o) = 3 then x.2 else s
    let base := s.fld (F.CFD_RXBASE_LO_BASE_LO c) * 2 ^ 13 + s.fld (F.CFD_RXBASE_HI_BASE_HI c) * 2 ^ 32 + 128 * o
    let seq := spGet 0 (canSt s c).seq o
    match writeSlot base seq (slotBytes f t) s with
    | (false, s) => s.incHold (F.CFD_RXDROP_DENY c)
    | (true, s) =>
      let s := modCan c (fun x => { x with seq := spSet 0 o ((seq + 2) % 2 ^ 32) x.seq }) s
      let lost := canBit (Reg.CFD_RXNEW_LO c) s o
      let told := canBit (Reg.CFD_RXLOST_LO c) s o
      let s := if lost then setCanBit (Reg.CFD_RXLOST_LO c) o s else s
      let s := setCanBit (Reg.CFD_RXNEW_LO c) o s
      let s := if lost && !told then canEvent 0x8044 0 c o 0 0 s else s
      canIrq c 0 s

/-- Does a classical frame match the wake-up frame (R391, R408)? -/
def wakeMatches (s : State) (c : Nat) (f : CanFrame) : Bool :=
  let m := s.fld (F.CFD_WUF_MASK_MASK c)
  let mask := leBytes 4 (s.reg (Reg.CFD_WUF_DMASK_LO c)).toNat ++ leBytes 4 (s.reg (Reg.CFD_WUF_DMASK_HI c)).toNat
  !f.fdf && decide (canId f &&& m = s.fld (F.CFD_WUF_ID_ID c) &&& m) && f.ide = s.flag (F.CFD_WUF_ID_IDE c)
    && (!(s.flag (F.CFD_WUF_CTL_DLCEN c)) || decide (f.dlc.toNat = s.fld (F.CFD_WUF_CTL_DLC c)))
    && (!(s.flag (F.CFD_WUF_CTL_DATAEN c)) || ((canData f).zip mask).any fun e => e.1 &&& e.2 ≠ 0)

/-! ### Transmit buffers (R395 to R398) -/

/-- Is buffer `b` pending? -/
def canPending (s : State) (c b : Nat) : Bool := bitAt (s.fld (F.CFD_TXREQ_REQ c)) b

/-- The frame of buffer `b` (R395): the identifier bits and kind, ESI from the error state. -/
def txFrame (s : State) (c b : Nat) : CanFrame :=
  let fdf := s.flag (F.CFD_TX_CTL_FDF c b)
  { id := BitVec.ofNat 29 (s.fld (F.CFD_TX_ID_ID c b)), ide := s.flag (F.CFD_TX_ID_IDE c b), rtr := s.flag (F.CFD_TX_ID_RTR c b)
    fdf := fdf, brs := fdf && s.flag (F.CFD_TX_CTL_BRS c b), esi := fdf && canState s c = canPassive
    dlc := BitVec.ofNat 4 (s.fld (F.CFD_TX_CTL_DLC c b))
    data := (List.range 16).flatMap fun w => leBytes 4 (s.reg (Reg.CFD_TX_DATA c b w)).toNat }

/-- The arbitration field of a frame as a number; the smaller wins (R396). -/
def arbKey (f : CanFrame) : Nat :=
  let base := f.id.toNat / 2 ^ 18 * 2 ^ 21
  let r := ofBool (f.rtr && !f.fdf)
  if f.ide then base + 2 ^ 20 + 2 ^ 19 + f.id.toNat % 2 ^ 18 * 2 + r else base + r * 2 ^ 20

/-- The buffer of a list that wins arbitration, the lower index among equals. -/
def winner (s : State) (c : Nat) (l : List Nat) : Option Nat :=
  ((List.range 3).filter fun b => l.contains b).foldl (fun best b =>
    match best with
    | none => some b
    | some w => if arbKey (txFrame s c b) < arbKey (txFrame s c w) then some b else best) none

/-- The pending buffer that arbitration takes (R396, R400). -/
def chooseBuffer (s : State) (c : Nat) : Option Nat :=
  let x := canSt s c
  let pend := (List.range 3).filter fun b => canPending s c b
  if !(s.flag (F.CFD_CTRL_TXORD c)) then winner s c pend
  else match winner s c (x.first.filter fun b => pend.contains b) with
    | some b => some b
    | none => x.order.find? fun b => pend.contains b

/-- A buffer's result is set: it is no longer pending (R397). -/
def endBuffer (c b : Nat) (f : RegField) (s : State) : State :=
  let s := s.put f (s.fld f ||| 2 ^ b)
  let s := s.put (F.CFD_TXREQ_REQ c) (s.fld (F.CFD_TXREQ_REQ c) &&& (7 - 2 ^ b))
  let s := s.put (F.CFD_TXREQ_ABORT c) (s.fld (F.CFD_TXREQ_ABORT c) &&& (7 - 2 ^ b))
  canIrq c 1 (modCan c (fun x => { x with order := x.order.filter fun k => k ≠ b, first := x.first.filter fun k => k ≠ b
                                          tries := spSet 0 b 0 x.tries }) s)

/-- A buffer is abandoned (R395, R398). -/
def abandon (c b tries reason : Nat) (s : State) : State :=
  endBuffer c b (F.CFD_TXSTAT_ABND c) (canEvent 0x8043 1 c b tries reason s)

/-- The attempt of buffer `b` has failed (R397, R398, R400, R409). -/
def failAttempt (c b : Nat) (s : State) : State :=
  let n := spGet 0 (canSt s c).tries b + 1
  let s := modCan c (fun x => { x with cur := none, tries := spSet 0 b n x.tries }) s
  let lim := s.fld (F.CFD_RETRYLIM_LIM c)
  if bitAt (s.fld (F.CFD_TXREQ_ABORT c)) b then endBuffer c b (F.CFD_TXSTAT_ABRT c) s
  else if canState s c = canBusOff then s
  else if s.flag (F.CFD_CTRL_ONESHOT c) then abandon c b n 1 s
  else if lim ≠ 0 && lim ≤ n then abandon c b n 2 s
  else s

/-- REQ bits were written 1 (R395): an impossible frame is abandoned at once. -/
def canRequest (c bits : Nat) (s : State) : State :=
  (List.range 3).foldl (fun s b =>
    if !(bitAt bits b) || canPending s c b then s
    else if s.flag (F.CFD_TX_CTL_FDF c b) && s.flag (F.CFD_TX_ID_RTR c b) then abandon c b 0 3 s
    else
      let s := s.put (F.CFD_TXREQ_REQ c) (s.fld (F.CFD_TXREQ_REQ c) ||| 2 ^ b)
      modCan c (fun x => { x with order := x.order ++ [b], tries := spSet 0 b 0 x.tries }) s) s

/-- ABORT bits were written 1 (R397): a buffer on the bus finishes its frame first. -/
def canAbort (c bits : Nat) (s : State) : State :=
  (List.range 3).foldl (fun s b =>
    if !(bitAt bits b) || !(canPending s c b) then s
    else if (canSt s c).cur = some b then s.put (F.CFD_TXREQ_ABORT c) (s.fld (F.CFD_TXREQ_ABORT c) ||| 2 ^ b)
    else endBuffer c b (F.CFD_TXSTAT_ABRT c) s) s

/-- TX_ARBITRATION_START (R396): the choice is fixed and the SOF begins. -/
def execTxArbitrationStart (ctrl : Fin 8) (s : State) : Ans :=
  let c : Nat := ctrl
  if !(canOnBus s c) || s.fld (F.CFD_CTRL_MODE c) ≠ 1 || (canSt s c).cur.isSome then .next s
  else match chooseBuffer s c with
    | none => .next s
    | some b => .next ((modCan c (fun x => { x with cur := some b }) s).emit (.can c b))

/-- TDCV of a transmitted FD frame is shown (R393). -/
def showTdcv (c b : Nat) (v : Option (BitVec 7)) (s : State) : State :=
  match v with
  | none => s
  | some v =>
    if s.flag (F.CFD_DBT_TDCEN c) && s.fld (F.CFD_DBT_BRPM1 c) ≤ 1 && s.flag (F.CFD_TX_CTL_FDF c b) && s.flag (F.CFD_TX_CTL_BRS c b) then
      s.put (F.CFD_STAT_TDCV c) v.toNat else s

/-- TX_ATTEMPT_END (R397 to R399, R401, R404): the frame on the bus was sent, lost arbitration or ended in an error. -/
def execTxAttemptEnd (ctrl : Fin 8) (outcome : CanTx) (ago : BitVec 32) (tdcv : Option (BitVec 7)) (s : State) : Ans :=
  let c : Nat := ctrl
  match (canSt s c).cur with
  | none => .next s
  | some b =>
    let s := showTdcv c b tdcv s
    let tec := s.fld (F.CFD_ECNT_TEC c)
    let r := s.fld (F.CFD_ECNT_REC c)
    let t := recTime (s.ns - ago.toNat)
    match outcome with
    | .sent =>
      let f := txFrame s c b
      let s := modCan c (fun x => { x with cur := none }) s
      let s := countError c (tec - 1) r s
      let s := endBuffer c b (F.CFD_TXSTAT_OK c) (s.setReg64 (Reg.CFD_TX_TS_LO c b) t)
      .next (if s.flag (F.CFD_CTRL_SELFRX c) || s.flag (F.CFD_CTRL_LOOP c) then storeFrame c f t s else s)
    | .lost => .next (failAttempt c b s)
    | .error e =>
      let s := modCan c (fun x => { x with lastErr := e.kinds.toNat }) s
      let quiet := e.exempt || (e.kinds = 8 && decide (faultLevel tec r = 1))
      .next (failAttempt c b (countError c (tec + (if quiet then 0 else 8) + 8 * e.extra.toNat) r s))

/-! ### Reception (R399, R401, R407) -/

/-- RX_FRAME_VALID (R401 to R404, R407): a received frame is stored; it aborts a sleep entry if it matches the wake-up frame. -/
def execRxFrameValid (ctrl : Fin 8) (frame : CanFrame) (ago : BitVec 32) (s : State) : Ans :=
  let c : Nat := ctrl
  if !(canOnBus s c) then .next s
  else
    let r := s.fld (F.CFD_ECNT_REC c)
    let x := s.freeNat
    let high := decide (127 < r) && decide (s.fld (F.CFD_CTRL_MODE c) ≠ 3)
    let s := if high then x.2 else s
    let s := countError c (s.fld (F.CFD_ECNT_TEC c)) (if high then 119 + x.1 % 9 else r - 1) s
    let s := storeFrame c frame (recTime (s.ns - ago.toNat)) s
    if canState s c = canSleepPending && wakeMatches s c frame then
      let s := ((s.put (F.CFD_STAT_STATE c) canIntegrating).put (F.CFD_STAT_WAKEF c) 1).put (F.CFD_STAT_WCAUSE c) 1
      .next (canIrq c 2 (canEvent 0x8046 0 c (canId frame) 0 0 s))
    else .next s

/-- A received frame ends in an error of the kinds `kinds`, with `extra` further steps of 8 (R399). -/
def rxError (c kinds extra : Nat) (s : State) : State :=
  let s := modCan c (fun x => { x with lastErr := kinds }) s
  countError c (s.fld (F.CFD_ECNT_TEC c)) (s.fld (F.CFD_ECNT_REC c) + 1 + 8 * extra) s

/-- RX_FRAME_ERROR (R399): a received frame ends in an error. -/
def execRxFrameError (ctrl : Fin 8) (err : CanErr) (s : State) : Ans :=
  let c : Nat := ctrl
  .next (if canOnBus s c then rxError c err.kinds.toNat err.extra.toNat s else s)

/-- PROTOCOL_EXCEPTION (R406): a recessive res bit; with PXHD = 1 it is a form error of the frame. -/
def execProtocolException (ctrl : Fin 8) (s : State) : Ans :=
  let c : Nat := ctrl
  .next (if !(canOnBus s c) then s
    else if s.flag (F.CFD_CTRL_PXHD c) then rxError c 4 0 s
    else canEvent 0x8047 0 c 0 0 0 (s.put (F.CFD_STAT_STATE c) canIntegrating))

/-! ### Joining, recovery, sleep (R394, R400, R405, R407) -/

/-- INTEGRATION_COMPLETE (R394). -/
def execIntegrationComplete (ctrl : Fin 8) (s : State) : Ans :=
  let c : Nat := ctrl
  .next (if canState s c = canIntegrating then
    s.put (F.CFD_STAT_STATE c) (if faultLevel (s.fld (F.CFD_ECNT_TEC c)) (s.fld (F.CFD_ECNT_REC c)) = 1 then canPassive else canActive) else s)

/-- RECOVERY_COMPLETE (R400): 128 sequences have been seen. -/
def execRecoveryComplete (ctrl : Fin 8) (us : BitVec 32) (s : State) : Ans :=
  let c : Nat := ctrl
  if canState s c ≠ canBusOff || !(canSt s c).recovering then .next s
  else
    let pend := (List.range 3).filter fun b => canPending s c b
    let s := modCan c (fun x => { x with recovering := false, first := pend }) s
    let s := s.put (F.CFD_STAT_STATE c) canIntegrating
    let s := setCounts c 0 0 (s.put (F.CFD_ECNT_RECOV c) 128)
    .next (canEvent 0x8042 0 c (ofBool (s.flag (F.CFD_CTRL_ABOR c))) us.toNat 0 s)

/-- SLEEP_ENTRY (R407): bus idle with no buffer pending. -/
def execSleepEntry (ctrl : Fin 8) (s : State) : Ans :=
  let c : Nat := ctrl
  if canState s c = canSleepPending && s.fld (F.CFD_TXREQ_REQ c) = 0 then
    .next (modCan c (fun x => { x with errs := 0 }) (s.put (F.CFD_STAT_STATE c) canSleep))
  else .next s

/-- The controller wakes from SLEEP with a cause (R407). -/
def canWake (c cause id : Nat) (s : State) : State :=
  let s := ((s.put (F.CFD_STAT_STATE c) canIntegrating).put (F.CFD_STAT_WAKEF c) 1).put (F.CFD_STAT_WCAUSE c) cause
  canIrq c 2 (canEvent 0x8045 0 c cause id 0 s)

/-- WAKE_UP_FRAME (R391, R407, R408): a frame passes on the bus in SLEEP. -/
def execWakeUpFrame (ctrl : Fin 8) (frame : Option CanFrame) (err : Bool) (s : State) : Ans :=
  let c : Nat := ctrl
  if canState s c ≠ canSleep then .next s
  else
    let n := (canSt s c).errs
    let count (k : Nat) (s : State) : State := modCan c (fun x => { x with errs := k }) s
    match frame with
    | some f =>
      if wakeMatches s c f then .next (canWake c 1 (canId f) s)
      else if f.fdf then .next s
      else if !err then .next (count (n - 1) s)
      else if 31 ≤ n then .next (canWake c 2 0 (count 32 s))
      else .next (count (n + 1) s)
    | none =>
      if !err then .next s
      else if 31 ≤ n then .next (canWake c 2 0 (count 32 s))
      else .next (count (n + 1) s)

/-- CFD_CMD was written (R400, R407, R409). -/
def canCmdWritten (c data : Nat) (s : State) : State :=
  let s := if bitAt data 0 && (canState s c = canActive || canState s c = canPassive) then s.put (F.CFD_STAT_STATE c) canSleepPending else s
  let s := if bitAt data 1 then
      if canState s c = canSleepPending then s.put (F.CFD_STAT_STATE c) canIntegrating
      else if canState s c = canSleep then (s.put (F.CFD_STAT_STATE c) canIntegrating).put (F.CFD_STAT_WCAUSE c) 3
      else s
    else s
  if bitAt data 2 && canState s c = canBusOff && !(s.flag (F.CFD_CTRL_ABOR c)) then modCan c (fun x => { x with recovering := true }) s else s

/-- CFD_ECSET was written (R411): GO loads both counters in INIT. -/
def ecsetWritten (c data : Nat) (s : State) : State :=
  if bitAt data 31 && canState s c = canInit then setCounts c (data % 512) (data / 512 % 256) s else s

/-- MODE of controller `c` was written (R394, R405, R409): `was` is its value before. -/
def canModeWritten (c was : Nat) (s : State) : State :=
  let now := s.fld (F.CFD_CTRL_MODE c)
  if now = 0 && was ≠ 0 then
    let s := match (canSt s c).cur with
      | some b => failAttempt c b s
      | none => s
    modCan c (fun x => { x with recovering := false }) (s.put (F.CFD_STAT_STATE c) canInit)
  else if now ≠ 0 && was = 0 then
    if faultLevel (s.fld (F.CFD_ECNT_TEC c)) (s.fld (F.CFD_ECNT_REC c)) = 2 then enterBusOff c s
    else s.put (F.CFD_STAT_STATE c) canIntegrating
  else s

end Sys2Proof.Machine
end

