-- ==== Sys2Proof/Machine/Bough.lean ====
section
/-! DEFINITION. The Bough pairs: comparator, agreement path, split and join, loss and re-admission, interrupts (R453 to R467). -/

namespace Sys2Proof.Machine

/-- Pair `p` beside its registers. -/
def bghPair (s : State) (p : Nat) : BghPair := spGet {} s.bgh p
/-- The state with pair `p` changed. -/
def modPair (p : Nat) (f : BghPair → BghPair) (s : State) : State := { s with bgh := spSet {} p (f (bghPair s p)) s.bgh }

/-- Pair states (R467). -/
def bgLockstep : Nat := 0
def bgSplitting : Nat := 1
def bgSplit : Nat := 2
def bgJoining : Nat := 3
def bgLost : Nat := 4
def bgSelftest : Nat := 5
def bgQuarantine : Nat := 6

/-- The state of pair `p`. -/
def pairState (s : State) (p : Nat) : Nat := s.fld (F.BGH_PAIR_STAT_STATE p)

/-- An event of a pair (R466). -/
def bghEvent (code sev p a1 a2 a3 : Nat) (s : State) : State :=
  raise { code := code, oid := 0x28 + p, sev := sev, a0 := p, a1 := a1, a2 := a2, a3 := a3 } s

/-- SAFE shows whether the pair compares under the exchange path (R455, R458). -/
def showSafe (p : Nat) (s : State) : State :=
  let on := pairState s p = bgLockstep || pairState s p = bgSplitting
  s.put (F.BGH_PAIR_STAT_SAFE p) (ofBool (on && !(s.flag (F.BGH_PAIR_CFG_AGREE p)) && !(s.flag (F.BGH_PAIR_STAT_AGFAIL p))))

/-- Pair `p` enters a state. -/
def setPair (p st : Nat) (s : State) : State := showSafe p (s.put (F.BGH_PAIR_STAT_STATE p) st)

/-- The architectural state of core `c`; in lockstep core 2p holds that of both copies (R457). -/
def bghCore (s : State) (c : Nat) : BghCore := spGet {} s.bghCore c
/-- The state with core `c`'s. -/
def setBghCore (c : Nat) (k : BghCore) (s : State) : State := { s with bghCore := spSet {} c k s.bghCore }

/-- Core `c` has written its dirty lines back and holds no reservation (R462, R463). -/
def cleanCore (c : Nat) (s : State) : State :=
  s.setMs { s.memsys with dirty := s.memsys.dirty.filter (·.core ≠ c), resv := s.memsys.resv.filter (·.core ≠ c) }

/-- The lines that the cores of pair `p` hold dirty are lost with the pair (R464): whether a cache had written one back by then, the spec leaves open, so
each of them is, by a free choice, as it was before or as the core left it (log entry 114). -/
def loseLines (p : Nat) (s : State) : State :=
  let s := (s.memsys.dirty.filter (·.core / 2 = p)).foldl (fun s d =>
    let f := s.freeNat
    if f.1 % 2 = 0 then f.2 else f.2.wrBytes d.line d.was) s
  cleanCore (2 * p) (cleanCore (2 * p + 1) s)

/-- The pair is lost (R459, R464). -/
def losePair (p : Nat) (s : State) : State :=
  modPair p (fun x => { x with passed := false }) ((setPair p bgLost (loseLines p s)).put (F.BGH_PAIR_STAT_PARKED p) 0)

/-- BGH_HANDOVER_ERR by writer `oid` for command bit `bit` (R461, R466). -/
def handoverErr (p bit oid : Nat) (s : State) : State :=
  raise { code := 0xB006, oid := oid, sev := 1, a0 := p, a1 := bit, a2 := pairState s p } s

/-- No Bough image was accepted: the pairs stay in reset until the next global reset (R504). -/
def pairsHeld (s : State) : Bool := s.fld F.SAP_BOOT_STAGE = 5 && !(s.flag F.SAP_STAT_BIMG)

/-- The number of `mip`. -/
def csrMip : Nat := 0x344

/-- The follower of pair `p` parks (R463): its lines are written back, and its pending interrupt bits are ORed into core 2p's. -/
def parkFollower (p : Nat) (s : State) : State :=
  let k := bghCore s (2 * p)
  let ip := spGet 0 k.csr csrMip ||| spGet 0 (bghCore s (2 * p + 1)).csr csrMip
  cleanCore (2 * p + 1) (setBghCore (2 * p) { k with csr := spSet 0 csrMip ip k.csr } s)

/-- BGH_PAIRp_CMD was written with the bits whose writer R467 admits (R461 to R465). -/
def pairCmdWritten (p data oid : Nat) (s : State) : State :=
  if pairsHeld s then s
  else
  let s := if bitAt data 0 && pairState s p = bgLockstep then
      if s.flag (F.BGH_PAIR_CFG_SPLITOK p) then setPair p bgSplitting s else handoverErr p 0 oid s
    else s
  let s := if bitAt data 1 && pairState s p = bgSplit then
      let s := s.put (F.BGH_CORE_IPEND_PEND (2 * p)) (s.fld (F.BGH_CORE_IPEND_PEND (2 * p)) ||| s.fld (F.BGH_CORE_IPEND_PEND (2 * p + 1)))
      parkFollower p (s.put (F.BGH_PAIR_STAT_PARKED p) 1)
    else if bitAt data 2 && pairState s p = bgSplit then s.put (F.BGH_PAIR_STAT_PARKED p) 0
    else s
  let s := if bitAt data 3 && pairState s p = bgSplit then
      if s.flag (F.BGH_PAIR_STAT_PARKED p) then setPair p bgJoining s else handoverErr p 3 oid s
    else s
  let s := if bitAt data 4 && pairState s p = bgLost then modPair p (fun x => { x with passed := false }) (setPair p bgSelftest s) else s
  if bitAt data 5 && pairState s p = bgQuarantine && (bghPair s p).passed then
    let pc := (s.reg (Reg.BGH_PAIR_ENTRY_LO p)).toNat + s.fld (F.BGH_PAIR_ENTRY_HI_PC_HI p) * 2 ^ 32
    let s := modPair p (fun x => { x with passed := false }) s
    let s := setBghCore (2 * p) { pc := BitVec.ofNat 64 pc } (setBghCore (2 * p + 1) {} s)
    let s := [2 * p, 2 * p + 1].foldl (fun s c => (s.put (F.BGH_CORE_IEN_EN c) 0).put (F.BGH_CORE_STAT_CTX c) 0) s
    bghEvent 0xB008 0 p 0 0 0 (setPair p bgLockstep (s.put (F.BGH_PAIR_STAT_AGFAIL p) 0))
  else s

/-- BGH_COREc_IPSET was written (R456). -/
def ipsetWritten (c data : Nat) (s : State) : State := s.put (F.BGH_CORE_IPEND_PEND c) (s.fld (F.BGH_CORE_IPEND_PEND c) ||| data)

/-- Both cores of pair `p` hold the pair's state after a split; nothing is pending at core 2p + 1 (R462). -/
def copyLeader (p : Nat) (s : State) : State :=
  let k := bghCore s (2 * p)
  cleanCore (2 * p) (setBghCore (2 * p + 1) { k with csr := spSet 0 csrMip 0 k.csr } s)

/-- SPLIT_COMPLETE (R461, R462): both cores resume; what is pending goes to core 2p, and both take the pair's context. -/
def execSplitComplete (pair : Fin 4) (lines ns : BitVec 32) (s : State) : Ans :=
  let p : Nat := pair
  if pairState s p ≠ bgSplitting then .next s
  else
    let s := s.put (F.BGH_CORE_IPEND_PEND (2 * p + 1)) 0
    let s := s.put (F.BGH_CORE_STAT_CTX (2 * p + 1)) (s.fld (F.BGH_CORE_STAT_CTX (2 * p)))
    .next (bghEvent 0xB004 0 p lines.toNat ns.toNat 0 (setPair p bgSplit (copyLeader p s)))

/-- JOIN_COMPLETE (R461, R463): the comparator's test has passed, or failed. -/
def execJoinComplete (pair : Fin 4) (ok : Bool) (ns : BitVec 32) (s : State) : Ans :=
  let p : Nat := pair
  if pairState s p ≠ bgJoining then .next s
  else if ok then
    let s := s.put (F.BGH_CORE_STAT_CTX (2 * p + 1)) (s.fld (F.BGH_CORE_STAT_CTX (2 * p)))
    let s := cleanCore (2 * p) (setBghCore (2 * p + 1) {} s)
    .next (bghEvent 0xB005 0 p ns.toNat 0 0 (setPair p bgLockstep (s.put (F.BGH_PAIR_STAT_PARKED p) 0)))
  else .next (bghEvent 0xB009 3 p 4 0 0 (losePair p s))

/-- PAIR_SELFTEST_COMPLETE (R461, R464): the self-test or the quarantine run ends. -/
def execPairSelftestComplete (pair : Fin 4) (fails : List RowFail) (ok : Bool) (s : State) : Ans :=
  let p : Nat := pair
  if pairState s p = bgSelftest then
    let s := marchFails fails s
    .next (if ok then setPair p bgQuarantine s else bghEvent 0xB009 3 p 1 0 0 (losePair p s))
  else if pairState s p = bgQuarantine && !(bghPair s p).passed then
    .next (if ok then modPair p (fun x => { x with passed := true }) s else bghEvent 0xB009 3 p 2 0 0 (losePair p s))
  else .next s

/-- A copy of pair `p` reads the word at byte offset `off` of its L1 or L2 with a syndrome (R306, R307): an uncorrectable word is MEM_UE and the loss of the
pair (R308, R309, R461, R464). An offset outside the macro names no word. -/
def pairBadWord (p : Nat) (copy l2 : Bool) (off synd : Nat) (s : State) : State :=
  let c := 2 * p + ofBool copy
  let oid := if pairState s p = bgLockstep || pairState s p = bgSplitting then 0x28 + p else 0x20 + c
  let w := (if l2 then l2Base c else l1Base c) + off / 8 * 8
  if (if l2 then 0x80000 else 0x10000) ≤ off then s
  else match scanWords oid false [w] (s.setMs { s.memsys with synd := spSet 0 w (BitVec.ofNat 8 synd) s.memsys.synd }) with
    | (true, s) => s
    | (false, s) => losePair p s

/-- BOUGH_PAIR_TRANSACTION (R457 to R459, R464): a mismatch loses the pair on the exchange path and is only reported on the per-copy path. -/
def execBoughPairTransaction (pair : Fin 4) (tx : BghTx) (s : State) : Ans :=
  let p : Nat := pair
  let st := pairState s p
  if pairsHeld s then .next s
  else match tx with
  | .same => .next s
  | .differ a0 a1 k =>
    if (st ≠ bgLockstep && st ≠ bgSplitting) || k = 0 then .next s
    else if s.flag (F.BGH_PAIR_STAT_SAFE p) then
      let s := { s with hwd := { s.hwd with faults := s.hwd.faults ++ [⟨p, a0.toNat % 2 ^ 32, a1.toNat % 2 ^ 32, k.toNat⟩] } }
      .next (bghEvent 0xB001 3 p (a0.toNat % 2 ^ 32) (a1.toNat % 2 ^ 32) k.toNat (losePair p s))
    else .next (bghEvent 0xB002 1 p (a0.toNat % 2 ^ 32) (a1.toNat % 2 ^ 32) k.toNat (s.incHold (F.BGH_PAIR_STAT_ADVCNT p)))
  | .badWord copy l2 off x =>
    .next (if st ≤ bgJoining then pairBadWord p copy l2 off.toNat x.toNat s else s)

/-- BGH_AGREE_FALLBACK (R458): the agreement unit's check fails. -/
def execBghAgreeFallback (pair : Fin 4) (s : State) : Ans :=
  let p : Nat := pair
  if s.flag (F.BGH_PAIR_STAT_SAFE p) then .next (bghEvent 0xB007 1 p 0 0 0 (showSafe p (s.put (F.BGH_PAIR_STAT_AGFAIL p) 1)))
  else .next s

/-- PAIR_SIGNATURE_CHECK (R460). -/
def execPairSignatureCheck (pair : Fin 4) (c0 c1 : List (BitVec 8)) (s : State) : Ans :=
  let p : Nat := pair
  if pairState s p ≠ bgLockstep || pairsHeld s then .next s
  else
    let j := (bghPair s p).slice
    let s := modPair p (fun x => { x with slice := (j + 1) % 128 }) s
    .next (if crc32c c0 = crc32c c1 then s else bghEvent 0xB003 1 p j (crc32c c0) (crc32c c1) s)

/-- MTIMECMP_MATCH (R456): the timer interrupt of the core becomes pending; in lockstep core 2p + 1 has no registers of its own. -/
def execMtimecmpMatch (core : Fin 8) (s : State) : Ans :=
  let c : Nat := core
  if s.reg64 (Reg.BGH_CORE_MTIMECMP_LO c) ≤ bghMtime s && (c % 2 = 0 || pairState s (c / 2) = bgSplit) then .next (s.emit (.bghIrq c 7))
  else .next s

end Sys2Proof.Machine
end

