-- ==== Sys2Proof/Machine/Events.lean ====
section
/-! DEFINITION. The event queue, notification, and the post-mortem dump (25_events_dump.md, R294, R518 to R535). -/

namespace Sys2Proof.Machine

/-! ### The event queue (R522 to R524) -/

/-- An event record as its 32 bytes (R518). -/
def recordBytes (r : EvRec) : List Byte :=
  leBytes 8 r.time ++ leBytes 2 r.code ++ leBytes 2 (r.oid % 1024) ++ leBytes 1 (r.ctx % 64) ++ leBytes 1 r.sev ++ leBytes 2 r.seq
    ++ leBytes 4 r.a0 ++ leBytes 4 r.a1 ++ leBytes 4 r.a2 ++ leBytes 4 r.a3

/-- Is the event queue full (R524)? -/
def evqFull (s : State) : Bool :=
  2 ^ s.fld F.EVQ_CTRL_QSZ ≤ ((s.fld F.EVQ_WR_WR + 2 ^ 32 - s.fld F.EVQ_RD_RD) % 2 ^ 32)

/-- The address of the record to write next (R522). -/
def evqAddr (s : State) : Nat :=
  s.fld F.EVQ_BASE_LO_BASE_LO * 0x1000 + s.fld F.EVQ_BASE_HI_BASE_HI * 2 ^ 32 + 32 * (s.fld F.EVQ_WR_WR % 2 ^ s.fld F.EVQ_CTRL_QSZ)

/-- EN has cleared: the destined records still unwritten are dropped (R524). -/
def evqClosed (s : State) : State :=
  s.evq.queue.foldl (fun s r => dropRecord r s) (s.setEvq { s.evq with queue := [] })

/-- EVQ_CTRL was written; `was` is EN before. -/
def evqEnWritten (was : Bool) (s : State) : State := if was && !(s.flag F.EVQ_CTRL_EN) then evqClosed s else s

/-- A record is written to the queue and notifies; a write that fails clears EN and drops it (R522, R525). -/
def queueRecord (r : EvRec) (s : State) : State :=
  match nocWrite 0x30 0 (evqAddr s) (recordBytes r) s with
  | (true, s) => notify r.sev (s.incMod F.EVQ_WR_WR)
  | (false, s) => evqClosed (dropRecord r (s.put F.EVQ_CTRL_EN 0))

/-- The EVQ_LOST record owed comes before any other record (R524, R533). -/
def writeLost (l : LostAcc) (s : State) : State :=
  let x := enterHist false { code := 0x0001, oid := 0x30, sev := 1, a0 := l.count, a1 := l.sev, a2 := l.first, a3 := l.last }
    (s.setEvq { s.evq with lost := none })
  queueRecord x.1 x.2

/-- EVENT_RECORD_WRITE (R522, R524): the next destined record is written, or dropped where it meets a full queue. -/
def execEventRecordWrite (s : State) : Ans :=
  if !(s.flag F.EVQ_CTRL_EN) then .next s
  else if evqFull s then
    match s.evq.queue with
    | [] => .next s
    | r :: rest => .next (dropRecord r (s.setEvq { s.evq with queue := rest }))
  else match s.evq.lost with
    | some l => .next (writeLost l s)
    | none => match s.evq.queue with
      | [] => .next s
      | r :: rest => .next (queueRecord r (s.setEvq { s.evq with queue := rest }))

/-- COALESCE_EXPIRY (R525): the interval of a vector ends; a record that fell inside it fires now and starts the next interval. -/
def execCoalesceExpiry (vec : BitVec 6) (s : State) : Ans :=
  let v := vec.toNat
  match spGet 0 s.evq.coal v with
  | 0 => .next s
  | 1 => .next (s.setEvq { s.evq with coal := spSet 0 v 0 s.evq.coal })
  | _ => .next ((s.setEvq { s.evq with coal := spSet 0 v 1 s.evq.coal }).msix v)

/-! ### The sections of a dump (R294, R531) -/

/-- The word of a register, as its bytes. -/
def regBytes (s : State) (off : Nat) : List Byte := leBytes 4 (s.reg off).toNat

/-- An active watch entry (R294). -/
def watchEntry (tgt ring place : Nat) : List Byte := leBytes 4 tgt ++ leBytes 2 ring ++ leBytes 1 place ++ [1]

/-- The watch of the wait at the head of a queue of core `c`: a wait on a global ring (R293). -/
def queueWatch (s : State) (c : Nat) (q : QName) (place : Nat) : List Byte :=
  match effHead ((s.core c).queue q) with
  | some (_, e, _) => if e.isWait && e.seen && ringGlobal (e.ring c) then watchEntry (e.x % 2 ^ 32).toNat (e.ring c) place else List.replicate 8 0
  | none => List.replicate 8 0

/-- The five watch entries of core `c` (R294). -/
def coreWatches (s : State) (c : Nat) : List Byte :=
  queueWatch s c .sync 0 ++ queueWatch s c .dma 1 ++ queueWatch s c .array 2 ++ queueWatch s c .twig 3
    ++ match (s.core c).seqWait with
      | some (r, t) => if ringGlobal r then watchEntry t r 4 else List.replicate 8 0
      | none => List.replicate 8 0

/-- The owed signals (R289, R294): ring, context, agent, increment. -/
def owedTable (s : State) : List (Nat × Nat × Nat × Nat) :=
  (s.owed.map fun o => (o.ring, o.ctx, o.oid, o.inc))
    ++ (List.range 64).flatMap fun c =>
      ((kvpOwed s c).map fun r => (r, c, kvpOid, 1)) ++ ((coresOwed s c).map fun o => (o.1, c, o.2.2.1, o.2.2.2)) ++ (grvOwed s c).map fun g => (g.1, c, grvOid, g.2.2)

/-- `l` cut or filled with zero bytes to `n`. -/
def fillTo (n : Nat) (l : List Byte) : List Byte := l.take n ++ List.replicate (n - l.length) 0

/-- The ring section (R294); `stopped` marks the banks whose clock is stopped. -/
def ringSection (stopped : Nat) (s : State) : List Byte :=
  leBytes 8 (recTime s.ns) ++ leBytes 1 (127 ^^^ (stopped % 128)) ++ List.replicate 55 0
    ++ ((List.range 6).flatMap fun c => (List.range 256).flatMap fun r => regBytes s (Reg.CRN_RING c r))
    ++ ((List.range 1024).flatMap fun r => regBytes s (Reg.GRN_VAL (r / 128) (r % 128)))
    ++ ((List.range 6).flatMap fun c => coreWatches s c) ++ List.replicate 16 0
    ++ fillTo 0x800 ((owedTable s).flatMap fun o => leBytes 2 o.1 ++ leBytes 1 o.2.1 ++ leBytes 1 o.2.2.1 ++ leBytes 4 o.2.2.2)

/-- The entry of context `c` (R531). -/
def ctxEntry (s : State) (c : Nat) : List Byte :=
  let run := s.sched.jobs.filter fun j => j.ctx = c && j.dispatched
  regBytes s (Reg.SCH_CTX_STAT c) ++ regBytes s (Reg.SCH_CTX_HEAD c) ++ regBytes s (Reg.SCH_CTX_TAIL c) ++ regBytes s (Reg.SCH_CTX_DONE c)
    ++ leBytes 8 ((run.map fun j => j.d.jobId).headD 0) ++ leBytes 1 (run.foldl (fun b j => b ||| unitsByte { j with late := false }) 0)
    ++ leBytes 1 (s.fld (F.SCH_CTX_CFG_EN c) + 2 * s.fld (F.SCH_CTX_CFG_SAFE c)) ++ leBytes 2 (s.fld (F.SCH_CTX_MISS_MISS c))
    ++ regBytes s (Reg.KVP_CQ_HEAD c)

/-- Entry `u` of the unit section (R531); `cyc` is the cycle count, which is free. -/
def unitEntry (s : State) (u cyc : Nat) : List Byte :=
  fillTo 32 (
    if u < 6 then regBytes s (Reg.CRN_STATE u) ++ leBytes 4 (qstat (s.core u)) ++ regBytes s (Reg.CRN_FLAGS u) ++ regBytes s (Reg.CRN_ACCSTAT u)
      ++ leBytes 4 (s.core u).pc ++ leBytes 4 cyc
    else if u = 6 then regBytes s Reg.SPL_STATE ++ List.replicate 4 0 ++ regBytes s Reg.SPL_FLAGS ++ List.replicate 4 0
      ++ regBytes s Reg.SPL_DESC_LO ++ regBytes s Reg.SPL_DESC_HI
    else if 8 ≤ u && u < 12 then regBytes s (Reg.BGH_PAIR_STAT (u - 8)) ++ List.replicate 4 0 ++ leBytes 8 (bghCore s (2 * (u - 8))).pc.toNat
    else [])

/-- The queue section (R531). -/
def queueSection (s : State) : List Byte :=
  fillTo 0x400 (((List.range 64).flatMap fun c => regBytes s (Reg.GRV_CH_HEAD c))
    ++ ((List.range 16).flatMap fun n => regBytes s (Reg.SDB_STR_ADM n) ++ regBytes s (Reg.SDB_STR_EMIT n) ++ regBytes s (Reg.SDB_STR_HEAD n)
        ++ regBytes s (Reg.SDB_STR_FCNT n))
    ++ ((List.range 2).flatMap fun p =>
        ((List.range 8).flatMap fun i => regBytes s (Reg.ETH_TX_HEAD p i) ++ regBytes s (Reg.ETH_TX_TAIL p i))
          ++ (List.range 8).flatMap fun i => regBytes s (Reg.ETH_RX_HEAD p i) ++ regBytes s (Reg.ETH_RX_TAIL p i))
    ++ regBytes s Reg.EVQ_WR ++ regBytes s Reg.EVQ_RD ++ regBytes s Reg.EVQ_SEQ ++ regBytes s Reg.EVQ_LOST)

/-- The safety section (R531). -/
def safetySection (s : State) : List Byte :=
  fillTo 0x180 (regBytes s Reg.HWD_STATE ++ regBytes s Reg.HWD_CAUSES ++ regBytes s Reg.HWD_ACCEPT ++ regBytes s Reg.HWD_REJECT
    ++ ((List.range 4).flatMap fun n => regBytes s (Reg.HWD_GCH_LASTSEQ n)) ++ regBytes s Reg.CMB_STAT ++ regBytes s Reg.CMB_CHSTAT
    ++ regBytes s Reg.CMB_CYC_LO ++ regBytes s Reg.CMB_CYC_HI ++ regBytes s Reg.RLK_STAT ++ List.replicate 12 0
    ++ (List.range 128).flatMap fun a => leBytes 1 (s.reg (Reg.CMB_AX_STAT a)).toNat ++ leBytes 1 (s.fld (F.CMB_AX_MISS_RUN a)))

/-- The history section (R531). -/
def historySection (s : State) : List Byte := fillTo 0x800 (s.evq.hist.flatMap recordBytes)

/-! ### The dump (R529 to R532) -/

/-- First address of dump slot `k` (R530). -/
def slotBase (k : Nat) : Nat := 0x2023000000 + 0x8000 * k

/-- The dump engine writes the Pith store; a wipe drops the write (R484). -/
def dumpWrite (a : Nat) (bs : List Byte) (s : State) : State := if wiping s then s else s.wrBytes a bs

/-- No dump is in progress: a trigger held starts the next one (R529, R534). -/
def dumpOver (s : State) : State :=
  ((s.setEvq { s.evq with dump := none, want := s.evq.want.or s.evq.held, held := if s.evq.want.isSome then s.evq.held else none }).put
    F.EVQ_DUMPSTAT_BUSY 0).put F.EVQ_DUMPSTAT_PENDING (ofBool (s.evq.want.isSome && s.evq.held.isSome))

/-- DUMP_FAILED (R530, R532, R533). -/
def dumpFailed (reason trig : Nat) (s : State) : State := raise { code := 0x0003, oid := 0x3F, sev := 1, a0 := reason, a1 := trig } s

/-- A wipe starts while a dump runs: the dump ends (R532). -/
def dumpWiped (s : State) : State :=
  match s.evq.dump with
  | some d => dumpFailed 2 d.trig.trig (dumpOver s)
  | none => s

/-- The hold bit of dump slot `k`. -/
def holdField (k : Nat) : RegField := if k = 0 then F.EVQ_DUMPSTAT_HOLD0 else F.EVQ_DUMPSTAT_HOLD1

/-- The slot a dump goes to (R530): none if both are held. -/
def dumpSlot (s : State) : Option Nat :=
  let k := 1 - s.fld F.EVQ_DUMPSTAT_LAST
  if !(s.flag (holdField k)) then some k else if !(s.flag (holdField (1 - k))) then some (1 - k) else none

/-- VALID of the dump header (R531). -/
def dumpValid (banks secs : Nat) : Nat := ofBool (banks % 128 = 0) + (62 &&& (63 ^^^ secs % 64))

/-- The dump's sections but the history (R531); the cycle counts are free values. -/
def captureSections (slot banks : Nat) (s : State) : State :=
  let f := s.free
  let units := (List.range 16).flatMap fun u => unitEntry s u (Config.freeValue (f + u))
  dumpWrite (slotBase slot + 0x40) (ringSection banks s ++ ((List.range 64).flatMap fun c => ctxEntry s c) ++ units ++ queueSection s
    ++ safetySection s) { s with free := f + 16 }

/-- A dump starts (R530, R531): the slot's header is cleared and the sections are captured; VALID waits in the header's place. -/
def startDump (t : DumpTrig) (banks secs : Nat) (s : State) : State :=
  let s := s.setEvq { s.evq with want := none }
  match dumpSlot s with
  | none => dumpFailed 1 t.trig (dumpOver s)
  | some k =>
    if wiping s then dumpFailed 2 t.trig (dumpOver s)
    else
      let s := (s.setEvq { s.evq with dump := some ⟨t, k, s.elapsed, s.ns⟩ }).put F.EVQ_DUMPSTAT_BUSY 1
      captureSections k banks (dumpWrite (slotBase k) (fillTo 64 (List.replicate 28 0 ++ leBytes 1 (dumpValid banks secs))) s)

/-- DUMP (R529 to R531): the trigger that has come starts a dump; `fw` is a request by the Heartwood firmware. -/
def execDump (fw : Bool) (banks : BitVec 7) (secs : BitVec 6) (s : State) : Ans :=
  let s := if fw then dumpTrigger ⟨4, 0, 0⟩ s else s
  match s.evq.dump, s.evq.want with
  | none, some t => .next (startDump t banks.toNat secs.toNat s)
  | _, _ => .next s

/-- The header of a complete dump (R531). -/
def dumpHeader (d : DumpRun) (valid count crc : Nat) : List Byte :=
  fillTo 64 (leBytes 4 0x504D5544 ++ leBytes 2 1 ++ leBytes 1 d.trig.trig ++ [1] ++ leBytes 8 (recTime d.startNs) ++ leBytes 2 d.trig.code
    ++ leBytes 2 d.trig.seq ++ leBytes 4 0x4900 ++ leBytes 4 count ++ leBytes 1 valid ++ List.replicate 3 0 ++ leBytes 4 crc)

/-- DUMP_COMPLETE (R530 to R533): history and header are written, LAST and HOLD set, and DUMP_DONE is raised. -/
def execDumpComplete (ns : BitVec 32) (s : State) : Ans :=
  match s.evq.dump with
  | none => .next s
  | some d =>
    let base := slotBase d.slot
    let valid := (s.byte (base + 28)).toNat
    let s := dumpWrite (base + 0x4100) (historySection s) s
    let s := (s.incHold F.EVQ_DUMPSTAT_COUNT).put F.EVQ_DUMPSTAT_LAST d.slot
    let count := s.fld F.EVQ_DUMPSTAT_COUNT
    let s := dumpWrite base (dumpHeader d valid count (crc32c (s.bytes (base + 0x40) 0x48C0))) s
    let s := if d.trig.trig ≤ 2 then s.put (holdField d.slot) 1 else s
    .next (raise { code := 0x0002, oid := 0x3F, a0 := d.slot, a1 := d.trig.trig, a2 := ns.toNat, a3 := count } (dumpOver s))

/-- EVQ_DUMPCMD was written (R529). -/
def dumpCmdWritten (data : Nat) (s : State) : State := if bitAt data 0 then dumpTrigger ⟨3, 0, 0⟩ s else s

end Sys2Proof.Machine
end

