-- ==== Sys2Proof/Machine/RegWrite.lean ====
section
/-! DEFINITION. What a write does to a register word, field by field, and the change counters with their coarse fuse bits
(R11, R13, R29, R34, R35, R470, R482, R483). -/

namespace Sys2Proof.Machine

/-! ### Fields (R11, R13, R29) -/

/-- May the writer write a field whose Who column is `who` (R11)? The column names role ports. -/
def whoMay (who oid : Nat) : Bool := decide (oid < 3) && bitAt who oid

/-- The value of a field after a write of `d` that takes effect: plain, or a mask through an alias (R13, R29). RO and WO fields keep theirs;
W1S fields act through what their register does. -/
def fieldNew (acc : Acc) (kind : AliasKind) (old d : Nat) : Nat :=
  match acc with
  | .rw | .rwl | .wos => if kind = 0 then d else if kind = 1 then old ||| d else old ^^^ (old &&& d)
  | .w1c => if kind = 1 then old else old ^^^ (old &&& d)
  | .ro | .wo | .w1s => old

/-- The bits of a write that trigger an action in a field: a plain write of a WO field, a plain or bit-set write of a W1S field. -/
def fieldTrig (acc : Acc) (kind : AliasKind) (d : Nat) : Nat :=
  match acc with
  | .wo => if kind = 0 then d else 0
  | .w1s => if kind = 2 then 0 else d
  | _ => 0

/-- The lock that an RWL field obeys (R34, R43): its register and bit. -/
def lockOf (off : Nat) : Nat × Nat :=
  let b := off / 0x10000
  if off = Reg.SYS_STRICT then (Reg.SYS_LOCK, 0)
  else if off = Reg.SYS_XPEN then (Reg.SYS_LOCK, 1)
  else if b = 0x07 || b = 0x23 || b = 0x27 || b = 0x29 then (off / 0x1000 * 0x1000 + 0x7F0, 0)
  else (b * 0x10000 + 0x7F0, 0)

/-- Is the field locked by its access code (R13, R34)? -/
def accLocked (s : State) (off : Nat) (f : FieldDef) : Bool :=
  match f.acc with
  | .rwl => bitAt (s.reg (lockOf off).1).toNat (lockOf off).2
  | .wos => s.wos.contains (off, f.lo)
  | _ => false

/-- `v` held between two bounds. -/
def clampTo (lo hi v : Nat) : Nat := max lo (min hi v)

/-- The word a register takes for a word written to it: fields whose description clamps or fixes values (R343, R486, R507). -/
def normWord (off w : Nat) : Nat :=
  if off = Reg.SAP_CAP then insertBits w 8 0 (clampTo 40 300 (slice w 8 0))
  else if off = Reg.SAP_CRNF then insertBits w 26 16 (clampTo 500 1800 (slice w 26 16) / 50 * 50)
  else if off = Reg.SAP_THERM then
    let t := clampTo 85 110 (slice w 7 0)
    insertBits (insertBits w 7 0 t) 15 8 (clampTo (t + 5) 120 (slice w 15 8))
  else if off = Reg.SAP_VGUARD then insertBits w 7 0 (clampTo 10 100 (slice w 7 0))
  else if off = Reg.HWD_SAFECFG then insertBits w 13 0 (clampTo 100 10000 (slice w 13 0))
  else if off = Reg.LCS_TEN then w ||| 9
  else w

/-- What a write to a register word comes to: the new word, the triggered bits, the fields that are now written once, the first field that
refuses it as locked. -/
structure WordWrite where
  new : Nat
  trig : Nat := 0
  wos : List Nat := []
  lock : Option Acc := none
  deriving DecidableEq, Repr

/-- The fields of a register take a write in turn; `may` says whether the writer writes the field, `locked` whether the field refuses the value
by a rule of its chapter (R13, R29, R35). -/
def writeFields (s : State) (off : Nat) (kind : AliasKind) (data : Nat) (may : FieldDef → Bool) (locked : FieldDef → Nat → Bool) :
    List FieldDef → WordWrite → WordWrite
  | [], w => w
  | f :: fs, w =>
    if !(may f) then writeFields s off kind data may locked fs w
    else
      let old := slice w.new f.hi f.lo
      let d := slice data f.hi f.lo
      let new := fieldNew f.acc kind old d
      let t := fieldTrig f.acc kind d
      let changes := new ≠ old || t ≠ 0
      if changes && (accLocked s off f || locked f (if t ≠ 0 then t else new)) then
        writeFields s off kind data may locked fs { w with lock := w.lock.or (some f.acc) }
      else
        writeFields s off kind data may locked fs
          { w with new := insertBits w.new f.hi f.lo new, trig := w.trig + t * 2 ^ f.lo
                   wos := if f.acc = .wos && new ≠ old then w.wos ++ [f.lo] else w.wos }

/-- The register takes the word, and its fields written once are marked (R13). -/
def storeWord (off : Nat) (w : WordWrite) (s : State) : State :=
  { s.setReg off (BitVec.ofNat 32 (normWord off w.new)) with wos := s.wos ++ w.wos.map fun lo => (off, lo) }

/-! ### Fuses (R470, R471) -/

/-- Copy `k` of fuse word `w`. -/
def fuseCopy (s : State) (w k : Nat) : Nat := (spGet 0 s.lcs.fuse (3 * w + k)).toNat

/-- The state with bits set in the copies of fuse word `w`; a bit is never cleared. -/
def burn (w : Nat) (a b c : Nat) (s : State) : State :=
  let put (k v : Nat) (t : Sparse Word) : Sparse Word := spSet 0 (3 * w + k) (BitVec.ofNat 32 (fuseCopy s w k ||| v)) t
  { s with lcs := { s.lcs with fuse := put 2 c (put 1 b (put 0 a s.lcs.fuse)) } }

/-- How a fuse word resolves (R470): its value, and whether its copies agree wholly (0), two of them (1) or none (2). -/
def resolveFuse (s : State) (w : Nat) : Nat × Nat :=
  let a := fuseCopy s w 0
  let b := fuseCopy s w 1
  let c := fuseCopy s w 2
  if a = b && b = c then (a, 0)
  else if a = b || a = c then (a, 1)
  else if b = c then (b, 1)
  else if w = 0 then (16, 2)
  else if w = 1 then (3, 2)
  else if 28 ≤ w && w < 40 then (a ||| b ||| c, 2)
  else (0, 2)

/-- Number of bits set in the `n` fuse words from `w`, as they resolve (R470). -/
def fuseCount (s : State) (w n : Nat) : Nat :=
  ((List.range (32 * n)).filter fun i => bitAt (resolveFuse s (w + i / 32)).1 (i % 32)).length

/-- Set the lowest clear bit of the `n` fuse words from `w` in all copies; nothing if every bit is set. -/
def burnNext (w n : Nat) (s : State) : State :=
  match (List.range (32 * n)).find? fun i => !(bitAt (resolveFuse s (w + i / 32)).1 (i % 32)) with
  | some i => burn (w + i / 32) (2 ^ (i % 32)) (2 ^ (i % 32)) (2 ^ (i % 32)) s
  | none => s

/-! ### Change counters (R482, R483) -/

/-- First coarse fuse word of a change counter. -/
def coarseWord (reg : Nat) : Nat := if reg = Reg.LCS_CHG_INST then 32 else 36

/-- A change counter advances; at each multiple of 1,024 it sets its next coarse fuse bit. -/
def bumpChange (reg : Nat) (s : State) : State :=
  let v := (s.reg reg).toNat
  if v = 0xFFFFFFFF then s
  else
    let s := s.setReg reg (BitVec.ofNat 32 (v + 1))
    if (v + 1) % 1024 = 0 then burnNext (coarseWord reg) 4 s else s

end Sys2Proof.Machine
end

