-- ==== Sys2Proof/Machine/Lifecycle.lean ====
section
/-! DEFINITION. Lifecycle, fuses, the Pith store's wipe, tamper sensing, rollback counts, and the global reset that a lifecycle
transition and the other causes share (22_roles_lifecycle_pith.md, R468 to R486, R499, R500). -/

namespace Sys2Proof.Machine

/-- Lifecycle states (R486). -/
def lcBlank : Nat := 0
def lcMaker : Nat := 1
def lcProvisioned : Nat := 2
def lcField : Nat := 3
def lcReturn : Nat := 4
def lcEnd : Nat := 5

/-- The lifecycle state in force (R472, R486). -/
def lcState (s : State) : Nat := s.fld F.LCS_STAT_STATE
/-- The LCS record updated. -/
def State.setLcs (s : State) (x : Lcs) : State := { s with lcs := x }
/-- The record of power and resets updated. -/
def State.setSap (s : State) (x : Sap) : State := { s with sap := x }

/-- An event of the lifecycle class (R485). -/
def lcEvent (code oid sev a0 a1 a2 a3 : Nat) (s : State) : State :=
  raise { code := code, oid := oid, sev := sev, a0 := a0, a1 := a1, a2 := a2, a3 := a3 } s

/-- LCS_CMD_REFUSED for a write of `data` to the LCS register at `off` (R485). -/
def lcRefused (oid off data : Nat) (s : State) : State := lcEvent 0xD007 oid 1 (off % 0x10000) data (lcState s) 0 s

/-- The change counter of a role (R482). -/
def chgReg (oid : Nat) : Nat := if oid = 1 then Reg.LCS_CHG_INST else Reg.LCS_CHG_MAKER

/-! ### The Pith store (R477 to R480) -/

/-- The Pith store's first address and its size (R477). -/
def pithBase : Nat := 0x2023000000
def pithSize : Nat := 0x40000

/-- Of two wipe causes the lower code stands (R484). -/
def lowerCause (a : Option (Nat × Nat)) (b : Nat × Nat) : Nat × Nat :=
  match a with
  | some x => if x.1 ≤ b.1 then x else b
  | none => b

/-- A wipe starts, or a cause joins the one that runs (R479, R484): every word reads zero with valid check bits, PITHUE clears, a dump ends. -/
def startWipe (cause oid : Nat) (s : State) : State :=
  let s := s.setLcs { s.lcs with wipe := some (lowerCause s.lcs.wipe (cause, oid)) }
  let s := ((s.zero pithBase pithSize).put F.LCS_STAT_WIPING 1).put F.LCS_STAT_PITHUE 0
  dumpWiped s

/-- PITH_WIPED (R479, R485). -/
def pithWiped (w : Nat × Nat) (s : State) : State := lcEvent 0xD004 w.2 1 w.1 0 0 0 s

/-- The wipe ends (R479): its event is raised, or owed to the next boot while main power is absent. -/
def endWipe (s : State) : State :=
  match s.lcs.wipe with
  | none => s
  | some w =>
    let s := (s.setLcs { s.lcs with wipe := none }).put F.LCS_STAT_WIPING 0
    if s.sap.power then pithWiped w s else s.setLcs { s.lcs with owedWipe := some (lowerCause s.lcs.owedWipe w) }

/-- WIPE_COMPLETE (R479). -/
def execWipeComplete (s : State) : Ans := .next (endWipe s)

/-- LCS_PITHCMD was written (R479). -/
def pithCmdWritten (oid data : Nat) (s : State) : State := if bitAt data 0 then startWipe 3 oid s else s

/-! ### Tamper sensing (R481) -/

/-- The sensors of `bits` that can trip now (R481): those enabled whose bit is clear; the backup supply only while main power is absent. -/
def tripping (s : State) (bits : Nat) : Nat :=
  let en := s.fld F.LCS_TEN_EN ||| 9
  let on := bits &&& en &&& (31 ^^^ s.fld F.LCS_TAMPER_TRIP)
  if s.sap.power then on &&& 23 else on

/-- TAMPER_TRIP (R481, R485). -/
def execTamperTrip (sensors : BitVec 5) (s : State) : Ans :=
  let bits := tripping s sensors.toNat
  if bits = 0 then .next s
  else
    let s := startWipe 1 0x30 (s.put F.LCS_TAMPER_TRIP (s.fld F.LCS_TAMPER_TRIP ||| bits))
    .next (if s.sap.power then lcEvent 0xD003 0x30 3 bits 0 0 0 s else s.setLcs { s.lcs with owedTamper := s.lcs.owedTamper ||| bits })

/-! ### The global reset (R499, R500) -/

/-- What a global reset leaves (R499): the AON domain, the fuses and the Pith store stay; everything else is as after power-on. -/
def resetKept (s : State) : State :=
  let kept := { State.reset with
    mem := s.mem.filter fun e => decide (pithBase ≤ e.1) && decide (e.1 < pithBase + pithSize)
    memsys := { synd := s.memsys.synd.filter fun e => decide (pithBase ≤ e.1) && decide (e.1 < pithBase + pithSize), fused := s.memsys.fused }
    lcs := { fuse := s.lcs.fuse, rack := s.lcs.rack, wipe := s.lcs.wipe, owedTamper := s.lcs.owedTamper, owedWipe := s.lcs.owedWipe, changed := s.lcs.changed }
    sap := { power := s.sap.power, onMain := s.sap.onMain, lost := s.sap.lost, held := s.sap.held, aon := aonCount s }
    resp := s.resp, out := s.out, free := s.free, pending := s.pending }
  let keep (r : Nat) (t : State) : State := t.setReg r (s.reg r)
  (keep Reg.LCS_TAMPER (keep Reg.LCS_CHG_INST (keep Reg.LCS_CHG_MAKER kept))).put F.LCS_STAT_WIPING (ofBool s.lcs.wipe.isSome)

/-- Main power is absent and no brown-out waits for its return (R488): a cause then is none of a reset of its own. -/
def powerless (s : State) : Bool := !s.sap.power && s.sap.held.isNone

/-- A global reset is asserted for a cause (R499, R507); of two causes the lower code stands (R505). -/
def globalReset (cause rail : Nat) (s : State) : State :=
  let held := if powerless s then none else some (lowerCause s.sap.held (cause, rail))
  let s := resetKept s
  s.setSap { s.sap with held := held }

/-- Every root-link port in UP sends one STO frame (R500). -/
def resetFrames (s : State) : State := (List.range 16).foldl (fun s p => if portState s p = rlkUp then sendSto p s else s) s

/-! ### Fuses (R470, R471) -/

/-- LCS_FUSE_DISAGREE for a word that is not unanimous, and its count in LCS_FDIS (R470). -/
def fuseDisagree (oid w : Nat) (s : State) : State :=
  let r := resolveFuse s w
  if r.2 = 0 then s
  else
    let s := if s.fld F.LCS_FDIS_COUNT = 0 then s.put F.LCS_FDIS_FIRST w else s
    let s := if r.2 = 2 then s.put F.LCS_FDIS_ALLDIF 1 else s
    lcEvent 0xD002 oid (if r.2 = 2 then 3 else 1) w (ofBool (r.2 = 2)) r.1 0 (s.incHold F.LCS_FDIS_COUNT)

/-- May a fuse program name the word (R471)? -/
def fuseOpen (w : Nat) : Bool := w ≠ 0 && !(decide (32 ≤ w) && decide (w < 40))

/-- LCS_FPROG_CMD was written (R471). -/
def fuseCmdWritten (oid data : Nat) (s : State) : State :=
  if !(bitAt data 0) || s.flag F.LCS_FPROG_STAT_BUSY then s
  else
    let w := s.fld F.LCS_FPROG_IDX_WORD
    if !(tapOpen s) || !(fuseOpen w) then lcRefused oid Reg.LCS_FPROG_CMD data (s.put F.LCS_FPROG_STAT_FAIL 1)
    else
      let s := bumpChange Reg.LCS_CHG_MAKER s
      (s.setLcs { s.lcs with prog := some (w, s.fld F.LCS_FPROG_VAL_VAL, (resolveFuse s w).1) }).put F.LCS_FPROG_STAT_BUSY 1

/-! ### Lifecycle (R472, R473) -/

/-- The words of a key hash as they stand in LCS_FUSEw, 12 from word `w` (R470). -/
def hashWords (s : State) (w : Nat) : List Nat := (List.range 12).map fun i => (s.reg (Reg.LCS_FUSE (w + i))).toNat

/-- Is the hash programmed (R470)? -/
def hashSet (s : State) (w : Nat) : Bool := (hashWords s w).any fun x => x ≠ 0

/-- The device identity (R470). -/
def deviceUid (s : State) : Nat := (s.reg (Reg.LCS_FUSE 2)).toNat + (s.reg (Reg.LCS_FUSE 3)).toNat * 2 ^ 32

/-- Does the table of R472 allow the transition to `target` on a command of port `oid`? -/
def transitionOk (s : State) (oid target : Nat) : Bool :=
  let st := lcState s
  (st = lcMaker && oid = 2 && target = lcProvisioned && hashSet s 4 && hashSet s 16 && bitAt (s.reg (Reg.LCS_FUSE 1)).toNat 1 && deviceUid s ≠ 0)
    || (st = lcProvisioned && oid = 1 && target = lcField && s.lcs.cfgRb.isSome)
    || (st = lcField && oid = 1 && target = lcReturn && s.lcs.retOk)
    || ((st = lcMaker || st = lcReturn) && oid = 2 && target = lcEnd)
    || ((st = lcProvisioned || st = lcField || st = lcReturn) && oid = 1 && target = lcEnd)

/-- The transition sequence of R473; `bad` marks the copies whose bit does not set. -/
def transition (oid target bad : Nat) (s : State) : State :=
  let s := bumpChange (chgReg oid) s
  let s := endWipe (startWipe 2 oid s)
  let bit (k : Nat) : Nat := if bitAt bad k then 0 else 2 ^ (target - 1)
  let s := s.setLcs { s.lcs with next := none, changed := some (lcState s, oid, (s.reg (chgReg oid)).toNat) }
  globalReset 3 0 (resetFrames (burn 0 (bit 0) (bit 1) (bit 2) s))

/-- LCS_LCCMD was written (R472, R484): a fuse program in progress completes first. -/
def lcCmdWritten (oid data bad : Nat) (s : State) : State :=
  let target := slice data 2 0
  if slice data 31 16 ≠ 0x4C43 || !(transitionOk s oid target) then lcRefused oid Reg.LCS_LCCMD data s
  else if s.flag F.LCS_FPROG_STAT_BUSY then s.setLcs { s.lcs with next := some (target, oid) }
  else transition oid target bad s

/-- FUSE_PROGRAM_COMPLETE (R471, R484): the copies take the value but for the bits that did not set, and the word is resolved again. -/
def execFuseProgramComplete (a b c : BitVec 32) (s : State) : Ans :=
  match s.lcs.prog with
  | none => .next s
  | some (w, v, old) =>
    let s := burn w (v &&& (v ^^^ a.toNat)) (v &&& (v ^^^ b.toNat)) (v &&& (v ^^^ c.toNat)) (s.setLcs { s.lcs with prog := none })
    let r := resolveFuse s w
    let s := (s.put F.LCS_FPROG_STAT_BUSY 0).put F.LCS_FPROG_STAT_DONE 1
    let s := if r.1 ≠ old ||| v || r.2 ≠ 0 then s.put F.LCS_FPROG_STAT_FAIL 1 else s
    let s := fuseDisagree 2 w s
    match s.lcs.next with
    | some (t, oid) => .next (transition oid t 0 s)
    | none => .next s

/-! ### Rollback counts (R476) -/

/-- Raise the count held by the two fuse words from `w` to `v`, at most 64; nothing if it would not rise. -/
def raiseCount (w v bit oid : Nat) (s : State) : Bool × State :=
  let n := fuseCount s w 2
  let v := min v 64
  if v ≤ n then (false, s)
  else
    let s := (List.range (v - n)).foldl (fun s _ => burnNext w 2 s) s
    (true, lcEvent 0xD009 oid 0 (2 ^ bit) v 0 0 s)

/-- LCS_RBCMD was written (R476, R482). -/
def rbCmdWritten (oid data : Nat) (s : State) : State :=
  let f := if bitAt data 0 then match s.lcs.fwRb with
      | some v => raiseCount 28 v 0 oid s
      | none => (false, s)
    else (false, s)
  let g := if bitAt data 1 then match f.2.lcs.cfgRb with
      | some v => raiseCount 30 v 1 oid f.2
      | none => (false, f.2)
    else (false, f.2)
  if f.1 || g.1 then bumpChange Reg.LCS_CHG_INST g.2 else g.2

/-! ### SAP_RSTCMD (R500) -/

/-- Does the write refuse the operator (R500)? -/
def rstLocked (s : State) (oid data : Nat) : Bool :=
  bitAt data 0 && oid = 0 && !(seqState s = seqInit || seqState s = seqSto || seqState s = seqRack)

/-- SAP_RSTCMD was written with its key (R499, R500). -/
def rstCmdWritten (data : Nat) (s : State) : State := if bitAt data 0 then globalReset 2 0 (resetFrames s) else s

/-- RESET_N_ASSERT (R499). -/
def execResetNAssert (s : State) : Ans := .next (globalReset 1 0 s)

/-- CLOCK_LOSS (R499). -/
def execClockLoss (clk : LostClock) (s : State) : Ans :=
  .next (globalReset (match clk with | .hwd => 5 | .xtal => 6) 0 s)

/-- BROWN_OUT (R488, R499): main power is no longer good. -/
def execBrownOut (rail : Fin 8) (s : State) : Ans :=
  let s := globalReset 4 rail s
  .next (s.setSap { s.sap with power := false })

end Sys2Proof.Machine
end

