-- ==== Sys2Proof/Machine/Power.lean ====
section
/-! DEFINITION. Sap: supplies, the Crown frequency, the cap, throttle and trip, lane adaptation (23_power_clocks_reset_boot.md, R487 to R498,
R505 to R507). -/

namespace Sys2Proof.Machine

/-- An event of the power, clock and reset class (R506). -/
def sapEvent (code sev a0 a1 : Nat) (s : State) : State := raise { code := code, oid := 0x30, sev := sev, a0 := a0, a1 := a1 } s

/-! ### The supplies (R489, R490) -/

/-- POWER_PATH_SWITCH (R489). -/
def execPowerPathSwitch (main bat : BitVec 13) (s : State) : Ans :=
  .next (s.setSap { s.sap with onMain :=
    if bat.toNat + 50 < main.toNat then true else if main.toNat + 50 < bat.toNat then false else s.sap.onMain })

/-- RETENTION_LOSS (R490): the selected supply stays below 1.70 V before main power is good. -/
def execRetentionLoss (mv : BitVec 13) (s : State) : Ans :=
  .next (if mv.toNat < 1700 && !s.sap.power then s.setSap { s.sap with lost := true } else s)

/-- VBAT_LOW_DETECT (R489): a reading of VBAT. -/
def execVbatLowDetect (mv : BitVec 12) (s : State) : Ans :=
  let low := mv.toNat < 2600
  let s := (s.put F.SAP_VBAT_MV mv.toNat).put F.SAP_VBAT_BATLOW (ofBool low)
  .next (if low && !s.sap.lowTold then sapEvent 0xC009 1 mv.toNat 0 (s.setSap { s.sap with lowTold := true }) else s)

/-! ### Voltage and frequency (R491, R493, R494) -/

/-- Does Sap set the voltage of the domain (R491)? -/
def adaptive (d : Nat) : Bool := d < 12 || d = 13 || (15 ≤ d && d < 18)

/-- VOLTAGE_STEP (R493): one step of 2.5 mV keeps the slack from GUARD to GUARD + 20 ps, within 0.55 V to 0.95 V. -/
def execVoltageStep (dom : Fin 25) (slack : BitVec 16) (s : State) : Ans :=
  let d : Nat := dom
  let g := s.fld F.SAP_VGUARD_GUARD
  let v := spGet 1700 s.sap.mv d
  let v' := if slack.toNat < g then min (v + 5) 1900 else if g + 20 < slack.toNat then max (v - 5) 1100 else v
  if !(adaptive d) then .next s
  else .next ((s.setSap { s.sap with mv := spSet 1700 d v' s.sap.mv }).put (F.SAP_DOM_MV d) (v' / 2))

/-- The six Crown domains run at `f` MHz (R494). -/
def setFreq (f : Nat) (s : State) : State :=
  (List.range 6).foldl (fun s d => s.put (F.SAP_DOM_MHZ d) f) (s.put F.SAP_CRNF_CUR f)

/-- F in MHz. -/
def crownFreq (s : State) : Nat := s.fld F.SAP_CRNF_CUR

/-- One of the two loops chooses F in a decision; where both choose in one decision the lower frequency stands (R505). -/
def chooseFreq (thermal : Bool) (choice : Nat → Nat) (s : State) : State :=
  match s.sap.base with
  | some (who, f0) =>
    if who ≠ thermal then setFreq (min (crownFreq s) (choice f0)) (s.setSap { s.sap with base := none })
    else setFreq (choice (crownFreq s)) (s.setSap { s.sap with base := some (thermal, crownFreq s) })
  | none => setFreq (choice (crownFreq s)) (s.setSap { s.sap with base := some (thermal, crownFreq s) })

/-- SAP_STRICT_VOID (R496). -/
def strictVoid (s : State) : State :=
  sapEvent 0xC003 1 (s.fld F.SAP_STAT_THROT + 2 * ofBool (1000 ≤ s.sap.excess)) (crownFreq s) (s.put F.SAP_STAT_STRICTVOID 1)

/-- The step of the cap loop (R494, R495): `pw` in 0.1 W, `cap` in W. -/
def capStep (pw cap fmax : Nat) (slack : Bool) (f : Nat) : Nat :=
  if 10 * cap < pw then max (f - 50) 500
  else if pw + 20 < 10 * cap && f < fmax && (slack || f + 50 ≤ 1500) then f + 50
  else f

/-- CAP_DECISION without Strict mode (R495). -/
def capLoop (pw : Nat) (slack : Bool) (s : State) : State :=
  let cap := s.fld F.SAP_CAP_CAPW
  let f := crownFreq s
  let fmax := s.fld F.SAP_CRNF_FMAX
  let floor := f = 500 && decide (10 * cap < pw)
  let told := s.flag F.SAP_STAT_CAPFLOOR
  let s := chooseFreq false (fun f => if s.flag F.SAP_STAT_THROT then min f (capStep pw cap fmax slack f) else max 500 (min fmax (capStep pw cap fmax slack f))) s
  let s := s.put F.SAP_STAT_CAPFLOOR (ofBool floor)
  if floor && !told then sapEvent 0xC001 1 cap pw s else s

/-- CAP_DECISION under Strict mode (R496): the excess is reported once per second; above 1.1 times the cap for 10 ms it changes F. -/
def capStrict (pw : Nat) (s : State) : State :=
  let cap := s.sap.cap
  let excess := if 11 * cap < pw then s.sap.excess + 1 else 0
  let due := decide (10 * cap < pw) && (s.sap.since = 0 || 100000 ≤ s.sap.since)
  let since := if 10 * cap < pw then (if due then 1 else s.sap.since + 1) else 0
  let s := s.setSap { s.sap with excess := excess, since := since }
  let s := if due then sapEvent 0xC002 1 cap pw s else s
  if 1000 ≤ excess then
    let s := chooseFreq false (fun f => max (f - 50) 500) s
    if excess = 1000 then strictVoid s else s
  else if s.flag F.SAP_STAT_THROT then s
  else setFreq 1500 s

/-- CAP_DECISION (R495, R496): Sap's decision every 10 µs. -/
def execCapDecision (pw : BitVec 16) (slack : Bool) (s : State) : Ans :=
  let s := s.put F.SAP_PWR_PWR pw.toNat
  .next (if s.flag F.SYS_STRICT_STRICT then capStrict pw.toNat s else capLoop pw.toNat slack s)

/-- The trip point is reached (R497): the Crown cores and Sapling in service are unit losses, and their READMIT is dropped until the module has cooled. -/
def thermalTrip (tj : Nat) (s : State) : State :=
  if s.sched.hot ≠ [] then s
  else
    let us := (List.range 7).filter fun u => inService s u
    let s := s.setSched { s.sched with hot := List.range 7 }
    let s := sapEvent 0xC005 3 tj (us.foldl (fun b u => b + 2 ^ u) 0) s
    hwdServe (loseUnits us 0xC005 s)

/-- THERMAL_SAMPLE (R497): the throttle lowers F until the reading is 5 °C below its point. -/
def execThermalSample (tj thbm : BitVec 8) (s : State) : Ans :=
  let t := tj.toNat
  let s := (s.put F.SAP_TEMP_TJ t).put F.SAP_TEMP_THBM thbm.toNat
  let was := s.flag F.SAP_STAT_THROT
  let thr := s.fld F.SAP_THERM_THROT
  let now := decide (thr ≤ t) || (was && decide (thr < t + 5))
  let s := s.put F.SAP_STAT_THROT (ofBool now)
  let s := if now then chooseFreq true (fun f => max (f - 50) 500) s
    else if was && s.flag F.SYS_STRICT_STRICT && s.sap.excess < 1000 then setFreq 1500 s else s
  let s := if now && !was then sapEvent 0xC004 1 t (crownFreq s) s else s
  let s := if now && !was && s.flag F.SYS_STRICT_STRICT then strictVoid s else s
  let s := if t + 20 < s.fld F.SAP_THERM_TRIP then s.setSched { s.sched with hot := [] } else s
  .next (if s.fld F.SAP_THERM_TRIP ≤ t then thermalTrip t s else s)

/-- SERDES_ADAPTATION (R498): background adaptation of a lane; only its failure is visible. -/
def execSerdesAdaptation (kind : Fin 3) (lane : BitVec 6) (ok : Bool) (s : State) : Ans :=
  .next (if ok || bitAt (s.fld F.SAP_ADAPT_FREEZE) kind then s else sapEvent 0xC008 1 kind lane.toNat s)

end Sys2Proof.Machine
end

