-- ==== Sys2Proof/Machine/RegAccess.lean ====
section
/-! DEFINITION. A write from its arrival at a register to its effect: who may write, what is locked, what each register's write does, values of
several words, writers in one cycle (R11, R13, R29, R32 to R39, R467, R482, and the register tables of every chapter). -/

namespace Sys2Proof.Machine

/-- A write as it reaches a register: writer, alias kind, word; address, length and first word of the access for its events (R42); the copies of
a fuse bit that a lifecycle transition fails to set; whether the word comes from a staging register. -/
structure RegWr where
  oid : Nat
  ctx : Nat
  kind : AliasKind
  data : Nat
  addr : Nat
  len : Nat
  first : Nat
  bad : Nat := 0
  staged : Bool := false
  deriving DecidableEq, Repr

/-- LOCK_VIOLATION for a write (R35, R42). -/
def lockViolation (w : RegWr) (wos : Bool) (s : State) : State :=
  accessEvent 0x3001 w.oid (evCtx w.oid w.ctx) w.addr w.len true w.kind w.first (ofBool wos) 1 s

/-! ### Writers beside the roles (R11, R343, R349, R456, R467) -/

/-- Does a field of the Bough window take writes from this origin (R456, R467)? -/
def bghOwn (oid o lo : Nat) : Bool :=
  if 0x100 ≤ o && o < 0x180 then
    let p := (o - 0x100) / 0x20
    o % 0x20 = 0 && (((lo = 0 || lo = 2) && (oid = 0x28 + p || oid = 0x20 + 2 * p || oid = 0x21 + 2 * p))
      || (lo = 1 && oid = 0x21 + 2 * p) || (lo = 3 && (oid = 0x20 + 2 * p || oid = 0x28 + p)))
  else if 0x200 ≤ o && o < 0x300 then
    let c := (o - 0x200) / 0x20
    o % 0x20 = 8 || (4 ≤ o % 0x20 && (oid = 0x20 + c || (c % 2 = 0 && oid = 0x28 + c / 2)))
  else false

/-- Does a field take writes from an origin that its description names? -/
def ownWriter (oid off lo : Nat) : Bool :=
  if off = Reg.HWD_KICK || off = Reg.CMB_COMMIT then oid = 0x30
  else off / 0x10000 = 0x2B && bghOwn oid (off % 0x10000) lo

/-- May the origin write the field? -/
def mayWrite (oid off : Nat) (f : FieldDef) : Bool := whoMay f.who oid || ownWriter oid off f.lo

/-- May the origin write some field of the register? -/
def mayAny (oid off : Nat) : Bool :=
  match findReg off with
  | some d => d.fields.any (mayWrite oid off)
  | none => false

/-! ### Fields that a rule of their chapter locks -/

/-- May SYS_STRICT change (R508)? -/
def strictFree (s : State) : Bool :=
  ((List.range 7).all fun u => s.fld (unitField u) = uOff || s.fld (unitField u) = uIdle || s.fld (unitField u) = uLost) && s.kvp.exec = []

/-- Does a job dispatched under Strict mode run (R512)? -/
def strictRuns (s : State) : Bool := s.sched.jobs.any fun j => j.strict && j.dispatched

/-- Is it a register of R511? -/
def strictChecked (off : Nat) : Bool :=
  off = Reg.SAP_CRNF || off = Reg.MEM_STARVLIM || off = Reg.SPL_IDLEPAT || off = Reg.KVP_ARB
    || (decide (0x10 ≤ off / 0x10000) && decide (off / 0x10000 < 0x16) && (off % 0x10000 = 0x800 || off % 0x10000 = 0x804))

/-- Scheduler (R277, R281): SCH_OWN_CMD while BUSY; bases and sizes of an enabled context. -/
def schLocked (s : State) (off lo : Nat) : Bool :=
  let o := off % 0x10000
  if off = Reg.SCH_OWN_CMD then s.flag F.SCH_OWN_STAT_BUSY
  else if 0x1000 ≤ o && o < 0x1800 then
    let r := o % 0x20
    (r = 0 || r = 4 || (r = 8 && lo = 0)) && s.flag (F.SCH_CTX_CFG_EN ((o - 0x1000) / 0x20))
  else if 0x2000 ≤ o && o < 0x2800 then (o % 0x20 = 0 || o % 0x20 = 4) && s.flag (F.SCH_CTX_CFG_EN ((o - 0x2000) / 0x20))
  else false

/-- Page keeper (R199). -/
def kvpLocked (s : State) (off lo : Nat) : Bool :=
  let o := off % 0x10000
  if off = Reg.KVP_GEOM || off = Reg.KVP_POOLBASE_LO || off = Reg.KVP_POOLBASE_HI || off = Reg.KVP_POOLCH then s.flag F.KVP_CTRL_EN
  else if 0x100 ≤ o && o < 0x500 then
    (o % 0x10 = 0 || o % 0x10 = 4 || (o % 0x10 = 8 && lo ≠ 4)) && s.flag (F.KVP_CQ_CFG_EN ((o - 0x100) / 0x10))
  else false

/-- Heartwood (R325, R343): in the rack the gate, sequencer and watchdog registers; an enabled channel; EN of a channel that shares an axis. -/
def hwdLocked (s : State) (off lo v : Nat) : Bool :=
  let o := off % 0x10000
  let gch := 0x100 ≤ o && o < 0x180
  if inRack s && (gch || (8 ≤ o && o < 0x20)) then true
  else if gch then
    let n := (o - 0x100) / 0x20
    s.flag (F.HWD_GCH_CFG_EN n) || (o % 0x20 = 8 && lo = 0 && v = 1 && gateEnLocked s n)
  else false

/-- The number of the Bark rule that a register belongs to (R344). -/
def ruleOf (off : Nat) : Option Nat :=
  let o := off % 0x10000
  if off / 0x10000 = 5 && 0x1000 ≤ o && o < 0x5000 && o % 0x1000 < 0x800 then some ((o - 0x1000) / 0x1000 * 128 + o % 0x1000 / 16) else none

/-- Bark's rules (R344): those below BRK_OPBASE are closed to the operator, and to all once locked. -/
def brkLocked (s : State) (oid off : Nat) : Bool :=
  match ruleOf off with
  | some n => n < s.fld F.BRK_OPBASE_BASE && (oid = 0 || s.flag F.BRK_LOCK_LOCK)
  | none => false

/-- Cambium's period and phase (R346). -/
def cmbLocked (s : State) (off v : Nat) : Bool :=
  if off = Reg.CMB_PERIOD then periodLocked s v (s.fld F.CMB_PHASE_PHNS)
  else if off = Reg.CMB_PHASE then periodLocked s (s.fld F.CMB_PERIOD_PERUS) v
  else false

/-- A CAN controller (R395, R405): settings outside INIT, the registers of a pending buffer. -/
def canLocked (s : State) (off lo : Nat) : Bool :=
  let c := off % 0x10000 / 0x1000
  let r := off % 0x1000
  if 0x100 ≤ r && r < 0x220 then canPending s c ((r - 0x100) / 0x60)
  else ((r = 0 && lo ≠ 0) || r = 0x10 || r = 0x14 || r = 0x18 || r = 0x1C) && s.fld (F.CFD_CTRL_MODE c) ≠ 0

/-- TIM (R420, R428): a step at the wrong time; an enabled pulse output, EN with values out of range. -/
def timLocked (s : State) (off lo v : Nat) : Bool :=
  let o := off % 0x10000
  if off = Reg.TIM_ADJ then adjLocked v s
  else if 0x100 ≤ o && o < 0x200 then
    let n := (o - 0x100) / 0x20
    let en := o % 0x20 = 0x18 && lo = 0
    if s.flag (F.TIM_PO_CTRL_EN n) then !en else en && v = 1 && pulseLocked s n
  else false

/-- An Ethernet port (R434): port settings and rings while enabled. -/
def ethLocked (s : State) (off lo : Nat) : Bool :=
  let p := off % 0x10000 / 0x1000
  let r := off % 0x1000
  let ring := r % 0x20 = 0 || r % 0x20 = 4 || (r % 0x20 = 8 && lo ≠ 4)
  if (r = 0 && lo ≠ 0) || r = 8 || r = 0xC then s.flag (F.ETH_CTRL_EN p)
  else if 0x100 ≤ r && r < 0x200 then ring && s.flag (F.ETH_TX_CFG_EN p ((r - 0x100) / 0x20))
  else if 0x300 ≤ r && r < 0x400 then ring && s.flag (F.ETH_RX_CFG_EN p ((r - 0x300) / 0x20))
  else false

/-- Grove (R452): settings, channels and barriers while enabled. -/
def grvLocked (s : State) (off lo : Nat) : Bool :=
  let o := off % 0x10000
  if (o = 0 && lo ≠ 0) || o = 4 || (0x10 ≤ o && o < 0x30) then s.flag F.GRV_CTRL_EN
  else if 0x1000 ≤ o && o < 0x1400 then
    (o % 0x10 = 0 || o % 0x10 = 4 || (o % 0x10 = 8 && lo ≠ 4)) && s.flag (F.GRV_CH_CFG_EN ((o - 0x1000) / 0x10))
  else if 0x2000 ≤ o && o < 0x2200 then
    ((o % 0x20 = 0 && lo ≠ 0) || o % 0x20 = 4 || o % 0x20 = 8) && s.flag (F.GRV_BAR_CFG_EN ((o - 0x2000) / 0x20))
  else false

/-- Does a rule of the register's chapter lock the field against the value `v` (for a WO field, the bits written)? -/
def chapterLocked (s : State) (w : RegWr) (off : Nat) (f : FieldDef) (v : Nat) : Bool :=
  let b := off / 0x10000
  if strictChecked off && strictRuns s then true
  else if off = Reg.SYS_STRICT then !(strictFree s)
  else if off = Reg.SAP_RSTCMD then rstLocked s w.oid w.data
  else if b = 0x03 then schLocked s off f.lo
  else if b = 0x20 then kvpLocked s off f.lo
  else if b = 0x24 then hwdLocked s off f.lo v
  else if b = 0x05 then brkLocked s w.oid off
  else if b = 0x25 then cmbLocked s off v
  else if b = 0x27 then canLocked s off f.lo
  else if b = 0x28 then timLocked s off f.lo v
  else if b = 0x29 then ethLocked s off f.lo
  else if b = 0x2A then grvLocked s off f.lo
  else if b = 0x04 then ((off = Reg.EVQ_CTRL && f.lo = 1) || off = Reg.EVQ_BASE_LO || off = Reg.EVQ_BASE_HI) && s.flag F.EVQ_CTRL_EN
  else false

/-- Writes refused whatever they would change: SAP_RSTCMD without its key (R500), a kick in the rack (R325). -/
def alwaysLocked (s : State) (w : RegWr) (off : Nat) : Bool :=
  w.kind = 0 && ((off = Reg.SAP_RSTCMD && isRole w.oid && slice w.data 31 16 ≠ 0x5253) || (off = Reg.HWD_KICK && w.oid = 0x30 && inRack s))

/-! ### What the writes of each block do beyond their fields -/

/-- Registers whose effect stores their word. -/
def selfStored (off : Nat) : Bool :=
  off = Reg.TIM_ADJ || (off / 0x10000 = 0x20 && 0x100 ≤ off % 0x10000 && off % 0x10000 < 0x500 && off % 0x10 = 0xC)
    || (off / 0x10000 = 0x22 && 0x100 ≤ off % 0x10000 && off % 0x10000 < 0x300 && off % 0x20 = 0)

/-- SYS (R505, R508). -/
def sysWritten (off was : Nat) (s : State) : State :=
  if off = Reg.SYS_STRICT && s.flag F.SYS_STRICT_STRICT && was % 2 = 0 then
    let s := s.setSap { s.sap with cap := s.fld F.SAP_CAP_CAPW }
    if s.flag F.SAP_STAT_THROT then strictVoid s else s
  else s

/-- LCS (R471, R476, R479). -/
def lcsWritten (w : RegWr) (off trig : Nat) (s : State) : State :=
  if off = Reg.LCS_PITHCMD then pithCmdWritten w.oid trig s
  else if off = Reg.LCS_FPROG_CMD then fuseCmdWritten w.oid trig s
  else if off = Reg.LCS_RBCMD then rbCmdWritten w.oid trig s
  else s

/-- A unit command (R273, R275): unit number 0b111 is reserved. -/
def unitCmdWritten (trig : Nat) (s : State) : State :=
  let u := trig % 8
  if u = 7 then s
  else
    let s := if bitAt trig 8 then readmitUnit u s else s
    let s := if bitAt trig 9 then admitUnit u s else s
    if bitAt trig 10 then retireUnit u s else s

/-- SCH; `s0` is the state before the write (R258, R267, R275, R277, R552). -/
def schWritten (s0 : State) (off was trig : Nat) (s : State) : State :=
  let o := off % 0x10000
  if off = Reg.SCH_CTRL then schCtrlWritten s
  else if off = Reg.SCH_UNITCMD then unitCmdWritten trig s
  else if off = Reg.SCH_OWN_CMD then ownCmdWritten trig s
  else if 0x1000 ≤ o && o < 0x1800 then
    let c := (o - 0x1000) / 0x20
    if o % 0x20 = 8 then ctxEnWritten c (bitAt was 4) s
    else if o % 0x20 = 0xC then ctxTailWritten c (ctxBusy s0 c) s
    else if o % 0x20 = 0x18 then ctxCmdWritten c trig s
    else s
  else s

/-- KVP: a quota takes the word unless it over-reserves the pool (R191); EN stays clear after an uncorrectable word of the directory (R309). -/
def kvpWritten (off new : Nat) (s : State) : State :=
  if selfStored off then
    let c := (off % 0x10000 - 0x100) / 0x10
    let s := quotaWrite c new s
    if s.flag F.KVP_CTRL_EN then poolLow c s else s
  else if off = Reg.KVP_CTRL && s.kvp.dead then s.put F.KVP_CTRL_EN 0
  else s

/-- SDB: a stream's EN (R237). -/
def sdbWritten (off new : Nat) (s : State) : State :=
  if selfStored off then
    let n := (off % 0x10000 - 0x100) / 0x20
    if bitAt new 0 then enableStream n s else s.put (F.SDB_STR_CTRL_EN n) 0
  else s

/-- HWD (R332, R333, R343): the time between kicks that come as bare register writes is a free value. -/
def hwdWritten (w : RegWr) (off was trig : Nat) (s : State) : State :=
  let o := off % 0x10000
  if off = Reg.HWD_SAFECMD then safeCmdWritten trig s
  else if off = Reg.HWD_KICK then
    if w.kind = 0 then
      let f := s.freeNat
      kickWritten (w.data % 2 ^ 16) f.1 f.2
    else s
  else if 0x100 ≤ o && o < 0x180 && o % 0x20 = 8 then
    let n := (o - 0x100) / 0x20
    if s.flag (F.HWD_GCH_CFG_EN n) && was % 2 = 0 then gateEnabled n s else s
  else s

/-- CMB (R346, R349, R358). -/
def cmbWritten (off was trig : Nat) (s : State) : State :=
  if off = Reg.CMB_CTRL then cmbEnWritten (bitAt was 0) s
  else if off = Reg.CMB_COMMIT then (if bitAt trig 2 then commitChannel (trig % 4) s else s)
  else if off = Reg.CMB_AXCMD then (if bitAt trig 8 then clearAxis (trig % 128) s else s)
  else s

/-- RLK (R379, R380). -/
def rlkWritten (off trig : Nat) (s : State) : State :=
  let o := off % 0x10000
  if off = Reg.RLK_CTRL then (List.range 16).foldl (fun s p => portWritten p s) s
  else if 0x100 ≤ o && o < 0x500 then
    let p := (o - 0x100) / 0x40
    if o % 0x40 = 0 then portWritten p s
    else if o % 0x40 = 0x24 && bitAt trig 0 then startExchange p s
    else s
  else s

/-- CFD (R394, R395, R397, R400, R407, R411). -/
def canWritten (off was trig : Nat) (s : State) : State :=
  let c := off % 0x10000 / 0x1000
  let r := off % 0x1000
  if r = 0 then canModeWritten c (was % 4) s
  else if r = 4 then canCmdWritten c trig s
  else if r = 0x44 then canAbort c (trig / 16) (canRequest c trig s)
  else if r = 0x800 then ecsetWritten c trig s
  else s

/-- TIM (R419, R420, R422, R425, R428, R429). -/
def timWritten (off was new trig : Nat) (s : State) : State :=
  let o := off % 0x10000
  if off = Reg.TIM_ADJ then timAdjust new s
  else if off = Reg.TIM_CTRL then (if was % 4 = new % 4 then s else refChanged s)
  else if off = Reg.TIM_SYNC then (if bitAt new 0 then syncWritten s else s)
  else if 0x100 ≤ o && o < 0x200 && o % 0x20 = 0x18 then
    (if bitAt new 0 && !(bitAt was 0) then pulseStart ((o - 0x100) / 0x20) s else s)
  else if 0x200 ≤ o && o < 0x300 && o % 0x20 = 8 then (if bitAt trig 0 then popCapture ((o - 0x200) / 0x20) s else s)
  else if 0x400 ≤ o && o < 0x440 && o % 0x20 = 4 then (if bitAt trig 0 then popTx ((o - 0x400) / 0x20) s else s)
  else s

/-- ETH: a port that is disabled has no link (R432). -/
def ethWritten (off was new : Nat) (s : State) : State :=
  if off % 0x1000 = 0 && bitAt was 0 && !(bitAt new 0) then linkLost (off % 0x10000 / 0x1000) 0 s else s

/-- GRV (R443, R447, R450). -/
def grvWritten (off was new : Nat) (s : State) : State :=
  let o := off % 0x10000
  if 0x1000 ≤ o && o < 0x1400 && o % 0x10 = 8 then
    let c := (o - 0x1000) / 0x10
    if bitAt new 4 && !(bitAt was 4) then grvChanStart c s else if bitAt was 4 && !(bitAt new 4) then grvChanOff c s else s
  else if 0x2000 ≤ o && o < 0x2200 && o % 0x20 = 0 then
    (if bitAt new 0 && !(bitAt was 0) then barStart ((o - 0x2000) / 0x20) s else s)
  else s

/-- BGH (R455 to R465). -/
def bghWritten (w : RegWr) (off trig : Nat) (s : State) : State :=
  let o := off % 0x10000
  if 0x100 ≤ o && o < 0x180 then
    let p := (o - 0x100) / 0x20
    if o % 0x20 = 0 then pairCmdWritten p trig w.oid s else if o % 0x20 = 4 then showSafe p s else s
  else if 0x200 ≤ o && o < 0x300 && o % 0x20 = 8 then ipsetWritten ((o - 0x200) / 0x20) trig s
  else s

/-- What a write of a register that took effect does beyond its fields; `s0` is the state before it. -/
def regWritten (s0 : State) (w : RegWr) (off was : Nat) (x : WordWrite) (s : State) : State :=
  match off / 0x10000 with
  | 0x00 => sysWritten off was s
  | 0x01 => if off = Reg.SAP_RSTCMD then rstCmdWritten x.trig s else s
  | 0x02 => lcsWritten w off x.trig s
  | 0x03 => schWritten s0 off was x.trig s
  | 0x04 => if off = Reg.EVQ_CTRL then evqEnWritten (bitAt was 0) s else if off = Reg.EVQ_DUMPCMD then dumpCmdWritten x.trig s else s
  | 0x06 =>
    if off = Reg.MEM_TCMD then (if bitAt x.trig 0 then startTest s else s)
    else if off = Reg.MEM_BCLR_CMD then (if bitAt x.trig 0 then startClear w.oid s else s) else s
  | 0x20 => kvpWritten off x.new s
  | 0x22 => sdbWritten off x.new s
  | 0x24 => hwdWritten w off was x.trig s
  | 0x25 => cmbWritten off was x.trig s
  | 0x26 => rlkWritten off x.trig s
  | 0x27 => canWritten off was x.trig s
  | 0x28 => timWritten off was x.new x.trig s
  | 0x29 => ethWritten off was x.new s
  | 0x2A => grvWritten off was x.new s
  | 0x2B => bghWritten w off x.trig s
  | _ => s

/-- LCS_CHG_INST for an installer's write (R482): a lock field set, SYS_XPEN changed, a rule below BRK_OPBASE written. -/
def countChange (w : RegWr) (off was : Nat) (x : WordWrite) (s : State) : State :=
  let rule := match ruleOf off with
    | some n => n < s.fld F.BRK_OPBASE_BASE && x.lock.isNone
    | none => false
  if w.oid = 1 && !w.staged && (x.wos ≠ [] || (off = Reg.SYS_XPEN && x.new ≠ was) || rule) then bumpChange Reg.LCS_CHG_INST s else s

/-! ### One write, and values of several words (R39) -/

/-- What a write does to the fields of a register (R13, R29, R35). -/
def wordWrite (w : RegWr) (off : Nat) (d : RegDef) (s : State) : WordWrite :=
  let was := (s.reg off).toNat
  if alwaysLocked s w off then { new := was, lock := some .wo }
  else writeFields s off w.kind w.data (mayWrite w.oid off) (chapterLocked s w off) d.fields { new := was }

/-- One register takes a write: false when a field refuses it (R35). Every write of LCS_LCCMD that R472 does not allow is refused there. -/
def applyWord (w : RegWr) (off : Nat) (s : State) : Bool × State :=
  match findReg off with
  | none => (true, s)
  | some d =>
    if off = Reg.LCS_LCCMD then (true, if w.kind = 0 then lcCmdWritten w.oid w.data w.bad s else s)
    else
      let was := (s.reg off).toNat
      let x := wordWrite w off d s
      let t := countChange w off was x (if selfStored off || (x.new = was && x.wos = []) then s else storeWord off x s)
      let t := if mayAny w.oid off && (x.lock.isNone || 1 < d.fields.length) && !(alwaysLocked s w off) then regWritten s w off was x t else t
      match x.lock with
      | none => (true, t)
      | some a => (false, lockViolation w (a = .wos) t)

/-- The staged higher words of an origin for the value whose low word is at `low` (R39). -/
def stagedWords (s : State) (oid low n : Nat) : List (Nat × Word) :=
  (List.range (n - 1)).filterMap fun i =>
    (spGet none s.wrStage (shadowKey oid (low + 4 * (i + 1)))).map fun v => (low + 4 * (i + 1), v)

/-- The origin's staging registers of a value are empty again. -/
def unstage (oid low n : Nat) (s : State) : State :=
  { s with wrStage := (List.range (n - 1)).foldl (fun t i => spSet none (shadowKey oid (low + 4 * (i + 1))) none t) s.wrStage }

/-- A higher word waits in the origin's staging register (R39). A word that would change a locked field is refused as it arrives and is not
staged (R35, R343, R344): false. -/
def stageWord (w : RegWr) (off : Nat) (s : State) : Bool × State :=
  match (findReg off).bind fun d => (wordWrite w off d s).lock with
  | some a => (false, lockViolation w (a = .wos) s)
  | none => (true, { s with wrStage := spSet none (shadowKey w.oid off) (some (BitVec.ofNat 32 w.data)) s.wrStage })

/-- The staged words take effect in turn. -/
def applyStaged (w : RegWr) : List (Nat × Word) → Bool × State → Bool × State
  | [], r => r
  | (off, v) :: l, r =>
    let x := applyWord { w with data := v.toNat, addr := regBase + off, len := 4, first := v.toNat, staged := true } off r.2
    applyStaged w l (r.1 && x.1, x.2)

/-- Is the value that the registers now hold refused as a whole (R419, R420)? -/
def valueLocked (low : Nat) (s : State) : Bool :=
  if low = Reg.TIM_SET_W0 then setLocked s else if low = Reg.TIM_INCR_LO then incrLocked (timIncr s) else false

/-- Writes of a value of several words: `ws` staged words, then the word at `off`; refused as a whole where its chapter says so. -/
def applyValue (w : RegWr) (low off : Nat) (ws : List (Nat × Word)) (s : State) : Bool × State :=
  let r := applyStaged w ws (true, s)
  let x := applyWord w off r.2
  if mayAny w.oid off && valueLocked low x.2 && (off = low || low = Reg.TIM_INCR_LO) then (false, lockViolation w false s)
  else if off = Reg.TIM_SET_W0 && mayAny w.oid off then (r.1 && x.1, timSet x.2)
  else (r.1 && x.1, x.2)

/-- A write reaches the register at a window offset and takes effect there: false for an error response. An offset that no register occupies
drops it (R27); an expert register needs its block's bit (R32); a ring's signal register adds (R287); a plain write of a higher word is
staged, one of the low word commits (R39). -/
def regWord (w : RegWr) (off : Nat) (s : State) : Bool × State :=
  if (findReg off).isNone then (true, s)
  else if xpenDenied s w.oid off then (false, xpenEvent w.oid w.ctx w.addr w.len off w.kind w.first s)
  else match ringOfSigReg off with
    | some t => (true, if w.kind = 0 then applySignal t w.oid w.ctx w.data s else s)
    | none =>
      match wordGroup off with
      | none => applyWord w off s
      | some (low, n) =>
        if w.kind ≠ 0 then applyValue w low off [] s
        else if off ≠ low then stageWord w off s
        else applyValue w low off (stagedWords s w.oid low n) (unstage w.oid low n s)

/-! ### Writers in one cycle (R36) -/

/-- Rank of a writer, the highest least (R36). -/
def writerRank (oid : Nat) : Nat := if oid = 0x30 then 0 else if oid = 2 then 1 else if oid = 1 then 2 else if oid = 0 then 3 else 4 + oid

/-- WRITE_COLLISION for a losing write (R36, R42). -/
def lostWrite (w : RegWr) (winner : Nat) (s : State) : State :=
  accessEvent 0x3003 w.oid (evCtx w.oid w.ctx) w.addr w.len true w.kind w.first winner 0 s

/-- Writes take effect in turn; the answers in the same order, with the writer. -/
def inTurn (off : Nat) : List RegWr → State → List (RegWr × Bool) × State
  | [], s => ([], s)
  | w :: l, s =>
    let x := regWord w off s
    let r := inTurn off l x.2
    ((w, x.1) :: r.1, r.2)

/-- The last of the writes of one origin. -/
def lastOf (ws : List RegWr) (oid : Nat) : Option RegWr := (ws.filter fun w => w.oid = oid).getLast?

/-- Do writes to this offset collide at all: not at a ring's signal register (R287), nor in staging registers (R39)? -/
def canCollide (off : Nat) : Bool :=
  (ringOfSigReg off).isNone && (match wordGroup off with
    | some (low, _) => off = low
    | none => true)

/-- Insert a write behind those of its rank or a higher one. -/
def insertRank (w : RegWr) : List RegWr → List RegWr
  | [] => [w]
  | x :: l => if writerRank w.oid < writerRank x.oid then w :: x :: l else x :: insertRank w l

/-- Writes in the order of rank. -/
def byRank (ws : List RegWr) : List RegWr := ws.foldl (fun l w => insertRank w l) []

/-- The writes that reach one register in one cycle of its domain, with their answers (R29, R36, R38). Writes of one origin take effect as they
were issued, its alias writes last; where they meet writes of another origin, one plain write takes effect, the last one issued by the
highest-ranking origin, and then every alias write in the order of rank. DESIGN CHOICE: a write that SYS_XPEN, the Who column or a lock will
refuse ranks like any other, so it can win and discard another (log entry 95). -/
def sameCycle (off : Nat) (ws : List RegWr) (s : State) : List (RegWr × Bool) × State :=
  let plain := ws.filter fun w => w.kind = 0
  let oids := (plain.map RegWr.oid).eraseDups
  let aliases := byRank (ws.filter fun w => w.kind ≠ 0)
  let best := oids.foldl (fun m o => if writerRank o < writerRank m then o else m) (oids.headD 0)
  if !(canCollide off) || (oids.length ≤ 1 && aliases.all fun w => plain.isEmpty || w.oid = best) then inTurn off (plain ++ aliases) s
  else
    let losers := (oids.filter (· ≠ best)).filterMap (lastOf plain)
    let s := losers.foldl (fun s w => lostWrite w best s) s
    let r := inTurn off ((lastOf plain best).toList ++ aliases) s
    ((plain.filter (fun w => w.oid ≠ best) ++ (plain.filter fun w => w.oid = best).dropLast).map (fun w => (w, true)) ++ r.1, r.2)

/-! ### Hardware updates in the cycle of a write (R37) -/

/-- Is the access code that of a status bit, which a hardware set keeps at 1 against a clearing write (R37)? -/
def statusAcc (a : Acc) : Bool := a = .w1c || a = .w1s

/-- The field of a register whose lowest bit is `lo`. -/
def fieldAt (off lo : Nat) : Option FieldDef := (findReg off).bind fun d => d.fields.find? fun f => f.lo = lo

/-- The value that a hardware update gives a field that holds `v` before it: the bits set, the count advanced modulo the field or held at its
greatest value, the value taken. -/
def hwValue (u : HwUpd) (w v : Nat) : Nat :=
  match u.kind with
  | .set => v ||| u.v.toNat
  | .count => (v + u.v.toNat) % 2 ^ w
  | .countHold => min (v + u.v.toNat) (2 ^ w - 1)
  | .value => u.v.toNat

/-- Hardware updates a field (R37): bits are set in status fields only, counts and values stand in the other fields. -/
def hwUpdate (off : Nat) (u : HwUpd) (s : State) : State :=
  match fieldAt off u.lo with
  | none => s
  | some f =>
    if statusAcc f.acc = decide (u.kind = .set) then
      let g : RegField := ⟨off, f.hi, f.lo⟩
      s.put g (hwValue u (f.hi + 1 - f.lo) (s.fld g))
    else s

/-- Does the update act on what a write of its cycle leaves (R37): a set and a count do, any other update yields to the write? -/
def hwAfter (u : HwUpd) : Bool := u.kind ≠ .value

/-- The hardware updates of the cycle that pass `p`, in turn. -/
def hwUpdates (off : Nat) (p : HwUpd → Bool) (us : List HwUpd) (s : State) : State :=
  (us.filter p).foldl (fun s u => hwUpdate off u s) s

/-- One cycle of a register (R36, R37): an update that yields to a write comes before the writes, a set and a count after them, and none of them
is a collision. -/
def oneCycle (off : Nat) (us : List HwUpd) (ws : List RegWr) (s : State) : List (RegWr × Bool) × State :=
  let r := sameCycle off ws (hwUpdates off (fun u => !(hwAfter u)) us s)
  (r.1, hwUpdates off hwAfter us r.2)

end Sys2Proof.Machine
end

