-- ==== Sys2Proof/Machine/Access.lean ====
section
/-! DEFINITION. The ports, transactions on the network-on-chip, and every command that is an access: reads, writes, register writes with a step
of their own (R8, R26 to R44, R468, R469, R503, and the register rules of the chapters). -/

namespace Sys2Proof.Machine

/-! ### Ports (R468, R469, R503) -/

/-- What a port does with a command: passes it on, refuses it because the lifecycle state closes the port, or refuses it before READY. -/
inductive Gate where
  | pass | closed | early
  deriving DecidableEq, Repr

/-- Does the access lie in page 0 of the block with window number `b`? -/
def inPage0 (b a n : Nat) : Bool := regBase + b * 0x10000 ≤ a && a + n ≤ regBase + b * 0x10000 + 0x1000

/-- What the port of a role does with an access of `n` bytes at `a`; other origins have no port (R8, R469, R503). Before the fuses are read no
lifecycle state is in force. -/
def portGate (s : State) (oid a n : Nat) (wr : Bool) : Gate :=
  let st := lcState s
  let ready := s.fld F.SAP_BOOT_STAGE = 5
  if 2 < oid then .pass
  else if s.fld F.SAP_BOOT_STAGE = 0 then .early
  else if oid = 2 then (if !(tapOpen s) then .closed else if ready then .pass else .early)
  else if st = lcBlank then .closed
  else if st = lcEnd then
    if (!wr && inPage0 2 a n) || (oid = 1 && a = regBase + Reg.LCS_PITHCMD && n = 4) then .pass else .closed
  else if ready || (oid = 0 && !wr && (inPage0 0 a n || inPage0 1 a n)) then .pass
  else .early

/-- ROLE_DENIED, at most once per port per second (R468, R485). -/
def roleDenied (oid : Nat) (s : State) : State :=
  let d := spGet 0 s.lcs.denied oid
  if d ≠ 0 && !(s.passed (d - 1) 1000000) then s
  else lcEvent 0xD008 oid 1 oid (lcState s) 0 0 (s.setLcs { s.lcs with denied := spSet 0 oid (s.elapsed + 1) s.lcs.denied })

/-! ### Transactions -/

/-- The OID and context under which a transaction of an origin is issued, if at all (R31, R324, R455, R459, R461 to R464). Heartwood's pair issues
nothing once it has stopped. A Bough core issues under the OID of its pair while the pair is not split, under its own while it is; a pair held in
reset or lost, and a parked core, issue nothing; the context is the core's. -/
def issuer (s : State) (oid ctx : Nat) : Option (Nat × Nat) :=
  if oid = 0x30 then (if s.hwd.stopped then none else some (oid, ctx))
  else if 0x20 ≤ oid && oid < 0x2C then
    let p := if oid < 0x28 then (oid - 0x20) / 2 else oid - 0x28
    let st := pairState s p
    if s.fld F.SAP_BOOT_STAGE ≠ 5 || pairsHeld s || bgLost ≤ st then none
    else if st = bgLockstep || st = bgSplitting then some (0x28 + p, s.fld (F.BGH_CORE_STAT_CTX (2 * p)))
    else if 0x28 ≤ oid || (oid % 2 = 1 && s.flag (F.BGH_PAIR_STAT_PARKED p)) then none
    else some (oid, s.fld (F.BGH_CORE_STAT_CTX (oid - 0x20)))
  else some (oid, ctx)

/-- What a transaction of an origin does, under the OID and context with which it is issued. -/
def issued (s : State) (oid ctx : Nat) (f : Nat → Nat → State) : State :=
  match issuer s oid ctx with
  | none => s
  | some (o, c) => f o c

/-- A write of 4 or 8 bytes of registers, the lower address first (R28). -/
def regAccess (oid ctx a off : Nat) (kind : AliasKind) (bs : List Byte) (bad : Nat) (s : State) : Bool × State :=
  let w : RegWr := { oid := oid, ctx := ctx, kind := kind, data := leNat (bs.take 4), addr := a, len := bs.length, first := leNat (bs.take 4), bad := bad }
  let x := regWord w off s
  if bs.length ≤ 4 then x
  else
    let y := regWord { w with data := leNat (bs.drop 4) } (off + 4) x.2
    (x.1 && y.1, y.2)

/-- One piece of a write that Bark admits: registers, memory, and Cambium's buffers, where it may cancel a commit (R349). -/
def busPiece (oid ctx a : Nat) (bs : List Byte) (bad : Nat) (s : State) : PieceRes × State :=
  let u := (unalias a).getD (a, 0)
  match place u.1 with
  | some (.reg off) =>
    let x := regAccess oid ctx a off u.2 bs bad s
    (if x.1 then .ok else .error, x.2)
  | some (.cambium _) =>
    let x := pieceWrite oid ctx a bs s
    (x.1, noteCmbWrite u.1 bs.length x.2)
  | _ => pieceWrite oid ctx a bs s

/-- A write transaction (R28, R35, R236, R303, R340): false for an error response. -/
def busWrite (oid ctx a : Nat) (bs : List Byte) (link : LinkErr) (bad : Nat) (s : State) : Bool × State :=
  match judge s oid ctx a bs.length true with
  | some f => (false, reportFail oid ctx true f (leNat ((bs.drop (f.addr - a)).take 4)) s)
  | none =>
    match linkError oid a link s with
    | (false, s) => (false, s)
    | (true, s) =>
      let r := (pieces a bs.length).foldl (fun (r : Bool × Option (Nat × Nat) × State) p =>
        match busPiece oid ctx p.1 ((bs.drop (p.1 - a)).take p.2) bad r.2.2 with
        | (.ok, s) => (r.1, r.2.1, s)
        | (.locked, s) => (false, r.2.1.or (some p), s)
        | (.error, s) => (false, r.2.1, s)) (true, none, s)
      match r.2 with
      | (none, s) => (r.1, s)
      | (some p, s) =>
        let p := if bs.length ≤ 64 then (a, bs.length) else p
        (r.1, accessEvent 0x3001 oid (evCtx oid ctx) p.1 p.2 true ((unalias p.1).getD (p.1, 0)).2
          (leNat ((bs.drop (p.1 - a)).take 4)) 0 1 s)

/-- A read transaction (R26, R28, R30, R301, R302, R340): none for an error response. -/
def busRead (oid ctx a n : Nat) (link : LinkErr) (s : State) : Option (List Byte) × State :=
  match judge s oid ctx a n false with
  | some f => (none, reportFail oid ctx false f 0 s)
  | none =>
    match linkError oid a link s with
    | (false, s) => (none, s)
    | (true, s) => nocRead oid ctx a n s

/-- A write that comes from an origin, through its port if it has one (R468). -/
def portWrite (oid ctx a : Nat) (bs : List Byte) (link : LinkErr) (bad : Nat) (s : State) : Bool × State :=
  match portGate s oid a bs.length true with
  | .pass => busWrite oid ctx a bs link bad s
  | .closed => (false, roleDenied oid s)
  | .early => (false, s)

/-- How the host port completes a read that fails (R41, R308): the address map has no such place, an uncorrectable word was met, or another error. -/
def readFailure (s : State) (oid ctx a n : Nat) : RespSt :=
  match judge s oid ctx a n false with
  | some f => if f.code = 0x3004 then .unsupported else .abort
  | none =>
    let u := ((unalias a).getD (a, 0)).1
    if (suspectWords s u n).any fun w => eccDecode (synd s w) = .bad then .poisoned else .abort

/-- A read that comes from an origin, through its port if it has one; and how the host port completes it if it fails (R41, R468, R469). -/
def portRead (oid ctx a n : Nat) (link : LinkErr) (s : State) : Option (List Byte) × RespSt × State :=
  match portGate s oid ((unalias a).getD (a, 0)).1 n false with
  | .pass =>
    let r := busRead oid ctx a n link s
    (r.1, readFailure s oid ctx a n, r.2)
  | .closed => (none, .unsupported, roleDenied oid s)
  | .early => (none, .unsupported, s)

/-- The status of a finished write. -/
def wrStatus (ok : Bool) : RespSt := if ok then .ok else .abort

/-- The answer to a write (R41); Heartwood's sequencer then serves what the write caused. -/
def writeDone (oid : Nat) (r : Bool × State) : State := hwdServe (r.2.answer oid true (wrStatus r.1) [])

/-- The answer to a read (R41, R308): the host port tells an unmapped place and poisoned data from other errors. -/
def readDone (oid n : Nat) (r : Option (List Byte) × RespSt × State) : State :=
  match r.1 with
  | some bs => hwdServe (r.2.2.answer oid false .ok bs)
  | none => hwdServe (r.2.2.answer oid false (if oid = 0 then r.2.1 else .abort) (List.replicate n 0))

/-- The first address of an alias (R29). -/
def aliasBase (k : AliasKind) : Nat := k * 0x10000000000

/-- NOC_READ (R302). -/
def execNocRead (oid : BitVec 10) (ctx : BitVec 6) (addr : BitVec 48) (len : BitVec 13) (link : LinkErr) (s : State) : Ans :=
  .next (issued s oid.toNat ctx.toNat fun o c => readDone o len.toNat (portRead o c addr.toNat len.toNat link s))

/-- The rank of a requester at a bank (R305), 1 the highest; within a rank the lower OID ranks higher. -/
def bankRank (oid : Nat) : Nat :=
  let r := if oid = 0x31 then 1 else if oid = 0x30 then 2 else if oid = 0x38 then 3 else if 0x10 ≤ oid && oid ≤ 0x15 then 4
    else if 0x20 ≤ oid && oid ≤ 0x2B then 6 else if isRole oid then 7 else 5
  r * 1024 + oid

/-- A write of a cycle: OID, context, address, data, and whether it is the one that its command's parity error concerns. -/
abbrev CycleWr := Nat × Nat × Nat × List Byte × Bool

/-- Writes of one cycle in ascending rank: those of the higher-ranked requesters last, those of one OID in the order of issue (R303). -/
def ascendingRank : List CycleWr → List CycleWr
  | [] => []
  | w :: l =>
    let r := ascendingRank l
    r.takeWhile (fun x => bankRank w.1 < bankRank x.1) ++ w :: r.dropWhile (fun x => bankRank w.1 < bankRank x.1)

/-- The writes of a cycle that are issued, with their OIDs and contexts (R31). -/
def issuedWrites (s : State) (l : List CycleWr) : List CycleWr := l.filterMap fun w => (issuer s w.1 w.2.1).map fun q => (q.1, q.2, w.2.2)

/-- A write with the writes of other requesters in the same cycle: all are applied, in ascending rank (R303). -/
def cycleWrite (oid ctx a : Nat) (data : List Byte) (link : LinkErr) (s : State) : State :=
  (ascendingRank (issuedWrites s
    ((oid, ctx, a, data, true) :: link.also.map fun p => (p.oid.toNat, p.ctx.toNat, p.addr.toNat, p.data, false)))).foldl (fun s w =>
    writeDone w.1 (portWrite w.1 w.2.1 w.2.2.1 w.2.2.2.1 (if w.2.2.2.2 then link else {}) 0 s)) s

/-- NOC_WRITE (R303). -/
def execNocWrite (oid : BitVec 10) (ctx : BitVec 6) (addr : BitVec 48) (data : List Byte) (link : LinkErr) (s : State) : Ans :=
  .next (cycleWrite oid.toNat ctx.toNat addr.toNat data link s)

/-- ALIAS_WRITE (R29, R30). -/
def execAliasWrite (oid : BitVec 10) (ctx : BitVec 6) (clear : Bool) (addr : BitVec 40) (data : List Byte) (s : State) : Ans :=
  .next (issued s oid.toNat ctx.toNat fun o c => writeDone o (portWrite o c (aliasBase (1 + ofBool clear) + addr.toNat) data {} 0 s))

/-- The requests of one cycle that are issued and pass their ports and Bark, with what those that fail raise (R26, R31, R340, R468). -/
def arrive (off : Nat) : List RegReq → State → List RegWr × State
  | [], s => ([], s)
  | .hw _ :: l, s => arrive off l s
  | .write origin context kind data :: l, s =>
    let a := aliasBase kind + regBase + off
    match issuer s origin.toNat context.toNat with
    | none => arrive off l s
    | some (oid, ctx) =>
      match portGate s oid a 4 true with
      | .closed => arrive off l ((roleDenied oid s).answer oid true .abort [])
      | .early => arrive off l (s.answer oid true .abort [])
      | .pass =>
        match judge s oid ctx a 4 true with
        | some f => arrive off l ((reportFail oid ctx true f data.toNat s).answer oid true .abort [])
        | none =>
          let r := arrive off l s
          ({ oid := oid, ctx := ctx, kind := kind, data := data.toNat, addr := a, len := 4, first := data.toNat } :: r.1, r.2)

/-- The hardware updates among what reaches a register in a cycle (R37). -/
def hwUpdsOf (reqs : List RegReq) : List HwUpd :=
  reqs.filterMap fun q => match q with
    | .hw u => some u
    | .write _ _ _ _ => none

/-- REGISTER_WRITE (R13, R35 to R37). -/
def execRegisterWrite (off : BitVec 22) (reqs : List RegReq) (s : State) : Ans :=
  let q := arrive off.toNat reqs s
  let r := oneCycle off.toNat (hwUpdsOf reqs) q.1 q.2
  .next (hwdServe (r.1.foldl (fun s x => s.answer x.1.oid true (wrStatus x.2) []) r.2))

/-! ### The ports of the roles -/

/-- The physical address of a BAR offset (R40): BAR0, BAR2, BAR4. -/
def barAddr (bar : Fin 3) (off : Nat) : Option Nat :=
  match bar with
  | 0 =>
    if off < 0x1000000 then some (regBase + off)
    else if off < 0x2000000 then some (0x13000000000 + (off - 0x1000000))
    else if off < 0x3000000 then some (0x23000000000 + (off - 0x2000000))
    else none
  | 1 => if off < 0x2040000000 then some off else none
  | 2 =>
    if off < 0x40000000 then some (0x12000000000 + off)
    else if off < 0x80000000 then some (0x22000000000 + (off - 0x40000000))
    else none

/-- Where a BAR request goes; an offset that R40 leaves unmapped goes to an unmapped address that is a free value. -/
def barTarget (bar : Fin 3) (off : Nat) (s : State) : Nat × State :=
  match barAddr bar off with
  | some a => (a, s)
  | none =>
    let f := s.freeNat
    (0x30000000000 + f.1 % 0xFD0000000000 / 0x1000 * 0x1000, f.2)

/-- HOST_READ_REQUEST (R40, R41, R503). -/
def execHostReadRequest (bar : Fin 3) (off : BitVec 38) (len : BitVec 13) (link : LinkErr) (s : State) : Ans :=
  let t := barTarget bar off.toNat s
  .next (readDone 0 len.toNat (portRead 0 0 t.1 len.toNat link t.2))

/-- HOST_WRITE_REQUEST (R40, R41). -/
def execHostWriteRequest (bar : Fin 3) (off : BitVec 38) (data : List Byte) (link : LinkErr) (s : State) : Ans :=
  let t := barTarget bar off.toNat s
  .next (cycleWrite 0 0 t.1 data link t.2)

/-- An access that a port of a role carries out. -/
def portAccess (oid : Nat) (a : PortAcc) (link : LinkErr) (s : State) : State :=
  match a with
  | .read addr len => readDone oid len.toNat (portRead oid 0 addr.toNat len.toNat link s)
  | .write addr data => cycleWrite oid 0 addr.toNat data link s

/-- SERVICE_PORT_COMMAND (R41, R468). -/
def execServicePortCommand (a : PortAcc) (link : LinkErr) (s : State) : Ans := .next (portAccess 1 a link s)

/-- The test access port is in use beyond BYPASS and IDCODE: an opening counts (R482). -/
def tapUse (s : State) : State :=
  if s.lcs.tap then s else bumpChange Reg.LCS_CHG_MAKER (s.setLcs { s.lcs with tap := true })

/-- A hard post-package repair of a DRAM row (R311, R482): counted; what the row then holds is free. -/
def hardRepair (row : Nat) (s : State) : State :=
  let s := bumpChange Reg.LCS_CHG_MAKER s
  let a := row / 64 * 64
  if a < 0x1800000000 then
    let f := s.freeBytes 64
    f.2.wrBytes a f.1
  else s

/-- TAP_COMMAND (R41, R468, R469, R482): BYPASS returns nothing of the module, IDCODE a code that the spec does not give. -/
def execTapCommand (op : TapOp) (link : LinkErr) (s : State) : Ans :=
  let shut (s : State) : Ans := .next ((if s.fld F.SAP_BOOT_STAGE = 0 then s else roleDenied 2 s).answer 2 false .abort [])
  match op with
  | .bypass => if lcState s = lcBlank then shut s else .next ((s.setLcs { s.lcs with tap := false }).answer 2 false .ok [])
  | .idcode =>
    if lcState s = lcBlank then shut s
    else
      let f := (s.setLcs { s.lcs with tap := false }).freeBytes 4
      .next (f.2.answer 2 false .ok f.1)
  | .other => if tapOpen s then .next ((tapUse s).answer 2 false .ok []) else shut s
  | .hardRepair row =>
    if !(tapOpen s) then shut s
    else if s.fld F.SAP_BOOT_STAGE ≠ 5 then .next (s.answer 2 true .abort [])
    else .next ((hardRepair row.toNat (tapUse s)).answer 2 true .ok [])
  | .acc a => if tapOpen s then .next (portAccess 2 a link (tapUse s)) else shut s

/-! ### Register writes with a step of their own -/

/-- An origin writes a word to the register at a window offset. -/
def writeReg (oid : BitVec 10) (ctx : BitVec 6) (off data : Nat) (s : State) (bad : Nat := 0) : State :=
  issued s oid.toNat ctx.toNat fun o c => writeDone o (portWrite o c (regBase + off) (leBytes 4 data) {} bad s)

/-- RING_SIGNAL_REGISTER_WRITE (R287); a value of the SIGTGT format that names no ring names no register. -/
def execRingSignalRegisterWrite (oid : BitVec 10) (ctx : BitVec 6) (ring : BitVec 13) (data : BitVec 32) (s : State) : Ans :=
  if (ringReg ring.toNat).isNone then .next s else .next (writeReg oid ctx (ringSigReg ring.toNat) data.toNat s)

/-- STREAM_ENABLE (R237, R256): a requester sets EN of a stream. -/
def execStreamEnable (set : StreamSet) (s : State) : Ans := .next (writeReg set.oid set.ctx (Reg.SDB_STR_CTRL set.stream) 1 s)

/-- STREAM_DESCRIPTOR_WRITE (R236): a requester writes bytes at an offset of the stream descriptors. -/
def execStreamDescriptorWrite (oid : BitVec 10) (ctx : BitVec 6) (off : BitVec 12) (data : List Byte) (s : State) : Ans :=
  .next (issued s oid.toNat ctx.toNat fun o c => writeDone o (portWrite o c (0x2022200000 + off.toNat) data {} 0 s))

/-- STRICT_WRITE (R508). -/
def execStrictWrite (oid : BitVec 10) (ctx : BitVec 6) (data : BitVec 32) (s : State) : Ans := .next (writeReg oid ctx Reg.SYS_STRICT data.toNat s)

/-- KVP_QUOTA_WRITE (R191). -/
def execKvpQuotaWrite (oid : BitVec 10) (ctx : BitVec 6) (n : Fin 64) (data : BitVec 32) (s : State) : Ans :=
  .next (writeReg oid ctx (Reg.KVP_CQ_QUOTA n) data.toNat s)

/-- CONTEXT_ENABLE (R258). -/
def execContextEnable (oid : BitVec 10) (ctx : BitVec 6) (n : Fin 64) (data : BitVec 32) (s : State) : Ans :=
  .next (writeReg oid ctx (Reg.SCH_CTX_CFG n) data.toNat s)

/-- TEARDOWN (R272). -/
def execTeardown (oid : BitVec 10) (ctx : BitVec 6) (n : Fin 64) (s : State) : Ans := .next (writeReg oid ctx (Reg.SCH_CTX_CMD n) 1 s)

/-- CONTEXT_ACK (R258). -/
def execContextAck (oid : BitVec 10) (ctx : BitVec 6) (n : Fin 64) (s : State) : Ans := .next (writeReg oid ctx (Reg.SCH_CTX_CMD n) 2 s)

/-- VTRESET (R267). -/
def execVtreset (oid : BitVec 10) (ctx : BitVec 6) (n : Fin 64) (s : State) : Ans := .next (writeReg oid ctx (Reg.SCH_CTX_CMD n) 4 s)

/-- SCHEDULER_ENABLE (R552). -/
def execSchedulerEnable (oid : BitVec 10) (ctx : BitVec 6) (data : BitVec 32) (s : State) : Ans := .next (writeReg oid ctx Reg.SCH_CTRL data.toNat s)

/-- RETIRE (R273). -/
def execRetire (oid : BitVec 10) (ctx : BitVec 6) (n : Fin 7) (s : State) : Ans := .next (writeReg oid ctx Reg.SCH_UNITCMD (n + 2 ^ 10) s)

/-- READMIT (R275). -/
def execReadmit (oid : BitVec 10) (ctx : BitVec 6) (n : Fin 7) (s : State) : Ans := .next (writeReg oid ctx Reg.SCH_UNITCMD (n + 2 ^ 8) s)

/-- ADMIT (R275). -/
def execAdmit (oid : BitVec 10) (ctx : BitVec 6) (n : Fin 7) (s : State) : Ans := .next (writeReg oid ctx Reg.SCH_UNITCMD (n + 2 ^ 9) s)

/-- OWNERSHIP_CHANGE (R277). -/
def execOwnershipChange (oid : BitVec 10) (ctx : BitVec 6) (data : BitVec 32) (s : State) : Ans := .next (writeReg oid ctx Reg.SCH_OWN_CMD data.toNat s)

/-- GATE_CHANNEL_ENABLE (R343). -/
def execGateChannelEnable (oid : BitVec 10) (ctx : BitVec 6) (n : Fin 4) (data : BitVec 32) (s : State) : Ans :=
  .next (writeReg oid ctx (Reg.HWD_GCH_CFG n) data.toNat s)

/-- ENTER (R333, R334). -/
def execEnter (oid : BitVec 10) (ctx : BitVec 6) (s : State) : Ans := .next (writeReg oid ctx Reg.HWD_SAFECMD 1 s)

/-- ARM (R334). -/
def execArm (oid : BitVec 10) (ctx : BitVec 6) (s : State) : Ans := .next (writeReg oid ctx Reg.HWD_SAFECMD 2 s)

/-- BARK_RULE_WRITE (R341, R344): the low word of a rule commits the writer's staged words with it. -/
def execBarkRuleWrite (oid : BitVec 10) (ctx : BitVec 6) (n : Fin 512) (data : BitVec 32) (s : State) : Ans :=
  .next (writeReg oid ctx (Reg.BRK_RULE_W0 (n / 128) (n % 128)) data.toNat s)

/-- CMB_COMMIT (R349). -/
def execCmbCommit (oid : BitVec 10) (ctx : BitVec 6) (data : BitVec 32) (s : State) : Ans := .next (writeReg oid ctx Reg.CMB_COMMIT data.toNat s)

/-- CMB_BUFFER_HEADER_WRITE (R349): Heartwood writes into the header of trajectory buffer `buf` (channel, then buffer 0 or 1). -/
def execCmbBufferHeaderWrite (buf : Fin 8) (off : BitVec 6) (data : List Byte) (s : State) : Ans :=
  .next (issued s 0x30 0 fun o c => writeDone o (portWrite o c (trajBuf (buf / 2) (buf % 2) + off.toNat) data {} 0 s))

/-- CLEAR (R358). -/
def execClear (oid : BitVec 10) (ctx : BitVec 6) (n : Fin 128) (s : State) : Ans := .next (writeReg oid ctx Reg.CMB_AXCMD (n + 2 ^ 8) s)

/-- PORT_ENABLE (R380). -/
def execPortEnable (oid : BitVec 10) (ctx : BitVec 6) (n : Fin 16) (data : BitVec 32) (s : State) : Ans :=
  .next (writeReg oid ctx (Reg.RLK_P_CFG n) data.toNat s)

/-- MANAGEMENT_EXCHANGE (R379). -/
def execManagementExchange (oid : BitVec 10) (ctx : BitVec 6) (n : Fin 16) (s : State) : Ans := .next (writeReg oid ctx (Reg.RLK_P_MGCMD n) 1 s)

/-- TX_REQUEST (R395). -/
def execTxRequest (oid : BitVec 10) (ctx : BitVec 6) (n : Fin 8) (bufs : BitVec 3) (s : State) : Ans :=
  .next (writeReg oid ctx (Reg.CFD_TXREQ n) bufs.toNat s)

/-- ABORT (R397). -/
def execAbort (oid : BitVec 10) (ctx : BitVec 6) (n : Fin 8) (bufs : BitVec 3) (s : State) : Ans :=
  .next (writeReg oid ctx (Reg.CFD_TXREQ n) (bufs.toNat * 16) s)

/-- SLEEP (R407). -/
def execSleep (oid : BitVec 10) (ctx : BitVec 6) (n : Fin 8) (s : State) : Ans := .next (writeReg oid ctx (Reg.CFD_CMD n) 1 s)

/-- WAKE (R407). -/
def execWake (oid : BitVec 10) (ctx : BitVec 6) (n : Fin 8) (s : State) : Ans := .next (writeReg oid ctx (Reg.CFD_CMD n) 2 s)

/-- RECOVER (R400). -/
def execRecover (oid : BitVec 10) (ctx : BitVec 6) (n : Fin 8) (s : State) : Ans := .next (writeReg oid ctx (Reg.CFD_CMD n) 4 s)

/-- ECSET_LOAD (R411). -/
def execEcsetLoad (oid : BitVec 10) (ctx : BitVec 6) (n : Fin 8) (data : BitVec 32) (s : State) : Ans :=
  .next (writeReg oid ctx (Reg.CFD_ECSET n) data.toNat s)

/-- TIME_ADJUST (R420). -/
def execTimeAdjust (oid : BitVec 10) (ctx : BitVec 6) (data : BitVec 32) (s : State) : Ans := .next (writeReg oid ctx Reg.TIM_ADJ data.toNat s)

/-- TIME_SET (R420): the low word commits. -/
def execTimeSet (oid : BitVec 10) (ctx : BitVec 6) (data : BitVec 32) (s : State) : Ans := .next (writeReg oid ctx Reg.TIM_SET_W0 data.toNat s)

/-- INCREMENT_COMMIT (R419). -/
def execIncrementCommit (oid : BitVec 10) (ctx : BitVec 6) (data : BitVec 32) (s : State) : Ans := .next (writeReg oid ctx Reg.TIM_INCR_LO data.toNat s)

/-- PULSE_ENABLE (R428). -/
def execPulseEnable (oid : BitVec 10) (ctx : BitVec 6) (n : Fin 8) (data : BitVec 32) (s : State) : Ans :=
  .next (writeReg oid ctx (Reg.TIM_PO_CTRL n) data.toNat s)

/-- TXQ_POP (R425). -/
def execTxqPop (oid : BitVec 10) (ctx : BitVec 6) (n : Fin 2) (s : State) : Ans := .next (writeReg oid ctx (Reg.TIM_TXQ_POP n) 1 s)

/-- CAPTURE_POP (R429). -/
def execCapturePop (oid : BitVec 10) (ctx : BitVec 6) (n : Fin 8) (s : State) : Ans := .next (writeReg oid ctx (Reg.TIM_CI_POP n) 1 s)

/-- SPLIT (R462). -/
def execSplit (oid : BitVec 10) (ctx : BitVec 6) (n : Fin 4) (s : State) : Ans := .next (writeReg oid ctx (Reg.BGH_PAIR_CMD n) 1 s)

/-- PARK (R463). -/
def execPark (oid : BitVec 10) (ctx : BitVec 6) (n : Fin 4) (s : State) : Ans := .next (writeReg oid ctx (Reg.BGH_PAIR_CMD n) 2 s)

/-- UNPARK (R461). -/
def execUnpark (oid : BitVec 10) (ctx : BitVec 6) (n : Fin 4) (s : State) : Ans := .next (writeReg oid ctx (Reg.BGH_PAIR_CMD n) 4 s)

/-- JOIN (R463). -/
def execJoin (oid : BitVec 10) (ctx : BitVec 6) (n : Fin 4) (s : State) : Ans := .next (writeReg oid ctx (Reg.BGH_PAIR_CMD n) 8 s)

/-- PAIR_READMIT (R464). -/
def execPairReadmit (oid : BitVec 10) (ctx : BitVec 6) (n : Fin 4) (s : State) : Ans := .next (writeReg oid ctx (Reg.BGH_PAIR_CMD n) 16 s)

/-- PAIR_ADMIT (R464). -/
def execPairAdmit (oid : BitVec 10) (ctx : BitVec 6) (n : Fin 4) (s : State) : Ans := .next (writeReg oid ctx (Reg.BGH_PAIR_CMD n) 32 s)

/-- IPSET_WRITE (R456). -/
def execIpsetWrite (oid : BitVec 10) (ctx : BitVec 6) (n : Fin 8) (data : BitVec 32) (s : State) : Ans :=
  .next (writeReg oid ctx (Reg.BGH_CORE_IPSET n) data.toNat s)

/-- LIFECYCLE_COMMAND (R472, R473). -/
def execLifecycleCommand (oid : BitVec 10) (ctx : BitVec 6) (data : BitVec 32) (bad : BitVec 3) (s : State) : Ans :=
  .next (writeReg oid ctx Reg.LCS_LCCMD data.toNat s bad.toNat)

/-- FUSE_PROGRAM (R471). -/
def execFuseProgram (oid : BitVec 10) (ctx : BitVec 6) (s : State) : Ans := .next (writeReg oid ctx Reg.LCS_FPROG_CMD 1 s)

/-- WIPE (R479). -/
def execWipe (oid : BitVec 10) (ctx : BitVec 6) (s : State) : Ans := .next (writeReg oid ctx Reg.LCS_PITHCMD 1 s)

/-- ROLLBACK_FW (R476). -/
def execRollbackFw (oid : BitVec 10) (ctx : BitVec 6) (s : State) : Ans := .next (writeReg oid ctx Reg.LCS_RBCMD 1 s)

/-- ROLLBACK_CFG (R476). -/
def execRollbackCfg (oid : BitVec 10) (ctx : BitVec 6) (s : State) : Ans := .next (writeReg oid ctx Reg.LCS_RBCMD 2 s)

/-- GLOBAL_RESET_COMMAND (R500). -/
def execGlobalResetCommand (oid : BitVec 10) (ctx : BitVec 6) (data : BitVec 32) (s : State) : Ans :=
  .next (writeReg oid ctx Reg.SAP_RSTCMD data.toNat s)

/-- DUMP_COMMAND (R529). -/
def execDumpCommand (oid : BitVec 10) (ctx : BitVec 6) (s : State) : Ans := .next (writeReg oid ctx Reg.EVQ_DUMPCMD 1 s)

end Sys2Proof.Machine
end

