-- ==== Sys2Proof/Machine/Boot.lean ====
section
/-! DEFINITION. Boot images, the installer configuration, the boot sequence, host-ready and the host port's reset
(22_roles_lifecycle_pith.md, 23_power_clocks_reset_boot.md: R474, R475, R480, R483, R499, R502 to R504). -/

namespace Sys2Proof.Machine

/-! ### Images (R474, R475) -/

/-- The state table of check 7 (R475). -/
def imageAllowed (st typ key : Nat) : Bool :=
  match typ with
  | 1 => 1 ≤ st && st ≤ 4 && key = 0
  | 2 => if st = lcProvisioned || st = lcField then key ≤ 1 else (st = lcMaker || st = lcReturn) && key = 0
  | 3 => if st = lcMaker then key = 0 else 2 ≤ st && st ≤ 4 && key = 1
  | 4 => st = lcField && key = 0
  | _ => false

/-- The first test of R475 that an image of the directory's TYPE `t` fails. -/
def imageFault (s : State) (t : Nat) (i : BootImage) : Option Nat :=
  let hash := hashWords s (if i.key = 0 then 4 else 16)
  let rb := i.rollback.toNat
  if i.magic ≠ 0x31494B54 || i.typ.toNat ≠ t || 1 < i.key.toNat || !i.rsvd then some 1
  else if !i.hashOk then some 2
  else if !i.sigOk then some 3
  else if !(hashSet s (if i.key = 0 then 4 else 16)) || i.keyHash.map BitVec.toNat ≠ hash then some 4
  else if (t ≤ 2 && decide (rb < s.fld F.LCS_RB_FW)) || (t = 3 && decide (rb < s.fld F.LCS_RB_CFG)) then some 5
  else if (i.uid ≠ 0 || t = 4) && i.uid.toNat ≠ deviceUid s then some 6
  else if !(imageAllowed (lcState s) t i.key.toNat) then some 7
  else none

/-- The boot tries the entries of a TYPE in directory order and uses the first image that is accepted (R501). -/
def pickImage (t : Nat) : List BootImage → State → Option BootImage × State
  | [], s => (none, s)
  | i :: r, s =>
    if i.dir.toNat ≠ t then pickImage t r s
    else match imageFault s t i with
      | none => (some i, s)
      | some n => pickImage t r (lcEvent 0xD006 0x30 3 t n i.rollback.toNat 0 s)

/-- A register value of the installer configuration (R475): its RWL fields and locks, with what the written values do. What a rule of the register's
chapter locks is refused here too (R343, R346). -/
def applyReg (off v : Nat) (s : State) : State :=
  match findReg off with
  | none => s
  | some d =>
    let set (f : FieldDef) : Bool := (f.acc = .rwl || f.acc = .wos) && bitAt f.who 1
    let was := (s.reg off).toNat
    let w : RegWr := { oid := 1, ctx := 0, kind := 0, data := v, addr := regBase + off, len := 4, first := v }
    let x := writeFields s off 0 v set (chapterLocked s w off) d.fields { new := was }
    let t := if d.fields.any set then regWritten s w off was x (if selfStored off then s else storeWord off x s) else s
    match x.lock with
    | none => t
    | some a => lockViolation { w with oid := hwdOid } (a = .wos) t

/-- The accepted installer configuration is applied by the firmware (R475, R328, R348, R356). -/
def applyCfg (c : InstCfg) (s : State) : State :=
  let s := c.axes.foldl (fun s a => s.setHwd { s.hwd with axrec := spSet [] a.1 (fillTo 32 a.2) s.hwd.axrec }) s
  let s := c.cells.foldl (fun s m => if m.1.toNat + m.2.length ≤ 0x400000 then s.wrBytes (0x2021000000 + m.1.toNat) m.2 else s) s
  c.regs.foldl (fun s r => applyReg r.1.toNat r.2.toNat s) s

/-! ### Boot (R480, R502, R504) -/

/-- What a power-on takes from the fuses until the next one: the configuration (R3) and the fused repairs (R310). -/
def powerUp (s : State) : State :=
  (s.setLcs { s.lcs with rack := (resolveFuse s 1).1 % 2 = 1 }).setMs
    { s.memsys with fused := (List.range 88).map fun i => (resolveFuse s (40 + i)).1 }

/-- The fuse step (R470, R472, R502): the words are resolved and shown; a blank module becomes a Maker module. -/
def resolveFuses (s : State) : State :=
  let s := if (resolveFuse s 0).1 % 32 = 0 then burn 0 1 1 1 s else s
  let bad (w : Nat) : Bool := (List.range 12).any fun i => (resolveFuse s (w + i)).2 = 2
  let val (w : Nat) : Nat :=
    if (4 ≤ w && w < 16 && bad 4) || (16 ≤ w && w < 28 && bad 16) then 0 else (resolveFuse s w).1
  let st := (List.range 5).foldl (fun m i => if bitAt (val 0) i then i + 1 else m) 0
  let t := (List.range 128).foldl (fun t w => t.setReg (Reg.LCS_FUSE w) (BitVec.ofNat 32 (val w))) s
  let t := (t.put F.LCS_STAT_STATE st).put F.LCS_STAT_RACK (ofBool s.lcs.rack)
  let t := (t.setReg Reg.LCS_UID_LO (BitVec.ofNat 32 (val 2))).setReg Reg.LCS_UID_HI (BitVec.ofNat 32 (val 3))
  (t.put F.LCS_RB_FW (fuseCount s 28 2)).put F.LCS_RB_CFG (fuseCount s 30 2)

/-- A change counter after a loss of retention (R483). -/
def restoreCounter (reg : Nat) (s : State) : State :=
  let k := fuseCount s (coarseWord reg) 4
  s.setReg reg (BitVec.ofNat 32 (if k = 128 then 0xFFFFFFFF else (k + 1) * 1024))

/-- The loss of retention meets the boot (R480). -/
def retentionLost (s : State) : State :=
  let s := (s.zero pithBase pithSize).put F.LCS_STAT_RETLOST 1
  let s := restoreCounter Reg.LCS_CHG_INST (restoreCounter Reg.LCS_CHG_MAKER (s.setReg Reg.LCS_TAMPER 0))
  let s := s.setLcs { s.lcs with owedTamper := 0, owedWipe := none }
  pithWiped (4, 0x30) (lcEvent 0xD005 0x30 1 0 0 0 0 s)

/-- The time is loaded from the AON count, or starts unset (R423): the count that AON held, and what it has counted until this boot. -/
def loadTime (b : BootIn) (lost first : Bool) (s : State) : State :=
  if lost then raise { code := 0x9004, oid := 0x34, sev := 1 } (loadAon 0 ((setTime 0 0 s).put F.TIM_STAT_UNSET 1))
  else
    let n := aonCount s + b.aonSec.toNat * 32768 + b.aonSub.toNat
    let ns := (rdiv ((n % 32768 * 1000000000 : Nat) : Int) 32768 32).1.toNat
    let s := loadAon n (setTime (n / 32768) (ns * 2 ^ 32) s)
    if first then s.put F.TIM_STAT_UNSET 1 else s

/-- What earlier happenings owe to this boot (R473, R479, R481). -/
def owedEvents (s : State) : State :=
  let s := match s.lcs.changed with
    | some (old, oid, n) => lcEvent 0xD001 0x30 1 old (lcState s) oid n s
    | none => s
  let s := if s.lcs.owedTamper = 0 then s else lcEvent 0xD003 0x30 3 s.lcs.owedTamper 1 0 0 s
  let s := match s.lcs.owedWipe with
    | some w => pithWiped w s
    | none => s
  s.setLcs { s.lcs with changed := none, owedTamper := 0, owedWipe := none }

/-- Frequencies and voltages after the PLL step (R491, R493, R502); those the spec gives no number for are free. -/
def domainsUp (s : State) : State :=
  let mhz (d : Nat) : Nat :=
    if d < 6 then 1500 else if d = 6 || (8 ≤ d && d < 12) then 1200 else if d = 7 then 2000 else if d = 12 || (15 ≤ d && d < 18) then 1000
    else if d = 13 then 2400 else if d = 14 then 400 else if d = 18 || d = 19 then 600 else if d = 20 then 625 else if d = 21 then 80
    else if d = 22 then 500 else 0
  let s := (List.range 24).foldl (fun s d => s.put (F.SAP_DOM_MHZ d) (mhz d)) s
  let s := (List.range 25).foldl (fun s d =>
    if adaptive d then s.put (F.SAP_DOM_MV d) 850
    else if d = 12 || d = 14 || (20 ≤ d && d < 23) then s.put (F.SAP_DOM_MV d) 800
    else s.put (F.SAP_DOM_MV d) (Config.freeValue (s.free + d) % 1024)) s
  { s.put (F.SAP_DOM_MHZ 24) (Config.freeValue s.free % 51) with free := s.free + 25 }

/-- Firmware, configuration, Bough image and return authorisation (R475, R502, R504). -/
def loadImages (b : BootIn) (s : State) : State :=
  let f := pickImage 1 b.images s
  let s := match f.1 with
    | some i => (f.2.put F.SAP_STAT_HWFW 1).setLcs { f.2.lcs with fwRb := some i.rollback.toNat }
    | none => f.2
  let s := if f.1.isNone then s
    else match pickImage 3 b.images s with
      | (some i, s) =>
        bumpChange Reg.LCS_CHG_INST ((applyCfg i.cfg (s.put F.SAP_STAT_ICFG 1)).setLcs { s.lcs with cfgRb := some i.rollback.toNat })
      | (none, s) => s
  let r := pickImage 4 b.images s
  let s := r.2.setLcs { r.2.lcs with retOk := r.1.isSome }
  match pickImage 2 b.images s with
  | (some i, s) => (s.wrBytes 0 (i.body.take 0x4000000)).put F.SAP_STAT_BIMG 1
  | (none, s) => s

/-- The DRAM stacks are initialised and trained, with what their soft post-package repairs have left (R311, R322), and the bulk-clear engine writes every
word (R502). -/
def dramUp (s : State) : State :=
  bulkZero 0 0x1800000000 ((List.range 4).foldl (fun s k => (s.put (F.DRC_STAT_INIT k) 1).put (F.DRC_PPR_AVAIL k) (Config.pprAvail k % 256)) s)

/-- The steps of R502 after the fuse step, up to READY. -/
def bootOn (b : BootIn) (cause : Nat × Nat) (lost first : Bool) (s : State) : State :=
  let s := loadTime b lost first s
  let s := sapEvent 0xC006 1 cause.1 (if cause.1 = 4 then cause.2 else 0) s
  let s := (List.range 128).foldl (fun s w => fuseDisagree 0x30 w s) s
  let s := if lost then retentionLost s else s
  let s := domainsUp (owedEvents s)
  let s := marchFails (b.fails.filter fun f => f.mac ≠ 0x8000) s
  let s := dramUp s
  let s := if s.flag F.LCS_STAT_RACK then (s.put F.HWD_STATE_SPLIT 1).put F.HWD_STATE_SEQ seqRack else s
  let s := loadImages b s
  (s.put F.SAP_BOOT_STAGE 5).setReg Reg.SAP_BOOTT (BitVec.ofNat 32 b.us.toNat)

/-- The boot sequence (R502) from the state a global reset leaves. In End it stops after the fuse step. -/
def boot (b : BootIn) (cause : Nat × Nat) (s : State) : State :=
  let lost := s.sap.lost
  let first := (resolveFuse s 0).1 % 32 = 0
  let s := s.setSap { s.sap with held := none, power := true, onMain := true, lost := false }
  let s := (resolveFuses s).put F.SAP_RSTCAUSE_CAUSE cause.1
  if lcState s = lcEnd then
    let s := if lost then restoreCounter Reg.LCS_CHG_INST (restoreCounter Reg.LCS_CHG_MAKER
      (((s.zero pithBase pithSize).put F.LCS_STAT_RETLOST 1).setReg Reg.LCS_TAMPER 0)) else s
    s.put F.SAP_BOOT_STAGE 6
  else bootOn b cause lost first s

/-- POWER_ON_BOOT (R3, R310, R488, R499, R502): main power is good, and the fuse option and the fused repairs take effect. It ends a brown-out, with the lowest cause that came in it; otherwise main power was
absent. -/
def execPowerOnBoot (b : BootIn) (s : State) : Ans := .next (boot b (s.sap.held.getD (0, 0)) (powerUp (resetKept s)))

/-- GLOBAL_RESET_RELEASE (R488, R499, R502): 10 µs after the cause ends; a brown-out ends with main power good (POWER_ON_BOOT). -/
def execGlobalResetRelease (b : BootIn) (s : State) : Ans :=
  match s.sap.held with
  | some c => if s.sap.power then .next (boot b c (resetKept s)) else .next s
  | none => .next s

/-! ### The host port (R499, R503) -/

/-- HOST_READY (R503, R506): the later of READY and L0. -/
def execHostReady (us : BitVec 32) (s : State) : Ans :=
  if s.fld F.SAP_BOOT_STAGE = 5 && s.sap.l0 && !s.sap.told then
    .next (sapEvent 0xC007 0 us.toNat (s.fld F.SAP_STAT_HWFW + 2 * s.fld F.SAP_STAT_ICFG + 4 * s.fld F.SAP_STAT_BIMG)
      (s.setSap { s.sap with told := true }))
  else .next s

/-- HOST_LINK_L0 (R503): the link reaches L0; configuration space answers, and the host programs the MSI-X table. -/
def execHostLinkL0 (s : State) : Ans :=
  .next (if s.sap.held.isNone && s.fld F.SAP_BOOT_STAGE ≠ 0 then (s.setSap { s.sap with l0 := true }).setEvq { s.evq with msix := true } else s)

/-- HOST_PORT_RESET (R499, R505, R525): the PCIe core is reset and the MSI-X table cleared; every context keeps running. -/
def execHostPortReset (s : State) : Ans := .next ((s.setSap { s.sap with l0 := false }).setEvq { s.evq with msix := false })

end Sys2Proof.Machine
end

