-- ==== Sys2Proof/Machine/CrownScalar.lean ====
section
/-! DEFINITION. Treik classes 0x0 and 0x1: the scalar ALU (R105) and the scalar immediates (R107). -/

namespace Sys2Proof.Machine

/-- A logic operation on 64-bit patterns (R105). -/
def bits64 (g : BitVec 64 → BitVec 64 → BitVec 64) (a b : Int) : Int := (g (BitVec.ofInt 64 a) (BitVec.ofInt 64 b)).toInt

/-- The two's complement pattern as a natural number. -/
def pat64 (a : Int) : Nat := (BitVec.ofInt 64 a).toNat

/-- A result without flags. -/
def plain (v : Int) : Res := (v, fNone)

/-- A shift count: bits 7 to 0 (R105). -/
def cnt8 (b : Int) : Nat := (uwrap b 8).toNat

/-- Number of 1 bits among the lowest `n`. -/
def popN (x n : Nat) : Nat := ((List.range n).filter fun i => x.testBit i).length

/-- A class 0x0 instruction that writes a scalar register; `rb` and `rc` say whether it uses those fields. -/
def aluA (c : Fin 6) (op fn : Nat) (f : FormA) (rb rc : Bool) (g : Int → Int → Int → Res) (s : State) : Ans :=
  seqRun c (wordA op fn f) f.pred f.pn (f.resv = 0 && (rb || f.rb = 0) && (rc || f.rc = 0))
    [f.rd.toNat, f.ra.toNat, f.rb.toNat, f.rc.toNat] []
    (fun s => let k := s.core c; doneS c f.rd.toNat (g (k.sreg f.ra.toNat) (k.sreg f.rb.toNat) (k.sreg f.rc.toNat)) s) s

/-- A comparison of class 0x0: p[rd] (R105). -/
def cmpA (c : Fin 6) (fn : Nat) (f : FormA) (g : Int → Int → Bool) (s : State) : Ans :=
  seqRun c (wordA 8 fn f) f.pred f.pn (f.resv = 0 && f.rc = 0 && f.rd.toNat < 8) [f.ra.toNat, f.rb.toNat] [f.rd.toNat]
    (fun s => doneCore c (fun k => k.setP f.rd.toNat (g (k.sreg f.ra.toNat) (k.sreg f.rb.toNat))) s) s

/-- A predicate operation of class 0x0 (R105). -/
def predA (c : Fin 6) (fn : Nat) (f : FormA) (useRb : Bool) (g : Bool → Bool → Bool) (s : State) : Ans :=
  seqRun c (wordA 0xA fn f) f.pred f.pn
    (f.resv = 0 && f.rc = 0 && f.rd.toNat < 8 && f.ra.toNat < 8 && f.rb.toNat < 8 && (useRb || f.rb = 0)) []
    [f.rd.toNat, f.ra.toNat, f.rb.toNat]
    (fun s => doneCore c (fun k => k.setP f.rd.toNat (g (k.preg f.ra.toNat) (k.preg f.rb.toNat))) s) s

/-- A class 0x1 instruction that writes a scalar register; `ok` is the legality of its fields (R107). -/
def aluI (c : Fin 6) (op fn : Nat) (f : FormI) (ok : Bool) (g : Int → Int → Res) (s : State) : Ans :=
  seqRun c (wordI 1 op fn f) f.pred f.pn ok [f.rd.toNat, f.ra.toNat] []
    (fun s => doneS c f.rd.toNat (g ((s.core c).sreg f.ra.toNat) f.imm.toInt) s) s

/-- A comparison of class 0x1 (R107). -/
def cmpI (c : Fin 6) (fn : Nat) (f : FormI) (g : Int → Int → Bool) (s : State) : Ans :=
  seqRun c (wordI 1 4 fn f) f.pred f.pn (f.rd.toNat < 8) [f.ra.toNat] [f.rd.toNat]
    (fun s => doneCore c (fun k => k.setP f.rd.toNat (g (k.sreg f.ra.toNat) f.imm.toInt)) s) s

/-- The field of a shift immediate: imm[31:8] must be 0 (R107). -/
def shiftOk (f : FormI) : Bool := f.imm.toNat < 256

/-- The width of SATI, USATI, SEXTI and ZEXTI lies from 1 to 64 (R107). -/
def widthOk (f : FormI) : Bool := 1 ≤ f.imm.toNat && f.imm.toNat ≤ 64

/-- ADD (R105). -/
def execAdd (core : Fin 6) (f : FormA) (s : State) : Ans :=
  aluA core 0 0 f true false (fun a b _ => sat (a + b) 64) s

/-- ADDM (R105). -/
def execAddm (core : Fin 6) (f : FormA) (s : State) : Ans :=
  aluA core 0 1 f true false (fun a b _ => plain (wrap (a + b) 64)) s

/-- SUB (R105). -/
def execSub (core : Fin 6) (f : FormA) (s : State) : Ans :=
  aluA core 1 0 f true false (fun a b _ => sat (a - b) 64) s

/-- SUBM (R105). -/
def execSubm (core : Fin 6) (f : FormA) (s : State) : Ans :=
  aluA core 1 1 f true false (fun a b _ => plain (wrap (a - b) 64)) s

/-- MUL (R105). -/
def execMul (core : Fin 6) (f : FormA) (s : State) : Ans :=
  aluA core 2 0 f true false (fun a b _ => sat (a * b) 64) s

/-- MULM (R105). -/
def execMulm (core : Fin 6) (f : FormA) (s : State) : Ans :=
  aluA core 2 1 f true false (fun a b _ => plain (wrap (a * b) 64)) s

/-- MULQ (R105). -/
def execMulq (core : Fin 6) (f : FormA) (s : State) : Ans :=
  aluA core 2 2 f true true (fun a b x => qmul a b (cnt8 x) 64) s

/-- DIV (R105). -/
def execDiv (core : Fin 6) (f : FormA) (s : State) : Ans :=
  aluA core 3 0 f true false (fun a b _ => qdiv a b 64) s

/-- REM (R105). -/
def execRem (core : Fin 6) (f : FormA) (s : State) : Ans :=
  aluA core 3 1 f true false (fun a b _ => qrem a b 64) s

/-- DIVR (R105). -/
def execDivr (core : Fin 6) (f : FormA) (s : State) : Ans :=
  aluA core 3 2 f true false (fun a b _ => rdiv a b 64) s

/-- AND (R105). -/
def execAnd (core : Fin 6) (f : FormA) (s : State) : Ans :=
  aluA core 4 0 f true false (fun a b _ => plain (bits64 (· &&& ·) a b)) s

/-- OR (R105). -/
def execOr (core : Fin 6) (f : FormA) (s : State) : Ans :=
  aluA core 4 1 f true false (fun a b _ => plain (bits64 (· ||| ·) a b)) s

/-- XOR (R105). -/
def execXor (core : Fin 6) (f : FormA) (s : State) : Ans :=
  aluA core 4 2 f true false (fun a b _ => plain (bits64 (· ^^^ ·) a b)) s

/-- ANDN (R105). -/
def execAndn (core : Fin 6) (f : FormA) (s : State) : Ans :=
  aluA core 4 3 f true false (fun a b _ => plain (bits64 (fun x y => x &&& ~~~y) a b)) s

/-- NOT (R105). -/
def execNot (core : Fin 6) (f : FormA) (s : State) : Ans :=
  aluA core 4 4 f false false (fun a _ _ => plain (bits64 (fun x _ => ~~~x) a 0)) s

/-- SLL (R105). -/
def execSll (core : Fin 6) (f : FormA) (s : State) : Ans :=
  aluA core 5 0 f true false (fun a b _ => plain (lsl a (cnt8 b) 64)) s

/-- SRL (R105). -/
def execSrl (core : Fin 6) (f : FormA) (s : State) : Ans :=
  aluA core 5 1 f true false (fun a b _ => plain (wrap (lsr a (cnt8 b) 64) 64)) s

/-- SRA (R105). -/
def execSra (core : Fin 6) (f : FormA) (s : State) : Ans :=
  aluA core 5 2 f true false (fun a b _ => plain (asr a (cnt8 b))) s

/-- SLS (R105). -/
def execSls (core : Fin 6) (f : FormA) (s : State) : Ans :=
  aluA core 5 3 f true false (fun a b _ => ssl a (cnt8 b) 64) s

/-- SRR (R105). -/
def execSrr (core : Fin 6) (f : FormA) (s : State) : Ans :=
  aluA core 5 4 f true false (fun a b _ => srshift a (cnt8 b) 64) s

/-- MIN (R105). -/
def execMin (core : Fin 6) (f : FormA) (s : State) : Ans :=
  aluA core 6 0 f true false (fun a b _ => plain (if a ≤ b then a else b)) s

/-- MAX (R105). -/
def execMax (core : Fin 6) (f : FormA) (s : State) : Ans :=
  aluA core 6 1 f true false (fun a b _ => plain (if a ≥ b then a else b)) s

/-- MINU (R105). -/
def execMinu (core : Fin 6) (f : FormA) (s : State) : Ans :=
  aluA core 6 2 f true false (fun a b _ => plain (if uwrap a 64 ≤ uwrap b 64 then a else b)) s

/-- MAXU (R105). -/
def execMaxu (core : Fin 6) (f : FormA) (s : State) : Ans :=
  aluA core 6 3 f true false (fun a b _ => plain (if uwrap a 64 ≥ uwrap b 64 then a else b)) s

/-- NEG (R105). -/
def execNeg (core : Fin 6) (f : FormA) (s : State) : Ans :=
  aluA core 6 4 f false false (fun a _ _ => negS a 64) s

/-- ABS (R105). -/
def execAbs (core : Fin 6) (f : FormA) (s : State) : Ans :=
  aluA core 6 5 f false false (fun a _ _ => absS a 64) s

/-- CLZ (R105). -/
def execClz (core : Fin 6) (f : FormA) (s : State) : Ans :=
  aluA core 7 0 f false false (fun a _ _ => plain (64 - bitlen (pat64 a) : Nat)) s

/-- CTZ (R105). -/
def execCtz (core : Fin 6) (f : FormA) (s : State) : Ans :=
  aluA core 7 1 f false false (fun a _ _ => plain (((List.range 64).find? fun i => (pat64 a).testBit i).getD 64 : Nat)) s

/-- POP (R105). -/
def execPop (core : Fin 6) (f : FormA) (s : State) : Ans :=
  aluA core 7 2 f false false (fun a _ _ => plain (popN (pat64 a) 64 : Nat)) s

/-- CMP.EQ (R105). -/
def execCmpEq (core : Fin 6) (f : FormA) (s : State) : Ans :=
  cmpA core 0 f (fun a b => a = b) s

/-- CMP.NE (R105). -/
def execCmpNe (core : Fin 6) (f : FormA) (s : State) : Ans :=
  cmpA core 1 f (fun a b => a ≠ b) s

/-- CMP.LT (R105). -/
def execCmpLt (core : Fin 6) (f : FormA) (s : State) : Ans :=
  cmpA core 2 f (fun a b => a < b) s

/-- CMP.LE (R105). -/
def execCmpLe (core : Fin 6) (f : FormA) (s : State) : Ans :=
  cmpA core 3 f (fun a b => a ≤ b) s

/-- CMP.LTU (R105). -/
def execCmpLtu (core : Fin 6) (f : FormA) (s : State) : Ans :=
  cmpA core 4 f (fun a b => uwrap a 64 < uwrap b 64) s

/-- CMP.LEU (R105). -/
def execCmpLeu (core : Fin 6) (f : FormA) (s : State) : Ans :=
  cmpA core 5 f (fun a b => uwrap a 64 ≤ uwrap b 64) s

/-- SEL (R105): rc names a predicate. -/
def execSel (core : Fin 6) (f : FormA) (s : State) : Ans :=
  seqRun core (wordA 9 0 f) f.pred f.pn (f.resv = 0 && f.rc.toNat < 8) [f.rd.toNat, f.ra.toNat, f.rb.toNat] [f.rc.toNat]
    (fun s => doneCore core (fun k => k.setS f.rd.toNat (if k.preg f.rc.toNat then k.sreg f.ra.toNat else k.sreg f.rb.toNat)) s) s

/-- PAND (R105). -/
def execPand (core : Fin 6) (f : FormA) (s : State) : Ans :=
  predA core 0 f true (fun x y => x && y) s

/-- POR (R105). -/
def execPor (core : Fin 6) (f : FormA) (s : State) : Ans :=
  predA core 1 f true (fun x y => x || y) s

/-- PXOR (R105). -/
def execPxor (core : Fin 6) (f : FormA) (s : State) : Ans :=
  predA core 2 f true (fun x y => x != y) s

/-- PANDN (R105). -/
def execPandn (core : Fin 6) (f : FormA) (s : State) : Ans :=
  predA core 3 f true (fun x y => x && !y) s

/-- PNOT (R105). -/
def execPnot (core : Fin 6) (f : FormA) (s : State) : Ans :=
  predA core 4 f false (fun x _ => !x) s

/-- PGET (R105). -/
def execPget (core : Fin 6) (f : FormA) (s : State) : Ans :=
  seqRun core (wordA 0xB 0 f) f.pred f.pn (f.resv = 0 && f.rb = 0 && f.rc = 0 && f.ra.toNat < 8) [f.rd.toNat] [f.ra.toNat]
    (fun s => doneCore core (fun k => k.setS f.rd.toNat (ofBool (k.preg f.ra.toNat) : Nat)) s) s

/-- PSET (R105). -/
def execPset (core : Fin 6) (f : FormA) (s : State) : Ans :=
  seqRun core (wordA 0xB 1 f) f.pred f.pn (f.resv = 0 && f.rb = 0 && f.rc = 0 && f.rd.toNat < 8) [f.ra.toNat] [f.rd.toNat]
    (fun s => doneCore core (fun k => k.setP f.rd.toNat (k.sreg f.ra.toNat ≠ 0)) s) s

/-- ADDI (R107). -/
def execAddi (core : Fin 6) (f : FormI) (s : State) : Ans :=
  aluI core 0 0 f true (fun a i => sat (a + i) 64) s

/-- ADDIM (R107). -/
def execAddim (core : Fin 6) (f : FormI) (s : State) : Ans :=
  aluI core 0 1 f true (fun a i => plain (wrap (a + i) 64)) s

/-- MULI (R107). -/
def execMuli (core : Fin 6) (f : FormI) (s : State) : Ans :=
  aluI core 1 0 f true (fun a i => sat (a * i) 64) s

/-- MULIM (R107). -/
def execMulim (core : Fin 6) (f : FormI) (s : State) : Ans :=
  aluI core 1 1 f true (fun a i => plain (wrap (a * i) 64)) s

/-- ANDI (R107). -/
def execAndi (core : Fin 6) (f : FormI) (s : State) : Ans :=
  aluI core 2 0 f true (fun a i => plain (bits64 (· &&& ·) a i)) s

/-- ORI (R107). -/
def execOri (core : Fin 6) (f : FormI) (s : State) : Ans :=
  aluI core 2 1 f true (fun a i => plain (bits64 (· ||| ·) a i)) s

/-- XORI (R107). -/
def execXori (core : Fin 6) (f : FormI) (s : State) : Ans :=
  aluI core 2 2 f true (fun a i => plain (bits64 (· ^^^ ·) a i)) s

/-- SLLI (R107). -/
def execSlli (core : Fin 6) (f : FormI) (s : State) : Ans :=
  aluI core 3 0 f (shiftOk f) (fun a i => plain (lsl a (cnt8 i) 64)) s

/-- SRLI (R107). -/
def execSrli (core : Fin 6) (f : FormI) (s : State) : Ans :=
  aluI core 3 1 f (shiftOk f) (fun a i => plain (wrap (lsr a (cnt8 i) 64) 64)) s

/-- SRAI (R107). -/
def execSrai (core : Fin 6) (f : FormI) (s : State) : Ans :=
  aluI core 3 2 f (shiftOk f) (fun a i => plain (asr a (cnt8 i))) s

/-- SLSI (R107). -/
def execSlsi (core : Fin 6) (f : FormI) (s : State) : Ans :=
  aluI core 3 3 f (shiftOk f) (fun a i => ssl a (cnt8 i) 64) s

/-- SRRI (R107). -/
def execSrri (core : Fin 6) (f : FormI) (s : State) : Ans :=
  aluI core 3 4 f (shiftOk f) (fun a i => srshift a (cnt8 i) 64) s

/-- CMPI.EQ (R107). -/
def execCmpiEq (core : Fin 6) (f : FormI) (s : State) : Ans :=
  cmpI core 0 f (fun a b => a = b) s

/-- CMPI.NE (R107). -/
def execCmpiNe (core : Fin 6) (f : FormI) (s : State) : Ans :=
  cmpI core 1 f (fun a b => a ≠ b) s

/-- CMPI.LT (R107). -/
def execCmpiLt (core : Fin 6) (f : FormI) (s : State) : Ans :=
  cmpI core 2 f (fun a b => a < b) s

/-- CMPI.LE (R107). -/
def execCmpiLe (core : Fin 6) (f : FormI) (s : State) : Ans :=
  cmpI core 3 f (fun a b => a ≤ b) s

/-- CMPI.LTU (R107). -/
def execCmpiLtu (core : Fin 6) (f : FormI) (s : State) : Ans :=
  cmpI core 4 f (fun a b => uwrap a 64 < uwrap b 64) s

/-- CMPI.LEU (R107). -/
def execCmpiLeu (core : Fin 6) (f : FormI) (s : State) : Ans :=
  cmpI core 5 f (fun a b => uwrap a 64 ≤ uwrap b 64) s

/-- LI (R107). -/
def execLi (core : Fin 6) (f : FormI) (s : State) : Ans :=
  aluI core 5 0 f (f.ra = 0) (fun _ i => plain i) s

/-- LIH (R107). -/
def execLih (core : Fin 6) (f : FormI) (s : State) : Ans :=
  aluI core 6 0 f true (fun a i => plain (wrap (uwrap i 32 * 2 ^ 32 + uwrap a 32) 64)) s

/-- SATI (R107). -/
def execSati (core : Fin 6) (f : FormI) (s : State) : Ans :=
  aluI core 7 0 f (widthOk f) (fun a i => sat a i.toNat) s

/-- USATI (R107). -/
def execUsati (core : Fin 6) (f : FormI) (s : State) : Ans :=
  aluI core 7 1 f (widthOk f) (fun a i => usat a i.toNat) s

/-- SEXTI (R107). -/
def execSexti (core : Fin 6) (f : FormI) (s : State) : Ans :=
  aluI core 7 2 f (widthOk f) (fun a i => plain (wrap a i.toNat)) s

/-- ZEXTI (R107). -/
def execZexti (core : Fin 6) (f : FormI) (s : State) : Ans :=
  aluI core 7 3 f (widthOk f) (fun a i => plain (if i = 64 then wrap a 64 else uwrap a i.toNat)) s

end Sys2Proof.Machine
end

