-- ==== Sys2Proof/Machine/Dispatch.lean ====
section
/-! DEFINITION. One arm per command: the meaning it calls. -/

namespace Sys2Proof.Machine

def exec (i : Instr) (s : State) : Host.Outcome State Fault Refusal :=
  match i with
  | .registerWrite off reqs => Sys2Proof.Machine.execRegisterWrite off reqs s
  | .aliasWrite oid ctx clear addr data => Sys2Proof.Machine.execAliasWrite oid ctx clear addr data s
  | .nocRead oid ctx addr len link => Sys2Proof.Machine.execNocRead oid ctx addr len link s
  | .nocWrite oid ctx addr data link => Sys2Proof.Machine.execNocWrite oid ctx addr data link s
  | .hostReadRequest bar off len link => Sys2Proof.Machine.execHostReadRequest bar off len link s
  | .hostWriteRequest bar off data link => Sys2Proof.Machine.execHostWriteRequest bar off data link s
  | .servicePortCommand a link => Sys2Proof.Machine.execServicePortCommand a link s
  | .tapCommand op link => Sys2Proof.Machine.execTapCommand op link s
  | .strictWrite oid ctx data => Sys2Proof.Machine.execStrictWrite oid ctx data s
  | .add core f => Sys2Proof.Machine.execAdd core f s
  | .addm core f => Sys2Proof.Machine.execAddm core f s
  | .sub core f => Sys2Proof.Machine.execSub core f s
  | .subm core f => Sys2Proof.Machine.execSubm core f s
  | .mul core f => Sys2Proof.Machine.execMul core f s
  | .mulm core f => Sys2Proof.Machine.execMulm core f s
  | .mulq core f => Sys2Proof.Machine.execMulq core f s
  | .div core f => Sys2Proof.Machine.execDiv core f s
  | .rem core f => Sys2Proof.Machine.execRem core f s
  | .divr core f => Sys2Proof.Machine.execDivr core f s
  | .andS core f => Sys2Proof.Machine.execAnd core f s
  | .orS core f => Sys2Proof.Machine.execOr core f s
  | .xorS core f => Sys2Proof.Machine.execXor core f s
  | .andn core f => Sys2Proof.Machine.execAndn core f s
  | .notS core f => Sys2Proof.Machine.execNot core f s
  | .sll core f => Sys2Proof.Machine.execSll core f s
  | .srl core f => Sys2Proof.Machine.execSrl core f s
  | .sra core f => Sys2Proof.Machine.execSra core f s
  | .sls core f => Sys2Proof.Machine.execSls core f s
  | .srr core f => Sys2Proof.Machine.execSrr core f s
  | .minS core f => Sys2Proof.Machine.execMin core f s
  | .maxS core f => Sys2Proof.Machine.execMax core f s
  | .minu core f => Sys2Proof.Machine.execMinu core f s
  | .maxu core f => Sys2Proof.Machine.execMaxu core f s
  | .neg core f => Sys2Proof.Machine.execNeg core f s
  | .absI core f => Sys2Proof.Machine.execAbs core f s
  | .clz core f => Sys2Proof.Machine.execClz core f s
  | .ctz core f => Sys2Proof.Machine.execCtz core f s
  | .pop core f => Sys2Proof.Machine.execPop core f s
  | .cmpEq core f => Sys2Proof.Machine.execCmpEq core f s
  | .cmpNe core f => Sys2Proof.Machine.execCmpNe core f s
  | .cmpLt core f => Sys2Proof.Machine.execCmpLt core f s
  | .cmpLe core f => Sys2Proof.Machine.execCmpLe core f s
  | .cmpLtu core f => Sys2Proof.Machine.execCmpLtu core f s
  | .cmpLeu core f => Sys2Proof.Machine.execCmpLeu core f s
  | .sel core f => Sys2Proof.Machine.execSel core f s
  | .pand core f => Sys2Proof.Machine.execPand core f s
  | .por core f => Sys2Proof.Machine.execPor core f s
  | .pxor core f => Sys2Proof.Machine.execPxor core f s
  | .pandn core f => Sys2Proof.Machine.execPandn core f s
  | .pnot core f => Sys2Proof.Machine.execPnot core f s
  | .pget core f => Sys2Proof.Machine.execPget core f s
  | .pset core f => Sys2Proof.Machine.execPset core f s
  | .addi core f => Sys2Proof.Machine.execAddi core f s
  | .addim core f => Sys2Proof.Machine.execAddim core f s
  | .muli core f => Sys2Proof.Machine.execMuli core f s
  | .mulim core f => Sys2Proof.Machine.execMulim core f s
  | .andi core f => Sys2Proof.Machine.execAndi core f s
  | .ori core f => Sys2Proof.Machine.execOri core f s
  | .xori core f => Sys2Proof.Machine.execXori core f s
  | .slli core f => Sys2Proof.Machine.execSlli core f s
  | .srli core f => Sys2Proof.Machine.execSrli core f s
  | .srai core f => Sys2Proof.Machine.execSrai core f s
  | .slsi core f => Sys2Proof.Machine.execSlsi core f s
  | .srri core f => Sys2Proof.Machine.execSrri core f s
  | .cmpiEq core f => Sys2Proof.Machine.execCmpiEq core f s
  | .cmpiNe core f => Sys2Proof.Machine.execCmpiNe core f s
  | .cmpiLt core f => Sys2Proof.Machine.execCmpiLt core f s
  | .cmpiLe core f => Sys2Proof.Machine.execCmpiLe core f s
  | .cmpiLtu core f => Sys2Proof.Machine.execCmpiLtu core f s
  | .cmpiLeu core f => Sys2Proof.Machine.execCmpiLeu core f s
  | .li core f => Sys2Proof.Machine.execLi core f s
  | .lih core f => Sys2Proof.Machine.execLih core f s
  | .sati core f => Sys2Proof.Machine.execSati core f s
  | .usati core f => Sys2Proof.Machine.execUsati core f s
  | .sexti core f => Sys2Proof.Machine.execSexti core f s
  | .zexti core f => Sys2Proof.Machine.execZexti core f s
  | .br core f => Sys2Proof.Machine.execBr core f s
  | .brr core f => Sys2Proof.Machine.execBrr core f s
  | .call core f => Sys2Proof.Machine.execCall core f s
  | .callr core f => Sys2Proof.Machine.execCallr core f s
  | .loop core f => Sys2Proof.Machine.execLoop core f s
  | .lbrk core f => Sys2Proof.Machine.execLbrk core f s
  | .lidx core f => Sys2Proof.Machine.execLidx core f s
  | .endJob core f => Sys2Proof.Machine.execEnd core f s
  | .fault core f => Sys2Proof.Machine.execFault core f s
  | .nop core f => Sys2Proof.Machine.execNop core f s
  | .ldb core f => Sys2Proof.Machine.execLdb core f s
  | .ldbu core f => Sys2Proof.Machine.execLdbu core f s
  | .ldh core f => Sys2Proof.Machine.execLdh core f s
  | .ldhu core f => Sys2Proof.Machine.execLdhu core f s
  | .ldw core f => Sys2Proof.Machine.execLdw core f s
  | .ldwu core f => Sys2Proof.Machine.execLdwu core f s
  | .ldd core f => Sys2Proof.Machine.execLdd core f s
  | .stb core f => Sys2Proof.Machine.execStb core f s
  | .sth core f => Sys2Proof.Machine.execSth core f s
  | .stw core f => Sys2Proof.Machine.execStw core f s
  | .std core f => Sys2Proof.Machine.execStd core f s
  | .rsig core f => Sys2Proof.Machine.execRsig core f s
  | .rsigv core f => Sys2Proof.Machine.execRsigv core f s
  | .rwait core f => Sys2Proof.Machine.execRwait core f s
  | .rwaits core f => Sys2Proof.Machine.execRwaits core f s
  | .rrd core f => Sys2Proof.Machine.execRrd core f s
  | .rtest core f => Sys2Proof.Machine.execRtest core f s
  | .rsigd core f => Sys2Proof.Machine.execRsigd core f s
  | .tset core f => Sys2Proof.Machine.execTset core f s
  | .tget core f => Sys2Proof.Machine.execTget core f s
  | .tld core f => Sys2Proof.Machine.execTld core f s
  | .tst core f => Sys2Proof.Machine.execTst core f s
  | .tadv core f => Sys2Proof.Machine.execTadv core f s
  | .tsub core f => Sys2Proof.Machine.execTsub core f s
  | .tcpy core f => Sys2Proof.Machine.execTcpy core f s
  | .fflush core f => Sys2Proof.Machine.execFflush core f s
  | .flagrd core f => Sys2Proof.Machine.execFlagrd core f s
  | .flagclr core f => Sys2Proof.Machine.execFlagclr core f s
  | .svr core f => Sys2Proof.Machine.execSvr core f s
  | .awld core f => Sys2Proof.Machine.execAwld core f s
  | .amm core f => Sys2Proof.Machine.execAmm core f s
  | .ammc core f => Sys2Proof.Machine.execAmmc core f s
  | .vadd core f => Sys2Proof.Machine.execVadd core f s
  | .vaddm core f => Sys2Proof.Machine.execVaddm core f s
  | .vsub core f => Sys2Proof.Machine.execVsub core f s
  | .vsubm core f => Sys2Proof.Machine.execVsubm core f s
  | .vmin core f => Sys2Proof.Machine.execVmin core f s
  | .vmax core f => Sys2Proof.Machine.execVmax core f s
  | .vneg core f => Sys2Proof.Machine.execVneg core f s
  | .vabs core f => Sys2Proof.Machine.execVabs core f s
  | .vand core f => Sys2Proof.Machine.execVand core f s
  | .vor core f => Sys2Proof.Machine.execVor core f s
  | .vxor core f => Sys2Proof.Machine.execVxor core f s
  | .vandn core f => Sys2Proof.Machine.execVandn core f s
  | .vmul core f => Sys2Proof.Machine.execVmul core f s
  | .vmulq core f => Sys2Proof.Machine.execVmulq core f s
  | .vmac core f => Sys2Proof.Machine.execVmac core f s
  | .vresc core f => Sys2Proof.Machine.execVresc core f s
  | .vsll core f => Sys2Proof.Machine.execVsll core f s
  | .vsrl core f => Sys2Proof.Machine.execVsrl core f s
  | .vsra core f => Sys2Proof.Machine.execVsra core f s
  | .vsls core f => Sys2Proof.Machine.execVsls core f s
  | .vsrr core f => Sys2Proof.Machine.execVsrr core f s
  | .vslli core f => Sys2Proof.Machine.execVslli core f s
  | .vsrli core f => Sys2Proof.Machine.execVsrli core f s
  | .vsrai core f => Sys2Proof.Machine.execVsrai core f s
  | .vslsi core f => Sys2Proof.Machine.execVslsi core f s
  | .vsrri core f => Sys2Proof.Machine.execVsrri core f s
  | .vsat core f => Sys2Proof.Machine.execVsat core f s
  | .vusat core f => Sys2Proof.Machine.execVusat core f s
  | .vcmpEq core f => Sys2Proof.Machine.execVcmpEq core f s
  | .vcmpNe core f => Sys2Proof.Machine.execVcmpNe core f s
  | .vcmpLt core f => Sys2Proof.Machine.execVcmpLt core f s
  | .vcmpLe core f => Sys2Proof.Machine.execVcmpLe core f s
  | .vsel core f => Sys2Proof.Machine.execVsel core f s
  | .vmov core f => Sys2Proof.Machine.execVmov core f s
  | .vbcs core f => Sys2Proof.Machine.execVbcs core f s
  | .vbcl core f => Sys2Proof.Machine.execVbcl core f s
  | .vidx core f => Sys2Proof.Machine.execVidx core f s
  | .vins core f => Sys2Proof.Machine.execVins core f s
  | .vext core f => Sys2Proof.Machine.execVext core f s
  | .vrsum core f => Sys2Proof.Machine.execVrsum core f s
  | .vrmax core f => Sys2Proof.Machine.execVrmax core f s
  | .vrmin core f => Sys2Proof.Machine.execVrmin core f s
  | .vramax core f => Sys2Proof.Machine.execVramax core f s
  | .vrarg core f => Sys2Proof.Machine.execVrarg core f s
  | .vld core f => Sys2Proof.Machine.execVld core f s
  | .vst core f => Sys2Proof.Machine.execVst core f s
  | .vacr core f => Sys2Proof.Machine.execVacr core f s
  | .vacw core f => Sys2Proof.Machine.execVacw core f s
  | .vrdiv core f => Sys2Proof.Machine.execVrdiv core f s
  | .vqdiv core f => Sys2Proof.Machine.execVqdiv core f s
  | .vqrem core f => Sys2Proof.Machine.execVqrem core f s
  | .vrsq core f => Sys2Proof.Machine.execVrsq core f s
  | .vmkc core f => Sys2Proof.Machine.execVmkc core f s
  | .vmkcm core f => Sys2Proof.Machine.execVmkcm core f s
  | .vmks core f => Sys2Proof.Machine.execVmks core f s
  | .vmksm core f => Sys2Proof.Machine.execVmksm core f s
  | .vany core f => Sys2Proof.Machine.execVany core f s
  | .vexp core f => Sys2Proof.Machine.execVexp core f s
  | .vroti core f => Sys2Proof.Machine.execVroti core f s
  | .vrots core f => Sys2Proof.Machine.execVrots core f s
  | .tldTable core f => Sys2Proof.Machine.execTldTable core f s
  | .tlu core f => Sys2Proof.Machine.execTlu core f s
  | .tli core f => Sys2Proof.Machine.execTli core f s
  | .qdrn core f => Sys2Proof.Machine.execQdrn core f s
  | .qdq core f => Sys2Proof.Machine.execQdq core f s
  | .qnt core f => Sys2Proof.Machine.execQnt core f s
  | .qscl core f => Sys2Proof.Machine.execQscl core f s
  | .dld core f => Sys2Proof.Machine.execDld core f s
  | .dst core f => Sys2Proof.Machine.execDst core f s
  | .dgth core f => Sys2Proof.Machine.execDgth core f s
  | .dsct core f => Sys2Proof.Machine.execDsct core f s
  | .dacl core f => Sys2Proof.Machine.execDacl core f s
  | .dacs core f => Sys2Proof.Machine.execDacs core f s
  | .dzro core f => Sys2Proof.Machine.execDzro core f s
  | .arrayDispatch core => Sys2Proof.Machine.execArrayDispatch core s
  | .dmaTake core eng => Sys2Proof.Machine.execDmaTake core eng s
  | .twigIssue core => Sys2Proof.Machine.execTwigIssue core s
  | .syncQueueHead core => Sys2Proof.Machine.execSyncQueueHead core s
  | .shadowLoadComplete core => Sys2Proof.Machine.execShadowLoadComplete core s
  | .instructionRetire core unit => Sys2Proof.Machine.execInstructionRetire core unit s
  | .ringWaitSatisfied place => Sys2Proof.Machine.execRingWaitSatisfied place s
  | .jobEndReport core => Sys2Proof.Machine.execJobEndReport core s
  | .ringSignalApply ring => Sys2Proof.Machine.execRingSignalApply ring s
  | .ringSignalRegisterWrite oid ctx ring data => Sys2Proof.Machine.execRingSignalRegisterWrite oid ctx ring data s
  | .seqNew ctx => Sys2Proof.Machine.execSeqNew ctx s
  | .seqGraft ctx => Sys2Proof.Machine.execSeqGraft ctx s
  | .kvpExtend ctx => Sys2Proof.Machine.execExtend ctx s
  | .kvpWrite ctx => Sys2Proof.Machine.execKvpWrite ctx s
  | .kvpGather ctx => Sys2Proof.Machine.execKvpGather ctx s
  | .kvpTrunc ctx => Sys2Proof.Machine.execKvpTrunc ctx s
  | .kvpFree ctx => Sys2Proof.Machine.execKvpFree ctx s
  | .pageZeroed ctx => Sys2Proof.Machine.execPageZeroed ctx s
  | .allocationRetry ctx => Sys2Proof.Machine.execAllocationRetry ctx s
  | .kvpWaitlimExpiry ctx => Sys2Proof.Machine.execKvpWaitlimExpiry ctx s
  | .kvpQuotaWrite oid ctx n data => Sys2Proof.Machine.execKvpQuotaWrite oid ctx n data s
  | .splConv => Sys2Proof.Machine.execSplConv s
  | .splPool => Sys2Proof.Machine.execSplPool s
  | .splRsmp => Sys2Proof.Machine.execSplRsmp s
  | .splDecode => Sys2Proof.Machine.execSplDecode s
  | .splNms => Sys2Proof.Machine.execSplNms s
  | .splNop => Sys2Proof.Machine.execSplNop s
  | .splEnd => Sys2Proof.Machine.execSplEnd s
  | .csiFrameStart rx vc num ecc => Sys2Proof.Machine.execCsiFrameStart rx vc num ecc s
  | .csiLongPacket rx vc dt ecc crcOk fits payload => Sys2Proof.Machine.execCsiLongPacket rx vc dt ecc crcOk fits payload s
  | .csiFrameEnd rx vc ecc => Sys2Proof.Machine.execCsiFrameEnd rx vc ecc s
  | .frameLate stream => Sys2Proof.Machine.execFrameLate stream s
  | .hostSampleAdmission stream => Sys2Proof.Machine.execHostSampleAdmission stream s
  | .sampleComplete stream k => Sys2Proof.Machine.execSampleComplete stream k s
  | .testPatternComplete stream => Sys2Proof.Machine.execTestPatternComplete stream s
  | .packTimeout stream => Sys2Proof.Machine.execPackTimeout stream s
  | .streamEnable set => Sys2Proof.Machine.execStreamEnable set s
  | .streamDescriptorWrite oid ctx off data => Sys2Proof.Machine.execStreamDescriptorWrite oid ctx off data s
  | .contextEnable oid ctx n data => Sys2Proof.Machine.execContextEnable oid ctx n data s
  | .teardown oid ctx n => Sys2Proof.Machine.execTeardown oid ctx n s
  | .contextAck oid ctx n => Sys2Proof.Machine.execContextAck oid ctx n s
  | .vtreset oid ctx n => Sys2Proof.Machine.execVtreset oid ctx n s
  | .schedulerEnable oid ctx data => Sys2Proof.Machine.execSchedulerEnable oid ctx data s
  | .jobDescriptorCheck ctx => Sys2Proof.Machine.execJobDescriptorCheck ctx s
  | .jobDispatch sapling => Sys2Proof.Machine.execJobDispatch sapling s
  | .jobStart unit => Sys2Proof.Machine.execJobStart unit s
  | .jobSeal unit => Sys2Proof.Machine.execJobSeal unit s
  | .sealwaitExpiry unit => Sys2Proof.Machine.execSealwaitExpiry unit s
  | .switchPoint ctx => Sys2Proof.Machine.execSwitchPoint ctx s
  | .deadlineReached ctx => Sys2Proof.Machine.execDeadlineReached ctx s
  | .stopLimitExpiry unit => Sys2Proof.Machine.execStopLimitExpiry unit s
  | .teardownComplete ctx => Sys2Proof.Machine.execTeardownComplete ctx s
  | .unitRetire oid ctx n => Sys2Proof.Machine.execRetire oid ctx n s
  | .unitReadmit oid ctx n => Sys2Proof.Machine.execReadmit oid ctx n s
  | .selftestComplete unit fails ok => Sys2Proof.Machine.execSelftestComplete unit fails ok s
  | .quarantineComplete unit ok => Sys2Proof.Machine.execQuarantineComplete unit ok s
  | .unitAdmit oid ctx n => Sys2Proof.Machine.execAdmit oid ctx n s
  | .ownershipChange oid ctx data => Sys2Proof.Machine.execOwnershipChange oid ctx data s
  | .ownZeroingComplete => Sys2Proof.Machine.execOwnZeroingComplete s
  | .dramRefresh stack cycles => Sys2Proof.Machine.execDramRefresh stack cycles s
  | .stackTemperatureCrossing stack temp => Sys2Proof.Machine.execStackTemperatureCrossing stack temp s
  | .patrolScrub granule link => Sys2Proof.Machine.execPatrolScrub granule link s
  | .backgroundRowTest fails => Sys2Proof.Machine.execBackgroundRowTest fails s
  | .softRepairComplete => Sys2Proof.Machine.execSoftRepairComplete s
  | .memoryTestRequest => Sys2Proof.Machine.execMemoryTestRequest s
  | .memoryTestComplete fails => Sys2Proof.Machine.execMemoryTestComplete fails s
  | .bulkClear => Sys2Proof.Machine.execBulkClear s
  | .bulkClearComplete => Sys2Proof.Machine.execBulkClearComplete s
  | .gateSubmission ch => Sys2Proof.Machine.execGateSubmission ch s
  | .gateCheck ch => Sys2Proof.Machine.execGateCheck ch s
  | .gateCommit ch us => Sys2Proof.Machine.execGateCommit ch us s
  | .gateChannelEnable oid ctx n data => Sys2Proof.Machine.execGateChannelEnable oid ctx n data s
  | .hwdKick key ns => Sys2Proof.Machine.execKick key ns s
  | .kickTimeout => Sys2Proof.Machine.execKickTimeout s
  | .horizonExpiry => Sys2Proof.Machine.execHorizonExpiry s
  | .heartbeatTimeout => Sys2Proof.Machine.execHeartbeatTimeout s
  | .safeEnter oid ctx => Sys2Proof.Machine.execEnter oid ctx s
  | .safeArm oid ctx => Sys2Proof.Machine.execArm oid ctx s
  | .holdExpiry => Sys2Proof.Machine.execHoldExpiry s
  | .stopmaxExpiry => Sys2Proof.Machine.execStopmaxExpiry s
  | .crownRestartComplete us => Sys2Proof.Machine.execCrownRestartComplete us s
  | .crownRestartTimeout us => Sys2Proof.Machine.execCrownRestartTimeout us s
  | .selfTestTick ok expected obtained => Sys2Proof.Machine.execSelfTestTick ok expected obtained s
  | .signatureCheck r0 r1 => Sys2Proof.Machine.execSignatureCheck r0 r1 s
  | .hwdPairTransaction port differ => Sys2Proof.Machine.execHwdPairTransaction port differ s
  | .barkRuleWrite oid ctx n data => Sys2Proof.Machine.execBarkRuleWrite oid ctx n data s
  | .jointCycleStart => Sys2Proof.Machine.execJointCycleStart s
  | .sampleWindowClose port => Sys2Proof.Machine.execSampleWindowClose port s
  | .axisLawCompute port axes => Sys2Proof.Machine.execAxisLawCompute port axes s
  | .commandRelease port => Sys2Proof.Machine.execCommandRelease port s
  | .cmbCommit oid ctx data => Sys2Proof.Machine.execCmbCommit oid ctx data s
  | .cmbBufferHeaderWrite buf off data => Sys2Proof.Machine.execCmbBufferHeaderWrite buf off data s
  | .fallbackLatch => Sys2Proof.Machine.execFallbackLatch s
  | .stopLatch => Sys2Proof.Machine.execStopLatch s
  | .stoLatch => Sys2Proof.Machine.execStoLatch s
  | .axisClear oid ctx n => Sys2Proof.Machine.execClear oid ctx n s
  | .rlkSample port frame => Sys2Proof.Machine.execSample port frame s
  | .rlkStatus port frame => Sys2Proof.Machine.execStatus port frame s
  | .rlkBreak port hop reason => Sys2Proof.Machine.execBreak port hop reason s
  | .rlkRestore port hop stations => Sys2Proof.Machine.execRestore port hop stations s
  | .portEnable oid ctx n data => Sys2Proof.Machine.execPortEnable oid ctx n data s
  | .enumeration port stations => Sys2Proof.Machine.execEnumeration port stations s
  | .enumRetry port stations => Sys2Proof.Machine.execEnumRetry port stations s
  | .linkLockLost port lost errors => Sys2Proof.Machine.execLinkLockLost port lost errors s
  | .managementExchange oid ctx n => Sys2Proof.Machine.execManagementExchange oid ctx n s
  | .stoRepeat port => Sys2Proof.Machine.execStoRepeat port s
  | .txRequest oid ctx n bufs => Sys2Proof.Machine.execTxRequest oid ctx n bufs s
  | .cfdAbort oid ctx n bufs => Sys2Proof.Machine.execAbort oid ctx n bufs s
  | .cfdSleep oid ctx n => Sys2Proof.Machine.execSleep oid ctx n s
  | .cfdWake oid ctx n => Sys2Proof.Machine.execWake oid ctx n s
  | .cfdRecover oid ctx n => Sys2Proof.Machine.execRecover oid ctx n s
  | .ecsetLoad oid ctx n data => Sys2Proof.Machine.execEcsetLoad oid ctx n data s
  | .txArbitrationStart ctrl => Sys2Proof.Machine.execTxArbitrationStart ctrl s
  | .txAttemptEnd ctrl outcome ago tdcv => Sys2Proof.Machine.execTxAttemptEnd ctrl outcome ago tdcv s
  | .rxFrameValid ctrl frame ago => Sys2Proof.Machine.execRxFrameValid ctrl frame ago s
  | .integrationComplete ctrl => Sys2Proof.Machine.execIntegrationComplete ctrl s
  | .recoveryComplete ctrl us => Sys2Proof.Machine.execRecoveryComplete ctrl us s
  | .protocolException ctrl => Sys2Proof.Machine.execProtocolException ctrl s
  | .sleepEntry ctrl => Sys2Proof.Machine.execSleepEntry ctrl s
  | .wakeUpFrame ctrl frame err => Sys2Proof.Machine.execWakeUpFrame ctrl frame err s
  | .ethRxFrame port frame fcsOk back cor unc => Sys2Proof.Machine.execEthRxFrame port frame fcsOk back cor unc s
  | .ethTxFrame port lead => Sys2Proof.Machine.execEthTxFrame port lead s
  | .ethLinkUp port => Sys2Proof.Machine.execEthLinkUp port s
  | .ethLinkDown port fault => Sys2Proof.Machine.execEthLinkDown port fault s
  | .timeAdjust oid ctx data => Sys2Proof.Machine.execTimeAdjust oid ctx data s
  | .timeSet oid ctx data => Sys2Proof.Machine.execTimeSet oid ctx data s
  | .incrementCommit oid ctx data => Sys2Proof.Machine.execIncrementCommit oid ctx data s
  | .slewComplete => Sys2Proof.Machine.execSlewComplete s
  | .referenceFailure => Sys2Proof.Machine.execReferenceFailure s
  | .referenceLock => Sys2Proof.Machine.execReferenceLock s
  | .syncHoldExpiry => Sys2Proof.Machine.execSyncHoldExpiry s
  | .pulseEnable oid ctx n data => Sys2Proof.Machine.execPulseEnable oid ctx n data s
  | .pulseEdge po => Sys2Proof.Machine.execPulseEdge po s
  | .captureEdge input rise sub => Sys2Proof.Machine.execCaptureEdge input rise sub s
  | .txqPop oid ctx n => Sys2Proof.Machine.execTxqPop oid ctx n s
  | .capturePop oid ctx n => Sys2Proof.Machine.execCapturePop oid ctx n s
  | .grvWrite ch => Sys2Proof.Machine.execGrvWrite ch s
  | .grvSignal ch => Sys2Proof.Machine.execGrvSignal ch s
  | .writeDatagram dg => Sys2Proof.Machine.execWriteDatagram dg s
  | .signalDatagram dg => Sys2Proof.Machine.execSignalDatagram dg s
  | .grvAck dg => Sys2Proof.Machine.execGrvAck dg s
  | .grvNack dg => Sys2Proof.Machine.execGrvNack dg s
  | .ackTimer dev ch => Sys2Proof.Machine.execAckTimer dev ch s
  | .retransmitTimeout dev ch => Sys2Proof.Machine.execRetransmitTimeout dev ch s
  | .barrierArrival b => Sys2Proof.Machine.execBarrierArrival b s
  | .barArrive dg => Sys2Proof.Machine.execBarArrive dg s
  | .barRelease dg => Sys2Proof.Machine.execBarRelease dg s
  | .barrierRelease b => Sys2Proof.Machine.execBarrierRelease b s
  | .barrierTimeout b => Sys2Proof.Machine.execBarrierTimeout b s
  | .bghSplit oid ctx n => Sys2Proof.Machine.execSplit oid ctx n s
  | .splitComplete pair lines ns => Sys2Proof.Machine.execSplitComplete pair lines ns s
  | .bghPark oid ctx n => Sys2Proof.Machine.execPark oid ctx n s
  | .bghUnpark oid ctx n => Sys2Proof.Machine.execUnpark oid ctx n s
  | .bghJoin oid ctx n => Sys2Proof.Machine.execJoin oid ctx n s
  | .joinComplete pair ok ns => Sys2Proof.Machine.execJoinComplete pair ok ns s
  | .pairReadmit oid ctx n => Sys2Proof.Machine.execPairReadmit oid ctx n s
  | .pairSelftestComplete pair fails ok => Sys2Proof.Machine.execPairSelftestComplete pair fails ok s
  | .pairAdmit oid ctx n => Sys2Proof.Machine.execPairAdmit oid ctx n s
  | .boughPairTransaction pair tx => Sys2Proof.Machine.execBoughPairTransaction pair tx s
  | .bghAgreeFallback pair => Sys2Proof.Machine.execBghAgreeFallback pair s
  | .pairSignatureCheck pair c0 c1 => Sys2Proof.Machine.execPairSignatureCheck pair c0 c1 s
  | .ipsetWrite oid ctx n data => Sys2Proof.Machine.execIpsetWrite oid ctx n data s
  | .mtimecmpMatch core => Sys2Proof.Machine.execMtimecmpMatch core s
  | .lifecycleCommand oid ctx data bad => Sys2Proof.Machine.execLifecycleCommand oid ctx data bad s
  | .fuseProgram oid ctx => Sys2Proof.Machine.execFuseProgram oid ctx s
  | .pithWipe oid ctx => Sys2Proof.Machine.execWipe oid ctx s
  | .wipeComplete => Sys2Proof.Machine.execWipeComplete s
  | .rollbackFw oid ctx => Sys2Proof.Machine.execRollbackFw oid ctx s
  | .rollbackCfg oid ctx => Sys2Proof.Machine.execRollbackCfg oid ctx s
  | .tamperTrip sensors => Sys2Proof.Machine.execTamperTrip sensors s
  | .powerOnBoot b => Sys2Proof.Machine.execPowerOnBoot b s
  | .hostReady us => Sys2Proof.Machine.execHostReady us s
  | .brownOut rail => Sys2Proof.Machine.execBrownOut rail s
  | .resetNAssert => Sys2Proof.Machine.execResetNAssert s
  | .globalResetCommand oid ctx data => Sys2Proof.Machine.execGlobalResetCommand oid ctx data s
  | .clockLoss clk => Sys2Proof.Machine.execClockLoss clk s
  | .hostPortReset => Sys2Proof.Machine.execHostPortReset s
  | .powerPathSwitch main bat => Sys2Proof.Machine.execPowerPathSwitch main bat s
  | .retentionLoss mv => Sys2Proof.Machine.execRetentionLoss mv s
  | .vbatLowDetect mv => Sys2Proof.Machine.execVbatLowDetect mv s
  | .capDecision pw slack => Sys2Proof.Machine.execCapDecision pw slack s
  | .thermalSample tj thbm => Sys2Proof.Machine.execThermalSample tj thbm s
  | .voltageStep dom slack => Sys2Proof.Machine.execVoltageStep dom slack s
  | .serdesAdaptation kind lane ok => Sys2Proof.Machine.execSerdesAdaptation kind lane ok s
  | .eventRecordWrite => Sys2Proof.Machine.execEventRecordWrite s
  | .coalesceExpiry vec => Sys2Proof.Machine.execCoalesceExpiry vec s
  | .dumpCommand oid ctx => Sys2Proof.Machine.execDumpCommand oid ctx s
  | .dumpStart fw banks secs => Sys2Proof.Machine.execDump fw banks secs s
  | .dumpComplete ns => Sys2Proof.Machine.execDumpComplete ns s
  | .globalResetRelease b => Sys2Proof.Machine.execGlobalResetRelease b s
  | .rxFrameError ctrl err => Sys2Proof.Machine.execRxFrameError ctrl err s
  | .fuseProgramComplete a b c => Sys2Proof.Machine.execFuseProgramComplete a b c s
  | .hostLinkL0 => Sys2Proof.Machine.execHostLinkL0 s

end Sys2Proof.Machine
end

