-- ==== Sys2Proof/Machine/BoughFloat.lean ====
section
/-! DEFINITION. The arithmetic of the F and D extensions of the Bough cores (R453): IEEE 754 binary32 and binary64 as the RISC-V unprivileged
specification gives them, exact first and rounded once (log entry 114). -/

namespace Sys2Proof.Machine

/-- The rounding modes of `frm`. -/
inductive FlRm where
  | rne | rtz | rdn | rup | rmm
  deriving DecidableEq, Repr

/-- The rounding mode that a three-bit code names; the codes 5 to 7 name none. -/
def flRm (v : Nat) : Option FlRm := [FlRm.rne, .rtz, .rdn, .rup, .rmm][v]?

/-- A binary format: exponent bits and precision. -/
structure FlFmt where
  ew : Nat
  p : Nat
  deriving DecidableEq, Repr

/-- binary32 and binary64. -/
def flS : FlFmt := ⟨8, 24⟩
def flD : FlFmt := ⟨11, 53⟩

/-- The exponent bias, which is also the greatest exponent. -/
def FlFmt.bias (t : FlFmt) : Int := 2 ^ (t.ew - 1) - 1
/-- The least exponent of a normal number. -/
def FlFmt.emin (t : FlFmt) : Int := 1 - t.bias

/-- A floating-point datum: a NaN, quiet or signalling, an infinity, or the number ± m · 2^e. -/
inductive Fl where
  | nan (signalling : Bool)
  | inf (neg : Bool)
  | fin (neg : Bool) (m : Nat) (e : Int)
  deriving DecidableEq, Repr

/-- The bits of a result and the accrued exceptions it raises: NV 16, DZ 8, OF 4, UF 2, NX 1. -/
abbrev FlRes := Nat × Nat

/-- The datum that bits encode. -/
def FlFmt.read (t : FlFmt) (w : Nat) : Fl :=
  let frac := w % 2 ^ (t.p - 1)
  let ex := w / 2 ^ (t.p - 1) % 2 ^ t.ew
  let neg := bitAt w (t.ew + t.p - 1)
  if ex = 2 ^ t.ew - 1 then (if frac = 0 then .inf neg else .nan (!(bitAt frac (t.p - 2))))
  else if ex = 0 then .fin neg frac (t.emin - (t.p - 1 : Nat))
  else .fin neg (frac + 2 ^ (t.p - 1)) (ex - t.bias - (t.p - 1 : Nat))

/-- Bits from a sign, a biased exponent and a fraction. -/
def FlFmt.pack (t : FlFmt) (neg : Bool) (ex frac : Nat) : Nat := (ofBool neg * 2 ^ t.ew + ex) * 2 ^ (t.p - 1) + frac

/-- An infinity, a zero, the greatest finite number and the canonical NaN. -/
def FlFmt.inf (t : FlFmt) (neg : Bool) : Nat := t.pack neg (2 ^ t.ew - 1) 0
def FlFmt.zero (t : FlFmt) (neg : Bool) : Nat := t.pack neg 0 0
def FlFmt.top (t : FlFmt) (neg : Bool) : Nat := t.pack neg (2 ^ t.ew - 2) (2 ^ (t.p - 1) - 1)
def FlFmt.cnan (t : FlFmt) : Nat := t.pack false (2 ^ t.ew - 1) (2 ^ (t.p - 2))

/-- `m` / 2^k rounded to an integer, where `sticky` says that the value exceeds `m` by a part below its last bit; and whether it is inexact. -/
def roundShift (rm : FlRm) (neg : Bool) (m k : Nat) (sticky : Bool) : Nat × Bool :=
  let q := m / 2 ^ k
  let r := m % 2 ^ k
  let inexact := r ≠ 0 || sticky
  let above := decide (2 ^ k < 2 * r) || (decide (2 * r = 2 ^ k) && sticky)
  let tie := decide (2 * r = 2 ^ k) && !sticky
  let up := inexact && match rm with
    | .rne => above || (tie && q % 2 = 1)
    | .rtz => false
    | .rdn => neg
    | .rup => !neg
    | .rmm => above || tie
  (q + ofBool up, inexact)

/-- The value ± m · 2^e, with a part below the last bit of `m` if `sticky`, as a multiple of 2^q. -/
def roundAt (rm : FlRm) (neg : Bool) (m : Nat) (e q : Int) (sticky : Bool) : Nat × Bool :=
  if e < q then roundShift rm neg m (q - e).toNat sticky else (m * 2 ^ (e - q).toNat, sticky)

/-- The value ± m · 2^e rounded to a format; with `sticky`, `m` has more bits than the format and the value exceeds it by a part below its last bit.
Tininess is detected after rounding. -/
def FlFmt.round (t : FlFmt) (rm : FlRm) (neg : Bool) (m : Nat) (e : Int) (sticky : Bool) : FlRes :=
  if m = 0 then (t.zero neg, 0)
  else
    let top : Int := (Nat.log2 m : Int) + e
    let w : Int := (t.p - 1 : Nat)
    let q := max (top - w) (t.emin - w)
    let r := roundAt rm neg m e q sticky
    let x : Nat × Int := if r.1 = 2 ^ t.p then (2 ^ (t.p - 1), q + 1) else (r.1, q)
    if 2 ^ (t.p - 1) ≤ x.1 && decide (t.bias < x.2 + w) then
      let toInf := match rm with
        | .rne => true
        | .rmm => true
        | .rtz => false
        | .rdn => neg
        | .rup => !neg
      (if toInf then t.inf neg else t.top neg, 5)
    else
      let tiny := decide (top < t.emin) && !(decide (top = t.emin - 1) && decide ((roundAt rm neg m e (top - w) sticky).1 = 2 ^ t.p))
      let bits := if x.1 < 2 ^ (t.p - 1) then t.pack neg 0 x.1 else t.pack neg (x.2 + w + t.bias).toNat (x.1 - 2 ^ (t.p - 1))
      (bits, if r.2 then (if tiny then 3 else 1) else 0)

/-- Is the datum a NaN, a signalling NaN? -/
def Fl.isNan : Fl → Bool
  | .nan _ => true
  | _ => false
def Fl.isSig : Fl → Bool
  | .nan b => b
  | _ => false

/-- The datum with its sign changed. -/
def Fl.neg : Fl → Fl
  | .nan b => .nan b
  | .inf n => .inf (!n)
  | .fin n m e => .fin (!n) m e

/-- A NaN result: invalid when `nv`. -/
def FlFmt.nanRes (t : FlFmt) (nv : Bool) : FlRes := (t.cnan, if nv then 16 else 0)

/-- The exact sum of two numbers, rounded. -/
def FlFmt.sum (t : FlFmt) (rm : FlRm) (n1 : Bool) (m1 : Nat) (e1 : Int) (n2 : Bool) (m2 : Nat) (e2 : Int) : FlRes :=
  let e := min e1 e2
  let v1 : Int := (m1 * 2 ^ (e1 - e).toNat : Nat)
  let v2 : Int := (m2 * 2 ^ (e2 - e).toNat : Nat)
  let v := (if n1 then -v1 else v1) + (if n2 then -v2 else v2)
  if v = 0 then (t.zero (if n1 = n2 then n1 else rm = .rdn), 0) else t.round rm (v < 0) v.natAbs e false

/-- Addition. -/
def FlFmt.add (t : FlFmt) (rm : FlRm) (a b : Fl) : FlRes :=
  match a, b with
  | .nan x, y => t.nanRes (x || y.isSig)
  | x, .nan y => t.nanRes (y || x.isSig)
  | .inf x, .inf y => if x = y then (t.inf x, 0) else t.nanRes true
  | .inf x, _ => (t.inf x, 0)
  | _, .inf y => (t.inf y, 0)
  | .fin n1 m1 e1, .fin n2 m2 e2 => t.sum rm n1 m1 e1 n2 m2 e2

/-- Multiplication. -/
def FlFmt.mul (t : FlFmt) (rm : FlRm) (a b : Fl) : FlRes :=
  match a, b with
  | .nan x, y => t.nanRes (x || y.isSig)
  | x, .nan y => t.nanRes (y || x.isSig)
  | .inf x, .inf y => (t.inf (x != y), 0)
  | .inf x, .fin n m _ => if m = 0 then t.nanRes true else (t.inf (x != n), 0)
  | .fin n m _, .inf y => if m = 0 then t.nanRes true else (t.inf (n != y), 0)
  | .fin n1 m1 e1, .fin n2 m2 e2 => t.round rm (n1 != n2) (m1 * m2) (e1 + e2) false

/-- Fused multiply and add: a · b + c, rounded once; an infinity times a zero is invalid whatever `c` is. -/
def FlFmt.fma (t : FlFmt) (rm : FlRm) (a b c : Fl) : FlRes :=
  let sig := a.isSig || b.isSig || c.isSig
  match a, b with
  | .nan _, _ => t.nanRes sig
  | _, .nan _ => t.nanRes sig
  | .fin n1 m1 e1, .fin n2 m2 e2 =>
    match c with
    | .nan _ => t.nanRes sig
    | .inf n => (t.inf n, 0)
    | .fin n3 m3 e3 => t.sum rm (n1 != n2) (m1 * m2) (e1 + e2) n3 m3 e3
  | x, y =>
    let zero : Fl → Bool := fun d => match d with
      | .fin _ m _ => m = 0
      | _ => false
    let sgn : Fl → Bool := fun d => match d with
      | .fin n _ _ => n
      | .inf n => n
      | .nan _ => false
    if zero x || zero y then t.nanRes true
    else
      let n := sgn x != sgn y
      match c with
      | .nan _ => t.nanRes sig
      | .inf k => if k = n then (t.inf n, 0) else t.nanRes true
      | .fin _ _ _ => (t.inf n, 0)

/-- Division. -/
def FlFmt.div (t : FlFmt) (rm : FlRm) (a b : Fl) : FlRes :=
  match a, b with
  | .nan x, y => t.nanRes (x || y.isSig)
  | x, .nan y => t.nanRes (y || x.isSig)
  | .inf _, .inf _ => t.nanRes true
  | .inf x, .fin n _ _ => (t.inf (x != n), 0)
  | .fin n _ _, .inf y => (t.zero (n != y), 0)
  | .fin n1 m1 e1, .fin n2 m2 e2 =>
    let n := n1 != n2
    if m2 = 0 then (if m1 = 0 then t.nanRes true else (t.inf n, 8))
    else
      let k := t.p + 3 + Nat.log2 m2
      t.round rm n (m1 * 2 ^ k / m2) (e1 - e2 - k) (decide (m1 * 2 ^ k % m2 ≠ 0))

/-- The integer square root of `n` below `r` + 2^b. -/
def isqrt : Nat → Nat → Nat → Nat
  | 0, _, r => r
  | b + 1, n, r => isqrt b n (if (r + 2 ^ b) * (r + 2 ^ b) ≤ n then r + 2 ^ b else r)

/-- Square root. -/
def FlFmt.sqrt (t : FlFmt) (rm : FlRm) (a : Fl) : FlRes :=
  match a with
  | .nan x => t.nanRes x
  | .inf n => if n then t.nanRes true else (t.inf false, 0)
  | .fin n m e =>
    if m = 0 then (t.zero n, 0)
    else if n then t.nanRes true
    else
      let k := 2 * (t.p + 2) + ofBool (e % 2 ≠ 0)
      let x := m * 2 ^ k
      let r := isqrt 128 x 0
      t.round rm false r ((e - k) / 2) (decide (r * r ≠ x))

/-- Comparison of two data that are no NaN: is the first less than the second? -/
def Fl.less (a b : Fl) : Bool :=
  match a, b with
  | .inf x, .inf y => x && !y
  | .inf x, .fin _ _ _ => x
  | .fin _ _ _, .inf y => !y
  | .fin n1 m1 e1, .fin n2 m2 e2 =>
    let e := min e1 e2
    let v1 : Int := (m1 * 2 ^ (e1 - e).toNat : Nat)
    let v2 : Int := (m2 * 2 ^ (e2 - e).toNat : Nat)
    decide ((if n1 then -v1 else v1) < (if n2 then -v2 else v2))
  | _, _ => false

/-- FEQ, FLT and FLE by funct3 2, 1 and 0: FEQ is quiet, the others signal on every NaN. -/
def flCompare (f3 : Nat) (a b : Fl) : FlRes :=
  if a.isNan || b.isNan then (0, if a.isSig || b.isSig || f3 ≠ 2 then 16 else 0)
  else if f3 = 1 then (ofBool (a.less b), 0)
  else if f3 = 0 then (ofBool !(b.less a), 0)
  else (ofBool (!(a.less b) && !(b.less a)), 0)

/-- FMIN and FMAX of the data `a` and `b` with bits `x` and `y`: a NaN yields to the other operand, and -0 is less than +0. -/
def FlFmt.pick (t : FlFmt) (isMax : Bool) (x y : Nat) : FlRes :=
  let a := t.read x
  let b := t.read y
  let fl := if a.isSig || b.isSig then 16 else 0
  if a.isNan && b.isNan then (t.cnan, fl)
  else if a.isNan then (y, fl)
  else if b.isNan then (x, fl)
  else
    let less := a.less b || (!(b.less a) && bitAt x (t.ew + t.p - 1))
    (if less != isMax then x else y, fl)

/-- FCLASS. -/
def FlFmt.classify (t : FlFmt) (a : Fl) : Nat :=
  match a with
  | .nan s => if s then 2 ^ 8 else 2 ^ 9
  | .inf n => if n then 1 else 2 ^ 7
  | .fin n m _ =>
    if m = 0 then (if n then 2 ^ 3 else 2 ^ 4)
    else if m < 2 ^ (t.p - 1) then (if n then 2 ^ 2 else 2 ^ 5)
    else if n then 2 else 2 ^ 6

/-- Conversion to an integer from `lo` to `hi`: what is out of range takes the nearer end and is invalid; a NaN takes `hi`. -/
def flToInt (rm : FlRm) (lo hi : Int) (a : Fl) : Int × Nat :=
  match a with
  | .nan _ => (hi, 16)
  | .inf n => (if n then lo else hi, 16)
  | .fin n m e =>
    let r := roundAt rm n m e 0 false
    let v : Int := if n then -(r.1 : Int) else r.1
    if v < lo then (lo, 16) else if hi < v then (hi, 16) else (v, if r.2 then 1 else 0)

/-- Conversion from an integer. -/
def FlFmt.ofInt (t : FlFmt) (rm : FlRm) (v : Int) : FlRes := t.round rm (v < 0) v.natAbs 0 false

/-- Conversion between formats. -/
def FlFmt.convert (t : FlFmt) (rm : FlRm) (a : Fl) : FlRes :=
  match a with
  | .nan s => t.nanRes s
  | .inf n => (t.inf n, 0)
  | .fin n m e => t.round rm n m e false

end Sys2Proof.Machine
end

