-- ==== Sys2Proof/Machine/BoughIsa.lean ====
section
/-! DEFINITION. The integer instructions of the Bough cores (R453) on values: RV64I, M, Zba, Zbb, Zbs, and the expansion of the C extension, as
the RISC-V unprivileged specification gives them (R52, log entry 113). -/

namespace Sys2Proof.Machine

/-! ### Fields and immediates -/

/-- An `n`-bit value sign-extended to 64 bits. -/
def sext64 (n v : Nat) : BitVec 64 := (BitVec.ofNat n v).signExtend 64

/-- The immediates of the I, S, B, U and J forms. -/
def immI (w : Nat) : BitVec 64 := sext64 12 (slice w 31 20)
def immS (w : Nat) : BitVec 64 := sext64 12 (slice w 31 25 * 32 + slice w 11 7)
def immB (w : Nat) : BitVec 64 :=
  sext64 13 (slice w 31 31 * 2 ^ 12 + slice w 7 7 * 2 ^ 11 + slice w 30 25 * 32 + slice w 11 8 * 2)
def immU (w : Nat) : BitVec 64 := sext64 32 (slice w 31 12 * 2 ^ 12)
def immJ (w : Nat) : BitVec 64 :=
  sext64 21 (slice w 31 31 * 2 ^ 20 + slice w 19 12 * 2 ^ 12 + slice w 20 20 * 2 ^ 11 + slice w 30 21 * 2)

/-! ### The C extension -/

/-- Words of the R, I, S, B, U and J forms. -/
def encR (op f3 f7 rd r1 r2 : Nat) : Nat := op + rd * 2 ^ 7 + f3 * 2 ^ 12 + r1 * 2 ^ 15 + r2 * 2 ^ 20 + f7 * 2 ^ 25
def encI (op f3 rd r1 imm : Nat) : Nat := op + rd * 2 ^ 7 + f3 * 2 ^ 12 + r1 * 2 ^ 15 + imm % 2 ^ 12 * 2 ^ 20
def encS (op f3 r1 r2 imm : Nat) : Nat :=
  op + imm % 32 * 2 ^ 7 + f3 * 2 ^ 12 + r1 * 2 ^ 15 + r2 * 2 ^ 20 + imm / 32 % 128 * 2 ^ 25
def encB (f3 r1 r2 imm : Nat) : Nat :=
  0x63 + slice imm 11 11 * 2 ^ 7 + slice imm 4 1 * 2 ^ 8 + f3 * 2 ^ 12 + r1 * 2 ^ 15 + r2 * 2 ^ 20 + slice imm 10 5 * 2 ^ 25 + slice imm 12 12 * 2 ^ 31
def encJ (rd imm : Nat) : Nat :=
  0x6F + rd * 2 ^ 7 + slice imm 19 12 * 2 ^ 12 + slice imm 11 11 * 2 ^ 20 + slice imm 10 1 * 2 ^ 21 + slice imm 20 20 * 2 ^ 31

/-- An `n`-bit value sign-extended, as a natural number of 32 bits. -/
def sextC (n v : Nat) : Nat := ((BitVec.ofNat n v).signExtend 32).toNat

/-- The six-bit immediate of the CI form, and the offsets of the loads and stores. -/
def immCI (w : Nat) : Nat := slice w 12 12 * 32 + slice w 6 2
def offCLW (w : Nat) : Nat := slice w 12 10 * 8 + slice w 6 6 * 4 + slice w 5 5 * 64
def offCLD (w : Nat) : Nat := slice w 12 10 * 8 + slice w 6 5 * 64
def offLWSP (w : Nat) : Nat := slice w 12 12 * 32 + slice w 6 4 * 4 + slice w 3 2 * 64
def offLDSP (w : Nat) : Nat := slice w 12 12 * 32 + slice w 6 5 * 8 + slice w 4 2 * 64
def offSWSP (w : Nat) : Nat := slice w 12 9 * 4 + slice w 8 7 * 64
def offSDSP (w : Nat) : Nat := slice w 12 10 * 8 + slice w 9 7 * 64
def offCJ (w : Nat) : Nat :=
  sextC 12 (slice w 12 12 * 2 ^ 11 + slice w 8 8 * 2 ^ 10 + slice w 10 9 * 2 ^ 8 + slice w 6 6 * 2 ^ 7 + slice w 7 7 * 2 ^ 6 + slice w 2 2 * 32
    + slice w 11 11 * 16 + slice w 5 3 * 2)
def offCB (w : Nat) : Nat :=
  sextC 9 (slice w 12 12 * 2 ^ 8 + slice w 6 5 * 2 ^ 6 + slice w 2 2 * 32 + slice w 11 10 * 8 + slice w 4 3 * 2)

/-- Quadrant 0. -/
def expand0 (w : Nat) : Option Nat :=
  let lo := 8 + slice w 4 2
  let r1 := 8 + slice w 9 7
  match slice w 15 13 with
  | 0 =>
    let imm := slice w 12 11 * 16 + slice w 10 7 * 64 + slice w 6 6 * 4 + slice w 5 5 * 8
    if imm = 0 then none else some (encI 0x13 0 lo 2 imm)
  | 1 => some (encI 0x07 3 lo r1 (offCLD w))
  | 2 => some (encI 0x03 2 lo r1 (offCLW w))
  | 3 => some (encI 0x03 3 lo r1 (offCLD w))
  | 5 => some (encS 0x27 3 r1 lo (offCLD w))
  | 6 => some (encS 0x23 2 r1 lo (offCLW w))
  | 7 => some (encS 0x23 3 r1 lo (offCLD w))
  | _ => none

/-- Quadrant 1. -/
def expand1 (w : Nat) : Option Nat :=
  let rd := slice w 11 7
  let r1 := 8 + slice w 9 7
  let r2 := 8 + slice w 4 2
  let imm := sextC 6 (immCI w)
  match slice w 15 13 with
  | 0 => some (encI 0x13 0 rd rd imm)
  | 1 => if rd = 0 then none else some (encI 0x1B 0 rd rd imm)
  | 2 => some (encI 0x13 0 rd 0 imm)
  | 3 =>
    if rd = 2 then
      let i := slice w 12 12 * 2 ^ 9 + slice w 4 3 * 2 ^ 7 + slice w 5 5 * 2 ^ 6 + slice w 2 2 * 32 + slice w 6 6 * 16
      if i = 0 then none else some (encI 0x13 0 2 2 (sextC 10 i))
    else if immCI w = 0 then none
    else some (0x37 + rd * 2 ^ 7 + imm % 2 ^ 20 * 2 ^ 12)
  | 4 =>
    match slice w 11 10 with
    | 0 => some (encI 0x13 5 r1 r1 (immCI w))
    | 1 => some (encI 0x13 5 r1 r1 (0x400 + immCI w))
    | 2 => some (encI 0x13 7 r1 r1 imm)
    | _ =>
      match slice w 12 12, slice w 6 5 with
      | 0, 0 => some (encR 0x33 0 0x20 r1 r1 r2)
      | 0, 1 => some (encR 0x33 4 0 r1 r1 r2)
      | 0, 2 => some (encR 0x33 6 0 r1 r1 r2)
      | 0, _ => some (encR 0x33 7 0 r1 r1 r2)
      | _, 0 => some (encR 0x3B 0 0x20 r1 r1 r2)
      | _, 1 => some (encR 0x3B 0 0 r1 r1 r2)
      | _, _ => none
  | 5 => some (encJ 0 (offCJ w))
  | 6 => some (encB 0 r1 0 (offCB w))
  | _ => some (encB 1 r1 0 (offCB w))

/-- Quadrant 2. -/
def expand2 (w : Nat) : Option Nat :=
  let rd := slice w 11 7
  let r2 := slice w 6 2
  match slice w 15 13 with
  | 0 => some (encI 0x13 1 rd rd (immCI w))
  | 1 => some (encI 0x07 3 rd 2 (offLDSP w))
  | 2 => if rd = 0 then none else some (encI 0x03 2 rd 2 (offLWSP w))
  | 3 => if rd = 0 then none else some (encI 0x03 3 rd 2 (offLDSP w))
  | 4 =>
    if slice w 12 12 = 0 then
      if r2 ≠ 0 then some (encR 0x33 0 0 rd 0 r2) else if rd = 0 then none else some (encI 0x67 0 0 rd 0)
    else if r2 ≠ 0 then some (encR 0x33 0 0 rd rd r2)
    else if rd = 0 then some 0x00100073 else some (encI 0x67 0 1 rd 0)
  | 5 => some (encS 0x27 3 2 r2 (offSDSP w))
  | 6 => some (encS 0x23 2 2 r2 (offSWSP w))
  | _ => some (encS 0x23 3 2 r2 (offSDSP w))

/-- The 32-bit instruction that a 16-bit one stands for. -/
def expandC (w : Nat) : Option Nat :=
  match w % 4 with
  | 0 => expand0 w
  | 1 => expand1 w
  | 2 => expand2 w
  | _ => none

/-! ### Arithmetic -/

/-- The low 32 bits, sign-extended. -/
def sext32 (a : BitVec 64) : BitVec 64 := (a.setWidth 32).signExtend 64
/-- The low 32 bits, zero-extended. -/
def uword (a : BitVec 64) : BitVec 64 := (a.setWidth 32).setWidth 64

/-- Leading zeros of the low `n` bits of a value. -/
def clzN (n v : Nat) : Nat := if v % 2 ^ n = 0 then n else n - 1 - Nat.log2 (v % 2 ^ n)
/-- Trailing zeros of the low `n` bits. -/
def ctzN (n v : Nat) : Nat := ((List.range n).find? fun i => bitAt v i).getD n
/-- One bits among the low `n`. -/
def cpopN (n v : Nat) : Nat := ((List.range n).filter fun i => bitAt v i).length

/-- Division and remainder, signed and unsigned, on `w`-bit values: by zero the quotient is all ones and the remainder the dividend; the one overflow
wraps. -/
def rvDiv {w : Nat} (a b : BitVec w) : BitVec w := if b = 0 then BitVec.allOnes w else BitVec.ofInt w (a.toInt.tdiv b.toInt)
def rvDivu {w : Nat} (a b : BitVec w) : BitVec w := if b = 0 then BitVec.allOnes w else BitVec.ofNat w (a.toNat / b.toNat)
def rvRem {w : Nat} (a b : BitVec w) : BitVec w := if b = 0 then a else BitVec.ofInt w (a.toInt.tmod b.toInt)
def rvRemu {w : Nat} (a b : BitVec w) : BitVec w := if b = 0 then a else BitVec.ofNat w (a.toNat % b.toNat)

/-- The instructions of the M extension on 64 bits by funct3. -/
def mulDiv (f3 : Nat) (a b : BitVec 64) : BitVec 64 :=
  match f3 with
  | 0 => a * b
  | 1 => BitVec.ofInt 64 (a.toInt * b.toInt / 2 ^ 64)
  | 2 => BitVec.ofInt 64 (a.toInt * b.toNat / 2 ^ 64)
  | 3 => BitVec.ofNat 64 (a.toNat * b.toNat / 2 ^ 64)
  | 4 => rvDiv a b
  | 5 => rvDivu a b
  | 6 => rvRem a b
  | _ => rvRemu a b

/-- A truth value as a register value. -/
def bit64 (b : Bool) : BitVec 64 := if b then 1 else 0

/-- The bytes of a value, lowest first. -/
def bytes64 (a : BitVec 64) : List (BitVec 8) := (List.range 8).map fun i => a.extractLsb' (8 * i) 8
/-- The value of eight bytes, lowest first. -/
def of64 (l : List (BitVec 8)) : BitVec 64 := BitVec.ofNat 64 (l.foldr (fun b v => b.toNat + 256 * v) 0)

/-- The one-bit mask of Zbs. -/
def bitMask (n : Nat) : BitVec 64 := 1 <<< (n % 64)

/-- OP, by funct7 and funct3. -/
def opReg (f7 f3 : Nat) (a b : BitVec 64) : Option (BitVec 64) :=
  let sh := b.toNat % 64
  match f7, f3 with
  | 0x00, 0 => some (a + b)
  | 0x20, 0 => some (a - b)
  | 0x00, 1 => some (a <<< sh)
  | 0x00, 2 => some (bit64 (a.slt b))
  | 0x00, 3 => some (bit64 (a.ult b))
  | 0x00, 4 => some (a ^^^ b)
  | 0x00, 5 => some (a >>> sh)
  | 0x20, 5 => some (a.sshiftRight sh)
  | 0x00, 6 => some (a ||| b)
  | 0x00, 7 => some (a &&& b)
  | 0x01, _ => some (mulDiv f3 a b)
  | 0x10, 2 => some ((a <<< 1) + b)
  | 0x10, 4 => some ((a <<< 2) + b)
  | 0x10, 6 => some ((a <<< 3) + b)
  | 0x20, 7 => some (a &&& ~~~b)
  | 0x20, 6 => some (a ||| ~~~b)
  | 0x20, 4 => some (~~~(a ^^^ b))
  | 0x05, 4 => some (if a.slt b then a else b)
  | 0x05, 5 => some (if a.ult b then a else b)
  | 0x05, 6 => some (if a.slt b then b else a)
  | 0x05, 7 => some (if a.ult b then b else a)
  | 0x30, 1 => some (a.rotateLeft sh)
  | 0x30, 5 => some (a.rotateRight sh)
  | 0x24, 1 => some (a &&& ~~~(bitMask sh))
  | 0x24, 5 => some ((a >>> sh) &&& 1)
  | 0x34, 1 => some (a ^^^ bitMask sh)
  | 0x14, 1 => some (a ||| bitMask sh)
  | _, _ => none

/-- OP-32, by funct7, funct3 and the number of the second source. -/
def opReg32 (f7 f3 r2 : Nat) (a b : BitVec 64) : Option (BitVec 64) :=
  let sh := b.toNat % 32
  let x : BitVec 32 := a.setWidth 32
  let y : BitVec 32 := b.setWidth 32
  match f7, f3 with
  | 0x00, 0 => some (sext32 (a + b))
  | 0x20, 0 => some (sext32 (a - b))
  | 0x00, 1 => some ((x <<< sh).signExtend 64)
  | 0x00, 5 => some ((x >>> sh).signExtend 64)
  | 0x20, 5 => some ((x.sshiftRight sh).signExtend 64)
  | 0x01, 0 => some (sext32 (a * b))
  | 0x01, 4 => some ((rvDiv x y).signExtend 64)
  | 0x01, 5 => some ((rvDivu x y).signExtend 64)
  | 0x01, 6 => some ((rvRem x y).signExtend 64)
  | 0x01, 7 => some ((rvRemu x y).signExtend 64)
  | 0x04, 0 => some (uword a + b)
  | 0x10, 2 => some ((uword a <<< 1) + b)
  | 0x10, 4 => some ((uword a <<< 2) + b)
  | 0x10, 6 => some ((uword a <<< 3) + b)
  | 0x04, 4 => if r2 = 0 then some ((a.setWidth 16).setWidth 64) else none
  | 0x30, 1 => some ((x.rotateLeft sh).signExtend 64)
  | 0x30, 5 => some ((x.rotateRight sh).signExtend 64)
  | _, _ => none

/-- The shifts and the one-operand instructions of OP-IMM with funct3 1. -/
def immShiftLeft (imm : Nat) (a : BitVec 64) : Option (BitVec 64) :=
  let sh := imm % 64
  if imm = 0x600 then some (BitVec.ofNat 64 (clzN 64 a.toNat))
  else if imm = 0x601 then some (BitVec.ofNat 64 (ctzN 64 a.toNat))
  else if imm = 0x602 then some (BitVec.ofNat 64 (cpopN 64 a.toNat))
  else if imm = 0x604 then some ((a.setWidth 8).signExtend 64)
  else if imm = 0x605 then some ((a.setWidth 16).signExtend 64)
  else
    match imm / 64 with
    | 0x00 => some (a <<< sh)
    | 0x12 => some (a &&& ~~~(bitMask sh))
    | 0x1A => some (a ^^^ bitMask sh)
    | 0x0A => some (a ||| bitMask sh)
    | _ => none

/-- The shifts and the one-operand instructions of OP-IMM with funct3 5. -/
def immShiftRight (imm : Nat) (a : BitVec 64) : Option (BitVec 64) :=
  let sh := imm % 64
  if imm = 0x287 then some (of64 ((bytes64 a).map fun b => if b = 0 then 0 else 0xFF))
  else if imm = 0x6B8 then some (of64 (bytes64 a).reverse)
  else
    match imm / 64 with
    | 0x00 => some (a >>> sh)
    | 0x10 => some (a.sshiftRight sh)
    | 0x18 => some (a.rotateRight sh)
    | 0x12 => some ((a >>> sh) &&& 1)
    | _ => none

/-- OP-IMM, by funct3 and the 12 immediate bits. -/
def opImm (f3 imm : Nat) (a : BitVec 64) : Option (BitVec 64) :=
  let i := sext64 12 imm
  match f3 with
  | 0 => some (a + i)
  | 1 => immShiftLeft imm a
  | 2 => some (bit64 (a.slt i))
  | 3 => some (bit64 (a.ult i))
  | 4 => some (a ^^^ i)
  | 5 => immShiftRight imm a
  | 6 => some (a ||| i)
  | _ => some (a &&& i)

/-- OP-IMM-32, by funct3 and the 12 immediate bits. -/
def opImm32 (f3 imm : Nat) (a : BitVec 64) : Option (BitVec 64) :=
  let sh := imm % 32
  let x : BitVec 32 := a.setWidth 32
  match f3 with
  | 0 => some (sext32 (a + sext64 12 imm))
  | 1 =>
    if imm = 0x600 then some (BitVec.ofNat 64 (clzN 32 x.toNat))
    else if imm = 0x601 then some (BitVec.ofNat 64 (ctzN 32 x.toNat))
    else if imm = 0x602 then some (BitVec.ofNat 64 (cpopN 32 x.toNat))
    else if imm / 64 = 0x02 then some (uword a <<< (imm % 64))
    else if imm / 32 = 0 then some ((x <<< sh).signExtend 64)
    else none
  | 5 =>
    match imm / 32 with
    | 0x00 => some ((x >>> sh).signExtend 64)
    | 0x20 => some ((x.sshiftRight sh).signExtend 64)
    | 0x30 => some ((x.rotateRight sh).signExtend 64)
    | _ => none
  | _ => none

/-- Is the branch of funct3 taken? -/
def branchTaken (f3 : Nat) (a b : BitVec 64) : Option Bool :=
  match f3 with
  | 0 => some (a == b)
  | 1 => some (a != b)
  | 4 => some (a.slt b)
  | 5 => some !(a.slt b)
  | 6 => some (a.ult b)
  | 7 => some !(a.ult b)
  | _ => none

/-- The value that an AMO of `w` bits writes, by its funct5. -/
def amoOp {w : Nat} (f5 : Nat) (old src : BitVec w) : Option (BitVec w) :=
  match f5 with
  | 0x01 => some src
  | 0x00 => some (old + src)
  | 0x04 => some (old ^^^ src)
  | 0x0C => some (old &&& src)
  | 0x08 => some (old ||| src)
  | 0x10 => some (if old.slt src then old else src)
  | 0x14 => some (if old.slt src then src else old)
  | 0x18 => some (if old.ult src then old else src)
  | 0x1C => some (if old.ult src then src else old)
  | _ => none

end Sys2Proof.Machine
end

