-- ==== Sys2Proof/Machine/BoughCore.lean ====
section
/-! DEFINITION. The registers, CSRs, traps and interrupts of the Bough cores (R453, R455, R456), as the RISC-V privileged specification gives them
(log entry 113). -/

namespace Sys2Proof.Machine

/-! ### Registers -/

/-- An integer register; x0 reads 0. -/
def BghCore.xreg (k : BghCore) (i : Nat) : Word64 := if i = 0 then 0 else spGet 0 k.x i
/-- The core with an integer register written; a write of x0 is discarded. -/
def BghCore.setX (k : BghCore) (i : Nat) (v : Word64) : BghCore := if i = 0 then k else { k with x := spSet 0 i v k.x }
/-- A floating-point register. -/
def BghCore.freg (k : BghCore) (i : Nat) : Word64 := spGet 0 k.f i
/-- A CSR as held. -/
def BghCore.csrN (k : BghCore) (n : Nat) : Nat := (spGet 0 k.csr n).toNat
/-- The core with a CSR as held. -/
def BghCore.setCsr (k : BghCore) (n v : Nat) : BghCore := { k with csr := spSet 0 n (BitVec.ofNat 64 v) k.csr }

/-- The level of a mode: 0 user, 1 supervisor, 3 machine. -/
def BghMode.level : BghMode → Nat
  | .user => 0
  | .supervisor => 1
  | .machine => 3
/-- The mode of a level; 2 names none. -/
def BghMode.ofLevel (n : Nat) : BghMode := if n = 0 then .user else if n = 1 then .supervisor else .machine

/-! ### CSR numbers -/

def csrMstatus : Nat := 0x300
def csrMedeleg : Nat := 0x302
def csrMideleg : Nat := 0x303
def csrMie : Nat := 0x304
def csrMtvec : Nat := 0x305
def csrMcounteren : Nat := 0x306
def csrMcountinhibit : Nat := 0x320
def csrMepc : Nat := 0x341
def csrMcause : Nat := 0x342
def csrMtval : Nat := 0x343
def csrStvec : Nat := 0x105
def csrScounteren : Nat := 0x106
def csrSepc : Nat := 0x141
def csrScause : Nat := 0x142
def csrStval : Nat := 0x143
def csrSatp : Nat := 0x180
def csrMinstret : Nat := 0xB02
def csrFcsr : Nat := 0x003

/-- A field of `mstatus`: MPP is [12:11], FS [14:13]. -/
def BghCore.status (k : BghCore) (hi lo : Nat) : Nat := slice (k.csrN csrMstatus) hi lo
/-- The core with a field of `mstatus` written. -/
def BghCore.setStatus (k : BghCore) (hi lo v : Nat) : BghCore := k.setCsr csrMstatus (insertBits (k.csrN csrMstatus) hi lo v)

/-- The floating-point state is off: its instructions are illegal. -/
def BghCore.fpOff (k : BghCore) : Bool := k.status 14 13 = 0
/-- The floating-point state is dirty. -/
def BghCore.fpDirty (k : BghCore) : BghCore := k.setStatus 14 13 3
/-- The core with a floating-point register written. -/
def BghCore.setF (k : BghCore) (i : Nat) (v : Word64) : BghCore := { k with f := spSet 0 i v k.f }.fpDirty
/-- The core with accrued exceptions ORed into `fflags`. -/
def BghCore.accrue (k : BghCore) (fl : Nat) : BghCore := if fl = 0 then k else (k.setCsr csrFcsr (k.csrN csrFcsr ||| fl)).fpDirty

/-! ### Interrupts (R456) -/

/-- The interrupts that the core knows: the software, timer and external interrupts of machine and supervisor mode and those of user level by number. -/
def intrMask : Nat := 0xAAA

/-- `mip` of core `c` (R456): the supervisor bits as written, the timer bit from BGH_MTIME, the external bit from BGH_COREc_IPEND and IEN. -/
def bghMip (s : State) (c : Nat) (k : BghCore) : Nat :=
  (k.csrN csrMip &&& 0x222)
    ||| (if s.reg64 (Reg.BGH_CORE_MTIMECMP_LO c) ≤ bghMtime s then 2 ^ 7 else 0)
    ||| (if s.fld (F.BGH_CORE_IPEND_PEND c) &&& s.fld (F.BGH_CORE_IEN_EN c) ≠ 0 then 2 ^ 11 else 0)

/-- The interrupt that core `c` takes before its next instruction: those for machine mode come first, and within a mode external, software, timer. -/
def bghIntr (s : State) (c : Nat) (k : BghCore) : Option Nat :=
  let on := bghMip s c k &&& k.csrN csrMie
  let deleg := k.csrN csrMideleg
  let order := [11, 3, 7, 9, 1, 5]
  let forM := order.find? fun i => bitAt on i && !(bitAt deleg i)
  let forS := order.find? fun i => bitAt on i && bitAt deleg i
  let mOn := k.mode ≠ .machine || k.status 3 3 = 1
  let sOn := k.mode = .user || (k.mode = .supervisor && k.status 1 1 = 1)
  if mOn && forM.isSome then forM else if sOn then forS else none

/-! ### Traps -/

/-- An exception: its cause code and the value for `mtval` or `stval`. -/
structure BghExc where
  cause : Nat
  tval : Nat
  deriving DecidableEq, Repr

/-- Where a trap goes: the base of the vector, plus four bytes by cause for an interrupt in vectored mode. -/
def trapTarget (tvec : Nat) (intr : Bool) (cause : Nat) : Word64 :=
  BitVec.ofNat 64 (tvec / 4 * 4 + if intr && tvec % 4 = 1 then 4 * cause else 0)

/-- The core takes a trap: to supervisor mode where it is delegated and did not come from machine mode, else to machine mode. -/
def BghCore.trap (k : BghCore) (intr : Bool) (cause tval : Nat) : BghCore :=
  let deleg := bitAt (k.csrN (if intr then csrMideleg else csrMedeleg)) cause
  let code := ofBool intr * 2 ^ 63 + cause
  if deleg && k.mode ≠ .machine then
    let k1 := ((k.setCsr csrScause code).setCsr csrSepc k.pc.toNat).setCsr csrStval tval
    let k2 := ((k1.setStatus 5 5 (k.status 1 1)).setStatus 8 8 k.mode.level).setStatus 1 1 0
    { k2 with mode := .supervisor, pc := trapTarget (k.csrN csrStvec) intr cause }
  else
    let k1 := ((k.setCsr csrMcause code).setCsr csrMepc k.pc.toNat).setCsr csrMtval tval
    let k2 := ((k1.setStatus 7 7 (k.status 3 3)).setStatus 12 11 k.mode.level).setStatus 3 3 0
    { k2 with mode := .machine, pc := trapTarget (k.csrN csrMtvec) intr cause }

/-- MRET: the mode and the interrupt enable from before the trap. -/
def BghCore.mret (k : BghCore) : BghCore :=
  let back := BghMode.ofLevel (k.status 12 11)
  let k1 := ((k.setStatus 3 3 (k.status 7 7)).setStatus 7 7 1).setStatus 12 11 0
  let k2 := if back = .machine then k1 else k1.setStatus 17 17 0
  { k2 with mode := back, pc := BitVec.ofNat 64 (k.csrN csrMepc) }

/-- SRET. -/
def BghCore.sret (k : BghCore) : BghCore :=
  let back := BghMode.ofLevel (k.status 8 8)
  let k1 := (((k.setStatus 1 1 (k.status 5 5)).setStatus 5 5 1).setStatus 8 8 0).setStatus 17 17 0
  { k1 with mode := back, pc := BitVec.ofNat 64 (k.csrN csrSepc) }

/-! ### CSR reads -/

/-- `misa`: RV64 with A, C, D, F, I, M, supervisor and user mode. -/
def misaValue : Nat := 2 * 2 ^ 62 + 2 ^ 0 + 2 ^ 2 + 2 ^ 3 + 2 ^ 5 + 2 ^ 8 + 2 ^ 12 + 2 ^ 18 + 2 ^ 20

/-- The bits of `mstatus` that hold what is written: SIE, MIE, SPIE, MPIE, SPP, MPP, FS, MPRV, SUM, MXR, TVM, TW, TSR. -/
def mstatusMask : Nat := 0x7E79AA
/-- Those that `sstatus` shows: SIE, SPIE, SPP, FS, SUM, MXR. -/
def sstatusMask : Nat := 0xC6122

/-- `mstatus` or `sstatus` as read: UXL is 2, SD follows FS; SXL is 2 in `mstatus`. -/
def statusRead (k : BghCore) (mask sxl : Nat) : Nat :=
  (k.csrN csrMstatus &&& mask) + 2 * 2 ^ 32 + sxl * 2 ^ 34 + (if k.status 14 13 = 3 then 2 ^ 63 else 0)

/-- The configuration byte of PMP entry `i`. -/
def BghCore.pmpCfg (k : BghCore) (i : Nat) : Nat := slice (k.csrN (0x3A0 + i / 8 * 2)) (i % 8 * 8 + 7) (i % 8 * 8)

/-- `pmpaddr` of entry `i` as read with a granularity of 4 KiB (R453): bits 8 to 0 are ones in NAPOT mode, bits 9 to 0 zeros in the others. -/
def pmpaddrRead (k : BghCore) (i : Nat) : Nat :=
  let v := k.csrN (0x3B0 + i)
  if slice (k.pmpCfg i) 4 3 = 3 then v / 512 * 512 + 511 else v / 1024 * 1024

/-- May the mode read the counter of bit `i` of the counter enables? -/
def counterOk (k : BghCore) (i : Nat) : Bool :=
  k.mode = .machine || (bitAt (k.csrN csrMcounteren) i && (k.mode = .supervisor || bitAt (k.csrN csrScounteren) i))

/-- A CSR of core `c` as read, apart from the mode that may read it: none where the core has no such CSR (R453, R455, R456). The cycle counter is a free
value: no instruction has a stated duration. -/
def csrRead (s : State) (c n : Nat) (k : BghCore) : Option (Nat × State) :=
  let is (v : Nat) : Option (Nat × State) := some (v, s)
  let ctr (i : Nat) : Option (Nat × State) :=
    if !(counterOk k i) then none
    else if i = 0 then some ((s.freeNat.1 % 2 ^ 64), s.freeNat.2)
    else if i = 1 then is (bghMtime s)
    else if i = 2 then is (k.csrN csrMinstret)
    else is 0
  let pair := pairState s (c / 2)
  if n = 0x001 then (if k.fpOff then none else is (k.csrN csrFcsr % 32))
  else if n = 0x002 then (if k.fpOff then none else is (slice (k.csrN csrFcsr) 7 5))
  else if n = 0x003 then (if k.fpOff then none else is (k.csrN csrFcsr % 256))
  else if n = 0x100 then is (statusRead k sstatusMask 0)
  else if n = 0x104 then is (k.csrN csrMie &&& k.csrN csrMideleg)
  else if n = 0x144 then is (bghMip s c k &&& k.csrN csrMideleg)
  else if n = 0x180 then (if k.mode = .supervisor && k.status 20 20 = 1 then none else is (k.csrN csrSatp))
  else if [0x105, 0x106, 0x10A, 0x140, 0x141, 0x142, 0x143].contains n then is (k.csrN n)
  else if n = 0x300 then is (statusRead k mstatusMask 2)
  else if n = 0x301 then is misaValue
  else if n = 0x344 then is (bghMip s c k)
  else if [0x302, 0x303, 0x304, 0x305, 0x306, 0x30A, 0x320, 0x340, 0x341, 0x342, 0x343, 0x3A0, 0x3A2].contains n then is (k.csrN n)
  else if 0x323 ≤ n && n < 0x340 then is 0
  else if 0x3B0 ≤ n && n < 0x3C0 then is (pmpaddrRead k (n - 0x3B0))
  else if n = 0x7C0 then is (s.fld (F.BGH_CORE_STAT_CTX c))
  else if n = 0x7C1 then
    let on := pair = bgLockstep
    is (ofBool on + ofBool (on && s.flag (F.BGH_PAIR_STAT_SAFE (c / 2))) * 2)
  else if n = 0xB00 then some ((s.freeNat.1 % 2 ^ 64), s.freeNat.2)
  else if n = 0xB02 then is (k.csrN csrMinstret)
  else if 0xB03 ≤ n && n < 0xB20 then is 0
  else if 0xC00 ≤ n && n < 0xC20 then ctr (n - 0xC00)
  else if n = 0xF14 then is c
  else if [0xF11, 0xF12, 0xF13, 0xF15].contains n then is (Config.bghId n).toNat
  else none

/-! ### CSR writes -/

/-- The bits of `mask` from `new`, the others from `old`. -/
def maskedWrite (mask old new : Nat) : Nat := (old &&& (2 ^ 64 - 1 - mask)) ||| (new &&& mask)

/-- One byte of a PMP configuration register written: a locked entry keeps its byte, and so does one given the mode NA4, which a granularity of 4 KiB
does not offer, or the reserved R = 0 with W = 1. -/
def pmpByte (old new : Nat) : Nat :=
  if bitAt old 7 || slice new 4 3 = 2 || (bitAt new 1 && !(bitAt new 0)) then old else new &&& 0x9F

/-- A PMP configuration register written. -/
def pmpcfgWrite (old new : Nat) : Nat :=
  (List.range 8).foldl (fun v i => v + pmpByte (slice old (8 * i + 7) (8 * i)) (slice new (8 * i + 7) (8 * i)) * 2 ^ (8 * i)) 0

/-- Is the address of PMP entry `i` locked: by its own entry, or by the next one in TOR mode? -/
def pmpaddrLocked (k : BghCore) (i : Nat) : Bool :=
  bitAt (k.pmpCfg i) 7 || (i < 15 && bitAt (k.pmpCfg (i + 1)) 7 && slice (k.pmpCfg (i + 1)) 4 3 = 1)

/-- The core with `mstatus` written under a mask: MPP keeps its value where 2 is written. -/
def statusWrite (k : BghCore) (mask v : Nat) : BghCore :=
  let old := k.csrN csrMstatus
  let v := if slice v 12 11 = 2 then insertBits v 12 11 (slice old 12 11) else v
  k.setCsr csrMstatus (maskedWrite mask old v)

/-- A CSR of core `c` written (R453, R455): what a field cannot hold it does not take. -/
def csrWrite (c n v : Nat) (k : BghCore) (s : State) : BghCore × State :=
  let keep (k : BghCore) : BghCore × State := (k, s)
  let old := k.csrN n
  if n = 0x001 then keep (k.setCsr csrFcsr (insertBits (k.csrN csrFcsr) 4 0 v)).fpDirty
  else if n = 0x002 then keep (k.setCsr csrFcsr (insertBits (k.csrN csrFcsr) 7 5 v)).fpDirty
  else if n = 0x003 then keep (k.setCsr csrFcsr (v % 256)).fpDirty
  else if n = 0x100 then keep (statusWrite k sstatusMask v)
  else if n = 0x104 then keep (k.setCsr csrMie (maskedWrite (intrMask &&& k.csrN csrMideleg) (k.csrN csrMie) v))
  else if n = 0x144 then keep (k.setCsr csrMip (maskedWrite (2 &&& k.csrN csrMideleg) (k.csrN csrMip) v))
  else if n = 0x105 || n = 0x305 then keep (k.setCsr n (v / 4 * 4 + v % 2))
  else if n = 0x106 || n = 0x306 then keep (k.setCsr n (v % 2 ^ 32))
  else if n = 0x10A || n = 0x30A then keep (k.setCsr n (v % 2))
  else if n = 0x141 || n = 0x341 then keep (k.setCsr n (v / 2 * 2))
  else if n = 0x180 then
    let mode := slice v 63 60
    keep (if mode = 0 || mode = 9 then
        k.setCsr csrSatp (mode * 2 ^ 60 + (slice v 59 44 &&& Config.bghAsid.toNat) * 2 ^ 44 + slice v 43 0) else k)
  else if n = 0x300 then keep (statusWrite k mstatusMask v)
  else if n = 0x302 then keep (k.setCsr n (v &&& 0xB3FF))
  else if n = 0x303 || n = 0x304 then keep (k.setCsr n (v &&& intrMask))
  else if n = 0x320 then keep (k.setCsr n (v &&& 5))
  else if n = 0x344 then keep (k.setCsr n (v &&& 0x222))
  else if n = 0x3A0 || n = 0x3A2 then keep (k.setCsr n (pmpcfgWrite old v))
  else if 0x3B0 ≤ n && n < 0x3C0 then keep (if pmpaddrLocked k (n - 0x3B0) then k else k.setCsr n (v % 2 ^ 54))
  else if n = 0x7C0 then
    let s := s.put (F.BGH_CORE_STAT_CTX c) (v % 64)
    (k, if pairState s (c / 2) = bgSplit then s else s.put (F.BGH_CORE_STAT_CTX (c / 2 * 2 + 1)) (v % 64))
  else if n = 0xB02 then keep (k.setCsr n (if bitAt (k.csrN csrMcountinhibit) 2 then v else v + 2 ^ 64 - 1))
  else if [0x140, 0x142, 0x143, 0x340, 0x342, 0x343].contains n then keep (k.setCsr n v)
  else keep k

/-- A CSR instruction: the value to write from the old value, for CSRRW, CSRRS and CSRRC by the low two bits of funct3. -/
def csrNew (f3 old src : Nat) : Nat :=
  match f3 % 4 with
  | 1 => src
  | 2 => old ||| src
  | _ => old &&& (2 ^ 64 - 1 - src)

end Sys2Proof.Machine
end

