-- ==== Sys2Proof/Machine/BoughMem.lean ====
section
/-! DEFINITION. The memory accesses of the Bough cores (R453, R454): protection, Sv48 translation, loads, stores, reservations and atomics. -/

namespace Sys2Proof.Machine

/-- What an access is for. -/
inductive BghAcc where
  | fetch | load | store
  deriving DecidableEq, Repr

/-- The exception codes of an access: misaligned, access fault, page fault. -/
def BghAcc.misaligned : BghAcc → Nat
  | .fetch => 0
  | .load => 4
  | .store => 6
def BghAcc.fault : BghAcc → Nat
  | .fetch => 1
  | .load => 5
  | .store => 7
def BghAcc.page : BghAcc → Nat
  | .fetch => 12
  | .load => 13
  | .store => 15

/-! ### Physical memory protection -/

/-- Does PMP entry `i` match the address? Regions are whole units of 4 KiB (R453). -/
def pmpMatch (k : BghCore) (a i : Nat) : Bool :=
  let addr (j : Nat) : Nat := k.csrN (0x3B0 + j)
  match slice (k.pmpCfg i) 4 3 with
  | 1 => (if i = 0 then 0 else addr (i - 1) / 1024 * 4096) ≤ a && a < addr i / 1024 * 4096
  | 3 =>
    let v := addr i / 512 * 512 + 511
    let ones := ((List.range 54).find? fun j => !(bitAt v j)).getD 54
    a / 4 / 2 ^ (ones + 1) = v / 2 ^ (ones + 1)
  | _ => false

/-- May the mode make the access at a physical address? The lowest entry that matches decides; machine mode is bound by locked entries only, and
without a match it alone has access. -/
def pmpOk (k : BghCore) (m : BghMode) (a : Nat) (acc : BghAcc) : Bool :=
  match (List.range 16).find? (pmpMatch k a) with
  | none => m = .machine
  | some i =>
    let cfg := k.pmpCfg i
    (m = .machine && !(bitAt cfg 7)) || bitAt cfg (match acc with
      | .load => 0
      | .store => 1
      | .fetch => 2)

/-! ### Transactions and lines -/

/-- A read transaction of core `c` (R31, R38, R454); no transaction carries an address above 48 bits. -/
def bghRead (c pa n : Nat) (s : State) : Option (List Byte) × State :=
  match issuer s (0x20 + c) 0 with
  | none => (none, s)
  | some (oid, ctx) => if 2 ^ 48 ≤ pa then (none, s) else busRead oid ctx pa n {} s

/-- Core `c` has written the DRAM line at `line`, which held `was`: the line is dirty in its cache (R454). -/
def noteDirty (c line : Nat) (was : List Byte) (s : State) : State :=
  if s.memsys.dirty.any fun d => d.core = c && d.line = line then s
  else s.setMs { s.memsys with dirty := s.memsys.dirty ++ [⟨line, c, was⟩] }

/-- A write transaction of core `c`, inside one 64-byte line. -/
def bghWrite (c pa : Nat) (bs : List Byte) (s : State) : Bool × State :=
  match issuer s (0x20 + c) 0 with
  | none => (false, s)
  | some (oid, ctx) =>
    if 2 ^ 48 ≤ pa then (false, s)
    else
      let was := s.bytes (pa / 64 * 64) 64
      match busWrite oid ctx pa bs {} 0 s with
      | (true, s) => (true, if pa < 0x1800000000 then noteDirty c (pa / 64 * 64) was s else s)
      | (false, s) => (false, s)

/-! ### Sv48 -/

/-- May the mode use a leaf page-table entry for the access? The accessed bit must be set, and for a store the dirty bit. -/
def leafOk (k : BghCore) (m : BghMode) (acc : BghAcc) (pte : Nat) : Bool :=
  let perm := match acc with
    | .fetch => bitAt pte 3
    | .load => bitAt pte 1 || (k.status 19 19 = 1 && bitAt pte 3)
    | .store => bitAt pte 2 && bitAt pte 7
  let user := if m = .user then bitAt pte 4 else !(bitAt pte 4) || (k.status 18 18 = 1 && acc ≠ .fetch)
  perm && user && bitAt pte 6

/-- The table walk from the table at `base` through the levels that are left: the physical address, or the exception code. -/
def walk (c : Nat) (k : BghCore) (m : BghMode) (acc : BghAcc) (va : Nat) : List Nat → Nat → State → (Nat ⊕ Nat) × State
  | [], _, s => (.inl acc.page, s)
  | l :: ls, base, s =>
    let pa := base + va / 2 ^ (12 + 9 * l) % 512 * 8
    if !(pmpOk k .supervisor pa .load) then (.inl acc.fault, s)
    else
      match bghRead c pa 8 s with
      | (none, s) => (.inl acc.fault, s)
      | (some b, s) =>
        let pte := leNat b
        let ppn := slice pte 53 10
        if !(bitAt pte 0) || (!(bitAt pte 1) && bitAt pte 2) || pte / 2 ^ 54 ≠ 0 then (.inl acc.page, s)
        else if !(bitAt pte 1) && !(bitAt pte 3) then
          (if bitAt pte 4 || bitAt pte 6 || bitAt pte 7 then (.inl acc.page, s) else walk c k m acc va ls (ppn * 4096) s)
        else if !(leafOk k m acc pte) || ppn % 2 ^ (9 * l) ≠ 0 then (.inl acc.page, s)
        else (.inr (ppn * 4096 + va % 2 ^ (12 + 9 * l)), s)

/-- The physical address of a virtual one (R453): Bare, or Sv48, whose addresses repeat bit 47 above it. -/
def translate (c : Nat) (k : BghCore) (m : BghMode) (acc : BghAcc) (va : Nat) (s : State) : (Nat ⊕ Nat) × State :=
  let satp := k.csrN csrSatp
  if m = .machine || satp / 2 ^ 60 = 0 then (.inr va, s)
  else if va / 2 ^ 47 ≠ 0 && va / 2 ^ 47 ≠ 2 ^ 17 - 1 then (.inl acc.page, s)
  else walk c k m acc va [3, 2, 1, 0] (slice satp 43 0 * 4096) s

/-- The physical address that the mode may access, or the exception. -/
def checked (c : Nat) (k : BghCore) (m : BghMode) (acc : BghAcc) (va : Nat) (s : State) : (BghExc ⊕ Nat) × State :=
  match translate c k m acc va s with
  | (.inl e, s) => (.inl ⟨e, va⟩, s)
  | (.inr pa, s) => if pmpOk k m pa acc then (.inr pa, s) else (.inl ⟨acc.fault, va⟩, s)

/-- The mode of loads and stores: that of MPP in machine mode with MPRV set. -/
def BghCore.dataMode (k : BghCore) : BghMode := if k.mode = .machine && k.status 17 17 = 1 then BghMode.ofLevel (k.status 12 11) else k.mode

/-- The place of a load or store of `n` bytes: one that crosses a 64-byte line is misaligned (R453). -/
def dataPlace (c : Nat) (k : BghCore) (acc : BghAcc) (va n : Nat) (s : State) : (BghExc ⊕ Nat) × State :=
  if 64 < va % 64 + n then (.inl ⟨acc.misaligned, va⟩, s) else checked c k k.dataMode acc va s

/-- A load of `n` bytes. -/
def bghLoad (c : Nat) (k : BghCore) (va n : Nat) (s : State) : (BghExc ⊕ Nat) × State :=
  match dataPlace c k .load va n s with
  | (.inl e, s) => (.inl e, s)
  | (.inr pa, s) =>
    match bghRead c pa n s with
    | (some b, s) => (.inr (leNat b), s)
    | (none, s) => (.inl ⟨5, va⟩, s)

/-- A store of `n` bytes: none, or the exception. -/
def bghStore (c : Nat) (k : BghCore) (va n v : Nat) (s : State) : Option BghExc × State :=
  match dataPlace c k .store va n s with
  | (.inl e, s) => (some e, s)
  | (.inr pa, s) =>
    match bghWrite c pa (leBytes n v) s with
    | (true, s) => (none, s)
    | (false, s) => (some ⟨7, va⟩, s)

/-! ### Atomics -/

/-- The place of an atomic access of `n` bytes: naturally aligned, and in DRAM (R453). -/
def atomicPlace (c : Nat) (k : BghCore) (acc : BghAcc) (va n : Nat) (s : State) : (BghExc ⊕ Nat) × State :=
  if va % n ≠ 0 then (.inl ⟨acc.misaligned, va⟩, s)
  else
    match checked c k k.dataMode acc va s with
    | (.inr pa, s) => if pa < 0x1800000000 then (.inr pa, s) else (.inl ⟨acc.fault, va⟩, s)
    | r => r

/-- Core `c` holds a reservation on the bytes, and no other. -/
def reserve (c : Nat) (r : List Resv) (s : State) : State := s.setMs { s.memsys with resv := s.memsys.resv.filter (·.core ≠ c) ++ r }

/-- LR: the value, with a reservation. -/
def bghLr (c : Nat) (k : BghCore) (va n : Nat) (s : State) : (BghExc ⊕ Nat) × State :=
  match atomicPlace c k .load va n s with
  | (.inl e, s) => (.inl e, s)
  | (.inr pa, s) =>
    match bghRead c pa n s with
    | (some b, s) => (.inr (leNat b), reserve c [⟨c, pa, n⟩] s)
    | (none, s) => (.inl ⟨5, va⟩, s)

/-- SC: 0 where the reservation stands and the store is done, 1 where it does not stand. -/
def bghSc (c : Nat) (k : BghCore) (va n v : Nat) (s : State) : (BghExc ⊕ Nat) × State :=
  match atomicPlace c k .store va n s with
  | (.inl e, s) => (.inl e, s)
  | (.inr pa, s) =>
    let held := s.memsys.resv.contains ⟨c, pa, n⟩
    let s := reserve c [] s
    if !held then (.inr 1, s)
    else
      match bghWrite c pa (leBytes n v) s with
      | (true, s) => (.inr 0, s)
      | (false, s) => (.inl ⟨7, va⟩, s)

/-- An AMO of `n` bytes that writes `f` of the old value: the old value. -/
def bghAmo (c : Nat) (k : BghCore) (va n : Nat) (f : Nat → Nat) (s : State) : (BghExc ⊕ Nat) × State :=
  match atomicPlace c k .store va n s with
  | (.inl e, s) => (.inl e, s)
  | (.inr pa, s) =>
    match bghRead c pa n s with
    | (none, s) => (.inl ⟨7, va⟩, s)
    | (some b, s) =>
      match bghWrite c pa (leBytes n (f (leNat b))) s with
      | (true, s) => (.inr (leNat b), s)
      | (false, s) => (.inl ⟨7, va⟩, s)

/-! ### Instruction fetch -/

/-- Two bytes of an instruction at `va`. -/
def fetchHalf (c : Nat) (k : BghCore) (va : Nat) (s : State) : (BghExc ⊕ Nat) × State :=
  match checked c k k.mode .fetch va s with
  | (.inl e, s) => (.inl e, s)
  | (.inr pa, s) =>
    match bghRead c pa 2 s with
    | (some b, s) => (.inr (leNat b), s)
    | (none, s) => (.inl ⟨1, va⟩, s)

/-- The instruction at the pc: its 32-bit form, its own bits and its length; a 16-bit word that stands for none is illegal. -/
def bghFetch (c : Nat) (k : BghCore) (s : State) : (BghExc ⊕ Nat × Nat × Nat) × State :=
  match fetchHalf c k k.pc.toNat s with
  | (.inl e, s) => (.inl e, s)
  | (.inr lo, s) =>
    if lo % 4 ≠ 3 then
      match expandC lo with
      | some w => (.inr (w, lo, 2), s)
      | none => (.inl ⟨2, lo⟩, s)
    else
      match fetchHalf c k (k.pc + 2).toNat s with
      | (.inl e, s) => (.inl e, s)
      | (.inr hi, s) => (.inr (hi * 65536 + lo, hi * 65536 + lo, 4), s)

end Sys2Proof.Machine
end

