-- ==== Sys2Proof/Machine/BoughRun.lean ====
section
/-! DEFINITION. The instructions of the Bough cores on the state, and the execution of one instruction (R453 to R459, R461). -/

namespace Sys2Proof.Machine

/-! ### The F and D extensions -/

/-- The format of an instruction: 0 single, 1 double. -/
def fmtOf (n : Nat) : Option FlFmt := if n = 0 then some flS else if n = 1 then some flD else none

/-- The bits that a register holds in a format: a single is boxed, and what is not boxed reads as the canonical NaN. -/
def unbox (t : FlFmt) (v : Word64) : Nat :=
  if t = flD then v.toNat else if v.toNat / 2 ^ 32 = 2 ^ 32 - 1 then v.toNat % 2 ^ 32 else flS.cnan
/-- A register value from bits of a format. -/
def box (t : FlFmt) (v : Nat) : Word64 := BitVec.ofNat 64 (if t = flD then v else (2 ^ 32 - 1) * 2 ^ 32 + v)

/-- The rounding mode of an instruction: 7 takes that of `frm`. -/
def roundingOf (k : BghCore) (w : Nat) : Option FlRm :=
  flRm (if slice w 14 12 = 7 then slice (k.csrN csrFcsr) 7 5 else slice w 14 12)

/-- A floating-point result into register `rd`, with the exceptions it raises. -/
def BghCore.putF (k : BghCore) (t : FlFmt) (rd : Nat) (r : FlRes) : BghCore := (k.setF rd (box t r.1)).accrue r.2

/-- The multiply-add instructions, by opcode. -/
def fmaInsn (op w : Nat) (k : BghCore) : Option BghCore := do
  let t ← fmtOf (slice w 26 25)
  let rm ← roundingOf k w
  let a := t.read (unbox t (k.freg (slice w 19 15)))
  let b := t.read (unbox t (k.freg (slice w 24 20)))
  let c := t.read (unbox t (k.freg (slice w 31 27)))
  let x := if op = 0x4B || op = 0x4F then a.neg else a
  let y := if op = 0x47 || op = 0x4F then c.neg else c
  pure (k.putF t (slice w 11 7) (t.fma rm x b y))

/-- The range of the integer type of a conversion: W, WU, L, LU. -/
def cvtRange (n : Nat) : Int × Int :=
  if n = 0 then (-(2 ^ 31), 2 ^ 31 - 1) else if n = 1 then (0, 2 ^ 32 - 1) else if n = 2 then (-(2 ^ 63), 2 ^ 63 - 1) else (0, 2 ^ 64 - 1)

/-- The integer that a conversion to floating point takes from a register. -/
def cvtSource (n : Nat) (v : Word64) : Int :=
  if n = 0 then (v.setWidth 32).toInt else if n = 1 then (v.toNat % 2 ^ 32 : Nat) else if n = 2 then v.toInt else (v.toNat : Nat)

/-- The sign of a sign-injection instruction. -/
def injected (f3 : Nat) (sa sb : Bool) : Option Bool :=
  if f3 = 0 then some sb else if f3 = 1 then some !sb else if f3 = 2 then some (sa != sb) else none

/-- The register value of an integer result of a conversion: 32-bit results are sign-extended. -/
def cvtResult (n : Nat) (v : Int) : Word64 := if n < 2 then (BitVec.ofInt 32 v).signExtend 64 else BitVec.ofInt 64 v

/-- OP-FP, by the five high bits of funct7. -/
def fpInsn (w : Nat) (k : BghCore) : Option BghCore := do
  let t ← fmtOf (slice w 26 25)
  let rd := slice w 11 7
  let r2 := slice w 24 20
  let f3 := slice w 14 12
  let x := unbox t (k.freg (slice w 19 15))
  let y := unbox t (k.freg r2)
  let a := t.read x
  let b := t.read y
  let sign := t.ew + t.p - 1
  match slice w 31 27 with
  | 0x00 => let rm ← roundingOf k w; pure (k.putF t rd (t.add rm a b))
  | 0x01 => let rm ← roundingOf k w; pure (k.putF t rd (t.add rm a b.neg))
  | 0x02 => let rm ← roundingOf k w; pure (k.putF t rd (t.mul rm a b))
  | 0x03 => let rm ← roundingOf k w; pure (k.putF t rd (t.div rm a b))
  | 0x0B =>
    let rm ← roundingOf k w
    if r2 = 0 then pure (k.putF t rd (t.sqrt rm a)) else none
  | 0x04 =>
    let n ← injected f3 (bitAt x sign) (bitAt y sign)
    pure (k.putF t rd (insertBits x sign sign (ofBool n), 0))
  | 0x05 => if f3 < 2 then pure (k.putF t rd (t.pick (f3 = 1) x y)) else none
  | 0x08 =>
    let rm ← roundingOf k w
    let u ← fmtOf r2
    if u = t then none else pure (k.putF t rd (t.convert rm (u.read (unbox u (k.freg (slice w 19 15))))))
  | 0x14 =>
    if f3 < 3 then
      let r := flCompare f3 a b
      pure ((k.setX rd (BitVec.ofNat 64 r.1)).accrue r.2)
    else none
  | 0x18 =>
    let rm ← roundingOf k w
    if r2 < 4 then
      let r := flToInt rm (cvtRange r2).1 (cvtRange r2).2 a
      pure ((k.setX rd (cvtResult r2 r.1)).accrue r.2)
    else none
  | 0x1A =>
    let rm ← roundingOf k w
    if r2 < 4 then pure (k.putF t rd (t.ofInt rm (cvtSource r2 (k.xreg (slice w 19 15))))) else none
  | 0x1C =>
    if r2 ≠ 0 then none
    else if f3 = 0 then
      let v := k.freg (slice w 19 15)
      pure (k.setX rd (if t = flS then sext32 v else v))
    else if f3 = 1 then pure (k.setX rd (BitVec.ofNat 64 (t.classify a)))
    else none
  | 0x1E =>
    if r2 = 0 && f3 = 0 then
      let v := k.xreg (slice w 19 15)
      pure (k.setF rd (if t = flS then box flS (v.toNat % 2 ^ 32) else v))
    else none
  | _ => none

/-! ### One instruction -/

/-- What an instruction does: the core after it, or the exception it raises. -/
abbrev BghAns := (BghExc ⊕ BghCore) × State

/-- The core goes on behind an instruction of `len` bytes. -/
def goOn (len : Nat) (k : BghCore) (s : State) : BghAns := (.inr { k with pc := k.pc + BitVec.ofNat 64 len }, s)

/-- The core goes on, or the instruction with the bits `raw` is illegal. -/
def goOnOr (len raw : Nat) (k : Option BghCore) (s : State) : BghAns :=
  match k with
  | some k => goOn len k s
  | none => (.inl ⟨2, raw⟩, s)

/-- LOAD: the value by funct3; an unsigned form has bit 2 set. -/
def loadInsn (c len raw w : Nat) (k : BghCore) (s : State) : BghAns :=
  let f3 := slice w 14 12
  if f3 = 7 then (.inl ⟨2, raw⟩, s)
  else
    let n := 2 ^ (f3 % 4)
    match bghLoad c k (k.xreg (slice w 19 15) + immI w).toNat n s with
    | (.inl e, s) => (.inl e, s)
    | (.inr v, s) => goOn len (k.setX (slice w 11 7) (if f3 < 4 then sext64 (8 * n) v else BitVec.ofNat 64 v)) s

/-- STORE, and the stores of F and D: `v` is the register stored. -/
def storeInsn (c len w n : Nat) (v : Word64) (k : BghCore) (s : State) : BghAns :=
  match bghStore c k (k.xreg (slice w 19 15) + immS w).toNat n v.toNat s with
  | (some e, s) => (.inl e, s)
  | (none, s) => goOn len k s

/-- FLW and FLD. -/
def loadFpInsn (c len raw w : Nat) (k : BghCore) (s : State) : BghAns :=
  let f3 := slice w 14 12
  if k.fpOff || (f3 ≠ 2 && f3 ≠ 3) then (.inl ⟨2, raw⟩, s)
  else
    match bghLoad c k (k.xreg (slice w 19 15) + immI w).toNat (2 ^ f3) s with
    | (.inl e, s) => (.inl e, s)
    | (.inr v, s) => goOn len (k.setF (slice w 11 7) (if f3 = 2 then box flS v else BitVec.ofNat 64 v)) s

/-- AMO, LR and SC. -/
def amoInsn (c len raw w : Nat) (k : BghCore) (s : State) : BghAns :=
  let f3 := slice w 14 12
  let f5 := slice w 31 27
  let n := 2 ^ f3
  let va := (k.xreg (slice w 19 15)).toNat
  let src := k.xreg (slice w 24 20)
  let put (r : (BghExc ⊕ Nat) × State) : BghAns :=
    match r with
    | (.inl e, s) => (.inl e, s)
    | (.inr v, s) => goOn len (k.setX (slice w 11 7) (sext64 (8 * n) v)) s
  if f3 ≠ 2 && f3 ≠ 3 then (.inl ⟨2, raw⟩, s)
  else if f5 = 2 then (if slice w 24 20 = 0 then put (bghLr c k va n s) else (.inl ⟨2, raw⟩, s))
  else if f5 = 3 then put (bghSc c k va n src.toNat s)
  else if (amoOp f5 src src).isNone then (.inl ⟨2, raw⟩, s)
  else
    put (bghAmo c k va n (fun old => ((amoOp f5 (BitVec.ofNat (8 * n) old) (src.setWidth (8 * n))).map BitVec.toNat).getD 0) s)

/-- The instructions that read and write a CSR: a CSR that the core has not, that its mode may not reach, or that is read-only and written, makes the
instruction illegal. -/
def csrInsn (c len raw w : Nat) (k : BghCore) (s : State) : BghAns :=
  let f3 := slice w 14 12
  let n := slice w 31 20
  let r1 := slice w 19 15
  let writes := f3 % 4 = 1 || r1 ≠ 0
  if k.mode.level < slice n 9 8 || (writes && slice n 11 10 = 3) then (.inl ⟨2, raw⟩, s)
  else
    match csrRead s c n k with
    | none => (.inl ⟨2, raw⟩, s)
    | some (old, s) =>
      let src := if 4 < f3 then r1 else (k.xreg r1).toNat
      let r := if writes then csrWrite c n (csrNew f3 old src) k s else (k, s)
      goOn len (r.1.setX (slice w 11 7) (BitVec.ofNat 64 old)) r.2

/-- SYSTEM with funct3 0: ECALL, EBREAK, MRET, SRET, WFI, SFENCE.VMA. -/
def systemInsn (len raw w : Nat) (k : BghCore) (s : State) : BghAns :=
  let illegal : BghAns := (.inl ⟨2, raw⟩, s)
  let barred (bit : Nat) : Bool := k.mode = .supervisor && k.status bit bit = 1
  if w = 0x00000073 then (.inl ⟨8 + k.mode.level, 0⟩, s)
  else if w = 0x00100073 then (.inl ⟨3, k.pc.toNat⟩, s)
  else if w = 0x30200073 then (if k.mode = .machine then (.inr k.mret, s) else illegal)
  else if w = 0x10200073 then (if k.mode = .user || barred 22 then illegal else (.inr k.sret, s))
  else if w = 0x10500073 then (if k.mode ≠ .machine && k.status 21 21 = 1 then illegal else goOn len k s)
  else if slice w 31 25 = 0x09 && slice w 11 7 = 0 then (if k.mode = .user || barred 20 then illegal else goOn len k s)
  else illegal

/-- Core `c` executes an instruction in its 32-bit form `w`; `raw` are its own bits and `len` its bytes (R453). -/
def bghInsn (c w raw len : Nat) (k : BghCore) (s : State) : BghAns :=
  let rd := slice w 11 7
  let f3 := slice w 14 12
  let a := k.xreg (slice w 19 15)
  let b := k.xreg (slice w 24 20)
  let next := k.pc + BitVec.ofNat 64 len
  let putX (v : Option Word64) : BghAns := goOnOr len raw (v.map (k.setX rd)) s
  let illegal : BghAns := (.inl ⟨2, raw⟩, s)
  match w % 128 with
  | 0x37 => putX (some (immU w))
  | 0x17 => putX (some (k.pc + immU w))
  | 0x6F => (.inr { k.setX rd next with pc := k.pc + immJ w }, s)
  | 0x67 => if f3 = 0 then (.inr { k.setX rd next with pc := (a + immI w) &&& ~~~1 }, s) else illegal
  | 0x63 =>
    match branchTaken f3 a b with
    | none => illegal
    | some t => (.inr { k with pc := if t then k.pc + immB w else next }, s)
  | 0x03 => loadInsn c len raw w k s
  | 0x23 => if f3 < 4 then storeInsn c len w (2 ^ f3) b k s else illegal
  | 0x13 => putX (opImm f3 (slice w 31 20) a)
  | 0x1B => putX (opImm32 f3 (slice w 31 20) a)
  | 0x33 => putX (opReg (slice w 31 25) f3 a b)
  | 0x3B => putX (opReg32 (slice w 31 25) f3 (slice w 24 20) a b)
  | 0x0F => if f3 < 2 then goOn len k s else illegal
  | 0x2F => amoInsn c len raw w k s
  | 0x73 => if f3 = 0 then systemInsn len raw w k s else if f3 = 4 then illegal else csrInsn c len raw w k s
  | 0x07 => loadFpInsn c len raw w k s
  | 0x27 => if k.fpOff || (f3 ≠ 2 && f3 ≠ 3) then illegal else storeInsn c len w (2 ^ f3) (k.freg (slice w 24 20)) k s
  | 0x43 => if k.fpOff then illegal else goOnOr len raw (fmaInsn 0x43 w k) s
  | 0x47 => if k.fpOff then illegal else goOnOr len raw (fmaInsn 0x47 w k) s
  | 0x4B => if k.fpOff then illegal else goOnOr len raw (fmaInsn 0x4B w k) s
  | 0x4F => if k.fpOff then illegal else goOnOr len raw (fmaInsn 0x4F w k) s
  | 0x53 => if k.fpOff then illegal else goOnOr len raw (fpInsn w k) s
  | _ => illegal

/-! ### Execution -/

/-- Does core `c` execute (R461, R504)? In lockstep core 2p stands for both copies; a parked follower does not. -/
def bghRuns (s : State) (c : Nat) : Bool :=
  let st := pairState s (c / 2)
  !(pairsHeld s) && ((st = bgLockstep && c % 2 = 0) || (st = bgSplit && !(c % 2 = 1 && s.flag (F.BGH_PAIR_STAT_PARKED (c / 2)))))

/-- The core has retired an instruction: `minstret` counts it unless it is inhibited. -/
def BghCore.retire (k : BghCore) : BghCore := if bitAt (k.csrN csrMcountinhibit) 2 then k else k.setCsr csrMinstret (k.csrN csrMinstret + 1)

/-- Core `c` takes the interrupt that is due, or executes the instruction at its pc. -/
def bghStep (s : State) (c : Nat) : State :=
  let k := bghCore s c
  if !(bghRuns s c) then s
  else
    match bghIntr s c k with
    | some i => setBghCore c (k.trap true i 0) s
    | none =>
      match bghFetch c k s with
      | (.inl e, s) => setBghCore c (k.trap false e.cause e.tval) s
      | (.inr (w, raw, len), s) =>
        match bghInsn c w raw len k s with
        | (.inl e, s) => setBghCore c (k.trap false e.cause e.tval) s
        | (.inr k, s) => setBghCore c k.retire s

end Sys2Proof.Machine
end

