-- ==== Sys2Proof/Machine/CrownDecode.lean ====
section
/-! DEFINITION. The Treik decoder of a Crown core's sequencer: the fields of the forms (R97, R98, R127) and the instruction that a word's CLASS, OP
and FN name; a word that names none is illegal (R100). -/

namespace Sys2Proof.Machine

/-- Bits `hi` to `lo` of a word as a bit vector. -/
def bitsOf (w hi lo n : Nat) : BitVec n := BitVec.ofNat n (slice w hi lo)

/-- Form A (R98). -/
def readA (w : Nat) : FormA :=
  { pred := bitsOf w 55 53 3, pn := w.testBit 52, rd := bitsOf w 51 47 5, ra := bitsOf w 46 42 5, rb := bitsOf w 41 37 5
    rc := bitsOf w 36 32 5, resv := bitsOf w 23 0 24 }

/-- Form I (R98). -/
def readI (w : Nat) : FormI :=
  { pred := bitsOf w 55 53 3, pn := w.testBit 52, rd := bitsOf w 51 47 5, ra := bitsOf w 46 42 5, fn := bitsOf w 41 32 10
    imm := bitsOf w 31 0 32 }

/-- Form G (R98). -/
def readG (w : Nat) : FormG :=
  { pred := bitsOf w 55 53 3, pn := w.testBit 52, q := bitsOf w 51 50 2, g := w.testBit 49, core := bitsOf w 48 46 3
    ring := bitsOf w 45 36 10, rd := bitsOf w 35 31 5, ra := bitsOf w 30 26 5, resv := bitsOf w 25 16 10, imm := bitsOf w 15 0 16 }

/-- Form T (R98). -/
def readT (w : Nat) : FormT :=
  { pred := bitsOf w 55 53 3, pn := w.testBit 52, rd := bitsOf w 51 47 5, ra := bitsOf w 46 42 5, rb := bitsOf w 41 37 5
    fn := bitsOf w 36 32 5, imm := bitsOf w 31 0 32 }

/-- Form D (R127). -/
def readD (w : Nat) : FormD :=
  { pred := bitsOf w 55 53 3, pn := w.testBit 52, eng := w.testBit 51, sig := w.testBit 50, ring := bitsOf w 49 42 8
    td := bitsOf w 41 37 5, ra := bitsOf w 36 32 5, rb := bitsOf w 31 27 5, burl := bitsOf w 26 25 2, resv := bitsOf w 24 0 25 }

/-- Form X (R127). -/
def readX (w : Nat) : FormX :=
  { pred := bitsOf w 55 53 3, pn := w.testBit 52, ta := bitsOf w 51 47 5, ra := bitsOf w 46 42 5, mode := bitsOf w 41 40 2
    grp := w.testBit 39, acc := w.testBit 38, swp := w.testBit 37, tb := bitsOf w 36 32 5, resv := bitsOf w 31 0 32 }

/-- Form V (R127). -/
def readV (w : Nat) : FormV :=
  { pred := bitsOf w 55 53 3, pn := w.testBit 52, vd := bitsOf w 51 46 6, va := bitsOf w 45 40 6, vb := bitsOf w 39 34 6
    vc := bitsOf w 33 28 6, me := w.testBit 21, vm := bitsOf w 20 15 6, rs := bitsOf w 14 10 5, imm := bitsOf w 9 0 10 }

/-- Form Q (R127). -/
def readQ (w : Nat) : FormQ :=
  { pred := bitsOf w 55 53 3, pn := w.testBit 52, td := bitsOf w 51 47 5, vd := bitsOf w 46 41 6, va := bitsOf w 40 35 6
    vb := bitsOf w 34 29 6, vc := bitsOf w 28 23 6, vr := bitsOf w 22 17 6, rs := bitsOf w 16 12 5, ow := bitsOf w 11 10 2
    mod := bitsOf w 9 0 10 }

/-- Class 0x0: scalar ALU (R105). -/
def decodeA (c : Fin 6) (f : FormA) : Nat → Nat → Option Instr
  | 0, 0 => some (.add c f)
  | 0, 1 => some (.addm c f)
  | 1, 0 => some (.sub c f)
  | 1, 1 => some (.subm c f)
  | 2, 0 => some (.mul c f)
  | 2, 1 => some (.mulm c f)
  | 2, 2 => some (.mulq c f)
  | 3, 0 => some (.div c f)
  | 3, 1 => some (.rem c f)
  | 3, 2 => some (.divr c f)
  | 4, 0 => some (.andS c f)
  | 4, 1 => some (.orS c f)
  | 4, 2 => some (.xorS c f)
  | 4, 3 => some (.andn c f)
  | 4, 4 => some (.notS c f)
  | 5, 0 => some (.sll c f)
  | 5, 1 => some (.srl c f)
  | 5, 2 => some (.sra c f)
  | 5, 3 => some (.sls c f)
  | 5, 4 => some (.srr c f)
  | 6, 0 => some (.minS c f)
  | 6, 1 => some (.maxS c f)
  | 6, 2 => some (.minu c f)
  | 6, 3 => some (.maxu c f)
  | 6, 4 => some (.neg c f)
  | 6, 5 => some (.absI c f)
  | 7, 0 => some (.clz c f)
  | 7, 1 => some (.ctz c f)
  | 7, 2 => some (.pop c f)
  | 8, 0 => some (.cmpEq c f)
  | 8, 1 => some (.cmpNe c f)
  | 8, 2 => some (.cmpLt c f)
  | 8, 3 => some (.cmpLe c f)
  | 8, 4 => some (.cmpLtu c f)
  | 8, 5 => some (.cmpLeu c f)
  | 9, 0 => some (.sel c f)
  | 10, 0 => some (.pand c f)
  | 10, 1 => some (.por c f)
  | 10, 2 => some (.pxor c f)
  | 10, 3 => some (.pandn c f)
  | 10, 4 => some (.pnot c f)
  | 11, 0 => some (.pget c f)
  | 11, 1 => some (.pset c f)
  | _, _ => none

/-- Class 0x1: scalar immediate (R107). -/
def decodeI1 (c : Fin 6) (f : FormI) : Nat → Nat → Option Instr
  | 0, 0 => some (.addi c f)
  | 0, 1 => some (.addim c f)
  | 1, 0 => some (.muli c f)
  | 1, 1 => some (.mulim c f)
  | 2, 0 => some (.andi c f)
  | 2, 1 => some (.ori c f)
  | 2, 2 => some (.xori c f)
  | 3, 0 => some (.slli c f)
  | 3, 1 => some (.srli c f)
  | 3, 2 => some (.srai c f)
  | 3, 3 => some (.slsi c f)
  | 3, 4 => some (.srri c f)
  | 4, 0 => some (.cmpiEq c f)
  | 4, 1 => some (.cmpiNe c f)
  | 4, 2 => some (.cmpiLt c f)
  | 4, 3 => some (.cmpiLe c f)
  | 4, 4 => some (.cmpiLtu c f)
  | 4, 5 => some (.cmpiLeu c f)
  | 5, 0 => some (.li c f)
  | 6, 0 => some (.lih c f)
  | 7, 0 => some (.sati c f)
  | 7, 1 => some (.usati c f)
  | 7, 2 => some (.sexti c f)
  | 7, 3 => some (.zexti c f)
  | _, _ => none

/-- Class 0x2: branch and control (R108). -/
def decodeCtl (c : Fin 6) (f : FormI) : Nat → Option Instr
  | 0 => some (.br c f)
  | 1 => some (.brr c f)
  | 2 => some (.call c f)
  | 3 => some (.callr c f)
  | 4 => some (.loop c f)
  | 5 => some (.lbrk c f)
  | 6 => some (.lidx c f)
  | 7 => some (.endJob c f)
  | 8 => some (.fault c f)
  | 9 => some (.nop c f)
  | _ => none

/-- Class 0x3: scalar load and store (R112). -/
def decodeLs (c : Fin 6) (f : FormI) : Nat → Option Instr
  | 0 => some (.ldb c f)
  | 1 => some (.ldbu c f)
  | 2 => some (.ldh c f)
  | 3 => some (.ldhu c f)
  | 4 => some (.ldw c f)
  | 5 => some (.ldwu c f)
  | 6 => some (.ldd c f)
  | 8 => some (.stb c f)
  | 9 => some (.sth c f)
  | 10 => some (.stw c f)
  | 11 => some (.std c f)
  | _ => none

/-- Class 0x4: ring and sync (R117). -/
def decodeRing (c : Fin 6) (f : FormG) : Nat → Option Instr
  | 0 => some (.rsig c f)
  | 1 => some (.rsigv c f)
  | 2 => some (.rwait c f)
  | 3 => some (.rwaits c f)
  | 4 => some (.rrd c f)
  | 5 => some (.rtest c f)
  | 6 => some (.rsigd c f)
  | _ => none

/-- Class 0x5: DMA (R152). -/
def decodeDma (c : Fin 6) (f : FormD) : Nat → Option Instr
  | 0 => some (.dld c f)
  | 1 => some (.dst c f)
  | 2 => some (.dgth c f)
  | 3 => some (.dsct c f)
  | 4 => some (.dacl c f)
  | 5 => some (.dacs c f)
  | 6 => some (.dzro c f)
  | _ => none

/-- Class 0x6: array (R133). -/
def decodeArray (c : Fin 6) (f : FormX) : Nat → Option Instr
  | 0 => some (.awld c f)
  | 1 => some (.amm c f)
  | 2 => some (.ammc c f)
  | _ => none

/-- Class 0x7: Twig vector (R137 to R140). -/
def decodeTwig (c : Fin 6) (f : FormV) : Nat → Nat → Option Instr
  | 0, 0 => some (.vadd c f)
  | 0, 1 => some (.vaddm c f)
  | 0, 2 => some (.vsub c f)
  | 0, 3 => some (.vsubm c f)
  | 0, 4 => some (.vmin c f)
  | 0, 5 => some (.vmax c f)
  | 0, 6 => some (.vneg c f)
  | 0, 7 => some (.vabs c f)
  | 0, 8 => some (.vand c f)
  | 0, 9 => some (.vor c f)
  | 0, 10 => some (.vxor c f)
  | 0, 11 => some (.vandn c f)
  | 1, 0 => some (.vmul c f)
  | 1, 1 => some (.vmulq c f)
  | 1, 2 => some (.vmac c f)
  | 1, 3 => some (.vresc c f)
  | 2, 0 => some (.vsll c f)
  | 2, 1 => some (.vsrl c f)
  | 2, 2 => some (.vsra c f)
  | 2, 3 => some (.vsls c f)
  | 2, 4 => some (.vsrr c f)
  | 2, 8 => some (.vslli c f)
  | 2, 9 => some (.vsrli c f)
  | 2, 10 => some (.vsrai c f)
  | 2, 11 => some (.vslsi c f)
  | 2, 12 => some (.vsrri c f)
  | 2, 16 => some (.vsat c f)
  | 2, 17 => some (.vusat c f)
  | 3, 0 => some (.vcmpEq c f)
  | 3, 1 => some (.vcmpNe c f)
  | 3, 2 => some (.vcmpLt c f)
  | 3, 3 => some (.vcmpLe c f)
  | 3, 4 => some (.vsel c f)
  | 4, 0 => some (.vmov c f)
  | 4, 1 => some (.vbcs c f)
  | 4, 2 => some (.vbcl c f)
  | 4, 3 => some (.vidx c f)
  | 4, 4 => some (.vins c f)
  | 4, 5 => some (.vext c f)
  | 5, 0 => some (.vrsum c f)
  | 5, 1 => some (.vrmax c f)
  | 5, 2 => some (.vrmin c f)
  | 5, 3 => some (.vramax c f)
  | 5, 4 => some (.vrarg c f)
  | 6, 0 => some (.vld c f)
  | 6, 1 => some (.vst c f)
  | 6, 2 => some (.vacr c f)
  | 6, 3 => some (.vacw c f)
  | 7, 0 => some (.vrdiv c f)
  | 7, 1 => some (.vqdiv c f)
  | 7, 2 => some (.vqrem c f)
  | 7, 3 => some (.vrsq c f)
  | _, _ => none

/-- Class 0x8: mask and attention helpers (R141, R142). -/
def decodeMask (c : Fin 6) (f : FormV) : Nat → Nat → Option Instr
  | 0, 0 => some (.vmkc c f)
  | 0, 1 => some (.vmkcm c f)
  | 1, 0 => some (.vmks c f)
  | 1, 1 => some (.vmksm c f)
  | 2, 0 => some (.vany c f)
  | 3, 0 => some (.vexp c f)
  | 4, 0 => some (.vroti c f)
  | 4, 1 => some (.vrots c f)
  | _, _ => none

/-- Class 0x9: quantise and de-quantise (R145, R147). -/
def decodeQuant (c : Fin 6) (f : FormQ) : Nat → Option Instr
  | 0 => some (.qdrn c f)
  | 1 => some (.qdq c f)
  | 2 => some (.qnt c f)
  | 3 => some (.qscl c f)
  | _ => none

/-- Class 0xA: table (R143). -/
def decodeTable (c : Fin 6) (f : FormV) : Nat → Nat → Option Instr
  | 0, 0 => some (.tldTable c f)
  | 1, 0 => some (.tlu c f)
  | 2, 0 => some (.tli c f)
  | _, _ => none

/-- Class 0xB: tile descriptor (R122). -/
def decodeTile (c : Fin 6) (f : FormT) : Nat → Option Instr
  | 0 => some (.tset c f)
  | 1 => some (.tget c f)
  | 2 => some (.tld c f)
  | 3 => some (.tst c f)
  | 4 => some (.tadv c f)
  | 5 => some (.tsub c f)
  | 6 => some (.tcpy c f)
  | _ => none

/-- Class 0xF: system (R123). -/
def decodeSys (c : Fin 6) (f : FormI) : Nat → Option Instr
  | 0 => some (.fflush c f)
  | 1 => some (.flagrd c f)
  | 2 => some (.flagclr c f)
  | 3 => some (.svr c f)
  | _ => none

/-- The instruction that a word spells on core `c` (R97, R98, R100, R127): none where CLASS is 0xC, 0xD or 0xE or OP or FN is not defined. -/
def treikDecode (c : Fin 6) (w : Nat) : Option Instr :=
  let op := slice w 59 56
  match slice w 63 60 with
  | 0 => decodeA c (readA w) op (slice w 31 24)
  | 1 => decodeI1 c (readI w) op (slice w 41 32)
  | 2 => decodeCtl c (readI w) op
  | 3 => decodeLs c (readI w) op
  | 4 => decodeRing c (readG w) op
  | 5 => decodeDma c (readD w) op
  | 6 => decodeArray c (readX w) op
  | 7 => decodeTwig c (readV w) op (slice w 27 22)
  | 8 => decodeMask c (readV w) op (slice w 27 22)
  | 9 => decodeQuant c (readQ w) op
  | 10 => decodeTable c (readV w) op (slice w 27 22)
  | 11 => decodeTile c (readT w) op
  | 15 => decodeSys c (readI w) op
  | _ => none

end Sys2Proof.Machine
end

