-- ==== Sys2Proof/Machine/Tick.lean ====
section
/-! DEFINITION. What passes while no command waits. -/

namespace Sys2Proof.Machine

/-- Every block is out of reset (R502): TIM ticks and the sequencers run from then on. -/
def ticking (s : State) : Bool := s.fld F.SAP_BOOT_STAGE = 5

/-- The sequencer of core `c` fetches at most one row ahead (R126): the row after the one being decoded, not past the end of the innermost loop
while that loop has an iteration to run, and not a row that the buffer holds. -/
def fetchAhead (c : Nat) (s : State) : State :=
  let k := s.core c
  let r := k.pc / 64 + 1
  let past := match k.loops with
    | e :: _ => e.idx + 1 < e.count && e.stop < r * 64
    | [] => false
  if k.holdsRow r || past || spSize < (r + 1) * 64 then s
  else
    match ownRead c (r * 64) 64 s with
    | (.ok b, s) => s.setCore c (fetchRow r b (s.core c))
    | (_, s) => s

/-- The sequencer of core `c` decodes one instruction (R91, R92, R97 to R100): the word at the pc comes from the fetch buffer; a word that spells no
instruction faults with ILLEGAL_INSN whatever its predicate. -/
def sequence (c : Fin 6) (s : State) : State :=
  let k := s.core c
  if !(coreRuns s c) || k.halted || k.ended || k.seqWait.isSome then s
  else
    match fetchWord c s with
    | (.ok _, s) =>
      let w := bufferedWord (s.core c)
      let s := fetchAhead c s
      if (s.core c).halted then s
      else
        match treikDecode c w with
        | none => progFault c 1 k.pc w w 0 s
        | some i =>
          match exec i s with
          | .next t => t
          | _ => s
    | (_, s) => s

/-- The block idles for one CK_TIM tick (R418 to R420, R553): the time and the elapsed time advance once the module is READY, the sequencer of each
Crown core whose job runs decodes one instruction of its program, each Bough core that runs executes one of its own (R453), the Page keeper grants the
pages that EXTENDs have asked for (R193), and Heartwood's sequencer serves the causes it has received (log entries 4, 94, 113). -/
def idle (s : State) : State :=
  hwdServe (if ticking s then
      (List.range 8).foldl bghStep ((List.finRange 6).foldl (fun s c => sequence c s) (timTick (allocCycles false 64 s)))
    else s)

end Sys2Proof.Machine
end

