-- ==== Sys2Proof/Safety.lean ====
section
/-! DEFINITION. What counts as a safe run, and the words that the statements are made of: when an instruction stands at a Crown core's
decode, and what a command leaves unchanged. -/

namespace Sys2Proof

open Sys2Proof.Machine

/-- The memory and the register file are in canonical form: keys rise, no entry holds what an unlisted one reads as. -/
def Canonical (s : State) : Prop := spWf (fun _ => (0 : Byte)) s.mem = true ∧ spWf regDefault s.regs = true

/-- A run of `k` steps: it meets no fault and no refusal. -/
def Runs : Nat → State → Prop
  | 0, _ => True
  | k + 1, s => ∃ t, step s = .next t ∧ Runs k t

/-- An instruction with predicate field `pred`, `pn` stands at the decode of core `c` (R99, R102): the core runs, its row is in the fetch buffer, no
queued instruction still writes the predicate or a register of `rs` and `ps`. -/
structure AtDecode (c : Fin 6) (pred : BitVec 3) (rs ps : List Nat) (s : State) : Prop where
  runs : coreRuns s c = true
  live : (s.core c).halted = false
  unended : (s.core c).ended = false
  unheld : (s.core c).seqWait = none
  fetched : (s.core c).holdsRow ((s.core c).pc / 64) = true
  pred : pred.toNat ∉ (s.core c).pendP
  regs : ∀ r ∈ rs, r = 0 ∨ r ∉ (s.core c).pendS
  preds : ∀ p ∈ ps, p = 0 ∨ p ∉ (s.core c).pendP

/-- The predicate field lets the instruction execute (R100). -/
def Chosen (c : Fin 6) (pred : BitVec 3) (pn : Bool) (s : State) : Prop := (s.core c).preg pred.toNat = !pn

/-- The next sequential pc of core `c`, after the loop logic, is in the scratchpad (R104, R110). -/
def Flows (c : Fin 6) (s : State) : Prop := pcOk (loopEnd (s.core c).pc (s.core c).loops).2 = true

/-- The core after an instruction that is no taken branch: the loop logic and the next pc (R110). -/
def stepped (k : Crown) : Crown := { k with loops := (loopEnd k.pc k.loops).1, pc := (loopEnd k.pc k.loops).2 }

/-- An instruction executes and completes: it stands at decode, its predicate lets it execute, and the next pc is in the scratchpad. -/
def Ready (c : Fin 6) (pred : BitVec 3) (pn : Bool) (rs ps : List Nat) (s : State) : Prop :=
  AtDecode c pred rs ps s ∧ Chosen c pred pn s ∧ Flows c s

/-- The state after an instruction with result `r` for scalar register `rd`: the register (s0 discards it), the flags ORed into the core's
flag word, the core moved on, and nothing else. -/
def scalarDone (c : Fin 6) (rd : BitVec 5) (r : Res) (s : State) : State :=
  (orFlags c r.2 s).setCore c (stepped ((s.core c).setS rd.toNat r.1))

/-- The state after an instruction with result `b` for predicate register `rd` (p0 discards it), and nothing else changed but the pc. -/
def predDone (c : Fin 6) (rd : BitVec 5) (b : Bool) (s : State) : State := s.setCore c (stepped ((s.core c).setP rd.toNat b))

/-- A jump: the pc of core `c` is the target, and nothing else changes. -/
def jumped (c : Fin 6) (t : Int) (k : Crown) (s : State) : State := s.setCore c { k with pc := t.toNat }

/-- The address of a scalar or descriptor access is in the scratchpad and a multiple of its size (R112). -/
def Aligned (a : Int) (n : Nat) : Prop := 0 ≤ a ∧ a + n ≤ 0x1800000 ∧ a % n = 0

/-- The core may access `n` bytes at offset `a` of its scratchpad, and no word of them fails its check bits (R278, R306). -/
def Sound (c a n : Nat) (s : State) : Prop := fencedAt s c a n = none ∧ suspectWords s (spBase c + a) n = []

/-- The last event that the EVQ accepted has this code and OID. -/
def LastEvent (s : State) (code oid : Nat) : Prop := ∃ e, s.evq.hist.getLast? = some e ∧ e.code = code ∧ e.oid = oid

/-- The state after a program fault of core `c` (R103, R104): the core is stopped and the last event is PROG_FAULT with the cause, the core's
number, the pc and the first data word of the report. -/
def Faulted (c : Fin 6) (cause pc w3 : Nat) (s t : State) : Prop :=
  (t.core c).halted = true ∧
    ∃ e, t.evq.hist.getLast? = some e ∧ e.code = 0x400B ∧ e.oid = 0x10 + c.val ∧ e.ctx = coreCtxN s c ∧ e.sev = 2
      ∧ e.a0 % 2 ^ 16 = cause + c.val * 2 ^ 8 ∧ e.a1 = pc % 2 ^ 25 ∧ e.a3 = w3 % 2 ^ 32

/-- The state after an instruction has entered a queue of core `c` with the operands captured at issue (R92, R102), and nothing else
changed but the pc. -/
def queued (c : Fin 6) (q : QName) (i : Instr) (word : Nat) (x y : Int) (t0 t1 : BitVec 128) (s : State) : State :=
  let k := s.core c
  s.setCore c (stepped { k.setQueue q (k.queue q ++ [{ op := i, pc := k.pc, word := word, x := x, y := y, t0 := t0, t1 := t1, n := k.issued }])
    with issued := k.issued + 1 })

/-- A queue of core `c` has a free entry, and its oldest entry is no signal that waits to be applied (R92, R115). -/
def Room (c : Fin 6) (q : QName) (s : State) : Prop :=
  ((s.core c).queue q).length < queueDepth q ∧ (q = .sync ∨ ∀ e ∈ ((s.core c).queue q).head?, e.isSignal = false)

/-- Lane `j` of vector register `r` of core `c`. -/
def laneAt (s : State) (c : Fin 6) (r : BitVec 6) (j : Nat) : BitVec 32 := spGet 0 (s.core c).v (512 * r.toNat + j)

/-- Lane `j` takes part in a masked instruction (R129): ME is 0, or bit 0 of the mask register's lane is 1. -/
def laneOn (s : State) (c : Fin 6) (f : FormV) (j : Nat) : Bool := !f.me || (laneAt s c f.vm j).getLsbD 0

/-- The state after a vector instruction of one result per lane: every active lane of vd holds its result from the lanes of va, vb and vc, every
other lane of every vector register is unchanged, and so are memory, the other cores and every register but the core's flag word. -/
def LanesWritten (c : Fin 6) (f : FormV) (g : Nat → Int → Int → Int → Res) (s t : State) : Prop :=
  (∀ j < 512, laneAt t c f.vd j = if laneOn s c f j then
      BitVec.ofInt 32 (g j (laneAt s c f.va j).toInt (laneAt s c f.vb j).toInt (laneAt s c f.vc j).toInt).1 else laneAt s c f.vd j)
  ∧ (∀ r j, r ≠ f.vd → j < 512 → laneAt t c r j = laneAt s c r j)
  ∧ t.mem = s.mem ∧ (∀ d : Fin 6, d ≠ c → t.core d = s.core d) ∧ ∀ o, o ≠ (F.CRN_FLAGS_SAT_DZ_ACCF_SCLR c).reg → t.reg o = s.reg o

/-- No cause waits for the safe-state sequencer and it is not in STOPPING: it has nothing to serve (R333, R334). -/
def Calm (s : State) : Prop := s.hwd.due = [] ∧ seqState s ≠ seqStopping

/-- The origin issues its transactions now, under this OID and context (R31). -/
def Issues (oid : BitVec 10) (ctx : BitVec 6) (s : State) : Prop := issuer s oid.toNat ctx.toNat = some (oid.toNat, ctx.toNat)

/-- A plain write of one word reaches the register at window offset `off` (R8, R31, R32, R340, R468): the writer issues it, its port passes it, Bark
admits it, and the register is not kept from the writer as an expert register. -/
structure Admitted (oid : BitVec 10) (ctx : BitVec 6) (off : Nat) (s : State) : Prop where
  issues : Issues oid ctx s
  port : portGate s oid.toNat (regBase + off) 4 true = .pass
  bark : judge s oid.toNat ctx.toNat (regBase + off) 4 true = none
  unkept : xpenDenied s oid.toNat off = false

/-- The writer of an accepted register write that led to `t` receives its answer (R41); a host write is posted. -/
def replied (oid : BitVec 10) (t : State) : State := t.answer oid.toNat true .ok []

/-- The accepted write led to `t`, and Heartwood's sequencer serves what it caused. -/
def obeyed (oid : BitVec 10) (t : State) : State := hwdServe (replied oid t)

/-- No EXTEND waits or asks for pages (R192): what a command frees is offered to nobody. -/
def NoneWaits (s : State) : Prop := ∀ e ∈ s.kvp.exec, e.wait = none ∧ e.asked = false

/-- The Page keeper serves the record `raw` at the head of context `c`'s queue (R181, R182): its directory is good, its queue is next, the record is
readable, of opcode `op` and with its reserved fields 0; the read led to `u`. -/
structure Served (c op : Nat) (raw : List Byte) (s u : State) : Prop where
  directory : suspectWords s dirBase 0x200000 = []
  next : kvpNext s = some c
  read : nocRead kvpOid c (kvpRecAddr s c) 64 s = (some raw, u)
  kept : u.kvp = s.kvp
  code : recField raw 0 1 = op
  wellFormed : kvpReservedOk raw = true

/-- The record of context `c` is complete with a status and a result (R182), after its command led to `u`. -/
def recordDone (c status result : Nat) (raw : List Byte) (s u : State) : State := kvpComplete c status result ⟨raw, kvpRecAddr s c⟩ u

/-- The Page keeper has taken context `c`'s record: the arbiter starts behind it next time (R181). -/
def taken (c : Nat) (u : State) : State := u.setKvp { u.kvp with last := c }

/-- Sapling executes the descriptor `d` at its address (R204 to R206): a started job runs, no wait holds it, the descriptor is aligned and readable,
of opcode `op`, legal, and waits for no ring; the read led to `u`. -/
structure Fetched (op : Nat) (checks : State → List Byte → List SplCheck) (d : List Byte) (s u : State) : Prop where
  runs : splRuns s = true
  unheld : s.spl.wait = none ∧ s.spl.held = none
  aligned : splDesc s % 128 = 0
  read : netRead splOid (splCtx s) (splDesc s) 128 s = (.inr d, u)
  code : dField d 0 1 = op
  legal : firstFail (headerChecks d ++ checks (startDesc d u) d) = none
  unwaited : (dField d 1 1).testBit 0 = false

/-- The full TIM time in units of 2^-32 ns (R418). -/
def fullTime (s : State) : Nat := timSec s * (1000000000 * 2 ^ 32) + timFine s

/-- The blocks of a frame of the root links (R369, R370): SOF with the header, data, EOF with the CRC. -/
def linkFrame (ftype addr cycle : Nat) (data : List Byte) : List LineBlock :=
  frameBlocks [BitVec.ofNat 8 ftype, BitVec.ofNat 8 addr, BitVec.ofNat 8 cycle, BitVec.ofNat 8 (data.length / 8), 0, 0, 0] data

/-- The COMMAND frames of the `n` nearest stations of a port in descending hop order with one apply time, IDLE blocks between them (R377). -/
def commandTrain (s : State) (p tapp : Nat) : Nat → List Out
  | 0 => []
  | k + 1 =>
    .rlk p 3 (linkFrame 3 k s.cmb.cycle
      (leBytes 4 tapp ++ [0, 0, 0, 0] ++ (List.range (s.fld (F.RLK_P_S_CFG_NAX p k))).flatMap fun i => slotBlock s p k i))
      :: (if k = 0 then [] else .rlk p 0 (List.replicate (rlkGap s) idleBlock) :: commandTrain s p tapp k)

/-- Memory is unchanged but for the miss runs that Cambium keeps in the live state of its axes (R353). -/
def RunsOnly (s t : State) : Prop := ∀ x, (∀ a < 128, x ≠ axLive a + 0x2D) → t.byte x = s.byte x

/-- Only the registers at the window offsets `os` may differ between the two states, and nothing else. -/
def RegsOnly (os : List Nat) (s t : State) : Prop := { t with regs := s.regs } = s ∧ ∀ o, o ∉ os → t.reg o = s.reg o

/-- What a global reset leaves of `s` (R499): the Pith store, the fuses, the AON registers and a wipe in progress stay; every other byte of memory,
register and unit is as after power-on. The queue and what has left the block are no part of the reset. -/
structure ResetTo (s t : State) : Prop where
  pith : ∀ a, pithBase ≤ a → a < pithBase + pithSize → t.byte a = s.byte a
  memory : ∀ a, a < pithBase ∨ pithBase + pithSize ≤ a → t.byte a = State.reset.byte a
  aon : ∀ o ∈ [Reg.LCS_TAMPER, Reg.LCS_CHG_INST, Reg.LCS_CHG_MAKER], t.reg o = s.reg o
  regs : ∀ o, o ∉ [Reg.LCS_STAT, Reg.LCS_TAMPER, Reg.LCS_CHG_INST, Reg.LCS_CHG_MAKER] → t.reg o = State.reset.reg o
  wiping : t.flag F.LCS_STAT_WIPING = s.lcs.wipe.isSome
  fuses : t.lcs.fuse = s.lcs.fuse ∧ t.lcs.wipe = s.lcs.wipe ∧ t.lcs.prog = none
  units : { t with mem := [], memsys := {}, regs := [], lcs := {}, sap := {}, resp := [], out := [], free := 0, pending := [] } = State.reset
  queue : t.pending = s.pending ∧ t.out = s.out

end Sys2Proof
end

