-- ==== Sys2Proof/Certificates/Slice0/Obligations.lean ====
section
/-! DEFINITION. The statements. -/

open Sys2Proof Sys2Proof.Machine

/-- A step runs the command at the front of the queue (INDEX.md, 95_what_each_step_holds.md). -/
def Obligations.StepRunsTheFront : Prop :=
  (∀ (c : Instr) (rest : List Instr) (s : State),
    step { s with pending := c :: rest } = exec c { s with pending := rest })
  ∧ ∀ s : State, s.pending = [] → step s = .next (idle s)

/-- The state after reset: every register at its reset value, memory and queues empty, canonical (02_address_map_registers.md, 15_heartwood_safety.md, 04_crown_core.md). -/
def Obligations.ResetState : Prop :=
  (∀ o, State.reset.reg o = regDefault o) ∧ (∀ a, State.reset.byte a = 0) ∧ State.reset.pending = [] ∧ Canonical State.reset
  ∧ State.reset.fld F.SYS_ID_PART = 0x960 ∧ State.reset.fld F.SYS_ID_SUFFIX = 0x96
  ∧ State.reset.fld F.HWD_STATE_SEQ = 0 ∧ State.reset.fld F.EVQ_SEQ_SEQ = 0xFFFF
  ∧ (∀ u : Fin 7, State.reset.fld (unitField u) = uOff)

/-- Signed saturation gives the nearest value of the format and flags exactly the values outside it (03_integer_arithmetic.md). -/
def Obligations.SaturationIsNearest : Prop :=
  ∀ (x : Int) (w : Nat), 1 ≤ w →
    (smin w ≤ (sat x w).1 ∧ (sat x w).1 ≤ smax w)
    ∧ ((sat x w).2 = fNone ↔ smin w ≤ x ∧ x ≤ smax w) ∧ ((sat x w).2 = fSat ↔ x < smin w ∨ smax w < x)
    ∧ (∀ y, smin w ≤ y → y ≤ smax w → |x - (sat x w).1| ≤ |x - y|)
    ∧ (0 ≤ (usat x w).1 ∧ (usat x w).1 ≤ umax w) ∧ ((usat x w).2 = fNone ↔ 0 ≤ x ∧ x ≤ umax w)
    ∧ (smin w ≤ wrap x w ∧ wrap x w ≤ smax w ∧ (2 ^ w : Int) ∣ wrap x w - x)

/-- The one rounding goes to the nearest integer and to the even one on a tie (03_integer_arithmetic.md). -/
def Obligations.RoundingIsNearestEven : Prop :=
  (∀ (x : Int) (n : Nat), |2 * (rne x n * 2 ^ n - x)| ≤ 2 ^ n ∧ (|2 * (rne x n * 2 ^ n - x)| = 2 ^ n → 1 ≤ n → rne x n % 2 = 0))
  ∧ (∀ (x : Int) (n w : Nat), 1 ≤ w → smin w ≤ x → x ≤ smax w → w ≤ n → srshift x n w = (0, fNone))

/-- The edge results of the helpers at width 8 (R53). -/
def Obligations.EdgeResults : Prop :=
  negS (-128) 8 = (127, fSat) ∧ absS (-128) 8 = (127, fSat) ∧ negS 127 8 = (-127, fNone)
  ∧ qdiv (-128) (-1) 8 = (127, fSat) ∧ qrem (-128) (-1) 8 = (0, fNone)
  ∧ qdiv 5 0 8 = (127, fDz) ∧ qdiv (-5) 0 8 = (-128, fDz) ∧ qdiv 0 0 8 = (0, fDz) ∧ (∀ x, qrem x 0 8 = (0, fDz))
  ∧ qdiv (-7) 2 8 = (-3, fNone) ∧ qrem (-7) 2 8 = (-1, fNone)
  ∧ rdiv (-7) 2 8 = (-4, fNone) ∧ rdiv 5 2 8 = (2, fNone) ∧ rdiv 7 2 8 = (4, fNone) ∧ rdiv 3 0 8 = (127, fDz)
  ∧ asr (-100) 8 = -1 ∧ asr 100 200 = 0 ∧ lsr (-100) 3 8 = 19 ∧ lsr (-100) 8 8 = 0
  ∧ lsl 3 6 8 = -64 ∧ lsl 3 8 8 = 0 ∧ ssl 0 9 8 = (0, fNone) ∧ ssl 3 6 8 = (127, fSat)
  ∧ ssl 3 9 8 = (127, fSat) ∧ ssl (-3) 8 8 = (-128, fSat)
  ∧ srshift (-128) 8 8 = (0, fNone) ∧ srshift (-384) 8 8 = (-2, fNone) ∧ srshift (-640) 8 8 = (-2, fNone)
  ∧ srshift 100 0 8 = (100, fNone) ∧ srshift 200 0 8 = (127, fSat)

/-- ADD, ADDM, SUB, SUBM, MUL, MULM, MULQ, DIV, REM and DIVR complete with their results (05_crown_isa_control.md, 03_integer_arithmetic.md). -/
def Obligations.ScalarArithmetic : Prop :=
  (  ∀ (c : Fin 6) (f : FormA) (s : State),
    Ready c f.pred f.pn [f.rd.toNat, f.ra.toNat, f.rb.toNat, f.rc.toNat] [] s → f.resv = 0 → f.rc = 0 →
    let a := (s.core c).sreg f.ra.toNat
    let b := (s.core c).sreg f.rb.toNat
    exec (.add c f) s = .next (scalarDone c f.rd (sat (a + b) 64) s)
    ∧ exec (.addm c f) s = .next (scalarDone c f.rd ((wrap (a + b) 64, fNone)) s)
    ∧ exec (.sub c f) s = .next (scalarDone c f.rd (sat (a - b) 64) s)
    ∧ exec (.subm c f) s = .next (scalarDone c f.rd ((wrap (a - b) 64, fNone)) s)
    ∧ exec (.mul c f) s = .next (scalarDone c f.rd (sat (a * b) 64) s)
    ∧ exec (.mulm c f) s = .next (scalarDone c f.rd ((wrap (a * b) 64, fNone)) s)
    ∧ exec (.div c f) s = .next (scalarDone c f.rd (qdiv a b 64) s)
    ∧ exec (.rem c f) s = .next (scalarDone c f.rd (qrem a b 64) s)
    ∧ exec (.divr c f) s = .next (scalarDone c f.rd (rdiv a b 64) s))
  ∧ ∀ (c : Fin 6) (f : FormA) (s : State),
    Ready c f.pred f.pn [f.rd.toNat, f.ra.toNat, f.rb.toNat, f.rc.toNat] [] s → f.resv = 0 →
    exec (.mulq c f) s = .next (scalarDone c f.rd
      (sat (rne ((s.core c).sreg f.ra.toNat * (s.core c).sreg f.rb.toNat) ((s.core c).sreg f.rc.toNat % 256).toNat) 64) s)

/-- AND, OR, XOR, ANDN, NOT and the shifts SLL, SRL, SRA, SLS and SRR complete with their results (05_crown_isa_control.md, 03_integer_arithmetic.md). -/
def Obligations.ScalarLogicShift : Prop :=
  (  ∀ (c : Fin 6) (f : FormA) (s : State),
    Ready c f.pred f.pn [f.rd.toNat, f.ra.toNat, f.rb.toNat, f.rc.toNat] [] s → f.resv = 0 → f.rc = 0 →
    let a := (s.core c).sreg f.ra.toNat
    let b := (s.core c).sreg f.rb.toNat
    let n := (b % 256).toNat
    exec (.andS c f) s = .next (scalarDone c f.rd (((BitVec.ofInt 64 a &&& BitVec.ofInt 64 b).toInt, fNone)) s)
    ∧ exec (.orS c f) s = .next (scalarDone c f.rd (((BitVec.ofInt 64 a ||| BitVec.ofInt 64 b).toInt, fNone)) s)
    ∧ exec (.xorS c f) s = .next (scalarDone c f.rd (((BitVec.ofInt 64 a ^^^ BitVec.ofInt 64 b).toInt, fNone)) s)
    ∧ exec (.andn c f) s = .next (scalarDone c f.rd (((BitVec.ofInt 64 a &&& ~~~(BitVec.ofInt 64 b)).toInt, fNone)) s)
    ∧ exec (.sll c f) s = .next (scalarDone c f.rd ((lsl a n 64, fNone)) s)
    ∧ exec (.srl c f) s = .next (scalarDone c f.rd ((wrap (lsr a n 64) 64, fNone)) s)
    ∧ exec (.sra c f) s = .next (scalarDone c f.rd ((asr a n, fNone)) s)
    ∧ exec (.sls c f) s = .next (scalarDone c f.rd (ssl a n 64) s)
    ∧ exec (.srr c f) s = .next (scalarDone c f.rd (srshift a n 64) s)
    ∧ (f.rb = 0 → exec (.notS c f) s = .next (scalarDone c f.rd (((~~~(BitVec.ofInt 64 a)).toInt, fNone)) s)))

/-- MIN, MAX, MINU, MAXU, NEG, ABS, CLZ, CTZ and POP complete with their results (05_crown_isa_control.md, 03_integer_arithmetic.md). -/
def Obligations.ScalarSelectCount : Prop :=
    ∀ (c : Fin 6) (f : FormA) (s : State),
    Ready c f.pred f.pn [f.rd.toNat, f.ra.toNat, f.rb.toNat, f.rc.toNat] [] s → f.resv = 0 → f.rc = 0 →
    let a := (s.core c).sreg f.ra.toNat
    let b := (s.core c).sreg f.rb.toNat
    exec (.minS c f) s = .next (scalarDone c f.rd ((min a b, fNone)) s)
    ∧ exec (.maxS c f) s = .next (scalarDone c f.rd ((max a b, fNone)) s)
    ∧ exec (.minu c f) s = .next (scalarDone c f.rd ((if a % 2 ^ 64 ≤ b % 2 ^ 64 then a else b, fNone)) s)
    ∧ exec (.maxu c f) s = .next (scalarDone c f.rd ((if b % 2 ^ 64 ≤ a % 2 ^ 64 then a else b, fNone)) s)
    ∧ (f.rb = 0 → exec (.neg c f) s = .next (scalarDone c f.rd (sat (-a) 64) s) ∧ exec (.absI c f) s = .next (scalarDone c f.rd (sat |a| 64) s)
      ∧ (∃ n : Nat, exec (.clz c f) s = .next (scalarDone c f.rd (n, fNone) s) ∧ n ≤ 64
          ∧ (BitVec.ofInt 64 a).toNat < 2 ^ (64 - n) ∧ (n < 64 → 2 ^ (63 - n) ≤ (BitVec.ofInt 64 a).toNat))
      ∧ (∃ n : Nat, exec (.ctz c f) s = .next (scalarDone c f.rd (n, fNone) s) ∧ n ≤ 64
          ∧ (∀ i < n, (BitVec.ofInt 64 a).getLsbD i = false) ∧ (n < 64 → (BitVec.ofInt 64 a).getLsbD n = true))
      ∧ exec (.pop c f) s = .next (scalarDone c f.rd ((((List.range 64).filter fun i => (BitVec.ofInt 64 a).getLsbD i).length, fNone)) s))

/-- The comparisons CMP and CMPI of both classes complete with the predicate of their condition (05_crown_isa_control.md, 03_integer_arithmetic.md). -/
def Obligations.ScalarCompare : Prop :=
  (∀ (c : Fin 6) (f : FormA) (s : State),
    Ready c f.pred f.pn [f.ra.toNat, f.rb.toNat] [f.rd.toNat] s → f.resv = 0 → f.rc = 0 → f.rd.toNat < 8 →
    let a := (s.core c).sreg f.ra.toNat
    let b := (s.core c).sreg f.rb.toNat
    exec (.cmpEq c f) s = .next (predDone c f.rd (decide (a = b)) s)
    ∧ exec (.cmpNe c f) s = .next (predDone c f.rd (decide (a ≠ b)) s)
    ∧ exec (.cmpLt c f) s = .next (predDone c f.rd (decide (a < b)) s)
    ∧ exec (.cmpLe c f) s = .next (predDone c f.rd (decide (a ≤ b)) s)
    ∧ exec (.cmpLtu c f) s = .next (predDone c f.rd (decide (a % 2 ^ 64 < b % 2 ^ 64)) s)
    ∧ exec (.cmpLeu c f) s = .next (predDone c f.rd (decide (a % 2 ^ 64 ≤ b % 2 ^ 64)) s))
  ∧ ∀ (c : Fin 6) (f : FormI) (s : State),
    Ready c f.pred f.pn [f.ra.toNat] [f.rd.toNat] s → f.rd.toNat < 8 →
    let a := (s.core c).sreg f.ra.toNat
    let b := f.imm.toInt
    exec (.cmpiEq c f) s = .next (predDone c f.rd (decide (a = b)) s)
    ∧ exec (.cmpiNe c f) s = .next (predDone c f.rd (decide (a ≠ b)) s)
    ∧ exec (.cmpiLt c f) s = .next (predDone c f.rd (decide (a < b)) s)
    ∧ exec (.cmpiLe c f) s = .next (predDone c f.rd (decide (a ≤ b)) s)
    ∧ exec (.cmpiLtu c f) s = .next (predDone c f.rd (decide (a % 2 ^ 64 < b % 2 ^ 64)) s)
    ∧ exec (.cmpiLeu c f) s = .next (predDone c f.rd (decide (a % 2 ^ 64 ≤ b % 2 ^ 64)) s)

/-- PAND, POR, PXOR, PANDN, PNOT, PGET, PSET and SEL complete with their results (05_crown_isa_control.md, 03_integer_arithmetic.md). -/
def Obligations.ScalarPredicates : Prop :=
  (∀ (c : Fin 6) (f : FormA) (s : State),
    Ready c f.pred f.pn [] [f.rd.toNat, f.ra.toNat, f.rb.toNat] s → f.resv = 0 → f.rc = 0 → f.rd.toNat < 8 → f.ra.toNat < 8 → f.rb.toNat < 8 →
    let x := (s.core c).preg f.ra.toNat
    let y := (s.core c).preg f.rb.toNat
    exec (.pand c f) s = .next (predDone c f.rd (x && y) s)
    ∧ exec (.por c f) s = .next (predDone c f.rd (x || y) s)
    ∧ exec (.pxor c f) s = .next (predDone c f.rd (x != y) s)
    ∧ exec (.pandn c f) s = .next (predDone c f.rd (x && !y) s)
    ∧ (f.rb = 0 → exec (.pnot c f) s = .next (predDone c f.rd (!x) s)))
  ∧ (∀ (c : Fin 6) (f : FormA) (s : State),
    Ready c f.pred f.pn [f.rd.toNat] [f.ra.toNat] s → f.resv = 0 → f.rb = 0 → f.rc = 0 → f.ra.toNat < 8 →
    exec (.pget c f) s = .next (scalarDone c f.rd (if (s.core c).preg f.ra.toNat then 1 else 0, fNone) s))
  ∧ (∀ (c : Fin 6) (f : FormA) (s : State),
    Ready c f.pred f.pn [f.ra.toNat] [f.rd.toNat] s → f.resv = 0 → f.rb = 0 → f.rc = 0 → f.rd.toNat < 8 →
    exec (.pset c f) s = .next (predDone c f.rd (decide ((s.core c).sreg f.ra.toNat ≠ 0)) s))
  ∧ ∀ (c : Fin 6) (f : FormA) (s : State),
    Ready c f.pred f.pn [f.rd.toNat, f.ra.toNat, f.rb.toNat] [f.rc.toNat] s → f.resv = 0 → f.rc.toNat < 8 →
    exec (.sel c f) s = .next (scalarDone c f.rd
      (if (s.core c).preg f.rc.toNat then (s.core c).sreg f.ra.toNat else (s.core c).sreg f.rb.toNat, fNone) s)

/-- The scalar immediates of class 0x1 complete with their results (05_crown_isa_control.md, 03_integer_arithmetic.md). -/
def Obligations.ScalarImmediates : Prop :=
  ∀ (c : Fin 6) (f : FormI) (s : State), Ready c f.pred f.pn [f.rd.toNat, f.ra.toNat] [] s →
    let a := (s.core c).sreg f.ra.toNat
    let i := f.imm.toInt
    let w := f.imm.toNat
    exec (.addi c f) s = .next (scalarDone c f.rd (sat (a + i) 64) s)
    ∧ exec (.addim c f) s = .next (scalarDone c f.rd ((wrap (a + i) 64, fNone)) s)
    ∧ exec (.muli c f) s = .next (scalarDone c f.rd (sat (a * i) 64) s)
    ∧ exec (.mulim c f) s = .next (scalarDone c f.rd ((wrap (a * i) 64, fNone)) s)
    ∧ exec (.andi c f) s = .next (scalarDone c f.rd (((BitVec.ofInt 64 a &&& BitVec.ofInt 64 i).toInt, fNone)) s)
    ∧ exec (.ori c f) s = .next (scalarDone c f.rd (((BitVec.ofInt 64 a ||| BitVec.ofInt 64 i).toInt, fNone)) s)
    ∧ exec (.xori c f) s = .next (scalarDone c f.rd (((BitVec.ofInt 64 a ^^^ BitVec.ofInt 64 i).toInt, fNone)) s)
    ∧ (w < 256 → exec (.slli c f) s = .next (scalarDone c f.rd ((lsl a w 64, fNone)) s)
      ∧ exec (.srli c f) s = .next (scalarDone c f.rd ((wrap (lsr a w 64) 64, fNone)) s)
      ∧ exec (.srai c f) s = .next (scalarDone c f.rd ((asr a w, fNone)) s)
      ∧ exec (.slsi c f) s = .next (scalarDone c f.rd (ssl a w 64) s)
      ∧ exec (.srri c f) s = .next (scalarDone c f.rd (srshift a w 64) s))
    ∧ (f.ra = 0 → exec (.li c f) s = .next (scalarDone c f.rd ((i, fNone)) s))
    ∧ exec (.lih c f) s = .next (scalarDone c f.rd ((wrap (i % 2 ^ 32 * 2 ^ 32 + a % 2 ^ 32) 64, fNone)) s)
    ∧ (1 ≤ w → w ≤ 64 → exec (.sati c f) s = .next (scalarDone c f.rd (sat a w) s)
      ∧ exec (.usati c f) s = .next (scalarDone c f.rd (usat a w) s)
      ∧ exec (.sexti c f) s = .next (scalarDone c f.rd ((wrap a w, fNone)) s)
      ∧ exec (.zexti c f) s = .next (scalarDone c f.rd ((if w = 64 then a else a % 2 ^ w, fNone)) s))

/-- BR, BRR, CALL, CALLR, LOOP, LBRK, LIDX, END, NOP and FAULT complete as R108 to R111 say (05_crown_isa_control.md). -/
def Obligations.BranchesAndLoops : Prop :=
  ∀ (c : Fin 6) (f : FormI) (s : State), AtDecode c f.pred [f.rd.toNat, f.ra.toNat] [] s → Chosen c f.pred f.pn s →
    let k := s.core c
    let here := (k.pc : Int) + 8 * f.imm.toInt
    let there := k.sreg f.ra.toNat + f.imm.toInt
    (f.rd = 0 → f.ra = 0 → f.fn = 0 → pcOk here = true → exec (.br c f) s = .next (jumped c here k s))
    ∧ (f.rd = 0 → f.fn = 0 → pcOk there = true → exec (.brr c f) s = .next (jumped c there k s))
    ∧ (f.ra = 0 → f.fn = 0 → pcOk here = true → exec (.call c f) s = .next (jumped c here (k.setS f.rd.toNat (k.pc + 8)) s))
    ∧ (f.fn = 0 → pcOk there = true → exec (.callr c f) s = .next (jumped c there (k.setS f.rd.toNat (k.pc + 8)) s))
    ∧ (f.rd = 0 → f.fn ≠ 0 → there ≤ 0 → pcOk (k.pc + 8 * f.fn.toNat + 8) = true →
        exec (.loop c f) s = .next (jumped c (k.pc + 8 * f.fn.toNat + 8) k (orFlags c (sat there 64).2 s)))
    ∧ (f.rd = 0 → f.fn ≠ 0 → 0 < there → there < 2 ^ 32 → k.loops.length < 4 → (∀ e ∈ k.loops.head?, k.pc + 8 * f.fn.toNat ≤ e.stop) →
        pcOk (k.pc + 8) = true →
        exec (.loop c f) s = .next (s.setCore c
          { k with loops := ⟨k.pc + 8, k.pc + 8 * f.fn.toNat, there.toNat, 0⟩ :: k.loops, pc := k.pc + 8 }))
    ∧ (f.rd = 0 → f.ra = 0 → f.imm = 0 → 1 ≤ f.fn.toNat → f.fn.toNat ≤ 4 → f.fn.toNat ≤ k.loops.length →
        pcOk (loopEnd k.pc (k.loops.drop f.fn.toNat)).2 = true →
        exec (.lbrk c f) s = .next (s.setCore c (stepped { k with loops := k.loops.drop f.fn.toNat })))
    ∧ (∀ e, f.ra = 0 → f.imm = 0 → f.fn.toNat < 4 → k.loops[f.fn.toNat]? = some e → Flows c s →
        exec (.lidx c f) s = .next (scalarDone c f.rd (e.idx, fNone) s))
    ∧ (f.rd = 0 → f.ra = 0 → f.fn = 0 → f.imm = 0 → exec (.endJob c f) s = .next (s.setCore c { k with ended := true }))
    ∧ (f.rd = 0 → f.ra = 0 → f.fn = 0 → f.imm = 0 → Flows c s → exec (.nop c f) s = .next (s.setCore c (stepped k)))
    ∧ (f.rd = 0 → f.ra = 0 → f.fn = 0 → f.imm.toNat < 65536 →
        exec (.fault c f) s = .next (progFault c 9 k.pc (wordI 2 8 0 f) (wordI 2 8 0 f % 2 ^ 32 : Nat) f.imm.toNat s))

/-- The loop logic repeats a body its count of times and then leaves it (05_crown_isa_control.md). -/
def Obligations.LoopLogic : Prop :=
  (∀ (pc : Nat) (e : LoopEnt) (r : List LoopEnt), e.stop ≠ pc → loopEnd pc (e :: r) = (e :: r, pc + 8))
  ∧ (∀ (pc : Nat) (e : LoopEnt) (r : List LoopEnt), e.stop = pc → e.idx + 1 < e.count →
      loopEnd pc (e :: r) = ({ e with idx := e.idx + 1 } :: r, e.start))
  ∧ ∀ (start stop n j : Nat), j + 1 < n →
      Nat.rec (motive := fun _ => List LoopEnt) [⟨start, stop, n, 0⟩] (fun _ l => (loopEnd stop l).1) j = [⟨start, stop, n, j⟩]
      ∧ Nat.rec (motive := fun _ => List LoopEnt) [⟨start, stop, n, 0⟩] (fun _ l => (loopEnd stop l).1) n = []

/-- The scalar loads complete with the little-endian value at their address (05_crown_isa_control.md). -/
def Obligations.ScalarLoads : Prop :=
  ∀ (c : Fin 6) (f : FormI) (s : State), Ready c f.pred f.pn [f.rd.toNat, f.ra.toNat] [] s → f.fn = 0 →
    let a := (s.core c).sreg f.ra.toNat + f.imm.toInt
    let v (n : Nat) : Nat := s.rdN (spBase c + a.toNat) n
    (Aligned a 1 → Sound c a.toNat 1 s → exec (.ldb c f) s = .next (scalarDone c f.rd (wrap (v 1) 8, fNone) s)
      ∧ exec (.ldbu c f) s = .next (scalarDone c f.rd (v 1, fNone) s))
    ∧ (Aligned a 2 → Sound c a.toNat 2 s → exec (.ldh c f) s = .next (scalarDone c f.rd (wrap (v 2) 16, fNone) s)
      ∧ exec (.ldhu c f) s = .next (scalarDone c f.rd (v 2, fNone) s))
    ∧ (Aligned a 4 → Sound c a.toNat 4 s → exec (.ldw c f) s = .next (scalarDone c f.rd (wrap (v 4) 32, fNone) s)
      ∧ exec (.ldwu c f) s = .next (scalarDone c f.rd (v 4, fNone) s))
    ∧ (Aligned a 8 → Sound c a.toNat 8 s → exec (.ldd c f) s = .next (scalarDone c f.rd (wrap (v 8) 64, fNone) s))

/-- The scalar stores and TST complete with the bytes written at their address and no other byte changed (05_crown_isa_control.md). -/
def Obligations.ScalarStores : Prop :=
  ∀ (c : Fin 6) (s : State),
    (∀ (f : FormI), Ready c f.pred f.pn [f.rd.toNat, f.ra.toNat] [] s → f.fn = 0 →
      let a := (s.core c).sreg f.ra.toNat + f.imm.toInt
      let put (n : Nat) : State := (s.wrN (spBase c + a.toNat) n ((s.core c).sreg f.rd.toNat % 2 ^ (8 * n)).toNat).setCore c (stepped (s.core c))
      (Aligned a 1 → Sound c a.toNat 1 s → exec (.stb c f) s = .next (put 1))
      ∧ (Aligned a 2 → Sound c a.toNat 2 s → exec (.sth c f) s = .next (put 2))
      ∧ (Aligned a 4 → Sound c a.toNat 4 s → exec (.stw c f) s = .next (put 4))
      ∧ (Aligned a 8 → Sound c a.toNat 8 s → exec (.std c f) s = .next (put 8))
      ∧ (∀ n b, n ∈ [1, 2, 4, 8] → (b < spBase c + a.toNat ∨ spBase c + a.toNat + n ≤ b) → (put n).byte b = s.byte b))
    ∧ ∀ (f : FormT), Ready c f.pred f.pn [f.ra.toNat] [] s → f.rb = 0 → f.fn = 0 →
      let a := (s.core c).sreg f.ra.toNat + f.imm.toInt
      Aligned a 16 → Sound c a.toNat 16 s →
        exec (.tst c f) s = .next ((s.wrN (spBase c + a.toNat) 16 ((s.core c).treg f.rd.toNat).toNat).setCore c (stepped (s.core c)))

/-- FAULT, an illegal word, a bad address and a bad branch target are program faults, and stop the core (05_crown_isa_control.md). -/
def Obligations.SequencerFaults : Prop :=
  ∀ (c : Fin 6) (s : State),
    (∀ (f : FormI), AtDecode c f.pred [f.rd.toNat, f.ra.toNat] [] s → Chosen c f.pred f.pn s →
      let k := s.core c
      let a := k.sreg f.ra.toNat + f.imm.toInt
      let here := (k.pc : Int) + 8 * f.imm.toInt
      (f.rd = 0 → f.ra = 0 → f.fn = 0 → f.imm.toNat < 65536 →
        ∃ t, exec (.fault c f) s = .next t ∧ Faulted c 9 k.pc (wordI 2 8 0 f) s t ∧ t.mem = s.mem)
      ∧ (f.fn = 0 → (a < 0 ∨ 0x1800000 < a + 4) →
        (∃ t, exec (.ldw c f) s = .next t ∧ Faulted c 3 k.pc (a % 2 ^ 32).toNat s t ∧ t.mem = s.mem)
        ∧ ∃ t, exec (.stw c f) s = .next t ∧ Faulted c 3 k.pc (a % 2 ^ 32).toNat s t ∧ t.mem = s.mem)
      ∧ (f.fn = 0 → 0 ≤ a → a + 8 ≤ 0x1800000 → a % 8 ≠ 0 →
        (∃ t, exec (.ldd c f) s = .next t ∧ Faulted c 4 k.pc (a % 2 ^ 32).toNat s t ∧ t.mem = s.mem)
        ∧ ∃ t, exec (.std c f) s = .next t ∧ Faulted c 4 k.pc (a % 2 ^ 32).toNat s t ∧ t.mem = s.mem)
      ∧ (f.rd = 0 → f.ra = 0 → f.fn = 0 → pcOk here = false →
        ∃ t, exec (.br c f) s = .next t ∧ Faulted c 2 k.pc (here % 2 ^ 32).toNat s t ∧ t.mem = s.mem))
    ∧ (∀ (f : FormA), AtDecode c f.pred [] [] s → f.resv ≠ 0 →
      ∃ t, exec (.add c f) s = .next t ∧ Faulted c 1 (s.core c).pc (wordA 0 0 f) s t ∧ t.mem = s.mem)
    ∧ (AtDecode c 0 [] [] s → fetchAhead c s = s → let w := bufferedWord (s.core c)
      (treikDecode c w = none → Faulted c 1 (s.core c).pc w s (sequence c s) ∧ (sequence c s).mem = s.mem)
      ∧ ∀ i t, treikDecode c w = some i → exec i s = .next t → sequence c s = t)
    ∧ (∀ w : Nat, slice w 63 60 = 12 ∨ slice w 63 60 = 13 ∨ slice w 63 60 = 14 → treikDecode c w = none)
    ∧ (∀ f : FormA, treikDecode c (wordA 0 0 f) = some (.add c f) ∧ treikDecode c (wordA 2 2 f) = some (.mulq c f) ∧ treikDecode c (wordA 8 5 f) = some (.cmpLeu c f))
    ∧ (∀ f : FormI, treikDecode c (wordI 2 0 f.fn.toNat f) = some (.br c f) ∧ treikDecode c (wordI 3 6 f.fn.toNat f) = some (.ldd c f)
      ∧ treikDecode c (wordI 15 3 f.fn.toNat f) = some (.svr c f) ∧ (f.fn = 0 → treikDecode c (wordI 1 0 0 f) = some (.addi c f)))
    ∧ (∀ f : FormG, treikDecode c (wordG 0 f) = some (.rsig c f)) ∧ (∀ f : FormT, treikDecode c (wordT 0 f) = some (.tset c f))
    ∧ (∀ f : FormD, treikDecode c (wordD 3 f) = some (.dsct c f)) ∧ (∀ f : FormX, treikDecode c (wordX 1 f) = some (.amm c f))
    ∧ (∀ f : FormV, treikDecode c (wordV 7 1 2 f) = some (.vmac c f) ∧ treikDecode c (wordV 8 3 0 f) = some (.vexp c f) ∧ treikDecode c (wordV 10 1 0 f) = some (.tlu c f))
    ∧ ∀ f : FormQ, treikDecode c (wordQ 0 f) = some (.qdrn c f)

/-- An instruction whose predicate is false is skipped, one whose register is awaited is held, and a stopped core does nothing (05_crown_isa_control.md). -/
def Obligations.SkippedOrHeld : Prop :=
  ∀ (c : Fin 6) (s : State),
    (∀ (f : FormA), AtDecode c f.pred [] [] s → f.resv = 0 → f.rc = 0 → f.pred ≠ 0 →
      (Chosen c f.pred (!f.pn) s → Flows c s → exec (.add c f) s = .next (s.setCore c (stepped (s.core c))))
      ∧ (∀ r, Chosen c f.pred f.pn s → r ∈ [f.rd, f.ra, f.rb] → r ≠ 0 → r.toNat ∈ (s.core c).pendS → exec (.add c f) s = .next s))
    ∧ (∀ (f : FormI), AtDecode c f.pred [] [] s → f.pred ≠ 0 →
      (Chosen c f.pred (!f.pn) s → Flows c s → exec (.addi c f) s = .next (s.setCore c (stepped (s.core c))))
      ∧ (f.rd = 0 → f.ra = 0 → f.fn = 0 → Chosen c f.pred (!f.pn) s → Flows c s → exec (.br c f) s = .next (s.setCore c (stepped (s.core c)))))
    ∧ ∀ (f : FormA) (g : FormI), (coreRuns s c = false ∨ (s.core c).halted = true ∨ (s.core c).ended = true) →
      exec (.add c f) s = .next s ∧ exec (.addi c g) s = .next s ∧ exec (.br c g) s = .next s

/-- RSIG, RSIGV, RWAIT, RWAITS, RRD, RTEST and RSIGD complete as R117 says (05_crown_isa_control.md). -/
def Obligations.RingInstructions : Prop :=
  ∀ (c : Fin 6) (f : FormG) (s : State), AtDecode c f.pred [f.rd.toNat, f.ra.toNat] [f.rd.toNat] s → Chosen c f.pred f.pn s → Flows c s →
    f.resv = 0 → f.q = 0 → f.g = false → f.core = 7 → f.ring.toNat < 256 →
    let a := (s.core c).sreg f.ra.toNat
    let tgt : Nat := ((a + f.imm.toInt) % 2 ^ 32).toNat
    let v : Nat := ringVal s (c.val * 1024 + f.ring.toNat)
    (Room c .sync s → f.rd = 0 → f.ra = 0 → f.imm ≠ 0 →
      exec (.rsig c f) s = .next (queued c .sync (.rsig c f) (wordG 0 f) f.imm.toNat 0 0 0 s))
    ∧ (Room c .sync s → f.rd = 0 → f.imm = 0 → 0 ≤ a → a ≤ 65535 →
      exec (.rsigv c f) s = .next (queued c .sync (.rsigv c f) (wordG 1 f) a 0 0 0 s))
    ∧ (Room c .sync s → f.rd = 0 → exec (.rwait c f) s = .next (queued c .sync (.rwait c f) (wordG 2 f) tgt 0 0 0 s))
    ∧ (f.rd = 0 → reached v tgt = true → exec (.rwaits c f) s = .next (s.setCore c (stepped (s.core c))))
    ∧ (f.rd = 0 → reached v tgt = false →
      exec (.rwaits c f) s = .next (s.setCore c { s.core c with seqWait := some (c.val * 1024 + f.ring.toNat, tgt), heldWord := wordG 3 f }))
    ∧ (f.ra = 0 → f.imm = 0 → exec (.rrd c f) s = .next (scalarDone c f.rd (v, fNone) s))
    ∧ (f.rd.toNat < 8 → exec (.rtest c f) s = .next (predDone c f.rd (reached v tgt) s))
    ∧ ∀ g : FormG, AtDecode c g.pred [g.ra.toNat] [] s → Chosen c g.pred g.pn s → g.resv = 0 → g.q = 0 → g.rd = 0 → g.imm ≠ 0 →
      g.g = false → g.core.toNat < 6 → g.ring.toNat < 256 → Room c .sync s →
      exec (.rsigd c g) s = .next (queued c .sync (.rsigd c g) (wordG 6 g) ((s.core c).sreg g.ra.toNat) g.imm.toNat 0 0 s)

/-- A ring has reached a target when it is at most 2^31 - 1 ahead of it modulo 2^32 (05_crown_isa_control.md). -/
def Obligations.RingReached : Prop :=
  (∀ v t : Nat, v < 2 ^ 32 → t < 2 ^ 32 → (reached v t = true ↔ ((v : Int) - t) % 2 ^ 32 < 2 ^ 31))
  ∧ (∀ v : Nat, reached v v = true) ∧ (∀ v : Nat, v < 2 ^ 32 → reached v ((v + 1) % 2 ^ 32) = false)

/-- TSET, TGET, TLD, TADV, TSUB and TCPY complete with their descriptor (05_crown_isa_control.md, 06_crown_isa_tensor.md). -/
def Obligations.TileInstructions : Prop :=
  ∀ (c : Fin 6) (f : FormT) (s : State), Ready c f.pred f.pn [f.rd.toNat, f.ra.toNat, f.rb.toNat] [] s →
    let k := s.core c
    let a := k.sreg f.ra.toNat
    let b := k.sreg f.rb.toNat
    let t := k.treg f.ra.toNat
    let put (x : Tile) : State := s.setCore c (stepped (k.setT f.rd.toNat x))
    (f.fn = 0 → f.imm = 0 →
      let x : Tile := BitVec.ofNat 128 ((a % 2 ^ 64).toNat + (b % 2 ^ 64).toNat * 2 ^ 64)
      x.valid = true → exec (.tset c f) s = .next (put x))
    ∧ (f.rb = 0 → f.imm = 0 → (f.fn = 0 → exec (.tget c f) s = .next (scalarDone c f.rd (wrap (t.toNat % 2 ^ 64) 64, fNone) s))
      ∧ (f.fn = 1 → exec (.tget c f) s = .next (scalarDone c f.rd (wrap (t.toNat / 2 ^ 64) 64, fNone) s)))
    ∧ (f.rb = 0 → f.fn = 0 → Aligned (a + f.imm.toInt) 16 → Sound c (a + f.imm.toInt).toNat 16 s →
      let x : Tile := BitVec.ofNat 128 (s.rdN (spBase c + (a + f.imm.toInt).toNat) 16)
      x.valid = true → exec (.tld c f) s = .next (put x))
    ∧ (f.fn = 0 → 0 ≤ t.base + b + f.imm.toInt → t.base + b + f.imm.toInt < 0x1800000 →
      let x := t.withBaseRows (t.base + b + f.imm.toInt).toNat (t.rows - 1)
      x.valid = true → exec (.tadv c f) s = .next (put x))
    ∧ (f.fn = 0 → 0 ≤ b → t.base + t.stride * b < 0x1800000 → 1 ≤ f.imm.toInt → f.imm.toInt ≤ 65536 →
      let x := t.withBaseRows (t.base + t.stride * b).toNat (f.imm.toInt - 1).toNat
      x.valid = true → exec (.tsub c f) s = .next (put x))
    ∧ (f.rb = 0 → f.fn = 0 → f.imm = 0 → t.valid = true → exec (.tcpy c f) s = .next (put t))

/-- FFLUSH, FLAGRD, FLAGCLR and SVR complete as R123 to R125 say (05_crown_isa_control.md). -/
def Obligations.SystemInstructions : Prop :=
  ∀ (c : Fin 6) (f : FormI) (s : State), Ready c f.pred f.pn [f.rd.toNat] [] s → f.ra = 0 → f.fn = 0 →
    let x := F.CRN_FLAGS_SAT_DZ_ACCF_SCLR c
    (f.rd = 0 → f.imm = 0 → exec (.fflush c f) s = .next (s.setCore c (stepped { s.core c with fbuf := [] })))
    ∧ (f.imm = 0 → exec (.flagrd c f) s = .next (scalarDone c f.rd (s.fld x, fNone) s))
    ∧ (f.rd = 0 → f.imm.toNat < 16 →
      exec (.flagclr c f) s = .next ((s.put x (s.fld x &&& (15 - f.imm.toNat))).setCore c (stepped (s.core c))))
    ∧ (f.imm = 0 → exec (.svr c f) s = .next (scalarDone c f.rd (c.val, fNone) s))
    ∧ (f.imm = 1 → exec (.svr c f) s = .next (scalarDone c f.rd (s.fld (F.CRN_STATE_CTX c), fNone) s))
    ∧ (f.imm = 5 → exec (.svr c f) s = .next (scalarDone c f.rd (s.fld F.SYS_STRICT_STRICT, fNone) s))
    ∧ (f.imm = 7 → exec (.svr c f) s = .next (scalarDone c f.rd (0x1800000, fNone) s))

/-- Every vector, mask and table instruction of classes 0x7, 0x8 and 0xA issues into the TWIG queue with its operands captured (06_crown_isa_tensor.md, 05_crown_isa_control.md). -/
def Obligations.VectorIssue : Prop :=
  ∀ (c : Fin 6) (f : FormV) (s : State), AtDecode c f.pred [f.rs.toNat] [f.imm.toNat] s → Chosen c f.pred f.pn s → Flows c s → Room c .twig s →
    let x := (s.core c).sreg f.rs.toNat
    let t : Tile := (s.core c).treg f.vb.toNat
    let q (i : Instr) (w : Nat) (t0 : BitVec 128) : State := queued c .twig i w x 0 t0 0 s
    (f.vc = 0 → f.rs = 0 → (f.me = false → f.vm = 0) → f.imm = 0 →
        exec (.vadd c f) s = .next (q (.vadd c f) (wordV 7 0 0 f) 0)
        ∧ exec (.vaddm c f) s = .next (q (.vaddm c f) (wordV 7 0 1 f) 0)
        ∧ exec (.vsub c f) s = .next (q (.vsub c f) (wordV 7 0 2 f) 0)
        ∧ exec (.vsubm c f) s = .next (q (.vsubm c f) (wordV 7 0 3 f) 0)
        ∧ exec (.vmin c f) s = .next (q (.vmin c f) (wordV 7 0 4 f) 0)
        ∧ exec (.vmax c f) s = .next (q (.vmax c f) (wordV 7 0 5 f) 0)
        ∧ exec (.vand c f) s = .next (q (.vand c f) (wordV 7 0 8 f) 0)
        ∧ exec (.vor c f) s = .next (q (.vor c f) (wordV 7 0 9 f) 0)
        ∧ exec (.vxor c f) s = .next (q (.vxor c f) (wordV 7 0 10 f) 0)
        ∧ exec (.vandn c f) s = .next (q (.vandn c f) (wordV 7 0 11 f) 0)
        ∧ exec (.vmul c f) s = .next (q (.vmul c f) (wordV 7 1 0 f) 0)
        ∧ exec (.vresc c f) s = .next (q (.vresc c f) (wordV 7 1 3 f) 0)
        ∧ exec (.vsll c f) s = .next (q (.vsll c f) (wordV 7 2 0 f) 0)
        ∧ exec (.vsrl c f) s = .next (q (.vsrl c f) (wordV 7 2 1 f) 0)
        ∧ exec (.vsra c f) s = .next (q (.vsra c f) (wordV 7 2 2 f) 0)
        ∧ exec (.vsls c f) s = .next (q (.vsls c f) (wordV 7 2 3 f) 0)
        ∧ exec (.vsrr c f) s = .next (q (.vsrr c f) (wordV 7 2 4 f) 0)
        ∧ exec (.vcmpEq c f) s = .next (q (.vcmpEq c f) (wordV 7 3 0 f) 0)
        ∧ exec (.vcmpNe c f) s = .next (q (.vcmpNe c f) (wordV 7 3 1 f) 0)
        ∧ exec (.vcmpLt c f) s = .next (q (.vcmpLt c f) (wordV 7 3 2 f) 0)
        ∧ exec (.vcmpLe c f) s = .next (q (.vcmpLe c f) (wordV 7 3 3 f) 0)
        ∧ exec (.vrdiv c f) s = .next (q (.vrdiv c f) (wordV 7 7 0 f) 0)
        ∧ exec (.vqdiv c f) s = .next (q (.vqdiv c f) (wordV 7 7 1 f) 0)
        ∧ exec (.vqrem c f) s = .next (q (.vqrem c f) (wordV 7 7 2 f) 0))
    ∧ (f.vb = 0 → f.vc = 0 → f.rs = 0 → (f.me = false → f.vm = 0) → f.imm = 0 →
        exec (.vneg c f) s = .next (q (.vneg c f) (wordV 7 0 6 f) 0)
        ∧ exec (.vabs c f) s = .next (q (.vabs c f) (wordV 7 0 7 f) 0)
        ∧ exec (.vmov c f) s = .next (q (.vmov c f) (wordV 7 4 0 f) 0)
        ∧ exec (.vrsq c f) s = .next (q (.vrsq c f) (wordV 7 7 3 f) 0))
    ∧ (f.vc = 0 → f.rs = 0 → (f.me = false → f.vm = 0) → f.imm.toNat < 64 →
        exec (.vmulq c f) s = .next (q (.vmulq c f) (wordV 7 1 1 f) 0))
    ∧ (f.rs = 0 → (f.me = false → f.vm = 0) → f.imm.toNat < 64 →
        exec (.vmac c f) s = .next (q (.vmac c f) (wordV 7 1 2 f) 0))
    ∧ (f.vb = 0 → f.vc = 0 → f.rs = 0 → (f.me = false → f.vm = 0) → f.imm.toNat < 256 →
        exec (.vslli c f) s = .next (q (.vslli c f) (wordV 7 2 8 f) 0)
        ∧ exec (.vsrli c f) s = .next (q (.vsrli c f) (wordV 7 2 9 f) 0)
        ∧ exec (.vsrai c f) s = .next (q (.vsrai c f) (wordV 7 2 10 f) 0)
        ∧ exec (.vslsi c f) s = .next (q (.vslsi c f) (wordV 7 2 11 f) 0)
        ∧ exec (.vsrri c f) s = .next (q (.vsrri c f) (wordV 7 2 12 f) 0))
    ∧ (f.vb = 0 → f.vc = 0 → f.rs = 0 → (f.me = false → f.vm = 0) → 1 ≤ f.imm.toNat → f.imm.toNat ≤ 32 →
        exec (.vsat c f) s = .next (q (.vsat c f) (wordV 7 2 16 f) 0)
        ∧ exec (.vusat c f) s = .next (q (.vusat c f) (wordV 7 2 17 f) 0))
    ∧ (f.rs = 0 → (f.me = false → f.vm = 0) → f.imm = 0 →
        exec (.vsel c f) s = .next (q (.vsel c f) (wordV 7 3 4 f) 0))
    ∧ (f.va = 0 → f.vb = 0 → f.vc = 0 → (f.me = false → f.vm = 0) → f.imm = 0 →
        exec (.vbcs c f) s = .next (q (.vbcs c f) (wordV 7 4 1 f) 0)
        ∧ exec (.vidx c f) s = .next (q (.vidx c f) (wordV 7 4 3 f) 0))
    ∧ (f.vb = 0 → f.vc = 0 → (f.me = false → f.vm = 0) → f.imm = 0 →
        exec (.vbcl c f) s = .next (q (.vbcl c f) (wordV 7 4 2 f) 0)
        ∧ exec (.vrsum c f) s = .next (q (.vrsum c f) (wordV 7 5 0 f) 0)
        ∧ exec (.vrmax c f) s = .next (q (.vrmax c f) (wordV 7 5 1 f) 0)
        ∧ exec (.vrmin c f) s = .next (q (.vrmin c f) (wordV 7 5 2 f) 0)
        ∧ exec (.vramax c f) s = .next (q (.vramax c f) (wordV 7 5 3 f) 0)
        ∧ exec (.vrarg c f) s = .next (q (.vrarg c f) (wordV 7 5 4 f) 0))
    ∧ (f.va = 0 → f.vb = 0 → f.vc = 0 → f.me = false → f.vm = 0 → f.imm.toNat < 512 →
        exec (.vins c f) s = .next (q (.vins c f) (wordV 7 4 4 f) 0))
    ∧ (f.va = 0 → f.vc = 0 → f.vb.toNat < 32 → (f.me = false → f.vm = 0) → t.fmt ≠ 7 → 512 * (f.imm.toNat + 1) * fmtBits t.fmt / 8 ≤ t.len → 0 ≤ x → x < t.rows →
        exec (.vld c f) s = .next (q (.vld c f) (wordV 7 6 0 f) t))
    ∧ (f.va = 0 → f.vb = 0 → f.vc = 0 → (f.me = false → f.vm = 0) → f.imm = 0 → 0 ≤ x → x ≤ 1023 →
        exec (.vacr c f) s = .next (q (.vacr c f) (wordV 7 6 2 f) 0))
    ∧ (f.vd = 0 → f.vb = 0 → f.vc = 0 → (f.me = false → f.vm = 0) → f.imm = 0 → 0 ≤ x → x ≤ 1023 →
        exec (.vacw c f) s = .next (q (.vacw c f) (wordV 7 6 3 f) 0))
    ∧ (f.vc = 0 → (f.me = false → f.vm = 0) → f.imm = 0 →
        exec (.vmkc c f) s = .next (q (.vmkc c f) (wordV 8 0 0 f) 0)
        ∧ exec (.vmks c f) s = .next (q (.vmks c f) (wordV 8 1 0 f) 0))
    ∧ (f.va = 0 → f.vc = 0 → (f.me = false → f.vm = 0) → f.imm = 0 →
        exec (.vmkcm c f) s = .next (q (.vmkcm c f) (wordV 8 0 1 f) 0)
        ∧ exec (.vmksm c f) s = .next (q (.vmksm c f) (wordV 8 1 1 f) 0))
    ∧ (f.vb = 0 → f.vc = 0 → f.rs = 0 → (f.me = false → f.vm = 0) → f.imm.toNat < 8 →
        exec (.vexp c f) s = .next (q (.vexp c f) (wordV 8 3 0 f) 0))
    ∧ (f.rs = 0 → f.me = false → f.vm = 0 → f.imm = 0 →
        exec (.vroti c f) s = .next (q (.vroti c f) (wordV 8 4 0 f) 0))
    ∧ (f.rs = 0 → f.me = false → f.vm = 0 → f.imm.toNat < 2 →
        exec (.vrots c f) s = .next (q (.vrots c f) (wordV 8 4 1 f) 0))
    ∧ (f.vd = 0 → f.va = 0 → f.vc = 0 → f.vb.toNat < 32 → f.me = false → f.vm = 0 → f.imm.toNat < 8 → (t.fmt = 4 ∨ t.fmt = 5) → 512 ≤ t.len → 0 ≤ x → x < t.rows →
        exec (.tldTable c f) s = .next (q (.tldTable c f) (wordV 10 0 0 f) t))
    ∧ (f.vb = 0 → f.vc = 0 → (f.me = false → f.vm = 0) → f.imm.toNat < 256 →
        exec (.tlu c f) s = .next (q (.tlu c f) (wordV 10 1 0 f) 0)
        ∧ exec (.tli c f) s = .next (q (.tli c f) (wordV 10 2 0 f) 0))
    ∧ (f.vd = 0 → f.vc = 0 → f.vb.toNat < 32 → (f.me = false → f.vm = 0) → (f.me = true → t.fmt ≠ 2 ∧ t.fmt ≠ 3) → t.fmt ≠ 7 →
        512 * (f.imm.toNat + 1) * fmtBits t.fmt / 8 ≤ t.len → 0 ≤ x → x < t.rows →
        exec (.vst c f) s = .next (q (.vst c f) (wordV 7 6 1 f) t))
    ∧ (f.vd = 0 → f.vb = 0 → f.vc = 0 → f.me = false → f.vm = 0 → f.imm.toNat < 512 →
        let u := queued c .twig (.vext c f) (wordV 7 4 5 f) 0 0 0 0 s
        exec (.vext c f) s = .next (u.setCore c { u.core c with pendS := (s.core c).pendS ++ [f.rs.toNat] }))
    ∧ (f.vd = 0 → f.vb = 0 → f.vc = 0 → f.rs = 0 → (f.me = false → f.vm = 0) → 1 ≤ f.imm.toNat → f.imm.toNat < 8 →
        let u := queued c .twig (.vany c f) (wordV 8 2 0 f) 0 0 0 0 s
        exec (.vany c f) s = .next (u.setCore c { u.core c with pendP := (s.core c).pendP ++ [f.imm.toNat] }))

/-- Every array, DMA and quantise instruction of classes 0x5, 0x6 and 0x9 issues into its queue with its operands captured (06_crown_isa_tensor.md, 05_crown_isa_control.md). -/
def Obligations.TensorIssue : Prop :=
  ∀ (c : Fin 6) (s : State), Flows c s →
    (∀ (f : FormX), AtDecode c f.pred [f.ra.toNat] [] s → Chosen c f.pred f.pn s → Room c .array s → f.mode ≠ 3 → f.resv = 0 →
      let k := s.core c
      let a := k.sreg f.ra.toNat
      let ta : Tile := k.treg f.ta.toNat
      let tb : Tile := k.treg f.tb.toNat
      let m := f.mode.toNat
      (f.ra = 0 → f.acc = false → f.swp = false → f.tb = 0 → weightOk ta m = true → ta.rows = tileRows m f.grp →
        exec (.awld c f) s = .next (queued c .array (.awld c f) (wordX 0 f) 0 0 ta 0 s))
      ∧ (f.tb = 0 → actOk ta m = true → sliceBytes m f.grp ≤ ta.len → 0 ≤ a → a + ta.rows ≤ 1024 →
        exec (.amm c f) s = .next (queued c .array (.amm c f) (wordX 1 f) a 0 ta 0 s))
      ∧ (f.swp = false → actOk ta m = true → weightOk tb m = true → tb.rows % tileRows m f.grp = 0 → tb.rows / tileRows m f.grp ≤ 64 →
        tb.rows / tileRows m f.grp * sliceBytes m f.grp ≤ ta.len → 0 ≤ a → a + ta.rows ≤ 1024 →
        exec (.ammc c f) s = .next (queued c .array (.ammc c f) (wordX 2 f) a 0 ta tb s)))
    ∧ (∀ (f : FormD), AtDecode c f.pred [f.ra.toNat, f.rb.toNat] [] s → Chosen c f.pred f.pn s → Room c .dma s → f.resv = 0 → f.burl = 0 →
      let k := s.core c
      let a := k.sreg f.ra.toNat
      let p := k.sreg f.rb.toNat
      let t : Tile := k.treg f.td.toNat
      let q (i : Instr) (op : Nat) : State := queued c .dma i (wordD op f) a p t 0 s
      (0 ≤ a → 0 ≤ p → a + (t.rows - 1) * p + t.len ≤ 2 ^ 48 →
        exec (.dld c f) s = .next (q (.dld c f) 0) ∧ exec (.dst c f) s = .next (q (.dst c f) 1))
      ∧ (f.rb = 0 → 0 ≤ a → a % 8 = 0 → a + 8 * t.rows ≤ 0x1800000 →
        exec (.dgth c f) s = .next (q (.dgth c f) 2) ∧ exec (.dsct c f) s = .next (q (.dsct c f) 3))
      ∧ (f.rb = 0 → t.fmt = 7 → 4096 ≤ t.len → 0 ≤ a → a + t.rows ≤ 1024 →
        exec (.dacl c f) s = .next (q (.dacl c f) 4) ∧ exec (.dacs c f) s = .next (q (.dacs c f) 5))
      ∧ (f.ra = 0 → f.rb = 0 → exec (.dzro c f) s = .next (q (.dzro c f) 6)))
    ∧ ∀ (f : FormQ), AtDecode c f.pred [f.rs.toNat] [] s → Chosen c f.pred f.pn s → Room c .twig s →
      let k := s.core c
      let x := k.sreg f.rs.toNat
      let t : Tile := k.treg f.td.toNat
      let q (i : Instr) (op : Nat) : State := queued c .twig i (wordQ op f) x 0 t 0 s
      (f.vd = 0 → f.vr.toNat ≤ 58 → f.mod.toNat % 16 = 0 → (f.wr = true → outShape f t = true) → (x % 1024).toNat + t.rows ≤ 1024 →
        exec (.qdrn c f) s = .next (q (.qdrn c f) 0))
      ∧ (f.td = 0 → f.vr.toNat ≤ 58 → f.mod.toNat % 8 = 0 → f.wr = false → f.mx = false → f.rsum = false →
        exec (.qdq c f) s = .next (q (.qdq c f) 1))
      ∧ (f.vd = 0 → f.vb = 0 → f.vc = 0 → f.vr.toNat ≤ 58 → f.ow ≠ 0 → f.mod.toNat % 16 = 0 → f.wr = false → f.za = false → f.zw = false →
        f.oq = false → outShape f t = true → (x % 65536).toNat < t.rows → exec (.qnt c f) s = .next (q (.qnt c f) 2))
      ∧ (f.td = 0 → f.vb = 0 → f.vc = 0 → f.vr = 0 → f.rs = 0 → f.vd.toNat ≤ 62 → (f.ow = 2 ∨ f.ow = 3) → f.mod.toNat < 64 →
        exec (.qscl c f) s = .next (q (.qscl c f) 3))

/-- TWIG_ISSUE of a lane instruction writes the result of every active lane and no other lane (04_crown_core.md, 06_crown_isa_tensor.md). -/
def Obligations.TwigLanes : Prop :=
  ∀ (c d : Fin 6) (f : FormV) (s : State) (e : QEntry) (rest : List QEntry), engineRuns s c = true → (s.core c).qTwig = e :: rest →
    let go (i : Instr) (g : Nat → Int → Int → Int → Res) : Prop :=
      e.op = i → ∃ t, exec (.twigIssue c) s = .next t ∧ LanesWritten c f g s t ∧ (t.core c).qTwig = rest
    go (.vadd d f) (fun _ a b _ => sat (a + b) 32)
    ∧ go (.vaddm d f) (fun _ a b _ => (wrap (a + b) 32, fNone))
    ∧ go (.vsub d f) (fun _ a b _ => sat (a - b) 32)
    ∧ go (.vsubm d f) (fun _ a b _ => (wrap (a - b) 32, fNone))
    ∧ go (.vmin d f) (fun _ a b _ => (min a b, fNone))
    ∧ go (.vmax d f) (fun _ a b _ => (max a b, fNone))
    ∧ go (.vneg d f) (fun _ a _ _ => sat (-a) 32)
    ∧ go (.vabs d f) (fun _ a _ _ => absS a 32)
    ∧ go (.vmul d f) (fun _ a b _ => sat (a * b) 32)
    ∧ go (.vmulq d f) (fun _ a b _ => sat (rne (a * b) f.imm.toNat) 32)
    ∧ go (.vmac d f) (fun _ a b x => sat (x + rne (a * b) f.imm.toNat) 32)
    ∧ go (.vsll d f) (fun _ a b _ => (lsl a (b % 256).toNat 32, fNone))
    ∧ go (.vsra d f) (fun _ a b _ => (asr a (b % 256).toNat, fNone))
    ∧ go (.vsrr d f) (fun _ a b _ => srshift a (b % 256).toNat 32)
    ∧ go (.vslsi d f) (fun _ a _ _ => ssl a f.imm.toNat 32)
    ∧ go (.vsrri d f) (fun _ a _ _ => srshift a f.imm.toNat 32)
    ∧ go (.vsat d f) (fun _ a _ _ => sat a f.imm.toNat)
    ∧ go (.vusat d f) (fun _ a _ _ => usat a f.imm.toNat)
    ∧ go (.vcmpLt d f) (fun _ a b _ => (if a < b then 1 else 0, fNone))
    ∧ go (.vcmpEq d f) (fun _ a b _ => (if a = b then 1 else 0, fNone))
    ∧ go (.vsel d f) (fun _ a b x => (if x % 2 = 1 then a else b, fNone))
    ∧ go (.vmov d f) (fun _ a _ _ => (a, fNone))
    ∧ go (.vrdiv d f) (fun _ a b _ => rdiv a b 32)
    ∧ go (.vqdiv d f) (fun _ a b _ => qdiv a b 32)
    ∧ go (.vqrem d f) (fun _ a b _ => qrem a b 32)
    ∧ go (.vrsq d f) (fun _ a _ _ => vrsq a)
    ∧ go (.vbcs d f) (fun _ _ _ _ => sat e.x 32)
    ∧ go (.vidx d f) (fun j _ _ _ => sat (e.x + j) 32)
    ∧ go (.vmkc d f) (fun _ a b _ => (if b ≤ e.x then a else -2147483648, fNone))
    ∧ go (.vmkcm d f) (fun _ _ b _ => (if b ≤ e.x then 1 else 0, fNone))

/-- TWIG_ISSUE of VEXT, VINS, VANY and VRSUM writes exactly its scalar, predicate or lane (04_crown_core.md, 06_crown_isa_tensor.md). -/
def Obligations.LaneReductions : Prop :=
  ∀ (c d : Fin 6) (f : FormV) (s : State) (e : QEntry) (rest : List QEntry), engineRuns s c = true → (s.core c).qTwig = e :: rest →
    (e.op = .vext d f → f.imm.toNat < 512 → ∃ t, exec (.twigIssue c) s = .next t ∧
      (t.core c).sreg f.rs.toNat = (if f.rs = 0 then 0 else (laneAt s c f.va f.imm.toNat).toInt) ∧ (t.core c).v = (s.core c).v ∧ t.regs = s.regs ∧ t.mem = s.mem)
    ∧ (e.op = .vins d f → f.imm.toNat < 512 → ∃ t, exec (.twigIssue c) s = .next t ∧
      laneAt t c f.vd f.imm.toNat = BitVec.ofInt 32 (sat e.x 32).1 ∧ (∀ r j, j < 512 → (r ≠ f.vd ∨ j ≠ f.imm.toNat) → laneAt t c r j = laneAt s c r j) ∧ t.mem = s.mem)
    ∧ (e.op = .vany d f → f.imm.toNat < 8 → ∃ t, exec (.twigIssue c) s = .next t ∧
      ((t.core c).preg f.imm.toNat = true ↔ f.imm = 0 ∨ ∃ j, j < 512 ∧ laneOn s c f j = true ∧ (laneAt s c f.va j).getLsbD 0 = true)
      ∧ (t.core c).v = (s.core c).v ∧ t.regs = s.regs ∧ t.mem = s.mem)
    ∧ (e.op = .vrsum d f → ∃ t, exec (.twigIssue c) s = .next t ∧
      laneAt t c f.vd (e.x % 512).toNat = BitVec.ofInt 32
        (sat (((List.range 512).map fun j => if laneOn s c f j then (laneAt s c f.va j).toInt else 0).sum) 32).1
      ∧ (∀ r j, j < 512 → (r ≠ f.vd ∨ j ≠ (e.x % 512).toNat) → laneAt t c r j = laneAt s c r j) ∧ t.mem = s.mem)

/-- A 36-bit accumulator element adds exactly until it reaches a rail, and then stays there (R66). -/
def Obligations.AccumulatorFreezes : Prop :=
  (∀ v p : Int, smin 36 < v → v < smax 36 → smin 36 < v + p → v + p < smax 36 → accadd v p = (v + p, fNone))
  ∧ (∀ v p : Int, smin 36 < v → v < smax 36 → smax 36 ≤ v + p → accadd v p = (smax 36, fAccf))
  ∧ (∀ v p : Int, smin 36 < v → v < smax 36 → v + p ≤ smin 36 → accadd v p = (smin 36, fAccf))
  ∧ (∀ v p : Int, accFrozen v = true → accadd v p = (v, fNone))
  ∧ (∀ (v : Int) (ps : List Int), accFrozen v = true → ps.foldl (fun t p => (accadd t p).1) v = v)
  ∧ (∀ (w : Nat) (f : Int → Res), throughFreeze (smax 36) w f = (smax w, fSat) ∧ throughFreeze (smin 36) w f = (smin w, fSat))
  ∧ ∀ d ∈ [((128 : Int), (128 : Int), 2 ^ 21), (128, 8, 2 ^ 25), (8, 8, 2 ^ 29)], ∀ l : List (Int × Int), l.length ≤ d.2.2 →
    (∀ x ∈ l, -d.1 ≤ x.1 ∧ x.1 < d.1 ∧ -d.2.1 ≤ x.2 ∧ x.2 < d.2.1) →
    let v := l.foldl (fun t x => (accadd t (x.1 * x.2)).1) 0
    (l.length < d.2.2 ∨ (∃ x ∈ l, x ≠ (-d.1, -d.2.1)) → smin 36 < v ∧ v < smax 36 ∧ v = (l.map fun x => x.1 * x.2).sum)
    ∧ (l.length = d.2.2 → (∀ x ∈ l, x = (-d.1, -d.2.1)) → v = smax 36)

/-- A partial sum of the array is the exact dot product of a column of weights and the activations (04_crown_core.md, 06_crown_isa_tensor.md). -/
def Obligations.PartialSumIsExact : Prop :=
  ∀ (w : Sparse (BitVec 8)) (a : Array Int) (j : Nat), j < 512 → spWf (fun _ => (0 : BitVec 8)) w = true → (∀ e ∈ w, e.1 < 512 * 512) →
    psum w a j = ((List.range 512).map fun k => (spGet 0 w (512 * k + j)).toInt * a.getD k 0).sum

/-- ARRAY_DISPATCH, DMA_TAKE, SHADOW_LOAD_COMPLETE, INSTRUCTION_RETIRE and JOB_END_REPORT complete on a running core (04_crown_core.md, 06_crown_isa_tensor.md). -/
def Obligations.EngineCommands : Prop :=
  ∀ (c d : Fin 6) (s : State) (e : QEntry) (rest : List QEntry), engineRuns s c = true →
    let k := s.core c
    (∀ f, k.qArray = e :: rest → e.op = .awld d f → k.flArray = [] →
      exec (.arrayDispatch c) s = .next (s.setCore c { k with qArray := rest, flArray := [e], shadowSt := .loading }))
    ∧ (∀ f codes, k.flArray = [e] → e.op = .awld d f → e.seen = false → loadCodes c e.t0 0 (List.range (Tile.rows e.t0)) [] s = (some codes, s) →
      exec (.shadowLoadComplete c) s = .next (s.setCore c
        { k with shadow := ⟨f.mode.toNat, f.grp, codes⟩, shadowSt := .ready, flArray := [{ e with seen := true }] }))
    ∧ (∀ f, k.qDma = [e] → e.op = .dzro d f → k.flDma = [] → Tile.rows e.t0 = 1 → Tile.base e.t0 + Tile.len e.t0 ≤ 0x1800000 →
      Sound c (Tile.base e.t0) (Tile.len e.t0) s →
      exec (.dmaTake c f.eng) s = .next
        ((s.setCore c { k with qDma := [], flDma := [e] }).wrBytes (spBase c + Tile.base e.t0) (List.replicate (Tile.len e.t0) 0)))
    ∧ (∀ f, k.flTwig = [e] → e.op = .vadd d f → k.qTwig = [] →
      exec (.instructionRetire c .twig) s = .next (s.setCore c { k with flTwig := [] }))
    ∧ (k.ended = true → k.qDma = [] → k.qArray = [] → k.qTwig = [] → k.qSync = [] → k.flDma = [] → k.flArray = [] → k.flTwig = [] →
      exec (.jobEndReport c) s = .next (s.setSched { s.sched with jobs := s.sched.jobs.map fun j =>
        if (j.dispatched && j.cores.contains (c : Nat) && !(j.ended.contains (c : Nat))) = true then { j with ended := j.ended ++ [c.val] } else j }))

/-- SYNC_QUEUE_HEAD, RING_SIGNAL_APPLY and RING_WAIT_SATISFIED complete: a signal adds its increment to its ring, a reached wait goes on (13_growth_rings.md, 05_crown_isa_control.md, 04_crown_core.md). -/
def Obligations.RingCommands : Prop :=
  ∀ (c d : Fin 6) (s : State) (e : QEntry) (rest : List QEntry) (f : FormG), engineRuns s c = true →
    let k := s.core c
    (k.qSync = e :: rest → e.op = .rsig d f → f.g = false → f.core = 7 → e.x = f.imm.toNat →
      ∃ t, exec (.syncQueueHead c) s = .next t ∧ (t.core c).qSync = rest ∧ t.mem = s.mem
        ∧ t.reg (Reg.CRN_RING c (f.ring.toNat % 256)) = s.reg (Reg.CRN_RING c (f.ring.toNat % 256)) + BitVec.ofNat 32 f.imm.toNat
        ∧ ∀ o, o ≠ Reg.CRN_RING c (f.ring.toNat % 256) → t.reg o = s.reg o)
    ∧ (k.qSync = e :: rest → e.op = .rsig d f → f.g = false → f.core.toNat < 6 → f.core.toNat ≠ c.val → e.seen = false → 0 < e.x →
      exec (.syncQueueHead c) s = .next { s.setCore c { k with qSync := { e with seen := true } :: rest } with
        owed := s.owed ++ [⟨f.core.toNat * 1024 + f.ring.toNat % 256, coreCtxN s c, 0x10 + c.val, e.x.toNat, true, e.n⟩] })
    ∧ (∀ (ring : BitVec 13) (o : OwedSig), s.owed = [o] → o.ring = ring.toNat → o.ring / 1024 < 6 → o.ring % 1024 < 256 → o.sync = false →
      o.inc < 2 ^ 16 → barkPiece s o.oid o.ctx (regBase + ringSigReg o.ring) 4 true = none →
      ∃ t, exec (.ringSignalApply ring) s = .next t ∧ t.owed = [] ∧ t.mem = s.mem
        ∧ t.reg (Reg.CRN_RING (o.ring / 1024) (o.ring % 1024)) = s.reg (Reg.CRN_RING (o.ring / 1024) (o.ring % 1024)) + BitVec.ofNat 32 o.inc
        ∧ ∀ r, r ≠ Reg.CRN_RING (o.ring / 1024) (o.ring % 1024) → t.reg r = s.reg r)
    ∧ (∀ ring tgt, k.seqWait = some (ring, tgt) →
      (reached (ringVal s ring) tgt = true → Flows c s →
        exec (.ringWaitSatisfied (.decode c)) s = .next (s.setCore c (stepped { k with seqWait := none })))
      ∧ (reached (ringVal s ring) tgt = false → exec (.ringWaitSatisfied (.decode c)) s = .next s))

/-- A command of the scheduler, Heartwood, Cambium or a root link reaches its action when its write is admitted (02_address_map_registers.md, 12_jobs_scheduling.md, 15_heartwood_safety.md, 16_cambium_control.md, 17_root_links.md). -/
def Obligations.SchedulerAndSafetyCommandsObeyed : Prop :=
  (∀ (oid : BitVec 10) (ctx : BitVec 6) (n : Fin 64) (s : State), Admitted oid ctx (Reg.SCH_CTX_CMD n) s → oid.toNat ≤ 1 →
      exec (.teardown oid ctx n) s = .next (obeyed oid (ctxCmdWritten n 1 s)))
  ∧ (∀ (oid : BitVec 10) (ctx : BitVec 6) (n : Fin 64) (s : State), Admitted oid ctx (Reg.SCH_CTX_CMD n) s → oid.toNat ≤ 1 →
      exec (.contextAck oid ctx n) s = .next (obeyed oid (ctxCmdWritten n 2 s)))
  ∧ (∀ (oid : BitVec 10) (ctx : BitVec 6) (n : Fin 64) (s : State), Admitted oid ctx (Reg.SCH_CTX_CMD n) s → oid.toNat ≤ 1 →
      exec (.vtreset oid ctx n) s = .next (obeyed oid (ctxCmdWritten n 4 s)))
  ∧ (∀ (oid : BitVec 10) (ctx : BitVec 6) (n : Fin 7) (s : State), Admitted oid ctx (Reg.SCH_UNITCMD) s → oid.toNat ≤ 1 →
      exec (.unitRetire oid ctx n) s = .next (obeyed oid (retireUnit n s)))
  ∧ (∀ (oid : BitVec 10) (ctx : BitVec 6) (n : Fin 7) (s : State), Admitted oid ctx (Reg.SCH_UNITCMD) s → oid.toNat ≤ 1 →
      exec (.unitReadmit oid ctx n) s = .next (obeyed oid (readmitUnit n s)))
  ∧ (∀ (oid : BitVec 10) (ctx : BitVec 6) (n : Fin 7) (s : State), Admitted oid ctx (Reg.SCH_UNITCMD) s → oid.toNat ≤ 1 →
      exec (.unitAdmit oid ctx n) s = .next (obeyed oid (admitUnit n s)))
  ∧ (∀ (oid : BitVec 10) (ctx : BitVec 6) (data : BitVec 32) (s : State), Admitted oid ctx (Reg.SCH_OWN_CMD) s → oid.toNat ≤ 1 → s.flag F.SCH_OWN_STAT_BUSY = false →
      exec (.ownershipChange oid ctx data) s = .next (obeyed oid (ownCmdWritten data.toNat s)))
  ∧ (∀ (oid : BitVec 10) (ctx : BitVec 6) (s : State), Admitted oid ctx (Reg.HWD_SAFECMD) s → oid.toNat = 1 →
      exec (.safeEnter oid ctx) s = .next (obeyed oid (safeCmdWritten 1 s)))
  ∧ (∀ (oid : BitVec 10) (ctx : BitVec 6) (s : State), Admitted oid ctx (Reg.HWD_SAFECMD) s → oid.toNat = 1 →
      exec (.safeArm oid ctx) s = .next (obeyed oid (safeCmdWritten 2 s)))
  ∧ (∀ (oid : BitVec 10) (ctx : BitVec 6) (data : BitVec 32) (s : State), Admitted oid ctx (Reg.CMB_COMMIT) s → oid = 0x30 →
      exec (.cmbCommit oid ctx data) s = .next (obeyed oid (if data.getLsbD 2 then commitChannel (data.toNat % 4) s else s)))
  ∧ (∀ (oid : BitVec 10) (ctx : BitVec 6) (n : Fin 128) (s : State), Admitted oid ctx (Reg.CMB_AXCMD) s → oid.toNat = 1 →
      exec (.axisClear oid ctx n) s = .next (obeyed oid (clearAxis n s)))
  ∧ (∀ (oid : BitVec 10) (ctx : BitVec 6) (n : Fin 16) (s : State), Admitted oid ctx (Reg.RLK_P_MGCMD n) s → oid.toNat = 1 →
      exec (.managementExchange oid ctx n) s = .next (obeyed oid (startExchange n s)))

/-- A command of a CAN controller, TIM, a Bough pair, the lifecycle block, Sap or the event unit reaches its action when its write is admitted (02_address_map_registers.md, 18_can_fd.md, 19_ethernet_time.md, 21_bough_lockstep.md, 22_roles_lifecycle_pith.md, 23_power_clocks_reset_boot.md, 25_events_dump.md). -/
def Obligations.OtherCommandsObeyed : Prop :=
  (∀ (oid : BitVec 10) (ctx : BitVec 6) (n : Fin 8) (bufs : BitVec 3) (s : State), Admitted oid ctx (Reg.CFD_TXREQ n) s → oid.toNat ≤ 1 →
      exec (.txRequest oid ctx n bufs) s = .next (obeyed oid (canRequest n bufs.toNat s)))
  ∧ (∀ (oid : BitVec 10) (ctx : BitVec 6) (n : Fin 8) (bufs : BitVec 3) (s : State), Admitted oid ctx (Reg.CFD_TXREQ n) s → oid.toNat ≤ 1 →
      exec (.cfdAbort oid ctx n bufs) s = .next (obeyed oid (canAbort n bufs.toNat s)))
  ∧ (∀ (oid : BitVec 10) (ctx : BitVec 6) (n : Fin 8) (s : State), Admitted oid ctx (Reg.CFD_CMD n) s → oid.toNat ≤ 1 →
      exec (.cfdSleep oid ctx n) s = .next (obeyed oid (canCmdWritten n 1 s)))
  ∧ (∀ (oid : BitVec 10) (ctx : BitVec 6) (n : Fin 8) (s : State), Admitted oid ctx (Reg.CFD_CMD n) s → oid.toNat ≤ 1 →
      exec (.cfdWake oid ctx n) s = .next (obeyed oid (canCmdWritten n 2 s)))
  ∧ (∀ (oid : BitVec 10) (ctx : BitVec 6) (n : Fin 8) (s : State), Admitted oid ctx (Reg.CFD_CMD n) s → oid.toNat ≤ 1 →
      exec (.cfdRecover oid ctx n) s = .next (obeyed oid (canCmdWritten n 4 s)))
  ∧ (∀ (oid : BitVec 10) (ctx : BitVec 6) (n : Fin 8) (data : BitVec 32) (s : State), Admitted oid ctx (Reg.CFD_ECSET n) s → oid.toNat = 1 →
      exec (.ecsetLoad oid ctx n data) s = .next (obeyed oid (ecsetWritten n data.toNat s)))
  ∧ (∀ (oid : BitVec 10) (ctx : BitVec 6) (data : BitVec 32) (s : State), Admitted oid ctx (Reg.TIM_ADJ) s → oid.toNat ≤ 1 → adjLocked data.toNat s = false →
      exec (.timeAdjust oid ctx data) s = .next (obeyed oid (timAdjust data.toNat s)))
  ∧ (∀ (oid : BitVec 10) (ctx : BitVec 6) (n : Fin 2) (s : State), Admitted oid ctx (Reg.TIM_TXQ_POP n) s → oid.toNat ≤ 1 →
      exec (.txqPop oid ctx n) s = .next (obeyed oid (popTx n s)))
  ∧ (∀ (oid : BitVec 10) (ctx : BitVec 6) (n : Fin 8) (s : State), Admitted oid ctx (Reg.TIM_CI_POP n) s → oid.toNat ≤ 1 →
      exec (.capturePop oid ctx n) s = .next (obeyed oid (popCapture n s)))
  ∧ (∀ (oid : BitVec 10) (ctx : BitVec 6) (n : Fin 4) (s : State), Admitted oid ctx (Reg.BGH_PAIR_CMD n) s → oid.toNat ≤ 1 →
      exec (.bghSplit oid ctx n) s = .next (obeyed oid (pairCmdWritten n 1 oid.toNat s)))
  ∧ (∀ (oid : BitVec 10) (ctx : BitVec 6) (n : Fin 4) (s : State), Admitted oid ctx (Reg.BGH_PAIR_CMD n) s → oid.toNat ≤ 1 →
      exec (.bghUnpark oid ctx n) s = .next (obeyed oid (pairCmdWritten n 4 oid.toNat s)))
  ∧ (∀ (oid : BitVec 10) (ctx : BitVec 6) (n : Fin 4) (s : State), Admitted oid ctx (Reg.BGH_PAIR_CMD n) s → oid.toNat ≤ 1 →
      exec (.pairReadmit oid ctx n) s = .next (obeyed oid (pairCmdWritten n 16 oid.toNat s)))
  ∧ (∀ (oid : BitVec 10) (ctx : BitVec 6) (n : Fin 4) (s : State), Admitted oid ctx (Reg.BGH_PAIR_CMD n) s → oid.toNat ≤ 1 →
      exec (.pairAdmit oid ctx n) s = .next (obeyed oid (pairCmdWritten n 32 oid.toNat s)))
  ∧ (∀ (oid : BitVec 10) (ctx : BitVec 6) (n : Fin 4) (s : State), Admitted oid ctx (Reg.BGH_PAIR_CMD n) s → oid.toNat = 0x21 + 2 * n.val →
      exec (.bghPark oid ctx n) s = .next (obeyed oid (pairCmdWritten n 2 oid.toNat s)))
  ∧ (∀ (oid : BitVec 10) (ctx : BitVec 6) (n : Fin 4) (s : State), Admitted oid ctx (Reg.BGH_PAIR_CMD n) s → oid.toNat = 0x20 + 2 * n.val ∨ oid.toNat = 0x28 + n.val →
      exec (.bghJoin oid ctx n) s = .next (obeyed oid (pairCmdWritten n 8 oid.toNat s)))
  ∧ (∀ (oid : BitVec 10) (ctx : BitVec 6) (n : Fin 8) (data : BitVec 32) (s : State), Admitted oid ctx (Reg.BGH_CORE_IPSET n) s → True →
      exec (.ipsetWrite oid ctx n data) s = .next (obeyed oid (ipsetWritten n data.toNat s)))
  ∧ (∀ (oid : BitVec 10) (ctx : BitVec 6) (data : BitVec 32) (bad : BitVec 3) (s : State), Admitted oid ctx (Reg.LCS_LCCMD) s → True →
      exec (.lifecycleCommand oid ctx data bad) s = .next (obeyed oid (lcCmdWritten oid.toNat data.toNat bad.toNat s)))
  ∧ (∀ (oid : BitVec 10) (ctx : BitVec 6) (s : State), Admitted oid ctx (Reg.LCS_FPROG_CMD) s → oid.toNat = 2 →
      exec (.fuseProgram oid ctx) s = .next (obeyed oid (fuseCmdWritten 2 1 s)))
  ∧ (∀ (oid : BitVec 10) (ctx : BitVec 6) (s : State), Admitted oid ctx (Reg.LCS_PITHCMD) s → 1 ≤ oid.toNat → oid.toNat ≤ 2 →
      exec (.pithWipe oid ctx) s = .next (obeyed oid (startWipe 3 oid.toNat s)))
  ∧ (∀ (oid : BitVec 10) (ctx : BitVec 6) (s : State), Admitted oid ctx (Reg.LCS_RBCMD) s → 1 ≤ oid.toNat → oid.toNat ≤ 2 →
      exec (.rollbackFw oid ctx) s = .next (obeyed oid (rbCmdWritten oid.toNat 1 s)))
  ∧ (∀ (oid : BitVec 10) (ctx : BitVec 6) (s : State), Admitted oid ctx (Reg.LCS_RBCMD) s → oid.toNat = 1 →
      exec (.rollbackCfg oid ctx) s = .next (obeyed oid (rbCmdWritten 1 2 s)))
  ∧ (∀ (oid : BitVec 10) (ctx : BitVec 6) (data : BitVec 32) (s : State), Admitted oid ctx (Reg.SAP_RSTCMD) s → oid.toNat ≤ 2 → data.toNat / 2 ^ 16 = 0x5253 → data.getLsbD 0 = true → rstLocked s oid.toNat data.toNat = false →
      exec (.globalResetCommand oid ctx data) s = .next (obeyed oid (globalReset 2 0 (resetFrames s))))
  ∧ (∀ (oid : BitVec 10) (ctx : BitVec 6) (s : State), Admitted oid ctx (Reg.EVQ_DUMPCMD) s → oid.toNat ≤ 2 →
      exec (.dumpCommand oid ctx) s = .next (obeyed oid (dumpCmdWritten 1 s)))

/-- A read that the port and Bark admit answers the bytes of memory and changes nothing but the read counts of DRAM (02_address_map_registers.md, 14_memory_system.md, 15_heartwood_safety.md). -/
def Obligations.ReadsOfMemory : Prop :=
  ∀ (oid : BitVec 10) (ctx : BitVec 6) (addr : BitVec 48) (len : BitVec 13) (s : State), Calm s → Issues oid ctx s → wiping s = false →
    0 < len.toNat → addr.toNat + len.toNat ≤ regBase → portGate s oid.toNat addr.toNat len.toNat false = .pass →
    judge s oid.toNat ctx.toNat addr.toNat len.toNat false = none → suspectWords s addr.toNat len.toNat = [] →
    let done (t : State) : Prop := t.resp = s.resp ++ [⟨oid.toNat, .ok, s.bytes addr.toNat len.toNat⟩] ∧ t.mem = s.mem
      ∧ ∀ o, (∀ k < 4, o ≠ Reg.DRC_RDBYTES_LO k ∧ o ≠ Reg.DRC_RDBYTES_LO k + 4) → t.reg o = s.reg o
    (∃ t, exec (.nocRead oid ctx addr len {}) s = .next t ∧ done t)
    ∧ (∀ (bar : Fin 3) (off : BitVec 38), oid = 0 → ctx = 0 → barAddr bar off.toNat = some addr.toNat →
      ∃ t, exec (.hostReadRequest bar off len {}) s = .next t ∧ done t)
    ∧ (oid = 1 → ctx = 0 → ∃ t, exec (.servicePortCommand (.read addr len) {}) s = .next t ∧ done t)
    ∧ (oid = 2 → ctx = 0 → tapOpen s = true → s.lcs.tap = true → ∃ t, exec (.tapCommand (.acc (.read addr len)) {}) s = .next t ∧ done t)

/-- A write that the port and Bark admit stores exactly its bytes; through an alias it sets or clears exactly the bits of its bytes (02_address_map_registers.md, 14_memory_system.md, 15_heartwood_safety.md). -/
def Obligations.WritesOfMemory : Prop :=
  (∀ (oid : BitVec 10) (ctx : BitVec 6) (addr : BitVec 48) (data : List Byte) (s : State), Calm s → Issues oid ctx s → wiping s = false →
    data ≠ [] → addr.toNat + data.length ≤ regBase → portGate s oid.toNat (addr.toNat) data.length true = .pass →
    judge s oid.toNat ctx.toNat (addr.toNat) data.length true = none → suspectWords s addr.toNat data.length = [] →
    (∀ a b, addr.toNat ≤ a → a < addr.toNat + data.length → sdbLocked s a b = false) →
    let done (t : State) : Prop :=
      (∀ a, t.byte a = if addr.toNat ≤ a ∧ a < addr.toNat + data.length then data.getD (a - addr.toNat) 0 else s.byte a)
      ∧ ∀ o, o ≠ Reg.CMB_CHSTAT → (∀ k < 4, o ≠ Reg.DRC_WRBYTES_LO k ∧ o ≠ Reg.DRC_WRBYTES_LO k + 4) → t.reg o = s.reg o
    (∃ t, exec (.nocWrite oid ctx addr data {}) s = .next t ∧ done t)
    ∧ (∀ (bar : Fin 3) (off : BitVec 38), oid = 0 → ctx = 0 → barAddr bar off.toNat = some addr.toNat →
      ∃ t, exec (.hostWriteRequest bar off data {}) s = .next t ∧ done t)
    ∧ (oid = 1 → ctx = 0 → ∃ t, exec (.servicePortCommand (.write addr data) {}) s = .next t ∧ done t)
    ∧ (oid = 2 → ctx = 0 → tapOpen s = true → s.lcs.tap = true → ∃ t, exec (.tapCommand (.acc (.write addr data)) {}) s = .next t ∧ done t)
    ∧ (∀ off : BitVec 12, addr.toNat = 0x2022200000 + off.toNat → ∃ t, exec (.streamDescriptorWrite oid ctx off data) s = .next t ∧ done t)
    ∧ (∀ (buf : Fin 8) (off : BitVec 6), oid = 0x30 → ctx = 0 → addr.toNat = 0x2021040000 + 0x10000 * buf.val + off.toNat →
      ∃ t, exec (.cmbBufferHeaderWrite buf off data) s = .next t ∧ done t))
  ∧ (∀ (oid : BitVec 10) (ctx : BitVec 6) (clear : Bool) (addr : BitVec 40) (data : List Byte) (s : State),
    let al : Nat := if clear = true then 0x20000000000 else 0x10000000000
    Calm s → Issues oid ctx s → wiping s = false →
    data ≠ [] → addr.toNat + data.length ≤ regBase → portGate s oid.toNat (al + addr.toNat) data.length true = .pass →
    judge s oid.toNat ctx.toNat (al + addr.toNat) data.length true = none → suspectWords s addr.toNat data.length = [] →
    (∀ a b, addr.toNat ≤ a → a < addr.toNat + data.length → sdbLocked s a b = false) →
    ∃ t, exec (.aliasWrite oid ctx clear addr data) s = .next t
      ∧ (∀ a, t.byte a = if addr.toNat ≤ a ∧ a < addr.toNat + data.length then
          (if clear = true then s.byte a &&& ~~~(data.getD (a - addr.toNat) 0) else s.byte a ||| data.getD (a - addr.toNat) 0) else s.byte a)
      ∧ ∀ o, o ≠ Reg.CMB_CHSTAT → (∀ k < 4, o ≠ Reg.DRC_WRBYTES_LO k ∧ o ≠ Reg.DRC_WRBYTES_LO k + 4) → t.reg o = s.reg o)

/-- A request of the host, the service port or the open test access port is a transaction of its role at the address that R40 gives (R40). -/
def Obligations.PortsAreTransactions : Prop :=
  (∀ (off : BitVec 38) (len : BitVec 13) (data : List Byte) (link : LinkErr) (s : State), off.toNat < 0x1000000 →
      exec (.hostReadRequest 0 off len link) s = exec (.nocRead 0 0 (BitVec.ofNat 48 (0x3000000000 + off.toNat)) len link) s
      ∧ exec (.hostWriteRequest 0 off data link) s = exec (.nocWrite 0 0 (BitVec.ofNat 48 (0x3000000000 + off.toNat)) data link) s)
  ∧ (∀ (off : BitVec 38) (len : BitVec 13) (data : List Byte) (link : LinkErr) (s : State), 0x1000000 ≤ off.toNat → off.toNat < 0x2000000 →
      exec (.hostReadRequest 0 off len link) s = exec (.nocRead 0 0 (BitVec.ofNat 48 (0x13000000000 + (off.toNat - 0x1000000))) len link) s
      ∧ exec (.hostWriteRequest 0 off data link) s = exec (.nocWrite 0 0 (BitVec.ofNat 48 (0x13000000000 + (off.toNat - 0x1000000))) data link) s)
  ∧ (∀ (off : BitVec 38) (len : BitVec 13) (data : List Byte) (link : LinkErr) (s : State), 0x2000000 ≤ off.toNat → off.toNat < 0x3000000 →
      exec (.hostReadRequest 0 off len link) s = exec (.nocRead 0 0 (BitVec.ofNat 48 (0x23000000000 + (off.toNat - 0x2000000))) len link) s
      ∧ exec (.hostWriteRequest 0 off data link) s = exec (.nocWrite 0 0 (BitVec.ofNat 48 (0x23000000000 + (off.toNat - 0x2000000))) data link) s)
  ∧ (∀ (off : BitVec 38) (len : BitVec 13) (data : List Byte) (link : LinkErr) (s : State), off.toNat < 0x2040000000 →
      exec (.hostReadRequest 1 off len link) s = exec (.nocRead 0 0 (BitVec.ofNat 48 (off.toNat)) len link) s
      ∧ exec (.hostWriteRequest 1 off data link) s = exec (.nocWrite 0 0 (BitVec.ofNat 48 (off.toNat)) data link) s)
  ∧ (∀ (off : BitVec 38) (len : BitVec 13) (data : List Byte) (link : LinkErr) (s : State), off.toNat < 0x40000000 →
      exec (.hostReadRequest 2 off len link) s = exec (.nocRead 0 0 (BitVec.ofNat 48 (0x12000000000 + off.toNat)) len link) s
      ∧ exec (.hostWriteRequest 2 off data link) s = exec (.nocWrite 0 0 (BitVec.ofNat 48 (0x12000000000 + off.toNat)) data link) s)
  ∧ (∀ (off : BitVec 38) (len : BitVec 13) (data : List Byte) (link : LinkErr) (s : State), 0x40000000 ≤ off.toNat → off.toNat < 0x80000000 →
      exec (.hostReadRequest 2 off len link) s = exec (.nocRead 0 0 (BitVec.ofNat 48 (0x22000000000 + (off.toNat - 0x40000000))) len link) s
      ∧ exec (.hostWriteRequest 2 off data link) s = exec (.nocWrite 0 0 (BitVec.ofNat 48 (0x22000000000 + (off.toNat - 0x40000000))) data link) s)
  ∧ (∀ (bar : Fin 3) (off : BitVec 38) (len : BitVec 13) (data : List Byte) (link : LinkErr) (s : State),
      (bar = 0 ∧ 0x3000000 ≤ off.toNat ∧ off.toNat < 0x4000000) ∨ (bar = 1 ∧ 0x2040000000 ≤ off.toNat) →
      ∃ (a : BitVec 48) (u : State), 0x30000000000 ≤ a.toNat ∧ { u with free := s.free } = s
        ∧ exec (.hostReadRequest bar off len link) s = exec (.nocRead 0 0 a len link) u ∧ exec (.hostWriteRequest bar off data link) s = exec (.nocWrite 0 0 a data link) u)
  ∧ (∀ (a : BitVec 48) (len : BitVec 13) (data : List Byte) (link : LinkErr) (s : State),
      exec (.servicePortCommand (.read a len) link) s = exec (.nocRead 1 0 a len link) s
      ∧ exec (.servicePortCommand (.write a data) link) s = exec (.nocWrite 1 0 a data link) s
      ∧ (tapOpen s = true → s.lcs.tap = true → exec (.tapCommand (.acc (.read a len)) link) s = exec (.nocRead 2 0 a len link) s
        ∧ exec (.tapCommand (.acc (.write a data)) link) s = exec (.nocWrite 2 0 a data link) s))
  ∧ (∀ (oid : BitVec 10) (ctx : BitVec 6) (off : BitVec 12) (data : List Byte) (s : State),
      exec (.streamDescriptorWrite oid ctx off data) s = exec (.nocWrite oid ctx (BitVec.ofNat 48 (0x2022200000 + off.toNat)) data {}) s)
  ∧ ∀ (buf : Fin 8) (off : BitVec 6) (data : List Byte) (s : State),
      exec (.cmbBufferHeaderWrite buf off data) s = exec (.nocWrite 0x30 0 (BitVec.ofNat 48 (0x2021040000 + 0x10000 * buf.val + off.toNat)) data {}) s

/-- The test access port answers BYPASS and IDCODE, and its opening and a hard repair count as maker changes (22_roles_lifecycle_pith.md, 02_address_map_registers.md). -/
def Obligations.TapCommands : Prop :=
  ∀ (link : LinkErr) (row : BitVec 37) (s : State),
    (lcState s ≠ lcBlank → exec (.tapCommand .bypass link) s = .next ((s.setLcs { s.lcs with tap := false }).answer 2 false .ok [])
      ∧ ∃ t, exec (.tapCommand .idcode link) s = .next t ∧ t.lcs.tap = false ∧ t.mem = s.mem ∧ t.regs = s.regs
        ∧ ∃ bs, bs.length = 4 ∧ t.resp = s.resp ++ [⟨2, .ok, bs⟩])
    ∧ (tapOpen s = true → s.lcs.tap = false → (s.reg Reg.LCS_CHG_MAKER).toNat < 0xFFFFFFFF →
      ∃ t, exec (.tapCommand .other link) s = .next t ∧ t.lcs.tap = true ∧ t.reg Reg.LCS_CHG_MAKER = s.reg Reg.LCS_CHG_MAKER + 1 ∧ t.mem = s.mem)
    ∧ (tapOpen s = true → s.lcs.tap = true → s.fld F.SAP_BOOT_STAGE = 5 → (s.reg Reg.LCS_CHG_MAKER).toNat < 0xFFFFFFFF →
      ∃ t, exec (.tapCommand (.hardRepair row) link) s = .next t ∧ t.reg Reg.LCS_CHG_MAKER = s.reg Reg.LCS_CHG_MAKER + 1
        ∧ ∀ a, a / 64 ≠ row.toNat / 64 → t.byte a = s.byte a)
    ∧ (tapOpen s = false → ∃ t, exec (.tapCommand .other link) s = .next t ∧ t.lcs.tap = s.lcs.tap ∧ t.mem = s.mem
      ∧ t.resp = s.resp ++ [⟨2, .abort, []⟩])

/-- A refused access is performed nowhere: its requester gets the error, and the event names it (02_address_map_registers.md, 11_seedbed_input.md, 15_heartwood_safety.md, 22_roles_lifecycle_pith.md). -/
def Obligations.RefusedAccesses : Prop :=
  ∀ (oid : BitVec 10) (ctx : BitVec 6) (addr : BitVec 48) (data : List Byte) (link : LinkErr) (s : State), Calm s → Issues oid ctx s → link.also = [] →
    let err (t : State) : Prop := t.mem = s.mem ∧ t.resp = if oid = 0 then s.resp else s.resp ++ [⟨oid.toNat, .abort, []⟩]
    (portGate s oid.toNat addr.toNat data.length true = .closed →
      ∃ t, exec (.nocWrite oid ctx addr data link) s = .next t ∧ err t ∧ (spGet 0 s.lcs.denied oid.toNat = 0 → LastEvent t 0xD008 oid.toNat))
    ∧ (portGate s oid.toNat addr.toNat data.length true = .early →
      exec (.nocWrite oid ctx addr data link) s = .next (s.answer oid.toNat true .abort []))
    ∧ (∀ f, portGate s oid.toNat addr.toNat data.length true = .pass → judge s oid.toNat ctx.toNat addr.toNat data.length true = some f →
      ∃ t, exec (.nocWrite oid ctx addr data link) s = .next t ∧ err t ∧ LastEvent t f.code oid.toNat)
    ∧ (∀ off : BitVec 12, data.length = 1 → portGate s oid.toNat (0x2022200000 + off.toNat) 1 true = .pass →
      judge s oid.toNat ctx.toNat (0x2022200000 + off.toNat) 1 true = none → suspectWords s (0x2022200000 + off.toNat) 1 = [] →
      sdbLocked s (0x2022200000 + off.toNat) (data.headD 0) = true →
      ∃ t, exec (.streamDescriptorWrite oid ctx off data) s = .next t ∧ (∀ a, t.byte a = s.byte a) ∧ LastEvent t 0x3001 oid.toNat)

/-- One register write is a transaction at its register; of two writers in one cycle the higher rank wins, a hardware update of the cycle sets, counts or yields, and a ring's signal register adds (02_address_map_registers.md, 13_growth_rings.md). -/
def Obligations.RegisterWriteRequests : Prop :=
  (∀ (off : BitVec 22) (oid : BitVec 10) (ctx : BitVec 6) (data : BitVec 32) (s : State), off.toNat % 4 = 0 →
      exec (.registerWrite off [.write oid ctx 0 data]) s = exec (.nocWrite oid ctx (BitVec.ofNat 48 (0x3000000000 + off.toNat)) (leBytes 4 data.toNat) {}) s)
  ∧ (∀ (off : BitVec 22) (o1 o2 : BitVec 10) (c1 c2 : BitVec 6) (d1 d2 : BitVec 32) (s : State), canCollide off.toNat = true →
      Admitted o1 c1 off.toNat s → Admitted o2 c2 off.toNat s → writerRank o2.toNat < writerRank o1.toNat →
      let w (o : BitVec 10) (c : BitVec 6) (d : BitVec 32) : RegWr :=
        { oid := o.toNat, ctx := c.toNat, kind := 0, data := d.toNat, addr := regBase + off.toNat, len := 4, first := d.toNat }
      let l := lostWrite (w o1 c1 d1) o2.toNat s
      let r := regWord (w o2 c2 d2) off.toNat l
      LastEvent l 0x3003 o1.toNat ∧ l.reg64 Reg.SYS_COLLCNT_LO = (s.reg64 Reg.SYS_COLLCNT_LO + 1) % 2 ^ 64 ∧ l.mem = s.mem
      ∧ exec (.registerWrite off [.write o1 c1 0 d1, .write o2 c2 0 d2]) s
        = .next (hwdServe ((r.2.answer o1.toNat true .ok []).answer o2.toNat true (wrStatus r.1) [])))
  ∧ (∀ (off : BitVec 22) (oid : BitVec 10) (ctx : BitVec 6) (data : BitVec 32) (u : HwUpd) (s : State), Admitted oid ctx off.toNat s →
      let w : RegWr := { oid := oid.toNat, ctx := ctx.toNat, kind := 0, data := data.toNat, addr := regBase + off.toNat, len := 4, first := data.toNat }
      let done (b : Bool) (t : State) : State := hwdServe (t.answer oid.toNat true (wrStatus b) [])
      (u.kind ≠ .value → let r := regWord w off.toNat s
        exec (.registerWrite off [.write oid ctx 0 data, .hw u]) s = .next (done r.1 (hwUpdate off.toNat u r.2)))
      ∧ (u.kind = .value → let r := regWord w off.toNat (hwUpdate off.toNat u s)
        exec (.registerWrite off [.write oid ctx 0 data, .hw u]) s = .next (done r.1 r.2)))
  ∧ (∀ (off : BitVec 22) (u : HwUpd) (f : FieldDef) (s : State), fieldAt off.toNat u.lo = some f → f.lo ≤ f.hi → f.hi < 32 →
      let t := hwUpdate off.toNat u s
      let g : RegField := ⟨off.toNat, f.hi, f.lo⟩
      let size := 2 ^ (f.hi + 1 - f.lo)
      (Calm s → exec (.registerWrite off [.hw u]) s = .next t) ∧ t.mem = s.mem ∧ (∀ o, o ≠ off.toNat → t.reg o = s.reg o)
      ∧ (u.kind = .set → statusAcc f.acc = true → t.fld g = (s.fld g ||| u.v.toNat) % size)
      ∧ (u.kind = .count → statusAcc f.acc = false → t.fld g = (s.fld g + u.v.toNat) % size)
      ∧ (u.kind = .countHold → statusAcc f.acc = false → t.fld g = min (s.fld g + u.v.toNat) (size - 1))
      ∧ (u.kind = .value → statusAcc f.acc = false → t.fld g = u.v.toNat % size))
  ∧ (∀ (oid : BitVec 10) (ctx : BitVec 6) (ring : BitVec 13) (data : BitVec 32) (r : Nat) (s : State), ringReg ring.toNat = some r →
      Admitted oid ctx (ringSigReg ring.toNat) s →
      (data.toNat < 2 ^ 16 → (ring.toNat / 1024 = 6 → s.flag F.GRN_CTRL_EN = true) →
        exec (.ringSignalRegisterWrite oid ctx ring data) s = .next (obeyed oid (s.setReg r (s.reg r + data))))
      ∧ (2 ^ 16 ≤ data.toNat → Calm s → ∃ t, exec (.ringSignalRegisterWrite oid ctx ring data) s = .next t ∧ LastEvent t 0x6002 oid.toNat
        ∧ t.reg r = s.reg r ∧ t.mem = s.mem))

/-- A register write changes exactly the fields that its writer may write and no lock holds, each by its access code (02_address_map_registers.md). -/
def Obligations.WritesByAccessCode : Prop :=
  ∀ (s : State) (off : Nat) (kind : AliasKind) (data was : Nat) (may : FieldDef → Bool) (locked : FieldDef → Nat → Bool) (fs : List FieldDef),
    (∀ f ∈ fs, f.lo ≤ f.hi ∧ f.hi < 32) → fs.Pairwise (fun f g => f.hi < g.lo ∨ g.hi < f.lo) → was < 2 ^ 32 → data < 2 ^ 32 → kind ≤ 2 →
    let x := writeFields s off kind data may locked fs { new := was }
    (∀ f ∈ fs, let old := slice was f.hi f.lo
      let d := slice data f.hi f.lo
      let want := if f.acc = .rw ∨ f.acc = .rwl ∨ f.acc = .wos then (if kind = 0 then d else if kind = 1 then old ||| d else old &&& (old ^^^ d))
        else if f.acc = .w1c ∧ kind ≠ 1 then old &&& (old ^^^ d) else old
      slice x.new f.hi f.lo = if may f = true ∧ ¬ (want ≠ old ∧ (accLocked s off f || locked f want) = true) then want else old)
    ∧ ∀ i, (∀ f ∈ fs, ¬ (f.lo ≤ i ∧ i ≤ f.hi)) → x.new.testBit i = was.testBit i

/-- Enabling, acknowledging and tearing down move a context through its states, and enabling the scheduler brings units out of OFF (12_jobs_scheduling.md, 02_address_map_registers.md, 24_strict_mode.md). -/
def Obligations.ContextCommands : Prop :=
  (∀ (oid : BitVec 10) (ctx : BitVec 6) (n : Fin 64) (data : BitVec 32) (s : State), Calm s → Admitted oid ctx (Reg.SCH_CTX_CFG n) s → oid.toNat ≤ 1 →
      s.flag F.SCH_LOCK_LOCK = false →
      (s.flag (F.SCH_CTX_CFG_EN n) = false → data.getLsbD 4 = true → ctxState s n = ctxDisabled →
        ∃ u, u.flag (F.SCH_CTX_CFG_EN n) = true ∧ (∀ o, o ≠ Reg.SCH_CTX_CFG n → u.reg o = s.reg o) ∧ u.mem = s.mem ∧ u.sched = s.sched
          ∧ exec (.contextEnable oid ctx n data) s = .next (obeyed oid ((restartQueue n u).put (F.SCH_CTX_STAT_STATE n) ctxActive)))
      ∧ (s.flag (F.SCH_CTX_CFG_EN n) = false → data.getLsbD 4 = true → ctxState s n = ctxDisabled → queuePending s n = 0 →
        (∀ j ∈ s.sched.jobs, j.ctx = n.val → j.phase ≠ .queued) →
        ∃ t, exec (.contextEnable oid ctx n data) s = .next t ∧ ctxState t n = ctxActive ∧ t.mem = s.mem
          ∧ t.fld (F.SCH_CTX_HEAD_HEAD n) = s.fld (F.SCH_CTX_TAIL_TAIL n) ∧ t.fld (F.SCH_CTX_CFG_QSZ n) = data.toNat % 16
          ∧ t.fld (F.SCH_CTX_CFG_PRIO n) = data.toNat / 32 % 4 ∧ t.fld (F.SCH_CTX_CFG_SHARE n) = data.toNat / 2 ^ 14 % 256
          ∧ t.fld (F.SCH_CTX_CFG_SAFE n) = (if oid = 1 then data.toNat / 128 % 2 else s.fld (F.SCH_CTX_CFG_SAFE n))
          ∧ t.sched.jobs = s.sched.jobs)
      ∧ (s.flag (F.SCH_CTX_CFG_EN n) = true → data.getLsbD 4 = false → data.toNat % 16 = s.fld (F.SCH_CTX_CFG_QSZ n) →
        ctxState s n = ctxActive ∨ ctxState s n = ctxFaulted →
        ∃ t, exec (.contextEnable oid ctx n data) s = .next t ∧ ctxState t n = ctxDisabled ∧ t.sched = s.sched ∧ t.mem = s.mem))
  ∧ (∀ (c : Fin 64) (s : State),
      (ctxState s c = ctxActive → ctxCmdWritten c 1 s = ((s.setSched { s.sched with tearing := spSet 0 c (s.elapsed + 1) s.sched.tearing }).put
        (F.SCH_CTX_STAT_STATE c) ctxTearing).put (F.SCH_CTX_STAT_CAUSE c) 0)
      ∧ (ctxState s c = ctxFaulted → ctxCmdWritten c 1 s = s)
      ∧ (ctxState s c = ctxFaulted → ctxState (ctxCmdWritten c 2 s) c = ctxActive
        ∧ (ctxCmdWritten c 2 s).fld (F.SCH_CTX_HEAD_HEAD c) = (ctxCmdWritten c 2 s).fld (F.SCH_CTX_TAIL_TAIL c))
      ∧ (ctxState s c = ctxFaulted → queuePending s c = 0 → (∀ j ∈ s.sched.jobs, j.ctx = c.val → j.phase ≠ .queued) →
        ctxCmdWritten c 2 s = (s.put (F.SCH_CTX_HEAD_HEAD c) (s.fld (F.SCH_CTX_TAIL_TAIL c))).put (F.SCH_CTX_STAT_STATE c) ctxActive)
      ∧ (ctxState s c ≠ ctxFaulted → ctxCmdWritten c 2 s = s)
      ∧ (∀ v, leastVt s c = some v → v < 2 ^ 64 → (ctxCmdWritten c 4 s).reg64 (Reg.SCH_CTX_VT_LO c) = v)
      ∧ (leastVt s c = none → ctxCmdWritten c 4 s = s))
  ∧ (∀ (oid : BitVec 10) (ctx : BitVec 6) (data : BitVec 32) (s : State), Calm s → Admitted oid ctx Reg.SCH_CTRL s → oid.toNat ≤ 1 →
      s.flag F.SCH_LOCK_LOCK = false → data.getLsbD 0 = true →
      ∃ t, exec (.schedulerEnable oid ctx data) s = .next t ∧ t.flag F.SCH_CTRL_EN = true ∧ t.sched = s.sched ∧ t.mem = s.mem
        ∧ ∀ u : Fin 7, t.fld (unitField u) = if s.fld (unitField u) = uOff then uIdle else s.fld (unitField u))

/-- A unit leaves service, is tested, quarantined and admitted exactly as its commands and results say (12_jobs_scheduling.md, 14_memory_system.md, 23_power_clocks_reset_boot.md). -/
def Obligations.UnitsInAndOut : Prop :=
  (∀ (u : Fin 7) (s : State),
      (s.fld (unitField u) = uRunning → retireUnit u s = setUnit u { unitSt s u with retire := true } s)
      ∧ (s.fld (unitField u) = uIdle → (∀ j ∈ s.sched.jobs, j.dispatched = true → u.val ∉ j.units) →
        (retireUnit u s).fld (unitField u) = uLost ∧ LastEvent (retireUnit u s) 0x4002 (unitOid u) ∧ (retireUnit u s).mem = s.mem)
      ∧ (s.fld (unitField u) = uLost → u.val ∉ s.sched.hot →
        readmitUnit u s = (setUnit u { unitSt s u with passed := false } s).put (unitField u) uSelftest)
      ∧ (s.fld (unitField u) ≠ uLost ∨ u.val ∈ s.sched.hot → readmitUnit u s = s)
      ∧ (s.fld (unitField u) = uQuarantine → (unitSt s u).passed = true →
        (admitUnit u s).fld (unitField u) = uIdle ∧ LastEvent (admitUnit u s) 0x4006 (unitOid u))
      ∧ (s.fld (unitField u) ≠ uQuarantine ∨ (unitSt s u).passed = false → admitUnit u s = s))
  ∧ (∀ (u : Fin 7) (fails : List RowFail) (ok : Bool) (s : State),
      (s.fld (unitField u) = uSelftest → ∃ t, exec (.selftestComplete u fails ok) s = .next t
        ∧ (ok = true → t.fld (unitField u) = uQuarantine) ∧ (ok = false → t.fld (unitField u) = uLost ∧ LastEvent t 0x4007 (unitOid u))
        ∧ (fails = [] → ∀ a, t.byte a = if (if u.val < 6 then spBase u ≤ a ∧ a < spBase u + spSize else 0x2020000000 ≤ a ∧ a < 0x2020200000)
            then 0 else s.byte a))
      ∧ (s.fld (unitField u) ≠ uSelftest → exec (.selftestComplete u fails ok) s = .next s))
  ∧ (∀ (u : Fin 7) (s : State),
      (s.fld (unitField u) = uQuarantine → (unitSt s u).passed = false →
        (s.flag F.HWD_STATE_RESTART = false → exec (.quarantineComplete u true) s = .next (setUnit u { unitSt s u with passed := true } s))
        ∧ ∃ t, exec (.quarantineComplete u false) s = .next t ∧ t.fld (unitField u) = uLost ∧ LastEvent t 0x4007 (unitOid u) ∧ t.mem = s.mem)
      ∧ (∀ ok, s.fld (unitField u) ≠ uQuarantine → exec (.quarantineComplete u ok) s = .next s))
  ∧ ∀ (u : Fin 7) (s : State), Calm s → (∀ c < 64, s.flag (F.SCH_CTX_CFG_SAFE c) = false) → (∀ j ∈ s.sched.jobs, j.ctx < 64) →
      s.fld (unitField u) = uRunning →
      ((∃ j ∈ s.sched.jobs, j.dispatched = true ∧ u.val ∈ j.units ∧ stopOverdue s j = true) →
        ∃ t, exec (.stopLimitExpiry u) s = .next t ∧ t.fld (unitField u) = uLost ∧ LastEvent t 0x4002 (unitOid u) ∧ t.mem = s.mem)
      ∧ ((∀ j ∈ s.sched.jobs, stopOverdue s j = false) → exec (.stopLimitExpiry u) s = .next s)
      ∧ ∀ j : Job, stopOverdue s j = true ↔ (j.phase = .stopping ∧ s.passed j.stopSince (max 1 (s.fld F.SCH_STOPLIM_LIMIT)) = true)
        ∨ (ctxState s j.ctx = ctxTearing ∧ s.passed (spGet 0 s.sched.tearing j.ctx - 1) (max 1 (s.fld F.SCH_STOPLIM_LIMIT)) = true)

/-- An ownership command zeroes exactly the units whose owner changes, and its completion gives exactly them the new owner (12_jobs_scheduling.md). -/
def Obligations.OwnersChange : Prop :=
  (∀ (data : BitVec 32) (s : State),
      let a : Nat := s.fld F.SCH_OWN_ADDR_LO_ADDR_LO * 0x1000 + s.fld F.SCH_OWN_ADDR_HI_ADDR_HI * 2 ^ 32
      let n : Nat := s.fld F.SCH_OWN_LEN_LEN
      let owner : Nat := if data.getLsbD 6 = true then 64 else data.toNat % 64
      (data.getLsbD 7 = false → ownCmdWritten data.toNat s = s)
      ∧ (data.getLsbD 7 = true → ownRange s a n = none → ownCmdWritten data.toNat s = s.put F.SCH_OWN_STAT_ERR 1)
      ∧ (∀ sz, data.getLsbD 7 = true → ownRange s a n = some sz →
        let t := ownCmdWritten data.toNat s
        t.flag F.SCH_OWN_STAT_BUSY = true
        ∧ (∀ x, t.byte x = if a / sz ≤ x / sz ∧ x / sz < a / sz + n ∧ ownerOf s (x / sz) ≠ owner then 0 else s.byte x)
        ∧ (∀ key, withdrawn t key = true ↔ a / sz ≤ key ∧ key < a / sz + n ∧ ownerOf s key ≠ owner)
        ∧ ∀ o, o ≠ Reg.SCH_OWN_STAT → (∀ k < 4, o ≠ Reg.DRC_WRBYTES_LO k ∧ o ≠ Reg.DRC_WRBYTES_LO k + 4) → t.reg o = s.reg o))
  ∧ ∀ s : State,
      (s.sched.change = none → exec .ownZeroingComplete s = .next s)
      ∧ (clearTurn s .owner = false → exec .ownZeroingComplete s = .next s)
      ∧ ∀ x, s.sched.change = some x → clearTurn s .owner = true → ∃ t, exec .ownZeroingComplete s = .next t
        ∧ (∀ key, ownerOf t key = if key ∈ x.units then x.owner else ownerOf s key)
        ∧ t.flag F.SCH_OWN_STAT_BUSY = false ∧ t.sched.change = none ∧ t.mem = s.mem ∧ LastEvent t 0x4008 0

/-- A descriptor at the head of a queue becomes a job or is refused, is placed on free units, dispatched and started (12_jobs_scheduling.md). -/
def Obligations.JobsEnterAndStart : Prop :=
  (∀ (ctx : BitVec 6) (s u : State) (raw : List Byte), let c := ctx.toNat
      ctxState s c = ctxActive → headJob s c = none → 0 < queuePending s c → (∀ j ∈ s.sched.jobs, j.ctx = c → j.phase ≠ .stopping) →
      nocRead 0 c (queueAddr s c (s.fld (F.SCH_CTX_HEAD_HEAD c) % queueSize s c)) 256 s = (some raw, u) → u.sched = s.sched →
      (jobFault u c raw true = none → (parseJob raw).deadline = 0 → exec (.jobDescriptorCheck ctx) s
        = .next (addJob { id := 0, ctx := c, d := parseJob raw, qidx := s.fld (F.SCH_CTX_HEAD_HEAD c) % queueSize s c } u))
      ∧ (∀ off, jobFault u c raw true = some off → ctxState u c = ctxActive →
        ∃ t, exec (.jobDescriptorCheck ctx) s = .next t ∧ ctxState t c = ctxTearing ∧ LastEvent t 0x4005 0 ∧ headJob t c = none))
  ∧ (∀ (ctx : BitVec 6) (s : State), queuePending s ctx.toNat = 0 → (∀ j ∈ s.sched.jobs, j.phase ≠ .stopping) →
      exec (.jobDescriptorCheck ctx) s = .next s)
  ∧ (∀ (s : State) (j : Job) (cores : List Nat), placeJob s j = some cores →
      cores.Nodup ∧ (∀ k ∈ cores, k < 6 ∧ s.fld (unitField k) = uIdle)
      ∧ (j.d.crown = true → j.d.pinned = false → cores.length = j.d.ncore) ∧ (j.d.crown = true → j.d.pinned = true → ∀ k < 6, k ∈ cores ↔ bitAt j.d.cores k = true))
  ∧ (∀ (s : State) (j : Job) (cores : List Nat), s.flag F.SCH_CTRL_EN = true → s.flag F.SYS_STRICT_STRICT = false → j.ctx < 64 →
      topJob s true = some j → placeJob s j = some cores → j.d.crown = true → j.d.plen = 0 →
      (∀ k ∈ cores, retainedFor s j.ctx ((spBase k + j.d.pbase) / 0x1000) = true) →
      ∃ t, exec (.jobDispatch false) s = .next t
        ∧ (∀ k ∈ cores, t.fld (F.CRN_STATE_STATE k) = uRunning ∧ t.fld (F.CRN_STATE_CTX k) = j.ctx)
        ∧ ∃ x ∈ t.sched.jobs, x.id = j.id ∧ x.phase = .assigned ∧ x.cores = cores ∧ x.d = j.d)
  ∧ (∀ (s : State) (j : Job), s.flag F.SCH_CTRL_EN = true → s.flag F.SYS_STRICT_STRICT = false → j.ctx < 64 → topJob s false = some j →
      s.fld F.SPL_STATE_STATE = uIdle → j.d.crown = false →
      ∃ t, exec (.jobDispatch true) s = .next t ∧ t.fld F.SPL_STATE_STATE = uRunning ∧ t.fld F.SPL_STATE_CTX = j.ctx)
  ∧ (∀ (sap : Bool) (s : State), s.flag F.SCH_CTRL_EN = false ∨ topJob s (!sap) = none → exec (.jobDispatch sap) s = .next s)
  ∧ (∀ (u : Fin 7) (s : State) (j : Job), jobOn s u .assigned = some j → ctxState s j.ctx ≠ ctxTearing → (∀ k ∈ j.cores, k < 6) → j.cores.Nodup →
      ∃ t, exec (.jobStart u) s = .next t ∧ t.mem = s.mem
        ∧ (∀ k ∈ j.cores, (t.core k).pc = j.d.pbase ∧ (t.core k).loops = [] ∧ (t.core k).s = ({} : Crown).s ∧ t.fld (F.CRN_FLAGS_SAT_DZ_ACCF_SCLR k) = 0)
        ∧ (j.sap = true → t.fld F.SPL_DESC_LO_ADDR_LO = j.d.paddr % 2 ^ 32 ∧ t.fld F.SPL_DESC_HI_ADDR_HI = j.d.paddr / 2 ^ 32 % 2 ^ 16)
        ∧ ∀ x ∈ t.sched.jobs, x.id = j.id → x.phase = .running ∧ x.start = some s.ns)
  ∧ ∀ (u : Fin 7) (s : State), jobOn s u .assigned = none → exec (.jobStart u) s = .next s

/-- A job seals, waits for its signals, misses its deadline, is switched to its sprout, or ends in a teardown (12_jobs_scheduling.md, 13_growth_rings.md). -/
def Obligations.JobsEnd : Prop :=
  (∀ (u : Fin 7) (s : State) (j : Job), Calm s → endedJob s u .running = some j → j.deadline = none → j.switchAt = none → j.ctx < 64 →
      (owedRings s j.ctx = [] → ∃ t, exec (.jobSeal u) s = .next t ∧ (∀ x ∈ t.sched.jobs, x.id ≠ j.id)
        ∧ t.fld (F.SCH_CTX_DONE_DONE j.ctx) = (s.fld (F.SCH_CTX_DONE_DONE j.ctx) + 1) % 2 ^ 32)
      ∧ (owedRings s j.ctx ≠ [] → exec (.jobSeal u) s = .next (modJob j.id (fun j => { j with phase := .sealWait, sealSince := s.elapsed }) s)))
  ∧ (∀ (u : Fin 7) (s : State), Calm s → endedJob s u .running = none → endedJob s u .sealWait = none →
      exec (.jobSeal u) s = .next s ∧ exec (.sealwaitExpiry u) s = .next s)
  ∧ (∀ (u : Fin 7) (s : State) (j : Job), Calm s → endedJob s u .sealWait = some j → j.deadline = none → j.switchAt = none → j.ctx < 64 →
      (s.passed j.sealSince (s.fld F.GRN_SEALWAIT_LIMIT) = true → ∃ t, exec (.sealwaitExpiry u) s = .next t ∧ (∀ x ∈ t.sched.jobs, x.id ≠ j.id)
        ∧ t.fld (F.SCH_CTX_DONE_DONE j.ctx) = (s.fld (F.SCH_CTX_DONE_DONE j.ctx) + 1) % 2 ^ 32)
      ∧ (s.passed j.sealSince (s.fld F.GRN_SEALWAIT_LIMIT) = false → exec (.sealwaitExpiry u) s = .next s))
  ∧ (∀ (ctx : BitVec 6) (s : State) (j : Job), Calm s → s.flag (F.SCH_CTX_CFG_SAFE ctx.toNat) = false → lateJob s ctx.toNat = some j →
      ∃ t, exec (.deadlineReached ctx) s = .next t ∧ LastEvent t 0x4003 0 ∧ t.mem = s.mem ∧ (∀ x ∈ t.sched.jobs, x.id = j.id → x.late = true)
        ∧ t.fld (F.SCH_CTX_MISS_MISS ctx.toNat) = min (s.fld (F.SCH_CTX_MISS_MISS ctx.toNat) + 1) 0xFFFF)
  ∧ (∀ (ctx : BitVec 6) (s : State), Calm s → lateJob s ctx.toNat = none → exec (.deadlineReached ctx) s = .next s)
  ∧ (∀ (ctx : BitVec 6) (s : State) (j : Job), let c := ctx.toNat
      s.sched.jobs.find? (fun j => j.ctx = c && j.phase ≠ .stopping && pastNs s j.switchAt) = some j → ctxState s c = ctxActive →
      s.flag (F.SCH_CTX_SPROUT_LO_VALID c) = true → j.dispatched = true →
      ∃ t, exec (.switchPoint ctx) s = .next t ∧ LastEvent t 0x4004 0 ∧ t.mem = s.mem ∧ ∀ x ∈ t.sched.jobs, x.id = j.id → x.phase = .stopping)
  ∧ (∀ (ctx : BitVec 6) (s : State), (∀ j ∈ s.sched.jobs, j.switchAt = none) → exec (.switchPoint ctx) s = .next s)
  ∧ (∀ (ctx : BitVec 6) (s : State), let c := ctx.toNat
      ctxState s c = ctxTearing → (∀ e ∈ s.sched.loss, e.1 ≠ c) → (s.sched.jobs.map Job.id).Nodup →
      ∃ t, exec (.teardownComplete ctx) s = .next t ∧ (∀ j ∈ t.sched.jobs, j.ctx ≠ c) ∧ LastEvent t 0x4001 0
        ∧ ctxState t c = if s.flag (F.SCH_CTX_CFG_EN c) = true then ctxFaulted else ctxDisabled)
  ∧ ∀ (ctx : BitVec 6) (s : State), ctxState s ctx.toNat ≠ ctxTearing → exec (.teardownComplete ctx) s = .next s

/-- A served record does its command's work on the directory and the pool, and completes with the status of R197 (08_attention_kv_pages.md). -/
def Obligations.PageKeeperCommands : Prop :=
  ∀ (ctx : BitVec 6) (raw : List Byte) (s u : State), let c := ctx.toNat
    (Served c 1 raw s u → s.kvp.seqs.length < 4096 → ∃ (t v : State) (h : Nat), exec (.seqNew ctx) s = .next t ∧ (∀ q ∈ s.kvp.seqs, q.h ≠ h) ∧ h < 4096
      ∧ t = recordDone c 1 h raw s v ∧ v.kvp.seqs = s.kvp.seqs ++ [⟨h, c, 0, [], (recField raw 1 1).testBit 1, posterOf (taken c u) c⟩] ∧ v.mem = u.mem ∧ v.regs = u.regs)
    ∧ (∀ q, Served c 2 raw s u → kvpSeq s c (recField raw 22 2) = some q → recField raw 4 4 ≤ q.len → s.kvp.seqs.length < 4096 →
      kvpEntries s + (firstRuns (recField raw 4 4) q.runs).length ≤ 2 ^ 20 → (∀ x ∈ firstRuns (recField raw 4 4) q.runs, (kvPage s x.1).ref < 65535) →
      ∃ (t v : State) (h : Nat), exec (.seqGraft ctx) s = .next t ∧ (∀ q ∈ s.kvp.seqs, q.h ≠ h) ∧ t = recordDone c 1 h raw s v
      ∧ v.kvp.seqs = s.kvp.seqs ++ [⟨h, c, recField raw 4 4, firstRuns (recField raw 4 4) q.runs, (recField raw 1 1).testBit 1, posterOf (taken c u) c⟩]
      ∧ v.kvp.pages = (s.kvp.pages.map fun p => if p.pg ∈ (firstRuns (recField raw 4 4) q.runs).map (·.1) then { p with ref := p.ref + 1 } else p)
      ∧ v.mem = u.mem)
    ∧ (∀ q x, let n := recField raw 4 4
      Served c 3 raw s u → kvpSeq s c (recField raw 2 2) = some q → q.runs.getLast? = some x → (kvPage s x.1).ref < 2 → 4 ≤ recField raw 20 1 →
      recField raw 20 1 ≤ 12 → 0 < n → n + x.2 ≤ (kvPage s x.1).toks → n ≤ 4096 → q.len + n ≤ 131072 → recField raw 8 6 % 4 = 0 → kvpEntries s ≤ 2 ^ 20 →
      (∀ e ∈ s.kvp.exec, e.ctx ≠ c) → (∀ r ∈ s.kvp.seqs, r.h = q.h → r = q) →
      ∀ tags v, nocRead kvpOid c (recField raw 8 6) (4 * n) (taken c u) = (some tags, v) → v.kvp = (taken c u).kvp →
      ∃ t, exec (.kvpExtend ctx) s = .next t
        ∧ t.kvp.seqs = (s.kvp.seqs.map fun r => if r.h = q.h then { q with len := q.len + n, runs := q.runs.dropLast ++ [(x.1, x.2 + n)] } else r)
        ∧ t.kvp.exec = s.kvp.exec ∧ t.kvp.pages = s.kvp.pages)
    ∧ (∀ q slot bs v, let d := kvpDim (taken c u)
      Served c 4 raw s u → kvpSeq s c (recField raw 2 2) = some q → recField raw 4 4 = 1 → recField raw 18 2 = 1 → (seqSlots q)[recField raw 24 4]? = some slot →
      recField raw 24 4 < q.len → recField raw 16 2 < kvpStreams (taken c u) → recField raw 8 6 % 64 = 0 → (∀ p ∈ s.kvp.pages, p.ref < 2) →
      nocRead kvpOid c (recField raw 8 6) ((2 * d + 4 + 63) / 64 * 64) (taken c u) = (some bs, v) → kvpDim v = d → bs.length = (2 * d + 4 + 63) / 64 * 64 →
      exec (.kvpWrite ctx) s = .next (recordDone c 1 0 raw s
        (setSlot c slot (recField raw 16 2) (bs.take d) ((bs.drop d).take d) ((bs.drop (2 * d)).take 4) v)))
    ∧ (∀ q w v, let bs := (List.range (recField raw 28 2)).flatMap fun i => gatherRecord w q (recField raw 16 2) (recField raw 24 4 + i)
      Served c 5 raw s u → kvpSeq s c (recField raw 2 2) = some q → recField raw 16 2 < kvpStreams (taken c u) → 0 < recField raw 28 2 →
      recField raw 28 2 ≤ 256 → recField raw 24 4 + recField raw 28 2 ≤ ((chunkView q).length + 7) / 8 → recField raw 8 6 % 64 = 0 →
      inScratch (recField raw 8 6) (recField raw 28 2 * (0x1880 + 0x40 * kvpDim (taken c u))) = true →
      readTags c (recField raw 24 4) (recField raw 28 2) q (taken c u) = (true, w) → nocWrite kvpOid c (recField raw 8 6) bs w = (true, v) → v.kvp = u.kvp →
      exec (.kvpGather ctx) s = .next (recordDone c 1 0 raw s v))
    ∧ (∀ q, let n := recField raw 4 4
      Served c 6 raw s u → NoneWaits s → kvpSeq s c (recField raw 2 2) = some q → n ≤ q.len →
      ∃ t v, exec (.kvpTrunc ctx) s = .next t ∧ t = recordDone c 1 0 raw s v ∧ v.mem = u.mem
        ∧ v.kvp.seqs = s.kvp.seqs.map fun r => if r.h = q.h then { q with len := n, runs := firstRuns n q.runs } else r)
    ∧ (∀ q, Served c 7 raw s u → NoneWaits s → kvpSeq s c (recField raw 2 2) = some q →
      ∃ t v, exec (.kvpFree ctx) s = .next t ∧ t = recordDone c 1 0 raw s v ∧ v.mem = u.mem ∧ v.kvp.seqs = s.kvp.seqs.filter fun r => r.h ≠ q.h)
    ∧ (kvpSeq s c (recField raw 2 2) = none →
      (Served c 4 raw s u → exec (.kvpWrite ctx) s = .next (recordDone c 0x81 0 raw s (taken c u)))
      ∧ (Served c 6 raw s u → exec (.kvpTrunc ctx) s = .next (recordDone c 0x81 0 raw s (taken c u)))
      ∧ (Served c 7 raw s u → exec (.kvpFree ctx) s = .next (recordDone c 0x81 0 raw s (taken c u))))
    ∧ (suspectWords s dirBase 0x200000 = [] → kvpNext s ≠ some c → exec (.seqNew ctx) s = .next s ∧ exec (.kvpWrite ctx) s = .next s ∧ exec (.kvpExtend ctx) s = .next s)

/-- An EXTEND in execution has its pages zeroed, retries its allocation, or starves; completing a record moves HEAD; a quota that over-reserves the pool is refused (08_attention_kv_pages.md). -/
def Obligations.PageKeeperWaiting : Prop :=
  (∀ (ctx : BitVec 6) (s : State) (e : KvExec), s.kvp.exec.find? (fun e => e.ctx = ctx.toNat) = some e →
      (∀ pg p rest, (∀ e ∈ s.kvp.exec, e.asked = false) → e.zero = pg :: p :: rest →
        (clearTurn s (.page pg) = false → exec (.pageZeroed ctx) s = .next s)
        ∧ (clearTurn s (.page pg) = true → ∃ t, exec (.pageZeroed ctx) s = .next t
          ∧ t.kvp.pages = (s.kvp.pages.map fun p => if p.pg = pg then { p with zeroing := false } else p) ∧ t.kvp.seqs = s.kvp.seqs
          ∧ ∀ x ∈ t.kvp.exec, x.ctx = e.ctx → x = { e with zero := p :: rest }))
      ∧ (e.wait ≠ none → e.asked = false → e.cowNeed = none → e.left ≠ 0 → (∀ x ∈ s.kvp.exec, x.ctx ≠ e.ctx → x.wait = none ∧ x.asked = false) →
        (∀ x ∈ s.kvp.exec, x.ctx = e.ctx → x = e) →
        (allocSized e.ctx (nextSize e.left e.psz) s 9 = none →
          exec (.allocationRetry ctx) s = .next (setExec { e with wait := some (max 1 (nextSize e.left e.psz / 64)) } s))
        ∧ (∀ pg got v, allocSized e.ctx (nextSize e.left e.psz) s 9 = some (pg, got, v) → e.left ≤ got → kvpEntries v + e.pages.length + 1 ≤ 2 ^ 20 →
          exec (.allocationRetry ctx) s
            = .next (setExec { e with wait := none, left := 0, pages := e.pages ++ [(pg, e.left)], zero := e.zero ++ [pg] } v)))
      ∧ (e.wait = none → e.asked = false → exec (.allocationRetry ctx) s = .next s ∧ exec (.kvpWaitlimExpiry ctx) s = .next s)
      ∧ (∀ need, e.wait = some need →
        (s.passed e.since (s.fld F.KVP_WAITLIM_LIMIT) = false → exec (.kvpWaitlimExpiry ctx) s = .next s)
        ∧ (s.passed e.since (s.fld F.KVP_WAITLIM_LIMIT) = true → e.asked = false → e.pages = [] → e.cow = none → e.cowNeed = none → e.left ≠ 0 →
          (∀ x ∈ s.kvp.exec, x = e) → allocSized e.ctx (nextSize e.left e.psz) s 9 = none →
          ∃ t, exec (.kvpWaitlimExpiry ctx) s = .next t ∧ LastEvent t 0x5002 0x1A ∧ ∀ x ∈ t.kvp.exec, x.ctx ≠ e.ctx)))
  ∧ (∀ (s : State) (e f : KvExec), s.kvp.exec = [f, e] → e.ctx < f.ctx → f.ctx < 64 → (∀ x ∈ [e, f], x.wait ≠ none ∧ x.asked = false ∧ x.cowNeed = none ∧ x.left ≠ 0) →
      ∀ pg got v, allocSized e.ctx (nextSize e.left e.psz) s 9 = some (pg, got, v) → e.left ≤ got → kvpEntries v + e.pages.length + 1 ≤ 2 ^ 20 →
      let u := setExec { e with wait := none, left := 0, pages := e.pages ++ [(pg, e.left)], zero := e.zero ++ [pg] } v
      allocSized f.ctx (nextSize f.left f.psz) u 9 = none → (pickPlace s f.ctx (nextSize f.left f.psz)).isSome = true →
      ∃ t, exec (.allocationRetry (BitVec.ofNat 6 f.ctx)) s = .next t ∧ LastEvent t 0x5001 0x1A ∧ (∃ r, t.evq.hist.getLast? = some r ∧ r.ctx = f.ctx ∧ r.a3 = 1)
        ∧ t.kvp.pages = v.kvp.pages)
  ∧ (∀ (ctx : BitVec 6) (s : State), (∀ e ∈ s.kvp.exec, e.ctx ≠ ctx.toNat) →
      exec (.pageZeroed ctx) s = .next s ∧ exec (.allocationRetry ctx) s = .next s ∧ exec (.kvpWaitlimExpiry ctx) s = .next s)
  ∧ (∀ (c : Fin 64) (st res : Nat) (r : KvRec) (s : State),
      (kvpComplete c st res r s).fld (F.KVP_CQ_HEAD_HEAD c) = (s.fld (F.KVP_CQ_HEAD_HEAD c) + 1) % 2 ^ 32
      ∧ { (kvpComplete c st res r s).kvp with posts := s.kvp.posts } = s.kvp)
  ∧ (∀ (oid : BitVec 10) (ctx : BitVec 6) (n : Fin 64) (data : BitVec 32) (s : State), Admitted oid ctx (Reg.KVP_CQ_QUOTA n) s → oid.toNat ≤ 1 →
      s.flag F.KVP_LOCK_LOCK = false → s.flag F.KVP_CTRL_EN = false →
      exec (.kvpQuotaWrite oid ctx n data) s = .next (obeyed oid (quotaWrite n data.toNat s)))
  ∧ ∀ (n : Fin 64) (data : BitVec 32) (s : State),
      let sum := ((List.range 64).map fun k => if k = n.val then data.toNat % 2 ^ 14 * 16 else s.fld (F.KVP_CQ_QUOTA_MIN16 k) * 16).sum
      (sum ≤ kvpChunks s - 1 ∨ data.toNat % 2 ^ 14 ≤ s.fld (F.KVP_CQ_QUOTA_MIN16 n) → quotaWrite n data.toNat s
        = (s.put (F.KVP_CQ_QUOTA_MIN16 n) (data.toNat % 2 ^ 14)).put (F.KVP_CQ_QUOTA_MAX16 n) (data.toNat / 2 ^ 16 % 2 ^ 14))
      ∧ (kvpChunks s - 1 < sum → s.fld (F.KVP_CQ_QUOTA_MIN16 n) < data.toNat % 2 ^ 14 →
        LastEvent (quotaWrite n data.toNat s) 0x5006 0x1A ∧ ∀ k, (quotaWrite n data.toNat s).reg (Reg.KVP_CQ_QUOTA k) = s.reg (Reg.KVP_CQ_QUOTA k))

/-- A legal descriptor of Sapling is executed and completes with its writeback and the next descriptor; a failing one stops the list (09_sapling_engine.md). -/
def Obligations.SaplingDescriptors : Prop :=
  (∀ (d : List Byte) (s u : State),
    (Fetched 1 (fun _ d => convChecks d) d s u → ∀ o n v, doConv d (startDesc d u) = (.inr (o, n), v) → exec .splConv s = .next (splComplete d 1 o n false v))
    ∧ (Fetched 2 (fun _ d => poolChecks d) d s u → ∀ o n v, doPool d (startDesc d u) = (.inr (o, n), v) → exec .splPool s = .next (splComplete d 2 o n false v))
    ∧ (Fetched 3 (fun _ d => rsmpChecks d) d s u → ∀ o n v, doRsmp d (startDesc d u) = (.inr (o, n), v) → exec .splRsmp s = .next (splComplete d 3 o n false v))
    ∧ (Fetched 4 (fun _ d => decodeChecks d) d s u → ∀ o n v, doDecode d (startDesc d u) = (.inr (o, n), v) → exec .splDecode s = .next (splComplete d 4 o n true v))
    ∧ (Fetched 5 nmsChecks d s u → ∀ o n v, doNms d (startDesc d u) = (.inr (o, n), v) → exec .splNms s = .next (splComplete d 5 o n false v))
    ∧ (Fetched 6 (fun _ d => [zeroBytes d 32 111]) d s u → exec .splNop s = .next (splComplete d 6 0 0 false (startDesc d u)))
    ∧ (Fetched 0 (fun _ d => [zeroBytes d 32 111]) d s u → exec .splEnd s = .next (splEnded (startDesc d u))))
  ∧ (∀ (d : List Byte) (opc ovf count : Nat) (dec : Bool) (s w : State), (dField d 1 1).testBit 1 = false → dField d 2 1 = 0 → splDesc s + 128 < 2 ^ 48 →
      writeback 1 ovf count s = (none, w) →
      let t := splComplete d opc ovf count dec s
      splDesc t = splDesc s + 128 ∧ t.reg64 Reg.SPL_DONE_LO = (w.reg64 Reg.SPL_DONE_LO + 1) % 2 ^ 64 ∧ t.mem = w.mem
        ∧ t.spl.held = none ∧ t.spl.prevCount = if dec = true then some count else none)
  ∧ (∀ (status ovf count : Nat) (s : State), writeback status ovf count s = netWrite splOid (splCtx s) (splDesc s + 112)
        (leBytes 1 status ++ leBytes 1 ovf ++ [0, 0] ++ leBytes 4 (s.fld F.SPL_FLAGS_SAT_DZ_ACCF_SCLR) ++ leBytes 4 count ++ leBytes 4 (s.freeNat).1) (s.freeNat).2)
  ∧ (∀ (d : List Byte) (s u : State) (cause w3 : Nat), splRuns s = true → s.spl.wait = none → s.spl.held = none → splDesc s % 128 = 0 →
      netRead splOid (splCtx s) (splDesc s) 128 s = (.inr d, u) → dField d 0 1 = 6 → firstFail (headerChecks d ++ [zeroBytes d 32 111]) = some (cause, w3) →
      ∃ t, exec .splNop s = .next t ∧ t.spl.halted = true ∧ LastEvent t 0x400B 0x18)
  ∧ (∀ (d : List Byte) (s u : State), splRuns s = true → s.spl.wait = none → s.spl.held = none → s.spl.passed = false → splDesc s % 128 = 0 →
      netRead splOid (splCtx s) (splDesc s) 128 s = (.inr d, u) → u.spl = s.spl → dField d 0 1 = 6 →
      firstFail (headerChecks d ++ [zeroBytes d 32 111]) = none → (dField d 1 1).testBit 0 = true →
      netRingRead (dField d 8 2) splOid (splCtx s) (startDesc d u) = (true, startDesc d u) →
      reached (ringVal (startDesc d u) (dField d 8 2)) (dField d 4 4) = false →
      exec .splNop s = .next ((startDesc d u).setSpl { u.spl with held := some d, wait := some (dField d 8 2, dField d 4 4) }))
  ∧ (∀ (d : List Byte) (s : State), splRuns s = true → s.spl.wait = none → s.spl.held = some d → s.spl.passed = true → dField d 0 1 = 6 →
      firstFail (headerChecks d ++ [zeroBytes d 32 111]) = none → exec .splNop s = .next (splComplete d 6 0 0 false s))
  ∧ ∀ s, splRuns s = false → exec .splConv s = .next s ∧ exec .splPool s = .next s ∧ exec .splRsmp s = .next s ∧ exec .splDecode s = .next s ∧ exec .splNms s = .next s ∧ exec .splNop s = .next s ∧ exec .splEnd s = .next s

/-- The codes of CONV, POOL and RSMP, the candidates of DECODE and the boxes NMS keeps are those of the rules (09_sapling_engine.md). -/
def Obligations.SaplingResults : Prop :=
  (∀ (d : List Byte) (g : Geo) (k : Conv) (w par tab : Array Byte) (r : Rows) (y x o : Nat), k.act = 0 →
      let zin : Int := (dField d 52 1 : Int) - 128
      let wt (t : Nat) : Int := (w.getD (o * tPad g k + t) 0).toInt
      let word (i : Nat) : Nat := leNat ((List.range 4).map fun j => par.getD (8 * o + i + j) 0)
      let v : Int := ((List.range k.kh).map fun ky => ((List.range k.kw).map fun kx => ((List.range g.cin).map fun ci =>
        (convIn g k zin r ((y * k.sy + ky * k.dy : Nat) - (k.pt : Int)) ((x * k.sx + kx * k.dx : Nat) - (k.pl : Int)) ci - zin)
          * wt ((ky * k.kw + kx) * g.cin + ci)).sum).sum).sum + sextN (word 4) 32
      let sc := (smul (smul (Scale.ofWord (dField d 56 4)) (Scale.ofWord (word 0))).1 (Scale.ofWord (dField d 60 4))).1
      (convCode d g k w par tab r y x o).1 = (sat ((rescale v sc.m sc.e 32).1 + ((dField d 53 1 : Int) - 128)) 8).1)
  ∧ (∀ (d : List Byte) (g : Geo) (r : Rows) (y x ch : Nat), 2 * y + 1 < g.hin → 2 * x + 1 < g.win →
      let c (i j : Nat) : Int := codeAt r g.cin (2 * y + i) (2 * x + j) ch
      (dField d 48 1 = 8 → poolCode d g r y x ch = (max (max (c 0 0) (c 0 1)) (max (c 1 0) (c 1 1)), fNone))
      ∧ (dField d 48 1 = 12 → poolCode d g r y x ch = rdiv (c 0 0 + c 0 1 + c 1 0 + c 1 1) 4 8)
      ∧ (dField d 48 1 = 2 → rsmpCode d g r y x ch = (c 0 0, fNone)))
  ∧ (∀ (d : List Byte) (g : Geo) (r : Rows) (y x ch : Nat), y / 2 < g.hin → x / 2 < g.win → dField d 48 1 = 0 →
      rsmpCode d g r y x ch = (codeAt r g.cin (y / 2) (x / 2) ch, fNone))
  ∧ (∀ (scores : List Int) (thr : Int), (∀ v ∈ scores, -128 ≤ v ∧ v ≤ 127) → -128 ≤ thr → thr ≤ 127 →
      (∀ k v, (k, v) ∈ candidates scores thr ↔ scores[k]? = some v ∧ thr ≤ v)
      ∧ (candidates scores thr).Pairwise fun a b => b.2 < a.2 ∨ a.2 = b.2 ∧ a.1 < b.1)
  ∧ (∀ (kmax tn : Nat) (cls : Bool) (recs : List (List Byte)),
      let kept := nmsKeep kmax tn cls recs []
      kept.length ≤ kmax ∧ kept.Sublist recs ∧ kept.Pairwise (fun a b => suppresses tn cls (Box.of a) (Box.of b) = false)
      ∧ (kept.length < kmax → ∀ r ∈ recs, r ∈ kept ∨ ∃ k ∈ kept, suppresses tn cls (Box.of k) (Box.of r) = true))
  ∧ ∀ b c : Box, b.area = (if b.x1 < b.x2 ∧ b.y1 < b.y2 then (b.x2 - b.x1) * (b.y2 - b.y1) else 0)
      ∧ (suppresses 0 false b c = true → 0 < min b.x2 c.x2 - max b.x1 c.x1 ∧ 0 < min b.y2 c.y2 - max b.y1 c.y1)

/-- Refresh, temperature, scrub, row test, repair, march and bulk clear do their rule's work, and SECDED corrects one bit and never miscorrects two (14_memory_system.md). -/
def Obligations.MemoryEngines : Prop :=
  (∀ i j : Fin 64, eccDecode (eccColumns.getD i 0) = .data i ∧ (i ≠ j → eccDecode (eccColumns.getD i 0 ^^^ eccColumns.getD j 0) = .bad))
  ∧ (∀ (k : Fin 4) (cycles : BitVec 32) (s : State), ∃ t, exec (.dramRefresh k cycles) s = .next t ∧ t.mem = s.mem
      ∧ t.reg64 (Reg.DRC_REFCYC_LO k) = if s.flag (F.DRC_STAT_INIT k) = true then (s.reg64 (Reg.DRC_REFCYC_LO k) + cycles.toNat) % 2 ^ 64
        else s.reg64 (Reg.DRC_REFCYC_LO k))
  ∧ (∀ (k : Fin 4) (temp : BitVec 8) (s : State), ∃ t, exec (.stackTemperatureCrossing k temp) s = .next t ∧ t.mem = s.mem ∧ t.fld (F.DRC_STAT_TEMP k) = temp.toNat
      ∧ t.fld (F.DRC_STAT_X2 k) = (if 85 < temp.toNat then (if s.flag (F.DRC_STAT_X2 k) = true then s.fld (F.DRC_STAT_X2 k) else 1)
        else if temp.toNat < 82 then 0 else s.fld (F.DRC_STAT_X2 k))
      ∧ (85 < temp.toNat → s.flag (F.DRC_STAT_X2 k) = false → LastEvent t 0x2006 0x38))
  ∧ (∀ (g : BitVec 29) (s : State), let a := g.toNat * 256
      a < 0x1800000000 →
      (s.flag (F.DRC_SCRUB_HOURS (dramChan a / 32)) = false → exec (.patrolScrub g {}) s = .next s)
      ∧ (s.flag (F.DRC_SCRUB_HOURS (dramChan a / 32)) = true → suspectWords s a 256 = [] →
        exec (.patrolScrub g {}) s = .next (s.inc64 (Reg.DRC_RDBYTES_LO (dramChan a / 32)) 256))
      ∧ (∀ w k, s.flag (F.DRC_SCRUB_HOURS (dramChan a / 32)) = true → suspectWords s a 256 = [w] → w % 8 = 0 → w < 0x1800000000 → eccDecode (synd s w) = .data k →
        ∃ t, exec (.patrolScrub g {}) s = .next t ∧ synd t w = 0
          ∧ ∀ b, t.byte b = if b = w + k / 8 then s.byte b ^^^ BitVec.ofNat 8 (2 ^ (k % 8)) else s.byte b))
  ∧ (∀ s : State, (s.flag F.MEM_BGCTRL_EN = false → exec (.backgroundRowTest []) s = .next s)
      ∧ (s.flag F.MEM_BGCTRL_EN = true → s.memsys.synd = [] → exec (.backgroundRowTest []) s = .next
        (let t := s.setMs { s.memsys with bgRow := s.memsys.bgRow + 1 }
          if t.memsys.bgRow % bgRows = 0 then t.inc64 Reg.MEM_BGPASS_LO else t)))
  ∧ (∀ m r : Nat, macRows m ≠ 0 → r < macRows m → ∃ p, place (rowAddr m r) = some p ∧ macOf p = m ∧ rowOf p = r)
  ∧ (∀ s : State, (s.memsys.repairs = [] → exec .softRepairComplete s = .next s)
      ∧ ∀ r rest, s.memsys.repairs = r :: rest → suspectWords s r.row 64 = [] →
        ∃ t, exec .softRepairComplete s = .next t ∧ t.memsys.repairs = rest ∧ t.mem = s.mem ∧ LastEvent t 0x2003 0x38)
  ∧ (∀ s : State, let n := s.fld F.MEM_TSEL_MACRO
      let ok := if s.flag F.MEM_TSEL_FORM = true then macRows n ≠ 0 ∧ n / 0x1000 ≠ 5 ∧ n / 0x1000 ≠ 7 else groupLost s n = true
      (ok ∧ s.flag F.MEM_TSTAT_BUSY = false → exec .memoryTestRequest s
        = .next ((s.put F.MEM_TSTAT_BUSY 1).setMs { s.memsys with test := some ⟨n, s.flag F.MEM_TSEL_FORM, s.fld F.MEM_TSEL_BGS⟩ }))
      ∧ (¬ (ok ∧ s.flag F.MEM_TSTAT_BUSY = false) → exec .memoryTestRequest s = .next (s.put F.MEM_TSTAT_REFUSED 1)))
  ∧ (∀ s : State, (s.memsys.test = none → exec (.memoryTestComplete []) s = .next s)
      ∧ ∀ x, s.memsys.test = some x → ∃ t, exec (.memoryTestComplete []) s = .next t ∧ t.flag F.MEM_TSTAT_BUSY = false ∧ t.flag F.MEM_TSTAT_DONE = true
        ∧ t.memsys.test = none ∧ (x.preserving = true → s.memsys.synd = [] → t.mem = s.mem)
        ∧ (x.preserving = false → x.target % 0x1000 < 6 → ∀ a, spBase (x.target % 0x1000) ≤ a → a < spBase (x.target % 0x1000) + spSize → t.byte a = 0)
        ∧ (x.preserving = false → x.target % 0x1000 < 6 → (t.core (x.target % 0x1000)).acc = []))
  ∧ ∀ s : State, let a := s.fld F.MEM_BCLR_ADDR_LO_ADDR_LO * 0x200000 + s.fld F.MEM_BCLR_ADDR_HI_ADDR_HI * 2 ^ 32
      let n := s.fld F.MEM_BCLR_LEN_LEN
      (s.flag F.MEM_BCLR_STAT_BUSY = true → exec .bulkClear s = .next s)
      ∧ (s.flag F.MEM_BCLR_STAT_BUSY = false → 0 < n → a + n * 0x200000 ≤ 0x1800000000 → s.flag F.KVP_CTRL_EN = false → s.sched.change = none →
        (∀ i < n, ownerOf s (a / 0x200000 + i) = 64) →
        ∃ t, exec .bulkClear s = .next t ∧ t.memsys.clears = s.memsys.clears ++ [⟨a, n * 0x200000, .role 0⟩] ∧ t.flag F.MEM_BCLR_STAT_BUSY = true
          ∧ (∀ x, t.byte x = if a ≤ x ∧ x < a + n * 0x200000 then 0 else s.byte x)
          ∧ ∀ k : Fin 4, t.reg64 (Reg.DRC_WRBYTES_LO k) = (s.reg64 (Reg.DRC_WRBYTES_LO k) + n * 0x80000) % 2 ^ 64)
      ∧ (s.flag F.MEM_BCLR_STAT_BUSY = false → n = 0 ∨ 0x1800000000 < a + n * 0x200000 ∨ (∃ i < n, ownerOf s (a / 0x200000 + i) ≠ 64) →
        exec .bulkClear s = .next (s.put F.MEM_BCLR_STAT_ERR 1))
      ∧ (s.memsys.clears = [] → exec .bulkClearComplete s = .next s)
      ∧ (∀ c rest oid, s.memsys.clears = c :: rest → c.who = .role oid → ∃ t, exec .bulkClearComplete s = .next t ∧ t.memsys.clears = rest
        ∧ t.mem = s.mem ∧ t.flag F.MEM_BCLR_STAT_BUSY = false ∧ LastEvent t 0x2008 0x38)
      ∧ ∀ c rest, s.memsys.clears = c :: rest → (∀ oid, c.who ≠ .role oid) → exec .bulkClearComplete s = .next s

/-- A frame start puts a sample in flight, its lines are gathered, its end makes the sample ready, and the sample emerges with its record (11_seedbed_input.md). -/
def Obligations.FramesBecomeSamples : Prop :=
  (∀ (rx : Fin 12) (vc : BitVec 4) (num : BitVec 16) (ecc : Fin 3) (s : State), rxOn s rx = false → exec (.csiFrameStart rx vc num ecc) s = .next s)
  ∧ (∀ (rx : Fin 12) (vc : BitVec 4) (num : BitVec 16) (s : State), rxOn s rx = true → openFrame s rx vc.toNat = none → claimant s rx vc.toNat = none →
      exec (.csiFrameStart rx vc num 0) s = .next ((s.incMod (F.CSI_FRAMES_CNT rx)).incHold (F.CSI_PAYERR_VCDROP rx))
      ∧ exec (.csiFrameStart rx vc num 1) s = .next (((s.incHold (F.CSI_HDRERR_ECCCOR rx)).incMod (F.CSI_FRAMES_CNT rx)).incHold (F.CSI_PAYERR_VCDROP rx)))
  ∧ (∀ (rx : Fin 12) (vc : BitVec 4) (num : BitVec 16) (s : State), rxOn s rx = true →
      (openFrame s rx vc.toNat = none → exec (.csiFrameStart rx vc num 2) s = .next (s.incHold (F.CSI_HDRERR_ECCUNC rx)))
      ∧ ∀ g, openFrame s rx vc.toNat = some g →
        (∃ t, exec (.csiFrameStart rx vc num 2) s = .next t ∧ openFrame t rx vc.toNat = some { g with bad := true } ∧ t.mem = s.mem
          ∧ (g.bad = false → LastEvent t 0xE005 0x19))
        ∧ ∀ ecc : Fin 3, ecc ≠ 2 → ∃ u, openFrame u rx vc.toNat = none ∧ u.mem = s.mem ∧ (g.bad = false → LastEvent u 0xE005 0x19)
          ∧ (claimant s rx vc.toNat = none → exec (.csiFrameStart rx vc num ecc) s = .next (u.incHold (F.CSI_PAYERR_VCDROP rx)))
          ∧ ∀ n, claimant s rx vc.toNat = some n → exec (.csiFrameStart rx vc num ecc) s
            = .next (countOthers rx vc.toNat n ((streamFrameStart rx vc.toNat num.toNat n u).put (F.CSI_STAT_INFRAME rx) 1)))
  ∧ (∀ (rx : Fin 12) (vc : BitVec 4) (num : BitVec 16) (ecc : Fin 3) (n : Nat) (tm : Nat) (s : State), let d := sdDesc s n
      let x := sdStream s n
      let trig := (leAt d 11 1).testBit 3
      rxOn s rx = true → ecc ≠ 2 → openFrame s rx vc.toNat = none → claimant s rx vc.toNat = some n → (leAt d 129 1).testBit 4 = false →
      (trig = false ∧ tm = s.ns) ∨ (trig = true ∧ ∃ i e, edgeOf d x s.time = some i ∧ x.edges[i]? = some e ∧ e.framed = false ∧ tm = e.t / 65536) →
      (x.row ≠ none ∧ sdPack d = true) ∨ hasCredit s d x = true →
      ∃ t f, exec (.csiFrameStart rx vc num ecc) s = .next t ∧ (sdStream t n).flights = (sdStream s n).flights ++ [f] ∧ t.mem = s.mem
        ∧ f.desc = d ∧ f.ready = false ∧ f.r.fcnt = (s.fld (F.SDB_STR_FCNT_CNT n) + 1) % 2 ^ 32 ∧ f.r.time = recTime tm ∧ f.r.num = num.toNat
        ∧ (sdStream t n).tp = false ∧ t.fld F.SDB_TPABN_CNT = (s.fld F.SDB_TPABN_CNT + ofBool x.tp) % 2 ^ 32
        ∧ f.st = (if layoutOk d = true then none else some 0x16) ∧ f.aug = (d.drop 88).take 32
        ∧ t.fld (F.SDB_STR_FCNT_CNT n) = (s.fld (F.SDB_STR_FCNT_CNT n) + 1) % 2 ^ 32 ∧ t.fld (F.SDB_STR_ADM_CNT n) = (s.fld (F.SDB_STR_ADM_CNT n) + 1) % 2 ^ 32
        ∧ t.flag (F.CSI_STAT_INFRAME rx) = true ∧ ∃ g, openFrame t rx vc.toNat = some g ∧ g.samp = some f.id ∧ g.stream = n ∧ g.desc = d)
  ∧ (∀ (rx : Fin 12) (vc : BitVec 4) (dt : BitVec 6) (payload : List Byte) (f : SdbFrame) (s : State), rxOn s rx = true → openFrame s rx vc.toNat = some f →
      cameraDt dt.toNat = true → payload.length = lineBytes (leAt f.desc 2 1) (leAt f.desc 4 2) → f.n < leAt f.desc 6 2 → f.bad = false → f.samp ≠ none →
      exec (.csiLongPacket rx vc dt 0 true true payload) s
        = .next (fillBuffers [rx] (setFrame { f with n := f.n + 1, crc := payload.foldl (crcByte 0x82F63B78) f.crc, lines := f.lines ++ [payload] } s))
      ∧ ∃ t, exec (.csiLongPacket rx vc dt 0 false true payload) s = .next t ∧ LastEvent t 0xE005 0x19 ∧ t.mem = s.mem
        ∧ t.fld (F.CSI_PAYERR_CRCERR rx) = min (s.fld (F.CSI_PAYERR_CRCERR rx) + 1) 0xFFFF)
  ∧ (∀ (rx : Fin 12) (vc : BitVec 4) (f : SdbFrame) (s : State), rxOn s rx = true → openFrame s rx vc.toNat = some f →
      ∃ t, exec (.csiFrameEnd rx vc 0) s = .next t ∧ openFrame t rx vc.toNat = none ∧ t.mem = s.mem
        ∧ (sdStream t f.stream).flights.length = (sdStream s f.stream).flights.length
        ∧ ∀ y ∈ (sdStream t f.stream).flights, some y.id = f.samp → y.ready = true)
  ∧ (∀ (n : Fin 16) (s : State) (st : Nat × Nat), let d := sdDesc s n
      s.flag (F.SDB_STR_CTRL_EN n) = true → sdHost d = false → (leAt d 11 1).testBit 3 = false → leAt d 144 4 ≠ 0 → (sdStream s n).start = some st →
      (s.passed st.2 (leAt d 144 4) = true → ∃ t, exec (.frameLate n) s = .next t ∧ LastEvent t 0xE002 0x19 ∧ (sdStream t n).start = none ∧ t.mem = s.mem)
      ∧ (s.passed st.2 (leAt d 144 4) = false → exec (.frameLate n) s = .next s))
  ∧ (∀ (n : Fin 16) (s v : State) (h : List Byte), let d := sdDesc s n
      let head := s.fld (F.SDB_STR_HEAD_CNT n)
      s.flag F.SDB_CTRL_EN = true → s.flag (F.SDB_STR_CTRL_EN n) = true → sdHost d = true → (sdStream s n).flights.length < 4 → hasCredit s d (sdStream s n) = true →
      0 < wrap ((ringVal s (leAt d 130 2) : Int) - head) 32 → nocRead 0x19 (sdCtx d) (leAt d 132 6 + head % 2 ^ (leAt d 129 1 % 16) * 64) 64 s = (some h, v) → v.sdb = s.sdb →
      (hostDescBad h = none → ∃ t f, exec (.hostSampleAdmission n) s = .next t ∧ (sdStream t n).flights = (sdStream s n).flights ++ [f] ∧ f.hdesc = h ∧ f.ready = true
        ∧ f.r.sid = leAt h 0 4 ∧ f.r.fcnt = head ∧ t.fld (F.SDB_STR_HEAD_CNT n) = (v.fld (F.SDB_STR_HEAD_CNT n) + 1) % 2 ^ 32
        ∧ t.fld (F.SDB_STR_ADM_CNT n) = (v.fld (F.SDB_STR_ADM_CNT n) + 1) % 2 ^ 32 ∧ t.mem = v.mem)
      ∧ (∀ o, hostDescBad h = some o → ∃ t, exec (.hostSampleAdmission n) s = .next t ∧ LastEvent t 0xE006 0x19 ∧ t.sdb = s.sdb))
  ∧ (∀ (n : Fin 16) (k : Nat) (f : SdbSample) (s : State), (sdStream s n).flights[k]? = some f → f.ready = true → f.strict = false → (sdStream s n).row = none →
      (∀ st, f.st = some st → st ≠ 0x10 → st ≠ 1 → ∃ t, exec (.sampleComplete n k) s = .next t ∧ LastEvent t 0xE001 0x19
        ∧ (sdStream t n).flights = (sdStream s n).flights.eraseIdx k ∧ t.fld (F.SDB_STR_RECWR_CNT n) = (s.fld (F.SDB_STR_RECWR_CNT n) + 1) % 2 ^ 32
        ∧ t.fld (F.SDB_STR_FAIL_CNT n) = (s.fld (F.SDB_STR_FAIL_CNT n) + 1) % 2 ^ 32)
      ∧ (∀ l v w, let q := sampleRows f.desc f.aug l
        let x := sdStream s n
        f.st = none → sampleInvalid f = false → sampleInput f s = (.inr l, v) → v.sdb = s.sdb → sdPack f.desc = false → sdPatch f.desc = 0 →
        writeRows (sdCtx f.desc) (leAt f.desc 16 6 + x.k % leAt f.desc 28 2 * leAt f.desc 24 4) (leAt f.desc 36 4) q.1 v = (true, w) → w.sdb = s.sdb →
        ∃ t, exec (.sampleComplete n k) s = .next t ∧ (sdStream t n).flights = x.flights.eraseIdx k ∧ (sdStream t n).k = x.k + 1
          ∧ t.fld (F.SDB_STR_EMIT_CNT n) = (w.fld (F.SDB_STR_EMIT_CNT n) + 1) % 2 ^ 32 ∧ t.fld (F.SDB_STR_RECWR_CNT n) = (w.fld (F.SDB_STR_RECWR_CNT n) + 1) % 2 ^ 32))
  ∧ (∀ (n : Fin 16) (k : Nat) (s : State), (∀ f, (sdStream s n).flights[k]? = some f → f.ready = false) → exec (.sampleComplete n k) s = .next s)
  ∧ ∀ (n : Fin 16) (s : State), let x := sdStream s n
      (x.tp = false → exec (.testPatternComplete n) s = .next s)
      ∧ (x.tp = true → ∃ t, exec (.testPatternComplete n) s = .next t ∧ (sdStream t n).tp = false ∧ t.mem = s.mem
        ∧ (tpCrc (sdDesc s n) = leAt (sdDesc s n) 156 4 → (sdStream t n).tpok = true ∧ t.flag (F.SDB_STR_STAT_TPBAD n) = false)
        ∧ (tpCrc (sdDesc s n) ≠ leAt (sdDesc s n) 156 4 → t.flag (F.SDB_STR_STAT_TPBAD n) = true ∧ LastEvent t 0xE004 0x19))
      ∧ (x.row = none → exec (.packTimeout n) s = .next s)
      ∧ (∀ w, x.row = some w → leAt w.desc 50 2 ≠ 0 → s.flag F.SYS_STRICT_STRICT = false → s.passed w.since (leAt w.desc 50 2) = true →
        ∃ t, exec (.packTimeout n) s = .next t ∧ (sdStream t n).row = none ∧ (sdStream t n).flights = x.flights)
      ∧ (∀ (oid : BitVec 10) (ctx : BitVec 6), Admitted oid ctx (Reg.SDB_STR_CTRL n) s → oid.toNat ≤ 1 → s.flag F.SDB_LOCK_LOCK = false →
        exec (.streamEnable ⟨oid, ctx, n⟩) s = .next (obeyed oid (enableStream n s)))
      ∧ (s.flag (F.SDB_STR_CTRL_EN n) = true → enableStream n s = s)
      ∧ (s.flag (F.SDB_STR_CTRL_EN n) = false → let t := enableStream n s
        t.flag (F.SDB_STR_CTRL_EN n) = true ∧ sdDesc t n = s.bytes (0x2022200000 + 0x100 * n.val) 256 ∧ (sdStream t n).flights = x.flights
        ∧ ∀ a, a < 0x2022000000 ∨ 0x2022180000 ≤ a → t.byte a = s.byte a)

/-- A submission is copied once, is ready only if every check of R329 holds, and its commit writes exactly the steps from the switch step into Cambium's buffer (15_heartwood_safety.md, 16_cambium_control.md, 01_light_to_torque.md). -/
def Obligations.GatePassesOnlyPlausibleChunks : Prop :=
  (∀ (ch : Fin 4) (s : State), Calm s → let n : Nat := ch
      (inRack s = true ∨ s.hwd.stopped = true ∨ s.flag (F.HWD_GCH_CFG_EN n) = false → exec (.gateSubmission ch) s = .next s)
      ∧ (inRack s = false → s.hwd.stopped = false → s.flag (F.HWD_GCH_CFG_EN n) = true → s.flag F.HWD_STATE_GATE = false →
        ∀ p u, gatePending n s = (p, u) → ∃ t, exec (.gateSubmission ch) s = .next t ∧ (gateChan t n).taken = (gateChan u n).taken + p ∧ t.mem = u.mem)
      ∧ (inRack s = false → s.hwd.stopped = false → s.flag (F.HWD_GCH_CFG_EN n) = true → s.flag F.HWD_STATE_GATE = true →
        ((gateChan s n).sub ≠ none → exec (.gateSubmission ch) s = .next s)
        ∧ ((gateChan s n).sub = none → ∀ p u, gatePending n s = (p, u) →
          (p = 0 → exec (.gateSubmission ch) s = .next u)
          ∧ (0 < p → let x := gateChan u n
            let a := gateSource u n x.taken
            let len := min (chunkSize (u.bytes a 64)) 65536
            let r := if gateSourceOk a len = true then nocRead hwdOid 0 a len u else (none, u)
            let y : GateSub := { raw := r.1.getD [], owned := gateSourceOk a len && pagesOwned u (u.fld (F.HWD_GCH_CFG_CTX n)) a len }
            exec (.gateSubmission ch) s = .next (gateReturn n 1 (setGate n { x with taken := x.taken + 1, sub := some y } r.2))))))
  ∧ (∀ (ch : Fin 4) (s : State) (x : GateSub), let n : Nat := ch
      let h := x.raw
      let axes := (List.range 128).filter fun a => bitAt (leAt h 32 16) a
      let pos (k i : Nat) : Int := leAtS h (64 + 8 * (k * axes.length + i))
      let vel (k i : Nat) : Int := leAtS h (68 + 8 * (k * axes.length + i))
      let t1 := completeTime s.ns (leAt h 8 8)
      Calm s → (gateChan s n).sub = some x → x.ready = none → 0 < s.fld F.CMB_PERIOD_PERUS →
      ∀ t ts sw, exec (.gateCheck ch) s = .next t → (gateChan t n).sub = some { x with ready := some (ts, sw) } →
        leAt h 0 2 = 1 ∧ 1 ≤ leAt h 2 2 ∧ leAt h 2 2 ≤ 8184 ∧ chunkSize h ≤ 65536 ∧ x.owned = true ∧ axes ≠ []
        ∧ (∀ a ∈ axes, bitAt (gateAxmap s n) a = true) ∧ leAt h 16 4 = s.fld (F.HWD_GCH_STEP_STEPUS n)
        ∧ ((gateChan s n).accepted = true → 0 < wrap ((leAt h 4 4 : Int) - s.fld (F.HWD_GCH_LASTSEQ_SEQ n)) 32)
        ∧ (∃ tf, frameTime s (leAt h 20 1) (leAt h 24 4) = some tf ∧ s.time ≤ (tf + s.fld F.HWD_GATECFG_AGEMAX * 1000) * 65536 ∧ tf ≤ t1)
        ∧ ts = t1 + sw * (leAt h 16 4 * 1000) ∧ sw < leAt h 2 2 ∧ s.time + commitBound (chunkSize h) (leAt h 2 2 * bitsBelow (leAt h 32 16) 128) ≤ ts * 65536
        ∧ (sw = 0 ∨ (ts - leAt h 16 4 * 1000) * 65536 < s.time + commitBound (chunkSize h) (leAt h 2 2 * bitsBelow (leAt h 32 16) 128))
        ∧ (∀ k i a, k < leAt h 2 2 → axes[i]? = some a → let r := hwdAxis s a
          leAtS r 0 ≤ pos k i ∧ pos k i ≤ leAtS r 4 ∧ (vel k i).natAbs ≤ leAt r 8 4
          ∧ (0 < k → (pos k i - pos (k - 1) i).natAbs ≤ leAt r 12 4 ∧ (vel k i - vel (k - 1) i).natAbs ≤ leAt r 16 4))
        ∧ (∀ i a, axes[i]? = some a → let r := hwdAxis s a
          (pos sw i - (reference a ts s).1).natAbs ≤ leAt r 20 4 ∧ (vel sw i - (reference a ts s).2).natAbs ≤ leAt r 24 4))
  ∧ (∀ (ch : Fin 4) (s : State), let n : Nat := ch
      Calm s → ((gateChan s n).sub = none ∨ s.hwd.stopped = true → exec (.gateCheck ch) s = .next s)
      ∧ (∀ x w, s.hwd.stopped = false → (gateChan s n).sub = some x → x.ready = none → gateChecks s n x = .inr w →
        exec (.gateCheck ch) s = .next (setGate n { gateChan s n with sub := some { x with ready := some w } } s))
      ∧ ∀ x f, s.hwd.stopped = false → (gateChan s n).sub = some x → x.ready = none → gateChecks s n x = .inl f → f.check < 6 ∨ (gateChan s n).imp + 1 < s.fld F.HWD_SAFECFG_IMPLIM →
        ∃ t, exec (.gateCheck ch) s = .next t ∧ LastEvent t 0xA002 0x30 ∧ t.mem = s.mem ∧ t.fld F.HWD_REJECT_CNT = (s.fld F.HWD_REJECT_CNT + 1) % 2 ^ 32
          ∧ gateChan t n = { gateChan s n with sub := none, imp := (gateChan s n).imp + if 6 ≤ f.check then 1 else 0 })
  ∧ (∀ (ch : Fin 4) (s : State) (x : GateSub) (f : GateFault), let n : Nat := ch
      Calm s → s.hwd.stopped = false → (gateChan s n).sub = some x → x.ready = none → gateChecks s n x = .inl f → 6 ≤ f.check → s.fld F.HWD_SAFECFG_IMPLIM ≤ (gateChan s n).imp + 1 →
      seqState s = seqNormal → ∃ t, exec (.gateCheck ch) s = .next t ∧ seqState t = seqFallback ∧ t.fld F.HWD_STATE_CAUSE = 1)
  ∧ (∀ (ch : Fin 4) (us : BitVec 32) (s : State), let n : Nat := ch
      Calm s → ((gateChan s n).sub = none ∨ s.hwd.stopped = true → exec (.gateCommit ch us) s = .next s)
      ∧ ∀ x ts sw, s.hwd.stopped = false → (gateChan s n).sub = some x → x.ready = some (ts, sw) → let bs := bufferBytes x.raw ts sw
        (sw ≠ 0 → s.time + periodNs s * 65536 < ts * 65536 → exec (.gateCommit ch us) s = .next s)
        ∧ (sw = 0 ∨ ts * 65536 ≤ s.time + periodNs s * 65536 → bs.length % 8 = 0 → bs.length ≤ 65536 → s.flag F.HWD_STATE_GATE = true →
          ∃ t, exec (.gateCommit ch us) s = .next t ∧ t.bytes (pendBuf s n) bs.length = bs
            ∧ (∀ a, a < pendBuf s n ∨ pendBuf s n + bs.length ≤ a → t.byte a = s.byte a)
            ∧ bitAt (t.fld F.CMB_CHSTAT_PENDING) n = true ∧ t.fld F.HWD_ACCEPT_CNT = (s.fld F.HWD_ACCEPT_CNT + 1) % 2 ^ 32
            ∧ t.fld (F.HWD_GCH_LASTSEQ_SEQ n) = leAt x.raw 4 4 ∧ gateChan t n = { gateChan s n with sub := none, imp := 0, accepted := true }
            ∧ (seqState s = seqFallback → seqState t = seqNormal ∧ t.hwd.fb = false ∧ LastEvent t 0xA004 0x30)
            ∧ (seqState s ≠ seqFallback → seqState t = seqState s)))
  ∧ ∀ (oid : BitVec 10) (ctx : BitVec 6) (ch : Fin 4) (data : BitVec 32) (s : State), let n : Nat := ch
      Calm s → Admitted oid ctx (Reg.HWD_GCH_CFG n) s → oid = 1 →
      (data.getLsbD 0 = true → s.flag F.HWD_LOCK_LOCK = false → inRack s = false → s.flag (F.HWD_GCH_CFG_EN n) = false → gateEnLocked s n = false →
        ∃ t, exec (.gateChannelEnable oid ctx ch data) s = .next t ∧ gateChan t n = {}
          ∧ t.flag (F.HWD_GCH_CFG_EN n) = true ∧ t.fld (F.HWD_GCH_CFG_CTX n) = data.toNat / 2 % 64 ∧ t.fld (F.HWD_GCH_CFG_DBRING n) = data.toNat / 128 % 1024
          ∧ t.fld (F.HWD_GCH_CFG_RETRING n) = data.toNat / 2 ^ 17 % 1024 ∧ t.mem = s.mem)
      ∧ (data.getLsbD 0 = true → s.flag F.HWD_LOCK_LOCK = true ∨ inRack s = true ∨ gateEnLocked s n = true → s.flag (F.HWD_GCH_CFG_EN n) = false →
        ∃ t, exec (.gateChannelEnable oid ctx ch data) s = .next t ∧ t.flag (F.HWD_GCH_CFG_EN n) = false ∧ t.mem = s.mem ∧ gateChan t n = gateChan s n
          ∧ LastEvent t 0x3001 1)
      ∧ (s.flag (F.HWD_GCH_CFG_EN n) = true → (s.reg (Reg.HWD_GCH_CFG n) ^^^ data) &&& 0x7FFFFFF ≠ 0 →
        ∃ t, exec (.gateChannelEnable oid ctx ch data) s = .next t ∧ t.reg (Reg.HWD_GCH_CFG n) = s.reg (Reg.HWD_GCH_CFG n) ∧ t.mem = s.mem
          ∧ gateChan t n = gateChan s n ∧ LastEvent t 0x3001 1)

/-- Causes, commands, timers and watchdogs move the safe-state sequencer exactly as R334 says, and Bark's rules change whole (15_heartwood_safety.md, 02_address_map_registers.md). -/
def Obligations.SafeStateSequencer : Prop :=
  (∀ s : State, s.hwd.due ≠ [] → (∀ c ∈ s.hwd.due, 1 ≤ c.code ∧ c.code ≤ 0xB) → let t := hwdServe s
      (∀ i < 16, (t.fld F.HWD_CAUSES_SEEN).testBit i = ((s.fld F.HWD_CAUSES_SEEN).testBit i || s.hwd.due.any fun c => c.code = i))
      ∧ (s.hwd.due.any causeSto = true → seqState s ≠ seqSto → seqState s ≠ seqRack → seqState t = seqSto ∧ t.hwd.sto = true)
      ∧ (s.hwd.due.any causeSto = false → s.hwd.due.any causeStopping = true → seqState s = seqNormal ∨ seqState s = seqFallback →
        seqState t = seqStopping ∧ t.hwd.stop = true ∧ t.hwd.fb = s.hwd.fb ∧ t.hwd.sto = s.hwd.sto)
      ∧ (s.hwd.due.any causeSto = false → s.hwd.due.any causeStopping = false → seqState s = seqNormal →
        seqState t = seqFallback ∧ t.hwd.fb = true ∧ t.flag F.HWD_STATE_RESTART = true 
        ∧ ∀ u : Fin 6, s.fld (unitField u) = uIdle ∨ s.fld (unitField u) = uRunning → t.fld (unitField u) = if u.val ∈ s.sched.hot then uLost else uSelftest)
      ∧ (seqState s = seqNormal → t.flag F.HWD_STATE_GATE = false ∧ t.fld F.HWD_STATE_CAUSE = (lowestCause s.hwd.due).code
        ∧ (∃ c ∈ s.hwd.due, t.fld F.HWD_STATE_CAUSE = c.code) ∧ (∀ c ∈ s.hwd.due, t.fld F.HWD_STATE_CAUSE ≤ c.code)
        ∧ t.fld F.HWD_SAFECNT_CNT = (s.fld F.HWD_SAFECNT_CNT + 1) % 2 ^ 32)
      ∧ (seqState s = seqRack → t.regs = (s.put F.HWD_CAUSES_SEEN (t.fld F.HWD_CAUSES_SEEN)).regs ∧ t.mem = s.mem))
  ∧ (∀ (st cause arg why : Nat) (s : State), st = seqFallback ∨ st = seqStopping ∨ st = seqSto → cause < 32 → let t := enterSafe st cause arg why s
      seqState t = st ∧ t.fld F.HWD_STATE_CAUSE = cause ∧ t.fld F.HWD_SAFECNT_CNT = (s.fld F.HWD_SAFECNT_CNT + 1) % 2 ^ 32
      ∧ t.fld F.HWD_CAUSES_SEEN = s.fld F.HWD_CAUSES_SEEN ∧ t.flag F.HWD_STATE_GATE = gateWanted t
      ∧ (t.hwd.fb, t.hwd.stop, t.hwd.sto) = (if st = seqFallback then (true, false, false) else if st = seqStopping then (s.hwd.fb, true, s.hwd.sto) else (false, false, true))
      ∧ (s.flag F.HWD_STATE_GATE = false → t.mem = s.mem ∧ LastEvent t (if st = seqSto then 0xA005 else 0xA001) 0x30))
  ∧ (∀ s : State, Calm s → let ready := s.flag F.SAP_STAT_HWFW = true ∧ s.flag F.SAP_STAT_ICFG = true
      let armable := seqState s = seqInit ∨ (seqState s = seqSto ∧ s.fld F.HWD_CAUSES_SEEN &&& 0xFC0 = 0)
      (ready ∧ armable → safeCmdWritten 2 s = enterSafe seqFallback 0 0 0 s) ∧ (¬ (ready ∧ armable) → safeCmdWritten 2 s = s)
      ∧ safeCmdWritten 1 s = hwdServe (hwdDue 5 s)
      ∧ exec .holdExpiry s = .next (if seqState s = seqFallback then enterSafe seqStopping (s.fld F.HWD_STATE_CAUSE) 0 0 s else s)
      ∧ exec .kickTimeout s = .next (if s.hwd.kicked = true ∧ inRack s = false then hwdServe (hwdDue 7 s) else s)
      ∧ exec .heartbeatTimeout s = .next (if seqState s = seqRack ∨ heartbeatLate s = false then s else hwdServe (hwdDue 9 s))
      ∧ (lastInForce s = none → exec .horizonExpiry s = .next s)
      ∧ ∀ e, lastInForce s = some e → exec .horizonExpiry s = .next (if seqState s = seqNormal ∧ e * 65536 < s.time + s.fld F.HWD_GATECFG_HORIZMIN * 1000 * 65536
          then hwdServe (hwdDue 2 s) else s))
  ∧ (∀ s : State, s.hwd.due = [] →
      (seqState s = seqStopping → allStopped s = false → exec .stopmaxExpiry s = .next (enterSafe seqSto (s.fld F.HWD_STATE_CAUSE) 0 2 s))
      ∧ (seqState s = seqStopping → allStopped s = true → hwdServe s = enterSafe seqSto (s.fld F.HWD_STATE_CAUSE) 0 1 s)
      ∧ (seqState s ≠ seqStopping → exec .stopmaxExpiry s = .next s))
  ∧ (∀ (key : BitVec 16) (ns : BitVec 32) (s : State), Calm s → (s.hwd.stopped = true → exec (.hwdKick key ns) s = .next s) ∧ (s.hwd.stopped = false →
      (inRack s = true → ∃ t, exec (.hwdKick key ns) s = .next t ∧ LastEvent t 0x3001 0x30 ∧ t.hwd = s.hwd ∧ t.mem = s.mem)
      ∧ (inRack s = false → let k := s.setHwd { s.hwd with kicked := true, keyAlt := !s.hwd.keyAlt }
        let good := key.toNat = (if s.hwd.keyAlt = true then 0x3C3C else 0xC3C3)
          ∧ (s.hwd.kicked = true → s.fld F.HWD_WDG_WMIN * 1000 ≤ ns.toNat ∧ ns.toNat < s.fld F.HWD_WDG_WMAX * 1000)
        (good → exec (.hwdKick key ns) s = .next k) ∧ (¬ good → exec (.hwdKick key ns) s = .next (hwdServe (hwdDue 7 k))))))
  ∧ (∀ (us : BitVec 32) (s : State), Calm s →
      (s.flag F.HWD_STATE_RESTART = true → s.hwd.left = [] → s.flag F.HWD_STATE_GATE = false →
        ∃ t, exec (.crownRestartComplete us) s = .next t ∧ t.flag F.HWD_STATE_RESTART = false ∧ t.fld F.HWD_RESTART_DUR = min us.toNat 0xFFFF
          ∧ LastEvent t 0xA007 0x30 ∧ t.mem = s.mem ∧ t.flag F.HWD_STATE_GATE = gateWanted t
          ∧ (gateWanted t = true → s.hwd.forget = true → ∀ n < 4, (gateChan t n).accepted = false))
      ∧ (s.flag F.HWD_STATE_RESTART = false ∨ s.hwd.left ≠ [] → exec (.crownRestartComplete us) s = .next s)
      ∧ (s.flag F.HWD_STATE_RESTART = true → s.hwd.left ≠ [] → ∃ t, exec (.crownRestartTimeout us) s = .next t ∧ LastEvent t 0xA008 0x30 ∧ t.mem = s.mem ∧ t.hwd = s.hwd)
      ∧ (s.flag F.HWD_STATE_RESTART = false ∨ s.hwd.left = [] → exec (.crownRestartTimeout us) s = .next s))
  ∧ (∀ s : State, Calm s → inRack s = false → let v := s.setHwd { s.hwd with nextUnit := (s.hwd.nextUnit + 1) % 8 }
      (∀ e o, exec (.selfTestTick true e o) s = .next (testLoopback s.hwd.nextUnit v))
      ∧ (∀ e o, exec (.selfTestTick false e o) s = .next (hwdServe (hwdDue 8 (hwdEvent 0xA006 4 s.hwd.nextUnit e.toNat o.toNat 0 v) s.hwd.nextUnit)))
      ∧ (∀ r0 r1, pairSignature s 0 s.hwd.slice r0 = pairSignature s 1 s.hwd.slice r1 →
        exec (.signatureCheck r0 r1) s = .next (s.setHwd { s.hwd with slice := (s.hwd.slice + 1) % 128 }))
      ∧ (∀ r0 r1, pairSignature s 0 s.hwd.slice r0 ≠ pairSignature s 1 s.hwd.slice r1 →
        ∃ t, exec (.signatureCheck r0 r1) s = .next t ∧ LastEvent t 0xB102 0x30 ∧ t.hwd = { s.hwd with slice := (s.hwd.slice + 1) % 128 } ∧ t.mem = s.mem)
      ∧ (∀ port, exec (.hwdPairTransaction port false) s = .next s)
      ∧ (∀ port, inRack s = true ∨ s.hwd.stopped = true → exec (.hwdPairTransaction port true) s = .next s)
      ∧ (∀ port, s.hwd.stopped = false → seqState s = seqNormal ∨ seqState s = seqFallback →
        ∃ t, exec (.hwdPairTransaction port true) s = .next t ∧ t.hwd.stopped = true ∧ seqState t = seqStopping ∧ t.fld F.HWD_STATE_CAUSE = 6))
  ∧ ∀ (oid : BitVec 10) (ctx : BitVec 6) (n : Fin 512) (data w1 w2 w3 : BitVec 32) (s : State), let off := Reg.BRK_RULE_W0 (n.val / 128) (n.val % 128)
      let staged (k : Nat) : Option Word := spGet none s.wrStage (shadowKey oid.toNat (off + 4 * k))
      Calm s → Admitted oid ctx off s → oid.toNat ≤ 1 → staged 1 = some w1 → staged 2 = some w2 → staged 3 = some w3 →
      (¬ (n.val < s.fld F.BRK_OPBASE_BASE ∧ (oid = 0 ∨ s.flag F.BRK_LOCK_LOCK = true)) → ∃ t, exec (.barkRuleWrite oid ctx n data) s = .next t ∧ t.mem = s.mem
        ∧ t.reg off = (s.reg off &&& 0xF0000020) ||| (data &&& 0x0FFFFFDF) ∧ t.reg (off + 4) = (s.reg (off + 4) &&& 0xFFFFFC00) ||| (w1 &&& 0x3FF)
        ∧ t.reg (off + 8) = w2 ∧ t.reg (off + 12) = w3 ∧ ∀ o, o < off ∨ off + 16 ≤ o → o ≠ Reg.LCS_CHG_INST → t.reg o = s.reg o)
      ∧ (n.val < s.fld F.BRK_OPBASE_BASE → oid = 0 ∨ s.flag F.BRK_LOCK_LOCK = true → ∃ t, exec (.barkRuleWrite oid ctx n data) s = .next t ∧ t.mem = s.mem
        ∧ (∀ o, (ruleOf o).isSome = true → t.reg o = s.reg o) ∧ ((data ^^^ s.reg off) &&& 0x0FFFFFDF ≠ 0 → LastEvent t 0x3001 oid.toNat))

/-- A joint cycle starts once per boundary, switches due chunks in, drives every axis by its source and keeps every command within the limits of its record (16_cambium_control.md, 17_root_links.md, 15_heartwood_safety.md). -/
def Obligations.JointCycles : Prop :=
  (∀ s : State, Calm s → (boundaryBefore s s.ns = none → exec .jointCycleStart s = .next s) ∧ ∀ b, boundaryBefore s s.ns = some b →
      let runs := s.flag F.CMB_CTRL_EN = true ∧ inRack s = false ∧ (s.cmb.last ≠ none ∨ s.cmb.since ≤ b)
      ((∃ e, s.cmb.bound = some e ∧ b ≤ e) → exec .jointCycleStart s = .next s)
      ∧ ((∀ e, s.cmb.bound = some e → e < b) → s.memsys.synd = [] →
        ∃ t, exec .jointCycleStart s = .next t ∧ RunsOnly s t ∧ t.cmb.bound = some b ∧ t.cmb.cycle = (s.cmb.cycle + 1) % 2 ^ 32
          ∧ (¬ runs → t.mem = s.mem ∧ t.cmb.last = s.cmb.last ∧ t.cmb.axes = s.cmb.axes)
          ∧ (runs → t.cmb.last = some b ∧ t.flag F.CMB_STAT_RUN = true
            ∧ t.reg64 Reg.CMB_CYC_LO = (s.reg64 Reg.CMB_CYC_LO + if s.cmb.last = none then 0 else 1) % 2 ^ 64
            ∧ (s.cmb.last ≠ none → Out.line .heartbeat ∈ t.out ∧ t.hwd.beat = s.elapsed)
            ∧ (∀ a < 128, axOn s a = true → (cmbAxis s a).next = some (srcSto, none) → (cmbAxis s a).nextAt < b → axSrc t a = srcSto)
            ∧ (∀ a < 128, axOn s a = true → axState s a = axActive → portState s (axPlace s a).1 ≠ rlkUp → axState t a = axLost ∨ axState t a = axFault))
          ∧ ∀ p < 16, portState s p = rlkUp → let x := rlkPort s p
            let y := rlkPort t p
            y.got = [] ∧ y.closed = false ∧ y.released = false ∧ y.rejoin = none ∧ (runs → y.mg = (if x.mg = 1 then 2 else if x.mg = 3 then 0 else x.mg))
            ∧ (∀ n < 16, x.rejoin = some n → portReach t p = n) ∧ (x.rejoin = none → portReach t p = portReach s p)
            ∧ ∃ toff ≤ 132, .rlk p 1 (linkFrame 1 0x80 t.cmb.cycle (leBytes 4 t.cmb.cycle ++ leBytes 2 toff ++ leBytes 2 (s.fld F.CMB_PERIOD_PERUS))) ∈ t.out))
  ∧ (∀ (b : Nat) (n : Fin 4) (s : State), let base := pendBuf s n
      let ts := bufTs s base
      let step := s.rdN (base + 12) 4 * 1000
      let r := (switchChannel b ([], s) n).2
      let due := bitAt (s.fld F.CMB_CHSTAT_PENDING) n = true ∧ spGet 0 s.cmb.commitAt n < b ∧ ts ≤ b ∧ (b - ts) % step = 0
      (¬ due → switchChannel b ([], s) n = ([], s))
      ∧ (due → bitAt (r.fld F.CMB_CHSTAT_PENDING) n = false ∧ bitAt (r.fld F.CMB_CHSTAT_BUF) n = !(bitAt (s.fld F.CMB_CHSTAT_BUF) n) ∧ r.mem = s.mem
        ∧ r.reg64 (Reg.CMB_CH_LAST_LO n) = recTime (ts + (s.rdN (base + 8) 2 - 1) * step)
        ∧ ∀ a < 128, let c := axOn s a = true ∧ bitAt (s.rdN (base + 16) 16) a = true ∧ (axSrc s a = srcChunk ∨ axSrc s a = srcHold ∨ axSrc s a = srcTraj)
          (c → axSrc r a = srcChunk ∧ r.fld (F.CMB_AX_STAT_CH a) = n.val) ∧ (¬ c → axSrc r a = axSrc s a)))
  ∧ (∀ (a : Fin 128) (pm vm tm : Int) (s : State), let r := axRecord s a
      let t := computeAxis a pm vm tm s
      s.memsys.synd = [] → -(2 ^ 31) ≤ pm → pm < 2 ^ 31 → -(2 ^ 31) ≤ vm → vm < 2 ^ 31 →
      (recS r 0xF0 2 ≤ recS r 0xF2 2 → recS r 0xF0 2 ≤ axU t a ∧ axU t a ≤ recS r 0xF2 2)
      ∧ liveS t a 0x20 4 = pm ∧ liveS t a 0x24 4 = vm ∧ t.fld (F.CMB_AX_MISS_RUN a) = 0
      ∧ ∀ x, x < axLive a ∨ axLive a + 64 ≤ x → t.byte x = s.byte x)
  ∧ (∀ (a : Fin 128) (blk : List Byte) (s : State), let valid := bitAt (leAt blk 10 2) 0
      let pm := sextN (leAt blk 0 4) 32
      let vm := sextN (leAt blk 4 4) 32
      let u := modAxis a (fun x => { x with valid := valid, done := true }) s
      let c := captureSample a pm u
      let seen := modAxis a (fun x => { x with seen := true, pp := pm, vp := vm })
      (valid = false → axState s a ≠ axActive → axisSample a blk s = u)
      ∧ (valid = false → axState s a = axActive → axState (axisSample a blk s) a = axLost ∧ LastEvent (axisSample a blk s) 0x7003 0x31
        ∧ Out.line .axisFault ∈ (axisSample a blk s).out ∧ RunsOnly s (axisSample a blk s))
      ∧ (valid = true → axState s a = axAsto → axisSample a blk s = c)
      ∧ (valid = true → (cmbAxis s a).wait = true → (cmbAxis c a).plat = pm ∧ (cmbAxis c a).wait = false)
      ∧ (valid = true → axState s a = axActive → axSrc s a = srcSto → axisSample a blk s = seen c)
      ∧ (valid = true → axState s a = axActive → axSrc s a ≠ srcSto → axisSample a blk s = seen (computeAxis a pm vm (sextN (leAt blk 8 2) 16) c)))
  ∧ (∀ (port : Fin 16) (s : State), portReady s port = false → exec (.commandRelease port) s = .next s ∧ ∀ axes, exec (.axisLawCompute port axes) s = .next s)
  ∧ (∀ (port : Fin 16) (a : Fin 128) (d : List Byte) (s : State), let q := axPlace s a
      Calm s → portReady s port = true → axOn s a = true → q.1 = port.val → (cmbAxis s a).done = false → (rlkPort s port).got.find? (fun e => e.1 = q.2.1) = some (q.2.1, d) →
      exec (.axisLawCompute port (BitVec.ofNat 128 (2 ^ a.val))) s = .next (hwdServe (axisSample a ((d.drop (8 + 16 * q.2.2)).take 16) s)))
  ∧ (∀ (port : Fin 16) (s : State), portReady s port = true → (rlkPort s port).mg ≠ 2 → let p : Nat := port
      ((∀ a < 128, axOn s a = true → (axPlace s a).1 = p → lawWaits s a = false) →
        ∃ t tapp, exec (.commandRelease port) s = .next t ∧ (rlkPort t p).released = true ∧ t.mem = s.mem ∧ t.regs = s.regs
          ∧ t.out = s.out ++ commandTrain s p tapp (portReach s p))
      ∧ ∀ a < 128, axOn s a = true → (axPlace s a).1 = p → lawWaits s a = true →
        ∃ t, exec (.commandRelease port) s = .next t ∧ t.fld (F.CMB_AX_MISS_RUN a) = min (s.fld (F.CMB_AX_MISS_RUN a) + 1) 255
          ∧ (t.byte (axLive a + 0x2D)).toNat = min (s.fld (F.CMB_AX_MISS_RUN a) + 1) 255
          ∧ (2 ≤ s.fld (F.CMB_AX_MISS_RUN a) → axState t a = axFault) ∧ RunsOnly s t)
  ∧ (∀ (s : State) (p k i : Nat), s.hwd.sto = true ∨ inRack s = true → slotBlock s p k i = [0, 0, 2, 0, 0, 0, 0, 0])
  ∧ (∀ s : State, Calm s →
      (s.hwd.fb = false ∨ s.flag F.CMB_STAT_FB = true → exec .fallbackLatch s = .next ((acknowledge s.hwd.fb (s.flag F.CMB_STAT_FB) s).put F.CMB_STAT_FB (ofBool s.hwd.fb)))
      ∧ (s.hwd.fb = true → s.flag F.CMB_STAT_FB = false → s.flag F.CMB_STAT_STO = false → s.cmb.afterSto = false →
        ∃ t, exec .fallbackLatch s = .next t ∧ t.flag F.CMB_STAT_FB = true ∧ t.fld F.CMB_CHSTAT_PENDING = 0 ∧ t.fld F.CMB_STAT_STOPDONE = 0 ∧ t.mem = s.mem
          ∧ t.out = s.out ++ [.line .acknowledge] ∧ ∀ a < 128, axOn s a = true → let kind := if bitAt (s.fld F.HWD_FBSEL_MODE) (axGroup s a) = true then srcTraj else srcHold
            (nextSrc s a = srcSto → (cmbAxis t a).next = some (kind, none) ∧ (cmbAxis t a).wait = true)
            ∧ (nextSrc s a = srcChunk ∨ nextSrc s a = srcStopped → (cmbAxis t a).next = some (kind, some (cmbAxis s a).ps))
            ∧ (nextSrc s a = srcHold ∨ nextSrc s a = srcTraj ∨ nextSrc s a = srcStop → cmbAxis t a = cmbAxis s a))
      ∧ (s.hwd.stop = false ∨ s.flag F.CMB_STAT_STOP = true → exec .stopLatch s = .next ((acknowledge s.hwd.stop (s.flag F.CMB_STAT_STOP) s).put F.CMB_STAT_STOP (ofBool s.hwd.stop)))
      ∧ (s.hwd.stop = true → s.flag F.CMB_STAT_STOP = false →
        ∃ t, exec .stopLatch s = .next t ∧ t.flag F.CMB_STAT_STOP = true ∧ t.fld F.CMB_CHSTAT_PENDING = 0 ∧ t.mem = s.mem
          ∧ t.out = s.out ++ [.line .acknowledge] ∧ ∀ a < 128, axOn s a = true →
            (nextSrc s a = srcChunk ∨ nextSrc s a = srcHold ∨ nextSrc s a = srcTraj →
              (cmbAxis t a).next = some (srcStop, if (cmbAxis s a).wait = true then none else some (cmbAxis s a).ps))
            ∧ (nextSrc s a = srcSto ∨ nextSrc s a = srcStop ∨ nextSrc s a = srcStopped → cmbAxis t a = cmbAxis s a))
      ∧ (s.hwd.sto = true → s.flag F.CMB_STAT_STO = false →
        ∃ t, exec .stoLatch s = .next t ∧ t.flag F.CMB_STAT_STO = true ∧ t.fld F.CMB_CHSTAT_PENDING = 0 ∧ t.cmb.afterSto = true ∧ t.mem = s.mem
          ∧ (∀ a < 128, axOn s a = true → nextSrc t a = srcSto)
          ∧ t.out = s.out ++ [.line .acknowledge] ++ ((List.range 16).filter fun p => portState s p = rlkUp || portState s p = rlkEnum).map fun p => .rlk p 5 (linkFrame 5 0x80 s.cmb.cycle [])))
  ∧ ∀ (a : Fin 128) (s : State), (axOn s a = false → clearAxis a s = s)
      ∧ (axOn s a = true → axState s a = axLost ∨ axState s a = axFault → (cmbAxis s a).valid = true → axState (clearAxis a s) a = axActive)
      ∧ (axOn s a = true → axState s a = axLost ∨ axState s a = axFault → (cmbAxis s a).valid = false → clearAxis a s = s)
      ∧ (axOn s a = true → axState s a = axAsto → axSrc s a = srcSto → clearAxis a s = stopDone (s.put (F.CMB_AX_STAT_STATE a) axOff))
      ∧ (axOn s a = true → axState s a = axAsto → axSrc s a ≠ srcSto → clearAxis a s = s)

/-- Samples, losses, breaks, rejoins, enumerations and exchanges move a root-link port and its stations as their rules say (17_root_links.md, 16_cambium_control.md). -/
def Obligations.LinksAndStations : Prop :=
  (∀ (port : Fin 16) (f : RlkFrame) (s : State), Calm s → let p : Nat := port
      let x := rlkPort s p
      (portState s p = rlkDisabled → exec (.rlkSample port f) s = .next s ∧ exec (.rlkStatus port f) s = .next s)
      ∧ ∀ g, received f = { frame := some g } → let k := frameHop g
        let mine := frameType g = 2 ∧ leAt g.hdr 4 1 = 0 ∧ k < portReach s p ∧ leAt g.hdr 2 1 = s.cmb.cycle % 256 ∧ (∀ e ∈ x.got, e.1 ≠ k)
        (portState s p ≠ rlkDisabled → frameOk g = false → ∀ c ∈ [Instr.rlkSample port f, Instr.rlkStatus port f],
          ∃ t, exec c s = .next t ∧ t.fld (F.RLK_P_ERR_CRC p) = min (s.fld (F.RLK_P_ERR_CRC p) + 1) 0xFFFF ∧ t.mem = s.mem ∧ (rlkPort t p).got = x.got)
        ∧ (portState s p ≠ rlkUp ∨ s.cmb.bound = none ∨ ¬ mine → frameOk g = true → exec (.rlkSample port f) s = .next s)
        ∧ (portState s p = rlkUp → s.cmb.bound ≠ none → frameOk g = true → mine → x.closed = false →
          ∃ t, exec (.rlkSample port f) s = .next t ∧ (rlkPort t p).got = x.got ++ [(k, g.data)] ∧ t.mem = s.mem
            ∧ t.fld (F.RLK_P_S_STAT_SST p k) = leAt g.data 0 2 % 256 ∧ t.fld (F.RLK_P_S_STAT_LOST p k) = 0)
        ∧ (portState s p = rlkUp → s.cmb.bound ≠ none → frameOk g = true → mine → x.closed = true →
          ∃ t, exec (.rlkSample port f) s = .next t ∧ rlkPort t p = x ∧ t.fld (F.RLK_P_S_STAT_SST p k) = leAt g.data 0 2 % 256 ∧ RunsOnly s t)
        ∧ (portState s p = rlkUp → frameOk g = true → frameType g = 6 → leAt g.hdr 4 1 = 0 → x.mg = 3 → k = x.mgReq % 8 →
          ∃ t, exec (.rlkStatus port f) s = .next t ∧ t.flag (F.RLK_P_MGSTAT_BUSY p) = false ∧ (rlkPort t p).mg = 0 ∧ t.reg64 (Reg.RLK_P_MGDATA_LO p) = leAt g.data 8 8
            ∧ (leAt g.data 2 1 = 0 → t.flag (F.RLK_P_MGSTAT_DONE p) = true) ∧ (leAt g.data 2 1 ≠ 0 → t.flag (F.RLK_P_MGSTAT_FAIL p) = true))
        ∧ (frameOk g = true → portState s p ≠ rlkUp ∨ frameType g ≠ 6 ∨ x.mg ≠ 3 ∨ k ≠ x.mgReq % 8 → exec (.rlkStatus port f) s = .next s))
  ∧ (∀ (port : Fin 16) (s : State), let p : Nat := port
      let x := rlkPort s p
      (portState s p ≠ rlkUp ∨ s.cmb.bound = none ∨ x.closed = true → exec (.sampleWindowClose port) s = .next s)
      ∧ (portState s p = rlkUp → s.cmb.bound ≠ none → x.closed = false → portReach s p ≤ 8 →
        ∃ t, exec (.sampleWindowClose port) s = .next t ∧ (rlkPort t p).closed = true ∧ RunsOnly s t ∧ ∀ k < portReach s p,
          ((∀ e ∈ x.got, e.1 ≠ k) → t.fld (F.RLK_P_S_STAT_LOST p k) = 1
            ∧ ∀ a < 128, axOn s a = true → (axPlace s a).1 = p → (axPlace s a).2.1 = k → axState t a = if axState s a = axActive then axLost else axState s a)
          ∧ ((∃ e ∈ x.got, e.1 = k) → t.fld (F.RLK_P_S_STAT_LOST p k) = s.fld (F.RLK_P_S_STAT_LOST p k))))
  ∧ (∀ (port : Fin 16) (hop reason : BitVec 8) (s : State), let p : Nat := port
      (portState s p ≠ rlkUp → exec (.rlkBreak port hop reason) s = .next s)
      ∧ (portState s p = rlkUp → portReach s p ≤ 8 → ∃ t, exec (.rlkBreak port hop reason) s = .next t ∧ portReach t p = min (portReach s p) (hop.toNat + 1)
        ∧ t.fld (F.RLK_P_LOSS_BREAKS p) = min (s.fld (F.RLK_P_LOSS_BREAKS p) + 1) 0xFFFF ∧ LastEvent t 0x8002 0x32 ∧ portState t p = rlkUp ∧ RunsOnly s t
        ∧ ∀ k, hop.toNat < k → k < portReach s p → t.fld (F.RLK_P_S_STAT_LOST p k) = 1))
  ∧ (∀ (port : Fin 16) (lost errors : Bool) (s : State), let p : Nat := port
      (portState s p ≠ rlkUp → exec (.linkLockLost port lost errors) s = .next s)
      ∧ exec (.linkLockLost port false false) s = .next s
      ∧ (portState s p = rlkUp → lost = true ∨ errors = true → portReach s p ≤ 8 →
        ∃ t, exec (.linkLockLost port lost errors) s = .next t ∧ portState t p = rlkTrain ∧ portReach t p = 0 ∧ LastEvent t 0x8001 0x32 ∧ RunsOnly s t
          ∧ bitAt (t.fld F.RLK_STAT_UP) p = false ∧ ∀ k < portReach s p, t.fld (F.RLK_P_S_STAT_LOST p k) = 1))
  ∧ (∀ (port : Fin 16) (l : List RlkStation) (s : State), let p : Nat := port
      let figs := l.map fun e => (⟨e.nax.toNat, e.tconv.toNat, e.dly.toNat⟩ : StationFig)
      let plan := rlkPlan (rlkGap s) figs
      let fits := plan.need ≤ (periodNs s * 10 : Nat)
      l.length ≤ 8 →
      (portState s p ≠ rlkTrain → exec (.enumeration port l) s = .next s) ∧ (portState s p ≠ rlkEnum → exec (.enumRetry port l) s = .next s)
      ∧ (let up (t : State) : Prop := portState t p = rlkUp ∧ portReach t p = l.length ∧ t.fld (F.RLK_P_CLOSE_T p) = plan.close.toNat ∧ t.mem = s.mem
            ∧ bitAt (t.fld F.RLK_STAT_UP) p = true ∧ ∀ k e, l[k]? = some e → t.reg64 (Reg.RLK_P_S_ID_LO p k) = e.id.toNat
              ∧ t.fld (F.RLK_P_S_CFG_NAX p k) = e.nax.toNat ∧ t.fld (F.RLK_P_S_STAT_DLY p k) = e.dly.toNat ∧ t.fld (F.RLK_P_S_STAT_LOST p k) = 0
        (l.length = s.fld (F.RLK_P_CFG_NSTM1 p) + 1 → fits → 0 ≤ plan.close → plan.close < 2 ^ 24 →
          (portState s p = rlkTrain → ∃ t, exec (.enumeration port l) s = .next t ∧ up t)
          ∧ (portState s p = rlkEnum → ∃ t, exec (.enumRetry port l) s = .next t ∧ up t))
        ∧ (l.length ≠ s.fld (F.RLK_P_CFG_NSTM1 p) + 1 →
          (portState s p = rlkTrain → ∃ t, exec (.enumeration port l) s = .next t ∧ portState t p = rlkEnum ∧ t.mem = s.mem ∧ LastEvent t 0x8005 0x32)
          ∧ (portState s p = rlkEnum → ∃ t, exec (.enumRetry port l) s = .next t ∧ portState t p = rlkEnum ∧ t.mem = s.mem
            ∧ ((rlkPort s p).toldTopo = false → LastEvent t 0x8005 0x32)))
        ∧ (l.length = s.fld (F.RLK_P_CFG_NSTM1 p) + 1 → ¬ fits →
          (portState s p = rlkTrain → ∃ t, exec (.enumeration port l) s = .next t ∧ portState t p = rlkEnum ∧ t.mem = s.mem ∧ LastEvent t 0x8006 0x32)
          ∧ (portState s p = rlkEnum → ∃ t, exec (.enumRetry port l) s = .next t ∧ portState t p = rlkEnum ∧ t.mem = s.mem
            ∧ ((rlkPort s p).toldSched = false → LastEvent t 0x8006 0x32))))
      ∧ ∀ hop : BitVec 8, (portState s p ≠ rlkUp ∨ portReach s p ≠ hop.toNat + 1 ∨ l.length ≤ portReach s p → exec (.rlkRestore port hop l) s = .next s)
        ∧ (portState s p = rlkUp → portReach s p = hop.toNat + 1 → portReach s p < l.length →
          (fits → ∃ t, exec (.rlkRestore port hop l) s = .next t ∧ (rlkPort t p).rejoin = some l.length ∧ portState t p = rlkUp ∧ portReach t p = portReach s p ∧ t.mem = s.mem)
          ∧ (¬ fits → ∃ t, exec (.rlkRestore port hop l) s = .next t ∧ (rlkPort t p).rejoin = (rlkPort s p).rejoin ∧ LastEvent t 0x8006 0x32 ∧ portReach t p = portReach s p)))
  ∧ (∀ (port : Fin 16) (s : State), let p : Nat := port
      let live := stoHeld s = true ∧ (portState s p = rlkUp ∨ portState s p = rlkEnum)
      (live → exec (.stoRepeat port) s = .next (s.emit (.rlk p 5 (linkFrame 5 0x80 s.cmb.cycle [])))) ∧ (¬ live → exec (.stoRepeat port) s = .next s)
      ∧ (s.flag (F.RLK_P_MGSTAT_BUSY p) = true → startExchange p s = s)
      ∧ (s.flag (F.RLK_P_MGSTAT_BUSY p) = false → let t := startExchange p s
        (portState s p = rlkUp → t.flag (F.RLK_P_MGSTAT_BUSY p) = true ∧ (rlkPort t p).mg = 1 ∧ (rlkPort t p).mgReq = (s.reg (Reg.RLK_P_MGREQ p)).toNat
          ∧ (rlkPort t p).mgData = s.reg64 (Reg.RLK_P_MGDATA_LO p))
        ∧ (portState s p ≠ rlkUp → t.flag (F.RLK_P_MGSTAT_BUSY p) = false ∧ (rlkPort t p).mg = 0 ∧ t.flag (F.RLK_P_MGSTAT_FAIL p) = true)))
  ∧ ∀ (oid : BitVec 10) (ctx : BitVec 6) (n : Fin 16) (data : BitVec 32) (s : State), Calm s → Admitted oid ctx (Reg.RLK_P_CFG n) s → oid = 1 →
      s.flag F.RLK_LOCK_LOCK = false → s.flag F.RLK_CTRL_EN = true →
      (data.getLsbD 0 = true → portState s n = rlkDisabled → ∃ t, exec (.portEnable oid ctx n data) s = .next t ∧ portState t n = rlkTrain
        ∧ t.fld (F.RLK_P_CFG_NSTM1 n) = data.toNat / 2 % 8 ∧ t.flag (F.RLK_P_CFG_EN n) = true ∧ t.mem = s.mem ∧ t.out = s.out ++ [.rlk n 0 [idleBlock]])
      ∧ (data.getLsbD 0 = false → portState s n ≠ rlkDisabled → portReach s n = 0 → ∃ t, exec (.portEnable oid ctx n data) s = .next t ∧ portState t n = rlkDisabled
        ∧ t.flag (F.RLK_P_CFG_EN n) = false ∧ t.mem = s.mem ∧ t.out = s.out ++ [.rlk n 5 (linkFrame 5 0x80 s.cmb.cycle []), .rlk n 0 [idleBlock]])

/-- A CAN controller's buffers, error counters, receive objects and states change exactly as R394 to R411 say (18_can_fd.md). -/
def Obligations.CanControllers : Prop :=
  (∀ (c : Fin 8) (tec rec' : Nat) (s : State), let t := setCounts c tec rec' s
      let lv := faultLevel (min tec 256) (min rec' 255)
      let old := faultLevel (s.fld (F.CFD_ECNT_TEC c)) (s.fld (F.CFD_ECNT_REC c))
      t.fld (F.CFD_ECNT_TEC c) = min tec 256 ∧ t.fld (F.CFD_ECNT_REC c) = min rec' 255 ∧ t.mem = s.mem ∧ (t.flag (F.CFD_STAT_EWARN c) = true ↔ 96 ≤ tec ∨ 96 ≤ rec')
      ∧ canState t c = (if canOnBus s c = true ∧ lv = 2 then canBusOff else if canState s c = canActive ∨ canState s c = canPassive then
        (if lv = 1 then canPassive else canActive) else canState s c)
      ∧ (lv = 2 → old ≠ 2 → LastEvent t 0x8041 0x33) ∧ (lv = 1 → old = 0 → LastEvent t 0x8040 0x33)
      ∧ ∀ d : Fin 8, d ≠ c → canState t d = canState s d ∧ t.reg (Reg.CFD_ECNT d) = s.reg (Reg.CFD_ECNT d) ∧ canSt t d = canSt s d)
  ∧ (∀ (c : Fin 8) (s : State),
      (canOnBus s c = false ∨ s.fld (F.CFD_CTRL_MODE c) ≠ 1 ∨ (canSt s c).cur ≠ none ∨ chooseBuffer s c = none → exec (.txArbitrationStart c) s = .next s)
      ∧ (∀ b, canOnBus s c = true → s.fld (F.CFD_CTRL_MODE c) = 1 → (canSt s c).cur = none → chooseBuffer s c = some b →
        ∃ t, exec (.txArbitrationStart c) s = .next t ∧ canSt t c = { canSt s c with cur := some b } ∧ t.out = s.out ++ [.can c b] ∧ t.regs = s.regs ∧ t.mem = s.mem)
      ∧ (∀ b, chooseBuffer s c = some b → b < 3 ∧ canPending s c b = true ∧ (s.flag (F.CFD_CTRL_TXORD c) = false →
        ∀ d < 3, canPending s c d = true → arbKey (txFrame s c b) ≤ arbKey (txFrame s c d) ∧ (d < b → arbKey (txFrame s c b) < arbKey (txFrame s c d))))
      ∧ (chooseBuffer s c = none → s.flag (F.CFD_CTRL_TXORD c) = false → ∀ d < 3, canPending s c d = false))
  ∧ (∀ (c : Fin 8) (o : CanTx) (ago : BitVec 32) (v : Option (BitVec 7)) (s : State), (canSt s c).cur = none → exec (.txAttemptEnd c o ago v) s = .next s)
  ∧ (∀ (c : Fin 8) (b : Fin 3) (ago : BitVec 32) (v : Option (BitVec 7)) (s : State), (canSt s c).cur = some b.val → s.fld (F.CFD_CTRL_MODE c) ≠ 3 →
      let tec := s.fld (F.CFD_ECNT_TEC c)
      (s.flag (F.CFD_CTRL_SELFRX c) = false → s.flag (F.CFD_CTRL_LOOP c) = false → ∃ t, exec (.txAttemptEnd c .sent ago v) s = .next t ∧ (canSt t c).cur = none
        ∧ canPending t c b = false ∧ bitAt (t.fld (F.CFD_TXSTAT_OK c)) b = true ∧ t.reg64 (Reg.CFD_TX_TS_LO c b) = recTime (s.ns - ago.toNat)
        ∧ t.fld (F.CFD_ECNT_TEC c) = min (tec - 1) 256 ∧ t.mem = s.mem)
      ∧ (bitAt (s.fld (F.CFD_TXREQ_ABORT c)) b = false → s.flag (F.CFD_CTRL_ONESHOT c) = false → s.fld (F.CFD_RETRYLIM_LIM c) = 0 →
        ∃ t, exec (.txAttemptEnd c .lost ago v) s = .next t ∧ (canSt t c).cur = none ∧ t.fld (F.CFD_TXREQ_REQ c) = s.fld (F.CFD_TXREQ_REQ c)
          ∧ t.reg (Reg.CFD_ECNT c) = s.reg (Reg.CFD_ECNT c) ∧ t.reg (Reg.CFD_TXSTAT c) = s.reg (Reg.CFD_TXSTAT c) ∧ t.mem = s.mem)
      ∧ (bitAt (s.fld (F.CFD_TXREQ_ABORT c)) b = false → s.flag (F.CFD_CTRL_ONESHOT c) = true → canState s c ≠ canBusOff →
        ∃ t, exec (.txAttemptEnd c .lost ago v) s = .next t ∧ canPending t c b = false ∧ bitAt (t.fld (F.CFD_TXSTAT_ABND c)) b = true ∧ LastEvent t 0x8043 0x33 ∧ t.mem = s.mem)
      ∧ (bitAt (s.fld (F.CFD_TXREQ_ABORT c)) b = true → ∃ t, exec (.txAttemptEnd c .lost ago v) s = .next t ∧ canPending t c b = false
        ∧ bitAt (t.fld (F.CFD_TXSTAT_ABRT c)) b = true ∧ t.mem = s.mem)
      ∧ ∀ e : CanErr, ∃ t, exec (.txAttemptEnd c (.error e) ago v) s = .next t ∧ (canSt t c).cur = none ∧ t.mem = s.mem ∧ t.fld (F.CFD_ECNT_TEC c)
        = min (tec + (if e.exempt = true ∨ (e.kinds = 8 ∧ faultLevel tec (s.fld (F.CFD_ECNT_REC c)) = 1) then 0 else 8) + 8 * e.extra.toNat) 256)
  ∧ (∀ (c : Fin 8) (f : CanFrame) (ago : BitVec 32) (s : State), let t0 := recTime (s.ns - ago.toNat)
      let rec' := s.fld (F.CFD_ECNT_REC c)
      (canOnBus s c = false → exec (.rxFrameValid c f ago) s = .next s)
      ∧ (canState s c = canActive ∨ canState s c = canPassive → rec' ≤ 127 → s.fld (F.CFD_CTRL_MODE c) ≠ 3 →
        exec (.rxFrameValid c f ago) s = .next (storeFrame c f t0 (setCounts c (s.fld (F.CFD_ECNT_TEC c)) (rec' - 1) s)))
      ∧ (canOnBus s c = true → 127 < rec' → s.fld (F.CFD_CTRL_MODE c) ≠ 3 →
        ∃ t, exec (.rxFrameValid c f ago) s = .next t ∧ 119 ≤ t.fld (F.CFD_ECNT_REC c) ∧ t.fld (F.CFD_ECNT_REC c) ≤ 127)
      ∧ (canState s c = canSleepPending → wakeMatches s c f = true → s.fld (F.CFD_ECNT_TEC c) ≤ 255 →
        ∃ t, exec (.rxFrameValid c f ago) s = .next t ∧ canState t c = canIntegrating ∧ t.flag (F.CFD_STAT_WAKEF c) = true ∧ LastEvent t 0x8046 0x33)
      ∧ ((∀ o < 64, canMatches s c 0 f o = false ∧ s.fld (F.CFD_RX_FMSK_FDF c o) ≠ 3) → storeFrame c f t0 s = s.incHold (F.CFD_RXDROP_DROP c))
      ∧ ∀ o v, o < 64 → canMatches s c 0 f o = true → (∀ k < o, canMatches s c 0 f k = false) → (∀ k < 64, s.fld (F.CFD_RX_FMSK_FDF c k) ≠ 3) →
        let r := storeFrame c f t0 s
        let seq := spGet 0 (canSt s c).seq o
        writeSlot (s.fld (F.CFD_RXBASE_LO_BASE_LO c) * 2 ^ 13 + s.fld (F.CFD_RXBASE_HI_BASE_HI c) * 2 ^ 32 + 128 * o) seq (slotBytes f t0) s = (true, v) → v.can = s.can →
        canBit (Reg.CFD_RXNEW_LO c) r o = true ∧ r.mem = v.mem ∧ spGet 0 (canSt r c).seq o = (seq + 2) % 2 ^ 32
        ∧ (canBit (Reg.CFD_RXNEW_LO c) v o = true → canBit (Reg.CFD_RXLOST_LO c) r o = true ∧ (canBit (Reg.CFD_RXLOST_LO c) v o = false → LastEvent r 0x8044 0x33)))
  ∧ (∀ (c : Fin 8) (e : CanErr) (s : State), (canOnBus s c = false → exec (.rxFrameError c e) s = .next s)
      ∧ (canOnBus s c = true → s.fld (F.CFD_CTRL_MODE c) ≠ 3 → ∃ t, exec (.rxFrameError c e) s = .next t ∧ t.mem = s.mem
        ∧ t.fld (F.CFD_ECNT_REC c) = min (s.fld (F.CFD_ECNT_REC c) + 1 + 8 * e.extra.toNat) 255 ∧ (canSt t c).lastErr = e.kinds.toNat))
  ∧ (∀ (c : Fin 8) (us : BitVec 32) (s : State),
      (canState s c = canIntegrating → exec (.integrationComplete c) s = .next (s.put (F.CFD_STAT_STATE c)
        (if faultLevel (s.fld (F.CFD_ECNT_TEC c)) (s.fld (F.CFD_ECNT_REC c)) = 1 then canPassive else canActive)))
      ∧ (canState s c ≠ canIntegrating → exec (.integrationComplete c) s = .next s)
      ∧ (canState s c ≠ canBusOff ∨ (canSt s c).recovering = false → exec (.recoveryComplete c us) s = .next s)
      ∧ (canState s c = canBusOff → (canSt s c).recovering = true → ∃ t, exec (.recoveryComplete c us) s = .next t ∧ canState t c = canIntegrating
        ∧ t.fld (F.CFD_ECNT_TEC c) = 0 ∧ t.fld (F.CFD_ECNT_REC c) = 0 ∧ LastEvent t 0x8042 0x33 ∧ (canSt t c).recovering = false ∧ t.mem = s.mem)
      ∧ (canOnBus s c = true → s.flag (F.CFD_CTRL_PXHD c) = false → ∃ t, exec (.protocolException c) s = .next t ∧ canState t c = canIntegrating ∧ LastEvent t 0x8047 0x33
        ∧ t.mem = s.mem ∧ t.can = s.can)
      ∧ (canOnBus s c = true → s.flag (F.CFD_CTRL_PXHD c) = true → exec (.protocolException c) s = exec (.rxFrameError c ⟨4, 0, false⟩) s)
      ∧ (canOnBus s c = false → exec (.protocolException c) s = .next s)
      ∧ (canState s c = canSleepPending → s.fld (F.CFD_TXREQ_REQ c) = 0 → ∃ t, exec (.sleepEntry c) s = .next t ∧ canState t c = canSleep ∧ (canSt t c).errs = 0 ∧ t.mem = s.mem)
      ∧ (canState s c ≠ canSleepPending ∨ s.fld (F.CFD_TXREQ_REQ c) ≠ 0 → exec (.sleepEntry c) s = .next s))
  ∧ (∀ (c : Fin 8) (f : CanFrame) (s : State),
      (∀ g e, canState s c ≠ canSleep → exec (.wakeUpFrame c g e) s = .next s)
      ∧ (canState s c = canSleep →
        (∀ e, wakeMatches s c f = true → ∃ t, exec (.wakeUpFrame c (some f) e) s = .next t ∧ canState t c = canIntegrating ∧ t.fld (F.CFD_STAT_WCAUSE c) = 1
          ∧ t.flag (F.CFD_STAT_WAKEF c) = true ∧ LastEvent t 0x8045 0x33)
        ∧ (wakeMatches s c f = false → f.fdf = false → exec (.wakeUpFrame c (some f) false) s = .next (modCan c (fun x => { x with errs := x.errs - 1 }) s))
        ∧ ((canSt s c).errs < 31 → exec (.wakeUpFrame c none true) s = .next (modCan c (fun x => { x with errs := x.errs + 1 }) s))
        ∧ (31 ≤ (canSt s c).errs → ∃ t, exec (.wakeUpFrame c none true) s = .next t ∧ canState t c = canIntegrating ∧ t.fld (F.CFD_STAT_WCAUSE c) = 2)
        ∧ exec (.wakeUpFrame c none false) s = .next s))
  ∧ ∀ (c : Fin 8) (b : Fin 3) (s : State),
      (canPending s c b = true → canRequest c (2 ^ b.val) s = s)
      ∧ (canPending s c b = false → (s.flag (F.CFD_TX_CTL_FDF c b) = false ∨ s.flag (F.CFD_TX_ID_RTR c b) = false) →
        canPending (canRequest c (2 ^ b.val) s) c b = true ∧ (canSt (canRequest c (2 ^ b.val) s) c).order = (canSt s c).order ++ [b.val])
      ∧ (canPending s c b = false → s.flag (F.CFD_TX_CTL_FDF c b) = true → s.flag (F.CFD_TX_ID_RTR c b) = true →
        bitAt ((canRequest c (2 ^ b.val) s).fld (F.CFD_TXSTAT_ABND c)) b = true ∧ LastEvent (canRequest c (2 ^ b.val) s) 0x8043 0x33)
      ∧ (canPending s c b = false → canAbort c (2 ^ b.val) s = s)
      ∧ (canPending s c b = true → (canSt s c).cur = some b.val → canPending (canAbort c (2 ^ b.val) s) c b = true
        ∧ bitAt ((canAbort c (2 ^ b.val) s).fld (F.CFD_TXREQ_ABORT c)) b = true)
      ∧ (canPending s c b = true → (canSt s c).cur ≠ some b.val → canPending (canAbort c (2 ^ b.val) s) c b = false
        ∧ bitAt ((canAbort c (2 ^ b.val) s).fld (F.CFD_TXSTAT_ABRT c)) b = true)
      ∧ canCmdWritten c 1 s = (if canState s c = canActive ∨ canState s c = canPassive then s.put (F.CFD_STAT_STATE c) canSleepPending else s)
      ∧ (canState s c = canSleepPending → canCmdWritten c 2 s = s.put (F.CFD_STAT_STATE c) canIntegrating)
      ∧ (canState s c = canSleep → canState (canCmdWritten c 2 s) c = canIntegrating ∧ (canCmdWritten c 2 s).fld (F.CFD_STAT_WCAUSE c) = 3)
      ∧ (canState s c = canBusOff → s.flag (F.CFD_CTRL_ABOR c) = false → (canSt (canCmdWritten c 4 s) c).recovering = true)
      ∧ (canState s c ≠ canInit → ∀ d, ecsetWritten c d s = s)
      ∧ (canState s c = canInit → ∀ tec rec', tec < 512 → rec' < 256 → ecsetWritten c (tec + 512 * rec' + 2 ^ 31) s = setCounts c tec rec' s)

/-- The timebase ticks, slews, steps and stamps, and a port receives and sends frames, exactly as R412 to R434 say (19_ethernet_time.md, 02_address_map_registers.md). -/
def Obligations.TimebaseAndPorts : Prop :=
  (∀ s : State, Calm s → NoneWaits s → s.pending = [] → s.fld F.SAP_BOOT_STAGE = 5 → (∀ c : Fin 6, coreRuns s c = false) → (∀ c < 8, bghRuns s c = false) →
      ∃ t, step s = .next t ∧ t.mem = s.mem
      ∧ (fullTime t : Int) = (fullTime s + timIncr s + sgn s.tim.slew * 2 ^ 23) % (2 ^ 64 * (1000000000 * 2 ^ 32) : Nat) ∧ t.tim.slew = s.tim.slew - sgn s.tim.slew
      ∧ t.elapsed = s.elapsed + ((timIncr s : Int) + sgn s.tim.slew * 2 ^ 23).toNat)
  ∧ (∀ (data : BitVec 32) (s : State), let a := data.toInt
      (a.natAbs ≤ 1000000 → fullTime (timAdjust data.toNat s) = fullTime s ∧ (timAdjust data.toNat s).tim.slew = a * 512
        ∧ ((timAdjust data.toNat s).flag F.TIM_STAT_SLEW = true ↔ a ≠ 0) ∧ (timAdjust data.toNat s).reg Reg.TIM_ADJ = data)
      ∧ (1000000 < a.natAbs → (fullTime (timAdjust data.toNat s) : Int) = (fullTime s + a * 2 ^ 32) % (2 ^ 64 * (1000000000 * 2 ^ 32) : Nat)
        ∧ (timAdjust data.toNat s).tim.slew = 0 ∧ LastEvent (timAdjust data.toNat s) 0x9006 0x34 ∧ (timAdjust data.toNat s).flag F.TIM_STAT_UNSET = false))
  ∧ (∀ (oid : BitVec 10) (ctx : BitVec 6) (data w1 w2 w3 : BitVec 32) (s : State),
      let staged (k : Nat) : Option Word := spGet none s.wrStage (shadowKey oid.toNat (Reg.TIM_SET_W0 + 4 * k))
      Calm s → Admitted oid ctx Reg.TIM_SET_W0 s → oid.toNat ≤ 1 → staged 1 = some w1 → staged 2 = some w2 → staged 3 = some w3 →
      let ok := w1.toNat % 2 ^ 30 < 1000000000 ∧ stepAllowed s = true
      (ok → ∃ t, exec (.timeSet oid ctx data) s = .next t ∧ t.mem = s.mem ∧ LastEvent t 0x9006 0x34 ∧ t.flag F.TIM_STAT_UNSET = false ∧ t.tim.slew = 0
        ∧ fullTime t = (w2.toNat + w3.toNat * 2 ^ 32) * (1000000000 * 2 ^ 32) + (w1.toNat % 2 ^ 30) * 2 ^ 32 + data.toNat % 2 ^ 16 * 2 ^ 16)
      ∧ (¬ ok → ∃ t, exec (.timeSet oid ctx data) s = .next t ∧ t.mem = s.mem ∧ LastEvent t 0x3001 oid.toNat ∧ fullTime t = fullTime s ∧ t.tim = s.tim))
  ∧ (∀ (oid : BitVec 10) (ctx : BitVec 6) (data : BitVec 32) (s : State), Calm s → Admitted oid ctx Reg.TIM_INCR_LO s → oid.toNat ≤ 1 →
      let hi := match spGet none s.wrStage (shadowKey oid.toNat Reg.TIM_INCR_HI) with
        | some w => w.toNat % 16
        | none => s.fld F.TIM_INCR_HI_NS
      let v := hi * 2 ^ 32 + data.toNat
      (19 * 2 ^ 32 ≤ 10 * v → 10 * v ≤ 21 * 2 ^ 32 → ∃ t, exec (.incrementCommit oid ctx data) s = .next t ∧ timIncr t = v ∧ fullTime t = fullTime s ∧ t.mem = s.mem)
      ∧ (10 * v < 19 * 2 ^ 32 ∨ 21 * 2 ^ 32 < 10 * v →
        ∃ t, exec (.incrementCommit oid ctx data) s = .next t ∧ timIncr t = timIncr s ∧ LastEvent t 0x3001 oid.toNat ∧ t.mem = s.mem))
  ∧ (∀ s : State, let on := s.flag F.TIM_STAT_SLEW = true ∧ s.tim.slew = 0
      (on → ∃ t, exec .slewComplete s = .next t ∧ t.flag F.TIM_STAT_SLEW = false ∧ t.fld F.TIM_ADJ_NS = 0 ∧ fullTime t = fullTime s) ∧ (¬ on → exec .slewComplete s = .next s)
      ∧ (s.flag F.TIM_STAT_REFOK = true → ∃ t, exec .referenceFailure s = .next t ∧ t.flag F.TIM_STAT_REFOK = false ∧ LastEvent t 0x9003 0x34 ∧ t.mem = s.mem)
      ∧ (s.flag F.TIM_STAT_REFOK = false → exec .referenceFailure s = .next s)
      ∧ exec .referenceLock s = .next (if s.fld F.TIM_CTRL_REF = 0 then s else s.put F.TIM_STAT_REFOK 1)
      ∧ (s.flag F.TIM_SYNC_LOCKED = true → s.passed s.tim.syncSince (s.fld F.TIM_SYNC_HOLD * 1000) = true →
        ∃ t, exec .syncHoldExpiry s = .next t ∧ t.flag F.TIM_SYNC_LOCKED = false ∧ LastEvent t 0x9005 0x34 ∧ t.mem = s.mem)
      ∧ (s.flag F.TIM_SYNC_LOCKED = false ∨ s.passed s.tim.syncSince (s.fld F.TIM_SYNC_HOLD * 1000) = false → exec .syncHoldExpiry s = .next s))
  ∧ (∀ (oid : BitVec 10) (ctx : BitVec 6) (n : Fin 8) (data : BitVec 32) (s : State), Calm s → Admitted oid ctx (Reg.TIM_PO_CTRL n) s → oid.toNat ≤ 1 →
      data.getLsbD 0 = true → s.flag (F.TIM_PO_CTRL_EN n) = false →
      let p := s.fld (F.TIM_PO_PERIOD_NS n)
      let w := s.fld (F.TIM_PO_WIDTH_NS n)
      let ok := 100 ≤ p ∧ 4 ≤ w ∧ w + 4 ≤ p
      (ok → ∃ t, exec (.pulseEnable oid ctx n data) s = .next t ∧ t.flag (F.TIM_PO_CTRL_EN n) = true ∧ t.flag (F.TIM_PO_CTRL_POL n) = data.getLsbD 1 ∧ t.mem = s.mem
        ∧ let x := spGet {} t.tim.po n
          x.driven = 0 ∧ s.time + 100 * 65536 ≤ (poStart s n + x.k * p) * 65536 ∧ (x.k = 0 ∨ (poStart s n + (x.k - 1) * p) * 65536 < s.time + 100 * 65536))
      ∧ (¬ ok → ∃ t, exec (.pulseEnable oid ctx n data) s = .next t ∧ t.flag (F.TIM_PO_CTRL_EN n) = false ∧ LastEvent t 0x3001 oid.toNat ∧ t.tim = s.tim ∧ t.mem = s.mem))
  ∧ (∀ (n : Fin 8) (s : State), let x := spGet {} s.tim.po n
      let tm := poStart s n + x.k * s.fld (F.TIM_PO_PERIOD_NS n)
      let due := s.flag (F.TIM_PO_CTRL_EN n) = true ∧ (s.fld (F.TIM_PO_COUNT_CNT n) = 0 ∨ x.driven < s.fld (F.TIM_PO_COUNT_CNT n)) ∧ tm * 65536 ≤ s.time
      (x.high = true → x.off * 65536 ≤ s.time → ∃ t, exec (.pulseEdge n) s = .next t ∧ t.out = s.out ++ [.pulse n (s.flag (F.TIM_PO_CTRL_POL n)) x.off]
        ∧ spGet {} t.tim.po n = { x with high := false } ∧ t.mem = s.mem)
      ∧ (x.high = true → s.time < x.off * 65536 → exec (.pulseEdge n) s = .next s)
      ∧ (x.high = false → due → ∃ t, exec (.pulseEdge n) s = .next t ∧ t.out = s.out ++ [.pulse n (!(s.flag (F.TIM_PO_CTRL_POL n))) tm] ∧ t.mem = s.mem
        ∧ spGet {} t.tim.po n = ⟨x.k + 1, x.driven + 1, true, tm + s.fld (F.TIM_PO_WIDTH_NS n)⟩)
      ∧ (x.high = false → ¬ due → exec (.pulseEdge n) s = .next s))
  ∧ (∀ (n : Fin 8) (rise : Bool) (sub : Fin 16) (s : State), let l := spGet [] s.tim.ciq n
      let on := s.flag (F.TIM_CI_CTRL_EN n) = true ∧ (s.fld (F.TIM_CI_CTRL_EDGE n)).testBit (if rise then 0 else 1) = true
      (¬ on → exec (.captureEdge n rise sub) s = .next s)
      ∧ (on → l.length < 16 → ∃ t, exec (.captureEdge n rise sub) s = .next t ∧ spGet [] t.tim.ciq n = l ++ [⟨s.time + sub * 8192, ofBool rise⟩]
        ∧ t.fld (F.TIM_CI_STAT_COUNT n) = l.length + 1 ∧ t.mem = s.mem)
      ∧ (on → 16 ≤ l.length → ∃ t, exec (.captureEdge n rise sub) s = .next t ∧ t.tim = s.tim ∧ t.flag (F.TIM_CI_STAT_OVF n) = true ∧ t.mem = s.mem
        ∧ t.fld (F.TIM_CI_STAT_DROP n) = min (s.fld (F.TIM_CI_STAT_DROP n) + 1) 0xFFFF ∧ (s.flag (F.TIM_CI_STAT_OVF n) = false → LastEvent t 0x9002 0x34))
      ∧ (l.length ≤ 16 → spGet [] (popCapture n s).tim.ciq n = l.drop 1 ∧ (popCapture n s).fld (F.TIM_CI_STAT_COUNT n) = l.length - 1))
  ∧ (∀ (p : Fin 2) (s : State), let l := spGet [] s.tim.txq p
      l.length ≤ 32 → spGet [] (popTx p s).tim.txq p = l.drop 1 ∧ (popTx p s).fld (F.TIM_TXQ_STAT_COUNT p) = l.length - 1
        ∧ ((popTx p s).flag (F.TIM_TXQ_E0_VALID p) = true ↔ 2 ≤ l.length) ∧ (popTx p s).mem = s.mem)
  ∧ (∀ (p : Fin 2) (fault : BitVec 3) (s : State), s.grove.tx = [] →
      (s.flag (F.ETH_CTRL_EN p) = true → s.flag (F.ETH_STAT_LINK p) = false → ∃ t, exec (.ethLinkUp p) s = .next t ∧ t.flag (F.ETH_STAT_LINK p) = true
        ∧ t.fld (F.ETH_STAT_FAULT p) = 0 ∧ t.reg (Reg.ETH_TSCOR p) = Config.factoryTscor p ∧ LastEvent t 0x8081 0x34 ∧ t.mem = s.mem)
      ∧ (s.flag (F.ETH_CTRL_EN p) = false ∨ s.flag (F.ETH_STAT_LINK p) = true → exec (.ethLinkUp p) s = .next s)
      ∧ (s.flag (F.ETH_STAT_LINK p) = true → ∃ t, exec (.ethLinkDown p fault) s = .next t ∧ t.flag (F.ETH_STAT_LINK p) = false
        ∧ t.fld (F.ETH_STAT_FAULT p) = fault.toNat ∧ LastEvent t 0x8080 0x34 ∧ t.mem = s.mem)
      ∧ (s.flag (F.ETH_STAT_LINK p) = false → exec (.ethLinkDown p fault) s = .next (s.put (F.ETH_STAT_FAULT p) fault.toNat)))
  ∧ (∀ (p : Fin 2) (f : List Byte) (back : Nat) (cor unc : BitVec 16) (s : State), let u := fecCount p cor.toNat unc.toNat s
      let on := s.flag (F.ETH_CTRL_EN p) = true ∧ s.flag (F.ETH_STAT_LINK p) = true
      (∀ ok, ¬ on → exec (.ethRxFrame p f ok back cor unc) s = .next s)
      ∧ (∀ ok, on → keeps s p (beAt f 0 6) = false → isPause s p f = false → exec (.ethRxFrame p f ok back cor unc) s = .next u)
      ∧ (∀ ok, on → keeps s p (beAt f 0 6) = true → 9216 < f.length → exec (.ethRxFrame p f ok back cor unc) s = .next (u.incHold (F.ETH_RXDROP_LONG p)))
      ∧ (∀ ok, on → f.length < 60 → exec (.ethRxFrame p f ok back cor unc) s = .next u)
      ∧ (on → isPause u p f = true → exec (.ethRxFrame p f true back cor unc) s = .next (takePause p (beAt f 16 2) u))
      ∧ (on → keeps s p (beAt f 0 6) = true → 60 ≤ f.length → f.length ≤ 9216 → ∃ t, exec (.ethRxFrame p f false back cor unc) s = .next t ∧ t.mem = s.mem
        ∧ (t.reg (Reg.ETH_RXDROP p) = (u.incHold (F.ETH_RXDROP_NOBUF p)).reg (Reg.ETH_RXDROP p) ∨ t.reg (Reg.ETH_RXDROP p) = (u.incHold (F.ETH_RXDROP_LONG p)).reg (Reg.ETH_RXDROP p)))
      ∧ (on → keeps s p (beAt f 0 6) = true → 60 ≤ f.length → f.length ≤ 9216 → isPause s p f = false → udpPort f ≠ some (s.fld F.GRV_UDPPORT_PORT) → isPtp f = true →
        exec (.ethRxFrame p f true back cor unc) s = .next (rxRing p (u.fld (F.ETH_PTPQ_RING p)) f (stampAt u back (-(corr (u.fld (F.ETH_TSCOR_RXCOR p))))) u)))
  ∧ (∀ (p : Fin 2) (r : Fin 8) (f : List Byte) (stamp : Nat) (s : State), let c := s.fld (F.ETH_RX_CFG_CTX p r)
      let head := (s.reg (Reg.ETH_RX_HEAD p r)).toNat
      let da := s.fld (F.ETH_RX_BASE_LO_BASE p r) * 32 + s.fld (F.ETH_RX_BASE_HI_BASE p r) * 2 ^ 32 + head % 2 ^ s.fld (F.ETH_RX_CFG_QSZ p r) * 32
      let fits := f.length ≤ 2 ^ (s.fld (F.ETH_RX_CFG_BUFSZ p r) + 8)
      let free := s.flag (F.ETH_RX_CFG_EN p r) = true ∧ 0 < wrap ((s.reg (Reg.ETH_RX_TAIL p r)).toNat - (head : Int)) 32
      (¬ fits → rxRing p r f stamp s = s.incHold (F.ETH_RXDROP_LONG p)) ∧ (fits → ¬ free → rxRing p r f stamp s = s.incHold (F.ETH_RXDROP_NOBUF p))
      ∧ (∀ d u, fits → free → netRead ethOid c da 32 s = (.inr d, u) → leAt d 6 2 ≠ 0 →
        (rxRing p r f stamp s).flag (F.ETH_RX_CFG_EN p r) = false ∧ LastEvent (rxRing p r f stamp s) 0x8082 0x34)
      ∧ (∀ d u v, fits → free → netRead ethOid c da 32 s = (.inr d, u) → leAt d 6 2 = 0 → netWrite ethOid c (leAt d 0 6) f u = (none, v) →
        (rxRing p r f stamp s).reg (Reg.ETH_RX_HEAD p r) = BitVec.ofNat 32 (head + 1)))
  ∧ ∀ (p : Fin 2) (lead : Nat) (s : State),
      (s.flag (F.ETH_CTRL_EN p) = false ∨ ethPaused s p = true ∨ txNext s p = none → exec (.ethTxFrame p lead) s = .next s)
      ∧ (∀ r, txNext s p = some r → txPending s p r = true ∧ ∀ q < 8, txPending s p q = true → s.fld (F.ETH_TX_CFG_PRIO p q) ≤ s.fld (F.ETH_TX_CFG_PRIO p r))
      ∧ ∀ r d u f v, let c := s.fld (F.ETH_TX_CFG_CTX p r)
        let head := (s.reg (Reg.ETH_TX_HEAD p r)).toNat
        let da := s.fld (F.ETH_TX_BASE_LO_BASE p r) * 16 + s.fld (F.ETH_TX_BASE_HI_BASE p r) * 2 ^ 32 + head % 2 ^ s.fld (F.ETH_TX_CFG_QSZ p r) * 16
        s.flag (F.ETH_CTRL_EN p) = true → ethPaused s p = false → txNext s p = some r → netRead ethOid c da 16 (s.setTim { s.tim with served := spSet 7 p r s.tim.served }) = (.inr d, u) →
        (∀ o, txBad d = some o → ∃ t, exec (.ethTxFrame p lead) s = .next t ∧ t.flag (F.ETH_TX_CFG_EN p r) = false ∧ LastEvent t 0x8082 0x34 ∧ t.mem = u.mem)
        ∧ (txBad d = none → u.flag (F.ETH_STAT_LINK p) = false → exec (.ethTxFrame p lead) s = .next (txDone p r c da head 2 u))
        ∧ (txBad d = none → u.flag (F.ETH_STAT_LINK p) = true → leAt d 10 1 = 0 → judge u ethOid c (leAt d 0 6) (leAt d 8 2) false = none →
          netRead ethOid c (leAt d 0 6) (leAt d 8 2) u = (.inr f, v) →
          exec (.ethTxFrame p lead) s = .next (txDone p r c da head 1 (v.emit (.eth p (f ++ List.replicate (60 - f.length) 0)))))

/-- Grove cuts descriptors into datagrams, applies each received one once and in order, retries and loses streams, and runs barriers as R435 to R452 say (20_grove_multidevice.md, 19_ethernet_time.md, 13_growth_rings.md). -/
def Obligations.GroveStreamsAndBarriers : Prop :=
  (∀ (ch : BitVec 6) (s : State), let c := ch.toNat
      (chanOn s c = false → exec (.grvWrite ch) s = .next s ∧ exec (.grvSignal ch) s = .next s)
      ∧ (chanOn s c = true → (grvChan s c).sigs = [] → let u := flushSigs c s
        (grvPending u c ≤ 0 → exec (.grvWrite ch) s = .next u ∧ exec (.grvSignal ch) s = .next u)
        ∧ ∀ d v, 0 < grvPending u c → netRead grvOid c (grvDescAddr u c (grvChan u c).taken) 32 u = (.inr d, v) → v.grove = u.grove →
          (leAt d 0 1 = 2 → exec (.grvWrite ch) s = .next v) ∧ (leAt d 0 1 = 1 → exec (.grvSignal ch) s = .next v)
          ∧ (∀ o, leAt d 0 1 ≠ 2 → grvDescBad v d = some o →
            ∃ t, exec (.grvWrite ch) s = .next t ∧ t.flag (F.GRV_CH_CFG_EN c) = false ∧ (grvChan t c).descs = [])
          ∧ (∀ o, leAt d 0 1 ≠ 1 → grvDescBad v d = some o →
            ∃ t, exec (.grvSignal ch) s = .next t ∧ t.flag (F.GRV_CH_CFG_EN c) = false ∧ (grvChan t c).descs = [])
          ∧ (let taken (t : State) : Prop := (grvChan t c).taken = ((grvChan u c).taken + 1) % 2 ^ 32
              ∧ ((grvTx v (leAt d 2 2) c).sent = 256 → (grvTx v (leAt d 2 2) c).port = wantPort v (leAt d 2 2) c →
                (grvTx v (leAt d 2 2) c).q ≠ [] → (grvTx t (leAt d 2 2) c).q = (grvTx v (leAt d 2 2) c).q
                  ++ cutDgs (if s.flag F.GRV_CTRL_MTU = true then 8192 else 4096) (grvChan u c).taken d)
            (leAt d 0 1 = 1 → grvDescBad v d = none → (grvChan v c).descs = [] → ∃ t, exec (.grvWrite ch) s = .next t ∧ taken t)
            ∧ (leAt d 0 1 = 2 → grvDescBad v d = none → (grvChan v c).descs = [] → ∃ t, exec (.grvSignal ch) s = .next t ∧ taken t))))
  ∧ (∀ (mtu k : Nat) (d : List Byte), 0 < mtu → leAt d 0 1 = 1 → 0 < leAt d 4 4 → let gs := (cutDgs mtu k d).filter fun g => g.kind = 1
      (gs.map (·.len)).sum = leAt d 4 4 ∧ (∀ g ∈ gs, 0 < g.len ∧ g.len ≤ mtu ∧ leAt d 16 6 ≤ g.arg ∧ g.arg + g.len ≤ leAt d 16 6 + leAt d 4 4
        ∧ (g.laddr : Int) - leAt d 8 6 = (g.arg : Int) - leAt d 16 6) ∧ ((cutDgs mtu k d).filter fun g => g.flags = 2).length = 1)
  ∧ (∀ (dg : List Byte) (s : State), let c := dgChan dg
      let src := dgSrc dg
      let x := spGet {} s.grove.rx (streamKey src c)
      (s.flag F.GRV_CTRL_EN = false → exec (.writeDatagram dg) s = .next s ∧ exec (.signalDatagram dg) s = .next s ∧ exec (.grvAck dg) s = .next s
        ∧ exec (.grvNack dg) s = .next s ∧ exec (.barArrive dg) s = .next s ∧ exec (.barRelease dg) s = .next s)
      ∧ (s.flag F.GRV_CTRL_EN = true → dgOk s dg = false → let t := s.incHold F.GRV_RXDROP_CNT
        exec (.writeDatagram dg) s = .next t ∧ exec (.signalDatagram dg) s = .next t ∧ exec (.grvAck dg) s = .next t ∧ exec (.grvNack dg) s = .next t)
      ∧ (s.flag F.GRV_CTRL_EN = true → dgOk s dg = true →
        (s.flag (F.GRV_CH_CFG_EN c) = false → ∃ u, LastEvent u 0x80C2 0x35 ∧ u.mem = s.mem ∧ let t := grvReply src c 4 4 (dgSeq dg) u
          (dgKind dg = 1 → exec (.writeDatagram dg) s = .next t) ∧ (dgKind dg = 2 → exec (.signalDatagram dg) s = .next t)
          ∧ (dgKind dg = 5 → exec (.barArrive dg) s = .next t) ∧ (dgKind dg = 6 → exec (.barRelease dg) s = .next t))
        ∧ (s.flag (F.GRV_CH_CFG_EN c) = true →
          let w := if (leAt dg 1 1).testBit 0 = true ∧ dgSeq dg = 0 then s.setGrove { s.grove with rx := spSet {} (streamKey src c) {} s.grove.rx } else s
          (dgSeq dg = (spGet {} w.grove.rx (streamKey src c)).next →
            (dgKind dg = 1 → ∀ ok v, goWrite dg w = (ok, v) → exec (.writeDatagram dg) s = .next (if ok = true then dgApplied dg v else grvReply src c 4 4 (dgSeq dg) v))
            ∧ (dgKind dg = 2 → ∀ ok v, goSignal dg w = (ok, v) → exec (.signalDatagram dg) s = .next (if ok = true then dgApplied dg v else grvReply src c 4 4 (dgSeq dg) v))
            ∧ (dgKind dg = 5 → exec (.barArrive dg) s = .next (dgApplied dg (goArrive dg w).2))
            ∧ (dgKind dg = 6 → exec (.barRelease dg) s = .next (dgApplied dg (goRelease dg w).2)))
          ∧ (dgSeq dg ≠ (spGet {} w.grove.rx (streamKey src c)).next → ∃ t, t.mem = s.mem ∧ t.regs = s.regs ∧ t.grove = s.grove
            ∧ (dgKind dg = 1 → exec (.writeDatagram dg) s = .next t) ∧ (dgKind dg = 2 → exec (.signalDatagram dg) s = .next t)
            ∧ (dgKind dg = 5 → exec (.barArrive dg) s = .next t) ∧ (dgKind dg = 6 → exec (.barRelease dg) s = .next t))))
      ∧ (spGet {} (dgApplied dg s).grove.rx (streamKey src c)).next = (x.next + 1) % 2 ^ 32)
  ∧ (∀ (dg : List Byte) (s : State), s.flag F.GRV_CTRL_EN = true → dgOk s dg = true → chanOn s (dgChan dg) = true →
      (dgKind dg = 3 → exec (.grvAck dg) s = .next (grvAcked (dgSrc dg) (dgChan dg) ((dgSeq dg + 1) % 2 ^ 32) s))
      ∧ (dgKind dg = 4 → (leAt dg 1 1).testBit 2 = true → ∃ t, exec (.grvNack dg) s = .next t ∧ t.flag (F.GRV_CH_CFG_EN (dgChan dg)) = false
        ∧ (grvTx t (dgSrc dg) (dgChan dg)).q = [])
      ∧ (dgKind dg = 4 → (leAt dg 1 1).testBit 2 = false → let u := grvAcked (dgSrc dg) (dgChan dg) (dgSeq dg) s
        let x := grvTx u (dgSrc dg) (dgChan dg)
        (x.sent = 0 → exec (.grvNack dg) s = .next u)
        ∧ (0 < x.sent → x.tries < max 1 (u.fld F.GRV_RETRY_LIM) → (∀ g ∈ x.q, g.kind ≠ 1) → ∃ t, exec (.grvNack dg) s = .next t
          ∧ (grvTx t (dgSrc dg) (dgChan dg)).tries = x.tries + 1 ∧ (grvTx t (dgSrc dg) (dgChan dg)).q = x.q ∧ t.mem = u.mem))
      ∧ ∀ (dev c upTo : Nat), dev < 2 ^ 14 → c < 64 → let x := grvTx s dev c
        let n := (upTo + 2 ^ 32 - x.base) % 2 ^ 32
        (n = 0 ∨ x.sent < n → grvAcked dev c upTo s = s)
        ∧ (0 < n → n ≤ x.sent → x.q.length = x.sent → x.sent ≤ 256 → (∀ d ∈ (grvChan s c).descs, d.dst ≠ dev) →
          (grvTx (grvAcked dev c upTo s) dev c).base = upTo % 2 ^ 32 ∧ (grvTx (grvAcked dev c upTo s) dev c).q = x.q.drop n ∧ (grvAcked dev c upTo s).mem = s.mem))
  ∧ (∀ (dev : BitVec 14) (ch : BitVec 6) (s : State), let x := grvTx s dev.toNat ch.toNat
      let y := spGet {} s.grove.rx (streamKey dev.toNat ch.toNat)
      let late := 0 < x.sent ∧ chanOn s ch.toNat = true ∧ s.passed x.since (max 1 (s.fld F.GRV_RETRY_RTO)) = true
      (¬ late → exec (.retransmitTimeout dev ch) s = .next s)
      ∧ (late → x.tries < max 1 (s.fld F.GRV_RETRY_LIM) → (∀ g ∈ x.q, g.kind ≠ 1) → ∃ t, exec (.retransmitTimeout dev ch) s = .next t
        ∧ (grvTx t dev.toNat ch.toNat).tries = x.tries + 1 ∧ (grvTx t dev.toNat ch.toNat).q = x.q ∧ t.mem = s.mem
        ∧ (linkUp s x.port = true → x.sent ≤ x.q.length → t.out.length = s.out.length + x.sent))
      ∧ (late → max 1 (s.fld F.GRV_RETRY_LIM) ≤ x.tries → ∃ t, exec (.retransmitTimeout dev ch) s = .next t ∧ t.flag (F.GRV_CH_CFG_EN ch.toNat) = false
        ∧ (grvTx t dev.toNat ch.toNat).q = [])
      ∧ (y.unacked = 0 ∨ s.passed y.since 2 = false → exec (.ackTimer dev ch) s = .next s)
      ∧ (0 < y.unacked → s.passed y.since 2 = true → ∃ t, exec (.ackTimer dev ch) s = .next t ∧ t.regs = s.regs ∧ t.mem = s.mem
        ∧ spGet {} t.grove.rx (streamKey dev.toNat ch.toNat) = { y with unacked := 0 }))
  ∧ (∀ (b : BitVec 4) (s : State), let n := b.toNat
      let x := grvBar s n
      let v := ringVal s (6 * 1024 + s.fld (F.GRV_BAR_CFG_ARING n))
      let st := s.fld (F.GRV_BAR_STAT_STATE n)
      let on := s.flag F.GRV_CTRL_EN = true ∧ s.flag (F.GRV_BAR_CFG_EN n) = true ∧ v ≠ x.base ∧ s.flag F.TIM_SYNC_LOCKED = true
      (¬ on → exec (.barrierArrival b) s = .next s)
      ∧ (on → s.fld (F.GRV_BAR_PART_COORD n) = devId s → st ≠ barArrived → st ≠ barArmed → x.now.length + 1 < s.fld (F.GRV_BAR_PART_NM1 n) + 1 →
        (∀ e ∈ x.now, e.1 ≠ devId s) → ∃ t, exec (.barrierArrival b) s = .next t ∧ t.fld (F.GRV_BAR_STAT_STATE n) = barArrived ∧ t.mem = s.mem
          ∧ grvBar t n = { x with base := v, since := s.elapsed, now := x.now ++ [(devId s, refOk s)] })
      ∧ (on → s.fld (F.GRV_BAR_PART_COORD n) ≠ devId s → st ≠ barArrived → st ≠ barArmed → ∃ t, exec (.barrierArrival b) s = .next t
        ∧ t.fld (F.GRV_BAR_STAT_STATE n) = barArrived ∧ (grvBar t n).base = v)
      ∧ (∀ dev gen ok, gen = s.fld (F.GRV_BAR_STAT_GEN n) → (∃ e ∈ x.now, e.1 = dev) → barCount n dev gen ok s = s)
      ∧ (st ≠ barArmed ∨ s.time < (x.t + 100) * 65536 → exec (.barrierRelease b) s = .next s)
      ∧ (st = barArmed → (x.t + 100) * 65536 ≤ s.time → s.flag F.TIM_SYNC_LOCKED = false → ∃ t, exec (.barrierRelease b) s = .next t
        ∧ t.fld (F.GRV_BAR_STAT_STATE n) = barFailed ∧ LastEvent t 0x80C6 0x35 ∧ t.mem = s.mem)
      ∧ (st = barArmed → (x.t + 100) * 65536 ≤ s.time → s.flag F.TIM_SYNC_LOCKED = true → s.flag F.GRN_CTRL_EN = true → x.next = [] →
        let r := 6 * 1024 + s.fld (F.GRV_BAR_CFG_RRING n)
        ∃ t, exec (.barrierRelease b) s = .next t ∧ t.fld (F.GRV_BAR_STAT_STATE n) = barReleased ∧ ringVal t r = (ringVal s r + 1) % 2 ^ 32 ∧ t.mem = s.mem
          ∧ t.fld (F.GRV_BAR_STAT_GEN n) = (s.fld (F.GRV_BAR_STAT_GEN n) + 1) % 2 ^ 16 ∧ t.reg64 (Reg.GRV_BAR_T_LO n) = recTime x.t ∧ (grvBar t n).now = [])
      ∧ (let late := st = barArrived ∧ s.passed x.since (max 1 (s.fld (F.GRV_BAR_CFG_TMO n)) * 100000) = true
        (late → ∃ t, exec (.barrierTimeout b) s = .next t ∧ t.fld (F.GRV_BAR_STAT_STATE n) = barFailed ∧ LastEvent t 0x80C7 0x35 ∧ t.mem = s.mem)
        ∧ (¬ late → exec (.barrierTimeout b) s = .next s)))
  ∧ ∀ (dg : List Byte) (s : State), let n := dgArg dg % 16
      let t := completeTime s.ns (leNat ((dg.drop 32).take 8))
      s.flag (F.GRV_BAR_CFG_EN n) = true → slice (dgArg dg) 23 8 = s.fld (F.GRV_BAR_STAT_GEN n) → s.fld (F.GRV_BAR_STAT_STATE n) = barArrived →
      (s.time + 1000 * 65536 ≤ t * 65536 → (goRelease dg s).2.fld (F.GRV_BAR_STAT_STATE n) = barArmed ∧ (grvBar (goRelease dg s).2 n).t = t ∧ (goRelease dg s).1 = true)
      ∧ (t * 65536 < s.time + 1000 * 65536 → (goRelease dg s).2.fld (F.GRV_BAR_STAT_STATE n) = barFailed ∧ LastEvent (goRelease dg s).2 0x80C5 0x35)

/-- The Bough pairs move between their states, and their cores run, take interrupts and access memory, exactly as R453 to R465 say (21_bough_lockstep.md). -/
def Obligations.BoughPairs : Prop :=
  (∀ (p : Fin 4) (lines ns : BitVec 32) (s : State),
      (pairState s p ≠ bgSplitting → exec (.splitComplete p lines ns) s = .next s)
      ∧ (pairState s p = bgSplitting → ∃ u, exec (.splitComplete p lines ns) s = .next (bghEvent 0xB004 0 p lines.toNat ns.toNat 0 u)
        ∧ RegsOnly [Reg.BGH_PAIR_STAT p, Reg.BGH_CORE_IPEND (2 * p.val + 1), Reg.BGH_CORE_STAT (2 * p.val + 1)] { s with bghCore := u.bghCore, memsys := u.memsys } u
        ∧ pairState u p = bgSplit ∧ u.flag (F.BGH_PAIR_STAT_SAFE p) = false ∧ u.fld (F.BGH_CORE_IPEND_PEND (2 * p.val + 1)) = 0
        ∧ (let k := bghCore s (2 * p)
          bghCore u (2 * p) = k ∧ bghCore u (2 * p + 1) = { k with csr := (bghCore u (2 * p + 1)).csr }
          ∧ ∀ n, spGet 0 (bghCore u (2 * p + 1)).csr n = if n = csrMip then 0 else spGet 0 k.csr n)
        ∧ (∀ d, d ∈ u.memsys.dirty ↔ d ∈ s.memsys.dirty ∧ d.core ≠ 2 * p.val)
        ∧ u.fld (F.BGH_CORE_STAT_CTX (2 * p.val + 1)) = s.fld (F.BGH_CORE_STAT_CTX (2 * p.val))))
  ∧ (∀ (p : Fin 4) (ok : Bool) (ns : BitVec 32) (s : State),
      (pairState s p ≠ bgJoining → exec (.joinComplete p ok ns) s = .next s)
      ∧ (pairState s p = bgJoining → (∃ u, exec (.joinComplete p true ns) s = .next (bghEvent 0xB005 0 p ns.toNat 0 0 u)
          ∧ RegsOnly [Reg.BGH_PAIR_STAT p, Reg.BGH_CORE_STAT (2 * p.val + 1)] { s with bghCore := u.bghCore, memsys := u.memsys } u
          ∧ bghCore u (2 * p) = bghCore s (2 * p) ∧ (∀ d ∈ u.memsys.dirty, d.core ≠ 2 * p.val) ∧ pairState u p = bgLockstep ∧ u.flag (F.BGH_PAIR_STAT_PARKED p) = false
          ∧ u.fld (F.BGH_CORE_STAT_CTX (2 * p.val + 1)) = s.fld (F.BGH_CORE_STAT_CTX (2 * p.val)))
        ∧ exec (.joinComplete p false ns) s = .next (bghEvent 0xB009 3 p 4 0 0 (losePair p s))))
  ∧ (∀ (p : Fin 4) (fails : List RowFail) (s : State),
      (pairState s p ≠ bgSelftest → (pairState s p ≠ bgQuarantine ∨ (bghPair s p).passed = true) → ∀ ok, exec (.pairSelftestComplete p fails ok) s = .next s)
      ∧ (pairState s p = bgSelftest →
        (∃ t, exec (.pairSelftestComplete p fails true) s = .next t ∧ pairState t p = bgQuarantine ∧ t.mem = s.mem)
        ∧ ∃ t, exec (.pairSelftestComplete p fails false) s = .next t ∧ pairState t p = bgLost ∧ LastEvent t 0xB009 (0x28 + p.val)
          ∧ (s.memsys.dirty = [] → t.mem = s.mem))
      ∧ (pairState s p = bgQuarantine → (bghPair s p).passed = false →
        exec (.pairSelftestComplete p fails true) s = .next (modPair p (fun x => { x with passed := true }) s)
        ∧ exec (.pairSelftestComplete p fails false) s = .next (bghEvent 0xB009 3 p 2 0 0 (losePair p s))))
  ∧ (∀ (p : Fin 4) (a0 a1 : BitVec 48) (k : BitVec 4) (s : State), pairsHeld s = false →
      exec (.boughPairTransaction p .same) s = .next s
      ∧ (k = 0 ∨ (pairState s p ≠ bgLockstep ∧ pairState s p ≠ bgSplitting) → exec (.boughPairTransaction p (.differ a0 a1 k)) s = .next s)
      ∧ (k ≠ 0 → pairState s p = bgLockstep ∨ pairState s p = bgSplitting →
        (s.flag (F.BGH_PAIR_STAT_SAFE p) = true → let u := { s with hwd := { s.hwd with faults := s.hwd.faults ++ [⟨p, a0.toNat % 2 ^ 32, a1.toNat % 2 ^ 32, k.toNat⟩] } }
          exec (.boughPairTransaction p (.differ a0 a1 k)) s = .next (bghEvent 0xB001 3 p (a0.toNat % 2 ^ 32) (a1.toNat % 2 ^ 32) k.toNat (losePair p u)))
        ∧ (s.flag (F.BGH_PAIR_STAT_SAFE p) = false → ∃ t, exec (.boughPairTransaction p (.differ a0 a1 k)) s = .next t ∧ pairState t p = pairState s p
          ∧ t.fld (F.BGH_PAIR_STAT_ADVCNT p) = min (s.fld (F.BGH_PAIR_STAT_ADVCNT p) + 1) 0xFFFF ∧ LastEvent t 0xB002 (0x28 + p.val) ∧ t.mem = s.mem))
      ∧ ∀ copy l2 off x, (bgJoining < pairState s p → exec (.boughPairTransaction p (.badWord copy l2 off x)) s = .next s)
        ∧ (pairState s p ≤ bgJoining → off.toNat < (if l2 = true then 0x80000 else 0x10000) → eccDecode x.toNat = .bad →
          (if l2 = true then l2Base (2 * p + ofBool copy) else l1Base (2 * p + ofBool copy)) + off.toNat / 8 * 8 ∉ s.memsys.ueSeen →
          ∃ t, exec (.boughPairTransaction p (.badWord copy l2 off x)) s = .next t ∧ pairState t p = bgLost ∧ (s.memsys.dirty = [] → t.mem = s.mem)
          ∧ t.fld F.MEM_UECNT_CNT = min (s.fld F.MEM_UECNT_CNT + 1) 0xFFFF))
  ∧ (∀ (p : Fin 4) (s : State), let u := losePair p s
      pairState u p = bgLost ∧ (bghPair u p).passed = false ∧ u.flag (F.BGH_PAIR_STAT_SAFE p) = false ∧ u.flag (F.BGH_PAIR_STAT_PARKED p) = false
      ∧ RegsOnly [Reg.BGH_PAIR_STAT p] { s with bgh := u.bgh, mem := u.mem, memsys := u.memsys, free := u.free } u
      ∧ (∀ a, u.byte a = s.byte a ∨ ∃ d ∈ s.memsys.dirty, d.core / 2 = p.val ∧ d.line ≤ a ∧ a < d.line + d.was.length)
      ∧ (∀ d, d ∈ u.memsys.dirty ↔ d ∈ s.memsys.dirty ∧ d.core / 2 ≠ p.val)
      ∧ ∀ q : Fin 4, q ≠ p → pairState u q = pairState s q ∧ bghPair u q = bghPair s q)
  ∧ (∀ (p : Fin 4) (s : State),
      (s.flag (F.BGH_PAIR_STAT_SAFE p) = false → exec (.bghAgreeFallback p) s = .next s)
      ∧ (s.flag (F.BGH_PAIR_STAT_SAFE p) = true → ∃ u, exec (.bghAgreeFallback p) s = .next (bghEvent 0xB007 1 p 0 0 0 u) ∧ RegsOnly [Reg.BGH_PAIR_STAT p] s u
        ∧ u.flag (F.BGH_PAIR_STAT_AGFAIL p) = true ∧ u.flag (F.BGH_PAIR_STAT_SAFE p) = false ∧ pairState u p = pairState s p))
  ∧ (∀ (p : Fin 4) (c0 c1 : List (BitVec 8)) (s : State), pairsHeld s = false →
      let u := modPair p (fun x => { x with slice := (x.slice + 1) % 128 }) s
      (pairState s p ≠ bgLockstep → exec (.pairSignatureCheck p c0 c1) s = .next s)
      ∧ (pairState s p = bgLockstep → exec (.pairSignatureCheck p c0 c1) s
        = .next (if crc32c c0 = crc32c c1 then u else bghEvent 0xB003 1 p (bghPair s p).slice (crc32c c0) (crc32c c1) u)))
  ∧ (∀ (c : Fin 8) (s : State), let n := c.val
      ((s.reg64 (Reg.BGH_CORE_MTIMECMP_LO n) ≤ bghMtime s ∧ (n % 2 = 0 ∨ pairState s (n / 2) = bgSplit)) → exec (.mtimecmpMatch c) s = .next (s.emit (.bghIrq n 7)))
      ∧ (bghMtime s < s.reg64 (Reg.BGH_CORE_MTIMECMP_LO n) ∨ (n % 2 = 1 ∧ pairState s (n / 2) ≠ bgSplit) → exec (.mtimecmpMatch c) s = .next s))
  ∧ (∀ (c : Fin 8) (data : BitVec 32) (s : State), RegsOnly [Reg.BGH_CORE_IPEND c] s (ipsetWritten c data.toNat s)
      ∧ (ipsetWritten c data.toNat s).fld (F.BGH_CORE_IPEND_PEND c) = s.fld (F.BGH_CORE_IPEND_PEND c) ||| data.toNat)
  ∧ ∀ (p : Fin 4) (oid : Nat) (s : State), pairsHeld s = false →
      (pairState s p ≠ bgLockstep → pairCmdWritten p 1 oid s = s)
      ∧ (pairState s p = bgLockstep → pairCmdWritten p 1 oid s = if s.flag (F.BGH_PAIR_CFG_SPLITOK p) = true then setPair p bgSplitting s else handoverErr p 0 oid s)
      ∧ (pairState s p ≠ bgSplit → ∀ k ∈ [2, 4, 8], pairCmdWritten p k oid s = s)
      ∧ (pairState s p = bgSplit → let u := pairCmdWritten p 2 oid s
        u.flag (F.BGH_PAIR_STAT_PARKED p) = true ∧ pairState u p = bgSplit
        ∧ RegsOnly [Reg.BGH_PAIR_STAT p, Reg.BGH_CORE_IPEND (2 * p.val)] { s with bghCore := u.bghCore, memsys := u.memsys } u
        ∧ (∀ c, c ≠ 2 * p.val → bghCore u c = bghCore s c) ∧ (∀ n, n ≠ csrMip → spGet 0 (bghCore u (2 * p)).csr n = spGet 0 (bghCore s (2 * p)).csr n)
        ∧ (bghCore u (2 * p)).csrN csrMip = (bghCore s (2 * p)).csrN csrMip ||| (bghCore s (2 * p + 1)).csrN csrMip
        ∧ u.fld (F.BGH_CORE_IPEND_PEND (2 * p.val)) = s.fld (F.BGH_CORE_IPEND_PEND (2 * p.val)) ||| s.fld (F.BGH_CORE_IPEND_PEND (2 * p.val + 1))
        ∧ pairCmdWritten p 4 oid s = s.put (F.BGH_PAIR_STAT_PARKED p) 0
        ∧ pairCmdWritten p 8 oid s = if s.flag (F.BGH_PAIR_STAT_PARKED p) = true then setPair p bgJoining s else handoverErr p 3 oid s)
      ∧ (pairState s p ≠ bgLost → pairCmdWritten p 16 oid s = s)
      ∧ (pairState s p = bgLost → let u := pairCmdWritten p 16 oid s
        pairState u p = bgSelftest ∧ (bghPair u p).passed = false ∧ RegsOnly [Reg.BGH_PAIR_STAT p] { s with bgh := u.bgh } u)
      ∧ (pairState s p ≠ bgQuarantine ∨ (bghPair s p).passed = false → pairCmdWritten p 32 oid s = s)
      ∧ (pairState s p = bgQuarantine → (bghPair s p).passed = true → ∃ u, pairCmdWritten p 32 oid s = bghEvent 0xB008 0 p 0 0 0 u ∧ u.mem = s.mem
        ∧ pairState u p = bgLockstep ∧ u.flag (F.BGH_PAIR_STAT_AGFAIL p) = false ∧ u.flag (F.BGH_PAIR_STAT_SAFE p) = !(s.flag (F.BGH_PAIR_CFG_AGREE p))
        ∧ bghCore u (2 * p) = { pc := BitVec.ofNat 64 ((s.reg (Reg.BGH_PAIR_ENTRY_LO p)).toNat + s.fld (F.BGH_PAIR_ENTRY_HI_PC_HI p) * 2 ^ 32) }
        ∧ ∀ c ∈ [2 * p.val, 2 * p.val + 1], u.fld (F.BGH_CORE_IEN_EN c) = 0 ∧ u.fld (F.BGH_CORE_STAT_CTX c) = 0)
  ∧ (∀ (s : State) (c : Nat), bghRuns s c = false → bghStep s c = s)
  ∧ (∀ (p : Fin 4) (s : State), let st := pairState s p
      (bghRuns s (2 * p) = true ↔ pairsHeld s = false ∧ (st = bgLockstep ∨ st = bgSplit))
      ∧ (bghRuns s (2 * p + 1) = true ↔ pairsHeld s = false ∧ st = bgSplit ∧ s.flag (F.BGH_PAIR_STAT_PARKED p) = false))
  ∧ (∀ (s : State) (c : Fin 8) (k : BghCore),
      (bitAt (bghMip s c k) 7 = true ↔ s.reg64 (Reg.BGH_CORE_MTIMECMP_LO c) ≤ bghMtime s)
      ∧ (bitAt (bghMip s c k) 11 = true ↔ s.fld (F.BGH_CORE_IPEND_PEND c) &&& s.fld (F.BGH_CORE_IEN_EN c) ≠ 0)
      ∧ (bghRuns s c = true → ∀ i, bghIntr s c k = some i → k = bghCore s c → bghStep s c = setBghCore c (k.trap true i 0) s)
      ∧ csrRead s c 0x7C0 k = some (s.fld (F.BGH_CORE_STAT_CTX c), s)
      ∧ csrRead s c 0x7C1 k = some (ofBool (pairState s (c / 2) = bgLockstep)
          + ofBool (pairState s (c / 2) = bgLockstep && s.flag (F.BGH_PAIR_STAT_SAFE (c / 2))) * 2, s)
      ∧ csrRead s c 0xF14 k = some (c.val, s)
      ∧ (∀ n, 0xB03 ≤ n → n < 0xB20 → csrRead s c n k = some (0, s)) ∧ (counterOk k 1 = true → csrRead s c 0xC01 k = some (bghMtime s, s))
      ∧ (∀ v, (csrWrite c 0x7C0 v k s).1 = k ∧ (csrWrite c 0x7C0 v k s).2.fld (F.BGH_CORE_STAT_CTX c) = v % 64)
      ∧ (∀ v, slice v 63 60 ≠ 0 → slice v 63 60 ≠ 9 → csrWrite c 0x180 v k s = (k, s)))
  ∧ (∀ (c : Nat) (k : BghCore) (va n v : Nat) (s : State), 64 < va % 64 + n →
      bghLoad c k va n s = (.inl ⟨4, va⟩, s) ∧ bghStore c k va n v s = (some ⟨6, va⟩, s))
  ∧ ∀ (c : Nat) (k : BghCore) (va n v pa : Nat) (f : Nat → Nat) (s t : State), va % n = 0 → 0x1800000000 ≤ pa →
      (checked c k k.dataMode .load va s = (.inr pa, t) → bghLr c k va n s = (.inl ⟨5, va⟩, t))
      ∧ (checked c k k.dataMode .store va s = (.inr pa, t) → bghSc c k va n v s = (.inl ⟨7, va⟩, t) ∧ bghAmo c k va n f s = (.inl ⟨7, va⟩, t))

/-- Wipes, tamper trips, fuses, lifecycle transitions, rollback counts, resets, the boot and the host port act exactly as R470 to R504 say (22_roles_lifecycle_pith.md, 23_power_clocks_reset_boot.md). -/
def Obligations.LifecycleResetsAndBoot : Prop :=
  (∀ (cause oid : Nat) (s : State), let t := startWipe cause oid s
      (∀ a < pithSize, t.byte (pithBase + a) = 0) ∧ (∀ a, a < pithBase ∨ pithBase + pithSize ≤ a → t.byte a = s.byte a) ∧ t.lcs.wipe = some (lowerCause s.lcs.wipe (cause, oid))
      ∧ t.flag F.LCS_STAT_WIPING = true ∧ t.flag F.LCS_STAT_PITHUE = false ∧ t.lcs.fuse = s.lcs.fuse ∧ (s.evq.dump = none → RegsOnly [Reg.LCS_STAT] { s with mem := t.mem, memsys := t.memsys, lcs := t.lcs } t))
  ∧ (∀ s : State, (s.lcs.wipe = none → exec .wipeComplete s = .next s)
      ∧ ∀ w, s.lcs.wipe = some w → ∃ u, u.flag F.LCS_STAT_WIPING = false ∧ RegsOnly [Reg.LCS_STAT] { s with lcs := { s.lcs with wipe := none } } u
        ∧ exec .wipeComplete s = .next (if s.sap.power = true then lcEvent 0xD004 w.2 1 w.1 0 0 0 u
          else u.setLcs { u.lcs with owedWipe := some (lowerCause s.lcs.owedWipe w) }))
  ∧ (∀ (sensors : BitVec 5) (s : State), let bits := tripping s sensors.toNat
      (∀ i < 5, bits.testBit i = (sensors.getLsbD i && (i == 0 || i == 3 || (s.fld F.LCS_TEN_EN).testBit i) && !(s.fld F.LCS_TAMPER_TRIP).testBit i && !(i == 3 && s.sap.power)))
      ∧ (bits = 0 → exec (.tamperTrip sensors) s = .next s)
      ∧ (bits ≠ 0 → ∃ t, exec (.tamperTrip sensors) s = .next t ∧ t.fld F.LCS_TAMPER_TRIP = s.fld F.LCS_TAMPER_TRIP ||| bits ∧ (∀ a < pithSize, t.byte (pithBase + a) = 0)
        ∧ t.lcs.wipe = some (lowerCause s.lcs.wipe (1, 0x30)) ∧ t.flag F.LCS_STAT_WIPING = true ∧ (s.sap.power = true → LastEvent t 0xD003 0x30)
        ∧ (s.sap.power = false → t.lcs.owedTamper = s.lcs.owedTamper ||| bits)))
  ∧ (∀ (s : State) (w : Nat), let a := fuseCopy s w 0
      let b := fuseCopy s w 1
      let c := fuseCopy s w 2
      (a = b → (resolveFuse s w).1 = a) ∧ (a = c → (resolveFuse s w).1 = a) ∧ (b = c → (resolveFuse s w).1 = b) ∧ ((resolveFuse s w).2 = 0 ↔ a = b ∧ b = c)
      ∧ (a ≠ b → a ≠ c → b ≠ c → (resolveFuse s w).2 = 2
        ∧ (resolveFuse s w).1 = if w = 0 then 2 ^ 4 else if w = 1 then 3 else if 28 ≤ w ∧ w < 40 then a ||| b ||| c else 0))
  ∧ (∀ (x y z : BitVec 32) (s : State), (s.lcs.prog = none → exec (.fuseProgramComplete x y z) s = .next s)
      ∧ ∀ w v old, s.lcs.prog = some (w, v, old) → v < 2 ^ 32 → ∃ u, u.lcs.prog = none ∧ u.mem = s.mem ∧ u.flag F.LCS_FPROG_STAT_BUSY = false ∧ u.flag F.LCS_FPROG_STAT_DONE = true
        ∧ (∀ k (h : k < 3), fuseCopy u w k = fuseCopy s w k ||| (v &&& (v ^^^ ([x, y, z][k]'h).toNat)))
        ∧ (∀ j k, j ≠ w → k < 3 → fuseCopy u j k = fuseCopy s j k)
        ∧ (u.flag F.LCS_FPROG_STAT_FAIL = true ↔ s.flag F.LCS_FPROG_STAT_FAIL = true ∨ (resolveFuse u w).1 ≠ old ||| v ∨ (resolveFuse u w).2 ≠ 0)
        ∧ (s.lcs.next = none → exec (.fuseProgramComplete x y z) s = .next u)
        ∧ ∀ n, s.lcs.next = some n → exec (.fuseProgramComplete x y z) s = .next (transition n.2 n.1 0 u))
  ∧ (∀ (oid : Nat) (s : State), let w := s.fld F.LCS_FPROG_IDX_WORD
      let t := fuseCmdWritten oid 1 s
      (s.flag F.LCS_FPROG_STAT_BUSY = true → t = s)
      ∧ (s.flag F.LCS_FPROG_STAT_BUSY = false → tapOpen s = false ∨ w = 0 ∨ (32 ≤ w ∧ w < 40) →
        t.flag F.LCS_FPROG_STAT_FAIL = true ∧ t.lcs = s.lcs ∧ t.mem = s.mem ∧ LastEvent t 0xD007 oid)
      ∧ (s.flag F.LCS_FPROG_STAT_BUSY = false → tapOpen s = true → w ≠ 0 → ¬(32 ≤ w ∧ w < 40) → t.flag F.LCS_FPROG_STAT_BUSY = true ∧ t.mem = s.mem
        ∧ t.lcs.prog = some (w, s.fld F.LCS_FPROG_VAL_VAL, (resolveFuse s w).1) ∧ t.reg Reg.LCS_CHG_MAKER = (bumpChange Reg.LCS_CHG_MAKER s).reg Reg.LCS_CHG_MAKER))
  ∧ (∀ (s : State), ∀ r ∈ [Reg.LCS_CHG_INST, Reg.LCS_CHG_MAKER], (bumpChange r s).reg r = (if s.reg r = 0xFFFFFFFF then s.reg r else s.reg r + 1)
      ∧ (∀ o, o ≠ r → (bumpChange r s).reg o = s.reg o) ∧ ((s.reg r).toNat % 1024 ≠ 1023 → (bumpChange r s).lcs = s.lcs))
  ∧ (∀ (oid target data bad : Nat) (s : State),
      (transitionOk s oid target = true → lcState s < target ∧ target ≤ lcEnd ∧ (oid = 1 ∨ oid = 2))
      ∧ (slice data 31 16 ≠ 0x4C43 ∨ transitionOk s oid (slice data 2 0) = false →
        (lcCmdWritten oid data bad s).lcs = s.lcs ∧ (lcCmdWritten oid data bad s).mem = s.mem ∧ LastEvent (lcCmdWritten oid data bad s) 0xD007 oid)
      ∧ (slice data 31 16 = 0x4C43 → transitionOk s oid (slice data 2 0) = true → lcCmdWritten oid data bad s = if s.flag F.LCS_FPROG_STAT_BUSY = true
          then s.setLcs { s.lcs with next := some (slice data 2 0, oid) } else transition oid (slice data 2 0) bad s)
      ∧ (1 ≤ target → target ≤ lcEnd → s.sap.power = true → let t := transition oid target bad s
        t.lcs.changed = some (lcState s, oid, (t.reg (chgReg oid)).toNat) ∧ t.reg (chgReg oid) = (bumpChange (chgReg oid) s).reg (chgReg oid) ∧ (∀ a < pithSize, t.byte (pithBase + a) = 0)
        ∧ (∀ k < 3, fuseCopy t 0 k = fuseCopy s 0 k ||| if bad.testBit k = true then 0 else 2 ^ (target - 1)) ∧ t.sap.held = some (lowerCause s.sap.held (3, 0))
        ∧ t.lcs.wipe = none ∧ ∀ o, o ∉ [Reg.LCS_STAT, Reg.LCS_TAMPER, Reg.LCS_CHG_INST, Reg.LCS_CHG_MAKER] → t.reg o = State.reset.reg o))
  ∧ (∀ (oid v : Nat) (s : State), ∀ x ∈ [(1, 28, s.lcs.fwRb), (2, 30, s.lcs.cfgRb)], let t := rbCmdWritten oid x.1 s
      (x.2.2 = none → t = s) ∧ (x.2.2 = some v → min v 64 ≤ fuseCount s x.2.1 2 → t = s)
      ∧ (x.2.2 = some v → fuseCount s x.2.1 2 < min v 64 → fuseCount t x.2.1 2 = min v 64 ∧ LastEvent t 0xD009 oid ∧ t.mem = s.mem
        ∧ t.reg Reg.LCS_CHG_INST = (bumpChange Reg.LCS_CHG_INST s).reg Reg.LCS_CHG_INST))
  ∧ (∀ s : State, (resetFrames s).out = s.out ++ ((List.range 16).filter fun p => portState s p = rlkUp).map fun p => Out.rlk p 5 (linkFrame 5 0x80 s.cmb.cycle []))
  ∧ (∀ (cause rail : Nat) (s : State), ResetTo s (globalReset cause rail s)
      ∧ (s.sap.power = true ∨ s.sap.held ≠ none → (globalReset cause rail s).sap.held = some (lowerCause s.sap.held (cause, rail)))
      ∧ (s.sap.power = false → s.sap.held = none → (globalReset cause rail s).sap.held = none)
      ∧ (globalReset cause rail s).sap.power = s.sap.power ∧ (globalReset cause rail s).sap.lost = s.sap.lost)
  ∧ (∀ (rail : Fin 8) (s : State), exec .resetNAssert s = .next (globalReset 1 0 s) ∧ exec (.clockLoss .hwd) s = .next (globalReset 5 0 s)
      ∧ exec (.clockLoss .xtal) s = .next (globalReset 6 0 s)
      ∧ exec (.brownOut rail) s = .next ((globalReset 4 rail s).setSap { (globalReset 4 rail s).sap with power := false }))
  ∧ (∀ (b : BootIn) (s : State), ResetTo s (resetKept s)
      ∧ (s.sap.held = none → exec (.powerOnBoot b) s = .next (boot b (0, 0) (powerUp (resetKept s))))
      ∧ (∀ c, s.sap.held = some c → exec (.powerOnBoot b) s = .next (boot b c (powerUp (resetKept s))))
      ∧ (s.sap.held = none ∨ s.sap.power = false → exec (.globalResetRelease b) s = .next s)
      ∧ ∀ c, s.sap.held = some c → s.sap.power = true → exec (.globalResetRelease b) s = .next (boot b c (resetKept s)))
  ∧ (∀ (b : BootIn) (cause : Nat × Nat) (s : State), cause.1 < 16 → let t := boot b cause s
      let life := (resolveFuse s 0).1
      t.sap.held = none ∧ t.sap.power = true ∧ t.sap.lost = false ∧ t.fld F.SAP_RSTCAUSE_CAUSE = cause.1 ∧ (life % 32 = 0 → lcState t = lcMaker)
      ∧ (∀ i < 5, life.testBit i = true → (∀ j < 5, i < j → life.testBit j = false) → lcState t = i + 1)
      ∧ (∀ w, (0 < w ∧ w < 4) ∨ (28 ≤ w ∧ w < 128) → (t.reg (Reg.LCS_FUSE w)).toNat = (resolveFuse s w).1)
      ∧ (lcState t = lcEnd → t.fld F.SAP_BOOT_STAGE = 6) ∧ (lcState t ≠ lcEnd → t.fld F.SAP_BOOT_STAGE = 5 ∧ t.reg Reg.SAP_BOOTT = b.us)
      ∧ (b.images = [] → (∀ f ∈ [F.SAP_STAT_HWFW, F.SAP_STAT_ICFG, F.SAP_STAT_BIMG], t.flag f = s.flag f)
        ∧ (∀ a, a < pithBase ∨ pithBase + pithSize ≤ a → t.byte a = s.byte a) ∧ (s.sap.lost = false → ∀ a, t.byte a = s.byte a)
        ∧ (lcState t ≠ lcEnd → (t.flag F.LCS_STAT_RACK = true → seqState t = seqRack)
          ∧ (s.sap.lost = true → t.flag F.LCS_STAT_RETLOST = true ∧ t.flag F.TIM_STAT_UNSET = true ∧ t.reg Reg.LCS_TAMPER = 0 ∧ (∀ a < pithSize, t.byte (pithBase + a) = 0)
            ∧ (t.reg Reg.LCS_CHG_INST).toNat = if fuseCount s 32 4 = 128 then 0xFFFFFFFF else (fuseCount s 32 4 + 1) * 1024)
          ∧ (s.sap.lost = false → s.lcs.changed = none → s.lcs.owedTamper = 0 → s.lcs.owedWipe = none → b.fails = [] → (∀ w < 128, (resolveFuse s w).2 = 0) →
            LastEvent t 0xC006 0x30))))
  ∧ (∀ (s : State) (t : Nat) (i : BootImage), imageFault s t i = none → i.magic = 0x31494B54 ∧ i.typ.toNat = t ∧ i.hashOk = true ∧ i.sigOk = true
      ∧ i.keyHash.map BitVec.toNat = hashWords s (if i.key = 0 then 4 else 16) ∧ (i.uid = 0 ∨ i.uid.toNat = deviceUid s)
      ∧ (t ≤ 2 → s.fld F.LCS_RB_FW ≤ i.rollback.toNat) ∧ (t = 3 → s.fld F.LCS_RB_CFG ≤ i.rollback.toNat) ∧ imageAllowed (lcState s) t i.key.toNat = true)
  ∧ (∀ (b : BootIn) (s : State), let acc (t : Nat) : Option BootImage := b.images.find? fun i => decide (i.dir.toNat = t) && (imageFault s t i).isNone
      let u := loadImages b s
      u.flag F.SAP_STAT_HWFW = (s.flag F.SAP_STAT_HWFW || (acc 1).isSome) ∧ u.flag F.SAP_STAT_ICFG = (s.flag F.SAP_STAT_ICFG || ((acc 1).isSome && (acc 3).isSome))
      ∧ u.flag F.SAP_STAT_BIMG = (s.flag F.SAP_STAT_BIMG || (acc 2).isSome) ∧ u.lcs.retOk = (acc 4).isSome
      ∧ ∀ i, acc 2 = some i → ∀ k < i.body.length, k < 0x4000000 → u.byte k = i.body.getD k 0)
  ∧ ∀ (us : BitVec 32) (s : State),
      (s.fld F.SAP_BOOT_STAGE = 5 → s.sap.l0 = true → s.sap.told = false → exec (.hostReady us) s = .next (sapEvent 0xC007 0 us.toNat
        (s.fld F.SAP_STAT_HWFW + 2 * s.fld F.SAP_STAT_ICFG + 4 * s.fld F.SAP_STAT_BIMG) (s.setSap { s.sap with told := true })))
      ∧ (s.fld F.SAP_BOOT_STAGE ≠ 5 ∨ s.sap.l0 = false ∨ s.sap.told = true → exec (.hostReady us) s = .next s)
      ∧ (s.sap.held = none → s.fld F.SAP_BOOT_STAGE ≠ 0 → exec .hostLinkL0 s = .next ((s.setSap { s.sap with l0 := true }).setEvq { s.evq with msix := true }))
      ∧ (s.sap.held ≠ none ∨ s.fld F.SAP_BOOT_STAGE = 0 → exec .hostLinkL0 s = .next s)
      ∧ exec .hostPortReset s = .next ((s.setSap { s.sap with l0 := false }).setEvq { s.evq with msix := false })

/-- The supplies, the power loops, Strict mode, the event queue and the dump act exactly as R488 to R498, R508 and R518 to R533 say (23_power_clocks_reset_boot.md, 24_strict_mode.md, 25_events_dump.md). -/
def Obligations.PowerEventsAndDumps : Prop :=
  (∀ (mv : BitVec 13) (bat : BitVec 13) (s : State), (∃ t, exec (.powerPathSwitch mv bat) s = .next t ∧ { t with sap := s.sap } = s
        ∧ (bat.toNat + 50 < mv.toNat → t.sap = { s.sap with onMain := true }) ∧ (mv.toNat + 50 < bat.toNat → t.sap = { s.sap with onMain := false })
        ∧ (mv.toNat ≤ bat.toNat + 50 → bat.toNat ≤ mv.toNat + 50 → t.sap = s.sap))
      ∧ exec (.retentionLoss mv) s = .next (if mv.toNat < 1700 ∧ s.sap.power = false then s.setSap { s.sap with lost := true } else s))
  ∧ (∀ (mv : BitVec 12) (s : State), ∃ u, RegsOnly [Reg.SAP_VBAT] s u ∧ u.fld F.SAP_VBAT_MV = mv.toNat ∧ (u.flag F.SAP_VBAT_BATLOW = true ↔ mv.toNat < 2600)
      ∧ exec (.vbatLowDetect mv) s = .next (if mv.toNat < 2600 ∧ s.sap.lowTold = false then sapEvent 0xC009 1 mv.toNat 0 (u.setSap { u.sap with lowTold := true }) else u))
  ∧ (∀ (d : Fin 25) (slack : BitVec 16) (s : State), let v := spGet 1700 s.sap.mv d
      let g := s.fld F.SAP_VGUARD_GUARD
      (adaptive d = false → exec (.voltageStep d slack) s = .next s)
      ∧ (adaptive d = true → 1100 ≤ v → v ≤ 1900 → ∃ v' u, exec (.voltageStep d slack) s = .next u ∧ u.fld (F.SAP_DOM_MV d) = v' / 2
        ∧ spGet 1700 u.sap.mv d = v' ∧ 1100 ≤ v' ∧ v' ≤ 1900 ∧ RegsOnly [Reg.SAP_DOM d] { s with sap := { s.sap with mv := u.sap.mv } } u
        ∧ (∀ e : Fin 25, e ≠ d → spGet 1700 u.sap.mv e = spGet 1700 s.sap.mv e)
        ∧ (slack.toNat < g → v' = min (v + 5) 1900) ∧ (g + 20 < slack.toNat → v' = max (v - 5) 1100) ∧ (g ≤ slack.toNat → slack.toNat ≤ g + 20 → v' = v)))
  ∧ (∀ (kind : Fin 3) (lane : BitVec 6) (s : State), exec (.serdesAdaptation kind lane true) s = .next s
      ∧ exec (.serdesAdaptation kind lane false) s = .next (if (s.fld F.SAP_ADAPT_FREEZE).testBit kind.val = true then s else sapEvent 0xC008 1 kind.val lane.toNat s))
  ∧ (∀ (thermal : Bool) (choice : Nat → Nat) (s : State), (∀ f, choice f < 2048) → let t := chooseFreq thermal choice s
      (∀ d < 6, t.fld (F.SAP_DOM_MHZ d) = crownFreq t) ∧ t.mem = s.mem ∧ t.evq = s.evq
      ∧ (∀ f0, s.sap.base = some (!thermal, f0) → crownFreq t = min (crownFreq s) (choice f0) ∧ t.sap.base = none)
      ∧ ((∀ f0, s.sap.base ≠ some (!thermal, f0)) → crownFreq t = choice (crownFreq s) ∧ t.sap.base = some (thermal, crownFreq s)))
  ∧ (∀ (pw : BitVec 16) (slack : Bool) (s : State), s.flag F.SYS_STRICT_STRICT = false → s.flag F.SAP_STAT_THROT = false → s.sap.base = none →
      let f := crownFreq s
      let cap := s.fld F.SAP_CAP_CAPW
      let fmax := s.fld F.SAP_CRNF_FMAX
      let g : Nat := if 10 * cap < pw.toNat then max (f - 50) 500 else if pw.toNat + 20 < 10 * cap ∧ f < fmax ∧ (slack = true ∨ f + 50 ≤ 1500) then f + 50 else f
      ∃ t, exec (.capDecision pw slack) s = .next t ∧ t.fld F.SAP_PWR_PWR = pw.toNat ∧ crownFreq t = max 500 (min fmax g) ∧ (∀ d < 6, t.fld (F.SAP_DOM_MHZ d) = crownFreq t)
        ∧ (t.flag F.SAP_STAT_CAPFLOOR = true ↔ f = 500 ∧ 10 * cap < pw.toNat) ∧ t.mem = s.mem
        ∧ (f = 500 → 10 * cap < pw.toNat → if s.flag F.SAP_STAT_CAPFLOOR = true then t.evq = s.evq else LastEvent t 0xC001 0x30)
        ∧ ((f ≠ 500 ∨ pw.toNat ≤ 10 * cap) → t.evq = s.evq))
  ∧ (∀ (pw : BitVec 16) (slack : Bool) (s : State), s.flag F.SYS_STRICT_STRICT = true → let cap := s.sap.cap
      ∃ t, exec (.capDecision pw slack) s = .next t ∧ t.fld F.SAP_PWR_PWR = pw.toNat ∧ t.mem = s.mem
        ∧ (pw.toNat ≤ 11 * cap → t.sap.excess = 0 ∧ (s.flag F.SAP_STAT_THROT = false → crownFreq t = 1500 ∧ ∀ d < 6, t.fld (F.SAP_DOM_MHZ d) = 1500))
        ∧ (pw.toNat ≤ 10 * cap → t.sap.since = 0 ∧ t.evq = s.evq)
        ∧ (10 * cap < pw.toNat → pw.toNat ≤ 11 * cap → (s.sap.since = 0 ∨ 100000 ≤ s.sap.since → LastEvent t 0xC002 0x30 ∧ t.sap.since = 1)
          ∧ (0 < s.sap.since → s.sap.since < 100000 → t.evq = s.evq ∧ t.sap.since = s.sap.since + 1))
        ∧ (11 * cap < pw.toNat → t.sap.excess = s.sap.excess + 1 ∧ (999 ≤ s.sap.excess → s.sap.base = none → crownFreq t = max (crownFreq s - 50) 500)
          ∧ (s.sap.excess = 999 → t.flag F.SAP_STAT_STRICTVOID = true ∧ LastEvent t 0xC003 0x30)))
  ∧ (∀ (tj thbm : BitVec 8) (s : State), let was := s.flag F.SAP_STAT_THROT
      let thr := s.fld F.SAP_THERM_THROT
      let trip := s.fld F.SAP_THERM_TRIP
      ∃ u, exec (.thermalSample tj thbm) s = .next (if trip ≤ tj.toNat then thermalTrip tj.toNat u else u) ∧ u.fld F.SAP_TEMP_TJ = tj.toNat ∧ u.fld F.SAP_TEMP_THBM = thbm.toNat
        ∧ u.mem = s.mem ∧ (u.flag F.SAP_STAT_THROT = true ↔ thr ≤ tj.toNat ∨ (was = true ∧ thr < tj.toNat + 5))
        ∧ (u.flag F.SAP_STAT_THROT = true → s.sap.base = none → crownFreq u = max (crownFreq s - 50) 500)
        ∧ (u.flag F.SAP_STAT_THROT = true → was = false → LastEvent u (if s.flag F.SYS_STRICT_STRICT = true then 0xC003 else 0xC004) 0x30)
        ∧ (u.flag F.SAP_STAT_THROT = false → u.evq = s.evq ∧ (was = false ∨ s.flag F.SYS_STRICT_STRICT = false → crownFreq u = crownFreq s))
        ∧ (tj.toNat + 20 < trip → u.sched.hot = []) ∧ (trip ≤ tj.toNat + 20 → u.sched = s.sched))
  ∧ (∀ (tj : Nat) (s : State), (s.sched.hot ≠ [] → thermalTrip tj s = s)
      ∧ (s.sched.hot = [] → ∃ v, thermalTrip tj s = hwdServe (loseUnits ((List.range 7).filter fun u => inService s u) 0xC005 v) ∧ LastEvent v 0xC005 0x30
        ∧ v.sched = { s.sched with hot := List.range 7 } ∧ v.mem = s.mem))
  ∧ (∀ (oid : BitVec 10) (ctx : BitVec 6) (data : BitVec 32) (s : State), Calm s → Admitted oid ctx Reg.SYS_STRICT s → oid.toNat ≤ 1 →
      (strictFree s = true → s.flag F.SYS_LOCK_STRICT_LK = false → ∃ t, exec (.strictWrite oid ctx data) s = .next t ∧ t.flag F.SYS_STRICT_STRICT = data.getLsbD 0 ∧ t.mem = s.mem
        ∧ (data.getLsbD 0 = true → s.flag F.SYS_STRICT_STRICT = false → t.sap.cap = s.fld F.SAP_CAP_CAPW))
      ∧ (strictFree s = false ∨ s.flag F.SYS_LOCK_STRICT_LK = true → data.getLsbD 0 ≠ s.flag F.SYS_STRICT_STRICT →
        ∃ t, exec (.strictWrite oid ctx data) s = .next t ∧ t.reg Reg.SYS_STRICT = s.reg Reg.SYS_STRICT ∧ LastEvent t 0x3001 oid.toNat ∧ t.mem = s.mem))
  ∧ (∀ r : EvRec, (recordBytes r).length = 32
      ∧ ∀ x ∈ [(0, 8, r.time), (8, 2, r.code), (13, 1, r.sev), (14, 2, r.seq), (16, 4, r.a0), (20, 4, r.a1), (24, 4, r.a2), (28, 4, r.a3)],
        leAt (recordBytes r) x.1 x.2.1 = x.2.2 % 2 ^ (8 * x.2.1))
  ∧ (∀ (e : EvRec) (s : State), let r : EvRec := { e with seq := (s.fld F.EVQ_SEQ_SEQ + 1) % 2 ^ 16, time := if e.time = 0 then recTime s.ns else e.time }
      let t := acceptEv e s
      t.evq.hist.getLast? = some r ∧ t.evq.hist.length ≤ 64 ∧ (s.evq.hist.length < 64 → t.evq.hist = s.evq.hist ++ [r]) ∧ t.fld F.EVQ_SEQ_SEQ = r.seq ∧ t.mem = s.mem
      ∧ (s.flag F.EVQ_CTRL_EN = false ∨ e.sev < min (s.fld F.EVQ_FILT_MINSEV) 4 → s.evq.hist.length < 64 → t.evq.queue = s.evq.queue)
      ∧ (s.flag F.EVQ_CTRL_EN = true → min (s.fld F.EVQ_FILT_MINSEV) 4 ≤ e.sev → s.evq.hist.length < 64 → t.evq.queue = s.evq.queue ++ [r]))
  ∧ (∀ s : State, (s.flag F.EVQ_CTRL_EN = false → exec .eventRecordWrite s = .next s)
      ∧ (s.flag F.EVQ_CTRL_EN = true → s.evq.queue = [] → (evqFull s = true ∨ s.evq.lost = none) → exec .eventRecordWrite s = .next s)
      ∧ (∀ r rest, s.flag F.EVQ_CTRL_EN = true → s.evq.queue = r :: rest → let u := s.setEvq { s.evq with queue := rest }
        (evqFull s = true → exec .eventRecordWrite s = .next (dropRecord r u))
        ∧ (evqFull s = false → s.evq.lost = none → exec .eventRecordWrite s = .next (queueRecord r u)))
      ∧ ∀ l, s.flag F.EVQ_CTRL_EN = true → evqFull s = false → s.evq.lost = some l → ∃ x u, exec .eventRecordWrite s = .next (queueRecord x u) ∧ u.mem = s.mem
        ∧ x.code = 1 ∧ x.oid = 0x30 ∧ x.sev = 1 ∧ x.a0 = l.count ∧ x.a1 = l.sev ∧ x.a2 = l.first ∧ x.a3 = l.last)
  ∧ (∀ (r : EvRec) (s v : State),
      (nocWrite 0x30 0 (evqAddr s) (recordBytes r) s = (true, v) → queueRecord r s = notify r.sev (v.incMod F.EVQ_WR_WR))
      ∧ (nocWrite 0x30 0 (evqAddr s) (recordBytes r) s = (false, v) → (queueRecord r s).flag F.EVQ_CTRL_EN = false ∧ (queueRecord r s).evq.queue = [] ∧ (queueRecord r s).mem = v.mem)
      ∧ (dropRecord r s).evq.lost = some (match s.evq.lost with | none => ⟨1, r.sev, r.seq, r.seq⟩ | some l => ⟨l.count + 1, max l.sev r.sev, l.first, r.seq⟩)
      ∧ (dropRecord r s).fld F.EVQ_LOST_CNT = min (s.fld F.EVQ_LOST_CNT + 1) 0xFFFF ∧ (dropRecord r s).evq.hist = s.evq.hist)
  ∧ (∀ (sev : Nat) (s : State), sev ≤ 4 → let v := sevVec s sev
      let msg : List Out := if s.evq.msix = true then [.msix v] else []
      let t := notify sev s
      t.mem = s.mem ∧ (2 ≤ sev ∨ s.fld F.EVQ_COAL_US = 0 → t.out = s.out ++ msg ∧ t.evq = s.evq)
      ∧ (sev < 2 → s.fld F.EVQ_COAL_US ≠ 0 → (spGet 0 s.evq.coal v = 0 → t.out = s.out ++ msg ∧ spGet 0 t.evq.coal v = 1)
        ∧ (spGet 0 s.evq.coal v ≠ 0 → t.out = s.out ∧ spGet 0 t.evq.coal v = 2))
      ∧ ∀ c < 8, t.fld (F.BGH_CORE_IPEND_PEND c) = if (s.fld F.EVQ_BGH_SEVMASK).testBit sev = true ∧ (s.fld F.EVQ_BGH_CORES).testBit c = true
          then s.fld (F.BGH_CORE_IPEND_PEND c) ||| 2 ^ (16 + sev) else s.fld (F.BGH_CORE_IPEND_PEND c))
  ∧ (∀ (vec : BitVec 6) (s : State), let v := vec.toNat
      (spGet 0 s.evq.coal v = 0 → exec (.coalesceExpiry vec) s = .next s)
      ∧ (spGet 0 s.evq.coal v = 1 → exec (.coalesceExpiry vec) s = .next (s.setEvq { s.evq with coal := spSet 0 v 0 s.evq.coal }))
      ∧ (1 < spGet 0 s.evq.coal v → ∃ t, exec (.coalesceExpiry vec) s = .next t ∧ spGet 0 t.evq.coal v = 1 ∧ t.out = s.out ++ (if s.evq.msix = true then [.msix v] else [])
        ∧ t.regs = s.regs ∧ t.mem = s.mem))
  ∧ (∀ (trig : DumpTrig) (s : State),
      (s.evq.dump = none → s.evq.want = none → dumpTrigger trig s = s.setEvq { s.evq with want := some trig })
      ∧ (s.evq.dump ≠ none ∨ s.evq.want ≠ none → (s.evq.held = none → (dumpTrigger trig s).evq = { s.evq with held := some trig } ∧ (dumpTrigger trig s).flag F.EVQ_DUMPSTAT_PENDING = true)
        ∧ (s.evq.held ≠ none → dumpTrigger trig s = s.incHold F.EVQ_DUMPSTAT_MISSED)) ∧ dumpCmdWritten 1 s = dumpTrigger ⟨3, 0, 0⟩ s)
  ∧ (∀ (banks : BitVec 7) (secs : BitVec 6) (s : State),
      exec (.dumpStart true banks secs) s = exec (.dumpStart false banks secs) (dumpTrigger ⟨4, 0, 0⟩ s)
      ∧ (s.evq.dump ≠ none ∨ s.evq.want = none → exec (.dumpStart false banks secs) s = .next s)
      ∧ (s.evq.dump = none → s.evq.want ≠ none → s.flag F.EVQ_DUMPSTAT_HOLD0 = true → s.flag F.EVQ_DUMPSTAT_HOLD1 = true →
        ∃ t, exec (.dumpStart false banks secs) s = .next t ∧ LastEvent t 0x0003 0x3F ∧ t.evq.dump = none ∧ t.mem = s.mem)
      ∧ ∀ k trig, s.evq.dump = none → s.evq.want = some trig → dumpSlot s = some k → wiping s = false → s.flag (holdField k) = false ∧ k < 2
        ∧ ∃ t, exec (.dumpStart false banks secs) s = .next t ∧ t.evq.dump = some ⟨trig, k, s.elapsed, s.ns⟩ ∧ t.evq.want = none ∧ t.flag F.EVQ_DUMPSTAT_BUSY = true
          ∧ (∀ a, a < slotBase k ∨ slotBase k + 0x8000 ≤ a → t.byte a = s.byte a) ∧ t.bytes (slotBase k) 28 = List.replicate 28 0
          ∧ (∀ c < 6, ∀ r < 256, t.bytes (slotBase k + 0x80 + 4 * (256 * c + r)) 4 = leBytes 4 (s.reg (Reg.CRN_RING c r)).toNat)
          ∧ ∀ r < 1024, t.bytes (slotBase k + 0x1880 + 4 * r) 4 = leBytes 4 (s.reg (Reg.GRN_VAL (r / 128) (r % 128))).toNat)
  ∧ ∀ (ns : BitVec 32) (s : State), (s.evq.dump = none → exec (.dumpComplete ns) s = .next s)
      ∧ ∀ d, s.evq.dump = some d → d.slot < 2 → ∃ t, exec (.dumpComplete ns) s = .next t ∧ t.evq.dump = none ∧ t.flag F.EVQ_DUMPSTAT_BUSY = false
        ∧ t.fld F.EVQ_DUMPSTAT_LAST = d.slot ∧ t.fld F.EVQ_DUMPSTAT_COUNT = min (s.fld F.EVQ_DUMPSTAT_COUNT + 1) 0xFFFF ∧ LastEvent t 0x0002 0x3F
        ∧ (t.flag (holdField d.slot) = true ↔ s.flag (holdField d.slot) = true ∨ d.trig.trig ≤ 2) ∧ (∀ a, a < slotBase d.slot ∨ slotBase d.slot + 0x8000 ≤ a → t.byte a = s.byte a)
        ∧ (s.evq.want = none → t.evq.want = s.evq.held)
        ∧ (wiping s = false → t.bytes (slotBase d.slot) 8 = leBytes 4 0x504D5544 ++ leBytes 2 1 ++ leBytes 1 d.trig.trig ++ [1]
          ∧ t.byte (slotBase d.slot + 28) = s.byte (slotBase d.slot + 28) ∧ t.bytes (slotBase d.slot + 0x4100) 0x800 = historySection s
          ∧ t.bytes (slotBase d.slot + 32) 4 = leBytes 4 (crc32c (t.bytes (slotBase d.slot + 0x40) 0x48C0)))

/-- Every step takes exactly the front of the queue and keeps memory and registers in canonical form (INDEX.md, 02_address_map_registers.md, 14_memory_system.md). -/
def Obligations.EveryStepKeepsForm : Prop :=
  ∀ s t : State, step s = .next t → (Canonical s → Canonical t) ∧ t.pending = s.pending.tail
end

