-- ==== Sys2Proof/Laws/Sparse.lean ====
section
/-! SUPPORT. Lemmas about sparse tables: what a read after a write gives, and that every operation keeps the canonical form. -/

namespace Sys2Proof.Machine

variable {α : Type}

/-- The canonical form says that keys rise and that no entry holds what an unlisted key reads as. -/
theorem spWf_iff [DecidableEq α] (d : Nat → α) (t : Sparse α) :
    spWf d t = true ↔ t.Pairwise (fun a b => a.1 < b.1) ∧ ∀ e ∈ t, e.2 ≠ d e.1 := by
  induction t with
  | nil => simp [spWf]
  | cons a t ih =>
    cases t with
    | nil => simp [spWf]
    | cons b t =>
      simp only [spWf, Bool.and_eq_true, decide_eq_true_eq, ih, List.pairwise_cons]
      constructor
      · rintro ⟨⟨h1, h2⟩, ⟨h3, h4⟩, h5⟩
        refine ⟨⟨fun x hx => ?_, h3, h4⟩, ?_⟩
        · rcases List.mem_cons.1 hx with rfl | hx
          · exact h2
          · exact lt_trans h2 (h3 x hx)
        · intro e he
          rcases List.mem_cons.1 he with rfl | he
          · exact h1
          · exact h5 e he
      · rintro ⟨⟨h1, h2, h3⟩, h4⟩
        exact ⟨⟨h4 a (by simp), h1 b (by simp)⟩, ⟨h2, h3⟩, fun e he => h4 e (by simp [he])⟩

@[simp] theorem spGet_nil (d : α) (k : Nat) : spGet d [] k = d := rfl

theorem spGet_cons (d : α) (e : Nat × α) (t : Sparse α) (k : Nat) :
    spGet d (e :: t) k = if e.1 = k then e.2 else spGet d t k := rfl

/-- A read of a key that a filter keeps. -/
theorem spGet_filter (d : α) (p : Nat → Bool) (t : Sparse α) (k : Nat) :
    spGet d (t.filter fun e => p e.1) k = if p k then spGet d t k else d := by
  induction t with
  | nil => simp
  | cons e t ih =>
    by_cases h : p e.1
    · rw [List.filter_cons_of_pos (by simpa using h), spGet_cons, spGet_cons, ih]
      by_cases hk : e.1 = k
      · subst hk; simp [h]
      · simp [hk]
    · rw [List.filter_cons_of_neg (by simpa using h), ih, spGet_cons]
      by_cases hk : e.1 = k
      · subst hk; simp [h]
      · simp [hk]

theorem spGet_spIns_self (d : α) (k : Nat) (v : α) (t : Sparse α) (h : ∀ e ∈ t, e.1 ≠ k) :
    spGet d (spIns k v t) k = v := by
  induction t with
  | nil => simp [spIns, spGet]
  | cons e t ih =>
    unfold spIns
    split
    · rw [spGet_cons, if_neg (h e (by simp))]; exact ih fun x hx => h x (by simp [hx])
    · simp [spGet_cons]

theorem spGet_spIns_ne (d : α) (k : Nat) (v : α) (t : Sparse α) {j : Nat} (h : j ≠ k) :
    spGet d (spIns k v t) j = spGet d t j := by
  induction t with
  | nil => simp [spIns, spGet, Ne.symm h]
  | cons e t ih =>
    unfold spIns
    split
    · simp [spGet_cons, ih]
    · simp [spGet_cons, Ne.symm h]

/-- A read after a write to the same key gives the value written, in any table. -/
@[simp] theorem spGet_spSet_self [DecidableEq α] (d : α) (k : Nat) (v : α) (t : Sparse α) :
    spGet d (spSet d k v t) k = v := by
  unfold spSet
  split
  · rename_i h
    rw [spGet_filter d (fun x => decide (x ≠ k))]; simp [h]
  · exact spGet_spIns_self d k v _ fun e he => by simpa using (List.mem_filter.1 he).2

/-- A read of another key is not changed by a write. -/
theorem spGet_spSet_ne [DecidableEq α] (d e : α) (k : Nat) (v : α) (t : Sparse α) {j : Nat} (h : j ≠ k) :
    spGet e (spSet d k v t) j = spGet e t j := by
  unfold spSet
  split
  · rw [spGet_filter e (fun x => decide (x ≠ k))]; simp [h]
  · rw [spGet_spIns_ne e k v _ h, spGet_filter e (fun x => decide (x ≠ k))]; simp [h]

theorem spGet_spSet [DecidableEq α] (d : α) (k : Nat) (v : α) (t : Sparse α) (j : Nat) :
    spGet d (spSet d k v t) j = if j = k then v else spGet d t j := by
  by_cases h : j = k
  · simp [h]
  · simp [h, spGet_spSet_ne]

theorem spIns_mem {k : Nat} {v : α} {t : Sparse α} {e : Nat × α} (h : e ∈ spIns k v t) : e = (k, v) ∨ e ∈ t := by
  induction t with
  | nil => simpa [spIns] using h
  | cons a t ih =>
    unfold spIns at h
    split at h
    · rcases List.mem_cons.1 h with rfl | h
      · simp
      · rcases ih h with h | h <;> simp [h]
    · simpa using h

theorem spIns_pairwise (k : Nat) (v : α) (t : Sparse α) (h : t.Pairwise fun a b => a.1 < b.1) (hk : ∀ e ∈ t, e.1 ≠ k) :
    (spIns k v t).Pairwise fun a b => a.1 < b.1 := by
  induction t with
  | nil => simp [spIns]
  | cons a t ih =>
    have ⟨h1, h2⟩ := List.pairwise_cons.1 h
    unfold spIns
    split
    · rename_i ha
      refine List.pairwise_cons.2 ⟨fun e he => ?_, ih h2 fun x hx => hk x (by simp [hx])⟩
      rcases spIns_mem he with rfl | he
      · exact ha
      · exact h1 e he
    · rename_i ha
      have hka : k < a.1 := lt_of_le_of_ne (not_lt.1 ha) (Ne.symm (hk a (by simp)))
      refine List.pairwise_cons.2 ⟨fun e he => ?_, h⟩
      rcases List.mem_cons.1 he with rfl | he
      · exact hka
      · exact lt_trans hka (h1 e he)

/-- A write keeps the canonical form. -/
theorem spWf_spSet [DecidableEq α] (d : Nat → α) (k : Nat) (v : α) (t : Sparse α) (h : spWf d t = true) :
    spWf d (spSet (d k) k v t) = true := by
  rw [spWf_iff] at h ⊢
  unfold spSet
  split
  · exact ⟨h.1.filter _, fun e he => h.2 e (List.mem_filter.1 he).1⟩
  · rename_i hv
    refine ⟨spIns_pairwise k v _ (h.1.filter _) fun e he => by simpa using (List.mem_filter.1 he).2, fun e he => ?_⟩
    rcases spIns_mem he with rfl | he
    · exact hv
    · exact h.2 e (List.mem_filter.1 he).1

/-- A clear keeps the canonical form. -/
theorem spWf_spClear [DecidableEq α] (d : Nat → α) (b n : Nat) (t : Sparse α) (h : spWf d t = true) :
    spWf d (spClear b n t) = true := by
  rw [spWf_iff] at h ⊢
  exact ⟨h.1.filter _, fun e he => h.2 e (List.mem_filter.1 he).1⟩

/-- A filter keeps the canonical form. -/
theorem spWf_filter [DecidableEq α] (d : Nat → α) (p : Nat × α → Bool) (t : Sparse α) (h : spWf d t = true) :
    spWf d (t.filter p) = true := by
  rw [spWf_iff] at h ⊢
  exact ⟨h.1.filter _, fun e he => h.2 e (List.mem_filter.1 he).1⟩

theorem rangePart_pairwise [DecidableEq α] (d : α) (base : Nat) (f : Nat → α) (n : Nat) :
    (((List.range n).filterMap fun j => if f j = d then none else some (base + j, f j)) : Sparse α).Pairwise
      fun a b => a.1 < b.1 := by
  rw [List.pairwise_filterMap]
  refine List.pairwise_lt_range.imp ?_
  intro a b hab x hx y hy
  by_cases h1 : f a = d <;> by_cases h2 : f b = d <;> simp_all
  obtain ⟨rfl⟩ := hx; obtain ⟨rfl⟩ := hy
  simpa using hab

theorem rangePart_mem [DecidableEq α] (d : α) (base : Nat) (f : Nat → α) (n : Nat) (e : Nat × α)
    (he : e ∈ ((List.range n).filterMap fun j => if f j = d then none else some (base + j, f j))) :
    base ≤ e.1 ∧ e.1 < base + n ∧ e.2 ≠ d := by
  obtain ⟨j, hj, hx⟩ := List.mem_filterMap.1 he
  by_cases h : f j = d
  · simp [h] at hx
  · simp only [h, if_false, Option.some.injEq] at hx
    subst hx
    have := List.mem_range.1 hj
    exact ⟨by simp, by simpa using this, h⟩

/-- A write of a range keeps the canonical form. -/
theorem spWf_spRange [DecidableEq α] (d : α) (b n : Nat) (f : Nat → α) (t : Sparse α)
    (h : spWf (fun _ => d) t = true) : spWf (fun _ => d) (spRange d b n f t) = true := by
  rw [spWf_iff] at h ⊢
  unfold spRange
  have hm := rangePart_mem d b f n
  refine ⟨?_, ?_⟩
  · rw [List.pairwise_append, List.pairwise_append]
    refine ⟨⟨h.1.filter _, rangePart_pairwise d b f n, ?_⟩, h.1.filter _, ?_⟩
    · intro x hx y hy
      have h1 := (List.mem_filter.1 hx).2
      have h2 := hm y hy
      simp at h1; omega
    · intro x hx y hy
      have h2 := (List.mem_filter.1 hy).2
      simp at h2
      rcases List.mem_append.1 hx with hx | hx
      · have h1 := (List.mem_filter.1 hx).2
        simp at h1; omega
      · have h1 := hm x hx
        omega
  · intro e he
    rcases List.mem_append.1 he with he | he
    · rcases List.mem_append.1 he with he | he
      · exact h.2 e (List.mem_filter.1 he).1
      · exact (hm e he).2.2
    · exact h.2 e (List.mem_filter.1 he).1

theorem spGet_none (d : α) (t : Sparse α) (k : Nat) (h : ∀ e ∈ t, e.1 ≠ k) : spGet d t k = d := by
  induction t with
  | nil => rfl
  | cons e t ih => rw [spGet_cons, if_neg (h e (by simp))]; exact ih fun x hx => h x (by simp [hx])

theorem spGet_append_right (d : α) (t u : Sparse α) (k : Nat) (h : ∀ e ∈ t, e.1 ≠ k) :
    spGet d (t ++ u) k = spGet d u k := by
  induction t with
  | nil => rfl
  | cons e t ih =>
    rw [List.cons_append, spGet_cons, if_neg (h e (by simp))]; exact ih fun x hx => h x (by simp [hx])

theorem spGet_append_left (d : α) (t u : Sparse α) (k : Nat) (h : ∀ e ∈ u, e.1 ≠ k) :
    spGet d (t ++ u) k = spGet d t k := by
  induction t with
  | nil => simpa using spGet_none d u k h
  | cons e t ih => rw [List.cons_append, spGet_cons, spGet_cons, ih]

theorem spGet_rangePart [DecidableEq α] (d : α) (base : Nat) (f : Nat → α) (n j : Nat) (h : j < n) :
    spGet d (((List.range n).filterMap fun j => if f j = d then none else some (base + j, f j)) : Sparse α) (base + j) = f j := by
  induction n with
  | zero => omega
  | succ n ih =>
    rw [List.range_succ, List.filterMap_append]
    by_cases hj : j < n
    · rw [spGet_append_left, ih hj]
      intro e he
      by_cases hn : f n = d
      · simp [hn] at he
      · simp [hn] at he; subst he; simp; omega
    · have hjn : j = n := by omega
      subst hjn
      rw [spGet_append_right]
      · by_cases hd : f j = d <;> simp [hd, spGet]
      · intro e he
        have := rangePart_mem d base f j e he
        omega

/-- A read after a write of a range. -/
theorem spGet_spRange [DecidableEq α] (d : α) (b n : Nat) (f : Nat → α) (t : Sparse α) (k : Nat) :
    spGet d (spRange d b n f t) k = if b ≤ k ∧ k < b + n then f (k - b) else spGet d t k := by
  have hm := rangePart_mem d b f n
  have hlo : ∀ e ∈ t.filter (fun e => decide (e.1 < b)), e.1 < b := fun e he => by
    simpa using (List.mem_filter.1 he).2
  have hhi : ∀ e ∈ t.filter (fun e => decide (b + n ≤ e.1)), b + n ≤ e.1 := fun e he => by
    simpa using (List.mem_filter.1 he).2
  unfold spRange
  by_cases h1 : k < b
  · rw [if_neg (by omega), List.append_assoc, spGet_append_left, spGet_filter d (fun x => decide (x < b))]
    · simp [h1]
    · intro e he
      rcases List.mem_append.1 he with he | he
      · have := hm e he; omega
      · have := hhi e he; omega
  · by_cases h2 : k < b + n
    · obtain ⟨j, rfl⟩ := Nat.exists_eq_add_of_le (not_lt.1 h1)
      rw [if_pos (by omega), spGet_append_left, spGet_append_right, spGet_rangePart d b f n j (by omega)]
      · simp
      · intro e he; have := hlo e he; omega
      · intro e he; have := hhi e he; omega
    · rw [if_neg (by omega), spGet_append_right, spGet_filter d (fun x => decide (b + n ≤ x))]
      · simp [not_lt.1 h2]
      · intro e he
        rcases List.mem_append.1 he with he | he
        · have := hlo e he; omega
        · have := hm e he; omega

/-- A read after a clear. -/
theorem spGet_spClear (d : α) (b n : Nat) (t : Sparse α) (k : Nat) :
    spGet d (spClear b n t) k = if b ≤ k ∧ k < b + n then d else spGet d t k := by
  unfold spClear
  rw [spGet_filter d (fun x => x < b || decide (b + n ≤ x))]
  by_cases h : b ≤ k ∧ k < b + n
  · have h1 : ¬ k < b := by omega
    have h2 : ¬ b + n ≤ k := by omega
    simp [h, h1, h2]
  · rw [if_neg h]
    have : k < b ∨ b + n ≤ k := by omega
    simp [this]

end Sys2Proof.Machine
end

