-- ==== Sys2Proof/Laws/State.lean ====
section
/-! SUPPORT. Lemmas about bit fields, registers and memory bytes under the updates of the state, one per field and update. -/

namespace Sys2Proof.Machine

/-! ### Bit fields -/

theorem slice_testBit (x hi lo i : Nat) : (slice x hi lo).testBit i = (decide (i < hi + 1 - lo) && x.testBit (lo + i)) := by
  simp [slice, Nat.testBit_mod_two_pow, Nat.testBit_shiftRight]

theorem insertBits_eq (x hi lo v : Nat) (h : lo ≤ hi + 1) :
    insertBits x hi lo v = 2 ^ lo * (2 ^ (hi + 1 - lo) * (x / 2 ^ (hi + 1)) + v % 2 ^ (hi + 1 - lo)) + x % 2 ^ lo := by
  have e1 : x = 2 ^ lo * (x / 2 ^ lo) + x % 2 ^ lo := (Nat.div_add_mod x _).symm
  have e2 : x / 2 ^ lo = 2 ^ (hi + 1 - lo) * (x / 2 ^ (hi + 1)) + (x / 2 ^ lo) % 2 ^ (hi + 1 - lo) := by
    have := (Nat.div_add_mod (x / 2 ^ lo) (2 ^ (hi + 1 - lo))).symm
    rw [Nat.div_div_eq_div_mul, ← pow_add, show lo + (hi + 1 - lo) = hi + 1 by omega] at this
    exact this
  unfold insertBits slice
  rw [Nat.shiftRight_eq_div_pow]
  generalize x / 2 ^ lo % 2 ^ (hi + 1 - lo) = m at e2 ⊢
  generalize v % 2 ^ (hi + 1 - lo) = w
  generalize 2 ^ (hi + 1 - lo) * (x / 2 ^ (hi + 1)) = a at e2 ⊢
  generalize x % 2 ^ lo = r at e1 ⊢
  rw [e2] at e1
  rw [e1]
  ring_nf
  omega

theorem insertBits_testBit (x hi lo v i : Nat) (h : lo ≤ hi + 1) :
    (insertBits x hi lo v).testBit i = if lo ≤ i ∧ i ≤ hi then v.testBit (i - lo) else x.testBit i := by
  rw [insertBits_eq x hi lo v h, Nat.testBit_two_pow_mul_add _ (Nat.mod_lt _ (by positivity))]
  by_cases h1 : i < lo
  · simp [h1, Nat.testBit_mod_two_pow, show ¬ lo ≤ i by omega]
  · rw [if_neg h1, Nat.testBit_two_pow_mul_add _ (Nat.mod_lt _ (by positivity))]
    by_cases h2 : i ≤ hi
    · rw [if_pos (by omega), if_pos (by omega), Nat.testBit_mod_two_pow]
      simp; omega
    · rw [if_neg (by omega), if_neg (by omega), Nat.testBit_div_two_pow]
      congr 1; omega

theorem insertBits_lt (x hi lo v : Nat) (h : lo ≤ hi + 1) (hh : hi < 32) (hx : x < 2 ^ 32) : insertBits x hi lo v < 2 ^ 32 := by
  apply Nat.lt_pow_two_of_testBit
  intro i hi2
  rw [insertBits_testBit x hi lo v i h, if_neg (by omega)]
  exact Nat.testBit_lt_two_pow (lt_of_lt_of_le hx (Nat.pow_le_pow_right (by omega) hi2))

/-- A field holds what was put into it. -/
theorem slice_insertBits (x hi lo v : Nat) (h : lo ≤ hi + 1) : slice (insertBits x hi lo v) hi lo = v % 2 ^ (hi + 1 - lo) := by
  apply Nat.eq_of_testBit_eq
  intro i
  rw [slice_testBit, insertBits_testBit x hi lo v _ h, Nat.testBit_mod_two_pow]
  by_cases hi2 : i < hi + 1 - lo
  · rw [if_pos (by omega)]; simp
  · simp [hi2]

/-- A field apart from the one written keeps its value. -/
theorem slice_insertBits_apart (x hi lo v hi' lo' : Nat) (h : lo ≤ hi + 1) (ha : hi' < lo ∨ hi < lo') :
    slice (insertBits x hi lo v) hi' lo' = slice x hi' lo' := by
  apply Nat.eq_of_testBit_eq
  intro i
  rw [slice_testBit, slice_testBit, insertBits_testBit x hi lo v _ h]
  by_cases hi2 : i < hi' + 1 - lo'
  · rw [if_neg (by omega)]
  · simp [hi2]

/-! ### Registers -/

@[simp] theorem reg_setReg_self (s : State) (o : Nat) (v : Word) : (s.setReg o v).reg o = v := by
  simp [State.reg, State.setReg]

theorem reg_setReg_ne (s : State) {o p : Nat} (v : Word) (h : p ≠ o) : (s.setReg o v).reg p = s.reg p := by
  simp [State.reg, State.setReg, spGet_spSet_ne _ _ _ _ _ h]

theorem reg_setReg (s : State) (o p : Nat) (v : Word) : (s.setReg o v).reg p = if p = o then v else s.reg p := by
  by_cases h : p = o
  · subst h; simp
  · simp [h, reg_setReg_ne]

/-- A read of a field after a write of it. -/
theorem fld_put_self (s : State) (f : RegField) (v : Nat) (h : f.lo ≤ f.hi) (hh : f.hi < 32) :
    (s.put f v).fld f = v % 2 ^ (f.hi + 1 - f.lo) := by
  simp only [State.put, State.fld, reg_setReg_self, BitVec.toNat_ofNat]
  rw [Nat.mod_eq_of_lt (insertBits_lt _ _ _ _ (by omega) hh (s.reg f.reg).isLt), slice_insertBits _ _ _ _ (by omega)]

/-- A read of a field of another register after a write. -/
theorem fld_put_reg (s : State) (f g : RegField) (v : Nat) (h : g.reg ≠ f.reg) : (s.put f v).fld g = s.fld g := by
  simp [State.put, State.fld, reg_setReg_ne, h]

/-- A read of another field of the same register after a write. -/
theorem fld_put_apart (s : State) (f g : RegField) (v : Nat) (h : f.lo ≤ f.hi) (hh : f.hi < 32)
    (ha : g.hi < f.lo ∨ f.hi < g.lo) : (s.put f v).fld g = s.fld g := by
  by_cases hr : g.reg = f.reg
  · simp only [State.put, State.fld, hr, reg_setReg_self, BitVec.toNat_ofNat]
    rw [Nat.mod_eq_of_lt (insertBits_lt _ _ _ _ (by omega) hh (s.reg f.reg).isLt), slice_insertBits_apart _ _ _ _ _ _ (by omega) ha]
  · exact fld_put_reg s f g v hr

theorem reg_put_ne (s : State) (f : RegField) (v : Nat) {o : Nat} (h : o ≠ f.reg) : (s.put f v).reg o = s.reg o :=
  reg_setReg_ne s _ h

theorem fld_setReg_ne (s : State) (o : Nat) (v : Word) (g : RegField) (h : g.reg ≠ o) : (s.setReg o v).fld g = s.fld g := by
  simp [State.fld, reg_setReg_ne, h]

/-! ### Updates keep the other parts -/

@[simp] theorem State.setReg_pending (s : State) (o : Nat) (v : Word) : (s.setReg o v).pending = s.pending := rfl
@[simp] theorem State.setReg_mem (s : State) (o : Nat) (v : Word) : (s.setReg o v).mem = s.mem := rfl
@[simp] theorem State.setReg_crown (s : State) (o : Nat) (v : Word) : (s.setReg o v).crown = s.crown := rfl
@[simp] theorem State.setReg_sched (s : State) (o : Nat) (v : Word) : (s.setReg o v).sched = s.sched := rfl
@[simp] theorem State.put_pending (s : State) (f : RegField) (v : Nat) : (s.put f v).pending = s.pending := rfl
@[simp] theorem State.put_mem (s : State) (f : RegField) (v : Nat) : (s.put f v).mem = s.mem := rfl
@[simp] theorem State.put_crown (s : State) (f : RegField) (v : Nat) : (s.put f v).crown = s.crown := rfl
@[simp] theorem State.put_sched (s : State) (f : RegField) (v : Nat) : (s.put f v).sched = s.sched := rfl
@[simp] theorem State.setEvq_pending (s : State) (e : Evq) : (s.setEvq e).pending = s.pending := rfl
@[simp] theorem State.setEvq_mem (s : State) (e : Evq) : (s.setEvq e).mem = s.mem := rfl
@[simp] theorem State.setEvq_regs (s : State) (e : Evq) : (s.setEvq e).regs = s.regs := rfl
@[simp] theorem State.setEvq_evq (s : State) (e : Evq) : (s.setEvq e).evq = e := rfl
@[simp] theorem State.emit_pending (s : State) (o : Out) : (s.emit o).pending = s.pending := rfl
@[simp] theorem State.emit_mem (s : State) (o : Out) : (s.emit o).mem = s.mem := rfl
@[simp] theorem State.emit_regs (s : State) (o : Out) : (s.emit o).regs = s.regs := rfl
@[simp] theorem State.emit_out (s : State) (o : Out) : (s.emit o).out = s.out ++ [o] := rfl
@[simp] theorem State.setSched_pending (s : State) (x : Sched) : (s.setSched x).pending = s.pending := rfl
@[simp] theorem State.setSched_mem (s : State) (x : Sched) : (s.setSched x).mem = s.mem := rfl
@[simp] theorem State.setSched_regs (s : State) (x : Sched) : (s.setSched x).regs = s.regs := rfl
@[simp] theorem State.setSched_sched (s : State) (x : Sched) : (s.setSched x).sched = x := rfl
@[simp] theorem State.setMs_pending (s : State) (m : MemSys) : (s.setMs m).pending = s.pending := rfl
@[simp] theorem State.setMs_mem (s : State) (m : MemSys) : (s.setMs m).mem = s.mem := rfl
@[simp] theorem State.setMs_regs (s : State) (m : MemSys) : (s.setMs m).regs = s.regs := rfl
@[simp] theorem State.wrBytes_pending (s : State) (a : Nat) (l : List Byte) : (s.wrBytes a l).pending = s.pending := rfl
@[simp] theorem State.wrBytes_regs (s : State) (a : Nat) (l : List Byte) : (s.wrBytes a l).regs = s.regs := rfl
@[simp] theorem State.zero_pending (s : State) (a n : Nat) : (s.zero a n).pending = s.pending := rfl
@[simp] theorem State.zero_regs (s : State) (a n : Nat) : (s.zero a n).regs = s.regs := rfl

@[simp] theorem State.setReg_memsys (s : State) (o : Nat) (v : Word) : (s.setReg o v).memsys = s.memsys := rfl
@[simp] theorem State.setReg_kvp (s : State) (o : Nat) (v : Word) : (s.setReg o v).kvp = s.kvp := rfl
@[simp] theorem State.setReg_spl (s : State) (o : Nat) (v : Word) : (s.setReg o v).spl = s.spl := rfl
@[simp] theorem State.setReg_sdb (s : State) (o : Nat) (v : Word) : (s.setReg o v).sdb = s.sdb := rfl
@[simp] theorem State.setReg_frameTab (s : State) (o : Nat) (v : Word) : (s.setReg o v).frameTab = s.frameTab := rfl
@[simp] theorem State.setReg_elapsed (s : State) (o : Nat) (v : Word) : (s.setReg o v).elapsed = s.elapsed := rfl
@[simp] theorem State.setReg_tim (s : State) (o : Nat) (v : Word) : (s.setReg o v).tim = s.tim := rfl
@[simp] theorem State.setReg_grove (s : State) (o : Nat) (v : Word) : (s.setReg o v).grove = s.grove := rfl
@[simp] theorem State.setReg_wos (s : State) (o : Nat) (v : Word) : (s.setReg o v).wos = s.wos := rfl
@[simp] theorem State.setReg_rdShadow (s : State) (o : Nat) (v : Word) : (s.setReg o v).rdShadow = s.rdShadow := rfl
@[simp] theorem State.setReg_wrStage (s : State) (o : Nat) (v : Word) : (s.setReg o v).wrStage = s.wrStage := rfl
@[simp] theorem State.setReg_resp (s : State) (o : Nat) (v : Word) : (s.setReg o v).resp = s.resp := rfl
@[simp] theorem State.setReg_out (s : State) (o : Nat) (v : Word) : (s.setReg o v).out = s.out := rfl
@[simp] theorem State.setReg_free (s : State) (o : Nat) (v : Word) : (s.setReg o v).free = s.free := rfl
@[simp] theorem State.setReg_evq (s : State) (o : Nat) (v : Word) : (s.setReg o v).evq = s.evq := rfl
@[simp] theorem State.setReg_owed (s : State) (o : Nat) (v : Word) : (s.setReg o v).owed = s.owed := rfl
@[simp] theorem State.setReg_hwd (s : State) (o : Nat) (v : Word) : (s.setReg o v).hwd = s.hwd := rfl
@[simp] theorem State.setReg_cmb (s : State) (o : Nat) (v : Word) : (s.setReg o v).cmb = s.cmb := rfl
@[simp] theorem State.setReg_rlk (s : State) (o : Nat) (v : Word) : (s.setReg o v).rlk = s.rlk := rfl
@[simp] theorem State.setReg_can (s : State) (o : Nat) (v : Word) : (s.setReg o v).can = s.can := rfl
@[simp] theorem State.setReg_bgh (s : State) (o : Nat) (v : Word) : (s.setReg o v).bgh = s.bgh := rfl
@[simp] theorem State.setReg_bghCore (s : State) (o : Nat) (v : Word) : (s.setReg o v).bghCore = s.bghCore := rfl
@[simp] theorem State.setReg_lcs (s : State) (o : Nat) (v : Word) : (s.setReg o v).lcs = s.lcs := rfl
@[simp] theorem State.setReg_sap (s : State) (o : Nat) (v : Word) : (s.setReg o v).sap = s.sap := rfl
@[simp] theorem State.setReg_bytes (s : State) (o : Nat) (v : Word) (i len : Nat) : (s.setReg o v).bytes i len = s.bytes i len := rfl

@[simp] theorem State.put_memsys (s : State) (f : RegField) (v : Nat) : (s.put f v).memsys = s.memsys := rfl
@[simp] theorem State.put_kvp (s : State) (f : RegField) (v : Nat) : (s.put f v).kvp = s.kvp := rfl
@[simp] theorem State.put_spl (s : State) (f : RegField) (v : Nat) : (s.put f v).spl = s.spl := rfl
@[simp] theorem State.put_sdb (s : State) (f : RegField) (v : Nat) : (s.put f v).sdb = s.sdb := rfl
@[simp] theorem State.put_frameTab (s : State) (f : RegField) (v : Nat) : (s.put f v).frameTab = s.frameTab := rfl
@[simp] theorem State.put_elapsed (s : State) (f : RegField) (v : Nat) : (s.put f v).elapsed = s.elapsed := rfl
@[simp] theorem State.put_tim (s : State) (f : RegField) (v : Nat) : (s.put f v).tim = s.tim := rfl
@[simp] theorem State.put_grove (s : State) (f : RegField) (v : Nat) : (s.put f v).grove = s.grove := rfl
@[simp] theorem State.put_wos (s : State) (f : RegField) (v : Nat) : (s.put f v).wos = s.wos := rfl
@[simp] theorem State.put_rdShadow (s : State) (f : RegField) (v : Nat) : (s.put f v).rdShadow = s.rdShadow := rfl
@[simp] theorem State.put_wrStage (s : State) (f : RegField) (v : Nat) : (s.put f v).wrStage = s.wrStage := rfl
@[simp] theorem State.put_resp (s : State) (f : RegField) (v : Nat) : (s.put f v).resp = s.resp := rfl
@[simp] theorem State.put_out (s : State) (f : RegField) (v : Nat) : (s.put f v).out = s.out := rfl
@[simp] theorem State.put_free (s : State) (f : RegField) (v : Nat) : (s.put f v).free = s.free := rfl
@[simp] theorem State.put_evq (s : State) (f : RegField) (v : Nat) : (s.put f v).evq = s.evq := rfl
@[simp] theorem State.put_owed (s : State) (f : RegField) (v : Nat) : (s.put f v).owed = s.owed := rfl
@[simp] theorem State.put_hwd (s : State) (f : RegField) (v : Nat) : (s.put f v).hwd = s.hwd := rfl
@[simp] theorem State.put_cmb (s : State) (f : RegField) (v : Nat) : (s.put f v).cmb = s.cmb := rfl
@[simp] theorem State.put_rlk (s : State) (f : RegField) (v : Nat) : (s.put f v).rlk = s.rlk := rfl
@[simp] theorem State.put_can (s : State) (f : RegField) (v : Nat) : (s.put f v).can = s.can := rfl
@[simp] theorem State.put_bgh (s : State) (f : RegField) (v : Nat) : (s.put f v).bgh = s.bgh := rfl
@[simp] theorem State.put_bghCore (s : State) (f : RegField) (v : Nat) : (s.put f v).bghCore = s.bghCore := rfl
@[simp] theorem State.put_lcs (s : State) (f : RegField) (v : Nat) : (s.put f v).lcs = s.lcs := rfl
@[simp] theorem State.put_sap (s : State) (f : RegField) (v : Nat) : (s.put f v).sap = s.sap := rfl
@[simp] theorem State.put_bytes (s : State) (f : RegField) (v : Nat) (i len : Nat) : (s.put f v).bytes i len = s.bytes i len := rfl

@[simp] theorem State.setReg64_mem (s : State) (o v : Nat) : (s.setReg64 o v).mem = s.mem := rfl
@[simp] theorem State.setReg64_memsys (s : State) (o v : Nat) : (s.setReg64 o v).memsys = s.memsys := rfl
@[simp] theorem State.setReg64_kvp (s : State) (o v : Nat) : (s.setReg64 o v).kvp = s.kvp := rfl
@[simp] theorem State.setReg64_spl (s : State) (o v : Nat) : (s.setReg64 o v).spl = s.spl := rfl
@[simp] theorem State.setReg64_sdb (s : State) (o v : Nat) : (s.setReg64 o v).sdb = s.sdb := rfl
@[simp] theorem State.setReg64_frameTab (s : State) (o v : Nat) : (s.setReg64 o v).frameTab = s.frameTab := rfl
@[simp] theorem State.setReg64_elapsed (s : State) (o v : Nat) : (s.setReg64 o v).elapsed = s.elapsed := rfl
@[simp] theorem State.setReg64_tim (s : State) (o v : Nat) : (s.setReg64 o v).tim = s.tim := rfl
@[simp] theorem State.setReg64_grove (s : State) (o v : Nat) : (s.setReg64 o v).grove = s.grove := rfl
@[simp] theorem State.setReg64_wos (s : State) (o v : Nat) : (s.setReg64 o v).wos = s.wos := rfl
@[simp] theorem State.setReg64_rdShadow (s : State) (o v : Nat) : (s.setReg64 o v).rdShadow = s.rdShadow := rfl
@[simp] theorem State.setReg64_wrStage (s : State) (o v : Nat) : (s.setReg64 o v).wrStage = s.wrStage := rfl
@[simp] theorem State.setReg64_resp (s : State) (o v : Nat) : (s.setReg64 o v).resp = s.resp := rfl
@[simp] theorem State.setReg64_out (s : State) (o v : Nat) : (s.setReg64 o v).out = s.out := rfl
@[simp] theorem State.setReg64_free (s : State) (o v : Nat) : (s.setReg64 o v).free = s.free := rfl
@[simp] theorem State.setReg64_evq (s : State) (o v : Nat) : (s.setReg64 o v).evq = s.evq := rfl
@[simp] theorem State.setReg64_crown (s : State) (o v : Nat) : (s.setReg64 o v).crown = s.crown := rfl
@[simp] theorem State.setReg64_owed (s : State) (o v : Nat) : (s.setReg64 o v).owed = s.owed := rfl
@[simp] theorem State.setReg64_sched (s : State) (o v : Nat) : (s.setReg64 o v).sched = s.sched := rfl
@[simp] theorem State.setReg64_hwd (s : State) (o v : Nat) : (s.setReg64 o v).hwd = s.hwd := rfl
@[simp] theorem State.setReg64_cmb (s : State) (o v : Nat) : (s.setReg64 o v).cmb = s.cmb := rfl
@[simp] theorem State.setReg64_rlk (s : State) (o v : Nat) : (s.setReg64 o v).rlk = s.rlk := rfl
@[simp] theorem State.setReg64_can (s : State) (o v : Nat) : (s.setReg64 o v).can = s.can := rfl
@[simp] theorem State.setReg64_bgh (s : State) (o v : Nat) : (s.setReg64 o v).bgh = s.bgh := rfl
@[simp] theorem State.setReg64_bghCore (s : State) (o v : Nat) : (s.setReg64 o v).bghCore = s.bghCore := rfl
@[simp] theorem State.setReg64_lcs (s : State) (o v : Nat) : (s.setReg64 o v).lcs = s.lcs := rfl
@[simp] theorem State.setReg64_sap (s : State) (o v : Nat) : (s.setReg64 o v).sap = s.sap := rfl
@[simp] theorem State.setReg64_pending (s : State) (o v : Nat) : (s.setReg64 o v).pending = s.pending := rfl
@[simp] theorem State.setReg64_byte (s : State) (o v : Nat) (i : Nat) : (s.setReg64 o v).byte i = s.byte i := rfl
@[simp] theorem State.setReg64_bytes (s : State) (o v : Nat) (i len : Nat) : (s.setReg64 o v).bytes i len = s.bytes i len := rfl

@[simp] theorem State.incMod_mem (s : State) (f : RegField) (n : Nat) : (s.incMod f n).mem = s.mem := State.put_mem s _ _
@[simp] theorem State.incMod_memsys (s : State) (f : RegField) (n : Nat) : (s.incMod f n).memsys = s.memsys := State.put_memsys s _ _
@[simp] theorem State.incMod_kvp (s : State) (f : RegField) (n : Nat) : (s.incMod f n).kvp = s.kvp := State.put_kvp s _ _
@[simp] theorem State.incMod_spl (s : State) (f : RegField) (n : Nat) : (s.incMod f n).spl = s.spl := State.put_spl s _ _
@[simp] theorem State.incMod_sdb (s : State) (f : RegField) (n : Nat) : (s.incMod f n).sdb = s.sdb := State.put_sdb s _ _
@[simp] theorem State.incMod_frameTab (s : State) (f : RegField) (n : Nat) : (s.incMod f n).frameTab = s.frameTab := State.put_frameTab s _ _
@[simp] theorem State.incMod_elapsed (s : State) (f : RegField) (n : Nat) : (s.incMod f n).elapsed = s.elapsed := State.put_elapsed s _ _
@[simp] theorem State.incMod_tim (s : State) (f : RegField) (n : Nat) : (s.incMod f n).tim = s.tim := State.put_tim s _ _
@[simp] theorem State.incMod_grove (s : State) (f : RegField) (n : Nat) : (s.incMod f n).grove = s.grove := State.put_grove s _ _
@[simp] theorem State.incMod_wos (s : State) (f : RegField) (n : Nat) : (s.incMod f n).wos = s.wos := State.put_wos s _ _
@[simp] theorem State.incMod_rdShadow (s : State) (f : RegField) (n : Nat) : (s.incMod f n).rdShadow = s.rdShadow := State.put_rdShadow s _ _
@[simp] theorem State.incMod_wrStage (s : State) (f : RegField) (n : Nat) : (s.incMod f n).wrStage = s.wrStage := State.put_wrStage s _ _
@[simp] theorem State.incMod_resp (s : State) (f : RegField) (n : Nat) : (s.incMod f n).resp = s.resp := State.put_resp s _ _
@[simp] theorem State.incMod_out (s : State) (f : RegField) (n : Nat) : (s.incMod f n).out = s.out := State.put_out s _ _
@[simp] theorem State.incMod_free (s : State) (f : RegField) (n : Nat) : (s.incMod f n).free = s.free := State.put_free s _ _
@[simp] theorem State.incMod_evq (s : State) (f : RegField) (n : Nat) : (s.incMod f n).evq = s.evq := State.put_evq s _ _
@[simp] theorem State.incMod_crown (s : State) (f : RegField) (n : Nat) : (s.incMod f n).crown = s.crown := State.put_crown s _ _
@[simp] theorem State.incMod_owed (s : State) (f : RegField) (n : Nat) : (s.incMod f n).owed = s.owed := State.put_owed s _ _
@[simp] theorem State.incMod_sched (s : State) (f : RegField) (n : Nat) : (s.incMod f n).sched = s.sched := State.put_sched s _ _
@[simp] theorem State.incMod_hwd (s : State) (f : RegField) (n : Nat) : (s.incMod f n).hwd = s.hwd := State.put_hwd s _ _
@[simp] theorem State.incMod_cmb (s : State) (f : RegField) (n : Nat) : (s.incMod f n).cmb = s.cmb := State.put_cmb s _ _
@[simp] theorem State.incMod_rlk (s : State) (f : RegField) (n : Nat) : (s.incMod f n).rlk = s.rlk := State.put_rlk s _ _
@[simp] theorem State.incMod_can (s : State) (f : RegField) (n : Nat) : (s.incMod f n).can = s.can := State.put_can s _ _
@[simp] theorem State.incMod_bgh (s : State) (f : RegField) (n : Nat) : (s.incMod f n).bgh = s.bgh := State.put_bgh s _ _
@[simp] theorem State.incMod_bghCore (s : State) (f : RegField) (n : Nat) : (s.incMod f n).bghCore = s.bghCore := State.put_bghCore s _ _
@[simp] theorem State.incMod_lcs (s : State) (f : RegField) (n : Nat) : (s.incMod f n).lcs = s.lcs := State.put_lcs s _ _
@[simp] theorem State.incMod_sap (s : State) (f : RegField) (n : Nat) : (s.incMod f n).sap = s.sap := State.put_sap s _ _
@[simp] theorem State.incMod_pending (s : State) (f : RegField) (n : Nat) : (s.incMod f n).pending = s.pending := State.put_pending s _ _
@[simp] theorem State.incMod_byte (s : State) (f : RegField) (n : Nat) (i : Nat) : (s.incMod f n).byte i = s.byte i := rfl
@[simp] theorem State.incMod_bytes (s : State) (f : RegField) (n : Nat) (i len : Nat) : (s.incMod f n).bytes i len = s.bytes i len := State.put_bytes s _ _ i len

@[simp] theorem State.inc64_mem (s : State) (o n : Nat) : (s.inc64 o n).mem = s.mem := State.setReg64_mem s _ _
@[simp] theorem State.inc64_memsys (s : State) (o n : Nat) : (s.inc64 o n).memsys = s.memsys := State.setReg64_memsys s _ _
@[simp] theorem State.inc64_kvp (s : State) (o n : Nat) : (s.inc64 o n).kvp = s.kvp := State.setReg64_kvp s _ _
@[simp] theorem State.inc64_spl (s : State) (o n : Nat) : (s.inc64 o n).spl = s.spl := State.setReg64_spl s _ _
@[simp] theorem State.inc64_sdb (s : State) (o n : Nat) : (s.inc64 o n).sdb = s.sdb := State.setReg64_sdb s _ _
@[simp] theorem State.inc64_frameTab (s : State) (o n : Nat) : (s.inc64 o n).frameTab = s.frameTab := State.setReg64_frameTab s _ _
@[simp] theorem State.inc64_elapsed (s : State) (o n : Nat) : (s.inc64 o n).elapsed = s.elapsed := State.setReg64_elapsed s _ _
@[simp] theorem State.inc64_tim (s : State) (o n : Nat) : (s.inc64 o n).tim = s.tim := State.setReg64_tim s _ _
@[simp] theorem State.inc64_grove (s : State) (o n : Nat) : (s.inc64 o n).grove = s.grove := State.setReg64_grove s _ _
@[simp] theorem State.inc64_wos (s : State) (o n : Nat) : (s.inc64 o n).wos = s.wos := State.setReg64_wos s _ _
@[simp] theorem State.inc64_rdShadow (s : State) (o n : Nat) : (s.inc64 o n).rdShadow = s.rdShadow := State.setReg64_rdShadow s _ _
@[simp] theorem State.inc64_wrStage (s : State) (o n : Nat) : (s.inc64 o n).wrStage = s.wrStage := State.setReg64_wrStage s _ _
@[simp] theorem State.inc64_resp (s : State) (o n : Nat) : (s.inc64 o n).resp = s.resp := State.setReg64_resp s _ _
@[simp] theorem State.inc64_out (s : State) (o n : Nat) : (s.inc64 o n).out = s.out := State.setReg64_out s _ _
@[simp] theorem State.inc64_free (s : State) (o n : Nat) : (s.inc64 o n).free = s.free := State.setReg64_free s _ _
@[simp] theorem State.inc64_evq (s : State) (o n : Nat) : (s.inc64 o n).evq = s.evq := State.setReg64_evq s _ _
@[simp] theorem State.inc64_crown (s : State) (o n : Nat) : (s.inc64 o n).crown = s.crown := State.setReg64_crown s _ _
@[simp] theorem State.inc64_owed (s : State) (o n : Nat) : (s.inc64 o n).owed = s.owed := State.setReg64_owed s _ _
@[simp] theorem State.inc64_sched (s : State) (o n : Nat) : (s.inc64 o n).sched = s.sched := State.setReg64_sched s _ _
@[simp] theorem State.inc64_hwd (s : State) (o n : Nat) : (s.inc64 o n).hwd = s.hwd := State.setReg64_hwd s _ _
@[simp] theorem State.inc64_cmb (s : State) (o n : Nat) : (s.inc64 o n).cmb = s.cmb := State.setReg64_cmb s _ _
@[simp] theorem State.inc64_rlk (s : State) (o n : Nat) : (s.inc64 o n).rlk = s.rlk := State.setReg64_rlk s _ _
@[simp] theorem State.inc64_can (s : State) (o n : Nat) : (s.inc64 o n).can = s.can := State.setReg64_can s _ _
@[simp] theorem State.inc64_bgh (s : State) (o n : Nat) : (s.inc64 o n).bgh = s.bgh := State.setReg64_bgh s _ _
@[simp] theorem State.inc64_bghCore (s : State) (o n : Nat) : (s.inc64 o n).bghCore = s.bghCore := State.setReg64_bghCore s _ _
@[simp] theorem State.inc64_lcs (s : State) (o n : Nat) : (s.inc64 o n).lcs = s.lcs := State.setReg64_lcs s _ _
@[simp] theorem State.inc64_sap (s : State) (o n : Nat) : (s.inc64 o n).sap = s.sap := State.setReg64_sap s _ _
@[simp] theorem State.inc64_pending (s : State) (o n : Nat) : (s.inc64 o n).pending = s.pending := State.setReg64_pending s _ _
@[simp] theorem State.inc64_byte (s : State) (o n : Nat) (i : Nat) : (s.inc64 o n).byte i = s.byte i := State.setReg64_byte s _ _ i
@[simp] theorem State.inc64_bytes (s : State) (o n : Nat) (i len : Nat) : (s.inc64 o n).bytes i len = s.bytes i len := State.setReg64_bytes s _ _ i len

@[simp] theorem State.setMs_memsys (s : State) (x : MemSys) : (s.setMs x).memsys = x := rfl
@[simp] theorem State.setMs_kvp (s : State) (x : MemSys) : (s.setMs x).kvp = s.kvp := rfl
@[simp] theorem State.setMs_spl (s : State) (x : MemSys) : (s.setMs x).spl = s.spl := rfl
@[simp] theorem State.setMs_sdb (s : State) (x : MemSys) : (s.setMs x).sdb = s.sdb := rfl
@[simp] theorem State.setMs_frameTab (s : State) (x : MemSys) : (s.setMs x).frameTab = s.frameTab := rfl
@[simp] theorem State.setMs_elapsed (s : State) (x : MemSys) : (s.setMs x).elapsed = s.elapsed := rfl
@[simp] theorem State.setMs_tim (s : State) (x : MemSys) : (s.setMs x).tim = s.tim := rfl
@[simp] theorem State.setMs_grove (s : State) (x : MemSys) : (s.setMs x).grove = s.grove := rfl
@[simp] theorem State.setMs_wos (s : State) (x : MemSys) : (s.setMs x).wos = s.wos := rfl
@[simp] theorem State.setMs_rdShadow (s : State) (x : MemSys) : (s.setMs x).rdShadow = s.rdShadow := rfl
@[simp] theorem State.setMs_wrStage (s : State) (x : MemSys) : (s.setMs x).wrStage = s.wrStage := rfl
@[simp] theorem State.setMs_resp (s : State) (x : MemSys) : (s.setMs x).resp = s.resp := rfl
@[simp] theorem State.setMs_out (s : State) (x : MemSys) : (s.setMs x).out = s.out := rfl
@[simp] theorem State.setMs_free (s : State) (x : MemSys) : (s.setMs x).free = s.free := rfl
@[simp] theorem State.setMs_evq (s : State) (x : MemSys) : (s.setMs x).evq = s.evq := rfl
@[simp] theorem State.setMs_crown (s : State) (x : MemSys) : (s.setMs x).crown = s.crown := rfl
@[simp] theorem State.setMs_owed (s : State) (x : MemSys) : (s.setMs x).owed = s.owed := rfl
@[simp] theorem State.setMs_sched (s : State) (x : MemSys) : (s.setMs x).sched = s.sched := rfl
@[simp] theorem State.setMs_hwd (s : State) (x : MemSys) : (s.setMs x).hwd = s.hwd := rfl
@[simp] theorem State.setMs_cmb (s : State) (x : MemSys) : (s.setMs x).cmb = s.cmb := rfl
@[simp] theorem State.setMs_rlk (s : State) (x : MemSys) : (s.setMs x).rlk = s.rlk := rfl
@[simp] theorem State.setMs_can (s : State) (x : MemSys) : (s.setMs x).can = s.can := rfl
@[simp] theorem State.setMs_bgh (s : State) (x : MemSys) : (s.setMs x).bgh = s.bgh := rfl
@[simp] theorem State.setMs_bghCore (s : State) (x : MemSys) : (s.setMs x).bghCore = s.bghCore := rfl
@[simp] theorem State.setMs_lcs (s : State) (x : MemSys) : (s.setMs x).lcs = s.lcs := rfl
@[simp] theorem State.setMs_sap (s : State) (x : MemSys) : (s.setMs x).sap = s.sap := rfl
@[simp] theorem State.setMs_reg (s : State) (x : MemSys) (r : Nat) : (s.setMs x).reg r = s.reg r := rfl
@[simp] theorem State.setMs_fld (s : State) (x : MemSys) (g : RegField) : (s.setMs x).fld g = s.fld g := rfl
@[simp] theorem State.setMs_flag (s : State) (x : MemSys) (g : RegField) : (s.setMs x).flag g = s.flag g := rfl
@[simp] theorem State.setMs_byte (s : State) (x : MemSys) (i : Nat) : (s.setMs x).byte i = s.byte i := rfl
@[simp] theorem State.setMs_bytes (s : State) (x : MemSys) (i len : Nat) : (s.setMs x).bytes i len = s.bytes i len := rfl

@[simp] theorem State.wrBytes_kvp (s : State) (a : Nat) (l : List Byte) : (s.wrBytes a l).kvp = s.kvp := rfl
@[simp] theorem State.wrBytes_spl (s : State) (a : Nat) (l : List Byte) : (s.wrBytes a l).spl = s.spl := rfl
@[simp] theorem State.wrBytes_sdb (s : State) (a : Nat) (l : List Byte) : (s.wrBytes a l).sdb = s.sdb := rfl
@[simp] theorem State.wrBytes_frameTab (s : State) (a : Nat) (l : List Byte) : (s.wrBytes a l).frameTab = s.frameTab := rfl
@[simp] theorem State.wrBytes_elapsed (s : State) (a : Nat) (l : List Byte) : (s.wrBytes a l).elapsed = s.elapsed := rfl
@[simp] theorem State.wrBytes_tim (s : State) (a : Nat) (l : List Byte) : (s.wrBytes a l).tim = s.tim := rfl
@[simp] theorem State.wrBytes_grove (s : State) (a : Nat) (l : List Byte) : (s.wrBytes a l).grove = s.grove := rfl
@[simp] theorem State.wrBytes_wos (s : State) (a : Nat) (l : List Byte) : (s.wrBytes a l).wos = s.wos := rfl
@[simp] theorem State.wrBytes_rdShadow (s : State) (a : Nat) (l : List Byte) : (s.wrBytes a l).rdShadow = s.rdShadow := rfl
@[simp] theorem State.wrBytes_wrStage (s : State) (a : Nat) (l : List Byte) : (s.wrBytes a l).wrStage = s.wrStage := rfl
@[simp] theorem State.wrBytes_resp (s : State) (a : Nat) (l : List Byte) : (s.wrBytes a l).resp = s.resp := rfl
@[simp] theorem State.wrBytes_out (s : State) (a : Nat) (l : List Byte) : (s.wrBytes a l).out = s.out := rfl
@[simp] theorem State.wrBytes_free (s : State) (a : Nat) (l : List Byte) : (s.wrBytes a l).free = s.free := rfl
@[simp] theorem State.wrBytes_evq (s : State) (a : Nat) (l : List Byte) : (s.wrBytes a l).evq = s.evq := rfl
@[simp] theorem State.wrBytes_crown (s : State) (a : Nat) (l : List Byte) : (s.wrBytes a l).crown = s.crown := rfl
@[simp] theorem State.wrBytes_owed (s : State) (a : Nat) (l : List Byte) : (s.wrBytes a l).owed = s.owed := rfl
@[simp] theorem State.wrBytes_sched (s : State) (a : Nat) (l : List Byte) : (s.wrBytes a l).sched = s.sched := rfl
@[simp] theorem State.wrBytes_hwd (s : State) (a : Nat) (l : List Byte) : (s.wrBytes a l).hwd = s.hwd := rfl
@[simp] theorem State.wrBytes_cmb (s : State) (a : Nat) (l : List Byte) : (s.wrBytes a l).cmb = s.cmb := rfl
@[simp] theorem State.wrBytes_rlk (s : State) (a : Nat) (l : List Byte) : (s.wrBytes a l).rlk = s.rlk := rfl
@[simp] theorem State.wrBytes_can (s : State) (a : Nat) (l : List Byte) : (s.wrBytes a l).can = s.can := rfl
@[simp] theorem State.wrBytes_bgh (s : State) (a : Nat) (l : List Byte) : (s.wrBytes a l).bgh = s.bgh := rfl
@[simp] theorem State.wrBytes_bghCore (s : State) (a : Nat) (l : List Byte) : (s.wrBytes a l).bghCore = s.bghCore := rfl
@[simp] theorem State.wrBytes_lcs (s : State) (a : Nat) (l : List Byte) : (s.wrBytes a l).lcs = s.lcs := rfl
@[simp] theorem State.wrBytes_sap (s : State) (a : Nat) (l : List Byte) : (s.wrBytes a l).sap = s.sap := rfl
@[simp] theorem State.wrBytes_reg (s : State) (a : Nat) (l : List Byte) (r : Nat) : (s.wrBytes a l).reg r = s.reg r := rfl
@[simp] theorem State.wrBytes_fld (s : State) (a : Nat) (l : List Byte) (g : RegField) : (s.wrBytes a l).fld g = s.fld g := rfl
@[simp] theorem State.wrBytes_flag (s : State) (a : Nat) (l : List Byte) (g : RegField) : (s.wrBytes a l).flag g = s.flag g := rfl

@[simp] theorem State.wrN_kvp (s : State) (a n v : Nat) : (s.wrN a n v).kvp = s.kvp := rfl
@[simp] theorem State.wrN_spl (s : State) (a n v : Nat) : (s.wrN a n v).spl = s.spl := rfl
@[simp] theorem State.wrN_sdb (s : State) (a n v : Nat) : (s.wrN a n v).sdb = s.sdb := rfl
@[simp] theorem State.wrN_frameTab (s : State) (a n v : Nat) : (s.wrN a n v).frameTab = s.frameTab := rfl
@[simp] theorem State.wrN_elapsed (s : State) (a n v : Nat) : (s.wrN a n v).elapsed = s.elapsed := rfl
@[simp] theorem State.wrN_tim (s : State) (a n v : Nat) : (s.wrN a n v).tim = s.tim := rfl
@[simp] theorem State.wrN_grove (s : State) (a n v : Nat) : (s.wrN a n v).grove = s.grove := rfl
@[simp] theorem State.wrN_regs (s : State) (a n v : Nat) : (s.wrN a n v).regs = s.regs := rfl
@[simp] theorem State.wrN_wos (s : State) (a n v : Nat) : (s.wrN a n v).wos = s.wos := rfl
@[simp] theorem State.wrN_rdShadow (s : State) (a n v : Nat) : (s.wrN a n v).rdShadow = s.rdShadow := rfl
@[simp] theorem State.wrN_wrStage (s : State) (a n v : Nat) : (s.wrN a n v).wrStage = s.wrStage := rfl
@[simp] theorem State.wrN_resp (s : State) (a n v : Nat) : (s.wrN a n v).resp = s.resp := rfl
@[simp] theorem State.wrN_out (s : State) (a n v : Nat) : (s.wrN a n v).out = s.out := rfl
@[simp] theorem State.wrN_free (s : State) (a n v : Nat) : (s.wrN a n v).free = s.free := rfl
@[simp] theorem State.wrN_evq (s : State) (a n v : Nat) : (s.wrN a n v).evq = s.evq := rfl
@[simp] theorem State.wrN_crown (s : State) (a n v : Nat) : (s.wrN a n v).crown = s.crown := rfl
@[simp] theorem State.wrN_owed (s : State) (a n v : Nat) : (s.wrN a n v).owed = s.owed := rfl
@[simp] theorem State.wrN_sched (s : State) (a n v : Nat) : (s.wrN a n v).sched = s.sched := rfl
@[simp] theorem State.wrN_hwd (s : State) (a n v : Nat) : (s.wrN a n v).hwd = s.hwd := rfl
@[simp] theorem State.wrN_cmb (s : State) (a n v : Nat) : (s.wrN a n v).cmb = s.cmb := rfl
@[simp] theorem State.wrN_rlk (s : State) (a n v : Nat) : (s.wrN a n v).rlk = s.rlk := rfl
@[simp] theorem State.wrN_can (s : State) (a n v : Nat) : (s.wrN a n v).can = s.can := rfl
@[simp] theorem State.wrN_bgh (s : State) (a n v : Nat) : (s.wrN a n v).bgh = s.bgh := rfl
@[simp] theorem State.wrN_bghCore (s : State) (a n v : Nat) : (s.wrN a n v).bghCore = s.bghCore := rfl
@[simp] theorem State.wrN_lcs (s : State) (a n v : Nat) : (s.wrN a n v).lcs = s.lcs := rfl
@[simp] theorem State.wrN_sap (s : State) (a n v : Nat) : (s.wrN a n v).sap = s.sap := rfl
@[simp] theorem State.wrN_pending (s : State) (a n v : Nat) : (s.wrN a n v).pending = s.pending := rfl
@[simp] theorem State.wrN_reg (s : State) (a n v : Nat) (r : Nat) : (s.wrN a n v).reg r = s.reg r := rfl
@[simp] theorem State.wrN_fld (s : State) (a n v : Nat) (g : RegField) : (s.wrN a n v).fld g = s.fld g := rfl
@[simp] theorem State.wrN_flag (s : State) (a n v : Nat) (g : RegField) : (s.wrN a n v).flag g = s.flag g := rfl

@[simp] theorem State.zero_kvp (s : State) (a n : Nat) : (s.zero a n).kvp = s.kvp := rfl
@[simp] theorem State.zero_spl (s : State) (a n : Nat) : (s.zero a n).spl = s.spl := rfl
@[simp] theorem State.zero_sdb (s : State) (a n : Nat) : (s.zero a n).sdb = s.sdb := rfl
@[simp] theorem State.zero_frameTab (s : State) (a n : Nat) : (s.zero a n).frameTab = s.frameTab := rfl
@[simp] theorem State.zero_elapsed (s : State) (a n : Nat) : (s.zero a n).elapsed = s.elapsed := rfl
@[simp] theorem State.zero_tim (s : State) (a n : Nat) : (s.zero a n).tim = s.tim := rfl
@[simp] theorem State.zero_grove (s : State) (a n : Nat) : (s.zero a n).grove = s.grove := rfl
@[simp] theorem State.zero_wos (s : State) (a n : Nat) : (s.zero a n).wos = s.wos := rfl
@[simp] theorem State.zero_rdShadow (s : State) (a n : Nat) : (s.zero a n).rdShadow = s.rdShadow := rfl
@[simp] theorem State.zero_wrStage (s : State) (a n : Nat) : (s.zero a n).wrStage = s.wrStage := rfl
@[simp] theorem State.zero_resp (s : State) (a n : Nat) : (s.zero a n).resp = s.resp := rfl
@[simp] theorem State.zero_out (s : State) (a n : Nat) : (s.zero a n).out = s.out := rfl
@[simp] theorem State.zero_free (s : State) (a n : Nat) : (s.zero a n).free = s.free := rfl
@[simp] theorem State.zero_evq (s : State) (a n : Nat) : (s.zero a n).evq = s.evq := rfl
@[simp] theorem State.zero_crown (s : State) (a n : Nat) : (s.zero a n).crown = s.crown := rfl
@[simp] theorem State.zero_owed (s : State) (a n : Nat) : (s.zero a n).owed = s.owed := rfl
@[simp] theorem State.zero_sched (s : State) (a n : Nat) : (s.zero a n).sched = s.sched := rfl
@[simp] theorem State.zero_hwd (s : State) (a n : Nat) : (s.zero a n).hwd = s.hwd := rfl
@[simp] theorem State.zero_cmb (s : State) (a n : Nat) : (s.zero a n).cmb = s.cmb := rfl
@[simp] theorem State.zero_rlk (s : State) (a n : Nat) : (s.zero a n).rlk = s.rlk := rfl
@[simp] theorem State.zero_can (s : State) (a n : Nat) : (s.zero a n).can = s.can := rfl
@[simp] theorem State.zero_bgh (s : State) (a n : Nat) : (s.zero a n).bgh = s.bgh := rfl
@[simp] theorem State.zero_bghCore (s : State) (a n : Nat) : (s.zero a n).bghCore = s.bghCore := rfl
@[simp] theorem State.zero_lcs (s : State) (a n : Nat) : (s.zero a n).lcs = s.lcs := rfl
@[simp] theorem State.zero_sap (s : State) (a n : Nat) : (s.zero a n).sap = s.sap := rfl
@[simp] theorem State.zero_reg (s : State) (a n : Nat) (r : Nat) : (s.zero a n).reg r = s.reg r := rfl
@[simp] theorem State.zero_fld (s : State) (a n : Nat) (g : RegField) : (s.zero a n).fld g = s.fld g := rfl
@[simp] theorem State.zero_flag (s : State) (a n : Nat) (g : RegField) : (s.zero a n).flag g = s.flag g := rfl

@[simp] theorem State.emit_memsys (s : State) (o : Out) : (s.emit o).memsys = s.memsys := rfl
@[simp] theorem State.emit_kvp (s : State) (o : Out) : (s.emit o).kvp = s.kvp := rfl
@[simp] theorem State.emit_spl (s : State) (o : Out) : (s.emit o).spl = s.spl := rfl
@[simp] theorem State.emit_sdb (s : State) (o : Out) : (s.emit o).sdb = s.sdb := rfl
@[simp] theorem State.emit_frameTab (s : State) (o : Out) : (s.emit o).frameTab = s.frameTab := rfl
@[simp] theorem State.emit_elapsed (s : State) (o : Out) : (s.emit o).elapsed = s.elapsed := rfl
@[simp] theorem State.emit_tim (s : State) (o : Out) : (s.emit o).tim = s.tim := rfl
@[simp] theorem State.emit_grove (s : State) (o : Out) : (s.emit o).grove = s.grove := rfl
@[simp] theorem State.emit_wos (s : State) (o : Out) : (s.emit o).wos = s.wos := rfl
@[simp] theorem State.emit_rdShadow (s : State) (o : Out) : (s.emit o).rdShadow = s.rdShadow := rfl
@[simp] theorem State.emit_wrStage (s : State) (o : Out) : (s.emit o).wrStage = s.wrStage := rfl
@[simp] theorem State.emit_resp (s : State) (o : Out) : (s.emit o).resp = s.resp := rfl
@[simp] theorem State.emit_free (s : State) (o : Out) : (s.emit o).free = s.free := rfl
@[simp] theorem State.emit_evq (s : State) (o : Out) : (s.emit o).evq = s.evq := rfl
@[simp] theorem State.emit_crown (s : State) (o : Out) : (s.emit o).crown = s.crown := rfl
@[simp] theorem State.emit_owed (s : State) (o : Out) : (s.emit o).owed = s.owed := rfl
@[simp] theorem State.emit_sched (s : State) (o : Out) : (s.emit o).sched = s.sched := rfl
@[simp] theorem State.emit_hwd (s : State) (o : Out) : (s.emit o).hwd = s.hwd := rfl
@[simp] theorem State.emit_cmb (s : State) (o : Out) : (s.emit o).cmb = s.cmb := rfl
@[simp] theorem State.emit_rlk (s : State) (o : Out) : (s.emit o).rlk = s.rlk := rfl
@[simp] theorem State.emit_can (s : State) (o : Out) : (s.emit o).can = s.can := rfl
@[simp] theorem State.emit_bgh (s : State) (o : Out) : (s.emit o).bgh = s.bgh := rfl
@[simp] theorem State.emit_bghCore (s : State) (o : Out) : (s.emit o).bghCore = s.bghCore := rfl
@[simp] theorem State.emit_lcs (s : State) (o : Out) : (s.emit o).lcs = s.lcs := rfl
@[simp] theorem State.emit_sap (s : State) (o : Out) : (s.emit o).sap = s.sap := rfl
@[simp] theorem State.emit_reg (s : State) (o : Out) (r : Nat) : (s.emit o).reg r = s.reg r := rfl
@[simp] theorem State.emit_fld (s : State) (o : Out) (g : RegField) : (s.emit o).fld g = s.fld g := rfl
@[simp] theorem State.emit_flag (s : State) (o : Out) (g : RegField) : (s.emit o).flag g = s.flag g := rfl
@[simp] theorem State.emit_byte (s : State) (o : Out) (i : Nat) : (s.emit o).byte i = s.byte i := rfl
@[simp] theorem State.emit_bytes (s : State) (o : Out) (i len : Nat) : (s.emit o).bytes i len = s.bytes i len := rfl

@[simp] theorem State.setEvq_memsys (s : State) (x : Evq) : (s.setEvq x).memsys = s.memsys := rfl
@[simp] theorem State.setEvq_kvp (s : State) (x : Evq) : (s.setEvq x).kvp = s.kvp := rfl
@[simp] theorem State.setEvq_spl (s : State) (x : Evq) : (s.setEvq x).spl = s.spl := rfl
@[simp] theorem State.setEvq_sdb (s : State) (x : Evq) : (s.setEvq x).sdb = s.sdb := rfl
@[simp] theorem State.setEvq_frameTab (s : State) (x : Evq) : (s.setEvq x).frameTab = s.frameTab := rfl
@[simp] theorem State.setEvq_elapsed (s : State) (x : Evq) : (s.setEvq x).elapsed = s.elapsed := rfl
@[simp] theorem State.setEvq_tim (s : State) (x : Evq) : (s.setEvq x).tim = s.tim := rfl
@[simp] theorem State.setEvq_grove (s : State) (x : Evq) : (s.setEvq x).grove = s.grove := rfl
@[simp] theorem State.setEvq_wos (s : State) (x : Evq) : (s.setEvq x).wos = s.wos := rfl
@[simp] theorem State.setEvq_rdShadow (s : State) (x : Evq) : (s.setEvq x).rdShadow = s.rdShadow := rfl
@[simp] theorem State.setEvq_wrStage (s : State) (x : Evq) : (s.setEvq x).wrStage = s.wrStage := rfl
@[simp] theorem State.setEvq_resp (s : State) (x : Evq) : (s.setEvq x).resp = s.resp := rfl
@[simp] theorem State.setEvq_out (s : State) (x : Evq) : (s.setEvq x).out = s.out := rfl
@[simp] theorem State.setEvq_free (s : State) (x : Evq) : (s.setEvq x).free = s.free := rfl
@[simp] theorem State.setEvq_crown (s : State) (x : Evq) : (s.setEvq x).crown = s.crown := rfl
@[simp] theorem State.setEvq_owed (s : State) (x : Evq) : (s.setEvq x).owed = s.owed := rfl
@[simp] theorem State.setEvq_sched (s : State) (x : Evq) : (s.setEvq x).sched = s.sched := rfl
@[simp] theorem State.setEvq_hwd (s : State) (x : Evq) : (s.setEvq x).hwd = s.hwd := rfl
@[simp] theorem State.setEvq_cmb (s : State) (x : Evq) : (s.setEvq x).cmb = s.cmb := rfl
@[simp] theorem State.setEvq_rlk (s : State) (x : Evq) : (s.setEvq x).rlk = s.rlk := rfl
@[simp] theorem State.setEvq_can (s : State) (x : Evq) : (s.setEvq x).can = s.can := rfl
@[simp] theorem State.setEvq_bgh (s : State) (x : Evq) : (s.setEvq x).bgh = s.bgh := rfl
@[simp] theorem State.setEvq_bghCore (s : State) (x : Evq) : (s.setEvq x).bghCore = s.bghCore := rfl
@[simp] theorem State.setEvq_lcs (s : State) (x : Evq) : (s.setEvq x).lcs = s.lcs := rfl
@[simp] theorem State.setEvq_sap (s : State) (x : Evq) : (s.setEvq x).sap = s.sap := rfl
@[simp] theorem State.setEvq_reg (s : State) (x : Evq) (r : Nat) : (s.setEvq x).reg r = s.reg r := rfl
@[simp] theorem State.setEvq_fld (s : State) (x : Evq) (g : RegField) : (s.setEvq x).fld g = s.fld g := rfl
@[simp] theorem State.setEvq_flag (s : State) (x : Evq) (g : RegField) : (s.setEvq x).flag g = s.flag g := rfl
@[simp] theorem State.setEvq_byte (s : State) (x : Evq) (i : Nat) : (s.setEvq x).byte i = s.byte i := rfl
@[simp] theorem State.setEvq_bytes (s : State) (x : Evq) (i len : Nat) : (s.setEvq x).bytes i len = s.bytes i len := rfl

@[simp] theorem State.setSched_memsys (s : State) (x : Sched) : (s.setSched x).memsys = s.memsys := rfl
@[simp] theorem State.setSched_kvp (s : State) (x : Sched) : (s.setSched x).kvp = s.kvp := rfl
@[simp] theorem State.setSched_spl (s : State) (x : Sched) : (s.setSched x).spl = s.spl := rfl
@[simp] theorem State.setSched_sdb (s : State) (x : Sched) : (s.setSched x).sdb = s.sdb := rfl
@[simp] theorem State.setSched_frameTab (s : State) (x : Sched) : (s.setSched x).frameTab = s.frameTab := rfl
@[simp] theorem State.setSched_elapsed (s : State) (x : Sched) : (s.setSched x).elapsed = s.elapsed := rfl
@[simp] theorem State.setSched_tim (s : State) (x : Sched) : (s.setSched x).tim = s.tim := rfl
@[simp] theorem State.setSched_grove (s : State) (x : Sched) : (s.setSched x).grove = s.grove := rfl
@[simp] theorem State.setSched_wos (s : State) (x : Sched) : (s.setSched x).wos = s.wos := rfl
@[simp] theorem State.setSched_rdShadow (s : State) (x : Sched) : (s.setSched x).rdShadow = s.rdShadow := rfl
@[simp] theorem State.setSched_wrStage (s : State) (x : Sched) : (s.setSched x).wrStage = s.wrStage := rfl
@[simp] theorem State.setSched_resp (s : State) (x : Sched) : (s.setSched x).resp = s.resp := rfl
@[simp] theorem State.setSched_out (s : State) (x : Sched) : (s.setSched x).out = s.out := rfl
@[simp] theorem State.setSched_free (s : State) (x : Sched) : (s.setSched x).free = s.free := rfl
@[simp] theorem State.setSched_evq (s : State) (x : Sched) : (s.setSched x).evq = s.evq := rfl
@[simp] theorem State.setSched_crown (s : State) (x : Sched) : (s.setSched x).crown = s.crown := rfl
@[simp] theorem State.setSched_owed (s : State) (x : Sched) : (s.setSched x).owed = s.owed := rfl
@[simp] theorem State.setSched_hwd (s : State) (x : Sched) : (s.setSched x).hwd = s.hwd := rfl
@[simp] theorem State.setSched_cmb (s : State) (x : Sched) : (s.setSched x).cmb = s.cmb := rfl
@[simp] theorem State.setSched_rlk (s : State) (x : Sched) : (s.setSched x).rlk = s.rlk := rfl
@[simp] theorem State.setSched_can (s : State) (x : Sched) : (s.setSched x).can = s.can := rfl
@[simp] theorem State.setSched_bgh (s : State) (x : Sched) : (s.setSched x).bgh = s.bgh := rfl
@[simp] theorem State.setSched_bghCore (s : State) (x : Sched) : (s.setSched x).bghCore = s.bghCore := rfl
@[simp] theorem State.setSched_lcs (s : State) (x : Sched) : (s.setSched x).lcs = s.lcs := rfl
@[simp] theorem State.setSched_sap (s : State) (x : Sched) : (s.setSched x).sap = s.sap := rfl
@[simp] theorem State.setSched_reg (s : State) (x : Sched) (r : Nat) : (s.setSched x).reg r = s.reg r := rfl
@[simp] theorem State.setSched_fld (s : State) (x : Sched) (g : RegField) : (s.setSched x).fld g = s.fld g := rfl
@[simp] theorem State.setSched_flag (s : State) (x : Sched) (g : RegField) : (s.setSched x).flag g = s.flag g := rfl
@[simp] theorem State.setSched_byte (s : State) (x : Sched) (i : Nat) : (s.setSched x).byte i = s.byte i := rfl
@[simp] theorem State.setSched_bytes (s : State) (x : Sched) (i len : Nat) : (s.setSched x).bytes i len = s.bytes i len := rfl

/-! ### Memory bytes -/

/-- A byte after a write: the byte written, or the byte before outside the bytes written. -/
theorem byte_wrBytes (s : State) (a : Nat) (l : List Byte) (b : Nat) :
    (s.wrBytes a l).byte b = if a ≤ b ∧ b < a + l.length then l.getD (b - a) 0 else s.byte b := by
  simp only [State.byte, State.wrBytes, spGet_spRange]

/-- A byte after a clear. -/
theorem byte_zero (s : State) (a n b : Nat) : (s.zero a n).byte b = if a ≤ b ∧ b < a + n then 0 else s.byte b := by
  simp only [State.byte, State.zero, spGet_spClear]

/-- A register write keeps every byte of memory. -/
@[simp] theorem byte_setReg (s : State) (o : Nat) (v : Word) (b : Nat) : (s.setReg o v).byte b = s.byte b := rfl
@[simp] theorem byte_put (s : State) (f : RegField) (v b : Nat) : (s.put f v).byte b = s.byte b := rfl

end Sys2Proof.Machine
end

