-- ==== Sys2Proof/Laws/Crown.lean ====
section
/-! SUPPORT. Lemmas about a Crown core: its storage under updates, and what the sequencer does with an instruction at decode. -/

namespace Sys2Proof.Machine

theorem spIns_filter {α : Type} (k : Nat) (v : α) (t : Sparse α) :
    (spIns k v t).filter (fun e => decide (e.1 ≠ k)) = t.filter fun e => decide (e.1 ≠ k) := by
  induction t with
  | nil => simp [spIns]
  | cons e t ih =>
    unfold spIns
    split
    · by_cases h : e.1 = k <;> simp_all
    · simp [List.filter_cons]

/-- The later of two writes to one key stands. -/
@[simp] theorem spSet_spSet {α : Type} [DecidableEq α] (d : α) (k : Nat) (v w : α) (t : Sparse α) :
    spSet d k v (spSet d k w t) = spSet d k v t := by
  have h : (spSet d k w t).filter (fun e => decide (e.1 ≠ k)) = t.filter fun e => decide (e.1 ≠ k) := by
    unfold spSet
    split
    · simp
    · rw [spIns_filter]; simp
  have e (u : Sparse α) : spSet d k v u =
      if v = d then u.filter (fun e => decide (e.1 ≠ k)) else spIns k v (u.filter fun e => decide (e.1 ≠ k)) := rfl
  rw [e, e, h]

@[simp] theorem core_setCore_self (s : State) (c : Nat) (k : Crown) : (s.setCore c k).core c = k := by
  simp [State.core, State.setCore]
theorem core_setCore_ne (s : State) {c d : Nat} (k : Crown) (h : d ≠ c) : (s.setCore c k).core d = s.core d := by
  simp [State.core, State.setCore, spGet_spSet_ne _ _ _ _ _ h]
@[simp] theorem setCore_setCore (s : State) (c : Nat) (k j : Crown) : (s.setCore c k).setCore c j = s.setCore c j := by
  simp [State.setCore]
@[simp] theorem reg_setCore (s : State) (c : Nat) (k : Crown) (o : Nat) : (s.setCore c k).reg o = s.reg o := rfl
@[simp] theorem fld_setCore (s : State) (c : Nat) (k : Crown) (f : RegField) : (s.setCore c k).fld f = s.fld f := rfl
@[simp] theorem core_setReg (s : State) (o : Nat) (v : Word) (c : Nat) : (s.setReg o v).core c = s.core c := rfl
@[simp] theorem core_put (s : State) (f : RegField) (v c : Nat) : (s.put f v).core c = s.core c := rfl
@[simp] theorem core_orFlags (c d : Nat) (f : BitVec 4) (s : State) : (orFlags c f s).core d = s.core d := by
  unfold orFlags; split <;> rfl
@[simp] theorem pending_setCore (s : State) (c : Nat) (k : Crown) : (s.setCore c k).pending = s.pending := rfl
@[simp] theorem mem_setCore (s : State) (c : Nat) (k : Crown) : (s.setCore c k).mem = s.mem := rfl
@[simp] theorem regs_setCore (s : State) (c : Nat) (k : Crown) : (s.setCore c k).regs = s.regs := rfl
@[simp] theorem orFlags_none (c : Nat) (s : State) : orFlags c fNone s = s := by simp [orFlags, fNone]
@[simp] theorem orFlags_zero (c : Nat) (s : State) : orFlags c 0 s = s := by simp [orFlags]

@[simp] theorem setS_pc (k : Crown) (r : Nat) (v : Int) : (k.setS r v).pc = k.pc := by unfold Crown.setS; split <;> rfl
@[simp] theorem setS_loops (k : Crown) (r : Nat) (v : Int) : (k.setS r v).loops = k.loops := by unfold Crown.setS; split <;> rfl
@[simp] theorem setP_pc (k : Crown) (r : Nat) (b : Bool) : (k.setP r b).pc = k.pc := by unfold Crown.setP; split <;> rfl
@[simp] theorem setP_loops (k : Crown) (r : Nat) (b : Bool) : (k.setP r b).loops = k.loops := by unfold Crown.setP; split <;> rfl
@[simp] theorem setT_pc (k : Crown) (r : Nat) (t : Tile) : (k.setT r t).pc = k.pc := rfl
@[simp] theorem setT_loops (k : Crown) (r : Nat) (t : Tile) : (k.setT r t).loops = k.loops := rfl

/-- A word whose row is in the fetch buffer is fetched without an access. -/
theorem fetchWord_hit {c : Nat} {s : State} (h : (s.core c).holdsRow ((s.core c).pc / 64) = true) :
    fetchWord c s = (.ok [], s) := by
  unfold fetchWord; rw [if_pos h]

/-- A legal instruction at decode whose predicate holds is executed, and finishes as its effect says. -/
theorem seqRun_chosen {c : Fin 6} {pred : BitVec 3} {pn : Bool} {rs ps : List Nat} {s : State}
    (h : AtDecode c pred rs ps s) (hp : Chosen c pred pn s) (word : Nat) (legal : Bool) (hl : legal = true) (body : State → Done) :
    seqRun c word pred pn legal rs ps body s = .next (finish c word s (body s)) := by
  have h0 : ¬ (pred = 0 ∧ pn = true) := by
    rintro ⟨rfl, rfl⟩
    simp [Chosen, Crown.preg] at hp
  have hr : rs.any (fun r => decide (r ≠ 0) && (s.core c).pendS.contains r) = false := by
    rw [List.any_eq_false]; intro r hr
    rcases h.regs r hr with h | h <;> simp [h]
  have hq : ps.any (fun p => decide (p ≠ 0) && (s.core c).pendP.contains p) = false := by
    rw [List.any_eq_false]; intro r hr
    rcases h.preds r hr with h | h <;> simp [h]
  have hp' : ¬ (s.core c).preg pred.toNat = pn := by
    unfold Chosen at hp; rw [hp]; cases pn <;> simp
  have hpp : (s.core c).pendP.contains pred.toNat = false := by simpa using h.pred
  have hg : (!coreRuns s c || (s.core c).halted || (s.core c).ended || (s.core c).seqWait.isSome) = false := by
    simp [h.runs, h.live, h.unended, h.unheld]
  have h0' : (!legal || (decide (pred = 0) && pn)) = false := by
    subst hl
    by_cases a : pred = 0 <;> by_cases b : pn = true <;> simp_all
  unfold seqRun
  simp only [hg, fetchWord_hit h.fetched, h0', hpp, hp', hr, hq, Bool.or_self, Bool.false_eq_true, if_false]

/-- A legal instruction at decode whose predicate fails is skipped. -/
theorem seqRun_skipped {c : Fin 6} {pred : BitVec 3} {pn : Bool} {rs ps : List Nat} {s : State}
    (h : AtDecode c pred [] [] s) (hp : Chosen c pred (!pn) s) (h0 : pred ≠ 0) (word : Nat) (legal : Bool) (hl : legal = true)
    (body : State → Done) : seqRun c word pred pn legal rs ps body s = .next (advance c word s) := by
  have hp' : (s.core c).preg pred.toNat = pn := by unfold Chosen at hp; simpa using hp
  have hpp : (s.core c).pendP.contains pred.toNat = false := by simpa using h.pred
  have hg : (!coreRuns s c || (s.core c).halted || (s.core c).ended || (s.core c).seqWait.isSome) = false := by
    simp [h.runs, h.live, h.unended, h.unheld]
  have h0' : (!legal || (decide (pred = 0) && pn)) = false := by simp [hl]; intro e; exact absurd e h0
  unfold seqRun
  simp only [hg, fetchWord_hit h.fetched, h0', hpp, hp', Bool.false_eq_true, if_false, if_true]

/-- An illegal instruction at decode is a program fault (R104). -/
theorem seqRun_illegal {c : Fin 6} {pred : BitVec 3} {pn : Bool} {rs ps : List Nat} {s : State}
    (h : AtDecode c pred [] [] s) (word : Nat) (legal : Bool) (hl : legal = false)
    (body : State → Done) : seqRun c word pred pn legal rs ps body s = .next (progFault c 1 (s.core c).pc word word 0 s) := by
  have hg : (!coreRuns s c || (s.core c).halted || (s.core c).ended || (s.core c).seqWait.isSome) = false := by
    simp [h.runs, h.live, h.unended, h.unheld]
  unfold seqRun
  simp only [hg, fetchWord_hit h.fetched, hl, Bool.false_eq_true, if_false]
  simp

/-- An instruction that completes moves the core on, when the next pc is in the scratchpad. -/
theorem advance_flows {c : Nat} (word : Nat) {s : State} (h : pcOk (loopEnd (s.core c).pc (s.core c).loops).2 = true) :
    advance c word s = s.setCore c (stepped (s.core c)) := by
  unfold advance; simp only [h, if_true]; rfl

/-- A command to a core that does not run, or whose sequencer stops, changes nothing. -/
theorem seqRun_stopped {c : Fin 6} {pred : BitVec 3} {pn : Bool} {rs ps : List Nat} {s : State} (word : Nat) (legal : Bool)
    (body : State → Done)
    (h : coreRuns s c = false ∨ (s.core c).halted = true ∨ (s.core c).ended = true ∨ (s.core c).seqWait.isSome = true) :
    seqRun c word pred pn legal rs ps body s = .next s := by
  unfold seqRun
  rcases h with h | h | h | h <;> simp [h]

/-- A result with its flags completes: the register, the flags, and the core moves on. -/
theorem finish_doneS {c : Fin 6} (word rd : Nat) (r : Res) {s : State} (h : Flows c s) :
    finish c word s (doneS c rd r s) = (orFlags c r.2 s).setCore c (stepped ((s.core c).setS rd r.1)) := by
  unfold Flows at h
  simp [finish, doneS, advance_flows, h]

/-- An update of the core's storage that keeps pc and loops completes, and the core moves on. -/
theorem finish_doneCore {c : Fin 6} (word : Nat) (g : Crown → Crown) {s : State} (h : Flows c s)
    (h1 : (g (s.core c)).pc = (s.core c).pc) (h2 : (g (s.core c)).loops = (s.core c).loops) :
    finish c word s (doneCore c g s) = s.setCore c (stepped (g (s.core c))) := by
  unfold Flows at h
  simp [finish, doneCore, advance_flows, h1, h2, h]

end Sys2Proof.Machine
end

