-- ==== Sys2Proof/Laws/Exec.lean ====
section
/-! SUPPORT. One lemma per command: `exec` on it is its meaning. -/

namespace Sys2Proof.Machine

@[simp] theorem exec_registerWrite (off : BitVec 22) (reqs : List RegReq) (s : State) : exec (.registerWrite off reqs) s = execRegisterWrite off reqs s := rfl
@[simp] theorem exec_aliasWrite (oid : BitVec 10) (ctx : BitVec 6) (clear : Bool) (addr : BitVec 40) (data : List Byte) (s : State) : exec (.aliasWrite oid ctx clear addr data) s = execAliasWrite oid ctx clear addr data s := rfl
@[simp] theorem exec_nocRead (oid : BitVec 10) (ctx : BitVec 6) (addr : BitVec 48) (len : BitVec 13) (link : LinkErr) (s : State) : exec (.nocRead oid ctx addr len link) s = execNocRead oid ctx addr len link s := rfl
@[simp] theorem exec_nocWrite (oid : BitVec 10) (ctx : BitVec 6) (addr : BitVec 48) (data : List Byte) (link : LinkErr) (s : State) : exec (.nocWrite oid ctx addr data link) s = execNocWrite oid ctx addr data link s := rfl
@[simp] theorem exec_hostReadRequest (bar : Fin 3) (off : BitVec 38) (len : BitVec 13) (link : LinkErr) (s : State) : exec (.hostReadRequest bar off len link) s = execHostReadRequest bar off len link s := rfl
@[simp] theorem exec_hostWriteRequest (bar : Fin 3) (off : BitVec 38) (data : List Byte) (link : LinkErr) (s : State) : exec (.hostWriteRequest bar off data link) s = execHostWriteRequest bar off data link s := rfl
@[simp] theorem exec_servicePortCommand (a : PortAcc) (link : LinkErr) (s : State) : exec (.servicePortCommand a link) s = execServicePortCommand a link s := rfl
@[simp] theorem exec_tapCommand (op : TapOp) (link : LinkErr) (s : State) : exec (.tapCommand op link) s = execTapCommand op link s := rfl
@[simp] theorem exec_strictWrite (oid : BitVec 10) (ctx : BitVec 6) (data : BitVec 32) (s : State) : exec (.strictWrite oid ctx data) s = execStrictWrite oid ctx data s := rfl
@[simp] theorem exec_add (core : Fin 6) (f : FormA) (s : State) : exec (.add core f) s = execAdd core f s := rfl
@[simp] theorem exec_addm (core : Fin 6) (f : FormA) (s : State) : exec (.addm core f) s = execAddm core f s := rfl
@[simp] theorem exec_sub (core : Fin 6) (f : FormA) (s : State) : exec (.sub core f) s = execSub core f s := rfl
@[simp] theorem exec_subm (core : Fin 6) (f : FormA) (s : State) : exec (.subm core f) s = execSubm core f s := rfl
@[simp] theorem exec_mul (core : Fin 6) (f : FormA) (s : State) : exec (.mul core f) s = execMul core f s := rfl
@[simp] theorem exec_mulm (core : Fin 6) (f : FormA) (s : State) : exec (.mulm core f) s = execMulm core f s := rfl
@[simp] theorem exec_mulq (core : Fin 6) (f : FormA) (s : State) : exec (.mulq core f) s = execMulq core f s := rfl
@[simp] theorem exec_div (core : Fin 6) (f : FormA) (s : State) : exec (.div core f) s = execDiv core f s := rfl
@[simp] theorem exec_rem (core : Fin 6) (f : FormA) (s : State) : exec (.rem core f) s = execRem core f s := rfl
@[simp] theorem exec_divr (core : Fin 6) (f : FormA) (s : State) : exec (.divr core f) s = execDivr core f s := rfl
@[simp] theorem exec_andS (core : Fin 6) (f : FormA) (s : State) : exec (.andS core f) s = execAnd core f s := rfl
@[simp] theorem exec_orS (core : Fin 6) (f : FormA) (s : State) : exec (.orS core f) s = execOr core f s := rfl
@[simp] theorem exec_xorS (core : Fin 6) (f : FormA) (s : State) : exec (.xorS core f) s = execXor core f s := rfl
@[simp] theorem exec_andn (core : Fin 6) (f : FormA) (s : State) : exec (.andn core f) s = execAndn core f s := rfl
@[simp] theorem exec_notS (core : Fin 6) (f : FormA) (s : State) : exec (.notS core f) s = execNot core f s := rfl
@[simp] theorem exec_sll (core : Fin 6) (f : FormA) (s : State) : exec (.sll core f) s = execSll core f s := rfl
@[simp] theorem exec_srl (core : Fin 6) (f : FormA) (s : State) : exec (.srl core f) s = execSrl core f s := rfl
@[simp] theorem exec_sra (core : Fin 6) (f : FormA) (s : State) : exec (.sra core f) s = execSra core f s := rfl
@[simp] theorem exec_sls (core : Fin 6) (f : FormA) (s : State) : exec (.sls core f) s = execSls core f s := rfl
@[simp] theorem exec_srr (core : Fin 6) (f : FormA) (s : State) : exec (.srr core f) s = execSrr core f s := rfl
@[simp] theorem exec_minS (core : Fin 6) (f : FormA) (s : State) : exec (.minS core f) s = execMin core f s := rfl
@[simp] theorem exec_maxS (core : Fin 6) (f : FormA) (s : State) : exec (.maxS core f) s = execMax core f s := rfl
@[simp] theorem exec_minu (core : Fin 6) (f : FormA) (s : State) : exec (.minu core f) s = execMinu core f s := rfl
@[simp] theorem exec_maxu (core : Fin 6) (f : FormA) (s : State) : exec (.maxu core f) s = execMaxu core f s := rfl
@[simp] theorem exec_neg (core : Fin 6) (f : FormA) (s : State) : exec (.neg core f) s = execNeg core f s := rfl
@[simp] theorem exec_absI (core : Fin 6) (f : FormA) (s : State) : exec (.absI core f) s = execAbs core f s := rfl
@[simp] theorem exec_clz (core : Fin 6) (f : FormA) (s : State) : exec (.clz core f) s = execClz core f s := rfl
@[simp] theorem exec_ctz (core : Fin 6) (f : FormA) (s : State) : exec (.ctz core f) s = execCtz core f s := rfl
@[simp] theorem exec_pop (core : Fin 6) (f : FormA) (s : State) : exec (.pop core f) s = execPop core f s := rfl
@[simp] theorem exec_cmpEq (core : Fin 6) (f : FormA) (s : State) : exec (.cmpEq core f) s = execCmpEq core f s := rfl
@[simp] theorem exec_cmpNe (core : Fin 6) (f : FormA) (s : State) : exec (.cmpNe core f) s = execCmpNe core f s := rfl
@[simp] theorem exec_cmpLt (core : Fin 6) (f : FormA) (s : State) : exec (.cmpLt core f) s = execCmpLt core f s := rfl
@[simp] theorem exec_cmpLe (core : Fin 6) (f : FormA) (s : State) : exec (.cmpLe core f) s = execCmpLe core f s := rfl
@[simp] theorem exec_cmpLtu (core : Fin 6) (f : FormA) (s : State) : exec (.cmpLtu core f) s = execCmpLtu core f s := rfl
@[simp] theorem exec_cmpLeu (core : Fin 6) (f : FormA) (s : State) : exec (.cmpLeu core f) s = execCmpLeu core f s := rfl
@[simp] theorem exec_sel (core : Fin 6) (f : FormA) (s : State) : exec (.sel core f) s = execSel core f s := rfl
@[simp] theorem exec_pand (core : Fin 6) (f : FormA) (s : State) : exec (.pand core f) s = execPand core f s := rfl
@[simp] theorem exec_por (core : Fin 6) (f : FormA) (s : State) : exec (.por core f) s = execPor core f s := rfl
@[simp] theorem exec_pxor (core : Fin 6) (f : FormA) (s : State) : exec (.pxor core f) s = execPxor core f s := rfl
@[simp] theorem exec_pandn (core : Fin 6) (f : FormA) (s : State) : exec (.pandn core f) s = execPandn core f s := rfl
@[simp] theorem exec_pnot (core : Fin 6) (f : FormA) (s : State) : exec (.pnot core f) s = execPnot core f s := rfl
@[simp] theorem exec_pget (core : Fin 6) (f : FormA) (s : State) : exec (.pget core f) s = execPget core f s := rfl
@[simp] theorem exec_pset (core : Fin 6) (f : FormA) (s : State) : exec (.pset core f) s = execPset core f s := rfl
@[simp] theorem exec_addi (core : Fin 6) (f : FormI) (s : State) : exec (.addi core f) s = execAddi core f s := rfl
@[simp] theorem exec_addim (core : Fin 6) (f : FormI) (s : State) : exec (.addim core f) s = execAddim core f s := rfl
@[simp] theorem exec_muli (core : Fin 6) (f : FormI) (s : State) : exec (.muli core f) s = execMuli core f s := rfl
@[simp] theorem exec_mulim (core : Fin 6) (f : FormI) (s : State) : exec (.mulim core f) s = execMulim core f s := rfl
@[simp] theorem exec_andi (core : Fin 6) (f : FormI) (s : State) : exec (.andi core f) s = execAndi core f s := rfl
@[simp] theorem exec_ori (core : Fin 6) (f : FormI) (s : State) : exec (.ori core f) s = execOri core f s := rfl
@[simp] theorem exec_xori (core : Fin 6) (f : FormI) (s : State) : exec (.xori core f) s = execXori core f s := rfl
@[simp] theorem exec_slli (core : Fin 6) (f : FormI) (s : State) : exec (.slli core f) s = execSlli core f s := rfl
@[simp] theorem exec_srli (core : Fin 6) (f : FormI) (s : State) : exec (.srli core f) s = execSrli core f s := rfl
@[simp] theorem exec_srai (core : Fin 6) (f : FormI) (s : State) : exec (.srai core f) s = execSrai core f s := rfl
@[simp] theorem exec_slsi (core : Fin 6) (f : FormI) (s : State) : exec (.slsi core f) s = execSlsi core f s := rfl
@[simp] theorem exec_srri (core : Fin 6) (f : FormI) (s : State) : exec (.srri core f) s = execSrri core f s := rfl
@[simp] theorem exec_cmpiEq (core : Fin 6) (f : FormI) (s : State) : exec (.cmpiEq core f) s = execCmpiEq core f s := rfl
@[simp] theorem exec_cmpiNe (core : Fin 6) (f : FormI) (s : State) : exec (.cmpiNe core f) s = execCmpiNe core f s := rfl
@[simp] theorem exec_cmpiLt (core : Fin 6) (f : FormI) (s : State) : exec (.cmpiLt core f) s = execCmpiLt core f s := rfl
@[simp] theorem exec_cmpiLe (core : Fin 6) (f : FormI) (s : State) : exec (.cmpiLe core f) s = execCmpiLe core f s := rfl
@[simp] theorem exec_cmpiLtu (core : Fin 6) (f : FormI) (s : State) : exec (.cmpiLtu core f) s = execCmpiLtu core f s := rfl
@[simp] theorem exec_cmpiLeu (core : Fin 6) (f : FormI) (s : State) : exec (.cmpiLeu core f) s = execCmpiLeu core f s := rfl
@[simp] theorem exec_li (core : Fin 6) (f : FormI) (s : State) : exec (.li core f) s = execLi core f s := rfl
@[simp] theorem exec_lih (core : Fin 6) (f : FormI) (s : State) : exec (.lih core f) s = execLih core f s := rfl
@[simp] theorem exec_sati (core : Fin 6) (f : FormI) (s : State) : exec (.sati core f) s = execSati core f s := rfl
@[simp] theorem exec_usati (core : Fin 6) (f : FormI) (s : State) : exec (.usati core f) s = execUsati core f s := rfl
@[simp] theorem exec_sexti (core : Fin 6) (f : FormI) (s : State) : exec (.sexti core f) s = execSexti core f s := rfl
@[simp] theorem exec_zexti (core : Fin 6) (f : FormI) (s : State) : exec (.zexti core f) s = execZexti core f s := rfl
@[simp] theorem exec_br (core : Fin 6) (f : FormI) (s : State) : exec (.br core f) s = execBr core f s := rfl
@[simp] theorem exec_brr (core : Fin 6) (f : FormI) (s : State) : exec (.brr core f) s = execBrr core f s := rfl
@[simp] theorem exec_call (core : Fin 6) (f : FormI) (s : State) : exec (.call core f) s = execCall core f s := rfl
@[simp] theorem exec_callr (core : Fin 6) (f : FormI) (s : State) : exec (.callr core f) s = execCallr core f s := rfl
@[simp] theorem exec_loop (core : Fin 6) (f : FormI) (s : State) : exec (.loop core f) s = execLoop core f s := rfl
@[simp] theorem exec_lbrk (core : Fin 6) (f : FormI) (s : State) : exec (.lbrk core f) s = execLbrk core f s := rfl
@[simp] theorem exec_lidx (core : Fin 6) (f : FormI) (s : State) : exec (.lidx core f) s = execLidx core f s := rfl
@[simp] theorem exec_endJob (core : Fin 6) (f : FormI) (s : State) : exec (.endJob core f) s = execEnd core f s := rfl
@[simp] theorem exec_fault (core : Fin 6) (f : FormI) (s : State) : exec (.fault core f) s = execFault core f s := rfl
@[simp] theorem exec_nop (core : Fin 6) (f : FormI) (s : State) : exec (.nop core f) s = execNop core f s := rfl
@[simp] theorem exec_ldb (core : Fin 6) (f : FormI) (s : State) : exec (.ldb core f) s = execLdb core f s := rfl
@[simp] theorem exec_ldbu (core : Fin 6) (f : FormI) (s : State) : exec (.ldbu core f) s = execLdbu core f s := rfl
@[simp] theorem exec_ldh (core : Fin 6) (f : FormI) (s : State) : exec (.ldh core f) s = execLdh core f s := rfl
@[simp] theorem exec_ldhu (core : Fin 6) (f : FormI) (s : State) : exec (.ldhu core f) s = execLdhu core f s := rfl
@[simp] theorem exec_ldw (core : Fin 6) (f : FormI) (s : State) : exec (.ldw core f) s = execLdw core f s := rfl
@[simp] theorem exec_ldwu (core : Fin 6) (f : FormI) (s : State) : exec (.ldwu core f) s = execLdwu core f s := rfl
@[simp] theorem exec_ldd (core : Fin 6) (f : FormI) (s : State) : exec (.ldd core f) s = execLdd core f s := rfl
@[simp] theorem exec_stb (core : Fin 6) (f : FormI) (s : State) : exec (.stb core f) s = execStb core f s := rfl
@[simp] theorem exec_sth (core : Fin 6) (f : FormI) (s : State) : exec (.sth core f) s = execSth core f s := rfl
@[simp] theorem exec_stw (core : Fin 6) (f : FormI) (s : State) : exec (.stw core f) s = execStw core f s := rfl
@[simp] theorem exec_std (core : Fin 6) (f : FormI) (s : State) : exec (.std core f) s = execStd core f s := rfl
@[simp] theorem exec_rsig (core : Fin 6) (f : FormG) (s : State) : exec (.rsig core f) s = execRsig core f s := rfl
@[simp] theorem exec_rsigv (core : Fin 6) (f : FormG) (s : State) : exec (.rsigv core f) s = execRsigv core f s := rfl
@[simp] theorem exec_rwait (core : Fin 6) (f : FormG) (s : State) : exec (.rwait core f) s = execRwait core f s := rfl
@[simp] theorem exec_rwaits (core : Fin 6) (f : FormG) (s : State) : exec (.rwaits core f) s = execRwaits core f s := rfl
@[simp] theorem exec_rrd (core : Fin 6) (f : FormG) (s : State) : exec (.rrd core f) s = execRrd core f s := rfl
@[simp] theorem exec_rtest (core : Fin 6) (f : FormG) (s : State) : exec (.rtest core f) s = execRtest core f s := rfl
@[simp] theorem exec_rsigd (core : Fin 6) (f : FormG) (s : State) : exec (.rsigd core f) s = execRsigd core f s := rfl
@[simp] theorem exec_tset (core : Fin 6) (f : FormT) (s : State) : exec (.tset core f) s = execTset core f s := rfl
@[simp] theorem exec_tget (core : Fin 6) (f : FormT) (s : State) : exec (.tget core f) s = execTget core f s := rfl
@[simp] theorem exec_tld (core : Fin 6) (f : FormT) (s : State) : exec (.tld core f) s = execTld core f s := rfl
@[simp] theorem exec_tst (core : Fin 6) (f : FormT) (s : State) : exec (.tst core f) s = execTst core f s := rfl
@[simp] theorem exec_tadv (core : Fin 6) (f : FormT) (s : State) : exec (.tadv core f) s = execTadv core f s := rfl
@[simp] theorem exec_tsub (core : Fin 6) (f : FormT) (s : State) : exec (.tsub core f) s = execTsub core f s := rfl
@[simp] theorem exec_tcpy (core : Fin 6) (f : FormT) (s : State) : exec (.tcpy core f) s = execTcpy core f s := rfl
@[simp] theorem exec_fflush (core : Fin 6) (f : FormI) (s : State) : exec (.fflush core f) s = execFflush core f s := rfl
@[simp] theorem exec_flagrd (core : Fin 6) (f : FormI) (s : State) : exec (.flagrd core f) s = execFlagrd core f s := rfl
@[simp] theorem exec_flagclr (core : Fin 6) (f : FormI) (s : State) : exec (.flagclr core f) s = execFlagclr core f s := rfl
@[simp] theorem exec_svr (core : Fin 6) (f : FormI) (s : State) : exec (.svr core f) s = execSvr core f s := rfl
@[simp] theorem exec_awld (core : Fin 6) (f : FormX) (s : State) : exec (.awld core f) s = execAwld core f s := rfl
@[simp] theorem exec_amm (core : Fin 6) (f : FormX) (s : State) : exec (.amm core f) s = execAmm core f s := rfl
@[simp] theorem exec_ammc (core : Fin 6) (f : FormX) (s : State) : exec (.ammc core f) s = execAmmc core f s := rfl
@[simp] theorem exec_vadd (core : Fin 6) (f : FormV) (s : State) : exec (.vadd core f) s = execVadd core f s := rfl
@[simp] theorem exec_vaddm (core : Fin 6) (f : FormV) (s : State) : exec (.vaddm core f) s = execVaddm core f s := rfl
@[simp] theorem exec_vsub (core : Fin 6) (f : FormV) (s : State) : exec (.vsub core f) s = execVsub core f s := rfl
@[simp] theorem exec_vsubm (core : Fin 6) (f : FormV) (s : State) : exec (.vsubm core f) s = execVsubm core f s := rfl
@[simp] theorem exec_vmin (core : Fin 6) (f : FormV) (s : State) : exec (.vmin core f) s = execVmin core f s := rfl
@[simp] theorem exec_vmax (core : Fin 6) (f : FormV) (s : State) : exec (.vmax core f) s = execVmax core f s := rfl
@[simp] theorem exec_vneg (core : Fin 6) (f : FormV) (s : State) : exec (.vneg core f) s = execVneg core f s := rfl
@[simp] theorem exec_vabs (core : Fin 6) (f : FormV) (s : State) : exec (.vabs core f) s = execVabs core f s := rfl
@[simp] theorem exec_vand (core : Fin 6) (f : FormV) (s : State) : exec (.vand core f) s = execVand core f s := rfl
@[simp] theorem exec_vor (core : Fin 6) (f : FormV) (s : State) : exec (.vor core f) s = execVor core f s := rfl
@[simp] theorem exec_vxor (core : Fin 6) (f : FormV) (s : State) : exec (.vxor core f) s = execVxor core f s := rfl
@[simp] theorem exec_vandn (core : Fin 6) (f : FormV) (s : State) : exec (.vandn core f) s = execVandn core f s := rfl
@[simp] theorem exec_vmul (core : Fin 6) (f : FormV) (s : State) : exec (.vmul core f) s = execVmul core f s := rfl
@[simp] theorem exec_vmulq (core : Fin 6) (f : FormV) (s : State) : exec (.vmulq core f) s = execVmulq core f s := rfl
@[simp] theorem exec_vmac (core : Fin 6) (f : FormV) (s : State) : exec (.vmac core f) s = execVmac core f s := rfl
@[simp] theorem exec_vresc (core : Fin 6) (f : FormV) (s : State) : exec (.vresc core f) s = execVresc core f s := rfl
@[simp] theorem exec_vsll (core : Fin 6) (f : FormV) (s : State) : exec (.vsll core f) s = execVsll core f s := rfl
@[simp] theorem exec_vsrl (core : Fin 6) (f : FormV) (s : State) : exec (.vsrl core f) s = execVsrl core f s := rfl
@[simp] theorem exec_vsra (core : Fin 6) (f : FormV) (s : State) : exec (.vsra core f) s = execVsra core f s := rfl
@[simp] theorem exec_vsls (core : Fin 6) (f : FormV) (s : State) : exec (.vsls core f) s = execVsls core f s := rfl
@[simp] theorem exec_vsrr (core : Fin 6) (f : FormV) (s : State) : exec (.vsrr core f) s = execVsrr core f s := rfl
@[simp] theorem exec_vslli (core : Fin 6) (f : FormV) (s : State) : exec (.vslli core f) s = execVslli core f s := rfl
@[simp] theorem exec_vsrli (core : Fin 6) (f : FormV) (s : State) : exec (.vsrli core f) s = execVsrli core f s := rfl
@[simp] theorem exec_vsrai (core : Fin 6) (f : FormV) (s : State) : exec (.vsrai core f) s = execVsrai core f s := rfl
@[simp] theorem exec_vslsi (core : Fin 6) (f : FormV) (s : State) : exec (.vslsi core f) s = execVslsi core f s := rfl
@[simp] theorem exec_vsrri (core : Fin 6) (f : FormV) (s : State) : exec (.vsrri core f) s = execVsrri core f s := rfl
@[simp] theorem exec_vsat (core : Fin 6) (f : FormV) (s : State) : exec (.vsat core f) s = execVsat core f s := rfl
@[simp] theorem exec_vusat (core : Fin 6) (f : FormV) (s : State) : exec (.vusat core f) s = execVusat core f s := rfl
@[simp] theorem exec_vcmpEq (core : Fin 6) (f : FormV) (s : State) : exec (.vcmpEq core f) s = execVcmpEq core f s := rfl
@[simp] theorem exec_vcmpNe (core : Fin 6) (f : FormV) (s : State) : exec (.vcmpNe core f) s = execVcmpNe core f s := rfl
@[simp] theorem exec_vcmpLt (core : Fin 6) (f : FormV) (s : State) : exec (.vcmpLt core f) s = execVcmpLt core f s := rfl
@[simp] theorem exec_vcmpLe (core : Fin 6) (f : FormV) (s : State) : exec (.vcmpLe core f) s = execVcmpLe core f s := rfl
@[simp] theorem exec_vsel (core : Fin 6) (f : FormV) (s : State) : exec (.vsel core f) s = execVsel core f s := rfl
@[simp] theorem exec_vmov (core : Fin 6) (f : FormV) (s : State) : exec (.vmov core f) s = execVmov core f s := rfl
@[simp] theorem exec_vbcs (core : Fin 6) (f : FormV) (s : State) : exec (.vbcs core f) s = execVbcs core f s := rfl
@[simp] theorem exec_vbcl (core : Fin 6) (f : FormV) (s : State) : exec (.vbcl core f) s = execVbcl core f s := rfl
@[simp] theorem exec_vidx (core : Fin 6) (f : FormV) (s : State) : exec (.vidx core f) s = execVidx core f s := rfl
@[simp] theorem exec_vins (core : Fin 6) (f : FormV) (s : State) : exec (.vins core f) s = execVins core f s := rfl
@[simp] theorem exec_vext (core : Fin 6) (f : FormV) (s : State) : exec (.vext core f) s = execVext core f s := rfl
@[simp] theorem exec_vrsum (core : Fin 6) (f : FormV) (s : State) : exec (.vrsum core f) s = execVrsum core f s := rfl
@[simp] theorem exec_vrmax (core : Fin 6) (f : FormV) (s : State) : exec (.vrmax core f) s = execVrmax core f s := rfl
@[simp] theorem exec_vrmin (core : Fin 6) (f : FormV) (s : State) : exec (.vrmin core f) s = execVrmin core f s := rfl
@[simp] theorem exec_vramax (core : Fin 6) (f : FormV) (s : State) : exec (.vramax core f) s = execVramax core f s := rfl
@[simp] theorem exec_vrarg (core : Fin 6) (f : FormV) (s : State) : exec (.vrarg core f) s = execVrarg core f s := rfl
@[simp] theorem exec_vld (core : Fin 6) (f : FormV) (s : State) : exec (.vld core f) s = execVld core f s := rfl
@[simp] theorem exec_vst (core : Fin 6) (f : FormV) (s : State) : exec (.vst core f) s = execVst core f s := rfl
@[simp] theorem exec_vacr (core : Fin 6) (f : FormV) (s : State) : exec (.vacr core f) s = execVacr core f s := rfl
@[simp] theorem exec_vacw (core : Fin 6) (f : FormV) (s : State) : exec (.vacw core f) s = execVacw core f s := rfl
@[simp] theorem exec_vrdiv (core : Fin 6) (f : FormV) (s : State) : exec (.vrdiv core f) s = execVrdiv core f s := rfl
@[simp] theorem exec_vqdiv (core : Fin 6) (f : FormV) (s : State) : exec (.vqdiv core f) s = execVqdiv core f s := rfl
@[simp] theorem exec_vqrem (core : Fin 6) (f : FormV) (s : State) : exec (.vqrem core f) s = execVqrem core f s := rfl
@[simp] theorem exec_vrsq (core : Fin 6) (f : FormV) (s : State) : exec (.vrsq core f) s = execVrsq core f s := rfl
@[simp] theorem exec_vmkc (core : Fin 6) (f : FormV) (s : State) : exec (.vmkc core f) s = execVmkc core f s := rfl
@[simp] theorem exec_vmkcm (core : Fin 6) (f : FormV) (s : State) : exec (.vmkcm core f) s = execVmkcm core f s := rfl
@[simp] theorem exec_vmks (core : Fin 6) (f : FormV) (s : State) : exec (.vmks core f) s = execVmks core f s := rfl
@[simp] theorem exec_vmksm (core : Fin 6) (f : FormV) (s : State) : exec (.vmksm core f) s = execVmksm core f s := rfl
@[simp] theorem exec_vany (core : Fin 6) (f : FormV) (s : State) : exec (.vany core f) s = execVany core f s := rfl
@[simp] theorem exec_vexp (core : Fin 6) (f : FormV) (s : State) : exec (.vexp core f) s = execVexp core f s := rfl
@[simp] theorem exec_vroti (core : Fin 6) (f : FormV) (s : State) : exec (.vroti core f) s = execVroti core f s := rfl
@[simp] theorem exec_vrots (core : Fin 6) (f : FormV) (s : State) : exec (.vrots core f) s = execVrots core f s := rfl
@[simp] theorem exec_tldTable (core : Fin 6) (f : FormV) (s : State) : exec (.tldTable core f) s = execTldTable core f s := rfl
@[simp] theorem exec_tlu (core : Fin 6) (f : FormV) (s : State) : exec (.tlu core f) s = execTlu core f s := rfl
@[simp] theorem exec_tli (core : Fin 6) (f : FormV) (s : State) : exec (.tli core f) s = execTli core f s := rfl
@[simp] theorem exec_qdrn (core : Fin 6) (f : FormQ) (s : State) : exec (.qdrn core f) s = execQdrn core f s := rfl
@[simp] theorem exec_qdq (core : Fin 6) (f : FormQ) (s : State) : exec (.qdq core f) s = execQdq core f s := rfl
@[simp] theorem exec_qnt (core : Fin 6) (f : FormQ) (s : State) : exec (.qnt core f) s = execQnt core f s := rfl
@[simp] theorem exec_qscl (core : Fin 6) (f : FormQ) (s : State) : exec (.qscl core f) s = execQscl core f s := rfl
@[simp] theorem exec_dld (core : Fin 6) (f : FormD) (s : State) : exec (.dld core f) s = execDld core f s := rfl
@[simp] theorem exec_dst (core : Fin 6) (f : FormD) (s : State) : exec (.dst core f) s = execDst core f s := rfl
@[simp] theorem exec_dgth (core : Fin 6) (f : FormD) (s : State) : exec (.dgth core f) s = execDgth core f s := rfl
@[simp] theorem exec_dsct (core : Fin 6) (f : FormD) (s : State) : exec (.dsct core f) s = execDsct core f s := rfl
@[simp] theorem exec_dacl (core : Fin 6) (f : FormD) (s : State) : exec (.dacl core f) s = execDacl core f s := rfl
@[simp] theorem exec_dacs (core : Fin 6) (f : FormD) (s : State) : exec (.dacs core f) s = execDacs core f s := rfl
@[simp] theorem exec_dzro (core : Fin 6) (f : FormD) (s : State) : exec (.dzro core f) s = execDzro core f s := rfl
@[simp] theorem exec_arrayDispatch (core : Fin 6) (s : State) : exec (.arrayDispatch core) s = execArrayDispatch core s := rfl
@[simp] theorem exec_dmaTake (core : Fin 6) (eng : Bool) (s : State) : exec (.dmaTake core eng) s = execDmaTake core eng s := rfl
@[simp] theorem exec_twigIssue (core : Fin 6) (s : State) : exec (.twigIssue core) s = execTwigIssue core s := rfl
@[simp] theorem exec_syncQueueHead (core : Fin 6) (s : State) : exec (.syncQueueHead core) s = execSyncQueueHead core s := rfl
@[simp] theorem exec_shadowLoadComplete (core : Fin 6) (s : State) : exec (.shadowLoadComplete core) s = execShadowLoadComplete core s := rfl
@[simp] theorem exec_instructionRetire (core : Fin 6) (unit : RetireUnit) (s : State) : exec (.instructionRetire core unit) s = execInstructionRetire core unit s := rfl
@[simp] theorem exec_ringWaitSatisfied (place : WaitPlace) (s : State) : exec (.ringWaitSatisfied place) s = execRingWaitSatisfied place s := rfl
@[simp] theorem exec_jobEndReport (core : Fin 6) (s : State) : exec (.jobEndReport core) s = execJobEndReport core s := rfl
@[simp] theorem exec_ringSignalApply (ring : BitVec 13) (s : State) : exec (.ringSignalApply ring) s = execRingSignalApply ring s := rfl
@[simp] theorem exec_ringSignalRegisterWrite (oid : BitVec 10) (ctx : BitVec 6) (ring : BitVec 13) (data : BitVec 32) (s : State) : exec (.ringSignalRegisterWrite oid ctx ring data) s = execRingSignalRegisterWrite oid ctx ring data s := rfl
@[simp] theorem exec_seqNew (ctx : BitVec 6) (s : State) : exec (.seqNew ctx) s = execSeqNew ctx s := rfl
@[simp] theorem exec_seqGraft (ctx : BitVec 6) (s : State) : exec (.seqGraft ctx) s = execSeqGraft ctx s := rfl
@[simp] theorem exec_kvpExtend (ctx : BitVec 6) (s : State) : exec (.kvpExtend ctx) s = execExtend ctx s := rfl
@[simp] theorem exec_kvpWrite (ctx : BitVec 6) (s : State) : exec (.kvpWrite ctx) s = execKvpWrite ctx s := rfl
@[simp] theorem exec_kvpGather (ctx : BitVec 6) (s : State) : exec (.kvpGather ctx) s = execKvpGather ctx s := rfl
@[simp] theorem exec_kvpTrunc (ctx : BitVec 6) (s : State) : exec (.kvpTrunc ctx) s = execKvpTrunc ctx s := rfl
@[simp] theorem exec_kvpFree (ctx : BitVec 6) (s : State) : exec (.kvpFree ctx) s = execKvpFree ctx s := rfl
@[simp] theorem exec_pageZeroed (ctx : BitVec 6) (s : State) : exec (.pageZeroed ctx) s = execPageZeroed ctx s := rfl
@[simp] theorem exec_allocationRetry (ctx : BitVec 6) (s : State) : exec (.allocationRetry ctx) s = execAllocationRetry ctx s := rfl
@[simp] theorem exec_kvpWaitlimExpiry (ctx : BitVec 6) (s : State) : exec (.kvpWaitlimExpiry ctx) s = execKvpWaitlimExpiry ctx s := rfl
@[simp] theorem exec_kvpQuotaWrite (oid : BitVec 10) (ctx : BitVec 6) (n : Fin 64) (data : BitVec 32) (s : State) : exec (.kvpQuotaWrite oid ctx n data) s = execKvpQuotaWrite oid ctx n data s := rfl
@[simp] theorem exec_splConv (s : State) : exec .splConv s = execSplConv s := rfl
@[simp] theorem exec_splPool (s : State) : exec .splPool s = execSplPool s := rfl
@[simp] theorem exec_splRsmp (s : State) : exec .splRsmp s = execSplRsmp s := rfl
@[simp] theorem exec_splDecode (s : State) : exec .splDecode s = execSplDecode s := rfl
@[simp] theorem exec_splNms (s : State) : exec .splNms s = execSplNms s := rfl
@[simp] theorem exec_splNop (s : State) : exec .splNop s = execSplNop s := rfl
@[simp] theorem exec_splEnd (s : State) : exec .splEnd s = execSplEnd s := rfl
@[simp] theorem exec_csiFrameStart (rx : Fin 12) (vc : BitVec 4) (num : BitVec 16) (ecc : Fin 3) (s : State) : exec (.csiFrameStart rx vc num ecc) s = execCsiFrameStart rx vc num ecc s := rfl
@[simp] theorem exec_csiLongPacket (rx : Fin 12) (vc : BitVec 4) (dt : BitVec 6) (ecc : Fin 3) (crcOk : Bool) (fits : Bool) (payload : List Byte) (s : State) : exec (.csiLongPacket rx vc dt ecc crcOk fits payload) s = execCsiLongPacket rx vc dt ecc crcOk fits payload s := rfl
@[simp] theorem exec_csiFrameEnd (rx : Fin 12) (vc : BitVec 4) (ecc : Fin 3) (s : State) : exec (.csiFrameEnd rx vc ecc) s = execCsiFrameEnd rx vc ecc s := rfl
@[simp] theorem exec_frameLate (stream : Fin 16) (s : State) : exec (.frameLate stream) s = execFrameLate stream s := rfl
@[simp] theorem exec_hostSampleAdmission (stream : Fin 16) (s : State) : exec (.hostSampleAdmission stream) s = execHostSampleAdmission stream s := rfl
@[simp] theorem exec_sampleComplete (stream : Fin 16) (k : Nat) (s : State) : exec (.sampleComplete stream k) s = execSampleComplete stream k s := rfl
@[simp] theorem exec_testPatternComplete (stream : Fin 16) (s : State) : exec (.testPatternComplete stream) s = execTestPatternComplete stream s := rfl
@[simp] theorem exec_packTimeout (stream : Fin 16) (s : State) : exec (.packTimeout stream) s = execPackTimeout stream s := rfl
@[simp] theorem exec_streamEnable (x : StreamSet) (s : State) : exec (.streamEnable x) s = execStreamEnable x s := rfl
@[simp] theorem exec_streamDescriptorWrite (oid : BitVec 10) (ctx : BitVec 6) (off : BitVec 12) (data : List Byte) (s : State) : exec (.streamDescriptorWrite oid ctx off data) s = execStreamDescriptorWrite oid ctx off data s := rfl
@[simp] theorem exec_contextEnable (oid : BitVec 10) (ctx : BitVec 6) (n : Fin 64) (data : BitVec 32) (s : State) : exec (.contextEnable oid ctx n data) s = execContextEnable oid ctx n data s := rfl
@[simp] theorem exec_teardown (oid : BitVec 10) (ctx : BitVec 6) (n : Fin 64) (s : State) : exec (.teardown oid ctx n) s = execTeardown oid ctx n s := rfl
@[simp] theorem exec_contextAck (oid : BitVec 10) (ctx : BitVec 6) (n : Fin 64) (s : State) : exec (.contextAck oid ctx n) s = execContextAck oid ctx n s := rfl
@[simp] theorem exec_vtreset (oid : BitVec 10) (ctx : BitVec 6) (n : Fin 64) (s : State) : exec (.vtreset oid ctx n) s = execVtreset oid ctx n s := rfl
@[simp] theorem exec_schedulerEnable (oid : BitVec 10) (ctx : BitVec 6) (data : BitVec 32) (s : State) : exec (.schedulerEnable oid ctx data) s = execSchedulerEnable oid ctx data s := rfl
@[simp] theorem exec_jobDescriptorCheck (ctx : BitVec 6) (s : State) : exec (.jobDescriptorCheck ctx) s = execJobDescriptorCheck ctx s := rfl
@[simp] theorem exec_jobDispatch (sapling : Bool) (s : State) : exec (.jobDispatch sapling) s = execJobDispatch sapling s := rfl
@[simp] theorem exec_jobStart (unit : Fin 7) (s : State) : exec (.jobStart unit) s = execJobStart unit s := rfl
@[simp] theorem exec_jobSeal (unit : Fin 7) (s : State) : exec (.jobSeal unit) s = execJobSeal unit s := rfl
@[simp] theorem exec_sealwaitExpiry (unit : Fin 7) (s : State) : exec (.sealwaitExpiry unit) s = execSealwaitExpiry unit s := rfl
@[simp] theorem exec_switchPoint (ctx : BitVec 6) (s : State) : exec (.switchPoint ctx) s = execSwitchPoint ctx s := rfl
@[simp] theorem exec_deadlineReached (ctx : BitVec 6) (s : State) : exec (.deadlineReached ctx) s = execDeadlineReached ctx s := rfl
@[simp] theorem exec_stopLimitExpiry (unit : Fin 7) (s : State) : exec (.stopLimitExpiry unit) s = execStopLimitExpiry unit s := rfl
@[simp] theorem exec_teardownComplete (ctx : BitVec 6) (s : State) : exec (.teardownComplete ctx) s = execTeardownComplete ctx s := rfl
@[simp] theorem exec_unitRetire (oid : BitVec 10) (ctx : BitVec 6) (n : Fin 7) (s : State) : exec (.unitRetire oid ctx n) s = execRetire oid ctx n s := rfl
@[simp] theorem exec_unitReadmit (oid : BitVec 10) (ctx : BitVec 6) (n : Fin 7) (s : State) : exec (.unitReadmit oid ctx n) s = execReadmit oid ctx n s := rfl
@[simp] theorem exec_selftestComplete (unit : Fin 7) (fails : List RowFail) (ok : Bool) (s : State) : exec (.selftestComplete unit fails ok) s = execSelftestComplete unit fails ok s := rfl
@[simp] theorem exec_quarantineComplete (unit : Fin 7) (ok : Bool) (s : State) : exec (.quarantineComplete unit ok) s = execQuarantineComplete unit ok s := rfl
@[simp] theorem exec_unitAdmit (oid : BitVec 10) (ctx : BitVec 6) (n : Fin 7) (s : State) : exec (.unitAdmit oid ctx n) s = execAdmit oid ctx n s := rfl
@[simp] theorem exec_ownershipChange (oid : BitVec 10) (ctx : BitVec 6) (data : BitVec 32) (s : State) : exec (.ownershipChange oid ctx data) s = execOwnershipChange oid ctx data s := rfl
@[simp] theorem exec_ownZeroingComplete (s : State) : exec .ownZeroingComplete s = execOwnZeroingComplete s := rfl
@[simp] theorem exec_dramRefresh (stack : Fin 4) (cycles : BitVec 32) (s : State) : exec (.dramRefresh stack cycles) s = execDramRefresh stack cycles s := rfl
@[simp] theorem exec_stackTemperatureCrossing (stack : Fin 4) (temp : BitVec 8) (s : State) : exec (.stackTemperatureCrossing stack temp) s = execStackTemperatureCrossing stack temp s := rfl
@[simp] theorem exec_patrolScrub (granule : BitVec 29) (link : LinkErr) (s : State) : exec (.patrolScrub granule link) s = execPatrolScrub granule link s := rfl
@[simp] theorem exec_backgroundRowTest (fails : List Nat) (s : State) : exec (.backgroundRowTest fails) s = execBackgroundRowTest fails s := rfl
@[simp] theorem exec_softRepairComplete (s : State) : exec .softRepairComplete s = execSoftRepairComplete s := rfl
@[simp] theorem exec_memoryTestRequest (s : State) : exec .memoryTestRequest s = execMemoryTestRequest s := rfl
@[simp] theorem exec_memoryTestComplete (fails : List RowFail) (s : State) : exec (.memoryTestComplete fails) s = execMemoryTestComplete fails s := rfl
@[simp] theorem exec_bulkClear (s : State) : exec .bulkClear s = execBulkClear s := rfl
@[simp] theorem exec_bulkClearComplete (s : State) : exec .bulkClearComplete s = execBulkClearComplete s := rfl
@[simp] theorem exec_gateSubmission (ch : Fin 4) (s : State) : exec (.gateSubmission ch) s = execGateSubmission ch s := rfl
@[simp] theorem exec_gateCheck (ch : Fin 4) (s : State) : exec (.gateCheck ch) s = execGateCheck ch s := rfl
@[simp] theorem exec_gateCommit (ch : Fin 4) (us : BitVec 32) (s : State) : exec (.gateCommit ch us) s = execGateCommit ch us s := rfl
@[simp] theorem exec_gateChannelEnable (oid : BitVec 10) (ctx : BitVec 6) (n : Fin 4) (data : BitVec 32) (s : State) : exec (.gateChannelEnable oid ctx n data) s = execGateChannelEnable oid ctx n data s := rfl
@[simp] theorem exec_hwdKick (key : BitVec 16) (ns : BitVec 32) (s : State) : exec (.hwdKick key ns) s = execKick key ns s := rfl
@[simp] theorem exec_kickTimeout (s : State) : exec .kickTimeout s = execKickTimeout s := rfl
@[simp] theorem exec_horizonExpiry (s : State) : exec .horizonExpiry s = execHorizonExpiry s := rfl
@[simp] theorem exec_heartbeatTimeout (s : State) : exec .heartbeatTimeout s = execHeartbeatTimeout s := rfl
@[simp] theorem exec_safeEnter (oid : BitVec 10) (ctx : BitVec 6) (s : State) : exec (.safeEnter oid ctx) s = execEnter oid ctx s := rfl
@[simp] theorem exec_safeArm (oid : BitVec 10) (ctx : BitVec 6) (s : State) : exec (.safeArm oid ctx) s = execArm oid ctx s := rfl
@[simp] theorem exec_holdExpiry (s : State) : exec .holdExpiry s = execHoldExpiry s := rfl
@[simp] theorem exec_stopmaxExpiry (s : State) : exec .stopmaxExpiry s = execStopmaxExpiry s := rfl
@[simp] theorem exec_crownRestartComplete (us : BitVec 32) (s : State) : exec (.crownRestartComplete us) s = execCrownRestartComplete us s := rfl
@[simp] theorem exec_crownRestartTimeout (us : BitVec 32) (s : State) : exec (.crownRestartTimeout us) s = execCrownRestartTimeout us s := rfl
@[simp] theorem exec_selfTestTick (ok : Bool) (expected : BitVec 32) (obtained : BitVec 32) (s : State) : exec (.selfTestTick ok expected obtained) s = execSelfTestTick ok expected obtained s := rfl
@[simp] theorem exec_signatureCheck (s : State) : exec (.signatureCheck r0 r1) s = execSignatureCheck r0 r1 s := rfl
@[simp] theorem exec_hwdPairTransaction (port : BitVec 8) (differ : Bool) (s : State) : exec (.hwdPairTransaction port differ) s = execHwdPairTransaction port differ s := rfl
@[simp] theorem exec_barkRuleWrite (oid : BitVec 10) (ctx : BitVec 6) (n : Fin 512) (data : BitVec 32) (s : State) : exec (.barkRuleWrite oid ctx n data) s = execBarkRuleWrite oid ctx n data s := rfl
@[simp] theorem exec_jointCycleStart (s : State) : exec .jointCycleStart s = execJointCycleStart s := rfl
@[simp] theorem exec_sampleWindowClose (port : Fin 16) (s : State) : exec (.sampleWindowClose port) s = execSampleWindowClose port s := rfl
@[simp] theorem exec_axisLawCompute (port : Fin 16) (axes : BitVec 128) (s : State) : exec (.axisLawCompute port axes) s = execAxisLawCompute port axes s := rfl
@[simp] theorem exec_commandRelease (port : Fin 16) (s : State) : exec (.commandRelease port) s = execCommandRelease port s := rfl
@[simp] theorem exec_cmbCommit (oid : BitVec 10) (ctx : BitVec 6) (data : BitVec 32) (s : State) : exec (.cmbCommit oid ctx data) s = execCmbCommit oid ctx data s := rfl
@[simp] theorem exec_cmbBufferHeaderWrite (buf : Fin 8) (off : BitVec 6) (data : List Byte) (s : State) : exec (.cmbBufferHeaderWrite buf off data) s = execCmbBufferHeaderWrite buf off data s := rfl
@[simp] theorem exec_fallbackLatch (s : State) : exec .fallbackLatch s = execFallbackLatch s := rfl
@[simp] theorem exec_stopLatch (s : State) : exec .stopLatch s = execStopLatch s := rfl
@[simp] theorem exec_stoLatch (s : State) : exec .stoLatch s = execStoLatch s := rfl
@[simp] theorem exec_axisClear (oid : BitVec 10) (ctx : BitVec 6) (n : Fin 128) (s : State) : exec (.axisClear oid ctx n) s = execClear oid ctx n s := rfl
@[simp] theorem exec_rlkSample (port : Fin 16) (frame : RlkFrame) (s : State) : exec (.rlkSample port frame) s = execSample port frame s := rfl
@[simp] theorem exec_rlkStatus (port : Fin 16) (frame : RlkFrame) (s : State) : exec (.rlkStatus port frame) s = execStatus port frame s := rfl
@[simp] theorem exec_rlkBreak (port : Fin 16) (hop : BitVec 8) (reason : BitVec 8) (s : State) : exec (.rlkBreak port hop reason) s = execBreak port hop reason s := rfl
@[simp] theorem exec_rlkRestore (port : Fin 16) (hop : BitVec 8) (stations : List RlkStation) (s : State) : exec (.rlkRestore port hop stations) s = execRestore port hop stations s := rfl
@[simp] theorem exec_portEnable (oid : BitVec 10) (ctx : BitVec 6) (n : Fin 16) (data : BitVec 32) (s : State) : exec (.portEnable oid ctx n data) s = execPortEnable oid ctx n data s := rfl
@[simp] theorem exec_enumeration (port : Fin 16) (stations : List RlkStation) (s : State) : exec (.enumeration port stations) s = execEnumeration port stations s := rfl
@[simp] theorem exec_enumRetry (port : Fin 16) (stations : List RlkStation) (s : State) : exec (.enumRetry port stations) s = execEnumRetry port stations s := rfl
@[simp] theorem exec_linkLockLost (port : Fin 16) (lost : Bool) (errors : Bool) (s : State) : exec (.linkLockLost port lost errors) s = execLinkLockLost port lost errors s := rfl
@[simp] theorem exec_managementExchange (oid : BitVec 10) (ctx : BitVec 6) (n : Fin 16) (s : State) : exec (.managementExchange oid ctx n) s = execManagementExchange oid ctx n s := rfl
@[simp] theorem exec_stoRepeat (port : Fin 16) (s : State) : exec (.stoRepeat port) s = execStoRepeat port s := rfl
@[simp] theorem exec_txRequest (oid : BitVec 10) (ctx : BitVec 6) (n : Fin 8) (bufs : BitVec 3) (s : State) : exec (.txRequest oid ctx n bufs) s = execTxRequest oid ctx n bufs s := rfl
@[simp] theorem exec_cfdAbort (oid : BitVec 10) (ctx : BitVec 6) (n : Fin 8) (bufs : BitVec 3) (s : State) : exec (.cfdAbort oid ctx n bufs) s = execAbort oid ctx n bufs s := rfl
@[simp] theorem exec_cfdSleep (oid : BitVec 10) (ctx : BitVec 6) (n : Fin 8) (s : State) : exec (.cfdSleep oid ctx n) s = execSleep oid ctx n s := rfl
@[simp] theorem exec_cfdWake (oid : BitVec 10) (ctx : BitVec 6) (n : Fin 8) (s : State) : exec (.cfdWake oid ctx n) s = execWake oid ctx n s := rfl
@[simp] theorem exec_cfdRecover (oid : BitVec 10) (ctx : BitVec 6) (n : Fin 8) (s : State) : exec (.cfdRecover oid ctx n) s = execRecover oid ctx n s := rfl
@[simp] theorem exec_ecsetLoad (oid : BitVec 10) (ctx : BitVec 6) (n : Fin 8) (data : BitVec 32) (s : State) : exec (.ecsetLoad oid ctx n data) s = execEcsetLoad oid ctx n data s := rfl
@[simp] theorem exec_txArbitrationStart (ctrl : Fin 8) (s : State) : exec (.txArbitrationStart ctrl) s = execTxArbitrationStart ctrl s := rfl
@[simp] theorem exec_txAttemptEnd (s : State) : exec (.txAttemptEnd ctrl outcome ago tdcv) s = execTxAttemptEnd ctrl outcome ago tdcv s := rfl
@[simp] theorem exec_rxFrameValid (ctrl : Fin 8) (frame : CanFrame) (ago : BitVec 32) (s : State) : exec (.rxFrameValid ctrl frame ago) s = execRxFrameValid ctrl frame ago s := rfl
@[simp] theorem exec_integrationComplete (ctrl : Fin 8) (s : State) : exec (.integrationComplete ctrl) s = execIntegrationComplete ctrl s := rfl
@[simp] theorem exec_recoveryComplete (ctrl : Fin 8) (us : BitVec 32) (s : State) : exec (.recoveryComplete ctrl us) s = execRecoveryComplete ctrl us s := rfl
@[simp] theorem exec_protocolException (ctrl : Fin 8) (s : State) : exec (.protocolException ctrl) s = execProtocolException ctrl s := rfl
@[simp] theorem exec_sleepEntry (ctrl : Fin 8) (s : State) : exec (.sleepEntry ctrl) s = execSleepEntry ctrl s := rfl
@[simp] theorem exec_wakeUpFrame (ctrl : Fin 8) (frame : Option CanFrame) (err : Bool) (s : State) : exec (.wakeUpFrame ctrl frame err) s = execWakeUpFrame ctrl frame err s := rfl
@[simp] theorem exec_ethRxFrame (port : Fin 2) (frame : List Byte) (fcsOk : Bool) (back : Nat) (cor : BitVec 16) (unc : BitVec 16) (s : State) : exec (.ethRxFrame port frame fcsOk back cor unc) s = execEthRxFrame port frame fcsOk back cor unc s := rfl
@[simp] theorem exec_ethTxFrame (port : Fin 2) (lead : Nat) (s : State) : exec (.ethTxFrame port lead) s = execEthTxFrame port lead s := rfl
@[simp] theorem exec_ethLinkUp (port : Fin 2) (s : State) : exec (.ethLinkUp port) s = execEthLinkUp port s := rfl
@[simp] theorem exec_ethLinkDown (port : Fin 2) (fault : BitVec 3) (s : State) : exec (.ethLinkDown port fault) s = execEthLinkDown port fault s := rfl
@[simp] theorem exec_timeAdjust (oid : BitVec 10) (ctx : BitVec 6) (data : BitVec 32) (s : State) : exec (.timeAdjust oid ctx data) s = execTimeAdjust oid ctx data s := rfl
@[simp] theorem exec_timeSet (oid : BitVec 10) (ctx : BitVec 6) (data : BitVec 32) (s : State) : exec (.timeSet oid ctx data) s = execTimeSet oid ctx data s := rfl
@[simp] theorem exec_incrementCommit (oid : BitVec 10) (ctx : BitVec 6) (data : BitVec 32) (s : State) : exec (.incrementCommit oid ctx data) s = execIncrementCommit oid ctx data s := rfl
@[simp] theorem exec_slewComplete (s : State) : exec .slewComplete s = execSlewComplete s := rfl
@[simp] theorem exec_referenceFailure (s : State) : exec .referenceFailure s = execReferenceFailure s := rfl
@[simp] theorem exec_referenceLock (s : State) : exec .referenceLock s = execReferenceLock s := rfl
@[simp] theorem exec_syncHoldExpiry (s : State) : exec .syncHoldExpiry s = execSyncHoldExpiry s := rfl
@[simp] theorem exec_pulseEnable (oid : BitVec 10) (ctx : BitVec 6) (n : Fin 8) (data : BitVec 32) (s : State) : exec (.pulseEnable oid ctx n data) s = execPulseEnable oid ctx n data s := rfl
@[simp] theorem exec_pulseEdge (po : Fin 8) (s : State) : exec (.pulseEdge po) s = execPulseEdge po s := rfl
@[simp] theorem exec_captureEdge (input : Fin 8) (rise : Bool) (sub : Fin 16) (s : State) : exec (.captureEdge input rise sub) s = execCaptureEdge input rise sub s := rfl
@[simp] theorem exec_txqPop (oid : BitVec 10) (ctx : BitVec 6) (n : Fin 2) (s : State) : exec (.txqPop oid ctx n) s = execTxqPop oid ctx n s := rfl
@[simp] theorem exec_capturePop (oid : BitVec 10) (ctx : BitVec 6) (n : Fin 8) (s : State) : exec (.capturePop oid ctx n) s = execCapturePop oid ctx n s := rfl
@[simp] theorem exec_grvWrite (ch : BitVec 6) (s : State) : exec (.grvWrite ch) s = execGrvWrite ch s := rfl
@[simp] theorem exec_grvSignal (ch : BitVec 6) (s : State) : exec (.grvSignal ch) s = execGrvSignal ch s := rfl
@[simp] theorem exec_writeDatagram (dg : List Byte) (s : State) : exec (.writeDatagram dg) s = execWriteDatagram dg s := rfl
@[simp] theorem exec_signalDatagram (dg : List Byte) (s : State) : exec (.signalDatagram dg) s = execSignalDatagram dg s := rfl
@[simp] theorem exec_grvAck (dg : List Byte) (s : State) : exec (.grvAck dg) s = execGrvAck dg s := rfl
@[simp] theorem exec_grvNack (dg : List Byte) (s : State) : exec (.grvNack dg) s = execGrvNack dg s := rfl
@[simp] theorem exec_ackTimer (dev : BitVec 14) (ch : BitVec 6) (s : State) : exec (.ackTimer dev ch) s = execAckTimer dev ch s := rfl
@[simp] theorem exec_retransmitTimeout (dev : BitVec 14) (ch : BitVec 6) (s : State) : exec (.retransmitTimeout dev ch) s = execRetransmitTimeout dev ch s := rfl
@[simp] theorem exec_barrierArrival (b : BitVec 4) (s : State) : exec (.barrierArrival b) s = execBarrierArrival b s := rfl
@[simp] theorem exec_barArrive (dg : List Byte) (s : State) : exec (.barArrive dg) s = execBarArrive dg s := rfl
@[simp] theorem exec_barRelease (dg : List Byte) (s : State) : exec (.barRelease dg) s = execBarRelease dg s := rfl
@[simp] theorem exec_barrierRelease (b : BitVec 4) (s : State) : exec (.barrierRelease b) s = execBarrierRelease b s := rfl
@[simp] theorem exec_barrierTimeout (b : BitVec 4) (s : State) : exec (.barrierTimeout b) s = execBarrierTimeout b s := rfl
@[simp] theorem exec_bghSplit (oid : BitVec 10) (ctx : BitVec 6) (n : Fin 4) (s : State) : exec (.bghSplit oid ctx n) s = execSplit oid ctx n s := rfl
@[simp] theorem exec_splitComplete (pair : Fin 4) (lines : BitVec 32) (ns : BitVec 32) (s : State) : exec (.splitComplete pair lines ns) s = execSplitComplete pair lines ns s := rfl
@[simp] theorem exec_bghPark (oid : BitVec 10) (ctx : BitVec 6) (n : Fin 4) (s : State) : exec (.bghPark oid ctx n) s = execPark oid ctx n s := rfl
@[simp] theorem exec_bghUnpark (oid : BitVec 10) (ctx : BitVec 6) (n : Fin 4) (s : State) : exec (.bghUnpark oid ctx n) s = execUnpark oid ctx n s := rfl
@[simp] theorem exec_bghJoin (oid : BitVec 10) (ctx : BitVec 6) (n : Fin 4) (s : State) : exec (.bghJoin oid ctx n) s = execJoin oid ctx n s := rfl
@[simp] theorem exec_joinComplete (pair : Fin 4) (ok : Bool) (ns : BitVec 32) (s : State) : exec (.joinComplete pair ok ns) s = execJoinComplete pair ok ns s := rfl
@[simp] theorem exec_pairReadmit (oid : BitVec 10) (ctx : BitVec 6) (n : Fin 4) (s : State) : exec (.pairReadmit oid ctx n) s = execPairReadmit oid ctx n s := rfl
@[simp] theorem exec_pairSelftestComplete (pair : Fin 4) (fails : List RowFail) (ok : Bool) (s : State) : exec (.pairSelftestComplete pair fails ok) s = execPairSelftestComplete pair fails ok s := rfl
@[simp] theorem exec_pairAdmit (oid : BitVec 10) (ctx : BitVec 6) (n : Fin 4) (s : State) : exec (.pairAdmit oid ctx n) s = execPairAdmit oid ctx n s := rfl
@[simp] theorem exec_boughPairTransaction (pair : Fin 4) (tx : BghTx) (s : State) : exec (.boughPairTransaction pair tx) s = execBoughPairTransaction pair tx s := rfl
@[simp] theorem exec_bghAgreeFallback (pair : Fin 4) (s : State) : exec (.bghAgreeFallback pair) s = execBghAgreeFallback pair s := rfl
@[simp] theorem exec_pairSignatureCheck (s : State) : exec (.pairSignatureCheck pair c0 c1) s = execPairSignatureCheck pair c0 c1 s := rfl
@[simp] theorem exec_ipsetWrite (oid : BitVec 10) (ctx : BitVec 6) (n : Fin 8) (data : BitVec 32) (s : State) : exec (.ipsetWrite oid ctx n data) s = execIpsetWrite oid ctx n data s := rfl
@[simp] theorem exec_mtimecmpMatch (core : Fin 8) (s : State) : exec (.mtimecmpMatch core) s = execMtimecmpMatch core s := rfl
@[simp] theorem exec_lifecycleCommand (oid : BitVec 10) (ctx : BitVec 6) (data : BitVec 32) (bad : BitVec 3) (s : State) : exec (.lifecycleCommand oid ctx data bad) s = execLifecycleCommand oid ctx data bad s := rfl
@[simp] theorem exec_fuseProgram (oid : BitVec 10) (ctx : BitVec 6) (s : State) : exec (.fuseProgram oid ctx) s = execFuseProgram oid ctx s := rfl
@[simp] theorem exec_pithWipe (oid : BitVec 10) (ctx : BitVec 6) (s : State) : exec (.pithWipe oid ctx) s = execWipe oid ctx s := rfl
@[simp] theorem exec_wipeComplete (s : State) : exec .wipeComplete s = execWipeComplete s := rfl
@[simp] theorem exec_rollbackFw (oid : BitVec 10) (ctx : BitVec 6) (s : State) : exec (.rollbackFw oid ctx) s = execRollbackFw oid ctx s := rfl
@[simp] theorem exec_rollbackCfg (oid : BitVec 10) (ctx : BitVec 6) (s : State) : exec (.rollbackCfg oid ctx) s = execRollbackCfg oid ctx s := rfl
@[simp] theorem exec_tamperTrip (sensors : BitVec 5) (s : State) : exec (.tamperTrip sensors) s = execTamperTrip sensors s := rfl
@[simp] theorem exec_powerOnBoot (b : BootIn) (s : State) : exec (.powerOnBoot b) s = execPowerOnBoot b s := rfl
@[simp] theorem exec_hostReady (us : BitVec 32) (s : State) : exec (.hostReady us) s = execHostReady us s := rfl
@[simp] theorem exec_brownOut (rail : Fin 8) (s : State) : exec (.brownOut rail) s = execBrownOut rail s := rfl
@[simp] theorem exec_resetNAssert (s : State) : exec .resetNAssert s = execResetNAssert s := rfl
@[simp] theorem exec_globalResetCommand (oid : BitVec 10) (ctx : BitVec 6) (data : BitVec 32) (s : State) : exec (.globalResetCommand oid ctx data) s = execGlobalResetCommand oid ctx data s := rfl
@[simp] theorem exec_clockLoss (clk : LostClock) (s : State) : exec (.clockLoss clk) s = execClockLoss clk s := rfl
@[simp] theorem exec_hostPortReset (s : State) : exec .hostPortReset s = execHostPortReset s := rfl
@[simp] theorem exec_powerPathSwitch (main : BitVec 13) (bat : BitVec 13) (s : State) : exec (.powerPathSwitch main bat) s = execPowerPathSwitch main bat s := rfl
@[simp] theorem exec_retentionLoss (mv : BitVec 13) (s : State) : exec (.retentionLoss mv) s = execRetentionLoss mv s := rfl
@[simp] theorem exec_vbatLowDetect (mv : BitVec 12) (s : State) : exec (.vbatLowDetect mv) s = execVbatLowDetect mv s := rfl
@[simp] theorem exec_capDecision (pw : BitVec 16) (slack : Bool) (s : State) : exec (.capDecision pw slack) s = execCapDecision pw slack s := rfl
@[simp] theorem exec_thermalSample (tj : BitVec 8) (thbm : BitVec 8) (s : State) : exec (.thermalSample tj thbm) s = execThermalSample tj thbm s := rfl
@[simp] theorem exec_voltageStep (dom : Fin 25) (slack : BitVec 16) (s : State) : exec (.voltageStep dom slack) s = execVoltageStep dom slack s := rfl
@[simp] theorem exec_serdesAdaptation (kind : Fin 3) (lane : BitVec 6) (ok : Bool) (s : State) : exec (.serdesAdaptation kind lane ok) s = execSerdesAdaptation kind lane ok s := rfl
@[simp] theorem exec_eventRecordWrite (s : State) : exec .eventRecordWrite s = execEventRecordWrite s := rfl
@[simp] theorem exec_coalesceExpiry (vec : BitVec 6) (s : State) : exec (.coalesceExpiry vec) s = execCoalesceExpiry vec s := rfl
@[simp] theorem exec_dumpCommand (oid : BitVec 10) (ctx : BitVec 6) (s : State) : exec (.dumpCommand oid ctx) s = execDumpCommand oid ctx s := rfl
@[simp] theorem exec_dumpStart (fw : Bool) (banks : BitVec 7) (secs : BitVec 6) (s : State) : exec (.dumpStart fw banks secs) s = execDump fw banks secs s := rfl
@[simp] theorem exec_dumpComplete (ns : BitVec 32) (s : State) : exec (.dumpComplete ns) s = execDumpComplete ns s := rfl
@[simp] theorem exec_globalResetRelease (b : BootIn) (s : State) : exec (.globalResetRelease b) s = execGlobalResetRelease b s := rfl
@[simp] theorem exec_rxFrameError (ctrl : Fin 8) (err : CanErr) (s : State) : exec (.rxFrameError ctrl err) s = execRxFrameError ctrl err s := rfl
@[simp] theorem exec_fuseProgramComplete (a : BitVec 32) (b : BitVec 32) (c : BitVec 32) (s : State) : exec (.fuseProgramComplete a b c) s = execFuseProgramComplete a b c s := rfl
@[simp] theorem exec_hostLinkL0 (s : State) : exec .hostLinkL0 s = execHostLinkL0 s := rfl

end Sys2Proof.Machine
end

