-- ==== Sys2Proof/Laws/Memory.lean ====
section
/-! SUPPORT. Lemmas about reads and writes of memory by a unit: what they give when no word of the access fails its check bits. -/

namespace Sys2Proof.Machine

@[simp] theorem core_wrBytes (s : State) (a : Nat) (l : List Byte) (c : Nat) : (s.wrBytes a l).core c = s.core c := rfl
@[simp] theorem reg_wrBytes (s : State) (a : Nat) (l : List Byte) (o : Nat) : (s.wrBytes a l).reg o = s.reg o := rfl
@[simp] theorem core_wrN (s : State) (a n v c : Nat) : (s.wrN a n v).core c = s.core c := rfl

theorem leBytes_length (n v : Nat) : (leBytes n v).length = n := by
  induction n generalizing v with
  | zero => rfl
  | succ n ih => simp [leBytes, ih]

/-- An access whose address and size are legal passes the check of R112. -/
theorem lsCheck_aligned {a : Int} {n : Nat} (h : Aligned a n) : lsCheck a n = none := by
  unfold lsCheck; obtain ⟨h1, h2, h3⟩ := h
  have h4 : ¬ (a < 0 ∨ a + n > 0x1800000) := by omega
  simp only [Bool.or_eq_true, decide_eq_true_eq, h4, if_false, h3]; simp

/-- No byte of a scratchpad is a byte of DRAM. -/
theorem scratch_no_dram {c a : Nat} (x : Nat) : place (spBase c + a) ≠ some (.dram x) := by
  have : ¬ spBase c + a < 0x1800000000 := by unfold spBase; omega
  unfold place hiddenPlace
  simp only [this, if_false]
  repeat' split
  all_goals simp

/-- A read outside DRAM that meets no suspect word gives the bytes and changes nothing. -/
theorem memRead_sound {oid a n : Nat} {s : State} (h : suspectWords s a n = []) (hp : ∀ x, place a ≠ some (.dram x)) :
    memRead oid a n s = (some (s.bytes a n), s) := by
  unfold memRead; rw [h]; simp only [scanWords]
  cases hpl : place a with
  | none => simp
  | some p => cases p <;> simp_all

/-- The core's own read gives the bytes and changes nothing. -/
theorem ownRead_sound {c : Fin 6} {a n : Nat} {s : State} (h : Sound c a n s) :
    ownRead c a n s = (.ok (s.bytes (spBase c + a) n), s) := by
  unfold ownRead; rw [h.1]; simp only; rw [memRead_sound h.2 scratch_no_dram]

/-- A piece that holds no locked stream descriptor is stored as it is. -/
theorem pieceBytes_free {s : State} {a : Nat} {bs : List Byte} (h : ∀ i < bs.length, ∀ b, sdbLocked s (a + i) b = false) :
    pieceBytes s a 0 bs = (bs, false) := by
  unfold pieceBytes
  have e : (List.range bs.length).map (fun i => bs.getD i 0) = bs := by
    apply List.ext_getElem
    · simp
    · intro i h1 h2; simp [h2]
  simp only [show (0 : Nat) ≠ 1 by decide, show (0 : Nat) ≠ 2 by decide, if_false]
  rw [e]
  refine Prod.ext ?_ ?_
  · simp only
    conv_rhs => rw [← e]
    apply List.map_congr_left
    intro i hi
    rw [h i (by simpa using hi)]; simp
  · simp only [List.any_eq_false, List.mem_range]
    intro i hi
    rw [h i hi]; simp

/-- A byte below the stream descriptors is not locked. -/
theorem sdbLocked_below (s : State) (a : Nat) (b : Byte) (h : ¬ 0x2022200000 ≤ a) : sdbLocked s a b = false := by
  unfold sdbLocked
  have e : decide (0x2022200000 ≤ a) = false := decide_eq_false h
  generalize decide (0x2022200000 ≤ a) = q at e ⊢
  subst e
  rw [Bool.false_and, Bool.false_and, Bool.false_and]

/-- No byte of a scratchpad lies in a stream descriptor. -/
theorem scratch_unlocked (s : State) (c : Fin 6) (a : Nat) (h : a < 0x2000000) (b : Byte) : sdbLocked s (spBase c + a) b = false :=
  sdbLocked_below s _ b (by have := c.isLt; unfold spBase; omega)

/-- A write that meets no suspect word needs no correction. -/
theorem correctPartial_sound {oid a n : Nat} {s : State} (h : suspectWords s a n = []) : correctPartial oid a n s = s := by
  unfold correctPartial; rw [h]; rfl

/-- A write outside DRAM that needs no correction and meets no locked byte stores the bytes and changes nothing else. -/
theorem memWrite_plain {oid a : Nat} {bs : List Byte} {s : State} (hc : correctPartial oid a bs.length s = s)
    (hf : pieceBytes s a 0 bs = (bs, false)) (hd : ∀ x, place a ≠ some (.dram x)) : memWrite oid a bs s = s.wrBytes a bs := by
  unfold memWrite memStore
  simp only [hc, hf]
  rfl

/-- A piece of a scratchpad is stored as it is. -/
theorem pieceBytes_scratch {c : Fin 6} {a : Nat} {bs : List Byte} {s : State} (ha : a + bs.length ≤ 0x1800000) :
    pieceBytes s (spBase c + a) 0 bs = (bs, false) :=
  pieceBytes_free fun i hi b => by
    rw [Nat.add_assoc]
    exact scratch_unlocked s c (a + i) (by omega) b

/-- A core's own write that meets no suspect word stores the bytes and changes nothing else. -/
theorem memWrite_sound {oid : Nat} {c : Fin 6} {a : Nat} {bs : List Byte} {s : State}
    (h : suspectWords s (spBase c + a) bs.length = []) (ha : a + bs.length ≤ 0x1800000) :
    memWrite oid (spBase c + a) bs s = s.wrBytes (spBase c + a) bs :=
  memWrite_plain (correctPartial_sound h) (pieceBytes_scratch ha) scratch_no_dram

/-- A legal store of the core completes with the bytes written. -/
theorem storeOwn_sound {c : Fin 6} {addr : Int} {bs : List Byte} {s : State} (ha : Aligned addr bs.length)
    (hs : Sound c addr.toNat bs.length s) : storeOwn c addr bs s = .step (s.wrBytes (spBase c + addr.toNat) bs) := by
  unfold storeOwn ownWrite
  rw [lsCheck_aligned ha]; simp only; rw [hs.1]; simp only
  rw [memWrite_sound hs.2 (by have := ha.2.1; have := ha.1; omega)]

/-- A legal load of the core hands on the bytes. -/
theorem loadOwn_sound {c : Fin 6} {addr : Int} {n : Nat} {s : State} (ha : Aligned addr n) (hs : Sound c addr.toNat n s)
    (g : List Byte → State → Done) : loadOwn c addr n g s = g (s.bytes (spBase c + addr.toNat) n) s := by
  unfold loadOwn
  rw [lsCheck_aligned ha]; simp only; rw [ownRead_sound hs]

end Sys2Proof.Machine
end

