-- ==== Sys2Proof/Laws/Updates.lean ====
section
/-! SUPPORT. One lemma per field and update for the updates that stand outside Ops: none of them changes another part of the state. -/

namespace Sys2Proof.Machine

/-! ### The cores under the updates of Ops -/

@[simp] theorem State.setReg64_core (s : State) (o v : Nat) (j : Nat) : (s.setReg64 o v).core j = s.core j := rfl
@[simp] theorem State.incMod_core (s : State) (f : RegField) (n : Nat) (j : Nat) : (s.incMod f n).core j = s.core j := by unfold State.incMod; rfl
@[simp] theorem State.inc64_core (s : State) (o n : Nat) (j : Nat) : (s.inc64 o n).core j = s.core j := State.setReg64_core s o _ j
@[simp] theorem State.setMs_core (s : State) (x : MemSys) (j : Nat) : (s.setMs x).core j = s.core j := rfl
@[simp] theorem State.wrBytes_core (s : State) (a : Nat) (l : List Byte) (j : Nat) : (s.wrBytes a l).core j = s.core j := rfl
@[simp] theorem State.wrN_core (s : State) (a n v : Nat) (j : Nat) : (s.wrN a n v).core j = s.core j := rfl
@[simp] theorem State.zero_core (s : State) (a n : Nat) (j : Nat) : (s.zero a n).core j = s.core j := rfl
@[simp] theorem State.emit_core (s : State) (o : Out) (j : Nat) : (s.emit o).core j = s.core j := rfl
@[simp] theorem State.setEvq_core (s : State) (x : Evq) (j : Nat) : (s.setEvq x).core j = s.core j := rfl
@[simp] theorem State.setSched_core (s : State) (x : Sched) (j : Nat) : (s.setSched x).core j = s.core j := rfl

/-! ### The updates of the units -/

@[simp] theorem State.setCmb_mem (s : State) (x : Cmb) : (s.setCmb x).mem = s.mem := rfl
@[simp] theorem State.setCmb_memsys (s : State) (x : Cmb) : (s.setCmb x).memsys = s.memsys := rfl
@[simp] theorem State.setCmb_kvp (s : State) (x : Cmb) : (s.setCmb x).kvp = s.kvp := rfl
@[simp] theorem State.setCmb_spl (s : State) (x : Cmb) : (s.setCmb x).spl = s.spl := rfl
@[simp] theorem State.setCmb_sdb (s : State) (x : Cmb) : (s.setCmb x).sdb = s.sdb := rfl
@[simp] theorem State.setCmb_frameTab (s : State) (x : Cmb) : (s.setCmb x).frameTab = s.frameTab := rfl
@[simp] theorem State.setCmb_elapsed (s : State) (x : Cmb) : (s.setCmb x).elapsed = s.elapsed := rfl
@[simp] theorem State.setCmb_tim (s : State) (x : Cmb) : (s.setCmb x).tim = s.tim := rfl
@[simp] theorem State.setCmb_grove (s : State) (x : Cmb) : (s.setCmb x).grove = s.grove := rfl
@[simp] theorem State.setCmb_regs (s : State) (x : Cmb) : (s.setCmb x).regs = s.regs := rfl
@[simp] theorem State.setCmb_wos (s : State) (x : Cmb) : (s.setCmb x).wos = s.wos := rfl
@[simp] theorem State.setCmb_rdShadow (s : State) (x : Cmb) : (s.setCmb x).rdShadow = s.rdShadow := rfl
@[simp] theorem State.setCmb_wrStage (s : State) (x : Cmb) : (s.setCmb x).wrStage = s.wrStage := rfl
@[simp] theorem State.setCmb_resp (s : State) (x : Cmb) : (s.setCmb x).resp = s.resp := rfl
@[simp] theorem State.setCmb_out (s : State) (x : Cmb) : (s.setCmb x).out = s.out := rfl
@[simp] theorem State.setCmb_free (s : State) (x : Cmb) : (s.setCmb x).free = s.free := rfl
@[simp] theorem State.setCmb_evq (s : State) (x : Cmb) : (s.setCmb x).evq = s.evq := rfl
@[simp] theorem State.setCmb_crown (s : State) (x : Cmb) : (s.setCmb x).crown = s.crown := rfl
@[simp] theorem State.setCmb_owed (s : State) (x : Cmb) : (s.setCmb x).owed = s.owed := rfl
@[simp] theorem State.setCmb_sched (s : State) (x : Cmb) : (s.setCmb x).sched = s.sched := rfl
@[simp] theorem State.setCmb_hwd (s : State) (x : Cmb) : (s.setCmb x).hwd = s.hwd := rfl
@[simp] theorem State.setCmb_cmb (s : State) (x : Cmb) : (s.setCmb x).cmb = x := rfl
@[simp] theorem State.setCmb_rlk (s : State) (x : Cmb) : (s.setCmb x).rlk = s.rlk := rfl
@[simp] theorem State.setCmb_can (s : State) (x : Cmb) : (s.setCmb x).can = s.can := rfl
@[simp] theorem State.setCmb_bgh (s : State) (x : Cmb) : (s.setCmb x).bgh = s.bgh := rfl
@[simp] theorem State.setCmb_bghCore (s : State) (x : Cmb) : (s.setCmb x).bghCore = s.bghCore := rfl
@[simp] theorem State.setCmb_lcs (s : State) (x : Cmb) : (s.setCmb x).lcs = s.lcs := rfl
@[simp] theorem State.setCmb_sap (s : State) (x : Cmb) : (s.setCmb x).sap = s.sap := rfl
@[simp] theorem State.setCmb_pending (s : State) (x : Cmb) : (s.setCmb x).pending = s.pending := rfl
@[simp] theorem State.setCmb_reg (s : State) (x : Cmb) (r : Nat) : (s.setCmb x).reg r = s.reg r := rfl
@[simp] theorem State.setCmb_fld (s : State) (x : Cmb) (g : RegField) : (s.setCmb x).fld g = s.fld g := rfl
@[simp] theorem State.setCmb_flag (s : State) (x : Cmb) (g : RegField) : (s.setCmb x).flag g = s.flag g := rfl
@[simp] theorem State.setCmb_byte (s : State) (x : Cmb) (i : Nat) : (s.setCmb x).byte i = s.byte i := rfl
@[simp] theorem State.setCmb_bytes (s : State) (x : Cmb) (i len : Nat) : (s.setCmb x).bytes i len = s.bytes i len := rfl
@[simp] theorem State.setCmb_core (s : State) (x : Cmb) (j : Nat) : (s.setCmb x).core j = s.core j := rfl

@[simp] theorem State.setCore_mem (s : State) (c : Nat) (k : Crown) : (s.setCore c k).mem = s.mem := rfl
@[simp] theorem State.setCore_memsys (s : State) (c : Nat) (k : Crown) : (s.setCore c k).memsys = s.memsys := rfl
@[simp] theorem State.setCore_kvp (s : State) (c : Nat) (k : Crown) : (s.setCore c k).kvp = s.kvp := rfl
@[simp] theorem State.setCore_spl (s : State) (c : Nat) (k : Crown) : (s.setCore c k).spl = s.spl := rfl
@[simp] theorem State.setCore_sdb (s : State) (c : Nat) (k : Crown) : (s.setCore c k).sdb = s.sdb := rfl
@[simp] theorem State.setCore_frameTab (s : State) (c : Nat) (k : Crown) : (s.setCore c k).frameTab = s.frameTab := rfl
@[simp] theorem State.setCore_elapsed (s : State) (c : Nat) (k : Crown) : (s.setCore c k).elapsed = s.elapsed := rfl
@[simp] theorem State.setCore_tim (s : State) (c : Nat) (k : Crown) : (s.setCore c k).tim = s.tim := rfl
@[simp] theorem State.setCore_grove (s : State) (c : Nat) (k : Crown) : (s.setCore c k).grove = s.grove := rfl
@[simp] theorem State.setCore_regs (s : State) (c : Nat) (k : Crown) : (s.setCore c k).regs = s.regs := rfl
@[simp] theorem State.setCore_wos (s : State) (c : Nat) (k : Crown) : (s.setCore c k).wos = s.wos := rfl
@[simp] theorem State.setCore_rdShadow (s : State) (c : Nat) (k : Crown) : (s.setCore c k).rdShadow = s.rdShadow := rfl
@[simp] theorem State.setCore_wrStage (s : State) (c : Nat) (k : Crown) : (s.setCore c k).wrStage = s.wrStage := rfl
@[simp] theorem State.setCore_resp (s : State) (c : Nat) (k : Crown) : (s.setCore c k).resp = s.resp := rfl
@[simp] theorem State.setCore_out (s : State) (c : Nat) (k : Crown) : (s.setCore c k).out = s.out := rfl
@[simp] theorem State.setCore_free (s : State) (c : Nat) (k : Crown) : (s.setCore c k).free = s.free := rfl
@[simp] theorem State.setCore_evq (s : State) (c : Nat) (k : Crown) : (s.setCore c k).evq = s.evq := rfl
@[simp] theorem State.setCore_owed (s : State) (c : Nat) (k : Crown) : (s.setCore c k).owed = s.owed := rfl
@[simp] theorem State.setCore_sched (s : State) (c : Nat) (k : Crown) : (s.setCore c k).sched = s.sched := rfl
@[simp] theorem State.setCore_hwd (s : State) (c : Nat) (k : Crown) : (s.setCore c k).hwd = s.hwd := rfl
@[simp] theorem State.setCore_cmb (s : State) (c : Nat) (k : Crown) : (s.setCore c k).cmb = s.cmb := rfl
@[simp] theorem State.setCore_rlk (s : State) (c : Nat) (k : Crown) : (s.setCore c k).rlk = s.rlk := rfl
@[simp] theorem State.setCore_can (s : State) (c : Nat) (k : Crown) : (s.setCore c k).can = s.can := rfl
@[simp] theorem State.setCore_bgh (s : State) (c : Nat) (k : Crown) : (s.setCore c k).bgh = s.bgh := rfl
@[simp] theorem State.setCore_bghCore (s : State) (c : Nat) (k : Crown) : (s.setCore c k).bghCore = s.bghCore := rfl
@[simp] theorem State.setCore_lcs (s : State) (c : Nat) (k : Crown) : (s.setCore c k).lcs = s.lcs := rfl
@[simp] theorem State.setCore_sap (s : State) (c : Nat) (k : Crown) : (s.setCore c k).sap = s.sap := rfl
@[simp] theorem State.setCore_pending (s : State) (c : Nat) (k : Crown) : (s.setCore c k).pending = s.pending := rfl
@[simp] theorem State.setCore_flag (s : State) (c : Nat) (k : Crown) (g : RegField) : (s.setCore c k).flag g = s.flag g := rfl
@[simp] theorem State.setCore_byte (s : State) (c : Nat) (k : Crown) (i : Nat) : (s.setCore c k).byte i = s.byte i := rfl
@[simp] theorem State.setCore_bytes (s : State) (c : Nat) (k : Crown) (i len : Nat) : (s.setCore c k).bytes i len = s.bytes i len := rfl

@[simp] theorem State.setGrove_mem (s : State) (x : Grove) : (s.setGrove x).mem = s.mem := rfl
@[simp] theorem State.setGrove_memsys (s : State) (x : Grove) : (s.setGrove x).memsys = s.memsys := rfl
@[simp] theorem State.setGrove_kvp (s : State) (x : Grove) : (s.setGrove x).kvp = s.kvp := rfl
@[simp] theorem State.setGrove_spl (s : State) (x : Grove) : (s.setGrove x).spl = s.spl := rfl
@[simp] theorem State.setGrove_sdb (s : State) (x : Grove) : (s.setGrove x).sdb = s.sdb := rfl
@[simp] theorem State.setGrove_frameTab (s : State) (x : Grove) : (s.setGrove x).frameTab = s.frameTab := rfl
@[simp] theorem State.setGrove_elapsed (s : State) (x : Grove) : (s.setGrove x).elapsed = s.elapsed := rfl
@[simp] theorem State.setGrove_tim (s : State) (x : Grove) : (s.setGrove x).tim = s.tim := rfl
@[simp] theorem State.setGrove_grove (s : State) (x : Grove) : (s.setGrove x).grove = x := rfl
@[simp] theorem State.setGrove_regs (s : State) (x : Grove) : (s.setGrove x).regs = s.regs := rfl
@[simp] theorem State.setGrove_wos (s : State) (x : Grove) : (s.setGrove x).wos = s.wos := rfl
@[simp] theorem State.setGrove_rdShadow (s : State) (x : Grove) : (s.setGrove x).rdShadow = s.rdShadow := rfl
@[simp] theorem State.setGrove_wrStage (s : State) (x : Grove) : (s.setGrove x).wrStage = s.wrStage := rfl
@[simp] theorem State.setGrove_resp (s : State) (x : Grove) : (s.setGrove x).resp = s.resp := rfl
@[simp] theorem State.setGrove_out (s : State) (x : Grove) : (s.setGrove x).out = s.out := rfl
@[simp] theorem State.setGrove_free (s : State) (x : Grove) : (s.setGrove x).free = s.free := rfl
@[simp] theorem State.setGrove_evq (s : State) (x : Grove) : (s.setGrove x).evq = s.evq := rfl
@[simp] theorem State.setGrove_crown (s : State) (x : Grove) : (s.setGrove x).crown = s.crown := rfl
@[simp] theorem State.setGrove_owed (s : State) (x : Grove) : (s.setGrove x).owed = s.owed := rfl
@[simp] theorem State.setGrove_sched (s : State) (x : Grove) : (s.setGrove x).sched = s.sched := rfl
@[simp] theorem State.setGrove_hwd (s : State) (x : Grove) : (s.setGrove x).hwd = s.hwd := rfl
@[simp] theorem State.setGrove_cmb (s : State) (x : Grove) : (s.setGrove x).cmb = s.cmb := rfl
@[simp] theorem State.setGrove_rlk (s : State) (x : Grove) : (s.setGrove x).rlk = s.rlk := rfl
@[simp] theorem State.setGrove_can (s : State) (x : Grove) : (s.setGrove x).can = s.can := rfl
@[simp] theorem State.setGrove_bgh (s : State) (x : Grove) : (s.setGrove x).bgh = s.bgh := rfl
@[simp] theorem State.setGrove_bghCore (s : State) (x : Grove) : (s.setGrove x).bghCore = s.bghCore := rfl
@[simp] theorem State.setGrove_lcs (s : State) (x : Grove) : (s.setGrove x).lcs = s.lcs := rfl
@[simp] theorem State.setGrove_sap (s : State) (x : Grove) : (s.setGrove x).sap = s.sap := rfl
@[simp] theorem State.setGrove_pending (s : State) (x : Grove) : (s.setGrove x).pending = s.pending := rfl
@[simp] theorem State.setGrove_reg (s : State) (x : Grove) (r : Nat) : (s.setGrove x).reg r = s.reg r := rfl
@[simp] theorem State.setGrove_fld (s : State) (x : Grove) (g : RegField) : (s.setGrove x).fld g = s.fld g := rfl
@[simp] theorem State.setGrove_flag (s : State) (x : Grove) (g : RegField) : (s.setGrove x).flag g = s.flag g := rfl
@[simp] theorem State.setGrove_byte (s : State) (x : Grove) (i : Nat) : (s.setGrove x).byte i = s.byte i := rfl
@[simp] theorem State.setGrove_bytes (s : State) (x : Grove) (i len : Nat) : (s.setGrove x).bytes i len = s.bytes i len := rfl
@[simp] theorem State.setGrove_core (s : State) (x : Grove) (j : Nat) : (s.setGrove x).core j = s.core j := rfl

@[simp] theorem State.setHwd_mem (s : State) (x : Hwd) : (s.setHwd x).mem = s.mem := rfl
@[simp] theorem State.setHwd_memsys (s : State) (x : Hwd) : (s.setHwd x).memsys = s.memsys := rfl
@[simp] theorem State.setHwd_kvp (s : State) (x : Hwd) : (s.setHwd x).kvp = s.kvp := rfl
@[simp] theorem State.setHwd_spl (s : State) (x : Hwd) : (s.setHwd x).spl = s.spl := rfl
@[simp] theorem State.setHwd_sdb (s : State) (x : Hwd) : (s.setHwd x).sdb = s.sdb := rfl
@[simp] theorem State.setHwd_frameTab (s : State) (x : Hwd) : (s.setHwd x).frameTab = s.frameTab := rfl
@[simp] theorem State.setHwd_elapsed (s : State) (x : Hwd) : (s.setHwd x).elapsed = s.elapsed := rfl
@[simp] theorem State.setHwd_tim (s : State) (x : Hwd) : (s.setHwd x).tim = s.tim := rfl
@[simp] theorem State.setHwd_grove (s : State) (x : Hwd) : (s.setHwd x).grove = s.grove := rfl
@[simp] theorem State.setHwd_regs (s : State) (x : Hwd) : (s.setHwd x).regs = s.regs := rfl
@[simp] theorem State.setHwd_wos (s : State) (x : Hwd) : (s.setHwd x).wos = s.wos := rfl
@[simp] theorem State.setHwd_rdShadow (s : State) (x : Hwd) : (s.setHwd x).rdShadow = s.rdShadow := rfl
@[simp] theorem State.setHwd_wrStage (s : State) (x : Hwd) : (s.setHwd x).wrStage = s.wrStage := rfl
@[simp] theorem State.setHwd_resp (s : State) (x : Hwd) : (s.setHwd x).resp = s.resp := rfl
@[simp] theorem State.setHwd_out (s : State) (x : Hwd) : (s.setHwd x).out = s.out := rfl
@[simp] theorem State.setHwd_free (s : State) (x : Hwd) : (s.setHwd x).free = s.free := rfl
@[simp] theorem State.setHwd_evq (s : State) (x : Hwd) : (s.setHwd x).evq = s.evq := rfl
@[simp] theorem State.setHwd_crown (s : State) (x : Hwd) : (s.setHwd x).crown = s.crown := rfl
@[simp] theorem State.setHwd_owed (s : State) (x : Hwd) : (s.setHwd x).owed = s.owed := rfl
@[simp] theorem State.setHwd_sched (s : State) (x : Hwd) : (s.setHwd x).sched = s.sched := rfl
@[simp] theorem State.setHwd_hwd (s : State) (x : Hwd) : (s.setHwd x).hwd = x := rfl
@[simp] theorem State.setHwd_cmb (s : State) (x : Hwd) : (s.setHwd x).cmb = s.cmb := rfl
@[simp] theorem State.setHwd_rlk (s : State) (x : Hwd) : (s.setHwd x).rlk = s.rlk := rfl
@[simp] theorem State.setHwd_can (s : State) (x : Hwd) : (s.setHwd x).can = s.can := rfl
@[simp] theorem State.setHwd_bgh (s : State) (x : Hwd) : (s.setHwd x).bgh = s.bgh := rfl
@[simp] theorem State.setHwd_bghCore (s : State) (x : Hwd) : (s.setHwd x).bghCore = s.bghCore := rfl
@[simp] theorem State.setHwd_lcs (s : State) (x : Hwd) : (s.setHwd x).lcs = s.lcs := rfl
@[simp] theorem State.setHwd_sap (s : State) (x : Hwd) : (s.setHwd x).sap = s.sap := rfl
@[simp] theorem State.setHwd_pending (s : State) (x : Hwd) : (s.setHwd x).pending = s.pending := rfl
@[simp] theorem State.setHwd_reg (s : State) (x : Hwd) (r : Nat) : (s.setHwd x).reg r = s.reg r := rfl
@[simp] theorem State.setHwd_fld (s : State) (x : Hwd) (g : RegField) : (s.setHwd x).fld g = s.fld g := rfl
@[simp] theorem State.setHwd_flag (s : State) (x : Hwd) (g : RegField) : (s.setHwd x).flag g = s.flag g := rfl
@[simp] theorem State.setHwd_byte (s : State) (x : Hwd) (i : Nat) : (s.setHwd x).byte i = s.byte i := rfl
@[simp] theorem State.setHwd_bytes (s : State) (x : Hwd) (i len : Nat) : (s.setHwd x).bytes i len = s.bytes i len := rfl
@[simp] theorem State.setHwd_core (s : State) (x : Hwd) (j : Nat) : (s.setHwd x).core j = s.core j := rfl

@[simp] theorem State.setKvp_mem (s : State) (x : Kvp) : (s.setKvp x).mem = s.mem := rfl
@[simp] theorem State.setKvp_memsys (s : State) (x : Kvp) : (s.setKvp x).memsys = s.memsys := rfl
@[simp] theorem State.setKvp_kvp (s : State) (x : Kvp) : (s.setKvp x).kvp = x := rfl
@[simp] theorem State.setKvp_spl (s : State) (x : Kvp) : (s.setKvp x).spl = s.spl := rfl
@[simp] theorem State.setKvp_sdb (s : State) (x : Kvp) : (s.setKvp x).sdb = s.sdb := rfl
@[simp] theorem State.setKvp_frameTab (s : State) (x : Kvp) : (s.setKvp x).frameTab = s.frameTab := rfl
@[simp] theorem State.setKvp_elapsed (s : State) (x : Kvp) : (s.setKvp x).elapsed = s.elapsed := rfl
@[simp] theorem State.setKvp_tim (s : State) (x : Kvp) : (s.setKvp x).tim = s.tim := rfl
@[simp] theorem State.setKvp_grove (s : State) (x : Kvp) : (s.setKvp x).grove = s.grove := rfl
@[simp] theorem State.setKvp_regs (s : State) (x : Kvp) : (s.setKvp x).regs = s.regs := rfl
@[simp] theorem State.setKvp_wos (s : State) (x : Kvp) : (s.setKvp x).wos = s.wos := rfl
@[simp] theorem State.setKvp_rdShadow (s : State) (x : Kvp) : (s.setKvp x).rdShadow = s.rdShadow := rfl
@[simp] theorem State.setKvp_wrStage (s : State) (x : Kvp) : (s.setKvp x).wrStage = s.wrStage := rfl
@[simp] theorem State.setKvp_resp (s : State) (x : Kvp) : (s.setKvp x).resp = s.resp := rfl
@[simp] theorem State.setKvp_out (s : State) (x : Kvp) : (s.setKvp x).out = s.out := rfl
@[simp] theorem State.setKvp_free (s : State) (x : Kvp) : (s.setKvp x).free = s.free := rfl
@[simp] theorem State.setKvp_evq (s : State) (x : Kvp) : (s.setKvp x).evq = s.evq := rfl
@[simp] theorem State.setKvp_crown (s : State) (x : Kvp) : (s.setKvp x).crown = s.crown := rfl
@[simp] theorem State.setKvp_owed (s : State) (x : Kvp) : (s.setKvp x).owed = s.owed := rfl
@[simp] theorem State.setKvp_sched (s : State) (x : Kvp) : (s.setKvp x).sched = s.sched := rfl
@[simp] theorem State.setKvp_hwd (s : State) (x : Kvp) : (s.setKvp x).hwd = s.hwd := rfl
@[simp] theorem State.setKvp_cmb (s : State) (x : Kvp) : (s.setKvp x).cmb = s.cmb := rfl
@[simp] theorem State.setKvp_rlk (s : State) (x : Kvp) : (s.setKvp x).rlk = s.rlk := rfl
@[simp] theorem State.setKvp_can (s : State) (x : Kvp) : (s.setKvp x).can = s.can := rfl
@[simp] theorem State.setKvp_bgh (s : State) (x : Kvp) : (s.setKvp x).bgh = s.bgh := rfl
@[simp] theorem State.setKvp_bghCore (s : State) (x : Kvp) : (s.setKvp x).bghCore = s.bghCore := rfl
@[simp] theorem State.setKvp_lcs (s : State) (x : Kvp) : (s.setKvp x).lcs = s.lcs := rfl
@[simp] theorem State.setKvp_sap (s : State) (x : Kvp) : (s.setKvp x).sap = s.sap := rfl
@[simp] theorem State.setKvp_pending (s : State) (x : Kvp) : (s.setKvp x).pending = s.pending := rfl
@[simp] theorem State.setKvp_reg (s : State) (x : Kvp) (r : Nat) : (s.setKvp x).reg r = s.reg r := rfl
@[simp] theorem State.setKvp_fld (s : State) (x : Kvp) (g : RegField) : (s.setKvp x).fld g = s.fld g := rfl
@[simp] theorem State.setKvp_flag (s : State) (x : Kvp) (g : RegField) : (s.setKvp x).flag g = s.flag g := rfl
@[simp] theorem State.setKvp_byte (s : State) (x : Kvp) (i : Nat) : (s.setKvp x).byte i = s.byte i := rfl
@[simp] theorem State.setKvp_bytes (s : State) (x : Kvp) (i len : Nat) : (s.setKvp x).bytes i len = s.bytes i len := rfl
@[simp] theorem State.setKvp_core (s : State) (x : Kvp) (j : Nat) : (s.setKvp x).core j = s.core j := rfl

@[simp] theorem State.setLcs_mem (s : State) (x : Lcs) : (s.setLcs x).mem = s.mem := rfl
@[simp] theorem State.setLcs_memsys (s : State) (x : Lcs) : (s.setLcs x).memsys = s.memsys := rfl
@[simp] theorem State.setLcs_kvp (s : State) (x : Lcs) : (s.setLcs x).kvp = s.kvp := rfl
@[simp] theorem State.setLcs_spl (s : State) (x : Lcs) : (s.setLcs x).spl = s.spl := rfl
@[simp] theorem State.setLcs_sdb (s : State) (x : Lcs) : (s.setLcs x).sdb = s.sdb := rfl
@[simp] theorem State.setLcs_frameTab (s : State) (x : Lcs) : (s.setLcs x).frameTab = s.frameTab := rfl
@[simp] theorem State.setLcs_elapsed (s : State) (x : Lcs) : (s.setLcs x).elapsed = s.elapsed := rfl
@[simp] theorem State.setLcs_tim (s : State) (x : Lcs) : (s.setLcs x).tim = s.tim := rfl
@[simp] theorem State.setLcs_grove (s : State) (x : Lcs) : (s.setLcs x).grove = s.grove := rfl
@[simp] theorem State.setLcs_regs (s : State) (x : Lcs) : (s.setLcs x).regs = s.regs := rfl
@[simp] theorem State.setLcs_wos (s : State) (x : Lcs) : (s.setLcs x).wos = s.wos := rfl
@[simp] theorem State.setLcs_rdShadow (s : State) (x : Lcs) : (s.setLcs x).rdShadow = s.rdShadow := rfl
@[simp] theorem State.setLcs_wrStage (s : State) (x : Lcs) : (s.setLcs x).wrStage = s.wrStage := rfl
@[simp] theorem State.setLcs_resp (s : State) (x : Lcs) : (s.setLcs x).resp = s.resp := rfl
@[simp] theorem State.setLcs_out (s : State) (x : Lcs) : (s.setLcs x).out = s.out := rfl
@[simp] theorem State.setLcs_free (s : State) (x : Lcs) : (s.setLcs x).free = s.free := rfl
@[simp] theorem State.setLcs_evq (s : State) (x : Lcs) : (s.setLcs x).evq = s.evq := rfl
@[simp] theorem State.setLcs_crown (s : State) (x : Lcs) : (s.setLcs x).crown = s.crown := rfl
@[simp] theorem State.setLcs_owed (s : State) (x : Lcs) : (s.setLcs x).owed = s.owed := rfl
@[simp] theorem State.setLcs_sched (s : State) (x : Lcs) : (s.setLcs x).sched = s.sched := rfl
@[simp] theorem State.setLcs_hwd (s : State) (x : Lcs) : (s.setLcs x).hwd = s.hwd := rfl
@[simp] theorem State.setLcs_cmb (s : State) (x : Lcs) : (s.setLcs x).cmb = s.cmb := rfl
@[simp] theorem State.setLcs_rlk (s : State) (x : Lcs) : (s.setLcs x).rlk = s.rlk := rfl
@[simp] theorem State.setLcs_can (s : State) (x : Lcs) : (s.setLcs x).can = s.can := rfl
@[simp] theorem State.setLcs_bgh (s : State) (x : Lcs) : (s.setLcs x).bgh = s.bgh := rfl
@[simp] theorem State.setLcs_bghCore (s : State) (x : Lcs) : (s.setLcs x).bghCore = s.bghCore := rfl
@[simp] theorem State.setLcs_lcs (s : State) (x : Lcs) : (s.setLcs x).lcs = x := rfl
@[simp] theorem State.setLcs_sap (s : State) (x : Lcs) : (s.setLcs x).sap = s.sap := rfl
@[simp] theorem State.setLcs_pending (s : State) (x : Lcs) : (s.setLcs x).pending = s.pending := rfl
@[simp] theorem State.setLcs_reg (s : State) (x : Lcs) (r : Nat) : (s.setLcs x).reg r = s.reg r := rfl
@[simp] theorem State.setLcs_fld (s : State) (x : Lcs) (g : RegField) : (s.setLcs x).fld g = s.fld g := rfl
@[simp] theorem State.setLcs_flag (s : State) (x : Lcs) (g : RegField) : (s.setLcs x).flag g = s.flag g := rfl
@[simp] theorem State.setLcs_byte (s : State) (x : Lcs) (i : Nat) : (s.setLcs x).byte i = s.byte i := rfl
@[simp] theorem State.setLcs_bytes (s : State) (x : Lcs) (i len : Nat) : (s.setLcs x).bytes i len = s.bytes i len := rfl
@[simp] theorem State.setLcs_core (s : State) (x : Lcs) (j : Nat) : (s.setLcs x).core j = s.core j := rfl

@[simp] theorem State.setSap_mem (s : State) (x : Sap) : (s.setSap x).mem = s.mem := rfl
@[simp] theorem State.setSap_memsys (s : State) (x : Sap) : (s.setSap x).memsys = s.memsys := rfl
@[simp] theorem State.setSap_kvp (s : State) (x : Sap) : (s.setSap x).kvp = s.kvp := rfl
@[simp] theorem State.setSap_spl (s : State) (x : Sap) : (s.setSap x).spl = s.spl := rfl
@[simp] theorem State.setSap_sdb (s : State) (x : Sap) : (s.setSap x).sdb = s.sdb := rfl
@[simp] theorem State.setSap_frameTab (s : State) (x : Sap) : (s.setSap x).frameTab = s.frameTab := rfl
@[simp] theorem State.setSap_elapsed (s : State) (x : Sap) : (s.setSap x).elapsed = s.elapsed := rfl
@[simp] theorem State.setSap_tim (s : State) (x : Sap) : (s.setSap x).tim = s.tim := rfl
@[simp] theorem State.setSap_grove (s : State) (x : Sap) : (s.setSap x).grove = s.grove := rfl
@[simp] theorem State.setSap_regs (s : State) (x : Sap) : (s.setSap x).regs = s.regs := rfl
@[simp] theorem State.setSap_wos (s : State) (x : Sap) : (s.setSap x).wos = s.wos := rfl
@[simp] theorem State.setSap_rdShadow (s : State) (x : Sap) : (s.setSap x).rdShadow = s.rdShadow := rfl
@[simp] theorem State.setSap_wrStage (s : State) (x : Sap) : (s.setSap x).wrStage = s.wrStage := rfl
@[simp] theorem State.setSap_resp (s : State) (x : Sap) : (s.setSap x).resp = s.resp := rfl
@[simp] theorem State.setSap_out (s : State) (x : Sap) : (s.setSap x).out = s.out := rfl
@[simp] theorem State.setSap_free (s : State) (x : Sap) : (s.setSap x).free = s.free := rfl
@[simp] theorem State.setSap_evq (s : State) (x : Sap) : (s.setSap x).evq = s.evq := rfl
@[simp] theorem State.setSap_crown (s : State) (x : Sap) : (s.setSap x).crown = s.crown := rfl
@[simp] theorem State.setSap_owed (s : State) (x : Sap) : (s.setSap x).owed = s.owed := rfl
@[simp] theorem State.setSap_sched (s : State) (x : Sap) : (s.setSap x).sched = s.sched := rfl
@[simp] theorem State.setSap_hwd (s : State) (x : Sap) : (s.setSap x).hwd = s.hwd := rfl
@[simp] theorem State.setSap_cmb (s : State) (x : Sap) : (s.setSap x).cmb = s.cmb := rfl
@[simp] theorem State.setSap_rlk (s : State) (x : Sap) : (s.setSap x).rlk = s.rlk := rfl
@[simp] theorem State.setSap_can (s : State) (x : Sap) : (s.setSap x).can = s.can := rfl
@[simp] theorem State.setSap_bgh (s : State) (x : Sap) : (s.setSap x).bgh = s.bgh := rfl
@[simp] theorem State.setSap_bghCore (s : State) (x : Sap) : (s.setSap x).bghCore = s.bghCore := rfl
@[simp] theorem State.setSap_lcs (s : State) (x : Sap) : (s.setSap x).lcs = s.lcs := rfl
@[simp] theorem State.setSap_sap (s : State) (x : Sap) : (s.setSap x).sap = x := rfl
@[simp] theorem State.setSap_pending (s : State) (x : Sap) : (s.setSap x).pending = s.pending := rfl
@[simp] theorem State.setSap_reg (s : State) (x : Sap) (r : Nat) : (s.setSap x).reg r = s.reg r := rfl
@[simp] theorem State.setSap_fld (s : State) (x : Sap) (g : RegField) : (s.setSap x).fld g = s.fld g := rfl
@[simp] theorem State.setSap_flag (s : State) (x : Sap) (g : RegField) : (s.setSap x).flag g = s.flag g := rfl
@[simp] theorem State.setSap_byte (s : State) (x : Sap) (i : Nat) : (s.setSap x).byte i = s.byte i := rfl
@[simp] theorem State.setSap_bytes (s : State) (x : Sap) (i len : Nat) : (s.setSap x).bytes i len = s.bytes i len := rfl
@[simp] theorem State.setSap_core (s : State) (x : Sap) (j : Nat) : (s.setSap x).core j = s.core j := rfl

@[simp] theorem State.setSpl_mem (s : State) (x : Sapling) : (s.setSpl x).mem = s.mem := rfl
@[simp] theorem State.setSpl_memsys (s : State) (x : Sapling) : (s.setSpl x).memsys = s.memsys := rfl
@[simp] theorem State.setSpl_kvp (s : State) (x : Sapling) : (s.setSpl x).kvp = s.kvp := rfl
@[simp] theorem State.setSpl_spl (s : State) (x : Sapling) : (s.setSpl x).spl = x := rfl
@[simp] theorem State.setSpl_sdb (s : State) (x : Sapling) : (s.setSpl x).sdb = s.sdb := rfl
@[simp] theorem State.setSpl_frameTab (s : State) (x : Sapling) : (s.setSpl x).frameTab = s.frameTab := rfl
@[simp] theorem State.setSpl_elapsed (s : State) (x : Sapling) : (s.setSpl x).elapsed = s.elapsed := rfl
@[simp] theorem State.setSpl_tim (s : State) (x : Sapling) : (s.setSpl x).tim = s.tim := rfl
@[simp] theorem State.setSpl_grove (s : State) (x : Sapling) : (s.setSpl x).grove = s.grove := rfl
@[simp] theorem State.setSpl_regs (s : State) (x : Sapling) : (s.setSpl x).regs = s.regs := rfl
@[simp] theorem State.setSpl_wos (s : State) (x : Sapling) : (s.setSpl x).wos = s.wos := rfl
@[simp] theorem State.setSpl_rdShadow (s : State) (x : Sapling) : (s.setSpl x).rdShadow = s.rdShadow := rfl
@[simp] theorem State.setSpl_wrStage (s : State) (x : Sapling) : (s.setSpl x).wrStage = s.wrStage := rfl
@[simp] theorem State.setSpl_resp (s : State) (x : Sapling) : (s.setSpl x).resp = s.resp := rfl
@[simp] theorem State.setSpl_out (s : State) (x : Sapling) : (s.setSpl x).out = s.out := rfl
@[simp] theorem State.setSpl_free (s : State) (x : Sapling) : (s.setSpl x).free = s.free := rfl
@[simp] theorem State.setSpl_evq (s : State) (x : Sapling) : (s.setSpl x).evq = s.evq := rfl
@[simp] theorem State.setSpl_crown (s : State) (x : Sapling) : (s.setSpl x).crown = s.crown := rfl
@[simp] theorem State.setSpl_owed (s : State) (x : Sapling) : (s.setSpl x).owed = s.owed := rfl
@[simp] theorem State.setSpl_sched (s : State) (x : Sapling) : (s.setSpl x).sched = s.sched := rfl
@[simp] theorem State.setSpl_hwd (s : State) (x : Sapling) : (s.setSpl x).hwd = s.hwd := rfl
@[simp] theorem State.setSpl_cmb (s : State) (x : Sapling) : (s.setSpl x).cmb = s.cmb := rfl
@[simp] theorem State.setSpl_rlk (s : State) (x : Sapling) : (s.setSpl x).rlk = s.rlk := rfl
@[simp] theorem State.setSpl_can (s : State) (x : Sapling) : (s.setSpl x).can = s.can := rfl
@[simp] theorem State.setSpl_bgh (s : State) (x : Sapling) : (s.setSpl x).bgh = s.bgh := rfl
@[simp] theorem State.setSpl_bghCore (s : State) (x : Sapling) : (s.setSpl x).bghCore = s.bghCore := rfl
@[simp] theorem State.setSpl_lcs (s : State) (x : Sapling) : (s.setSpl x).lcs = s.lcs := rfl
@[simp] theorem State.setSpl_sap (s : State) (x : Sapling) : (s.setSpl x).sap = s.sap := rfl
@[simp] theorem State.setSpl_pending (s : State) (x : Sapling) : (s.setSpl x).pending = s.pending := rfl
@[simp] theorem State.setSpl_reg (s : State) (x : Sapling) (r : Nat) : (s.setSpl x).reg r = s.reg r := rfl
@[simp] theorem State.setSpl_fld (s : State) (x : Sapling) (g : RegField) : (s.setSpl x).fld g = s.fld g := rfl
@[simp] theorem State.setSpl_flag (s : State) (x : Sapling) (g : RegField) : (s.setSpl x).flag g = s.flag g := rfl
@[simp] theorem State.setSpl_byte (s : State) (x : Sapling) (i : Nat) : (s.setSpl x).byte i = s.byte i := rfl
@[simp] theorem State.setSpl_bytes (s : State) (x : Sapling) (i len : Nat) : (s.setSpl x).bytes i len = s.bytes i len := rfl
@[simp] theorem State.setSpl_core (s : State) (x : Sapling) (j : Nat) : (s.setSpl x).core j = s.core j := rfl

@[simp] theorem State.setSdb_mem (s : State) (x : Seedbed) : (s.setSdb x).mem = s.mem := rfl
@[simp] theorem State.setSdb_memsys (s : State) (x : Seedbed) : (s.setSdb x).memsys = s.memsys := rfl
@[simp] theorem State.setSdb_kvp (s : State) (x : Seedbed) : (s.setSdb x).kvp = s.kvp := rfl
@[simp] theorem State.setSdb_spl (s : State) (x : Seedbed) : (s.setSdb x).spl = s.spl := rfl
@[simp] theorem State.setSdb_sdb (s : State) (x : Seedbed) : (s.setSdb x).sdb = x := rfl
@[simp] theorem State.setSdb_frameTab (s : State) (x : Seedbed) : (s.setSdb x).frameTab = s.frameTab := rfl
@[simp] theorem State.setSdb_elapsed (s : State) (x : Seedbed) : (s.setSdb x).elapsed = s.elapsed := rfl
@[simp] theorem State.setSdb_tim (s : State) (x : Seedbed) : (s.setSdb x).tim = s.tim := rfl
@[simp] theorem State.setSdb_grove (s : State) (x : Seedbed) : (s.setSdb x).grove = s.grove := rfl
@[simp] theorem State.setSdb_regs (s : State) (x : Seedbed) : (s.setSdb x).regs = s.regs := rfl
@[simp] theorem State.setSdb_wos (s : State) (x : Seedbed) : (s.setSdb x).wos = s.wos := rfl
@[simp] theorem State.setSdb_rdShadow (s : State) (x : Seedbed) : (s.setSdb x).rdShadow = s.rdShadow := rfl
@[simp] theorem State.setSdb_wrStage (s : State) (x : Seedbed) : (s.setSdb x).wrStage = s.wrStage := rfl
@[simp] theorem State.setSdb_resp (s : State) (x : Seedbed) : (s.setSdb x).resp = s.resp := rfl
@[simp] theorem State.setSdb_out (s : State) (x : Seedbed) : (s.setSdb x).out = s.out := rfl
@[simp] theorem State.setSdb_free (s : State) (x : Seedbed) : (s.setSdb x).free = s.free := rfl
@[simp] theorem State.setSdb_evq (s : State) (x : Seedbed) : (s.setSdb x).evq = s.evq := rfl
@[simp] theorem State.setSdb_crown (s : State) (x : Seedbed) : (s.setSdb x).crown = s.crown := rfl
@[simp] theorem State.setSdb_owed (s : State) (x : Seedbed) : (s.setSdb x).owed = s.owed := rfl
@[simp] theorem State.setSdb_sched (s : State) (x : Seedbed) : (s.setSdb x).sched = s.sched := rfl
@[simp] theorem State.setSdb_hwd (s : State) (x : Seedbed) : (s.setSdb x).hwd = s.hwd := rfl
@[simp] theorem State.setSdb_cmb (s : State) (x : Seedbed) : (s.setSdb x).cmb = s.cmb := rfl
@[simp] theorem State.setSdb_rlk (s : State) (x : Seedbed) : (s.setSdb x).rlk = s.rlk := rfl
@[simp] theorem State.setSdb_can (s : State) (x : Seedbed) : (s.setSdb x).can = s.can := rfl
@[simp] theorem State.setSdb_bgh (s : State) (x : Seedbed) : (s.setSdb x).bgh = s.bgh := rfl
@[simp] theorem State.setSdb_bghCore (s : State) (x : Seedbed) : (s.setSdb x).bghCore = s.bghCore := rfl
@[simp] theorem State.setSdb_lcs (s : State) (x : Seedbed) : (s.setSdb x).lcs = s.lcs := rfl
@[simp] theorem State.setSdb_sap (s : State) (x : Seedbed) : (s.setSdb x).sap = s.sap := rfl
@[simp] theorem State.setSdb_pending (s : State) (x : Seedbed) : (s.setSdb x).pending = s.pending := rfl
@[simp] theorem State.setSdb_reg (s : State) (x : Seedbed) (r : Nat) : (s.setSdb x).reg r = s.reg r := rfl
@[simp] theorem State.setSdb_fld (s : State) (x : Seedbed) (g : RegField) : (s.setSdb x).fld g = s.fld g := rfl
@[simp] theorem State.setSdb_flag (s : State) (x : Seedbed) (g : RegField) : (s.setSdb x).flag g = s.flag g := rfl
@[simp] theorem State.setSdb_byte (s : State) (x : Seedbed) (i : Nat) : (s.setSdb x).byte i = s.byte i := rfl
@[simp] theorem State.setSdb_bytes (s : State) (x : Seedbed) (i len : Nat) : (s.setSdb x).bytes i len = s.bytes i len := rfl
@[simp] theorem State.setSdb_core (s : State) (x : Seedbed) (j : Nat) : (s.setSdb x).core j = s.core j := rfl

@[simp] theorem State.setTim_mem (s : State) (x : Tim) : (s.setTim x).mem = s.mem := rfl
@[simp] theorem State.setTim_memsys (s : State) (x : Tim) : (s.setTim x).memsys = s.memsys := rfl
@[simp] theorem State.setTim_kvp (s : State) (x : Tim) : (s.setTim x).kvp = s.kvp := rfl
@[simp] theorem State.setTim_spl (s : State) (x : Tim) : (s.setTim x).spl = s.spl := rfl
@[simp] theorem State.setTim_sdb (s : State) (x : Tim) : (s.setTim x).sdb = s.sdb := rfl
@[simp] theorem State.setTim_frameTab (s : State) (x : Tim) : (s.setTim x).frameTab = s.frameTab := rfl
@[simp] theorem State.setTim_elapsed (s : State) (x : Tim) : (s.setTim x).elapsed = s.elapsed := rfl
@[simp] theorem State.setTim_tim (s : State) (x : Tim) : (s.setTim x).tim = x := rfl
@[simp] theorem State.setTim_grove (s : State) (x : Tim) : (s.setTim x).grove = s.grove := rfl
@[simp] theorem State.setTim_regs (s : State) (x : Tim) : (s.setTim x).regs = s.regs := rfl
@[simp] theorem State.setTim_wos (s : State) (x : Tim) : (s.setTim x).wos = s.wos := rfl
@[simp] theorem State.setTim_rdShadow (s : State) (x : Tim) : (s.setTim x).rdShadow = s.rdShadow := rfl
@[simp] theorem State.setTim_wrStage (s : State) (x : Tim) : (s.setTim x).wrStage = s.wrStage := rfl
@[simp] theorem State.setTim_resp (s : State) (x : Tim) : (s.setTim x).resp = s.resp := rfl
@[simp] theorem State.setTim_out (s : State) (x : Tim) : (s.setTim x).out = s.out := rfl
@[simp] theorem State.setTim_free (s : State) (x : Tim) : (s.setTim x).free = s.free := rfl
@[simp] theorem State.setTim_evq (s : State) (x : Tim) : (s.setTim x).evq = s.evq := rfl
@[simp] theorem State.setTim_crown (s : State) (x : Tim) : (s.setTim x).crown = s.crown := rfl
@[simp] theorem State.setTim_owed (s : State) (x : Tim) : (s.setTim x).owed = s.owed := rfl
@[simp] theorem State.setTim_sched (s : State) (x : Tim) : (s.setTim x).sched = s.sched := rfl
@[simp] theorem State.setTim_hwd (s : State) (x : Tim) : (s.setTim x).hwd = s.hwd := rfl
@[simp] theorem State.setTim_cmb (s : State) (x : Tim) : (s.setTim x).cmb = s.cmb := rfl
@[simp] theorem State.setTim_rlk (s : State) (x : Tim) : (s.setTim x).rlk = s.rlk := rfl
@[simp] theorem State.setTim_can (s : State) (x : Tim) : (s.setTim x).can = s.can := rfl
@[simp] theorem State.setTim_bgh (s : State) (x : Tim) : (s.setTim x).bgh = s.bgh := rfl
@[simp] theorem State.setTim_bghCore (s : State) (x : Tim) : (s.setTim x).bghCore = s.bghCore := rfl
@[simp] theorem State.setTim_lcs (s : State) (x : Tim) : (s.setTim x).lcs = s.lcs := rfl
@[simp] theorem State.setTim_sap (s : State) (x : Tim) : (s.setTim x).sap = s.sap := rfl
@[simp] theorem State.setTim_pending (s : State) (x : Tim) : (s.setTim x).pending = s.pending := rfl
@[simp] theorem State.setTim_reg (s : State) (x : Tim) (r : Nat) : (s.setTim x).reg r = s.reg r := rfl
@[simp] theorem State.setTim_fld (s : State) (x : Tim) (g : RegField) : (s.setTim x).fld g = s.fld g := rfl
@[simp] theorem State.setTim_flag (s : State) (x : Tim) (g : RegField) : (s.setTim x).flag g = s.flag g := rfl
@[simp] theorem State.setTim_byte (s : State) (x : Tim) (i : Nat) : (s.setTim x).byte i = s.byte i := rfl
@[simp] theorem State.setTim_bytes (s : State) (x : Tim) (i len : Nat) : (s.setTim x).bytes i len = s.bytes i len := rfl
@[simp] theorem State.setTim_core (s : State) (x : Tim) (j : Nat) : (s.setTim x).core j = s.core j := rfl

@[simp] theorem modPort_mem (s : State) (p : Nat) (f : RlkPort → RlkPort) : (modPort p f s).mem = s.mem := rfl
@[simp] theorem modPort_memsys (s : State) (p : Nat) (f : RlkPort → RlkPort) : (modPort p f s).memsys = s.memsys := rfl
@[simp] theorem modPort_kvp (s : State) (p : Nat) (f : RlkPort → RlkPort) : (modPort p f s).kvp = s.kvp := rfl
@[simp] theorem modPort_spl (s : State) (p : Nat) (f : RlkPort → RlkPort) : (modPort p f s).spl = s.spl := rfl
@[simp] theorem modPort_sdb (s : State) (p : Nat) (f : RlkPort → RlkPort) : (modPort p f s).sdb = s.sdb := rfl
@[simp] theorem modPort_frameTab (s : State) (p : Nat) (f : RlkPort → RlkPort) : (modPort p f s).frameTab = s.frameTab := rfl
@[simp] theorem modPort_elapsed (s : State) (p : Nat) (f : RlkPort → RlkPort) : (modPort p f s).elapsed = s.elapsed := rfl
@[simp] theorem modPort_tim (s : State) (p : Nat) (f : RlkPort → RlkPort) : (modPort p f s).tim = s.tim := rfl
@[simp] theorem modPort_grove (s : State) (p : Nat) (f : RlkPort → RlkPort) : (modPort p f s).grove = s.grove := rfl
@[simp] theorem modPort_regs (s : State) (p : Nat) (f : RlkPort → RlkPort) : (modPort p f s).regs = s.regs := rfl
@[simp] theorem modPort_wos (s : State) (p : Nat) (f : RlkPort → RlkPort) : (modPort p f s).wos = s.wos := rfl
@[simp] theorem modPort_rdShadow (s : State) (p : Nat) (f : RlkPort → RlkPort) : (modPort p f s).rdShadow = s.rdShadow := rfl
@[simp] theorem modPort_wrStage (s : State) (p : Nat) (f : RlkPort → RlkPort) : (modPort p f s).wrStage = s.wrStage := rfl
@[simp] theorem modPort_resp (s : State) (p : Nat) (f : RlkPort → RlkPort) : (modPort p f s).resp = s.resp := rfl
@[simp] theorem modPort_out (s : State) (p : Nat) (f : RlkPort → RlkPort) : (modPort p f s).out = s.out := rfl
@[simp] theorem modPort_free (s : State) (p : Nat) (f : RlkPort → RlkPort) : (modPort p f s).free = s.free := rfl
@[simp] theorem modPort_evq (s : State) (p : Nat) (f : RlkPort → RlkPort) : (modPort p f s).evq = s.evq := rfl
@[simp] theorem modPort_crown (s : State) (p : Nat) (f : RlkPort → RlkPort) : (modPort p f s).crown = s.crown := rfl
@[simp] theorem modPort_owed (s : State) (p : Nat) (f : RlkPort → RlkPort) : (modPort p f s).owed = s.owed := rfl
@[simp] theorem modPort_sched (s : State) (p : Nat) (f : RlkPort → RlkPort) : (modPort p f s).sched = s.sched := rfl
@[simp] theorem modPort_hwd (s : State) (p : Nat) (f : RlkPort → RlkPort) : (modPort p f s).hwd = s.hwd := rfl
@[simp] theorem modPort_cmb (s : State) (p : Nat) (f : RlkPort → RlkPort) : (modPort p f s).cmb = s.cmb := rfl
@[simp] theorem modPort_can (s : State) (p : Nat) (f : RlkPort → RlkPort) : (modPort p f s).can = s.can := rfl
@[simp] theorem modPort_bgh (s : State) (p : Nat) (f : RlkPort → RlkPort) : (modPort p f s).bgh = s.bgh := rfl
@[simp] theorem modPort_bghCore (s : State) (p : Nat) (f : RlkPort → RlkPort) : (modPort p f s).bghCore = s.bghCore := rfl
@[simp] theorem modPort_lcs (s : State) (p : Nat) (f : RlkPort → RlkPort) : (modPort p f s).lcs = s.lcs := rfl
@[simp] theorem modPort_sap (s : State) (p : Nat) (f : RlkPort → RlkPort) : (modPort p f s).sap = s.sap := rfl
@[simp] theorem modPort_pending (s : State) (p : Nat) (f : RlkPort → RlkPort) : (modPort p f s).pending = s.pending := rfl
@[simp] theorem modPort_reg (s : State) (p : Nat) (f : RlkPort → RlkPort) (r : Nat) : (modPort p f s).reg r = s.reg r := rfl
@[simp] theorem modPort_fld (s : State) (p : Nat) (f : RlkPort → RlkPort) (g : RegField) : (modPort p f s).fld g = s.fld g := rfl
@[simp] theorem modPort_flag (s : State) (p : Nat) (f : RlkPort → RlkPort) (g : RegField) : (modPort p f s).flag g = s.flag g := rfl
@[simp] theorem modPort_byte (s : State) (p : Nat) (f : RlkPort → RlkPort) (i : Nat) : (modPort p f s).byte i = s.byte i := rfl
@[simp] theorem modPort_bytes (s : State) (p : Nat) (f : RlkPort → RlkPort) (i len : Nat) : (modPort p f s).bytes i len = s.bytes i len := rfl
@[simp] theorem modPort_core (s : State) (p : Nat) (f : RlkPort → RlkPort) (j : Nat) : (modPort p f s).core j = s.core j := rfl

@[simp] theorem modAxis_mem (s : State) (a : Nat) (f : CmbAxis → CmbAxis) : (modAxis a f s).mem = s.mem := rfl
@[simp] theorem modAxis_memsys (s : State) (a : Nat) (f : CmbAxis → CmbAxis) : (modAxis a f s).memsys = s.memsys := rfl
@[simp] theorem modAxis_kvp (s : State) (a : Nat) (f : CmbAxis → CmbAxis) : (modAxis a f s).kvp = s.kvp := rfl
@[simp] theorem modAxis_spl (s : State) (a : Nat) (f : CmbAxis → CmbAxis) : (modAxis a f s).spl = s.spl := rfl
@[simp] theorem modAxis_sdb (s : State) (a : Nat) (f : CmbAxis → CmbAxis) : (modAxis a f s).sdb = s.sdb := rfl
@[simp] theorem modAxis_frameTab (s : State) (a : Nat) (f : CmbAxis → CmbAxis) : (modAxis a f s).frameTab = s.frameTab := rfl
@[simp] theorem modAxis_elapsed (s : State) (a : Nat) (f : CmbAxis → CmbAxis) : (modAxis a f s).elapsed = s.elapsed := rfl
@[simp] theorem modAxis_tim (s : State) (a : Nat) (f : CmbAxis → CmbAxis) : (modAxis a f s).tim = s.tim := rfl
@[simp] theorem modAxis_grove (s : State) (a : Nat) (f : CmbAxis → CmbAxis) : (modAxis a f s).grove = s.grove := rfl
@[simp] theorem modAxis_regs (s : State) (a : Nat) (f : CmbAxis → CmbAxis) : (modAxis a f s).regs = s.regs := rfl
@[simp] theorem modAxis_wos (s : State) (a : Nat) (f : CmbAxis → CmbAxis) : (modAxis a f s).wos = s.wos := rfl
@[simp] theorem modAxis_rdShadow (s : State) (a : Nat) (f : CmbAxis → CmbAxis) : (modAxis a f s).rdShadow = s.rdShadow := rfl
@[simp] theorem modAxis_wrStage (s : State) (a : Nat) (f : CmbAxis → CmbAxis) : (modAxis a f s).wrStage = s.wrStage := rfl
@[simp] theorem modAxis_resp (s : State) (a : Nat) (f : CmbAxis → CmbAxis) : (modAxis a f s).resp = s.resp := rfl
@[simp] theorem modAxis_out (s : State) (a : Nat) (f : CmbAxis → CmbAxis) : (modAxis a f s).out = s.out := rfl
@[simp] theorem modAxis_free (s : State) (a : Nat) (f : CmbAxis → CmbAxis) : (modAxis a f s).free = s.free := rfl
@[simp] theorem modAxis_evq (s : State) (a : Nat) (f : CmbAxis → CmbAxis) : (modAxis a f s).evq = s.evq := rfl
@[simp] theorem modAxis_crown (s : State) (a : Nat) (f : CmbAxis → CmbAxis) : (modAxis a f s).crown = s.crown := rfl
@[simp] theorem modAxis_owed (s : State) (a : Nat) (f : CmbAxis → CmbAxis) : (modAxis a f s).owed = s.owed := rfl
@[simp] theorem modAxis_sched (s : State) (a : Nat) (f : CmbAxis → CmbAxis) : (modAxis a f s).sched = s.sched := rfl
@[simp] theorem modAxis_hwd (s : State) (a : Nat) (f : CmbAxis → CmbAxis) : (modAxis a f s).hwd = s.hwd := rfl
@[simp] theorem modAxis_rlk (s : State) (a : Nat) (f : CmbAxis → CmbAxis) : (modAxis a f s).rlk = s.rlk := rfl
@[simp] theorem modAxis_can (s : State) (a : Nat) (f : CmbAxis → CmbAxis) : (modAxis a f s).can = s.can := rfl
@[simp] theorem modAxis_bgh (s : State) (a : Nat) (f : CmbAxis → CmbAxis) : (modAxis a f s).bgh = s.bgh := rfl
@[simp] theorem modAxis_bghCore (s : State) (a : Nat) (f : CmbAxis → CmbAxis) : (modAxis a f s).bghCore = s.bghCore := rfl
@[simp] theorem modAxis_lcs (s : State) (a : Nat) (f : CmbAxis → CmbAxis) : (modAxis a f s).lcs = s.lcs := rfl
@[simp] theorem modAxis_sap (s : State) (a : Nat) (f : CmbAxis → CmbAxis) : (modAxis a f s).sap = s.sap := rfl
@[simp] theorem modAxis_pending (s : State) (a : Nat) (f : CmbAxis → CmbAxis) : (modAxis a f s).pending = s.pending := rfl
@[simp] theorem modAxis_reg (s : State) (a : Nat) (f : CmbAxis → CmbAxis) (r : Nat) : (modAxis a f s).reg r = s.reg r := rfl
@[simp] theorem modAxis_fld (s : State) (a : Nat) (f : CmbAxis → CmbAxis) (g : RegField) : (modAxis a f s).fld g = s.fld g := rfl
@[simp] theorem modAxis_flag (s : State) (a : Nat) (f : CmbAxis → CmbAxis) (g : RegField) : (modAxis a f s).flag g = s.flag g := rfl
@[simp] theorem modAxis_byte (s : State) (a : Nat) (f : CmbAxis → CmbAxis) (i : Nat) : (modAxis a f s).byte i = s.byte i := rfl
@[simp] theorem modAxis_bytes (s : State) (a : Nat) (f : CmbAxis → CmbAxis) (i len : Nat) : (modAxis a f s).bytes i len = s.bytes i len := rfl
@[simp] theorem modAxis_core (s : State) (a : Nat) (f : CmbAxis → CmbAxis) (j : Nat) : (modAxis a f s).core j = s.core j := rfl

@[simp] theorem modCan_mem (s : State) (c : Nat) (f : Can → Can) : (modCan c f s).mem = s.mem := rfl
@[simp] theorem modCan_memsys (s : State) (c : Nat) (f : Can → Can) : (modCan c f s).memsys = s.memsys := rfl
@[simp] theorem modCan_kvp (s : State) (c : Nat) (f : Can → Can) : (modCan c f s).kvp = s.kvp := rfl
@[simp] theorem modCan_spl (s : State) (c : Nat) (f : Can → Can) : (modCan c f s).spl = s.spl := rfl
@[simp] theorem modCan_sdb (s : State) (c : Nat) (f : Can → Can) : (modCan c f s).sdb = s.sdb := rfl
@[simp] theorem modCan_frameTab (s : State) (c : Nat) (f : Can → Can) : (modCan c f s).frameTab = s.frameTab := rfl
@[simp] theorem modCan_elapsed (s : State) (c : Nat) (f : Can → Can) : (modCan c f s).elapsed = s.elapsed := rfl
@[simp] theorem modCan_tim (s : State) (c : Nat) (f : Can → Can) : (modCan c f s).tim = s.tim := rfl
@[simp] theorem modCan_grove (s : State) (c : Nat) (f : Can → Can) : (modCan c f s).grove = s.grove := rfl
@[simp] theorem modCan_regs (s : State) (c : Nat) (f : Can → Can) : (modCan c f s).regs = s.regs := rfl
@[simp] theorem modCan_wos (s : State) (c : Nat) (f : Can → Can) : (modCan c f s).wos = s.wos := rfl
@[simp] theorem modCan_rdShadow (s : State) (c : Nat) (f : Can → Can) : (modCan c f s).rdShadow = s.rdShadow := rfl
@[simp] theorem modCan_wrStage (s : State) (c : Nat) (f : Can → Can) : (modCan c f s).wrStage = s.wrStage := rfl
@[simp] theorem modCan_resp (s : State) (c : Nat) (f : Can → Can) : (modCan c f s).resp = s.resp := rfl
@[simp] theorem modCan_out (s : State) (c : Nat) (f : Can → Can) : (modCan c f s).out = s.out := rfl
@[simp] theorem modCan_free (s : State) (c : Nat) (f : Can → Can) : (modCan c f s).free = s.free := rfl
@[simp] theorem modCan_evq (s : State) (c : Nat) (f : Can → Can) : (modCan c f s).evq = s.evq := rfl
@[simp] theorem modCan_crown (s : State) (c : Nat) (f : Can → Can) : (modCan c f s).crown = s.crown := rfl
@[simp] theorem modCan_owed (s : State) (c : Nat) (f : Can → Can) : (modCan c f s).owed = s.owed := rfl
@[simp] theorem modCan_sched (s : State) (c : Nat) (f : Can → Can) : (modCan c f s).sched = s.sched := rfl
@[simp] theorem modCan_hwd (s : State) (c : Nat) (f : Can → Can) : (modCan c f s).hwd = s.hwd := rfl
@[simp] theorem modCan_cmb (s : State) (c : Nat) (f : Can → Can) : (modCan c f s).cmb = s.cmb := rfl
@[simp] theorem modCan_rlk (s : State) (c : Nat) (f : Can → Can) : (modCan c f s).rlk = s.rlk := rfl
@[simp] theorem modCan_bgh (s : State) (c : Nat) (f : Can → Can) : (modCan c f s).bgh = s.bgh := rfl
@[simp] theorem modCan_bghCore (s : State) (c : Nat) (f : Can → Can) : (modCan c f s).bghCore = s.bghCore := rfl
@[simp] theorem modCan_lcs (s : State) (c : Nat) (f : Can → Can) : (modCan c f s).lcs = s.lcs := rfl
@[simp] theorem modCan_sap (s : State) (c : Nat) (f : Can → Can) : (modCan c f s).sap = s.sap := rfl
@[simp] theorem modCan_pending (s : State) (c : Nat) (f : Can → Can) : (modCan c f s).pending = s.pending := rfl
@[simp] theorem modCan_reg (s : State) (c : Nat) (f : Can → Can) (r : Nat) : (modCan c f s).reg r = s.reg r := rfl
@[simp] theorem modCan_fld (s : State) (c : Nat) (f : Can → Can) (g : RegField) : (modCan c f s).fld g = s.fld g := rfl
@[simp] theorem modCan_flag (s : State) (c : Nat) (f : Can → Can) (g : RegField) : (modCan c f s).flag g = s.flag g := rfl
@[simp] theorem modCan_byte (s : State) (c : Nat) (f : Can → Can) (i : Nat) : (modCan c f s).byte i = s.byte i := rfl
@[simp] theorem modCan_bytes (s : State) (c : Nat) (f : Can → Can) (i len : Nat) : (modCan c f s).bytes i len = s.bytes i len := rfl
@[simp] theorem modCan_core (s : State) (c : Nat) (f : Can → Can) (j : Nat) : (modCan c f s).core j = s.core j := rfl

@[simp] theorem modPair_mem (s : State) (p : Nat) (f : BghPair → BghPair) : (modPair p f s).mem = s.mem := rfl
@[simp] theorem modPair_memsys (s : State) (p : Nat) (f : BghPair → BghPair) : (modPair p f s).memsys = s.memsys := rfl
@[simp] theorem modPair_kvp (s : State) (p : Nat) (f : BghPair → BghPair) : (modPair p f s).kvp = s.kvp := rfl
@[simp] theorem modPair_spl (s : State) (p : Nat) (f : BghPair → BghPair) : (modPair p f s).spl = s.spl := rfl
@[simp] theorem modPair_sdb (s : State) (p : Nat) (f : BghPair → BghPair) : (modPair p f s).sdb = s.sdb := rfl
@[simp] theorem modPair_frameTab (s : State) (p : Nat) (f : BghPair → BghPair) : (modPair p f s).frameTab = s.frameTab := rfl
@[simp] theorem modPair_elapsed (s : State) (p : Nat) (f : BghPair → BghPair) : (modPair p f s).elapsed = s.elapsed := rfl
@[simp] theorem modPair_tim (s : State) (p : Nat) (f : BghPair → BghPair) : (modPair p f s).tim = s.tim := rfl
@[simp] theorem modPair_grove (s : State) (p : Nat) (f : BghPair → BghPair) : (modPair p f s).grove = s.grove := rfl
@[simp] theorem modPair_regs (s : State) (p : Nat) (f : BghPair → BghPair) : (modPair p f s).regs = s.regs := rfl
@[simp] theorem modPair_wos (s : State) (p : Nat) (f : BghPair → BghPair) : (modPair p f s).wos = s.wos := rfl
@[simp] theorem modPair_rdShadow (s : State) (p : Nat) (f : BghPair → BghPair) : (modPair p f s).rdShadow = s.rdShadow := rfl
@[simp] theorem modPair_wrStage (s : State) (p : Nat) (f : BghPair → BghPair) : (modPair p f s).wrStage = s.wrStage := rfl
@[simp] theorem modPair_resp (s : State) (p : Nat) (f : BghPair → BghPair) : (modPair p f s).resp = s.resp := rfl
@[simp] theorem modPair_out (s : State) (p : Nat) (f : BghPair → BghPair) : (modPair p f s).out = s.out := rfl
@[simp] theorem modPair_free (s : State) (p : Nat) (f : BghPair → BghPair) : (modPair p f s).free = s.free := rfl
@[simp] theorem modPair_evq (s : State) (p : Nat) (f : BghPair → BghPair) : (modPair p f s).evq = s.evq := rfl
@[simp] theorem modPair_crown (s : State) (p : Nat) (f : BghPair → BghPair) : (modPair p f s).crown = s.crown := rfl
@[simp] theorem modPair_owed (s : State) (p : Nat) (f : BghPair → BghPair) : (modPair p f s).owed = s.owed := rfl
@[simp] theorem modPair_sched (s : State) (p : Nat) (f : BghPair → BghPair) : (modPair p f s).sched = s.sched := rfl
@[simp] theorem modPair_hwd (s : State) (p : Nat) (f : BghPair → BghPair) : (modPair p f s).hwd = s.hwd := rfl
@[simp] theorem modPair_cmb (s : State) (p : Nat) (f : BghPair → BghPair) : (modPair p f s).cmb = s.cmb := rfl
@[simp] theorem modPair_rlk (s : State) (p : Nat) (f : BghPair → BghPair) : (modPair p f s).rlk = s.rlk := rfl
@[simp] theorem modPair_can (s : State) (p : Nat) (f : BghPair → BghPair) : (modPair p f s).can = s.can := rfl
@[simp] theorem modPair_bghCore (s : State) (p : Nat) (f : BghPair → BghPair) : (modPair p f s).bghCore = s.bghCore := rfl
@[simp] theorem modPair_lcs (s : State) (p : Nat) (f : BghPair → BghPair) : (modPair p f s).lcs = s.lcs := rfl
@[simp] theorem modPair_sap (s : State) (p : Nat) (f : BghPair → BghPair) : (modPair p f s).sap = s.sap := rfl
@[simp] theorem modPair_pending (s : State) (p : Nat) (f : BghPair → BghPair) : (modPair p f s).pending = s.pending := rfl
@[simp] theorem modPair_reg (s : State) (p : Nat) (f : BghPair → BghPair) (r : Nat) : (modPair p f s).reg r = s.reg r := rfl
@[simp] theorem modPair_fld (s : State) (p : Nat) (f : BghPair → BghPair) (g : RegField) : (modPair p f s).fld g = s.fld g := rfl
@[simp] theorem modPair_flag (s : State) (p : Nat) (f : BghPair → BghPair) (g : RegField) : (modPair p f s).flag g = s.flag g := rfl
@[simp] theorem modPair_byte (s : State) (p : Nat) (f : BghPair → BghPair) (i : Nat) : (modPair p f s).byte i = s.byte i := rfl
@[simp] theorem modPair_bytes (s : State) (p : Nat) (f : BghPair → BghPair) (i len : Nat) : (modPair p f s).bytes i len = s.bytes i len := rfl
@[simp] theorem modPair_core (s : State) (p : Nat) (f : BghPair → BghPair) (j : Nat) : (modPair p f s).core j = s.core j := rfl

@[simp] theorem setBghCore_mem (s : State) (c : Nat) (k : BghCore) : (setBghCore c k s).mem = s.mem := rfl
@[simp] theorem setBghCore_memsys (s : State) (c : Nat) (k : BghCore) : (setBghCore c k s).memsys = s.memsys := rfl
@[simp] theorem setBghCore_kvp (s : State) (c : Nat) (k : BghCore) : (setBghCore c k s).kvp = s.kvp := rfl
@[simp] theorem setBghCore_spl (s : State) (c : Nat) (k : BghCore) : (setBghCore c k s).spl = s.spl := rfl
@[simp] theorem setBghCore_sdb (s : State) (c : Nat) (k : BghCore) : (setBghCore c k s).sdb = s.sdb := rfl
@[simp] theorem setBghCore_frameTab (s : State) (c : Nat) (k : BghCore) : (setBghCore c k s).frameTab = s.frameTab := rfl
@[simp] theorem setBghCore_elapsed (s : State) (c : Nat) (k : BghCore) : (setBghCore c k s).elapsed = s.elapsed := rfl
@[simp] theorem setBghCore_tim (s : State) (c : Nat) (k : BghCore) : (setBghCore c k s).tim = s.tim := rfl
@[simp] theorem setBghCore_grove (s : State) (c : Nat) (k : BghCore) : (setBghCore c k s).grove = s.grove := rfl
@[simp] theorem setBghCore_regs (s : State) (c : Nat) (k : BghCore) : (setBghCore c k s).regs = s.regs := rfl
@[simp] theorem setBghCore_wos (s : State) (c : Nat) (k : BghCore) : (setBghCore c k s).wos = s.wos := rfl
@[simp] theorem setBghCore_rdShadow (s : State) (c : Nat) (k : BghCore) : (setBghCore c k s).rdShadow = s.rdShadow := rfl
@[simp] theorem setBghCore_wrStage (s : State) (c : Nat) (k : BghCore) : (setBghCore c k s).wrStage = s.wrStage := rfl
@[simp] theorem setBghCore_resp (s : State) (c : Nat) (k : BghCore) : (setBghCore c k s).resp = s.resp := rfl
@[simp] theorem setBghCore_out (s : State) (c : Nat) (k : BghCore) : (setBghCore c k s).out = s.out := rfl
@[simp] theorem setBghCore_free (s : State) (c : Nat) (k : BghCore) : (setBghCore c k s).free = s.free := rfl
@[simp] theorem setBghCore_evq (s : State) (c : Nat) (k : BghCore) : (setBghCore c k s).evq = s.evq := rfl
@[simp] theorem setBghCore_crown (s : State) (c : Nat) (k : BghCore) : (setBghCore c k s).crown = s.crown := rfl
@[simp] theorem setBghCore_owed (s : State) (c : Nat) (k : BghCore) : (setBghCore c k s).owed = s.owed := rfl
@[simp] theorem setBghCore_sched (s : State) (c : Nat) (k : BghCore) : (setBghCore c k s).sched = s.sched := rfl
@[simp] theorem setBghCore_hwd (s : State) (c : Nat) (k : BghCore) : (setBghCore c k s).hwd = s.hwd := rfl
@[simp] theorem setBghCore_cmb (s : State) (c : Nat) (k : BghCore) : (setBghCore c k s).cmb = s.cmb := rfl
@[simp] theorem setBghCore_rlk (s : State) (c : Nat) (k : BghCore) : (setBghCore c k s).rlk = s.rlk := rfl
@[simp] theorem setBghCore_can (s : State) (c : Nat) (k : BghCore) : (setBghCore c k s).can = s.can := rfl
@[simp] theorem setBghCore_bgh (s : State) (c : Nat) (k : BghCore) : (setBghCore c k s).bgh = s.bgh := rfl
@[simp] theorem setBghCore_lcs (s : State) (c : Nat) (k : BghCore) : (setBghCore c k s).lcs = s.lcs := rfl
@[simp] theorem setBghCore_sap (s : State) (c : Nat) (k : BghCore) : (setBghCore c k s).sap = s.sap := rfl
@[simp] theorem setBghCore_pending (s : State) (c : Nat) (k : BghCore) : (setBghCore c k s).pending = s.pending := rfl
@[simp] theorem setBghCore_reg (s : State) (c : Nat) (k : BghCore) (r : Nat) : (setBghCore c k s).reg r = s.reg r := rfl
@[simp] theorem setBghCore_fld (s : State) (c : Nat) (k : BghCore) (g : RegField) : (setBghCore c k s).fld g = s.fld g := rfl
@[simp] theorem setBghCore_flag (s : State) (c : Nat) (k : BghCore) (g : RegField) : (setBghCore c k s).flag g = s.flag g := rfl
@[simp] theorem setBghCore_byte (s : State) (c : Nat) (k : BghCore) (i : Nat) : (setBghCore c k s).byte i = s.byte i := rfl
@[simp] theorem setBghCore_bytes (s : State) (c : Nat) (k : BghCore) (i len : Nat) : (setBghCore c k s).bytes i len = s.bytes i len := rfl
@[simp] theorem setBghCore_core (s : State) (c : Nat) (k : BghCore) (j : Nat) : (setBghCore c k s).core j = s.core j := rfl

@[simp] theorem setGate_mem (s : State) (n : Nat) (x : GateChan) : (setGate n x s).mem = s.mem := rfl
@[simp] theorem setGate_memsys (s : State) (n : Nat) (x : GateChan) : (setGate n x s).memsys = s.memsys := rfl
@[simp] theorem setGate_kvp (s : State) (n : Nat) (x : GateChan) : (setGate n x s).kvp = s.kvp := rfl
@[simp] theorem setGate_spl (s : State) (n : Nat) (x : GateChan) : (setGate n x s).spl = s.spl := rfl
@[simp] theorem setGate_sdb (s : State) (n : Nat) (x : GateChan) : (setGate n x s).sdb = s.sdb := rfl
@[simp] theorem setGate_frameTab (s : State) (n : Nat) (x : GateChan) : (setGate n x s).frameTab = s.frameTab := rfl
@[simp] theorem setGate_elapsed (s : State) (n : Nat) (x : GateChan) : (setGate n x s).elapsed = s.elapsed := rfl
@[simp] theorem setGate_tim (s : State) (n : Nat) (x : GateChan) : (setGate n x s).tim = s.tim := rfl
@[simp] theorem setGate_grove (s : State) (n : Nat) (x : GateChan) : (setGate n x s).grove = s.grove := rfl
@[simp] theorem setGate_regs (s : State) (n : Nat) (x : GateChan) : (setGate n x s).regs = s.regs := rfl
@[simp] theorem setGate_wos (s : State) (n : Nat) (x : GateChan) : (setGate n x s).wos = s.wos := rfl
@[simp] theorem setGate_rdShadow (s : State) (n : Nat) (x : GateChan) : (setGate n x s).rdShadow = s.rdShadow := rfl
@[simp] theorem setGate_wrStage (s : State) (n : Nat) (x : GateChan) : (setGate n x s).wrStage = s.wrStage := rfl
@[simp] theorem setGate_resp (s : State) (n : Nat) (x : GateChan) : (setGate n x s).resp = s.resp := rfl
@[simp] theorem setGate_out (s : State) (n : Nat) (x : GateChan) : (setGate n x s).out = s.out := rfl
@[simp] theorem setGate_free (s : State) (n : Nat) (x : GateChan) : (setGate n x s).free = s.free := rfl
@[simp] theorem setGate_evq (s : State) (n : Nat) (x : GateChan) : (setGate n x s).evq = s.evq := rfl
@[simp] theorem setGate_crown (s : State) (n : Nat) (x : GateChan) : (setGate n x s).crown = s.crown := rfl
@[simp] theorem setGate_owed (s : State) (n : Nat) (x : GateChan) : (setGate n x s).owed = s.owed := rfl
@[simp] theorem setGate_sched (s : State) (n : Nat) (x : GateChan) : (setGate n x s).sched = s.sched := rfl
@[simp] theorem setGate_cmb (s : State) (n : Nat) (x : GateChan) : (setGate n x s).cmb = s.cmb := rfl
@[simp] theorem setGate_rlk (s : State) (n : Nat) (x : GateChan) : (setGate n x s).rlk = s.rlk := rfl
@[simp] theorem setGate_can (s : State) (n : Nat) (x : GateChan) : (setGate n x s).can = s.can := rfl
@[simp] theorem setGate_bgh (s : State) (n : Nat) (x : GateChan) : (setGate n x s).bgh = s.bgh := rfl
@[simp] theorem setGate_bghCore (s : State) (n : Nat) (x : GateChan) : (setGate n x s).bghCore = s.bghCore := rfl
@[simp] theorem setGate_lcs (s : State) (n : Nat) (x : GateChan) : (setGate n x s).lcs = s.lcs := rfl
@[simp] theorem setGate_sap (s : State) (n : Nat) (x : GateChan) : (setGate n x s).sap = s.sap := rfl
@[simp] theorem setGate_pending (s : State) (n : Nat) (x : GateChan) : (setGate n x s).pending = s.pending := rfl
@[simp] theorem setGate_reg (s : State) (n : Nat) (x : GateChan) (r : Nat) : (setGate n x s).reg r = s.reg r := rfl
@[simp] theorem setGate_fld (s : State) (n : Nat) (x : GateChan) (g : RegField) : (setGate n x s).fld g = s.fld g := rfl
@[simp] theorem setGate_flag (s : State) (n : Nat) (x : GateChan) (g : RegField) : (setGate n x s).flag g = s.flag g := rfl
@[simp] theorem setGate_byte (s : State) (n : Nat) (x : GateChan) (i : Nat) : (setGate n x s).byte i = s.byte i := rfl
@[simp] theorem setGate_bytes (s : State) (n : Nat) (x : GateChan) (i len : Nat) : (setGate n x s).bytes i len = s.bytes i len := rfl
@[simp] theorem setGate_core (s : State) (n : Nat) (x : GateChan) (j : Nat) : (setGate n x s).core j = s.core j := rfl

@[simp] theorem setStream_mem (s : State) (n : Nat) (x : SdbStream) : (setStream n x s).mem = s.mem := rfl
@[simp] theorem setStream_memsys (s : State) (n : Nat) (x : SdbStream) : (setStream n x s).memsys = s.memsys := rfl
@[simp] theorem setStream_kvp (s : State) (n : Nat) (x : SdbStream) : (setStream n x s).kvp = s.kvp := rfl
@[simp] theorem setStream_spl (s : State) (n : Nat) (x : SdbStream) : (setStream n x s).spl = s.spl := rfl
@[simp] theorem setStream_frameTab (s : State) (n : Nat) (x : SdbStream) : (setStream n x s).frameTab = s.frameTab := rfl
@[simp] theorem setStream_elapsed (s : State) (n : Nat) (x : SdbStream) : (setStream n x s).elapsed = s.elapsed := rfl
@[simp] theorem setStream_tim (s : State) (n : Nat) (x : SdbStream) : (setStream n x s).tim = s.tim := rfl
@[simp] theorem setStream_grove (s : State) (n : Nat) (x : SdbStream) : (setStream n x s).grove = s.grove := rfl
@[simp] theorem setStream_regs (s : State) (n : Nat) (x : SdbStream) : (setStream n x s).regs = s.regs := rfl
@[simp] theorem setStream_wos (s : State) (n : Nat) (x : SdbStream) : (setStream n x s).wos = s.wos := rfl
@[simp] theorem setStream_rdShadow (s : State) (n : Nat) (x : SdbStream) : (setStream n x s).rdShadow = s.rdShadow := rfl
@[simp] theorem setStream_wrStage (s : State) (n : Nat) (x : SdbStream) : (setStream n x s).wrStage = s.wrStage := rfl
@[simp] theorem setStream_resp (s : State) (n : Nat) (x : SdbStream) : (setStream n x s).resp = s.resp := rfl
@[simp] theorem setStream_out (s : State) (n : Nat) (x : SdbStream) : (setStream n x s).out = s.out := rfl
@[simp] theorem setStream_free (s : State) (n : Nat) (x : SdbStream) : (setStream n x s).free = s.free := rfl
@[simp] theorem setStream_evq (s : State) (n : Nat) (x : SdbStream) : (setStream n x s).evq = s.evq := rfl
@[simp] theorem setStream_crown (s : State) (n : Nat) (x : SdbStream) : (setStream n x s).crown = s.crown := rfl
@[simp] theorem setStream_owed (s : State) (n : Nat) (x : SdbStream) : (setStream n x s).owed = s.owed := rfl
@[simp] theorem setStream_sched (s : State) (n : Nat) (x : SdbStream) : (setStream n x s).sched = s.sched := rfl
@[simp] theorem setStream_hwd (s : State) (n : Nat) (x : SdbStream) : (setStream n x s).hwd = s.hwd := rfl
@[simp] theorem setStream_cmb (s : State) (n : Nat) (x : SdbStream) : (setStream n x s).cmb = s.cmb := rfl
@[simp] theorem setStream_rlk (s : State) (n : Nat) (x : SdbStream) : (setStream n x s).rlk = s.rlk := rfl
@[simp] theorem setStream_can (s : State) (n : Nat) (x : SdbStream) : (setStream n x s).can = s.can := rfl
@[simp] theorem setStream_bgh (s : State) (n : Nat) (x : SdbStream) : (setStream n x s).bgh = s.bgh := rfl
@[simp] theorem setStream_bghCore (s : State) (n : Nat) (x : SdbStream) : (setStream n x s).bghCore = s.bghCore := rfl
@[simp] theorem setStream_lcs (s : State) (n : Nat) (x : SdbStream) : (setStream n x s).lcs = s.lcs := rfl
@[simp] theorem setStream_sap (s : State) (n : Nat) (x : SdbStream) : (setStream n x s).sap = s.sap := rfl
@[simp] theorem setStream_pending (s : State) (n : Nat) (x : SdbStream) : (setStream n x s).pending = s.pending := rfl
@[simp] theorem setStream_reg (s : State) (n : Nat) (x : SdbStream) (r : Nat) : (setStream n x s).reg r = s.reg r := rfl
@[simp] theorem setStream_fld (s : State) (n : Nat) (x : SdbStream) (g : RegField) : (setStream n x s).fld g = s.fld g := rfl
@[simp] theorem setStream_flag (s : State) (n : Nat) (x : SdbStream) (g : RegField) : (setStream n x s).flag g = s.flag g := rfl
@[simp] theorem setStream_byte (s : State) (n : Nat) (x : SdbStream) (i : Nat) : (setStream n x s).byte i = s.byte i := rfl
@[simp] theorem setStream_bytes (s : State) (n : Nat) (x : SdbStream) (i len : Nat) : (setStream n x s).bytes i len = s.bytes i len := rfl
@[simp] theorem setStream_core (s : State) (n : Nat) (x : SdbStream) (j : Nat) : (setStream n x s).core j = s.core j := rfl

@[simp] theorem setTx_mem (s : State) (dev c : Nat) (x : GrvTx) : (setTx dev c x s).mem = s.mem := rfl
@[simp] theorem setTx_memsys (s : State) (dev c : Nat) (x : GrvTx) : (setTx dev c x s).memsys = s.memsys := rfl
@[simp] theorem setTx_kvp (s : State) (dev c : Nat) (x : GrvTx) : (setTx dev c x s).kvp = s.kvp := rfl
@[simp] theorem setTx_spl (s : State) (dev c : Nat) (x : GrvTx) : (setTx dev c x s).spl = s.spl := rfl
@[simp] theorem setTx_sdb (s : State) (dev c : Nat) (x : GrvTx) : (setTx dev c x s).sdb = s.sdb := rfl
@[simp] theorem setTx_frameTab (s : State) (dev c : Nat) (x : GrvTx) : (setTx dev c x s).frameTab = s.frameTab := rfl
@[simp] theorem setTx_elapsed (s : State) (dev c : Nat) (x : GrvTx) : (setTx dev c x s).elapsed = s.elapsed := rfl
@[simp] theorem setTx_tim (s : State) (dev c : Nat) (x : GrvTx) : (setTx dev c x s).tim = s.tim := rfl
@[simp] theorem setTx_regs (s : State) (dev c : Nat) (x : GrvTx) : (setTx dev c x s).regs = s.regs := rfl
@[simp] theorem setTx_wos (s : State) (dev c : Nat) (x : GrvTx) : (setTx dev c x s).wos = s.wos := rfl
@[simp] theorem setTx_rdShadow (s : State) (dev c : Nat) (x : GrvTx) : (setTx dev c x s).rdShadow = s.rdShadow := rfl
@[simp] theorem setTx_wrStage (s : State) (dev c : Nat) (x : GrvTx) : (setTx dev c x s).wrStage = s.wrStage := rfl
@[simp] theorem setTx_resp (s : State) (dev c : Nat) (x : GrvTx) : (setTx dev c x s).resp = s.resp := rfl
@[simp] theorem setTx_out (s : State) (dev c : Nat) (x : GrvTx) : (setTx dev c x s).out = s.out := rfl
@[simp] theorem setTx_free (s : State) (dev c : Nat) (x : GrvTx) : (setTx dev c x s).free = s.free := rfl
@[simp] theorem setTx_evq (s : State) (dev c : Nat) (x : GrvTx) : (setTx dev c x s).evq = s.evq := rfl
@[simp] theorem setTx_crown (s : State) (dev c : Nat) (x : GrvTx) : (setTx dev c x s).crown = s.crown := rfl
@[simp] theorem setTx_owed (s : State) (dev c : Nat) (x : GrvTx) : (setTx dev c x s).owed = s.owed := rfl
@[simp] theorem setTx_sched (s : State) (dev c : Nat) (x : GrvTx) : (setTx dev c x s).sched = s.sched := rfl
@[simp] theorem setTx_hwd (s : State) (dev c : Nat) (x : GrvTx) : (setTx dev c x s).hwd = s.hwd := rfl
@[simp] theorem setTx_cmb (s : State) (dev c : Nat) (x : GrvTx) : (setTx dev c x s).cmb = s.cmb := rfl
@[simp] theorem setTx_rlk (s : State) (dev c : Nat) (x : GrvTx) : (setTx dev c x s).rlk = s.rlk := rfl
@[simp] theorem setTx_can (s : State) (dev c : Nat) (x : GrvTx) : (setTx dev c x s).can = s.can := rfl
@[simp] theorem setTx_bgh (s : State) (dev c : Nat) (x : GrvTx) : (setTx dev c x s).bgh = s.bgh := rfl
@[simp] theorem setTx_bghCore (s : State) (dev c : Nat) (x : GrvTx) : (setTx dev c x s).bghCore = s.bghCore := rfl
@[simp] theorem setTx_lcs (s : State) (dev c : Nat) (x : GrvTx) : (setTx dev c x s).lcs = s.lcs := rfl
@[simp] theorem setTx_sap (s : State) (dev c : Nat) (x : GrvTx) : (setTx dev c x s).sap = s.sap := rfl
@[simp] theorem setTx_pending (s : State) (dev c : Nat) (x : GrvTx) : (setTx dev c x s).pending = s.pending := rfl
@[simp] theorem setTx_reg (s : State) (dev c : Nat) (x : GrvTx) (r : Nat) : (setTx dev c x s).reg r = s.reg r := rfl
@[simp] theorem setTx_fld (s : State) (dev c : Nat) (x : GrvTx) (g : RegField) : (setTx dev c x s).fld g = s.fld g := rfl
@[simp] theorem setTx_flag (s : State) (dev c : Nat) (x : GrvTx) (g : RegField) : (setTx dev c x s).flag g = s.flag g := rfl
@[simp] theorem setTx_byte (s : State) (dev c : Nat) (x : GrvTx) (i : Nat) : (setTx dev c x s).byte i = s.byte i := rfl
@[simp] theorem setTx_bytes (s : State) (dev c : Nat) (x : GrvTx) (i len : Nat) : (setTx dev c x s).bytes i len = s.bytes i len := rfl
@[simp] theorem setTx_core (s : State) (dev c : Nat) (x : GrvTx) (j : Nat) : (setTx dev c x s).core j = s.core j := rfl

@[simp] theorem setChan_mem (s : State) (c : Nat) (x : GrvChan) : (setChan c x s).mem = s.mem := rfl
@[simp] theorem setChan_memsys (s : State) (c : Nat) (x : GrvChan) : (setChan c x s).memsys = s.memsys := rfl
@[simp] theorem setChan_kvp (s : State) (c : Nat) (x : GrvChan) : (setChan c x s).kvp = s.kvp := rfl
@[simp] theorem setChan_spl (s : State) (c : Nat) (x : GrvChan) : (setChan c x s).spl = s.spl := rfl
@[simp] theorem setChan_sdb (s : State) (c : Nat) (x : GrvChan) : (setChan c x s).sdb = s.sdb := rfl
@[simp] theorem setChan_frameTab (s : State) (c : Nat) (x : GrvChan) : (setChan c x s).frameTab = s.frameTab := rfl
@[simp] theorem setChan_elapsed (s : State) (c : Nat) (x : GrvChan) : (setChan c x s).elapsed = s.elapsed := rfl
@[simp] theorem setChan_tim (s : State) (c : Nat) (x : GrvChan) : (setChan c x s).tim = s.tim := rfl
@[simp] theorem setChan_regs (s : State) (c : Nat) (x : GrvChan) : (setChan c x s).regs = s.regs := rfl
@[simp] theorem setChan_wos (s : State) (c : Nat) (x : GrvChan) : (setChan c x s).wos = s.wos := rfl
@[simp] theorem setChan_rdShadow (s : State) (c : Nat) (x : GrvChan) : (setChan c x s).rdShadow = s.rdShadow := rfl
@[simp] theorem setChan_wrStage (s : State) (c : Nat) (x : GrvChan) : (setChan c x s).wrStage = s.wrStage := rfl
@[simp] theorem setChan_resp (s : State) (c : Nat) (x : GrvChan) : (setChan c x s).resp = s.resp := rfl
@[simp] theorem setChan_out (s : State) (c : Nat) (x : GrvChan) : (setChan c x s).out = s.out := rfl
@[simp] theorem setChan_free (s : State) (c : Nat) (x : GrvChan) : (setChan c x s).free = s.free := rfl
@[simp] theorem setChan_evq (s : State) (c : Nat) (x : GrvChan) : (setChan c x s).evq = s.evq := rfl
@[simp] theorem setChan_crown (s : State) (c : Nat) (x : GrvChan) : (setChan c x s).crown = s.crown := rfl
@[simp] theorem setChan_owed (s : State) (c : Nat) (x : GrvChan) : (setChan c x s).owed = s.owed := rfl
@[simp] theorem setChan_sched (s : State) (c : Nat) (x : GrvChan) : (setChan c x s).sched = s.sched := rfl
@[simp] theorem setChan_hwd (s : State) (c : Nat) (x : GrvChan) : (setChan c x s).hwd = s.hwd := rfl
@[simp] theorem setChan_cmb (s : State) (c : Nat) (x : GrvChan) : (setChan c x s).cmb = s.cmb := rfl
@[simp] theorem setChan_rlk (s : State) (c : Nat) (x : GrvChan) : (setChan c x s).rlk = s.rlk := rfl
@[simp] theorem setChan_can (s : State) (c : Nat) (x : GrvChan) : (setChan c x s).can = s.can := rfl
@[simp] theorem setChan_bgh (s : State) (c : Nat) (x : GrvChan) : (setChan c x s).bgh = s.bgh := rfl
@[simp] theorem setChan_bghCore (s : State) (c : Nat) (x : GrvChan) : (setChan c x s).bghCore = s.bghCore := rfl
@[simp] theorem setChan_lcs (s : State) (c : Nat) (x : GrvChan) : (setChan c x s).lcs = s.lcs := rfl
@[simp] theorem setChan_sap (s : State) (c : Nat) (x : GrvChan) : (setChan c x s).sap = s.sap := rfl
@[simp] theorem setChan_pending (s : State) (c : Nat) (x : GrvChan) : (setChan c x s).pending = s.pending := rfl
@[simp] theorem setChan_reg (s : State) (c : Nat) (x : GrvChan) (r : Nat) : (setChan c x s).reg r = s.reg r := rfl
@[simp] theorem setChan_fld (s : State) (c : Nat) (x : GrvChan) (g : RegField) : (setChan c x s).fld g = s.fld g := rfl
@[simp] theorem setChan_flag (s : State) (c : Nat) (x : GrvChan) (g : RegField) : (setChan c x s).flag g = s.flag g := rfl
@[simp] theorem setChan_byte (s : State) (c : Nat) (x : GrvChan) (i : Nat) : (setChan c x s).byte i = s.byte i := rfl
@[simp] theorem setChan_bytes (s : State) (c : Nat) (x : GrvChan) (i len : Nat) : (setChan c x s).bytes i len = s.bytes i len := rfl
@[simp] theorem setChan_core (s : State) (c : Nat) (x : GrvChan) (j : Nat) : (setChan c x s).core j = s.core j := rfl

@[simp] theorem setBar_mem (s : State) (b : Nat) (x : GrvBar) : (setBar b x s).mem = s.mem := rfl
@[simp] theorem setBar_memsys (s : State) (b : Nat) (x : GrvBar) : (setBar b x s).memsys = s.memsys := rfl
@[simp] theorem setBar_kvp (s : State) (b : Nat) (x : GrvBar) : (setBar b x s).kvp = s.kvp := rfl
@[simp] theorem setBar_spl (s : State) (b : Nat) (x : GrvBar) : (setBar b x s).spl = s.spl := rfl
@[simp] theorem setBar_sdb (s : State) (b : Nat) (x : GrvBar) : (setBar b x s).sdb = s.sdb := rfl
@[simp] theorem setBar_frameTab (s : State) (b : Nat) (x : GrvBar) : (setBar b x s).frameTab = s.frameTab := rfl
@[simp] theorem setBar_elapsed (s : State) (b : Nat) (x : GrvBar) : (setBar b x s).elapsed = s.elapsed := rfl
@[simp] theorem setBar_tim (s : State) (b : Nat) (x : GrvBar) : (setBar b x s).tim = s.tim := rfl
@[simp] theorem setBar_regs (s : State) (b : Nat) (x : GrvBar) : (setBar b x s).regs = s.regs := rfl
@[simp] theorem setBar_wos (s : State) (b : Nat) (x : GrvBar) : (setBar b x s).wos = s.wos := rfl
@[simp] theorem setBar_rdShadow (s : State) (b : Nat) (x : GrvBar) : (setBar b x s).rdShadow = s.rdShadow := rfl
@[simp] theorem setBar_wrStage (s : State) (b : Nat) (x : GrvBar) : (setBar b x s).wrStage = s.wrStage := rfl
@[simp] theorem setBar_resp (s : State) (b : Nat) (x : GrvBar) : (setBar b x s).resp = s.resp := rfl
@[simp] theorem setBar_out (s : State) (b : Nat) (x : GrvBar) : (setBar b x s).out = s.out := rfl
@[simp] theorem setBar_free (s : State) (b : Nat) (x : GrvBar) : (setBar b x s).free = s.free := rfl
@[simp] theorem setBar_evq (s : State) (b : Nat) (x : GrvBar) : (setBar b x s).evq = s.evq := rfl
@[simp] theorem setBar_crown (s : State) (b : Nat) (x : GrvBar) : (setBar b x s).crown = s.crown := rfl
@[simp] theorem setBar_owed (s : State) (b : Nat) (x : GrvBar) : (setBar b x s).owed = s.owed := rfl
@[simp] theorem setBar_sched (s : State) (b : Nat) (x : GrvBar) : (setBar b x s).sched = s.sched := rfl
@[simp] theorem setBar_hwd (s : State) (b : Nat) (x : GrvBar) : (setBar b x s).hwd = s.hwd := rfl
@[simp] theorem setBar_cmb (s : State) (b : Nat) (x : GrvBar) : (setBar b x s).cmb = s.cmb := rfl
@[simp] theorem setBar_rlk (s : State) (b : Nat) (x : GrvBar) : (setBar b x s).rlk = s.rlk := rfl
@[simp] theorem setBar_can (s : State) (b : Nat) (x : GrvBar) : (setBar b x s).can = s.can := rfl
@[simp] theorem setBar_bgh (s : State) (b : Nat) (x : GrvBar) : (setBar b x s).bgh = s.bgh := rfl
@[simp] theorem setBar_bghCore (s : State) (b : Nat) (x : GrvBar) : (setBar b x s).bghCore = s.bghCore := rfl
@[simp] theorem setBar_lcs (s : State) (b : Nat) (x : GrvBar) : (setBar b x s).lcs = s.lcs := rfl
@[simp] theorem setBar_sap (s : State) (b : Nat) (x : GrvBar) : (setBar b x s).sap = s.sap := rfl
@[simp] theorem setBar_pending (s : State) (b : Nat) (x : GrvBar) : (setBar b x s).pending = s.pending := rfl
@[simp] theorem setBar_reg (s : State) (b : Nat) (x : GrvBar) (r : Nat) : (setBar b x s).reg r = s.reg r := rfl
@[simp] theorem setBar_fld (s : State) (b : Nat) (x : GrvBar) (g : RegField) : (setBar b x s).fld g = s.fld g := rfl
@[simp] theorem setBar_flag (s : State) (b : Nat) (x : GrvBar) (g : RegField) : (setBar b x s).flag g = s.flag g := rfl
@[simp] theorem setBar_byte (s : State) (b : Nat) (x : GrvBar) (i : Nat) : (setBar b x s).byte i = s.byte i := rfl
@[simp] theorem setBar_bytes (s : State) (b : Nat) (x : GrvBar) (i len : Nat) : (setBar b x s).bytes i len = s.bytes i len := rfl
@[simp] theorem setBar_core (s : State) (b : Nat) (x : GrvBar) (j : Nat) : (setBar b x s).core j = s.core j := rfl

end Sys2Proof.Machine
end

