-- ==== Sys2Proof/Tests/Slice0.lean ====
section
/-! SUPPORT. Tests: for every statement with hypotheses, a concrete state and operands that meet them. Each is a small fact that the kernel
evaluates; a fact about a free value is never among them. -/

namespace Sys2Proof.Tests

open Sys2Proof.Machine

-- One fact at a time: the kernel evaluates each.
set_option Elab.async false

/-! ### Small states -/

/-- The next state of an outcome, where it has one. -/
def nextOf (o : Host.Outcome State Fault Refusal) : Option State :=
  match o with
  | .next t => some t
  | .fault _ => none
  | .refused _ => none

/-- A module at READY in lifecycle state Field whose one Bark rule admits every origin everywhere. -/
def up : State :=
  let s := (State.reset.put F.SAP_BOOT_STAGE 5).put F.LCS_STAT_STATE 3
  let s := ((s.put (F.BRK_RULE_W0_EN 0 0) 1).put (F.BRK_RULE_W0_RD 0 0) 1).put (F.BRK_RULE_W0_WR 0 0) 1
  s.put (F.BRK_RULE_W3_NPG 0 0) 0x4000000

/-- A running job of context 3 on core 0. -/
def aJob : Job := { id := 7, ctx := 3, d := {}, qidx := 0, phase := .running, cores := [0], start := some 5 }

/-- Core 0 runs that job and decodes at pc 64; the row is in its fetch buffer, and p0 and p2 are 1. -/
def busy : State :=
  let s := (up.put (F.CRN_STATE_STATE 0) uRunning).put (F.CRN_STATE_CTX 0) 3
  let s := (s.put (F.SCH_CTX_STAT_STATE 3) ctxActive).put (F.SCH_CTX_CFG_EN 3) 1
  let s := s.setSched { s.sched with jobs := [aJob], nextId := 8 }
  s.setCore 0 { s.core 0 with pc := 64, fbuf := [(1, List.replicate 64 0)], p := 5 }

/-- `busy` with another core 0. -/
def with0 (f : Crown → Crown) : State := busy.setCore 0 (f (busy.core 0))

/-- The same state `us` microseconds after reset. -/
def later (us : Nat) (s : State) : State := { s with elapsed := us * 1000 * 2 ^ 32 }

/-- Ring `r` (in SIGTGT numbering) holds `n`. -/
def bell (r n : Nat) (s : State) : State := s.setReg ((ringReg r).getD 0) (BitVec.ofNat 32 n)

theorem calm_of {s : State} (h : (s.hwd.due.isEmpty && decide (seqState s ≠ seqStopping)) = true) : Calm s := by
  simp only [Bool.and_eq_true, List.isEmpty_iff, decide_eq_true_eq] at h
  exact h

theorem admitted_of {oid : BitVec 10} {ctx : BitVec 6} {off : Nat} {s : State}
    (h : (decide (issuer s oid.toNat ctx.toNat = some (oid.toNat, ctx.toNat)) && decide (portGate s oid.toNat (regBase + off) 4 true = .pass)
      && decide (judge s oid.toNat ctx.toNat (regBase + off) 4 true = none) && !(xpenDenied s oid.toNat off)) = true) : Admitted oid ctx off s := by
  simp only [Bool.and_eq_true, decide_eq_true_eq, Bool.not_eq_true'] at h
  exact ⟨h.1.1.1, h.1.1.2, h.1.2, h.2⟩

theorem atDecode_of {c : Fin 6} {pred : BitVec 3} {rs ps : List Nat} {s : State}
    (h : (coreRuns s c && !(s.core c).halted && !(s.core c).ended && (s.core c).seqWait.isNone && (s.core c).holdsRow ((s.core c).pc / 64)
      && decide ((s.core c).pendP = [])) = true)
    (hs : ∀ r ∈ rs, r = 0 ∨ r ∉ (s.core c).pendS) : AtDecode c pred rs ps s := by
  simp only [Bool.and_eq_true, Bool.not_eq_true', Option.isNone_iff_eq_none, decide_eq_true_eq] at h
  obtain ⟨⟨⟨⟨⟨h1, h2⟩, h3⟩, h4⟩, h5⟩, h6⟩ := h
  exact ⟨h1, h2, h3, h4, h5, by simp [h6], hs, by simp [h6]⟩

/-! ### The step, and the Crown cores -/

theorem test_reset_idles : nextOf (step State.reset) = some State.reset := by decide +kernel

/-- Decode meets every scalar, ring, tile, vector and tensor instruction with predicate p2 at `busy`, whatever its registers. -/
theorem test_Ready (rs ps : List Nat) : Ready 0 2 false rs ps busy :=
  have nothing : (busy.core 0).pendS = [] := by decide +kernel
  ⟨atDecode_of (by decide +kernel) fun r _ => .inr (by change r ∉ (busy.core 0).pendS; simp [nothing]), by unfold Chosen; decide +kernel, by unfold Flows; decide +kernel⟩

theorem test_SaturationIsNearest_RoundingIsNearestEven : 1 ≤ 8 ∧ smin 8 ≤ (-128) ∧ (-128 : Int) ≤ smax 8 ∧ 8 ≤ 9 ∧ |2 * (rne 3 1 * 2 ^ 1 - 3)| = 2 ^ 1 := by decide +kernel

theorem test_ScalarArithmetic_LogicShift_SelectCount_Compare_Predicates_Immediates :
    let f : FormA := { pred := 2, rd := 7, ra := 5, rb := 6 }
    let i : FormI := { pred := 2, rd := 7, ra := 5, imm := 64 }
    Ready 0 f.pred f.pn [f.rd.toNat, f.ra.toNat, f.rb.toNat, f.rc.toNat] [] busy ∧ Ready 0 f.pred f.pn [] [f.rd.toNat, f.ra.toNat, f.rb.toNat] busy
      ∧ Ready 0 i.pred i.pn [i.rd.toNat, i.ra.toNat] [] busy ∧ f.resv = 0 ∧ f.rc = 0 ∧ f.rd.toNat < 8 ∧ f.ra.toNat < 8 ∧ f.rb.toNat < 8 ∧ i.imm.toNat ≤ 64 :=
  ⟨test_Ready _ _, test_Ready _ _, test_Ready _ _, by decide, by decide, by decide, by decide, by decide, by decide⟩

/-- Core 0 at the last instruction of the innermost of four loops. -/
def looping : State := with0 fun k => { k with loops := List.replicate 4 ⟨0, 64, 2, 0⟩ }

theorem test_BranchesAndLoops :
    let k := busy.core 0
    let l := looping.core 0
    pcOk ((k.pc : Int) + 8 * (-8)) = true ∧ pcOk ((k.pc : Int) + 8 * 3 + 8) = true ∧ k.loops.length < 4 ∧ l.loops.length = 4 ∧ l.loops[3]? = some ⟨0, 64, 2, 0⟩
      ∧ pcOk (loopEnd l.pc (l.loops.drop 4)).2 = true ∧ coreRuns looping 0 = true := by decide +kernel

theorem test_LoopLogic : loopEnd 64 [⟨0, 64, 2, 0⟩] = ([⟨0, 64, 2, 1⟩], 0) ∧ loopEnd 64 [⟨0, 64, 2, 1⟩] = ([], 72) ∧ loopEnd 56 [⟨0, 64, 2, 1⟩] = ([⟨0, 64, 2, 1⟩], 64) := by
  decide +kernel

theorem test_ScalarLoads_ScalarStores : Aligned 0x17FFFF8 8 ∧ Sound 0 0x17FFFF8 8 busy ∧ Aligned 0x17FFFF0 16 ∧ Sound 0 0x17FFFF0 16 busy ∧ ¬ Aligned 0x17FFFFC 8 := by
  unfold Aligned Sound; decide +kernel

/-- Core 0 decodes a word of the undefined class 0xC. -/
def undefinedWord : State := with0 fun k => { k with fbuf := [(1, List.replicate 64 0xC0), (2, List.replicate 64 0)] }

theorem test_SequencerFaults : treikDecode 0 (bufferedWord (undefinedWord.core 0)) = none ∧ fetchAhead 0 undefinedWord = undefinedWord
    ∧ treikDecode 0 (wordA 0 0 { pred := 2, rd := 7, ra := 5, rb := 6 }) = some (.add 0 { pred := 2, rd := 7, ra := 5, rb := 6 })
    ∧ pcOk ((busy.core 0).pc - 8 * 9) = false := by decide +kernel

/-- Core 0 awaits a queued VEXT that writes s5. -/
def awaits : State := with0 fun k => { k with pendS := [5] }

theorem test_SkippedOrHeld : (awaits.core 0).pendS = [5] ∧ coreRuns awaits 0 = true ∧ (awaits.core 0).preg 2 = true ∧ (awaits.core 0).preg 1 = false
    ∧ coreRuns busy 1 = false := by decide +kernel

theorem test_RingInstructions : Room 0 .sync busy ∧ reached (ringVal busy 9) 0 = true ∧ reached (ringVal busy 9) 3 = false := by
  unfold Room; decide +kernel

theorem test_RingReached : reached 0 0x80000001 = true ∧ reached 0 0x80000000 = false ∧ reached 0 1 = false := by decide +kernel

/-- A tile of 8 rows of 512 bytes at stride 512, format 0. -/
def tile8 : Tile := BitVec.ofNat 128 (8 * 2 ^ 64 + 7 * 2 ^ 48 + 7 * 2 ^ 32)

/-- A tile of FMT `fmt`, `rows` rows of `len` bytes. -/
def tileOf (fmt rows len : Nat) : Tile := BitVec.ofNat 128 (len / 64 * 2 ^ 64 + fmt * 2 ^ 58 + (len / 64 - 1) * 2 ^ 48 + (rows - 1) * 2 ^ 32)

theorem test_TileInstructions : tile8.valid = true ∧ (tile8.withBaseRows 0x17FF000 7).valid = true ∧ tile8.base = 0 ∧ tile8.stride = 512 ∧ tile8.rows = 8 := by
  decide +kernel

theorem test_SystemInstructions : Ready 0 2 false [7] [] busy := test_Ready _ _

theorem test_VectorIssue_TensorIssue : Room 0 .twig busy ∧ Room 0 .array busy ∧ Room 0 .dma busy
    ∧ weightOk (tileOf 0 128 512) 0 = true ∧ (tileOf 0 128 512).rows = tileRows 0 false ∧ actOk tile8 0 = true ∧ sliceBytes 0 false ≤ tile8.len
    ∧ (tileOf 7 8 4096).fmt = 7 ∧ 4096 ≤ (tileOf 7 8 4096).len ∧ outShape { ow := 2 } tile8 = true ∧ 512 * fmtBits tile8.fmt / 8 ≤ tile8.len
    ∧ 512 ≤ (tileOf 4 8 1024).len := by
  unfold Room; decide +kernel

/-- A queue entry of core 0. -/
def entry (i : Instr) (t : Tile := 0) : QEntry := { op := i, pc := 64, word := 1, t0 := t }

/-- TWIG has `i` in front. -/
def twigs (i : Instr) : State := with0 fun k => { k with qTwig := [entry i] }

theorem test_TwigLanes_LaneReductions : engineRuns (twigs (.vadd 0 {})) 0 = true ∧ ((twigs (.vrsum 0 {})).core 0).qTwig = [entry (.vrsum 0 {})] := by decide +kernel

theorem test_AccumulatorFreezes : smin 36 < smax 36 - 1 ∧ smax 36 ≤ (smax 36 - 1) + 1 ∧ accFrozen (smax 36) = true ∧ accFrozen (smin 36) = true := by decide +kernel

theorem test_PartialSumIsExact : psum [(0, 3), (512, BitVec.ofInt 8 (-2))] #[5, 7] 0 = 1 ∧ spWf (fun _ => (0 : BitVec 8)) [(0, 3), (512, BitVec.ofInt 8 (-2))] = true := by decide +kernel

theorem test_EngineCommands :
    let a := with0 fun k => { k with qArray := [entry (.awld 0 {}) tile8] }
    let b := with0 fun k => { k with flArray := [entry (.awld 0 {})] }
    let d := with0 fun k => { k with qDma := [entry (.dzro 0 {})] }
    engineRuns a 0 = true ∧ (a.core 0).flArray = [] ∧ engineRuns b 0 = true ∧ (loadCodes 0 (entry (.awld 0 {})).t0 0 (List.range 1) [] b).2 = b
      ∧ (loadCodes 0 (entry (.awld 0 {})).t0 0 (List.range 1) [] b).1.isSome = true ∧ engineRuns d 0 = true ∧ (d.core 0).flDma = []
      ∧ Tile.rows (entry (.dzro 0 {})).t0 = 1 ∧ fencedAt d 0 0 64 = none ∧ suspectWords d (spBase 0) 64 = []
      ∧ engineRuns (with0 fun k => { k with ended := true }) 0 = true := by decide +kernel

theorem test_RingCommands :
    let q := with0 fun k => { k with qSync := [{ entry (.rsig 0 { ring := 9, imm := 3 }) with x := 3 }] }
    let w := { with0 (fun k => { k with seqWait := some (9, 1) }) with owed := [⟨9, 3, 0x11, 70, false, 0⟩] }
    engineRuns q 0 = true ∧ (q.core 0).qSync.length = 1 ∧ engineRuns w 0 = true ∧ barkPiece w 0x11 3 (regBase + ringSigReg 9) 4 true = none
      ∧ reached (ringVal w 9) 1 = false ∧ reached (ringVal (bell 9 1 w) 9) 1 = true := by decide +kernel

theorem test_ring_signal_adds : let w := { busy with owed := [⟨9, 3, 0x11, 70, false, 0⟩] }
    (nextOf (exec (.ringSignalApply 9) w)).map (fun t => t.reg (Reg.CRN_RING 0 9)) = some 70 := by decide +kernel

/-! ### Register writes and transactions -/

theorem test_SchedulerAndSafetyCommandsObeyed : Admitted 0 0 (Reg.SCH_CTX_CMD 63) up ∧ Admitted 1 0 Reg.SCH_UNITCMD up ∧ Admitted 1 0 Reg.SCH_OWN_CMD up
    ∧ Admitted 1 0 Reg.HWD_SAFECMD up ∧ Admitted 0x30 0 Reg.CMB_COMMIT up ∧ Admitted 1 0 Reg.CMB_AXCMD up ∧ Admitted 1 0 (Reg.RLK_P_MGCMD 15) up
    ∧ up.flag F.SCH_OWN_STAT_BUSY = false := by
  refine ⟨admitted_of ?_, admitted_of ?_, admitted_of ?_, admitted_of ?_, admitted_of ?_, admitted_of ?_, admitted_of ?_, ?_⟩ <;> decide +kernel

/-- `up` with the Boughs' image, pair 1 split. -/
def split1 : State := (up.put F.SAP_STAT_BIMG 1).put (F.BGH_PAIR_STAT_STATE 1) bgSplit

/-- `up` with the test access port open. -/
def maker : State := (up.put F.LCS_STAT_STATE 1).setLcs { up.lcs with tap := true }

theorem test_OtherCommandsObeyed : Admitted 1 0 (Reg.CFD_TXREQ 7) up ∧ Admitted 0 0 (Reg.CFD_CMD 7) up ∧ Admitted 1 0 (Reg.CFD_ECSET 0) (up.put F.SYS_XPEN_XPEN 0x7FFFFFF) ∧ Admitted 0 0 Reg.TIM_ADJ up
    ∧ adjLocked 5000000 up = false ∧ Admitted 0 0 (Reg.TIM_TXQ_POP 1) up ∧ Admitted 1 0 (Reg.TIM_CI_POP 7) up ∧ Admitted 0 0 (Reg.BGH_PAIR_CMD 3) up
    ∧ Admitted 0x23 0 (Reg.BGH_PAIR_CMD 1) split1 ∧ Admitted 0x22 0 (Reg.BGH_PAIR_CMD 1) split1 ∧ Admitted 1 0 (Reg.BGH_CORE_IPSET 7) up := by
  refine ⟨admitted_of ?_, admitted_of ?_, admitted_of ?_, admitted_of ?_, ?_, admitted_of ?_, admitted_of ?_, admitted_of ?_, admitted_of ?_, admitted_of ?_, admitted_of ?_⟩
    <;> decide +kernel

theorem test_OtherCommandsObeyed_lifecycle : Admitted 1 0 Reg.LCS_LCCMD up ∧ Admitted 2 0 Reg.LCS_FPROG_CMD maker ∧ Admitted 1 0 Reg.LCS_PITHCMD up ∧ Admitted 1 0 Reg.LCS_RBCMD up
    ∧ Admitted 1 0 Reg.SAP_RSTCMD up ∧ rstLocked up 1 0x52530001 = false ∧ Admitted 1 0 Reg.EVQ_DUMPCMD up := by
  refine ⟨admitted_of ?_, admitted_of ?_, admitted_of ?_, admitted_of ?_, admitted_of ?_, ?_, admitted_of ?_⟩ <;> decide +kernel

theorem test_calm : Calm up := calm_of (by decide +kernel)

theorem test_ReadsOfMemory_WritesOfMemory : Issues 0 0 up ∧ wiping up = false ∧ portGate up 0 0x17FFFFFFFF 1 true = .pass ∧ portGate up 0 0x17FFFFFFFF 1 false = .pass
    ∧ judge up 0 0 0x17FFFFFFFF 1 true = none ∧ judge up 0 0 0x17FFFFFFFF 1 false = none ∧ suspectWords up 0x17FFFFFFFF 1 = [] ∧ barAddr 1 0x17FFFFFFFF = some 0x17FFFFFFFF
    ∧ sdbLocked up 0x17FFFFFFFF 9 = false := by
  unfold Issues; decide +kernel

theorem test_WritesOfMemory_windows : judge up 0 0 (0x20000000000 + spBase 0) 1 true = none ∧ portGate up 0 (0x20000000000 + spBase 0) 1 true = .pass
    ∧ judge up 0 0 0x2022200FFF 1 true = none ∧ judge up 0x30 0 0x2021040000 1 true = none ∧ Issues 0x30 0 up ∧ judge maker 2 0 0x1000 4 true = none
    ∧ portGate maker 2 0x1000 4 true = .pass ∧ tapOpen maker = true := by
  unfold Issues; decide +kernel

theorem test_PortsAreTransactions : barAddr 0 0xFFFFFF = some 0x3000FFFFFF ∧ barAddr 0 0x1000000 = some 0x13000000000 ∧ barAddr 2 0x40000000 = some 0x22000000000
    ∧ barAddr 0 0x3000000 = none ∧ barAddr 1 0x2040000000 = none := by decide +kernel

theorem test_write_then_bytes : (nextOf (exec (.nocWrite 0 0 0x5003 [1, 2, 3] {}) up)).map (fun t => t.bytes 0x5002 5) = some [0, 1, 2, 3, 0] := by decide +kernel

theorem test_TapCommands : lcState maker ≠ lcBlank ∧ tapOpen maker = true ∧ maker.lcs.tap = true ∧ maker.fld F.SAP_BOOT_STAGE = 5
    ∧ (maker.reg Reg.LCS_CHG_MAKER).toNat < 0xFFFFFFFF ∧ tapOpen up = false := by decide +kernel

theorem test_RefusedAccesses : (judge up 1 0 (2 ^ 48 - 4) 4 true).isSome = true ∧ portGate up 1 (2 ^ 48 - 4) 4 true = .pass ∧ portGate up 2 0x5000 4 true = .closed
    ∧ portGate State.reset 1 0x5000 4 true = .early ∧ issuer up 1 0 = some (1, 0) ∧ issuer up 2 0 = some (2, 0) ∧ issuer State.reset 1 0 = some (1, 0) := by decide +kernel

/-- `up` with stream 2 enabled: its descriptor's bytes are locked. -/
def stream2 : State := up.put (F.SDB_STR_CTRL_EN 2) 1

theorem test_RefusedAccesses_locked : sdbLocked stream2 (0x2022200000 + 0x200) 9 = true ∧ judge stream2 0 0 (0x2022200000 + 0x200) 1 true = none
    ∧ portGate stream2 0 (0x2022200000 + 0x200) 1 true = .pass ∧ suspectWords stream2 (0x2022200000 + 0x200) 1 = [] := by decide +kernel

theorem test_RegisterWriteRequests : canCollide Reg.EVQ_COAL = true ∧ Admitted 0 0 Reg.EVQ_COAL up ∧ Admitted 1 0 Reg.EVQ_COAL up ∧ writerRank 1 < writerRank 0
    ∧ (fieldAt Reg.EVQ_COAL 0).isSome = true ∧ ringReg 9 = some (Reg.CRN_RING 0 9) ∧ Admitted 0 0 (ringSigReg 9) up := by
  refine ⟨?_, admitted_of ?_, admitted_of ?_, ?_, ?_, ?_, admitted_of ?_⟩ <;> decide +kernel

theorem test_WritesByAccessCode : let fs := ((findReg (Reg.SCH_CTX_CFG 63)).map fun d => d.fields).getD []
    fs.all (fun f => decide (f.lo ≤ f.hi ∧ f.hi < 32)) = true ∧ fs.Pairwise (fun f g => f.hi < g.lo ∨ g.hi < f.lo) ∧ 2 ≤ fs.length := by decide +kernel

theorem test_ring_signal_write : (nextOf (exec (.ringSignalRegisterWrite 0 0 9 0xFFFF) up)).map (fun t => t.reg (Reg.CRN_RING 0 9)) = some 0xFFFF := by decide +kernel

/-! ### The scheduler and the Page keeper -/

theorem test_ContextCommands : Admitted 0 0 (Reg.SCH_CTX_CFG 3) up ∧ up.flag F.SCH_LOCK_LOCK = false ∧ ctxState up 3 = ctxDisabled ∧ queuePending up 3 = 0
    ∧ Admitted 1 0 Reg.SCH_CTRL up ∧ ctxState busy 3 = ctxActive ∧ busy.flag (F.SCH_CTX_CFG_EN 3) = true
    ∧ ctxState (busy.put (F.SCH_CTX_STAT_STATE 3) ctxFaulted) 3 = ctxFaulted ∧ leastVt (busy.put F.SCH_CTRL_EN 1) 3 = none := by
  refine ⟨admitted_of ?_, ?_, ?_, ?_, admitted_of ?_, ?_, ?_, ?_, ?_⟩ <;> decide +kernel

/-- Core 2 in unit state `st`. -/
def unit2 (st : Nat) : State := up.put (unitField 2) st

/-- The job of `busy` in a stop that began at time 0. -/
def stopping : State := busy.setSched { busy.sched with jobs := [{ aJob with phase := .stopping }] }

theorem test_UnitsInAndOut : (unit2 uIdle).fld (unitField 2) = uIdle ∧ (unit2 uLost).sched.hot = [] ∧ (unitSt (unit2 uQuarantine) 2).passed = false
    ∧ (unit2 uQuarantine).flag F.HWD_STATE_RESTART = false ∧ stopping.fld (unitField 0) = uRunning
    ∧ stopOverdue (later 200000 stopping) { aJob with phase := .stopping } = true ∧ stopOverdue stopping { aJob with phase := .stopping } = false
    ∧ (∀ c < 64, stopping.flag (F.SCH_CTX_CFG_SAFE c) = false) := by decide +kernel

/-- An ownership command for two pages of core 0's scratchpad stands ready. -/
def ownReady : State := ((up.put F.SCH_OWN_ADDR_LO_ADDR_LO (spBase 0 % 2 ^ 32 / 0x1000)).put F.SCH_OWN_ADDR_HI_ADDR_HI (spBase 0 / 2 ^ 32)).put F.SCH_OWN_LEN_LEN 2

theorem test_OwnersChange : ownRange ownReady (spBase 0) 2 = some 0x1000 ∧ ownRange ownReady (spBase 0 + 1) 2 = none ∧ (ownCmdWritten 0x85 ownReady).sched.change.isSome = true
    ∧ clearTurn (ownCmdWritten 0x85 ownReady) .owner = true := by decide +kernel

/-- A descriptor in context 3's queue, for one core, and all units idle. -/
def queued3 : State :=
  let s := (((busy.put (F.SCH_CTX_QBASE_LO_BASE_LO 3) 0x400000).put (F.SCH_CTX_CFG_QSZ 3) 2).put (F.SCH_CTX_TAIL_TAIL 3) 1).put F.SCH_CTRL_EN 1
  let s := (List.range 7).foldl (fun s u => s.put (unitField u) uIdle) s
  s.setSched { jobs := [], nextId := 8, owner := [(spBase 0 / 0x1000, 3)] }

/-- The descriptor: user 0x1234, one core, everything else 0. -/
def rawJob : List Byte := leBytes 8 0x1234 ++ [0, 1, 0, 0] ++ List.replicate 244 0

theorem test_JobsEnterAndStart : headJob queued3 3 = none ∧ queuePending queued3 3 = 1 ∧ queueAddr queued3 3 0 = 0x40000000
    ∧ (nocRead 0 3 0x40000000 256 queued3).1.isSome = true ∧ (nocRead 0 3 0x40000000 256 queued3).2.sched = queued3.sched ∧ jobFault queued3 3 rawJob true = none
    ∧ (parseJob rawJob).deadline = 0 ∧ (jobFault queued3 3 (rawJob.set 8 2) true).isSome = true := by decide +kernel

/-- Its job waits at the head of the queue. -/
def waiting3 : State := queued3.setSched { queued3.sched with jobs := [{ id := 8, ctx := 3, d := parseJob rawJob, qidx := 0 }] }

theorem test_JobsEnterAndStart_dispatch : (topJob waiting3 true).isSome = true ∧ placeJob waiting3 { id := 8, ctx := 3, d := parseJob rawJob, qidx := 0 } = some [0]
    ∧ retainedFor waiting3 3 (spBase 0 / 0x1000) = true ∧ waiting3.flag F.SYS_STRICT_STRICT = false
    ∧ (jobOn (busy.setSched { busy.sched with jobs := [{ aJob with phase := .assigned }] }) 0 .assigned).isSome = true ∧ jobOn busy 0 .assigned = none := by decide +kernel

/-- The job of `busy` has reported its end on core 0. -/
def ended3 : State := busy.setSched { busy.sched with jobs := [{ aJob with ended := [0] }] }

/-- The job of `busy` is past its deadline. -/
def late3 : State := (busy.setSched { busy.sched with jobs := [{ aJob with deadline := some 0 }] }).put F.TIM_TIME_W1_NS 5

theorem test_JobsEnd : endedJob ended3 0 .running = some { aJob with ended := [0] } ∧ owedRings ended3 3 = []
    ∧ owedRings { ended3 with owed := [⟨6 * 1024 + 5, 3, 0x10, 4, true, 0⟩] } 3 ≠ [] ∧ endedJob busy 0 .running = none ∧ endedJob busy 0 .sealWait = none
    ∧ (endedJob (busy.setSched { busy.sched with jobs := [{ aJob with ended := [0], phase := .sealWait }] }) 0 .sealWait).isSome = true
    ∧ (lateJob late3 3).isSome = true ∧ lateJob busy 3 = none
    ∧ ctxState (busy.put (F.SCH_CTX_STAT_STATE 3) ctxTearing) 3 = ctxTearing := by decide +kernel

/-- Context 3 has one sequence of 9 tokens in page 1, and the record `raw` at the head of its queue. -/
def keeper (raw : List Byte) : State :=
  let s := (((up.put F.KVP_CTRL_EN 1).put F.KVP_POOLCH_CHUNKS 64).put (F.KVP_CQ_BASE_LO_BASE_LO 3) (0x40000000 / 64)).setReg 0x200010 0x80000000
  let s := (((s.put (F.KVP_CQ_CFG_QSZ 3) 4).put (F.KVP_CQ_CFG_EN 3) 1).put (F.KVP_CQ_CFG_DBRING 3) 9).put (F.KVP_CQ_QUOTA_MAX16 3) 60
  let s := s.setKvp { s.kvp with pages := [⟨64, 16, 1, false⟩], seqs := [⟨5, 3, 9, [(64, 9)], false, 0⟩], owner := [(1, 3)] }
  (bell (6 * 1024 + 9) 1 s).wrBytes 0x40000000 (raw ++ List.replicate (64 - raw.length) 0)

theorem test_PageKeeperCommands_new : let s := keeper [1, 0]
    suspectWords s dirBase 0x200000 = [] ∧ kvpNext s = some 3 ∧ (nocRead kvpOid 3 (kvpRecAddr s 3) 64 s).1 = some ([1, 0] ++ List.replicate 62 0)
      ∧ (nocRead kvpOid 3 (kvpRecAddr s 3) 64 s).2.kvp = s.kvp ∧ kvpReservedOk ([1, 0] ++ List.replicate 62 0) = true ∧ s.kvp.seqs.length < 4096 := by decide +kernel

theorem test_PageKeeperCommands_handle : let s := keeper ([7, 0] ++ leBytes 2 5)
    (kvpSeq s 3 5).isSome = true ∧ (kvpSeq s 3 6).isSome = false ∧ (kvPage s 64).ref < 2 ∧ 7 + 9 ≤ (kvPage s 64).toks ∧ s.kvp.exec = [] := by decide +kernel

/-- A WRITE of the one row of 256 codes and a tag, from 0x50000000 into slot 8 of the sequence. -/
def keeperWrite : State := keeper ([4, 0] ++ leBytes 2 5 ++ leBytes 4 1 ++ leBytes 6 0x50000000 ++ [0, 0] ++ leBytes 2 0 ++ leBytes 2 1 ++ [0, 0, 0, 0] ++ leBytes 4 8)

theorem test_PageKeeperCommands_write : let q : KvSeq := ⟨5, 3, 9, [(64, 9)], false, 0⟩
    (seqSlots q)[8]?.isSome = true ∧ 0 < kvpStreams keeperWrite ∧ kvpNext keeperWrite = some 3
    ∧ (nocRead kvpOid 3 0x50000000 ((2 * kvpDim keeperWrite + 67) / 64 * 64) (taken 3 keeperWrite)).1.isSome = true
    ∧ inScratch (spBase 0 + 0x1000) (0x1880 + 0x40 * kvpDim keeperWrite) = true ∧ (readTags 3 0 1 q (taken 3 keeperWrite)).1 = true := by decide +kernel

/-- An EXTEND of context 3 that waits since time 0 for `left` tokens, and no chunk is free. -/
def extending (ctx left psz : Nat) : KvExec := ⟨ctx, 5, left, psz, [], 0, left, none, none, [], [], [], 0x40000000, false, some 1, 0⟩

/-- Every chunk but chunk 0 and the last `free` is context 5's. -/
def poolFull (free : Nat) (l : List KvExec) : State :=
  (keeper []).setKvp { (keeper []).kvp with exec := l, owner := (List.range (63 - free)).map fun i => (i + 1, 5) }

theorem test_PageKeeperWaiting : let s := poolFull 0 [extending 3 20 5]
    allocSized 3 (nextSize 20 5) s 9 = none ∧ s.passed 0 (s.fld F.KVP_WAITLIM_LIMIT) = false ∧ (later 1000000 s).passed 0 (s.fld F.KVP_WAITLIM_LIMIT) = true
      ∧ clearTurn s (.page 64) = true ∧ (∀ e ∈ (poolFull 0 []).kvp.exec, e.wait = none ∧ e.asked = false) := by
  decide +kernel

/-- A context with a fitting place that its quota allows gets one, whichever is chosen. -/
theorem pickPlace_isSome {s : State} {c n : Nat} (h : (pagePlaces s c n).filter (fun x => x.2 = 0 || quotaOk s c x.2) ≠ []) : (pickPlace s c n).isSome = true := by
  unfold pickPlace
  generalize (pagePlaces s c n).filter (fun x => x.2 = 0 || quotaOk s c x.2) = l at h
  simp only [isSome_getElem?]
  exact Nat.mod_lt _ (List.length_pos_iff.mpr h)

/-- One chunk is free, and contexts 3 and 4 wait for it. -/
def contest : State := (poolFull 1 [extending 4 64 6, extending 3 64 6]).put (F.KVP_CQ_QUOTA_MAX16 4) 60

theorem test_PageKeeperWaiting_contest : pagePlaces contest 3 (nextSize 64 6) = [(63 * 64, 1)] ∧ quotaOk contest 3 1 = true ∧ (pickPlace contest 4 (nextSize 64 6)).isSome = true
    ∧ (pickPlace contest 3 (nextSize 64 6)).isSome = true ∧ pagePlaces (contest.setKvp { contest.kvp with owner := (63, 3) :: contest.kvp.owner }) 4 (nextSize 64 6) = [] :=
  ⟨by decide +kernel, by decide +kernel, pickPlace_isSome (by decide +kernel), pickPlace_isSome (by decide +kernel), by decide +kernel⟩

theorem test_KvpQuotaWrite : Admitted 0 0 (Reg.KVP_CQ_QUOTA 63) up ∧ up.flag F.KVP_LOCK_LOCK = false ∧ up.flag F.KVP_CTRL_EN = false :=
  ⟨admitted_of (by decide +kernel), by decide +kernel, by decide +kernel⟩

/-! ### Sapling, the memory system and Seedbed -/

/-- Sapling runs a job of context 3 with the descriptor `d` at 0x2000. -/
def sapling (d : List Byte) : State :=
  let s := ((busy.put F.SPL_STATE_STATE uRunning).put F.SPL_STATE_CTX 3).setSched { busy.sched with jobs := [{ aJob with cores := [6] }] }
  setSplDesc 0x2000 ((s.wrBytes 0x2000 (d ++ List.replicate (128 - d.length) 0)).put F.GRN_CTRL_EN 1)

/-- A NOP, and one that waits for ring GRN9 to reach 77. -/
def splNop0 : List Byte := 6 :: List.replicate 127 0
def splNopWait : List Byte := [6, 1, 0, 0] ++ leBytes 4 77 ++ leBytes 2 (6 * 1024 + 9) ++ List.replicate 118 0

theorem test_SaplingDescriptors : let s := sapling splNop0
    let u := (netRead splOid (splCtx s) (splDesc s) 128 s).2
    splRuns s = true ∧ s.spl.wait = none ∧ s.spl.held = none ∧ splDesc s % 128 = 0 ∧ (netRead splOid (splCtx s) (splDesc s) 128 s).1 = .inr splNop0
      ∧ dField splNop0 0 1 = 6 ∧ firstFail (headerChecks splNop0 ++ [zeroBytes splNop0 32 111]) = none ∧ (dField splNop0 1 1).testBit 0 = false
      ∧ firstFail (headerChecks (6 :: 8 :: List.replicate 126 0)) = some (2, 1) ∧ u.spl = s.spl ∧ splRuns up = false ∧ (writeback 1 0 0 (startDesc splNop0 u)).1 = none := by
  decide +kernel

theorem test_SaplingDescriptors_wait : let s := sapling splNopWait
    firstFail (headerChecks splNopWait ++ [zeroBytes splNopWait 32 111]) = none ∧ (dField splNopWait 1 1).testBit 0 = true
      ∧ reached (ringVal s (dField splNopWait 8 2)) (dField splNopWait 4 4) = false ∧ (netRingRead (dField splNopWait 8 2) splOid 3 s).1 = true := by decide +kernel

theorem test_SaplingResults : (candidates [5, -3, 7] (-3)).map (·.1) = [2, 0, 1] ∧ (∀ v ∈ [5, -3, 7], -128 ≤ (v : Int) ∧ (v : Int) ≤ 127) := by decide +kernel

/-- One flipped bit, 13, in the word at 1288, and the scrubber on. -/
def oneBad : State := (up.put (F.DRC_SCRUB_HOURS (dramChan 1280 / 32)) 24).setMs { up.memsys with synd := [(1288, eccColumns.getD 13 0)] }

theorem test_MemoryEngines : suspectWords oneBad 1280 256 = [1288] ∧ eccDecode (synd oneBad 1288) = .data 13 ∧ oneBad.flag (F.DRC_SCRUB_HOURS (dramChan 1280 / 32)) = true
    ∧ macRows 0 ≠ 0 ∧ place (rowAddr 0 8191) ≠ none ∧ groupLost (unit2 uLost) 0xF002 = true ∧ groupLost up 0xF002 = false := by decide +kernel

theorem test_scrub_mends_bit_13 : (nextOf (exec (.patrolScrub 5 {}) oneBad)).map (fun t => (synd t 1288, t.byte 1289)) = some (0, 0x20) := by decide +kernel

/-- A bulk clear of two 2 MiB units at 6 MiB stands ready. -/
def clearReady : State := (up.put F.MEM_BCLR_ADDR_LO_ADDR_LO 3).put F.MEM_BCLR_LEN_LEN 2

theorem test_MemoryEngines_clear : clearReady.flag F.MEM_BCLR_STAT_BUSY = false ∧ clearReady.flag F.KVP_CTRL_EN = false ∧ clearReady.sched.change = none
    ∧ ownerOf clearReady 3 = 64 ∧ ownerOf clearReady 4 = 64 ∧ ((nextOf (exec .bulkClear clearReady)).map fun t => t.memsys.clears) = some [⟨0x600000, 0x400000, .role 0⟩] := by
  decide +kernel

/-- Stream 2 takes frames of 4 lines of 64 pixels RAW10 from receiver 1, virtual channel 0. -/
def camera : List Byte := [1, 0, 0x2B, 0] ++ leBytes 2 64 ++ leBytes 2 4 ++ List.replicate 6 0 ++ leBytes 2 (6 * 1024 + 7) ++ List.replicate 12 0 ++ leBytes 2 3
  ++ List.replicate 226 0

/-- The stream is enabled and its receiver on. -/
def seedbed : State :=
  let s := (((up.put F.SDB_CTRL_EN 1).put (F.CSI_CTRL_EN 1) 1).put F.GRN_CTRL_EN 1).put (F.SDB_STR_CTRL_EN 2) 1
  (s.wrBytes 0x2022200200 camera).setSdb { s.sdb with streams := [(2, { desc := camera })] }

theorem test_FramesBecomeSamples : rxOn seedbed 1 = true ∧ openFrame seedbed 1 0 = none ∧ claimant seedbed 1 0 = some 2 ∧ claimant seedbed 1 5 = none
    ∧ hasCredit seedbed (sdDesc seedbed 2) (sdStream seedbed 2) = true ∧ (leAt (sdDesc seedbed 2) 129 1).testBit 4 = false ∧ (leAt (sdDesc seedbed 2) 11 1).testBit 3 = false
    ∧ rxOn up 1 = false ∧ Admitted 0 0 (Reg.SDB_STR_CTRL 15) up ∧ up.flag F.SDB_LOCK_LOCK = false := by
  refine ⟨?_, ?_, ?_, ?_, ?_, ?_, ?_, ?_, admitted_of ?_, ?_⟩ <;> decide +kernel

theorem test_FramesBecomeSamples_frame : ((nextOf (exec (.csiFrameStart 1 0 77 0) seedbed)).bind fun t => openFrame t 1 0).map (fun g => (g.n, g.bad, g.samp.isSome, g.stream))
    = some (0, false, true, 2) ∧ cameraDt 0x2B = true ∧ lineBytes 0x2B 64 = 80 := by decide +kernel

/-- Stream 2 holds one ready sample that fails with status 0x18, an open row, a test pattern and a frame start of time 0. -/
def seedbedFull : State :=
  let f : SdbSample := { id := 1, desc := camera, r := {}, st := some 0x18, ready := true }
  seedbed.setSdb { seedbed.sdb with streams := [(2, { desc := camera, tp := true, start := some (0, 0), flights := [f] })] }

theorem test_FramesBecomeSamples_more : ((sdStream seedbedFull 2).flights[0]?.map fun f => (f.ready, f.strict, f.st)) = some (true, false, some 0x18)
    ∧ (sdStream seedbedFull 2).row = none ∧ (sdStream seedbedFull 2).tp = true ∧ hostDescBad (List.replicate 4 0 ++ leBytes 2 8192 ++ leBytes 2 2 ++ List.replicate 56 0) = none
    ∧ hostDescBad (List.replicate 4 0 ++ leBytes 2 8194 ++ leBytes 2 2 ++ List.replicate 56 0) = some 4 ∧ (later 9 seedbedFull).passed 0 9 = true := by decide +kernel

/-! ### Heartwood, Cambium and the root links -/

/-- Heartwood in NORMAL with its firmware and configuration; the gate is open. -/
def normal : State := (((up.put F.HWD_STATE_SEQ seqNormal).put F.HWD_STATE_GATE 1).put F.SAP_STAT_HWFW 1).put F.SAP_STAT_ICFG 1

/-- Gate channel 1 of context 3 is enabled, with one submission in its doorbell GRN9. -/
def gateOne : State :=
  let s := (((normal.put (F.HWD_GCH_CFG_EN 1) 1).put (F.HWD_GCH_CFG_CTX 1) 3).put (F.HWD_GCH_CFG_DBRING 1) 9).put (F.HWD_GCH_CFG_RETRING 1) 11
  bell (6 * 1024 + 9) 1 (s.put F.GRN_CTRL_EN 1)

/-- A chunk header of one step of 1 ms for axis 1 at time 1 ms, with position and velocity. -/
def chunk1 : List Byte := leBytes 2 1 ++ leBytes 2 1 ++ leBytes 4 5 ++ leBytes 8 1000000 ++ leBytes 4 1000 ++ List.replicate 12 0 ++ leBytes 16 2 ++ List.replicate 16 0
  ++ List.replicate 8 7

/-- Channel 1 holds it, checked: it may start at its first step. -/
def gateReady : State := setGate 1 { gateChan gateOne 1 with sub := some { raw := chunk1, owned := true, ready := some (1000000, 0) } } gateOne

theorem test_GatePassesOnlyPlausibleChunks : inRack gateOne = false ∧ gateOne.hwd.stopped = false ∧ (gateChan gateOne 1).sub = none ∧ (gatePending 1 gateOne).1 = 1
    ∧ gateOne.flag F.HWD_STATE_GATE = true ∧ (gateChan gateReady 1).sub.isSome = true ∧ (bufferBytes chunk1 1000000 0).length = 72 ∧ normal.hwd.due = []
    ∧ seqState normal ≠ seqStopping ∧ Admitted 1 0 (Reg.HWD_GCH_CFG 3) normal ∧ normal.flag F.HWD_LOCK_LOCK = false ∧ gateEnLocked normal 3 = false := by
  refine ⟨?_, ?_, ?_, ?_, ?_, ?_, ?_, ?_, ?_, admitted_of ?_, ?_, ?_⟩ <;> decide +kernel

/-- The chunk's page is not owned: R329's first check fails. -/
theorem test_GateCheck : (gateChecks gateOne 1 { raw := chunk1, owned := false }).isLeft = true ∧ (gateChan gateOne 1).imp + 1 < up.fld F.HWD_SAFECFG_IMPLIM + 2 := by decide +kernel

theorem test_commit_takes_the_chunk : (nextOf (exec (.gateCommit 1 3) gateReady)).map (fun t => (t.fld F.HWD_ACCEPT_CNT, t.fld (F.HWD_GCH_LASTSEQ_SEQ 1), t.fld F.CMB_CHSTAT_PENDING))
    = some (1, 5, 2) := by decide +kernel

theorem test_SafeStateSequencer : (hwdDue 5 normal).hwd.due ≠ [] ∧ (∀ c ∈ (hwdDue 5 normal).hwd.due, 1 ≤ c.code ∧ c.code ≤ 0xB) ∧ seqState normal = seqNormal
    ∧ inRack normal = false ∧ heartbeatLate (later 10000000 normal) = true
    ∧ normal.flag F.SAP_STAT_HWFW = true ∧ normal.flag F.SAP_STAT_ICFG = true ∧ inRack (normal.put F.HWD_STATE_SPLIT 1) = true := by decide +kernel

theorem test_fallback_from_normal : let t := hwdServe (hwdDue 1 normal)
    seqState t = seqFallback ∧ t.hwd.fb = true ∧ t.fld F.HWD_STATE_CAUSE = 1 ∧ t.flag F.HWD_STATE_GATE = false := by decide +kernel

/-- The words W1 to W3 of rule 511 are staged by the installer. -/
def ruleStaged : State := { normal with wrStage := (List.range 3).foldl (fun m k => spSet none (shadowKey 1 (Reg.BRK_RULE_W0 3 127 + 4 * (k + 1))) (some 0x3FF) m) [] }

theorem test_SafeStateSequencer_rule : Admitted 1 0 (Reg.BRK_RULE_W0 3 127) ruleStaged ∧ spGet none ruleStaged.wrStage (shadowKey 1 (Reg.BRK_RULE_W0 3 127 + 12)) = some 0x3FF
    ∧ ruleStaged.flag F.BRK_LOCK_LOCK = false := ⟨admitted_of (by decide +kernel), by decide +kernel, by decide +kernel⟩

/-- Axis 5 of station 0 and axis 6 of station 1 stand behind port 2, which is UP; joint cycles of 1 ms run, and TIM is at 5.5 ms. -/
def cycling : State :=
  let s := (((normal.put F.CMB_PERIOD_PERUS 1000).put F.RLK_CTRL_EN 1).put F.CMB_CTRL_EN 1).put F.TIM_TIME_W1_NS 5500000
  let s := (((s.put (F.RLK_P_STAT_STATE 2) rlkUp).put (F.RLK_P_STAT_REACH 2) 2).put (F.RLK_P_S_CFG_NAX 2 0) 1).put (F.RLK_P_S_CFG_NAX 2 1) 1
  let ax (a st : Nat) (s : State) : State := ((s.wrBytes (axRec a + 0x108) [2, BitVec.ofNat 8 st, 0, 1]).wrN (axRec a + 0xF2) 2 100).put (F.CMB_AX_STAT_STATE a) axActive
  ax 6 1 (ax 5 0 s)

theorem test_JointCycles : boundaryBefore cycling cycling.ns = some 5000000 ∧ boundaryBefore (up.put F.CMB_PHASE_PHNS 5) 0 = none ∧ cycling.cmb.since ≤ 5000000 ∧ axOn cycling 5 = true
    ∧ axPlace cycling 5 = (2, 0, 0) ∧ portState cycling 2 = rlkUp ∧ cycling.memsys.synd = [] ∧ axState cycling 6 = axActive ∧ portReady up 2 = false := by decide +kernel

/-- The cycle has begun, and station 0's sample has come. -/
def sampled : State :=
  let s := { cycling with cmb := { cycling.cmb with bound := some 5000000, last := some 5000000, cycle := 1 } }
  modPort 2 (fun x => { x with got := [(0, leBytes 2 0 ++ [1] ++ leBytes 5 0 ++ leBytes 4 1234 ++ leBytes 4 5 ++ leBytes 2 3 ++ leBytes 2 1 ++ leBytes 4 0)] }) s

theorem test_JointCycles_law : portReady (modPort 2 (fun x => { x with closed := true }) sampled) 2 = true ∧ (cmbAxis sampled 5).done = false ∧ (rlkPort sampled 2).mg = 0
    ∧ slotBlock { sampled with hwd := { sampled.hwd with sto := true } } 2 0 0 = [0, 0, 2, 0, 0, 0, 0, 0] ∧ recS (axRecord sampled 5) 0xF0 2 ≤ recS (axRecord sampled 5) 0xF2 2
    ∧ axState sampled 5 = axActive ∧ axSrc sampled 5 = srcSto := by decide +kernel

/-- A chunk for axis 5 is pending in channel 1, due at 6 ms. -/
def chunkDue : State :=
  let b := pendBuf sampled 1
  ((((sampled.wrN (b + 8) 2 3).wrN (b + 12) 4 1000).wrN (b + 16) 16 (2 ^ 5)).put F.CMB_CHSTAT_PENDING 2).put (F.CMB_AX_STAT_SRC 5) srcHold

theorem test_JointCycles_switch : bitAt (chunkDue.fld F.CMB_CHSTAT_PENDING) 1 = true ∧ spGet 0 chunkDue.cmb.commitAt 1 < 6000000 ∧ bufTs chunkDue (pendBuf chunkDue 1) ≤ 6000000
    ∧ (6000000 - bufTs chunkDue (pendBuf chunkDue 1)) % 1000000 = 0 ∧ axSrc (switchChannel 6000000 ([], chunkDue) 1).2 5 = srcChunk := by decide +kernel

/-- The words of station 0's SAMPLE frame of cycle 1 on the line, scrambled from a register of zeros. -/
def sampleFrame : RlkFrame :=
  let scramble (pre x : Nat) : Nat := (List.range 64).foldl (fun w i => if (x.testBit i ^^ w.testBit (i + 19)) ^^ w.testBit i then w + 2 ^ (58 + i) else w) pre / 2 ^ 58
  let blocks := linkFrame 2 0 1 (leBytes 2 0 ++ [1] ++ leBytes 5 0 ++ leBytes 4 1234 ++ leBytes 4 5 ++ leBytes 2 3 ++ leBytes 2 1 ++ leBytes 4 0)
  ⟨0, (blocks.foldl (fun (r : Nat × List LineBlock) b => let y := scramble r.1 b.bits.toNat
    ((r.1 + y * 2 ^ 58) / 2 ^ 64, r.2 ++ [⟨b.sync, BitVec.ofNat 64 y⟩])) (0, [])).2⟩

theorem test_LinksAndStations_frame : ((received sampleFrame).frame.map fun g => (frameOk g, frameHop g, frameType g, leAt g.hdr 2 1)) = some (true, 0, 2, 1) := by decide +kernel

theorem test_LinksAndStations : portReach sampled 2 = 2 ∧ (rlkPort sampled 2).closed = false ∧ sampled.cmb.bound ≠ none ∧ portState up 2 = rlkDisabled
    ∧ (rlkPlan (rlkGap cycling) [⟨1, 1000, 756⟩, ⟨1, 1000, 756⟩]).need ≤ (periodNs cycling * 10 : Nat) ∧ 0 ≤ (rlkPlan (rlkGap cycling) [⟨1, 1000, 756⟩, ⟨1, 1000, 756⟩]).close
    ∧ (rlkPlan (rlkGap cycling) [⟨1, 1000, 756⟩, ⟨1, 1000, 756⟩]).close < 2 ^ 24 := by decide +kernel

/-! ### CAN, time, Ethernet and Grove -/

/-- CAN controller 2 is active, with buffer 0 pending. -/
def canOn : State := canRequest 2 1 ((up.put (F.CFD_STAT_STATE 2) canActive).put (F.CFD_CTRL_MODE 2) 1)

theorem test_CanControllers : canOnBus canOn 2 = true ∧ canPending canOn 2 0 = true ∧ canPending canOn 2 1 = false ∧ (canSt canOn 2).cur = none
    ∧ canState (canOn.put (F.CFD_STAT_STATE 2) canSleep) 2 = canSleep ∧ canState up 2 = canInit ∧ canOnBus up 2 = false := by decide +kernel

/-- A counter of 128 is error-passive, TEC 256 is bus-off (18_can_fd.md). -/
theorem test_setCounts : canState (setCounts 2 127 127 canOn) 2 = canActive ∧ canState (setCounts 2 128 0 canOn) 2 = canPassive ∧ canState (setCounts 2 256 0 canOn) 2 = canBusOff := by
  decide +kernel

theorem test_TimebaseAndPorts : (∀ e ∈ up.kvp.exec, e.wait = none ∧ e.asked = false) ∧ up.pending = [] ∧ (∀ c : Fin 6, coreRuns up c = false) ∧ (∀ c < 8, bghRuns up c = false)
    ∧ Admitted 0 0 Reg.TIM_SET_W0 up ∧ stepAllowed up = true ∧ Admitted 1 0 Reg.TIM_INCR_LO up ∧ 19 * 2 ^ 32 ≤ 10 * timIncr up ∧ 10 * timIncr up ≤ 21 * 2 ^ 32
    ∧ Admitted 0 0 (Reg.TIM_PO_CTRL 7) up ∧ up.flag (F.TIM_PO_CTRL_EN 7) = false := by
  refine ⟨?_, ?_, ?_, ?_, admitted_of ?_, ?_, admitted_of ?_, ?_, ?_, admitted_of ?_, ?_⟩ <;> decide +kernel

/-- Pulse output 3 of period 100 ns and width 4 ns: the least that R428 admits; the widest is 96 ns. -/
def pulse3 : State := (up.put (F.TIM_PO_PERIOD_NS 3) 100).put (F.TIM_PO_WIDTH_NS 3) 4

theorem test_TimebaseAndPorts_pulse : 4 ≤ pulse3.fld (F.TIM_PO_WIDTH_NS 3) ∧ pulse3.fld (F.TIM_PO_WIDTH_NS 3) + 4 ≤ pulse3.fld (F.TIM_PO_PERIOD_NS 3)
    ∧ (up.put (F.TIM_CI_CTRL_EN 3) 1).flag (F.TIM_CI_CTRL_EN 3) = true ∧ (spGet [] up.tim.ciq 3).length < 16 := by decide +kernel

/-- Port 1 is up; `ptp` is a multicast PTP frame of the least length. -/
def ethUp : State := (up.put (F.ETH_CTRL_EN 1) 1).put (F.ETH_STAT_LINK 1) 1
def ptp : List Byte := List.replicate 6 0xFF ++ [1, 2, 3, 4, 5, 6, 0x88, 0xF7] ++ List.replicate 46 0

theorem test_TimebaseAndPorts_frames : keeps ethUp 1 (beAt ptp 0 6) = true ∧ ptp.length = 60 ∧ isPause ethUp 1 ptp = false ∧ isPtp ptp = true
    ∧ udpPort ptp ≠ some (ethUp.fld F.GRV_UDPPORT_PORT) ∧ ethUp.grove.tx = [] ∧ txNext ethUp 1 = none := by decide +kernel

/-- Grove channel 5 with its doorbell GRN9, which has counted one descriptor `d` at 0x2000. -/
def grove (d : List Byte) : State :=
  let s := (((up.put F.GRV_CTRL_EN 1).put (F.GRV_CH_CFG_EN 5) 1).put (F.GRV_CH_CFG_DBRING 5) 9).put (F.GRV_CH_CFG_QSZ 5) 4
  let s := ((s.put (F.GRV_CH_QBASE_LO_BASE_LO 5) 0x100).put F.GRN_CTRL_EN 1).put F.TIM_SYNC_LOCKED 1
  bell (6 * 1024 + 9) 1 (s.wrBytes 0x2000 d)

/-- A WRITE of 5,000 bytes to device 7. -/
def writeDesc : List Byte := [1, 0] ++ leBytes 2 7 ++ leBytes 4 5000 ++ leBytes 8 0x10000 ++ leBytes 8 0x20000 ++ List.replicate 8 0

theorem test_GroveStreamsAndBarriers : chanOn (grove writeDesc) 5 = true ∧ grvPending (grove writeDesc) 5 = 1 ∧ (grvChan (grove writeDesc) 5).sigs = []
    ∧ grvDescBad (grove writeDesc) writeDesc = none ∧ (netRead grvOid 5 (grvDescAddr (grove writeDesc) 5 0) 32 (grove writeDesc)).1 = .inr writeDesc
    ∧ (cutDgs 4096 0 writeDesc).map (fun g => (g.len, g.arg, g.flags)) = [(4096, 0x20000, 0), (904, 0x21000, 2)] ∧ chanOn up 5 = false := by decide +kernel

/-- A datagram of TYPE `ty` from device 7 on channel 5. -/
def datagram (ty seq len arg : Nat) (data : List Byte) : List Byte :=
  [BitVec.ofNat 8 (16 * ty + 1), 0] ++ leBytes 2 7 ++ leBytes 2 0 ++ [5, 0] ++ leBytes 4 seq ++ leBytes 4 len ++ leBytes 8 arg ++ List.replicate 8 0 ++ data

theorem test_GroveStreamsAndBarriers_receive : dgOk (grove []) (datagram 1 0 4 0x9000 [1, 2, 3, 4]) = true ∧ dgOk (grove []) (datagram 1 0 5 0x9000 [1, 2, 3, 4]) = false
    ∧ dgOk (grove []) (datagram 3 0 0 0 []) = true ∧ (spGet {} (grove []).grove.rx (streamKey 7 5)).next = 0 ∧ devId (grove []) = 0 := by decide +kernel

theorem test_write_datagram_applies_once : (nextOf (exec (.writeDatagram (datagram 1 0 4 0x9000 [1, 2, 3, 4])) (grove []))).map
    (fun t => (t.bytes 0x9000 4, (spGet {} t.grove.rx (streamKey 7 5)).next)) = some ([1, 2, 3, 4], 1) := by decide +kernel

/-- Barrier 3 of two participants, coordinated here, with ring GRN9 as arrival and GRN10 as release ring. -/
def barrier3 : State := (((grove []).put (F.GRV_BAR_CFG_EN 3) 1).put (F.GRV_BAR_CFG_ARING 3) 9).put (F.GRV_BAR_CFG_RRING 3) 10 |>.put (F.GRV_BAR_PART_NM1 3) 1

theorem test_GroveStreamsAndBarriers_barrier : ringVal barrier3 (6 * 1024 + 9) ≠ (grvBar barrier3 3).base ∧ barrier3.fld (F.GRV_BAR_PART_COORD 3) = devId barrier3
    ∧ barrier3.fld (F.GRV_BAR_STAT_STATE 3) ≠ barArrived ∧ (grvBar barrier3 3).now = [] ∧ barrier3.flag F.GRN_CTRL_EN = true := by decide +kernel

/-! ### The Bough pairs, lifecycle, power and events -/

/-- The Boughs' image is loaded, and pair 1 is in state `st`. -/
def pair1 (st : Nat) : State := (up.put F.SAP_STAT_BIMG 1).put (F.BGH_PAIR_STAT_STATE 1) st

theorem test_BoughPairs : pairsHeld (pair1 bgLockstep) = false ∧ pairState (pair1 bgSplitting) 1 = bgSplitting ∧ pairState (pair1 bgJoining) 1 = bgJoining
    ∧ pairState (pair1 bgSelftest) 1 = bgSelftest ∧ (bghPair (pair1 bgQuarantine) 1).passed = false ∧ bghRuns (pair1 bgLockstep) 2 = true ∧ bghRuns (pair1 bgLockstep) 3 = false
    ∧ bghRuns (pair1 bgSplit) 3 = true ∧ eccDecode 3 = .bad ∧ (crc32c [1] ≠ crc32c [2]) ∧ bghRuns up 2 = false := by decide +kernel

theorem test_split_copies_the_leader : let s := (pair1 bgSplitting).setReg (Reg.BGH_CORE_IPEND 3) 5
    (nextOf (exec (.splitComplete 1 0 0) s)).map (fun t => (pairState t 1, t.fld (F.BGH_CORE_IPEND_PEND 3))) = some (bgSplit, 0) := by decide +kernel

theorem test_LifecycleResetsAndBoot : (startWipe 2 1 maker).lcs.wipe = some (2, 1) ∧ tripping maker 1 = 1 ∧ tripping maker 0 = 0 ∧ maker.lcs.prog = none
    ∧ transitionOk maker 2 lcEnd = true ∧ transitionOk maker 1 lcEnd = false ∧ maker.flag F.LCS_FPROG_STAT_BUSY = false ∧ tapOpen maker = true ∧ maker.sap.held = none
    ∧ (globalReset 1 0 (maker.setSap { maker.sap with power := true })).sap.held = some (1, 0) := by decide +kernel

theorem test_wipe_clears_pith : let s := (maker.wrN (pithBase + 5) 1 7).wrN 100 1 9
    ((startWipe 2 1 s).byte (pithBase + 5), (startWipe 2 1 s).byte 100) = (0, 9) := by decide +kernel

theorem test_LifecycleResetsAndBoot_fuses : resolveFuse (burn 50 0xF0 0xE0 0xF0 maker) 50 = (0xF0, 1) ∧ resolveFuse maker 50 = (0, 0) := by decide +kernel

/-- A firmware image of the maker for the Boughs, of three bytes. -/
def image2 : BootImage := ⟨2, 0x31494B54, 2, 0, true, true, true, (hashWords State.reset 4).map (BitVec.ofNat 32), 0, 0, [1, 2, 3], {}⟩

theorem test_LifecycleResetsAndBoot_image : imageFault State.reset 2 { image2 with hashOk := false } = some 2 ∧ imageFault State.reset 1 image2 = some 1
    ∧ imageAllowed lcField 2 1 = true ∧ imageAllowed lcMaker 4 0 = false := by decide +kernel

theorem test_hostReady : let s := up.setSap { up.sap with l0 := true, told := false }
    s.fld F.SAP_BOOT_STAGE = 5 ∧ s.sap.l0 = true ∧ s.sap.told = false := by decide +kernel

theorem test_PowerEventsAndDumps : adaptive 4 = true ∧ adaptive 12 = false ∧ 1100 ≤ spGet 1700 up.sap.mv 4 ∧ spGet 1700 up.sap.mv 4 ≤ 1900 ∧ up.sap.base = none
    ∧ up.flag F.SYS_STRICT_STRICT = false ∧ up.flag F.SAP_STAT_THROT = false ∧ strictFree up = true ∧ up.flag F.SYS_LOCK_STRICT_LK = false
    ∧ Admitted 1 0 Reg.SYS_STRICT up ∧ up.sched.hot = [] ∧ evqFull up = false := by
  refine ⟨?_, ?_, ?_, ?_, ?_, ?_, ?_, ?_, ?_, admitted_of ?_, ?_, ?_⟩ <;> decide +kernel

/-- BATLOW is set below 2.60 V (R489). -/
theorem test_vbat_limit : (nextOf (exec (.vbatLowDetect 2599) up)).map (fun t => t.flag F.SAP_VBAT_BATLOW) = some true
    ∧ (nextOf (exec (.vbatLowDetect 2600) up)).map (fun t => t.flag F.SAP_VBAT_BATLOW) = some false := by decide +kernel

theorem test_PowerEventsAndDumps_dump : let s := dumpTrigger ⟨3, 0, 0⟩ up
    s.evq.dump = none ∧ s.evq.want = some ⟨3, 0, 0⟩ ∧ dumpSlot s = some 1 ∧ wiping s = false ∧ (dumpTrigger ⟨3, 0, 0⟩ s).evq.held = some ⟨3, 0, 0⟩ := by decide +kernel

theorem test_PowerEventsAndDumps_record : let e : EvRec := { code := 0x1234, oid := 0x21, ctx := 3, sev := 2 }
    let t := acceptEv e (up.put F.EVQ_CTRL_EN 1)
    t.evq.queue.length = 1 ∧ t.fld F.EVQ_SEQ_SEQ = 0 ∧ (recordBytes e).length = 32 ∧ (acceptEv e up).evq.queue = [] := by decide +kernel

theorem test_EveryStepKeepsForm : Canonical State.reset ∧ nextOf (step (State.reset.setEvq {})) ≠ none := by
  unfold Canonical; decide +kernel

end Sys2Proof.Tests
end

