-- ==== Sys2Proof/WellFormed.lean ====
section
/-! DEFINITION. Which commands a sender can form: `Instr.wf` checks a command's operands against what the spec says an agent outside the block can
send. A meaning is defined on every command; an ill-formed one is a command that no agent sends. -/

namespace Sys2Proof

/-- The OIDs of the table of R31; no transaction carries another. -/
def oidWf (oid : BitVec 10) : Bool :=
  let o := oid.toNat
  o ≤ 0x002 || (0x010 ≤ o && o ≤ 0x015) || (0x018 ≤ o && o ≤ 0x01A) || (0x020 ≤ o && o ≤ 0x02B) || (0x030 ≤ o && o ≤ 0x035) ||
    o == 0x038 || o == 0x03F

/-- The OIDs whose context number R31 marks as meaningful. -/
def oidHasCtx (oid : BitVec 10) : Bool :=
  let o := oid.toNat
  (0x010 ≤ o && o ≤ 0x015) || (0x018 ≤ o && o ≤ 0x01A) || (0x020 ≤ o && o ≤ 0x02B) || o == 0x034 || o == 0x035

/-- An origin of R31: an OID of the table, with context 0 where the context number is not meaningful. -/
def originWf (oid : BitVec 10) (ctx : BitVec 6) : Bool := oidWf oid && (oidHasCtx oid || ctx == 0)

/-- A link error names at most four failed attempts, and where iff an attempt failed (R301). -/
def LinkErr.wf (l : LinkErr) : Bool :=
  let one (f k : Nat) : Bool := f ≤ 4 && k < 8 && (f == 0) == (k == 0)
  one l.failed l.kind && l.reports < 65536 && l.later.all (fun e => one e.1 e.2) && l.also.all fun p => 1 ≤ p.data.length && p.data.length ≤ 4096

/-- The SRAM macros of R297, MACRO[15:12] the kind and MACRO[11:0] the index. -/
def macroWf (m : Nat) : Bool :=
  let n := [288, 6, 64, 1, 3, 8, 16, 2, 1, 13].getD (m / 4096) 0
  m % 4096 < n

/-- A failing row of a march test: an SRAM macro, an element 1 to 6 and one of the four backgrounds (R297, R312). -/
def RowFail.wf (f : RowFail) : Bool := macroWf f.mac && 1 ≤ f.element && f.element ≤ 6 && f.bg < 4

/-- A root-link port receives at least one block (R368). -/
def RlkFrame.wf (f : RlkFrame) : Bool := !f.blocks.isEmpty

/-- Stations of a root-link port: at most eight, each with at most 16 axis slots (R374, R381). -/
def stationsWf (l : List RlkStation) : Bool := l.length ≤ 8 && l.all fun t => t.nax.toNat ≤ 16

/-- Data bytes that the DLC of a CAN frame names (R390). -/
def CanFrame.len (f : CanFrame) : Nat :=
  let d := f.dlc.toNat
  if !f.fdf then (if f.rtr then 0 else min d 8) else [0, 1, 2, 3, 4, 5, 6, 7, 8, 12, 16, 20, 24, 32, 48, 64].getD d 0

/-- A CAN frame on the bus (R390, ISO 11898-1): as many data bytes as its DLC names, BRS and ESI in FD frames only, no remote FD frame, a base
identifier in bits 28 to 18. -/
def CanFrame.wf (f : CanFrame) : Bool :=
  f.data.length == f.len && (f.fdf || (!f.brs && !f.esi)) && !(f.fdf && f.rtr) && (f.ide || f.id.toNat % 2 ^ 18 == 0)

/-- A CAN error has a kind (R399). -/
def CanErr.wf (e : CanErr) : Bool := e.kinds != 0

def CanTx.wf (t : CanTx) : Bool :=
  match t with
  | .sent => true
  | .lost => true
  | .error e => e.wf

/-- An access of a port moves 1 to 4,096 bytes. -/
def lenWf (n : Nat) : Bool := 1 ≤ n && n ≤ 4096

def PortAcc.wf (a : PortAcc) : Bool :=
  match a with
  | .read _ len => lenWf len.toNat
  | .write _ data => lenWf data.length

def TapOp.wf (op : TapOp) : Bool :=
  match op with
  | .bypass => true
  | .idcode => true
  | .other => true
  | .hardRepair row => row.toNat < 0x1800000000
  | .acc a => a.wf

/-- Sizes of BAR0, BAR2 and BAR4 (R40). -/
def barSize (bar : Fin 3) : Nat := [0x4000000, 0x4000000000, 0x80000000].getD bar.val 0

/-- A request of the host lies in its BAR (R40). -/
def barWf (bar : Fin 3) (off : BitVec 38) (n : Nat) : Bool := lenWf n && off.toNat + n ≤ barSize bar

def RegReq.wf (q : RegReq) : Bool :=
  match q with
  | .write oid ctx _ _ => originWf oid ctx
  | .hw u => u.lo < 32

/-- Writes of a cycle name a register of the windows, which start at multiples of 4 (R27, R28). -/
def regReqsWf (off : BitVec 22) (reqs : List RegReq) : Bool := off.toNat % 4 == 0 && !reqs.isEmpty && reqs.all RegReq.wf

/-- An image of the boot flash: a hash of 384 bits (R470, R474), ROLLBACK 0 to 64, a payload of at most 64 MiB. -/
def BootImage.wf (b : BootImage) : Bool := b.keyHash.length == 12 && b.rollback.toNat ≤ 64 && b.body.length ≤ 0x4000000

/-- What a boot meets: well-formed images and failing rows. -/
def BootIn.wf (b : BootIn) : Bool := b.images.all BootImage.wf && b.fails.all RowFail.wf

/-- The bytes that a lockstep copy gives to its signature (R453, R460): 31 and 32 registers of 8 bytes, the pc, 4 KiB of the L2 slice. -/
def pairBytesWf (c : List (BitVec 8)) : Bool := c.length == 31 * 8 + 32 * 8 + 8 + 4096

/-- Which commands a sender can form. -/
def Instr.wf (i : Instr) : Bool :=
  match i with
  | .registerWrite off reqs => regReqsWf off reqs
  | .aliasWrite oid ctx _ _ data => originWf oid ctx && lenWf data.length
  | .nocRead oid ctx _ len link => originWf oid ctx && lenWf len.toNat && link.wf
  | .nocWrite oid ctx _ data link => originWf oid ctx && lenWf data.length && link.wf
  | .hostReadRequest bar off len link => barWf bar off len.toNat && link.wf
  | .hostWriteRequest bar off data link => barWf bar off data.length && link.wf
  | .servicePortCommand a link => a.wf && link.wf
  | .tapCommand op link => op.wf && link.wf
  | .strictWrite oid ctx _ => originWf oid ctx
  | .add _ _ => true
  | .addm _ _ => true
  | .sub _ _ => true
  | .subm _ _ => true
  | .mul _ _ => true
  | .mulm _ _ => true
  | .mulq _ _ => true
  | .div _ _ => true
  | .rem _ _ => true
  | .divr _ _ => true
  | .andS _ _ => true
  | .orS _ _ => true
  | .xorS _ _ => true
  | .andn _ _ => true
  | .notS _ _ => true
  | .sll _ _ => true
  | .srl _ _ => true
  | .sra _ _ => true
  | .sls _ _ => true
  | .srr _ _ => true
  | .minS _ _ => true
  | .maxS _ _ => true
  | .minu _ _ => true
  | .maxu _ _ => true
  | .neg _ _ => true
  | .absI _ _ => true
  | .clz _ _ => true
  | .ctz _ _ => true
  | .pop _ _ => true
  | .cmpEq _ _ => true
  | .cmpNe _ _ => true
  | .cmpLt _ _ => true
  | .cmpLe _ _ => true
  | .cmpLtu _ _ => true
  | .cmpLeu _ _ => true
  | .sel _ _ => true
  | .pand _ _ => true
  | .por _ _ => true
  | .pxor _ _ => true
  | .pandn _ _ => true
  | .pnot _ _ => true
  | .pget _ _ => true
  | .pset _ _ => true
  | .addi _ _ => true
  | .addim _ _ => true
  | .muli _ _ => true
  | .mulim _ _ => true
  | .andi _ _ => true
  | .ori _ _ => true
  | .xori _ _ => true
  | .slli _ _ => true
  | .srli _ _ => true
  | .srai _ _ => true
  | .slsi _ _ => true
  | .srri _ _ => true
  | .cmpiEq _ _ => true
  | .cmpiNe _ _ => true
  | .cmpiLt _ _ => true
  | .cmpiLe _ _ => true
  | .cmpiLtu _ _ => true
  | .cmpiLeu _ _ => true
  | .li _ _ => true
  | .lih _ _ => true
  | .sati _ _ => true
  | .usati _ _ => true
  | .sexti _ _ => true
  | .zexti _ _ => true
  | .br _ _ => true
  | .brr _ _ => true
  | .call _ _ => true
  | .callr _ _ => true
  | .loop _ _ => true
  | .lbrk _ _ => true
  | .lidx _ _ => true
  | .endJob _ _ => true
  | .fault _ _ => true
  | .nop _ _ => true
  | .ldb _ _ => true
  | .ldbu _ _ => true
  | .ldh _ _ => true
  | .ldhu _ _ => true
  | .ldw _ _ => true
  | .ldwu _ _ => true
  | .ldd _ _ => true
  | .stb _ _ => true
  | .sth _ _ => true
  | .stw _ _ => true
  | .std _ _ => true
  | .rsig _ _ => true
  | .rsigv _ _ => true
  | .rwait _ _ => true
  | .rwaits _ _ => true
  | .rrd _ _ => true
  | .rtest _ _ => true
  | .rsigd _ _ => true
  | .tset _ _ => true
  | .tget _ _ => true
  | .tld _ _ => true
  | .tst _ _ => true
  | .tadv _ _ => true
  | .tsub _ _ => true
  | .tcpy _ _ => true
  | .fflush _ _ => true
  | .flagrd _ _ => true
  | .flagclr _ _ => true
  | .svr _ _ => true
  | .awld _ _ => true
  | .amm _ _ => true
  | .ammc _ _ => true
  | .vadd _ _ => true
  | .vaddm _ _ => true
  | .vsub _ _ => true
  | .vsubm _ _ => true
  | .vmin _ _ => true
  | .vmax _ _ => true
  | .vneg _ _ => true
  | .vabs _ _ => true
  | .vand _ _ => true
  | .vor _ _ => true
  | .vxor _ _ => true
  | .vandn _ _ => true
  | .vmul _ _ => true
  | .vmulq _ _ => true
  | .vmac _ _ => true
  | .vresc _ _ => true
  | .vsll _ _ => true
  | .vsrl _ _ => true
  | .vsra _ _ => true
  | .vsls _ _ => true
  | .vsrr _ _ => true
  | .vslli _ _ => true
  | .vsrli _ _ => true
  | .vsrai _ _ => true
  | .vslsi _ _ => true
  | .vsrri _ _ => true
  | .vsat _ _ => true
  | .vusat _ _ => true
  | .vcmpEq _ _ => true
  | .vcmpNe _ _ => true
  | .vcmpLt _ _ => true
  | .vcmpLe _ _ => true
  | .vsel _ _ => true
  | .vmov _ _ => true
  | .vbcs _ _ => true
  | .vbcl _ _ => true
  | .vidx _ _ => true
  | .vins _ _ => true
  | .vext _ _ => true
  | .vrsum _ _ => true
  | .vrmax _ _ => true
  | .vrmin _ _ => true
  | .vramax _ _ => true
  | .vrarg _ _ => true
  | .vld _ _ => true
  | .vst _ _ => true
  | .vacr _ _ => true
  | .vacw _ _ => true
  | .vrdiv _ _ => true
  | .vqdiv _ _ => true
  | .vqrem _ _ => true
  | .vrsq _ _ => true
  | .vmkc _ _ => true
  | .vmkcm _ _ => true
  | .vmks _ _ => true
  | .vmksm _ _ => true
  | .vany _ _ => true
  | .vexp _ _ => true
  | .vroti _ _ => true
  | .vrots _ _ => true
  | .tldTable _ _ => true
  | .tlu _ _ => true
  | .tli _ _ => true
  | .qdrn _ _ => true
  | .qdq _ _ => true
  | .qnt _ _ => true
  | .qscl _ _ => true
  | .dld _ _ => true
  | .dst _ _ => true
  | .dgth _ _ => true
  | .dsct _ _ => true
  | .dacl _ _ => true
  | .dacs _ _ => true
  | .dzro _ _ => true
  | .arrayDispatch _ => true
  | .dmaTake _ _ => true
  | .twigIssue _ => true
  | .syncQueueHead _ => true
  | .shadowLoadComplete _ => true
  | .instructionRetire _ _ => true
  | .ringWaitSatisfied _ => true
  | .jobEndReport _ => true
  | .ringSignalApply _ => true
  | .ringSignalRegisterWrite oid ctx _ _ => originWf oid ctx
  | .seqNew _ => true
  | .seqGraft _ => true
  | .kvpExtend _ => true
  | .kvpWrite _ => true
  | .kvpGather _ => true
  | .kvpTrunc _ => true
  | .kvpFree _ => true
  | .pageZeroed _ => true
  | .allocationRetry _ => true
  | .kvpWaitlimExpiry _ => true
  | .kvpQuotaWrite oid ctx _ _ => originWf oid ctx
  | .splConv => true
  | .splPool => true
  | .splRsmp => true
  | .splDecode => true
  | .splNms => true
  | .splNop => true
  | .splEnd => true
  | .csiFrameStart _ _ _ _ => true
  | .csiLongPacket _ _ _ _ _ _ payload => payload.length < 65536
  | .csiFrameEnd _ _ _ => true
  | .frameLate _ => true
  | .hostSampleAdmission _ => true
  | .sampleComplete _ _ => true
  | .testPatternComplete _ => true
  | .packTimeout _ => true
  | .streamEnable x => originWf x.oid x.ctx
  | .streamDescriptorWrite oid ctx _ data => originWf oid ctx && lenWf data.length
  | .contextEnable oid ctx _ _ => originWf oid ctx
  | .teardown oid ctx _ => originWf oid ctx
  | .contextAck oid ctx _ => originWf oid ctx
  | .vtreset oid ctx _ => originWf oid ctx
  | .schedulerEnable oid ctx _ => originWf oid ctx
  | .jobDescriptorCheck _ => true
  | .jobDispatch _ => true
  | .jobStart _ => true
  | .jobSeal _ => true
  | .sealwaitExpiry _ => true
  | .switchPoint _ => true
  | .deadlineReached _ => true
  | .stopLimitExpiry _ => true
  | .teardownComplete _ => true
  | .unitRetire oid ctx _ => originWf oid ctx
  | .unitReadmit oid ctx _ => originWf oid ctx
  | .selftestComplete _ fails _ => fails.all RowFail.wf
  | .quarantineComplete _ _ => true
  | .unitAdmit oid ctx _ => originWf oid ctx
  | .ownershipChange oid ctx _ => originWf oid ctx
  | .ownZeroingComplete => true
  | .dramRefresh _ _ => true
  | .stackTemperatureCrossing _ _ => true
  | .patrolScrub granule link => granule.toNat * 256 < 0x1800000000 && link.wf
  | .backgroundRowTest fails => fails.all fun m => macroWf m || (65536 ≤ m && macroWf (m - 65536) && ((m - 65536) / 4096 = 5 || (m - 65536) / 4096 = 7))
  | .softRepairComplete => true
  | .memoryTestRequest => true
  | .memoryTestComplete fails => fails.all RowFail.wf
  | .bulkClear => true
  | .bulkClearComplete => true
  | .gateSubmission _ => true
  | .gateCheck _ => true
  | .gateCommit _ _ => true
  | .gateChannelEnable oid ctx _ _ => originWf oid ctx
  | .hwdKick _ _ => true
  | .kickTimeout => true
  | .horizonExpiry => true
  | .heartbeatTimeout => true
  | .safeEnter oid ctx => originWf oid ctx
  | .safeArm oid ctx => originWf oid ctx
  | .holdExpiry => true
  | .stopmaxExpiry => true
  | .crownRestartComplete _ => true
  | .crownRestartTimeout _ => true
  | .selfTestTick _ _ _ => true
  | .signatureCheck r0 r1 => r0.length == 32 && r1.length == 32
  | .hwdPairTransaction _ _ => true
  | .barkRuleWrite oid ctx _ _ => originWf oid ctx
  | .jointCycleStart => true
  | .sampleWindowClose _ => true
  | .axisLawCompute _ _ => true
  | .commandRelease _ => true
  | .cmbCommit oid ctx _ => originWf oid ctx
  | .cmbBufferHeaderWrite _ _ data => !data.isEmpty
  | .fallbackLatch => true
  | .stopLatch => true
  | .stoLatch => true
  | .axisClear oid ctx _ => originWf oid ctx
  | .rlkSample _ frame => frame.wf
  | .rlkStatus _ frame => frame.wf
  | .rlkBreak _ _ _ => true
  | .rlkRestore _ _ stations => stationsWf stations
  | .portEnable oid ctx _ _ => originWf oid ctx
  | .enumeration _ stations => stationsWf stations
  | .enumRetry _ stations => stationsWf stations
  | .linkLockLost _ _ _ => true
  | .managementExchange oid ctx _ => originWf oid ctx
  | .stoRepeat _ => true
  | .txRequest oid ctx _ _ => originWf oid ctx
  | .cfdAbort oid ctx _ _ => originWf oid ctx
  | .cfdSleep oid ctx _ => originWf oid ctx
  | .cfdWake oid ctx _ => originWf oid ctx
  | .cfdRecover oid ctx _ => originWf oid ctx
  | .ecsetLoad oid ctx _ _ => originWf oid ctx
  | .txArbitrationStart _ => true
  | .txAttemptEnd _ outcome _ _ => outcome.wf
  | .rxFrameValid _ frame _ => frame.wf
  | .integrationComplete _ => true
  | .recoveryComplete _ _ => true
  | .protocolException _ => true
  | .sleepEntry _ => true
  | .wakeUpFrame _ frame _ => frame.all CanFrame.wf
  | .ethRxFrame _ frame _ _ _ _ => !frame.isEmpty
  | .ethTxFrame _ _ => true
  | .ethLinkUp _ => true
  | .ethLinkDown _ _ => true
  | .timeAdjust oid ctx _ => originWf oid ctx
  | .timeSet oid ctx _ => originWf oid ctx
  | .incrementCommit oid ctx _ => originWf oid ctx
  | .slewComplete => true
  | .referenceFailure => true
  | .referenceLock => true
  | .syncHoldExpiry => true
  | .pulseEnable oid ctx _ _ => originWf oid ctx
  | .pulseEdge _ => true
  | .captureEdge _ _ _ => true
  | .txqPop oid ctx _ => originWf oid ctx
  | .capturePop oid ctx _ => originWf oid ctx
  | .grvWrite _ => true
  | .grvSignal _ => true
  | .writeDatagram dg => !dg.isEmpty
  | .signalDatagram dg => !dg.isEmpty
  | .grvAck dg => !dg.isEmpty
  | .grvNack dg => !dg.isEmpty
  | .ackTimer _ _ => true
  | .retransmitTimeout _ _ => true
  | .barrierArrival _ => true
  | .barArrive dg => !dg.isEmpty
  | .barRelease dg => !dg.isEmpty
  | .barrierRelease _ => true
  | .barrierTimeout _ => true
  | .bghSplit oid ctx _ => originWf oid ctx
  | .splitComplete _ _ _ => true
  | .bghPark oid ctx _ => originWf oid ctx
  | .bghUnpark oid ctx _ => originWf oid ctx
  | .bghJoin oid ctx _ => originWf oid ctx
  | .joinComplete _ _ _ => true
  | .pairReadmit oid ctx _ => originWf oid ctx
  | .pairSelftestComplete _ fails _ => fails.all RowFail.wf
  | .pairAdmit oid ctx _ => originWf oid ctx
  | .boughPairTransaction _ _ => true
  | .bghAgreeFallback _ => true
  | .pairSignatureCheck _ c0 c1 => pairBytesWf c0 && pairBytesWf c1
  | .ipsetWrite oid ctx _ _ => originWf oid ctx
  | .mtimecmpMatch _ => true
  | .lifecycleCommand oid ctx _ _ => originWf oid ctx
  | .fuseProgram oid ctx => originWf oid ctx
  | .pithWipe oid ctx => originWf oid ctx
  | .wipeComplete => true
  | .rollbackFw oid ctx => originWf oid ctx
  | .rollbackCfg oid ctx => originWf oid ctx
  | .tamperTrip _ => true
  | .powerOnBoot b => b.wf
  | .hostReady _ => true
  | .brownOut _ => true
  | .resetNAssert => true
  | .globalResetCommand oid ctx _ => originWf oid ctx
  | .clockLoss _ => true
  | .hostPortReset => true
  | .powerPathSwitch _ _ => true
  | .retentionLoss _ => true
  | .vbatLowDetect _ => true
  | .capDecision _ _ => true
  | .thermalSample _ _ => true
  | .voltageStep _ _ => true
  | .serdesAdaptation _ _ _ => true
  | .eventRecordWrite => true
  | .coalesceExpiry _ => true
  | .dumpCommand oid ctx => originWf oid ctx
  | .dumpStart _ _ _ => true
  | .dumpComplete _ => true
  | .globalResetRelease b => b.wf
  | .rxFrameError _ err => err.wf
  | .fuseProgramComplete _ _ _ => true
  | .hostLinkL0 => true

end Sys2Proof
end

section
/-! The ports of the roles (R40, R41, R469): every request of a port is a transaction of the port's role. -/

namespace Sys2Proof.Machine

/-! ### Transactions of the roles and of one writer alone -/

theorem ofNat48_toNat {a : Nat} (h : a < 2 ^ 48) : (BitVec.ofNat 48 a).toNat = a :=
  (BitVec.toNat_ofNat a 48).trans (Nat.mod_eq_of_lt h)

/-- The roles issue under their own OIDs whatever the state (R31). -/
theorem issuer_of_role (s : State) {oid : Nat} (ctx : Nat) (h : oid ≤ 2) : issuer s oid ctx = some (oid, ctx) := by
  simp [issuer, show oid ≠ 0x30 by omega, show ¬ 0x20 ≤ oid by omega]

theorem exec_nocRead_of_role (oid : BitVec 10) (ctx : BitVec 6) (addr : BitVec 48) (len : BitVec 13) (link : LinkErr) (s : State)
    (h : oid.toNat ≤ 2) : exec (.nocRead oid ctx addr len link) s
      = .next (readDone oid.toNat len.toNat (portRead oid.toNat ctx.toNat addr.toNat len.toNat link s)) := by
  simp [execNocRead, issued, issuer_of_role s ctx.toNat h]

/-- With no other writer in the cycle, the cycle's writes are the one write (R303). -/
theorem cycleWrite_alone (oid ctx a : Nat) (data : List Byte) (link : LinkErr) (s : State) (h : link.also = []) :
    cycleWrite oid ctx a data link s = issued s oid ctx fun o c => writeDone o (portWrite o c a data link 0 s) := by
  cases hi : issuer s oid ctx with
  | none => simp [cycleWrite, issuedWrites, ascendingRank, issued, h, hi]
  | some q => simp [cycleWrite, issuedWrites, ascendingRank, issued, h, hi]

theorem exec_nocWrite_alone (oid : BitVec 10) (ctx : BitVec 6) {a : Nat} (data : List Byte) (s : State) (ha : a < 2 ^ 48) :
    exec (.nocWrite oid ctx (BitVec.ofNat 48 a) data {}) s
      = .next (issued s oid.toNat ctx.toNat fun o c => writeDone o (portWrite o c a data {} 0 s)) := by
  simp only [exec_nocWrite, execNocWrite, ofNat48_toNat ha, cycleWrite_alone]

/-! ### The host port (R40) -/

/-- A host request is the transaction of OID 0 and context 0 at its BAR target, in the state that choosing the target leaves. -/
theorem exec_hostRequest_of_barTarget {bar : Fin 3} {off : BitVec 38} {a : Nat} {s u : State} (len : BitVec 13) (data : List Byte) (link : LinkErr)
    (ht : barTarget bar off.toNat s = (a, u)) (ha : a < 2 ^ 48) :
    exec (.hostReadRequest bar off len link) s = exec (.nocRead 0 0 (BitVec.ofNat 48 a) len link) u
    ∧ exec (.hostWriteRequest bar off data link) s = exec (.nocWrite 0 0 (BitVec.ofNat 48 a) data link) u := by
  have hn : (BitVec.ofNat 48 a).toNat = a := ofNat48_toNat ha
  constructor
  · rw [exec_nocRead_of_role 0 0 _ len link u (by decide)]
    simp [execHostReadRequest, ht, hn]
  · simp [execHostWriteRequest, execNocWrite, ht, hn]

theorem barTarget_of_mapped {bar : Fin 3} {off a : Nat} (s : State) (h : barAddr bar off = some a) : barTarget bar off s = (a, s) := by
  simp [barTarget, h]

/-- A host request in a mapped range of a BAR (R40). -/
theorem exec_hostRequest_of_mapped {bar : Fin 3} {off : BitVec 38} {a : Nat} (len : BitVec 13) (data : List Byte) (link : LinkErr) (s : State)
    (h : barAddr bar off.toNat = some a) (ha : a < 2 ^ 48) :
    exec (.hostReadRequest bar off len link) s = exec (.nocRead 0 0 (BitVec.ofNat 48 a) len link) s
    ∧ exec (.hostWriteRequest bar off data link) s = exec (.nocWrite 0 0 (BitVec.ofNat 48 a) data link) s :=
  exec_hostRequest_of_barTarget len data link (barTarget_of_mapped s h) ha

/-- An offset that R40 does not map goes above every mapped address, and only the counter of free values moves (log entry 88). -/
theorem barTarget_of_unmapped {bar : Fin 3} {off : Nat} (s : State) (h : barAddr bar off = none) :
    ∃ (a : Nat) (u : State), barTarget bar off s = (a, u) ∧ 0x30000000000 ≤ a ∧ a < 2 ^ 48 ∧ { u with free := s.free } = s := by
  refine ⟨0x30000000000 + s.freeNat.1 % 0xFD0000000000 / 0x1000 * 0x1000, s.freeNat.2, by simp only [barTarget, h], Nat.le_add_right _ _, ?_, rfl⟩
  have hlt := Nat.mod_lt s.freeNat.1 (show 0 < 0xFD0000000000 by decide)
  omega

theorem exec_hostRequest_of_unmapped {bar : Fin 3} {off : BitVec 38} (len : BitVec 13) (data : List Byte) (link : LinkErr) (s : State)
    (h : barAddr bar off.toNat = none) :
    ∃ (a : BitVec 48) (u : State), 0x30000000000 ≤ a.toNat ∧ { u with free := s.free } = s
      ∧ exec (.hostReadRequest bar off len link) s = exec (.nocRead 0 0 a len link) u
      ∧ exec (.hostWriteRequest bar off data link) s = exec (.nocWrite 0 0 a data link) u := by
  obtain ⟨a, u, ht, hlo, hhi, hu⟩ := barTarget_of_unmapped s h
  refine ⟨BitVec.ofNat 48 a, u, ?_, hu, exec_hostRequest_of_barTarget len data link ht hhi⟩
  rwa [ofNat48_toNat hhi]

/-! ### The service port and the test access port (R41, R469) -/

theorem portAccess_read (oid : BitVec 10) (addr : BitVec 48) (len : BitVec 13) (link : LinkErr) (s : State) (h : oid.toNat ≤ 2) :
    .next (portAccess oid.toNat (.read addr len) link s) = exec (.nocRead oid 0 addr len link) s := by
  rw [exec_nocRead_of_role oid 0 addr len link s h]
  rfl

theorem portAccess_write (oid : BitVec 10) (addr : BitVec 48) (data : List Byte) (link : LinkErr) (s : State) :
    .next (portAccess oid.toNat (.write addr data) link s) = exec (.nocWrite oid 0 addr data link) s := rfl

theorem exec_servicePortCommand_eq (a : PortAcc) (link : LinkErr) (s : State) :
    exec (.servicePortCommand a link) s = .next (portAccess (1 : BitVec 10).toNat a link s) := rfl

/-- The test access port, open and in use already, carries out an access and counts no opening (R469, R482). -/
theorem exec_tapCommand_acc (a : PortAcc) (link : LinkErr) (s : State) (hopen : tapOpen s = true) (huse : s.lcs.tap = true) :
    exec (.tapCommand (.acc a) link) s = .next (portAccess (2 : BitVec 10).toNat a link s) := by
  simp [execTapCommand, tapUse, hopen, huse]

/-! ### Writes at the stream descriptors and at a buffer header (R236, R349) -/

theorem exec_streamDescriptorWrite_eq_nocWrite (oid : BitVec 10) (ctx : BitVec 6) (off : BitVec 12) (data : List Byte) (s : State) :
    exec (.streamDescriptorWrite oid ctx off data) s = exec (.nocWrite oid ctx (BitVec.ofNat 48 (0x2022200000 + off.toNat)) data {}) s :=
  (exec_nocWrite_alone oid ctx data s (by omega)).symm

/-- The trajectory buffers stand one after the other, two for each channel (R349). -/
theorem trajBuf_div_mod (buf : Nat) : trajBuf (buf / 2) (buf % 2) = 0x2021040000 + 0x10000 * buf := by
  simp only [trajBuf, cmbWin]
  omega

theorem exec_cmbBufferHeaderWrite_eq_nocWrite (buf : Fin 8) (off : BitVec 6) (data : List Byte) (s : State) :
    exec (.cmbBufferHeaderWrite buf off data) s
      = exec (.nocWrite 0x30 0 (BitVec.ofNat 48 (0x2021040000 + 0x10000 * buf.val + off.toNat)) data {}) s := by
  rw [exec_nocWrite_alone 0x30 0 data s (by omega), ← trajBuf_div_mod]
  rfl

/-! ### Every port's request is a transaction -/

/-- Settles O34: a port's request is its role's transaction at the address of the BAR map, range by range, and the remaining ports by their
own lemmas. -/
theorem portsAreTransactions : Obligations.PortsAreTransactions := by
  unfold Obligations.PortsAreTransactions
  refine ⟨?bar0Registers, ?bar0Set, ?bar0Clear, ?bar2, ?bar4Set, ?bar4Clear, ?unmapped, ?ports, ?descriptors, ?headers⟩
  case bar0Registers =>
    intro off len data link s h
    exact exec_hostRequest_of_mapped len data link s (by simp [barAddr, regBase, h]) (by omega)
  case bar0Set =>
    intro off len data link s hlo hhi
    exact exec_hostRequest_of_mapped len data link s (by simp [barAddr, hlo, hhi]) (by omega)
  case bar0Clear =>
    intro off len data link s hlo hhi
    exact exec_hostRequest_of_mapped len data link s (by simp [barAddr, hhi, hlo, show ¬ off.toNat < 0x1000000 by omega]) (by omega)
  case bar2 =>
    intro off len data link s h
    exact exec_hostRequest_of_mapped len data link s (by simp [barAddr, h]) (by omega)
  case bar4Set =>
    intro off len data link s h
    exact exec_hostRequest_of_mapped len data link s (by simp [barAddr, h]) (by omega)
  case bar4Clear =>
    intro off len data link s hlo hhi
    exact exec_hostRequest_of_mapped len data link s (by simp [barAddr, hlo, hhi]) (by omega)
  case unmapped =>
    rintro bar off len data link s (⟨rfl, hlo, -⟩ | ⟨rfl, hlo⟩)
    · exact exec_hostRequest_of_unmapped len data link s (by simp only [barAddr]; rw [if_neg (by omega), if_neg (by omega), if_neg (by omega)])
    · exact exec_hostRequest_of_unmapped len data link s (by simp [barAddr, hlo])
  case ports =>
    intro a len data link s
    refine ⟨?_, ?_, fun hopen huse => ⟨?_, ?_⟩⟩
    · rw [exec_servicePortCommand_eq, portAccess_read _ _ _ _ _ (by decide)]
    · rw [exec_servicePortCommand_eq, portAccess_write]
    · rw [exec_tapCommand_acc _ _ _ hopen huse, portAccess_read _ _ _ _ _ (by decide)]
    · rw [exec_tapCommand_acc _ _ _ hopen huse, portAccess_write]
  case descriptors => exact exec_streamDescriptorWrite_eq_nocWrite
  case headers => exact exec_cmbBufferHeaderWrite_eq_nocWrite

end Sys2Proof.Machine
end

section
/-! The integer arithmetic (03_integer_arithmetic.md): saturation, the edge rows of the helpers, the accumulation that freezes. -/

namespace Sys2Proof.Machine

/-! ### Saturation at each side of the range (R48) -/

theorem smin_eq_neg_smax_sub_one (w : Nat) : smin w = -smax w - 1 := by
  simp only [smin, smax]
  omega

theorem smax_nonneg (w : Nat) : 0 ≤ smax w := by
  have : 0 < 2 ^ (w - 1) := Nat.two_pow_pos _
  simp only [smax]
  omega

theorem sat_of_smax_lt {x : Int} {w : Nat} (h : smax w < x) : sat x w = (smax w, fSat) := if_pos h

theorem sat_of_lt_smin {x : Int} {w : Nat} (h : x < smin w) : sat x w = (smin w, fSat) := by
  have hpos := smax_nonneg w
  have hmin := smin_eq_neg_smax_sub_one w
  rw [sat, if_neg (by omega), if_pos h]

theorem sat_of_mem {x : Int} {w : Nat} (hlo : smin w ≤ x) (hhi : x ≤ smax w) : sat x w = (x, fNone) := by
  rw [sat, if_neg (by omega), if_neg (by omega)]

/-! ### The rows of R53 that hold at every width -/

/-- The one value that has no negation in the format. -/
theorem sat_neg_smin (w : Nat) : sat (-smin w) w = (smax w, fSat) :=
  sat_of_smax_lt (by rw [smin_eq_neg_smax_sub_one]; omega)

theorem negS_smin (w : Nat) : negS (smin w) w = (smax w, fSat) := sat_neg_smin w

theorem absS_smin (w : Nat) : absS (smin w) w = (smax w, fSat) := by
  have hneg : smin w < 0 := by
    have := smax_nonneg w
    have := smin_eq_neg_smax_sub_one w
    omega
  rw [absS, if_pos hneg, sat_neg_smin]

theorem negS_smax (w : Nat) : negS (smax w) w = (-smax w, fNone) := by
  have hpos := smax_nonneg w
  have hmin := smin_eq_neg_smax_sub_one w
  exact sat_of_mem (by omega) (by omega)

theorem qdiv_smin_neg_one (w : Nat) : qdiv (smin w) (-1) w = (smax w, fSat) := by
  rw [qdiv, if_neg (by decide), Int.tdiv_neg, Int.tdiv_one, sat_neg_smin]

theorem qrem_neg_one (a : Int) (w : Nat) : qrem a (-1) w = (0, fNone) := by
  rw [qrem, if_neg (by decide), Int.tdiv_neg, Int.tdiv_one]
  simp

theorem qdiv_pos_zero {a : Int} (w : Nat) (h : 0 < a) : qdiv a 0 w = (smax w, fDz) := by
  rw [qdiv, if_pos rfl, if_pos h]

theorem qdiv_neg_zero {a : Int} (w : Nat) (h : a < 0) : qdiv a 0 w = (smin w, fDz) := by
  rw [qdiv, if_pos rfl, if_neg (by omega), if_pos h]

theorem qdiv_zero_zero (w : Nat) : qdiv 0 0 w = (0, fDz) := rfl

theorem qrem_zero (a : Int) (w : Nat) : qrem a 0 w = (0, fDz) := if_pos rfl

theorem rdiv_zero (a : Int) (w : Nat) : rdiv a 0 w = qdiv a 0 w := if_pos rfl

theorem asr_of_neg {x : Int} {n : Nat} (hlo : -(2 ^ n : Nat) ≤ x) (h : x < 0) : asr x n = -1 := by
  rw [asr, Int.ediv_eq_iff_of_pos (by positivity)]
  omega

theorem asr_of_nonneg {x : Int} {n : Nat} (h : 0 ≤ x) (hhi : x < (2 ^ n : Nat)) : asr x n = 0 := Int.ediv_eq_zero_of_lt h hhi

theorem lsr_of_width_le (x : Int) {n w : Nat} (h : w ≤ n) : lsr x n w = 0 := if_pos h

theorem lsl_of_width_le (x : Int) {n w : Nat} (h : w ≤ n) : lsl x n w = 0 := if_pos h

theorem ssl_zero (n w : Nat) : ssl 0 n w = (0, fNone) := rfl

theorem ssl_pos_of_width_le {x : Int} {n w : Nat} (hx : 0 < x) (h : w ≤ n) : ssl x n w = (smax w, fSat) := by
  rw [ssl, if_neg (by omega), if_pos h, if_pos hx]

theorem ssl_neg_of_width_le {x : Int} {n w : Nat} (hx : x < 0) (h : w ≤ n) : ssl x n w = (smin w, fSat) := by
  rw [ssl, if_neg (by omega), if_pos h, if_neg (by omega)]

theorem srshift_zero (x : Int) (w : Nat) : srshift x 0 w = sat x w := rfl

/-! ### The accumulator element (R64, R67) -/

theorem smax_36 : smax 36 = 2 ^ 35 - 1 := rfl

theorem smin_36 : smin 36 = -2 ^ 35 := rfl

/-- Strictly between the rails, where an element is not frozen. -/
def Inside (v : Int) : Prop := smin 36 < v ∧ v < smax 36

theorem inside_of_abs_add_two_le {v : Int} (h : |v| + 2 ≤ 2 ^ 35) : Inside v := by
  obtain ⟨hlo, hhi⟩ := abs_le.mp (le_sub_iff_add_le.mpr h)
  rw [Inside, smin_36, smax_36]
  omega

theorem accadd_of_frozen {v : Int} (p : Int) (h : accFrozen v = true) : accadd v p = (v, fNone) := if_pos h

theorem accadd_of_inside {v : Int} (p : Int) (h : Inside v) :
    accadd v p = if v + p ≥ smax 36 then (smax 36, fAccf) else if v + p ≤ smin 36 then (smin 36, fAccf) else (v + p, fNone) := by
  obtain ⟨hlo, hhi⟩ := h
  exact if_neg (by simp [hlo.ne', hhi.ne])

theorem accadd_exact {v p : Int} (h : Inside v) (ht : Inside (v + p)) : accadd v p = (v + p, fNone) := by
  obtain ⟨hlo, hhi⟩ := ht
  rw [accadd_of_inside p h, if_neg (by omega), if_neg (by omega)]

theorem accadd_high {v p : Int} (h : Inside v) (ht : smax 36 ≤ v + p) : accadd v p = (smax 36, fAccf) := by
  rw [accadd_of_inside p h, if_pos ht]

theorem accadd_low {v p : Int} (h : Inside v) (ht : v + p ≤ smin 36) : accadd v p = (smin 36, fAccf) := by
  have : smin 36 < smax 36 := by decide
  rw [accadd_of_inside p h, if_neg (by omega), if_pos ht]

theorem throughFreeze_smax (w : Nat) (f : Int → Res) : throughFreeze (smax 36) w f = (smax w, fSat) := if_pos rfl

theorem throughFreeze_smin (w : Nat) (f : Int → Res) : throughFreeze (smin 36) w f = (smin w, fSat) := by
  rw [throughFreeze, if_neg (by decide), if_pos rfl]

/-! ### A run of additions (R65, R66) -/

/-- The element after the terms `ps` are added, in order, to an element that holds `v`. -/
def accRun (v : Int) (ps : List Int) : Int := ps.foldl (fun t p => (accadd t p).1) v

theorem accRun_append_singleton (v : Int) (ps : List Int) (p : Int) : accRun v (ps ++ [p]) = (accadd (accRun v ps) p).1 := by
  simp [accRun]

theorem accRun_of_frozen {v : Int} (ps : List Int) (h : accFrozen v = true) : accRun v ps = v := by
  induction ps with
  | nil => rfl
  | cons p ps ih => simpa only [accRun, List.foldl_cons, accadd_of_frozen p h] using ih

/-- Each term is the top product `M` or, in magnitude, at least 2 below it, as every product of one mode is. -/
def TopOrBelow (M : Int) (ps : List Int) : Prop := ∀ p ∈ ps, p = M ∨ |p| + 2 ≤ M

theorem abs_sum_le {M : Int} {ps : List Int} (h : ∀ p ∈ ps, |p| ≤ M) : |ps.sum| ≤ M * ps.length := by
  induction ps with
  | nil => simp
  | cons p ps ih =>
    obtain ⟨hp, hps⟩ := List.forall_mem_cons.mp h
    have hrest := ih hps
    have habs := abs_add_le p ps.sum
    simp only [List.sum_cons, List.length_cons]
    push_cast
    linarith

/-- One term below the top keeps the whole sum below the bound, wherever it stands. -/
theorem abs_sum_add_two_le {M : Int} {ps : List Int} (h : ∀ p ∈ ps, |p| ≤ M) {p : Int} (hp : p ∈ ps) (hlow : |p| + 2 ≤ M) :
    |ps.sum| + 2 ≤ M * ps.length := by
  obtain ⟨before, after, rfl⟩ := List.append_of_mem hp
  have hbefore : |before.sum| ≤ M * before.length := abs_sum_le fun q hq => h q (by simp [hq])
  have hafter : |after.sum| ≤ M * after.length := abs_sum_le fun q hq => h q (by simp [hq])
  have habs := abs_add_three before.sum p after.sum
  simp only [List.sum_append, List.sum_cons, List.length_append, List.length_cons, ← add_assoc]
  push_cast
  linarith

section SafeDepth

variable {M : Int} {D : Nat} (hM : 2 ≤ M) (hD : M * D = 2 ^ 35)

include hM in
theorem TopOrBelow.abs_le {ps : List Int} (h : TopOrBelow M ps) : ∀ p ∈ ps, |p| ≤ M := by
  intro p hp
  obtain rfl | hlow := h p hp
  · exact (abs_of_nonneg (by omega)).le
  · omega

include hM hD in
theorem TopOrBelow.inside_sum {ps : List Int} (h : TopOrBelow M ps) (hlen : ps.length ≤ D) (hx : ps.length < D ∨ ∃ p ∈ ps, p ≠ M) :
    Inside ps.sum := by
  refine inside_of_abs_add_two_le ?_
  rw [← hD]
  obtain hlt | ⟨p, hp, hne⟩ := hx
  · have hsum := abs_sum_le (h.abs_le hM)
    have hstep : M * (ps.length + 1) ≤ M * D := mul_le_mul_of_nonneg_left (by exact_mod_cast hlt) (by omega)
    linarith
  · have hsum := abs_sum_add_two_le (h.abs_le hM) hp ((h p hp).resolve_left hne)
    have hstep : M * ps.length ≤ M * D := mul_le_mul_of_nonneg_left (by exact_mod_cast hlen) (by omega)
    linarith

include hM hD in
/-- Within the safe depth every prefix stays between the rails, so no addition is lost. -/
theorem accRun_zero_eq_sum {ps : List Int} (h : TopOrBelow M ps) (hlen : ps.length ≤ D) (hx : ps.length < D ∨ ∃ p ∈ ps, p ≠ M) :
    accRun 0 ps = ps.sum := by
  induction ps using List.reverseRecOn with
  | nil => rfl
  | append_singleton init p ih =>
    have hinit : init.length < D := by
      rw [List.length_append, List.length_singleton] at hlen
      omega
    have htop : TopOrBelow M init := fun q hq => h q (List.mem_append_left _ hq)
    have hin : Inside init.sum := htop.inside_sum hM hD hinit.le (.inl hinit)
    have hout : Inside (init.sum + p) := by simpa using h.inside_sum hM hD hlen hx
    rw [accRun_append_singleton, ih htop hinit.le (.inl hinit), accadd_exact hin hout]
    simp

include hM hD in
/-- The exception of R66: the sum of `D` top products is one above the positive rail. -/
theorem accRun_zero_replicate_top : accRun 0 (List.replicate D M) = smax 36 := by
  cases D with
  | zero => simp at hD
  | succ k =>
    have htop : TopOrBelow M (List.replicate k M) := fun p hp => .inl (List.eq_of_mem_replicate hp)
    have hlen : (List.replicate k M).length < k + 1 := by simp
    have hin := htop.inside_sum hM hD hlen.le (.inl hlen)
    have hlast : (List.replicate k M).sum + M = 2 ^ 35 := by
      rw [← hD, List.sum_replicate]
      push_cast
      ring
    rw [List.replicate_succ', accRun_append_singleton, accRun_zero_eq_sum hM hD htop hlen.le (.inl hlen),
      accadd_high hin (by rw [hlast]; decide)]

end SafeDepth

/-! ### The products of one mode (R66) -/

/-- The terms that the pairs of operands `l` give. -/
def products (l : List (Int × Int)) : List Int := l.map fun x => x.1 * x.2

theorem accRun_products (v : Int) (l : List (Int × Int)) : accRun v (products l) = l.foldl (fun t x => (accadd t (x.1 * x.2)).1) v :=
  List.foldl_map

@[simp] theorem length_products (l : List (Int × Int)) : (products l).length = l.length := List.length_map _

/-- Operands of a mode whose most negative values are `-A` and `-B`. -/
def InMode (A B : Int) (l : List (Int × Int)) : Prop := ∀ x ∈ l, -A ≤ x.1 ∧ x.1 < A ∧ -B ≤ x.2 ∧ x.2 < B

section Mode

variable {A B : Int} {D : Nat} {l : List (Int × Int)} (hA : 2 ≤ A) (hB : 2 ≤ B) (hD : A * B * D = 2 ^ 35)

include hA hB in
/-- The product of the two most negative values is the only one that comes near the bound (R66). -/
theorem InMode.abs_mul_add_two_le (h : InMode A B l) {x : Int × Int} (hx : x ∈ l) (hne : x ≠ (-A, -B)) : |x.1 * x.2| + 2 ≤ A * B := by
  obtain ⟨hloA, hhiA, hloB, hhiB⟩ := h x hx
  have hone : x.1 ≠ -A ∨ x.2 ≠ -B := not_and_or.mp fun ⟨h1, h2⟩ => hne (Prod.ext h1 h2)
  rw [abs_mul]
  obtain hone | hone := hone
  · have hbelow : |x.1| ≤ A - 1 := abs_le.mpr (by omega)
    have hmul : |x.1| * |x.2| ≤ (A - 1) * B := mul_le_mul hbelow (abs_le.mpr ⟨hloB, hhiB.le⟩) (abs_nonneg _) (by omega)
    linarith
  · have hbelow : |x.2| ≤ B - 1 := abs_le.mpr (by omega)
    have hmul : |x.1| * |x.2| ≤ A * (B - 1) := mul_le_mul (abs_le.mpr ⟨hloA, hhiA.le⟩) hbelow (abs_nonneg _) (by omega)
    linarith

include hA hB in
theorem InMode.topOrBelow (h : InMode A B l) : TopOrBelow (A * B) (products l) := by
  simp only [TopOrBelow, products, List.forall_mem_map]
  intro x hx
  by_cases hne : x = (-A, -B)
  · exact .inl (by simp [hne])
  · exact .inr (h.abs_mul_add_two_le hA hB hx hne)

include hA hB hD in
/-- The safe depth of R66: short of it, or with one pair that is not the two most negative values, the sum is exact. -/
theorem InMode.accRun_exact (h : InMode A B l) (hlen : l.length ≤ D) (hx : l.length < D ∨ ∃ x ∈ l, x ≠ (-A, -B)) :
    Inside (accRun 0 (products l)) ∧ accRun 0 (products l) = (products l).sum := by
  have hM : 2 ≤ A * B := by nlinarith
  have hlow : (products l).length < D ∨ ∃ p ∈ products l, p ≠ A * B := by
    obtain hlt | ⟨x, hmem, hne⟩ := hx
    · exact .inl (by simpa using hlt)
    · have hbelow := h.abs_mul_add_two_le hA hB hmem hne
      have hself := le_abs_self (x.1 * x.2)
      exact .inr ⟨x.1 * x.2, List.mem_map_of_mem hmem, by omega⟩
  have htop := h.topOrBelow hA hB
  have hle : (products l).length ≤ D := by simpa using hlen
  have hsum := accRun_zero_eq_sum hM hD htop hle hlow
  exact ⟨hsum ▸ htop.inside_sum hM hD hle hlow, hsum⟩

include hA hB hD in
theorem accRun_all_most_negative (hlen : l.length = D) (hall : ∀ x ∈ l, x = (-A, -B)) : accRun 0 (products l) = smax 36 := by
  have hproducts : products l = List.replicate D (A * B) := by
    rw [List.eq_replicate_of_mem hall, hlen, products, List.map_replicate, neg_mul_neg]
  rw [hproducts, accRun_zero_replicate_top (by nlinarith) hD]

end Mode

/-- The table of R66: in each mode the top product times the safe depth is one above the positive rail. -/
theorem safeDepth_table : ∀ d ∈ [((128 : Int), (128 : Int), 2 ^ 21), (128, 8, 2 ^ 25), (8, 8, 2 ^ 29)],
    2 ≤ d.1 ∧ 2 ≤ d.2.1 ∧ d.1 * d.2.1 * (d.2.2 : Nat) = 2 ^ 35 := by decide

/-! ### The statements -/

/-- Settles O5: the rows at the edge of the format are the general rows at `w = 8`, and the rows with sample values are computed. -/
theorem edgeResults : Obligations.EdgeResults := by
  unfold Obligations.EdgeResults
  refine ⟨negS_smin 8, absS_smin 8, negS_smax 8, qdiv_smin_neg_one 8, qrem_neg_one _ 8,
    qdiv_pos_zero 8 (by decide), qdiv_neg_zero 8 (by decide), qdiv_zero_zero 8, fun x => qrem_zero x 8,
    ?quotient, ?remainder, ?negTie, ?tieDown, ?tieUp, (rdiv_zero 3 8).trans (qdiv_pos_zero 8 (by decide)),
    asr_of_neg (by decide) (by decide), asr_of_nonneg (by decide) (by decide), ?lsr, lsr_of_width_le _ le_rfl,
    ?lsl, lsl_of_width_le _ le_rfl, ssl_zero 9 8, ?sslOver, ssl_pos_of_width_le (by decide) (by decide), ssl_neg_of_width_le (by decide) le_rfl,
    ?halfToZero, ?negOddHalf, ?negEvenHalf,
    (srshift_zero 100 8).trans (sat_of_mem (by decide) (by decide)), (srshift_zero 200 8).trans (sat_of_smax_lt (by decide))⟩
  all_goals decide

/-- Settles O26: one addition by where the element stands, and a run of products by the safe depth of its mode. -/
theorem accumulatorFreezes : Obligations.AccumulatorFreezes := by
  unfold Obligations.AccumulatorFreezes
  refine ⟨?exact, ?high, ?low, fun v p => accadd_of_frozen p, fun v ps => accRun_of_frozen ps,
    fun w f => ⟨throughFreeze_smax w f, throughFreeze_smin w f⟩, ?depth⟩
  case exact => exact fun v p hlo hhi htlo hthi => accadd_exact ⟨hlo, hhi⟩ ⟨htlo, hthi⟩
  case high => exact fun v p hlo hhi => accadd_high ⟨hlo, hhi⟩
  case low => exact fun v p hlo hhi => accadd_low ⟨hlo, hhi⟩
  case depth =>
    intro d hd l hlen hmode
    obtain ⟨hA, hB, hD⟩ := safeDepth_table d hd
    have hl : InMode d.1 d.2.1 l := hmode
    simp only [← accRun_products]
    refine ⟨fun hx => ?_, accRun_all_most_negative hA hB hD⟩
    obtain ⟨⟨hlo, hhi⟩, hsum⟩ := hl.accRun_exact hA hB hD hlen hx
    exact ⟨hlo, hhi, hsum⟩

end Sys2Proof.Machine
end

section
/-! The decode of a scalar instruction (R99 to R107): what an instruction that is ready at decode leaves, one lemma per shape of the
instruction set, and the results of classes 0x0 and 0x1. -/

namespace Sys2Proof.Machine

/-- Settles O1. -/
theorem stepRunsTheFront : Obligations.StepRunsTheFront := by
  refine ⟨fun _ _ _ => rfl, fun s h => ?_⟩
  unfold step
  rw [h]

theorem aluA_ready {c : Fin 6} {f : FormA} {s : State} (h : Ready c f.pred f.pn [f.rd.toNat, f.ra.toNat, f.rb.toNat, f.rc.toNat] [] s)
    (op fn : Nat) {rb rc : Bool} (hl : (decide (f.resv = 0) && (rb || decide (f.rb = 0)) && (rc || decide (f.rc = 0))) = true)
    (g : Int → Int → Int → Res) :
    aluA c op fn f rb rc g s = .next (scalarDone c f.rd
      (g ((s.core c).sreg f.ra.toNat) ((s.core c).sreg f.rb.toNat) ((s.core c).sreg f.rc.toNat)) s) := by
  obtain ⟨hd, hp, hf⟩ := h
  exact (seqRun_chosen hd hp _ _ hl _).trans (congrArg _ (finish_doneS _ _ _ hf))

theorem aluI_ready {c : Fin 6} {f : FormI} {s : State} (h : Ready c f.pred f.pn [f.rd.toNat, f.ra.toNat] [] s)
    (op fn : Nat) {ok : Bool} (hl : ok = true) (g : Int → Int → Res) :
    aluI c op fn f ok g s = .next (scalarDone c f.rd (g ((s.core c).sreg f.ra.toNat) f.imm.toInt) s) := by
  obtain ⟨hd, hp, hf⟩ := h
  exact (seqRun_chosen hd hp _ _ hl _).trans (congrArg _ (finish_doneS _ _ _ hf))

/-- A ready instruction whose effect writes a scalar register from the core's storage alone. -/
theorem seqRun_setS {c : Fin 6} {pred : BitVec 3} {pn : Bool} {rs ps : List Nat} {s : State} (h : Ready c pred pn rs ps s)
    (word : Nat) {legal : Bool} (hl : legal = true) (rd : BitVec 5) (v : Crown → Int) :
    seqRun c word pred pn legal rs ps (doneCore c fun k => k.setS rd.toNat (v k)) s =
      .next (scalarDone c rd (v (s.core c), fNone) s) := by
  obtain ⟨hd, hp, hf⟩ := h
  rw [seqRun_chosen hd hp _ _ hl, finish_doneCore _ _ hf (setS_pc _ _ _) (setS_loops _ _ _), scalarDone, orFlags_none]

/-- A ready instruction whose effect writes a predicate register. -/
theorem seqRun_setP {c : Fin 6} {pred : BitVec 3} {pn : Bool} {rs ps : List Nat} {s : State} (h : Ready c pred pn rs ps s)
    (word : Nat) {legal : Bool} (hl : legal = true) (rd : BitVec 5) (b : Crown → Bool) :
    seqRun c word pred pn legal rs ps (doneCore c fun k => k.setP rd.toNat (b k)) s = .next (predDone c rd (b (s.core c)) s) := by
  obtain ⟨hd, hp, hf⟩ := h
  rw [seqRun_chosen hd hp _ _ hl, finish_doneCore _ _ hf (setP_pc _ _ _) (setP_loops _ _ _), predDone]

theorem bits64_eq (g : BitVec 64 → BitVec 64 → BitVec 64) (a b : Int) :
    bits64 g a b = (g (BitVec.ofInt 64 a) (BitVec.ofInt 64 b)).toInt := rfl

theorem uwrap_64 (x : Int) : uwrap x 64 = x % 2 ^ 64 := rfl
theorem cnt8_eq (x : Int) : cnt8 x = (x % 256).toNat := rfl

/-- Settles O6. -/
theorem scalarArithmetic : Obligations.ScalarArithmetic := by
  refine ⟨fun c f s h hv hc => ?_, fun c f s h hv => ?_⟩
  · have hl : (decide (f.resv = 0) && (true || decide (f.rb = 0)) && (false || decide (f.rc = 0))) = true := by simp [hv, hc]
    simp only [exec_add, exec_addm, exec_sub, exec_subm, exec_mul, exec_mulm, exec_div, exec_rem, exec_divr,
    execAdd, execAddm, execSub, execSubm, execMul, execMulm, execDiv, execRem, execDivr,
      aluA_ready h _ _ hl, plain, and_self]
  · have hl : (decide (f.resv = 0) && (true || decide (f.rb = 0)) && (true || decide (f.rc = 0))) = true := by simp [hv]
    simp only [exec_mulq, execMulq, aluA_ready h _ _ hl, qmul, cnt8_eq]

/-- Settles O7. -/
theorem scalarLogicShift : Obligations.ScalarLogicShift := by
  intro c f s h hv hc
  have hl : (decide (f.resv = 0) && (true || decide (f.rb = 0)) && (false || decide (f.rc = 0))) = true := by simp [hv, hc]
  have hl' (hb : f.rb = 0) : (decide (f.resv = 0) && (false || decide (f.rb = 0)) && (false || decide (f.rc = 0))) = true := by
    simp [hv, hb, hc]
  simp only [exec_andS, exec_orS, exec_xorS, exec_andn, exec_sll, exec_srl, exec_sra, exec_sls, exec_srr,
    execAnd, execOr, execXor, execAndn, execSll, execSrl, execSra, execSls, execSrr,
    aluA_ready h _ _ hl, plain, bits64_eq, cnt8_eq, true_and]
  intro hb
  simp only [exec_notS, execNot, aluA_ready h _ _ (hl' hb), plain, bits64_eq]

/-- Settles O9. -/
theorem scalarCompare : Obligations.ScalarCompare := by
  refine ⟨fun c f s h hv hc hd => ?_, fun c f s h hd => ?_⟩
  · have hl : (decide (f.resv = 0) && decide (f.rc = 0) && decide (f.rd.toNat < 8)) = true := by simp [hv, hc, hd]
    exact ⟨seqRun_setP h _ hl _ _, seqRun_setP h _ hl _ _, seqRun_setP h _ hl _ _, seqRun_setP h _ hl _ _, seqRun_setP h _ hl _ _,
      seqRun_setP h _ hl _ _⟩
  · have hl : decide (f.rd.toNat < 8) = true := by simp [hd]
    exact ⟨seqRun_setP h _ hl _ _, seqRun_setP h _ hl _ _, seqRun_setP h _ hl _ _, seqRun_setP h _ hl _ _, seqRun_setP h _ hl _ _,
      seqRun_setP h _ hl _ _⟩

theorem lt_two_pow_bitlen (x : Nat) : x < 2 ^ bitlen x := by
  unfold bitlen
  split
  · simp_all
  · exact Nat.lt_log2_self

theorem two_pow_le_of_bitlen {x n : Nat} (h : bitlen x = n + 1) : 2 ^ n ≤ x := by
  unfold bitlen at h
  split at h
  · omega
  · next hx =>
    obtain rfl : x.log2 = n := by omega
    exact Nat.log2_self_le hx

theorem bitlen_le {x n : Nat} (h : x < 2 ^ n) : bitlen x ≤ n := by
  unfold bitlen
  split
  · omega
  · next hx => exact (Nat.log2_lt hx).2 h

theorem pat64_lt (a : Int) : pat64 a < 2 ^ 64 := BitVec.isLt _

theorem testBit_pat64 (a : Int) (i : Nat) : (pat64 a).testBit i = (BitVec.ofInt 64 a).getLsbD i := rfl

/-- The first bit set below 64, or 64: every lower bit is clear. -/
theorem find_testBit_spec (x : Nat) :
    let n := ((List.range 64).find? fun i => x.testBit i).getD 64
    n ≤ 64 ∧ (∀ i < n, x.testBit i = false) ∧ (n < 64 → x.testBit n = true) := by
  cases h : (List.range 64).find? fun i => x.testBit i with
  | none =>
    rw [List.find?_eq_none] at h
    exact ⟨le_refl _, fun i hi => by simpa using h i (List.mem_range.2 hi), fun hn => absurd hn (lt_irrefl _)⟩
  | some n =>
    obtain ⟨hn, hlt, hbelow⟩ := List.find?_range_eq_some.1 h
    rw [List.mem_range] at hlt
    exact ⟨hlt.le, fun i hi => by simpa using hbelow i hi, fun _ => hn⟩

theorem absS_eq_sat_abs (x : Int) {w : Nat} (h : x ≤ smax w) : absS x w = sat |x| w := by
  unfold absS
  split
  · next hx => rw [abs_of_neg hx]
  · next hx =>
    have := smin_eq_neg_smax_sub_one w
    have := smax_nonneg w
    rw [abs_of_nonneg (by omega), sat_of_mem (by omega) h]

theorem sreg_le_smax (k : Crown) (r : Nat) : k.sreg r ≤ smax 64 := by
  unfold Crown.sreg smax
  have := BitVec.toInt_lt (x := spGet 0 k.s r)
  omega

/-- Settles O8. -/
theorem scalarSelectCount : Obligations.ScalarSelectCount := by
  intro c f s h hv hc
  have hl : (decide (f.resv = 0) && (true || decide (f.rb = 0)) && (false || decide (f.rc = 0))) = true := by simp [hv, hc]
  have hl' (hb : f.rb = 0) : (decide (f.resv = 0) && (false || decide (f.rb = 0)) && (false || decide (f.rc = 0))) = true := by
    simp [hv, hb, hc]
  simp only [exec_minS, exec_maxS, exec_minu, exec_maxu, execMin, execMax, execMinu, execMaxu, aluA_ready h _ _ hl, plain, uwrap_64,
    min_def, ge_iff_le, max_def', true_and]
  refine ⟨rfl, fun hb => ?_⟩
  simp only [exec_neg, exec_absI, exec_clz, exec_ctz, exec_pop, execNeg, execAbs, execClz, execCtz, execPop,
    aluA_ready h _ _ (hl' hb), negS, absS_eq_sat_abs _ (sreg_le_smax _ _), plain, popN, testBit_pat64, true_and, and_true]
  refine ⟨⟨_, rfl, by omega, ?_, fun hn => ?_⟩, ⟨_, rfl, find_testBit_spec _⟩⟩
  · have hle := bitlen_le (pat64_lt ((s.core c).sreg f.ra.toNat))
    rw [Nat.sub_sub_self hle]
    exact lt_two_pow_bitlen _
  · have hle := bitlen_le (pat64_lt ((s.core c).sreg f.ra.toNat))
    exact two_pow_le_of_bitlen (x := pat64 _) (by omega)

/-- Settles O10. -/
theorem scalarPredicates : Obligations.ScalarPredicates := by
  refine ⟨fun c f s h hv hc hd ha hb => ?_, fun c f s h hv hb hc ha => ?_, fun c f s h hv hb hc hd => ?_, fun c f s h hv hc => ?_⟩
  · have hl (useRb : Bool) (hu : (useRb || decide (f.rb = 0)) = true) : (decide (f.resv = 0) && decide (f.rc = 0)
        && decide (f.rd.toNat < 8) && decide (f.ra.toNat < 8) && decide (f.rb.toNat < 8) && (useRb || decide (f.rb = 0))) = true := by
      rw [hu]; simp [hv, hc, hd, ha, hb]
    exact ⟨seqRun_setP h _ (hl true rfl) _ _, seqRun_setP h _ (hl true rfl) _ _, seqRun_setP h _ (hl true rfl) _ _,
      seqRun_setP h _ (hl true rfl) _ _, fun h0 => seqRun_setP h _ (hl false (by simp [h0])) _ _⟩
  · exact (seqRun_setS h _ (by simp [hv, hb, hc, ha]) _ _).trans (by simp only [ofBool, Nat.cast_ite, Nat.cast_one, Nat.cast_zero])
  · exact seqRun_setP h _ (by simp [hv, hb, hc, hd]) _ _
  · exact seqRun_setS h _ (by simp [hv, hc]) _ _

theorem wrap_of_mem {x : Int} {w : Nat} (hw : 1 ≤ w) (hlo : smin w ≤ x) (hhi : x ≤ smax w) : wrap x w = x := by
  obtain ⟨v, rfl⟩ := Nat.exists_eq_add_of_le' hw
  unfold smin at hlo
  unfold wrap uwrap
  unfold smax at hhi ⊢
  simp only [Nat.add_sub_cancel, pow_succ] at *
  generalize 2 ^ v = p at *
  rcases lt_or_ge x 0 with hx | hx
  · have : x % (p * 2 : Nat) = x + (p * 2 : Nat) := by
      rw [← Int.add_emod_right, Int.emod_eq_of_lt (by omega) (by omega)]
    rw [this, if_pos (by omega)]; omega
  · rw [Int.emod_eq_of_lt (by omega) (by omega), if_neg (by omega)]

theorem smin_le_sreg (k : Crown) (r : Nat) : smin 64 ≤ k.sreg r := by
  unfold Crown.sreg smin
  have := BitVec.le_toInt (x := spGet 0 k.s r)
  omega

/-- Settles O11. -/
theorem scalarImmediates : Obligations.ScalarImmediates := by
  intro c f s h
  simp only [exec_addi, exec_addim, exec_muli, exec_mulim, exec_andi, exec_ori, exec_xori, exec_lih, execAddi, execAddim, execMuli,
    execMulim, execAndi, execOri, execXori, execLih, aluI_ready h _ _ rfl, plain, bits64_eq, true_and]
  refine ⟨fun hw => ?_, fun ha => ?_, ?_, fun hlo hhi => ?_⟩
  · have hl : shiftOk f = true := by simpa [shiftOk] using hw
    have hn : cnt8 f.imm.toInt = f.imm.toNat := by
      rw [cnt8_eq, BitVec.toInt_eq_toNat_of_lt (by omega)]; omega
    simp only [exec_slli, exec_srli, exec_srai, exec_slsi, exec_srri, execSlli, execSrli, execSrai, execSlsi, execSrri,
      aluI_ready h _ _ hl, plain, hn, and_self]
  · simp only [exec_li, execLi, aluI_ready h _ _ (decide_eq_true ha), plain]
  · rfl
  · have hl : widthOk f = true := by simpa [widthOk] using ⟨hlo, hhi⟩
    have hi : f.imm.toInt = f.imm.toNat := BitVec.toInt_eq_toNat_of_lt (by omega)
    simp only [exec_sati, exec_usati, exec_sexti, exec_zexti, execSati, execUsati, execSexti, execZexti, aluI_ready h _ _ hl, plain,
      hi, Int.toNat_natCast, wrap_of_mem (by decide : 1 ≤ 64) (smin_le_sreg _ _) (sreg_le_smax _ _), uwrap, Nat.cast_pow, true_and]
    norm_cast

end Sys2Proof.Machine
end

section
/-! Control, loads and stores, rings, tiles and system instructions at decode (R108 to R125), and instructions that are skipped or held. -/

namespace Sys2Proof.Machine

theorem finish_jump {c : Fin 6} (word : Nat) (s u : State) {t : Int} (h : pcOk t = true) :
    finish c word s (.jump u t) = jumped c t (u.core c) u := if_pos h

theorem runCtl_chosen {c : Fin 6} {f : FormI} {s : State} (h : AtDecode c f.pred [f.rd.toNat, f.ra.toNat] [] s)
    (hp : Chosen c f.pred f.pn s) (op : Nat) {ok : Bool} (hl : ok = true) (body : State → Done) :
    runCtl c op f ok body s = .next (finish c (wordI 2 op f.fn.toNat f) s (body s)) := seqRun_chosen h hp _ _ hl _

theorem callTo_finish {c : Fin 6} (word rd : Nat) (s : State) {t : Int} (h : pcOk t = true) :
    finish c word s (callTo c rd t s) = jumped c t ((s.core c).setS rd ((s.core c).pc + 8)) s := by
  rw [callTo, finish_jump _ _ _ h]
  simp [jumped]

theorem sat_64_nonpos {x : Int} : (sat x 64).1 ≤ 0 ↔ x ≤ 0 := by
  rcases lt_or_ge (smax 64) x with h | h
  · rw [sat_of_smax_lt h]
    exact ⟨fun h0 => absurd h0 (by decide), fun h0 => absurd (h.trans_le h0) (by decide)⟩
  rcases lt_or_ge x (smin 64) with h' | h'
  · rw [sat_of_lt_smin h']
    exact ⟨fun _ => h'.le.trans (by decide), fun _ => by decide⟩
  · rw [sat_of_mem h' h]

theorem loopEnd_inside {pc : Nat} {e : LoopEnt} (r : List LoopEnt) (h : e.stop ≠ pc) : loopEnd pc (e :: r) = (e :: r, pc + 8) := if_neg h

/-- LOOP with a count of 0 or less jumps past the body (R108). -/
theorem enterLoop_empty {c : Fin 6} {f : FormI} {s : State} (h : (s.core c).sreg f.ra.toNat + f.imm.toInt ≤ 0) :
    enterLoop c f s = .jump (orFlags c (sat ((s.core c).sreg f.ra.toNat + f.imm.toInt) 64).2 s)
      ((s.core c).pc + 8 * f.fn.toNat + 8 : Nat) := by
  unfold enterLoop
  exact if_pos (sat_64_nonpos.2 h)

/-- LOOP with a count of its range pushes its level (R108). -/
theorem enterLoop_pushed {c : Fin 6} {f : FormI} {s : State} (h0 : 0 < (s.core c).sreg f.ra.toNat + f.imm.toInt)
    (h1 : (s.core c).sreg f.ra.toNat + f.imm.toInt < 2 ^ 32) (hlen : (s.core c).loops.length < 4)
    (hin : ∀ e ∈ (s.core c).loops.head?, (s.core c).pc + 8 * f.fn.toNat ≤ e.stop) :
    enterLoop c f s = .step (s.setCore c { s.core c with loops :=
      ⟨(s.core c).pc + 8, (s.core c).pc + 8 * f.fn.toNat, ((s.core c).sreg f.ra.toNat + f.imm.toInt).toNat, 0⟩ :: (s.core c).loops }) := by
  have hs : sat ((s.core c).sreg f.ra.toNat + f.imm.toInt) 64 = ((s.core c).sreg f.ra.toNat + f.imm.toInt, fNone) :=
    sat_of_mem (by norm_num [smin]; omega) (by norm_num [smax]; omega)
  have hh : ((s.core c).loops.head?.map fun e => decide (e.stop < (s.core c).pc + 8 * f.fn.toNat)).getD false = false := by
    cases he : (s.core c).loops.head? with
    | none => rfl
    | some e => simpa using hin e he
  unfold enterLoop
  simp only [hs, hh]
  rw [if_neg (by omega), if_neg (by omega), if_neg (by omega), if_neg (by simp)]

/-- Settles O12. -/
theorem branchesAndLoops : Obligations.BranchesAndLoops := by
  intro c f s h hp k here there
  have run := fun op ok hl body => runCtl_chosen h hp op (ok := ok) hl body
  refine ⟨fun hd ha hf ht => ?_, fun hd hf ht => ?_, fun ha hf ht => ?_, fun hf ht => ?_, fun hd hf h0 ht => ?_,
    fun hd hf h0 h1 hlen hin ht => ?_, fun hd ha hi h1 h4 hlen ht => ?_, fun e ha hi h4 he hflow => ?_, fun hd ha hf hi => ?_,
    fun hd ha hf hi hflow => ?_, fun hd ha hf hi => ?_⟩
  · exact (run 0 _ (by simp [hd, ha, hf]) _).trans (congrArg _ (finish_jump _ _ _ ht))
  · exact (run 1 _ (by simp [hd, hf]) _).trans (congrArg _ (finish_jump _ _ _ ht))
  · exact (run 2 _ (by simp [ha, hf]) _).trans (congrArg _ (callTo_finish _ _ _ ht))
  · exact (run 3 _ (by simp [hf]) _).trans (congrArg _ (callTo_finish _ _ _ ht))
  · rw [exec_loop, execLoop, run 4 _ (by simpa [hd] using hf), enterLoop_empty h0, finish_jump _ _ _ (by exact_mod_cast ht)]
    simp only [core_orFlags, Nat.cast_add, Nat.cast_mul]; rfl
  · have hne : f.fn.toNat ≠ 0 := fun e => hf (BitVec.eq_of_toNat_eq e)
    have hstop := loopEnd_inside (pc := k.pc) (e := ⟨k.pc + 8, k.pc + 8 * f.fn.toNat, there.toNat, 0⟩) k.loops
      (show k.pc + 8 * f.fn.toNat ≠ k.pc by omega)
    rw [exec_loop, execLoop, run 4 _ (by simpa [hd] using hf), enterLoop_pushed h0 h1 hlen hin, finish, advance_flows]
    · rw [core_setCore_self, setCore_setCore, stepped, hstop]
    · rw [core_setCore_self, hstop]; exact ht
  · rw [exec_lbrk, execLbrk, run 5 _ (by simp [hd, ha, hi, h1, h4])]
    have hlen' : ¬ (s.core c).loops.length < f.fn.toNat := Nat.not_lt.2 hlen
    simp only [if_neg hlen', finish]
    rw [advance_flows _ (by rw [core_setCore_self]; exact ht), core_setCore_self, setCore_setCore]
  · rw [exec_lidx, execLidx, run 6 _ (by simp [ha, hi, h4])]
    have he' : (s.core c).loops[f.fn.toNat]? = some e := he
    simp only [he']
    rw [scalarDone, orFlags_none]
    exact congrArg _ (finish_doneCore _ (fun k => k.setS f.rd.toNat e.idx) hflow (setS_pc _ _ _) (setS_loops _ _ _))
  · exact run 7 _ (by simp [hd, ha, hf, hi]) _
  · exact (run 9 _ (by simp [hd, ha, hf, hi]) _).trans (congrArg _ (advance_flows _ hflow))
  · rw [exec_fault, execFault, run 8 _ (by simp [hd, ha, hf, hi]), hf]; rfl

theorem rdN_eq (s : State) (a n : Nat) : s.rdN a n = leNat (s.bytes a n) := rfl

theorem runLoad_ready {c : Fin 6} {f : FormI} {s : State} (h : Ready c f.pred f.pn [f.rd.toNat, f.ra.toNat] [] s) (hf : f.fn = 0)
    (op : Nat) {n : Nat} (signed : Bool) (ha : Aligned ((s.core c).sreg f.ra.toNat + f.imm.toInt) n)
    (hs : Sound c ((s.core c).sreg f.ra.toNat + f.imm.toInt).toNat n s) :
    let v := s.rdN (spBase c + ((s.core c).sreg f.ra.toNat + f.imm.toInt).toNat) n
    runLoad c op n signed f s = .next (scalarDone c f.rd (if signed then wrap v (8 * n) else v, fNone) s) := by
  obtain ⟨hd, hp, hflow⟩ := h
  intro v
  refine (seqRun_chosen hd hp _ _ (decide_eq_true hf) _).trans (congrArg _ ?_)
  rw [loadOwn_sound ha hs, scalarDone, orFlags_none]
  exact finish_doneCore _ (fun k => k.setS f.rd.toNat (if signed then wrap v (8 * n) else v)) hflow (setS_pc _ _ _) (setS_loops _ _ _)

/-- Settles O14. -/
theorem scalarLoads : Obligations.ScalarLoads := by
  intro c f s h hf
  refine ⟨fun ha hs => ?_, fun ha hs => ?_, fun ha hs => ?_, fun ha hs => ?_⟩
  · simp only [exec_ldb, exec_ldbu, execLdb, execLdbu, runLoad_ready h hf _ _ ha hs, if_true, Bool.false_eq_true, if_false, and_self]
  · simp only [exec_ldh, exec_ldhu, execLdh, execLdhu, runLoad_ready h hf _ _ ha hs, if_true, Bool.false_eq_true, if_false, and_self]
  · simp only [exec_ldw, exec_ldwu, execLdw, execLdwu, runLoad_ready h hf _ _ ha hs, if_true, Bool.false_eq_true, if_false, and_self]
  · simp only [exec_ldd, execLdd, runLoad_ready h hf _ _ ha hs, if_true]

theorem storeOwn_wrN {c : Fin 6} {s : State} {a : Int} {n : Nat} (v : Nat) (ha : Aligned a n) (hs : Sound c a.toNat n s) :
    storeOwn c a (leBytes n v) s = .step (s.wrN (spBase c + a.toNat) n v) := by
  have hlen := leBytes_length n v
  rw [storeOwn_sound (by rwa [hlen]) (by rwa [hlen])]; rfl

theorem advance_wrN {c : Fin 6} {s : State} (word a n v : Nat) (h : Flows c s) :
    advance c word (s.wrN a n v) = (s.wrN a n v).setCore c (stepped (s.core c)) := advance_flows _ h

theorem runStore_ready {c : Fin 6} {f : FormI} {s : State} (h : Ready c f.pred f.pn [f.rd.toNat, f.ra.toNat] [] s) (hf : f.fn = 0)
    (op : Nat) {n : Nat} (ha : Aligned ((s.core c).sreg f.ra.toNat + f.imm.toInt) n)
    (hs : Sound c ((s.core c).sreg f.ra.toNat + f.imm.toInt).toNat n s) :
    runStore c op n f s = .next ((s.wrN (spBase c + ((s.core c).sreg f.ra.toNat + f.imm.toInt).toNat) n
      ((s.core c).sreg f.rd.toNat % 2 ^ (8 * n)).toNat).setCore c (stepped (s.core c))) := by
  obtain ⟨hd, hp, hflow⟩ := h
  refine (seqRun_chosen hd hp _ _ (decide_eq_true hf) _).trans (congrArg _ ?_)
  rw [storeOwn_wrN _ ha hs, uwrap, Nat.cast_pow]
  exact advance_wrN _ _ _ _ hflow

theorem byte_wrN_outside (s : State) {a n b : Nat} (v : Nat) (h : b < a ∨ a + n ≤ b) : (s.wrN a n v).byte b = s.byte b := by
  rw [State.wrN, byte_wrBytes, leBytes_length, if_neg (by omega)]

/-- Settles O15. -/
theorem scalarStores : Obligations.ScalarStores := by
  intro c s
  refine ⟨fun f h hf => ?_, fun f h hb hf => ?_⟩
  · exact ⟨fun ha hs => runStore_ready h hf _ ha hs, fun ha hs => runStore_ready h hf _ ha hs, fun ha hs => runStore_ready h hf _ ha hs,
      fun ha hs => runStore_ready h hf _ ha hs, fun n b _ hb => byte_wrN_outside _ _ hb⟩
  · intro a ha hs
    obtain ⟨hd, hp, hflow⟩ := h
    refine (seqRun_chosen hd hp _ _ (by simp [hb, hf]) _).trans (congrArg _ ?_)
    rw [storeOwn_wrN _ ha hs]
    exact advance_wrN _ _ _ _ hflow

/-- An instruction one of whose scalar registers is awaited is held at decode (R102). -/
theorem seqRun_held {c : Fin 6} {pred : BitVec 3} {pn : Bool} {rs ps : List Nat} {s : State} (h : AtDecode c pred [] [] s)
    (hp : Chosen c pred pn s) {r : Nat} (hr : r ∈ rs) (h0 : r ≠ 0) (hw : r ∈ (s.core c).pendS) (word : Nat) (body : State → Done) :
    seqRun c word pred pn true rs ps body s = .next s := by
  have hg : (!coreRuns s c || (s.core c).halted || (s.core c).ended || (s.core c).seqWait.isSome) = false := by
    simp [h.runs, h.live, h.unended, h.unheld]
  have hp' : ¬ (s.core c).preg pred.toNat = pn := by
    unfold Chosen at hp; rw [hp]; cases pn <;> simp
  have hn : (!true || (decide (pred = 0) && pn)) = false := by
    by_cases a : pred = 0 <;> by_cases b : pn = true
    · subst a; subst b; simp [Chosen, Crown.preg] at hp
    all_goals simp_all
  have hpp : (s.core c).pendP.contains pred.toNat = false := by simpa using h.pred
  have hany : rs.any (fun r => decide (r ≠ 0) && (s.core c).pendS.contains r) = true :=
    List.any_eq_true.2 ⟨r, hr, by simp [h0, hw]⟩
  unfold seqRun
  simp only [hg, fetchWord_hit h.fetched, hn, hpp, hp', hany, Bool.true_or, Bool.false_eq_true, if_false, if_true]

/-- A legal instruction whose predicate is false only moves the pc on (R100). -/
theorem seqRun_skipped_flows {c : Fin 6} {pred : BitVec 3} {pn : Bool} {rs ps : List Nat} {s : State} (h : AtDecode c pred [] [] s)
    (hp : Chosen c pred (!pn) s) (hflow : Flows c s) (h0 : pred ≠ 0) (word : Nat) {legal : Bool} (hl : legal = true) (body : State → Done) :
    seqRun c word pred pn legal rs ps body s = .next (s.setCore c (stepped (s.core c))) :=
  (seqRun_skipped h hp h0 word legal hl body).trans (congrArg _ (advance_flows _ hflow))

/-- Settles O17. -/
theorem skippedOrHeld : Obligations.SkippedOrHeld := by
  intro c s
  refine ⟨fun f h hv hc h0 => ?_, fun f h h0 => ?_, fun f g h => ?_⟩
  · have hl : (decide (f.resv = 0) && (true || decide (f.rb = 0)) && (false || decide (f.rc = 0))) = true := by simp [hv, hc]
    refine ⟨fun hp hflow => seqRun_skipped_flows h hp hflow h0 _ hl _, fun r hp hr hr0 hw => ?_⟩
    have hmem : r.toNat ∈ [f.rd.toNat, f.ra.toNat, f.rb.toNat, f.rc.toNat] := by
      have := List.mem_map_of_mem (f := BitVec.toNat) hr
      simp only [List.map_cons, List.map_nil, List.mem_cons, List.not_mem_nil, or_false] at this ⊢
      tauto
    have hne : r.toNat ≠ 0 := fun e => hr0 (BitVec.eq_of_toNat_eq e)
    rw [exec_add, execAdd, aluA, hl]
    exact seqRun_held h hp hmem hne hw _ _
  · exact ⟨fun hp hflow => seqRun_skipped_flows h hp hflow h0 _ rfl _,
      fun hd ha hf hp hflow => seqRun_skipped_flows h hp hflow h0 _ (by simp [hd, ha, hf]) _⟩
  · have h' : coreRuns s c = false ∨ (s.core c).halted = true ∨ (s.core c).ended = true ∨ (s.core c).seqWait.isSome = true := by tauto
    exact ⟨seqRun_stopped _ _ _ h', seqRun_stopped _ _ _ h', seqRun_stopped _ _ _ h'⟩

theorem reached_iff (v t : Nat) : reached v t = true ↔ ((v : Int) - t) % 2 ^ 32 < 2 ^ 31 := by
  unfold reached wrap uwrap smax
  simp only [decide_eq_true_eq]
  norm_num
  split <;> omega

/-- Settles O19. -/
theorem ringReached : Obligations.RingReached := by
  refine ⟨fun v t _ _ => reached_iff v t, fun v => ?_, fun v hv => ?_⟩
  · rw [reached_iff, sub_self]; decide
  · rw [Bool.eq_false_iff, ne_eq, reached_iff]; omega

end Sys2Proof.Machine
end

section
/-! Issue into the queues of a Crown core, and the instructions that enter them (R92, R102, R115 to R128). -/

namespace Sys2Proof.Machine

theorem atDecode_mono {c : Fin 6} {pred : BitVec 3} {rs ps rs' ps' : List Nat} {s : State} (h : AtDecode c pred rs ps s)
    (hr : rs' ⊆ rs := by simp) (hp : ps' ⊆ ps := by simp) : AtDecode c pred rs' ps' s :=
  { h with regs := fun r m => h.regs r (hr m), preds := fun p m => h.preds p (hp m) }

@[simp] theorem setQueue_pc (k : Crown) (q : QName) (l : List QEntry) : (k.setQueue q l).pc = k.pc := by cases q <;> rfl
@[simp] theorem setQueue_loops (k : Crown) (q : QName) (l : List QEntry) : (k.setQueue q l).loops = k.loops := by cases q <;> rfl
@[simp] theorem queue_setQueue (k : Crown) (q : QName) (l : List QEntry) : (k.setQueue q l).queue q = l := by cases q <;> rfl
@[simp] theorem queue_issued (k : Crown) (q : QName) (n : Nat) : ({ k with issued := n } : Crown).queue q = k.queue q := by cases q <;> rfl

theorem readySignals_of_head {k : Crown} {q : QName} (h : ∀ e ∈ (k.queue q).head?, e.isSignal = false) : readySignals k q = [] := by
  unfold readySignals
  cases hq : k.queue q with
  | nil => rfl
  | cons e r => rw [readySignals.go, if_neg]; simp [h e (by simp [hq])]

/-- No signal is ready at the head: settling the queue changes nothing (R115). -/
theorem settle_of_head {c : Nat} {q : QName} {s : State} (h : q = .sync ∨ ∀ e ∈ ((s.core c).queue q).head?, e.isSignal = false) :
    settle c q s = s := by
  unfold settle
  split
  · rfl
  · next hq =>
    have hr := readySignals_of_head (h.resolve_left hq)
    simp only [hr, if_true]

/-- The core after an instruction entered its queue: the entry at its end, one more issued. -/
def enqueue (k : Crown) (q : QName) (e : QEntry) : Crown :=
  { k.setQueue q (k.queue q ++ [{ e with n := k.issued, pc := k.pc }]) with issued := k.issued + 1 }

theorem issue_room {c : Fin 6} {q : QName} {s : State} (h : Room c q s) {e : QEntry} (he : q = .sync ∨ e.isSignal = false) :
    issue c q e s = .step (s.setCore c (enqueue (s.core c) q e)) := by
  obtain ⟨hlen, hhead⟩ := h
  unfold issue
  simp only [if_neg (Nat.not_le.2 hlen)]
  rw [settle_of_head]; rfl
  rcases hhead with hq | hhead
  · exact .inl hq
  rcases he with hq | he
  · exact .inl hq
  right
  rw [core_setCore_self, queue_issued, queue_setQueue]
  cases hl : (s.core c).queue q with
  | nil => intro e' he'; cases he'; exact he
  | cons x r => intro e' he'; exact hhead e' (by simpa [hl] using he')

theorem enqueue_flows {c : Fin 6} {s : State} (h : Flows c s) (q : QName) (e : QEntry) (word : Nat) :
    advance c word (s.setCore c (enqueue (s.core c) q e)) = s.setCore c (stepped (enqueue (s.core c) q e)) := by
  rw [advance_flows, core_setCore_self, setCore_setCore]
  rw [core_setCore_self]
  simpa [enqueue, Flows] using h

/-- An instruction that is ready at decode enters its queue with its operands captured (R92, R102). -/
theorem finish_issue {c : Fin 6} {q : QName} {s : State} (hflow : Flows c s) (h : Room c q s) {i : Instr} {w : Nat} {x y : Int} {t0 t1 : BitVec 128}
    (hi : q = .sync ∨ QEntry.isSignal { op := i, pc := 0, word := 0 } = false) (word : Nat) :
    finish c word s (issue c q { op := i, pc := 0, word := w, x := x, y := y, t0 := t0, t1 := t1 } s) = queued c q i w x y t0 t1 s := by
  rw [issue_room h (by exact hi)]
  exact enqueue_flows hflow _ _ _

theorem seqRing_own {c : Fin 6} {f : FormG} (hg : f.g = false) (hc : f.core = 7) (hr : f.ring.toNat < 256) (g : Nat → State → Done) (s : State) :
    seqRing c f g s = g (ringVal s (c.val * 1024 + f.ring.toNat)) s := by
  have ht : ringOf c f = c.val * 1024 + f.ring.toNat := by
    unfold ringOf
    rw [if_neg (by simp [hg]), if_pos hc, Nat.mod_eq_of_lt hr]
  unfold seqRing
  simp only [hg, ht, Bool.false_eq_true, if_false]

theorem ringOf_own {c : Fin 6} {f : FormG} (hg : f.g = false) (hc : f.core = 7) (hr : f.ring.toNat < 256) :
    ringOf c f = c.val * 1024 + f.ring.toNat := by
  unfold ringOf
  rw [if_neg (by simp [hg]), if_pos hc, Nat.mod_eq_of_lt hr]

/-- Settles O18. -/
theorem ringInstructions : Obligations.RingInstructions := by
  intro c f s h hp hflow hv hq hg hc hr a tgt v
  have hl (other : Bool) : ringLegal c f other = true := by simp [ringLegal, hg, hc, hr]
  have hs : signalPlaceOk f = true := by simp [signalPlaceOk, hq]
  have hqueue : queueOf f.q = .sync := by simp [queueOf, hq]
  have htgt (imm : BitVec 16) : ringTarget ((s.core c).sreg f.ra.toNat) imm = ((((s.core c).sreg f.ra.toNat + imm.toInt) % 2 ^ 32).toNat : Int) := by
    unfold ringTarget uwrap; omega
  have htgt' : (ringTarget ((s.core c).sreg f.ra.toNat) f.imm).toNat = tgt := by rw [htgt, Int.toNat_natCast]
  refine ⟨fun room hd ha hi => ?_, fun room hd hi h0 h1 => ?_, fun room hd => ?_, fun hd hreach => ?_, fun hd hreach => ?_, fun ha hi => ?_,
    fun hd => ?_, ?_⟩
  · refine (seqRun_chosen (atDecode_mono h) hp _ _ (by simpa [hv, hl, hs, hd, ha] using hi) _).trans (congrArg _ ?_)
    rw [hqueue]; exact finish_issue hflow room (.inl rfl) _
  · refine (seqRun_chosen (atDecode_mono h) hp _ _ (by simp [hv, hl, hs, hd, hi]) _).trans (congrArg _ ?_)
    have hin : ¬ ((decide ((s.core c).sreg f.ra.toNat < 0) || decide ((s.core c).sreg f.ra.toNat > 65535)) = true) := by simpa using ⟨h0, h1⟩
    simp only [if_neg hin, hqueue]
    exact finish_issue hflow room (.inl rfl) _
  · refine (seqRun_chosen (atDecode_mono h) hp _ _ (by simp [hv, hl, hd]) _).trans (congrArg _ ?_)
    rw [hqueue, htgt]; exact finish_issue hflow room (.inl rfl) _
  · refine (seqRun_chosen (atDecode_mono h) hp _ _ (by simp [hv, hl, hd, hq]) _).trans (congrArg _ ?_)
    simp only [seqRing_own hg hc hr, htgt']
    rw [if_pos hreach]
    exact advance_flows _ hflow
  · refine (seqRun_chosen (atDecode_mono h) hp _ _ (by simp [hv, hl, hd, hq]) _).trans (congrArg _ ?_)
    simp only [seqRing_own hg hc hr, htgt', ringOf_own hg hc hr]
    rw [if_neg (by rw [hreach]; decide)]; rfl
  · refine (seqRun_chosen (atDecode_mono h) hp _ _ (by simp [hv, hl, ha, hq, hi]) _).trans (congrArg _ ?_)
    rw [seqRing_own hg hc hr, scalarDone, orFlags_none]
    exact finish_doneCore _ (fun k => k.setS f.rd.toNat v) hflow (setS_pc _ _ _) (setS_loops _ _ _)
  · refine (seqRun_chosen (atDecode_mono h) hp _ _ (by simp [hv, hl, hd, hq]) _).trans (congrArg _ ?_)
    simp only [seqRing_own hg hc hr, htgt']
    exact finish_doneCore _ (fun k => k.setP f.rd.toNat (reached v tgt)) hflow (setP_pc _ _ _) (setP_loops _ _ _)
  · intro g h hp hv hq hd hi hg hc hr room
    refine (seqRun_chosen h hp _ _ (by simpa [ringLegalD, hv, hq, hd, hg, hc, hr] using hi) _).trans (congrArg _ ?_)
    exact finish_issue hflow room (.inl rfl) _

theorem ofNat_pat (a b : Int) : execTset.pat a + execTset.pat b * 2 ^ 64 = (a % 2 ^ 64).toNat + (b % 2 ^ 64).toNat * 2 ^ 64 := by
  unfold execTset.pat
  rw [BitVec.toNat_ofInt, BitVec.toNat_ofInt]; rfl

theorem uwrap_of_mem {x : Int} {w : Nat} (h0 : 0 ≤ x) (h1 : x < (2 ^ w : Nat)) : uwrap x w = x := Int.emod_eq_of_lt h0 h1

theorem tile_high_half (t : Tile) : ((t.toNat / 2 ^ 64 % 2 ^ 64 : Nat) : Int) = (t.toNat : Int) / 2 ^ 64 := by
  rw [Nat.mod_eq_of_lt (by have := t.isLt; omega)]; norm_cast

/-- A tile instruction at decode whose new descriptor is valid writes it and moves on. -/
theorem finish_writeTile {c : Fin 6} {s : State} (hflow : Flows c s) (word rd : Nat) {ok : Bool} {x : Tile} (hok : ok = true) (hx : x.valid = true) :
    finish c word s (writeTile c rd ok x s) = s.setCore c (stepped ((s.core c).setT rd x)) := by
  unfold writeTile
  rw [if_pos (by simp [hok, hx])]
  exact finish_doneCore _ (fun k => k.setT rd x) hflow rfl rfl

/-- Settles O20. -/
theorem tileInstructions : Obligations.TileInstructions := by
  intro c f s h k a b t put
  obtain ⟨hd, hp, hflow⟩ := h
  refine ⟨fun hf hi => ?_, fun hb hi => ⟨fun hf => ?_, fun hf => ?_⟩, fun hb hf ha hs => ?_, fun hf h0 h1 => ?_,
    fun hf h0 h1 hi0 hi1 => ?_, fun hb hf hi hx => ?_⟩
  · intro x hx
    refine (seqRun_chosen (atDecode_mono hd) hp _ _ (by simp [hf, hi]) _).trans (congrArg _ ?_)
    simp only [ofNat_pat]
    exact finish_writeTile hflow _ _ rfl hx
  · refine (seqRun_chosen (atDecode_mono hd) hp _ _ (by simp [hb, hi, hf]) _).trans (congrArg _ ?_)
    rw [scalarDone, orFlags_none]
    refine (finish_doneCore _ _ hflow (setS_pc _ _ _) (setS_loops _ _ _)).trans ?_
    rw [hf, show 2 ^ (64 * (0 : BitVec 5).toNat) = 1 from rfl, Nat.div_one]; rfl
  · refine (seqRun_chosen (atDecode_mono hd) hp _ _ (by simp [hb, hi, hf]) _).trans (congrArg _ ?_)
    rw [scalarDone, orFlags_none, ← tile_high_half]
    refine (finish_doneCore _ _ hflow (setS_pc _ _ _) (setS_loops _ _ _)).trans ?_
    rw [hf]; rfl
  · intro x hx
    refine (seqRun_chosen (atDecode_mono hd) hp _ _ (by simp [hb, hf]) _).trans (congrArg _ ?_)
    rw [loadOwn_sound ha hs]
    exact finish_writeTile hflow _ _ rfl hx
  · intro x hx
    refine (seqRun_chosen (atDecode_mono hd) hp _ _ (by simp [hf]) _).trans (congrArg _ ?_)
    have hw : uwrap (t.base + b + f.imm.toInt) 25 = t.base + b + f.imm.toInt := uwrap_of_mem h0 (h1.trans (by norm_num))
    have hx' : t.withBaseRows (uwrap (t.base + b + f.imm.toInt) 25).toNat (t.rows - 1) = x := by rw [hw]
    rw [← hx'] at hx ⊢
    exact finish_writeTile hflow _ _ (by simpa using ⟨h0, h1⟩) hx
  · intro x hx
    refine (seqRun_chosen (atDecode_mono hd) hp _ _ (by simp [hf]) _).trans (congrArg _ ?_)
    have hw : uwrap (t.base + t.stride * b) 25 = t.base + t.stride * b :=
      uwrap_of_mem (by positivity) (h1.trans (by norm_num))
    have hi : uwrap (f.imm.toInt - 1) 16 = f.imm.toInt - 1 := uwrap_of_mem (by omega) (by omega)
    have hx' : t.withBaseRows (uwrap (t.base + t.stride * b) 25).toNat (uwrap (f.imm.toInt - 1) 16).toNat = x := by rw [hw, hi]
    rw [← hx'] at hx ⊢
    exact finish_writeTile hflow _ _ (by simpa [and_assoc] using ⟨h0, h1, hi0, hi1⟩) hx
  · refine (seqRun_chosen (atDecode_mono hd) hp _ _ (by simp [hb, hf, hi]) _).trans (congrArg _ ?_)
    exact finish_writeTile hflow _ _ rfl hx

/-- Settles O21. -/
theorem systemInstructions : Obligations.SystemInstructions := by
  intro c f s h ha hf x
  obtain ⟨hd, hp, hflow⟩ := h
  have run (op : Nat) {ok : Bool} (hl : ok = true) (body : State → Done) :
      runSys c op f ok body s = .next (finish c (wordI 15 op f.fn.toNat f) s (body s)) :=
    seqRun_chosen hd hp _ _ (by simp [ha, hf, hl]) _
  have svr (n : Nat) (v : Int) (hn : f.imm.toNat = n) (hok : svrOk n = true) (hv : svrValue c n s = (v, s)) :
      exec (.svr c f) s = .next (scalarDone c f.rd (v, fNone) s) := by
    rw [exec_svr, execSvr, run 3 (by rw [hn, hok])]
    simp only [hn, hv]
    rw [scalarDone, orFlags_none]
    exact congrArg _ (finish_doneCore _ (fun k => k.setS f.rd.toNat v) hflow (setS_pc _ _ _) (setS_loops _ _ _))
  refine ⟨fun hr hi => ?_, fun hi => ?_, fun hr hi => ?_, fun hi => svr 0 _ (by rw [hi]; rfl) rfl rfl,
    fun hi => svr 1 _ (by rw [hi]; rfl) rfl rfl, fun hi => svr 5 _ (by rw [hi]; rfl) rfl rfl, fun hi => svr 7 _ (by rw [hi]; rfl) rfl rfl⟩
  · exact (run 0 (by simp [hr, hi]) _).trans (congrArg _ (finish_doneCore _ (fun k => { k with fbuf := [] }) hflow rfl rfl))
  · refine (run 1 (by simp [hi]) _).trans (congrArg _ ?_)
    rw [scalarDone, orFlags_none]
    exact finish_doneCore _ (fun k => k.setS f.rd.toNat (s.fld x)) hflow (setS_pc _ _ _) (setS_loops _ _ _)
  · refine (run 2 (by simp [hr, hi]) _).trans (congrArg _ ?_)
    rw [Nat.mod_eq_of_lt hi]
    exact advance_flows _ hflow

end Sys2Proof.Machine
end

section
/-! The vector, mask, table, array, DMA and quantise instructions enter their queues (R126 to R150). -/

namespace Sys2Proof.Machine

theorem runV_issues {c : Fin 6} {f : FormV} {s : State} (h : AtDecode c f.pred [f.rs.toNat] [f.imm.toNat] s) (hp : Chosen c f.pred f.pn s)
    (hflow : Flows c s) (room : Room c .twig s) (cls op fn : Nat) {u : VUse} {imm : Bool} (hl : vLegal f u imm = true) {i : Instr}
    (hi : QEntry.isSignal { op := i, pc := 0, word := 0 } = false) {check : Int → Tile → Option (Nat × Int)}
    (hc : check ((s.core c).sreg f.rs.toNat) (if u.tile then (s.core c).treg f.vb.toNat else 0) = none) :
    runV c cls op fn f u imm i check s = .next (queued c .twig i (wordV cls op fn f) ((s.core c).sreg f.rs.toNat) 0
      (if u.tile then (s.core c).treg f.vb.toNat else 0) 0 s) := by
  refine (seqRun_chosen (atDecode_mono h) hp _ _ hl _).trans (congrArg _ ?_)
  simp only [hc]
  exact finish_issue (y := 0) (t1 := 0) hflow room (.inr hi) _

/-- A vector instruction without a tile and without a range to check enters the queue. -/
theorem runV_plain {c : Fin 6} {f : FormV} {s : State} (h : AtDecode c f.pred [f.rs.toNat] [f.imm.toNat] s) (hp : Chosen c f.pred f.pn s)
    (hflow : Flows c s) (room : Room c .twig s) {vd va vb vc rs mask imm : Bool}
    (hl : vLegal f { vd := vd, va := va, vb := vb, vc := vc, rs := rs, mask := mask } imm = true) (cls op fn : Nat) {i : Instr}
    (hi : QEntry.isSignal { op := i, pc := 0, word := 0 } = false) :
    runV c cls op fn f { vd := vd, va := va, vb := vb, vc := vc, rs := rs, mask := mask } imm i noCheck s =
      .next (queued c .twig i (wordV cls op fn f) ((s.core c).sreg f.rs.toNat) 0 0 0 s) :=
  runV_issues h hp hflow room cls op fn hl hi rfl

/-- The mask field of an instruction that takes a mask. -/
theorem mask_used {f : FormV} (hm : f.me = false → f.vm = 0) : f.me = true ∨ f.vm = 0#6 := by
  cases h : f.me
  · exact .inr (hm h)
  · exact .inl rfl

theorem rowCheck_ok {x : Int} {t : Tile} (h0 : 0 ≤ x) (h1 : x < t.rows) : rowCheck x t = none := if_neg (by simpa using ⟨h0, h1⟩)

theorem accCheck_ok {x : Int} {t : Tile} (h0 : 0 ≤ x) (h1 : x ≤ 1023) : accCheck x t = none := if_neg (by simpa using ⟨h0, h1⟩)

theorem pieceCheck_ok {f : FormV} {x : Int} {t : Tile} (hfmt : t.fmt ≠ 7) (hlen : 512 * (f.imm.toNat + 1) * fmtBits t.fmt / 8 ≤ t.len)
    (h0 : 0 ≤ x) (h1 : x < t.rows) : pieceCheck f x t = none :=
  (if_neg (by simpa using ⟨hfmt, hlen⟩)).trans (rowCheck_ok h0 h1)

theorem tableCheck_ok {f : FormV} {x : Int} {t : Tile} (hfmt : t.fmt = 4 ∨ t.fmt = 5) (hlen : 512 ≤ t.len) (h0 : 0 ≤ x) (h1 : x < t.rows) :
    tableCheck f x t = none :=
  (if_neg (by rcases hfmt with h | h <;> simp [h, hlen])).trans (rowCheck_ok h0 h1)

/-- VEXT enters the queue and its scalar register is awaited (R102). -/
theorem finish_pendScalar {c : Fin 6} {s : State} (hflow : Flows c s) (room : Room c .twig s) {i : Instr} {w : Nat}
    (hi : QEntry.isSignal { op := i, pc := 0, word := 0 } = false) (word r : Nat) :
    let u := queued c .twig i w 0 0 0 0 s
    finish c word s (pendScalar c r (issue c .twig { op := i, pc := 0, word := w } s)) =
      u.setCore c { u.core c with pendS := (s.core c).pendS ++ [r] } := by
  intro u
  rw [issue_room room (.inr (by exact hi)), pendScalar, finish, advance_flows]
  · simp only [u, queued, core_setCore_self, setCore_setCore]; rfl
  · rw [core_setCore_self, core_setCore_self]; exact hflow

/-- VANY enters the queue and its predicate register is awaited (R102). -/
theorem finish_pendPred {c : Fin 6} {s : State} (hflow : Flows c s) (room : Room c .twig s) {i : Instr} {w : Nat}
    (hi : QEntry.isSignal { op := i, pc := 0, word := 0 } = false) (word r : Nat) :
    let u := queued c .twig i w 0 0 0 0 s
    finish c word s (pendPred c r (issue c .twig { op := i, pc := 0, word := w } s)) =
      u.setCore c { u.core c with pendP := (s.core c).pendP ++ [r] } := by
  intro u
  rw [issue_room room (.inr (by exact hi)), pendPred, finish, advance_flows]
  · simp only [u, queued, core_setCore_self, setCore_setCore]; rfl
  · rw [core_setCore_self, core_setCore_self]; exact hflow

/-- Settles O22. -/
theorem vectorIssue : Obligations.VectorIssue := by
  intro c f s h hp hflow room x t q
  refine ⟨fun hvc hrs hm hi => ?_, fun hvb hvc hrs hm hi => ?_, fun hvc hrs hm hi => ?_, fun hrs hm hi => ?_,
    fun hvb hvc hrs hm hi => ?_, fun hvb hvc hrs hm hi0 hi => ?_, fun hrs hm hi => ?_, fun hva hvb hvc hm hi => ?_,
    fun hvb hvc hm hi => ?_, fun hva hvb hvc hme hvm hi => ?_, fun hva hvc hvb hm hfmt hlen h0 h1 => ?_,
    fun hva hvb hvc hm hi h0 h1 => ?_, fun hvd hvb hvc hm hi h0 h1 => ?_, fun hvc hm hi => ?_, fun hva hvc hm hi => ?_,
    fun hvb hvc hrs hm hi => ?_, fun hrs hme hvm hi => ?_, fun hrs hme hvm hi => ?_,
    fun hvd hva hvc hvb hme hvm hi hfmt hlen h0 h1 => ?_, fun hvb hvc hm hi => ?_, fun hvd hvc hvb hm hpart hfmt hlen h0 h1 => ?_,
    fun hvd hvb hvc hme hvm hi => ?_, fun hvd hvb hvc hrs hm hi0 hi => ?_⟩
  · have hl : vLegal f { vd := true, va := true, vb := true } (f.imm = 0) = true := by simp [vLegal, hvc, hrs, hi, mask_used hm]
    simp only [exec_vadd, exec_vaddm, exec_vsub, exec_vsubm, exec_vmin, exec_vmax, exec_vand, exec_vor, exec_vxor, exec_vandn, exec_vmul,
      exec_vresc, exec_vsll, exec_vsrl, exec_vsra, exec_vsls, exec_vsrr, exec_vcmpEq, exec_vcmpNe, exec_vcmpLt, exec_vcmpLe, exec_vrdiv,
      exec_vqdiv, exec_vqrem, execVadd, execVaddm, execVsub, execVsubm, execVmin, execVmax, execVand, execVor, execVxor, execVandn,
      execVmul, execVresc, execVsll, execVsrl, execVsra, execVsls, execVsrr, execVcmpEq, execVcmpNe, execVcmpLt, execVcmpLe, execVrdiv,
      execVqdiv, execVqrem, q, x]
    have run := fun cls op fn i => runV_plain h hp hflow room hl cls op fn (i := i)
    exact ⟨run _ _ _ _ rfl, run _ _ _ _ rfl, run _ _ _ _ rfl, run _ _ _ _ rfl, run _ _ _ _ rfl, run _ _ _ _ rfl, run _ _ _ _ rfl,
      run _ _ _ _ rfl, run _ _ _ _ rfl, run _ _ _ _ rfl, run _ _ _ _ rfl, run _ _ _ _ rfl, run _ _ _ _ rfl, run _ _ _ _ rfl,
      run _ _ _ _ rfl, run _ _ _ _ rfl, run _ _ _ _ rfl, run _ _ _ _ rfl, run _ _ _ _ rfl, run _ _ _ _ rfl, run _ _ _ _ rfl,
      run _ _ _ _ rfl, run _ _ _ _ rfl, run _ _ _ _ rfl⟩
  · have hl : vLegal f { vd := true, va := true } (f.imm = 0) = true := by simp [vLegal, hvb, hvc, hrs, hi, mask_used hm]
    simp only [exec_vneg, exec_vabs, exec_vmov, exec_vrsq, execVneg, execVabs, execVmov, execVrsq, q, x]
    have run := fun cls op fn i => runV_plain h hp hflow room hl cls op fn (i := i)
    exact ⟨run _ _ _ _ rfl, run _ _ _ _ rfl, run _ _ _ _ rfl, run _ _ _ _ rfl⟩
  · have hl : vLegal f { vd := true, va := true, vb := true } (f.imm.toNat < 64) = true := by simp [vLegal, hvc, hrs, hi, mask_used hm]
    simp only [exec_vmulq, execVmulq, q, x]
    exact runV_plain h hp hflow room hl _ _ _ rfl
  · have hl : vLegal f { vd := true, va := true, vb := true, vc := true } (f.imm.toNat < 64) = true := by simp [vLegal, hrs, hi, mask_used hm]
    simp only [exec_vmac, execVmac, q, x]
    exact runV_plain h hp hflow room hl _ _ _ rfl
  · have hl : vLegal f { vd := true, va := true } (f.imm.toNat < 256) = true := by simp [vLegal, hvb, hvc, hrs, hi, mask_used hm]
    simp only [exec_vslli, exec_vsrli, exec_vsrai, exec_vslsi, exec_vsrri, execVslli, execVsrli, execVsrai, execVslsi, execVsrri, q, x]
    have run := fun cls op fn i => runV_plain h hp hflow room hl cls op fn (i := i)
    exact ⟨run _ _ _ _ rfl, run _ _ _ _ rfl, run _ _ _ _ rfl, run _ _ _ _ rfl, run _ _ _ _ rfl⟩
  · have hl : vLegal f { vd := true, va := true } (1 ≤ f.imm.toNat && f.imm.toNat ≤ 32) = true := by simp [vLegal, hvb, hvc, hrs, hi0, hi, mask_used hm]
    simp only [exec_vsat, exec_vusat, execVsat, execVusat, q, x]
    have run := fun cls op fn i => runV_plain h hp hflow room hl cls op fn (i := i)
    exact ⟨run _ _ _ _ rfl, run _ _ _ _ rfl⟩
  · have hl : vLegal f { vd := true, va := true, vb := true, vc := true } (f.imm = 0) = true := by simp [vLegal, hrs, hi, mask_used hm]
    simp only [exec_vsel, execVsel, q, x]
    exact runV_plain h hp hflow room hl _ _ _ rfl
  · have hl : vLegal f { vd := true, rs := true } (f.imm = 0) = true := by simp [vLegal, hva, hvb, hvc, hi, mask_used hm]
    simp only [exec_vbcs, exec_vidx, execVbcs, execVidx, q, x]
    have run := fun cls op fn i => runV_plain h hp hflow room hl cls op fn (i := i)
    exact ⟨run _ _ _ _ rfl, run _ _ _ _ rfl⟩
  · have hl : vLegal f { vd := true, va := true, rs := true } (f.imm = 0) = true := by simp [vLegal, hvb, hvc, hi, mask_used hm]
    simp only [exec_vbcl, exec_vrsum, exec_vrmax, exec_vrmin, exec_vramax, exec_vrarg, execVbcl, execVrsum, execVrmax, execVrmin,
      execVramax, execVrarg, q, x]
    have run := fun cls op fn i => runV_plain h hp hflow room hl cls op fn (i := i)
    exact ⟨run _ _ _ _ rfl, run _ _ _ _ rfl, run _ _ _ _ rfl, run _ _ _ _ rfl, run _ _ _ _ rfl, run _ _ _ _ rfl⟩
  · have hl : vLegal f { vd := true, rs := true, mask := false } (f.imm.toNat < 512) = true := by simp [vLegal, hva, hvb, hvc, hvm, hi, hme]
    simp only [exec_vins, execVins, q, x]
    exact runV_plain h hp hflow room hl _ _ _ rfl
  · have hl : vLegal f { vd := true, rs := true, tile := true } true = true := by simp [vLegal, hva, hvc, hvb, mask_used hm]
    simp only [exec_vld, execVld]
    exact runV_issues h hp hflow room _ _ _ hl rfl (pieceCheck_ok hfmt hlen h0 h1)
  · have hl : vLegal f { vd := true, rs := true } (f.imm = 0) = true := by simp [vLegal, hva, hvb, hvc, hi, mask_used hm]
    exact runV_issues h hp hflow room _ _ _ hl rfl (accCheck_ok h0 h1)
  · have hl : vLegal f { va := true, rs := true } (f.imm = 0) = true := by simp [vLegal, hvd, hvb, hvc, hi, mask_used hm]
    exact runV_issues h hp hflow room _ _ _ hl rfl (accCheck_ok h0 h1)
  · have hl : vLegal f { vd := true, va := true, vb := true, rs := true } (f.imm = 0) = true := by simp [vLegal, hvc, hi, mask_used hm]
    simp only [exec_vmkc, exec_vmks, execVmkc, execVmks, q, x]
    have run := fun cls op fn i => runV_plain h hp hflow room hl cls op fn (i := i)
    exact ⟨run _ _ _ _ rfl, run _ _ _ _ rfl⟩
  · have hl : vLegal f { vd := true, vb := true, rs := true } (f.imm = 0) = true := by simp [vLegal, hva, hvc, hi, mask_used hm]
    simp only [exec_vmkcm, exec_vmksm, execVmkcm, execVmksm, q, x]
    have run := fun cls op fn i => runV_plain h hp hflow room hl cls op fn (i := i)
    exact ⟨run _ _ _ _ rfl, run _ _ _ _ rfl⟩
  · have hl : vLegal f { vd := true, va := true } (f.imm.toNat < 8) = true := by simp [vLegal, hvb, hvc, hrs, hi, mask_used hm]
    simp only [exec_vexp, execVexp, q, x]
    exact runV_plain h hp hflow room hl _ _ _ rfl
  · have hl : vLegal f { vd := true, va := true, vb := true, vc := true, mask := false } (f.imm = 0) = true := by simp [vLegal, hrs, hvm, hi, hme]
    simp only [exec_vroti, execVroti, q, x]
    exact runV_plain h hp hflow room hl _ _ _ rfl
  · have hl : vLegal f { vd := true, va := true, vb := true, vc := true, mask := false } (f.imm.toNat < 2) = true := by simp [vLegal, hrs, hvm, hi, hme]
    simp only [exec_vrots, execVrots, q, x]
    exact runV_plain h hp hflow room hl _ _ _ rfl
  · have hl : vLegal f { rs := true, tile := true, mask := false } (f.imm.toNat < 8) = true := by simp [vLegal, hvd, hva, hvc, hvb, hvm, hi, hme]
    simp only [exec_tldTable, execTldTable]
    exact runV_issues h hp hflow room _ _ _ hl rfl (tableCheck_ok hfmt hlen h0 h1)
  · have hl : vLegal f { vd := true, va := true, rs := true } (f.imm.toNat < 256) = true := by simp [vLegal, hvb, hvc, hi, mask_used hm]
    simp only [exec_tlu, exec_tli, execTlu, execTli, q, x]
    have run := fun cls op fn i => runV_plain h hp hflow room hl cls op fn (i := i)
    exact ⟨run _ _ _ _ rfl, run _ _ _ _ rfl⟩
  · have hl : vLegal f { va := true, rs := true, tile := true } true = true := by simp [vLegal, hvd, hvc, hvb, mask_used hm]
    simp only [exec_vst, execVst]
    have hpart' : ¬ ((f.me && (decide (t.fmt = 2) || decide (t.fmt = 3))) = true) := by
      cases hme : f.me
      · simp
      · simpa using hpart hme
    exact runV_issues h hp hflow room _ _ _ hl rfl ((if_neg hpart').trans (pieceCheck_ok hfmt hlen h0 h1))
  · have hl : vLegal f { va := true, rs := true, mask := false } (f.imm.toNat < 512) = true := by simp [vLegal, hvd, hvb, hvc, hvm, hi, hme]
    intro u
    rw [exec_vext, execVext, seqRun_chosen (atDecode_mono h) hp _ _ hl]
    exact congrArg _ (finish_pendScalar hflow room rfl _ _)
  · have hl : vLegal f { va := true } (1 ≤ f.imm.toNat && f.imm.toNat < 8) = true := by simp [vLegal, hvd, hvb, hvc, hrs, hi0, hi, mask_used hm]
    intro u
    rw [exec_vany, execVany, seqRun_chosen (atDecode_mono h) hp _ _ hl]
    exact congrArg _ (finish_pendPred hflow room rfl _ _)

theorem accRangeOk_iff {e : Int} {m : Nat} : accRangeOk e m = true ↔ 0 ≤ e ∧ e + m ≤ 1024 := by simp [accRangeOk]

theorem linearCheck_ok {f : FormD} {a p : Int} {t : Tile} (hb : f.burl = 0) (ha : 0 ≤ a) (hp : 0 ≤ p)
    (h : a + ((t.rows : Int) - 1) * p + t.len ≤ 2 ^ 48) : linearCheck f a p t = none := by
  unfold linearCheck
  rw [if_neg (by simp [burlShape, hb]), if_neg (by omega), if_neg (by omega), if_neg (by simpa [remoteLen, hb] using h),
    if_neg (by simp [hb]), if_neg (by simp [hb])]

theorem tableAddrCheck_ok {f : FormD} {a p : Int} {t : Tile} (hb : f.burl = 0) (ha : 0 ≤ a) (h8 : a % 8 = 0)
    (h : a + 8 * t.rows ≤ 0x1800000) : tableAddrCheck f a p t = none := by
  unfold tableAddrCheck
  rw [if_neg (by simp [burlShape, hb]), if_neg (by simpa [h8] using ⟨ha, h⟩)]

theorem accImageCheck_ok {f : FormD} {a p : Int} {t : Tile} (hfmt : t.fmt = 7) (hlen : 4096 ≤ t.len) (ha : 0 ≤ a)
    (h : a + t.rows ≤ 1024) : accImageCheck f a p t = none := by
  unfold accImageCheck
  rw [if_neg (by simpa [hfmt] using hlen), if_neg (by simp [accRangeOk_iff, ha, h])]

theorem runD_issues {c : Fin 6} {f : FormD} {s : State} (h : AtDecode c f.pred [f.ra.toNat, f.rb.toNat] [] s) (hp : Chosen c f.pred f.pn s)
    (hflow : Flows c s) (room : Room c .dma s) (hv : f.resv = 0) (hb : f.burl = 0) (op : Nat) {ok : Bool} (hl : ok = true) (i : Instr)
    (hi : QEntry.isSignal { op := i, pc := 0, word := 0 } = false) {check : Int → Int → Tile → Option (Nat × Int)}
    (hc : check ((s.core c).sreg f.ra.toNat) ((s.core c).sreg f.rb.toNat) ((s.core c).treg f.td.toNat) = none) :
    runD c op f ok i check s = .next (queued c .dma i (wordD op f) ((s.core c).sreg f.ra.toNat) ((s.core c).sreg f.rb.toNat)
      ((s.core c).treg f.td.toNat) 0 s) := by
  refine (seqRun_chosen h hp _ _ (by simp [hv, hb, hl]) _).trans (congrArg _ ?_)
  simp only [hc]
  exact finish_issue (t1 := 0) hflow room (.inr hi) _

theorem runQ_issues {c : Fin 6} {f : FormQ} {s : State} (h : AtDecode c f.pred [f.rs.toNat] [] s) (hp : Chosen c f.pred f.pn s)
    (hflow : Flows c s) (room : Room c .twig s) (op : Nat) {ok : Bool} (hl : ok = true) (i : Instr)
    (hi : QEntry.isSignal { op := i, pc := 0, word := 0 } = false) {check : Int → Tile → Option (Nat × Int)}
    (hc : check ((s.core c).sreg f.rs.toNat) ((s.core c).treg f.td.toNat) = none) :
    runQ c op f ok i check s = .next (queued c .twig i (wordQ op f) ((s.core c).sreg f.rs.toNat) 0 ((s.core c).treg f.td.toNat) 0 s) := by
  refine (seqRun_chosen h hp _ _ hl _).trans (congrArg _ ?_)
  simp only [hc]
  exact finish_issue (y := 0) (t1 := 0) hflow room (.inr hi) _

/-- Settles O23. -/
theorem tensorIssue : Obligations.TensorIssue := by
  intro c s hflow
  refine ⟨fun f h hp room hmode hv => ?_, fun f h hp room hv hb => ?_, fun f h hp room => ?_⟩
  · intro k a ta tb m
    have hmode' : f.mode ≠ 3#2 := hmode
    refine ⟨fun hra hacc hswp htb hw hrows => ?_, fun htb hact hlen h0 h1 => ?_, fun hswp hact hw hmod hn hlen h0 h1 => ?_⟩
    · refine (seqRun_chosen (atDecode_mono h) hp _ _ (by simp [hmode', hv, hra, hacc, hswp, htb]) _).trans (congrArg _ ?_)
      have hok : ¬ ((!(weightOk ta m) || decide (ta.rows ≠ tileRows m f.grp)) = true) := by simp [hw, hrows]
      refine (congrArg (finish c _ s) (if_neg hok)).trans ?_
      exact finish_issue (i := .awld c f) (x := 0) (y := 0) (t1 := 0) hflow room (.inr rfl) _
    · refine (seqRun_chosen (atDecode_mono h) hp _ _ (by simp [hmode', hv, htb]) _).trans (congrArg _ ?_)
      have hok : ¬ ((!(actOk ta m) || decide (ta.len < sliceBytes m f.grp)) = true) := by simpa [hact] using hlen
      have hacc : ¬ ((!(accRangeOk a ta.rows)) = true) := by simp [accRangeOk_iff, h0, h1]
      refine (congrArg (finish c _ s) ((if_neg hok).trans (if_neg hacc))).trans ?_
      exact finish_issue (i := .amm c f) (y := 0) (t1 := 0) hflow room (.inr rfl) _
    · refine (seqRun_chosen (atDecode_mono h) hp _ _ (by simp [hmode', hv, hswp]) _).trans (congrArg _ ?_)
      have hok : ¬ ((!(actOk ta m)) = true) := by simp [hact]
      have hwt : ¬ ((!(weightOk tb m) || decide (tb.rows % tileRows m f.grp ≠ 0) || decide (64 < tb.rows / tileRows m f.grp)) = true) := by
        simpa [hw, hmod] using hn
      have hin : ¬ ta.len < tb.rows / tileRows m f.grp * sliceBytes m f.grp := Nat.not_lt.2 hlen
      have hacc : ¬ ((!(accRangeOk a ta.rows)) = true) := by simp [accRangeOk_iff, h0, h1]
      refine (congrArg (finish c _ s) ((if_neg hok).trans ((if_neg hwt).trans ((if_neg hin).trans (if_neg hacc))))).trans ?_
      exact finish_issue (i := .ammc c f) (y := 0) hflow room (.inr rfl) _
  · intro k a p t q
    have run := fun op {ok} hl i hi {check} hc => runD_issues h hp hflow room hv hb op (ok := ok) hl i hi (check := check) hc
    refine ⟨fun ha hp0 hlen => ?_, fun hrb ha h8 hlen => ?_, fun hrb hfmt hlen ha hrows => ?_, fun hra hrb => ?_⟩
    · have hc := linearCheck_ok hb ha hp0 hlen
      exact ⟨run 0 rfl _ rfl hc, run 1 rfl _ rfl hc⟩
    · have hc := tableAddrCheck_ok (p := p) hb ha h8 hlen
      exact ⟨run 2 (decide_eq_true hrb) _ rfl hc, run 3 (decide_eq_true hrb) _ rfl hc⟩
    · have hc := accImageCheck_ok (f := f) (p := p) hfmt hlen ha hrows
      simp only [exec_dacl, exec_dacs, execDacl, execDacs]
      exact ⟨run 4 (by simp [hrb, hb]) _ rfl hc, run 5 (by simp [hrb, hb]) _ rfl hc⟩
    · rw [exec_dzro, execDzro]
      exact run 6 (by simp [hra, hrb, hb]) _ rfl rfl
  · intro k x t q
    have run := fun op {ok} hl i hi {check} hc => runQ_issues h hp hflow room op (ok := ok) hl i hi (check := check) hc
    refine ⟨fun hvd hvr hmod hw hacc => ?_, fun htd hvr hmod hwr hmx hrs => ?_, fun hvd hvb hvc hvr how hmod hwr hza hzw hoq hout hx => ?_,
      fun htd hvb hvc hvr hrs hvd how hmod => ?_⟩
    · rw [exec_qdrn, execQdrn]
      refine run 0 (by simp [hvd, hvr, hmod]) _ rfl ?_
      have hout : ¬ ((f.wr && !(outShape f t)) = true) := by
        cases hwr : f.wr
        · simp
        · simp [hw hwr]
      exact (if_neg hout).trans (if_neg (by exact Nat.not_lt.2 hacc))
    · rw [exec_qdq, execQdq]
      exact run 1 (by simp [htd, hvr, hmod, hwr, hmx, hrs]) _ rfl rfl
    · have how' : f.ow ≠ 0#2 := how
      rw [exec_qnt, execQnt]
      refine run 2 (by simp [hvd, hvb, hvc, hvr, how', hmod, hwr, hza, hzw, hoq]) _ rfl ?_
      have hout' : ¬ ((!(outShape f t)) = true) := by simp [hout]
      exact (if_neg hout').trans (if_neg (by exact Nat.not_le.2 hx))
    · rw [exec_qscl, execQscl]
      exact run 3 (by simpa [htd, hvb, hvc, hvr, hrs, hvd, hmod] using how) _ rfl rfl

end Sys2Proof.Machine
end

section
/-! The state after reset, the one rounding, and the partial sum of the array. -/

namespace Sys2Proof.Machine

/-- Settles O2. -/
theorem resetState : Obligations.ResetState := by
  refine ⟨fun _ => rfl, fun _ => rfl, rfl, ⟨rfl, rfl⟩, ?_, ?_, ?_, ?_, ?_⟩ <;> decide +kernel

/-- A rounding with unit `p`, half unit `h`, quotient `q` and remainder `r` is within half a unit, and even on a tie. -/
theorem round_within_half {p h q r : Int} (hp : 2 * h = p) (h0 : 0 ≤ r) (h1 : r < p) :
    let y := if r > h ∨ (r = h ∧ q % 2 = 1) then q + 1 else q
    |2 * (y * p - (p * q + r))| ≤ p ∧ (|2 * (y * p - (p * q + r))| = p → y % 2 = 0) := by
  intro y
  by_cases hr : r > h ∨ (r = h ∧ q % 2 = 1)
  · have hy : y = q + 1 := if_pos hr
    have he : 2 * (y * p - (p * q + r)) = 2 * (p - r) := by rw [hy]; ring
    rw [he, abs_of_nonneg (by omega)]
    omega
  · have hy : y = q := if_neg hr
    have he : 2 * (y * p - (p * q + r)) = -(2 * r) := by rw [hy]; ring
    rw [he, abs_neg, abs_of_nonneg (by omega)]
    omega

theorem rne_within_half (x : Int) (n : Nat) :
    |2 * (rne x n * 2 ^ n - x)| ≤ 2 ^ n ∧ (|2 * (rne x n * 2 ^ n - x)| = 2 ^ n → 1 ≤ n → rne x n % 2 = 0) := by
  rcases n with _ | n
  · simp [rne]
  · have hr : rne x (n + 1) = if x % 2 ^ (n + 1) > 2 ^ n ∨ (x % 2 ^ (n + 1) = 2 ^ n ∧ x / 2 ^ (n + 1) % 2 = 1) then x / 2 ^ (n + 1) + 1
        else x / 2 ^ (n + 1) := by
      unfold rne
      simp
    have hp : (0 : Int) < 2 ^ (n + 1) := by positivity
    have key := round_within_half (p := 2 ^ (n + 1)) (h := 2 ^ n) (q := x / 2 ^ (n + 1)) (by ring) (Int.emod_nonneg x hp.ne')
      (Int.emod_lt_of_pos x hp)
    rw [Int.mul_ediv_add_emod, ← hr] at key
    exact ⟨key.1, fun ht _ => key.2 ht⟩

theorem rne_eq_zero {x : Int} {n w : Nat} (hw : 1 ≤ w) (hlo : smin w ≤ x) (hhi : x ≤ smax w) (hn : w ≤ n) : rne x n = 0 := by
  obtain ⟨hle, heven⟩ := rne_within_half x n
  have hpow : 2 * (2 ^ (w - 1) : Nat) ≤ (2 ^ n : Nat) := by
    rw [← Nat.pow_succ']
    exact Nat.pow_le_pow_right (by decide) (by omega)
  have hpow' : 2 * ((2 ^ (w - 1) : Nat) : Int) ≤ 2 ^ n := by exact_mod_cast hpow
  unfold smin at hlo
  unfold smax at hhi
  have hp : (0 : Int) < 2 ^ n := by positivity
  rw [abs_le] at hle
  obtain ⟨h1, h2⟩ := hle
  have heven' : 2 * (rne x n * 2 ^ n - x) = -2 ^ n → rne x n % 2 = 0 := fun h => heven (by rw [h, abs_neg, abs_of_pos hp]) (hw.trans hn)
  generalize rne x n = y at *
  generalize (2 : Int) ^ n = p at *
  have hy0 : y < 1 := by
    by_contra hc
    have : p ≤ y * p := by nlinarith
    omega
  have hy1 : -2 < y := by
    by_contra hc
    have : y * p ≤ -2 * p := by nlinarith
    omega
  rcases (by omega : y = 0 ∨ y = -1) with h | h
  · exact h
  · subst h
    have := heven' (by omega)
    omega

/-- Settles O4. -/
theorem roundingIsNearestEven : Obligations.RoundingIsNearestEven := by
  refine ⟨rne_within_half, fun x n w hw hlo hhi hn => ?_⟩
  have := smax_nonneg w
  rw [srshift, rne_eq_zero hw hlo hhi hn, sat_of_mem (by rw [smin_eq_neg_smax_sub_one]; omega) this]

/-- The contribution of one listed weight code to the partial sum of column `j`. -/
def psumTerm (a : Array Int) (j : Nat) (e : Nat × BitVec 8) : Int := if e.1 % 512 = j then e.2.toInt * a.getD (e.1 / 512) 0 else 0

theorem foldl_psum (w : Sparse (BitVec 8)) (a : Array Int) (j : Nat) (t : Int) :
    w.foldl (fun t e => if e.1 % 512 = j then t + e.2.toInt * a.getD (e.1 / 512) 0 else t) t = t + (w.map (psumTerm a j)).sum := by
  induction w generalizing t with
  | nil => simp
  | cons e w ih =>
    rw [List.foldl_cons, ih, List.map_cons, List.sum_cons, psumTerm]
    split <;> ring

theorem spGet_absent {α : Type} (d : α) {w : Sparse α} {k : Nat} (h : ∀ e ∈ w, e.1 ≠ k) : spGet d w k = d := by
  induction w with
  | nil => rfl
  | cons e w ih =>
    rw [spGet_cons, if_neg (h e (by simp)), ih fun x hx => h x (by simp [hx])]

/-- A key of a tile lies in column `j` at most at one row. -/
theorem sum_row_of_key {key j : Nat} (hk : key < 512 * 512) (hj : j < 512) (v : Nat → Int) :
    ((List.range 512).map fun k => if key = 512 * k + j then v k else 0).sum = if key % 512 = j then v (key / 512) else 0 := by
  have hsum : ((List.range 512).map fun k => if key = 512 * k + j then v k else 0).sum =
      ∑ k ∈ Finset.range 512, if key = 512 * k + j then v k else 0 := rfl
  have hiff (k : Nat) : (key = 512 * k + j) ↔ (key % 512 = j ∧ k = key / 512) := by omega
  rw [hsum]
  simp only [hiff]
  split
  · next h => simp only [h, true_and, Finset.sum_ite_eq', Finset.mem_range, show key / 512 < 512 by omega, if_true]
  · next h => simp only [h, false_and, if_false, Finset.sum_const_zero]

theorem column_sum_eq {w : Sparse (BitVec 8)} {a : Array Int} {j : Nat} (hj : j < 512) (hord : w.Pairwise fun x y => x.1 < y.1)
    (hkey : ∀ e ∈ w, e.1 < 512 * 512) :
    ((List.range 512).map fun k => (spGet 0 w (512 * k + j)).toInt * a.getD k 0).sum = (w.map (psumTerm a j)).sum := by
  induction w with
  | nil => simp only [spGet_nil, show BitVec.toInt (0 : BitVec 8) = 0 from rfl, zero_mul, List.map_const', List.sum_replicate, smul_zero, List.map_nil, List.sum_nil]
  | cons e w ih =>
    obtain ⟨hfirst, hrest⟩ := List.pairwise_cons.1 hord
    have hsplit (k : Nat) : (spGet 0 (e :: w) (512 * k + j)).toInt * a.getD k 0 =
        (if e.1 = 512 * k + j then e.2.toInt * a.getD k 0 else 0) + (spGet 0 w (512 * k + j)).toInt * a.getD k 0 := by
      rw [spGet_cons]
      split
      · next h =>
        rw [spGet_absent 0 fun x hx => (h ▸ (hfirst x hx).ne')]
        simp
      · simp
    simp only [hsplit, List.sum_map_add, List.map_cons, List.sum_cons]
    rw [ih hrest fun x hx => hkey x (by simp [hx]), sum_row_of_key (hkey e (by simp)) hj fun k => e.2.toInt * a.getD k 0, psumTerm]

/-- Settles O27. -/
theorem partialSumIsExact : Obligations.PartialSumIsExact := by
  intro w a j hj hw hkey
  rw [column_sum_eq hj ((spWf_iff _ _).1 hw).1 hkey, psum, foldl_psum, zero_add]

end Sys2Proof.Machine
end

section
/-! The Twig unit: what the issue of a lane instruction writes (R129, R137, R141). -/

namespace Sys2Proof.Machine

theorem getD_vec (k : Crown) (r : Nat) {j : Nat} (hj : j < 512) : (k.vec r).getD j 0 = spGet 0 k.v (512 * r + j) := by
  have hl := spGet_filter (0 : BitVec 32) (fun i => decide (512 * r ≤ i) && decide (i < 512 * r + 512)) k.v (512 * r + j)
  unfold Crown.vec
  rw [Array.getD_eq_getD_getElem?, List.getElem?_toArray, List.getElem?_map, List.getElem?_range hj]
  simpa [hj] using hl

theorem lane_vec (s : State) (c : Fin 6) (r : BitVec 6) {j : Nat} (hj : j < 512) :
    lane ((s.core c).vec r.toNat) j = (laneAt s c r j).toInt := by
  rw [lane, getD_vec _ _ hj]; rfl

theorem activeLane_eq (s : State) (c : Fin 6) (f : FormV) {j : Nat} (hj : j < 512) : activeLane (s.core c) f j = laneOn s c f j := by
  unfold activeLane laneOn
  split
  · next h =>
    have hm := getD_vec (s.core c) f.vm.toNat hj
    simp only [hm, h, Bool.not_true, Bool.false_or]; rfl
  · next h => simp [h]

theorem laneAt_setV_self (s : State) (c : Fin 6) (k : Crown) (r : BitVec 6) (g : Nat → BitVec 32) {j : Nat} (hj : j < 512) :
    laneAt (s.setCore c (k.setV r.toNat g)) c r j = g j := by
  unfold laneAt
  rw [core_setCore_self, Crown.setV, spGet_spRange, if_pos (by omega), Nat.add_sub_cancel_left]

theorem laneAt_setV_ne (s : State) (c : Fin 6) (k : Crown) {r q : BitVec 6} (h : q ≠ r) (g : Nat → BitVec 32) {j : Nat} (hj : j < 512) :
    laneAt (s.setCore c (k.setV r.toNat g)) c q j = spGet 0 k.v (512 * q.toNat + j) := by
  have hne : q.toNat ≠ r.toNat := fun e => h (BitVec.eq_of_toNat_eq e)
  unfold laneAt
  rw [core_setCore_self, Crown.setV, spGet_spRange, if_neg (by omega)]

theorem reg_orFlags_ne (c : Fin 6) (fl : BitVec 4) (s : State) {o : Nat} (h : o ≠ (F.CRN_FLAGS_SAT_DZ_ACCF_SCLR c).reg) :
    (orFlags c fl s).reg o = s.reg o := by
  unfold orFlags
  split
  · rfl
  · exact reg_put_ne _ _ _ h

theorem mem_orFlags (c : Nat) (fl : BitVec 4) (s : State) : (orFlags c fl s).mem = s.mem := by
  unfold orFlags
  split <;> rfl

theorem orFlags_core_ne (c d : Nat) (fl : BitVec 4) (s : State) : (orFlags c fl s).core d = s.core d := core_orFlags _ _ _ _

/-- The lane that a lane instruction leaves: its result where active, the old one elsewhere. -/
theorem lanesWritten_laneOp (c : Fin 6) (f : FormV) (g : Nat → Int → Int → Int → Res) (s : State) :
    LanesWritten c f g s (laneOp c f g s) := by
  unfold laneOp
  refine ⟨fun j hj => ?_, fun r j hr hj => ?_, ?_, fun d hd => ?_, fun o ho => ?_⟩
  · refine (laneAt_setV_self _ _ _ _ _ hj).trans ?_
    rw [Array.getD_eq_getD_getElem?, List.getElem?_toArray, List.getElem?_map, List.getElem?_range hj]
    simp only [Option.map_some, Option.getD_some, activeLane_eq _ _ _ hj, lane_vec _ _ _ hj, getD_vec _ _ hj]
    cases laneOn s c f j <;> rfl
  · rw [laneAt_setV_ne _ _ _ hr _ hj]; rfl
  · rw [mem_setCore, mem_orFlags]
  · rw [core_setCore_ne _ _ (fun e => hd (Fin.val_injective e)), core_orFlags]
  · rw [reg_setCore, reg_orFlags_ne _ _ _ ho]

/-- Two states that agree in memory, registers and vector lanes, where lane instructions write the same. -/
theorem lanesWritten_of_same {c : Fin 6} {f : FormV} {g : Nat → Int → Int → Int → Res} {s u t : State} (h : LanesWritten c f g u t)
    (hm : u.mem = s.mem) (hr : u.regs = s.regs) (hv : (u.core c).v = (s.core c).v) (hd : ∀ d : Fin 6, d ≠ c → u.core d = s.core d) :
    LanesWritten c f g s t := by
  have hlane (r : BitVec 6) (j : Nat) : laneAt u c r j = laneAt s c r j := by unfold laneAt; rw [hv]
  have hon (j : Nat) : laneOn u c f j = laneOn s c f j := by unfold laneOn; rw [hlane]
  have hreg (o : Nat) : u.reg o = s.reg o := by unfold State.reg; rw [hr]
  obtain ⟨h1, h2, h3, h4, h5⟩ := h
  refine ⟨fun j hj => ?_, fun r j hne hj => by rw [h2 r j hne hj, hlane], h3.trans hm, fun d hne => (h4 d hne).trans (hd d hne),
    fun o ho => (h5 o ho).trans (hreg o)⟩
  rw [h1 j hj, hon, hlane, hlane, hlane, hlane]

theorem effHead_cons {e : QEntry} (rest : List QEntry) (h : e.isSignal = false) : effHead (e :: rest) = some ([], e, rest) := by
  unfold effHead
  rw [List.dropWhile_cons_of_neg (by simp [h]), List.takeWhile_cons_of_neg (by simp [h])]

/-- The state in which the Twig unit executes the head of its queue: the entry has left the queue and is in flight. -/
def twigTaken (c : Fin 6) (e : QEntry) (rest : List QEntry) (s : State) : State :=
  s.setCore c { s.core c with qTwig := rest, flTwig := (s.core c).flTwig ++ [e] }

/-- A quantise instruction, which the Twig unit executes apart from the lane instructions (R144). -/
def isQuant : Instr → Bool
  | .qdrn .. | .qdq .. | .qnt .. | .qscl .. => true
  | _ => false

/-- TWIG_ISSUE executes the head of the queue of a running core, when it is no signal, no wait and no quantise instruction (R92, R137). -/
theorem execTwigIssue_head {c : Fin 6} {s : State} {e : QEntry} {rest : List QEntry} (hrun : engineRuns s c = true)
    (hq : (s.core c).qTwig = e :: rest) (hs : e.isSignal = false) (hw : e.isWait = false)
    (heff : isQuant e.op = false) :
    exec (.twigIssue c) s = .next (twigEffect c e (twigTaken c e rest s)) := by
  have hh : effHead (s.core c).qTwig = some ([], e, rest) := by rw [hq, effHead_cons rest hs]
  have hpop : popHead c .twig s = s.setCore c { s.core c with qTwig := rest } := by
    unfold popHead
    simp only [Crown.queue, hh]; rfl
  rw [exec_twigIssue, execTwigIssue]
  simp only [hrun, hh, hw, hpop, Bool.not_true, Bool.false_eq_true, if_false, core_setCore_self, setCore_setCore]
  split
  case h_5 => rfl
  all_goals next hop => simp [hop, isQuant] at heff

/-- TWIG_ISSUE of a lane instruction with operation `op`, whose result per lane is `g`. -/
def IssuesLanes (c : Fin 6) (f : FormV) (s : State) (e : QEntry) (rest : List QEntry) (op : Instr) (g : Nat → Int → Int → Int → Res) : Prop :=
  e.op = op → ∃ t, exec (.twigIssue c) s = .next t ∧ LanesWritten c f g s t ∧ (t.core c).qTwig = rest

theorem qTwig_laneOp (c : Fin 6) (f : FormV) (g : Nat → Int → Int → Int → Res) (s : State) :
    ((laneOp c f g s).core c).qTwig = (s.core c).qTwig := by
  unfold laneOp
  rw [core_setCore_self]; rfl

/-- An entry whose effect is a lane operation of the model with the same results. -/
theorem issuesLanes_of {c : Fin 6} {f : FormV} {s : State} {e : QEntry} {rest : List QEntry} {op : Instr} {g g' : Nat → Int → Int → Int → Res}
    (hrun : engineRuns s c = true) (hq : (s.core c).qTwig = e :: rest) (hs : QEntry.isSignal { e with op := op } = false)
    (hw : QEntry.isWait { e with op := op } = false)
    (heff : isQuant op = false)
    (he : ∀ u, twigEffect c { e with op := op } u = laneOp c f g' u) (hg : ∀ j a b x, g j a b x = g' j a b x) :
    IssuesLanes c f s e rest op g := by
  rintro rfl
  obtain rfl : g = g' := by funext j a b x; exact hg j a b x
  refine ⟨_, execTwigIssue_head hrun hq hs hw heff, ?_, ?_⟩
  · rw [he]
    refine lanesWritten_of_same (lanesWritten_laneOp c f g _) rfl rfl ?_ fun d hd => ?_
    · rw [twigTaken, core_setCore_self]
    · rw [twigTaken, core_setCore_ne _ _ fun h => hd (Fin.val_injective h)]
  · rw [he, qTwig_laneOp, twigTaken, core_setCore_self]

theorem truth_eq (p : Prop) [Decidable p] : truth (decide p) = (if p then 1 else 0, fNone) := by
  unfold truth ofBool
  by_cases h : p <;> simp [h]

/-- Settles O24. -/
theorem twigLanes : Obligations.TwigLanes := by
  intro c d f s e rest hrun hq go
  have run {op : Instr} {g' : Nat → Int → Int → Int → Res} (g) he hg hs hw heff : IssuesLanes c f s e rest op g :=
    issuesLanes_of (g := g) (g' := g') hrun hq hs hw heff he hg
  refine ⟨run _ (fun _ => by rw [twigEffect]) (by intros; rfl) rfl rfl rfl,
    run _ (fun _ => by rw [twigEffect]) (by intros; rfl) rfl rfl rfl,
    run _ (fun _ => by rw [twigEffect]) (by intros; rfl) rfl rfl rfl,
    run _ (fun _ => by rw [twigEffect]) (by intros; rfl) rfl rfl rfl,
    run _ (fun _ => by rw [twigEffect]) (by intros; rfl) rfl rfl rfl,
    run _ (fun _ => by rw [twigEffect]) (by intros; rfl) rfl rfl rfl,
    run _ (fun _ => by rw [twigEffect]) (by intros; rfl) rfl rfl rfl,
    run _ (fun _ => by rw [twigEffect]) (by intros; rfl) rfl rfl rfl,
    run _ (fun _ => by rw [twigEffect]) (by intros; rfl) rfl rfl rfl,
    run _ (fun _ => by rw [twigEffect]) (by intros; rfl) rfl rfl rfl,
    run _ (fun _ => by rw [twigEffect]) (by intros; rfl) rfl rfl rfl,
    run _ (fun _ => by rw [twigEffect]) (by intros; rfl) rfl rfl rfl,
    run _ (fun _ => by rw [twigEffect]) (by intros; rfl) rfl rfl rfl,
    run _ (fun _ => by rw [twigEffect]) (by intros; rfl) rfl rfl rfl,
    run _ (fun _ => by rw [twigEffect]) (by intros; rfl) rfl rfl rfl,
    run _ (fun _ => by rw [twigEffect]) (by intros; rfl) rfl rfl rfl,
    run _ (fun _ => by rw [twigEffect]) (by intros; rfl) rfl rfl rfl,
    run _ (fun _ => by rw [twigEffect]) (by intros; rfl) rfl rfl rfl,
    run _ (fun _ => by rw [twigEffect]) (by intro _ a b _; exact (truth_eq (a < b)).symm) rfl rfl rfl,
    run _ (fun _ => by rw [twigEffect]) (by intro _ a b _; exact (truth_eq (a = b)).symm) rfl rfl rfl,
    run _ (fun _ => by rw [twigEffect]) (by intros; rfl) rfl rfl rfl,
    run _ (fun _ => by rw [twigEffect]) (by intros; rfl) rfl rfl rfl,
    run _ (fun _ => by rw [twigEffect]) (by intros; rfl) rfl rfl rfl,
    run _ (fun _ => by rw [twigEffect]) (by intros; rfl) rfl rfl rfl,
    run _ (fun _ => by rw [twigEffect]) (by intros; rfl) rfl rfl rfl,
    run _ (fun _ => by rw [twigEffect]) (by intros; rfl) rfl rfl rfl,
    run _ (fun _ => by rw [twigEffect]) (by intros; rfl) rfl rfl rfl,
    run _ (fun _ => by rw [twigEffect]) (by intros; rfl) rfl rfl rfl,
    run _ (fun _ => by rw [twigEffect]) (by intros; rfl) rfl rfl rfl,
    run _ (fun _ => by rw [twigEffect]) (by intro _ _ b _; exact (truth_eq (b ≤ e.x)).symm) rfl rfl rfl⟩

end Sys2Proof.Machine
end

section
/-! The Twig unit: VEXT, VINS, VANY and the sum over the lanes (R137, R138, R141). -/

namespace Sys2Proof.Machine

@[simp] theorem core_twigTaken (c : Fin 6) (e : QEntry) (rest : List QEntry) (s : State) :
    (twigTaken c e rest s).core c = { s.core c with qTwig := rest, flTwig := (s.core c).flTwig ++ [e] } := core_setCore_self _ _ _

theorem laneAt_twigTaken (c : Fin 6) (e : QEntry) (rest : List QEntry) (s : State) (r : BitVec 6) (j : Nat) :
    laneAt (twigTaken c e rest s) c r j = laneAt s c r j := by
  unfold laneAt
  rw [core_twigTaken]

theorem laneOn_twigTaken (c : Fin 6) (e : QEntry) (rest : List QEntry) (s : State) (f : FormV) (j : Nat) :
    laneOn (twigTaken c e rest s) c f j = laneOn s c f j := by
  unfold laneOn
  rw [laneAt_twigTaken]

/-- The key of a lane in the vector file names its register and its place. -/
theorem lane_key_inj {r q : BitVec 6} {i j : Nat} (hi : i < 512) (hj : j < 512) : 512 * r.toNat + i = 512 * q.toNat + j ↔ r = q ∧ i = j := by
  constructor
  · intro h
    exact ⟨BitVec.eq_of_toNat_eq (by omega), by omega⟩
  · rintro ⟨rfl, rfl⟩; rfl

/-- A write of one lane leaves its result there and no other lane changed. -/
theorem setLane_spec (c : Fin 6) (r : BitVec 6) {l : Nat} (hl : l < 512) (x : Res) (s : State) :
    laneAt (setLane c r.toNat l x s) c r l = BitVec.ofInt 32 x.1
    ∧ (∀ q j, j < 512 → (q ≠ r ∨ j ≠ l) → laneAt (setLane c r.toNat l x s) c q j = laneAt s c q j)
    ∧ (setLane c r.toNat l x s).mem = s.mem := by
  unfold setLane laneAt
  refine ⟨?_, fun q j hj hne => ?_, ?_⟩
  · rw [core_setCore_self, spGet_spSet_self]
  · rw [core_setCore_self, spGet_spSet_ne]
    rw [ne_eq, lane_key_inj hj hl]
    tauto
  · rw [mem_setCore, mem_orFlags]

theorem laneOf_eq (x : Int) : laneOf x = (x % 512).toNat := rfl

/-- The sum over the active lanes is the sum over all lanes with the inactive ones 0. -/
theorem foldl_active_sum (l : List Nat) (act : Nat → Bool) (v : Nat → Int) (t : Int) :
    (l.filterMap fun j => if act j then some (j, v j) else none).foldl (fun t y => t + y.2) t =
      t + (l.map fun j => if act j then v j else 0).sum := by
  induction l generalizing t with
  | nil => simp
  | cons j l ih =>
    rw [List.map_cons, List.sum_cons]
    cases h : act j
    · rw [List.filterMap_cons_none (by simp [h]), ih]; simp
    · rw [List.filterMap_cons_some (b := (j, v j)) (by simp [h]), List.foldl_cons, ih]; simp; ring

theorem activeVals_eq (s : State) (c : Fin 6) (f : FormV) :
    activeVals (s.core c) f = (List.range 512).filterMap fun j => if laneOn s c f j then some (j, (laneAt s c f.va j).toInt) else none := by
  unfold activeVals
  refine List.filterMap_congr fun j hj => ?_
  rw [List.mem_range] at hj
  rw [activeLane_eq s c f hj, lane_vec s c f.va hj]

theorem redSum_activeVals (s : State) (c : Fin 6) (f : FormV) :
    redSum (activeVals (s.core c) f) =
      sat (((List.range 512).map fun j => if laneOn s c f j then (laneAt s c f.va j).toInt else 0).sum) 32 := by
  rw [redSum, activeVals_eq, foldl_active_sum, zero_add]

theorem toInt_odd_iff (x : BitVec 32) : x.toInt % 2 = 1 ↔ x.getLsbD 0 = true := by
  have h : x.getLsbD 0 = decide (x.toNat % 2 = 1) := by rw [BitVec.getLsbD, Nat.testBit_zero]
  rw [h, decide_eq_true_iff, BitVec.toInt_eq_toNat_cond]
  split <;> omega

theorem any_activeVals (s : State) (c : Fin 6) (f : FormV) :
    ((activeVals (s.core c) f).any fun y => y.2 % 2 = 1) = true ↔
      ∃ j, j < 512 ∧ laneOn s c f j = true ∧ (laneAt s c f.va j).getLsbD 0 = true := by
  rw [activeVals_eq, List.any_eq_true]
  simp only [List.mem_filterMap, List.mem_range, decide_eq_true_eq]
  constructor
  · rintro ⟨y, ⟨j, hj, hy⟩, hodd⟩
    cases hon : laneOn s c f j
    · simp [hon] at hy
    · simp only [hon, if_true, Option.some.injEq] at hy
      subst hy
      exact ⟨j, hj, hon, (toInt_odd_iff _).1 hodd⟩
  · rintro ⟨j, hj, hon, hodd⟩
    exact ⟨_, ⟨j, hj, by rw [hon]; rfl⟩, (toInt_odd_iff _).2 hodd⟩

theorem sreg_setS (k : Crown) (r : BitVec 5) (v : BitVec 32) : (k.setS r.toNat v.toInt).sreg r.toNat = if r = 0 then 0 else v.toInt := by
  have h0 : r.toNat = 0 ↔ r = 0 := by rw [← BitVec.toNat_inj]; rfl
  unfold Crown.setS Crown.sreg
  by_cases h : r = 0
  · rw [if_pos h, if_pos (h0.2 h)]
  · have h' : r.toNat ≠ 0 := fun e => h (h0.1 e)
    have hlt := BitVec.toInt_lt (x := v)
    have hle := BitVec.le_toInt (x := v)
    rw [if_neg h, if_neg h', if_neg h', spGet_spSet_self, BitVec.toInt_ofInt_eq_self (by decide) (by omega) (by omega)]

theorem preg_setP (k : Crown) {r : Nat} (hr : r < 8) (b : Bool) : (k.setP r b).preg r = true ↔ r = 0 ∨ b = true := by
  have hbit : (BitVec.ofNat 8 (2 ^ r)).getLsbD r = true := by
    rw [BitVec.getLsbD_ofNat, Nat.testBit_two_pow_self, decide_eq_true hr]; rfl
  unfold Crown.setP Crown.preg
  by_cases h : r = 0
  · simp [h]
  · rw [if_neg h, decide_eq_false h, Bool.false_or]
    cases b
    · rw [if_neg Bool.false_ne_true, BitVec.getLsbD_and, BitVec.getLsbD_not, hbit]
      simp [h]
    · rw [if_pos rfl, BitVec.getLsbD_or, hbit]
      simp

@[simp] theorem setS_v (k : Crown) (r : Nat) (v : Int) : (k.setS r v).v = k.v := by unfold Crown.setS; split <;> rfl
@[simp] theorem setP_v (k : Crown) (r : Nat) (b : Bool) : (k.setP r b).v = k.v := by unfold Crown.setP; split <;> rfl

/-- Settles O25. -/
theorem laneReductions : Obligations.LaneReductions := by
  intro c d f s e rest hrun hq
  refine ⟨fun hop hi => ?_, fun hop hi => ?_, fun hop hi => ?_, fun hop => ?_⟩ <;>
    refine ⟨_, execTwigIssue_head hrun hq (by simp [QEntry.isSignal, hop]) (by simp [QEntry.isWait, hop]) (by simp [isQuant, hop]), ?_⟩ <;>
    simp only [twigEffect, hop]
  · refine ⟨?_, ?_, rfl, rfl⟩
    · rw [core_setCore_self, lane_vec _ _ _ hi, sreg_setS, laneAt_twigTaken]
    · rw [core_setCore_self, setS_v, core_twigTaken]
  · obtain ⟨h1, h2, h3⟩ := setLane_spec c f.vd hi (sat e.x 32) (twigTaken c e rest s)
    exact ⟨h1, fun r j hj hne => (h2 r j hj hne).trans (laneAt_twigTaken _ _ _ _ _ _), h3⟩
  · refine ⟨?_, ?_, rfl, rfl⟩
    · rw [core_setCore_self, preg_setP _ hi, any_activeVals]
      simp only [laneOn_twigTaken, laneAt_twigTaken, ← BitVec.toNat_inj]; rfl
    · rw [core_setCore_self, setP_v, core_twigTaken]
  · rw [reduce, redSum_activeVals, laneOf_eq]
    obtain ⟨h1, h2, h3⟩ := setLane_spec c f.vd (l := (e.x % 512).toNat) (by omega) (sat (((List.range 512).map fun j =>
      if laneOn (twigTaken c e rest s) c f j then (laneAt (twigTaken c e rest s) c f.va j).toInt else 0).sum) 32) (twigTaken c e rest s)
    refine ⟨h1.trans ?_, fun r j hj hne => (h2 r j hj hne).trans (laneAt_twigTaken _ _ _ _ _ _), h3⟩
    simp only [laneOn_twigTaken, laneAt_twigTaken]

end Sys2Proof.Machine
end

section
/-! What admits an access reads: the registers, the scheduler's owners, the Page keeper's pool and nothing else of the state (R31, R32, R343). -/

namespace Sys2Proof.Machine

/-- Two states that an access is judged alike in. -/
structure SameGate (s t : State) : Prop where
  regs : t.regs = s.regs
  sched : t.sched = s.sched
  kvp : t.kvp = s.kvp

variable {s t : State}

theorem SameGate.reg (h : SameGate s t) (o : Nat) : t.reg o = s.reg o := by unfold State.reg; rw [h.regs]
theorem SameGate.fld (h : SameGate s t) (f : RegField) : t.fld f = s.fld f := by unfold State.fld; rw [h.reg]
theorem SameGate.flag (h : SameGate s t) (f : RegField) : t.flag f = s.flag f := by unfold State.flag; rw [h.fld]
theorem SameGate.tapOpen (h : SameGate s t) : tapOpen t = tapOpen s := by unfold Machine.tapOpen; rw [h.fld]
theorem SameGate.coreCtx (h : SameGate s t) (k : Nat) : coreCtx t k = coreCtx s k := by unfold Machine.coreCtx; rw [h.fld, h.fld]
theorem SameGate.ownerOf (h : SameGate s t) (k : Nat) : ownerOf t k = ownerOf s k := by unfold Machine.ownerOf; rw [h.sched]
theorem SameGate.withdrawn (h : SameGate s t) (k : Nat) : withdrawn t k = withdrawn s k := by unfold Machine.withdrawn; rw [h.sched]
theorem SameGate.kvpChunk (h : SameGate s t) : kvpChunk t = kvpChunk s := by unfold Machine.kvpChunk kvpStreams kvpDim; simp only [h.fld, h.flag]
theorem SameGate.kvpChunks (h : SameGate s t) : kvpChunks t = kvpChunks s := by unfold Machine.kvpChunks; simp only [h.fld]
theorem SameGate.kvpBase (h : SameGate s t) : kvpBase t = kvpBase s := by unfold Machine.kvpBase; simp only [h.fld]
theorem SameGate.chunkAt (h : SameGate s t) (a : Nat) : chunkAt t a = chunkAt s a := by
  unfold Machine.chunkAt; rw [h.flag, h.kvpBase, h.kvpChunk, h.kvpChunks]
theorem SameGate.chunkZeroing (h : SameGate s t) (k : Nat) : chunkZeroing t k = chunkZeroing s k := by
  unfold Machine.chunkZeroing; rw [h.kvp]

theorem SameGate.fixedWindows (h : SameGate s t) : fixedWindows t = fixedWindows s := by
  funext oid p wr
  cases p <;> simp only [Machine.fixedWindows, h.tapOpen]

theorem SameGate.fixedRings (h : SameGate s t) : fixedRings t = fixedRings s := by
  funext oid ctx p wr
  cases p <;> simp only [Machine.fixedRings, h.coreCtx]

theorem SameGate.fixedResults (h : SameGate s t) : fixedResults t = fixedResults s := by
  funext oid ctx a p wr
  unfold Machine.fixedResults
  simp only [h.sched, h.coreCtx, h.ownerOf]

theorem SameGate.fixedOwned (h : SameGate s t) : fixedOwned t = fixedOwned s := by
  funext oid ctx a p wr
  unfold Machine.fixedOwned
  simp only [h.chunkAt, h.kvp, h.chunkZeroing, h.withdrawn, h.ownerOf, h.coreCtx]

theorem SameGate.fixedRule (h : SameGate s t) : fixedRule t = fixedRule s := by
  funext oid ctx a p wr
  unfold Machine.fixedRule
  rw [h.fixedWindows, h.fixedRings, h.fixedResults, h.fixedOwned]

theorem SameGate.ruleMatches (h : SameGate s t) : ruleMatches t = ruleMatches s := by
  funext n oid ctx a
  unfold Machine.ruleMatches
  simp only [h.fld, h.flag]

theorem SameGate.recordedOwner (h : SameGate s t) : recordedOwner t = recordedOwner s := by
  funext a
  unfold Machine.recordedOwner
  simp only [h.chunkAt, h.kvp, h.ownerOf]

theorem SameGate.ruleDecides (h : SameGate s t) : ruleDecides t = ruleDecides s := by
  funext n ctx a wr
  unfold Machine.ruleDecides
  simp only [h.flag, h.recordedOwner]

theorem SameGate.firstRule (h : SameGate s t) : firstRule t = firstRule s := by
  funext oid ctx a
  unfold Machine.firstRule
  rw [h.ruleMatches]

theorem SameGate.barkPage (h : SameGate s t) : barkPage t = barkPage s := by
  funext oid ctx a wr
  unfold Machine.barkPage
  rw [h.fixedRule, h.firstRule, h.ruleDecides]

theorem SameGate.barkPiece (h : SameGate s t) : barkPiece t = barkPiece s := by
  funext oid ctx a n wr
  unfold Machine.barkPiece
  rw [h.barkPage]

theorem SameGate.judgePiece (h : SameGate s t) : judgePiece t = judgePiece s := by
  funext oid ctx wr a n
  unfold Machine.judgePiece
  rw [h.barkPiece]

theorem SameGate.judge (h : SameGate s t) : judge t = judge s := by
  funext oid ctx a n wr
  unfold Machine.judge
  rw [h.judgePiece]

theorem SameGate.portGate (h : SameGate s t) : portGate t = portGate s := by
  funext oid a n wr
  unfold Machine.portGate lcState
  simp only [h.fld, h.tapOpen]

end Sys2Proof.Machine
end

section
/-! The engines of a Crown core: the array's loads, the DMA engines, retirement and the end of a job (R92, R128, R133, R145). -/

namespace Sys2Proof.Machine

theorem execArrayDispatch_awld {c d : Fin 6} {s : State} {e : QEntry} {rest : List QEntry} {f : FormX} (hrun : engineRuns s c = true)
    (hq : (s.core c).qArray = e :: rest) (hop : e.op = .awld d f) (hfl : (s.core c).flArray = []) :
    exec (.arrayDispatch c) s = .next (s.setCore c { s.core c with qArray := rest, flArray := [e], shadowSt := .loading }) := by
  have hh : effHead (s.core c).qArray = some ([], e, rest) := by rw [hq, effHead_cons rest (by simp [QEntry.isSignal, hop])]
  have hpop : popHead c .array s = s.setCore c { s.core c with qArray := rest } := by
    unfold popHead
    simp only [Crown.queue, hh]; rfl
  have hw : e.isWait = false := by simp [QEntry.isWait, hop]
  rw [exec_arrayDispatch, execArrayDispatch]
  simp only [hrun, hh, hw, hop, hpop, hfl, waitingStream, Bool.not_true, Bool.false_eq_true, if_false, core_setCore_self, setCore_setCore,
    List.any_nil, List.find?_nil, Option.isSome_none, Bool.or_self, List.nil_append]

theorem execShadowLoadComplete_awld {c d : Fin 6} {s : State} {e : QEntry} {f : FormX} {codes : Sparse (BitVec 8)} (hrun : engineRuns s c = true)
    (hfl : (s.core c).flArray = [e]) (hop : e.op = .awld d f) (hseen : e.seen = false)
    (hcodes : loadCodes c e.t0 0 (List.range (Tile.rows e.t0)) [] s = (some codes, s)) :
    exec (.shadowLoadComplete c) s = .next (s.setCore c
        { s.core c with shadow := ⟨f.mode.toNat, f.grp, codes⟩, shadowSt := .ready, flArray := [{ e with seen := true }] }) := by
  have hload : e.isLoad = true := by simp [QEntry.isLoad, hop]
  have hload' : QEntry.isLoad { e with seen := true } = true := hload
  have hfind : [e].find? (fun x => x.isLoad && !x.seen) = some e := by simp [hload, hseen]
  rw [exec_shadowLoadComplete, execShadowLoadComplete]
  simp only [hrun, hfl, hfind, hop, hcodes, Bool.not_true, Bool.false_eq_true, if_false]
  simp [waitingStream, QEntry.isLoad, hop]

theorem execInstructionRetire_vadd {c d : Fin 6} {s : State} {e : QEntry} {f : FormV} (hrun : engineRuns s c = true)
    (hfl : (s.core c).flTwig = [e]) (hop : e.op = .vadd d f) (hq : (s.core c).qTwig = []) :
    exec (.instructionRetire c .twig) s = .next (s.setCore c { s.core c with flTwig := [] }) := by
  have hfind : ((s.core c).flight .twig).find? (retires s c .twig) = some e := by rw [Crown.flight, hfl]; rfl
  rw [exec_instructionRetire, execInstructionRetire]
  simp only [hrun, hfind, retireQueue, Bool.not_true, Bool.false_eq_true, if_false]
  have hset : (releaseRegs ((s.core c).setFlight .twig (((s.core c).flight .twig).filter fun x => x.n ≠ e.n)) e) =
      { s.core c with flTwig := [] } := by
    simp [releaseRegs, hop, Crown.setFlight, Crown.flight, hfl]
  have hsig : dmaSignal e = none := by simp [dmaSignal, hop]
  rw [hset, hsig, settle_of_head]
  right
  rw [core_setCore_self]
  simp [Crown.queue, hq]

theorem execJobEndReport_ended {c : Fin 6} {s : State} (hrun : engineRuns s c = true) (hend : (s.core c).ended = true)
    (hidle : (s.core c).qDma = [] ∧ (s.core c).qArray = [] ∧ (s.core c).qTwig = [] ∧ (s.core c).qSync = [] ∧ (s.core c).flDma = []
      ∧ (s.core c).flArray = [] ∧ (s.core c).flTwig = []) :
    exec (.jobEndReport c) s = .next (s.setSched { s.sched with jobs := s.sched.jobs.map fun j =>
        if (j.dispatched && j.cores.contains (c : Nat) && !(j.ended.contains (c : Nat))) = true then { j with ended := j.ended ++ [c.val] } else j }) := by
  obtain ⟨h1, h2, h3, h4, h5, h6, h7⟩ := hidle
  rw [exec_jobEndReport, execJobEndReport]
  simp [hrun, hend, h1, h2, h3, h4, h5, h6, h7]

theorem fencedAt_setCore (s : State) (c d a n : Nat) (k : Crown) : fencedAt (s.setCore d k) c a n = fencedAt s c a n := rfl
theorem suspectWords_setCore (s : State) (d a n : Nat) (k : Crown) : suspectWords (s.setCore d k) a n = suspectWords s a n := rfl

theorem dmaOwnWrite_sound {c : Fin 6} {a : Nat} {bs : List Byte} {s : State} (h : Sound c a bs.length s) (ha : a + bs.length ≤ 0x1800000) :
    dmaOwnWrite c a bs s = (none, s.wrBytes (spBase c + a) bs) := by
  obtain ⟨hf, hw⟩ := h
  unfold dmaOwnWrite
  rw [hf]
  simp only [memWrite_sound hw ha]

/-- DZRO of one row writes zeros over the row and ends (R145). -/
theorem dmaRows_dzro_one {c d : Fin 6} {e : QEntry} {f : FormD} {s : State} (hop : e.op = .dzro d f) (hin : Tile.base e.t0 + Tile.len e.t0 ≤ 0x1800000)
    (hs : Sound c (Tile.base e.t0) (Tile.len e.t0) s) :
    dmaRows c e [0] 0 s = s.wrBytes (spBase c + Tile.base e.t0) (List.replicate (Tile.len e.t0) 0) := by
  have hrow : Tile.row e.t0 0 = Tile.base e.t0 := rfl
  have hlen : (List.replicate (Tile.len e.t0) (0 : Byte)).length = Tile.len e.t0 := List.length_replicate
  have hw : dmaOwnWrite c (Tile.row e.t0 0) (List.replicate (Tile.len e.t0) 0) s =
      (none, s.wrBytes (spBase c + Tile.base e.t0) (List.replicate (Tile.len e.t0) 0)) := by
    rw [hrow]
    exact dmaOwnWrite_sound (by rwa [hlen]) (by rwa [hlen])
  rw [dmaRows]
  simp only [hop, hw]
  rw [dmaRows]

theorem execDmaTake_dzro {c d : Fin 6} {s : State} {e : QEntry} {f : FormD} (hrun : engineRuns s c = true) (hq : (s.core c).qDma = [e])
    (hop : e.op = .dzro d f) (hfl : (s.core c).flDma = []) (hone : Tile.rows e.t0 = 1) (hin : Tile.base e.t0 + Tile.len e.t0 ≤ 0x1800000)
    (hs : Sound c (Tile.base e.t0) (Tile.len e.t0) s) :
    exec (.dmaTake c f.eng) s = .next
        ((s.setCore c { s.core c with qDma := [], flDma := [e] }).wrBytes (spBase c + Tile.base e.t0) (List.replicate (Tile.len e.t0) 0)) := by
  have hh : effHead (s.core c).qDma = some ([], e, []) := by rw [hq, effHead_cons [] (by simp [QEntry.isSignal, hop])]
  rw [hq] at hh
  have hw : e.isWait = false := by simp [QEntry.isWait, hop]
  have hnext : dmaNext f.eng [e] = some e := by simp [dmaNext, hw, dmaEngine, hop]
  have hfilter : [e].filter (fun x => x.n ≠ e.n) = [] := by simp
  rw [exec_dmaTake, execDmaTake]
  simp only [hrun, hh, hw, hfl, hq, hnext, hfilter, hone, Bool.not_true, Bool.false_eq_true, if_false, List.any_nil, List.nil_append]
  exact congrArg _ (dmaRows_dzro_one hop hin hs)

/-- Settles O28. -/
theorem engineCommands : Obligations.EngineCommands := by
  intro c d s e rest hrun k
  exact ⟨fun f hq hop hfl => execArrayDispatch_awld hrun hq hop hfl,
    fun f codes hfl hop hseen hcodes => execShadowLoadComplete_awld hrun hfl hop hseen hcodes,
    fun f hq hop hfl hone hin hs => execDmaTake_dzro hrun hq hop hfl hone hin hs,
    fun f hfl hop hq => execInstructionRetire_vadd hrun hfl hop hq,
    fun hend h1 h2 h3 h4 h5 h6 h7 => execJobEndReport_ended hrun hend ⟨h1, h2, h3, h4, h5, h6, h7⟩⟩

theorem ringReg_core {k r : Nat} (hk : k < 6) (hr : r < 256) : ringReg (k * 1024 + r) = some (Reg.CRN_RING k r) := by
  unfold ringReg
  simp only [show (k * 1024 + r) % 1024 = r by omega, show (k * 1024 + r) / 1024 = k by omega, hk, hr, if_true]

/-- A signal adds its increment to its ring modulo 2^32, and changes no other register (R116). -/
theorem bumpRing_spec {t o : Nat} (h : ringReg t = some o) (n : Nat) (s : State) :
    (bumpRing t n s).reg o = s.reg o + BitVec.ofNat 32 n ∧ (∀ p, p ≠ o → (bumpRing t n s).reg p = s.reg p) ∧ (bumpRing t n s).mem = s.mem
    ∧ (bumpRing t n s).owed = s.owed ∧ ∀ c, (bumpRing t n s).core c = s.core c := by
  unfold bumpRing
  rw [h]
  refine ⟨?_, fun p hp => reg_setReg_ne _ _ hp, rfl, rfl, fun _ => rfl⟩
  rw [reg_setReg_self, BitVec.ofNat_add, BitVec.ofNat_toNat, BitVec.setWidth_eq]

theorem QEntry_ring_rsig {e : QEntry} {d : Fin 6} {f : FormG} (h : e.op = .rsig d f) (c : Nat) : e.ring c = ringOf c f := by
  simp [QEntry.ring, h]

theorem ringOf_core_six {c : Nat} {f : FormG} (hg : f.g = false) (hcore : f.core.toNat < 6) :
    ringOf c f = f.core.toNat * 1024 + f.ring.toNat % 256 := by
  have hne : f.core ≠ 7 := by rintro h; rw [h] at hcore; exact absurd hcore (by decide)
  unfold ringOf
  rw [if_neg (by simp [hg]), if_neg hne]

theorem ringOf_core_seven {c : Nat} {f : FormG} (hg : f.g = false) (hcore : f.core = 7) : ringOf c f = c * 1024 + f.ring.toNat % 256 := by
  unfold ringOf
  rw [if_neg (by simp [hg]), if_pos hcore]

/-- A signal to a ring of a core adds its increment when it is applied (R116). -/
theorem applySignal_core {t oid ctx inc : Nat} (s : State) (h6 : t / 1024 < 6) (hinc : inc < 2 ^ 16) :
    applySignal t oid ctx inc s = if inc = 0 then s else bumpRing t inc s := by
  have hg : ringGlobal t = false := decide_eq_false (by omega)
  unfold applySignal notePost
  simp [hg, show ¬ 65536 ≤ inc by omega]

/-- A signal on the network that Bark admits reaches its ring (R93, R116). -/
theorem applyOwed_admitted {s : State} {o : OwedSig} (hk : o.ring / 1024 < 6) (hsync : o.sync = false) (hinc : o.inc < 2 ^ 16)
    (hbark : barkPiece s o.oid o.ctx (regBase + ringSigReg o.ring) 4 true = none) :
    applyOwed s o = if o.inc = 0 then s else bumpRing o.ring o.inc s := by
  unfold applyOwed netSignal
  simp only [hbark, hsync, applySignal_core s hk hinc, Bool.false_eq_true, if_false]

/-- The head of the SYNC queue is a signal to the core's own ring: the ring is counted at once (R93). -/
theorem execSyncQueueHead_own {c d : Fin 6} {s : State} {e : QEntry} {rest : List QEntry} {f : FormG} (hrun : engineRuns s c = true)
    (hq : (s.core c).qSync = e :: rest) (hop : e.op = .rsig d f) (hg : f.g = false) (hown : f.core = 7) :
    exec (.syncQueueHead c) s =
      .next (bumpRing (c.val * 1024 + f.ring.toNat % 256) e.x.toNat (s.setCore c { s.core c with qSync := rest })) := by
  have hring : e.ring c = c.val * 1024 + f.ring.toNat % 256 := (QEntry_ring_rsig hop c).trans (ringOf_core_seven hg hown)
  have hdiv : (c.val * 1024 + f.ring.toNat % 256) / 1024 = c.val := by omega
  rw [exec_syncQueueHead, execSyncQueueHead]
  simp [hrun, hq, hop, hring, hdiv, QEntry.inc]

/-- The head of the SYNC queue is a signal to another core's ring: it goes onto the network and stays at the head (R93). -/
theorem execSyncQueueHead_other {c d : Fin 6} {s : State} {e : QEntry} {rest : List QEntry} {f : FormG} (hrun : engineRuns s c = true)
    (hq : (s.core c).qSync = e :: rest) (hop : e.op = .rsig d f) (hg : f.g = false) (hcore : f.core.toNat < 6) (hne : f.core.toNat ≠ c.val)
    (hseen : e.seen = false) (hpos : 0 < e.x) :
    exec (.syncQueueHead c) s = .next { s.setCore c { s.core c with qSync := { e with seen := true } :: rest } with
      owed := s.owed ++ [⟨f.core.toNat * 1024 + f.ring.toNat % 256, coreCtxN s c, 0x10 + c.val, e.x.toNat, true, e.n⟩] } := by
  have hring : e.ring c = f.core.toNat * 1024 + f.ring.toNat % 256 := (QEntry_ring_rsig hop c).trans (ringOf_core_six hg hcore)
  have hinc : ¬ e.x.toNat = 0 := by omega
  have hdiv : ¬ (f.core.toNat * 1024 + f.ring.toNat % 256) / 1024 = c.val := by omega
  rw [exec_syncQueueHead, execSyncQueueHead]
  simp only [hrun, hq, hop, hring, hseen, QEntry.inc, hinc, hdiv, decide_false, Bool.or_self, Bool.not_true, Bool.false_eq_true, if_false]
  rfl

theorem execRingWaitSatisfied_decode {c : Fin 6} {s : State} {ring tgt : Nat} (hrun : engineRuns s c = true)
    (hw : (s.core c).seqWait = some (ring, tgt)) :
    exec (.ringWaitSatisfied (.decode c)) s =
      .next (if reached (ringVal s ring) tgt then advance c (s.core c).heldWord (s.setCore c { s.core c with seqWait := none }) else s) := by
  rw [exec_ringWaitSatisfied, execRingWaitSatisfied]
  simp only [hw, hrun, Bool.true_and]
  split <;> rfl

/-- Settles O29. -/
theorem ringCommands : Obligations.RingCommands := by
  intro c d s e rest f hrun k
  refine ⟨fun hq hop hg hown hx => ?_, fun hq hop hg hcore hne hseen hpos => ?_,
    fun ring o howed hring hk hr hsync hinc hbark => ?_, fun ring tgt hw => ⟨fun hreach hflow => ?_, fun hreach => ?_⟩⟩
  · have hreg := ringReg_core c.isLt (Nat.mod_lt f.ring.toNat (by decide : 0 < 256))
    obtain ⟨h1, h2, h3, -, h5⟩ := bumpRing_spec hreg f.imm.toNat (s.setCore c { s.core c with qSync := rest })
    have hn : e.x.toNat = f.imm.toNat := by rw [hx]; rfl
    have hexec := execSyncQueueHead_own hrun hq hop hg hown
    rw [hn] at hexec
    refine ⟨_, hexec, ?_, h3, h1, h2⟩
    rw [h5, core_setCore_self]
  · rw [execSyncQueueHead_other hrun hq hop hg hcore hne hseen hpos]
  · have hreg : ringReg o.ring = some (Reg.CRN_RING (o.ring / 1024) (o.ring % 1024)) := by
      rw [← ringReg_core hk hr, Nat.div_add_mod']
    obtain ⟨h1, h2, h3, h4, -⟩ := bumpRing_spec hreg o.inc { s with owed := [] }
    have hexec : exec (.ringSignalApply ring) s = .next (applyOwed { s with owed := [] } o) := by
      rw [exec_ringSignalApply, execRingSignalApply, howed]
      simp [hring]
    have hsame : SameGate s { s with owed := [] } := ⟨rfl, rfl, rfl⟩
    have happ := applyOwed_admitted (s := { s with owed := [] }) hk hsync hinc (by rw [hsame.barkPiece, hbark])
    refine ⟨_, hexec, ?_⟩
    rw [happ]
    split
    · next h0 => exact ⟨rfl, rfl, by rw [h0]; simp; rfl, fun _ _ => rfl⟩
    · exact ⟨h4, h3, h1, h2⟩
  · rw [execRingWaitSatisfied_decode hrun hw, if_pos hreach, advance_flows]
    · simp only [core_setCore_self, setCore_setCore]; rfl
    · rw [core_setCore_self]; exact hflow
  · rw [execRingWaitSatisfied_decode hrun hw, if_neg (by rw [hreach]; decide)]

end Sys2Proof.Machine
end

section
/-! Events (R509 to R516): what accepting an event leaves of the state, and the record it leaves at the end of the history. -/

namespace Sys2Proof.Machine

/-- The registers that an event may write: the last number, the lost count and the dump's status of the event unit, and the pending
interrupts of the Bough cores. -/
def EvReg (o : Nat) : Prop := o = 0x40018 ∨ o = 0x4001C ∨ o = 0x40038 ∨ (0x2B0204 ≤ o ∧ o < 0x2B0304 ∧ o % 0x20 = 4)

/-- From `s` to `t` only events were noted: the event unit, what leaves the block and the registers of `EvReg` may differ. -/
structure EventStep (s t : State) : Prop where
  rest : { t with evq := s.evq, out := s.out, regs := s.regs } = s
  reg : ∀ o, ¬ EvReg o → t.reg o = s.reg o

theorem EventStep.refl (s : State) : EventStep s s := ⟨rfl, fun _ _ => rfl⟩

theorem EventStep.trans {s t u : State} (h : EventStep s t) (g : EventStep t u) : EventStep s u := by
  refine ⟨?_, fun o ho => (g.reg o ho).trans (h.reg o ho)⟩
  have e := congrArg (fun x : State => { x with evq := s.evq, out := s.out, regs := s.regs }) g.rest
  exact e.trans h.rest

section
variable {s t : State}
theorem EventStep.mem (h : EventStep s t) : t.mem = s.mem := (congrArg State.mem h.rest :)
theorem EventStep.memsys (h : EventStep s t) : t.memsys = s.memsys := (congrArg State.memsys h.rest :)
theorem EventStep.kvp (h : EventStep s t) : t.kvp = s.kvp := (congrArg State.kvp h.rest :)
theorem EventStep.spl (h : EventStep s t) : t.spl = s.spl := (congrArg State.spl h.rest :)
theorem EventStep.sdb (h : EventStep s t) : t.sdb = s.sdb := (congrArg State.sdb h.rest :)
theorem EventStep.elapsed (h : EventStep s t) : t.elapsed = s.elapsed := (congrArg State.elapsed h.rest :)
theorem EventStep.tim (h : EventStep s t) : t.tim = s.tim := (congrArg State.tim h.rest :)
theorem EventStep.grove (h : EventStep s t) : t.grove = s.grove := (congrArg State.grove h.rest :)
theorem EventStep.resp (h : EventStep s t) : t.resp = s.resp := (congrArg State.resp h.rest :)
theorem EventStep.crown (h : EventStep s t) : t.crown = s.crown := (congrArg State.crown h.rest :)
theorem EventStep.owed (h : EventStep s t) : t.owed = s.owed := (congrArg State.owed h.rest :)
theorem EventStep.sched (h : EventStep s t) : t.sched = s.sched := (congrArg State.sched h.rest :)
theorem EventStep.hwd (h : EventStep s t) : t.hwd = s.hwd := (congrArg State.hwd h.rest :)
theorem EventStep.cmb (h : EventStep s t) : t.cmb = s.cmb := (congrArg State.cmb h.rest :)
theorem EventStep.rlk (h : EventStep s t) : t.rlk = s.rlk := (congrArg State.rlk h.rest :)
theorem EventStep.can (h : EventStep s t) : t.can = s.can := (congrArg State.can h.rest :)
theorem EventStep.bgh (h : EventStep s t) : t.bgh = s.bgh := (congrArg State.bgh h.rest :)
theorem EventStep.bghCore (h : EventStep s t) : t.bghCore = s.bghCore := (congrArg State.bghCore h.rest :)
theorem EventStep.lcs (h : EventStep s t) : t.lcs = s.lcs := (congrArg State.lcs h.rest :)
theorem EventStep.sap (h : EventStep s t) : t.sap = s.sap := (congrArg State.sap h.rest :)
theorem EventStep.free (h : EventStep s t) : t.free = s.free := (congrArg State.free h.rest :)
theorem EventStep.pending (h : EventStep s t) : t.pending = s.pending := (congrArg State.pending h.rest :)
theorem EventStep.fld (h : EventStep s t) {f : RegField} (hf : ¬ EvReg f.reg) : t.fld f = s.fld f := by
  unfold State.fld; rw [h.reg _ hf]
theorem EventStep.flag (h : EventStep s t) {f : RegField} (hf : ¬ EvReg f.reg) : t.flag f = s.flag f := by
  unfold State.flag; rw [h.fld hf]
theorem EventStep.byte (h : EventStep s t) (a : Nat) : t.byte a = s.byte a := by unfold State.byte; rw [h.mem]
end

theorem eventStep_setEvq (s : State) (x : Evq) : EventStep s (s.setEvq x) := ⟨rfl, fun _ _ => rfl⟩
theorem eventStep_emit (s : State) (o : Out) : EventStep s (s.emit o) := ⟨rfl, fun _ _ => rfl⟩
theorem eventStep_put (s : State) {f : RegField} (v : Nat) (hf : EvReg f.reg) : EventStep s (s.put f v) :=
  ⟨rfl, fun _ ho => reg_put_ne _ _ _ fun e => ho (e ▸ hf)⟩

theorem eventStep_incHold (s : State) {f : RegField} (hf : EvReg f.reg) : EventStep s (s.incHold f) := by
  unfold State.incHold
  split
  · exact eventStep_put _ _ hf
  · exact .refl _

theorem eventStep_msix (s : State) (v : Nat) : EventStep s (s.msix v) := by
  unfold State.msix
  split
  · exact eventStep_emit _ _
  · exact .refl _

theorem eventStep_foldl {α : Type} (l : List α) (f : State → α → State) (h : ∀ s, ∀ x ∈ l, EventStep s (f s x)) (s : State) :
    EventStep s (l.foldl f s) := by
  induction l generalizing s with
  | nil => exact .refl _
  | cons x l ih => exact (h s x (by simp)).trans (ih (fun s y hy => h s y (by simp [hy])) _)

theorem eventStep_bghPend {c : Nat} (hc : c < 8) (bit : Nat) (s : State) : EventStep s (bghPend c bit s) := by
  refine eventStep_put _ _ (.inr (.inr (.inr ?_)))
  show 0x2B0204 ≤ 0x2B0204 + 0x20 * c ∧ 0x2B0204 + 0x20 * c < 0x2B0304 ∧ (0x2B0204 + 0x20 * c) % 0x20 = 4
  omega

theorem eventStep_notify (sev : Nat) (s : State) : EventStep s (notify sev s) := by
  have hmsix : EventStep s (if sev ≥ 2 || s.fld F.EVQ_COAL_US = 0 then s.msix (sevVec s sev)
      else if spGet 0 s.evq.coal (sevVec s sev) = 0 then
        (s.setEvq { s.evq with coal := spSet 0 (sevVec s sev) 1 s.evq.coal }).msix (sevVec s sev)
      else s.setEvq { s.evq with coal := spSet 0 (sevVec s sev) 2 s.evq.coal }) := by
    split
    · exact eventStep_msix _ _
    split
    · exact (eventStep_setEvq _ _).trans (eventStep_msix _ _)
    · exact eventStep_setEvq _ _
  have hbgh (u : State) : EventStep u (if bitAt (u.fld F.EVQ_BGH_SEVMASK) sev then
      (List.range 8).foldl (fun s c => if bitAt (s.fld F.EVQ_BGH_CORES) c then bghPend c (16 + sev) s else s) u else u) := by
    split
    · refine eventStep_foldl _ _ (fun s c hc => ?_) _
      split
      · exact eventStep_bghPend (List.mem_range.1 hc) _ _
      · exact .refl _
    · exact .refl _
  exact hmsix.trans (hbgh _)

theorem eventStep_dropRecord (r : EvRec) (s : State) : EventStep s (dropRecord r s) := by
  unfold dropRecord
  exact ((eventStep_setEvq _ _).trans (eventStep_incHold _ (.inr (.inl rfl)))).trans (eventStep_notify _ _)

theorem eventStep_dumpTrigger (t : DumpTrig) (s : State) : EventStep s (dumpTrigger t s) := by
  unfold dumpTrigger
  split
  · exact eventStep_setEvq _ _
  split
  · exact (eventStep_setEvq _ _).trans (eventStep_put _ _ (.inr (.inr (.inl rfl))))
  · exact eventStep_incHold _ (.inr (.inr (.inl rfl)))

/-- The record that an event leaves: its number and, where it names none, the time of the event unit. -/
def entered (e : EvRec) (s : State) : EvRec :=
  { e with seq := (s.fld F.EVQ_SEQ_SEQ + 1) % 65536, time := if e.time = 0 then recTime s.ns else e.time }

/-- When the history `hist` is longer than 64 records, the queue gives up its oldest record if that one is overwritten (R514). -/
def shedOldest (hist : List EvRec) (r : EvRec) (s : State) : State :=
  if hist.length ≤ 64 then s
  else match hist.head?, s.evq.queue with
    | some h, q :: rest => if q.seq = h.seq && q ≠ r then dropRecord q (s.setEvq { s.evq with queue := rest }) else s
    | _, _ => s

/-- The state with the next number taken and the record entered at the end of the history. -/
def numbered (destined : Bool) (e : EvRec) (s : State) : State :=
  (s.put F.EVQ_SEQ_SEQ ((s.fld F.EVQ_SEQ_SEQ + 1) % 65536)).setEvq { s.evq with
    hist := (s.evq.hist ++ [entered e s]).drop ((s.evq.hist ++ [entered e s]).length - 64)
    queue := if destined then s.evq.queue ++ [entered e s] else s.evq.queue }

theorem enterHist_eq (destined : Bool) (e : EvRec) (s : State) :
    enterHist destined e s = (entered e s, shedOldest (s.evq.hist ++ [entered e s]) (entered e s) (numbered destined e s)) := rfl

theorem eventStep_shedOldest (hist : List EvRec) (r : EvRec) (s : State) : EventStep s (shedOldest hist r s) := by
  unfold shedOldest
  split
  · exact .refl _
  split
  · split
    · exact (eventStep_setEvq _ _).trans (eventStep_dropRecord _ _)
    · exact .refl _
  · exact .refl _

theorem eventStep_enterHist (destined : Bool) (e : EvRec) (s : State) : EventStep s (enterHist destined e s).2 := by
  rw [enterHist_eq]
  exact ((eventStep_put s _ (.inl rfl)).trans (eventStep_setEvq _ _)).trans (eventStep_shedOldest _ _ _)

theorem eventStep_acceptEv (e : EvRec) (s : State) : EventStep s (acceptEv e s) := by
  unfold acceptEv
  dsimp only
  split
  · exact (eventStep_enterHist _ _ _).trans (eventStep_dumpTrigger _ _)
  split
  · exact (eventStep_enterHist _ _ _).trans (eventStep_dumpTrigger _ _)
  · exact eventStep_enterHist _ _ _

theorem hist_incHold (s : State) (f : RegField) : (s.incHold f).evq.hist = s.evq.hist := by
  unfold State.incHold
  split <;> rfl

theorem hist_msix (s : State) (v : Nat) : (s.msix v).evq.hist = s.evq.hist := by
  unfold State.msix
  split <;> rfl

theorem hist_foldl {α : Type} (l : List α) (f : State → α → State) (h : ∀ s x, (f s x).evq.hist = s.evq.hist) (s : State) :
    (l.foldl f s).evq.hist = s.evq.hist := by
  induction l generalizing s with
  | nil => rfl
  | cons x l ih => exact (ih _).trans (h s x)

theorem hist_notify (sev : Nat) (s : State) : (notify sev s).evq.hist = s.evq.hist := by
  have hbgh (u : State) : (if bitAt (u.fld F.EVQ_BGH_SEVMASK) sev then
      (List.range 8).foldl (fun s c => if bitAt (s.fld F.EVQ_BGH_CORES) c then bghPend c (16 + sev) s else s) u else u).evq.hist = u.evq.hist := by
    split
    · exact hist_foldl _ _ (fun s c => by split <;> rfl) _
    · rfl
  refine (hbgh _).trans ?_
  split
  · exact hist_msix _ _
  split
  · exact hist_msix _ _
  · rfl

theorem hist_dropRecord (r : EvRec) (s : State) : (dropRecord r s).evq.hist = s.evq.hist := by
  unfold dropRecord
  exact (hist_notify _ _).trans (hist_incHold _ _)

theorem hist_dumpTrigger (t : DumpTrig) (s : State) : (dumpTrigger t s).evq.hist = s.evq.hist := by
  unfold dumpTrigger
  split
  · rfl
  split
  · rfl
  · exact hist_incHold _ _

theorem hist_shedOldest (hist : List EvRec) (r : EvRec) (s : State) : (shedOldest hist r s).evq.hist = s.evq.hist := by
  unfold shedOldest
  split
  · rfl
  split
  · split
    · exact hist_dropRecord _ _
    · rfl
  · rfl

/-- The history keeps the last 64 records, the new one at its end (R514). -/
theorem hist_enterHist (destined : Bool) (e : EvRec) (s : State) :
    (enterHist destined e s).2.evq.hist = (s.evq.hist ++ [entered e s]).drop ((s.evq.hist ++ [entered e s]).length - 64) := by
  rw [enterHist_eq]
  exact hist_shedOldest _ _ _

theorem hist_acceptEv (e : EvRec) (s : State) :
    (acceptEv e s).evq.hist = (s.evq.hist ++ [entered e s]).drop ((s.evq.hist ++ [entered e s]).length - 64) := by
  unfold acceptEv
  dsimp only
  split
  · exact (hist_dumpTrigger _ _).trans (hist_enterHist _ _ _)
  split
  · exact (hist_dumpTrigger _ _).trans (hist_enterHist _ _ _)
  · exact hist_enterHist _ _ _

theorem getLast?_acceptEv (e : EvRec) (s : State) : (acceptEv e s).evq.hist.getLast? = some (entered e s) := by
  rw [hist_acceptEv, List.drop_append_of_le_length (by simp), List.getLast?_append]
  simp

theorem lastEvent_acceptEv (e : EvRec) (s : State) : LastEvent (acceptEv e s) e.code e.oid := ⟨_, getLast?_acceptEv e s, rfl, rfl⟩

/-- An event of severity below 2 changes nothing but what every event changes. -/
theorem raise_of_minor {e : EvRec} (s : State) (h : e.sev < 2) : raise e s = acceptEv e s := by
  unfold raise
  simp only [show ¬ e.sev = 2 by omega, show ¬ e.sev = 3 by omega, if_false, decide_false, Bool.false_and, Bool.false_eq_true]

end Sys2Proof.Machine
end

section
/-! The test access port (R35 to R37, R485): its use, its refusals and the changes of a maker that it counts. -/

namespace Sys2Proof.Machine

/-- The sequencer of Heartwood has nothing to serve: serving it changes nothing (R333). -/
theorem hwdServe_of_calm {s : State} (h : Calm s) : hwdServe s = s := by
  obtain ⟨hdue, hseq⟩ := h
  unfold hwdServe stopCheck
  simp only [hdue, decide_eq_false hseq, Bool.false_and, if_true, Bool.false_eq_true, if_false]

theorem reg_of_regs {s t : State} (h : t.regs = s.regs) (o : Nat) : t.reg o = s.reg o := by unfold State.reg; rw [h]

theorem burnNext_frame (w n : Nat) (s : State) :
    (burnNext w n s).regs = s.regs ∧ (burnNext w n s).mem = s.mem ∧ (burnNext w n s).resp = s.resp ∧ (burnNext w n s).lcs.tap = s.lcs.tap
    ∧ (burnNext w n s).free = s.free := by
  unfold burnNext
  split <;> exact ⟨rfl, rfl, rfl, rfl, rfl⟩

/-- A change counter below its end counts one more change and leaves memory and the use of the port (R485). -/
theorem bumpChange_spec {reg : Nat} {s : State} (h : (s.reg reg).toNat < 0xFFFFFFFF) :
    (bumpChange reg s).reg reg = s.reg reg + 1 ∧ (bumpChange reg s).mem = s.mem ∧ (bumpChange reg s).lcs.tap = s.lcs.tap := by
  have hreg : (s.setReg reg (BitVec.ofNat 32 ((s.reg reg).toNat + 1))).reg reg = s.reg reg + 1 := by
    rw [reg_setReg_self, BitVec.ofNat_add, BitVec.ofNat_toNat, BitVec.setWidth_eq]; rfl
  unfold bumpChange
  dsimp only
  rw [if_neg (by omega)]
  split
  · obtain ⟨hr, hm, -, ht, -⟩ := burnNext_frame (coarseWord reg) 4 (s.setReg reg (BitVec.ofNat 32 ((s.reg reg).toNat + 1)))
    exact ⟨(reg_of_regs hr reg).trans hreg, hm, ht⟩
  · exact ⟨hreg, rfl, rfl⟩

theorem answer_two (s : State) (wr : Bool) (st : RespSt) (data : List Byte) :
    s.answer 2 wr st data = { s with resp := s.resp ++ [⟨2, st, data⟩] } := rfl

/-- A refused use of a port leaves memory, the use and the answers as they were (R32). -/
theorem roleDenied_frame (oid : Nat) (s : State) :
    (roleDenied oid s).mem = s.mem ∧ (roleDenied oid s).lcs.tap = s.lcs.tap ∧ (roleDenied oid s).resp = s.resp := by
  unfold roleDenied
  dsimp only
  split
  · exact ⟨rfl, rfl, rfl⟩
  · unfold lcEvent
    rw [raise_of_minor _ Nat.one_lt_two]
    have h := eventStep_acceptEv
    exact ⟨(h _ _).mem, by rw [(h _ _).lcs]; rfl, (h _ _).resp⟩

theorem hardRepair_spec {row : Nat} {s : State} (h : (s.reg Reg.LCS_CHG_MAKER).toNat < 0xFFFFFFFF) :
    (hardRepair row s).reg Reg.LCS_CHG_MAKER = s.reg Reg.LCS_CHG_MAKER + 1 ∧ ∀ a, a / 64 ≠ row / 64 → (hardRepair row s).byte a = s.byte a := by
  obtain ⟨hr, hm, -⟩ := bumpChange_spec h
  unfold hardRepair
  dsimp only
  split
  · refine ⟨hr, fun a ha => ?_⟩
    rw [byte_wrBytes, if_neg]
    · unfold State.byte
      rw [← hm]; rfl
    · simp only [State.freeBytes, List.length_map, List.length_range]
      omega
  · exact ⟨hr, fun a _ => by unfold State.byte; rw [hm]⟩

theorem freeBytes_length (s : State) (n : Nat) : (s.freeBytes n).1.length = n := by
  simp only [State.freeBytes, List.length_map, List.length_range]

/-- Settles O35. -/
theorem tapCommands : Obligations.TapCommands := by
  intro link row s
  refine ⟨fun hb => ⟨?_, ?_⟩, fun hopen huse hlt => ?_, fun hopen huse hboot hlt => ?_, fun hclosed => ?_⟩
  · rw [exec_tapCommand, execTapCommand]
    simp only [if_neg hb]
  · rw [exec_tapCommand, execTapCommand]
    simp only [if_neg hb]
    exact ⟨_, rfl, rfl, rfl, rfl, _, freeBytes_length _ 4, rfl⟩
  · obtain ⟨hr, hm, ht⟩ := bumpChange_spec (s := s.setLcs { s.lcs with tap := true }) hlt
    rw [exec_tapCommand, execTapCommand]
    simp only [hopen, if_true, tapUse, huse, Bool.false_eq_true, if_false]
    exact ⟨_, rfl, ht, hr, hm⟩
  · obtain ⟨hr, hb⟩ := hardRepair_spec (row := row.toNat) hlt
    rw [exec_tapCommand, execTapCommand]
    simp only [hopen, tapUse, huse, hboot, ne_eq, not_true_eq_false, Bool.not_true, Bool.false_eq_true, if_false, if_true]
    exact ⟨_, rfl, hr, hb⟩
  · rw [exec_tapCommand, execTapCommand]
    simp only [hclosed, Bool.false_eq_true, if_false]
    refine ⟨_, rfl, ?_⟩
    rw [answer_two]
    split
    · exact ⟨rfl, rfl, rfl⟩
    · obtain ⟨hm, ht, hr⟩ := roleDenied_frame 2 s
      exact ⟨ht, hm, by rw [hr]⟩

end Sys2Proof.Machine
end

section
/-! In the rack configuration the sequencer's command register is locked (R325). -/

namespace Sys2Proof.Machine

/-- A device in the rack configuration that has reached READY, in lifecycle state Field. -/
def rackState : State :=
  (((State.reset.put F.HWD_STATE_SPLIT 1).put F.HWD_STATE_SEQ seqRack).put F.SAP_BOOT_STAGE 5).put F.LCS_STAT_STATE lcField

theorem admitted_rackState : Admitted 1 0 Reg.HWD_SAFECMD rackState :=
  ⟨by unfold Issues; decide +kernel, by decide +kernel, by decide +kernel, by decide +kernel⟩

/-- ENTER of a rack device is a write of a locked register: its writer gets the error. -/
theorem resp_safeEnter_rackState : (writeReg 1 0 Reg.HWD_SAFECMD 1 rackState).resp = [⟨1, .abort, []⟩] := by decide +kernel

theorem resp_obeyed_rackState : (obeyed 1 (safeCmdWritten 1 rackState)).resp = [⟨1, .ok, []⟩] := by decide +kernel

/-- Refutes O30: in the rack configuration a write of HWD_SAFECMD is treated as one of a locked register (R325), so ENTER is not obeyed. -/
theorem not_schedulerAndSafetyCommandsObeyed : ¬ Obligations.SchedulerAndSafetyCommandsObeyed := by
  unfold Obligations.SchedulerAndSafetyCommandsObeyed
  intro h
  obtain ⟨-, -, -, -, -, -, -, hEnter, -⟩ := h
  have h := hEnter 1 0 rackState admitted_rackState rfl
  rw [exec_safeEnter, execEnter] at h
  injection h with h
  have hr := resp_safeEnter_rackState
  rw [h, resp_obeyed_rackState] at hr
  exact absurd hr (by decide)

end Sys2Proof.Machine
end

section
/-! A write of one register word that its port and Bark admit: it is the word's write, its answer and the sequencer's work (R12, R13, R31). -/

namespace Sys2Proof.Machine

theorem leNat_leBytes (n v : Nat) : leNat (leBytes n v) = v % 256 ^ n := by
  induction n generalizing v with
  | zero => simp [leBytes, leNat, Nat.mod_one]
  | succ n ih =>
    rw [leBytes, leNat, ih, pow_succ, Nat.mul_comm (256 ^ n) 256, Nat.mod_mul]
    simp

/-- An address of the register window is the word of its offset. -/
def AtReg (off : Nat) : Prop := off < 0x1000000 ∧ off % 4 = 0 ∧ place (regBase + off) = some (.reg off)


/-- The write of one word at a register's own address. -/
def wordWr (oid ctx off data bad : Nat) : RegWr := { oid, ctx, kind := 0, data, addr := regBase + off, len := 4, first := data, bad }

theorem unalias_atReg {off : Nat} (h : AtReg off) : unalias (regBase + off) = some (regBase + off, 0) := by
  obtain ⟨hlt, -, hp⟩ := h
  unfold unalias
  rw [if_pos (by unfold regBase; omega), hp]
  rfl

theorem linkError_atReg {off : Nat} (h : AtReg off) (oid : Nat) (l : LinkErr) (s : State) : linkError oid (regBase + off) l s = (true, s) := by
  unfold linkError
  rw [h.2.2]

theorem pieces_word {a : Nat} (h : a % 4 = 0) : pieces a 4 = [(a, 4)] := by
  unfold pieces
  rw [if_neg (by decide), show (a + 4 - 1) / 64 + 1 - a / 64 = 1 by omega]
  simp only [List.range_one, List.map_cons, List.map_nil, Nat.add_zero, List.cons.injEq, Prod.mk.injEq, and_true]
  omega

theorem regAccess_word (oid ctx a off : Nat) (kind : AliasKind) {data : Nat} (bad : Nat) (s : State) (hd : data < 2 ^ 32) :
    regAccess oid ctx a off kind (leBytes 4 data) bad s
      = regWord { oid, ctx, kind, data, addr := a, len := 4, first := data, bad } off s := by
  unfold regAccess
  have hv : leNat ((leBytes 4 data).take 4) = data := by
    rw [List.take_of_length_le (by rw [leBytes_length]), leNat_leBytes, Nat.mod_eq_of_lt (by omega)]
  simp only [leBytes_length, hv, if_pos (le_refl 4)]

theorem busWrite_word {oid ctx off data : Nat} {s : State} (bad : Nat) (h : AtReg off) (hd : data < 2 ^ 32)
    (hj : judge s oid ctx (regBase + off) 4 true = none) :
    busWrite oid ctx (regBase + off) (leBytes 4 data) {} bad s = regWord (wordWr oid ctx off data bad) off s := by
  have hal : (regBase + off) % 4 = 0 := by unfold regBase; have := h.2.1; omega
  unfold busWrite
  simp only [leBytes_length, hj, linkError_atReg h, pieces_word hal, List.foldl_cons, List.foldl_nil, Nat.sub_self, List.drop_zero,
    List.take_of_length_le (le_of_eq (leBytes_length 4 data))]
  unfold busPiece
  simp only [unalias_atReg h, Option.getD_some, h.2.2, regAccess_word _ _ _ _ _ _ _ hd]
  rcases hx : regWord (wordWr oid ctx off data bad) off s with ⟨ok, t⟩
  unfold wordWr at hx
  rw [hx]
  cases ok <;> rfl

/-- An admitted write of a register word. -/
theorem writeReg_admitted {oid : BitVec 10} {ctx : BitVec 6} {off data : Nat} {s : State} (bad : Nat)
    (ha : Admitted oid ctx off s) (h : AtReg off) (hd : data < 2 ^ 32) :
    writeReg oid ctx off data s bad = writeDone oid.toNat (regWord (wordWr oid.toNat ctx.toNat off data bad) off s) := by
  obtain ⟨hi, hp, hj, -⟩ := ha
  unfold writeReg issued
  rw [hi]
  simp only [portWrite, leBytes_length, hp, busWrite_word bad h hd hj]

end Sys2Proof.Machine
end

section
/-! Command registers (R13, R14): a word whose fields are all write-only or set by 1 stores nothing, and its write only triggers. -/

namespace Sys2Proof.Machine

theorem insertBits_slice (x hi lo : Nat) : insertBits x hi lo (slice x hi lo) = x := by
  unfold insertBits slice
  rw [Nat.mod_mod]
  have h : (x >>> lo) % 2 ^ (hi + 1 - lo) * 2 ^ lo ≤ x :=
    (Nat.mul_le_mul_right _ (Nat.mod_le _ _)).trans (by rw [Nat.shiftRight_eq_div_pow]; exact Nat.div_mul_le_self _ _)
  omega

/-- The trigger that a plain write of `data` leaves of the fields its writer may write. -/
def commandWord (may : FieldDef → Bool) (data : Nat) : List FieldDef → Nat
  | [] => 0
  | f :: fs => (if may f then slice data f.hi f.lo * 2 ^ f.lo else 0) + commandWord may data fs

/-- A field that only triggers. -/
def Triggers (f : FieldDef) : Prop := f.acc = .wo ∨ f.acc = .w1s

theorem writeFields_command {s : State} {off data : Nat} {may : FieldDef → Bool} {locked : FieldDef → Nat → Bool} {fs : List FieldDef}
    (hf : ∀ f ∈ fs, Triggers f) (hl : ∀ f ∈ fs, ∀ v, locked f v = false) (w : WordWrite) :
    writeFields s off 0 data may locked fs w = { w with trig := w.trig + commandWord may data fs } := by
  induction fs generalizing w with
  | nil => rfl
  | cons f fs ih =>
    have step := ih (fun g hg => hf g (List.mem_cons_of_mem _ hg)) (fun g hg => hl g (List.mem_cons_of_mem _ hg))
    unfold writeFields commandWord
    cases hm : may f with
    | false => simp only [Bool.not_false, if_true, Bool.false_eq_true, if_false, Nat.zero_add, step]
    | true =>
      have hacc : accLocked s off f = false ∧ f.acc ≠ .wos
          ∧ fieldNew f.acc 0 (slice w.new f.hi f.lo) (slice data f.hi f.lo) = slice w.new f.hi f.lo
          ∧ fieldTrig f.acc 0 (slice data f.hi f.lo) = slice data f.hi f.lo := by
        unfold accLocked
        rcases hf f List.mem_cons_self with h | h <;> rw [h] <;> exact ⟨rfl, by decide, rfl, rfl⟩
      obtain ⟨hlock, hwos, hnew, htrig⟩ := hacc
      simp only [Bool.not_true, Bool.false_eq_true, if_false, if_true, hnew, htrig, hlock, hl f List.mem_cons_self, Bool.or_self,
        hwos, decide_false, insertBits_slice, step, Nat.add_assoc, Bool.false_and, Bool.and_false]

/-- A command register: its word, its fields, and that no other rule of the window acts on it. -/
structure Command (off : Nat) (fs : List FieldDef) : Prop where
  found : (findReg off).map (·.fields) = some fs
  triggers : ∀ f ∈ fs, Triggers f
  ring : ringOfSigReg off = none
  group : wordGroup off = none
  rule : ruleOf off = none
  at_reg : AtReg off
  plain : off ≠ Reg.LCS_LCCMD ∧ off ≠ Reg.HWD_KICK

variable {off : Nat} {fs : List FieldDef}

theorem wordWrite_command {s : State} {w : RegWr} {d : RegDef} (h : Command off fs) (hd : findReg off = some d) (hk : w.kind = 0)
    (ha : alwaysLocked s w off = false) (hl : ∀ f ∈ fs, ∀ v, chapterLocked s w off f v = false) :
    wordWrite w off d s = { new := (s.reg off).toNat, trig := commandWord (mayWrite w.oid off) w.data fs } := by
  have hfs : d.fields = fs := by
    have := h.found
    rw [hd] at this
    exact Option.some.inj this
  unfold wordWrite
  simp only [ha, Bool.false_eq_true, if_false, hk, hfs, writeFields_command h.triggers hl, Nat.zero_add]

/-- What a write of a command register leaves: the work of the trigger on the state as it stood. -/
def commanded (w : RegWr) (off : Nat) (fs : List FieldDef) (s : State) : State :=
  let x : WordWrite := { new := (s.reg off).toNat, trig := commandWord (mayWrite w.oid off) w.data fs }
  regWritten s w off (s.reg off).toNat x s

theorem countChange_of_quiet {w : RegWr} {x : WordWrite} (s : State) (hr : ruleOf off = none) (hx : x.wos = []) (was : Nat) (hn : x.new = was) :
    countChange w off was x s = s := by
  unfold countChange
  simp [hr, hx, hn]

theorem applyWord_command {s : State} {w : RegWr} (h : Command off fs) (hk : w.kind = 0) (hmay : fs.any (mayWrite w.oid off) = true)
    (ha : alwaysLocked s w off = false) (hl : ∀ f ∈ fs, ∀ v, chapterLocked s w off f v = false) :
    applyWord w off s = (true, commanded w off fs s) := by
  obtain ⟨d, hd, hfs⟩ := Option.map_eq_some_iff.1 h.found
  have hany : mayAny w.oid off = true := by unfold mayAny; rw [hd]; simpa only [hfs] using hmay
  unfold applyWord
  simp only [hd, if_neg h.plain.1, wordWrite_command h hd hk ha hl, ha, hany, decide_true, Bool.and_self, Bool.or_true, if_true,
    countChange_of_quiet s h.rule (x := { new := (s.reg off).toNat, trig := commandWord (mayWrite w.oid off) w.data fs }) rfl _ rfl]
  rfl

/-- An admitted command reaches its work, is answered and served (R12, R31, R333). -/
theorem writeReg_command {oid : BitVec 10} {ctx : BitVec 6} {data : Nat} {s : State} (h : Command off fs) (had : Admitted oid ctx off s)
    (hd : data < 2 ^ 32) (hmay : fs.any (mayWrite oid.toNat off) = true)
    (ha : alwaysLocked s (wordWr oid.toNat ctx.toNat off data 0) off = false)
    (hl : ∀ f ∈ fs, ∀ v, chapterLocked s (wordWr oid.toNat ctx.toNat off data 0) off f v = false) :
    writeReg oid ctx off data s = obeyed oid (commanded (wordWr oid.toNat ctx.toNat off data 0) off fs s) := by
  obtain ⟨d, hfound, -⟩ := Option.map_eq_some_iff.1 h.found
  have hword : regWord (wordWr oid.toNat ctx.toNat off data 0) off s = applyWord (wordWr oid.toNat ctx.toNat off data 0) off s := by
    have hx : xpenDenied s (wordWr oid.toNat ctx.toNat off data 0).oid off = false := had.unkept
    unfold regWord
    simp only [hfound, Option.isNone_some, Bool.false_eq_true, if_false, hx, h.ring, h.group]
  rw [writeReg_admitted 0 had h.at_reg hd, hword, applyWord_command h rfl hmay ha hl]
  rfl

end Sys2Proof.Machine
end

section
/-! The command registers that O31 names, and the locks of their blocks. -/

namespace Sys2Proof.Machine

theorem Command.of {off : Nat} {fs : List FieldDef}
    (h : (findReg off).map (·.fields) = some fs ∧ (∀ f ∈ fs, f.acc = .wo ∨ f.acc = .w1s) ∧ ringOfSigReg off = none ∧ wordGroup off = none
      ∧ ruleOf off = none ∧ (off < 0x1000000 ∧ off % 4 = 0 ∧ place (regBase + off) = some (.reg off))
      ∧ off ≠ Reg.LCS_LCCMD ∧ off ≠ Reg.HWD_KICK) : Command off fs := by
  obtain ⟨hf, ht, hr, hg, hl, ha, hp⟩ := h
  exact ⟨hf, ht, hr, hg, hl, ha, hp⟩

/-- A write-only field of bits `hi` to `lo`. -/
def woField (who hi lo : Nat) : FieldDef := ⟨hi, lo, .wo, 0, who⟩

theorem command_txReq (n : Fin 8) : Command (Reg.CFD_TXREQ n) [⟨2, 0, .w1s, 0, 3⟩, ⟨6, 4, .w1s, 0, 3⟩] := .of (by revert n; decide +kernel)
theorem command_canCmd (n : Fin 8) : Command (Reg.CFD_CMD n) [woField 3 0 0, woField 3 1 1, woField 3 2 2] := .of (by revert n; decide +kernel)
theorem command_ecset (n : Fin 8) : Command (Reg.CFD_ECSET n) [woField 2 8 0, woField 2 16 9, woField 2 31 31] := .of (by revert n; decide +kernel)
theorem command_txqPop (n : Fin 2) : Command (Reg.TIM_TXQ_POP n) [woField 3 0 0] := .of (by revert n; decide +kernel)
theorem command_ciPop (n : Fin 8) : Command (Reg.TIM_CI_POP n) [woField 3 0 0] := .of (by revert n; decide +kernel)
theorem command_pairCmd (n : Fin 4) : Command (Reg.BGH_PAIR_CMD n)
    [woField 3 0 0, woField 0 1 1, woField 3 2 2, woField 0 3 3, woField 3 4 4, woField 3 5 5] := .of (by revert n; decide +kernel)
theorem command_ipset (n : Fin 8) : Command (Reg.BGH_CORE_IPSET n) [woField 3 31 0] := .of (by revert n; decide +kernel)
theorem command_fuse : Command Reg.LCS_FPROG_CMD [woField 4 0 0] := .of (by decide +kernel)
theorem command_pith : Command Reg.LCS_PITHCMD [woField 6 0 0] := .of (by decide +kernel)
theorem command_rollback : Command Reg.LCS_RBCMD [woField 6 0 0, woField 2 1 1] := .of (by decide +kernel)
theorem command_reset : Command Reg.SAP_RSTCMD [woField 7 0 0, woField 7 31 16] := .of (by decide +kernel)
theorem command_dump : Command Reg.EVQ_DUMPCMD [woField 7 0 0] := .of (by decide +kernel)

/-- The bits of a word that lie in the fields of its register. -/
def triggerWord (data : Nat) (fs : List FieldDef) : Nat := (fs.map fun f => slice data f.hi f.lo * 2 ^ f.lo).sum

theorem triggerWord_woField (data who hi lo : Nat) (fs : List FieldDef) :
    triggerWord data (woField who hi lo :: fs) = slice data hi lo * 2 ^ lo + triggerWord data fs := rfl

/-- The trigger of a write whose writer may write every field in which the word has a bit. -/
theorem commandWord_eq {may : FieldDef → Bool} {data : Nat} {fs : List FieldDef} (h : ∀ f ∈ fs, slice data f.hi f.lo = 0 ∨ may f = true) :
    commandWord may data fs = triggerWord data fs := by
  induction fs with
  | nil => rfl
  | cons f fs ih =>
    rw [commandWord, ih fun g hg => h g (List.mem_cons_of_mem _ hg), triggerWord, triggerWord, List.map_cons, List.sum_cons]
    rcases h f List.mem_cons_self with h0 | h1
    · simp only [h0, Nat.zero_mul, ite_self]
    · simp only [h1, if_true]

section locks
variable {s : State} {w : RegWr} {off : Nat} {f : FieldDef} {v b : Nat}

theorem ne_of_block (hb : off / 0x10000 = b) (r : Nat) (h : r / 0x10000 ≠ b) : off ≠ r := by rintro rfl; exact h hb

theorem strictChecked_of_block (hb : off / 0x10000 = b) (h : b = 1 ∨ b = 2 ∨ b = 3 ∨ b = 4 ∨ 0x24 ≤ b) (hn : off ≠ Reg.SAP_CRNF) :
    strictChecked off = false := by
  have hc : ¬(b = 6) ∧ ¬(b = 0x20) ∧ ¬(b = 0x21) ∧ ¬(0x10 ≤ b ∧ b < 0x16) := by omega
  obtain ⟨h6, h20, h21, hx⟩ := hc
  have e1 : off ≠ Reg.MEM_STARVLIM := ne_of_block hb _ (Ne.symm h6)
  have e2 : off ≠ Reg.SPL_IDLEPAT := ne_of_block hb _ (Ne.symm h21)
  have e3 : off ≠ Reg.KVP_ARB := ne_of_block hb _ (Ne.symm h20)
  have e4 : (decide (0x10 ≤ b) && decide (b < 0x16)) = false := by
    rw [← Bool.decide_and]; exact decide_eq_false hx
  unfold strictChecked
  simp only [hn, e1, e2, e3, hb, e4, decide_false, Bool.or_self, Bool.false_and]

/-- Outside the blocks that Strict mode checks, the lock of a word is its own block's. -/
theorem chapterLocked_of_block (hb : off / 0x10000 = b) (h : b = 2 ∨ b = 3 ∨ b = 4 ∨ 0x24 ≤ b) :
    chapterLocked s w off f v = (if b = 0x03 then schLocked s off f.lo
      else if b = 0x24 then hwdLocked s off f.lo v
      else if b = 0x25 then cmbLocked s off v
      else if b = 0x27 then canLocked s off f.lo
      else if b = 0x28 then timLocked s off f.lo v
      else if b = 0x29 then ethLocked s off f.lo
      else if b = 0x2A then grvLocked s off f.lo
      else if b = 0x04 then ((off = Reg.EVQ_CTRL && f.lo = 1) || off = Reg.EVQ_BASE_LO || off = Reg.EVQ_BASE_HI) && s.flag F.EVQ_CTRL_EN
      else false) := by
  have hc : b ≠ 1 ∧ b ≠ 0 ∧ b ≠ 0x20 ∧ b ≠ 5 := by omega
  obtain ⟨h1, h0, h20, h5⟩ := hc
  have hst := strictChecked_of_block hb (by omega) (ne_of_block hb _ (Ne.symm h1))
  have e1 : off ≠ Reg.SYS_STRICT := ne_of_block hb _ (Ne.symm h0)
  have e2 : off ≠ Reg.SAP_RSTCMD := ne_of_block hb _ (Ne.symm h1)
  unfold chapterLocked
  simp only [hst, e1, e2, hb, h20, h5, if_false, Bool.false_and, Bool.false_eq_true]

end locks

/-- An admitted command of a block other than Sap's: its trigger reaches the block's work. -/
theorem writeReg_blockCommand {oid : BitVec 10} {ctx : BitVec 6} {off data b : Nat} {fs : List FieldDef} {s : State} (h : Command off fs)
    (had : Admitted oid ctx off s) (hd : data < 2 ^ 32) (hb : off / 0x10000 = b) (hblock : b = 2 ∨ b = 3 ∨ b = 4 ∨ 0x24 ≤ b)
    (hany : ∃ f ∈ fs, mayWrite oid.toNat off f = true) (hmay : ∀ f ∈ fs, slice data f.hi f.lo = 0 ∨ mayWrite oid.toNat off f = true)
    (hl : ∀ f ∈ fs, ∀ v, chapterLocked s (wordWr oid.toNat ctx.toNat off data 0) off f v = false) :
    writeReg oid ctx off data s = obeyed oid (regWritten s (wordWr oid.toNat ctx.toNat off data 0) off (s.reg off).toNat
      { new := (s.reg off).toNat, trig := triggerWord data fs } s) := by
  have hal : alwaysLocked s (wordWr oid.toNat ctx.toNat off data 0) off = false := by
    have hs : off ≠ Reg.SAP_RSTCMD := ne_of_block hb _ (by change 1 ≠ b; omega)
    unfold alwaysLocked
    simp only [hs, h.plain.2, decide_false, Bool.false_and, Bool.or_self, Bool.and_false]
  rw [writeReg_command h had hd (List.any_eq_true.2 hany) hal hl]
  exact congrArg (fun t => obeyed oid (regWritten s (wordWr oid.toNat ctx.toNat off data 0) off (s.reg off).toNat
    { new := (s.reg off).toNat, trig := t } s)) (commandWord_eq hmay)

end Sys2Proof.Machine
end

section
/-! The commands of O31: the work of each command register's block, its locks, and the obligation. -/

namespace Sys2Proof.Machine

section blocks
variable {s0 t : State} {w : RegWr} {was : Nat} {x : WordWrite} {off : Nat}

theorem regWritten_lcs (h : off / 0x10000 = 2) : regWritten s0 w off was x t = lcsWritten w off x.trig t := by unfold regWritten; simp only [h]
theorem regWritten_can (h : off / 0x10000 = 0x27) : regWritten s0 w off was x t = canWritten off was x.trig t := by unfold regWritten; simp only [h]
theorem regWritten_tim (h : off / 0x10000 = 0x28) : regWritten s0 w off was x t = timWritten off was x.new x.trig t := by
  unfold regWritten; simp only [h]
theorem regWritten_bgh (h : off / 0x10000 = 0x2B) : regWritten s0 w off was x t = bghWritten w off x.trig t := by unfold regWritten; simp only [h]
theorem regWritten_reset : regWritten s0 w Reg.SAP_RSTCMD was x t = rstCmdWritten x.trig t := by
  have hb : Reg.SAP_RSTCMD / 0x10000 = 1 := rfl
  unfold regWritten; simp only [hb, if_true]
theorem regWritten_dump : regWritten s0 w Reg.EVQ_DUMPCMD was x t = dumpCmdWritten x.trig t := by
  have hb : Reg.EVQ_DUMPCMD / 0x10000 = 4 := rfl
  have hne : Reg.EVQ_DUMPCMD ≠ Reg.EVQ_CTRL := by decide
  unfold regWritten; simp only [hb, if_neg hne, if_true]

theorem canWritten_cmd (n : Fin 8) (trig : Nat) : canWritten (Reg.CFD_CMD n) was trig t = canCmdWritten n trig t := by
  have hc : Reg.CFD_CMD n % 0x10000 / 0x1000 = n := by unfold Reg.CFD_CMD; omega
  have hr : Reg.CFD_CMD n % 0x1000 = 4 := by unfold Reg.CFD_CMD; omega
  unfold canWritten
  simp only [hc, hr]
  rfl

theorem canWritten_txReq (n : Fin 8) (trig : Nat) : canWritten (Reg.CFD_TXREQ n) was trig t = canAbort n (trig / 16) (canRequest n trig t) := by
  have hc : Reg.CFD_TXREQ n % 0x10000 / 0x1000 = n := by unfold Reg.CFD_TXREQ; omega
  have hr : Reg.CFD_TXREQ n % 0x1000 = 0x44 := by unfold Reg.CFD_TXREQ; omega
  unfold canWritten
  simp only [hc, hr]
  rfl

theorem canWritten_ecset (n : Fin 8) (trig : Nat) : canWritten (Reg.CFD_ECSET n) was trig t = ecsetWritten n trig t := by
  have hc : Reg.CFD_ECSET n % 0x10000 / 0x1000 = n := by unfold Reg.CFD_ECSET; omega
  have hr : Reg.CFD_ECSET n % 0x1000 = 0x800 := by unfold Reg.CFD_ECSET; omega
  unfold canWritten
  simp only [hc, hr]
  rfl

theorem timWritten_txqPop (n : Fin 2) (new trig : Nat) : timWritten (Reg.TIM_TXQ_POP n) was new trig t = if bitAt trig 0 then popTx n t else t := by
  have ho : Reg.TIM_TXQ_POP n % 0x10000 = 0x404 + 0x20 * n := by unfold Reg.TIM_TXQ_POP; omega
  have hne : Reg.TIM_TXQ_POP n ≠ Reg.TIM_ADJ ∧ Reg.TIM_TXQ_POP n ≠ Reg.TIM_CTRL ∧ Reg.TIM_TXQ_POP n ≠ Reg.TIM_SYNC := by
    unfold Reg.TIM_TXQ_POP Reg.TIM_ADJ Reg.TIM_CTRL Reg.TIM_SYNC; omega
  unfold timWritten
  grind

theorem timWritten_ciPop (n : Fin 8) (new trig : Nat) : timWritten (Reg.TIM_CI_POP n) was new trig t = if bitAt trig 0 then popCapture n t else t := by
  have ho : Reg.TIM_CI_POP n % 0x10000 = 0x208 + 0x20 * n := by unfold Reg.TIM_CI_POP; omega
  have hne : Reg.TIM_CI_POP n ≠ Reg.TIM_ADJ ∧ Reg.TIM_CI_POP n ≠ Reg.TIM_CTRL ∧ Reg.TIM_CI_POP n ≠ Reg.TIM_SYNC := by
    unfold Reg.TIM_CI_POP Reg.TIM_ADJ Reg.TIM_CTRL Reg.TIM_SYNC; omega
  unfold timWritten
  grind

theorem bghWritten_pairCmd (n : Fin 4) (trig : Nat) : bghWritten w (Reg.BGH_PAIR_CMD n) trig t = pairCmdWritten n trig w.oid t := by
  have ho : Reg.BGH_PAIR_CMD n % 0x10000 = 0x100 + 0x20 * n := by unfold Reg.BGH_PAIR_CMD; omega
  unfold bghWritten
  grind

theorem bghWritten_ipset (n : Fin 8) (trig : Nat) : bghWritten w (Reg.BGH_CORE_IPSET n) trig t = ipsetWritten n trig t := by
  have ho : Reg.BGH_CORE_IPSET n % 0x10000 = 0x208 + 0x20 * n := by unfold Reg.BGH_CORE_IPSET; omega
  unfold bghWritten
  grind

end blocks

section writers
variable {oid off : Nat} {f : FieldDef}

theorem mayWrite_of_who (h : whoMay f.who oid = true) : mayWrite oid off f = true := by unfold mayWrite; rw [h, Bool.true_or]
theorem whoMay_three (h : oid ≤ 1) : whoMay 3 oid = true := by interval_cases oid <;> rfl
theorem whoMay_six (h1 : 1 ≤ oid) (h2 : oid ≤ 2) : whoMay 6 oid = true := by interval_cases oid <;> rfl
theorem whoMay_seven (h : oid ≤ 2) : whoMay 7 oid = true := by interval_cases oid <;> rfl

theorem mayWrite_of_owner {o : Nat} (hb : off / 0x10000 = 0x2B) (ho : off % 0x10000 = o) (h : bghOwn oid o f.lo = true) : mayWrite oid off f = true := by
  have h1 : off ≠ Reg.HWD_KICK := ne_of_block hb _ (by decide)
  have h2 : off ≠ Reg.CMB_COMMIT := ne_of_block hb _ (by decide)
  unfold mayWrite ownWriter
  simp only [h1, h2, decide_false, Bool.or_self, Bool.false_eq_true, if_false, hb, decide_true, Bool.true_and, ho, h, Bool.or_true]

end writers

variable {oid : BitVec 10} {ctx : BitVec 6} {s : State}

/-- A command whose every field its writer may write. -/
theorem writeReg_ownedCommand {off data b : Nat} {fs : List FieldDef} (h : Command off fs) (had : Admitted oid ctx off s) (hd : data < 2 ^ 32)
    (hb : off / 0x10000 = b) (hblock : b = 2 ∨ b = 3 ∨ b = 4 ∨ 0x24 ≤ b) (hne : fs ≠ []) (hmay : ∀ f ∈ fs, mayWrite oid.toNat off f = true)
    (hl : ∀ f ∈ fs, ∀ v, chapterLocked s (wordWr oid.toNat ctx.toNat off data 0) off f v = false) :
    writeReg oid ctx off data s = obeyed oid (regWritten s (wordWr oid.toNat ctx.toNat off data 0) off (s.reg off).toNat
      { new := (s.reg off).toNat, trig := triggerWord data fs } s) := by
  obtain ⟨f, hf⟩ := List.exists_mem_of_ne_nil fs hne
  exact writeReg_blockCommand h had hd hb hblock ⟨f, hf, hmay f hf⟩ (fun g hg => .inr (hmay g hg)) hl

/-! A CAN controller (R394 to R411). -/

theorem chapterLocked_can {off : Nat} {w : RegWr} {f : FieldDef} {v : Nat} (hb : off / 0x10000 = 0x27)
    (hr : off % 0x1000 = 4 ∨ off % 0x1000 = 0x44 ∨ off % 0x1000 = 0x800) : chapterLocked s w off f v = false := by
  rw [chapterLocked_of_block hb (by decide)]
  unfold canLocked
  rcases hr with h | h | h <;> simp [h]

theorem obey_canCmd (n : Fin 8) {data : Nat} (had : Admitted oid ctx (Reg.CFD_CMD n) s) (ho : oid.toNat ≤ 1) (hd : data < 8) :
    writeReg oid ctx (Reg.CFD_CMD n) data s = obeyed oid (canCmdWritten n data s) := by
  have hb : Reg.CFD_CMD n / 0x10000 = 0x27 := by unfold Reg.CFD_CMD; omega
  rw [writeReg_ownedCommand (command_canCmd n) had (by omega) hb (by decide) (by decide)
    (fun f hf => mayWrite_of_who (by rw [show f.who = 3 by revert f; decide]; exact whoMay_three ho))
    (fun _ _ _ => chapterLocked_can hb (.inl (by unfold Reg.CFD_CMD; omega))), regWritten_can hb, canWritten_cmd]
  have ht : triggerWord data [woField 3 0 0, woField 3 1 1, woField 3 2 2] = data := by interval_cases data <;> rfl
  rw [ht]

end Sys2Proof.Machine
end

section
namespace Sys2Proof.Machine
variable {oid : BitVec 10} {ctx : BitVec 6} {s : State}

theorem bitAt_one_zero : bitAt 1 0 = true := by decide

/-- One trigger bit of three adjacent buffers: the bits of the request and of the abort of a word (R411). -/
theorem triggerWord_txReq {x : Nat} (h : x < 128) (h3 : x / 8 % 2 = 0) :
    triggerWord x [⟨2, 0, .w1s, 0, 3⟩, ⟨6, 4, .w1s, 0, 3⟩] = x := by
  simp only [triggerWord, List.map_cons, List.map_nil, List.sum_cons, List.sum_nil, slice, Nat.shiftRight_eq_div_pow]
  omega

theorem foldl_range3 (f : State → Nat → State) (s : State) (h : ∀ b < 3, ∀ t, f t b = t) : (List.range 3).foldl f s = s := by
  rw [show List.range 3 = [0, 1, 2] from rfl]
  simp only [List.foldl_cons, List.foldl_nil, h 0 (by decide), h 1 (by decide), h 2 (by decide)]

/-- Without a bit of the lowest three set, nothing is asked for. -/
theorem canRequest_none {bits : Nat} (h : bits % 8 = 0) (c : Nat) (s : State) : canRequest c bits s = s := by
  have hb : ∀ b < 3, bitAt bits b = false := by
    intro b hb; unfold bitAt; rw [Nat.testBit_eq_decide_div_mod_eq]; interval_cases b <;> simp <;> omega
  unfold canRequest
  exact foldl_range3 _ s fun b h3 t => by simp [hb b h3]

theorem canAbort_none {bits : Nat} (h : bits % 8 = 0) (c : Nat) (s : State) : canAbort c bits s = s := by
  have hb : ∀ b < 3, bitAt bits b = false := by
    intro b hb; unfold bitAt; rw [Nat.testBit_eq_decide_div_mod_eq]; interval_cases b <;> simp <;> omega
  unfold canAbort
  exact foldl_range3 _ s fun b h3 t => by simp [hb b h3]

theorem obey_txReq (n : Fin 8) {data : Nat} (had : Admitted oid ctx (Reg.CFD_TXREQ n) s) (ho : oid.toNat ≤ 1) (hd : data < 128)
    (h3 : data / 8 % 2 = 0) :
    writeReg oid ctx (Reg.CFD_TXREQ n) data s = obeyed oid (canAbort n (data / 16) (canRequest n data s)) := by
  have hb : Reg.CFD_TXREQ n / 0x10000 = 0x27 := by unfold Reg.CFD_TXREQ; omega
  rw [writeReg_ownedCommand (command_txReq n) had (by omega) hb (by decide) (by decide)
    (fun f hf => mayWrite_of_who (by rw [show f.who = 3 by revert f; decide]; exact whoMay_three ho))
    (fun _ _ _ => chapterLocked_can hb (.inr (.inl (by unfold Reg.CFD_TXREQ; omega)))), triggerWord_txReq hd h3]
  exact congrArg (obeyed oid) ((regWritten_can hb).trans (canWritten_txReq n data))

theorem triggerWord_ecset {data : Nat} (hd : data < 2 ^ 32) :
    triggerWord data [woField 2 8 0, woField 2 16 9, woField 2 31 31] = data % 131072 + data / 2147483648 * 2147483648 := by
  have h0 : slice data 8 0 = data % 512 := by unfold slice; rw [Nat.shiftRight_zero]; rfl
  have h1 : slice data 16 9 = data / 512 % 256 := by unfold slice; rw [Nat.shiftRight_eq_div_pow]; rfl
  have h2 : slice data 31 31 = data / 2147483648 := by unfold slice; rw [Nat.shiftRight_eq_div_pow]; omega
  have hnil : triggerWord data [] = 0 := rfl
  rw [triggerWord_woField, triggerWord_woField, triggerWord_woField, hnil, h0, h1, h2]
  omega

/-- Loading the counters reads bits 8 to 0, 16 to 9 and 31 of the word (R409). -/
theorem ecsetWritten_congr {x y : Nat} (h31 : x / 2 ^ 31 % 2 = y / 2 ^ 31 % 2) (hlow : x % 2 ^ 17 = y % 2 ^ 17) (c : Nat) :
    ecsetWritten c x s = ecsetWritten c y s := by
  have hbit : bitAt x 31 = bitAt y 31 := by unfold bitAt; simp only [Nat.testBit_eq_decide_div_mod_eq, h31]
  unfold ecsetWritten
  rw [hbit, show x % 512 = y % 512 by omega, show x / 512 % 256 = y / 512 % 256 by omega]

theorem obey_ecset (n : Fin 8) {data : Nat} (had : Admitted oid ctx (Reg.CFD_ECSET n) s) (ho : oid.toNat = 1) (hd : data < 2 ^ 32) :
    writeReg oid ctx (Reg.CFD_ECSET n) data s = obeyed oid (ecsetWritten n data s) := by
  have hb : Reg.CFD_ECSET n / 0x10000 = 0x27 := by unfold Reg.CFD_ECSET; omega
  have ht := triggerWord_ecset hd
  rw [writeReg_ownedCommand (command_ecset n) had hd hb (by decide) (by decide)
    (fun f hf => mayWrite_of_who (by rw [show f.who = 2 by revert f; decide, ho]; rfl))
    (fun _ _ _ => chapterLocked_can hb (.inr (.inr (by unfold Reg.CFD_ECSET; omega))))]
  have hcongr : ecsetWritten n (triggerWord data [woField 2 8 0, woField 2 16 9, woField 2 31 31]) s = ecsetWritten n data s :=
    ecsetWritten_congr (by omega) (by omega) n
  exact congrArg (obeyed oid) ((regWritten_can hb).trans ((canWritten_ecset n _).trans hcongr))

/-! TIM (R412 to R421): the pops of its queues and the step. -/

theorem chapterLocked_tim {off : Nat} {w : RegWr} {f : FieldDef} {v : Nat} (hb : off / 0x10000 = 0x28) (ha : off ≠ Reg.TIM_ADJ)
    (hr : 0x200 ≤ off % 0x10000) : chapterLocked s w off f v = false := by
  rw [chapterLocked_of_block hb (by decide)]
  unfold timLocked
  have hr' : ¬off % 0x10000 < 0x200 := by omega
  simp [ha, hr']

theorem obey_txqPop (n : Fin 2) (had : Admitted oid ctx (Reg.TIM_TXQ_POP n) s) (ho : oid.toNat ≤ 1) :
    writeReg oid ctx (Reg.TIM_TXQ_POP n) 1 s = obeyed oid (popTx n s) := by
  have hb : Reg.TIM_TXQ_POP n / 0x10000 = 0x28 := by unfold Reg.TIM_TXQ_POP; omega
  rw [writeReg_ownedCommand (command_txqPop n) had (by decide) hb (by decide) (by decide)
    (fun f hf => mayWrite_of_who (by rw [show f.who = 3 by revert f; decide]; exact whoMay_three ho))
    (fun _ _ _ => chapterLocked_tim hb (by unfold Reg.TIM_TXQ_POP Reg.TIM_ADJ; omega) (by unfold Reg.TIM_TXQ_POP; omega)),
    regWritten_tim hb, timWritten_txqPop, show triggerWord 1 [woField 3 0 0] = 1 from rfl]
  dsimp only
  rw [if_pos bitAt_one_zero]

theorem obey_ciPop (n : Fin 8) (had : Admitted oid ctx (Reg.TIM_CI_POP n) s) (ho : oid.toNat ≤ 1) :
    writeReg oid ctx (Reg.TIM_CI_POP n) 1 s = obeyed oid (popCapture n s) := by
  have hb : Reg.TIM_CI_POP n / 0x10000 = 0x28 := by unfold Reg.TIM_CI_POP; omega
  rw [writeReg_ownedCommand (command_ciPop n) had (by decide) hb (by decide) (by decide)
    (fun f hf => mayWrite_of_who (by rw [show f.who = 3 by revert f; decide]; exact whoMay_three ho))
    (fun _ _ _ => chapterLocked_tim hb (by unfold Reg.TIM_CI_POP Reg.TIM_ADJ; omega) (by unfold Reg.TIM_CI_POP; omega)),
    regWritten_tim hb, timWritten_ciPop, show triggerWord 1 [woField 3 0 0] = 1 from rfl]
  dsimp only
  rw [if_pos bitAt_one_zero]

theorem insertBits_word (x : Nat) {v : Nat} (hx : x < 2 ^ 32) (hv : v < 2 ^ 32) : insertBits x 31 0 v = v := by
  unfold insertBits slice; rw [Nat.shiftRight_zero]; omega

/-- A step that is allowed is not stored: the trigger is the whole of the write (R419). -/
theorem applyWord_adj {data : Nat} {w : RegWr} (hw : w.data = data) (hk : w.kind = 0) (ho : w.oid ≤ 1) (hd : data < 2 ^ 32)
    (hl : adjLocked data s = false) : applyWord w Reg.TIM_ADJ s = (true, timAdjust data s) := by
  have hfound : findReg Reg.TIM_ADJ = some ⟨56, [], [⟨31, 0, .rw, 0, 3⟩]⟩ := by decide +kernel
  have hmay : mayWrite w.oid Reg.TIM_ADJ ⟨31, 0, .rw, 0, 3⟩ = true := mayWrite_of_who (whoMay_three ho)
  have hal : alwaysLocked s w Reg.TIM_ADJ = false := by
    have h1 : Reg.TIM_ADJ ≠ Reg.SAP_RSTCMD := by decide
    have h2 : Reg.TIM_ADJ ≠ Reg.HWD_KICK := by decide
    unfold alwaysLocked; simp [h1, h2]
  have hlock : chapterLocked s w Reg.TIM_ADJ ⟨31, 0, .rw, 0, 3⟩ data = false := by
    rw [chapterLocked_of_block (b := 0x28) rfl (by decide)]
    simpa [timLocked] using hl
  have hslice : slice data 31 0 = data := by unfold slice; rw [Nat.shiftRight_zero]; omega
  have hword : wordWrite w Reg.TIM_ADJ ⟨56, [], [⟨31, 0, .rw, 0, 3⟩]⟩ s = { new := data } := by
    unfold wordWrite
    simp only [hal, Bool.false_eq_true, if_false, hw, hk]
    unfold writeFields
    simp only [hmay, Bool.not_true, Bool.false_eq_true, if_false, fieldNew, fieldTrig, if_true, accLocked, hslice, ne_eq, not_true_eq_false, hlock,
      Bool.or_self, decide_false, Bool.and_false, insertBits_word _ (s.reg Reg.TIM_ADJ).isLt hd, Nat.zero_mul, Nat.add_zero, reduceCtorEq, Bool.false_and]
    rfl
  have hany : mayAny w.oid Reg.TIM_ADJ = true := by unfold mayAny; rw [hfound]; simpa using hmay
  have hb : Reg.TIM_ADJ / 0x10000 = 0x28 := rfl
  have hcount : ∀ x : WordWrite, x.wos = [] → ∀ was, countChange w Reg.TIM_ADJ was x s = s := by
    intro x hx was
    unfold countChange
    have hr : ruleOf Reg.TIM_ADJ = none := by decide
    have hs : Reg.TIM_ADJ ≠ Reg.SYS_XPEN := by decide
    simp [hr, hx, hs]
  unfold applyWord
  have hlc : Reg.TIM_ADJ ≠ Reg.LCS_LCCMD := by decide
  have hself : selfStored Reg.TIM_ADJ = true := rfl
  simp only [hfound, if_neg hlc, hword, hself, Bool.true_or, if_true, hcount, hany, Option.isNone_none, Bool.true_and, hal, Bool.not_false, regWritten_tim hb]
  unfold timWritten
  rfl

theorem obey_adj {data : Nat} (had : Admitted oid ctx Reg.TIM_ADJ s) (ho : oid.toNat ≤ 1) (hd : data < 2 ^ 32) (hl : adjLocked data s = false) :
    writeReg oid ctx Reg.TIM_ADJ data s = obeyed oid (timAdjust data s) := by
  have hx : xpenDenied s (wordWr oid.toNat ctx.toNat Reg.TIM_ADJ data 0).oid Reg.TIM_ADJ = false := had.unkept
  have hf : (findReg Reg.TIM_ADJ).isNone = false := by decide +kernel
  have hr : ringOfSigReg Reg.TIM_ADJ = none := by decide +kernel
  have hg : wordGroup Reg.TIM_ADJ = none := by decide +kernel
  have hword : regWord (wordWr oid.toNat ctx.toNat Reg.TIM_ADJ data 0) Reg.TIM_ADJ s = (true, timAdjust data s) := by
    unfold regWord
    simp only [hf, Bool.false_eq_true, if_false, hx, hr, hg]
    exact applyWord_adj rfl rfl ho hd hl
  rw [writeReg_admitted 0 had ⟨by decide, by decide, by decide +kernel⟩ hd, hword]
  rfl

/-! The Bough pairs (R461) and the software interrupt (R456). -/

theorem chapterLocked_bgh {off : Nat} {w : RegWr} {f : FieldDef} {v : Nat} (hb : off / 0x10000 = 0x2B) : chapterLocked s w off f v = false := by
  rw [chapterLocked_of_block hb (by decide)]; rfl

/-- A pair command whose one bit the writer may set. -/
theorem obey_pairCmd (n : Fin 4) {k : Nat} (hk : k < 6) (had : Admitted oid ctx (Reg.BGH_PAIR_CMD n) s)
    (hmay : ∀ f ∈ [woField 3 0 0, woField 0 1 1, woField 3 2 2, woField 0 3 3, woField 3 4 4, woField 3 5 5], f.lo = k →
      mayWrite oid.toNat (Reg.BGH_PAIR_CMD n) f = true) :
    writeReg oid ctx (Reg.BGH_PAIR_CMD n) (2 ^ k) s = obeyed oid (pairCmdWritten n (2 ^ k) oid.toNat s) := by
  have hb : Reg.BGH_PAIR_CMD n / 0x10000 = 0x2B := by unfold Reg.BGH_PAIR_CMD; omega
  rw [writeReg_blockCommand (command_pairCmd n) had (Nat.pow_lt_pow_right (by decide) (by omega)) hb (by decide) ?_ ?_
    (fun _ _ _ => chapterLocked_bgh hb), regWritten_bgh hb, bghWritten_pairCmd]
  · have ht : triggerWord (2 ^ k) [woField 3 0 0, woField 0 1 1, woField 3 2 2, woField 0 3 3, woField 3 4 4, woField 3 5 5] = 2 ^ k := by
      interval_cases k <;> rfl
    rw [ht]
    rfl
  · have hex : ∃ f ∈ [woField 3 0 0, woField 0 1 1, woField 3 2 2, woField 0 3 3, woField 3 4 4, woField 3 5 5], f.lo = k := by
      interval_cases k <;> decide
    obtain ⟨f, hf, hlo⟩ := hex
    exact ⟨f, hf, hmay f hf hlo⟩
  · intro f hf
    by_cases hlo : f.lo = k
    · exact .inr (hmay f hf hlo)
    · refine .inl ?_
      revert f
      interval_cases k <;> decide

/-- The fields of a pair command (R461). -/
def pairFields : List FieldDef := [woField 3 0 0, woField 0 1 1, woField 3 2 2, woField 0 3 3, woField 3 4 4, woField 3 5 5]

theorem pairWriter_host (n : Fin 4) {k : Nat} (ho : oid.toNat ≤ 1) (hk : ∀ f ∈ pairFields, f.lo = k → f.who = 3) :
    ∀ f ∈ pairFields, f.lo = k → mayWrite oid.toNat (Reg.BGH_PAIR_CMD n) f = true :=
  fun f hf hlo => mayWrite_of_who (by rw [hk f hf hlo]; exact whoMay_three ho)

theorem pairWriter_own (n : Fin 4) {k : Nat} (h : bghOwn oid.toNat (0x100 + 0x20 * n) k = true) :
    ∀ f ∈ pairFields, f.lo = k → mayWrite oid.toNat (Reg.BGH_PAIR_CMD n) f = true :=
  fun f _ hlo => mayWrite_of_owner (o := 0x100 + 0x20 * n) (by unfold Reg.BGH_PAIR_CMD; omega) (by unfold Reg.BGH_PAIR_CMD; omega) (by rw [hlo]; exact h)

theorem obey_ipset (n : Fin 8) {data : Nat} (had : Admitted oid ctx (Reg.BGH_CORE_IPSET n) s) (hd : data < 2 ^ 32) :
    writeReg oid ctx (Reg.BGH_CORE_IPSET n) data s = obeyed oid (ipsetWritten n data s) := by
  have hb : Reg.BGH_CORE_IPSET n / 0x10000 = 0x2B := by unfold Reg.BGH_CORE_IPSET; omega
  have ho : Reg.BGH_CORE_IPSET n % 0x10000 = 0x208 + 0x20 * n := by unfold Reg.BGH_CORE_IPSET; omega
  have hown (lo : Nat) : bghOwn oid.toNat (0x208 + 0x20 * n) lo = true := by unfold bghOwn; grind
  rw [writeReg_ownedCommand (command_ipset n) had hd hb (by decide) (by decide) (fun f _ => mayWrite_of_owner hb ho (hown f.lo))
    (fun _ _ _ => chapterLocked_bgh hb), regWritten_bgh hb, bghWritten_ipset]
  have ht : triggerWord data [woField 3 31 0] = data := by
    simp only [triggerWord, List.map_cons, List.map_nil, List.sum_cons, List.sum_nil, woField, slice, Nat.shiftRight_zero]
    omega
  rw [ht]

/-! The lifecycle block, Sap and the event unit. -/

theorem chapterLocked_lcs {off : Nat} {w : RegWr} {f : FieldDef} {v : Nat} (hb : off / 0x10000 = 2) : chapterLocked s w off f v = false := by
  rw [chapterLocked_of_block hb (by decide)]; rfl

theorem obey_lifecycle {data : Nat} (bad : Nat) (had : Admitted oid ctx Reg.LCS_LCCMD s) (hd : data < 2 ^ 32) :
    writeReg oid ctx Reg.LCS_LCCMD data s bad = obeyed oid (lcCmdWritten oid.toNat data bad s) := by
  have hx : xpenDenied s (wordWr oid.toNat ctx.toNat Reg.LCS_LCCMD data bad).oid Reg.LCS_LCCMD = false := had.unkept
  have hr : ringOfSigReg Reg.LCS_LCCMD = none := by decide +kernel
  have hg : wordGroup Reg.LCS_LCCMD = none := by decide +kernel
  obtain ⟨d, hd'⟩ : ∃ d, findReg Reg.LCS_LCCMD = some d := Option.isSome_iff_exists.1 (by decide +kernel)
  rw [writeReg_admitted bad had ⟨by decide, by decide, by decide +kernel⟩ hd]
  unfold regWord applyWord
  simp only [hd', Option.isNone_some, Bool.false_eq_true, if_false, hx, hr, hg, if_true]
  rfl

theorem obey_fuse (had : Admitted oid ctx Reg.LCS_FPROG_CMD s) (ho : oid.toNat = 2) :
    writeReg oid ctx Reg.LCS_FPROG_CMD 1 s = obeyed oid (fuseCmdWritten 2 1 s) := by
  rw [writeReg_ownedCommand command_fuse had (by decide) (b := 2) rfl (by decide) (by decide)
    (fun f hf => mayWrite_of_who (by rw [show f.who = 4 by revert f; decide, ho]; rfl)) (fun _ _ _ => chapterLocked_lcs rfl), regWritten_lcs rfl, ← ho,
    show triggerWord 1 [woField 4 0 0] = 1 from rfl]
  rfl

theorem obey_wipe (had : Admitted oid ctx Reg.LCS_PITHCMD s) (h1 : 1 ≤ oid.toNat) (h2 : oid.toNat ≤ 2) :
    writeReg oid ctx Reg.LCS_PITHCMD 1 s = obeyed oid (startWipe 3 oid.toNat s) := by
  rw [writeReg_ownedCommand command_pith had (by decide) (b := 2) rfl (by decide) (by decide)
    (fun f hf => mayWrite_of_who (by rw [show f.who = 6 by revert f; decide]; exact whoMay_six h1 h2)) (fun _ _ _ => chapterLocked_lcs rfl),
    regWritten_lcs rfl, show triggerWord 1 [woField 6 0 0] = 1 from rfl]
  unfold lcsWritten pithCmdWritten
  simp only [if_true, bitAt_one_zero, wordWr]

theorem obey_rollback {data : Nat} (had : Admitted oid ctx Reg.LCS_RBCMD s) (h1 : 1 ≤ oid.toNat) (h2 : oid.toNat ≤ 2)
    (hd : data = 1 ∨ (data = 2 ∧ oid.toNat = 1)) :
    writeReg oid ctx Reg.LCS_RBCMD data s = obeyed oid (rbCmdWritten oid.toNat data s) := by
  have h6 : mayWrite oid.toNat Reg.LCS_RBCMD (woField 6 0 0) = true := mayWrite_of_who (whoMay_six h1 h2)
  rw [writeReg_blockCommand command_rollback had (by omega) (b := 2) rfl (by decide) ⟨_, List.mem_cons_self, h6⟩ ?_
    (fun _ _ _ => chapterLocked_lcs rfl), regWritten_lcs rfl]
  · have ht : triggerWord data [woField 6 0 0, woField 2 1 1] = data := by rcases hd with rfl | ⟨rfl, -⟩ <;> rfl
    rw [ht]
    rfl
  · intro f hf
    rcases hd with rfl | ⟨rfl, ho⟩
    · rcases List.mem_cons.1 hf with rfl | hf
      · exact .inr h6
      · rw [List.mem_singleton.1 hf]; exact .inl rfl
    · rcases List.mem_cons.1 hf with rfl | hf
      · exact .inl rfl
      · rw [List.mem_singleton.1 hf]; exact .inr (mayWrite_of_who (by rw [ho]; rfl))

theorem obey_reset {data : Nat} (had : Admitted oid ctx Reg.SAP_RSTCMD s) (ho : oid.toNat ≤ 2) (hd : data < 2 ^ 32) (hkey : data / 2 ^ 16 = 0x5253)
    (hbit : bitAt data 0 = true) (hl : rstLocked s oid.toNat data = false) :
    writeReg oid ctx Reg.SAP_RSTCMD data s = obeyed oid (globalReset 2 0 (resetFrames s)) := by
  have hmay (f : FieldDef) (hf : f ∈ [woField 7 0 0, woField 7 31 16]) : mayWrite oid.toNat Reg.SAP_RSTCMD f = true :=
    mayWrite_of_who (by rw [show f.who = 7 by revert f; decide]; exact whoMay_seven ho)
  have hs : slice data 31 16 = 0x5253 := by unfold slice; rw [Nat.shiftRight_eq_div_pow, hkey]; rfl
  have hal : alwaysLocked s (wordWr oid.toNat ctx.toNat Reg.SAP_RSTCMD data 0) Reg.SAP_RSTCMD = false := by
    have hne : Reg.SAP_RSTCMD ≠ Reg.HWD_KICK := by decide
    have hs' : slice (wordWr oid.toNat ctx.toNat Reg.SAP_RSTCMD data 0).data 31 16 = 0x5253 := hs
    unfold alwaysLocked
    simp [hs', hne]
  have hlock (f : FieldDef) (v : Nat) : chapterLocked s (wordWr oid.toNat ctx.toNat Reg.SAP_RSTCMD data 0) Reg.SAP_RSTCMD f v = false := by
    have h1 : strictChecked Reg.SAP_RSTCMD = false := strictChecked_of_block (b := 1) rfl (.inl rfl) (by decide)
    have h2 : Reg.SAP_RSTCMD ≠ Reg.SYS_STRICT := by decide
    unfold chapterLocked
    simp only [h1, Bool.false_and, Bool.false_eq_true, if_false, h2, if_true]
    exact hl
  rw [writeReg_command command_reset had hd (List.any_eq_true.2 ⟨_, List.mem_cons_self, hmay _ List.mem_cons_self⟩) hal (fun f _ v => hlock f v)]
  unfold commanded
  rw [regWritten_reset]
  have ht : commandWord (mayWrite (wordWr oid.toNat ctx.toNat Reg.SAP_RSTCMD data 0).oid Reg.SAP_RSTCMD) data [woField 7 0 0, woField 7 31 16]
      = 1 + 0x5253 * 2 ^ 16 := by
    have h0 : slice data 0 0 = 1 := by
      unfold bitAt at hbit; rw [Nat.testBit_zero, decide_eq_true_eq] at hbit; unfold slice; rw [Nat.shiftRight_zero]; exact hbit
    refine (commandWord_eq fun f hf => .inr (hmay f hf)).trans ?_
    simp only [triggerWord, List.map_cons, List.map_nil, List.sum_cons, List.sum_nil, woField, h0, hs]
    norm_num
  unfold rstCmdWritten
  rw [show (wordWr oid.toNat ctx.toNat Reg.SAP_RSTCMD data 0).data = data from rfl, ht]
  dsimp only
  rw [if_pos (by decide)]

theorem obey_dump (had : Admitted oid ctx Reg.EVQ_DUMPCMD s) (ho : oid.toNat ≤ 2) :
    writeReg oid ctx Reg.EVQ_DUMPCMD 1 s = obeyed oid (dumpCmdWritten 1 s) := by
  have hne : (Reg.EVQ_DUMPCMD ≠ Reg.EVQ_CTRL ∧ Reg.EVQ_DUMPCMD ≠ Reg.EVQ_BASE_LO) ∧ Reg.EVQ_DUMPCMD ≠ Reg.EVQ_BASE_HI := by decide
  rw [writeReg_ownedCommand command_dump had (by decide) (b := 4) rfl (by decide) (by decide)
    (fun f hf => mayWrite_of_who (by rw [show f.who = 7 by revert f; decide]; exact whoMay_seven ho)) (fun _ _ _ => ?_), regWritten_dump, show triggerWord 1 [woField 7 0 0] = 1 from rfl]
  · rw [chapterLocked_of_block (b := 4) rfl (by decide)]
    simp [hne]

/-- Settles O31: each command is a register of write-only fields, or the step or the lifecycle command, whose admitted write is its work. -/
theorem otherCommandsObeyed : Obligations.OtherCommandsObeyed := by
  unfold Obligations.OtherCommandsObeyed
  have hbuf (bufs : BitVec 3) : bufs.toNat < 8 := bufs.isLt
  refine ⟨?_, ?_, ?_, ?_, ?_, ?_, ?_, ?_, ?_, ?_, ?_, ?_, ?_, ?_, ?_, ?_, ?_, ?_, ?_, ?_, ?_, ?_, ?_⟩
  · intro oid ctx n bufs s had ho
    have := hbuf bufs
    rw [exec_txRequest, execTxRequest, obey_txReq n had ho (by omega) (by omega), canAbort_none (by omega)]
  · intro oid ctx n bufs s had ho
    have := hbuf bufs
    rw [exec_cfdAbort, execAbort, obey_txReq n had ho (by omega) (by omega), canRequest_none (by omega), Nat.mul_div_cancel _ (by decide)]
  · intro oid ctx n s had ho
    rw [exec_cfdSleep, execSleep, obey_canCmd n had ho (by decide)]
  · intro oid ctx n s had ho
    rw [exec_cfdWake, execWake, obey_canCmd n had ho (by decide)]
  · intro oid ctx n s had ho
    rw [exec_cfdRecover, execRecover, obey_canCmd n had ho (by decide)]
  · intro oid ctx n data s had ho
    rw [exec_ecsetLoad, execEcsetLoad, obey_ecset n had ho data.isLt]
  · intro oid ctx data s had ho hl
    rw [exec_timeAdjust, execTimeAdjust, obey_adj had ho data.isLt hl]
  · intro oid ctx n s had ho
    rw [exec_txqPop, execTxqPop, obey_txqPop n had ho]
  · intro oid ctx n s had ho
    rw [exec_capturePop, execCapturePop, obey_ciPop n had ho]
  · intro oid ctx n s had ho
    rw [exec_bghSplit, execSplit]
    exact congrArg Host.Outcome.next (obey_pairCmd (k := 0) n (by decide) had (pairWriter_host n ho (by decide)))
  · intro oid ctx n s had ho
    rw [exec_bghUnpark, execUnpark]
    exact congrArg Host.Outcome.next (obey_pairCmd (k := 2) n (by decide) had (pairWriter_host n ho (by decide)))
  · intro oid ctx n s had ho
    rw [exec_pairReadmit, execPairReadmit]
    exact congrArg Host.Outcome.next (obey_pairCmd (k := 4) n (by decide) had (pairWriter_host n ho (by decide)))
  · intro oid ctx n s had ho
    rw [exec_pairAdmit, execPairAdmit]
    exact congrArg Host.Outcome.next (obey_pairCmd (k := 5) n (by decide) had (pairWriter_host n ho (by decide)))
  · intro oid ctx n s had ho
    rw [exec_bghPark, execPark]
    exact congrArg Host.Outcome.next (obey_pairCmd (k := 1) n (by decide) had (pairWriter_own n (by rw [ho]; unfold bghOwn; grind)))
  · intro oid ctx n s had ho
    rw [exec_bghJoin, execJoin]
    exact congrArg Host.Outcome.next (obey_pairCmd (k := 3) n (by decide) had (pairWriter_own n (by rcases ho with ho | ho <;> (rw [ho]; unfold bghOwn; grind))))
  · intro oid ctx n data s had _
    rw [exec_ipsetWrite, execIpsetWrite, obey_ipset n had data.isLt]
  · intro oid ctx data bad s had _
    rw [exec_lifecycleCommand, execLifecycleCommand, obey_lifecycle bad.toNat had data.isLt]
  · intro oid ctx s had ho
    rw [exec_fuseProgram, execFuseProgram, obey_fuse had ho]
  · intro oid ctx s had h1 h2
    rw [exec_pithWipe, execWipe, obey_wipe had h1 h2]
  · intro oid ctx s had h1 h2
    rw [exec_rollbackFw, execRollbackFw, obey_rollback had h1 h2 (.inl rfl)]
  · intro oid ctx s had ho
    rw [exec_rollbackCfg, execRollbackCfg, obey_rollback had ho.ge (by omega) (.inr ⟨rfl, ho⟩), ho]
  · intro oid ctx data s had ho hkey hbit hl
    rw [exec_globalResetCommand, execGlobalResetCommand, obey_reset had ho data.isLt hkey hbit hl]
  · intro oid ctx s had ho
    rw [exec_dumpCommand, execDumpCommand, obey_dump had ho]

end Sys2Proof.Machine
end

section
/-! A link error that is still owed to the words of an access makes it fail, whoever asks for it (R302, R304). -/

namespace Sys2Proof.Machine

/-- The state after reset with a link error of four failed transfers still owed to the next word of DRAM. -/
def linkState : State := State.reset.setMs { State.reset.memsys with links := [(4, 0)] }

theorem calm_linkState : Calm linkState := ⟨by decide +kernel, by decide +kernel⟩

/-- The read of one byte of DRAM by Heartwood fails on the link. -/
theorem resp_read_linkState : (readDone (0x30 : BitVec 10).toNat (1 : BitVec 13).toNat
    (portRead (0x30 : BitVec 10).toNat (0 : BitVec 6).toNat (0 : BitVec 48).toNat (1 : BitVec 13).toNat {} linkState)).resp
    = [⟨0x30, .abort, [0]⟩] := by decide +kernel

/-- Refutes O32: a read that port and Bark admit fails when a link error is still owed to its word. -/
theorem not_readsOfMemory : ¬ Obligations.ReadsOfMemory := by
  unfold Obligations.ReadsOfMemory
  intro h
  have hi : Issues 0x30 0 linkState := by unfold Issues; decide +kernel
  obtain ⟨⟨t, ht, hresp, -⟩, -⟩ := h 0x30 0 0 1 linkState calm_linkState hi (by decide +kernel) (by decide) (by decide)
    (by decide +kernel) (by decide +kernel) (by decide +kernel)
  rw [exec_nocRead, execNocRead, issued, hi] at ht
  injection ht with ht
  dsimp only at ht
  have hr := resp_read_linkState
  rw [ht, hresp] at hr
  exact absurd hr (by decide +kernel)

/-- The write of one byte of DRAM by Heartwood fails on the link: the byte stays 0. -/
theorem byte_write_linkState : (cycleWrite 0x30 0 0 [1] {} linkState).byte 0 = 0 := by decide +kernel

/-- Refutes O33: a write that port and Bark admit stores nothing when a link error is still owed to its word. -/
theorem not_writesOfMemory : ¬ Obligations.WritesOfMemory := by
  unfold Obligations.WritesOfMemory
  intro h
  obtain ⟨h, -⟩ := h
  have hi : Issues 0x30 0 linkState := by unfold Issues; decide +kernel
  have hl : ∀ a b, (0 : BitVec 48).toNat ≤ a → a < (0 : BitVec 48).toNat + [(1 : Byte)].length → sdbLocked linkState a b = false := by
    intro a b h0 h1
    have h1 : a < 1 := h1
    have : ¬ 0x2022200000 ≤ a := by omega
    unfold sdbLocked
    simp [this]
  obtain ⟨⟨t, ht, hbyte, -⟩, -⟩ := h 0x30 0 0 [1] linkState calm_linkState hi (by decide +kernel) (by decide) (by decide)
    (by decide +kernel) (by decide +kernel) (by decide +kernel) hl
  rw [exec_nocWrite, execNocWrite] at ht
  injection ht with ht
  have hb : t.byte 0 = 0 := ht ▸ byte_write_linkState
  rw [hbyte 0] at hb
  exact absurd hb (by decide)

end Sys2Proof.Machine
end

section
/-! Steps that write registers only: which fields of the state they leave, and the report of a failed access (R31, R39). -/

namespace Sys2Proof.Machine

/-- From `s` to `t` only registers of `P` were written and events noted. -/
structure RegStep (P : Nat → Prop) (s t : State) : Prop where
  rest : { t with evq := s.evq, out := s.out, regs := s.regs } = s
  reg : ∀ o, ¬ P o → t.reg o = s.reg o

namespace RegStep
variable {P Q : Nat → Prop} {s t u : State}

theorem refl (s : State) : RegStep P s s := ⟨rfl, fun _ _ => rfl⟩
theorem trans (h : RegStep P s t) (g : RegStep P t u) : RegStep P s u := by
  refine ⟨?_, fun o ho => (g.reg o ho).trans (h.reg o ho)⟩
  exact (congrArg (fun x : State => { x with evq := s.evq, out := s.out, regs := s.regs }) g.rest).trans h.rest
theorem weaken (h : RegStep P s t) (hpq : ∀ o, P o → Q o) : RegStep Q s t := ⟨h.rest, fun o ho => h.reg o fun hp => ho (hpq o hp)⟩
theorem ofEvent (h : EventStep s t) (hp : ∀ o, EvReg o → P o) : RegStep P s t := ⟨h.rest, fun o ho => h.reg o fun he => ho (hp o he)⟩

theorem setReg (s : State) {o : Nat} (v : Word) (h : P o) : RegStep P s (s.setReg o v) :=
  ⟨rfl, fun _ hp => reg_setReg_ne s v fun e => hp (e ▸ h)⟩
theorem put (s : State) {f : RegField} (v : Nat) (h : P f.reg) : RegStep P s (s.put f v) := setReg s _ h
theorem setReg64 (s : State) {o : Nat} (v : Nat) (h : P o) (h4 : P (o + 4)) : RegStep P s (s.setReg64 o v) :=
  (setReg s _ h).trans (setReg _ _ h4)
theorem inc64 (s : State) {o : Nat} (n : Nat) (h : P o) (h4 : P (o + 4)) : RegStep P s (s.inc64 o n) := setReg64 s _ h h4
theorem incHold (s : State) {f : RegField} (h : P f.reg) : RegStep P s (s.incHold f) := by
  unfold State.incHold; split
  · exact put s _ h
  · exact refl s

theorem mem (h : RegStep P s t) : t.mem = s.mem := (congrArg State.mem h.rest :)
theorem memsys (h : RegStep P s t) : t.memsys = s.memsys := (congrArg State.memsys h.rest :)
theorem resp (h : RegStep P s t) : t.resp = s.resp := (congrArg State.resp h.rest :)
theorem hwd (h : RegStep P s t) : t.hwd = s.hwd := (congrArg State.hwd h.rest :)
theorem sched (h : RegStep P s t) : t.sched = s.sched := (congrArg State.sched h.rest :)
theorem fld (h : RegStep P s t) {f : RegField} (hf : ¬ P f.reg) : t.fld f = s.fld f := by unfold State.fld; rw [h.reg _ hf]
theorem flag (h : RegStep P s t) {f : RegField} (hf : ¬ P f.reg) : t.flag f = s.flag f := by unfold State.flag; rw [h.fld hf]
theorem byte (h : RegStep P s t) (a : Nat) : t.byte a = s.byte a := by unfold State.byte; rw [h.mem]
theorem calm (h : RegStep P s t) (hf : ¬ P Reg.HWD_STATE) (hc : Calm s) : Calm t := by
  have hs : seqState t = seqState s := h.fld hf
  exact ⟨by rw [h.hwd]; exact hc.1, by rw [hs]; exact hc.2⟩
end RegStep

/-- The registers that the record of a failed access may write: SYS_ACCERR and the counts of collisions and refusals, and those of its event. -/
def AccReg (o : Nat) : Prop := EvReg o ∨ o / 0x10000 = 0 ∨ o = Reg.BRK_DENYCNT_LO ∨ o = Reg.BRK_DENYCNT_LO + 4

/-- The first failed access is noted in the SYS_ACCERR registers. -/
def noted (code oid ctx a n : Nat) (wr : Bool) (kind : AliasKind) (s : State) : State :=
  if s.flag F.SYS_ACCERRV_VALID then s
  else (((s.setReg Reg.SYS_ACCERR0 (BitVec.ofNat 32 a)).setReg Reg.SYS_ACCERR1 (BitVec.ofNat 32 (accInfo a n wr kind))).setReg Reg.SYS_ACCERR2
    (BitVec.ofNat 32 (oid % 1024 + (ctx % 64) * 2 ^ 10 + code * 2 ^ 16))).put F.SYS_ACCERRV_VALID 1

/-- A register pair counts an access of one kind. -/
def tallied (hit : Prop) [Decidable hit] (lo : Nat) (s : State) : State := if hit then s.inc64 lo else s

/-- The state that the event of a failed access is raised in: the first failure noted, the count taken. -/
def recorded (code oid ctx a n : Nat) (wr : Bool) (kind : AliasKind) (s : State) : State :=
  tallied (code = 0x3010) Reg.BRK_DENYCNT_LO (tallied (code = 0x3003) Reg.SYS_COLLCNT_LO (noted code oid ctx a n wr kind s))

theorem accessEvent_eq (code oid ctx a n : Nat) (wr : Bool) (kind : AliasKind) (data arg3 sev : Nat) (s : State) :
    accessEvent code oid ctx a n wr kind data arg3 sev s
      = raise { code := code, oid := oid, ctx := ctx, sev := sev, a0 := a % 2 ^ 32, a1 := accInfo a n wr kind, a2 := data % 2 ^ 32, a3 := arg3 }
          (recorded code oid ctx a n wr kind s) := rfl

theorem accReg_sys {o : Nat} (h : o / 0x10000 = 0) : AccReg o := .inr (.inl h)

theorem regStep_noted (code oid ctx a n : Nat) (wr : Bool) (kind : AliasKind) (s : State) :
    RegStep AccReg s (noted code oid ctx a n wr kind s) := by
  unfold noted
  split
  · exact .refl s
  · have h0 := RegStep.setReg (P := AccReg) s (o := Reg.SYS_ACCERR0) (BitVec.ofNat 32 a) (accReg_sys (by decide))
    have h1 (t : State) := RegStep.setReg (P := AccReg) t (o := Reg.SYS_ACCERR1) (BitVec.ofNat 32 (accInfo a n wr kind)) (accReg_sys (by decide))
    have h2 (t : State) := RegStep.setReg (P := AccReg) t (o := Reg.SYS_ACCERR2) (BitVec.ofNat 32 (oid % 1024 + (ctx % 64) * 2 ^ 10 + code * 2 ^ 16))
      (accReg_sys (by decide))
    have h3 (t : State) := RegStep.put (P := AccReg) t (f := F.SYS_ACCERRV_VALID) 1 (accReg_sys (by decide))
    exact ((h0.trans (h1 _)).trans (h2 _)).trans (h3 _)

theorem regStep_tallied {hit : Prop} [Decidable hit] {lo : Nat} (s : State) (h : AccReg lo) (h4 : AccReg (lo + 4)) :
    RegStep AccReg s (tallied hit lo s) := by
  unfold tallied
  split
  · exact .inc64 _ _ h h4
  · exact .refl s

theorem regStep_recorded (code oid ctx a n : Nat) (wr : Bool) (kind : AliasKind) (s : State) :
    RegStep AccReg s (recorded code oid ctx a n wr kind s) :=
  ((regStep_noted code oid ctx a n wr kind s).trans (regStep_tallied _ (accReg_sys rfl) (accReg_sys rfl))).trans
    (regStep_tallied _ (.inr (.inr (.inl rfl))) (.inr (.inr (.inr rfl))))

/-- What a report leaves: memory, the answers and the sequencer's calm, with its event last. -/
structure Reported (code oid : Nat) (s t : State) : Prop where
  mem : t.mem = s.mem
  resp : t.resp = s.resp
  calm : Calm s → Calm t
  last : LastEvent t code oid

theorem tearCtx_frame {c : Nat} (hc : c < 64) (code : Nat) (s : State) :
    (tearCtx c code s).mem = s.mem ∧ (tearCtx c code s).resp = s.resp ∧ (tearCtx c code s).evq = s.evq ∧ (tearCtx c code s).hwd = s.hwd
    ∧ (tearCtx c code s).fld F.HWD_STATE_SEQ = s.fld F.HWD_STATE_SEQ := by
  have hne : Reg.HWD_STATE ≠ Reg.SCH_CTX_STAT c := by unfold Reg.HWD_STATE Reg.SCH_CTX_STAT; omega
  have hst (t : State) (v : Nat) : (t.put (F.SCH_CTX_STAT_STATE c) v).fld F.HWD_STATE_SEQ = t.fld F.HWD_STATE_SEQ := fld_put_reg _ _ _ _ hne
  have hca (t : State) (v : Nat) : (t.put (F.SCH_CTX_STAT_CAUSE c) v).fld F.HWD_STATE_SEQ = t.fld F.HWD_STATE_SEQ := fld_put_reg _ _ _ _ hne
  have hsched (t : State) (x : Sched) : ({ t with sched := x } : State).fld F.HWD_STATE_SEQ = t.fld F.HWD_STATE_SEQ := rfl
  unfold tearCtx
  dsimp only
  split
  · simp [hst, hca, hsched]
  · split
    · simp [hca]
    · simp

/-- An event below severity 3 of a context below 64 is last in the history, and raising it touches nothing but its context. -/
theorem reported_raise {e : EvRec} (s : State) (hsev : e.sev < 3) (hctx : e.ctx < 64) : Reported e.code e.oid s (raise e s) := by
  have hev := eventStep_acceptEv e s
  have hstate : ¬ EvReg Reg.HWD_STATE := by unfold EvReg Reg.HWD_STATE; omega
  have hseq : seqState (acceptEv e s) = seqState s := hev.fld (f := F.HWD_STATE_SEQ) hstate
  unfold raise
  dsimp only
  split
  · obtain ⟨hm, hr, he, hh, hs⟩ := tearCtx_frame hctx e.code (acceptEv e s)
    refine ⟨hm.trans hev.mem, hr.trans hev.resp, fun hc => ⟨by rw [hh, hev.hwd]; exact hc.1, fun h => hc.2 (hseq.symm.trans (hs.symm.trans h))⟩, ?_⟩
    unfold LastEvent
    rw [he]
    exact lastEvent_acceptEv e s
  · rw [if_neg (by simp; omega), if_neg (by simp; omega)]
    exact ⟨hev.mem, hev.resp, fun hc => ⟨by rw [hev.hwd]; exact hc.1, by rw [hseq]; exact hc.2⟩, lastEvent_acceptEv e s⟩

theorem reported_accessEvent {code oid ctx sev : Nat} (a n : Nat) (wr : Bool) (kind : AliasKind) (data arg3 : Nat) (s : State)
    (hsev : sev < 3) (hctx : ctx < 64) : Reported code oid s (accessEvent code oid ctx a n wr kind data arg3 sev s) := by
  have hrec := regStep_recorded code oid ctx a n wr kind s
  have hstate : ¬ AccReg Reg.HWD_STATE := by unfold AccReg EvReg Reg.HWD_STATE Reg.BRK_DENYCNT_LO; omega
  obtain ⟨hm, hr, hc, hl⟩ := reported_raise (e := { code := code, oid := oid, ctx := ctx, sev := sev, a0 := a % 2 ^ 32, a1 := accInfo a n wr kind
                                                    a2 := data % 2 ^ 32, a3 := arg3 }) (recorded code oid ctx a n wr kind s) hsev hctx
  rw [accessEvent_eq]
  exact ⟨hm.trans hrec.mem, hr.trans hrec.resp, fun h => hc (hrec.calm hstate h), hl⟩

theorem evCtx_lt (oid : Nat) (ctx : BitVec 6) : evCtx oid ctx.toNat < 64 := by
  unfold evCtx; split
  · exact ctx.isLt
  · decide

theorem reported_reportFail (oid : Nat) (ctx : BitVec 6) (wr : Bool) (f : AccFail) (d : Nat) (s : State) :
    Reported f.code oid s (reportFail oid ctx.toNat wr f d s) := by
  have hsev : accSev oid < 3 := by unfold accSev; split <;> decide
  exact reported_accessEvent _ _ _ _ _ _ _ hsev (evCtx_lt oid ctx)

end Sys2Proof.Machine
end

section
/-! Refused accesses (R31, R32, R35): nothing is stored, the requester gets the error, the event is last. -/

namespace Sys2Proof.Machine

theorem hwdServe_answer {s : State} (h : Calm s) (oid : Nat) (wr : Bool) (st : RespSt) (d : List Byte) :
    hwdServe (s.answer oid wr st d) = s.answer oid wr st d := by
  refine hwdServe_of_calm ?_
  unfold State.answer
  split
  · exact h
  · exact h

/-- A plain write of one transaction: its port, then its answer. -/
theorem cycleWrite_single {oid : BitVec 10} {ctx : BitVec 6} {s : State} (a : Nat) (data : List Byte) {link : LinkErr} (h : Issues oid ctx s)
    (hl : link.also = []) :
    cycleWrite oid.toNat ctx.toNat a data link s = writeDone oid.toNat (portWrite oid.toNat ctx.toNat a data link 0 s) := by
  unfold cycleWrite issuedWrites
  rw [hl]
  unfold Issues at h
  simp only [List.map_nil, List.filterMap_cons, h, Option.map_some, List.filterMap_nil, ascendingRank, List.takeWhile_nil, List.dropWhile_nil,
    List.nil_append, List.foldl_cons, List.foldl_nil, if_true]

theorem resp_answer (oid : BitVec 10) (st : RespSt) (s : State) :
    (s.answer oid.toNat true st []).resp = if oid = 0 then s.resp else s.resp ++ [⟨oid.toNat, st, []⟩] := by
  have h0 : oid.toNat = 0 ↔ oid = 0 := ⟨fun h => BitVec.eq_of_toNat_eq h, fun h => by rw [h]; rfl⟩
  unfold State.answer
  simp only [h0, Bool.and_true, decide_eq_true_eq]
  split <;> rfl

theorem mem_answer (oid : Nat) (wr : Bool) (st : RespSt) (d : List Byte) (s : State) : (s.answer oid wr st d).mem = s.mem := by
  unfold State.answer; split <;> rfl

theorem evq_answer (oid : Nat) (wr : Bool) (st : RespSt) (d : List Byte) (s : State) : (s.answer oid wr st d).evq = s.evq := by
  unfold State.answer; split <;> rfl

/-- A write that fails with a report: nothing is stored, the writer gets the error, and the report's event is last. -/
theorem writeDone_reported {code : Nat} {oid : BitVec 10} {s t : State} (hc : Calm s) (h : Reported code oid.toNat s t) :
    (writeDone oid.toNat (false, t)).mem = s.mem
    ∧ (writeDone oid.toNat (false, t)).resp = (if oid = 0 then s.resp else s.resp ++ [⟨oid.toNat, .abort, []⟩])
    ∧ LastEvent (writeDone oid.toNat (false, t)) code oid.toNat := by
  unfold writeDone
  dsimp only
  rw [hwdServe_answer (h.calm hc)]
  refine ⟨(mem_answer _ _ _ _ _).trans h.mem, ?_, ?_⟩
  · rw [← h.resp]; exact resp_answer oid .abort t
  · unfold LastEvent; rw [evq_answer]; exact h.last

theorem reported_roleDenied {oid : Nat} {s : State} (h : spGet 0 s.lcs.denied oid = 0) : Reported 0xD008 oid s (roleDenied oid s) := by
  unfold roleDenied lcEvent
  simp only [h, ne_eq, not_true_eq_false, decide_false, Bool.false_and, Bool.false_eq_true, if_false]
  obtain ⟨hm, hr, hc, hl⟩ := reported_raise (e := { code := 0xD008, oid := oid, sev := 1, a0 := oid, a1 := lcState s, a2 := 0, a3 := 0 })
    (s.setLcs { s.lcs with denied := spSet 0 oid (s.elapsed + 1) s.lcs.denied }) (Nat.lt_of_sub_eq_succ rfl) (Nat.zero_lt_succ 63)
  exact ⟨hm, hr, hc, hl⟩

theorem calm_roleDenied {oid : Nat} {s : State} (h : Calm s) : Calm (roleDenied oid s) := by
  unfold roleDenied lcEvent
  dsimp only
  split
  · exact h
  · exact (reported_raise _ (Nat.lt_of_sub_eq_succ rfl) (Nat.zero_lt_succ 63)).calm h

/-! A write of one byte of the stream descriptors (R235). -/

theorem place_descriptor {off : Nat} (h : off < 0x1000) : place (0x2022200000 + off) = some (.seedbed (0x200000 + off)) := by
  have h1 : ¬ 0x2022200000 + off < 0x1800000000 := by omega
  have h2 : ¬ 2 ^ 48 ≤ 0x2022200000 + off := by omega
  unfold place
  rw [if_neg h1, if_neg h2, if_neg (by simp; omega), if_neg (by simp; omega), if_neg (by simp; omega), if_neg (by simp; omega),
    if_pos (by simp; omega), show 0x2022200000 + off - 0x2022000000 = 0x200000 + off by omega]

theorem unalias_descriptor {off : Nat} (h : off < 0x1000) : unalias (0x2022200000 + off) = some (0x2022200000 + off, 0) := by
  unfold unalias
  rw [if_pos (by omega), place_descriptor h]
  rfl

theorem pieces_one (a : Nat) : pieces a 1 = [(a, 1)] := by
  unfold pieces
  rw [if_neg (by decide), show (a + 1 - 1) / 64 + 1 - a / 64 = 1 by omega]
  simp only [List.range_one, List.map_cons, List.map_nil, Nat.add_zero, List.cons.injEq, Prod.mk.injEq, and_true]
  omega

theorem length_one_eq {bs : List Byte} (h : bs.length = 1) : bs = [bs.headD 0] := by
  obtain ⟨b, rfl⟩ := List.length_eq_one_iff.1 h
  rfl

/-- The byte of a locked descriptor keeps its value (R235). -/
theorem memStore_locked {oid off : Nat} {b : Byte} {s : State} (h : off < 0x1000) (hs : suspectWords s (0x2022200000 + off) 1 = [])
    (hlock : sdbLocked s (0x2022200000 + off) b = true) :
    ∃ t, memStore oid (0x2022200000 + off) 0 [b] s = (true, t) ∧ (∀ a, t.byte a = s.byte a) ∧ t.resp = s.resp ∧ t.hwd = s.hwd ∧ t.regs = s.regs := by
  have hpart : correctPartial oid (0x2022200000 + off) 1 s = s := by unfold correctPartial; rw [hs]; rfl
  have hbytes : pieceBytes s (0x2022200000 + off) 0 [b] = ([s.byte (0x2022200000 + off)], true) := by
    unfold pieceBytes
    simp [hlock]
  unfold memStore
  simp only [List.length_singleton, hpart, hbytes, place_descriptor h]
  refine ⟨_, rfl, fun a => ?_, rfl, rfl, rfl⟩
  unfold State.byte
  dsimp only
  rw [spGet_spRange]
  split
  · next hr => rw [show a = 0x2022200000 + off by omega, Nat.sub_self]; rfl
  · rfl

theorem engineLocked_descriptor {oid ctx off : Nat} {b : Byte} {s : State} (h : off < 0x1000) (hs : suspectWords s (0x2022200000 + off) 1 = [])
    (hlock : sdbLocked s (0x2022200000 + off) b = true) :
    ∃ t, busPiece oid ctx (0x2022200000 + off) [b] 0 s = (.locked, t) ∧ (∀ a, t.byte a = s.byte a) ∧ t.resp = s.resp ∧ t.hwd = s.hwd
      ∧ t.regs = s.regs := by
  obtain ⟨t, ht, hframe⟩ := memStore_locked (oid := oid) h hs hlock
  refine ⟨t, ?_, hframe⟩
  unfold busPiece pieceWrite
  simp only [unalias_descriptor h, Option.getD_some, place_descriptor h, ht, if_true]

/-- A write of one locked byte of a descriptor is reported as a write of a locked register (R35, R235). -/
theorem busWrite_locked {oid : Nat} {ctx : BitVec 6} {off : Nat} {b : Byte} {s : State} (h : off < 0x1000)
    (hj : judge s oid ctx.toNat (0x2022200000 + off) 1 true = none) (hs : suspectWords s (0x2022200000 + off) 1 = [])
    (hlock : sdbLocked s (0x2022200000 + off) b = true) :
    ∃ t u, busWrite oid ctx.toNat (0x2022200000 + off) [b] {} 0 s = (false, u) ∧ (∀ a, t.byte a = s.byte a) ∧ t.hwd = s.hwd
      ∧ t.regs = s.regs ∧ Reported 0x3001 oid t u := by
  obtain ⟨t, ht, hbyte, -, hhwd, hregs⟩ := engineLocked_descriptor (oid := oid) (ctx := ctx.toNat) h hs hlock
  have hlink : linkError oid (0x2022200000 + off) {} s = (true, s) := by unfold linkError; rw [place_descriptor h]
  have hbus : ∃ a n kind d, busWrite oid ctx.toNat (0x2022200000 + off) [b] {} 0 s
      = (false, accessEvent 0x3001 oid (evCtx oid ctx.toNat) a n true kind d 0 1 t) := by
    unfold busWrite
    simp only [List.length_singleton, hj, hlink, pieces_one, List.foldl_cons, List.foldl_nil, Nat.sub_self, List.drop_zero, List.take_succ_cons,
      List.take_nil, ht, Option.none_or]
    exact ⟨_, _, _, _, rfl⟩
  obtain ⟨a, n, kind, d, hbus⟩ := hbus
  exact ⟨t, _, hbus, hbyte, hhwd, hregs, reported_accessEvent a n true kind d 0 t (by decide) (evCtx_lt oid ctx)⟩

/-- Settles O36. -/
theorem refusedAccesses : Obligations.RefusedAccesses := by
  unfold Obligations.RefusedAccesses
  intro oid ctx addr data link s hc hi hl
  have hexec : exec (.nocWrite oid ctx addr data link) s
      = .next (writeDone oid.toNat (portWrite oid.toNat ctx.toNat addr.toNat data link 0 s)) := by
    rw [exec_nocWrite, execNocWrite, cycleWrite_single _ _ hi hl]
  refine ⟨fun hg => ?_, fun hg => ?_, fun f hg hj => ?_, fun off hlen hg hj hs hlock => ?_⟩
  · have hp : portWrite oid.toNat ctx.toNat addr.toNat data link 0 s = (false, roleDenied oid.toNat s) := by unfold portWrite; rw [hg]
    rw [hexec, hp]
    refine ⟨_, rfl, ⟨?_, ?_⟩, fun hd => (writeDone_reported hc (reported_roleDenied hd)).2.2⟩
    · unfold writeDone
      dsimp only
      rw [hwdServe_answer (calm_roleDenied hc), mem_answer]
      exact (roleDenied_frame _ _).1
    · unfold writeDone
      dsimp only
      rw [hwdServe_answer (calm_roleDenied hc), ← (roleDenied_frame oid.toNat s).2.2]
      exact resp_answer oid .abort _
  · have hp : portWrite oid.toNat ctx.toNat addr.toNat data link 0 s = (false, s) := by unfold portWrite; rw [hg]
    rw [hexec, hp]
    unfold writeDone
    dsimp only
    rw [hwdServe_answer hc]
    rfl
  · have hp : ∃ d, portWrite oid.toNat ctx.toNat addr.toNat data link 0 s = (false, reportFail oid.toNat ctx.toNat true f d s) := by
      unfold portWrite busWrite
      simp only [hg, hj]
      exact ⟨_, rfl⟩
    obtain ⟨d, hp⟩ := hp
    obtain ⟨hm, hr, hlast⟩ := writeDone_reported hc (reported_reportFail oid.toNat ctx true f d s)
    rw [hexec, hp]
    exact ⟨_, rfl, ⟨hm, hr⟩, hlast⟩
  · obtain ⟨b, rfl⟩ := List.length_eq_one_iff.1 hlen
    have hoff : off.toNat < 0x1000 := off.isLt
    have hlock : sdbLocked s (0x2022200000 + off.toNat) b = true := hlock
    obtain ⟨t, u, hu, hbyte, hhwd, hregs, hrep⟩ := busWrite_locked (oid := oid.toNat) (ctx := ctx) hoff hj hs hlock
    have hct : Calm t := by
      have hf : seqState t = seqState s := by unfold seqState State.fld; rw [reg_of_regs hregs]
      exact ⟨by rw [hhwd]; exact hc.1, by rw [hf]; exact hc.2⟩
    have hp : portWrite oid.toNat ctx.toNat (0x2022200000 + off.toNat) [b] {} 0 s = (false, u) := by
      unfold portWrite; simp only [List.length_singleton, hg, hu]
    obtain ⟨hm, -, hlast⟩ := writeDone_reported hct hrep
    rw [exec_streamDescriptorWrite, execStreamDescriptorWrite, issued, hi]
    dsimp only
    rw [hp]
    refine ⟨_, rfl, fun a => ?_, hlast⟩
    rw [← hbyte a]
    unfold State.byte
    rw [hm]

end Sys2Proof.Machine
end

section
/-! A signal to a global ring that an enabled queue of the Page keeper watches is also noted as a post of that queue (R190, R288). -/

namespace Sys2Proof.Machine

/-- A device at READY in lifecycle state Field whose one Bark rule admits every origin everywhere. -/
def openState : State :=
  let s := (State.reset.put F.SAP_BOOT_STAGE 5).put F.LCS_STAT_STATE lcField
  let s := ((s.put (F.BRK_RULE_W0_EN 0 0) 1).put (F.BRK_RULE_W0_RD 0 0) 1).put (F.BRK_RULE_W0_WR 0 0) 1
  s.put (F.BRK_RULE_W3_NPG 0 0) 0x4000000

/-- The Page keeper runs and queue 0 has ring GRN9 as its doorbell; the global rings are enabled. -/
def doorbellState : State :=
  ((((openState.put F.GRN_CTRL_EN 1).put F.KVP_CTRL_EN 1).put (F.KVP_CQ_CFG_EN 0) 1).put (F.KVP_CQ_CFG_DBRING 0) 9)

theorem posts_doorbell : (writeReg 0 0 (ringSigReg (6153 : BitVec 13).toNat) (1 : BitVec 32).toNat doorbellState).kvp.posts = [(9, [0])] := by decide +kernel

theorem posts_obeyed_doorbell : (obeyed 0 (doorbellState.setReg (Reg.GRN_VAL 0 9) (doorbellState.reg (Reg.GRN_VAL 0 9) + 1))).kvp.posts = [] := by
  decide +kernel

/-- Refutes O37: the signal to a doorbell ring also leaves a post with the Page keeper. -/
theorem not_registerWriteRequests : ¬ Obligations.RegisterWriteRequests := by
  unfold Obligations.RegisterWriteRequests
  intro h
  obtain ⟨-, -, -, -, hring⟩ := h
  have had : Admitted 0 0 (ringSigReg (6153 : BitVec 13).toNat) doorbellState :=
    ⟨by unfold Issues; decide +kernel, by decide +kernel, by decide +kernel, by decide +kernel⟩
  have h := (hring 0 0 6153 1 (Reg.GRN_VAL 0 9) doorbellState (by decide) had).1 (by decide) (fun _ => by decide +kernel)
  have hsome : (ringReg (6153 : BitVec 13).toNat).isNone = false := by decide
  rw [exec_ringSignalRegisterWrite, execRingSignalRegisterWrite, hsome] at h
  injection h with h
  have hp := posts_doorbell
  rw [h, posts_obeyed_doorbell] at hp
  exact absurd hp (by decide)

end Sys2Proof.Machine
end

section
/-! A self-test zeroes the accumulator file of its core as well as the scratchpad (R283). -/

namespace Sys2Proof.Machine

/-- Core 0 in self-test, with one byte of its accumulator file not 0. -/
def selftestState : State := (State.reset.put (unitField 0) uSelftest).wrBytes (accBase 0) [1]

/-- The byte at `a` of the next state of an answer, where it has one. -/
def byteAfter (o : Ans) (a : Nat) : Option Byte :=
  match o with
  | .next t => some (t.byte a)
  | _ => none

theorem byteAfter_selftestState : byteAfter (exec (.selftestComplete 0 [] true) selftestState) (accBase 0) = some 0 := by decide +kernel

/-- Refutes O40: the byte of the accumulator file, outside the scratchpad, is zeroed too. -/
theorem not_unitsInAndOut : ¬ Obligations.UnitsInAndOut := by
  unfold Obligations.UnitsInAndOut
  intro h
  obtain ⟨-, h, -⟩ := h
  obtain ⟨t, ht, -, -, hbyte⟩ := (h 0 [] true selftestState).1 (by decide +kernel)
  have hnew : some (t.byte (accBase 0)) = some 0 := (congrArg (byteAfter · (accBase 0)) ht).symm.trans byteAfter_selftestState
  have hold : selftestState.byte (accBase 0) = 1 := by decide +kernel
  have hb := hbyte rfl (accBase 0)
  rw [Option.some.inj hnew, if_neg (by decide), hold] at hb
  exact absurd hb (by decide)

end Sys2Proof.Machine
end

section
/-! Changes of ownership (R259, R260): the units that are withdrawn and zeroed, and their new owner. -/

namespace Sys2Proof.Machine

/-- The registers that count the bytes written to DRAM. -/
def WrCount (o : Nat) : Prop := ∃ k < 4, o = Reg.DRC_WRBYTES_LO k ∨ o = Reg.DRC_WRBYTES_LO k + 4

/-- Zeroing a range clears its bytes and no other, and counts only bytes written. -/
structure Zeroes (a n : Nat) (s t : State) : Prop where
  byte : ∀ x, t.byte x = if a ≤ x ∧ x < a + n then 0 else s.byte x
  reg : ∀ o, ¬ WrCount o → t.reg o = s.reg o

theorem zeroes_zero (s : State) (a n : Nat) : Zeroes a n s (s.zero a n) := ⟨byte_zero s a n, fun _ _ => rfl⟩

theorem byte_foldl_inc64 (l : List Nat) (f g : Nat → Nat) (s : State) (x : Nat) :
    (l.foldl (fun s k => s.inc64 (f k) (g k)) s).byte x = s.byte x := by
  induction l generalizing s with
  | nil => rfl
  | cons k l ih => rw [List.foldl_cons, ih, State.inc64_byte]

theorem reg_inc64_ne (s : State) {o p : Nat} (n : Nat) (h : p ≠ o) (h4 : p ≠ o + 4) : (s.inc64 o n).reg p = s.reg p := by
  unfold State.inc64 State.setReg64
  rw [reg_setReg_ne _ _ h4, reg_setReg_ne _ _ h]

theorem reg_foldl_wrCount {l : List Nat} (hl : ∀ k ∈ l, k < 4) (g : Nat → Nat) (s : State) {o : Nat} (ho : ¬ WrCount o) :
    (l.foldl (fun s k => s.inc64 (Reg.DRC_WRBYTES_LO k) (g k)) s).reg o = s.reg o := by
  induction l generalizing s with
  | nil => rfl
  | cons k l ih =>
    have hk := hl k List.mem_cons_self
    rw [List.foldl_cons, ih fun j hj => hl j (List.mem_cons_of_mem _ hj),
      reg_inc64_ne _ _ (fun e => ho ⟨k, hk, .inl e⟩) (fun e => ho ⟨k, hk, .inr e⟩)]

theorem zeroes_enqueueClear (s : State) (c : BulkClear) : Zeroes c.addr c.len s (enqueueClear c s) := by
  unfold enqueueClear bulkZero
  refine ⟨fun x => ?_, fun o ho => ?_⟩
  · rw [byte_foldl_inc64]
    exact byte_zero (s.setMs _) c.addr c.len x
  · rw [reg_foldl_wrCount (fun k hk => List.mem_range.1 hk) _ _ ho]
    rfl

/-- Units of `sz` bytes zeroed one after the other. -/
theorem zeroes_units {sz : Nat} (hsz : 0 < sz) (f : State → Nat → State) (hf : ∀ s key, Zeroes (key * sz) sz s (f s key)) (l : List Nat) (s : State) :
    (∀ x, (l.foldl f s).byte x = if x / sz ∈ l then 0 else s.byte x) ∧ ∀ o, ¬ WrCount o → (l.foldl f s).reg o = s.reg o := by
  induction l generalizing s with
  | nil => exact ⟨fun x => by simp, fun _ _ => rfl⟩
  | cons key l ih =>
    obtain ⟨hb, hr⟩ := ih (f s key)
    refine ⟨fun x => ?_, fun o ho => (hr o ho).trans ((hf s key).reg o ho)⟩
    rw [List.foldl_cons, hb x, (hf s key).byte x]
    have hiff : key * sz ≤ x ∧ x < key * sz + sz ↔ x / sz = key := by
      rw [Nat.div_eq_iff hsz]; omega
    simp only [hiff, List.mem_cons]
    by_cases h1 : x / sz = key <;> by_cases h2 : x / sz ∈ l <;> simp [h1, h2]

/-- The units of a range that an ownership command withdraws: those with another owner. -/
def changedUnits (s : State) (a sz n owner : Nat) : List Nat :=
  ((List.range n).map fun i => (a + i * sz) / sz).filter fun key => ownerOf s key ≠ owner

theorem mem_changedUnits {s : State} {a sz n owner key : Nat} (hsz : 0 < sz) :
    key ∈ changedUnits s a sz n owner ↔ a / sz ≤ key ∧ key < a / sz + n ∧ ownerOf s key ≠ owner := by
  have hdiv (i : Nat) : (a + i * sz) / sz = a / sz + i := Nat.add_mul_div_right a i hsz
  simp only [changedUnits, List.mem_filter, List.mem_map, List.mem_range, hdiv, decide_eq_true_eq]
  constructor
  · rintro ⟨⟨i, hi, rfl⟩, ho⟩
    exact ⟨Nat.le_add_right _ _, by omega, ho⟩
  · rintro ⟨h1, h2, ho⟩
    exact ⟨⟨key - a / sz, by omega, by omega⟩, ho⟩

theorem ownRange_pos {s : State} {a n sz : Nat} (h : ownRange s a n = some sz) : 0 < sz := by
  unfold ownRange bufferAt at h
  grind

/-- The owner that an ownership command asks for (R259). -/
def askedOwner (data : Nat) : Nat := if bitAt data 6 then 64 else data % 64

/-- The units of a change as they are zeroed: DRAM through the clear queue, the rest at once (R259). -/
def withdraw (sz : Nat) (units : List Nat) (s : State) : State :=
  if sz = 0x200000 then units.foldl (fun s key => enqueueClear ⟨key * sz, sz, .owner⟩ s) s
  else units.foldl (fun s key => s.zero (key * sz) sz) s

theorem withdraw_spec {sz : Nat} (hsz : 0 < sz) (units : List Nat) (s : State) :
    (∀ x, (withdraw sz units s).byte x = if x / sz ∈ units then 0 else s.byte x) ∧ ∀ o, ¬ WrCount o → (withdraw sz units s).reg o = s.reg o := by
  unfold withdraw
  split
  · exact zeroes_units hsz _ (fun s key => zeroes_enqueueClear s ⟨key * sz, sz, .owner⟩) units s
  · exact zeroes_units hsz _ (fun s key => zeroes_zero s (key * sz) sz) units s

/-- The state in which a change of ownership waits for its zeroing (R259). -/
def changing (data a n sz : Nat) (s : State) : State :=
  let units := changedUnits s a sz n (askedOwner data)
  let t := withdraw sz units s
  (t.setSched { t.sched with change := some ⟨a, n, askedOwner data, units⟩
                             results := units.foldl (fun l key => cutRegions (key * sz) sz l) t.sched.results }).put F.SCH_OWN_STAT_BUSY 1

theorem ownCmdWritten_go {data a n sz : Nat} {s : State} (hgo : bitAt data 7 = true)
    (ha : a = s.fld F.SCH_OWN_ADDR_LO_ADDR_LO * 0x1000 + s.fld F.SCH_OWN_ADDR_HI_ADDR_HI * 2 ^ 32) (hn : n = s.fld F.SCH_OWN_LEN_LEN)
    (hr : ownRange s a n = some sz) : ownCmdWritten data s = changing data a n sz s := by
  subst ha hn
  unfold ownCmdWritten changing changedUnits askedOwner withdraw
  simp only [hgo, Bool.not_true, Bool.false_eq_true, if_false, hr]

theorem flag_put_one (s : State) {f : RegField} (h : f.hi = f.lo) (hh : f.hi < 32) : (s.put f 1).flag f = true := by
  unfold State.flag
  rw [fld_put_self s f 1 (by omega) hh, show f.hi + 1 - f.lo = 1 by omega]
  rfl

theorem flag_put_zero (s : State) {f : RegField} (h : f.hi = f.lo) (hh : f.hi < 32) : (s.put f 0).flag f = false := by
  unfold State.flag
  rw [fld_put_self s f 0 (by omega) hh, show f.hi + 1 - f.lo = 1 by omega]
  rfl

theorem clearDone_frame (l : List Nat) (s : State) :
    (l.foldl (fun s _ => clearDone .owner s) s).mem = s.mem ∧ (l.foldl (fun s _ => clearDone .owner s) s).sched = s.sched := by
  induction l generalizing s with
  | nil => exact ⟨rfl, rfl⟩
  | cons k l ih =>
    obtain ⟨hm, hs⟩ := ih (clearDone .owner s)
    have hstep : (clearDone .owner s).mem = s.mem ∧ (clearDone .owner s).sched = s.sched := by
      unfold clearDone; split <;> exact ⟨rfl, rfl⟩
    exact ⟨hm.trans hstep.1, hs.trans hstep.2⟩

theorem spGet_foldl_spSet (l : List Nat) (v : Nat) (m : Sparse Nat) (key : Nat) :
    spGet 64 (l.foldl (fun t k => spSet 64 k v t) m) key = if key ∈ l then v else spGet 64 m key := by
  induction l generalizing m with
  | nil => simp
  | cons k l ih =>
    rw [List.foldl_cons, ih, spGet_spSet]
    by_cases h1 : key ∈ l <;> by_cases h2 : key = k <;> simp [h1, h2]

/-- Settles O41. -/
theorem ownersChange : Obligations.OwnersChange := by
  unfold Obligations.OwnersChange
  refine ⟨fun data s => ?_, fun s => ?_⟩
  · intro a n owner
    have hbit (i : Nat) : data.getLsbD i = bitAt data.toNat i := rfl
    have howner : owner = askedOwner data.toNat := by
      change (if data.getLsbD 6 = true then 64 else data.toNat % 64) = _
      rw [hbit]; rfl
    refine ⟨fun hgo => ?_, fun hgo hr => ?_, fun sz hgo hr => ?_⟩
    · rw [hbit] at hgo
      unfold ownCmdWritten
      rw [hgo]; rfl
    · rw [hbit] at hgo
      unfold ownCmdWritten
      have hr' : ownRange s (s.fld F.SCH_OWN_ADDR_LO_ADDR_LO * 0x1000 + s.fld F.SCH_OWN_ADDR_HI_ADDR_HI * 2 ^ 32) (s.fld F.SCH_OWN_LEN_LEN) = none := hr
      simp only [hgo, Bool.not_true, Bool.false_eq_true, if_false, hr']
    · rw [hbit] at hgo
      have hsz := ownRange_pos hr
      obtain ⟨hbyte, hreg⟩ := withdraw_spec hsz (changedUnits s a sz n owner) s
      rw [ownCmdWritten_go hgo rfl rfl hr]
      unfold changing
      rw [← howner]
      intro t
      refine ⟨?_, fun x => ?_, fun key => ?_, fun o ho hwr => ?_⟩
      · exact flag_put_one _ rfl (by decide)
      · change State.byte (withdraw sz (changedUnits s a sz n owner) s) x = _
        rw [hbyte x]
        simp only [mem_changedUnits hsz]
      · rw [← mem_changedUnits hsz]
        exact List.contains_iff_mem
      · exact (reg_put_ne _ _ _ ho).trans (hreg o fun ⟨k, hk, hor⟩ => hor.elim (hwr k hk).1 (hwr k hk).2)
  · refine ⟨fun hc => ?_, fun ht => ?_, fun x hc ht => ?_⟩
    · rw [exec_ownZeroingComplete, execOwnZeroingComplete, hc]
    · rw [exec_ownZeroingComplete, execOwnZeroingComplete]
      cases hc : s.sched.change with
      | none => rfl
      | some x => simp only [ht, Bool.not_false, if_true]
    · rw [exec_ownZeroingComplete, execOwnZeroingComplete, hc]
      simp only [ht, Bool.not_true, Bool.false_eq_true, if_false]
      obtain ⟨hm, hs⟩ := clearDone_frame x.units s
      refine ⟨_, rfl, ?_⟩
      rw [raise_of_minor _ (Nat.zero_lt_succ 1)]
      have hev := eventStep_acceptEv
      have hbusy : ¬ EvReg F.SCH_OWN_STAT_BUSY.reg := by unfold EvReg F.SCH_OWN_STAT_BUSY; dsimp only; omega
      refine ⟨fun key => ?_, ?_, ?_, ?_, lastEvent_acceptEv _ _⟩
      · unfold ownerOf
        rw [(hev _ _).sched, ← hs]
        exact spGet_foldl_spSet x.units x.owner _ key
      · rw [(hev _ _).flag hbusy]
        exact flag_put_zero _ rfl (by decide)
      · rw [(hev _ _).sched]
        rfl
      · rw [(hev _ _).mem]
        exact hm

end Sys2Proof.Machine
end

section
/-! PAGE_ZEROED runs the allocation cycle of the requests that ask, whatever context it names (R193). -/

namespace Sys2Proof.Machine

/-- An EXTEND of context 0 that asks for its pages in the next allocation cycle, with a page still in zeroing. -/
def askingExtend : KvExec :=
  { ctx := 0, h := 0, n := 0, psz := 4, tags := [], fill := 0, left := 0, cowNeed := none, cow := none, pages := [], zero := [1], raw := [], addr := 0
    asked := true }

def askingState : State := State.reset.setKvp { State.reset.kvp with exec := [askingExtend] }

/-- The EXTENDs that still ask in the next state of an answer. -/
def askingAfter (o : Ans) : Option (List Bool) :=
  match o with
  | .next t => some (t.kvp.exec.map (·.asked))
  | _ => none

theorem askingAfter_pageZeroed : askingAfter (exec (.pageZeroed 1) askingState) = some [false] := by decide +kernel

/-- Refutes O45: the PAGE_ZEROED of a context without an EXTEND serves the EXTEND of another context that asks. -/
theorem not_pageKeeperWaiting : ¬ Obligations.PageKeeperWaiting := by
  unfold Obligations.PageKeeperWaiting
  intro h
  obtain ⟨-, -, hnone, -⟩ := h
  have hctx : ∀ e ∈ askingState.kvp.exec, e.ctx ≠ (1 : BitVec 6).toNat := by
    intro e he
    rw [List.mem_singleton.1 he]
    decide
  have hstay := congrArg askingAfter (hnone 1 askingState hctx).1
  rw [askingAfter_pageZeroed] at hstay
  exact absurd hstay (by decide)

end Sys2Proof.Machine
end

section
/-! O58: the boot writes zero to DRAM, whatever stood there. -/

namespace Sys2Proof.Machine

/-- A state with a byte other than 0 at the start of DRAM. -/
def filledState : State := State.reset.wrBytes 0 [1]

theorem byte_bulkZero {a n x : Nat} (s : State) (h : a ≤ x ∧ x < a + n) : (bulkZero a n s).byte x = 0 := by
  unfold bulkZero
  rw [byte_foldl_inc64]
  exact (byte_zero s a n x).trans (if_pos h)

theorem mem_loadImages_none {b : BootIn} (h : b.images = []) (s : State) : (loadImages b s).mem = s.mem := by
  unfold loadImages
  rw [h]
  rfl

/-- The rack step of the boot (R325). -/
def racked (s : State) : State := if s.flag F.LCS_STAT_RACK then (s.put F.HWD_STATE_SPLIT 1).put F.HWD_STATE_SEQ seqRack else s

theorem mem_racked (s : State) : (racked s).mem = s.mem := by
  unfold racked
  split
  · rfl
  · rfl

theorem bootOn_dramUp (b : BootIn) (cause : Nat × Nat) (lost first : Bool) (s : State) :
    ∃ u, bootOn b cause lost first s = ((loadImages b (racked (dramUp u))).put F.SAP_BOOT_STAGE 5).setReg Reg.SAP_BOOTT (BitVec.ofNat 32 b.us.toNat) :=
  ⟨_, rfl⟩

/-- A boot without images leaves zeros in DRAM (R502). -/
theorem byte_bootOn {b : BootIn} (h : b.images = []) (cause : Nat × Nat) (lost first : Bool) (s : State) {a : Nat} (ha : a < 0x1800000000) :
    (bootOn b cause lost first s).byte a = 0 := by
  obtain ⟨u, hu⟩ := bootOn_dramUp b cause lost first s
  have hm : (bootOn b cause lost first s).mem = (dramUp u).mem := by
    rw [hu, State.setReg_mem, State.put_mem, mem_loadImages_none h, mem_racked]
  have hz : (dramUp u).byte a = 0 := byte_bulkZero _ ⟨Nat.zero_le a, by omega⟩
  unfold State.byte at hz ⊢
  rw [hm]
  exact hz

/-- The boot's state after the fuse step (R470, R502). -/
def fusesRead (cause : Nat) (s : State) : State :=
  (resolveFuses (s.setSap { s.sap with held := none, power := true, onMain := true, lost := false })).put F.SAP_RSTCAUSE_CAUSE cause

theorem boot_goesOn (b : BootIn) (cause : Nat × Nat) (s : State) (h : lcState (fusesRead cause.1 s) ≠ lcEnd) :
    boot b cause s = bootOn b cause s.sap.lost ((resolveFuse s 0).1 % 32 = 0) (fusesRead cause.1 s) := if_neg h

theorem lcState_filledState : lcState (fusesRead 0 filledState) ≠ lcEnd := by decide +kernel

theorem zero_lt_pithBase : 0 < pithBase := by decide

/-- Refutes O58: a boot from a state with a byte other than 0 in DRAM zeroes that byte, though the statement keeps all memory outside the Pith store. -/
theorem not_lifecycleResetsAndBoot : ¬ Obligations.LifecycleResetsAndBoot := by
  unfold Obligations.LifecycleResetsAndBoot
  intro h
  obtain ⟨-, -, -, -, -, -, -, -, -, -, -, -, -, hboot, -⟩ := h
  obtain ⟨-, -, -, -, -, -, -, -, -, hnone⟩ := hboot {} (0, 0) filledState (by decide)
  have hkept : (boot {} (0, 0) filledState).byte 0 = filledState.byte 0 := (hnone rfl).2.1 0 (.inl zero_lt_pithBase)
  have hzero : (boot {} (0, 0) filledState).byte 0 = 0 := by
    rw [boot_goesOn {} (0, 0) filledState lcState_filledState]
    exact byte_bootOn rfl _ _ _ _ (by decide)
  have hone : filledState.byte 0 = 1 := by decide +kernel
  rw [hkept, hone] at hzero
  exact absurd hzero (by decide)

end Sys2Proof.Machine
end

section
/-! Sap: the supplies, the voltage step, the frequency that both loops choose, throttle and trip (R489 to R498, R505). -/

namespace Sys2Proof.Machine

/-- The registers of Sap. -/
def SapReg (o : Nat) : Prop := o / 0x10000 = 1

theorem not_evReg_of_sapReg {o : Nat} (h : SapReg o) : ¬ EvReg o := by unfold SapReg at h; unfold EvReg; omega

theorem fld_lt (s : State) (f : RegField) : s.fld f < 2 ^ (f.hi + 1 - f.lo) := Nat.mod_lt _ (Nat.two_pow_pos _)

theorem EventStep.sapFld {s t : State} (h : EventStep s t) (f : RegField) (hf : SapReg f.reg) : t.fld f = s.fld f :=
  h.fld (not_evReg_of_sapReg hf)

theorem EventStep.sapFlag {s t : State} (h : EventStep s t) (f : RegField) (hf : SapReg f.reg) : t.flag f = s.flag f :=
  h.flag (not_evReg_of_sapReg hf)

theorem flag_iff (s : State) (f : RegField) : s.flag f = true ↔ s.fld f ≠ 0 := by simp [State.flag]

/-- A field of one bit that takes a truth value. -/
theorem flag_put_ofBool (s : State) {f : RegField} (h : f.hi = f.lo) (hh : f.hi < 32) (b : Bool) : (s.put f (ofBool b)).flag f = b := by
  cases b
  · exact flag_put_zero s h hh
  · exact flag_put_one s h hh

theorem flag_put_apart (s : State) (f g : RegField) (v : Nat) (h : f.lo ≤ f.hi) (hh : f.hi < 32) (ha : g.hi < f.lo ∨ f.hi < g.lo) :
    (s.put f v).flag g = s.flag g := by
  unfold State.flag
  rw [fld_put_apart s f g v h hh ha]

theorem flag_put_reg (s : State) (f g : RegField) (v : Nat) (h : g.reg ≠ f.reg) : (s.put f v).flag g = s.flag g := by
  unfold State.flag
  rw [fld_put_reg s f g v h]

/-- A field that takes a value it can hold. -/
theorem fld_put_fits (s : State) (f : RegField) {v : Nat} (h : f.lo ≤ f.hi) (hh : f.hi < 32) (hv : v < 2 ^ (f.hi + 1 - f.lo)) :
    (s.put f v).fld f = v := by
  rw [fld_put_self s f v h hh, Nat.mod_eq_of_lt hv]

theorem put_frame (s : State) (f : RegField) (v : Nat) (r) : { s.put f v with regs := r } = { s with regs := r } := rfl

/-! ### Events of Sap -/

section
variable (code a0 a1 : Nat) (s : State)

theorem eventStep_sapEvent : EventStep s (sapEvent code 1 a0 a1 s) := by
  unfold sapEvent
  rw [raise_of_minor s (Nat.one_lt_two : 1 < 2)]
  exact eventStep_acceptEv _ _

theorem lastEvent_sapEvent : LastEvent (sapEvent code 1 a0 a1 s) code 0x30 := by
  unfold sapEvent
  rw [raise_of_minor s (Nat.one_lt_two : 1 < 2)]
  exact lastEvent_acceptEv _ _

@[simp] theorem sapEvent_mem : (sapEvent code 1 a0 a1 s).mem = s.mem := (eventStep_sapEvent code a0 a1 s).mem
@[simp] theorem sapEvent_sap : (sapEvent code 1 a0 a1 s).sap = s.sap := (eventStep_sapEvent code a0 a1 s).sap
@[simp] theorem sapEvent_sched : (sapEvent code 1 a0 a1 s).sched = s.sched := (eventStep_sapEvent code a0 a1 s).sched

theorem fld_sapEvent {f : RegField} (h : SapReg f.reg) : (sapEvent code 1 a0 a1 s).fld f = s.fld f :=
  (eventStep_sapEvent code a0 a1 s).fld (not_evReg_of_sapReg h)

theorem flag_sapEvent {f : RegField} (h : SapReg f.reg) : (sapEvent code 1 a0 a1 s).flag f = s.flag f :=
  (eventStep_sapEvent code a0 a1 s).flag (not_evReg_of_sapReg h)

theorem crownFreq_sapEvent : crownFreq (sapEvent code 1 a0 a1 s) = crownFreq s := fld_sapEvent code a0 a1 s rfl

end

/-! ### The frequency -/

/-- The registers that hold the frequency: SAP_CRNF and the six Crown domains. -/
def FreqReg (o : Nat) : Prop := o = Reg.SAP_CRNF ∨ ∃ d < 6, o = Reg.SAP_DOM d

/-- A change of the six domains' frequencies, as the fold that `setFreq` runs. -/
def domainsAt (n f : Nat) (s : State) : State := (List.range n).foldl (fun s d => s.put (F.SAP_DOM_MHZ d) f) s

theorem domainsAt_succ (n f : Nat) (s : State) : domainsAt (n + 1) f s = (domainsAt n f s).put (F.SAP_DOM_MHZ n) f := by
  unfold domainsAt
  rw [List.range_succ, List.foldl_append, List.foldl_cons, List.foldl_nil]

theorem setFreq_eq (f : Nat) (s : State) : setFreq f s = domainsAt 6 f (s.put F.SAP_CRNF_CUR f) := rfl

theorem domainsAt_frame (n f : Nat) (s : State) (r) : { domainsAt n f s with regs := r } = { s with regs := r } := by
  induction n with
  | zero => rfl
  | succ n ih => rw [domainsAt_succ]; exact ih

theorem reg_domainsAt {n f o : Nat} (s : State) (h : ∀ d < n, o ≠ Reg.SAP_DOM d) : (domainsAt n f s).reg o = s.reg o := by
  induction n with
  | zero => rfl
  | succ n ih =>
    rw [domainsAt_succ, reg_put_ne _ _ _ (h n n.lt_succ_self), ih fun d hd => h d (by omega)]

theorem fld_domainsAt {n f d : Nat} (s : State) (hf : f < 2048) (h : d < n) : (domainsAt n f s).fld (F.SAP_DOM_MHZ d) = f := by
  induction n with
  | zero => omega
  | succ n ih =>
    rw [domainsAt_succ]
    obtain rfl | hne := eq_or_ne d n
    · exact fld_put_fits _ _ (by decide : 0 ≤ 11) (by decide : 11 < 32) (show f < 2 ^ 12 by omega)
    · rw [fld_put_reg, ih (by omega)]
      show 0x10100 + 0x4 * d ≠ 0x10100 + 0x4 * n
      omega

theorem setFreq_frame (f : Nat) (s : State) : { setFreq f s with regs := s.regs } = s :=
  domainsAt_frame 6 f (s.put F.SAP_CRNF_CUR f) s.regs

theorem domainsAt_mem (n f : Nat) (s : State) : (domainsAt n f s).mem = s.mem :=
  (congrArg State.mem (domainsAt_frame n f s s.regs) :)
@[simp] theorem setFreq_mem (f : Nat) (s : State) : (setFreq f s).mem = s.mem := by rw [setFreq_eq, domainsAt_mem]; rfl
theorem domainsAt_evq (n f : Nat) (s : State) : (domainsAt n f s).evq = s.evq :=
  (congrArg State.evq (domainsAt_frame n f s s.regs) :)
@[simp] theorem setFreq_evq (f : Nat) (s : State) : (setFreq f s).evq = s.evq := by rw [setFreq_eq, domainsAt_evq]; rfl
theorem domainsAt_sap (n f : Nat) (s : State) : (domainsAt n f s).sap = s.sap :=
  (congrArg State.sap (domainsAt_frame n f s s.regs) :)
@[simp] theorem setFreq_sap (f : Nat) (s : State) : (setFreq f s).sap = s.sap := by rw [setFreq_eq, domainsAt_sap]; rfl
theorem domainsAt_sched (n f : Nat) (s : State) : (domainsAt n f s).sched = s.sched :=
  (congrArg State.sched (domainsAt_frame n f s s.regs) :)
@[simp] theorem setFreq_sched (f : Nat) (s : State) : (setFreq f s).sched = s.sched := by rw [setFreq_eq, domainsAt_sched]; rfl

theorem fld_setFreq (f : Nat) (s : State) {g : RegField} (h : ¬ FreqReg g.reg) : (setFreq f s).fld g = s.fld g := by
  rw [setFreq_eq]
  unfold State.fld
  rw [reg_domainsAt _ fun d hd e => h (.inr ⟨d, hd, e⟩), reg_put_ne _ _ _ fun e => h (.inl e)]

theorem flag_setFreq (f : Nat) (s : State) {g : RegField} (h : ¬ FreqReg g.reg) : (setFreq f s).flag g = s.flag g := by
  unfold State.flag
  rw [fld_setFreq f s h]

/-- A register outside SAP_CRNF and the Crown domains. -/
theorem not_freqReg {o : Nat} (h0 : o ≠ 0x10010) (h1 : o < 0x10100 ∨ 0x10118 ≤ o) : ¬ FreqReg o := by
  rintro (rfl | ⟨d, hd, rfl⟩)
  · exact h0 rfl
  · unfold Reg.SAP_DOM at h1; omega

theorem crownFreq_lt (s : State) : crownFreq s < 2048 := fld_lt s F.SAP_CRNF_CUR

theorem crownFreq_setFreq {f : Nat} (hf : f < 2048) (s : State) : crownFreq (setFreq f s) = f := by
  unfold crownFreq
  rw [setFreq_eq]
  unfold State.fld
  rw [reg_domainsAt _ fun d hd => by unfold Reg.SAP_DOM F.SAP_CRNF_CUR; dsimp only; omega]
  exact fld_put_fits s F.SAP_CRNF_CUR (by decide) (by decide) hf

theorem domFreq_setFreq {f : Nat} (hf : f < 2048) (s : State) {d : Nat} (hd : d < 6) : (setFreq f s).fld (F.SAP_DOM_MHZ d) = f :=
  fld_domainsAt _ hf hd

/-- Whatever a loop chooses, it changes only the frequency registers and the note of who chose in this decision. -/
theorem chooseFreq_eq (thermal : Bool) (choice : Nat → Nat) (s : State) (hc : choice (crownFreq s) < 2048) :
    ∃ f < 2048, ∃ b, chooseFreq thermal choice s = setFreq f (s.setSap { s.sap with base := b }) := by
  have hlt := crownFreq_lt s
  unfold chooseFreq
  split
  · split
    · exact ⟨_, lt_of_le_of_lt (min_le_left _ _) hlt, _, rfl⟩
    · exact ⟨_, hc, _, rfl⟩
  · exact ⟨_, hc, _, rfl⟩

theorem chooseFreq_free (thermal : Bool) (choice : Nat → Nat) {s : State} (h : s.sap.base = none) :
    chooseFreq thermal choice s = setFreq (choice (crownFreq s)) (s.setSap { s.sap with base := some (thermal, crownFreq s) }) := by
  unfold chooseFreq
  rw [h]

theorem crownFreq_setSap (s : State) (x) : crownFreq (s.setSap x) = crownFreq s := rfl

section
variable (thermal : Bool) {choice : Nat → Nat} (s : State) (hc : choice (crownFreq s) < 2048)
include hc

theorem domFreq_chooseFreq {d : Nat} (hd : d < 6) :
    (chooseFreq thermal choice s).fld (F.SAP_DOM_MHZ d) = crownFreq (chooseFreq thermal choice s) := by
  obtain ⟨f, hf, b, he⟩ := chooseFreq_eq thermal choice s hc
  rw [he, domFreq_setFreq hf _ hd, crownFreq_setFreq hf]

theorem chooseFreq_mem : (chooseFreq thermal choice s).mem = s.mem := by
  obtain ⟨f, hf, b, he⟩ := chooseFreq_eq thermal choice s hc
  rw [he, setFreq_mem]; rfl

theorem chooseFreq_evq : (chooseFreq thermal choice s).evq = s.evq := by
  obtain ⟨f, hf, b, he⟩ := chooseFreq_eq thermal choice s hc
  rw [he, setFreq_evq]; rfl

theorem chooseFreq_sched : (chooseFreq thermal choice s).sched = s.sched := by
  obtain ⟨f, hf, b, he⟩ := chooseFreq_eq thermal choice s hc
  rw [he, setFreq_sched]; rfl

theorem chooseFreq_sap : { (chooseFreq thermal choice s).sap with base := s.sap.base } = s.sap := by
  obtain ⟨f, hf, b, he⟩ := chooseFreq_eq thermal choice s hc
  rw [he, setFreq_sap]; rfl

theorem fld_chooseFreq {g : RegField} (h : ¬ FreqReg g.reg) : (chooseFreq thermal choice s).fld g = s.fld g := by
  obtain ⟨f, hf, b, he⟩ := chooseFreq_eq thermal choice s hc
  rw [he, fld_setFreq _ _ h]; rfl

theorem flag_chooseFreq {g : RegField} (h : ¬ FreqReg g.reg) : (chooseFreq thermal choice s).flag g = s.flag g := by
  unfold State.flag
  rw [fld_chooseFreq thermal s hc h]

theorem crownFreq_chooseFreq (h : s.sap.base = none) : crownFreq (chooseFreq thermal choice s) = choice (crownFreq s) := by
  rw [chooseFreq_free thermal choice h, crownFreq_setFreq (hc)]

/-- R505: the first loop of a decision sets what it chooses, the second the lower of the two. -/
theorem chooseFreq_spec :
    (∀ f0, s.sap.base = some (!thermal, f0) →
      crownFreq (chooseFreq thermal choice s) = min (crownFreq s) (choice f0) ∧ (chooseFreq thermal choice s).sap.base = none)
    ∧ ((∀ f0, s.sap.base ≠ some (!thermal, f0)) → crownFreq (chooseFreq thermal choice s) = choice (crownFreq s)
      ∧ (chooseFreq thermal choice s).sap.base = some (thermal, crownFreq s)) := by
  have hlt := crownFreq_lt s
  refine ⟨fun f0 hb => ?_, fun hb => ?_⟩
  · have he : chooseFreq thermal choice s = setFreq (min (crownFreq s) (choice f0)) (s.setSap { s.sap with base := none }) := by
      unfold chooseFreq
      simp only [hb]
      exact if_pos (by cases thermal <;> decide)
    rw [he, crownFreq_setFreq (lt_of_le_of_lt (min_le_left _ _) hlt), setFreq_sap]
    exact ⟨rfl, rfl⟩
  · have he : chooseFreq thermal choice s =
        setFreq (choice (crownFreq s)) (s.setSap { s.sap with base := some (thermal, crownFreq s) }) := by
      unfold chooseFreq
      match h : s.sap.base with
      | none => rfl
      | some (who, f0) =>
        refine if_neg fun hne => hb f0 ?_
        rw [h]
        cases who <;> cases thermal <;> simp_all
    rw [he, crownFreq_setFreq (hc), setFreq_sap]
    exact ⟨rfl, rfl⟩

end

end Sys2Proof.Machine
end

section
/-! Sap's commands: supplies, voltage, the two loops of the cap, the throttle and the trip (R489 to R498). -/

namespace Sys2Proof.Machine

theorem powerPathSwitch_spec (mv bat : BitVec 13) (s : State) :
    ∃ t, exec (.powerPathSwitch mv bat) s = .next t ∧ { t with sap := s.sap } = s
      ∧ (bat.toNat + 50 < mv.toNat → t.sap = { s.sap with onMain := true })
      ∧ (mv.toNat + 50 < bat.toNat → t.sap = { s.sap with onMain := false })
      ∧ (mv.toNat ≤ bat.toNat + 50 → bat.toNat ≤ mv.toNat + 50 → t.sap = s.sap) := by
  refine ⟨_, rfl, rfl, fun h => ?_, fun h => ?_, fun h g => ?_⟩
  · rw [State.setSap_sap, if_pos h]
  · rw [State.setSap_sap, if_neg (by omega), if_pos h]
  · rw [State.setSap_sap, if_neg (by omega), if_neg (by omega)]

theorem retentionLoss_spec (mv : BitVec 13) (s : State) :
    exec (.retentionLoss mv) s = .next (if mv.toNat < 1700 ∧ s.sap.power = false then s.setSap { s.sap with lost := true } else s) := by
  rw [exec_retentionLoss]
  unfold execRetentionLoss
  congr 1
  exact if_congr (by simp) rfl rfl

theorem vbatLowDetect_spec (mv : BitVec 12) (s : State) :
    ∃ u, RegsOnly [Reg.SAP_VBAT] s u ∧ u.fld F.SAP_VBAT_MV = mv.toNat ∧ (u.flag F.SAP_VBAT_BATLOW = true ↔ mv.toNat < 2600)
      ∧ exec (.vbatLowDetect mv) s = .next (if mv.toNat < 2600 ∧ s.sap.lowTold = false
          then sapEvent 0xC009 1 mv.toNat 0 (u.setSap { u.sap with lowTold := true }) else u) := by
  refine ⟨(s.put F.SAP_VBAT_MV mv.toNat).put F.SAP_VBAT_BATLOW (ofBool (mv.toNat < 2600)), ⟨rfl, fun o ho => ?_⟩, ?_, ?_, ?_⟩
  · have hne : o ≠ Reg.SAP_VBAT := by simpa using ho
    rw [reg_put_ne _ _ _ hne, reg_put_ne _ _ _ hne]
  · rw [fld_put_apart _ _ _ _ (by decide) (by decide) (by decide)]
    exact fld_put_fits s _ (by decide) (by decide) mv.isLt
  · rw [flag_put_ofBool _ (by decide) (by decide), decide_eq_true_iff]
  · rw [exec_vbatLowDetect]
    unfold execVbatLowDetect
    exact congrArg _ (if_congr (by simp) rfl rfl)

/-- The voltage that a step sets: one step towards the guard band, within its bounds. -/
theorem voltageStep_spec (d : Fin 25) (slack : BitVec 16) (s : State) (had : adaptive d = true) (hlo : 1100 ≤ spGet 1700 s.sap.mv d)
    (hhi : spGet 1700 s.sap.mv d ≤ 1900) :
    ∃ v' u, exec (.voltageStep d slack) s = .next u ∧ u.fld (F.SAP_DOM_MV d) = v' / 2
      ∧ spGet 1700 u.sap.mv d = v' ∧ 1100 ≤ v' ∧ v' ≤ 1900
      ∧ RegsOnly [Reg.SAP_DOM d] { s with sap := { s.sap with mv := u.sap.mv } } u
      ∧ (∀ e : Fin 25, e ≠ d → spGet 1700 u.sap.mv e = spGet 1700 s.sap.mv e)
      ∧ (slack.toNat < s.fld F.SAP_VGUARD_GUARD → v' = min (spGet 1700 s.sap.mv d + 5) 1900)
      ∧ (s.fld F.SAP_VGUARD_GUARD + 20 < slack.toNat → v' = max (spGet 1700 s.sap.mv d - 5) 1100)
      ∧ (s.fld F.SAP_VGUARD_GUARD ≤ slack.toNat → slack.toNat ≤ s.fld F.SAP_VGUARD_GUARD + 20 → v' = spGet 1700 s.sap.mv d) := by
  generalize hg : s.fld F.SAP_VGUARD_GUARD = g
  generalize hv : spGet 1700 s.sap.mv d = v at hlo hhi ⊢
  obtain ⟨v', hv'⟩ : ∃ v', v' = if slack.toNat < g then min (v + 5) 1900 else if g + 20 < slack.toNat then max (v - 5) 1100 else v := ⟨_, rfl⟩
  have hbound : 1100 ≤ v' ∧ v' ≤ 1900 := by rw [hv']; grind
  refine ⟨v', (s.setSap { s.sap with mv := spSet 1700 d v' s.sap.mv }).put (F.SAP_DOM_MV d) (v' / 2), ?_, ?_, spGet_spSet_self _ _ _ _,
    hbound.1, hbound.2, ⟨rfl, fun o ho => ?_⟩, fun e he => ?_, fun h => ?_, fun h => ?_, fun h h' => ?_⟩
  · rw [exec_voltageStep]
    unfold execVoltageStep
    simp only [had, Bool.not_true, Bool.false_eq_true, if_false, hg, hv, hv']
  · exact fld_put_fits _ (F.SAP_DOM_MV d) (by decide : 12 ≤ 21) (by decide : 21 < 32) (show v' / 2 < 2 ^ 10 by omega)
  · have hne : o ≠ Reg.SAP_DOM d := by simpa using ho
    rw [reg_put_ne _ _ _ hne]; rfl
  · exact spGet_spSet_ne _ _ _ _ _ fun h => he (Fin.ext h)
  · rw [hv', if_pos h]
  · rw [hv', if_neg (by omega), if_pos h]
  · rw [hv', if_neg (by omega), if_neg (by omega)]

theorem voltageStep_fixed {d : Fin 25} (slack : BitVec 16) (s : State) (h : adaptive d = false) : exec (.voltageStep d slack) s = .next s := by
  rw [exec_voltageStep]
  unfold execVoltageStep
  simp [h]

theorem serdesAdaptation_spec (kind : Fin 3) (lane : BitVec 6) (s : State) :
    exec (.serdesAdaptation kind lane true) s = .next s
      ∧ exec (.serdesAdaptation kind lane false) s =
        .next (if (s.fld F.SAP_ADAPT_FREEZE).testBit kind.val = true then s else sapEvent 0xC008 1 kind.val lane.toNat s) := by
  refine ⟨rfl, ?_⟩
  rw [exec_serdesAdaptation]
  unfold execSerdesAdaptation
  congr 1

/-! ### The cap -/

theorem sapReg_dom {d : Nat} (hd : d < 6) : SapReg (F.SAP_DOM_MHZ d).reg := by
  show (0x10100 + 0x4 * d) / 0x10000 = 1
  omega

section
variable (s : State) {pw : BitVec 16}

theorem fld_pwr : (s.put F.SAP_PWR_PWR pw.toNat).fld F.SAP_PWR_PWR = pw.toNat := fld_put_fits s _ (by decide) (by decide) pw.isLt

end

/-- The cap loop without Strict mode, the throttle off and the first of its decision (R495). -/
theorem capLoop_spec {pw : Nat} {slack : Bool} {s : State} (hthrot : s.flag F.SAP_STAT_THROT = false) (hbase : s.sap.base = none) :
    let f := crownFreq s
    let above := 10 * s.fld F.SAP_CAP_CAPW < pw
    let t := capLoop pw slack s
    crownFreq t = max 500 (min (s.fld F.SAP_CRNF_FMAX) (capStep pw (s.fld F.SAP_CAP_CAPW) (s.fld F.SAP_CRNF_FMAX) slack f))
      ∧ (∀ d < 6, t.fld (F.SAP_DOM_MHZ d) = crownFreq t) ∧ (t.flag F.SAP_STAT_CAPFLOOR = true ↔ f = 500 ∧ above) ∧ t.mem = s.mem
      ∧ t.fld F.SAP_PWR_PWR = s.fld F.SAP_PWR_PWR
      ∧ (f = 500 → above → if s.flag F.SAP_STAT_CAPFLOOR = true then t.evq = s.evq else LastEvent t 0xC001 0x30)
      ∧ (f ≠ 500 ∨ ¬ above → t.evq = s.evq) := by
  intro f above t
  have hm : s.fld F.SAP_CRNF_FMAX < 2048 := fld_lt s F.SAP_CRNF_FMAX
  obtain ⟨choice, hch⟩ : ∃ choice : Nat → Nat, choice = fun f => if s.flag F.SAP_STAT_THROT then min f (capStep pw (s.fld F.SAP_CAP_CAPW) (s.fld F.SAP_CRNF_FMAX) slack f)
      else max 500 (min (s.fld F.SAP_CRNF_FMAX) (capStep pw (s.fld F.SAP_CAP_CAPW) (s.fld F.SAP_CRNF_FMAX) slack f)) := ⟨_, rfl⟩
  have hc : choice (crownFreq s) < 2048 := by
    rw [hch, hthrot]
    simp only [Bool.false_eq_true, if_false]
    omega
  obtain ⟨u, hu⟩ : ∃ u, u = (chooseFreq false choice s).put F.SAP_STAT_CAPFLOOR (ofBool (decide (f = 500) && decide above)) := ⟨_, rfl⟩
  have ht : t = if (decide (f = 500) && decide above) && !(s.flag F.SAP_STAT_CAPFLOOR) then sapEvent 0xC001 1 (s.fld F.SAP_CAP_CAPW) pw u else u := by
    rw [hu, hch]; rfl
  have hfu : crownFreq u = choice f := by
    rw [hu]
    unfold crownFreq
    rw [fld_put_reg _ _ _ _ (by decide)]
    exact crownFreq_chooseFreq false s hc hbase
  have hdu : ∀ d < 6, u.fld (F.SAP_DOM_MHZ d) = crownFreq u := by
    intro d hd
    rw [hu]
    unfold crownFreq
    rw [fld_put_reg _ _ (F.SAP_DOM_MHZ d) _ (by show 0x10100 + 0x4 * d ≠ 0x10004; omega), fld_put_reg _ _ F.SAP_CRNF_CUR _ (by decide)]
    exact domFreq_chooseFreq false s hc hd
  have hflag : u.flag F.SAP_STAT_CAPFLOOR = (decide (f = 500) && decide above) := by rw [hu, flag_put_ofBool _ (by decide) (by decide)]
  have hev : u.evq = s.evq := by rw [hu]; exact chooseFreq_evq false s hc
  have hmem : u.mem = s.mem := by rw [hu]; exact chooseFreq_mem false s hc
  have hpwr : u.fld F.SAP_PWR_PWR = s.fld F.SAP_PWR_PWR := by
    rw [hu, fld_put_reg _ _ _ _ (by decide)]
    exact fld_chooseFreq false s hc (not_freqReg (by decide) (by decide))
  have hval : choice f = max 500 (min (s.fld F.SAP_CRNF_FMAX) (capStep pw (s.fld F.SAP_CAP_CAPW) (s.fld F.SAP_CRNF_FMAX) slack f)) := by
    rw [hch, hthrot]; rfl
  by_cases hfire : ((decide (f = 500) && decide above) && !(s.flag F.SAP_STAT_CAPFLOOR)) = true
  · rw [if_pos hfire] at ht
    rw [ht]
    refine ⟨by rw [crownFreq_sapEvent, hfu, hval], fun d hd => ?_, ?_, by rw [sapEvent_mem, hmem], by rw [fld_sapEvent _ _ _ _ (f := F.SAP_PWR_PWR) rfl, hpwr],
      fun _ _ => ?_, fun h => ?_⟩
    · rw [crownFreq_sapEvent, fld_sapEvent _ _ _ _ (sapReg_dom hd), hdu d hd]
    · rw [flag_sapEvent _ _ _ _ (f := F.SAP_STAT_CAPFLOOR) rfl, hflag]; simp
    · have hno : ¬ s.flag F.SAP_STAT_CAPFLOOR = true := by simp at hfire; simp [hfire]
      rw [if_neg hno]
      exact lastEvent_sapEvent _ _ _ _
    · simp only [Bool.and_eq_true, decide_eq_true_eq] at hfire
      obtain ⟨⟨h5, ho⟩, -⟩ := hfire
      exact absurd h (by simp [h5, ho])
  · rw [if_neg hfire] at ht
    rw [ht]
    refine ⟨by rw [hfu, hval], hdu, by rw [hflag]; simp, hmem, hpwr, fun h5 ho => ?_, fun _ => hev⟩
    have hyes : s.flag F.SAP_STAT_CAPFLOOR = true := by simpa [h5, ho] using hfire
    rw [if_pos hyes]
    exact hev

theorem capDecision_spec {pw : BitVec 16} {slack : Bool} {s : State} (hstrict : s.flag F.SYS_STRICT_STRICT = false)
    (hthrot : s.flag F.SAP_STAT_THROT = false) (hbase : s.sap.base = none) :
    ∃ t, exec (.capDecision pw slack) s = .next t ∧ t.fld F.SAP_PWR_PWR = pw.toNat
      ∧ crownFreq t = max 500 (min (s.fld F.SAP_CRNF_FMAX) (capStep pw.toNat (s.fld F.SAP_CAP_CAPW) (s.fld F.SAP_CRNF_FMAX) slack (crownFreq s)))
      ∧ (∀ d < 6, t.fld (F.SAP_DOM_MHZ d) = crownFreq t)
      ∧ (t.flag F.SAP_STAT_CAPFLOOR = true ↔ crownFreq s = 500 ∧ 10 * s.fld F.SAP_CAP_CAPW < pw.toNat) ∧ t.mem = s.mem
      ∧ (crownFreq s = 500 → 10 * s.fld F.SAP_CAP_CAPW < pw.toNat →
          if s.flag F.SAP_STAT_CAPFLOOR = true then t.evq = s.evq else LastEvent t 0xC001 0x30)
      ∧ ((crownFreq s ≠ 500 ∨ pw.toNat ≤ 10 * s.fld F.SAP_CAP_CAPW) → t.evq = s.evq) := by
  obtain ⟨u, hu⟩ : ∃ u, u = s.put F.SAP_PWR_PWR pw.toNat := ⟨_, rfl⟩
  have hf : ∀ f, f.reg ≠ 0x1000C → u.fld f = s.fld f := fun f h => by rw [hu, fld_put_reg _ _ _ _ h]
  have hb : ∀ f, f.reg ≠ 0x1000C → u.flag f = s.flag f := fun f h => by rw [hu, flag_put_reg _ _ _ _ h]
  obtain ⟨h1, h2, h3, h4, h5, h6, h7⟩ := capLoop_spec (pw := pw.toNat) (slack := slack) (s := u) (by rw [hb _ (by decide), hthrot])
    (by rw [hu]; exact hbase)
  have hfreq : crownFreq u = crownFreq s := hf _ (by decide)
  rw [hf F.SAP_CAP_CAPW (by decide), hf F.SAP_CRNF_FMAX (by decide), hfreq] at h1
  rw [hf F.SAP_CAP_CAPW (by decide), hfreq] at h3 h6 h7
  rw [hb F.SAP_STAT_CAPFLOOR (by decide)] at h6
  have hev : u.evq = s.evq := by rw [hu]; rfl
  have hmem : u.mem = s.mem := by rw [hu]; rfl
  rw [hev] at h6 h7
  refine ⟨capLoop pw.toNat slack u, ?_, ?_, h1, h2, h3, h4.trans hmem, h6, fun h => h7 (h.imp id Nat.not_lt.mpr)⟩
  · rw [exec_capDecision]
    unfold execCapDecision
    rw [← hu]
    dsimp only
    rw [hb _ (by decide), hstrict]
    rfl
  · rw [h5, hu]
    exact fld_pwr s

/-- What CAP_DECISION notes under Strict mode before the frequency is set (R496). -/
def capNoted (pw : Nat) (s : State) : State :=
  let due := decide (10 * s.sap.cap < pw) && (s.sap.since = 0 || 100000 ≤ s.sap.since)
  let u := s.setSap { s.sap with
    excess := if 11 * s.sap.cap < pw then s.sap.excess + 1 else 0
    since := if 10 * s.sap.cap < pw then (if due then 1 else s.sap.since + 1) else 0 }
  if due then sapEvent 0xC002 1 s.sap.cap pw u else u

theorem eventStep_capNoted (pw : Nat) (s : State) : EventStep (s.setSap (capNoted pw s).sap) (capNoted pw s) := by
  unfold capNoted
  dsimp only
  split
  · rw [sapEvent_sap]; exact eventStep_sapEvent _ _ _ _
  · exact .refl _

theorem capNoted_sap (pw : Nat) (s : State) :
    (capNoted pw s).sap.excess = (if 11 * s.sap.cap < pw then s.sap.excess + 1 else 0) ∧ (capNoted pw s).sap.base = s.sap.base
      ∧ (capNoted pw s).sap.since = (if 10 * s.sap.cap < pw then if s.sap.since = 0 ∨ 100000 ≤ s.sap.since then 1 else s.sap.since + 1 else 0) := by
  unfold capNoted
  dsimp only
  split
  all_goals
    simp only [sapEvent_sap, State.setSap_sap, true_and]
    grind

theorem capNoted_events (pw : Nat) (s : State) :
    (pw ≤ 10 * s.sap.cap → (capNoted pw s).evq = s.evq)
      ∧ (10 * s.sap.cap < pw → s.sap.since = 0 ∨ 100000 ≤ s.sap.since → LastEvent (capNoted pw s) 0xC002 0x30)
      ∧ (0 < s.sap.since → s.sap.since < 100000 → (capNoted pw s).evq = s.evq) := by
  unfold capNoted
  dsimp only
  split
  · rename_i h
    simp only [Bool.and_eq_true, Bool.or_eq_true, decide_eq_true_eq] at h
    exact ⟨fun _ => by omega, fun _ _ => lastEvent_sapEvent _ _ _ _, fun _ _ => by omega⟩
  · rename_i h
    simp only [Bool.and_eq_true, Bool.or_eq_true, decide_eq_true_eq] at h
    exact ⟨fun _ => rfl, fun h1 h2 => absurd ⟨h1, h2⟩ h, fun _ _ => rfl⟩

theorem capStrict_eq (pw : Nat) (s : State) :
    capStrict pw s =
      if 1000 ≤ (capNoted pw s).sap.excess then
        if (capNoted pw s).sap.excess = 1000 then strictVoid (chooseFreq false (fun f => max (f - 50) 500) (capNoted pw s))
        else chooseFreq false (fun f => max (f - 50) 500) (capNoted pw s)
      else if (capNoted pw s).flag F.SAP_STAT_THROT then capNoted pw s
      else setFreq 1500 (capNoted pw s) := by
  rw [(capNoted_sap pw s).1]
  rfl

theorem strictVoid_spec (s : State) : EventStep (s.put F.SAP_STAT_STRICTVOID 1) (strictVoid s) ∧ LastEvent (strictVoid s) 0xC003 0x30 :=
  ⟨eventStep_sapEvent _ _ _ _, lastEvent_sapEvent _ _ _ _⟩

/-- One step down of a loop keeps the frequency in its field. -/
theorem lowered_lt (s : State) : max (crownFreq s - 50) 500 < 2048 := by
  have := crownFreq_lt s
  omega

theorem capStrict_low {pw : Nat} {s : State} (h : pw ≤ 11 * s.sap.cap) :
    capStrict pw s = if s.flag F.SAP_STAT_THROT then capNoted pw s else setFreq 1500 (capNoted pw s) := by
  have hx : (capNoted pw s).sap.excess = 0 := by rw [(capNoted_sap pw s).1, if_neg (by omega)]
  have hf : (capNoted pw s).flag F.SAP_STAT_THROT = s.flag F.SAP_STAT_THROT :=
    (eventStep_capNoted pw s).sapFlag F.SAP_STAT_THROT rfl
  rw [capStrict_eq, hx, hf]
  rfl

/-- The excess counter never changes with the frequency. -/
theorem capStrict_frame (pw : Nat) (s : State) :
    { (capStrict pw s).sap with base := s.sap.base } = { (capNoted pw s).sap with base := s.sap.base } ∧ (capStrict pw s).mem = s.mem
      ∧ (capStrict pw s).fld F.SAP_PWR_PWR = s.fld F.SAP_PWR_PWR := by
  have hc := lowered_lt (capNoted pw s)
  have hbase := (capNoted_sap pw s).2.1
  have hsap : ∀ u : State, u.sap = (chooseFreq false (fun f => max (f - 50) 500) (capNoted pw s)).sap →
      { u.sap with base := s.sap.base } = { (capNoted pw s).sap with base := s.sap.base } := by
    intro u hu
    rw [hu, ← hbase]
    exact chooseFreq_sap false _ hc
  have hmem : (capNoted pw s).mem = s.mem := (eventStep_capNoted pw s).mem
  have hfld : (capNoted pw s).fld F.SAP_PWR_PWR = s.fld F.SAP_PWR_PWR := (eventStep_capNoted pw s).sapFld F.SAP_PWR_PWR rfl
  have hfld' := (fld_chooseFreq false (choice := fun f => max (f - 50) 500) (capNoted pw s) hc (g := F.SAP_PWR_PWR) (not_freqReg (by decide) (by decide))).trans hfld
  have hmem' := (chooseFreq_mem false (choice := fun f => max (f - 50) 500) (capNoted pw s) hc).trans hmem
  have hv := strictVoid_spec (chooseFreq false (fun f => max (f - 50) 500) (capNoted pw s))
  rw [capStrict_eq]
  split
  · split
    · refine ⟨hsap _ hv.1.sap, hv.1.mem.trans hmem', ?_⟩
      rw [hv.1.sapFld F.SAP_PWR_PWR rfl, fld_put_reg _ _ _ _ (by decide), hfld']
    · exact ⟨hsap _ rfl, hmem', hfld'⟩
  · split
    · exact ⟨rfl, hmem, hfld⟩
    · refine ⟨by rw [setFreq_sap], by rw [setFreq_mem, hmem], ?_⟩
      rw [fld_setFreq _ _ (not_freqReg (by decide) (by decide)), hfld]

theorem capStrict_high {pw : Nat} {s : State} (h : 11 * s.sap.cap < pw) (h9 : 999 ≤ s.sap.excess) :
    (s.sap.base = none → crownFreq (capStrict pw s) = max (crownFreq s - 50) 500)
      ∧ (s.sap.excess = 999 → (capStrict pw s).flag F.SAP_STAT_STRICTVOID = true ∧ LastEvent (capStrict pw s) 0xC003 0x30) := by
  have hx : (capNoted pw s).sap.excess = s.sap.excess + 1 := by rw [(capNoted_sap pw s).1, if_pos h]
  have hc := lowered_lt (capNoted pw s)
  have hfreq : s.sap.base = none → crownFreq (chooseFreq false (fun f => max (f - 50) 500) (capNoted pw s)) = max (crownFreq s - 50) 500 := by
    intro hb
    rw [crownFreq_chooseFreq false _ hc ((capNoted_sap pw s).2.1.trans hb)]
    have he : crownFreq (capNoted pw s) = crownFreq s := (eventStep_capNoted pw s).sapFld F.SAP_CRNF_CUR rfl
    rw [he]
  have hv := strictVoid_spec (chooseFreq false (fun f => max (f - 50) 500) (capNoted pw s))
  rw [capStrict_eq, if_pos (by omega)]
  split
  · refine ⟨fun hb => ?_, fun _ => ⟨?_, hv.2⟩⟩
    · rw [← hfreq hb]
      unfold crownFreq
      rw [hv.1.sapFld F.SAP_CRNF_CUR rfl, fld_put_reg _ _ _ _ (by decide)]
    · rw [hv.1.sapFlag F.SAP_STAT_STRICTVOID rfl, flag_put_one _ (by decide) (by decide)]
  · exact ⟨hfreq, fun _ => by omega⟩

/-- The event queue of a decision that reaches no 10 ms of excess is that of its note. -/
theorem capStrict_evq {pw : Nat} {s : State} (h : pw ≤ 11 * s.sap.cap) : (capStrict pw s).evq = (capNoted pw s).evq := by
  rw [capStrict_low h]
  split
  · rfl
  · rw [setFreq_evq]

theorem capDecision_strict {pw : BitVec 16} {slack : Bool} {s : State} (hstrict : s.flag F.SYS_STRICT_STRICT = true) :
    ∃ t, exec (.capDecision pw slack) s = .next t ∧ t.fld F.SAP_PWR_PWR = pw.toNat ∧ t.mem = s.mem
        ∧ (pw.toNat ≤ 11 * s.sap.cap → t.sap.excess = 0
          ∧ (s.flag F.SAP_STAT_THROT = false → crownFreq t = 1500 ∧ ∀ d < 6, t.fld (F.SAP_DOM_MHZ d) = 1500))
        ∧ (pw.toNat ≤ 10 * s.sap.cap → t.sap.since = 0 ∧ t.evq = s.evq)
        ∧ (10 * s.sap.cap < pw.toNat → pw.toNat ≤ 11 * s.sap.cap →
          (s.sap.since = 0 ∨ 100000 ≤ s.sap.since → LastEvent t 0xC002 0x30 ∧ t.sap.since = 1)
          ∧ (0 < s.sap.since → s.sap.since < 100000 → t.evq = s.evq ∧ t.sap.since = s.sap.since + 1))
        ∧ (11 * s.sap.cap < pw.toNat → t.sap.excess = s.sap.excess + 1
          ∧ (999 ≤ s.sap.excess → s.sap.base = none → crownFreq t = max (crownFreq s - 50) 500)
          ∧ (s.sap.excess = 999 → t.flag F.SAP_STAT_STRICTVOID = true ∧ LastEvent t 0xC003 0x30)) := by
  obtain ⟨u, hu⟩ : ∃ u, u = s.put F.SAP_PWR_PWR pw.toNat := ⟨_, rfl⟩
  have hsap : u.sap = s.sap := by rw [hu]; rfl
  have hev : u.evq = s.evq := by rw [hu]; rfl
  have hmem : u.mem = s.mem := by rw [hu]; rfl
  have hthrot : u.flag F.SAP_STAT_THROT = s.flag F.SAP_STAT_THROT := by rw [hu, flag_put_reg _ _ _ _ (by decide)]
  have hfreq : crownFreq u = crownFreq s := by rw [hu]; exact fld_put_reg _ _ _ _ (by decide)
  obtain ⟨hsap', hmem', hpwr⟩ := capStrict_frame pw.toNat u
  have hexcess : (capStrict pw.toNat u).sap.excess = (capNoted pw.toNat u).sap.excess := (congrArg Sap.excess hsap' :)
  have hsince : (capStrict pw.toNat u).sap.since = (capNoted pw.toNat u).sap.since := (congrArg Sap.since hsap' :)
  obtain ⟨hx, -, hs⟩ := capNoted_sap pw.toNat u
  obtain ⟨he1, he2, he3⟩ := capNoted_events pw.toNat u
  rw [hsap] at hx hs he1 he2 he3
  rw [hev] at he1 he3
  rw [hx] at hexcess
  rw [hs] at hsince
  have hlow := capStrict_low (pw := pw.toNat) (s := u)
  have hevq := capStrict_evq (pw := pw.toNat) (s := u)
  have hhigh := capStrict_high (pw := pw.toNat) (s := u)
  rw [hsap] at hlow hevq hhigh
  rw [hfreq] at hhigh
  have hexec : exec (.capDecision pw slack) s = .next (capStrict pw.toNat u) := by
    rw [exec_capDecision]
    unfold execCapDecision
    rw [← hu]
    dsimp only
    rw [show u.flag F.SYS_STRICT_STRICT = true by rw [hu, flag_put_reg _ _ _ _ (by decide), hstrict]]
    rfl
  refine ⟨_, hexec, hpwr.trans (by rw [hu]; exact fld_pwr s), hmem'.trans hmem, fun h => ⟨by rw [hexcess, if_neg (by omega)], fun ht => ?_⟩,
    fun h => ⟨by rw [hsince, if_neg (by omega)], (hevq (by omega)).trans (he1 h)⟩,
    fun h h' => ⟨fun hd => ⟨?_, by rw [hsince, if_pos h, if_pos hd]⟩,
      fun h0 h1 => ⟨(hevq h').trans (he3 h0 h1), by rw [hsince, if_pos h, if_neg (by omega)]⟩⟩,
    fun h => ⟨by rw [hexcess, if_pos h], fun h9 => (hhigh h h9).1, fun h9 => (hhigh h h9.ge).2 h9⟩⟩
  · rw [hlow h, hthrot, ht]
    exact ⟨crownFreq_setFreq (by decide) _, fun d hd => domFreq_setFreq (by decide) _ hd⟩
  · obtain ⟨e, h1, h2⟩ := he2 h hd
    exact ⟨e, by rw [hevq h']; exact h1, h2⟩

end Sys2Proof.Machine
end

section
/-! The throttle and the trip (R497). -/

namespace Sys2Proof.Machine

/-- Does a reading throttle? -/
def throttles (tj : Nat) (s : State) : Bool :=
  decide (s.fld F.SAP_THERM_THROT ≤ tj) || (s.flag F.SAP_STAT_THROT && decide (s.fld F.SAP_THERM_THROT < tj + 5))

/-- The readings are noted. -/
def thermalTemps (tj thbm : Nat) (s : State) : State := (s.put F.SAP_TEMP_TJ tj).put F.SAP_TEMP_THBM thbm

/-- The readings and the throttle's state are noted. -/
def thermalRead (tj thbm : Nat) (s : State) : State :=
  (thermalTemps tj thbm s).put F.SAP_STAT_THROT (ofBool (throttles tj (thermalTemps tj thbm s)))

/-- The frequency follows the throttle: `now` is its state, `was` that before. -/
def thermalFreq (now was : Bool) (u : State) : State :=
  if now then chooseFreq true (fun f => max (f - 50) 500) u
  else if was && u.flag F.SYS_STRICT_STRICT && u.sap.excess < 1000 then setFreq 1500 u else u

/-- The event of a throttle that sets in. -/
def thermalNote (tj : Nat) (now was : Bool) (u : State) : State :=
  if now && !was then sapEvent 0xC004 1 tj (crownFreq u) u else u

/-- Its events, the second under Strict mode. -/
def thermalTold (tj : Nat) (now was : Bool) (u : State) : State :=
  if now && !was && (thermalNote tj now was u).flag F.SYS_STRICT_STRICT then strictVoid (thermalNote tj now was u) else thermalNote tj now was u

/-- The units are cool again. -/
def thermalCool (tj : Nat) (u : State) : State :=
  if tj + 20 < u.fld F.SAP_THERM_TRIP then u.setSched { u.sched with hot := [] } else u

section
variable (tj thbm : BitVec 8) (s : State)

theorem thermalRead_frame : { thermalRead tj.toNat thbm.toNat s with regs := s.regs } = s := by
  unfold thermalRead thermalTemps
  rw [put_frame, put_frame, put_frame]

theorem thermalRead_fld {f : RegField} (h : f.reg ≠ 0x10014) (h' : f.reg ≠ 0x10004) : (thermalRead tj.toNat thbm.toNat s).fld f = s.fld f := by
  unfold thermalRead thermalTemps
  rw [fld_put_reg _ _ _ _ h', fld_put_reg _ _ _ _ h, fld_put_reg _ _ _ _ h]

theorem thermalRead_flag {f : RegField} (h : f.reg ≠ 0x10014) (h' : f.reg ≠ 0x10004) : (thermalRead tj.toNat thbm.toNat s).flag f = s.flag f := by
  unfold State.flag
  rw [thermalRead_fld tj thbm s h h']

theorem thermalRead_temps : (thermalRead tj.toNat thbm.toNat s).fld F.SAP_TEMP_TJ = tj.toNat
    ∧ (thermalRead tj.toNat thbm.toNat s).fld F.SAP_TEMP_THBM = thbm.toNat := by
  unfold thermalRead thermalTemps
  constructor
  · rw [fld_put_reg _ _ _ _ (by decide), fld_put_apart _ _ _ _ (by decide) (by decide) (by decide)]
    exact fld_put_fits s _ (by decide) (by decide) tj.isLt
  · rw [fld_put_reg _ _ _ _ (by decide)]
    exact fld_put_fits _ _ (by decide) (by decide) thbm.isLt

theorem thermalTemps_fld {f : RegField} (h : f.reg ≠ 0x10014) : (thermalTemps tj.toNat thbm.toNat s).fld f = s.fld f := by
  unfold thermalTemps
  rw [fld_put_reg _ _ _ _ h, fld_put_reg _ _ _ _ h]

theorem throttles_temps : throttles tj.toNat (thermalTemps tj.toNat thbm.toNat s) = throttles tj.toNat s := by
  unfold throttles State.flag
  rw [thermalTemps_fld _ _ _ (by decide), thermalTemps_fld _ _ _ (by decide)]

theorem thermalRead_throt : (thermalRead tj.toNat thbm.toNat s).flag F.SAP_STAT_THROT = throttles tj.toNat s := by
  unfold thermalRead
  rw [flag_put_ofBool _ (by decide) (by decide), throttles_temps]

end

section
variable (now was : Bool) (u : State)

theorem thermalFreq_fld {g : RegField} (h : ¬ FreqReg g.reg) : (thermalFreq now was u).fld g = u.fld g := by
  unfold thermalFreq
  split
  · exact fld_chooseFreq true u (choice := fun f => max (f - 50) 500) (lowered_lt u) h
  · split
    · exact fld_setFreq _ _ h
    · rfl

theorem thermalFreq_flag {g : RegField} (h : ¬ FreqReg g.reg) : (thermalFreq now was u).flag g = u.flag g := by
  unfold State.flag
  rw [thermalFreq_fld now was u h]

theorem thermalFreq_frame :
    (thermalFreq now was u).mem = u.mem ∧ (thermalFreq now was u).evq = u.evq ∧ (thermalFreq now was u).sched = u.sched := by
  have hc := lowered_lt u
  unfold thermalFreq
  split
  · exact ⟨chooseFreq_mem true u hc, chooseFreq_evq true u hc, chooseFreq_sched true u hc⟩
  · split
    · exact ⟨setFreq_mem _ _, setFreq_evq _ _, setFreq_sched _ _⟩
    · exact ⟨rfl, rfl, rfl⟩

theorem thermalFreq_throttled (hb : u.sap.base = none) : crownFreq (thermalFreq true was u) = max (crownFreq u - 50) 500 :=
  crownFreq_chooseFreq true u (choice := fun f => max (f - 50) 500) (lowered_lt u) hb

theorem thermalFreq_kept (hw : was = false ∨ u.flag F.SYS_STRICT_STRICT = false) : crownFreq (thermalFreq false was u) = crownFreq u := by
  unfold thermalFreq
  rw [if_neg Bool.false_ne_true, if_neg]
  rcases hw with hw | hw <;> simp [hw]

variable (tj : Nat)

theorem eventStep_thermalNote : EventStep u (thermalNote tj now was u) := by
  unfold thermalNote
  split
  · exact eventStep_sapEvent _ _ _ _
  · exact .refl _

theorem thermalTold_fld {g : RegField} (h : SapReg g.reg) (hs : g.reg ≠ 0x10004 ∨ 3 < g.lo) : (thermalTold tj now was u).fld g = u.fld g := by
  have he := eventStep_thermalNote now was u tj
  unfold thermalTold
  split
  · rw [(strictVoid_spec _).1.sapFld g h]
    rcases hs with hs | hs
    · rw [fld_put_reg _ _ _ _ hs, he.sapFld g h]
    · rw [fld_put_apart _ _ _ _ (by decide) (by decide) (.inr hs), he.sapFld g h]
  · exact he.sapFld g h

theorem thermalTold_flag {g : RegField} (h : SapReg g.reg) (hs : g.reg ≠ 0x10004 ∨ 3 < g.lo) : (thermalTold tj now was u).flag g = u.flag g := by
  unfold State.flag
  rw [thermalTold_fld now was u tj h hs]

theorem thermalTold_frame : (thermalTold tj now was u).mem = u.mem ∧ (thermalTold tj now was u).sched = u.sched := by
  have he := eventStep_thermalNote now was u tj
  have hv := (strictVoid_spec (thermalNote tj now was u)).1
  unfold thermalTold
  split
  · exact ⟨hv.mem.trans he.mem, hv.sched.trans he.sched⟩
  · exact ⟨he.mem, he.sched⟩

theorem thermalTold_last : LastEvent (thermalTold tj true false u) (if u.flag F.SYS_STRICT_STRICT = true then 0xC003 else 0xC004) 0x30 := by
  have hs : (thermalNote tj true false u).flag F.SYS_STRICT_STRICT = u.flag F.SYS_STRICT_STRICT :=
    (eventStep_thermalNote true false u tj).flag (by unfold EvReg F.SYS_STRICT_STRICT; dsimp only; omega)
  unfold thermalTold
  rw [hs]
  cases u.flag F.SYS_STRICT_STRICT
  · simp only [Bool.and_false, Bool.false_eq_true, if_false]
    unfold thermalNote
    simp only [Bool.not_false, Bool.and_self, if_true]
    exact lastEvent_sapEvent 0xC004 tj (crownFreq u) u
  · simp only [Bool.not_false, Bool.and_self, if_true]
    exact (strictVoid_spec (thermalNote tj true false u)).2

theorem thermalTold_silent : thermalTold tj false was u = u := rfl

end

/-- The reading's effect before the trip is judged. -/
def thermalState (tj thbm : Nat) (now was : Bool) (s : State) : State :=
  thermalCool tj (thermalTold tj now was (thermalFreq now was (thermalRead tj thbm s)))

/-- What a reading does, stage by stage. -/
theorem thermalSample_stages (tj thbm : BitVec 8) (s p : State) (hp : p = thermalTemps tj.toNat thbm.toNat s) :
    execThermalSample tj thbm s =
      .next (if (thermalState tj.toNat thbm.toNat (throttles tj.toNat p) (p.flag F.SAP_STAT_THROT) s).fld F.SAP_THERM_TRIP ≤ tj.toNat
        then thermalTrip tj.toNat (thermalState tj.toNat thbm.toNat (throttles tj.toNat p) (p.flag F.SAP_STAT_THROT) s)
        else thermalState tj.toNat thbm.toNat (throttles tj.toNat p) (p.flag F.SAP_STAT_THROT) s) := by
  unfold execThermalSample thermalState thermalRead
  rw [← hp]
  unfold thermalTemps at hp
  simp only [← hp]
  rfl

theorem thermalSample_spec (tj thbm : BitVec 8) (s : State) : let was := s.flag F.SAP_STAT_THROT
    let thr := s.fld F.SAP_THERM_THROT
    let trip := s.fld F.SAP_THERM_TRIP
    ∃ u, exec (.thermalSample tj thbm) s = .next (if trip ≤ tj.toNat then thermalTrip tj.toNat u else u) ∧ u.fld F.SAP_TEMP_TJ = tj.toNat ∧ u.fld F.SAP_TEMP_THBM = thbm.toNat
        ∧ u.mem = s.mem ∧ (u.flag F.SAP_STAT_THROT = true ↔ thr ≤ tj.toNat ∨ (was = true ∧ thr < tj.toNat + 5))
        ∧ (u.flag F.SAP_STAT_THROT = true → s.sap.base = none → crownFreq u = max (crownFreq s - 50) 500)
        ∧ (u.flag F.SAP_STAT_THROT = true → was = false → LastEvent u (if s.flag F.SYS_STRICT_STRICT = true then 0xC003 else 0xC004) 0x30)
        ∧ (u.flag F.SAP_STAT_THROT = false → u.evq = s.evq ∧ (was = false ∨ s.flag F.SYS_STRICT_STRICT = false → crownFreq u = crownFreq s))
        ∧ (tj.toNat + 20 < trip → u.sched.hot = []) ∧ (trip ≤ tj.toNat + 20 → u.sched = s.sched) := by
  intro was thr trip
  obtain ⟨a, ha⟩ : ∃ a, a = thermalRead tj.toNat thbm.toNat s := ⟨_, rfl⟩
  obtain ⟨b, hb⟩ : ∃ b, b = thermalFreq (throttles tj.toNat s) was a := ⟨_, rfl⟩
  obtain ⟨c, hc⟩ : ∃ c, c = thermalTold tj.toNat (throttles tj.toNat s) was b := ⟨_, rfl⟩
  have hframe := thermalRead_frame tj thbm s
  rw [← ha] at hframe
  have hread {f : RegField} (h : f.reg ≠ 0x10014) (h' : f.reg ≠ 0x10004) : a.fld f = s.fld f := by
    rw [ha]; exact thermalRead_fld tj thbm s h h'
  have hstrict : b.flag F.SYS_STRICT_STRICT = s.flag F.SYS_STRICT_STRICT := by
    rw [hb, thermalFreq_flag _ was a (not_freqReg (by decide) (by decide)), ha]
    exact thermalRead_flag tj thbm s (by decide) (by decide)
  have hthrot : c.flag F.SAP_STAT_THROT = throttles tj.toNat s := by
    rw [hc, thermalTold_flag _ was b _ (g := F.SAP_STAT_THROT) rfl (.inr (by decide)), hb, thermalFreq_flag _ was a (not_freqReg (by decide) (by decide)), ha,
      thermalRead_throt]
  have hfld {f : RegField} (h : SapReg f.reg) (hs : f.reg ≠ 0x10004 ∨ 3 < f.lo) (hf : ¬ FreqReg f.reg) : c.fld f = a.fld f := by
    rw [hc, thermalTold_fld _ was b _ h hs, hb, thermalFreq_fld _ was a hf]
  have hfreq : crownFreq c = crownFreq b := by
    rw [hc]; exact thermalTold_fld _ was b _ (g := F.SAP_CRNF_CUR) rfl (.inl (by decide))
  have hfreqa : crownFreq a = crownFreq s := hread (f := F.SAP_CRNF_CUR) (by decide) (by decide)
  have htrip : c.fld F.SAP_THERM_TRIP = trip :=
    (hfld (f := F.SAP_THERM_TRIP) rfl (.inl (by decide)) (not_freqReg (by decide) (by decide))).trans (hread (by decide) (by decide))
  obtain ⟨hbm, hbe, hbs⟩ := thermalFreq_frame (throttles tj.toNat s) was a
  obtain ⟨hcm, hcs⟩ := thermalTold_frame (throttles tj.toNat s) was b tj.toNat
  rw [← hb] at hbm hbe hbs
  rw [← hc] at hcm hcs
  have hmem : c.mem = s.mem := hcm.trans (hbm.trans (congrArg State.mem hframe :))
  have hsched : c.sched = s.sched := hcs.trans (hbs.trans (congrArg State.sched hframe :))
  have hu : thermalCool tj.toNat c = if tj.toNat + 20 < trip then c.setSched { c.sched with hot := [] } else c := by
    unfold thermalCool; rw [htrip]
  have hregs : ∀ f, (thermalCool tj.toNat c).fld f = c.fld f := by
    intro f; rw [hu]; split <;> rfl
  have hevq : (thermalCool tj.toNat c).evq = c.evq := by rw [hu]; split <;> rfl
  have hflags : ∀ f, (thermalCool tj.toNat c).flag f = c.flag f := fun f => by unfold State.flag; rw [hregs]
  have hcf : crownFreq (thermalCool tj.toNat c) = crownFreq c := hregs _
  refine ⟨thermalCool tj.toNat c, ?_, ?_, ?_, ?_, ?_, fun h hbase => ?_, fun h hw => ?_, fun h => ⟨?_, fun hw => ?_⟩, fun h => ?_, fun h => ?_⟩
  · rw [← htrip, ← hregs F.SAP_THERM_TRIP, hc, hb, ha, exec_thermalSample, thermalSample_stages tj thbm s _ rfl, throttles_temps]
    unfold State.flag
    rw [thermalTemps_fld tj thbm s (by decide)]
    rfl
  · rw [hregs, hfld (f := F.SAP_TEMP_TJ) rfl (.inl (by decide)) (not_freqReg (by decide) (by decide)), ha]
    exact (thermalRead_temps tj thbm s).1
  · rw [hregs, hfld (f := F.SAP_TEMP_THBM) rfl (.inl (by decide)) (not_freqReg (by decide) (by decide)), ha]
    exact (thermalRead_temps tj thbm s).2
  · rw [hu]
    split <;> exact hmem
  · rw [hflags, hthrot]
    simp [throttles, was, thr]
  · rw [hflags, hthrot] at h
    rw [hcf, hfreq, hb, ← hfreqa, h]
    exact thermalFreq_throttled was a ((congrArg (fun t => t.sap.base) hframe :).trans hbase)
  · rw [hflags, hthrot] at h
    have hl := thermalTold_last b tj.toNat
    rw [h, hw] at hc
    rw [hstrict, ← hc] at hl
    unfold LastEvent
    rw [hevq]
    exact hl
  · rw [hflags, hthrot] at h
    rw [hevq, hc, h, thermalTold_silent, hbe]
    exact (congrArg State.evq hframe :)
  · rw [hflags, hthrot] at h
    rw [hcf, hfreq, hb, ← hfreqa, h]
    refine thermalFreq_kept was a (hw.imp id fun hs => ?_)
    rw [ha, thermalRead_flag tj thbm s (by decide) (by decide), hs]
  · rw [hu, if_pos h]; rfl
  · rw [hu, if_neg (by omega), hsched]

/-- An event of severity 3 that names no unit is only accepted. -/
theorem raise_of_critical {e : EvRec} (s : State) (h : e.sev = 3) (ho : e.oid = 0x30) : raise e s = acceptEv e s := by
  unfold raise
  dsimp only
  rw [if_neg (by rw [h]; decide), if_neg (by simp [ho]), if_neg (by simp [ho])]

theorem thermalTrip_spec (tj : Nat) (s : State) : (s.sched.hot ≠ [] → thermalTrip tj s = s)
    ∧ (s.sched.hot = [] → ∃ v, thermalTrip tj s = hwdServe (loseUnits ((List.range 7).filter fun u => inService s u) 0xC005 v) ∧ LastEvent v 0xC005 0x30
        ∧ v.sched = { s.sched with hot := List.range 7 } ∧ v.mem = s.mem) := by
  refine ⟨fun h => if_pos h, fun h => ?_⟩
  obtain ⟨e, hcode, hoid, hsev, he⟩ : ∃ e : EvRec, e.code = 0xC005 ∧ e.oid = 0x30 ∧ e.sev = 3 ∧
      thermalTrip tj s = hwdServe (loseUnits ((List.range 7).filter fun u => inService s u) 0xC005
        (raise e (s.setSched { s.sched with hot := List.range 7 }))) := by
    refine ⟨⟨0, 0xC005, 0x30, 0, 3, 0, tj, (((List.range 7).filter fun u => inService s u).foldl (fun b u => b + 2 ^ u) 0), 0, 0⟩, rfl, rfl, rfl, ?_⟩
    unfold thermalTrip
    rw [if_neg (by simp [h])]
    rfl
  refine ⟨_, he, ?_⟩
  rw [raise_of_critical _ hsev hoid]
  have hstep := eventStep_acceptEv e (s.setSched { s.sched with hot := List.range 7 })
  refine ⟨?_, hstep.sched, hstep.mem⟩
  rw [← hcode, ← hoid]
  exact lastEvent_acceptEv _ _

end Sys2Proof.Machine
end

section
/-! A write of SYS_STRICT (R508): what changes when it may, and what is reported when it may not. -/

namespace Sys2Proof.Machine

/-- The registers that the record of a failed access may write, one by one: SYS_COLLCNT, SYS_ACCERR, BRK_DENYCNT, and those of its event. -/
def ErrReg (o : Nat) : Prop := EvReg o ∨ (0x40 ≤ o ∧ o < 0x60) ∨ o = Reg.BRK_DENYCNT_LO ∨ o = Reg.BRK_DENYCNT_LO + 4

theorem errReg_sys {o : Nat} (h : 0x40 ≤ o ∧ o < 0x60) : ErrReg o := .inr (.inl h)

theorem regStep_recorded_err (code oid ctx a n : Nat) (wr : Bool) (kind : AliasKind) (s : State) :
    RegStep ErrReg s (recorded code oid ctx a n wr kind s) := by
  have hnoted : RegStep ErrReg s (noted code oid ctx a n wr kind s) := by
    unfold noted
    split
    · exact .refl s
    · exact (((RegStep.setReg s (o := Reg.SYS_ACCERR0) _ (errReg_sys (by decide))).trans
        (.setReg _ (o := Reg.SYS_ACCERR1) _ (errReg_sys (by decide)))).trans
        (.setReg _ (o := Reg.SYS_ACCERR2) _ (errReg_sys (by decide)))).trans (.put _ (f := F.SYS_ACCERRV_VALID) _ (errReg_sys (by decide)))
  have htallied (hit : Prop) [Decidable hit] (lo : Nat) (h : ErrReg lo) (h4 : ErrReg (lo + 4)) (t : State) : RegStep ErrReg t (tallied hit lo t) := by
    unfold tallied
    split
    · exact .inc64 _ _ h h4
    · exact .refl t
  exact (hnoted.trans (htallied _ _ (errReg_sys (by decide)) (errReg_sys (by decide)) _)).trans
    (htallied _ _ (.inr (.inr (.inl rfl))) (.inr (.inr (.inr rfl))) _)

/-- The event of a failed access that tears nothing down. -/
theorem regStep_accessEvent {code oid ctx sev : Nat} (a n : Nat) (wr : Bool) (kind : AliasKind) (data arg3 : Nat) (s : State) (h : sev < 2) :
    RegStep ErrReg s (accessEvent code oid ctx a n wr kind data arg3 sev s) := by
  rw [accessEvent_eq, raise_of_minor _ h]
  exact (regStep_recorded_err code oid ctx a n wr kind s).trans (.ofEvent (eventStep_acceptEv _ _) fun o ho => .inl ho)

theorem reg_answer (s : State) (oid : Nat) (wr : Bool) (st : RespSt) (d : List Byte) (o : Nat) : (s.answer oid wr st d).reg o = s.reg o := by
  unfold State.answer; split <;> rfl

theorem sap_answer (s : State) (oid : Nat) (wr : Bool) (st : RespSt) (d : List Byte) : (s.answer oid wr st d).sap = s.sap := by
  unfold State.answer; split <;> rfl

/-- A register word of its own, outside rings and groups. -/
structure PlainWord (off : Nat) (fs : List FieldDef) : Prop where
  found : (findReg off).map (·.fields) = some fs
  ring : ringOfSigReg off = none
  group : wordGroup off = none
  at_reg : AtReg off
  plain : off ≠ Reg.LCS_LCCMD

theorem writeReg_plain {oid : BitVec 10} {ctx : BitVec 6} {off data : Nat} {fs : List FieldDef} {s : State} (h : PlainWord off fs)
    (had : Admitted oid ctx off s) (hd : data < 2 ^ 32) :
    writeReg oid ctx off data s = writeDone oid.toNat (applyWord (wordWr oid.toNat ctx.toNat off data 0) off s) := by
  obtain ⟨d, hfound, -⟩ := Option.map_eq_some_iff.1 h.found
  have hx : xpenDenied s (wordWr oid.toNat ctx.toNat off data 0).oid off = false := had.unkept
  rw [writeReg_admitted 0 had h.at_reg hd]
  unfold regWord
  simp only [hfound, Option.isNone_some, Bool.false_eq_true, if_false, hx, h.ring, h.group]

/-- SYS_STRICT has one field, that the host and the Heartwood firmware write and a lock protects. -/
def strictFields : List FieldDef := [⟨0, 0, .rwl, 0, 3⟩]

theorem plainWord_strict : PlainWord Reg.SYS_STRICT strictFields :=
  ⟨by decide +kernel, by decide +kernel, by decide +kernel, ⟨by decide, by decide, by decide +kernel⟩, by decide⟩

/-- A plain write of a lockable field: the field keeps its value with the lock noted, or takes its bits. -/
theorem writeFields_rwl {s : State} {off data : Nat} {may : FieldDef → Bool} {locked : FieldDef → Nat → Bool} {f : FieldDef} (fs : List FieldDef)
    (w : WordWrite) (hacc : f.acc = .rwl) (hmay : may f = true) :
    writeFields s off 0 data may locked (f :: fs) w =
      if slice data f.hi f.lo ≠ slice w.new f.hi f.lo
          ∧ (bitAt (s.reg (lockOf off).1).toNat (lockOf off).2 = true ∨ locked f (slice data f.hi f.lo) = true)
      then writeFields s off 0 data may locked fs { w with lock := w.lock.or (some f.acc) }
      else writeFields s off 0 data may locked fs { w with new := insertBits w.new f.hi f.lo (slice data f.hi f.lo) } := by
  rw [writeFields]
  simp only [hmay, Bool.not_true, Bool.false_eq_true, if_false, hacc, fieldNew, fieldTrig, if_true, accLocked, ne_eq, not_true_eq_false, decide_false,
    Bool.or_false, Nat.zero_mul, Nat.add_zero, reduceCtorEq, Bool.false_and]
  refine if_congr ?_ rfl rfl
  simp

theorem bitAt_zero (x : Nat) : bitAt x 0 = true ↔ slice x 0 0 = 1 := by
  unfold bitAt slice
  simp [Nat.testBit_zero]

theorem flag_bit_zero (s : State) (r : Nat) : s.flag ⟨r, 0, 0⟩ = bitAt (s.reg r).toNat 0 := by
  unfold State.flag State.fld bitAt slice
  simp [Nat.testBit_zero]

section
variable {oid ctx data : Nat} (s : State)

theorem chapterLocked_strict (w : RegWr) (f : FieldDef) (v : Nat) : chapterLocked s w Reg.SYS_STRICT f v = !(strictFree s) := by
  have h1 : strictChecked Reg.SYS_STRICT = false := by decide
  unfold chapterLocked
  simp only [h1, Bool.false_and, Bool.false_eq_true, if_false, if_true]

/-- The word that a write of SYS_STRICT leaves. -/
theorem wordWrite_strict (ho : oid ≤ 1) {d : RegDef} (hd : d.fields = strictFields) :
    wordWrite (wordWr oid ctx Reg.SYS_STRICT data 0) Reg.SYS_STRICT d s =
      if slice data 0 0 ≠ s.fld F.SYS_STRICT_STRICT ∧ (s.flag F.SYS_LOCK_STRICT_LK = true ∨ strictFree s = false)
      then { new := (s.reg Reg.SYS_STRICT).toNat, lock := some .rwl }
      else { new := insertBits (s.reg Reg.SYS_STRICT).toNat 0 0 (slice data 0 0) } := by
  have hal : alwaysLocked s (wordWr oid ctx Reg.SYS_STRICT data 0) Reg.SYS_STRICT = false := by
    have h1 : Reg.SYS_STRICT ≠ Reg.SAP_RSTCMD := by decide
    have h2 : Reg.SYS_STRICT ≠ Reg.HWD_KICK := by decide
    unfold alwaysLocked; simp [h1, h2]
  have hlk : s.flag F.SYS_LOCK_STRICT_LK = bitAt (s.reg (lockOf Reg.SYS_STRICT).1).toNat (lockOf Reg.SYS_STRICT).2 := flag_bit_zero s Reg.SYS_LOCK
  unfold wordWrite
  simp only [hal, Bool.false_eq_true, if_false, hd]
  rw [show (wordWr oid ctx Reg.SYS_STRICT data 0).kind = 0 from rfl, strictFields,
    writeFields_rwl _ _ rfl (mayWrite_of_who (whoMay_three ho)), chapterLocked_strict, hlk]
  refine if_congr (and_congr Iff.rfl (or_congr Iff.rfl (by simp))) rfl rfl

end

section
variable {oid : BitVec 10} {ctx : BitVec 6} {data : Nat} {s : State}

theorem mayAny_strict (ho : oid.toNat ≤ 1) : mayAny oid.toNat Reg.SYS_STRICT = true := by
  obtain ⟨d, hd, hfs⟩ := Option.map_eq_some_iff.1 plainWord_strict.found
  unfold mayAny
  rw [hd]
  simp only [hfs, strictFields, List.any_cons, mayWrite_of_who (f := ⟨0, 0, .rwl, 0, 3⟩) (whoMay_three ho), Bool.true_or]

theorem countChange_strict (w : RegWr) {x : WordWrite} (hx : x.wos = []) (was : Nat) (t : State) : countChange w Reg.SYS_STRICT was x t = t := by
  have hr : ruleOf Reg.SYS_STRICT = none := by decide
  have hne : Reg.SYS_STRICT ≠ Reg.SYS_XPEN := by decide
  unfold countChange
  simp [hr, hx, hne]

/-- A write that may not change SYS_STRICT is reported and changes nothing of it. -/
theorem applyWord_strict_locked (ho : oid.toNat ≤ 1) (h : slice data 0 0 ≠ s.fld F.SYS_STRICT_STRICT)
    (hl : s.flag F.SYS_LOCK_STRICT_LK = true ∨ strictFree s = false) :
    applyWord (wordWr oid.toNat ctx.toNat Reg.SYS_STRICT data 0) Reg.SYS_STRICT s =
      (false, lockViolation (wordWr oid.toNat ctx.toNat Reg.SYS_STRICT data 0) false s) := by
  obtain ⟨d, hd, hfs⟩ := Option.map_eq_some_iff.1 plainWord_strict.found
  have hword := wordWrite_strict (ctx := ctx.toNat) (data := data) s ho hfs
  rw [if_pos ⟨h, hl⟩] at hword
  have hlen : (1 < d.fields.length) = False := by rw [hfs]; decide
  unfold applyWord
  simp only [hd, if_neg plainWord_strict.plain, hword, countChange_strict _ (x := { new := (s.reg Reg.SYS_STRICT).toNat, lock := some .rwl }) rfl, decide_true, Bool.and_self, Bool.or_true, if_true, Option.isNone_some, hlen,
    decide_false, Bool.or_self, Bool.and_false, Bool.false_and, Bool.false_eq_true, if_false, reduceCtorEq]

/-- A write that may change SYS_STRICT stores its bit and starts Strict mode where the bit was clear. -/
theorem applyWord_strict_free (ho : oid.toNat ≤ 1) (hl : s.flag F.SYS_LOCK_STRICT_LK = false) (hf : strictFree s = true) :
    ∃ u, RegsOnly [Reg.SYS_STRICT] s u ∧ u.fld F.SYS_STRICT_STRICT = data % 2
      ∧ applyWord (wordWr oid.toNat ctx.toNat Reg.SYS_STRICT data 0) Reg.SYS_STRICT s = (true, sysWritten Reg.SYS_STRICT (s.reg Reg.SYS_STRICT).toNat u) := by
  obtain ⟨d, hd, hfs⟩ := Option.map_eq_some_iff.1 plainWord_strict.found
  have hword := wordWrite_strict (ctx := ctx.toNat) (data := data) s ho hfs
  rw [if_neg (by rw [hl, hf]; simp)] at hword
  generalize hv : insertBits (s.reg Reg.SYS_STRICT).toNat 0 0 (slice data 0 0) = v at hword
  have hvlt : v < 2 ^ 32 := by
    have := (s.reg Reg.SYS_STRICT).isLt
    rw [← hv]
    unfold insertBits slice
    omega
  have hslice : slice v 0 0 = data % 2 := by
    rw [← hv, slice_insertBits _ _ _ _ (by decide)]
    unfold slice
    simp
  obtain ⟨u, hu⟩ : ∃ u, u = if v = (s.reg Reg.SYS_STRICT).toNat then s else storeWord Reg.SYS_STRICT { new := v } s := ⟨_, rfl⟩
  have hnorm : normWord Reg.SYS_STRICT v = v := rfl
  refine ⟨u, ?_, ?_, ?_⟩
  · rw [hu]
    split
    · exact ⟨rfl, fun _ _ => rfl⟩
    · refine ⟨?_, fun o ho => reg_setReg_ne s _ (by simpa using ho)⟩
      unfold storeWord
      simp only [List.map_nil, List.append_nil]
      rfl
  · rw [hu]
    unfold State.fld
    split
    · rename_i he
      rw [← hslice, he]
      rfl
    · have hreg : (storeWord Reg.SYS_STRICT { new := v } s).reg Reg.SYS_STRICT = BitVec.ofNat 32 v := reg_setReg_self _ _ _
      rw [← hslice]
      change slice (BitVec.toNat ((storeWord Reg.SYS_STRICT { new := v } s).reg Reg.SYS_STRICT)) 0 0 = _
      rw [hreg, BitVec.toNat_ofNat, Nat.mod_eq_of_lt hvlt]
  · have hself : selfStored Reg.SYS_STRICT = false := by decide
    have hal : alwaysLocked s (wordWr oid.toNat ctx.toNat Reg.SYS_STRICT data 0) Reg.SYS_STRICT = false := by
      have h1 : Reg.SYS_STRICT ≠ Reg.SAP_RSTCMD := by decide
      have h2 : Reg.SYS_STRICT ≠ Reg.HWD_KICK := by decide
      unfold alwaysLocked; simp [h1, h2]
    have hmay : mayAny (wordWr oid.toNat ctx.toNat Reg.SYS_STRICT data 0).oid Reg.SYS_STRICT = true := mayAny_strict ho
    have hrw : ∀ x t, regWritten s (wordWr oid.toNat ctx.toNat Reg.SYS_STRICT data 0) Reg.SYS_STRICT (s.reg Reg.SYS_STRICT).toNat x t =
        sysWritten Reg.SYS_STRICT (s.reg Reg.SYS_STRICT).toNat t := by
      have hb : Reg.SYS_STRICT / 0x10000 = 0 := by decide
      intro x t
      unfold regWritten
      simp only [hb]
    unfold applyWord
    simp only [hd, if_neg plainWord_strict.plain, hword, countChange_strict _ (x := { new := v }) rfl, hself, Bool.false_or, decide_true,
      Bool.and_true, decide_eq_true_eq, hmay, hal, Bool.not_false, Option.isNone_none, Bool.true_or, if_true, hrw, ← hu]

end

theorem sysWritten_frame {was : Nat} {u : State} : (sysWritten Reg.SYS_STRICT was u).mem = u.mem ∧ (Calm u → Calm (sysWritten Reg.SYS_STRICT was u))
    ∧ (sysWritten Reg.SYS_STRICT was u).fld F.SYS_STRICT_STRICT = u.fld F.SYS_STRICT_STRICT
    ∧ (u.flag F.SYS_STRICT_STRICT = true → was % 2 = 0 → (sysWritten Reg.SYS_STRICT was u).sap.cap = u.fld F.SAP_CAP_CAPW) := by
  obtain ⟨a, ha⟩ : ∃ a, a = u.setSap { u.sap with cap := u.fld F.SAP_CAP_CAPW } := ⟨_, rfl⟩
  have hstate : ¬ EvReg Reg.HWD_STATE := by unfold EvReg Reg.HWD_STATE; omega
  have hsys : ¬ EvReg F.SYS_STRICT_STRICT.reg := by unfold EvReg F.SYS_STRICT_STRICT; dsimp only; omega
  have hv := (strictVoid_spec a).1
  have hseq : seqState (strictVoid a) = seqState u := by
    unfold seqState
    rw [hv.fld hstate, fld_put_reg _ _ _ _ (by decide), ha]
    rfl
  have hhwd : (strictVoid a).hwd = u.hwd := by rw [hv.hwd, ha]; rfl
  have hmem : (strictVoid a).mem = u.mem := by rw [hv.mem, ha]; rfl
  have hfld : (strictVoid a).fld F.SYS_STRICT_STRICT = u.fld F.SYS_STRICT_STRICT := by
    rw [hv.fld hsys, fld_put_reg _ _ _ _ (by decide), ha]; rfl
  have hcap : (strictVoid a).sap.cap = u.fld F.SAP_CAP_CAPW := by rw [hv.sap, ha]; rfl
  unfold sysWritten
  rw [← ha]
  dsimp only
  split
  · split
    · exact ⟨hmem, fun h => ⟨by rw [hhwd]; exact h.1, by rw [hseq]; exact h.2⟩, hfld, fun _ _ => hcap⟩
    · rw [ha]
      exact ⟨rfl, fun h => h, rfl, fun _ _ => rfl⟩
  · rename_i h
    exact ⟨rfl, fun h => h, rfl, fun h1 h2 => absurd (by simp [h1, h2]) h⟩

theorem strictWrite_spec (oid : BitVec 10) (ctx : BitVec 6) (data : BitVec 32) (s : State) (hcalm : Calm s)
    (had : Admitted oid ctx Reg.SYS_STRICT s) (ho : oid.toNat ≤ 1) :
    (strictFree s = true → s.flag F.SYS_LOCK_STRICT_LK = false → ∃ t, exec (.strictWrite oid ctx data) s = .next t
        ∧ t.flag F.SYS_STRICT_STRICT = data.getLsbD 0 ∧ t.mem = s.mem
        ∧ (data.getLsbD 0 = true → s.flag F.SYS_STRICT_STRICT = false → t.sap.cap = s.fld F.SAP_CAP_CAPW))
      ∧ (strictFree s = false ∨ s.flag F.SYS_LOCK_STRICT_LK = true → data.getLsbD 0 ≠ s.flag F.SYS_STRICT_STRICT →
        ∃ t, exec (.strictWrite oid ctx data) s = .next t ∧ t.reg Reg.SYS_STRICT = s.reg Reg.SYS_STRICT ∧ LastEvent t 0x3001 oid.toNat
          ∧ t.mem = s.mem) := by
  have hwrite := writeReg_plain plainWord_strict had data.isLt
  have hexec : exec (.strictWrite oid ctx data) s = .next (writeReg oid ctx Reg.SYS_STRICT data.toNat s) := rfl
  have hbit : data.getLsbD 0 = decide (data.toNat % 2 = 1) := by simp [BitVec.getLsbD, Nat.testBit_zero]
  refine ⟨fun hf hl => ?_, fun hl hne => ?_⟩
  · obtain ⟨u, hu, hfld, happ⟩ := applyWord_strict_free (ctx := ctx) (data := data.toNat) ho hl hf
    obtain ⟨hmem, hc, hkeep, hcap⟩ := sysWritten_frame (was := (s.reg Reg.SYS_STRICT).toNat) (u := u)
    have hcu : Calm u := by
      refine ⟨?_, ?_⟩
      · rw [show u.hwd = s.hwd from (congrArg State.hwd hu.1 :)]; exact hcalm.1
      · have : seqState u = seqState s := by unfold seqState State.fld; rw [hu.2 _ (by decide)]
        rw [this]; exact hcalm.2
    refine ⟨_, hexec, ?_⟩
    rw [hwrite, happ]
    unfold writeDone
    dsimp only
    rw [hwdServe_answer (hc hcu)]
    have hflag : ∀ t : State, t.fld F.SYS_STRICT_STRICT = data.toNat % 2 → t.flag F.SYS_STRICT_STRICT = data.getLsbD 0 := by
      intro t ht
      unfold State.flag
      rw [ht, hbit]
      rcases Nat.mod_two_eq_zero_or_one data.toNat with h | h <;> simp [h]
    refine ⟨hflag _ ?_, ?_, fun h1 h0 => ?_⟩
    · unfold State.fld
      rw [reg_answer]
      exact hkeep.trans hfld
    · rw [mem_answer, hmem]; exact (congrArg State.mem hu.1 :)
    · rw [sap_answer, hcap ((hflag u hfld).trans h1)]
      · unfold State.fld
        rw [hu.2 _ (by decide)]
      · simpa [State.flag, State.fld, slice, F.SYS_STRICT_STRICT, Reg.SYS_STRICT] using h0
  · have hval : slice data.toNat 0 0 ≠ s.fld F.SYS_STRICT_STRICT := by
      intro he
      apply hne
      unfold State.flag
      rw [← he, hbit]
      unfold slice
      rcases Nat.mod_two_eq_zero_or_one data.toNat with h | h <;> simp [h]
    have happ := applyWord_strict_locked (ctx := ctx) (data := data.toNat) ho hval hl.symm
    have hstep : RegStep ErrReg s (lockViolation (wordWr oid.toNat ctx.toNat Reg.SYS_STRICT data.toNat 0) false s) :=
      regStep_accessEvent _ _ _ _ _ _ _ (by decide)
    have hrep : Reported 0x3001 oid.toNat s (lockViolation (wordWr oid.toNat ctx.toNat Reg.SYS_STRICT data.toNat 0) false s) :=
      reported_accessEvent _ _ _ _ _ _ _ (by decide) (evCtx_lt _ ctx)
    obtain ⟨hmem, -, hlast⟩ := writeDone_reported hcalm hrep
    refine ⟨_, hexec, ?_⟩
    rw [hwrite, happ]
    refine ⟨?_, hlast, hmem⟩
    unfold writeDone
    dsimp only
    rw [hwdServe_answer (hrep.calm hcalm), reg_answer]
    exact hstep.reg _ (by unfold ErrReg EvReg Reg.SYS_STRICT Reg.BRK_DENYCNT_LO; omega)

end Sys2Proof.Machine
end

section
/-! The event unit: a record's bytes, what an event leaves in the queue, what leaves the queue, notification (R518 to R525). -/

namespace Sys2Proof.Machine

/-! ### The bytes of a record (R518) -/

theorem leAt_skip {a b : List Byte} {i n : Nat} (h : a.length ≤ i) : leAt (a ++ b) i n = leAt b (i - a.length) n := by
  unfold leAt
  rw [List.drop_append, List.drop_of_length_le h, List.nil_append]

theorem leAt_head (n v : Nat) (b : List Byte) : leAt (leBytes n v ++ b) 0 n = v % 2 ^ (8 * n) := by
  unfold leAt
  rw [List.drop_zero, List.take_left' (leBytes_length n v), leNat_leBytes, Nat.pow_mul]

theorem leAt_whole (n v : Nat) : leAt (leBytes n v) 0 n = v % 2 ^ (8 * n) := by
  have := leAt_head n v []
  rwa [List.append_nil] at this

theorem recordBytes_spec (r : EvRec) : (recordBytes r).length = 32
      ∧ ∀ x ∈ [(0, 8, r.time), (8, 2, r.code), (13, 1, r.sev), (14, 2, r.seq), (16, 4, r.a0), (20, 4, r.a1), (24, 4, r.a2), (28, 4, r.a3)],
        leAt (recordBytes r) x.1 x.2.1 = x.2.2 % 2 ^ (8 * x.2.1) := by
  refine ⟨?_, ?_⟩
  · unfold recordBytes
    simp only [List.length_append, leBytes_length]
  · unfold recordBytes
    simp (disch := simp [leBytes_length]) only [List.append_assoc, List.mem_cons, List.not_mem_nil, or_false, forall_eq_or_imp, forall_eq, leAt_skip,
      leBytes_length, Nat.reduceSub, leAt_head, leAt_whole, and_self]

/-! ### Notification (R525) -/

/-- The pending bit of the Bough cores below `n` that the event unit interrupts. -/
def pendBelow (n sev : Nat) (s : State) : State :=
  (List.range n).foldl (fun s c => if bitAt (s.fld F.EVQ_BGH_CORES) c then bghPend c (16 + sev) s else s) s

theorem pendBelow_succ (n sev : Nat) (s : State) :
    pendBelow (n + 1) sev s = if bitAt ((pendBelow n sev s).fld F.EVQ_BGH_CORES) n then bghPend n (16 + sev) (pendBelow n sev s) else pendBelow n sev s := by
  unfold pendBelow
  rw [List.range_succ, List.foldl_append, List.foldl_cons, List.foldl_nil]

theorem pendBelow_frame (n sev : Nat) (s : State) (r) : { pendBelow n sev s with regs := r } = { s with regs := r } := by
  induction n with
  | zero => rfl
  | succ n ih =>
    rw [pendBelow_succ]
    split
    · exact ih
    · exact ih

theorem reg_pendBelow {n sev o : Nat} (s : State) (h : ∀ c < n, o ≠ Reg.BGH_CORE_IPEND c) : (pendBelow n sev s).reg o = s.reg o := by
  induction n with
  | zero => rfl
  | succ n ih =>
    have hn := ih fun c hc => h c (by omega)
    rw [pendBelow_succ]
    split
    · exact (reg_put_ne _ _ _ (h n n.lt_succ_self)).trans hn
    · exact hn

theorem cores_pendBelow (n sev : Nat) (s : State) : (pendBelow n sev s).fld F.EVQ_BGH_CORES = s.fld F.EVQ_BGH_CORES := by
  unfold State.fld
  rw [reg_pendBelow s fun c hc => by unfold F.EVQ_BGH_CORES Reg.BGH_CORE_IPEND; dsimp only; omega]

theorem fld_pendBelow {n sev c : Nat} (s : State) (hs : sev ≤ 4) (hc : c < n) : (pendBelow n sev s).fld (F.BGH_CORE_IPEND_PEND c) =
    if bitAt (s.fld F.EVQ_BGH_CORES) c then s.fld (F.BGH_CORE_IPEND_PEND c) ||| 2 ^ (16 + sev) else s.fld (F.BGH_CORE_IPEND_PEND c) := by
  induction n with
  | zero => omega
  | succ n ih =>
    rw [pendBelow_succ, cores_pendBelow]
    obtain rfl | hne := eq_or_ne c n
    · have hold : (pendBelow c sev s).fld (F.BGH_CORE_IPEND_PEND c) = s.fld (F.BGH_CORE_IPEND_PEND c) := by
        unfold State.fld
        rw [reg_pendBelow s fun d hd => by unfold F.BGH_CORE_IPEND_PEND Reg.BGH_CORE_IPEND; dsimp only; omega]
      split
      · unfold bghPend
        rw [hold]
        refine fld_put_fits _ _ (by decide : 0 ≤ 31) (by decide : 31 < 32) ?_
        exact Nat.or_lt_two_pow (fld_lt s _) (Nat.pow_lt_pow_right (by decide) (show 16 + sev < 32 by omega))
      · exact hold
    · split
      · unfold bghPend
        rw [fld_put_reg _ _ _ _ (by unfold F.BGH_CORE_IPEND_PEND; dsimp only; omega), ih (by omega)]
      · exact ih (by omega)

/-- What notification does before the Bough cores are interrupted: the message, or the note that one is due. -/
def messaged (sev : Nat) (s : State) : State :=
  if sev ≥ 2 || s.fld F.EVQ_COAL_US = 0 then s.msix (sevVec s sev)
  else if spGet 0 s.evq.coal (sevVec s sev) = 0 then (s.setEvq { s.evq with coal := spSet 0 (sevVec s sev) 1 s.evq.coal }).msix (sevVec s sev)
  else s.setEvq { s.evq with coal := spSet 0 (sevVec s sev) 2 s.evq.coal }

theorem notify_eq (sev : Nat) (s : State) :
    notify sev s = if bitAt ((messaged sev s).fld F.EVQ_BGH_SEVMASK) sev then pendBelow 8 sev (messaged sev s) else messaged sev s := rfl

theorem msix_frame (s : State) (v : Nat) (o) : { s.msix v with out := o } = { s with out := o } := by
  unfold State.msix
  split <;> rfl

theorem out_msix (s : State) {v : Nat} (hv : v < 64) : (s.msix v).out = s.out ++ (if s.evq.msix = true then [.msix v] else []) := by
  unfold State.msix
  split
  · rw [Nat.mod_eq_of_lt hv]; rfl
  · rw [List.append_nil]

theorem sevVec_lt (s : State) (sev : Nat) : sevVec s sev < 64 := by
  unfold sevVec slice
  have h : 6 * sev + 5 + 1 - 6 * sev = 6 := by omega
  rw [h]
  exact Nat.mod_lt _ (by decide)

theorem messaged_frame (sev : Nat) (s : State) : (messaged sev s).regs = s.regs ∧ (messaged sev s).mem = s.mem
    ∧ { (messaged sev s).evq with coal := s.evq.coal } = s.evq := by
  have hm (t : State) (v : Nat) : (t.msix v).regs = t.regs ∧ (t.msix v).mem = t.mem ∧ (t.msix v).evq = t.evq := by
    unfold State.msix
    split <;> exact ⟨rfl, rfl, rfl⟩
  unfold messaged
  split
  · rw [(hm _ _).1, (hm _ _).2.1, (hm _ _).2.2]; exact ⟨rfl, rfl, rfl⟩
  · split
    · rw [(hm _ _).1, (hm _ _).2.1, (hm _ _).2.2]; exact ⟨rfl, rfl, rfl⟩
    · exact ⟨rfl, rfl, rfl⟩

theorem notify_frame (sev : Nat) (s : State) (r) : { notify sev s with regs := r } = { messaged sev s with regs := r } := by
  rw [notify_eq]
  split
  · exact pendBelow_frame _ _ _ _
  · rfl

theorem notify_evq (sev : Nat) (s : State) : (notify sev s).evq = (messaged sev s).evq := (congrArg State.evq (notify_frame sev s s.regs) :)
theorem notify_out (sev : Nat) (s : State) : (notify sev s).out = (messaged sev s).out := (congrArg State.out (notify_frame sev s s.regs) :)
theorem notify_mem (sev : Nat) (s : State) : (notify sev s).mem = s.mem :=
  (congrArg State.mem (notify_frame sev s s.regs) :).trans (messaged_frame sev s).2.1

/-- Notification keeps everything of the event unit but the state of the vectors. -/
theorem notify_evq_frame (sev : Nat) (s : State) : { (notify sev s).evq with coal := s.evq.coal } = s.evq := by
  rw [notify_evq]
  exact (messaged_frame sev s).2.2

theorem reg_notify {sev o : Nat} (s : State) (h : ∀ c < 8, o ≠ Reg.BGH_CORE_IPEND c) : (notify sev s).reg o = s.reg o := by
  have hm : (messaged sev s).reg o = s.reg o := reg_of_regs (messaged_frame sev s).1 o
  rw [notify_eq]
  split
  · rw [reg_pendBelow _ h, hm]
  · exact hm

theorem fld_notify {sev : Nat} (s : State) {f : RegField} (h : f.reg < 0x2B0204) : (notify sev s).fld f = s.fld f := by
  unfold State.fld
  rw [reg_notify s fun c _ => by unfold Reg.BGH_CORE_IPEND; omega]

theorem notify_spec (sev : Nat) (s : State) (hs : sev ≤ 4) : let v := sevVec s sev
      let msg : List Out := if s.evq.msix = true then [.msix v] else []
      let t := notify sev s
      t.mem = s.mem ∧ (2 ≤ sev ∨ s.fld F.EVQ_COAL_US = 0 → t.out = s.out ++ msg ∧ t.evq = s.evq)
      ∧ (sev < 2 → s.fld F.EVQ_COAL_US ≠ 0 → (spGet 0 s.evq.coal v = 0 → t.out = s.out ++ msg ∧ spGet 0 t.evq.coal v = 1)
        ∧ (spGet 0 s.evq.coal v ≠ 0 → t.out = s.out ∧ spGet 0 t.evq.coal v = 2))
      ∧ ∀ c < 8, t.fld (F.BGH_CORE_IPEND_PEND c) = if (s.fld F.EVQ_BGH_SEVMASK).testBit sev = true ∧ (s.fld F.EVQ_BGH_CORES).testBit c = true
          then s.fld (F.BGH_CORE_IPEND_PEND c) ||| 2 ^ (16 + sev) else s.fld (F.BGH_CORE_IPEND_PEND c) := by
  intro v msg t
  have hv : v < 64 := sevVec_lt s sev
  have hout : t.out = (messaged sev s).out := notify_out sev s
  have hevq : t.evq = (messaged sev s).evq := notify_evq sev s
  have hregs := (messaged_frame sev s).1
  have hfld (f : RegField) : (messaged sev s).fld f = s.fld f := by unfold State.fld; rw [reg_of_regs hregs]
  have hm (t : State) (v : Nat) : (t.msix v).evq = t.evq := by unfold State.msix; split <;> rfl
  refine ⟨notify_mem sev s, fun h => ?_, fun h hus => ⟨fun h0 => ?_, fun h0 => ?_⟩, fun c hc => ?_⟩
  · rw [hout, hevq]
    unfold messaged
    rw [if_pos (by simpa using h)]
    exact ⟨out_msix s hv, hm _ _⟩
  · rw [hout, hevq]
    unfold messaged
    rw [if_neg (by simp; omega), if_pos h0]
    exact ⟨out_msix _ hv, by rw [hm]; exact spGet_spSet_self 0 v 1 s.evq.coal⟩
  · rw [hout, hevq]
    unfold messaged
    rw [if_neg (by simp; omega), if_neg h0]
    exact ⟨rfl, spGet_spSet_self 0 v 2 s.evq.coal⟩
  · show (notify sev s).fld _ = _
    rw [notify_eq, hfld]
    unfold bitAt
    cases h : (s.fld F.EVQ_BGH_SEVMASK).testBit sev
    · simp only [Bool.false_eq_true, if_false, false_and, hfld]
    · simp only [if_true, true_and]
      rw [fld_pendBelow _ hs hc, hfld, hfld]
      rfl

theorem coalesceExpiry_spec (vec : BitVec 6) (s : State) : let v := vec.toNat
      (spGet 0 s.evq.coal v = 0 → exec (.coalesceExpiry vec) s = .next s)
      ∧ (spGet 0 s.evq.coal v = 1 → exec (.coalesceExpiry vec) s = .next (s.setEvq { s.evq with coal := spSet 0 v 0 s.evq.coal }))
      ∧ (1 < spGet 0 s.evq.coal v → ∃ t, exec (.coalesceExpiry vec) s = .next t ∧ spGet 0 t.evq.coal v = 1
        ∧ t.out = s.out ++ (if s.evq.msix = true then [.msix v] else []) ∧ t.regs = s.regs ∧ t.mem = s.mem) := by
  intro v
  rw [exec_coalesceExpiry]
  unfold execCoalesceExpiry
  dsimp only
  refine ⟨fun h => by rw [h]; rfl, fun h => by rw [h]; rfl, fun h => ?_⟩
  obtain ⟨n, hn⟩ : ∃ n, spGet 0 s.evq.coal vec.toNat = n + 2 := ⟨_, (Nat.sub_add_cancel h).symm⟩
  rw [hn]
  refine ⟨_, rfl, ?_, out_msix _ vec.isLt, ?_, ?_⟩
  · have hm (t : State) (v : Nat) : (t.msix v).evq = t.evq := by unfold State.msix; split <;> rfl
    rw [hm]
    exact spGet_spSet_self 0 vec.toNat 1 s.evq.coal
  · unfold State.msix; split <;> rfl
  · unfold State.msix; split <;> rfl

/-! ### Records lost, triggers (R524, R529) -/

/-- The account of lost records with one more. -/
def lostWith (r : EvRec) (s : State) : LostAcc :=
  match s.evq.lost with | none => ⟨1, r.sev, r.seq, r.seq⟩ | some l => ⟨l.count + 1, max l.sev r.sev, l.first, r.seq⟩

theorem dropRecord_eq (r : EvRec) (s : State) :
    dropRecord r s = notify r.sev ((s.setEvq { s.evq with lost := some (lostWith r s) }).incHold F.EVQ_LOST_CNT) := rfl

theorem evq_incHold (s : State) (f : RegField) : (s.incHold f).evq = s.evq := by unfold State.incHold; split <;> rfl

theorem fld_incHold (s : State) (f : RegField) (h : f.lo ≤ f.hi) (hh : f.hi < 32) :
    (s.incHold f).fld f = min (s.fld f + 1) (2 ^ (f.hi + 1 - f.lo) - 1) := by
  have hlt := fld_lt s f
  unfold State.incHold
  split
  · rw [fld_put_fits _ _ h hh (by omega)]
    omega
  · omega

theorem fld_incHold_reg (s : State) (f g : RegField) (h : g.reg ≠ f.reg) : (s.incHold f).fld g = s.fld g := by
  unfold State.incHold
  split
  · exact fld_put_reg _ _ _ _ h
  · rfl

/-- Dropping a record keeps the event unit but for the account of the lost and the vectors. -/
theorem dropRecord_evq (r : EvRec) (s : State) :
    { (dropRecord r s).evq with coal := s.evq.coal } = { s.evq with lost := some (lostWith r s) } := by
  have h := notify_evq_frame r.sev ((s.setEvq { s.evq with lost := some (lostWith r s) }).incHold F.EVQ_LOST_CNT)
  rw [← dropRecord_eq, evq_incHold] at h
  exact h

theorem fld_dropRecord (r : EvRec) (s : State) {f : RegField} (h : f.reg < 0x2B0204) (hl : f.reg ≠ 0x4001C) : (dropRecord r s).fld f = s.fld f := by
  rw [dropRecord_eq, fld_notify _ h, fld_incHold_reg _ _ _ hl]
  rfl

theorem dropRecord_spec (r : EvRec) (s : State) :
    (dropRecord r s).evq.lost = some (match s.evq.lost with | none => ⟨1, r.sev, r.seq, r.seq⟩ | some l => ⟨l.count + 1, max l.sev r.sev, l.first, r.seq⟩)
      ∧ (dropRecord r s).fld F.EVQ_LOST_CNT = min (s.fld F.EVQ_LOST_CNT + 1) 0xFFFF ∧ (dropRecord r s).evq.hist = s.evq.hist := by
  refine ⟨(congrArg Evq.lost (dropRecord_evq r s) :), ?_, (congrArg Evq.hist (dropRecord_evq r s) :)⟩
  rw [dropRecord_eq, fld_notify _ (by decide), fld_incHold _ _ (by decide) (by decide)]
  rfl

theorem dumpTrigger_spec (trig : DumpTrig) (s : State) :
    (s.evq.dump = none → s.evq.want = none → dumpTrigger trig s = s.setEvq { s.evq with want := some trig })
      ∧ (s.evq.dump ≠ none ∨ s.evq.want ≠ none →
        (s.evq.held = none → (dumpTrigger trig s).evq = { s.evq with held := some trig } ∧ (dumpTrigger trig s).flag F.EVQ_DUMPSTAT_PENDING = true)
        ∧ (s.evq.held ≠ none → dumpTrigger trig s = s.incHold F.EVQ_DUMPSTAT_MISSED)) := by
  unfold dumpTrigger
  refine ⟨fun h1 h2 => by rw [h1, h2]; rfl, fun h => ?_⟩
  have hno : ¬ (s.evq.dump.isNone && s.evq.want.isNone) = true := by simpa [Option.isNone_iff_eq_none] using (fun h1 h2 => h.elim (· h1) (· h2))
  rw [if_neg hno]
  refine ⟨fun h => ?_, fun h => ?_⟩
  · rw [if_pos (by rw [h]; rfl)]
    exact ⟨rfl, flag_put_one _ (by decide) (by decide)⟩
  · rw [if_neg (by simpa using h)]

/-- A trigger changes only what the dump waits for. -/
theorem dumpTrigger_frame (trig : DumpTrig) (s : State) :
    (dumpTrigger trig s).evq.hist = s.evq.hist ∧ (dumpTrigger trig s).evq.queue = s.evq.queue
      ∧ ∀ f : RegField, f.reg ≠ 0x40038 → (dumpTrigger trig s).fld f = s.fld f := by
  unfold dumpTrigger
  split
  · exact ⟨rfl, rfl, fun _ _ => rfl⟩
  · split
    · exact ⟨rfl, rfl, fun f h => fld_put_reg _ _ _ _ h⟩
    · rw [evq_incHold]
      exact ⟨rfl, rfl, fun f h => fld_incHold_reg _ _ _ h⟩

/-! ### An accepted event (R519, R520) -/

theorem fld_shedOldest (hist : List EvRec) (r : EvRec) (s : State) {f : RegField} (h : f.reg < 0x2B0204) (hl : f.reg ≠ 0x4001C) :
    (shedOldest hist r s).fld f = s.fld f := by
  unfold shedOldest
  split
  · rfl
  · split
    · split
      · exact fld_dropRecord _ _ h hl
      · rfl
    · rfl

theorem shedOldest_short {hist : List EvRec} (r : EvRec) (s : State) (h : hist.length ≤ 64) : shedOldest hist r s = s := if_pos h

theorem fld_numbered (d : Bool) (e : EvRec) (s : State) : (numbered d e s).fld F.EVQ_SEQ_SEQ = (s.fld F.EVQ_SEQ_SEQ + 1) % 65536 := by
  generalize hn : (s.fld F.EVQ_SEQ_SEQ + 1) % 65536 = n
  have hlt : n < 2 ^ 16 := by omega
  unfold numbered
  rw [hn]
  exact fld_put_fits s F.EVQ_SEQ_SEQ (by decide) (by decide) hlt

/-- What follows an accepted event beyond its record: at most a dump trigger. -/
theorem acceptEv_after (e : EvRec) (s : State) :
    let u := (enterHist (s.flag F.EVQ_CTRL_EN && decide (min (s.fld F.EVQ_FILT_MINSEV) 4 ≤ e.sev)) e s).2
    (acceptEv e s).evq.hist = u.evq.hist ∧ (acceptEv e s).evq.queue = u.evq.queue
      ∧ ∀ f : RegField, f.reg ≠ 0x40038 → (acceptEv e s).fld f = u.fld f := by
  unfold acceptEv
  dsimp only
  split
  · exact dumpTrigger_frame _ _
  · split
    · exact dumpTrigger_frame _ _
    · exact ⟨rfl, rfl, fun _ _ => rfl⟩

theorem acceptEv_spec (e : EvRec) (s : State) :
    let r : EvRec := { e with seq := (s.fld F.EVQ_SEQ_SEQ + 1) % 2 ^ 16, time := if e.time = 0 then recTime s.ns else e.time }
    let t := acceptEv e s
    t.evq.hist.getLast? = some r ∧ t.evq.hist.length ≤ 64 ∧ (s.evq.hist.length < 64 → t.evq.hist = s.evq.hist ++ [r])
      ∧ t.fld F.EVQ_SEQ_SEQ = r.seq ∧ t.mem = s.mem
      ∧ (s.flag F.EVQ_CTRL_EN = false ∨ e.sev < min (s.fld F.EVQ_FILT_MINSEV) 4 → s.evq.hist.length < 64 → t.evq.queue = s.evq.queue)
      ∧ (s.flag F.EVQ_CTRL_EN = true → min (s.fld F.EVQ_FILT_MINSEV) 4 ≤ e.sev → s.evq.hist.length < 64 → t.evq.queue = s.evq.queue ++ [r]) := by
  intro r t
  obtain ⟨d, hd⟩ : ∃ d, d = (s.flag F.EVQ_CTRL_EN && decide (min (s.fld F.EVQ_FILT_MINSEV) 4 ≤ e.sev)) := ⟨_, rfl⟩
  have hr : entered e s = r := rfl
  obtain ⟨hh, hq, hf⟩ := acceptEv_after e s
  have hhist : t.evq.hist = (s.evq.hist ++ [r]).drop ((s.evq.hist ++ [r]).length - 64) := by
    rw [← hr]; exact hh.trans (hist_enterHist _ _ _)
  have hshort : s.evq.hist.length < 64 → (s.evq.hist ++ [r]).length ≤ 64 := fun h => by rw [List.length_append]; exact h
  have hqueue : s.evq.hist.length < 64 → t.evq.queue = if d then s.evq.queue ++ [r] else s.evq.queue := by
    intro h
    refine hq.trans ?_
    rw [← hd, enterHist_eq, shedOldest_short _ _ (by rw [hr]; exact hshort h)]
    rfl
  refine ⟨getLast?_acceptEv e s, ?_, fun h => ?_, ?_, (eventStep_acceptEv e s).mem, fun h hl => ?_, fun h1 h2 hl => ?_⟩
  · rw [hhist, List.length_drop]
    omega
  · rw [hhist, Nat.sub_eq_zero_of_le (hshort h), List.drop_zero]
  · refine (hf _ (by decide)).trans ?_
    rw [← hd, enterHist_eq]
    dsimp only
    rw [fld_shedOldest _ _ _ (by decide) (by decide)]
    exact fld_numbered d e s
  · rw [hqueue hl, hd, if_neg]
    rcases h with h | h
    · simp [h]
    · simp only [Bool.and_eq_true, decide_eq_true_eq, not_and]; omega
  · rw [hqueue hl, hd, if_pos (by simp only [h1, decide_eq_true h2, Bool.and_self])]

/-! ### The queue in memory (R522, R524) -/

theorem evqClosed_frame (s : State) : EventStep s (evqClosed s) ∧ (evqClosed s).evq.queue = [] := by
  have hstep (l : List EvRec) (t : State) : EventStep t (l.foldl (fun s r => dropRecord r s) t)
      ∧ (l.foldl (fun s r => dropRecord r s) t).evq.queue = t.evq.queue := by
    induction l generalizing t with
    | nil => exact ⟨.refl _, rfl⟩
    | cons r l ih =>
      obtain ⟨h1, h2⟩ := ih (dropRecord r t)
      exact ⟨(eventStep_dropRecord r t).trans h1, h2.trans (congrArg Evq.queue (dropRecord_evq r t) :)⟩
  exact ⟨(eventStep_setEvq _ _).trans (hstep _ _).1, (hstep _ _).2⟩

/-- The record is written, and the queue goes on or closes. The call is generalised before its outcome is split: its evaluation is no part of this. -/
theorem queueRecord_of {r : EvRec} {s : State} {p : Bool × State} (h : nocWrite 0x30 0 (evqAddr s) (recordBytes r) s = p) :
    queueRecord r s = if p.1 then notify r.sev (p.2.incMod F.EVQ_WR_WR) else evqClosed (dropRecord r (p.2.put F.EVQ_CTRL_EN 0)) := by
  generalize e : @queueRecord = g
  delta queueRecord at e
  subst e
  beta_reduce
  rw [h]
  obtain ⟨_ | _, v⟩ := p <;> rfl

theorem queueRecord_failed {r : EvRec} {s v : State} (h : nocWrite 0x30 0 (evqAddr s) (recordBytes r) s = (false, v)) :
    queueRecord r s = evqClosed (dropRecord r (v.put F.EVQ_CTRL_EN 0)) := queueRecord_of h

theorem queueRecord_written {r : EvRec} {s v : State} (h : nocWrite 0x30 0 (evqAddr s) (recordBytes r) s = (true, v)) :
    queueRecord r s = notify r.sev (v.incMod F.EVQ_WR_WR) := queueRecord_of h

theorem failedQueue_frame (r : EvRec) (v : State) : (evqClosed (dropRecord r (v.put F.EVQ_CTRL_EN 0))).flag F.EVQ_CTRL_EN = false
    ∧ (evqClosed (dropRecord r (v.put F.EVQ_CTRL_EN 0))).evq.queue = [] ∧ (evqClosed (dropRecord r (v.put F.EVQ_CTRL_EN 0))).mem = v.mem := by
  have hoff : (v.put F.EVQ_CTRL_EN 0).flag F.EVQ_CTRL_EN = false := flag_put_zero v (by decide) (by decide)
  have hmem : (v.put F.EVQ_CTRL_EN 0).mem = v.mem := rfl
  generalize v.put F.EVQ_CTRL_EN 0 = u at hoff hmem
  obtain ⟨hstep, hq⟩ := evqClosed_frame (dropRecord r u)
  have hall := (eventStep_dropRecord r u).trans hstep
  have hreg : ¬ EvReg F.EVQ_CTRL_EN.reg := by unfold EvReg F.EVQ_CTRL_EN; dsimp only; omega
  exact ⟨(hall.flag hreg).trans hoff, hq, hall.mem.trans hmem⟩

theorem queueRecord_spec (r : EvRec) (s v : State) :
    (nocWrite 0x30 0 (evqAddr s) (recordBytes r) s = (true, v) → queueRecord r s = notify r.sev (v.incMod F.EVQ_WR_WR))
      ∧ (nocWrite 0x30 0 (evqAddr s) (recordBytes r) s = (false, v) →
        (queueRecord r s).flag F.EVQ_CTRL_EN = false ∧ (queueRecord r s).evq.queue = [] ∧ (queueRecord r s).mem = v.mem) := by
  refine ⟨queueRecord_written, fun h => ?_⟩
  rw [queueRecord_failed h]
  obtain ⟨hflag, hq, hmem⟩ := failedQueue_frame r v
  exact ⟨hflag, hq, hmem⟩

theorem eventRecordWrite_spec (s : State) : (s.flag F.EVQ_CTRL_EN = false → exec .eventRecordWrite s = .next s)
      ∧ (s.flag F.EVQ_CTRL_EN = true → s.evq.queue = [] → (evqFull s = true ∨ s.evq.lost = none) → exec .eventRecordWrite s = .next s)
      ∧ (∀ r rest, s.flag F.EVQ_CTRL_EN = true → s.evq.queue = r :: rest → let u := s.setEvq { s.evq with queue := rest }
        (evqFull s = true → exec .eventRecordWrite s = .next (dropRecord r u))
        ∧ (evqFull s = false → s.evq.lost = none → exec .eventRecordWrite s = .next (queueRecord r u)))
      ∧ ∀ l, s.flag F.EVQ_CTRL_EN = true → evqFull s = false → s.evq.lost = some l → ∃ x u, exec .eventRecordWrite s = .next (queueRecord x u) ∧ u.mem = s.mem
        ∧ x.code = 1 ∧ x.oid = 0x30 ∧ x.sev = 1 ∧ x.a0 = l.count ∧ x.a1 = l.sev ∧ x.a2 = l.first ∧ x.a3 = l.last := by
  rw [exec_eventRecordWrite]
  unfold execEventRecordWrite
  refine ⟨fun h => by rw [h]; rfl, fun h hq hf => ?_, fun r rest h hq => ⟨fun hf => ?_, fun hf hl => ?_⟩, fun l h hf hl => ?_⟩
  · rw [h, hq]
    rcases hf with hf | hf
    · rw [hf]; rfl
    · rw [hf]; cases evqFull s <;> rfl
  · rw [h, hf, hq]; rfl
  · rw [h, hf, hl, hq]; rfl
  · rw [h, hf, hl]
    exact ⟨_, _, rfl, ((eventStep_setEvq _ _).trans (eventStep_enterHist _ _ _)).mem, rfl, rfl, rfl, rfl, rfl, rfl, rfl⟩

end Sys2Proof.Machine
end

section
/-! The post-mortem dump: the sections' places, the start and the end of a dump (R529 to R534). -/

namespace Sys2Proof.Machine

/-! ### Bytes that a write leaves -/

theorem bytes_wrBytes_in (s : State) {a i n : Nat} {bs : List Byte} (h : i + n ≤ bs.length) :
    (s.wrBytes a bs).bytes (a + i) n = (bs.drop i).take n := by
  have hlen : ((s.wrBytes a bs).bytes (a + i) n).length = n := by unfold State.bytes; rw [List.length_map, List.length_range]
  refine List.ext_getElem ?_ fun k h1 h2 => ?_
  · rw [hlen, List.length_take, List.length_drop]
    omega
  · rw [hlen] at h1
    have hget : ((s.wrBytes a bs).bytes (a + i) n)[k] = (s.wrBytes a bs).byte (a + i + k) := by
      simp only [State.bytes, List.getElem_map, List.getElem_range]
    rw [hget, byte_wrBytes, if_pos (by omega), List.getElem_take, List.getElem_drop, show a + i + k - a = i + k by omega,
      List.getD_eq_getElem _ _ (by omega)]

theorem bytes_congr {s t : State} {a n : Nat} (h : ∀ k < n, t.byte (a + k) = s.byte (a + k)) : t.bytes a n = s.bytes a n :=
  List.map_congr_left fun k hk => h k (List.mem_range.1 hk)

theorem byte_wrBytes_out (s : State) {a b : Nat} {bs : List Byte} (h : b < a ∨ a + bs.length ≤ b) : (s.wrBytes a bs).byte b = s.byte b := by
  rw [byte_wrBytes, if_neg (by omega)]

theorem bytes_wrBytes_out (s : State) {a b n : Nat} {bs : List Byte} (h : b + n ≤ a ∨ a + bs.length ≤ b) :
    (s.wrBytes a bs).bytes b n = s.bytes b n :=
  bytes_congr fun k hk => byte_wrBytes_out s (by omega)

/-- The piece at place `k` of pieces of one length. -/
theorem flatMap_piece {α : Type} {l : List α} {f : α → List Byte} {n : Nat} (h : ∀ x ∈ l, (f x).length = n) (k : Nat) (hk : k < l.length) :
    ((l.flatMap f).drop (n * k)).take n = f l[k] := by
  induction l generalizing k with
  | nil => exact absurd hk (Nat.not_lt_zero _)
  | cons x l ih =>
    have hx : (f x).length = n := h x List.mem_cons_self
    have hl : ∀ y ∈ l, (f y).length = n := fun y hy => h y (List.mem_cons_of_mem _ hy)
    rw [List.flatMap_cons]
    cases k with
    | zero => rw [Nat.mul_zero, List.drop_zero, List.take_left' hx]; rfl
    | succ k =>
      rw [Nat.mul_succ, List.drop_append, List.drop_of_length_le (by omega), List.nil_append, hx, Nat.add_sub_cancel]
      exact ih hl k (Nat.lt_of_succ_lt_succ hk)

theorem length_flatMap_pieces {α : Type} {l : List α} {f : α → List Byte} {n : Nat} (h : ∀ x ∈ l, (f x).length = n) :
    (l.flatMap f).length = n * l.length := by
  induction l with
  | nil => rfl
  | cons x l ih =>
    rw [List.flatMap_cons, List.length_append, h x List.mem_cons_self, ih fun y hy => h y (List.mem_cons_of_mem _ hy), List.length_cons, Nat.mul_succ,
      Nat.add_comm]

theorem fillTo_length (n : Nat) (l : List Byte) : (fillTo n l).length = n := by
  unfold fillTo
  rw [List.length_append, List.length_take, List.length_replicate]
  omega

/-! ### The sections (R294, R531) -/

section
variable (s : State)

theorem regBytes_length (off : Nat) : (regBytes s off).length = 4 := leBytes_length _ _

theorem watchEntry_length (tgt ring place : Nat) : (watchEntry tgt ring place).length = 8 := by
  unfold watchEntry
  simp only [List.length_append, leBytes_length, List.length_cons, List.length_nil]

theorem queueWatch_length (c : Nat) (q : QName) (place : Nat) : (queueWatch s c q place).length = 8 := by
  unfold queueWatch
  split
  · split
    · exact watchEntry_length _ _ _
    · exact List.length_replicate
  · exact List.length_replicate

theorem coreWatches_length (c : Nat) : (coreWatches s c).length = 40 := by
  unfold coreWatches
  simp only [List.length_append, queueWatch_length]
  split
  · split
    · rw [watchEntry_length]
    · rw [List.length_replicate]
  · rw [List.length_replicate]

/-- The values of the rings of the cores. -/
def coreRingBytes : List Byte := (List.range 6).flatMap fun c => (List.range 256).flatMap fun r => regBytes s (Reg.CRN_RING c r)

/-- The values of the global rings. -/
def globalRingBytes : List Byte := (List.range 1024).flatMap fun r => regBytes s (Reg.GRN_VAL (r / 128) (r % 128))

theorem bankBytes_length (c : Nat) : ((List.range 256).flatMap fun r => regBytes s (Reg.CRN_RING c r)).length = 1024 := by
  rw [length_flatMap_pieces fun r _ => regBytes_length s _, List.length_range]

theorem coreRingBytes_length : (coreRingBytes s).length = 6144 := by
  unfold coreRingBytes
  rw [length_flatMap_pieces fun c _ => bankBytes_length s c, List.length_range]

theorem globalRingBytes_length : (globalRingBytes s).length = 4096 := by
  unfold globalRingBytes
  rw [length_flatMap_pieces fun r _ => regBytes_length s _, List.length_range]

theorem take_drop_take (l : List Byte) {i n m : Nat} (h : i + n ≤ m) : ((l.take m).drop i).take n = (l.drop i).take n := by
  rw [List.drop_take, List.take_take, min_eq_left (by omega)]

theorem coreRingBytes_at {c r : Nat} (hc : c < 6) (hr : r < 256) :
    ((coreRingBytes s).drop (4 * (256 * c + r))).take 4 = regBytes s (Reg.CRN_RING c r) := by
  have hbank := flatMap_piece (l := List.range 6) (fun c _ => bankBytes_length s c) c (by rwa [List.length_range])
  have hring := flatMap_piece (l := List.range 256) (fun r _ => regBytes_length s (Reg.CRN_RING c r)) r (by rwa [List.length_range])
  rw [List.getElem_range] at hbank hring
  rw [← hring, ← hbank, take_drop_take _ (by omega), List.drop_drop]
  unfold coreRingBytes
  congr 2
  omega

theorem globalRingBytes_at {r : Nat} (hr : r < 1024) : ((globalRingBytes s).drop (4 * r)).take 4 = regBytes s (Reg.GRN_VAL (r / 128) (r % 128)) := by
  have h := flatMap_piece (l := List.range 1024) (fun r _ => regBytes_length s (Reg.GRN_VAL (r / 128) (r % 128))) r (by rwa [List.length_range])
  rwa [List.getElem_range] at h

/-- What follows the rings in the ring section. -/
def ringTail : List Byte :=
  ((List.range 6).flatMap fun c => coreWatches s c) ++ List.replicate 16 0
    ++ fillTo 0x800 ((owedTable s).flatMap fun o => leBytes 2 o.1 ++ leBytes 1 o.2.1 ++ leBytes 1 o.2.2.1 ++ leBytes 4 o.2.2.2)

theorem ringTail_length : (ringTail s).length = 2304 := by
  unfold ringTail
  rw [List.length_append, List.length_append, length_flatMap_pieces fun c _ => coreWatches_length s c, List.length_range, List.length_replicate,
    fillTo_length]

/-- The head of the ring section. -/
def ringHead (stopped : Nat) : List Byte := leBytes 8 (recTime s.ns) ++ leBytes 1 (127 ^^^ (stopped % 128)) ++ List.replicate 55 0

theorem ringHead_length (stopped : Nat) : (ringHead s stopped).length = 64 := by
  unfold ringHead
  simp only [List.length_append, leBytes_length, List.length_replicate]

theorem ringSection_eq (stopped : Nat) : ringSection stopped s = ringHead s stopped ++ (coreRingBytes s ++ (globalRingBytes s ++ ringTail s)) := by
  unfold ringSection ringHead coreRingBytes globalRingBytes ringTail
  simp only [List.append_assoc]

theorem ctxEntry_length (c : Nat) : (ctxEntry s c).length = 32 := by
  unfold ctxEntry
  simp only [List.length_append, leBytes_length, regBytes_length]

theorem unitEntry_length (u cyc : Nat) : (unitEntry s u cyc).length = 32 := fillTo_length _ _

end

/-- The sections that follow the ring section. -/
def laterSections (f : Nat) (s : State) : List Byte :=
  ((List.range 64).flatMap fun c => ctxEntry s c) ++ ((List.range 16).flatMap fun u => unitEntry s u (Config.freeValue (f + u))) ++ queueSection s
    ++ safetySection s

theorem laterSections_length (f : Nat) (s : State) : (laterSections f s).length = 3968 := by
  unfold laterSections
  rw [List.length_append, List.length_append, List.length_append, length_flatMap_pieces fun c _ => ctxEntry_length s c,
    length_flatMap_pieces fun u _ => unitEntry_length s u _, List.length_range, List.length_range]
  unfold queueSection safetySection
  rw [fillTo_length, fillTo_length]

/-- What a dump captures. -/
def captured (banks : Nat) (s : State) : List Byte :=
  ringHead s banks ++ (coreRingBytes s ++ (globalRingBytes s ++ (ringTail s ++ laterSections s.free s)))

theorem captured_length (banks : Nat) (s : State) : (captured banks s).length = 0x40C0 := by
  unfold captured
  simp only [List.length_append, ringHead_length, coreRingBytes_length, globalRingBytes_length, ringTail_length, laterSections_length]

theorem captureSections_eq (slot banks : Nat) (s : State) :
    captureSections slot banks s = dumpWrite (slotBase slot + 0x40) (captured banks s) { s with free := s.free + 16 } := by
  unfold captureSections captured laterSections
  rw [ringSection_eq]
  simp only [List.append_assoc]

theorem captured_coreRing (banks : Nat) (s : State) {c r : Nat} (hc : c < 6) (hr : r < 256) :
    ((captured banks s).drop (0x40 + 4 * (256 * c + r))).take 4 = regBytes s (Reg.CRN_RING c r) := by
  unfold captured
  rw [List.drop_append, ringHead_length, List.drop_of_length_le (by rw [ringHead_length]; omega), List.nil_append, Nat.add_sub_cancel_left,
    List.drop_append_of_le_length (by rw [coreRingBytes_length]; omega),
    List.take_append_of_le_length (by rw [List.length_drop, coreRingBytes_length]; omega), coreRingBytes_at s hc hr]

theorem captured_globalRing (banks : Nat) (s : State) {r : Nat} (hr : r < 1024) :
    ((captured banks s).drop (0x1840 + 4 * r)).take 4 = regBytes s (Reg.GRN_VAL (r / 128) (r % 128)) := by
  unfold captured
  rw [List.drop_append, ringHead_length, List.drop_of_length_le (by rw [ringHead_length]; omega), List.nil_append,
    List.drop_append, coreRingBytes_length, List.drop_of_length_le (by rw [coreRingBytes_length]; omega), List.nil_append,
    show 0x1840 + 4 * r - 64 - 6144 = 4 * r by omega,
    List.drop_append_of_le_length (by rw [globalRingBytes_length]; omega),
    List.take_append_of_le_length (by rw [List.length_drop, globalRingBytes_length]; omega), globalRingBytes_at s hr]

/-! ### The start of a dump -/

theorem last_lt (s : State) : s.fld F.EVQ_DUMPSTAT_LAST < 2 := fld_lt s F.EVQ_DUMPSTAT_LAST

theorem dumpSlot_spec {s : State} {k : Nat} (h : dumpSlot s = some k) : s.flag (holdField k) = false ∧ k < 2 := by
  have hl := last_lt s
  unfold dumpSlot at h
  dsimp only at h
  split at h
  · rename_i hf
    obtain rfl := Option.some.inj h
    exact ⟨by simpa using hf, by omega⟩
  · split at h
    · rename_i hf
      obtain rfl := Option.some.inj h
      exact ⟨by simpa using hf, by omega⟩
    · exact absurd h (by simp)

theorem dumpSlot_none {s : State} (h0 : s.flag F.EVQ_DUMPSTAT_HOLD0 = true) (h1 : s.flag F.EVQ_DUMPSTAT_HOLD1 = true) : dumpSlot s = none := by
  have hk (k : Nat) : s.flag (holdField k) = true := by unfold holdField; split <;> assumption
  unfold dumpSlot
  simp only [hk, Bool.not_true, Bool.false_eq_true, if_false]

/-- An event below severity 3 starts no dump. -/
theorem acceptEv_of_minor {e : EvRec} (s : State) (h : e.sev < 3) :
    acceptEv e s = (enterHist (s.flag F.EVQ_CTRL_EN && decide (min (s.fld F.EVQ_FILT_MINSEV) 4 ≤ e.sev)) e s).2 := by
  have hr : (enterHist (s.flag F.EVQ_CTRL_EN && decide (min (s.fld F.EVQ_FILT_MINSEV) 4 ≤ e.sev)) e s).1.sev = e.sev := rfl
  unfold acceptEv
  dsimp only
  rw [if_neg, if_neg]
  · simp only [hr, Bool.and_eq_true, decide_eq_true_eq]; omega
  · simp only [hr, Bool.and_eq_true, decide_eq_true_eq]; omega

theorem shedOldest_dump (hist : List EvRec) (r : EvRec) (s : State) :
    (shedOldest hist r s).evq.dump = s.evq.dump ∧ (shedOldest hist r s).evq.want = s.evq.want ∧ (shedOldest hist r s).evq.held = s.evq.held := by
  have hd (r : EvRec) (s : State) := dropRecord_evq r s
  unfold shedOldest
  split
  · exact ⟨rfl, rfl, rfl⟩
  · split
    · split
      · exact ⟨(congrArg Evq.dump (hd _ _) :), (congrArg Evq.want (hd _ _) :), (congrArg Evq.held (hd _ _) :)⟩
      · exact ⟨rfl, rfl, rfl⟩
    · exact ⟨rfl, rfl, rfl⟩

/-- What an event below severity 3 keeps of the dump and of the registers below the Bough cores. -/
theorem raise_minor_dump {e : EvRec} (s : State) (h : e.sev < 2) :
    (raise e s).evq.dump = s.evq.dump ∧ (raise e s).evq.want = s.evq.want ∧ (raise e s).mem = s.mem ∧ LastEvent (raise e s) e.code e.oid
      ∧ ∀ f : RegField, f.reg < 0x2B0204 → f.reg ≠ 0x40018 → f.reg ≠ 0x4001C → (raise e s).fld f = s.fld f := by
  rw [raise_of_minor s h]
  refine ⟨?_, ?_, (eventStep_acceptEv e s).mem, lastEvent_acceptEv e s, fun f hf h1 h2 => ?_⟩
  · rw [acceptEv_of_minor s (by omega), enterHist_eq]
    exact (shedOldest_dump _ _ _).1
  · rw [acceptEv_of_minor s (by omega), enterHist_eq]
    exact (shedOldest_dump _ _ _).2.1
  · rw [acceptEv_of_minor s (by omega), enterHist_eq]
    dsimp only
    rw [fld_shedOldest _ _ _ hf h2]
    exact fld_put_reg s F.EVQ_SEQ_SEQ f _ h1

theorem dumpOver_mem (s : State) : (dumpOver s).mem = s.mem := rfl
theorem dumpOver_dump (s : State) : (dumpOver s).evq.dump = none := rfl

theorem dumpWrite_of {s : State} (h : wiping s = false) (a : Nat) (bs : List Byte) : dumpWrite a bs s = s.wrBytes a bs := by
  unfold dumpWrite
  rw [h]
  rfl

theorem dumpWrite_regs (a : Nat) (bs : List Byte) (s : State) : (dumpWrite a bs s).regs = s.regs ∧ (dumpWrite a bs s).evq = s.evq := by
  unfold dumpWrite
  split <;> exact ⟨rfl, rfl⟩

theorem byte_dumpWrite_out {a b : Nat} {bs : List Byte} (s : State) (h : b < a ∨ a + bs.length ≤ b) : (dumpWrite a bs s).byte b = s.byte b := by
  unfold dumpWrite
  split
  · rfl
  · exact byte_wrBytes_out s h

/-- The header of a dump that has started. -/
def startHeader (banks secs : Nat) : List Byte := fillTo 64 (List.replicate 28 0 ++ leBytes 1 (dumpValid banks secs))

theorem startHeader_zero (banks secs : Nat) : (startHeader banks secs).take 28 = List.replicate 28 0 := by
  unfold startHeader fillTo
  rw [List.take_append_of_le_length (by simp [leBytes_length]), List.take_take, List.take_append_of_le_length (by simp)]
  rfl

/-- The state whose rings and units a dump captures. -/
def dumpBegun (t : DumpTrig) (k : Nat) (s : State) : State :=
  ((s.setEvq { s.evq with want := none }).setEvq { { s.evq with want := none } with dump := some ⟨t, k, s.elapsed, s.ns⟩ }).put F.EVQ_DUMPSTAT_BUSY 1

theorem startDump_eq {t : DumpTrig} {k : Nat} (banks secs : Nat) {s : State} (hk : dumpSlot s = some k) (hw : wiping s = false) :
    startDump t banks secs s = captureSections k banks (dumpWrite (slotBase k) (startHeader banks secs) (dumpBegun t k s)) := by
  have hk' : dumpSlot (s.setEvq { s.evq with want := none }) = some k := hk
  have hw' : wiping (s.setEvq { s.evq with want := none }) = false := hw
  unfold startDump
  simp only [hk', hw', Bool.false_eq_true, if_false]
  rfl

theorem wiping_begun (t : DumpTrig) (k : Nat) (s : State) : wiping (dumpBegun t k s) = wiping s :=
  flag_put_reg _ _ _ _ (by decide)

theorem startDump_fails {t : DumpTrig} (banks secs : Nat) {s : State} (h0 : s.flag F.EVQ_DUMPSTAT_HOLD0 = true) (h1 : s.flag F.EVQ_DUMPSTAT_HOLD1 = true) :
    startDump t banks secs s = dumpFailed 1 t.trig (dumpOver (s.setEvq { s.evq with want := none })) := by
  have hk : dumpSlot (s.setEvq { s.evq with want := none }) = none := dumpSlot_none h0 h1
  unfold startDump
  simp only [hk]

/-- The dump that starts in slot `k`. -/
theorem startDump_spec {trig : DumpTrig} {k : Nat} (banks secs : Nat) {s : State} (hk : dumpSlot s = some k) (hw : wiping s = false) :
    let t := startDump trig banks secs s
    t.evq.dump = some ⟨trig, k, s.elapsed, s.ns⟩ ∧ t.evq.want = none ∧ t.flag F.EVQ_DUMPSTAT_BUSY = true
      ∧ (∀ a, a < slotBase k ∨ slotBase k + 0x8000 ≤ a → t.byte a = s.byte a) ∧ t.bytes (slotBase k) 28 = List.replicate 28 0
      ∧ (∀ c < 6, ∀ r < 256, t.bytes (slotBase k + 0x80 + 4 * (256 * c + r)) 4 = leBytes 4 (s.reg (Reg.CRN_RING c r)).toNat)
      ∧ ∀ r < 1024, t.bytes (slotBase k + 0x1880 + 4 * r) 4 = leBytes 4 (s.reg (Reg.GRN_VAL (r / 128) (r % 128))).toNat := by
  intro t
  generalize hbase : slotBase k = base
  have hwb := (wiping_begun trig k s).trans hw
  obtain ⟨b, hb⟩ : ∃ b, b = dumpBegun trig k s := ⟨_, rfl⟩
  obtain ⟨u, hu⟩ : ∃ u, u = b.wrBytes base (startHeader banks secs) := ⟨_, rfl⟩
  have hwu : wiping { u with free := u.free + 16 } = false := by rw [hu, hb]; exact hwb
  have ht : t = ({ u with free := u.free + 16 } : State).wrBytes (base + 0x40) (captured banks u) := by
    have h := startDump_eq (t := trig) banks secs hk hw
    rw [dumpWrite_of hwb, captureSections_eq, hbase, ← hb, ← hu, dumpWrite_of hwu] at h
    exact h
  have hlen : (startHeader banks secs).length = 64 := fillTo_length _ _
  have hclen := captured_length banks u
  have hreg {o : Nat} (h : o ≠ 0x40038) : u.reg o = s.reg o := by
    rw [hu, hb]
    exact reg_put_ne _ F.EVQ_DUMPSTAT_BUSY _ h
  have hbyte (a : Nat) (h : a < base ∨ base + 0x40 ≤ a) : ({ u with free := u.free + 16 } : State).byte a = s.byte a := by
    show u.byte a = _
    rw [hu, byte_wrBytes_out _ (by omega), hb]
    rfl
  refine ⟨?_, ?_, ?_, fun a ha => ?_, ?_, fun c hc r hr => ?_, fun r hr => ?_⟩
  · rw [ht, hu, hb]; rfl
  · rw [ht, hu, hb]; rfl
  · rw [ht, hu, hb]; exact flag_put_one _ (by decide) (by decide)
  · rw [ht, byte_wrBytes_out _ (by omega), hbyte a (by omega)]
  · rw [ht, bytes_wrBytes_out _ (by omega)]
    show u.bytes base 28 = _
    rw [hu, ← startHeader_zero banks secs]
    exact bytes_wrBytes_in b (a := base) (i := 0) (by omega)
  · rw [ht, show base + 0x80 + 4 * (256 * c + r) = base + 0x40 + (0x40 + 4 * (256 * c + r)) by omega, bytes_wrBytes_in _ (by omega),
      captured_coreRing banks u hc hr]
    unfold regBytes
    rw [hreg (by unfold Reg.CRN_RING; omega)]
  · rw [ht, show base + 0x1880 + 4 * r = base + 0x40 + (0x1840 + 4 * r) by omega, bytes_wrBytes_in _ (by omega), captured_globalRing banks u hr]
    unfold regBytes
    rw [hreg (by unfold Reg.GRN_VAL; omega)]

theorem dumpStart_spec (trig : DumpTrig) (banks : BitVec 7) (secs : BitVec 6) (s : State) (hd : s.evq.dump = none) (hw : s.evq.want = some trig) :
    exec (.dumpStart false banks secs) s = .next (startDump trig banks.toNat secs.toNat s) := by
  rw [exec_dumpStart]
  unfold execDump
  simp only [Bool.false_eq_true, if_false, hd, hw]

theorem dumpStart_idle (banks : BitVec 7) (secs : BitVec 6) (s : State) (h : s.evq.dump ≠ none ∨ s.evq.want = none) :
    exec (.dumpStart false banks secs) s = .next s := by
  rw [exec_dumpStart]
  unfold execDump
  simp only [Bool.false_eq_true, if_false]
  split
  · rename_i h1 h2
    rw [h1, h2] at h
    simp at h
  · rfl

theorem dumpStart_held (banks : BitVec 7) (secs : BitVec 6) (s : State) (hd : s.evq.dump = none) (hw : s.evq.want ≠ none)
    (h0 : s.flag F.EVQ_DUMPSTAT_HOLD0 = true) (h1 : s.flag F.EVQ_DUMPSTAT_HOLD1 = true) :
    ∃ t, exec (.dumpStart false banks secs) s = .next t ∧ LastEvent t 0x0003 0x3F ∧ t.evq.dump = none ∧ t.mem = s.mem := by
  obtain ⟨trig, ht⟩ := Option.ne_none_iff_exists'.1 hw
  obtain ⟨e, he⟩ : ∃ e : EvRec, e = { code := 0x0003, oid := 0x3F, sev := 1, a0 := 1, a1 := trig.trig } := ⟨_, rfl⟩
  have hfail : startDump trig banks.toNat secs.toNat s = raise e (dumpOver (s.setEvq { s.evq with want := none })) := by
    rw [startDump_fails _ _ h0 h1, he]; rfl
  obtain ⟨hdump, -, hmem, hlast, -⟩ := raise_minor_dump (e := e) (dumpOver (s.setEvq { s.evq with want := none })) (by rw [he]; exact Nat.one_lt_two)
  refine ⟨_, dumpStart_spec trig banks secs s hd ht, ?_⟩
  rw [hfail]
  refine ⟨?_, hdump, hmem⟩
  rw [he] at hlast ⊢
  exact hlast

end Sys2Proof.Machine
end

section
/-! The end of a dump (R530 to R533), and O59. -/

namespace Sys2Proof.Machine

/-- The state before a complete dump writes its header: the history stands, the dump is counted. -/
def dumpCounted (d : DumpRun) (s : State) : State :=
  ((dumpWrite (slotBase d.slot + 0x4100) (historySection s) s).incHold F.EVQ_DUMPSTAT_COUNT).put F.EVQ_DUMPSTAT_LAST d.slot

/-- The header that a complete dump writes. -/
def doneHeader (d : DumpRun) (s : State) : List Byte :=
  dumpHeader d (s.byte (slotBase d.slot + 28)).toNat ((dumpCounted d s).fld F.EVQ_DUMPSTAT_COUNT)
    (crc32c ((dumpCounted d s).bytes (slotBase d.slot + 0x40) 0x48C0))

/-- The slot of a dump that was not asked for is held. -/
def dumpKept (d : DumpRun) (s : State) : State := if d.trig.trig ≤ 2 then s.put (holdField d.slot) 1 else s

/-- The event of a complete dump. -/
def dumpDone (d : DumpRun) (ns : BitVec 32) (s : State) : EvRec :=
  { code := 0x0002, oid := 0x3F, a0 := d.slot, a1 := d.trig.trig, a2 := ns.toNat, a3 := (dumpCounted d s).fld F.EVQ_DUMPSTAT_COUNT }

theorem execDumpComplete_eq {d : DumpRun} (ns : BitVec 32) {s : State} (h : s.evq.dump = some d) :
    exec (.dumpComplete ns) s =
      .next (raise (dumpDone d ns s) (dumpOver (dumpKept d (dumpWrite (slotBase d.slot) (doneHeader d s) (dumpCounted d s))))) := by
  rw [exec_dumpComplete]
  unfold execDumpComplete
  rw [h]
  rfl

theorem holdField_reg (k : Nat) : (holdField k).reg = 0x40038 := by unfold holdField; split <;> rfl

theorem holdField_place {k : Nat} (h : k < 2) : (holdField k).lo = 2 + k ∧ (holdField k).hi = 2 + k := by
  interval_cases k <;> exact ⟨rfl, rfl⟩

/-- A field of DUMPSTAT that is not the hold bit of slot `k`. -/
theorem flag_hold_put {k : Nat} (hk : k < 2) (s : State) {f : RegField} (v : Nat) (h : f.lo ≤ f.hi) (hh : f.hi < 32) (hf : f.hi < 2 ∨ 4 ≤ f.lo) :
    (s.put f v).flag (holdField k) = s.flag (holdField k) := by
  obtain ⟨hlo, hhi⟩ := holdField_place hk
  exact flag_put_apart s f _ v h hh (by omega)

section
variable {d : DumpRun} (s : State)

theorem dumpCounted_fields (hd : d.slot < 2) :
    (dumpCounted d s).fld F.EVQ_DUMPSTAT_LAST = d.slot ∧ (dumpCounted d s).fld F.EVQ_DUMPSTAT_COUNT = min (s.fld F.EVQ_DUMPSTAT_COUNT + 1) 0xFFFF
      ∧ (dumpCounted d s).flag (holdField d.slot) = s.flag (holdField d.slot) ∧ (dumpCounted d s).evq = s.evq := by
  obtain ⟨a, ha⟩ : ∃ a, a = dumpWrite (slotBase d.slot + 0x4100) (historySection s) s := ⟨_, rfl⟩
  obtain ⟨hregs, hevq⟩ := dumpWrite_regs (slotBase d.slot + 0x4100) (historySection s) s
  rw [← ha] at hregs hevq
  have hfld (f : RegField) : a.fld f = s.fld f := by unfold State.fld; rw [reg_of_regs hregs]
  have hhold : (a.incHold F.EVQ_DUMPSTAT_COUNT).flag (holdField d.slot) = s.flag (holdField d.slot) := by
    have hsame : a.flag (holdField d.slot) = s.flag (holdField d.slot) := by unfold State.flag; rw [hfld]
    unfold State.incHold
    split
    · rw [flag_hold_put hd _ _ (by decide) (by decide) (.inr (by decide)), hsame]
    · exact hsame
  unfold dumpCounted
  rw [← ha]
  refine ⟨fld_put_fits _ _ (by decide) (by decide) hd, ?_, ?_, ?_⟩
  · rw [fld_put_apart _ _ _ _ (by decide) (by decide) (.inr (by decide)), fld_incHold _ _ (by decide) (by decide), hfld]
    rfl
  · rw [flag_hold_put hd _ _ (by decide) (by decide) (.inl (by decide)), hhold]
  · exact (evq_incHold _ _).trans hevq

theorem byte_dumpCounted_out {a : Nat} (h : a < slotBase d.slot + 0x4100 ∨ slotBase d.slot + 0x4900 ≤ a) : (dumpCounted d s).byte a = s.byte a := by
  have hlen : (historySection s).length = 0x800 := fillTo_length _ _
  have hinc (t : State) : (t.incHold F.EVQ_DUMPSTAT_COUNT).byte a = t.byte a := by unfold State.incHold; split <;> rfl
  unfold dumpCounted
  exact (hinc _).trans (byte_dumpWrite_out s (by omega))

theorem dumpCounted_history (hw : wiping s = false) : (dumpCounted d s).bytes (slotBase d.slot + 0x4100) 0x800 = historySection s := by
  have hlen : (historySection s).length = 0x800 := fillTo_length _ _
  have hinc (t : State) (b n : Nat) : (t.incHold F.EVQ_DUMPSTAT_COUNT).bytes b n = t.bytes b n := by unfold State.incHold; split <;> rfl
  unfold dumpCounted
  rw [State.put_bytes, hinc, dumpWrite_of hw]
  have h := bytes_wrBytes_in s (a := slotBase d.slot + 0x4100) (i := 0) (n := 0x800) (bs := historySection s) (by omega)
  rw [Nat.add_zero, List.drop_zero, List.take_of_length_le (le_of_eq hlen)] at h
  exact h

theorem wiping_dumpCounted : wiping (dumpCounted d s) = wiping s := by
  unfold dumpCounted wiping
  rw [flag_put_reg _ _ _ _ (by decide)]
  unfold State.flag
  rw [fld_incHold_reg _ _ _ (by decide)]
  unfold State.fld
  rw [reg_of_regs (dumpWrite_regs _ _ s).1]

theorem dumpKept_frame : (dumpKept d s).mem = s.mem ∧ (dumpKept d s).evq = s.evq := by
  unfold dumpKept
  split <;> exact ⟨rfl, rfl⟩

theorem dumpKept_fields (hd : d.slot < 2) : (dumpKept d s).fld F.EVQ_DUMPSTAT_LAST = s.fld F.EVQ_DUMPSTAT_LAST
    ∧ (dumpKept d s).fld F.EVQ_DUMPSTAT_COUNT = s.fld F.EVQ_DUMPSTAT_COUNT
    ∧ ((dumpKept d s).flag (holdField d.slot) = true ↔ s.flag (holdField d.slot) = true ∨ d.trig.trig ≤ 2) := by
  obtain ⟨hlo, hhi⟩ := holdField_place hd
  unfold dumpKept
  split
  · rename_i h
    refine ⟨fld_put_apart _ _ _ _ (by omega) (by omega) (.inl ?_), fld_put_apart _ _ _ _ (by omega) (by omega) (.inr ?_), ?_⟩
    · show 1 < (holdField d.slot).lo; omega
    · show (holdField d.slot).hi < 16; omega
    · rw [flag_put_one s (by omega) (by omega)]
      simp [h]
  · rename_i h
    exact ⟨rfl, rfl, by simp [h]⟩

theorem dumpOver_fields (hd : d.slot < 2) : (dumpOver s).flag F.EVQ_DUMPSTAT_BUSY = false
    ∧ (dumpOver s).fld F.EVQ_DUMPSTAT_LAST = s.fld F.EVQ_DUMPSTAT_LAST ∧ (dumpOver s).fld F.EVQ_DUMPSTAT_COUNT = s.fld F.EVQ_DUMPSTAT_COUNT
    ∧ (dumpOver s).flag (holdField d.slot) = s.flag (holdField d.slot)
    ∧ (s.evq.want = none → (dumpOver s).evq.want = s.evq.held) := by
  unfold dumpOver
  generalize ofBool (s.evq.want.isSome && s.evq.held.isSome) = b
  refine ⟨?_, ?_, ?_, ?_, fun h => ?_⟩
  · rw [flag_put_apart _ _ _ _ (by decide) (by decide) (by decide)]
    exact flag_put_zero _ (by decide) (by decide)
  · rw [fld_put_apart _ _ _ _ (by decide) (by decide) (by decide), fld_put_apart _ _ _ _ (by decide) (by decide) (by decide)]
    rfl
  · rw [fld_put_apart _ _ _ _ (by decide) (by decide) (by decide), fld_put_apart _ _ _ _ (by decide) (by decide) (by decide)]
    rfl
  · rw [flag_hold_put hd _ _ (by decide) (by decide) (.inr (by decide)), flag_hold_put hd _ _ (by decide) (by decide) (.inl (by decide))]
    rfl
  · show s.evq.want.or s.evq.held = s.evq.held
    rw [h]
    rfl

end

/-- The header's fixed first part. -/
theorem dumpHeader_eq (d : DumpRun) (valid count crc : Nat) : dumpHeader d valid count crc =
    (leBytes 4 0x504D5544 ++ leBytes 2 1 ++ leBytes 1 d.trig.trig ++ [1]) ++ ((leBytes 8 (recTime d.startNs) ++ leBytes 2 d.trig.code
      ++ leBytes 2 d.trig.seq ++ leBytes 4 0x4900 ++ leBytes 4 count) ++ (leBytes 1 valid ++ (List.replicate 3 0 ++ (leBytes 4 crc
      ++ List.replicate 28 0)))) := by
  unfold dumpHeader fillTo
  rw [List.take_of_length_le (by simp [leBytes_length])]
  simp only [List.length_append, leBytes_length, List.length_replicate, List.length_cons, List.length_nil, List.append_assoc]

theorem dumpHeader_length (d : DumpRun) (valid count crc : Nat) : (dumpHeader d valid count crc).length = 64 := fillTo_length _ _

theorem dumpHeader_parts (d : DumpRun) (valid count crc : Nat) :
    (dumpHeader d valid count crc).take 8 = leBytes 4 0x504D5544 ++ leBytes 2 1 ++ leBytes 1 d.trig.trig ++ [1]
      ∧ ((dumpHeader d valid count crc).drop 28).take 1 = leBytes 1 valid ∧ ((dumpHeader d valid count crc).drop 32).take 4 = leBytes 4 crc := by
  rw [dumpHeader_eq]
  have h1 : (leBytes 4 0x504D5544 ++ leBytes 2 1 ++ leBytes 1 d.trig.trig ++ [1]).length = 8 := by
    simp only [List.length_append, leBytes_length, List.length_cons, List.length_nil]
  have h2 : (leBytes 8 (recTime d.startNs) ++ leBytes 2 d.trig.code ++ leBytes 2 d.trig.seq ++ leBytes 4 0x4900 ++ leBytes 4 count).length = 20 := by
    simp only [List.length_append, leBytes_length]
  refine ⟨List.take_left' h1, ?_, ?_⟩
  · rw [show 28 = 8 + 20 from rfl, ← List.drop_drop, List.drop_left' h1, List.drop_left' h2, List.take_left' (leBytes_length _ _)]
  · rw [show 32 = 8 + (20 + (1 + 3)) from rfl, ← List.drop_drop, List.drop_left' h1, ← List.drop_drop, List.drop_left' h2, ← List.drop_drop,
      List.drop_left' (leBytes_length _ _), List.drop_left' List.length_replicate, List.take_left' (leBytes_length _ _)]

theorem dumpComplete_spec {d : DumpRun} (ns : BitVec 32) {s : State} (hdump : s.evq.dump = some d) (hd : d.slot < 2) :
    ∃ t, exec (.dumpComplete ns) s = .next t ∧ t.evq.dump = none ∧ t.flag F.EVQ_DUMPSTAT_BUSY = false
        ∧ t.fld F.EVQ_DUMPSTAT_LAST = d.slot ∧ t.fld F.EVQ_DUMPSTAT_COUNT = min (s.fld F.EVQ_DUMPSTAT_COUNT + 1) 0xFFFF ∧ LastEvent t 0x0002 0x3F
        ∧ (t.flag (holdField d.slot) = true ↔ s.flag (holdField d.slot) = true ∨ d.trig.trig ≤ 2)
        ∧ (∀ a, a < slotBase d.slot ∨ slotBase d.slot + 0x8000 ≤ a → t.byte a = s.byte a)
        ∧ (s.evq.want = none → t.evq.want = s.evq.held)
        ∧ (wiping s = false → t.bytes (slotBase d.slot) 8 = leBytes 4 0x504D5544 ++ leBytes 2 1 ++ leBytes 1 d.trig.trig ++ [1]
          ∧ t.byte (slotBase d.slot + 28) = s.byte (slotBase d.slot + 28) ∧ t.bytes (slotBase d.slot + 0x4100) 0x800 = historySection s
          ∧ t.bytes (slotBase d.slot + 32) 4 = leBytes 4 (crc32c (t.bytes (slotBase d.slot + 0x40) 0x48C0))) := by
  obtain ⟨c, hc⟩ : ∃ c, c = dumpCounted d s := ⟨_, rfl⟩
  obtain ⟨w, hw⟩ : ∃ w, w = dumpWrite (slotBase d.slot) (doneHeader d s) c := ⟨_, rfl⟩
  obtain ⟨e, he⟩ : ∃ e, e = dumpDone d ns s := ⟨_, rfl⟩
  have hsev : e.sev < 2 := by rw [he]; exact Nat.zero_lt_two
  have hcode : e.code = 0x0002 ∧ e.oid = 0x3F := by rw [he]; exact ⟨rfl, rfl⟩
  obtain ⟨hlast, hcount, hhold, hcevq⟩ := dumpCounted_fields (d := d) s hd
  rw [← hc] at hlast hcount hhold hcevq
  obtain ⟨hwregs, hwevq⟩ := dumpWrite_regs (slotBase d.slot) (doneHeader d s) c
  rw [← hw] at hwregs hwevq
  have hwfld (f : RegField) : w.fld f = c.fld f := by unfold State.fld; rw [reg_of_regs hwregs]
  have hwflag (f : RegField) : w.flag f = c.flag f := by unfold State.flag; rw [hwfld]
  obtain ⟨hkmem, hkevq⟩ := dumpKept_frame (d := d) w
  obtain ⟨hklast, hkcount, hkhold⟩ := dumpKept_fields w hd
  obtain ⟨hobusy, holast, hocount, hohold, howant⟩ := dumpOver_fields (dumpKept d w) hd
  obtain ⟨hrdump, hrwant, hrmem, hrlast, hrfld⟩ := raise_minor_dump (e := e) (dumpOver (dumpKept d w)) hsev
  generalize ht : raise e (dumpOver (dumpKept d w)) = t at hrdump hrwant hrmem hrlast hrfld
  have hreg (f : RegField) (hf : f.reg = 0x40038) : t.fld f = (dumpOver (dumpKept d w)).fld f :=
    hrfld f (by omega) (by omega) (by omega)
  have hflag (f : RegField) (hf : f.reg = 0x40038) : t.flag f = (dumpOver (dumpKept d w)).flag f := by unfold State.flag; rw [hreg f hf]
  have hmem : t.mem = w.mem := hrmem.trans ((dumpOver_mem _).trans hkmem)
  have hbyte (a : Nat) : t.byte a = w.byte a := by unfold State.byte; rw [hmem]
  have hbytes (a n : Nat) : t.bytes a n = w.bytes a n := bytes_congr fun k _ => hbyte _
  have hlen : (doneHeader d s).length = 64 := dumpHeader_length _ _ _ _
  refine ⟨t, ?_, hrdump.trans (dumpOver_dump _), (hflag _ rfl).trans hobusy, ?_, ?_, ?_, ?_, fun a ha => ?_, fun hwant => ?_, fun hwip => ?_⟩
  · rw [execDumpComplete_eq ns hdump, ← hc, ← hw, ← he, ht]
  · rw [hreg _ rfl, holast, hklast, hwfld, hlast]
  · rw [hreg _ rfl, hocount, hkcount, hwfld, hcount]
  · rw [← hcode.1, ← hcode.2]; exact hrlast
  · rw [hflag _ (holdField_reg _), hohold, hkhold, hwflag, hhold]
  · rw [hbyte, hw, byte_dumpWrite_out _ (by omega), hc, byte_dumpCounted_out _ (by omega)]
  · rw [hrwant, howant (by rw [hkevq, hwevq, hcevq, hwant]), hkevq, hwevq, hcevq]
  · have hwc : wiping c = false := by rw [hc, wiping_dumpCounted, hwip]
    have hww : w = c.wrBytes (slotBase d.slot) (doneHeader d s) := by rw [hw, dumpWrite_of hwc]
    obtain ⟨h8, hvalid, hcrc⟩ := dumpHeader_parts d (s.byte (slotBase d.slot + 28)).toNat ((dumpCounted d s).fld F.EVQ_DUMPSTAT_COUNT)
      (crc32c ((dumpCounted d s).bytes (slotBase d.slot + 0x40) 0x48C0))
    have hhead (i n : Nat) (h : i + n ≤ 64) : t.bytes (slotBase d.slot + i) n = ((doneHeader d s).drop i).take n := by
      rw [hbytes, hww]; exact bytes_wrBytes_in c (by omega)
    refine ⟨(hhead 0 8 (by decide)).trans h8, ?_, ?_, (hhead 32 4 (by decide)).trans (hcrc.trans ?_)⟩
    · have h := (hhead 28 1 (by decide)).trans hvalid
      have hone : t.bytes (slotBase d.slot + 28) 1 = [t.byte (slotBase d.slot + 28)] := rfl
      rw [hone] at h
      have hb : leBytes 1 (s.byte (slotBase d.slot + 28)).toNat = [s.byte (slotBase d.slot + 28)] := by
        show [BitVec.ofNat 8 _] = _
        rw [BitVec.ofNat_toNat, BitVec.setWidth_eq]
      rw [hb] at h
      exact List.singleton_inj.1 h
    · rw [hbytes, hww, bytes_wrBytes_out _ (by omega), hc, dumpCounted_history s hwip]
    · rw [hbytes, hww, bytes_wrBytes_out _ (by omega), hc]

/-- Settles O59, clause by clause: supplies, loops, Strict mode, the event queue and the dump. -/
theorem powerEventsAndDumps : Obligations.PowerEventsAndDumps := by
  unfold Obligations.PowerEventsAndDumps
  refine ⟨fun mv bat s => ⟨powerPathSwitch_spec mv bat s, retentionLoss_spec mv s⟩, vbatLowDetect_spec, fun d slack s =>
      ⟨fun h => voltageStep_fixed slack s h, voltageStep_spec d slack s⟩, serdesAdaptation_spec, fun thermal choice s hc =>
      ⟨fun d hd => domFreq_chooseFreq thermal s (hc _) hd, chooseFreq_mem thermal s (hc _), chooseFreq_evq thermal s (hc _),
        (chooseFreq_spec thermal s (hc _)).1, (chooseFreq_spec thermal s (hc _)).2⟩, fun pw slack s h1 h2 h3 => ?_,
    fun pw slack s h => capDecision_strict h, thermalSample_spec, thermalTrip_spec, strictWrite_spec, recordBytes_spec, acceptEv_spec,
    eventRecordWrite_spec, fun r s v => ?_, notify_spec, coalesceExpiry_spec, fun trig s =>
      ⟨(dumpTrigger_spec trig s).1, (dumpTrigger_spec trig s).2, rfl⟩, fun banks secs s => ?_, fun ns s => ⟨fun h => ?_, fun d h hd => dumpComplete_spec ns h hd⟩⟩
  · obtain ⟨t, ht, hp, hf, hd, hfl, hm, h5, h6⟩ := capDecision_spec (pw := pw) (slack := slack) h1 h2 h3
    refine ⟨t, ht, hp, hf.trans ?_, hd, hfl, hm, h5, h6⟩
    unfold capStep
    grind
  · obtain ⟨hw, hf⟩ := queueRecord_spec r s v
    exact ⟨hw, hf, dropRecord_spec r s⟩
  · refine ⟨rfl, dumpStart_idle banks secs s, fun hd hw h0 h1 => dumpStart_held banks secs s hd hw h0 h1, fun k trig hd hw hk hwip => ?_⟩
    obtain ⟨hhold, hlt⟩ := dumpSlot_spec hk
    exact ⟨hhold, hlt, _, dumpStart_spec trig banks secs s hd hw, startDump_spec _ _ hk hwip⟩
  · rw [exec_dumpComplete]
    unfold execDumpComplete
    rw [h]

end Sys2Proof.Machine
end

section
/-! The Bough pairs: the state of a pair, its loss, and what an event leaves of it (R455, R461, R464). -/

namespace Sys2Proof.Machine

/-! ### The state word of a pair -/

section
variable (p st : Nat) (s : State)

theorem put_of (s : State) (f : RegField) (v : Nat) : ∃ r, s.put f v = { s with regs := r } := ⟨_, rfl⟩

theorem showSafe_of : ∃ r, showSafe p s = { s with regs := r } := ⟨_, rfl⟩

theorem setPair_of : ∃ r, setPair p st s = { s with regs := r } := ⟨_, rfl⟩

theorem reg_showSafe {o : Nat} (h : o ≠ Reg.BGH_PAIR_STAT p) : (showSafe p s).reg o = s.reg o := reg_put_ne _ _ _ h

theorem reg_setPair {o : Nat} (h : o ≠ Reg.BGH_PAIR_STAT p) : (setPair p st s).reg o = s.reg o :=
  (reg_showSafe p _ h).trans (reg_put_ne _ _ _ h)

theorem fld_setPair_reg {f : RegField} (h : f.reg ≠ Reg.BGH_PAIR_STAT p) : (setPair p st s).fld f = s.fld f := by
  unfold State.fld
  rw [reg_setPair p st s h]

theorem flag_setPair_reg {f : RegField} (h : f.reg ≠ Reg.BGH_PAIR_STAT p) : (setPair p st s).flag f = s.flag f := by
  unfold State.flag
  rw [fld_setPair_reg p st s h]

/-- The fields of the state word above SAFE. -/
theorem fld_setPair {f : RegField} (h : 3 < f.lo) : (setPair p st s).fld f = s.fld f := by
  unfold setPair showSafe
  rw [fld_put_apart _ _ _ _ (by show 3 ≤ 3; decide) (by show 3 < 32; decide) (.inr h),
    fld_put_apart _ _ _ _ (by show 0 ≤ 2; decide) (by show 2 < 32; decide) (.inr (by show 2 < f.lo; omega))]

theorem flag_setPair {f : RegField} (h : 3 < f.lo) : (setPair p st s).flag f = s.flag f := by
  unfold State.flag
  rw [fld_setPair p st s h]

theorem pairState_showSafe : pairState (showSafe p s) p = pairState s p :=
  fld_put_apart _ _ _ _ (by show 3 ≤ 3; decide) (by show 3 < 32; decide) (.inl (by show 2 < 3; decide))

theorem pairState_setPair {st : Nat} (h : st < 8) : pairState (setPair p st s) p = st := by
  unfold setPair
  rw [pairState_showSafe]
  exact fld_put_fits s _ (by show 0 ≤ 2; decide) (by show 2 < 32; decide) h

theorem safe_showSafe : (showSafe p s).flag (F.BGH_PAIR_STAT_SAFE p) =
    ((pairState s p = bgLockstep || pairState s p = bgSplitting) && !(s.flag (F.BGH_PAIR_CFG_AGREE p)) && !(s.flag (F.BGH_PAIR_STAT_AGFAIL p))) :=
  flag_put_ofBool _ rfl (by show 3 < 32; decide) _

/-- SAFE after the pair enters a state. -/
theorem safe_setPair {st : Nat} (h : st < 8) : (setPair p st s).flag (F.BGH_PAIR_STAT_SAFE p) =
    ((st = bgLockstep || st = bgSplitting) && !(s.flag (F.BGH_PAIR_CFG_AGREE p)) && !(s.flag (F.BGH_PAIR_STAT_AGFAIL p))) := by
  have hst : pairState (s.put (F.BGH_PAIR_STAT_STATE p) st) p = st := fld_put_fits s _ (by show 0 ≤ 2; decide) (by show 2 < 32; decide) h
  unfold setPair
  rw [safe_showSafe, hst, flag_put_reg _ _ (F.BGH_PAIR_CFG_AGREE p) _ (by show 0x2B0104 + 0x20 * p ≠ 0x2B0108 + 0x20 * p; omega),
    flag_put_apart _ _ (F.BGH_PAIR_STAT_AGFAIL p) _ (by show 0 ≤ 2; decide) (by show 2 < 32; decide) (.inr (by show 2 < 5; decide))]

end

/-- The state of another pair. -/
theorem pairState_of_reg {s t : State} (q : Nat) (h : t.reg (Reg.BGH_PAIR_STAT q) = s.reg (Reg.BGH_PAIR_STAT q)) : pairState t q = pairState s q := by
  show slice (t.reg (Reg.BGH_PAIR_STAT q)).toNat 2 0 = slice (s.reg (Reg.BGH_PAIR_STAT q)).toNat 2 0
  rw [h]

/-! ### Events of a pair -/

/-- An event whose severity or source tears nothing down is only accepted. -/
theorem raise_accepted {e : EvRec} (s : State) (h2 : e.sev ≠ 2) (h3 : e.sev = 3 → ¬ (0x10 ≤ e.oid ∧ e.oid ≤ 0x15) ∧ e.oid ≠ 0x18) :
    raise e s = acceptEv e s := by
  unfold raise
  dsimp only
  rw [if_neg h2, if_neg, if_neg]
  · rintro h
    simp only [Bool.and_eq_true, decide_eq_true_eq] at h
    exact (h3 h.1).2 h.2
  · rintro h
    simp only [Bool.and_eq_true, decide_eq_true_eq] at h
    exact (h3 h.1.1).1 ⟨h.1.2, h.2⟩

theorem bghEvent_spec (code sev p a1 a2 a3 : Nat) (s : State) (h : sev ≠ 2) :
    EventStep s (bghEvent code sev p a1 a2 a3 s) ∧ LastEvent (bghEvent code sev p a1 a2 a3 s) code (0x28 + p) := by
  unfold bghEvent
  rw [raise_accepted s h fun _ => ⟨by show ¬ (0x10 ≤ 0x28 + p ∧ 0x28 + p ≤ 0x15); omega, by show 0x28 + p ≠ 0x18; omega⟩]
  exact ⟨eventStep_acceptEv _ _, lastEvent_acceptEv _ _⟩

theorem not_evReg_pairStat {p : Nat} (hp : p < 4) : ¬ EvReg (Reg.BGH_PAIR_STAT p) := by
  unfold EvReg Reg.BGH_PAIR_STAT
  omega

theorem EventStep.pairState {s t : State} (h : EventStep s t) {p : Nat} (hp : p < 4) : pairState t p = pairState s p :=
  pairState_of_reg p (h.reg _ (not_evReg_pairStat hp))

/-! ### Lines lost -/

section
variable (p : Nat) (s : State)

/-- One dirty line of a lost pair, as a free choice leaves it. -/
def loseLine (s : State) (d : DirtyLine) : State := if s.freeNat.1 % 2 = 0 then s.freeNat.2 else s.freeNat.2.wrBytes d.line d.was

/-- Lines lost one by one. -/
def loseEach (l : List DirtyLine) (s : State) : State := l.foldl loseLine s

theorem loseLines_eq : loseLines p s = cleanCore (2 * p) (cleanCore (2 * p + 1) (loseEach (s.memsys.dirty.filter (·.core / 2 = p)) s)) := rfl

theorem loseLine_of (d : DirtyLine) : ∃ m ms f, loseLine s d = { s with mem := m, memsys := ms, free := f } := by
  unfold loseLine
  split <;> exact ⟨_, _, _, rfl⟩

theorem loseLine_dirty (d : DirtyLine) : (loseLine s d).memsys.dirty = s.memsys.dirty := by
  unfold loseLine
  split <;> rfl

theorem byte_loseLine (d : DirtyLine) (a : Nat) : (loseLine s d).byte a = s.byte a ∨ (d.line ≤ a ∧ a < d.line + d.was.length) := by
  unfold loseLine
  split
  · exact .inl rfl
  · by_cases h : d.line ≤ a ∧ a < d.line + d.was.length
    · exact .inr h
    · left
      rw [byte_wrBytes, if_neg h]
      rfl

/-- Losing lines changes memory and uses free values, nothing else. -/
theorem loseEach_of (l : List DirtyLine) : ∃ m ms f, loseEach l s = { s with mem := m, memsys := ms, free := f } := by
  unfold loseEach
  induction l generalizing s with
  | nil => exact ⟨_, _, _, rfl⟩
  | cons d l ih =>
    obtain ⟨m, ms, f, h⟩ := loseLine_of s d
    obtain ⟨m', ms', f', h'⟩ := ih (loseLine s d)
    rw [h] at h'
    rw [List.foldl_cons, h]
    exact ⟨m', ms', f', h'⟩

theorem loseEach_dirty (l : List DirtyLine) : (loseEach l s).memsys.dirty = s.memsys.dirty := by
  unfold loseEach
  induction l generalizing s with
  | nil => rfl
  | cons d l ih => rw [List.foldl_cons, ih, loseLine_dirty]

theorem byte_loseEach (l : List DirtyLine) (a : Nat) :
    (loseEach l s).byte a = s.byte a ∨ ∃ d ∈ l, d.line ≤ a ∧ a < d.line + d.was.length := by
  unfold loseEach
  induction l generalizing s with
  | nil => exact .inl rfl
  | cons d l ih =>
    rw [List.foldl_cons]
    rcases ih (loseLine s d) with h | ⟨e, he, hin⟩
    · rcases byte_loseLine s d a with h' | h'
      · exact .inl (h.trans h')
      · exact .inr ⟨d, List.mem_cons_self, h'⟩
    · exact .inr ⟨e, List.mem_cons_of_mem _ he, hin⟩

theorem loseLines_of : ∃ m ms f, loseLines p s = { s with mem := m, memsys := ms, free := f } := by
  obtain ⟨m, ms, f, h⟩ := loseEach_of s (s.memsys.dirty.filter (·.core / 2 = p))
  rw [loseLines_eq, h]
  exact ⟨_, _, _, rfl⟩

theorem byte_loseLines (a : Nat) :
    (loseLines p s).byte a = s.byte a ∨ ∃ d ∈ s.memsys.dirty, d.core / 2 = p ∧ d.line ≤ a ∧ a < d.line + d.was.length := by
  rw [loseLines_eq]
  rcases byte_loseEach s (s.memsys.dirty.filter (·.core / 2 = p)) a with h | ⟨d, hd, hin⟩
  · exact .inl h
  · obtain ⟨hd, hp⟩ := List.mem_filter.1 hd
    exact .inr ⟨d, hd, by simpa using hp, hin⟩

theorem dirty_loseLines (d : DirtyLine) : d ∈ (loseLines p s).memsys.dirty ↔ d ∈ s.memsys.dirty ∧ d.core / 2 ≠ p := by
  rw [loseLines_eq]
  unfold cleanCore
  simp only [State.setMs_memsys, List.mem_filter, loseEach_dirty, decide_eq_true_eq, ne_eq]
  constructor
  · rintro ⟨⟨h, h1⟩, h2⟩
    exact ⟨h, by omega⟩
  · rintro ⟨h, hp⟩
    exact ⟨⟨h, by omega⟩, by omega⟩

theorem loseLines_mem_of_clean (h : s.memsys.dirty = []) : (loseLines p s).mem = s.mem := by
  rw [loseLines_eq, h]
  rfl

/-! ### The loss of a pair (R464) -/

theorem bghPair_modPair (f : BghPair → BghPair) : bghPair (modPair p f s) p = f (bghPair s p) := spGet_spSet_self _ _ _ _

theorem pairState_modPair (f : BghPair → BghPair) (q : Nat) : pairState (modPair p f s) q = pairState s q := modPair_fld s p f _

theorem bghPair_modPair_ne (f : BghPair → BghPair) {q : Nat} (h : q ≠ p) : bghPair (modPair p f s) q = bghPair s q := spGet_spSet_ne _ _ _ _ _ h

/-- The lost pair's state word: the state, then PARKED clear. -/
def lostWord (s : State) : State := (setPair p bgLost s).put (F.BGH_PAIR_STAT_PARKED p) 0

theorem losePair_eq : losePair p s = modPair p (fun x => { x with passed := false }) (lostWord p (loseLines p s)) := rfl

theorem reg_lostWord {o : Nat} (h : o ≠ Reg.BGH_PAIR_STAT p) : (lostWord p s).reg o = s.reg o :=
  (reg_put_ne _ _ _ h).trans (reg_setPair p _ s h)

theorem lostWord_of : ∃ r, lostWord p s = { s with regs := r } := by
  obtain ⟨r, h⟩ := setPair_of p bgLost s
  unfold lostWord
  rw [h]
  exact ⟨_, rfl⟩

theorem lostWord_fields : pairState (lostWord p s) p = bgLost ∧ (lostWord p s).flag (F.BGH_PAIR_STAT_SAFE p) = false
    ∧ (lostWord p s).flag (F.BGH_PAIR_STAT_PARKED p) = false := by
  unfold lostWord
  refine ⟨?_, ?_, flag_put_zero _ rfl (by show 4 < 32; decide)⟩
  · refine (fld_put_apart _ _ _ _ (by show 4 ≤ 4; decide) (by show 4 < 32; decide) (.inl (by show 2 < 4; decide))).trans ?_
    exact pairState_setPair p s (by decide)
  · rw [flag_put_apart _ _ _ _ (by show 4 ≤ 4; decide) (by show 4 < 32; decide) (.inl (by show 3 < 4; decide)), safe_setPair p s (by decide)]
    rfl

theorem reg_loseLines (o : Nat) : (loseLines p s).reg o = s.reg o :=
  reg_of_regs (by obtain ⟨m, ms, f, h⟩ := loseLines_of p s; rw [h]) o

theorem reg_losePair {o : Nat} (h : o ≠ Reg.BGH_PAIR_STAT p) : (losePair p s).reg o = s.reg o := by
  rw [losePair_eq, modPair_reg, reg_lostWord p _ h, reg_loseLines]

theorem losePair_mem : (losePair p s).mem = (loseLines p s).mem := by
  obtain ⟨r, h⟩ := lostWord_of p (loseLines p s)
  rw [losePair_eq, h]
  rfl
theorem losePair_memsys : (losePair p s).memsys = (loseLines p s).memsys := by
  obtain ⟨r, h⟩ := lostWord_of p (loseLines p s)
  rw [losePair_eq, h]
  rfl

theorem losePair_mem_of_clean (h : s.memsys.dirty = []) : (losePair p s).mem = s.mem := (losePair_mem p s).trans (loseLines_mem_of_clean p s h)

theorem pairState_losePair : pairState (losePair p s) p = bgLost := by
  rw [losePair_eq, pairState_modPair]
  exact (lostWord_fields p _).1

end

theorem losePair_spec (p : Fin 4) (s : State) : let u := losePair p s
      pairState u p = bgLost ∧ (bghPair u p).passed = false ∧ u.flag (F.BGH_PAIR_STAT_SAFE p) = false ∧ u.flag (F.BGH_PAIR_STAT_PARKED p) = false
      ∧ RegsOnly [Reg.BGH_PAIR_STAT p] { s with bgh := u.bgh, mem := u.mem, memsys := u.memsys, free := u.free } u
      ∧ (∀ a, u.byte a = s.byte a ∨ ∃ d ∈ s.memsys.dirty, d.core / 2 = p.val ∧ d.line ≤ a ∧ a < d.line + d.was.length)
      ∧ (∀ d, d ∈ u.memsys.dirty ↔ d ∈ s.memsys.dirty ∧ d.core / 2 ≠ p.val)
      ∧ ∀ q : Fin 4, q ≠ p → pairState u q = pairState s q ∧ bghPair u q = bghPair s q := by
  intro u
  obtain ⟨w, hw⟩ : ∃ w, w = lostWord p (loseLines p s) := ⟨_, rfl⟩
  have hu : u = modPair p (fun x => { x with passed := false }) w := by rw [hw]; rfl
  obtain ⟨hst, hsafe, hpark⟩ := lostWord_fields p (loseLines p s)
  rw [← hw] at hst hsafe hpark
  have hof : ∃ r m ms f, w = { s with regs := r, mem := m, memsys := ms, free := f } := by
    obtain ⟨m, ms, f, h⟩ := loseLines_of p s
    obtain ⟨r, h'⟩ := lostWord_of p (loseLines p s)
    rw [hw, h', h]
    exact ⟨_, _, _, _, rfl⟩
  obtain ⟨r, m, ms, f, hof⟩ := hof
  refine ⟨by rw [hu, pairState_modPair, hst], by rw [hu, bghPair_modPair], by rw [hu, modPair_flag, hsafe], by rw [hu, modPair_flag, hpark], ⟨?_, fun o ho => ?_⟩, fun a => ?_, fun d => ?_,
    fun q hq => ?_⟩
  · rw [hu, hof]; rfl
  · exact reg_losePair p s (by simpa using ho)
  · have hb : u.byte a = (loseLines p s).byte a := by unfold State.byte; exact congrArg (spGet 0 · a) (losePair_mem p s)
    rw [hb]
    exact byte_loseLines p s a
  · have hm : u.memsys = (loseLines p s).memsys := losePair_memsys p s
    rw [hm]
    exact dirty_loseLines p s d
  · have hne : q.val ≠ p.val := fun h => hq (Fin.ext h)
    refine ⟨pairState_of_reg q (reg_losePair p s ?_), ?_⟩
    · unfold Reg.BGH_PAIR_STAT; omega
    · have h1 : bghPair w q = bghPair s q := by
        have hb : w.bgh = s.bgh := by rw [hof]
        unfold bghPair
        rw [hb]
      rw [hu, bghPair_modPair_ne p w _ hne, h1]

end Sys2Proof.Machine
end

section
/-! The Bough pairs: split, join, self-test, comparator, commands (R457 to R465). -/

namespace Sys2Proof.Machine

theorem bghCore_set_self (c : Nat) (k : BghCore) (s : State) : bghCore (setBghCore c k s) c = k := spGet_spSet_self _ _ _ _

theorem bghCore_set_ne {c d : Nat} (k : BghCore) (s : State) (h : d ≠ c) : bghCore (setBghCore c k s) d = bghCore s d := spGet_spSet_ne _ _ _ _ _ h

theorem bghCore_congr {s t : State} (h : t.bghCore = s.bghCore) (c : Nat) : bghCore t c = bghCore s c := by unfold bghCore; rw [h]

theorem setPair_bghCore (p st : Nat) (s : State) : (setPair p st s).bghCore = s.bghCore := by
  obtain ⟨r, h⟩ := setPair_of p st s
  rw [h]

theorem setPair_memsys (p st : Nat) (s : State) : (setPair p st s).memsys = s.memsys := by
  obtain ⟨r, h⟩ := setPair_of p st s
  rw [h]

theorem setPair_mem (p st : Nat) (s : State) : (setPair p st s).mem = s.mem := by
  obtain ⟨r, h⟩ := setPair_of p st s
  rw [h]

theorem dirty_cleanCore (c : Nat) (s : State) (d : DirtyLine) : d ∈ (cleanCore c s).memsys.dirty ↔ d ∈ s.memsys.dirty ∧ d.core ≠ c := by
  unfold cleanCore
  simp only [State.setMs_memsys, List.mem_filter, decide_eq_true_eq, ne_eq]

/-! ### Split and join (R461 to R463) -/

section
variable (p : Fin 4) (s : State)

/-- The registers of core 2p + 1 at a split: nothing pending, the pair's context. -/
def followerRegs (p : Nat) (s : State) : State :=
  let s := s.put (F.BGH_CORE_IPEND_PEND (2 * p + 1)) 0
  s.put (F.BGH_CORE_STAT_CTX (2 * p + 1)) (s.fld (F.BGH_CORE_STAT_CTX (2 * p)))

theorem followerRegs_of (p : Nat) (s : State) : ∃ r, followerRegs p s = { s with regs := r } := ⟨_, rfl⟩

theorem reg_followerRegs (p : Nat) (s : State) {o : Nat} (h1 : o ≠ Reg.BGH_CORE_IPEND (2 * p + 1)) (h2 : o ≠ Reg.BGH_CORE_STAT (2 * p + 1)) :
    (followerRegs p s).reg o = s.reg o := (reg_put_ne _ _ _ h2).trans (reg_put_ne _ _ _ h1)

theorem ctx_followerRegs (p : Nat) (s : State) :
    (followerRegs p s).fld (F.BGH_CORE_STAT_CTX (2 * p + 1)) = s.fld (F.BGH_CORE_STAT_CTX (2 * p)) := by
  have hold : (s.put (F.BGH_CORE_IPEND_PEND (2 * p + 1)) 0).fld (F.BGH_CORE_STAT_CTX (2 * p)) = s.fld (F.BGH_CORE_STAT_CTX (2 * p)) :=
    fld_put_reg _ _ _ _ (by show 0x2B0200 + 0x20 * (2 * p) ≠ 0x2B0204 + 0x20 * (2 * p + 1); omega)
  unfold followerRegs
  dsimp only
  rw [hold]
  exact fld_put_fits _ _ (by show 0 ≤ 5; decide) (by show 5 < 32; decide) (fld_lt s (F.BGH_CORE_STAT_CTX (2 * p)))

theorem pend_followerRegs (p : Nat) (s : State) : (followerRegs p s).fld (F.BGH_CORE_IPEND_PEND (2 * p + 1)) = 0 := by
  unfold followerRegs
  dsimp only
  rw [fld_put_reg _ _ _ _ (by show 0x2B0204 + 0x20 * (2 * p + 1) ≠ 0x2B0200 + 0x20 * (2 * p + 1); omega)]
  exact fld_put_fits _ _ (by show 0 ≤ 31; decide) (by show 31 < 32; decide) (Nat.two_pow_pos _)

/-- The leader's state at core 2p + 1, but for what is pending. -/
def leaderCopy (p : Nat) (s : State) : BghCore := { bghCore s (2 * p) with csr := spSet 0 csrMip 0 (bghCore s (2 * p)).csr }

theorem copyLeader_eq (p : Nat) (s : State) : copyLeader p s = cleanCore (2 * p) (setBghCore (2 * p + 1) (leaderCopy p s) s) := rfl

theorem splitComplete_eq (lines ns : BitVec 32) (h : pairState s p = bgSplitting) : exec (.splitComplete p lines ns) s =
    .next (bghEvent 0xB004 0 p lines.toNat ns.toNat 0 (setPair p bgSplit (copyLeader p (followerRegs p s)))) := by
  rw [exec_splitComplete]
  unfold execSplitComplete
  dsimp only
  rw [if_neg (by rw [h]; simp)]
  rfl

theorem splitComplete_spec (lines ns : BitVec 32) :
    (pairState s p ≠ bgSplitting → exec (.splitComplete p lines ns) s = .next s)
      ∧ (pairState s p = bgSplitting → ∃ u, exec (.splitComplete p lines ns) s = .next (bghEvent 0xB004 0 p lines.toNat ns.toNat 0 u)
        ∧ RegsOnly [Reg.BGH_PAIR_STAT p, Reg.BGH_CORE_IPEND (2 * p.val + 1), Reg.BGH_CORE_STAT (2 * p.val + 1)] { s with bghCore := u.bghCore, memsys := u.memsys } u
        ∧ pairState u p = bgSplit ∧ u.flag (F.BGH_PAIR_STAT_SAFE p) = false ∧ u.fld (F.BGH_CORE_IPEND_PEND (2 * p.val + 1)) = 0
        ∧ (let k := bghCore s (2 * p)
          bghCore u (2 * p) = k ∧ bghCore u (2 * p + 1) = { k with csr := (bghCore u (2 * p + 1)).csr }
          ∧ ∀ n, spGet 0 (bghCore u (2 * p + 1)).csr n = if n = csrMip then 0 else spGet 0 k.csr n)
        ∧ (∀ d, d ∈ u.memsys.dirty ↔ d ∈ s.memsys.dirty ∧ d.core ≠ 2 * p.val)
        ∧ u.fld (F.BGH_CORE_STAT_CTX (2 * p.val + 1)) = s.fld (F.BGH_CORE_STAT_CTX (2 * p.val))) := by
  refine ⟨fun h => ?_, fun h => ⟨_, splitComplete_eq p s lines ns h, ?_⟩⟩
  · rw [exec_splitComplete]
    exact if_pos h
  obtain ⟨a, ha⟩ : ∃ a, a = followerRegs p s := ⟨_, rfl⟩
  obtain ⟨r, hr⟩ := followerRegs_of p s
  have hpend := pend_followerRegs p s
  have hctx := ctx_followerRegs p s
  have hreg {o : Nat} (h1 : o ≠ Reg.BGH_CORE_IPEND (2 * p + 1)) (h2 : o ≠ Reg.BGH_CORE_STAT (2 * p + 1)) := reg_followerRegs p s h1 h2
  rw [← ha] at hr hpend hctx hreg ⊢
  have hcore (c : Nat) : bghCore a c = bghCore s c := bghCore_congr (by rw [hr]) c
  have hdirty : a.memsys = s.memsys := by rw [hr]
  obtain ⟨b, hb⟩ : ∃ b, b = copyLeader p a := ⟨_, rfl⟩
  have hbreg : b.regs = a.regs := by rw [hb]; rfl
  have hbcore : b.bghCore = (setBghCore (2 * p + 1) (leaderCopy p a) a).bghCore := by rw [hb]; rfl
  have hlead : leaderCopy p a = { bghCore s (2 * p) with csr := spSet 0 csrMip 0 (bghCore s (2 * p)).csr } := by unfold leaderCopy; rw [hcore]
  rw [← hb]
  obtain ⟨u, hu⟩ : ∃ u, u = setPair p bgSplit b := ⟨_, rfl⟩
  have hucore (c : Nat) : bghCore u c = bghCore (setBghCore (2 * p + 1) (leaderCopy p a) a) c := bghCore_congr (by rw [hu, setPair_bghCore, hbcore]) c
  have h1 : bghCore u (2 * p + 1) = { bghCore s (2 * p) with csr := spSet 0 csrMip 0 (bghCore s (2 * p)).csr } := by
    rw [hucore, bghCore_set_self, hlead]
  have hnot {o : Nat} (ho : o / 0x100 = 0x2B02) : o ≠ Reg.BGH_PAIR_STAT p := by
    have := p.isLt
    unfold Reg.BGH_PAIR_STAT
    omega
  rw [← hu]
  have hplt := p.isLt
  refine ⟨⟨?_, fun o ho => ?_⟩, by rw [hu]; exact pairState_setPair _ _ (by decide), ?_, ?_, ⟨?_, ?_, fun n => ?_⟩, fun d => ?_, ?_⟩
  · obtain ⟨r', hr'⟩ := setPair_of p bgSplit b
    rw [hu, hr', hb, hr]
    rfl
  · simp only [List.mem_cons, List.not_mem_nil, or_false, not_or] at ho
    obtain ⟨h1, h2, h3⟩ := ho
    rw [hu, reg_setPair _ _ _ h1, reg_of_regs hbreg, hreg h2 h3]
    rfl
  · rw [hu, safe_setPair _ _ (by decide)]
    rfl
  · rw [hu, fld_setPair_reg _ _ _ (hnot (by show (0x2B0204 + 0x20 * (2 * p.val + 1)) / 0x100 = 0x2B02; omega))]
    unfold State.fld at hpend ⊢
    rw [reg_of_regs hbreg, hpend]
  · rw [hucore, bghCore_set_ne _ _ (by omega), hcore]
  · rw [h1]
  · rw [h1]
    exact spGet_spSet 0 csrMip 0 (bghCore s (2 * p)).csr n
  · rw [hu, setPair_memsys, hb, copyLeader_eq, dirty_cleanCore, ← hdirty]
    rfl
  · rw [hu, fld_setPair_reg _ _ _ (hnot (by show (0x2B0200 + 0x20 * (2 * p.val + 1)) / 0x100 = 0x2B02; omega))]
    unfold State.fld at hctx ⊢
    rw [reg_of_regs hbreg, hctx]

/-- Core 2p + 1 takes the context of core 2p. -/
def contextShared (p : Nat) (s : State) : State := s.put (F.BGH_CORE_STAT_CTX (2 * p + 1)) (s.fld (F.BGH_CORE_STAT_CTX (2 * p)))

/-- The pair rejoins: core 2p + 1 starts from a fresh state. -/
def rejoined (p : Nat) (a : State) : State := (cleanCore (2 * p) (setBghCore (2 * p + 1) {} a)).put (F.BGH_PAIR_STAT_PARKED p) 0

theorem rejoined_of (p : Nat) (a : State) : ∃ r ms k, rejoined p a = { a with regs := r, memsys := ms, bghCore := k } := ⟨_, _, _, rfl⟩

theorem rejoined_core (p : Nat) (a : State) : bghCore (rejoined p a) (2 * p) = bghCore a (2 * p) := by
  have h : (rejoined p a).bghCore = (setBghCore (2 * p + 1) {} a).bghCore := rfl
  rw [bghCore_congr h, bghCore_set_ne _ _ (by omega)]

theorem dirty_rejoined (p : Nat) (a : State) {d : DirtyLine} (h : d ∈ (rejoined p a).memsys.dirty) : d.core ≠ 2 * p :=
  ((dirty_cleanCore (2 * p) (setBghCore (2 * p + 1) {} a) d).1 h).2

theorem reg_rejoined (p : Nat) (a : State) {o : Nat} (h : o ≠ Reg.BGH_PAIR_STAT p) : (rejoined p a).reg o = a.reg o := by
  unfold rejoined
  rw [reg_put_ne _ _ _ h]
  rfl

theorem parked_rejoined (p : Nat) (a : State) : (rejoined p a).flag (F.BGH_PAIR_STAT_PARKED p) = false :=
  flag_put_zero _ rfl (by show 4 < 32; decide)

theorem contextShared_of (p : Nat) (s : State) : ∃ r, contextShared p s = { s with regs := r } := ⟨_, rfl⟩

theorem ctx_contextShared (p : Nat) (s : State) : (contextShared p s).fld (F.BGH_CORE_STAT_CTX (2 * p + 1)) = s.fld (F.BGH_CORE_STAT_CTX (2 * p)) :=
  fld_put_fits s _ (by show 0 ≤ 5; decide) (by show 5 < 32; decide) (fld_lt s (F.BGH_CORE_STAT_CTX (2 * p)))

theorem joinComplete_eq (ns : BitVec 32) (h : pairState s p = bgJoining) :
    exec (.joinComplete p true ns) s = .next (bghEvent 0xB005 0 p ns.toNat 0 0 (setPair p bgLockstep (rejoined p (contextShared p s)))) := by
  rw [exec_joinComplete]
  unfold execJoinComplete
  dsimp only
  rw [if_neg (by rw [h]; simp)]
  rfl

theorem joinComplete_failed (ns : BitVec 32) (h : pairState s p = bgJoining) :
    exec (.joinComplete p false ns) s = .next (bghEvent 0xB009 3 p 4 0 0 (losePair p s)) := by
  rw [exec_joinComplete]
  unfold execJoinComplete
  dsimp only
  rw [if_neg (by rw [h]; simp)]
  rfl

theorem joinComplete_spec (ok : Bool) (ns : BitVec 32) :
    (pairState s p ≠ bgJoining → exec (.joinComplete p ok ns) s = .next s)
      ∧ (pairState s p = bgJoining → (∃ u, exec (.joinComplete p true ns) s = .next (bghEvent 0xB005 0 p ns.toNat 0 0 u)
          ∧ RegsOnly [Reg.BGH_PAIR_STAT p, Reg.BGH_CORE_STAT (2 * p.val + 1)] { s with bghCore := u.bghCore, memsys := u.memsys } u
          ∧ bghCore u (2 * p) = bghCore s (2 * p) ∧ (∀ d ∈ u.memsys.dirty, d.core ≠ 2 * p.val) ∧ pairState u p = bgLockstep ∧ u.flag (F.BGH_PAIR_STAT_PARKED p) = false
          ∧ u.fld (F.BGH_CORE_STAT_CTX (2 * p.val + 1)) = s.fld (F.BGH_CORE_STAT_CTX (2 * p.val)))
        ∧ exec (.joinComplete p false ns) s = .next (bghEvent 0xB009 3 p 4 0 0 (losePair p s))) := by
  refine ⟨fun h => by rw [exec_joinComplete]; exact if_pos h, fun h => ⟨⟨_, joinComplete_eq p s ns h, ?_⟩, joinComplete_failed p s ns h⟩⟩
  obtain ⟨a, ha⟩ : ∃ a, a = contextShared p s := ⟨_, rfl⟩
  obtain ⟨ra, hra⟩ := contextShared_of p s
  have hctx := ctx_contextShared p s
  rw [← ha] at hra hctx ⊢
  obtain ⟨r, ms, k, hr⟩ := rejoined_of p a
  have hcore := rejoined_core p a
  have hpark := parked_rejoined p a
  have hdirty (d : DirtyLine) := dirty_rejoined p a (d := d)
  have hreg {o : Nat} (h : o ≠ Reg.BGH_PAIR_STAT p) := reg_rejoined p a h
  generalize rejoined p a = b at hr hcore hpark hdirty hreg ⊢
  have hplt := p.isLt
  refine ⟨⟨?_, fun o ho => ?_⟩, ?_, fun d hd => ?_, pairState_setPair _ _ (by decide), ?_, ?_⟩
  · obtain ⟨r', hr'⟩ := setPair_of p bgLockstep b
    rw [hr', hr, hra]
  · simp only [List.mem_cons, List.not_mem_nil, or_false, not_or] at ho
    obtain ⟨h1, h2⟩ := ho
    rw [reg_setPair _ _ _ h1, hreg h1, ha]
    exact reg_put_ne _ _ _ h2
  · rw [bghCore_congr (setPair_bghCore _ _ _), hcore, hra]
    rfl
  · rw [setPair_memsys] at hd
    exact hdirty d hd
  · rw [flag_setPair _ _ _ (by show 3 < 4; decide), hpark]
  · have hne : (F.BGH_CORE_STAT_CTX (2 * p.val + 1)).reg ≠ Reg.BGH_PAIR_STAT p := by
      show 0x2B0200 + 0x20 * (2 * p.val + 1) ≠ 0x2B0108 + 0x20 * p.val; omega
    rw [fld_setPair_reg _ _ _ hne, ← hctx]
    unfold State.fld
    rw [hreg hne]

end

end Sys2Proof.Machine
end

section
/-! The Bough pairs: self-test, comparator, agreement, signatures, interrupts (R456 to R460, R464). -/

namespace Sys2Proof.Machine

/-! ### Repairs and uncorrectable words -/

/-- The registers that a report of the memory unit may write: those of its event, the counts of uncorrectable words and of spares. -/
def MemReg (o : Nat) : Prop := EvReg o ∨ o / 0x10000 = 6

theorem not_memReg_pairStat {p : Nat} (hp : p < 4) : ¬ MemReg (Reg.BGH_PAIR_STAT p) := by
  unfold MemReg EvReg Reg.BGH_PAIR_STAT
  omega

/-- From `s` to `t` the memory unit noted something: its own state, events and the registers of `MemReg` may differ. -/
structure MemNote (s t : State) : Prop where
  mem : t.mem = s.mem
  dirty : t.memsys.dirty = s.memsys.dirty
  reg : ∀ o, ¬ MemReg o → t.reg o = s.reg o
  pair : t.bgh = s.bgh

theorem MemNote.refl (s : State) : MemNote s s := ⟨rfl, rfl, fun _ _ => rfl, rfl⟩

theorem MemNote.trans {s t u : State} (h : MemNote s t) (g : MemNote t u) : MemNote s u :=
  ⟨g.mem.trans h.mem, g.dirty.trans h.dirty, fun o ho => (g.reg o ho).trans (h.reg o ho), g.pair.trans h.pair⟩

theorem MemNote.ofEvent {s t : State} (h : EventStep s t) : MemNote s t :=
  ⟨h.mem, congrArg MemSys.dirty h.memsys, fun o ho => h.reg o fun he => ho (.inl he), h.bgh⟩

theorem memNote_foldl {α : Type} (l : List α) (f : State → α → State) (h : ∀ s, ∀ x ∈ l, MemNote s (f s x)) (s : State) : MemNote s (l.foldl f s) := by
  induction l generalizing s with
  | nil => exact .refl _
  | cons x l ih => exact (h s x List.mem_cons_self).trans (ih (fun s y hy => h s y (List.mem_cons_of_mem _ hy)) _)

theorem memNote_incHold (s : State) {f : RegField} (h : MemReg f.reg) : MemNote s (s.incHold f) := by
  unfold State.incHold
  split
  · exact ⟨rfl, rfl, fun o ho => reg_put_ne _ _ _ fun e => ho (e ▸ h), rfl⟩
  · exact .refl _

/-- What a repair that may start leaves: a queued repair, or the report that no spare is left. -/
theorem memNote_startRepair (mac a trigger : Nat) (s : State) : MemNote s (startRepair mac a trigger s) := by
  unfold startRepair
  split
  · exact .refl _
  · split
    · rw [raise_of_minor _ (Nat.one_lt_two : 1 < 2)]
      exact (memNote_incHold s (f := F.MEM_RPLOG_EXH) (.inr rfl)).trans (.ofEvent (eventStep_acceptEv _ _))
    · exact ⟨rfl, rfl, fun _ _ => rfl, rfl⟩

/-- UECNT after a repair may have started. -/
theorem uecnt_startRepair (mac a trigger : Nat) (s : State) : (startRepair mac a trigger s).fld F.MEM_UECNT_CNT = s.fld F.MEM_UECNT_CNT := by
  have hne : ¬ EvReg F.MEM_UECNT_CNT.reg := by unfold EvReg F.MEM_UECNT_CNT; dsimp only; omega
  unfold startRepair
  split
  · rfl
  · split
    · rw [raise_of_minor _ (Nat.one_lt_two : 1 < 2), (eventStep_acceptEv _ _).fld hne, fld_incHold_reg _ _ _ (by decide)]
    · rfl

theorem memNote_marchFails (fails : List RowFail) (s : State) : MemNote s (marchFails fails s) := by
  unfold marchFails
  dsimp only
  refine (memNote_foldl _ _ (fun t f _ => memNote_startRepair _ _ _ t) s).trans (memNote_foldl _ _ (fun t f _ => ?_) _)
  refine .ofEvent ?_
  rw [raise_accepted]
  · exact eventStep_acceptEv _ _
  · dsimp only; split <;> decide
  · intro _
    exact ⟨by show ¬ (0x10 ≤ 0x38 ∧ 0x38 ≤ 0x15); decide, by show 0x38 ≠ 0x18; decide⟩

theorem MemNote.pairState {s t : State} (h : MemNote s t) {p : Nat} (hp : p < 4) : pairState t p = pairState s p :=
  pairState_of_reg p (h.reg _ (not_memReg_pairStat hp))

/-! ### The self-test -/

section
variable (p : Fin 4) (s : State)

theorem pairState_event {code sev p a1 a2 a3 : Nat} (hp : p < 4) (h : sev ≠ 2) (s : State) : pairState (bghEvent code sev p a1 a2 a3 s) p = pairState s p :=
  (bghEvent_spec code sev p a1 a2 a3 s h).1.pairState hp

/-- A pair that its report loses. -/
theorem lostReported {code a1 a2 a3 : Nat} (s : State) : pairState (bghEvent code 3 p a1 a2 a3 (losePair p s)) p = bgLost
    ∧ LastEvent (bghEvent code 3 p a1 a2 a3 (losePair p s)) code (0x28 + p.val)
    ∧ (s.memsys.dirty = [] → (bghEvent code 3 p a1 a2 a3 (losePair p s)).mem = s.mem) := by
  obtain ⟨hstep, hlast⟩ := bghEvent_spec code 3 p a1 a2 a3 (losePair p s) (by decide)
  refine ⟨(hstep.pairState p.isLt).trans (pairState_losePair p s), hlast, fun h => ?_⟩
  exact hstep.mem.trans (losePair_mem_of_clean p s h)

theorem pairSelftestComplete_spec (fails : List RowFail) :
    (pairState s p ≠ bgSelftest → (pairState s p ≠ bgQuarantine ∨ (bghPair s p).passed = true) → ∀ ok, exec (.pairSelftestComplete p fails ok) s = .next s)
      ∧ (pairState s p = bgSelftest →
        (∃ t, exec (.pairSelftestComplete p fails true) s = .next t ∧ pairState t p = bgQuarantine ∧ t.mem = s.mem)
        ∧ ∃ t, exec (.pairSelftestComplete p fails false) s = .next t ∧ pairState t p = bgLost ∧ LastEvent t 0xB009 (0x28 + p.val)
          ∧ (s.memsys.dirty = [] → t.mem = s.mem))
      ∧ (pairState s p = bgQuarantine → (bghPair s p).passed = false →
        exec (.pairSelftestComplete p fails true) s = .next (modPair p (fun x => { x with passed := true }) s)
        ∧ exec (.pairSelftestComplete p fails false) s = .next (bghEvent 0xB009 3 p 2 0 0 (losePair p s))) := by
  have hexec (ok : Bool) : exec (.pairSelftestComplete p fails ok) s = execPairSelftestComplete p fails ok s := exec_pairSelftestComplete p fails ok s
  refine ⟨fun h1 h2 ok => ?_, fun h => ?_, fun h hp => ?_⟩
  · rw [hexec]
    unfold execPairSelftestComplete
    dsimp only
    rw [if_neg h1, if_neg]
    rcases h2 with h2 | h2 <;> simp [h2]
  · have hn := memNote_marchFails fails s
    rw [hexec, hexec]
    unfold execPairSelftestComplete
    dsimp only
    rw [if_pos h, if_pos h]
    obtain ⟨h1, h2, h3⟩ := lostReported p (code := 0xB009) (a1 := 1) (a2 := 0) (a3 := 0) (marchFails fails s)
    exact ⟨⟨_, rfl, pairState_setPair _ _ (by decide), (setPair_mem _ _ _).trans hn.mem⟩,
      _, rfl, h1, h2, fun hd => (h3 (by rw [hn.dirty, hd])).trans hn.mem⟩
  · have hne : ¬ pairState s p = bgSelftest := by rw [h]; decide
    have hq : (decide (pairState s p = bgQuarantine) && !(bghPair s p).passed) = true := by rw [h, hp]; rfl
    rw [hexec, hexec]
    unfold execPairSelftestComplete
    dsimp only
    rw [if_neg hne, if_neg hne, if_pos hq, if_pos hq]
    exact ⟨rfl, rfl⟩

/-! ### The comparator (R457 to R459) -/

/-- The word at an offset of the L1 or L2 of core `c`. -/
def cacheWord (l2 : Bool) (c off : Nat) : Nat := (if l2 then l2Base c else l1Base c) + off / 8 * 8

theorem place_hidden (x : Nat) : place (2 ^ 48 + x) = hiddenPlace x := by
  unfold place
  rw [if_neg (by omega), if_pos (by omega), Nat.add_sub_cancel_left]

theorem hiddenPlace_l1 {c o : Nat} (hc : c < 8) (ho : o < 0x10000) : hiddenPlace (0x2000000 + c * 0x10000 + o) = some (.l1 c o) := by
  have h1 : (0x2000000 + c * 0x10000 + o - 0x2000000) / 0x10000 = c := by omega
  have h2 : (0x2000000 + c * 0x10000 + o) % 0x10000 = o := by omega
  unfold hiddenPlace
  rw [if_neg (by omega), if_neg (by simp only [Bool.and_eq_true, decide_eq_true_eq]; omega),
    if_pos (by simp only [Bool.and_eq_true, decide_eq_true_eq]; omega), h1, h2]

theorem hiddenPlace_l2 {c o : Nat} (hc : c < 8) (ho : o < 0x80000) : hiddenPlace (0x3000000 + c * 0x80000 + o) = some (.l2 c o) := by
  have h1 : (0x3000000 + c * 0x80000 + o - 0x3000000) / 0x80000 = c := by omega
  have h2 : (0x3000000 + c * 0x80000 + o) % 0x80000 = o := by omega
  unfold hiddenPlace
  rw [if_neg (by omega), if_neg (by simp only [Bool.and_eq_true, decide_eq_true_eq]; omega),
    if_neg (by simp only [Bool.and_eq_true, decide_eq_true_eq]; omega), if_pos (by simp only [Bool.and_eq_true, decide_eq_true_eq]; omega), h1, h2]

theorem place_cacheWord {l2 : Bool} {c off : Nat} (hc : c < 8) (ho : off < if l2 = true then 0x80000 else 0x10000) :
    place (cacheWord l2 c off) = some (if l2 then .l2 c (off / 8 * 8) else .l1 c (off / 8 * 8)) := by
  unfold cacheWord l1Base l2Base
  cases l2
  · simp only [Bool.false_eq_true, if_false] at ho ⊢
    rw [Nat.add_assoc (2 ^ 48), Nat.add_assoc (2 ^ 48), place_hidden, hiddenPlace_l1 hc (by omega)]
  · simp only [if_true] at ho ⊢
    rw [Nat.add_assoc (2 ^ 48), Nat.add_assoc (2 ^ 48), place_hidden, hiddenPlace_l2 hc (by omega)]

theorem ofBool_le (b : Bool) : ofBool b ≤ 1 := by cases b <;> decide

/-- What a first uncorrectable word of a Bough cache leaves: it is noted, counted, reported and may be repaired. -/
theorem meetBad_cache {oid w c : Nat} {l2 : Bool} {off : Nat} (s : State) (ho : 0x18 < oid) (hu : w ∉ s.memsys.ueSeen) :
    let t := meetBad oid w (if l2 then .l2 c off else .l1 c off) false s
    MemNote s t ∧ t.fld F.MEM_UECNT_CNT = min (s.fld F.MEM_UECNT_CNT + 1) 0xFFFF := by
  obtain ⟨a, ha⟩ : ∃ a, a = (s.setMs { s.memsys with ueSeen := s.memsys.ueSeen ++ [w] }).incHold F.MEM_UECNT_CNT := ⟨_, rfl⟩
  have hcount : a.fld F.MEM_UECNT_CNT = min (s.fld F.MEM_UECNT_CNT + 1) 0xFFFF := by
    rw [ha, fld_incHold _ _ (by decide) (by decide)]
    rfl
  have hnote : MemNote s a := by
    rw [ha]
    exact (⟨rfl, rfl, fun _ _ => rfl, rfl⟩ : MemNote s (s.setMs { s.memsys with ueSeen := s.memsys.ueSeen ++ [w] })).trans
      (memNote_incHold _ (f := F.MEM_UECNT_CNT) (.inr rfl))
  have hne : ¬ EvReg F.MEM_UECNT_CNT.reg := by unfold EvReg F.MEM_UECNT_CNT; dsimp only; omega
  have hev (e : EvRec) (he : e.oid = oid) (h3 : e.sev = 3) : EventStep a (raise e a) := by
    rw [raise_accepted a (by rw [h3]; decide) fun _ => by rw [he]; omega]
    exact eventStep_acceptEv _ _
  intro t
  obtain ⟨e, mac, he, h3, ht⟩ : ∃ (e : EvRec) (mac : Nat), e.oid = oid ∧ e.sev = 3 ∧ t = startRepair mac (w / 64 * 64) 2 (raise e a) := by
    refine ⟨⟨0, 0x2002, oid, 0, 3, 0, memArg0 w (macOf (if l2 then .l2 c off else .l1 c off)), memArg1 w (macOf (if l2 then .l2 c off else .l1 c off)),
      synd a w + ofBool false * 2 ^ 8, 0⟩, macOf (if l2 then .l2 c off else .l1 c off), rfl, rfl, ?_⟩
    rw [ha]
    show meetBad oid w _ false s = _
    unfold meetBad
    rw [if_neg (by simpa using hu)]
    cases l2 <;> rfl
  rw [ht]
  refine ⟨(hnote.trans (.ofEvent (hev e he h3))).trans (memNote_startRepair _ _ _ _), ?_⟩
  rw [uecnt_startRepair, (hev e he h3).fld hne, hcount]

/-- The state in which the word's syndrome stands. -/
def withSynd (w x : Nat) (s : State) : State := s.setMs { s.memsys with synd := spSet 0 w (BitVec.ofNat 8 x) s.memsys.synd }

theorem pairBadWord_eq {oid c : Nat} {copy l2 : Bool} {off x : Nat} (s : State) (hc : c = 2 * p.val + ofBool copy)
    (ho : oid = if pairState s p = bgLockstep || pairState s p = bgSplitting then 0x28 + p.val else 0x20 + c)
    (hlt : off < if l2 = true then 0x80000 else 0x10000) {r : Bool × State}
    (hr : scanWords oid false [cacheWord l2 c off] (withSynd (cacheWord l2 c off) x s) = r) :
    pairBadWord p copy l2 off x s = if r.1 then r.2 else losePair p r.2 := by
  generalize e : @pairBadWord = g
  delta pairBadWord at e
  subst e
  beta_reduce
  dsimp only
  rw [if_neg (by omega), ← hc, ← ho]
  unfold cacheWord withSynd at hr
  rw [hr]
  obtain ⟨_ | _, v⟩ := r <;> rfl

theorem synd_withSynd {w x : Nat} (s : State) (hw : w % 8 = 0) (hx : x < 256) : synd (withSynd w x s) w = x := by
  unfold synd withSynd
  rw [show w / 8 * 8 = w by omega, State.setMs_memsys, spGet_spSet_self, BitVec.toNat_ofNat, Nat.mod_eq_of_lt hx]

theorem scanWords_bad {oid w x : Nat} {pl : Place} {s : State} (hp : place w = some pl) (hs : synd s w = x) (hb : eccDecode x = .bad) :
    scanWords oid false [w] s = (false, meetBad oid w pl false s) := by
  unfold scanWords
  simp only [hp, hs, hb, Bool.false_eq_true, if_false]

theorem badWord_spec (copy l2 : Bool) (off : BitVec 24) (x : BitVec 8) (hoff : off.toNat < (if l2 = true then 0x80000 else 0x10000))
    (hbad : eccDecode x.toNat = .bad)
    (hue : (if l2 = true then l2Base (2 * p + ofBool copy) else l1Base (2 * p + ofBool copy)) + off.toNat / 8 * 8 ∉ s.memsys.ueSeen) :
    let t := pairBadWord p copy l2 off.toNat x.toNat s
    pairState t p = bgLost ∧ (s.memsys.dirty = [] → t.mem = s.mem) ∧ t.fld F.MEM_UECNT_CNT = min (s.fld F.MEM_UECNT_CNT + 1) 0xFFFF := by
  obtain ⟨c, hc⟩ : ∃ c, c = 2 * p.val + ofBool copy := ⟨_, rfl⟩
  obtain ⟨oid, ho⟩ : ∃ oid, oid = if pairState s p = bgLockstep || pairState s p = bgSplitting then 0x28 + p.val else 0x20 + c := ⟨_, rfl⟩
  obtain ⟨w, hw⟩ : ∃ w, w = cacheWord l2 c off.toNat := ⟨_, rfl⟩
  have hclt : c < 8 := by have := p.isLt; have := ofBool_le copy; omega
  have hoid : 0x18 < oid := by rw [ho]; split <;> omega
  have hw8 : w % 8 = 0 := by rw [hw]; unfold cacheWord l1Base l2Base; split <;> omega
  have hplace := place_cacheWord hclt hoff
  rw [← hw] at hplace
  have hscan := scanWords_bad (oid := oid) hplace (synd_withSynd (x := x.toNat) s hw8 x.isLt) hbad
  have huw : w ∉ (withSynd w x.toNat s).memsys.ueSeen := by
    rw [← hc] at hue
    rw [hw]
    exact hue
  obtain ⟨hnote, hcount⟩ := meetBad_cache (c := c) (l2 := l2) (off := off.toNat / 8 * 8) (withSynd w x.toNat s) hoid huw
  have hpl : (some (if l2 then Place.l2 c (off.toNat / 8 * 8) else .l1 c (off.toNat / 8 * 8))) = some (if l2 then Place.l2 c (off.toNat / 8 * 8) else .l1 c (off.toNat / 8 * 8)) := rfl
  generalize hm : meetBad oid w (if l2 then .l2 c (off.toNat / 8 * 8) else .l1 c (off.toNat / 8 * 8)) false (withSynd w x.toNat s) = m at hscan hnote hcount
  rw [hw] at hscan
  have heq := pairBadWord_eq p s hc ho hoff hscan
  intro t
  have ht : t = losePair p m := heq
  rw [ht]
  refine ⟨pairState_losePair p m, fun hd => ?_, ?_⟩
  · exact (losePair_mem_of_clean p m (hnote.dirty.trans hd)).trans hnote.mem
  · unfold State.fld at hcount ⊢
    rw [reg_losePair p m (by show 0x60008 ≠ 0x2B0108 + 0x20 * p.val; omega), hcount]
    rfl

theorem pairTransaction_differ (a0 a1 : BitVec 48) (k : BitVec 4) (hheld : pairsHeld s = false) (hk : k ≠ 0)
    (hst : pairState s p = bgLockstep ∨ pairState s p = bgSplitting) :
    (s.flag (F.BGH_PAIR_STAT_SAFE p) = true → let u := { s with hwd := { s.hwd with faults := s.hwd.faults ++ [⟨p, a0.toNat % 2 ^ 32, a1.toNat % 2 ^ 32, k.toNat⟩] } }
        exec (.boughPairTransaction p (.differ a0 a1 k)) s = .next (bghEvent 0xB001 3 p (a0.toNat % 2 ^ 32) (a1.toNat % 2 ^ 32) k.toNat (losePair p u)))
      ∧ (s.flag (F.BGH_PAIR_STAT_SAFE p) = false → ∃ t, exec (.boughPairTransaction p (.differ a0 a1 k)) s = .next t ∧ pairState t p = pairState s p
          ∧ t.fld (F.BGH_PAIR_STAT_ADVCNT p) = min (s.fld (F.BGH_PAIR_STAT_ADVCNT p) + 1) 0xFFFF ∧ LastEvent t 0xB002 (0x28 + p.val) ∧ t.mem = s.mem) := by
  have hgo : ((decide (pairState s p ≠ bgLockstep) && decide (pairState s p ≠ bgSplitting)) || decide (k = 0)) = false := by
    have hk' : ¬ k = 0#4 := hk
    rcases hst with h | h <;> simp [h, hk']
  have hexec : exec (.boughPairTransaction p (.differ a0 a1 k)) s = if s.flag (F.BGH_PAIR_STAT_SAFE p) then
        .next (bghEvent 0xB001 3 p (a0.toNat % 2 ^ 32) (a1.toNat % 2 ^ 32) k.toNat
          (losePair p { s with hwd := { s.hwd with faults := s.hwd.faults ++ [⟨p, a0.toNat % 2 ^ 32, a1.toNat % 2 ^ 32, k.toNat⟩] } }))
      else .next (bghEvent 0xB002 1 p (a0.toNat % 2 ^ 32) (a1.toNat % 2 ^ 32) k.toNat (s.incHold (F.BGH_PAIR_STAT_ADVCNT p))) := by
    rw [exec_boughPairTransaction]
    unfold execBoughPairTransaction
    dsimp only
    rw [if_neg (by rw [hheld]; decide), if_neg (by rw [hgo]; decide)]
  refine ⟨fun h => by rw [hexec, if_pos h], fun h => ⟨_, hexec.trans (by rw [if_neg (by rw [h]; decide)]), ?_⟩⟩
  obtain ⟨hstep, hlast⟩ := bghEvent_spec 0xB002 1 p (a0.toNat % 2 ^ 32) (a1.toNat % 2 ^ 32) k.toNat (s.incHold (F.BGH_PAIR_STAT_ADVCNT p)) (by decide)
  have hpst : pairState (s.incHold (F.BGH_PAIR_STAT_ADVCNT p)) p = pairState s p := by
    unfold State.incHold
    split
    · exact fld_put_apart _ _ _ _ (by show 16 ≤ 31; decide) (by show 31 < 32; decide) (.inl (by show 2 < 16; decide))
    · rfl
  have hmem : (s.incHold (F.BGH_PAIR_STAT_ADVCNT p)).mem = s.mem := by unfold State.incHold; split <;> rfl
  refine ⟨(hstep.pairState p.isLt).trans hpst, ?_, hlast, hstep.mem.trans hmem⟩
  rw [hstep.fld (not_evReg_pairStat p.isLt), fld_incHold _ _ (by show 16 ≤ 31; decide) (by show 31 < 32; decide)]
  rfl

theorem pairTransaction_quiet (a0 a1 : BitVec 48) (k : BitVec 4) (hheld : pairsHeld s = false) :
    exec (.boughPairTransaction p .same) s = .next s
      ∧ (k = 0 ∨ (pairState s p ≠ bgLockstep ∧ pairState s p ≠ bgSplitting) → exec (.boughPairTransaction p (.differ a0 a1 k)) s = .next s) := by
  rw [exec_boughPairTransaction, exec_boughPairTransaction]
  unfold execBoughPairTransaction
  dsimp only
  rw [if_neg (by rw [hheld]; decide), if_neg (by rw [hheld]; decide)]
  refine ⟨rfl, fun h => if_pos ?_⟩
  rcases h with h | ⟨h1, h2⟩
  · simp [h]
  · simp [h1, h2]

theorem pairTransaction_badWord (copy l2 : Bool) (off : BitVec 24) (x : BitVec 8) (hheld : pairsHeld s = false) :
    (bgJoining < pairState s p → exec (.boughPairTransaction p (.badWord copy l2 off x)) s = .next s)
      ∧ (pairState s p ≤ bgJoining → exec (.boughPairTransaction p (.badWord copy l2 off x)) s = .next (pairBadWord p copy l2 off.toNat x.toNat s)) := by
  rw [exec_boughPairTransaction]
  unfold execBoughPairTransaction
  dsimp only
  rw [if_neg (by rw [hheld]; decide)]
  exact ⟨fun h => by rw [if_neg (by omega)], fun h => by rw [if_pos h]⟩

/-! ### The agreement path, signatures, interrupts (R456, R458, R460) -/

theorem agreeFallback_spec :
    (s.flag (F.BGH_PAIR_STAT_SAFE p) = false → exec (.bghAgreeFallback p) s = .next s)
      ∧ (s.flag (F.BGH_PAIR_STAT_SAFE p) = true → ∃ u, exec (.bghAgreeFallback p) s = .next (bghEvent 0xB007 1 p 0 0 0 u) ∧ RegsOnly [Reg.BGH_PAIR_STAT p] s u
        ∧ u.flag (F.BGH_PAIR_STAT_AGFAIL p) = true ∧ u.flag (F.BGH_PAIR_STAT_SAFE p) = false ∧ pairState u p = pairState s p) := by
  rw [exec_bghAgreeFallback]
  unfold execBghAgreeFallback
  dsimp only
  refine ⟨fun h => by rw [if_neg (by rw [h]; decide)], fun h => ⟨_, by rw [if_pos h], ?_⟩⟩
  obtain ⟨a, ha⟩ : ∃ a, a = s.put (F.BGH_PAIR_STAT_AGFAIL p) 1 := ⟨_, rfl⟩
  have hag : a.flag (F.BGH_PAIR_STAT_AGFAIL p) = true := by rw [ha]; exact flag_put_one s rfl (by show 5 < 32; decide)
  rw [← ha]
  refine ⟨⟨?_, fun o ho => ?_⟩, ?_, ?_, ?_⟩
  · obtain ⟨r, hr⟩ := showSafe_of p a
    obtain ⟨r', hr'⟩ := put_of s (F.BGH_PAIR_STAT_AGFAIL p) 1
    rw [hr, ha, hr']
  · have hne : o ≠ Reg.BGH_PAIR_STAT p := by simpa using ho
    rw [reg_showSafe _ _ hne, ha]
    exact reg_put_ne _ _ _ hne
  · unfold showSafe
    rw [flag_put_apart _ _ _ _ (by show 3 ≤ 3; decide) (by show 3 < 32; decide) (.inr (by show 3 < 5; decide)), hag]
  · rw [safe_showSafe, hag]
    simp
  · rw [pairState_showSafe, ha]
    exact fld_put_apart _ _ _ _ (by show 5 ≤ 5; decide) (by show 5 < 32; decide) (.inl (by show 2 < 5; decide))

theorem signatureCheck_spec (c0 c1 : List (BitVec 8)) (hheld : pairsHeld s = false) :
    let u := modPair p (fun x => { x with slice := (x.slice + 1) % 128 }) s
    (pairState s p ≠ bgLockstep → exec (.pairSignatureCheck p c0 c1) s = .next s)
      ∧ (pairState s p = bgLockstep → exec (.pairSignatureCheck p c0 c1) s
        = .next (if crc32c c0 = crc32c c1 then u else bghEvent 0xB003 1 p (bghPair s p).slice (crc32c c0) (crc32c c1) u)) := by
  intro u
  rw [exec_pairSignatureCheck]
  unfold execPairSignatureCheck
  dsimp only
  refine ⟨fun h => if_pos (by simp [h]), fun h => ?_⟩
  rw [if_neg (by simp [h, hheld])]
  rfl

theorem mtimecmpMatch_spec (c : Fin 8) : let n := c.val
    ((s.reg64 (Reg.BGH_CORE_MTIMECMP_LO n) ≤ bghMtime s ∧ (n % 2 = 0 ∨ pairState s (n / 2) = bgSplit)) → exec (.mtimecmpMatch c) s = .next (s.emit (.bghIrq n 7)))
      ∧ (bghMtime s < s.reg64 (Reg.BGH_CORE_MTIMECMP_LO n) ∨ (n % 2 = 1 ∧ pairState s (n / 2) ≠ bgSplit) → exec (.mtimecmpMatch c) s = .next s) := by
  intro n
  rw [exec_mtimecmpMatch]
  unfold execMtimecmpMatch
  dsimp only
  refine ⟨fun h => if_pos (by simpa using h), fun h => if_neg ?_⟩
  simp only [Bool.and_eq_true, Bool.or_eq_true, decide_eq_true_eq]
  rintro ⟨h1, h2⟩
  rcases h with h | ⟨h, h'⟩
  · exact absurd h1 (Nat.not_le.2 h)
  · rcases h2 with h2 | h2
    · omega
    · exact h' h2

theorem ipset_spec (c : Fin 8) (data : BitVec 32) : RegsOnly [Reg.BGH_CORE_IPEND c] s (ipsetWritten c data.toNat s)
      ∧ (ipsetWritten c data.toNat s).fld (F.BGH_CORE_IPEND_PEND c) = s.fld (F.BGH_CORE_IPEND_PEND c) ||| data.toNat := by
  refine ⟨⟨rfl, fun o ho => ?_⟩, ?_⟩
  · have hne : o ≠ Reg.BGH_CORE_IPEND c := by simpa using ho
    exact reg_put_ne _ _ _ hne
  exact fld_put_fits _ _ (by show 0 ≤ 31; decide) (by show 31 < 32; decide) (Nat.or_lt_two_pow (fld_lt s (F.BGH_CORE_IPEND_PEND c)) data.isLt)

end

end Sys2Proof.Machine
end

section
/-! The commands of a Bough pair (R461 to R465). -/

namespace Sys2Proof.Machine

/-- SPLIT. -/
def splitStage (go : Bool) (p oid : Nat) (s : State) : State :=
  if go && pairState s p = bgLockstep then
    if s.flag (F.BGH_PAIR_CFG_SPLITOK p) then setPair p bgSplitting s else handoverErr p 0 oid s
  else s

/-- What the follower had pending goes to the leader's pending bits, and PARKED is set. -/
def parkRegs (p : Nat) (s : State) : State :=
  (s.put (F.BGH_CORE_IPEND_PEND (2 * p)) (s.fld (F.BGH_CORE_IPEND_PEND (2 * p)) ||| s.fld (F.BGH_CORE_IPEND_PEND (2 * p + 1)))).put
    (F.BGH_PAIR_STAT_PARKED p) 1

/-- PARK and UNPARK. -/
def parkStage (park unpark : Bool) (p : Nat) (s : State) : State :=
  if park && pairState s p = bgSplit then parkFollower p (parkRegs p s)
  else if unpark && pairState s p = bgSplit then s.put (F.BGH_PAIR_STAT_PARKED p) 0
  else s

/-- JOIN. -/
def joinStage (go : Bool) (p oid : Nat) (s : State) : State :=
  if go && pairState s p = bgSplit then
    if s.flag (F.BGH_PAIR_STAT_PARKED p) then setPair p bgJoining s else handoverErr p 3 oid s
  else s

/-- READMIT. -/
def readmitStage (go : Bool) (p : Nat) (s : State) : State :=
  if go && pairState s p = bgLost then modPair p (fun x => { x with passed := false }) (setPair p bgSelftest s) else s

/-- Both cores of an admitted pair start afresh, the leader at the entry address. -/
def freshCores (p pc : Nat) (s : State) : State :=
  setBghCore (2 * p) { pc := BitVec.ofNat 64 pc } (setBghCore (2 * p + 1) {} (modPair p (fun x => { x with passed := false }) s))

/-- The registers of a core that starts afresh. -/
def freshCoreRegs (c : Nat) (s : State) : State := (s.put (F.BGH_CORE_IEN_EN c) 0).put (F.BGH_CORE_STAT_CTX c) 0

/-- The registers of an admitted pair before it enters lockstep. -/
def freshRegs (p : Nat) (s : State) : State := (freshCoreRegs (2 * p + 1) (freshCoreRegs (2 * p) s)).put (F.BGH_PAIR_STAT_AGFAIL p) 0

/-- The entry address of pair `p`. -/
def pairEntry (p : Nat) (s : State) : Nat := (s.reg (Reg.BGH_PAIR_ENTRY_LO p)).toNat + s.fld (F.BGH_PAIR_ENTRY_HI_PC_HI p) * 2 ^ 32

/-- The pair that ADMIT starts. -/
def admitted (p : Nat) (s : State) : State := setPair p bgLockstep (freshRegs p (freshCores p (pairEntry p s) s))

/-- ADMIT. -/
def admitStage (go : Bool) (p : Nat) (s : State) : State :=
  if go && pairState s p = bgQuarantine && (bghPair s p).passed then bghEvent 0xB008 0 p 0 0 0 (admitted p s) else s

theorem pairCmdWritten_stages {p : Nat} (data oid : Nat) {s : State} (h : pairsHeld s = false) : pairCmdWritten p data oid s =
    admitStage (bitAt data 5) p (readmitStage (bitAt data 4) p (joinStage (bitAt data 3) p oid (parkStage (bitAt data 1) (bitAt data 2) p
      (splitStage (bitAt data 0) p oid s)))) := by
  unfold pairCmdWritten
  rw [if_neg (by rw [h]; decide)]
  rfl

section
variable {p : Nat} {s : State}

theorem splitStage_off (oid : Nat) : splitStage false p oid s = s := rfl
theorem parkStage_off : parkStage false false p s = s := rfl
theorem joinStage_off (oid : Nat) : joinStage false p oid s = s := rfl
theorem readmitStage_off : readmitStage false p s = s := rfl
theorem admitStage_off : admitStage false p s = s := rfl

variable (oid : Nat) (h : pairsHeld s = false)
include h

theorem pairCmd_split : pairCmdWritten p 1 oid s = splitStage true p oid s := by
  rw [pairCmdWritten_stages _ _ h, show bitAt 1 0 = true by decide, show bitAt 1 1 = false by decide, show bitAt 1 2 = false by decide,
    show bitAt 1 3 = false by decide, show bitAt 1 4 = false by decide, show bitAt 1 5 = false by decide, parkStage_off, joinStage_off, readmitStage_off,
    admitStage_off]

theorem pairCmd_park : pairCmdWritten p 2 oid s = parkStage true false p s := by
  rw [pairCmdWritten_stages _ _ h, show bitAt 2 0 = false by decide, show bitAt 2 1 = true by decide, show bitAt 2 2 = false by decide,
    show bitAt 2 3 = false by decide, show bitAt 2 4 = false by decide, show bitAt 2 5 = false by decide, splitStage_off, joinStage_off, readmitStage_off,
    admitStage_off]

theorem pairCmd_unpark : pairCmdWritten p 4 oid s = parkStage false true p s := by
  rw [pairCmdWritten_stages _ _ h, show bitAt 4 0 = false by decide, show bitAt 4 1 = false by decide, show bitAt 4 2 = true by decide,
    show bitAt 4 3 = false by decide, show bitAt 4 4 = false by decide, show bitAt 4 5 = false by decide, splitStage_off, joinStage_off, readmitStage_off,
    admitStage_off]

theorem pairCmd_join : pairCmdWritten p 8 oid s = joinStage true p oid s := by
  rw [pairCmdWritten_stages _ _ h, show bitAt 8 0 = false by decide, show bitAt 8 1 = false by decide, show bitAt 8 2 = false by decide,
    show bitAt 8 3 = true by decide, show bitAt 8 4 = false by decide, show bitAt 8 5 = false by decide, splitStage_off, parkStage_off, readmitStage_off,
    admitStage_off]

theorem pairCmd_readmit : pairCmdWritten p 16 oid s = readmitStage true p s := by
  rw [pairCmdWritten_stages _ _ h, show bitAt 16 0 = false by decide, show bitAt 16 1 = false by decide, show bitAt 16 2 = false by decide,
    show bitAt 16 3 = false by decide, show bitAt 16 4 = true by decide, show bitAt 16 5 = false by decide, splitStage_off, parkStage_off, joinStage_off,
    admitStage_off]

theorem pairCmd_admit : pairCmdWritten p 32 oid s = admitStage true p s := by
  rw [pairCmdWritten_stages _ _ h, show bitAt 32 0 = false by decide, show bitAt 32 1 = false by decide, show bitAt 32 2 = false by decide,
    show bitAt 32 3 = false by decide, show bitAt 32 4 = false by decide, show bitAt 32 5 = true by decide, splitStage_off, parkStage_off, joinStage_off,
    readmitStage_off]

end

section
variable (p : Fin 4) (s : State)

/-- The registers after PARK. -/
theorem parkRegs_spec : (parkRegs p s).flag (F.BGH_PAIR_STAT_PARKED p) = true ∧ pairState (parkRegs p s) p = pairState s p
    ∧ (∀ o, o ≠ Reg.BGH_PAIR_STAT p → o ≠ Reg.BGH_CORE_IPEND (2 * p.val) → (parkRegs p s).reg o = s.reg o)
    ∧ (parkRegs p s).fld (F.BGH_CORE_IPEND_PEND (2 * p.val)) =
      s.fld (F.BGH_CORE_IPEND_PEND (2 * p.val)) ||| s.fld (F.BGH_CORE_IPEND_PEND (2 * p.val + 1)) := by
  have hp := p.isLt
  unfold parkRegs
  refine ⟨flag_put_one _ rfl (by show 4 < 32; decide), ?_, fun o h1 h2 => (reg_put_ne _ _ _ h1).trans (reg_put_ne _ _ _ h2), ?_⟩
  · refine (fld_put_apart _ _ _ _ (by show 4 ≤ 4; decide) (by show 4 < 32; decide) (.inl (by show 2 < 4; decide))).trans ?_
    exact fld_put_reg _ _ _ _ (by show 0x2B0108 + 0x20 * p.val ≠ 0x2B0204 + 0x20 * (2 * p.val); omega)
  · rw [fld_put_reg _ _ _ _ (by show 0x2B0204 + 0x20 * (2 * p.val) ≠ 0x2B0108 + 0x20 * p.val; omega)]
    exact fld_put_fits _ _ (by show 0 ≤ 31; decide) (by show 31 < 32; decide)
      (Nat.or_lt_two_pow (fld_lt s (F.BGH_CORE_IPEND_PEND (2 * p.val))) (fld_lt s (F.BGH_CORE_IPEND_PEND (2 * p.val + 1))))

theorem parkRegs_of (p : Nat) (s : State) : ∃ r, parkRegs p s = { s with regs := r } := ⟨_, rfl⟩

/-- The pending bits of both cores of a pair. -/
def jointMip (p : Nat) (s : State) : Word64 := spGet 0 (bghCore s (2 * p)).csr csrMip ||| spGet 0 (bghCore s (2 * p + 1)).csr csrMip

/-- The leader with what the follower had pending. -/
def parkedLeader (p : Nat) (s : State) : BghCore := { bghCore s (2 * p) with csr := spSet 0 csrMip (jointMip p s) (bghCore s (2 * p)).csr }

theorem parkFollower_eq (p : Nat) (s : State) : parkFollower p s = cleanCore (2 * p + 1) (setBghCore (2 * p) (parkedLeader p s) s) := rfl

theorem cleanCore_of (c : Nat) (s : State) : ∃ ms, cleanCore c s = { s with memsys := ms } := ⟨_, rfl⟩

theorem parkFollower_of (p : Nat) (s : State) : ∃ k ms, parkFollower p s = { s with bghCore := k, memsys := ms } := by
  obtain ⟨ms, h⟩ := cleanCore_of (2 * p + 1) (setBghCore (2 * p) (parkedLeader p s) s)
  rw [parkFollower_eq, h]
  exact ⟨_, _, rfl⟩

theorem bghCore_parkFollower (p : Nat) (s : State) (c : Nat) : bghCore (parkFollower p s) c = if c = 2 * p then parkedLeader p s else bghCore s c := by
  obtain ⟨ms, h⟩ := cleanCore_of (2 * p + 1) (setBghCore (2 * p) (parkedLeader p s) s)
  have hc : (parkFollower p s).bghCore = (setBghCore (2 * p) (parkedLeader p s) s).bghCore := by rw [parkFollower_eq, h]
  rw [bghCore_congr hc]
  split
  · rename_i he; rw [he, bghCore_set_self]
  · rename_i he; rw [bghCore_set_ne _ _ he]

theorem csrN_parkedLeader (p : Nat) (s : State) : (parkedLeader p s).csrN csrMip = (bghCore s (2 * p)).csrN csrMip ||| (bghCore s (2 * p + 1)).csrN csrMip := by
  unfold BghCore.csrN parkedLeader jointMip
  rw [spGet_spSet_self, BitVec.toNat_or]

theorem park_spec (hst : pairState s p = bgSplit) : let u := parkStage true false p s
    u.flag (F.BGH_PAIR_STAT_PARKED p) = true ∧ pairState u p = bgSplit
        ∧ RegsOnly [Reg.BGH_PAIR_STAT p, Reg.BGH_CORE_IPEND (2 * p.val)] { s with bghCore := u.bghCore, memsys := u.memsys } u
        ∧ (∀ c, c ≠ 2 * p.val → bghCore u c = bghCore s c) ∧ (∀ n, n ≠ csrMip → spGet 0 (bghCore u (2 * p)).csr n = spGet 0 (bghCore s (2 * p)).csr n)
        ∧ (bghCore u (2 * p)).csrN csrMip = (bghCore s (2 * p)).csrN csrMip ||| (bghCore s (2 * p + 1)).csrN csrMip
        ∧ u.fld (F.BGH_CORE_IPEND_PEND (2 * p.val)) = s.fld (F.BGH_CORE_IPEND_PEND (2 * p.val)) ||| s.fld (F.BGH_CORE_IPEND_PEND (2 * p.val + 1)) := by
  intro u
  obtain ⟨a, ha⟩ : ∃ a, a = parkRegs p s := ⟨_, rfl⟩
  have hu : u = parkFollower p a := by rw [ha]; exact if_pos (by rw [hst]; rfl)
  obtain ⟨hpark, hpst, hreg, hpend⟩ := parkRegs_spec p s
  obtain ⟨r, hr⟩ := parkRegs_of p s
  rw [← ha] at hpark hpst hreg hpend hr
  obtain ⟨k, ms, hk⟩ := parkFollower_of p a
  have hcore (c : Nat) : bghCore a c = bghCore s c := bghCore_congr (by rw [hr]) c
  have hregs : u.regs = a.regs := by rw [hu, hk]
  have hfld (f : RegField) : u.fld f = a.fld f := by unfold State.fld; rw [reg_of_regs hregs]
  have hucore (c : Nat) : bghCore u c = if c = 2 * p.val then parkedLeader p a else bghCore s c := by rw [hu, bghCore_parkFollower, hcore]
  refine ⟨?_, (hfld _).trans (hpst.trans hst), ⟨?_, fun o ho => ?_⟩, fun c hc => ?_, fun n hn => ?_, ?_, (hfld _).trans hpend⟩
  · unfold State.flag at hpark ⊢
    rw [hfld]
    exact hpark
  · rw [hu, hk, hr]
  · simp only [List.mem_cons, List.not_mem_nil, or_false, not_or] at ho
    rw [reg_of_regs hregs, hreg o ho.1 ho.2]
    rfl
  · rw [hucore, if_neg hc]
  · rw [hucore, if_pos rfl]
    unfold parkedLeader
    rw [spGet_spSet_ne _ _ _ _ _ hn, hcore]
  · rw [hucore, if_pos rfl, csrN_parkedLeader, hcore, hcore]

/-- The registers of an admitted pair. -/
theorem freshRegs_spec : (∀ o, o ≠ Reg.BGH_PAIR_STAT p → (∀ c ∈ [2 * p.val, 2 * p.val + 1], o ≠ (F.BGH_CORE_IEN_EN c).reg ∧ o ≠ Reg.BGH_CORE_STAT c) →
      (freshRegs p s).reg o = s.reg o)
    ∧ (freshRegs p s).flag (F.BGH_PAIR_STAT_AGFAIL p) = false
    ∧ ∀ c ∈ [2 * p.val, 2 * p.val + 1], (freshRegs p s).fld (F.BGH_CORE_IEN_EN c) = 0 ∧ (freshRegs p s).fld (F.BGH_CORE_STAT_CTX c) = 0 := by
  have hp := p.isLt
  have hone (c : Nat) (t : State) : (freshCoreRegs c t).fld (F.BGH_CORE_IEN_EN c) = 0 ∧ (freshCoreRegs c t).fld (F.BGH_CORE_STAT_CTX c) = 0 := by
    unfold freshCoreRegs
    refine ⟨?_, fld_put_fits _ _ (by show 0 ≤ 5; decide) (by show 5 < 32; decide) (Nat.two_pow_pos _)⟩
    rw [fld_put_reg _ _ _ _ (by show 0x2B020C + 0x20 * c ≠ 0x2B0200 + 0x20 * c; omega)]
    exact fld_put_fits _ _ (by show 0 ≤ 31; decide) (by show 31 < 32; decide) (Nat.two_pow_pos _)
  have hother (c : Nat) (t : State) {o : Nat} (h1 : o ≠ (F.BGH_CORE_IEN_EN c).reg) (h2 : o ≠ Reg.BGH_CORE_STAT c) : (freshCoreRegs c t).reg o = t.reg o :=
    (reg_put_ne _ _ _ h2).trans (reg_put_ne _ _ _ h1)
  refine ⟨fun o h1 h2 => ?_, flag_put_zero _ rfl (by show 5 < 32; decide), fun c hc => ?_⟩
  · have ha := h2 (2 * p.val) (by simp)
    have hb := h2 (2 * p.val + 1) (by simp)
    unfold freshRegs
    rw [reg_put_ne _ _ _ h1, hother _ _ hb.1 hb.2, hother _ _ ha.1 ha.2]
  · have hien : (F.BGH_CORE_IEN_EN c).reg ≠ Reg.BGH_PAIR_STAT p := by show 0x2B020C + 0x20 * c ≠ 0x2B0108 + 0x20 * p.val; omega
    have hctx : (F.BGH_CORE_STAT_CTX c).reg ≠ Reg.BGH_PAIR_STAT p := by
      simp only [List.mem_cons, List.not_mem_nil, or_false] at hc
      show 0x2B0200 + 0x20 * c ≠ 0x2B0108 + 0x20 * p.val; omega
    unfold freshRegs
    rw [fld_put_reg _ _ _ _ hien, fld_put_reg _ _ _ _ hctx]
    simp only [List.mem_cons, List.not_mem_nil, or_false] at hc
    rcases hc with rfl | rfl
    · have hsame {f : RegField} (h1 : f.reg ≠ (F.BGH_CORE_IEN_EN (2 * p.val + 1)).reg) (h2 : f.reg ≠ Reg.BGH_CORE_STAT (2 * p.val + 1)) (t : State) :
          (freshCoreRegs (2 * p.val + 1) t).fld f = t.fld f := by unfold State.fld; rw [hother _ _ h1 h2]
      rw [hsame (by show 0x2B020C + 0x20 * (2 * p.val) ≠ 0x2B020C + 0x20 * (2 * p.val + 1); omega)
          (by show 0x2B020C + 0x20 * (2 * p.val) ≠ 0x2B0200 + 0x20 * (2 * p.val + 1); omega),
        hsame (by show 0x2B0200 + 0x20 * (2 * p.val) ≠ 0x2B020C + 0x20 * (2 * p.val + 1); omega)
          (by show 0x2B0200 + 0x20 * (2 * p.val) ≠ 0x2B0200 + 0x20 * (2 * p.val + 1); omega)]
      exact hone _ _
    · exact hone _ _

theorem freshCoreRegs_of (c : Nat) (t : State) : ∃ r, freshCoreRegs c t = { t with regs := r } := by
  obtain ⟨r, hr⟩ := put_of t (F.BGH_CORE_IEN_EN c) 0
  obtain ⟨r', hr'⟩ := put_of { t with regs := r } (F.BGH_CORE_STAT_CTX c) 0
  unfold freshCoreRegs
  rw [hr, hr']
  exact ⟨r', rfl⟩

theorem freshRegs_of (p : Nat) (s : State) : ∃ r, freshRegs p s = { s with regs := r } := by
  obtain ⟨r, hr⟩ := freshCoreRegs_of (2 * p) s
  obtain ⟨r', hr'⟩ := freshCoreRegs_of (2 * p + 1) { s with regs := r }
  obtain ⟨r'', hr''⟩ := put_of { s with regs := r' } (F.BGH_PAIR_STAT_AGFAIL p) 0
  unfold freshRegs
  rw [hr, hr']
  exact ⟨r'', hr''⟩

theorem freshCores_spec (p pc : Nat) (s : State) : (freshCores p pc s).regs = s.regs ∧ (freshCores p pc s).mem = s.mem
    ∧ bghCore (freshCores p pc s) (2 * p) = { pc := BitVec.ofNat 64 pc } := ⟨rfl, rfl, bghCore_set_self _ _ _⟩

theorem admit_spec (hst : pairState s p = bgQuarantine) (hpass : (bghPair s p).passed = true) :
    ∃ u, admitStage true p s = bghEvent 0xB008 0 p 0 0 0 u ∧ u.mem = s.mem
        ∧ pairState u p = bgLockstep ∧ u.flag (F.BGH_PAIR_STAT_AGFAIL p) = false ∧ u.flag (F.BGH_PAIR_STAT_SAFE p) = !(s.flag (F.BGH_PAIR_CFG_AGREE p))
        ∧ bghCore u (2 * p) = { pc := BitVec.ofNat 64 ((s.reg (Reg.BGH_PAIR_ENTRY_LO p)).toNat + s.fld (F.BGH_PAIR_ENTRY_HI_PC_HI p) * 2 ^ 32) }
        ∧ ∀ c ∈ [2 * p.val, 2 * p.val + 1], u.fld (F.BGH_CORE_IEN_EN c) = 0 ∧ u.fld (F.BGH_CORE_STAT_CTX c) = 0 := by
  have hp := p.isLt
  refine ⟨admitted p s, if_pos (by rw [hst, hpass]; rfl), ?_⟩
  obtain ⟨b, hb⟩ : ∃ b, b = freshCores p (pairEntry p s) s := ⟨_, rfl⟩
  obtain ⟨hbregs, hbmem, hbcore⟩ := freshCores_spec p (pairEntry p s) s
  obtain ⟨hreg, hag, hcores⟩ := freshRegs_spec p b
  obtain ⟨r, hr⟩ := freshRegs_of p b
  unfold admitted
  rw [← hb] at hbregs hbmem hbcore ⊢
  generalize freshRegs p b = a at hreg hag hcores hr ⊢
  refine ⟨by rw [setPair_mem, hr]; exact hbmem, pairState_setPair _ _ (by decide), ?_, ?_, ?_, fun c hc => ?_⟩
  · rw [flag_setPair _ _ _ (by show 3 < 5; decide), hag]
  · have hagree : a.flag (F.BGH_PAIR_CFG_AGREE p) = s.flag (F.BGH_PAIR_CFG_AGREE p) := by
      unfold State.flag State.fld
      rw [hreg _ (by show 0x2B0104 + 0x20 * p.val ≠ 0x2B0108 + 0x20 * p.val; omega), reg_of_regs hbregs]
      simp only [List.mem_cons, List.not_mem_nil, or_false, forall_eq_or_imp, forall_eq]
      unfold F.BGH_PAIR_CFG_AGREE F.BGH_CORE_IEN_EN Reg.BGH_CORE_STAT
      dsimp only
      omega
    rw [safe_setPair _ _ (by decide), hag, hagree]
    simp
  · rw [bghCore_congr (setPair_bghCore _ _ _), bghCore_congr (show a.bghCore = b.bghCore by rw [hr]), hbcore]
    rfl
  · have hlo : ∀ o, o = (F.BGH_CORE_IEN_EN c).reg ∨ o = (F.BGH_CORE_STAT_CTX c).reg → o ≠ Reg.BGH_PAIR_STAT p := by
      unfold F.BGH_CORE_IEN_EN F.BGH_CORE_STAT_CTX Reg.BGH_PAIR_STAT
      dsimp only
      omega
    rw [fld_setPair_reg _ _ _ (hlo _ (.inl rfl)), fld_setPair_reg _ _ _ (hlo _ (.inr rfl))]
    exact hcores c hc

theorem modPair_of (p : Nat) (f : BghPair → BghPair) (t : State) : ∃ b, modPair p f t = { t with bgh := b } := ⟨_, rfl⟩

theorem readmit_spec (hst : pairState s p = bgLost) : let u := readmitStage true p s
    pairState u p = bgSelftest ∧ (bghPair u p).passed = false ∧ RegsOnly [Reg.BGH_PAIR_STAT p] { s with bgh := u.bgh } u := by
  intro u
  have hu : u = modPair p (fun x => { x with passed := false }) (setPair p bgSelftest s) := if_pos (by rw [hst]; rfl)
  obtain ⟨r, hr⟩ := setPair_of p bgSelftest s
  refine ⟨by rw [hu, pairState_modPair]; exact pairState_setPair _ _ (by decide), by rw [hu, bghPair_modPair], ⟨?_, fun o ho => ?_⟩⟩
  · obtain ⟨b, hb⟩ := modPair_of p (fun x => { x with passed := false }) { s with regs := r }
    rw [hu, hr, hb]
  · change u.reg o = s.reg o
    rw [hu, modPair_reg, reg_setPair _ _ _ (by simpa using ho)]

theorem pairCommands_spec (oid : Nat) (hheld : pairsHeld s = false) :
      (pairState s p ≠ bgLockstep → pairCmdWritten p 1 oid s = s)
      ∧ (pairState s p = bgLockstep → pairCmdWritten p 1 oid s = if s.flag (F.BGH_PAIR_CFG_SPLITOK p) = true then setPair p bgSplitting s else handoverErr p 0 oid s)
      ∧ (pairState s p ≠ bgSplit → ∀ k ∈ [2, 4, 8], pairCmdWritten p k oid s = s)
      ∧ (pairState s p = bgSplit → let u := pairCmdWritten p 2 oid s
        u.flag (F.BGH_PAIR_STAT_PARKED p) = true ∧ pairState u p = bgSplit
        ∧ RegsOnly [Reg.BGH_PAIR_STAT p, Reg.BGH_CORE_IPEND (2 * p.val)] { s with bghCore := u.bghCore, memsys := u.memsys } u
        ∧ (∀ c, c ≠ 2 * p.val → bghCore u c = bghCore s c) ∧ (∀ n, n ≠ csrMip → spGet 0 (bghCore u (2 * p)).csr n = spGet 0 (bghCore s (2 * p)).csr n)
        ∧ (bghCore u (2 * p)).csrN csrMip = (bghCore s (2 * p)).csrN csrMip ||| (bghCore s (2 * p + 1)).csrN csrMip
        ∧ u.fld (F.BGH_CORE_IPEND_PEND (2 * p.val)) = s.fld (F.BGH_CORE_IPEND_PEND (2 * p.val)) ||| s.fld (F.BGH_CORE_IPEND_PEND (2 * p.val + 1))
        ∧ pairCmdWritten p 4 oid s = s.put (F.BGH_PAIR_STAT_PARKED p) 0
        ∧ pairCmdWritten p 8 oid s = if s.flag (F.BGH_PAIR_STAT_PARKED p) = true then setPair p bgJoining s else handoverErr p 3 oid s)
      ∧ (pairState s p ≠ bgLost → pairCmdWritten p 16 oid s = s)
      ∧ (pairState s p = bgLost → let u := pairCmdWritten p 16 oid s
        pairState u p = bgSelftest ∧ (bghPair u p).passed = false ∧ RegsOnly [Reg.BGH_PAIR_STAT p] { s with bgh := u.bgh } u)
      ∧ (pairState s p ≠ bgQuarantine ∨ (bghPair s p).passed = false → pairCmdWritten p 32 oid s = s)
      ∧ (pairState s p = bgQuarantine → (bghPair s p).passed = true → ∃ u, pairCmdWritten p 32 oid s = bghEvent 0xB008 0 p 0 0 0 u ∧ u.mem = s.mem
        ∧ pairState u p = bgLockstep ∧ u.flag (F.BGH_PAIR_STAT_AGFAIL p) = false ∧ u.flag (F.BGH_PAIR_STAT_SAFE p) = !(s.flag (F.BGH_PAIR_CFG_AGREE p))
        ∧ bghCore u (2 * p) = { pc := BitVec.ofNat 64 ((s.reg (Reg.BGH_PAIR_ENTRY_LO p)).toNat + s.fld (F.BGH_PAIR_ENTRY_HI_PC_HI p) * 2 ^ 32) }
        ∧ ∀ c ∈ [2 * p.val, 2 * p.val + 1], u.fld (F.BGH_CORE_IEN_EN c) = 0 ∧ u.fld (F.BGH_CORE_STAT_CTX c) = 0) := by
  rw [pairCmd_split oid hheld, pairCmd_park oid hheld, pairCmd_unpark oid hheld, pairCmd_join oid hheld, pairCmd_readmit oid hheld, pairCmd_admit oid hheld]
  refine ⟨fun h => if_neg (by simp [h]), fun h => if_pos (by simp [h]), fun h k hk => ?_, fun h => ?_, fun h => if_neg (by simp [h]), readmit_spec p s,
    fun h => if_neg (by rcases h with h | h <;> simp [h]), admit_spec p s⟩
  · simp only [List.mem_cons, List.not_mem_nil, or_false] at hk
    rcases hk with rfl | rfl | rfl
    · rw [pairCmd_park oid hheld]
      unfold parkStage
      rw [if_neg (by simp [h]), if_neg (by simp)]
    · rw [pairCmd_unpark oid hheld]
      unfold parkStage
      rw [if_neg (by simp), if_neg (by simp [h])]
    · rw [pairCmd_join oid hheld]
      exact if_neg (by simp [h])
  · obtain ⟨h1, h2, h3, h4, h5, h6, h7⟩ := park_spec p s h
    refine ⟨h1, h2, h3, h4, h5, h6, h7, ?_, if_pos (by simp [h])⟩
    unfold parkStage
    rw [if_neg (by simp), if_pos (by simp [h])]

end

end Sys2Proof.Machine
end

section
/-! The Bough cores: which run, the interrupt they take, their CSRs and the accesses they refuse (R453 to R456, R461), and O57. -/

namespace Sys2Proof.Machine

theorem bghRuns_leader (p : Fin 4) (s : State) :
    bghRuns s (2 * p) = true ↔ pairsHeld s = false ∧ (pairState s p = bgLockstep ∨ pairState s p = bgSplit) := by
  have h1 : 2 * p.val / 2 = p.val := by omega
  have h2 : 2 * p.val % 2 = 0 := by omega
  unfold bghRuns
  simp only [h1, h2]
  simp

theorem bghRuns_follower (p : Fin 4) (s : State) :
    bghRuns s (2 * p + 1) = true ↔ pairsHeld s = false ∧ pairState s p = bgSplit ∧ s.flag (F.BGH_PAIR_STAT_PARKED p) = false := by
  have h1 : (2 * p.val + 1) / 2 = p.val := by omega
  have h2 : (2 * p.val + 1) % 2 = 1 := by omega
  unfold bghRuns
  simp only [h1, h2]
  simp

theorem bghStep_stopped {s : State} {c : Nat} (h : bghRuns s c = false) : bghStep s c = s := by
  generalize e : @bghStep = g
  delta bghStep at e
  subst e
  beta_reduce
  dsimp only
  rw [h]
  rfl

theorem bghStep_interrupt {s : State} {c i : Nat} (h : bghRuns s c = true) (hi : bghIntr s c (bghCore s c) = some i) :
    bghStep s c = setBghCore c ((bghCore s c).trap true i 0) s := by
  generalize e : @bghStep = g
  delta bghStep at e
  subst e
  beta_reduce
  dsimp only
  rw [h, hi]
  rfl

/-! ### The CSRs -/

section
variable (s : State) (c : Nat) (k : BghCore)

theorem testBit_masked (x : Nat) {m i : Nat} (h : m.testBit i = false) : (x &&& m).testBit i = false := by
  rw [Nat.testBit_and, h, Bool.and_false]

theorem bghMip_timer : bitAt (bghMip s c k) 7 = true ↔ s.reg64 (Reg.BGH_CORE_MTIMECMP_LO c) ≤ bghMtime s := by
  have h1 : (k.csrN csrMip &&& 0x222).testBit 7 = false := testBit_masked _ (by decide)
  have h2 : (if s.fld (F.BGH_CORE_IPEND_PEND c) &&& s.fld (F.BGH_CORE_IEN_EN c) ≠ 0 then 2 ^ 11 else 0).testBit 7 = false := by split <;> decide
  unfold bitAt bghMip
  rw [Nat.testBit_or, Nat.testBit_or, h1, h2, Bool.false_or, Bool.or_false]
  split
  · rename_i h
    exact iff_of_true (by decide) h
  · rename_i h
    exact iff_of_false (by decide) h

theorem bghMip_external : bitAt (bghMip s c k) 11 = true ↔ s.fld (F.BGH_CORE_IPEND_PEND c) &&& s.fld (F.BGH_CORE_IEN_EN c) ≠ 0 := by
  have h1 : (k.csrN csrMip &&& 0x222).testBit 11 = false := testBit_masked _ (by decide)
  have h2 : (if s.reg64 (Reg.BGH_CORE_MTIMECMP_LO c) ≤ bghMtime s then 2 ^ 7 else 0).testBit 11 = false := by split <;> decide
  unfold bitAt bghMip
  rw [Nat.testBit_or, Nat.testBit_or, h1, h2, Bool.false_or, Bool.false_or]
  split
  · rename_i h
    exact iff_of_true (by decide) h
  · rename_i h
    exact iff_of_false (by decide) h

theorem csrRead_mctx : csrRead s c 0x7C0 k = some (s.fld (F.BGH_CORE_STAT_CTX c), s) := rfl

theorem csrRead_mbgh : csrRead s c 0x7C1 k = some (ofBool (pairState s (c / 2) = bgLockstep)
    + ofBool (pairState s (c / 2) = bgLockstep && s.flag (F.BGH_PAIR_STAT_SAFE (c / 2))) * 2, s) := rfl

theorem csrRead_mhartid : csrRead s c 0xF14 k = some (c, s) := rfl

theorem csrRead_hpmcounter {n : Nat} (h1 : 0xB03 ≤ n) (h2 : n < 0xB20) : csrRead s c n k = some (0, s) := by
  unfold csrRead
  dsimp only
  have hlist (l : List Nat) (h : ∀ m ∈ l, m < 0xB03) : ¬ l.contains n = true := by
    rw [List.contains_iff_mem]
    exact fun hm => absurd (h n hm) (by omega)
  rw [if_neg (by omega), if_neg (by omega), if_neg (by omega), if_neg (by omega), if_neg (by omega), if_neg (by omega), if_neg (by omega),
    if_neg (hlist _ (by decide)), if_neg (by omega), if_neg (by omega), if_neg (by omega), if_neg (hlist _ (by decide)),
    if_neg (by simp only [Bool.and_eq_true, decide_eq_true_eq]; omega), if_neg (by simp only [Bool.and_eq_true, decide_eq_true_eq]; omega),
    if_neg (by omega), if_neg (by omega), if_neg (by omega), if_neg (by omega), if_pos (by simp only [Bool.and_eq_true, decide_eq_true_eq]; omega)]

theorem csrRead_time (h : counterOk k 1 = true) : csrRead s c 0xC01 k = some (bghMtime s, s) := by
  have hread : csrRead s c 0xC01 k = if !(counterOk k 1) then none else some (bghMtime s, s) := rfl
  rw [hread, h]
  rfl

theorem csrWrite_mctx (v : Nat) : (csrWrite c 0x7C0 v k s).1 = k ∧ (csrWrite c 0x7C0 v k s).2.fld (F.BGH_CORE_STAT_CTX c) = v % 64 := by
  obtain ⟨a, ha⟩ : ∃ a, a = s.put (F.BGH_CORE_STAT_CTX c) (v % 64) := ⟨_, rfl⟩
  have hwrite : csrWrite c 0x7C0 v k s = (k, if pairState a (c / 2) = bgSplit then a else a.put (F.BGH_CORE_STAT_CTX (c / 2 * 2 + 1)) (v % 64)) := by
    rw [ha]; rfl
  have hput (d : Nat) (t : State) : (t.put (F.BGH_CORE_STAT_CTX d) (v % 64)).fld (F.BGH_CORE_STAT_CTX d) = v % 64 :=
    fld_put_fits _ _ (by show 0 ≤ 5; decide) (by show 5 < 32; decide) (Nat.mod_lt _ (by decide))
  have hfld : a.fld (F.BGH_CORE_STAT_CTX c) = v % 64 := by rw [ha]; exact hput c s
  rw [hwrite]
  refine ⟨rfl, ?_⟩
  dsimp only
  split
  · exact hfld
  · by_cases he : c = c / 2 * 2 + 1
    · rw [← he]; exact hput c a
    · rw [fld_put_reg _ _ _ _ (by show 0x2B0200 + 0x20 * c ≠ 0x2B0200 + 0x20 * (c / 2 * 2 + 1); omega), hfld]

theorem csrWrite_satp {v : Nat} (h0 : slice v 63 60 ≠ 0) (h9 : slice v 63 60 ≠ 9) : csrWrite c 0x180 v k s = (k, s) := by
  have hwrite : csrWrite c 0x180 v k s = (if slice v 63 60 = 0 || slice v 63 60 = 9 then
      k.setCsr csrSatp (slice v 63 60 * 2 ^ 60 + (slice v 59 44 &&& Config.bghAsid.toNat) * 2 ^ 44 + slice v 43 0) else k, s) := rfl
  rw [hwrite, if_neg (by simp [h0, h9])]

end

/-! ### Refused accesses (R453) -/

section
variable (c : Nat) (k : BghCore) (va n : Nat)

theorem dataPlace_crosses {acc : BghAcc} (s : State) (h : 64 < va % 64 + n) : dataPlace c k acc va n s = (.inl ⟨acc.misaligned, va⟩, s) := if_pos h

theorem bghLoad_refused {s t : State} {e : BghExc} (h : dataPlace c k .load va n s = (.inl e, t)) : bghLoad c k va n s = (.inl e, t) := by
  generalize d : @bghLoad = g
  delta bghLoad at d
  subst d
  beta_reduce
  rw [h]

theorem bghStore_refused {v : Nat} {s t : State} {e : BghExc} (h : dataPlace c k .store va n s = (.inl e, t)) :
    bghStore c k va n v s = (some e, t) := by
  generalize d : @bghStore = g
  delta bghStore at d
  subst d
  beta_reduce
  rw [h]

theorem atomicPlace_off_dram {acc : BghAcc} {pa : Nat} {s t : State} (hal : va % n = 0) (hpa : 0x1800000000 ≤ pa)
    (h : checked c k k.dataMode acc va s = (.inr pa, t)) : atomicPlace c k acc va n s = (.inl ⟨acc.fault, va⟩, t) := by
  generalize d : @atomicPlace = g
  delta atomicPlace at d
  subst d
  beta_reduce
  rw [if_neg (by rw [hal]; decide), h]
  exact if_neg (by omega)

theorem bghLr_refused {s t : State} {e : BghExc} (h : atomicPlace c k .load va n s = (.inl e, t)) : bghLr c k va n s = (.inl e, t) := by
  generalize d : @bghLr = g
  delta bghLr at d
  subst d
  beta_reduce
  rw [h]

theorem bghSc_refused {v : Nat} {s t : State} {e : BghExc} (h : atomicPlace c k .store va n s = (.inl e, t)) : bghSc c k va n v s = (.inl e, t) := by
  generalize d : @bghSc = g
  delta bghSc at d
  subst d
  beta_reduce
  rw [h]

theorem bghAmo_refused {f : Nat → Nat} {s t : State} {e : BghExc} (h : atomicPlace c k .store va n s = (.inl e, t)) :
    bghAmo c k va n f s = (.inl e, t) := by
  generalize d : @bghAmo = g
  delta bghAmo at d
  subst d
  beta_reduce
  rw [h]

end

/-- What a core shows of its interrupts and registers (R453, R455, R456). -/
theorem coreReads_spec (s : State) (c : Fin 8) (k : BghCore) :
      (bitAt (bghMip s c k) 7 = true ↔ s.reg64 (Reg.BGH_CORE_MTIMECMP_LO c) ≤ bghMtime s)
      ∧ (bitAt (bghMip s c k) 11 = true ↔ s.fld (F.BGH_CORE_IPEND_PEND c) &&& s.fld (F.BGH_CORE_IEN_EN c) ≠ 0)
      ∧ (bghRuns s c = true → ∀ i, bghIntr s c k = some i → k = bghCore s c → bghStep s c = setBghCore c (k.trap true i 0) s)
      ∧ csrRead s c 0x7C0 k = some (s.fld (F.BGH_CORE_STAT_CTX c), s)
      ∧ csrRead s c 0x7C1 k = some (ofBool (pairState s (c / 2) = bgLockstep)
          + ofBool (pairState s (c / 2) = bgLockstep && s.flag (F.BGH_PAIR_STAT_SAFE (c / 2))) * 2, s)
      ∧ csrRead s c 0xF14 k = some (c.val, s)
      ∧ (∀ n, 0xB03 ≤ n → n < 0xB20 → csrRead s c n k = some (0, s)) ∧ (counterOk k 1 = true → csrRead s c 0xC01 k = some (bghMtime s, s))
      ∧ (∀ v, (csrWrite c 0x7C0 v k s).1 = k ∧ (csrWrite c 0x7C0 v k s).2.fld (F.BGH_CORE_STAT_CTX c) = v % 64)
      ∧ (∀ v, slice v 63 60 ≠ 0 → slice v 63 60 ≠ 9 → csrWrite c 0x180 v k s = (k, s)) :=
  ⟨bghMip_timer s c k, bghMip_external s c k, fun hrun i hi hk => by rw [hk] at hi ⊢; exact bghStep_interrupt hrun hi, csrRead_mctx s c k,
    csrRead_mbgh s c k, csrRead_mhartid s c k, fun _ h1 h2 => csrRead_hpmcounter s c k h1 h2, csrRead_time s c k, csrWrite_mctx s c k,
    fun _ h0 h9 => csrWrite_satp s c k h0 h9⟩

/-- Settles O57, clause by clause: the pairs' states and commands, and what their cores run, read and refuse. -/
theorem boughPairs : Obligations.BoughPairs := by
  unfold Obligations.BoughPairs
  refine ⟨fun p lines ns s => splitComplete_spec p s lines ns, fun p ok ns s => joinComplete_spec p s ok ns, fun p fails s =>
    pairSelftestComplete_spec p s fails, fun p a0 a1 k s hheld => ?_, losePair_spec, agreeFallback_spec, fun p c0 c1 s hheld =>
    signatureCheck_spec p s c0 c1 hheld, fun c s => mtimecmpMatch_spec s c, fun c data s => ipset_spec s c data, fun p oid s hheld => ?_⟩
  · obtain ⟨hsame, hquiet⟩ := pairTransaction_quiet p s a0 a1 k hheld
    refine ⟨hsame, hquiet, fun hk hst => pairTransaction_differ p s a0 a1 k hheld hk hst, fun copy l2 off x => ?_⟩
    obtain ⟨hidle, hbad⟩ := pairTransaction_badWord p s copy l2 off x hheld
    exact ⟨hidle, fun hst hoff hdec hue => ⟨_, hbad hst, badWord_spec p s copy l2 off x hoff hdec hue⟩⟩
  · obtain ⟨h1, h2, h3, h4, h5, h6, h7, h8⟩ := pairCommands_spec p s oid hheld
    refine ⟨h1, h2, h3, h4, h5, h6, h7, h8, fun s c h => bghStep_stopped h, fun p s => ⟨bghRuns_leader p s, bghRuns_follower p s⟩, fun s c k => ?_,
      fun c k va n v s h => ?_, fun c k va n v pa f s t hal hpa => ⟨fun h => ?_, fun h => ⟨?_, ?_⟩⟩⟩
    · exact coreReads_spec s c k
    · exact ⟨bghLoad_refused c k va n (dataPlace_crosses c k va n s h), bghStore_refused c k va n (dataPlace_crosses c k va n s h)⟩
    · exact bghLr_refused c k va n (atomicPlace_off_dram c k va n hal hpa h)
    · exact bghSc_refused c k va n (atomicPlace_off_dram c k va n hal hpa h)
    · exact bghAmo_refused c k va n (atomicPlace_off_dram c k va n hal hpa h)

end Sys2Proof.Machine
end

section
/-! What a transaction of an engine on the network leaves (R29 to R40, R298 to R312): everything but memory, its checks, the page table's, the
scheduler's and the rings' state, and outside the registers of those units every register. -/

namespace Sys2Proof.Machine

/-- The registers that a transaction may write: those of its events and those of the units that judge, store, count and repair. -/
def NetReg (o : Nat) : Prop :=
  EvReg o ∨ o / 0x10000 = 0 ∨ o = 0x20000 ∨ (o / 0x1000 = 0x31 ∧ o % 0x20 = 0x14) ∨ o / 0x10000 = 5 ∨ o / 0x10000 = 6 ∨ o / 0x10000 = 7
    ∨ (0x10 ≤ o / 0x10000 ∧ o / 0x10000 ≤ 0x15 ∧ o % 0x10000 ≠ 0) ∨ o = 0x200000 ∨ o = 0x210040 ∨ (o / 0x10000 = 0x2C ∧ o ≠ 0x2C0000)

/-- From `s` to `t` only what a transaction touches differs; its registers are bounded when `q` holds (the sender is no unit, its context is below 64). -/
structure NetStep (q : Prop) (s t : State) : Prop where
  rest : { t with evq := s.evq, out := s.out, regs := s.regs, mem := s.mem, memsys := s.memsys, kvp := s.kvp, sched := s.sched, crown := s.crown
                  hwd := s.hwd, sdb := s.sdb, free := s.free, rdShadow := s.rdShadow } = s
  reg : q → ∀ o, ¬ NetReg o → t.reg o = s.reg o

namespace NetStep
variable {q : Prop} {s t u : State}

theorem refl (s : State) : NetStep q s s := ⟨rfl, fun _ _ _ => rfl⟩

theorem trans (h : NetStep q s t) (g : NetStep q t u) : NetStep q s u := by
  refine ⟨?_, fun hq o ho => (g.reg hq o ho).trans (h.reg hq o ho)⟩
  have e := congrArg (fun x : State => { x with evq := s.evq, out := s.out, regs := s.regs, mem := s.mem, memsys := s.memsys, kvp := s.kvp
                                                sched := s.sched, crown := s.crown, hwd := s.hwd, sdb := s.sdb, free := s.free, rdShadow := s.rdShadow }) g.rest
  exact e.trans h.rest

theorem weaken {r : Prop} (h : NetStep q s t) (hr : r → q) : NetStep r s t := ⟨h.rest, fun hq => h.reg (hr hq)⟩

theorem ofEvent (h : EventStep s t) : NetStep q s t := by
  refine ⟨?_, fun _ o ho => h.reg o fun he => ho (.inl he)⟩
  exact (congrArg (fun x : State => { x with mem := s.mem, memsys := s.memsys, kvp := s.kvp, sched := s.sched, crown := s.crown, hwd := s.hwd
                                             sdb := s.sdb, free := s.free, rdShadow := s.rdShadow }) h.rest :)

theorem ofReg {P : Nat → Prop} (h : RegStep P s t) (hp : q → ∀ o, P o → NetReg o) : NetStep q s t := by
  refine ⟨?_, fun hq o ho => h.reg o fun he => ho (hp hq o he)⟩
  exact (congrArg (fun x : State => { x with mem := s.mem, memsys := s.memsys, kvp := s.kvp, sched := s.sched, crown := s.crown, hwd := s.hwd
                                             sdb := s.sdb, free := s.free, rdShadow := s.rdShadow }) h.rest :)

theorem setReg (s : State) {o : Nat} (v : Word) (h : q → NetReg o) : NetStep q s (s.setReg o v) :=
  ⟨rfl, fun hq _ hp => reg_setReg_ne s v fun e => hp (e ▸ h hq)⟩
theorem put (s : State) {f : RegField} (v : Nat) (h : q → NetReg f.reg) : NetStep q s (s.put f v) := setReg s _ h
theorem inc64 (s : State) {o : Nat} (n : Nat) (h : q → NetReg o) (h4 : q → NetReg (o + 4)) : NetStep q s (s.inc64 o n) :=
  (setReg s _ h).trans (setReg _ _ h4)
theorem incHold (s : State) {f : RegField} (h : q → NetReg f.reg) : NetStep q s (s.incHold f) := by
  unfold State.incHold; split
  · exact put s _ h
  · exact refl s

theorem foldl {α : Type} (l : List α) (f : State → α → State) (h : ∀ s, ∀ x ∈ l, NetStep q s (f s x)) (s : State) : NetStep q s (l.foldl f s) := by
  induction l generalizing s with
  | nil => exact refl _
  | cons x l ih => exact (h s x List.mem_cons_self).trans (ih (fun s y hy => h s y (List.mem_cons_of_mem _ hy)) _)

theorem frameTab (h : NetStep q s t) : t.frameTab = s.frameTab := (congrArg State.frameTab h.rest :)
theorem spl (h : NetStep q s t) : t.spl = s.spl := (congrArg State.spl h.rest :)
theorem elapsed (h : NetStep q s t) : t.elapsed = s.elapsed := (congrArg State.elapsed h.rest :)
theorem tim (h : NetStep q s t) : t.tim = s.tim := (congrArg State.tim h.rest :)
theorem grove (h : NetStep q s t) : t.grove = s.grove := (congrArg State.grove h.rest :)
theorem resp (h : NetStep q s t) : t.resp = s.resp := (congrArg State.resp h.rest :)
theorem owed (h : NetStep q s t) : t.owed = s.owed := (congrArg State.owed h.rest :)
theorem can (h : NetStep q s t) : t.can = s.can := (congrArg State.can h.rest :)
theorem cmb (h : NetStep q s t) : t.cmb = s.cmb := (congrArg State.cmb h.rest :)
theorem rlk (h : NetStep q s t) : t.rlk = s.rlk := (congrArg State.rlk h.rest :)
theorem bgh (h : NetStep q s t) : t.bgh = s.bgh := (congrArg State.bgh h.rest :)
theorem lcs (h : NetStep q s t) : t.lcs = s.lcs := (congrArg State.lcs h.rest :)
theorem sap (h : NetStep q s t) : t.sap = s.sap := (congrArg State.sap h.rest :)
theorem fld (h : NetStep q s t) (hq : q) {f : RegField} (hf : ¬ NetReg f.reg) : t.fld f = s.fld f := by unfold State.fld; rw [h.reg hq _ hf]
theorem flag (h : NetStep q s t) (hq : q) {f : RegField} (hf : ¬ NetReg f.reg) : t.flag f = s.flag f := by unfold State.flag; rw [h.fld hq hf]
end NetStep

/-- A sender that is no unit of the scheduler. -/
def NoUnit (oid : Nat) : Prop := ¬ (0x10 ≤ oid ∧ oid ≤ 0x15) ∧ oid ≠ 0x18

/-! ### Events, teardowns and lost units -/

theorem netReg_ctxStat {c : Nat} (h : c < 64) : NetReg (Reg.SCH_CTX_STAT c) := by
  unfold NetReg Reg.SCH_CTX_STAT
  omega

theorem netStep_tearCtx (c code : Nat) (s : State) : NetStep (c < 64) s (tearCtx c code s) := by
  have hsched : NetStep (c < 64) s { s with sched := { s.sched with tearing := spSet 0 c (s.elapsed + 1) s.sched.tearing } } := ⟨rfl, fun _ _ _ => rfl⟩
  have hst (t : State) (v : Nat) : NetStep (c < 64) t (t.put (F.SCH_CTX_STAT_STATE c) v) := .put t v netReg_ctxStat
  have hca (t : State) (v : Nat) : NetStep (c < 64) t (t.put (F.SCH_CTX_STAT_CAUSE c) v) := .put t v netReg_ctxStat
  unfold tearCtx
  dsimp only
  split
  · exact (hsched.trans (hst _ _)).trans (hca _ _)
  · split
    · exact hca _ _
    · exact .refl s

theorem netStep_hwdDue (cause : Nat) (s : State) (arg : Nat) : NetStep True s (hwdDue cause s arg) := ⟨rfl, fun _ _ _ => rfl⟩

theorem netStep_loseUnits (us : List Nat) (cause : Nat) (s : State) : NetStep False s (loseUnits us cause s) := by
  unfold loseUnits
  dsimp only
  split
  · exact .refl s
  · generalize us.filter _ = us
    have hset (t : State) (u : Nat) (x : UnitSt) : NetStep False t (setUnit u x t) := ⟨rfl, False.elim⟩
    have hunit (t : State) (u : Nat) (x : UnitSt) : NetStep False t (setUnit u x ((t.put (unitField u) uLost).put (unitCtxField u) 0)) :=
      ((NetStep.put t _ False.elim).trans (.put _ _ False.elim)).trans (hset _ u x)
    have h1 := NetStep.foldl us _ (fun t u _ => hunit t u { unitSt t u with needZero := true, passed := false, retire := false }) s
    refine h1.trans ?_
    generalize us.foldl _ s = t
    generalize (((s.sched.jobs.filter _).map Job.ctx).eraseDups.filter _) = torn
    have h2 := NetStep.foldl torn _ (fun t c _ => (netStep_tearCtx c 0x4002 t).weaken False.elim) t
    refine h2.trans ?_
    generalize torn.foldl _ t = v
    have h3 : NetStep False v (v.setSched { v.sched with loss := v.sched.loss ++ torn.map fun c => (c, us.headD 0) }) := ⟨rfl, False.elim⟩
    refine h3.trans ?_
    generalize v.setSched _ = w
    split
    · exact (NetStep.ofEvent (eventStep_acceptEv _ w)).trans ((netStep_hwdDue 4 _ 0).weaken fun _ => trivial)
    · exact .ofEvent (eventStep_acceptEv _ w)

/-- An event is noted, and tears down its context or loses its unit (R515). -/
theorem netStep_raise (e : EvRec) (s : State) : NetStep ((e.sev = 2 → e.ctx < 64) ∧ (e.sev = 3 → NoUnit e.oid)) s (raise e s) := by
  have hev := eventStep_acceptEv e s
  unfold raise
  dsimp only
  split
  · rename_i h2
    exact (NetStep.ofEvent hev).trans ((netStep_tearCtx e.ctx e.code _).weaken fun h => h.1 h2)
  · split
    · rename_i h
      simp only [Bool.and_eq_true, decide_eq_true_eq] at h
      exact (NetStep.ofEvent hev).trans ((netStep_loseUnits _ _ _).weaken fun g => (g.2 h.1.1).1 ⟨h.1.2, h.2⟩)
    · split
      · rename_i h
        simp only [Bool.and_eq_true, decide_eq_true_eq] at h
        exact (NetStep.ofEvent hev).trans ((netStep_loseUnits _ _ _).weaken fun g => (g.2 h.1).2 h.2)
      · exact .ofEvent hev

theorem netReg_of_accReg {o : Nat} (h : AccReg o) : NetReg o := by
  unfold AccReg EvReg Reg.BRK_DENYCNT_LO at h
  unfold NetReg EvReg
  omega

theorem netStep_accessEvent (code oid ctx a n : Nat) (wr : Bool) (kind : AliasKind) (data arg3 sev : Nat) (s : State) :
    NetStep (sev < 3 ∧ (sev = 2 → ctx < 64)) s (accessEvent code oid ctx a n wr kind data arg3 sev s) := by
  have hrec := regStep_recorded code oid ctx a n wr kind s
  rw [accessEvent_eq]
  exact (NetStep.ofReg hrec fun _ _ => netReg_of_accReg).trans ((netStep_raise _ _).weaken fun ⟨h3, h2⟩ => ⟨h2, fun h => by rw [show sev = 3 from h] at h3; omega⟩)

theorem accSev_lt (oid : Nat) : accSev oid < 3 := by unfold accSev; split <;> decide

theorem netStep_reportFail (oid ctx : Nat) (wr : Bool) (f : AccFail) (d : Nat) (s : State) : NetStep (ctx < 64) s (reportFail oid ctx wr f d s) := by
  unfold reportFail
  refine (netStep_accessEvent _ _ _ _ _ _ _ _ _ _ s).weaken fun h => ⟨accSev_lt oid, fun _ => ?_⟩
  split <;> omega

/-! ### Memory: checks, corrections, repairs -/

/-- The units of a place are those that there are. -/
def Place.Fits : Place → Prop
  | .scratch n _ => n < 6
  | .acc n _ => n < 6
  | _ => True

theorem place_fits {a : Nat} {p : Place} (h : place a = some p) : p.Fits := by
  unfold place hiddenPlace at h
  split at h
  · cases h; trivial
  split at h
  · split at h
    · cases h; show (a - 2 ^ 48) / 0x240000 < 6; omega
    split at h
    · cases h; trivial
    split at h
    · cases h; trivial
    split at h
    · cases h; trivial
    · cases h
  split at h
  · split at h
    · rename_i h1 _
      simp only [Bool.and_eq_true, decide_eq_true_eq] at h1
      cases h; show (a - 0x2000000000) / 0x2000000 < 6; omega
    · cases h
  all_goals grind [Place.Fits]

theorem dramChan_lt (a : Nat) : dramChan a < 128 := by
  have h (x : Nat) : x % 128 < 2 ^ 7 := Nat.mod_lt _ (by decide)
  unfold dramChan
  exact Nat.xor_lt_two_pow (Nat.xor_lt_two_pow (h _) (h _)) (h _)

theorem netReg_dram {k o : Nat} (hk : k < 4) (h : o / 0x1000 = 0x70 + k) : NetReg o := by
  unfold NetReg
  omega

theorem chip_lt (a : Nat) : dramChan a / 32 < 4 := by have := dramChan_lt a; omega

theorem netStep_cecnt (f : Nat → RegField) (hf : ∀ k < 4, (f k).reg / 0x1000 = 0x70 + k) (a : Nat) (s : State) :
    NetStep True s (s.incHold (f (dramChan a / 32))) :=
  .incHold s fun _ => netReg_dram (chip_lt a) (hf _ (chip_lt a))

theorem netStep_startRepair (mac a trigger : Nat) (s : State) : NetStep True s (startRepair mac a trigger s) := by
  unfold startRepair
  split
  · exact .refl s
  · split
    · rw [raise_of_minor _ (Nat.one_lt_two : 1 < 2)]
      exact (NetStep.incHold s (f := F.MEM_RPLOG_EXH) fun _ => by unfold NetReg F.MEM_RPLOG_EXH; dsimp only; omega).trans (.ofEvent (eventStep_acceptEv _ _))
    · exact ⟨rfl, fun _ _ _ => rfl⟩

theorem netReg_corr {n : Nat} (h : n < 6) : NetReg (F.CRN_ECCCNT_CORR n).reg := by
  unfold NetReg F.CRN_ECCCNT_CORR; dsimp only; omega

theorem netStep_countCe {p : Place} (hp : p.Fits) (s : State) : NetStep True s (countCe p s) := by
  have hmem (t : State) : NetStep True t (t.inc64 Reg.MEM_CECNT_LO) := .inc64 t _ (fun _ => by unfold NetReg Reg.MEM_CECNT_LO; omega)
    (fun _ => by unfold NetReg Reg.MEM_CECNT_LO; omega)
  cases p with
  | dram a => exact netStep_cecnt F.DRC_CECNT_CORR (fun k hk => by unfold F.DRC_CECNT_CORR; dsimp only; omega) a s
  | scratch n _ => exact .incHold s fun _ => netReg_corr hp
  | acc n _ => exact .incHold s fun _ => netReg_corr hp
  | sapling _ => exact .incHold s fun _ => by unfold NetReg F.SPL_ECCCNT_CORR; dsimp only; omega
  | l1 _ _ => exact .refl s
  | l2 _ _ => exact .refl s
  | canopy _ => exact hmem s
  | cambium _ => exact hmem s
  | seedbed _ => exact hmem s
  | pith _ => exact hmem s
  | hwd _ => exact hmem s
  | reg _ => exact hmem s
  | dir _ => exact hmem s

theorem netStep_flipBit (w k : Nat) (p : Place) (s : State) : NetStep True s (flipBit w k p s) := by
  cases p <;> exact ⟨rfl, fun _ _ _ => rfl⟩

theorem netStep_setMs (s : State) (m : MemSys) : NetStep True s (s.setMs m) := ⟨rfl, fun _ _ _ => rfl⟩

theorem netStep_correctWord (oid w : Nat) {p : Place} (hp : p.Fits) (s : State) : NetStep True s (correctWord oid w p s) := by
  unfold correctWord
  extract_lets x mac flipped n again m noted counted thr told
  have h1 : NetStep True s flipped := by
    unfold flipped
    split
    · exact netStep_flipBit _ _ _ _
    · exact .refl s
  have h2 : NetStep True flipped counted := (netStep_setMs flipped _).trans (netStep_countCe hp noted)
  have h3 : NetStep True counted told := by
    unfold told
    split
    · rw [raise_of_minor _ Nat.zero_lt_two]
      exact .ofEvent (eventStep_acceptEv _ counted)
    · exact .refl counted
  split
  · exact ((h1.trans h2).trans h3).trans (netStep_startRepair _ _ _ told)
  · exact (h1.trans h2).trans h3

theorem netStep_directoryLost (s : State) : NetStep True s (directoryLost s) := by
  unfold directoryLost
  dsimp only
  have h1 : NetStep True s ({ s with kvp := { s.kvp with dead := true } }.put F.KVP_CTRL_EN 0) :=
    ⟨rfl, fun _ o ho => reg_put_ne { s with kvp := { s.kvp with dead := true } } F.KVP_CTRL_EN 0 fun e => ho (by rw [e]; unfold NetReg F.KVP_CTRL_EN; dsimp only; omega)⟩
  refine h1.trans (.foldl _ _ (fun t c hc => (netStep_tearCtx c _ t).weaken fun _ => ?_) _)
  exact List.mem_range.1 (List.mem_filter.1 hc).1

theorem netStep_failSamples (n : Nat) (s : State) : NetStep True s (failSamples n s) := ⟨rfl, fun _ _ _ => rfl⟩

theorem ueClass_ctx (s : State) (w : Nat) (p : Place) : (ueClass s w p).2 < 64 := by
  have hcore (n c : Nat) (h : coreCtx s n = some c) : c < 64 := by
    unfold coreCtx at h
    split at h
    · cases h; exact fld_lt s (F.CRN_STATE_CTX n)
    · cases h
  have hspl : s.fld F.SPL_STATE_CTX < 64 := fld_lt s F.SPL_STATE_CTX
  have howned (o : Nat) : (if o < 64 then ((2, o) : Nat × Nat) else (1, 0)).2 < 64 := by split <;> omega
  have h0 : 0 < 64 := Nat.zero_lt_succ _
  cases p with
  | scratch n _ =>
    show (match coreCtx s n with | some c => ((2, c) : Nat × Nat) | none => _).2 < 64
    split
    · exact hcore n _ ‹_›
    · exact howned _
  | canopy _ => exact howned _
  | dram _ => exact howned _
  | sapling off =>
    unfold ueClass
    dsimp only
    split
    · exact howned _
    · split
      · exact hspl
      · exact h0
  | seedbed off =>
    unfold ueClass
    dsimp only
    split
    · exact Nat.mod_lt _ h0
    · exact h0
  | acc n _ =>
    unfold ueClass
    dsimp only
    split
    · exact hcore n _ ‹_›
    · exact h0
  | dir _ => exact h0
  | l1 _ _ => exact h0
  | l2 _ _ => exact h0
  | pith _ => exact h0
  | cambium _ => exact h0
  | hwd _ => exact h0
  | reg _ => exact h0

end Sys2Proof.Machine
end

section
/-! What the transactions of an engine leave: reads, writes, signals and reads of rings (R29 to R40, R116, R298 to R312). -/

namespace Sys2Proof.Machine

theorem netStep_accessEvent_minor {code oid ctx a n : Nat} {wr : Bool} {kind : AliasKind} {data arg3 sev : Nat} (h : sev < 2) (s : State) :
    NetStep True s (accessEvent code oid ctx a n wr kind data arg3 sev s) :=
  (netStep_accessEvent _ _ _ _ _ _ _ _ _ _ s).weaken fun _ => ⟨by omega, by omega⟩

/-! ### Reads and writes of memory -/

theorem netStep_meetBad {oid w : Nat} (p : Place) (tester : Bool) (s : State) : NetStep (NoUnit oid) s (meetBad oid w p tester s) := by
  unfold meetBad
  split
  · exact .refl s
  extract_lets mac m seen counted marked
  have hctx := ueClass_ctx s w p
  generalize ueClass s w p = cls at hctx ⊢
  obtain ⟨sev, c⟩ := cls
  dsimp -zeta only
  extract_lets told due
  have hseen : NetStep (NoUnit oid) s counted :=
    (((netStep_setMs s _).weaken fun _ => trivial).trans (.incHold seen fun _ => by unfold NetReg F.MEM_UECNT_CNT; dsimp only; omega))
  have hmarked : NetStep (NoUnit oid) counted marked := by
    unfold marked
    split
    · exact (netStep_cecnt F.DRC_CECNT_UNCORR (fun k hk => by unfold F.DRC_CECNT_UNCORR; dsimp only; omega) _ counted).weaken fun _ => trivial
    · exact .put counted _ fun _ => by unfold NetReg F.LCS_STAT_PITHUE; dsimp only; omega
    · exact .refl counted
  have htold : NetStep (NoUnit oid) marked told := (netStep_raise _ marked).weaken fun h => ⟨fun _ => hctx, fun _ => h⟩
  have hdue : NetStep (NoUnit oid) told due := by
    unfold due
    split
    · exact (netStep_hwdDue _ told 0).weaken fun _ => trivial
    · exact (netStep_hwdDue _ told 0).weaken fun _ => trivial
    · exact (netStep_directoryLost told).weaken fun _ => trivial
    · split
      · exact (netStep_failSamples _ told).weaken fun _ => trivial
      · exact .refl told
    · exact .refl told
  exact (((hseen.trans hmarked).trans htold).trans hdue).trans ((netStep_startRepair _ _ _ due).weaken fun _ => trivial)

theorem netStep_scanWords (oid : Nat) (tester : Bool) (ws : List Nat) (s : State) :
    NetStep ((scanWords oid tester ws s).1 = false → NoUnit oid) s (scanWords oid tester ws s).2 := by
  induction ws generalizing s with
  | nil => exact .refl s
  | cons w ws ih =>
    unfold scanWords
    split
    · exact ih s
    · rename_i p hp
      split
      · exact ih s
      · have hbad := netStep_meetBad (oid := oid) (w := w) p tester s
        split
        · exact (hbad.weaken fun h => h rfl).trans ((ih _).weaken fun h _ => h rfl)
        · exact hbad.weaken fun h => h rfl
      · exact ((netStep_correctWord oid w (place_fits hp) s).weaken fun _ => trivial).trans (ih _)

theorem netStep_traffic (f : Nat → Nat) (hf : ∀ k < 4, f k / 0x1000 = 0x70 + k ∧ (f k + 4) / 0x1000 = 0x70 + k) (x n : Nat) (s : State) :
    NetStep True s (s.inc64 (f (dramChan x / 32)) n) :=
  .inc64 s n (fun _ => netReg_dram (chip_lt x) (hf _ (chip_lt x)).1) fun _ => netReg_dram (chip_lt x) (hf _ (chip_lt x)).2

theorem netStep_memRead (oid a n : Nat) (s : State) : NetStep ((memRead oid a n s).1 = none → NoUnit oid) s (memRead oid a n s).2 := by
  unfold memRead
  extract_lets r t u
  have ht : NetStep (r.1 = false → NoUnit oid) s t := netStep_scanWords oid false _ s
  have hu : NetStep True t u := by
    unfold u
    split
    · exact (netStep_setMs t _).trans (netStep_traffic Reg.DRC_RDBYTES_LO (fun k hk => by unfold Reg.DRC_RDBYTES_LO; omega) _ _ _)
    · exact .refl t
  cases hr : r.1 with
  | true =>
    rw [hr] at ht
    exact (ht.weaken fun _ h => nomatch h).trans (hu.weaken fun _ => trivial)
  | false =>
    rw [hr] at ht
    exact (ht.weaken fun h _ => h rfl).trans (hu.weaken fun _ => trivial)

theorem netStep_correctPartial (oid a n : Nat) (s : State) : NetStep True s (correctPartial oid a n s) := by
  unfold correctPartial
  refine .foldl _ _ (fun t w _ => ?_) s
  split
  · exact .refl t
  · split
    · rename_i hp _; exact netStep_correctWord oid w (place_fits hp) t
    · rename_i hp _; exact netStep_correctWord oid w (place_fits hp) t
    · exact .refl t

theorem netStep_memStore (oid a : Nat) (kind : AliasKind) (bs : List Byte) (s : State) : NetStep True s (memStore oid a kind bs s).2 := by
  unfold memStore
  extract_lets t
  generalize hx : pieceBytes t a kind bs = x
  obtain ⟨l, hit⟩ := x
  have hmem (u : State) (x : Sparse Byte) (m : MemSys) : NetStep True u { u with mem := x, memsys := m } := ⟨rfl, fun _ _ _ => rfl⟩
  have ht := netStep_correctPartial oid a bs.length s
  dsimp only
  split
  · exact (ht.trans (hmem t _ _)).trans ((netStep_setMs _ _).trans
      (netStep_traffic Reg.DRC_WRBYTES_LO (fun k hk => by unfold Reg.DRC_WRBYTES_LO; omega) _ _ _))
  · exact ht.trans (hmem t _ _)

theorem netStep_parityError (oid x failed kind : Nat) (t : State) :
    NetStep ((parityError oid (dramChan x) failed kind t).1 = false → NoUnit oid) t (parityError oid (dramChan x) failed kind t).2 := by
  have hr : NetStep True t (t.incHold (F.DRC_LINKERR_RETRIED (dramChan x / 32))) :=
    .incHold t fun _ => netReg_dram (chip_lt x) (by have := chip_lt x; unfold F.DRC_LINKERR_RETRIED; dsimp only; omega)
  have hf : NetStep True t (t.incHold (F.DRC_LINKERR_FAILED (dramChan x / 32))) :=
    .incHold t fun _ => netReg_dram (chip_lt x) (by have := chip_lt x; unfold F.DRC_LINKERR_FAILED; dsimp only; omega)
  unfold parityError
  split
  · exact .refl t
  · by_cases hok : failed ≤ 3
    · simp only [hok, decide_true, if_true]
      exact (hr.weaken fun _ => trivial).trans ((netStep_raise _ _).weaken fun _ => ⟨fun h => absurd h (by show (1 : Nat) ≠ 2; decide), fun h => absurd h (by show (1 : Nat) ≠ 3; decide)⟩)
    · simp only [hok, decide_false, if_false]
      exact (hf.weaken fun _ => trivial).trans ((netStep_raise _ _).weaken fun h => ⟨fun _ => Nat.zero_lt_succ _, fun _ => h trivial⟩)

theorem netStep_engineLink (oid x : Nat) (s : State) : NetStep ((engineLink oid x s).1 = false → NoUnit oid) s (engineLink oid x s).2 := by
  unfold engineLink
  split
  · exact .refl s
  · exact ((netStep_setMs s _).weaken fun _ => trivial).trans (netStep_parityError oid x _ _ _)

/-! ### Rings -/

theorem ringReg_netReg {t r : Nat} (h : ringReg t = some r) : NetReg r := by
  unfold ringReg Reg.CRN_RING Reg.GRN_VAL at h
  unfold NetReg
  dsimp only at h
  split at h
  · split at h
    · cases h; omega
    · cases h
  · split at h
    · cases h; omega
    · cases h

theorem netStep_bumpRing (t d : Nat) (s : State) : NetStep True s (bumpRing t d s) := by
  unfold bumpRing
  split
  · exact .setReg s _ fun _ => ringReg_netReg ‹_›
  · exact .refl s

theorem netStep_setKvp (s : State) (k : Kvp) : NetStep True s { s with kvp := k } := ⟨rfl, fun _ _ _ => rfl⟩

theorem netStep_notePost (t oid data : Nat) (s : State) : NetStep True s (notePost t oid data s) := by
  unfold notePost
  split
  · exact netStep_setKvp s _
  · exact .refl s

theorem netStep_applySignal (t oid ctx data : Nat) (s : State) : NetStep True s (applySignal t oid ctx data s) := by
  unfold applySignal
  split
  · exact .refl s
  · split
    · unfold signalBad
      rw [raise_of_minor _ (by exact Nat.one_lt_two)]
      exact (NetStep.incHold s (f := F.GRN_SIGBAD_CNT) fun _ => by unfold NetReg F.GRN_SIGBAD_CNT; dsimp only; omega).trans (.ofEvent (eventStep_acceptEv _ _))
    · exact (netStep_notePost _ _ _ s).trans (netStep_bumpRing _ _ _)

theorem netStep_netSignal (t oid ctx d : Nat) (s : State) : NetStep (ctx < 64) s (netSignal t oid ctx d s).2 := by
  unfold netSignal
  split
  · exact netStep_reportFail _ _ _ _ _ s
  · exact (netStep_applySignal _ _ _ _ s).weaken fun _ => trivial

theorem netStep_netRingRead (t oid ctx : Nat) (s : State) : NetStep (ctx < 64) s (netRingRead t oid ctx s).2 := by
  unfold netRingRead
  split
  · exact .refl s
  · split
    · exact netStep_reportFail _ _ _ _ _ s
    · exact .refl s

/-! ### Registers -/

theorem netStep_regValue (off : Nat) (s : State) : NetStep True s (regValue off s).2 := by
  have hfree : NetStep True s s.freeNat.2 := ⟨rfl, fun _ _ _ => rfl⟩
  unfold regValue
  split
  · split
    · exact .refl s
    · exact hfree
  · split
    · exact hfree
    · split
      · exact hfree
      · split
        · exact .refl s
        · split <;> exact .refl s

theorem netStep_readReg (oid off : Nat) (kind : AliasKind) (s : State) : NetStep True s (readReg oid off kind s).2 := by
  have hshadow (t : State) (x : Sparse (Option Word)) : NetStep True t { t with rdShadow := x } := ⟨rfl, fun _ _ _ => rfl⟩
  unfold readReg
  split
  · exact netStep_regValue off s
  · split
    · exact netStep_regValue off s
    · split
      · exact (netStep_regValue off s).trans (.foldl _ _ (fun t i _ => (netStep_regValue _ t).trans (hshadow _ _)) _)
      · split
        · exact .refl s
        · exact netStep_regValue off s

theorem netStep_readRegs (oid off n : Nat) (kind : AliasKind) (s : State) : NetStep True s (readRegs oid off n kind s).2 := by
  unfold readRegs
  dsimp only
  split
  · exact netStep_readReg _ _ _ s
  · exact (netStep_readReg _ _ _ s).trans (netStep_readReg _ _ _ _)

theorem netStep_engineRegWord (oid ctx a n off : Nat) (kind : AliasKind) (data first : Nat) (s : State) :
    NetStep True s (engineRegWord oid ctx a n off kind data first s).2 := by
  unfold engineRegWord
  split
  · unfold xpenEvent
    exact netStep_accessEvent_minor Nat.one_lt_two s
  · split
    · dsimp only
      split
      · exact netStep_applySignal _ _ _ _ s
      · exact .refl s
    · exact .refl s

theorem netStep_engineRegWrite (oid ctx a off : Nat) (kind : AliasKind) (bs : List Byte) (s : State) :
    NetStep True s (engineRegWrite oid ctx a off kind bs s).2 := by
  unfold engineRegWrite
  dsimp only
  split
  · exact netStep_engineRegWord _ _ _ _ _ _ _ _ s
  · exact (netStep_engineRegWord _ _ _ _ _ _ _ _ s).trans (netStep_engineRegWord _ _ _ _ _ _ _ _ _)

/-! ### Whole transactions -/

/-- What an access of an engine leaves: the sender is no unit and its context is below 64. -/
def PlainSender (oid ctx : Nat) : Prop := NoUnit oid ∧ ctx < 64

theorem netStep_pieceRead (oid a n : Nat) (s : State) : NetStep ((pieceRead oid a n s).1 = none → NoUnit oid) s (pieceRead oid a n s).2 := by
  have hfree (t : State) : NetStep True t t.freeNat.2 := ⟨rfl, fun _ _ _ => rfl⟩
  unfold pieceRead
  dsimp only
  split
  · exact (netStep_readRegs _ _ _ _ s).weaken fun _ => trivial
  · split
    · exact .refl s
    · exact netStep_memRead _ _ _ s
  · have hl := netStep_engineLink oid ‹Nat› s
    split
    · rename_i h; rw [h] at hl; exact (hl.weaken fun _ h => nomatch h).trans (netStep_memRead _ _ _ _)
    · rename_i h; rw [h] at hl; exact hl.weaken fun h _ => h rfl
  · have hr := netStep_memRead oid ((unalias a).getD (a, 0)).1 n s
    split
    · rename_i h; rw [h] at hr
      split
      · exact (hr.weaken fun _ h => nomatch h).trans ((hfree _).weaken fun _ => trivial)
      · exact hr.weaken fun _ h => nomatch h
    · rename_i h; rw [h] at hr; exact hr
  · exact netStep_memRead _ _ _ s

theorem netStep_pieceWrite (oid ctx a : Nat) (bs : List Byte) (s : State) : NetStep (NoUnit oid) s (pieceWrite oid ctx a bs s).2 := by
  have hst (b : Nat) (k : AliasKind) (t : State) : NetStep (NoUnit oid) t (memStore oid b k bs t).2 := (netStep_memStore _ _ _ _ t).weaken fun _ => trivial
  unfold pieceWrite
  dsimp only
  split
  · exact (netStep_engineRegWrite _ _ _ _ _ _ s).weaken fun _ => trivial
  · split
    · exact .refl s
    · exact hst _ _ s
  · have hl := netStep_engineLink oid ‹Nat› s
    split
    · rename_i h; rw [h] at hl; exact (hl.weaken fun g _ => g).trans (hst _ _ _)
    · rename_i h; rw [h] at hl; exact hl.weaken fun g _ => g
  · exact hst _ _ s

/-- Steps taken in order, bounded when the last result is no failure; a failure stays one. -/
theorem netStep_gather {α β : Type} (q : Prop) (bad : α → Prop) (st : α → State) (l : List β) (f : α → β → α)
    (hbad : ∀ r x, bad r → bad (f r x)) (h : ∀ r, ∀ x ∈ l, NetStep (bad (f r x) → q) (st r) (st (f r x))) (r : α) :
    NetStep (bad (l.foldl f r) → q) (st r) (st (l.foldl f r)) := by
  have hkeep (l : List β) : ∀ r, bad r → bad (l.foldl f r) := by
    induction l with
    | nil => exact fun r h => h
    | cons x l ih => exact fun r h => ih _ (hbad r x h)
  induction l generalizing r with
  | nil => exact .refl _
  | cons x l ih =>
    exact ((h r x List.mem_cons_self).weaken fun g hb => g (hkeep l _ hb)).trans (ih (fun r y hy => h r y (List.mem_cons_of_mem _ hy)) _)

/-- A read that answers its bytes is bounded whoever reads: only a failure loses a unit or tears a context down. -/
theorem netStep_netRead (oid ctx a n : Nat) (s : State) :
    NetStep ((∃ x, (netRead oid ctx a n s).1 = .inl x) → PlainSender oid ctx) s (netRead oid ctx a n s).2 := by
  unfold netRead
  split
  · exact (netStep_reportFail _ _ _ _ _ s).weaken fun h => (h ⟨_, rfl⟩).2
  · refine netStep_gather (PlainSender oid ctx) (fun r : (Nat ⊕ List Byte) × State => ∃ x, r.1 = .inl x) Prod.snd _ _ (fun r p ⟨x, hx⟩ => ⟨x, ?_⟩) (fun r p _ => ?_)
      (Sum.inr [], s)
    · rw [hx]; exact hx
    · split
      · exact .refl _
      · have hp := netStep_pieceRead oid p.1 p.2 r.2
        split <;> rename_i h <;> rw [h] at hp
        · exact hp.weaken fun _ g => nomatch g
        · exact hp.weaken fun g _ => (g ⟨_, rfl⟩).1

theorem netStep_nocRead (oid ctx a n : Nat) (s : State) :
    NetStep ((nocRead oid ctx a n s).1 = none → PlainSender oid ctx) s (nocRead oid ctx a n s).2 := by
  unfold nocRead
  split
  · exact (netStep_reportFail _ _ _ _ _ s).weaken fun h => (h rfl).2
  · refine netStep_gather (PlainSender oid ctx) (fun r : Option (List Byte) × State => r.1 = none) Prod.snd _ _ (fun r p hx => ?_) (fun r p _ => ?_) (some [], s)
    · rw [hx]; exact hx
    · split
      · exact .refl _
      · have hp := netStep_pieceRead oid p.1 p.2 r.2
        split <;> rename_i h <;> rw [h] at hp
        · exact hp.weaken fun _ g => nomatch g
        · exact hp.weaken fun g _ => (g rfl).1

theorem netStep_netRead_some {oid ctx a n : Nat} {s u : State} {d : List Byte} (h : netRead oid ctx a n s = (.inr d, u)) : NetStep True s u := by
  have hs := netStep_netRead oid ctx a n s
  rw [h] at hs
  exact hs.weaken fun _ ⟨_, hx⟩ => nomatch hx

theorem netStep_nocRead_some {oid ctx a n : Nat} {s u : State} {d : List Byte} (h : nocRead oid ctx a n s = (some d, u)) : NetStep True s u := by
  have hs := netStep_nocRead oid ctx a n s
  rw [h] at hs
  exact hs.weaken fun _ hx => nomatch hx

theorem netStep_netWrite (oid ctx a : Nat) (bs : List Byte) (s : State) : NetStep (PlainSender oid ctx) s (netWrite oid ctx a bs s).2 := by
  unfold netWrite
  split
  · exact (netStep_reportFail _ _ _ _ _ s).weaken fun h => h.2
  · extract_lets r
    have hr : NetStep (PlainSender oid ctx) s r.2.2 := by
      refine (netStep_gather (PlainSender oid ctx) (fun _ => True) (fun x : Option Nat × Option (Nat × Nat) × State => x.2.2) _ _ (fun _ _ _ => trivial)
        (fun x p _ => ?_) (none, none, s)).weaken fun h _ => h
      have hp := (netStep_pieceWrite oid ctx p.1 ((bs.drop (p.1 - a)).take p.2) x.2.2).weaken fun h : True → PlainSender oid ctx => (h trivial).1
      split <;> rename_i h <;> rw [h] at hp <;> exact hp
    split
    · rename_i h; rw [h] at hr; exact hr
    · rename_i h; rw [h] at hr; exact hr.trans ((netStep_accessEvent_minor Nat.one_lt_two _).weaken fun _ => trivial)

theorem netStep_nocWrite (oid ctx a : Nat) (bs : List Byte) (s : State) : NetStep (PlainSender oid ctx) s (nocWrite oid ctx a bs s).2 :=
  netStep_netWrite oid ctx a bs s

end Sys2Proof.Machine
end

section
/-! Sapling's descriptors (R209 to R215): fetched, checked, waited for, executed, completed. -/

namespace Sys2Proof.Machine

/-! ### Register pairs -/

theorem reg64_setReg64_self (s : State) (lo v : Nat) : (s.setReg64 lo v).reg64 lo = v % 2 ^ 64 := by
  unfold State.reg64 State.setReg64
  rw [reg_setReg_ne _ _ (by omega : lo ≠ lo + 4), reg_setReg_self, reg_setReg_self, BitVec.toNat_ofNat, BitVec.toNat_ofNat]
  omega

theorem reg64_inc64_self (s : State) (lo n : Nat) : (s.inc64 lo n).reg64 lo = (s.reg64 lo + n) % 2 ^ 64 := by
  unfold State.inc64
  rw [reg64_setReg64_self, Nat.mod_mod]

theorem reg64_congr {s t : State} {lo : Nat} (h : t.reg lo = s.reg lo) (h4 : t.reg (lo + 4) = s.reg (lo + 4)) : t.reg64 lo = s.reg64 lo := by
  unfold State.reg64
  rw [h, h4]

/-! ### The steps of a list -/

section
variable {op : Nat} {checks : State → List Byte → List SplCheck} {go : List Byte → State → SplEnd} {d : List Byte} {s u : State}

theorem fetchDesc_read (hheld : s.spl.held = none) (ha : splDesc s % 128 = 0) (hr : netRead splOid (splCtx s) (splDesc s) 128 s = (.inr d, u)) :
    fetchDesc s = (.inr d, startDesc d u) := by
  generalize e : @fetchDesc = f
  delta fetchDesc at e
  subst e
  beta_reduce
  simp only [hheld, ha, hr, ne_eq, not_true_eq_false, if_false]

theorem fetchDesc_held (hheld : s.spl.held = some d) : fetchDesc s = (.inr d, s) := by
  unfold fetchDesc
  rw [hheld]

theorem splRun_idle (h : splRuns s = false) : splRun op checks go s = .next s := by
  unfold splRun
  simp [h]

theorem splRun_failed {cause w3 : Nat} (hrun : splRuns s = true) (hwait : s.spl.wait = none) (hf : fetchDesc s = (.inr d, u)) (hop : dField d 0 1 = op)
    (hc : firstFail (headerChecks d ++ checks u d) = some (cause, w3)) : splRun op checks go s = .next (splFail op cause w3 0 u) := by
  unfold splRun
  simp [hrun, hwait, hf, hop, hc]

theorem splRun_ready {ovf count : Nat} {v : State} (hrun : splRuns s = true) (hwait : s.spl.wait = none) (hf : fetchDesc s = (.inr d, u))
    (hop : dField d 0 1 = op) (hc : firstFail (headerChecks d ++ checks u d) = none) (hw : (dField d 1 1).testBit 0 = false ∨ u.spl.passed = true)
    (hgo : go d u = (.inr (ovf, count), v)) :
    splRun op checks go s = .next (if op = 0 then splEnded v else splComplete d op ovf count (op = 4) v) := by
  have hnw : (decide (op ≠ 0) && (dField d 1 1).testBit 0 && !u.spl.passed) = false := by rcases hw with h | h <;> simp [h]
  unfold splRun
  simp only [hrun, hwait, hf, hop, hc, hnw, hgo, ne_eq, not_true_eq_false, Bool.not_true, Option.isSome_none, Bool.or_self, Bool.false_eq_true, if_false,
    decide_false, Bool.false_and]

theorem splRun_waits (hop0 : op ≠ 0) (hrun : splRuns s = true) (hwait : s.spl.wait = none) (hf : fetchDesc s = (.inr d, u)) (hop : dField d 0 1 = op)
    (hc : firstFail (headerChecks d ++ checks u d) = none) (hbit : (dField d 1 1).testBit 0 = true) (hpass : u.spl.passed = false)
    (hring : netRingRead (dField d 8 2) splOid (splCtx u) u = (true, u)) (hnot : reached (ringVal u (dField d 8 2)) (dField d 4 4) = false) :
    splRun op checks go s = .next (u.setSpl { u.spl with wait := some (dField d 8 2, dField d 4 4) }) := by
  have hw : (decide (op ≠ 0) && (dField d 1 1).testBit 0 && !u.spl.passed) = true := by simp [hop0, hbit, hpass]
  unfold splRun
  simp only [hrun, hwait, hf, hop, hc, hw, hring, hnot, ne_eq, not_true_eq_false, Bool.not_true, Option.isSome_none, Bool.or_self, Bool.false_eq_true,
    if_false, if_true, decide_false, Bool.false_and, Bool.not_false, Bool.and_self]

/-- A descriptor fetched, legal and without a wait is executed and completes. -/
theorem splRun_fetched (h : Fetched op checks d s u) {ovf count : Nat} {v : State} (hgo : go d (startDesc d u) = (.inr (ovf, count), v)) {dec : Bool}
    (hop : op ≠ 0) (hdec : decide (op = 4) = dec) : splRun op checks go s = .next (splComplete d op ovf count dec v) := by
  obtain ⟨hrun, ⟨hwait, hheld⟩, ha, hr, hcode, hc, hbit⟩ := h
  rw [splRun_ready hrun hwait (fetchDesc_read hheld ha hr) hcode hc (.inl hbit) hgo, if_neg hop, hdec]

theorem splRun_ended (h : Fetched 0 checks d s u) {ovf count : Nat} {v : State} (hgo : go d (startDesc d u) = (.inr (ovf, count), v)) :
    splRun 0 checks go s = .next (splEnded v) := by
  obtain ⟨hrun, ⟨hwait, hheld⟩, ha, hr, hcode, hc, hbit⟩ := h
  rw [splRun_ready hrun hwait (fetchDesc_read hheld ha hr) hcode hc (.inl hbit) hgo, if_pos rfl]

end

/-! ### Completing and failing -/

theorem arithEvents_none (oid ctx flags a1 a2 : Nat) (s : State) : arithEvents oid ctx flags 0 a1 a2 s = s := by
  unfold arithEvents
  simp

theorem splDesc_setSplDesc {a : Nat} (h : a < 2 ^ 48) (s : State) : splDesc (setSplDesc a s) = a := by
  unfold splDesc setSplDesc
  rw [fld_put_self _ F.SPL_DESC_HI_ADDR_HI _ (by decide) (by decide), fld_put_reg _ F.SPL_DESC_HI_ADDR_HI F.SPL_DESC_LO_ADDR_LO _ (by decide),
    fld_put_self _ F.SPL_DESC_LO_ADDR_LO _ (by decide) (by decide)]
  show a % 2 ^ 32 % 2 ^ 32 + a / 2 ^ 32 % 2 ^ 16 % 2 ^ 16 * 2 ^ 32 = a
  omega

theorem reg64_done_setSplDesc (a : Nat) (s : State) : (setSplDesc a s).reg64 Reg.SPL_DONE_LO = s.reg64 Reg.SPL_DONE_LO := by
  unfold setSplDesc
  refine reg64_congr ?_ ?_
  · rw [reg_put_ne _ F.SPL_DESC_HI_ADDR_HI _ (by decide), reg_put_ne _ F.SPL_DESC_LO_ADDR_LO _ (by decide)]
  · rw [reg_put_ne _ F.SPL_DESC_HI_ADDR_HI _ (by decide), reg_put_ne _ F.SPL_DESC_LO_ADDR_LO _ (by decide)]

theorem splComplete_plain {d : List Byte} {opc ovf count : Nat} {dec : Bool} {s w : State} (hsig : (dField d 1 1).testBit 1 = false) (hmask : dField d 2 1 = 0)
    (hw : writeback 1 ovf count s = (none, w)) :
    splComplete d opc ovf count dec s
      = setSplDesc (splDesc s + 128)
          ((w.inc64 Reg.SPL_DONE_LO).setSpl { (w.inc64 Reg.SPL_DONE_LO).spl with held := none, passed := false, prevCount := if dec then some count else none }) := by
  generalize e : @splComplete = f
  delta splComplete at e
  subst e
  beta_reduce
  simp only [hw, hsig, hmask, arithEvents_none, Bool.false_eq_true, if_false]

theorem reg64_setSpl (s : State) (x : Sapling) (lo : Nat) : (s.setSpl x).reg64 lo = s.reg64 lo := rfl

/-- The list after a completion: the next address, nothing held. -/
theorem nextDesc_spec {a : Nat} (h : a < 2 ^ 48) (x : Sapling) (w : State) :
    splDesc (setSplDesc a ((w.inc64 Reg.SPL_DONE_LO).setSpl x)) = a
    ∧ (setSplDesc a ((w.inc64 Reg.SPL_DONE_LO).setSpl x)).reg64 Reg.SPL_DONE_LO = (w.reg64 Reg.SPL_DONE_LO + 1) % 2 ^ 64
    ∧ (setSplDesc a ((w.inc64 Reg.SPL_DONE_LO).setSpl x)).mem = w.mem ∧ (setSplDesc a ((w.inc64 Reg.SPL_DONE_LO).setSpl x)).spl = x := by
  refine ⟨splDesc_setSplDesc h _, ?_, ?_, ?_⟩
  · rw [reg64_done_setSplDesc, reg64_setSpl, reg64_inc64_self]
  · unfold setSplDesc
    rw [State.put_mem, State.put_mem, State.setSpl_mem, State.inc64_mem]
  · unfold setSplDesc
    rw [State.put_spl, State.put_spl]
    rfl

theorem splComplete_spec {d : List Byte} {opc ovf count : Nat} {dec : Bool} {s w : State} (hsig : (dField d 1 1).testBit 1 = false) (hmask : dField d 2 1 = 0)
    (hfit : splDesc s + 128 < 2 ^ 48) (hw : writeback 1 ovf count s = (none, w)) :
    let t := splComplete d opc ovf count dec s
    splDesc t = splDesc s + 128 ∧ t.reg64 Reg.SPL_DONE_LO = (w.reg64 Reg.SPL_DONE_LO + 1) % 2 ^ 64 ∧ t.mem = w.mem
      ∧ t.spl.held = none ∧ t.spl.prevCount = if dec = true then some count else none := by
  obtain ⟨t, ht⟩ : ∃ t, t = splComplete d opc ovf count dec s := ⟨_, rfl⟩
  rw [← ht]
  rw [splComplete_plain hsig hmask hw] at ht
  generalize splDesc s + 128 = a at ht hfit ⊢
  subst ht
  obtain ⟨h1, h2, h3, h4⟩ := nextDesc_spec hfit { (w.inc64 Reg.SPL_DONE_LO).spl with held := none, passed := false, prevCount := if dec then some count else none } w
  refine ⟨h1, h2, h3, ?_, ?_⟩ <;> rw [h4]

theorem spl_writeback (status ovf count : Nat) (s : State) : (writeback status ovf count s).2.spl = s.spl := by
  unfold writeback
  exact (netStep_netWrite _ _ _ _ _).spl

theorem splCtx_lt (s : State) : splCtx s < 64 := fld_lt s F.SPL_STATE_CTX

/-- A failing descriptor stops the list, and its event is raised with the completion written or not. -/
theorem splFail_raises (opc cause w3 count : Nat) (s : State) : ∃ told : State, told.spl.halted = true ∧ ∃ a0 a1 a2 a3,
    splFail opc cause w3 count s = raise { code := 0x400B, oid := splOid, ctx := splCtx told, sev := 2, a0 := a0, a1 := a1, a2 := a2, a3 := a3 } told := by
  generalize e : @splFail = f
  delta splFail at e
  subst e
  refine ⟨_, ?_, _, _, _, _, rfl⟩
  split
  · rw [spl_writeback]; rfl
  · rfl

theorem splFail_spec (opc cause w3 count : Nat) (s : State) : (splFail opc cause w3 count s).spl.halted = true ∧ LastEvent (splFail opc cause w3 count s) 0x400B 0x18 := by
  obtain ⟨told, hh, a0, a1, a2, a3, e⟩ := splFail_raises opc cause w3 count s
  rw [e]
  have hctx : splCtx told < 64 := splCtx_lt told
  generalize splCtx told = c at hctx
  refine ⟨?_, (reported_raise told (show 2 < 3 by decide) hctx).last⟩
  rw [(netStep_raise _ told).spl]
  exact hh

/-- NOP and END have no work of their own. -/
theorem passThrough (d : List Byte) (s : State) : (fun (_ : List Byte) (s : State) => ((.inr (0, 0), s) : SplEnd)) d s = (.inr (0, 0), s) := rfl

/-! ### The obligation -/

/-- Settles O46: each operation's command is one run of the list, by its fetch, checks, wait and end. -/
theorem saplingDescriptors : Obligations.SaplingDescriptors := by
  unfold Obligations.SaplingDescriptors
  refine ⟨fun d s u => ⟨?_, ?_, ?_, ?_, ?_, ?_, ?_⟩, fun d opc ovf count dec s w hsig hmask hfit hw => splComplete_spec hsig hmask hfit hw,
    fun _ _ _ _ => by unfold writeback; rfl, ?_, ?_, ?_, ?_⟩
  · intro h o n v hgo; rw [exec_splConv]; exact splRun_fetched h hgo (by decide) (by decide)
  · intro h o n v hgo; rw [exec_splPool]; exact splRun_fetched h hgo (by decide) (by decide)
  · intro h o n v hgo; rw [exec_splRsmp]; exact splRun_fetched h hgo (by decide) (by decide)
  · intro h o n v hgo; rw [exec_splDecode]; exact splRun_fetched h hgo (by decide) (by decide)
  · intro h o n v hgo; rw [exec_splNms]; exact splRun_fetched h hgo (by decide) (by decide)
  · intro h; rw [exec_splNop]; exact splRun_fetched h (passThrough d _) (by decide) (by decide)
  · intro h; rw [exec_splEnd]; exact splRun_ended h (passThrough d _)
  · intro d s u cause w3 hrun hwait hheld ha hr hop hc
    obtain ⟨hhalt, hlast⟩ := splFail_spec 6 cause w3 0 (startDesc d u)
    rw [exec_splNop]
    exact ⟨_, splRun_failed hrun hwait (fetchDesc_read hheld ha hr) hop hc, hhalt, hlast⟩
  · intro d s u hrun hwait hheld hpass ha hr hspl hop hc hbit hring hnot
    have hstart : splCtx (startDesc d u) = splCtx u := fld_put_reg _ F.SPL_FLAGS_SAT_DZ_ACCF_SCLR F.SPL_STATE_CTX _ (by decide)
    have hctx : splCtx (startDesc d u) = splCtx s := hstart.trans <|
      (netStep_netRead_some hr).fld trivial (f := F.SPL_STATE_CTX) (by unfold NetReg EvReg F.SPL_STATE_CTX; dsimp only; omega)
    rw [← hctx] at hring
    rw [exec_splNop]
    exact splRun_waits (by decide) hrun hwait (fetchDesc_read hheld ha hr) hop hc hbit (by show u.spl.passed = false; rw [hspl]; exact hpass) hring hnot
  · intro d s hrun hwait hheld hpass hop hc
    rw [exec_splNop]
    exact (splRun_ready hrun hwait (fetchDesc_held hheld) hop hc (.inr hpass) (passThrough d s)).trans (by rw [if_neg (by decide)]; congr 1)
  · intro s h
    rw [exec_splConv, exec_splPool, exec_splRsmp, exec_splDecode, exec_splNms, exec_splNop, exec_splEnd]
    exact ⟨splRun_idle h, splRun_idle h, splRun_idle h, splRun_idle h, splRun_idle h, splRun_idle h, splRun_idle h⟩

end Sys2Proof.Machine
end

section
/-! Cambium's axes (R353 to R361): what losing, faulting and missing an axis, its short-circuit report and the end of a stop leave of the state. -/

namespace Sys2Proof.Machine

/-- The registers that an axis operation may write: those of its event, the axes' own, and the status with STOPDONE. -/
def AxisReg (o : Nat) : Prop := EvReg o ∨ (0x251000 ≤ o ∧ o < 0x251600) ∨ o = 0x250010

/-- From `s` to `t` only axes were moved: events, lines, the axes' registers, their state in Cambium, and in memory only miss runs. -/
structure AxisStep (s t : State) : Prop where
  rest : { t with evq := s.evq, out := s.out, regs := s.regs, mem := s.mem, memsys := s.memsys, cmb := s.cmb } = s
  cmb : { t.cmb with axes := s.cmb.axes } = s.cmb
  reg : ∀ o, ¬ AxisReg o → t.reg o = s.reg o
  runs : RunsOnly s t
  synd : s.memsys.synd = [] → t.memsys.synd = []

theorem runsOnly_refl (s : State) : RunsOnly s s := fun _ _ => rfl
theorem runsOnly_trans {s t u : State} (h : RunsOnly s t) (g : RunsOnly t u) : RunsOnly s u := fun x hx => (g x hx).trans (h x hx)
theorem runsOnly_of_mem {s t : State} (h : t.mem = s.mem) : RunsOnly s t := fun x _ => by unfold State.byte; rw [h]

namespace AxisStep
variable {s t u : State}

theorem refl (s : State) : AxisStep s s := ⟨rfl, rfl, fun _ _ => rfl, runsOnly_refl s, id⟩

theorem trans (h : AxisStep s t) (g : AxisStep t u) : AxisStep s u := by
  refine ⟨?_, ?_, fun o ho => (g.reg o ho).trans (h.reg o ho), runsOnly_trans h.runs g.runs, fun hs => g.synd (h.synd hs)⟩
  · exact (congrArg (fun x : State => { x with evq := s.evq, out := s.out, regs := s.regs, mem := s.mem, memsys := s.memsys, cmb := s.cmb }) g.rest).trans h.rest
  · exact (congrArg (fun x : Cmb => { x with axes := s.cmb.axes }) g.cmb).trans h.cmb

theorem ofReg {P : Nat → Prop} (h : RegStep P s t) (hp : ∀ o, P o → AxisReg o) : AxisStep s t := by
  refine ⟨?_, ?_, fun o ho => h.reg o fun he => ho (hp o he), runsOnly_of_mem h.mem, fun hs => by rw [h.memsys]; exact hs⟩
  · exact (congrArg (fun x : State => { x with mem := s.mem, memsys := s.memsys, cmb := s.cmb }) h.rest :)
  · rw [show t.cmb = s.cmb from (congrArg State.cmb h.rest :)]

theorem ofEvent (h : EventStep s t) : AxisStep s t := ofReg (P := EvReg) ⟨h.rest, h.reg⟩ fun _ => .inl

theorem modAxis (s : State) (a : Nat) (f : CmbAxis → CmbAxis) : AxisStep s (modAxis a f s) := ⟨rfl, rfl, fun _ _ => rfl, runsOnly_of_mem rfl, id⟩

theorem foldl {α : Type} (l : List α) (f : State → α → State) (h : ∀ s, ∀ x ∈ l, AxisStep s (f s x)) (s : State) : AxisStep s (l.foldl f s) := by
  induction l generalizing s with
  | nil => exact refl _
  | cons x l ih => exact (h s x List.mem_cons_self).trans (ih (fun s y hy => h s y (List.mem_cons_of_mem _ hy)) _)

theorem hwd (h : AxisStep s t) : t.hwd = s.hwd := (congrArg State.hwd h.rest :)
theorem rlk (h : AxisStep s t) : t.rlk = s.rlk := (congrArg State.rlk h.rest :)
theorem elapsed (h : AxisStep s t) : t.elapsed = s.elapsed := (congrArg State.elapsed h.rest :)
theorem tim (h : AxisStep s t) : t.tim = s.tim := (congrArg State.tim h.rest :)
theorem free (h : AxisStep s t) : t.free = s.free := (congrArg State.free h.rest :)
theorem cycle (h : AxisStep s t) : t.cmb.cycle = s.cmb.cycle := (congrArg Cmb.cycle h.cmb :)
theorem bound (h : AxisStep s t) : t.cmb.bound = s.cmb.bound := (congrArg Cmb.bound h.cmb :)
theorem last (h : AxisStep s t) : t.cmb.last = s.cmb.last := (congrArg Cmb.last h.cmb :)
theorem commitAt (h : AxisStep s t) : t.cmb.commitAt = s.cmb.commitAt := (congrArg Cmb.commitAt h.cmb :)
theorem fld (h : AxisStep s t) {f : RegField} (hf : ¬ AxisReg f.reg) : t.fld f = s.fld f := by unfold State.fld; rw [h.reg _ hf]
theorem flag (h : AxisStep s t) {f : RegField} (hf : ¬ AxisReg f.reg) : t.flag f = s.flag f := by unfold State.flag; rw [h.fld hf]
theorem calm (h : AxisStep s t) (hc : Calm s) : Calm t := by
  have hs : seqState t = seqState s := h.fld (f := F.HWD_STATE_SEQ) (by unfold AxisReg EvReg F.HWD_STATE_SEQ; dsimp only; omega)
  exact ⟨by rw [h.hwd]; exact hc.1, by rw [hs]; exact hc.2⟩
end AxisStep

/-! ### Axis records (R348) -/

theorem axRec_apart {a b i : Nat} (ha : a < 128) (hi : i < 0x800) : axRec a + i ≠ axLive b + 0x2D := by
  unfold axRec axLive cmbWin
  omega

theorem byte_axRec_runs {s t : State} (h : RunsOnly s t) {a i : Nat} (ha : a < 128) (hi : i < 0x800) : t.byte (axRec a + i) = s.byte (axRec a + i) :=
  h _ fun _ _ => axRec_apart ha hi

theorem axOn_runs {s t : State} (h : RunsOnly s t) {a : Nat} (ha : a < 128) : axOn t a = axOn s a := by
  unfold axOn; rw [byte_axRec_runs h ha (by omega)]

theorem axGroup_runs {s t : State} (h : RunsOnly s t) {a : Nat} (ha : a < 128) : axGroup t a = axGroup s a := by
  unfold axGroup; rw [byte_axRec_runs h ha (by omega)]

theorem axPlace_runs {s t : State} (h : RunsOnly s t) {a : Nat} (ha : a < 128) : axPlace t a = axPlace s a := by
  unfold axPlace; rw [byte_axRec_runs h ha (by omega), byte_axRec_runs h ha (by omega), byte_axRec_runs h ha (by omega)]

theorem axesOn_runs {s t : State} (h : RunsOnly s t) : axesOn t = axesOn s := by
  unfold axesOn
  exact List.filter_congr fun a ha => axOn_runs h (List.mem_range.1 ha)

theorem mem_axesOn {s : State} {a : Nat} : a ∈ axesOn s ↔ a < 128 ∧ axOn s a = true := by
  unfold axesOn
  rw [List.mem_filter, List.mem_range]

theorem stationAxes_runs {s t : State} (h : RunsOnly s t) (p k : Nat) : stationAxes t p k = stationAxes s p k := by
  unfold stationAxes
  rw [axesOn_runs h]
  exact List.filter_congr fun a ha => by rw [axPlace_runs h (mem_axesOn.1 ha).1]

theorem mem_stationAxes {s : State} {p k a : Nat} :
    a ∈ stationAxes s p k ↔ a < 128 ∧ axOn s a = true ∧ (axPlace s a).1 = p ∧ (axPlace s a).2.1 = k := by
  unfold stationAxes
  rw [List.mem_filter, mem_axesOn, Bool.and_eq_true, decide_eq_true_eq, decide_eq_true_eq, and_assoc]

/-! ### The fields of an axis -/

theorem axisReg_stat {a : Nat} (h : a < 128) : AxisReg (Reg.CMB_AX_STAT a) := by unfold AxisReg Reg.CMB_AX_STAT; omega
theorem axisReg_miss {a : Nat} (h : a < 128) : AxisReg (Reg.CMB_AX_MISS a) := by unfold AxisReg Reg.CMB_AX_MISS; omega

theorem not_evReg_axStat {a : Nat} (h : a < 128) : ¬ EvReg (Reg.CMB_AX_STAT a) := by unfold EvReg Reg.CMB_AX_STAT; omega
theorem not_evReg_axMiss {a : Nat} (h : a < 128) : ¬ EvReg (Reg.CMB_AX_MISS a) := by unfold EvReg Reg.CMB_AX_MISS; omega

theorem axStat_ne_miss {a b : Nat} (h : a < 128) : Reg.CMB_AX_STAT a ≠ Reg.CMB_AX_MISS b := by unfold Reg.CMB_AX_STAT Reg.CMB_AX_MISS; omega
theorem axStat_ne {a b : Nat} (h : a ≠ b) : Reg.CMB_AX_STAT a ≠ Reg.CMB_AX_STAT b := by unfold Reg.CMB_AX_STAT; omega

theorem axState_of_reg {s t : State} {a : Nat} (h : t.reg (Reg.CMB_AX_STAT a) = s.reg (Reg.CMB_AX_STAT a)) : axState t a = axState s a := by
  unfold axState State.fld
  exact congrArg (fun x : Word => slice x.toNat 2 0) h

theorem axSrc_of_reg {s t : State} {a : Nat} (h : t.reg (Reg.CMB_AX_STAT a) = s.reg (Reg.CMB_AX_STAT a)) : axSrc t a = axSrc s a := by
  unfold axSrc State.fld
  exact congrArg (fun x : Word => slice x.toNat 5 3) h

theorem axState_put (s : State) (a : Nat) {v : Nat} (h : v < 8) : axState (s.put (F.CMB_AX_STAT_STATE a) v) a = v :=
  fld_put_fits s (F.CMB_AX_STAT_STATE a) (by show 0 ≤ 2; decide) (by show 2 < 32; decide) (by show v < 2 ^ 3; omega)

/-! ### Events and lines of Cambium -/

theorem eventStep_cmbEvent {code sev a0 a1 a2 a3 : Nat} (h : sev ≠ 2) (s : State) (time : Nat) : EventStep s (cmbEvent code sev a0 a1 a2 a3 s time) := by
  unfold cmbEvent
  rw [raise_accepted s h fun _ => ⟨by show ¬ (0x10 ≤ 0x31 ∧ 0x31 ≤ 0x15); decide, by show 0x31 ≠ 0x18; decide⟩]
  exact eventStep_acceptEv _ s

theorem lastEvent_cmbEvent {code sev a0 a1 a2 a3 : Nat} (h : sev ≠ 2) (s : State) (time : Nat) : LastEvent (cmbEvent code sev a0 a1 a2 a3 s time) code 0x31 := by
  unfold cmbEvent
  rw [raise_accepted s h fun _ => ⟨by show ¬ (0x10 ≤ 0x31 ∧ 0x31 ≤ 0x15); decide, by show 0x31 ≠ 0x18; decide⟩]
  exact lastEvent_acceptEv _ s

theorem eventStep_pulseLine (l : HwdLine) (s : State) : EventStep s (pulseLine l s) := eventStep_emit s _

theorem eventStep_axisEvent {code sev a a1 a2 a3 : Nat} (h : sev ≠ 2) (s : State) : EventStep s (axisEvent code sev a a1 a2 a3 s) :=
  (eventStep_cmbEvent h s 0).trans (eventStep_pulseLine _ _)

theorem lastEvent_axisEvent {code sev a a1 a2 a3 : Nat} (h : sev ≠ 2) (s : State) : LastEvent (axisEvent code sev a a1 a2 a3 s) code 0x31 :=
  lastEvent_cmbEvent h s 0

theorem out_axisEvent (code sev a a1 a2 a3 : Nat) (s : State) : Out.line .axisFault ∈ (axisEvent code sev a a1 a2 a3 s).out :=
  List.mem_append_right _ (List.mem_singleton.2 rfl)

/-! ### Losing, faulting, missing -/

theorem byte_wrN_one (s : State) (x : Nat) {n : Nat} (hn : n < 256) : ((s.wrN x 1 n).byte x).toNat = n := by
  unfold State.wrN
  rw [byte_wrBytes, if_pos ⟨Nat.le_refl x, by show x < x + 1; omega⟩, Nat.sub_self]
  exact (BitVec.toNat_ofNat _ _).trans (Nat.mod_eq_of_lt hn)

theorem runsOnly_setRun {a : Nat} (ha : a < 128) (n : Nat) (s : State) : RunsOnly s (setRun a n s) := by
  intro x hx
  have hne := hx a ha
  unfold setRun
  rw [byte_wrN_outside _ _ (by omega)]
  rfl

theorem synd_wrN (s : State) (a n v : Nat) (h : s.memsys.synd = []) : (s.wrN a n v).memsys.synd = [] := by
  show s.memsys.synd.filter _ = []
  rw [h]
  rfl

theorem axisStep_setRun {a : Nat} (ha : a < 128) (n : Nat) (s : State) : AxisStep s (setRun a n s) := by
  have hput : AxisStep s (s.put (F.CMB_AX_MISS_RUN a) n) := .ofReg (RegStep.put (P := AxisReg) s n (axisReg_miss ha)) fun _ h => h
  have hruns := runsOnly_setRun ha n s
  unfold setRun at hruns ⊢
  exact hput.trans ⟨rfl, rfl, fun _ _ => rfl, hruns, synd_wrN _ _ _ _⟩

theorem reg_setRun_stat {a b : Nat} (hb : b < 128) (n : Nat) (s : State) : (setRun a n s).reg (Reg.CMB_AX_STAT b) = s.reg (Reg.CMB_AX_STAT b) :=
  reg_put_ne s (F.CMB_AX_MISS_RUN a) n (axStat_ne_miss hb)

/-- The regs of axis `b` are touched by no operation on axis `a`. -/
theorem regStep_stat {a : Nat} (ha : a < 128) (s : State) (v : Nat) : RegStep AxisReg s (s.put (F.CMB_AX_STAT_STATE a) v) := .put s v (axisReg_stat ha)

theorem axisStep_loseAxis {a : Nat} (ha : a < 128) (s : State) : AxisStep s (loseAxis a s) := by
  unfold loseAxis
  split
  · exact .refl s
  · exact ((AxisStep.ofReg (regStep_stat ha s _) fun _ h => h).trans (axisStep_setRun ha 0 _)).trans (.ofEvent (eventStep_axisEvent (by decide) _))

theorem regStep_faultAxis {a : Nat} (ha : a < 128) (reason value : Nat) (s : State) : RegStep AxisReg s (faultAxis a reason value s) := by
  unfold faultAxis
  split
  · exact .refl s
  · exact (regStep_stat ha s _).trans (.ofEvent (eventStep_axisEvent (by decide) _) fun _ => .inl)

theorem axState_loseAxis {a b : Nat} (hb : b < 128) (s : State) :
    axState (loseAxis a s) b = if b = a ∧ axState s a = axActive then axLost else axState s b := by
  unfold loseAxis
  split
  · rename_i h; rw [if_neg fun g => h g.2]
  · rename_i h
    rw [not_not] at h
    have hev (t : State) (x y z w : Nat) : axState (axisEvent 0x7003 1 x y z w t) b = axState t b :=
      axState_of_reg ((eventStep_axisEvent (by decide) t).reg _ (not_evReg_axStat hb))
    rw [hev, axState_of_reg (reg_setRun_stat hb 0 _)]
    by_cases hba : b = a
    · rw [if_pos ⟨hba, h⟩, hba]
      exact axState_put s a (by decide)
    · rw [if_neg fun g => hba g.1]
      exact axState_of_reg (reg_put_ne s (F.CMB_AX_STAT_STATE a) _ (axStat_ne hba))

theorem axState_modAxis (a b : Nat) (f : CmbAxis → CmbAxis) (s : State) : axState (modAxis a f s) b = axState s b := rfl

/-- Axes lost one after the other. -/
theorem axState_loseAxes {l : List Nat} (f : Nat → CmbAxis → CmbAxis) {b : Nat} (hb : b < 128) (s : State) :
    axState (l.foldl (fun s a => loseAxis a (modAxis a (f a) s)) s) b = if b ∈ l ∧ axState s b = axActive then axLost else axState s b := by
  induction l generalizing s with
  | nil => simp
  | cons a l ih =>
    rw [List.foldl_cons, ih, axState_loseAxis hb, axState_modAxis, axState_modAxis]
    by_cases hba : b = a
    · subst hba
      by_cases h : axState s b = axActive
      · simp [h, axLost, axActive]
      · simp [h]
    · simp [hba]

theorem axisStep_loseAxes {l : List Nat} (hl : ∀ a ∈ l, a < 128) (f : Nat → CmbAxis → CmbAxis) (s : State) :
    AxisStep s (l.foldl (fun s a => loseAxis a (modAxis a (f a) s)) s) :=
  .foldl l _ (fun t a ha => (AxisStep.modAxis t a (f a)).trans (axisStep_loseAxis (hl a ha) _)) s

/-- A short-circuit report and the end of a stop write registers only. -/
theorem regStep_shortReport {a : Nat} (ha : a < 128) (ast : Nat) (s : State) : RegStep AxisReg s (shortReport a ast s) := by
  unfold shortReport
  extract_lets p st lim t n u
  split
  · split
    · exact (regStep_stat ha s _).trans (.ofEvent (eventStep_axisEvent (by decide) _) fun _ => .inl)
    · exact .refl s
  · split
    · have ht : RegStep AxisReg s t := .incHold s (axisReg_stat ha)
      have hu : RegStep AxisReg t u := .ofEvent (eventStep_cmbEvent (by decide) t 0) fun _ => .inl
      split
      · exact (ht.trans hu).trans (regStep_faultAxis ha _ _ u)
      · exact ht.trans hu
    · exact .refl s

theorem regStep_foldl {P : Nat → Prop} {α : Type} (l : List α) (f : State → α → State) (h : ∀ s, ∀ x ∈ l, RegStep P s (f s x)) (s : State) :
    RegStep P s (l.foldl f s) := by
  induction l generalizing s with
  | nil => exact .refl _
  | cons x l ih => exact (h s x List.mem_cons_self).trans (ih (fun s y hy => h s y (List.mem_cons_of_mem _ hy)) _)

theorem regStep_stopDone (s : State) : RegStep AxisReg s (stopDone s) := by
  unfold stopDone
  split
  · exact .refl s
  · refine regStep_foldl _ _ (fun t g _ => ?_) s
    dsimp only
    split
    · have h1 := RegStep.put (P := AxisReg) t (f := F.CMB_STAT_STOPDONE) (t.fld F.CMB_STAT_STOPDONE ||| 2 ^ g) (.inr (.inr rfl))
      exact h1.trans (.ofEvent ((eventStep_pulseLine _ _).trans (eventStep_cmbEvent (by decide) _ 0)) fun _ => .inl)
    · exact .refl t

theorem axisStep_missAxis {a : Nat} (ha : a < 128) (bits : Nat) (s : State) : AxisStep s (missAxis a bits s) := by
  unfold missAxis
  extract_lets run t u
  have ht : AxisStep s t := (AxisStep.ofReg (RegStep.incHold s (P := AxisReg) (f := F.CMB_AX_MISS_CNT a) (axisReg_miss ha)) fun _ h => h).trans (axisStep_setRun ha run _)
  have hu : AxisStep t u := by
    unfold u
    split
    · exact .ofEvent (eventStep_cmbEvent (by decide) t 0)
    · exact .refl t
  split
  · exact (ht.trans hu).trans (.ofReg (regStep_faultAxis ha 1 0 u) fun _ h => h)
  · exact ht.trans hu

end Sys2Proof.Machine
end

section
/-! The root links (R368 to R389): what the operations on a port leave of the state, its stations and its figures. -/

namespace Sys2Proof.Machine

/-- The registers of the root links, and those that their events may write. -/
def PortReg (o : Nat) : Prop := EvReg o ∨ o / 0x10000 = 0x26

/-- From `s` to `t` only ports were moved: events, what the ports send, their registers and their own state. -/
structure PortStep (s t : State) : Prop where
  rest : { t with evq := s.evq, out := s.out, regs := s.regs, rlk := s.rlk } = s
  reg : ∀ o, ¬ PortReg o → t.reg o = s.reg o

namespace PortStep
variable {s t u : State}

theorem refl (s : State) : PortStep s s := ⟨rfl, fun _ _ => rfl⟩
theorem trans (h : PortStep s t) (g : PortStep t u) : PortStep s u := by
  refine ⟨?_, fun o ho => (g.reg o ho).trans (h.reg o ho)⟩
  exact (congrArg (fun x : State => { x with evq := s.evq, out := s.out, regs := s.regs, rlk := s.rlk }) g.rest).trans h.rest
theorem ofReg {P : Nat → Prop} (h : RegStep P s t) (hp : ∀ o, P o → PortReg o) : PortStep s t :=
  ⟨(congrArg (fun x : State => { x with rlk := s.rlk }) h.rest :), fun o ho => h.reg o fun he => ho (hp o he)⟩
theorem ofEvent (h : EventStep s t) : PortStep s t := ofReg (P := EvReg) ⟨h.rest, h.reg⟩ fun _ => .inl
theorem put (s : State) {f : RegField} (v : Nat) (h : f.reg / 0x10000 = 0x26) : PortStep s (s.put f v) := ofReg (RegStep.put (P := PortReg) s v (.inr h)) fun _ h => h
theorem incHold (s : State) {f : RegField} (h : f.reg / 0x10000 = 0x26) : PortStep s (s.incHold f) :=
  ofReg (RegStep.incHold (P := PortReg) s (.inr h)) fun _ h => h
theorem setReg64 (s : State) {o : Nat} (v : Nat) (h : o / 0x10000 = 0x26) (h4 : (o + 4) / 0x10000 = 0x26) : PortStep s (s.setReg64 o v) :=
  ofReg (RegStep.setReg64 (P := PortReg) s v (.inr h) (.inr h4)) fun _ h => h
theorem modPort (s : State) (p : Nat) (f : RlkPort → RlkPort) : PortStep s (modPort p f s) := ⟨rfl, fun _ _ => rfl⟩
theorem emit (s : State) (o : Out) : PortStep s (s.emit o) := ⟨rfl, fun _ _ => rfl⟩
theorem foldl {α : Type} (l : List α) (f : State → α → State) (h : ∀ s, ∀ x ∈ l, PortStep s (f s x)) (s : State) : PortStep s (l.foldl f s) := by
  induction l generalizing s with
  | nil => exact refl _
  | cons x l ih => exact (h s x List.mem_cons_self).trans (ih (fun s y hy => h s y (List.mem_cons_of_mem _ hy)) _)

theorem mem (h : PortStep s t) : t.mem = s.mem := (congrArg State.mem h.rest :)
theorem hwd (h : PortStep s t) : t.hwd = s.hwd := (congrArg State.hwd h.rest :)
theorem cmb (h : PortStep s t) : t.cmb = s.cmb := (congrArg State.cmb h.rest :)
theorem resp (h : PortStep s t) : t.resp = s.resp := (congrArg State.resp h.rest :)
theorem fld (h : PortStep s t) {f : RegField} (hf : ¬ PortReg f.reg) : t.fld f = s.fld f := by unfold State.fld; rw [h.reg _ hf]
theorem flag (h : PortStep s t) {f : RegField} (hf : ¬ PortReg f.reg) : t.flag f = s.flag f := by unfold State.flag; rw [h.fld hf]
theorem calm (h : PortStep s t) (hc : Calm s) : Calm t := by
  have hs : seqState t = seqState s := h.fld (f := F.HWD_STATE_SEQ) (by unfold PortReg EvReg F.HWD_STATE_SEQ; dsimp only; omega)
  exact ⟨by rw [h.hwd]; exact hc.1, by rw [hs]; exact hc.2⟩
end PortStep

/-- From `s` to `t` only ports and axes were moved; in memory only miss runs. -/
structure LinkStep (s t : State) : Prop where
  rest : { t with evq := s.evq, out := s.out, regs := s.regs, mem := s.mem, memsys := s.memsys, cmb := s.cmb, rlk := s.rlk } = s
  cmb : { t.cmb with axes := s.cmb.axes } = s.cmb
  reg : ∀ o, ¬ AxisReg o → ¬ PortReg o → t.reg o = s.reg o
  runs : RunsOnly s t

namespace LinkStep
variable {s t u : State}

theorem refl (s : State) : LinkStep s s := ⟨rfl, rfl, fun _ _ _ => rfl, runsOnly_refl s⟩
theorem trans (h : LinkStep s t) (g : LinkStep t u) : LinkStep s u := by
  refine ⟨?_, ?_, fun o ho hp => (g.reg o ho hp).trans (h.reg o ho hp), runsOnly_trans h.runs g.runs⟩
  · exact (congrArg (fun x : State => { x with evq := s.evq, out := s.out, regs := s.regs, mem := s.mem, memsys := s.memsys, cmb := s.cmb, rlk := s.rlk }) g.rest).trans h.rest
  · exact (congrArg (fun x : Cmb => { x with axes := s.cmb.axes }) g.cmb).trans h.cmb
theorem ofPort (h : PortStep s t) : LinkStep s t :=
  ⟨(congrArg (fun x : State => { x with mem := s.mem, memsys := s.memsys, cmb := s.cmb }) h.rest :), by rw [h.cmb], fun o _ hp => h.reg o hp, runsOnly_of_mem h.mem⟩
theorem ofAxis (h : AxisStep s t) : LinkStep s t := ⟨(congrArg (fun x : State => { x with rlk := s.rlk }) h.rest :), h.cmb, fun o ha _ => h.reg o ha, h.runs⟩
theorem foldl {α : Type} (l : List α) (f : State → α → State) (h : ∀ s, ∀ x ∈ l, LinkStep s (f s x)) (s : State) : LinkStep s (l.foldl f s) := by
  induction l generalizing s with
  | nil => exact refl _
  | cons x l ih => exact (h s x List.mem_cons_self).trans (ih (fun s y hy => h s y (List.mem_cons_of_mem _ hy)) _)
theorem hwd (h : LinkStep s t) : t.hwd = s.hwd := (congrArg State.hwd h.rest :)
end LinkStep

/-! ### Port records and registers -/

theorem rlkPort_modPort (p q : Nat) (f : RlkPort → RlkPort) (s : State) : rlkPort (modPort p f s) q = if q = p then f (rlkPort s p) else rlkPort s q := by
  unfold rlkPort modPort
  rw [spGet_spSet]
  rfl

theorem rlkPort_modPort_self (p : Nat) (f : RlkPort → RlkPort) (s : State) : rlkPort (modPort p f s) p = f (rlkPort s p) := by
  rw [rlkPort_modPort, if_pos rfl]

theorem rlkPort_of_rlk {s t : State} (h : t.rlk = s.rlk) (p : Nat) : rlkPort t p = rlkPort s p := by unfold rlkPort; rw [h]

theorem not_evReg_link {o : Nat} (h : o / 0x10000 = 0x26) : ¬ EvReg o := by unfold EvReg; omega
theorem not_axisReg_link {o : Nat} (h : o / 0x10000 = 0x26) : ¬ AxisReg o := by unfold AxisReg EvReg; omega

theorem eventStep_rlkEvent {code sev a0 a1 a2 a3 : Nat} (h : sev ≠ 2) (s : State) : EventStep s (rlkEvent code sev a0 a1 a2 a3 s) := by
  unfold rlkEvent
  rw [raise_accepted s h fun _ => ⟨by show ¬ (0x10 ≤ 0x32 ∧ 0x32 ≤ 0x15); decide, by show 0x32 ≠ 0x18; decide⟩]
  exact eventStep_acceptEv _ s

theorem lastEvent_rlkEvent {code sev a0 a1 a2 a3 : Nat} (h : sev ≠ 2) (s : State) : LastEvent (rlkEvent code sev a0 a1 a2 a3 s) code 0x32 := by
  unfold rlkEvent
  rw [raise_accepted s h fun _ => ⟨by show ¬ (0x10 ≤ 0x32 ∧ 0x32 ≤ 0x15); decide, by show 0x32 ≠ 0x18; decide⟩]
  exact lastEvent_acceptEv _ s

theorem EventStep.rlkPort {s t : State} (h : EventStep s t) (p : Nat) : rlkPort t p = rlkPort s p := rlkPort_of_rlk h.rlk p

section
variable {p k : Nat}

theorem page_port (hp : p < 16) {x : Nat} (hx : x < 0x40) : (0x260100 + x + 0x40 * p) / 0x10000 = 0x26 := by omega
theorem page_station (hp : p < 16) (hk : k < 8) {x : Nat} (hx : x < 0x10) : (0x261000 + x + 0x80 * p + 0x10 * k) / 0x10000 = 0x26 := by omega

end

/-! ### Lost stations (R361, R376, R383) -/

/-- What losing stations `l` of port `p` does. -/
structure StationsLost (p : Nat) (l : List Nat) (s t : State) : Prop where
  step : LinkStep s t
  reg : ∀ o, ¬ AxisReg o → (∀ k ∈ l, o ≠ Reg.RLK_P_S_STAT p k) → t.reg o = s.reg o
  lost : ∀ k ∈ l, t.fld (F.RLK_P_S_STAT_LOST p k) = 1
  port : rlkPort t p = { rlkPort s p with got := (rlkPort s p).got.filter fun e => e.1 ∉ l }
  axes : ∀ b < 128, axState t b = if (∃ k ∈ l, b ∈ stationAxes s p k) ∧ axState s b = axActive then axLost else axState s b

theorem stationsLost_nil (p : Nat) (s : State) : StationsLost p [] s s where
  step := .refl s
  reg _ _ _ := rfl
  lost _ h := nomatch h
  port := by simp
  axes _ _ := by simp

theorem stationsLost_one {p k : Nat} (hp : p < 16) (hk : k < 8) (s : State) : StationsLost p [k] s (loseStation p k s) := by
  have hl (u : State) : ∀ a ∈ stationAxes u p k, a < 128 := fun a ha => (mem_stationAxes.1 ha).1
  have hpage : (Reg.RLK_P_S_STAT p k) / 0x10000 = 0x26 := by unfold Reg.RLK_P_S_STAT; omega
  obtain ⟨m, hm⟩ : ∃ m, m = modPort p (fun x => { x with got := x.got.filter fun e => e.1 ≠ k }) (s.put (F.RLK_P_S_STAT_LOST p k) 1) := ⟨_, rfl⟩
  have hfpage : (F.RLK_P_S_STAT_LOST p k).reg / 0x10000 = 0x26 := by unfold F.RLK_P_S_STAT_LOST; dsimp only; omega
  have hput : PortStep s m := by
    have h1 := PortStep.put (f := F.RLK_P_S_STAT_LOST p k) s 1 hfpage
    rw [hm]
    exact h1.trans (.modPort _ p _)
  have hax := axisStep_loseAxes (hl m) (fun _ x => { x with valid := false }) m
  have hmreg (o : Nat) (ho : o ≠ Reg.RLK_P_S_STAT p k) : m.reg o = s.reg o := by rw [hm, modPort_reg]; exact reg_put_ne s (F.RLK_P_S_STAT_LOST p k) 1 ho
  have hstat (b : Nat) (hb : b < 128) : Reg.CMB_AX_STAT b ≠ Reg.RLK_P_S_STAT p k := by unfold Reg.CMB_AX_STAT Reg.RLK_P_S_STAT; omega
  have hset : m.fld (F.RLK_P_S_STAT_LOST p k) = 1 := by
    subst hm
    rw [modPort_fld]
    exact fld_put_fits s (F.RLK_P_S_STAT_LOST p k) (by show 24 ≤ 24; decide) (by show 24 < 32; decide) (by show 1 < 2 ^ 1; decide)
  have hport : rlkPort m p = { rlkPort s p with got := (rlkPort s p).got.filter fun e => e.1 ∉ [k] } := by
    subst hm
    rw [rlkPort_modPort_self]
    rw [rlkPort_of_rlk (State.put_rlk s (F.RLK_P_S_STAT_LOST p k) 1)]
    simp only [List.mem_singleton, ne_eq]
  have e : loseStation p k s = (stationAxes m p k).foldl (fun s a => loseAxis a (modAxis a (fun x => { x with valid := false }) s)) m := by subst hm; rfl
  rw [e]
  refine ⟨(LinkStep.ofPort hput).trans (.ofAxis hax), fun o ho hne => ?_, fun j hj => ?_, ?_, fun b hb => ?_⟩
  · rw [hax.reg o ho, hmreg o (hne k (List.mem_singleton.2 rfl))]
  · rw [List.mem_singleton.1 hj, hax.fld (not_axisReg_link hpage), hset]
  · rw [rlkPort_of_rlk hax.rlk, hport]
  · rw [axState_loseAxes _ hb, axState_of_reg (hmreg _ (hstat b hb)), stationAxes_runs (runsOnly_of_mem hput.mem)]
    simp only [List.mem_singleton, exists_eq_left]

theorem stationsLost_append {p : Nat} {l m : List Nat} {s t u : State} (hp : p < 16) (hl : ∀ k ∈ l, k < 8)
    (h : StationsLost p l s t) (g : StationsLost p m t u) : StationsLost p (l ++ m) s u := by
  refine ⟨h.step.trans g.step, fun o ho hne => ?_, fun k hk => ?_, ?_, fun b hb => ?_⟩
  · rw [g.reg o ho fun k hk => hne k (List.mem_append_right _ hk), h.reg o ho fun k hk => hne k (List.mem_append_left _ hk)]
  · by_cases hkm : k ∈ m
    · exact g.lost k hkm
    · have hkl := (List.mem_append.1 hk).resolve_right hkm
      have hpage : (Reg.RLK_P_S_STAT p k) / 0x10000 = 0x26 := by have := hl k hkl; unfold Reg.RLK_P_S_STAT; omega
      have hreg := g.reg (Reg.RLK_P_S_STAT p k) (not_axisReg_link hpage) fun j hj he => hkm (by
        have : k = j := by unfold Reg.RLK_P_S_STAT at he; omega
        exact this ▸ hj)
      rw [← h.lost k hkl]
      unfold State.fld
      exact congrArg (fun x : Word => slice x.toNat 24 24) hreg
  · rw [g.port, h.port]
    simp only [List.filter_filter, List.mem_append, not_or]
    congr 1
    refine List.filter_congr fun e _ => ?_
    rw [← Bool.decide_and]
    exact decide_eq_decide.2 and_comm
  · rw [g.axes b hb, h.axes b hb]
    simp only [stationAxes_runs h.step.runs, List.mem_append]
    by_cases h3 : axState s b = axActive
    · by_cases h1 : ∃ k ∈ l, b ∈ stationAxes s p k <;> by_cases h2 : ∃ k ∈ m, b ∈ stationAxes s p k <;>
        simp [h1, h2, h3, or_and_right, exists_or, axLost, axActive]
    · simp [h3]

theorem stationsLost_foldl {p : Nat} (hp : p < 16) (l : List Nat) (hl : ∀ k ∈ l, k < 8) (s : State) :
    StationsLost p l s (l.foldl (fun s k => loseStation p k s) s) := by
  induction l generalizing s with
  | nil => exact stationsLost_nil p s
  | cons k l ih =>
    have hk := hl k List.mem_cons_self
    have hl' : ∀ j ∈ l, j < 8 := fun j hj => hl j (List.mem_cons_of_mem _ hj)
    exact stationsLost_append (l := [k]) hp (fun j hj => List.mem_singleton.1 hj ▸ hk) (stationsLost_one hp hk s) (ih hl' _)

end Sys2Proof.Machine
end

section
/-! The root links (R368 to R389): received frames, and the operations on one port. -/

namespace Sys2Proof.Machine

/-! ### Received blocks (R368 to R370) -/

theorem invalid_rxBlock (o : Bool) (k : BlockKind) (r : Rx) : (rxBlock o k r).2.invalid = r.invalid + if k = .invalid then 1 else 0 := by
  cases k <;> cases o <;> simp [rxBlock]
  split <;> rfl

theorem invalid_rxBlocks (o : Bool) (ks : List BlockKind) (r : Rx) : (rxBlocks o ks r).invalid = r.invalid + ks.countP fun k => k = .invalid := by
  induction ks generalizing o r with
  | nil => cases o <;> rfl
  | cons k ks ih =>
    have e : rxBlocks o (k :: ks) r = rxBlocks (rxBlock o k r).1 ks (rxBlock o k r).2 := by cases o <;> rfl
    rw [e, ih, invalid_rxBlock, List.countP_cons]
    simp only [decide_eq_true_eq]
    omega

theorem window64_none {n : Nat} (hn : 0 < n) {p : LineBlock → Bool} {l : List LineBlock} (h : ∀ b ∈ l, p b = false) : window64 n p l = false := by
  induction l with
  | nil => rfl
  | cons b l ih =>
    have hcount : ((b :: l).take 64).countP p = 0 := List.countP_eq_zero.2 fun x hx => by rw [h x (List.mem_of_mem_take hx)]; decide
    unfold window64
    rw [hcount, ih fun x hx => h x (List.mem_cons_of_mem _ hx)]
    simp
    omega

theorem blockKind_sync {b : LineBlock} (h : b.sync = 0 ∨ b.sync = 3) : blockKind b = .invalid := by
  unfold blockKind
  rcases h with h | h <;> simp [h]

/-- Blocks without an invalid one keep a port up. -/
theorem portDown_none (p : Nat) (s : State) : portDown p false false s = s := by
  unfold portDown
  simp

theorem receive_frame {p : Nat} {f : RlkFrame} {use : RxFrame → State → State} {s : State} {g : RxFrame} (hup : portState s p ≠ rlkDisabled)
    (hr : received f = { frame := some g }) : receive p f use s = if frameOk g then use g s else frameError p g s := by
  have hcount := congrArg Rx.invalid hr
  unfold received at hcount
  rw [invalid_rxBlocks] at hcount
  have hnone : ∀ b ∈ descramble f.pre.toNat f.blocks, blockKind b ≠ .invalid := fun b hb he => by
    have h0 : (List.map blockKind (descramble f.pre.toNat f.blocks)).countP (fun k => k = .invalid) = 0 := by simpa using hcount
    have := List.countP_eq_zero.1 h0 (blockKind b) (List.mem_map_of_mem hb)
    simp [he] at this
  have h16 : window64 16 (fun b => b.sync = 0 || b.sync = 3) (descramble f.pre.toNat f.blocks) = false :=
    window64_none (by decide) fun b hb => by
      by_contra hne
      simp only [Bool.or_eq_true, decide_eq_true_eq, Bool.not_eq_false] at hne
      exact hnone b hb (blockKind_sync hne)
  have h8 : window64 8 (fun b => blockKind b = .invalid) (descramble f.pre.toNat f.blocks) = false :=
    window64_none (by decide) fun b hb => decide_eq_false (hnone b hb)
  unfold receive
  rw [if_neg hup]
  simp only [hr, List.foldl_nil, if_true, h16, h8, portDown_none]

theorem receive_disabled {p : Nat} {f : RlkFrame} {use : RxFrame → State → State} {s : State} (h : portState s p = rlkDisabled) : receive p f use s = s := by
  unfold receive
  rw [if_pos h]

/-! ### One port -/

section
variable {p : Nat} (hp : p < 16)
include hp

theorem page_stat : (F.RLK_P_STAT_STATE p).reg / 0x10000 = 0x26 := by unfold F.RLK_P_STAT_STATE; dsimp only; omega
theorem page_err : (F.RLK_P_ERR_CRC p).reg / 0x10000 = 0x26 := by unfold F.RLK_P_ERR_CRC; dsimp only; omega
theorem page_mgstat : (F.RLK_P_MGSTAT_BUSY p).reg / 0x10000 = 0x26 := by unfold F.RLK_P_MGSTAT_BUSY; dsimp only; omega
theorem page_loss : (F.RLK_P_LOSS_BREAKS p).reg / 0x10000 = 0x26 := by unfold F.RLK_P_LOSS_BREAKS; dsimp only; omega
theorem page_close : (F.RLK_P_CLOSE_T p).reg / 0x10000 = 0x26 := by unfold F.RLK_P_CLOSE_T; dsimp only; omega
theorem page_sstat {k : Nat} (hk : k < 8) : (F.RLK_P_S_STAT_LOST p k).reg / 0x10000 = 0x26 := by unfold F.RLK_P_S_STAT_LOST; dsimp only; omega

theorem fld_link_event {s t : State} (h : EventStep s t) {f : RegField} (hf : f.reg / 0x10000 = 0x26) : t.fld f = s.fld f := by
  have := hp
  exact h.fld (not_evReg_link hf)
end

/-- A frame that is discarded is counted and perhaps reported (R370, R387). -/
theorem frameError_spec {p : Nat} (hp : p < 16) (g : RxFrame) (s : State) : PortStep s (frameError p g s)
    ∧ (frameError p g s).fld (F.RLK_P_ERR_CRC p) = min (s.fld (F.RLK_P_ERR_CRC p) + 1) 0xFFFF ∧ (rlkPort (frameError p g s) p).got = (rlkPort s p).got := by
  obtain ⟨t, ht⟩ : ∃ t, t = s.incHold (F.RLK_P_ERR_CRC p) := ⟨_, rfl⟩
  have h1 : PortStep s t := ht ▸ PortStep.incHold s (page_err hp)
  have hcrc : t.fld (F.RLK_P_ERR_CRC p) = min (s.fld (F.RLK_P_ERR_CRC p) + 1) 0xFFFF := by
    rw [ht]; exact fld_incHold s (F.RLK_P_ERR_CRC p) (by show 0 ≤ 15; decide) (by show 15 < 32; decide)
  have hrlk : t.rlk = s.rlk := by rw [ht]; unfold State.incHold; split <;> rfl
  unfold frameError
  extract_lets u x
  have hu : u = t := ht.symm
  clear_value u
  subst hu
  split
  · exact ⟨h1, hcrc, by rw [rlkPort_of_rlk hrlk]⟩
  · have hev (m : State) (a b c d : Nat) := eventStep_rlkEvent (code := 0x8004) (sev := 0) (a0 := a) (a1 := b) (a2 := c) (a3 := d) (by decide) m
    refine ⟨(h1.trans (.modPort u p _)).trans (.ofEvent (hev _ _ _ _ _)), ?_, ?_⟩
    · rw [fld_link_event hp (hev _ _ _ _ _) (page_err hp), modPort_fld, hcrc]
    · rw [(hev _ _ _ _ _).rlkPort, rlkPort_modPort_self, rlkPort_of_rlk hrlk]

end Sys2Proof.Machine
end

section
/-! Samples and answers of stations (R374, R375, R379, R385, R386). -/

namespace Sys2Proof.Machine

theorem leNat_lt (l : List Byte) : leNat l < 256 ^ l.length := by
  induction l with
  | nil => exact Nat.one_pos
  | cons b l ih =>
    have hb : b.toNat < 256 := b.isLt
    show b.toNat + 256 * leNat l < 256 ^ (l.length + 1)
    rw [Nat.pow_succ]
    omega

theorem leAt_lt (d : List Byte) (i n : Nat) : leAt d i n < 256 ^ n :=
  (leNat_lt _).trans_le (Nat.pow_le_pow_right (by decide) (List.length_take_le _ _))

/-- A frame is the one sample of its station in this cycle (R374, R386). -/
def SampleDue (p : Nat) (g : RxFrame) (s : State) : Prop :=
  frameType g = 2 ∧ leAt g.hdr 4 1 = 0 ∧ frameHop g < portReach s p ∧ leAt g.hdr 2 1 = s.cmb.cycle % 256 ∧ (∀ e ∈ (rlkPort s p).got, e.1 ≠ frameHop g)

theorem hop_lt (g : RxFrame) : frameHop g < 8 := Nat.mod_lt _ (by decide)

/-- The figures of a sample are shown, its short-circuit reports taken. -/
def sampled (p : Nat) (g : RxFrame) (s : State) : State :=
  let sst := leAt g.data 0 2
  let first := bitAt sst 1 && !(bitAt (s.fld (F.RLK_P_S_STAT_SST p (frameHop g))) 1)
  let s := s.put (F.RLK_P_S_STAT_SST p (frameHop g)) (sst % 256)
  let s := if first then rlkEvent 0x8007 1 p (frameHop g) sst 0 s else s
  stopDone ((stationAxes s p (frameHop g)).foldl (fun s a => shortReport a (leAt g.data (8 + 16 * (axPlace s a).2.2 + 10) 2) s) s)

section
variable {p : Nat} {g : RxFrame} {s : State}

theorem takeSample_discards (h : portState s p ≠ rlkUp ∨ s.cmb.bound = none ∨ ¬ SampleDue p g s) : takeSample p g s = s := by
  unfold takeSample
  extract_lets k d sst ast first t u v x
  refine if_pos ?_
  simp only [Bool.or_eq_true, decide_eq_true_eq, Option.isNone_iff_eq_none, List.any_eq_true, ne_eq]
  rcases h with h | h | h
  · simp [h]
  · simp [h]
  · unfold SampleDue at h
    by_contra hc
    push Not at hc
    obtain ⟨⟨⟨⟨⟨⟨h1, h2⟩, h3⟩, h4⟩, h5⟩, h6⟩, h7⟩ := hc
    exact h ⟨h3, h4, h5, h6, fun e he => h7 e he⟩

theorem takeSample_due (hup : portState s p = rlkUp) (hb : s.cmb.bound ≠ none) (h : SampleDue p g s) : ∃ m, m = sampled p g s ∧
    takeSample p g s = if !(rlkPort m p).closed then
        modPort p (fun x => { x with got := x.got ++ [(frameHop g, g.data)] }) (m.put (F.RLK_P_S_STAT_LOST p (frameHop g)) 0)
      else if (rlkPort m p).released then
        (stationAxes m p (frameHop g)).foldl (fun s a => lateSample a (leAt g.data (8 + 16 * (axPlace s a).2.2 + 10) 2) s) m
      else m := by
  obtain ⟨h1, h2, h3, h4, h5⟩ := h
  refine ⟨_, rfl, ?_⟩
  unfold takeSample
  refine if_neg ?_
  simp only [Bool.or_eq_true, decide_eq_true_eq, Option.isNone_iff_eq_none, List.any_eq_true, ne_eq, not_or, not_not, not_exists, not_and]
  exact ⟨⟨⟨⟨⟨⟨hup, hb⟩, h1⟩, h2⟩, by omega⟩, h4⟩, h5⟩

theorem regStep_sampled (hp : p < 16) : RegStep (fun o => AxisReg o ∨ o = Reg.RLK_P_S_STAT p (frameHop g)) s (sampled p g s)
    ∧ (sampled p g s).fld (F.RLK_P_S_STAT_SST p (frameHop g)) = leAt g.data 0 2 % 256 := by
  have hk := hop_lt g
  have hpage : (F.RLK_P_S_STAT_SST p (frameHop g)).reg / 0x10000 = 0x26 := by unfold F.RLK_P_S_STAT_SST; dsimp only; omega
  unfold sampled
  extract_lets sst first t u
  have ht : RegStep (fun o => AxisReg o ∨ o = Reg.RLK_P_S_STAT p (frameHop g)) s t := .put s _ (.inr rfl)
  have hu : EventStep t u := by
    unfold u
    split
    · exact eventStep_rlkEvent (by decide) t
    · exact .refl t
  have hv : RegStep AxisReg u (stopDone ((stationAxes u p (frameHop g)).foldl (fun s a => shortReport a (leAt g.data (8 + 16 * (axPlace s a).2.2 + 10) 2) s) u)) :=
    (regStep_foldl _ _ (fun w a ha => regStep_shortReport (mem_stationAxes.1 ha).1 _ w) u).trans (regStep_stopDone _)
  refine ⟨(ht.trans (.ofEvent hu fun _ h => .inl (.inl h))).trans (hv.weaken fun _ => .inl), ?_⟩
  rw [hv.fld (not_axisReg_link hpage), hu.fld (not_evReg_link hpage)]
  exact fld_put_fits s (F.RLK_P_S_STAT_SST p (frameHop g)) (by show 16 ≤ 23; decide) (by show 23 < 32; decide) (Nat.mod_lt _ (by show 0 < 2 ^ 8; decide))

theorem axisStep_lateSample {a : Nat} (ha : a < 128) (ast : Nat) (s : State) : AxisStep s (lateSample a ast s) := by
  unfold lateSample
  split
  · exact axisStep_missAxis ha 4 s
  · exact .refl s

/-- A due sample is kept, in time (R374, R376). -/
theorem takeSample_kept (hp : p < 16) (hup : portState s p = rlkUp) (hb : s.cmb.bound ≠ none) (h : SampleDue p g s) (hc : Calm s) (hx : (rlkPort s p).closed = false) :
    ∃ t, takeSample p g s = t ∧ Calm t ∧ (rlkPort t p).got = (rlkPort s p).got ++ [(frameHop g, g.data)] ∧ t.mem = s.mem
      ∧ t.fld (F.RLK_P_S_STAT_SST p (frameHop g)) = leAt g.data 0 2 % 256 ∧ t.fld (F.RLK_P_S_STAT_LOST p (frameHop g)) = 0 := by
  obtain ⟨hstep, hsst⟩ := regStep_sampled (s := s) (g := g) hp
  have hk := hop_lt g
  obtain ⟨m, hm, e⟩ := takeSample_due hup hb h
  rw [← hm] at hstep hsst
  clear hm
  have hrlk : m.rlk = s.rlk := (congrArg State.rlk hstep.rest :)
  have hcalm : Calm m := hstep.calm (by
    unfold AxisReg EvReg Reg.HWD_STATE Reg.RLK_P_S_STAT; omega) hc
  have hport := rlkPort_of_rlk hrlk p
  rw [hport, hx, if_pos (by decide)] at e
  have hlost : (m.put (F.RLK_P_S_STAT_LOST p (frameHop g)) 0).fld (F.RLK_P_S_STAT_LOST p (frameHop g)) = 0 :=
    fld_put_fits m (F.RLK_P_S_STAT_LOST p (frameHop g)) (by show 24 ≤ 24; decide) (by show 24 < 32; decide) (by show 0 < 2 ^ 1; decide)
  have hkeep : (m.put (F.RLK_P_S_STAT_LOST p (frameHop g)) 0).fld (F.RLK_P_S_STAT_SST p (frameHop g)) = leAt g.data 0 2 % 256 := by
    rw [fld_put_apart m (F.RLK_P_S_STAT_LOST p (frameHop g)) (F.RLK_P_S_STAT_SST p (frameHop g)) 0 (by show 24 ≤ 24; decide) (by show 24 < 32; decide)
      (by show 23 < 24 ∨ 24 < 16; decide), hsst]
  have hput : PortStep m (m.put (F.RLK_P_S_STAT_LOST p (frameHop g)) 0) := .put m 0 (page_sstat hp hk)
  have hrlk' : (m.put (F.RLK_P_S_STAT_LOST p (frameHop g)) 0).rlk = m.rlk := State.put_rlk m _ _
  generalize m.put (F.RLK_P_S_STAT_LOST p (frameHop g)) 0 = u at e hlost hkeep hput hrlk'
  refine ⟨_, e, (hput.trans (.modPort u p _)).calm hcalm, ?_, ?_, (modPort_fld _ _ _ _).trans hkeep, (modPort_fld _ _ _ _).trans hlost⟩
  · rw [rlkPort_modPort_self, rlkPort_of_rlk hrlk', hport]
  · rw [modPort_mem, hput.mem, hstep.mem]

/-- A due sample after the close of the window only shows its figures and counts misses (R359, R376). -/
theorem takeSample_late (hp : p < 16) (hup : portState s p = rlkUp) (hb : s.cmb.bound ≠ none) (h : SampleDue p g s) (hc : Calm s) (hx : (rlkPort s p).closed = true) :
    ∃ t, takeSample p g s = t ∧ Calm t ∧ rlkPort t p = rlkPort s p ∧ t.fld (F.RLK_P_S_STAT_SST p (frameHop g)) = leAt g.data 0 2 % 256 ∧ RunsOnly s t := by
  obtain ⟨hstep, hsst⟩ := regStep_sampled (s := s) (g := g) hp
  have hk := hop_lt g
  have hpage : (F.RLK_P_S_STAT_SST p (frameHop g)).reg / 0x10000 = 0x26 := by unfold F.RLK_P_S_STAT_SST; dsimp only; omega
  obtain ⟨m, hm, e⟩ := takeSample_due hup hb h
  rw [← hm] at hstep hsst
  clear hm
  have hrlk : m.rlk = s.rlk := (congrArg State.rlk hstep.rest :)
  have hport := rlkPort_of_rlk hrlk p
  have hcalm : Calm m := hstep.calm (by unfold AxisReg EvReg Reg.HWD_STATE Reg.RLK_P_S_STAT; omega) hc
  rw [hport, hx, if_neg (by decide)] at e
  have hruns := runsOnly_of_mem hstep.mem
  split at e
  · have hlate : AxisStep m ((stationAxes m p (frameHop g)).foldl (fun s a => lateSample a (leAt g.data (8 + 16 * (axPlace s a).2.2 + 10) 2) s) m) :=
      .foldl _ _ (fun w a ha => axisStep_lateSample (mem_stationAxes.1 ha).1 _ w) m
    exact ⟨_, e, hlate.calm hcalm, (rlkPort_of_rlk hlate.rlk p).trans hport, (hlate.fld (not_axisReg_link hpage)).trans hsst, runsOnly_trans hruns hlate.runs⟩
  · exact ⟨_, e, hcalm, hport, hsst, hruns⟩

/-! ### Management exchanges (R379) -/

theorem portStep_endExchange (hp : p < 16) (ok : Bool) (s : State) : PortStep s (endExchange p ok s) := by
  have hd : (F.RLK_P_MGSTAT_DONE p).reg / 0x10000 = 0x26 := page_mgstat hp
  have hf : (F.RLK_P_MGSTAT_FAIL p).reg / 0x10000 = 0x26 := page_mgstat hp
  unfold endExchange
  dsimp only
  split
  · exact ((PortStep.put s 0 (page_mgstat hp)).trans (.modPort _ p _)).trans (.put _ 1 hd)
  · exact ((PortStep.put s 0 (page_mgstat hp)).trans (.modPort _ p _)).trans (.put _ 1 hf)

theorem reg_endExchange (ok : Bool) (s : State) {o : Nat} (ho : o ≠ Reg.RLK_P_MGSTAT p) : (endExchange p ok s).reg o = s.reg o := by
  unfold endExchange
  dsimp only
  split
  · rw [reg_put_ne _ (F.RLK_P_MGSTAT_DONE p) _ ho, modPort_reg, reg_put_ne _ (F.RLK_P_MGSTAT_BUSY p) _ ho]
  · rw [reg_put_ne _ (F.RLK_P_MGSTAT_FAIL p) _ ho, modPort_reg, reg_put_ne _ (F.RLK_P_MGSTAT_BUSY p) _ ho]

theorem rlkPort_endExchange (ok : Bool) (s : State) : rlkPort (endExchange p ok s) p = { rlkPort s p with mg := 0 } := by
  have h (t : State) : rlkPort (modPort p (fun x => { x with mg := 0 }) t) p = { rlkPort t p with mg := 0 } := rlkPort_modPort_self p _ t
  unfold endExchange
  dsimp only
  split
  · rw [rlkPort_of_rlk (State.put_rlk _ _ _), h, rlkPort_of_rlk (State.put_rlk _ _ _)]
  · rw [rlkPort_of_rlk (State.put_rlk _ _ _), h, rlkPort_of_rlk (State.put_rlk _ _ _)]

theorem flags_endExchange (ok : Bool) (s : State) : (endExchange p ok s).flag (F.RLK_P_MGSTAT_BUSY p) = false
    ∧ (ok = true → (endExchange p ok s).flag (F.RLK_P_MGSTAT_DONE p) = true) ∧ (ok = false → (endExchange p ok s).flag (F.RLK_P_MGSTAT_FAIL p) = true) := by
  have hb : (s.put (F.RLK_P_MGSTAT_BUSY p) 0).flag (F.RLK_P_MGSTAT_BUSY p) = false := flag_put_zero s (f := F.RLK_P_MGSTAT_BUSY p) rfl (by show 0 < 32; decide)
  have hd (t : State) : (t.put (F.RLK_P_MGSTAT_DONE p) 1).flag (F.RLK_P_MGSTAT_BUSY p) = t.flag (F.RLK_P_MGSTAT_BUSY p) :=
    flag_put_apart t (F.RLK_P_MGSTAT_DONE p) (F.RLK_P_MGSTAT_BUSY p) 1 (by show 1 ≤ 1; decide) (by show 1 < 32; decide) (by show 0 < 1 ∨ 1 < 0; decide)
  have hf (t : State) : (t.put (F.RLK_P_MGSTAT_FAIL p) 1).flag (F.RLK_P_MGSTAT_BUSY p) = t.flag (F.RLK_P_MGSTAT_BUSY p) :=
    flag_put_apart t (F.RLK_P_MGSTAT_FAIL p) (F.RLK_P_MGSTAT_BUSY p) 1 (by show 2 ≤ 2; decide) (by show 2 < 32; decide) (by show 0 < 2 ∨ 2 < 0; decide)
  unfold endExchange
  cases ok with
  | true =>
    refine ⟨by simp only [if_true, hd, modPort_flag, hb], fun _ => ?_, fun h => absurd h (by decide)⟩
    exact flag_put_one _ (f := F.RLK_P_MGSTAT_DONE p) rfl (by show 1 < 32; decide)
  | false =>
    refine ⟨by simp only [Bool.false_eq_true, if_false, hf, modPort_flag, hb], fun h => absurd h (by decide), fun _ => ?_⟩
    exact flag_put_one _ (f := F.RLK_P_MGSTAT_FAIL p) rfl (by show 2 < 32; decide)

/-- A STATUS that answers the exchange of its port (R379). -/
def StatusDue (p : Nat) (g : RxFrame) (s : State) : Prop :=
  portState s p = rlkUp ∧ frameType g = 6 ∧ leAt g.hdr 4 1 = 0 ∧ (rlkPort s p).mg = 3 ∧ frameHop g = (rlkPort s p).mgReq % 8

theorem takeStatus_discards (h : ¬ StatusDue p g s) : takeStatus p g s = s := by
  unfold takeStatus
  extract_lets x
  refine if_pos ?_
  unfold StatusDue at h
  simp only [Bool.or_eq_true, decide_eq_true_eq, ne_eq]
  by_contra hc
  push Not at hc
  obtain ⟨⟨⟨⟨h1, h2⟩, h3⟩, h4⟩, h5⟩ := hc
  exact h ⟨h1, h2, h3, h4, h5⟩

theorem takeStatus_due (h : StatusDue p g s) :
    takeStatus p g s = endExchange p (decide (leAt g.data 2 1 = 0)) (s.setReg64 (Reg.RLK_P_MGDATA_LO p) (leAt g.data 8 8)) := by
  obtain ⟨h1, h2, h3, h4, h5⟩ := h
  unfold takeStatus
  refine if_neg ?_
  simp [h1, h2, h3, h4, h5]

theorem takeStatus_spec (h : StatusDue p g s) :
    let t := takeStatus p g s
    t.flag (F.RLK_P_MGSTAT_BUSY p) = false ∧ (rlkPort t p).mg = 0 ∧ t.reg64 (Reg.RLK_P_MGDATA_LO p) = leAt g.data 8 8
      ∧ (leAt g.data 2 1 = 0 → t.flag (F.RLK_P_MGSTAT_DONE p) = true) ∧ (leAt g.data 2 1 ≠ 0 → t.flag (F.RLK_P_MGSTAT_FAIL p) = true) := by
  rw [takeStatus_due h]
  generalize hm : s.setReg64 (Reg.RLK_P_MGDATA_LO p) (leAt g.data 8 8) = m
  obtain ⟨hbusy, hdone, hfail⟩ := flags_endExchange (p := p) (decide (leAt g.data 2 1 = 0)) m
  refine ⟨hbusy, by rw [rlkPort_endExchange], ?_, fun h0 => hdone (decide_eq_true h0), fun h0 => hfail (decide_eq_false h0)⟩
  have hlo : Reg.RLK_P_MGDATA_LO p ≠ Reg.RLK_P_MGSTAT p := by unfold Reg.RLK_P_MGDATA_LO Reg.RLK_P_MGSTAT; omega
  have hhi : Reg.RLK_P_MGDATA_LO p + 4 ≠ Reg.RLK_P_MGSTAT p := by unfold Reg.RLK_P_MGDATA_LO Reg.RLK_P_MGSTAT; omega
  rw [reg64_congr (reg_endExchange _ m hlo) (reg_endExchange _ m hhi), ← hm, reg64_setReg64_self]
  exact Nat.mod_eq_of_lt (leAt_lt g.data 8 8)

end

end Sys2Proof.Machine
end

section
/-! Port states, losses, breaks, the close of the window (R376, R380, R383), measured stations and schedules (R373, R381, R382). -/

namespace Sys2Proof.Machine

/-! ### The list of ports that are up -/

theorem testBit_foldl_ports (l : List Nat) (c : Nat → Prop) [DecidablePred c] (m q : Nat) :
    (l.foldl (fun m p => if c p then m ||| 2 ^ p else m) m).testBit q = (m.testBit q || decide (q ∈ l ∧ c q)) := by
  induction l generalizing m with
  | nil => simp
  | cons p l ih =>
    rw [List.foldl_cons, ih]
    by_cases hc : c p
    · rw [if_pos hc, Nat.testBit_or, Nat.testBit_two_pow]
      by_cases hq : p = q
      · subst hq; simp [hc]
      · have hq' : q ≠ p := fun e => hq e.symm
        simp [hq, hq']
    · rw [if_neg hc]
      by_cases hq : q = p
      · subst hq; simp [hc]
      · simp [hq]

theorem reg_showPorts (s : State) {o : Nat} (ho : o ≠ Reg.RLK_STAT) : (showPorts s).reg o = s.reg o := by
  unfold showPorts
  rw [reg_put_ne _ F.RLK_STAT_STOTX _ ho, reg_put_ne _ F.RLK_STAT_UP _ ho]

theorem portStep_showPorts (s : State) : PortStep s (showPorts s) := by
  have h1 (t : State) (v : Nat) : PortStep t (t.put F.RLK_STAT_UP v) := .put t v (by decide)
  have h2 (t : State) (v : Nat) : PortStep t (t.put F.RLK_STAT_STOTX v) := .put t v (by decide)
  unfold showPorts
  exact (h1 s _).trans (h2 _ _)

theorem rlk_showPorts (s : State) : (showPorts s).rlk = s.rlk := by
  unfold showPorts
  rw [State.put_rlk, State.put_rlk]

theorem out_showPorts (s : State) : (showPorts s).out = s.out := by
  unfold showPorts
  rw [State.put_out, State.put_out]

theorem up_showPorts {p : Nat} (hp : p < 16) (s : State) : bitAt ((showPorts s).fld F.RLK_STAT_UP) p = decide (portState s p = rlkUp) := by
  unfold showPorts
  rw [fld_put_apart _ F.RLK_STAT_STOTX F.RLK_STAT_UP _ (by decide) (by decide) (by decide), fld_put_self _ F.RLK_STAT_UP _ (by decide) (by decide)]
  unfold bitAt
  rw [Nat.testBit_mod_two_pow, testBit_foldl_ports rlkPorts (fun p => portState s p = rlkUp), Nat.zero_testBit, Bool.false_or]
  have hmem : p ∈ rlkPorts := List.mem_range.2 hp
  simp [hmem, show p < F.RLK_STAT_UP.hi + 1 - F.RLK_STAT_UP.lo from hp]

theorem portState_of_reg {s t : State} {p : Nat} (h : t.reg (Reg.RLK_P_STAT p) = s.reg (Reg.RLK_P_STAT p)) : portState t p = portState s p := by
  unfold portState State.fld
  exact congrArg (fun x : Word => slice x.toNat 1 0) h

theorem portReach_of_reg {s t : State} {p : Nat} (h : t.reg (Reg.RLK_P_STAT p) = s.reg (Reg.RLK_P_STAT p)) : portReach t p = portReach s p := by
  unfold portReach State.fld
  exact congrArg (fun x : Word => slice x.toNat 7 4) h

theorem fld_of_reg {s t : State} (f : RegField) (h : t.reg f.reg = s.reg f.reg) : t.fld f = s.fld f := by unfold State.fld; rw [h]

theorem pstat_ne_stat (p : Nat) : Reg.RLK_P_STAT p ≠ Reg.RLK_STAT := by unfold Reg.RLK_P_STAT Reg.RLK_STAT; omega
theorem pstat_ne_mgstat (p q : Nat) : Reg.RLK_P_STAT p ≠ Reg.RLK_P_MGSTAT q := by unfold Reg.RLK_P_STAT Reg.RLK_P_MGSTAT; omega

section
variable {p : Nat} (hp : p < 16)
include hp

theorem not_evReg_pstat : ¬ EvReg (Reg.RLK_P_STAT p) := not_evReg_link (page_stat hp)
theorem not_axisReg_pstat : ¬ AxisReg (Reg.RLK_P_STAT p) := not_axisReg_link (page_stat hp)
omit hp in
theorem sstat_ne_pstat (q k : Nat) : Reg.RLK_P_STAT p ≠ Reg.RLK_P_S_STAT q k := by unfold Reg.RLK_P_STAT Reg.RLK_P_S_STAT; omega

/-! ### Leaving UP (R380) -/

/-- What a port that enters another state than UP keeps of its own. -/
def settled (x : RlkPort) : RlkPort :=
  { x with mg := 0, got := [], closed := false, released := false, rejoin := none, toldTopo := false, toldSched := false }

omit hp in
/-- A running exchange fails when its port leaves UP. -/
theorem leaveUp_of (st : Nat) (s : State) : ∃ m, m = (if (rlkPort s p).mg ≠ 0 then endExchange p false s else s)
    ∧ leaveUp p st s = showPorts ((modPort p (fun x => { x with got := [], closed := false, released := false, rejoin := none, toldTopo := false, toldSched := false }) m).put
        (F.RLK_P_STAT_STATE p) st) := ⟨_, rfl, rfl⟩

theorem portStep_leaveUp (st : Nat) (s : State) : PortStep s (leaveUp p st s) := by
  obtain ⟨m, hm, e⟩ := leaveUp_of (p := p) st s
  have h1 : PortStep s m := by
    rw [hm]; split
    · exact portStep_endExchange hp false s
    · exact .refl s
  rw [e]
  exact ((h1.trans (.modPort m p _)).trans (.put _ st (page_stat hp))).trans (portStep_showPorts _)

omit hp in
theorem reg_leaveUp (st : Nat) (s : State) {o : Nat} (h1 : o ≠ Reg.RLK_P_MGSTAT p) (h2 : o ≠ Reg.RLK_P_STAT p) (h3 : o ≠ Reg.RLK_STAT) :
    (leaveUp p st s).reg o = s.reg o := by
  obtain ⟨m, hm, e⟩ := leaveUp_of (p := p) st s
  rw [e, reg_showPorts _ h3, reg_put_ne _ (F.RLK_P_STAT_STATE p) _ h2, modPort_reg, hm]
  split
  · exact reg_endExchange false s h1
  · rfl

theorem portState_leaveUp {st : Nat} (hst : st < 4) (s : State) : portState (leaveUp p st s) p = st ∧ portReach (leaveUp p st s) p = portReach s p
    ∧ bitAt ((leaveUp p st s).fld F.RLK_STAT_UP) p = decide (st = rlkUp) := by
  obtain ⟨m, hm, e⟩ := leaveUp_of (p := p) st s
  have hset (t : State) : portState (t.put (F.RLK_P_STAT_STATE p) st) p = st :=
    fld_put_fits t (F.RLK_P_STAT_STATE p) (by show 0 ≤ 1; decide) (by show 1 < 32; decide) (by show st < 2 ^ 2; omega)
  have hreach (t : State) : portReach (t.put (F.RLK_P_STAT_STATE p) st) p = portReach t p :=
    fld_put_apart t (F.RLK_P_STAT_STATE p) (F.RLK_P_STAT_REACH p) st (by show 0 ≤ 1; decide) (by show 1 < 32; decide) (by show 7 < 0 ∨ 1 < 4; decide)
  rw [e]
  refine ⟨?_, ?_, by rw [up_showPorts hp, hset]⟩
  · rw [portState_of_reg (reg_showPorts _ (pstat_ne_stat p)), hset]
  · rw [portReach_of_reg (reg_showPorts _ (pstat_ne_stat p)), hreach, portReach_of_reg (modPort_reg m p _ _), hm]
    split
    · exact portReach_of_reg (reg_endExchange false s (pstat_ne_mgstat p p))
    · rfl

omit hp in
theorem rlkPort_leaveUp (st : Nat) (s : State) : rlkPort (leaveUp p st s) p = settled (rlkPort s p) := by
  obtain ⟨m, hm, e⟩ := leaveUp_of (p := p) st s
  rw [e, rlkPort_of_rlk (rlk_showPorts _), rlkPort_of_rlk (State.put_rlk _ _ _), rlkPort_modPort_self, hm]
  unfold settled
  split
  · rw [rlkPort_endExchange]
  · rename_i h
    rw [not_not] at h
    simp [← h]

omit hp in
theorem quiet_endExchange (ok : Bool) (s : State) : (endExchange p ok s).evq = s.evq ∧ (endExchange p ok s).out = s.out := by
  unfold endExchange
  dsimp only
  split
  · exact ⟨by rw [State.put_evq, modPort_evq, State.put_evq], by rw [State.put_out, modPort_out, State.put_out]⟩
  · exact ⟨by rw [State.put_evq, modPort_evq, State.put_evq], by rw [State.put_out, modPort_out, State.put_out]⟩

omit hp in
/-- Leaving UP raises nothing and sends nothing. -/
theorem quiet_leaveUp (st : Nat) (s : State) : (leaveUp p st s).evq = s.evq ∧ (leaveUp p st s).out = s.out := by
  obtain ⟨m, hm, e⟩ := leaveUp_of (p := p) st s
  have hq : m.evq = s.evq ∧ m.out = s.out := by
    rw [hm]; split
    · exact quiet_endExchange false s
    · exact ⟨rfl, rfl⟩
  have hshow (t : State) : (showPorts t).evq = t.evq := by unfold showPorts; rw [State.put_evq, State.put_evq]
  rw [e, hshow, out_showPorts, State.put_evq, State.put_out, modPort_evq, modPort_out]
  exact hq

omit hp in
theorem lastEvent_of_evq {s t : State} {code oid : Nat} (h : t.evq = s.evq) (hl : LastEvent s code oid) : LastEvent t code oid := by
  unfold LastEvent at hl ⊢
  rw [h]
  exact hl

/-! ### Losses, breaks (R380, R383) -/

theorem losePort_spec (s : State) (hr : portReach s p ≤ 8) : LinkStep s (losePort p s) ∧ portReach (losePort p s) p = 0
    ∧ portState (losePort p s) p = portState s p ∧ (∀ k < portReach s p, (losePort p s).fld (F.RLK_P_S_STAT_LOST p k) = 1)
    ∧ rlkPort (losePort p s) p = { rlkPort s p with got := (rlkPort s p).got.filter fun e => e.1 ∉ List.range (portReach s p) } := by
  have hl : ∀ k ∈ List.range (portReach s p), k < 8 := fun k hk => (List.mem_range.1 hk).trans_le hr
  have h := stationsLost_foldl hp _ hl s
  unfold losePort
  generalize (List.range (portReach s p)).foldl (fun s k => loseStation p k s) s = t at h ⊢
  have hput : PortStep t (t.put (F.RLK_P_STAT_REACH p) 0) := .put t 0 (page_stat hp)
  refine ⟨h.step.trans (.ofPort hput), ?_, ?_, fun k hk => ?_, ?_⟩
  · exact fld_put_fits t (F.RLK_P_STAT_REACH p) (by show 4 ≤ 7; decide) (by show 7 < 32; decide) (by show 0 < 2 ^ 4; decide)
  · refine Eq.trans ?_ (portState_of_reg (h.reg _ (not_axisReg_pstat hp) fun k _ => sstat_ne_pstat p k))
    exact fld_put_apart t (F.RLK_P_STAT_REACH p) (F.RLK_P_STAT_STATE p) 0 (by show 4 ≤ 7; decide) (by show 7 < 32; decide) (by show 1 < 4 ∨ 7 < 0; decide)
  · rw [fld_put_reg t (F.RLK_P_STAT_REACH p) (F.RLK_P_S_STAT_LOST p k) 0 (sstat_ne_pstat p k).symm]
    exact h.lost k (List.mem_range.2 hk)
  · rw [rlkPort_of_rlk (State.put_rlk t _ _), h.port]

theorem portDown_spec {lost errors : Bool} (s : State) (hup : portState s p = rlkUp) (hc : lost = true ∨ errors = true) (hr : portReach s p ≤ 8) :
    let t := portDown p lost errors s
    portState t p = rlkTrain ∧ portReach t p = 0 ∧ LastEvent t 0x8001 0x32 ∧ RunsOnly s t ∧ bitAt (t.fld F.RLK_STAT_UP) p = false
      ∧ ∀ k < portReach s p, t.fld (F.RLK_P_S_STAT_LOST p k) = 1 := by
  obtain ⟨hstep, hreach, -, hlost, -⟩ := losePort_spec hp s hr
  have hgo : (decide (portState s p ≠ rlkUp) || !(lost || errors)) = false := by
    rcases hc with h | h <;> simp [hup, h]
  unfold portDown
  rw [if_neg (by rw [hgo]; decide)]
  generalize losePort p s = t at hstep hreach hlost
  obtain ⟨u, hu⟩ : ∃ u, u = t.incHold (F.RLK_P_LOSS_BREAKS p) := ⟨_, rfl⟩
  have htu : PortStep t u := hu ▸ PortStep.incHold t (page_loss hp)
  have hureg {o : Nat} (ho : o ≠ Reg.RLK_P_LOSS p) : u.reg o = t.reg o := by
    rw [hu]; unfold State.incHold; split
    · exact reg_put_ne t (F.RLK_P_LOSS_BREAKS p) _ ho
    · rfl
  dsimp only
  rw [← hu]
  clear hu
  have hev := eventStep_rlkEvent (code := 0x8001) (sev := 1) (a0 := p) (a1 := ofBool lost + 2 * ofBool errors) (a2 := portReach s p) (a3 := 0) (by decide) u
  have hlast := lastEvent_rlkEvent (code := 0x8001) (sev := 1) (a0 := p) (a1 := ofBool lost + 2 * ofBool errors) (a2 := portReach s p) (a3 := 0) (by decide) u
  generalize rlkEvent 0x8001 1 p (ofBool lost + 2 * ofBool errors) (portReach s p) 0 u = v at hev hlast
  obtain ⟨hst, hre, hbit⟩ := portState_leaveUp hp (show rlkTrain < 4 by decide) v
  have hstep2 := portStep_leaveUp hp rlkTrain v
  refine ⟨hst, ?_, ?_, runsOnly_trans hstep.runs (runsOnly_of_mem ?_), hbit, fun k hk => ?_⟩
  · rw [hre, portReach_of_reg (hev.reg _ (not_evReg_pstat hp)), portReach_of_reg (hureg (by unfold Reg.RLK_P_STAT Reg.RLK_P_LOSS; omega)), hreach]
  · exact lastEvent_of_evq (quiet_leaveUp rlkTrain v).1 hlast
  · rw [hstep2.mem, hev.mem, htu.mem]
  · have hk8 : k < 8 := by omega
    have hreg : ∀ o, o = Reg.RLK_P_S_STAT p k → (leaveUp p rlkTrain v).reg o = t.reg o := fun o ho => by
      rw [reg_leaveUp rlkTrain v (by rw [ho]; unfold Reg.RLK_P_S_STAT Reg.RLK_P_MGSTAT; omega) (by rw [ho]; exact (sstat_ne_pstat p k).symm)
        (by rw [ho]; unfold Reg.RLK_P_S_STAT Reg.RLK_STAT; omega), hev.reg o (not_evReg_link (by rw [ho]; exact page_sstat hp hk8)),
        hureg (by rw [ho]; unfold Reg.RLK_P_S_STAT Reg.RLK_P_LOSS; omega)]
    rw [fld_of_reg (F.RLK_P_S_STAT_LOST p k) (hreg _ rfl)]
    exact hlost k hk

/-- A BREAK loses the stations behind it (R383, R384). -/
theorem portBreak_spec (hop reason : Nat) (s : State) (hup : portState s p = rlkUp) (hr : portReach s p ≤ 8) :
    let t := portBreak p hop reason s
    portReach t p = min (portReach s p) (hop + 1) ∧ t.fld (F.RLK_P_LOSS_BREAKS p) = min (s.fld (F.RLK_P_LOSS_BREAKS p) + 1) 0xFFFF ∧ LastEvent t 0x8002 0x32
      ∧ portState t p = rlkUp ∧ RunsOnly s t ∧ ∀ k, hop < k → k < portReach s p → t.fld (F.RLK_P_S_STAT_LOST p k) = 1 := by
  have hl : ∀ k ∈ (List.range (portReach s p - (hop + 1))).map (hop + 1 + ·), k < 8 := fun k hk => by
    obtain ⟨i, hi, rfl⟩ := List.mem_map.1 hk
    have := List.mem_range.1 hi
    omega
  unfold portBreak
  rw [if_neg (not_not.2 hup)]
  dsimp only
  have h := stationsLost_foldl hp _ hl (modPort p (fun x => { x with rejoin := none }) s)
  rw [List.foldl_map] at h
  generalize (List.range (portReach s p - (hop + 1))).foldl (fun s i => loseStation p (hop + 1 + i) s) (modPort p (fun x => { x with rejoin := none }) s) = t at h ⊢
  obtain ⟨u, hu⟩ : ∃ u, u = t.put (F.RLK_P_STAT_REACH p) (min (portReach s p) (hop + 1)) := ⟨_, rfl⟩
  obtain ⟨v, hv⟩ : ∃ v, v = u.incHold (F.RLK_P_LOSS_BREAKS p) := ⟨_, rfl⟩
  rw [← hu, ← hv]
  have htu : PortStep t u := hu ▸ PortStep.put t _ (page_stat hp)
  have huv : PortStep u v := hv ▸ PortStep.incHold u (page_loss hp)
  have hev := eventStep_rlkEvent (code := 0x8002) (sev := 1) (a0 := p) (a1 := hop) (a2 := reason) (a3 := (portReach s p - (hop + 1)) % 256) (by decide) v
  have hlast := lastEvent_rlkEvent (code := 0x8002) (sev := 1) (a0 := p) (a1 := hop) (a2 := reason) (a3 := (portReach s p - (hop + 1)) % 256) (by decide) v
  generalize rlkEvent 0x8002 1 p hop reason ((portReach s p - (hop + 1)) % 256) v = w at hev hlast
  have hpstat : t.reg (Reg.RLK_P_STAT p) = s.reg (Reg.RLK_P_STAT p) := (h.reg _ (not_axisReg_pstat hp) fun k _ => sstat_ne_pstat p k).trans (modPort_reg s p _ _)
  have hvreg {o : Nat} (ho : o ≠ Reg.RLK_P_LOSS p) : v.reg o = u.reg o := by
    rw [hv]; unfold State.incHold; split
    · exact reg_put_ne u (F.RLK_P_LOSS_BREAKS p) _ ho
    · rfl
  have hloss : Reg.RLK_P_STAT p ≠ Reg.RLK_P_LOSS p := by unfold Reg.RLK_P_STAT Reg.RLK_P_LOSS; omega
  have hwstat : w.reg (Reg.RLK_P_STAT p) = u.reg (Reg.RLK_P_STAT p) := (hev.reg _ (not_evReg_pstat hp)).trans (hvreg hloss)
  refine ⟨?_, ?_, hlast, ?_, runsOnly_trans (runsOnly_trans (runsOnly_of_mem (modPort_mem s p _)) h.step.runs) (runsOnly_of_mem ?_), fun k h1 h2 => ?_⟩
  · rw [portReach_of_reg hwstat, hu]
    exact fld_put_fits t (F.RLK_P_STAT_REACH p) (by show 4 ≤ 7; decide) (by show 7 < 32; decide) (by show _ < 2 ^ 4; omega)
  · have hsame : t.reg (Reg.RLK_P_LOSS p) = s.reg (Reg.RLK_P_LOSS p) :=
      (h.reg (Reg.RLK_P_LOSS p) (not_axisReg_link (page_loss hp)) fun k _ => by unfold Reg.RLK_P_LOSS Reg.RLK_P_S_STAT; omega).trans (modPort_reg s p _ _)
    have hsu : u.fld (F.RLK_P_LOSS_BREAKS p) = s.fld (F.RLK_P_LOSS_BREAKS p) := by
      rw [hu, fld_put_reg t (F.RLK_P_STAT_REACH p) (F.RLK_P_LOSS_BREAKS p) _ hloss.symm]
      exact fld_of_reg (F.RLK_P_LOSS_BREAKS p) hsame
    rw [hev.fld (not_evReg_link (page_loss hp)), hv, fld_incHold u (F.RLK_P_LOSS_BREAKS p) (by show 0 ≤ 15; decide) (by show 15 < 32; decide), hsu]
    rfl
  · rw [portState_of_reg hwstat, hu]
    refine Eq.trans ?_ ((portState_of_reg hpstat).trans hup)
    exact fld_put_apart t (F.RLK_P_STAT_REACH p) (F.RLK_P_STAT_STATE p) _ (by show 4 ≤ 7; decide) (by show 7 < 32; decide) (by show 1 < 4 ∨ 7 < 0; decide)
  · rw [hev.mem, huv.mem, htu.mem]
  · have hk8 : k < 8 := by omega
    have hreg : w.reg (Reg.RLK_P_S_STAT p k) = t.reg (Reg.RLK_P_S_STAT p k) := by
      rw [hev.reg (Reg.RLK_P_S_STAT p k) (not_evReg_link (page_sstat hp hk8)), hvreg (by unfold Reg.RLK_P_S_STAT Reg.RLK_P_LOSS; omega), hu]
      exact reg_put_ne t (F.RLK_P_STAT_REACH p) _ (sstat_ne_pstat p k).symm
    rw [fld_of_reg (F.RLK_P_S_STAT_LOST p k) hreg]
    exact h.lost k (List.mem_map.2 ⟨k - (hop + 1), List.mem_range.2 (by omega), by omega⟩)

/-! ### The close of the sample window (R376) -/

theorem rlkPort_loseStation {k : Nat} (hk : k < 8) {s : State} (h : ∀ e ∈ (rlkPort s p).got, e.1 ≠ k) : rlkPort (loseStation p k s) p = rlkPort s p := by
  rw [(stationsLost_one hp hk s).port, List.filter_eq_self.2]
  intro e he
  simpa using h e he

/-- Stations with a sample are passed over; losing one without a sample takes no sample away. -/
theorem closeWindow_eq (l : List Nat) (hl : ∀ k ∈ l, k < 8) (s : State) :
    l.foldl (fun s k => if (rlkPort s p).got.any (fun e => e.1 = k) then s else loseStation p k s) s
        = (l.filter fun k => !(rlkPort s p).got.any (fun e => e.1 = k)).foldl (fun s k => loseStation p k s) s
      ∧ rlkPort ((l.filter fun k => !(rlkPort s p).got.any (fun e => e.1 = k)).foldl (fun s k => loseStation p k s) s) p = rlkPort s p := by
  induction l generalizing s with
  | nil => exact ⟨rfl, rfl⟩
  | cons k l ih =>
    have hl' : ∀ j ∈ l, j < 8 := fun j hj => hl j (List.mem_cons_of_mem _ hj)
    rw [List.foldl_cons, List.filter_cons]
    by_cases hgot : (rlkPort s p).got.any (fun e => e.1 = k) = true
    · rw [if_pos hgot, if_neg (by simp [hgot])]
      exact ih hl' s
    · have hnone : ∀ e ∈ (rlkPort s p).got, e.1 ≠ k := fun e he hk => hgot (List.any_eq_true.2 ⟨e, he, decide_eq_true hk⟩)
      have hport := rlkPort_loseStation hp (hl k List.mem_cons_self) hnone
      have := ih hl' (loseStation p k s)
      rw [hport] at this
      rw [if_neg hgot, if_pos (by simpa using hnone), List.foldl_cons]
      exact this

theorem execSampleWindowClose_spec (port : Fin 16) (hport : port.val = p) (s : State) (hup : portState s p = rlkUp) (hb : s.cmb.bound ≠ none)
    (hx : (rlkPort s p).closed = false) (hr : portReach s p ≤ 8) :
    ∃ t, execSampleWindowClose port s = .next t ∧ (rlkPort t p).closed = true ∧ RunsOnly s t ∧ ∀ k < portReach s p,
      ((∀ e ∈ (rlkPort s p).got, e.1 ≠ k) → t.fld (F.RLK_P_S_STAT_LOST p k) = 1
        ∧ ∀ a < 128, axOn s a = true → (axPlace s a).1 = p → (axPlace s a).2.1 = k → axState t a = if axState s a = axActive then axLost else axState s a)
      ∧ ((∃ e ∈ (rlkPort s p).got, e.1 = k) → t.fld (F.RLK_P_S_STAT_LOST p k) = s.fld (F.RLK_P_S_STAT_LOST p k)) := by
  subst hport
  generalize hpp : port.val = p at *
  obtain ⟨m, hm⟩ : ∃ m, m = modPort p (fun x => { x with closed := true }) s := ⟨_, rfl⟩
  have hmp : rlkPort m p = { rlkPort s p with closed := true } := by rw [hm, rlkPort_modPort_self]
  have hreach : portReach m p = portReach s p := by rw [hm]; exact portReach_of_reg (modPort_reg s p _ _)
  have hl : ∀ k ∈ (List.range (portReach s p)).filter (fun k => !(rlkPort m p).got.any (fun e => e.1 = k)), k < 8 := fun k hk =>
    (List.mem_range.1 (List.mem_filter.1 hk).1).trans_le hr
  obtain ⟨heq, hkeep⟩ := closeWindow_eq hp (List.range (portReach s p)) (fun k hk => (List.mem_range.1 hk).trans_le hr) m
  have h := stationsLost_foldl hp _ hl m
  rw [← heq] at h hkeep
  have hnext : execSampleWindowClose port s = .next ((List.range (portReach s p)).foldl (fun s k => if (rlkPort s p).got.any (fun e => e.1 = k) then s else loseStation p k s) m) := by
    unfold execSampleWindowClose
    simp only [hpp]
    rw [if_neg (by simp [hup, hb, hx]), ← hm, hreach]
  have hmem : m.mem = s.mem := by rw [hm, modPort_mem]
  have hmreg (o : Nat) : m.reg o = s.reg o := by rw [hm, modPort_reg]
  generalize (List.range (portReach s p)).foldl (fun s k => if (rlkPort s p).got.any (fun e => e.1 = k) then s else loseStation p k s) m = t at h hkeep hnext
  refine ⟨t, hnext, by rw [hkeep, hmp], runsOnly_trans (runsOnly_of_mem hmem) h.step.runs, fun k hk => ⟨fun hnone => ?_, fun ⟨e, he, hek⟩ => ?_⟩⟩
  · have hkl : k ∈ (List.range (portReach s p)).filter (fun k => !(rlkPort m p).got.any (fun e => e.1 = k)) := by
      rw [List.mem_filter, hmp]
      exact ⟨List.mem_range.2 hk, by simpa using hnone⟩
    refine ⟨h.lost k hkl, fun a ha hon h1 h2 => ?_⟩
    have hst : axState m a = axState s a := axState_of_reg (hmreg _)
    have hin : a ∈ stationAxes m p k := by
      rw [stationAxes_runs (runsOnly_of_mem hmem)]
      exact mem_stationAxes.2 ⟨ha, hon, h1, h2⟩
    rw [h.axes a ha, hst]
    exact if_congr ⟨fun g => g.2, fun g => ⟨⟨k, hkl, hin⟩, g⟩⟩ rfl rfl
  · refine fld_of_reg (F.RLK_P_S_STAT_LOST p k) ((h.reg _ (not_axisReg_link (page_sstat hp (by omega))) fun j hj hjk => ?_).trans (hmreg _))
    have hkj : k = j := by unfold F.RLK_P_S_STAT_LOST Reg.RLK_P_S_STAT at hjk; dsimp only at hjk; omega
    have hnot := (List.mem_filter.1 hj).2
    rw [hmp, Bool.not_eq_true', List.any_eq_false] at hnot
    exact hnot e he (decide_eq_true (hek.trans hkj))

end

end Sys2Proof.Machine
end

section
/-! Enumeration: the stations' figures, their identities, the schedule, the states it leads to (R373, R380 to R382, R389). -/

namespace Sys2Proof.Machine

/-- The registers of station `k` of a port take the figures read (R389). -/
def setFigures (p k : Nat) (x : RlkStation) (s : State) : State :=
  (((s.setReg64 (Reg.RLK_P_S_ID_LO p k) x.id.toNat).put (F.RLK_P_S_CFG_NAX p k) x.nax.toNat).put (F.RLK_P_S_CFG_TCONV p k) x.tconv.toNat).put
    (F.RLK_P_S_STAT_DLY p k) x.dly.toNat

/-- The registers of station `k` of port `p`. -/
def StationReg (p k o : Nat) : Prop := 0x261000 + 0x80 * p + 0x10 * k ≤ o ∧ o < 0x261010 + 0x80 * p + 0x10 * k

/-- A station's registers hold its figures. -/
structure HasFigures (p k : Nat) (x : RlkStation) (t : State) : Prop where
  id : t.reg64 (Reg.RLK_P_S_ID_LO p k) = x.id.toNat
  nax : t.fld (F.RLK_P_S_CFG_NAX p k) = x.nax.toNat
  tconv : t.fld (F.RLK_P_S_CFG_TCONV p k) = x.tconv.toNat
  dly : t.fld (F.RLK_P_S_STAT_DLY p k) = x.dly.toNat

theorem hasFigures_congr {p k : Nat} {x : RlkStation} {s t : State} (h : HasFigures p k x s) (hr : ∀ o, StationReg p k o → t.reg o = s.reg o) : HasFigures p k x t := by
  obtain ⟨h1, h2, h3, h4⟩ := h
  refine ⟨?_, ?_, ?_, ?_⟩
  · rw [reg64_congr (hr _ (by unfold StationReg Reg.RLK_P_S_ID_LO; omega)) (hr _ (by unfold StationReg Reg.RLK_P_S_ID_LO; omega)), h1]
  · rw [fld_of_reg (F.RLK_P_S_CFG_NAX p k) (hr _ (by unfold StationReg F.RLK_P_S_CFG_NAX; dsimp only; omega)), h2]
  · rw [fld_of_reg (F.RLK_P_S_CFG_TCONV p k) (hr _ (by unfold StationReg F.RLK_P_S_CFG_TCONV; dsimp only; omega)), h3]
  · rw [fld_of_reg (F.RLK_P_S_STAT_DLY p k) (hr _ (by unfold StationReg F.RLK_P_S_STAT_DLY; dsimp only; omega)), h4]

section
variable {p k : Nat} {x : RlkStation} {s : State}

theorem reg_setFigures {o : Nat} (ho : ¬ StationReg p k o) : (setFigures p k x s).reg o = s.reg o := by
  unfold StationReg at ho
  unfold setFigures State.setReg64
  rw [reg_put_ne _ (F.RLK_P_S_STAT_DLY p k) _ (by unfold F.RLK_P_S_STAT_DLY; dsimp only; omega),
    reg_put_ne _ (F.RLK_P_S_CFG_TCONV p k) _ (by unfold F.RLK_P_S_CFG_TCONV; dsimp only; omega),
    reg_put_ne _ (F.RLK_P_S_CFG_NAX p k) _ (by unfold F.RLK_P_S_CFG_NAX; dsimp only; omega),
    reg_setReg_ne _ _ (by unfold Reg.RLK_P_S_ID_LO; omega), reg_setReg_ne _ _ (by unfold Reg.RLK_P_S_ID_LO; omega)]

theorem hasFigures_setFigures : HasFigures p k x (setFigures p k x s) := by
  have hcs : (F.RLK_P_S_CFG_NAX p k).reg ≠ (F.RLK_P_S_STAT_DLY p k).reg := by unfold F.RLK_P_S_CFG_NAX F.RLK_P_S_STAT_DLY; dsimp only; omega
  have hct : (F.RLK_P_S_CFG_TCONV p k).reg ≠ (F.RLK_P_S_STAT_DLY p k).reg := hcs
  unfold setFigures
  refine ⟨?_, ?_, ?_, ?_⟩
  · have hid {o : Nat} (h1 : Reg.RLK_P_S_ID_LO p k ≤ o) (h2 : o < Reg.RLK_P_S_ID_LO p k + 8) (t : State) (a b c : Nat) :
        (((t.put (F.RLK_P_S_CFG_NAX p k) a).put (F.RLK_P_S_CFG_TCONV p k) b).put (F.RLK_P_S_STAT_DLY p k) c).reg o = t.reg o := by
      unfold Reg.RLK_P_S_ID_LO at h1 h2
      rw [reg_put_ne _ (F.RLK_P_S_STAT_DLY p k) _ (by unfold F.RLK_P_S_STAT_DLY; dsimp only; omega),
        reg_put_ne _ (F.RLK_P_S_CFG_TCONV p k) _ (by unfold F.RLK_P_S_CFG_TCONV; dsimp only; omega),
        reg_put_ne _ (F.RLK_P_S_CFG_NAX p k) _ (by unfold F.RLK_P_S_CFG_NAX; dsimp only; omega)]
    rw [reg64_congr (hid (Nat.le_refl _) (by omega) _ _ _ _) (hid (by omega) (by omega) _ _ _ _), reg64_setReg64_self, Nat.mod_eq_of_lt x.id.isLt]
  · rw [fld_put_reg _ (F.RLK_P_S_STAT_DLY p k) (F.RLK_P_S_CFG_NAX p k) _ hcs,
      fld_put_apart _ (F.RLK_P_S_CFG_TCONV p k) (F.RLK_P_S_CFG_NAX p k) _ (by show 16 ≤ 31; decide) (by show 31 < 32; decide) (by show 4 < 16 ∨ 31 < 0; decide)]
    exact fld_put_fits _ (F.RLK_P_S_CFG_NAX p k) (by show 0 ≤ 4; decide) (by show 4 < 32; decide) x.nax.isLt
  · rw [fld_put_reg _ (F.RLK_P_S_STAT_DLY p k) (F.RLK_P_S_CFG_TCONV p k) _ hct]
    exact fld_put_fits _ (F.RLK_P_S_CFG_TCONV p k) (by show 16 ≤ 31; decide) (by show 31 < 32; decide) x.tconv.isLt
  · exact fld_put_fits _ (F.RLK_P_S_STAT_DLY p k) (by show 0 ≤ 15; decide) (by show 15 < 32; decide) x.dly.isLt

theorem portStep_setFigures (hp : p < 16) (hk : k < 8) : PortStep s (setFigures p k x s) := by
  have h1 (t : State) : PortStep t (t.setReg64 (Reg.RLK_P_S_ID_LO p k) x.id.toNat) :=
    .setReg64 t _ (by unfold Reg.RLK_P_S_ID_LO; omega) (by unfold Reg.RLK_P_S_ID_LO; omega)
  have h2 (t : State) : PortStep t (t.put (F.RLK_P_S_CFG_NAX p k) x.nax.toNat) := .put t _ (by unfold F.RLK_P_S_CFG_NAX; dsimp only; omega)
  have h3 (t : State) : PortStep t (t.put (F.RLK_P_S_CFG_TCONV p k) x.tconv.toNat) := .put t _ (by unfold F.RLK_P_S_CFG_TCONV; dsimp only; omega)
  have h4 (t : State) : PortStep t (t.put (F.RLK_P_S_STAT_DLY p k) x.dly.toNat) := .put t _ (by unfold F.RLK_P_S_STAT_DLY; dsimp only; omega)
  unfold setFigures
  exact (((h1 s).trans (h2 _)).trans (h3 _)).trans (h4 _)

end

/-- A state after frames were sent: nothing else has changed. -/
def SentOnly (s t : State) : Prop := ∃ l, t = { s with out := s.out ++ l }

theorem sentOnly_refl (s : State) : SentOnly s s := ⟨[], by rw [List.append_nil]⟩
theorem sentOnly_emit (s : State) (o : Out) : SentOnly s (s.emit o) := ⟨[o], rfl⟩
theorem sentOnly_trans {s t u : State} (h : SentOnly s t) (g : SentOnly t u) : SentOnly s u := by
  obtain ⟨l, rfl⟩ := h
  obtain ⟨m, rfl⟩ := g
  exact ⟨l ++ m, by rw [List.append_assoc]⟩
theorem sentOnly_foldl {α : Type} (l : List α) (f : State → α → State) (h : ∀ s x, SentOnly s (f s x)) (s : State) : SentOnly s (l.foldl f s) := by
  induction l generalizing s with
  | nil => exact sentOnly_refl s
  | cons x l ih => exact sentOnly_trans (h s x) (ih _)

theorem sentOnly_frame (p ftype addr : Nat) (data : List Byte) (s : State) : SentOnly s (sendFrame p ftype addr data s) := sentOnly_emit s _
theorem sentOnly_mgmt (p k reg : Nat) (wr : Bool) (data : Nat) (s : State) : SentOnly s (sendMgmt p k reg wr data s) := sentOnly_emit s _

/-- What measuring the first `n` stations of `l` leaves. -/
structure Measured (p : Nat) (l : List RlkStation) (n : Nat) (s t : State) : Prop where
  step : PortStep s t
  rlk : t.rlk = s.rlk
  evq : t.evq = s.evq
  reg : ∀ o, (∀ k < n, ¬ StationReg p k o) → t.reg o = s.reg o
  figs : ∀ k < n, ∀ x, l[k]? = some x → HasFigures p k x t

theorem Measured.sent {p n : Nat} {l : List RlkStation} {s t u : State} (h : SentOnly s t) (g : Measured p l n t u) : Measured p l n s u := by
  obtain ⟨m, rfl⟩ := h
  have hst : PortStep s { s with out := s.out ++ m } := ⟨rfl, fun _ _ => rfl⟩
  exact ⟨hst.trans g.step, g.rlk, g.evq, g.reg, g.figs⟩

theorem measured_foldl {p : Nat} (hp : p < 16) {l : List RlkStation} {f : State → Nat → State}
    (hf : ∀ s k x, l[k]? = some x → ∃ u, SentOnly s u ∧ f s k = setFigures p k x u) {n : Nat} (hn : n ≤ l.length) (hn8 : n ≤ 8) (s : State) :
    Measured p l n s ((List.range n).foldl f s) := by
  induction n with
  | zero => exact ⟨.refl s, rfl, rfl, fun _ _ => rfl, fun _ h => absurd h (Nat.not_lt_zero _)⟩
  | succ n ih =>
    obtain ⟨hstep, hrlk, hevq, hreg, hfigs⟩ := ih (by omega) (by omega)
    rw [List.range_succ, List.foldl_append, List.foldl_cons, List.foldl_nil]
    generalize (List.range n).foldl f s = t at hstep hrlk hevq hreg hfigs
    obtain ⟨u, ⟨m, hu⟩, hfu⟩ := hf t n l[n] (List.getElem?_eq_getElem (by omega))
    have htu : PortStep t u := by subst hu; exact ⟨rfl, fun _ _ => rfl⟩
    have hureg (o : Nat) : u.reg o = t.reg o := by rw [hu]; rfl
    have hurlk : u.rlk = t.rlk := by rw [hu]
    have huevq : u.evq = t.evq := by rw [hu]
    rw [hfu]
    refine ⟨(hstep.trans htu).trans (portStep_setFigures hp (by omega)), ?_, ?_, fun o ho => ?_, fun k hk x hx => ?_⟩
    · unfold setFigures State.setReg64
      rw [State.put_rlk, State.put_rlk, State.put_rlk, State.setReg_rlk, State.setReg_rlk, hurlk, hrlk]
    · unfold setFigures State.setReg64
      rw [State.put_evq, State.put_evq, State.put_evq, State.setReg_evq, State.setReg_evq, huevq, hevq]
    · rw [reg_setFigures (ho n (by omega)), hureg, hreg o fun k hk => ho k (by omega)]
    · by_cases hkn : k = n
      · subst hkn
        rw [List.getElem?_eq_getElem (by omega)] at hx
        cases hx
        exact hasFigures_setFigures
      · refine hasFigures_congr (hfigs k (by omega) x hx) fun o ho => ?_
        rw [reg_setFigures (fun g => by unfold StationReg at ho g; omega), hureg]

theorem measureStations_spec {p : Nat} (hp : p < 16) {l : List RlkStation} (hl : l.length ≤ 8) (s : State) :
    Measured p l l.length s (measureStations p l s) := by
  unfold measureStations
  extract_lets figs plan last t
  have ht : SentOnly s t := sentOnly_foldl _ _ (fun s k => sentOnly_trans (sentOnly_mgmt _ _ _ _ _ s) (sentOnly_mgmt _ _ _ _ _ _)) s
  refine .sent ht (measured_foldl hp (fun u k x hx => ?_) (Nat.le_refl _) hl t)
  refine ⟨_, sentOnly_trans (sentOnly_trans (sentOnly_mgmt p k 2 true (plan.txo.getD k 0).toNat u) (sentOnly_mgmt p k 3 true (last - x.dly.toNat) _))
    (sentOnly_mgmt p k 4 true k _), ?_⟩
  rw [hx]
  rfl

/-- The identities are compared and recorded (R381): events, and what the port keeps of them. -/
theorem checkIds_spec (p : Nat) (l : List RlkStation) (s : State) : ∃ u, EventStep s u
    ∧ checkIds p l s = modPort p (fun x => { x with ids := l.map (fun e => e.id.toNat) ++ (rlkPort s p).ids.drop l.length }) u := by
  refine ⟨_, ?_, rfl⟩
  refine eventStep_foldl _ _ (fun t k _ => ?_) s
  split
  · split
    · exact .refl t
    · exact eventStep_rlkEvent (by decide) t
  · exact .refl t

/-! ### The schedule (R373, R382) -/

/-- The figures that an enumeration reads. -/
def figsOf (l : List RlkStation) : List StationFig := l.map fun e => ⟨e.nax.toNat, e.tconv.toNat, e.dly.toNat⟩

theorem stationFigs_measured {p : Nat} {l : List RlkStation} {t : State} (h : ∀ k < l.length, ∀ x, l[k]? = some x → HasFigures p k x t) :
    stationFigs t p l.length = figsOf l := by
  unfold stationFigs figsOf
  refine List.ext_getElem (by simp) fun k h1 h2 => ?_
  have hk : k < l.length := by simpa using h1
  obtain ⟨-, h2, h3, h4⟩ := h k hk l[k] (List.getElem?_eq_getElem hk)
  simp only [List.getElem_map, List.getElem_range, h2, h3, h4]

/-- The state in which the stations are measured and their identities checked. -/
structure Checked (p : Nat) (l : List RlkStation) (s t : State) : Prop where
  step : PortStep s t
  port : rlkPort t p = { rlkPort s p with ids := l.map (fun e => e.id.toNat) ++ (rlkPort s p).ids.drop l.length }
  reg : ∀ o, ¬ EvReg o → (∀ k < l.length, ¬ StationReg p k o) → t.reg o = s.reg o
  figs : ∀ k < l.length, ∀ x, l[k]? = some x → HasFigures p k x t

theorem checked_measure {p : Nat} (hp : p < 16) {l : List RlkStation} (hl : l.length ≤ 8) (s : State) : Checked p l s (checkIds p l (measureStations p l s)) := by
  obtain ⟨hstep, hrlk, -, hreg, hfigs⟩ := measureStations_spec hp hl s
  generalize measureStations p l s = t at hstep hrlk hreg hfigs
  obtain ⟨u, hev, e⟩ := checkIds_spec p l t
  rw [e]
  have hport := rlkPort_of_rlk hrlk p
  refine ⟨(hstep.trans (.ofEvent hev)).trans (.modPort u p _), ?_, fun o ho hs => ?_, fun k hk x hx => ?_⟩
  · rw [rlkPort_modPort_self, hev.rlkPort, hport]
  · rw [modPort_reg, hev.reg o ho, hreg o hs]
  · refine hasFigures_congr (hfigs k hk x hx) fun o ho => ?_
    rw [modPort_reg, hev.reg o (not_evReg_link (by unfold StationReg at ho; omega))]

theorem checked_low {p : Nat} {l : List RlkStation} {s t : State} (h : Checked p l s t) {o : Nat} (he : ¬ EvReg o) (ho : o < 0x261000) : t.reg o = s.reg o :=
  h.reg o he fun k _ hk => by unfold StationReg at hk; omega

section
variable {p : Nat} {l : List RlkStation} {s t : State}

theorem rlkGap_checked (h : Checked p l s t) : rlkGap t = rlkGap s := by
  unfold rlkGap
  rw [fld_of_reg F.RLK_GAP_GAP (checked_low h (by unfold EvReg F.RLK_GAP_GAP; dsimp only; omega) (by decide))]

theorem periodNs_checked (h : Checked p l s t) : periodNs t = periodNs s := by
  unfold periodNs
  rw [fld_of_reg F.CMB_PERIOD_PERUS (checked_low h (by unfold EvReg F.CMB_PERIOD_PERUS; dsimp only; omega) (by decide))]

theorem plan_checked (h : Checked p l s t) : rlkPlan (rlkGap t) (stationFigs t p l.length) = rlkPlan (rlkGap s) (figsOf l) := by
  rw [rlkGap_checked h, stationFigs_measured h.figs]

theorem cycleFits_checked (h : Checked p l s t) : cycleFits t p l.length = decide ((rlkPlan (rlkGap s) (figsOf l)).need ≤ (periodNs s * 10 : Nat)) := by
  unfold cycleFits
  rw [plan_checked h, periodNs_checked h]
  exact decide_eq_decide.2 (by push_cast; rfl)

theorem pstat_checked (hp : p < 16) (h : Checked p l s t) : t.reg (Reg.RLK_P_STAT p) = s.reg (Reg.RLK_P_STAT p) :=
  checked_low h (not_evReg_pstat hp) (by unfold Reg.RLK_P_STAT; omega)

end

end Sys2Proof.Machine
end

section
/-! Enumeration and rejoin (R380 to R384), exchanges that start (R379), STO frames (R378) and the enable of a port (R380, R388). -/

namespace Sys2Proof.Machine

/-! ### The schedule in force (R376, R382, R389) -/

theorem hasFigures_lost {p k j : Nat} {x : RlkStation} {s : State} (h : HasFigures p k x s) (v : Nat) : HasFigures p k x (s.put (F.RLK_P_S_STAT_LOST p j) v) := by
  obtain ⟨h1, h2, h3, h4⟩ := h
  have hid {o : Nat} (h1 : Reg.RLK_P_S_ID_LO p k ≤ o) (h2 : o < Reg.RLK_P_S_ID_LO p k + 12) : (s.put (F.RLK_P_S_STAT_LOST p j) v).reg o = s.reg o :=
    reg_put_ne s (F.RLK_P_S_STAT_LOST p j) v (by unfold Reg.RLK_P_S_ID_LO at h1 h2; unfold F.RLK_P_S_STAT_LOST; dsimp only; omega)
  refine ⟨?_, ?_, ?_, ?_⟩
  · rw [reg64_congr (hid (Nat.le_refl _) (by omega)) (hid (by omega) (by omega)), h1]
  · rw [fld_of_reg (F.RLK_P_S_CFG_NAX p k) (hid (by unfold Reg.RLK_P_S_ID_LO F.RLK_P_S_CFG_NAX; dsimp only; omega)
      (by unfold Reg.RLK_P_S_ID_LO F.RLK_P_S_CFG_NAX; dsimp only; omega)), h2]
  · rw [fld_of_reg (F.RLK_P_S_CFG_TCONV p k) (hid (by unfold Reg.RLK_P_S_ID_LO F.RLK_P_S_CFG_TCONV; dsimp only; omega)
      (by unfold Reg.RLK_P_S_ID_LO F.RLK_P_S_CFG_TCONV; dsimp only; omega)), h3]
  · rw [← h4]
    by_cases hkj : k = j
    · subst hkj
      exact fld_put_apart s (F.RLK_P_S_STAT_LOST p k) (F.RLK_P_S_STAT_DLY p k) v (by show 24 ≤ 24; decide) (by show 24 < 32; decide) (by show 15 < 24 ∨ 24 < 0; decide)
    · exact fld_put_reg s (F.RLK_P_S_STAT_LOST p j) (F.RLK_P_S_STAT_DLY p k) v (by unfold F.RLK_P_S_STAT_LOST F.RLK_P_S_STAT_DLY; dsimp only; omega)

/-- What putting a schedule of `n` stations in force leaves. -/
structure Installed (p n : Nat) (s t : State) : Prop where
  step : PortStep s t
  rlk : t.rlk = s.rlk
  state : portState t p = portState s p
  reach : portReach t p = n
  close : t.fld (F.RLK_P_CLOSE_T p) = (rlkPlan (rlkGap s) (stationFigs s p n)).close.toNat
  lost : ∀ k < n, t.fld (F.RLK_P_S_STAT_LOST p k) = 0
  figs : ∀ k x, HasFigures p k x s → HasFigures p k x t

theorem clearLost_spec {p : Nat} (hp : p < 16) (n : Nat) (hn : n ≤ 8) (s : State) :
    let t := (List.range n).foldl (fun s k => s.put (F.RLK_P_S_STAT_LOST p k) 0) s
    PortStep s t ∧ t.rlk = s.rlk ∧ (∀ o < 0x261000, t.reg o = s.reg o) ∧ (∀ k < n, t.fld (F.RLK_P_S_STAT_LOST p k) = 0)
      ∧ ∀ k x, HasFigures p k x s → HasFigures p k x t := by
  induction n with
  | zero => exact ⟨.refl s, rfl, fun _ _ => rfl, fun _ h => absurd h (Nat.not_lt_zero _), fun _ _ h => h⟩
  | succ n ih =>
    obtain ⟨hstep, hrlk, hreg, hlost, hfigs⟩ := ih (by omega)
    rw [List.range_succ, List.foldl_append, List.foldl_cons, List.foldl_nil]
    generalize (List.range n).foldl (fun s k => s.put (F.RLK_P_S_STAT_LOST p k) 0) s = t at hstep hrlk hreg hlost hfigs
    refine ⟨hstep.trans (.put t 0 (page_sstat hp (by omega))), (State.put_rlk t _ _).trans hrlk, fun o ho => ?_, fun k hk => ?_, fun k x h => hasFigures_lost (hfigs k x h) 0⟩
    · rw [reg_put_ne t (F.RLK_P_S_STAT_LOST p n) 0 (by unfold F.RLK_P_S_STAT_LOST; dsimp only; omega), hreg o ho]
    · by_cases hkn : k = n
      · subst hkn
        exact fld_put_fits t (F.RLK_P_S_STAT_LOST p k) (by show 24 ≤ 24; decide) (by show 24 < 32; decide) (by show 0 < 2 ^ 1; decide)
      · rw [fld_put_reg t (F.RLK_P_S_STAT_LOST p n) (F.RLK_P_S_STAT_LOST p k) 0 (by unfold F.RLK_P_S_STAT_LOST; dsimp only; omega)]
        exact hlost k (by omega)

section
variable {p : Nat} (hp : p < 16)
include hp

theorem installPlan_spec {n : Nat} (hn : n ≤ 8) (s : State) (hclose : (rlkPlan (rlkGap s) (stationFigs s p n)).close < 2 ^ 24) : Installed p n s (installPlan p n s) := by
  obtain ⟨u, hu⟩ : ∃ u, u = s.put (F.RLK_P_STAT_REACH p) n := ⟨_, rfl⟩
  have hureg {o : Nat} (ho : o ≠ Reg.RLK_P_STAT p) : u.reg o = s.reg o := by rw [hu]; exact reg_put_ne s (F.RLK_P_STAT_REACH p) n ho
  unfold installPlan
  rw [← hu]
  dsimp only
  obtain ⟨v, hv⟩ : ∃ v, v = u.put (F.RLK_P_CLOSE_T p) (rlkPlan (rlkGap s) (stationFigs s p n)).close.toNat := ⟨_, rfl⟩
  rw [← hv]
  obtain ⟨hstep, hrlk, hreg, hlost, hfigs⟩ := clearLost_spec hp n hn v
  generalize (List.range n).foldl (fun s k => s.put (F.RLK_P_S_STAT_LOST p k) 0) v = t at hstep hrlk hreg hlost hfigs
  have hsu : PortStep s u := hu ▸ PortStep.put s n (page_stat hp)
  have huv : PortStep u v := hv ▸ PortStep.put u _ (page_close hp)
  have hvreg {o : Nat} (ho : o ≠ Reg.RLK_P_CLOSE p) : v.reg o = u.reg o := by rw [hv]; exact reg_put_ne u (F.RLK_P_CLOSE_T p) _ ho
  have hstat : t.reg (Reg.RLK_P_STAT p) = u.reg (Reg.RLK_P_STAT p) :=
    (hreg _ (by unfold Reg.RLK_P_STAT; omega)).trans (hvreg (by unfold Reg.RLK_P_STAT Reg.RLK_P_CLOSE; omega))
  refine ⟨(hsu.trans huv).trans hstep, ?_, ?_, ?_, ?_, hlost, fun k x h => hfigs k x (hasFigures_congr h fun o ho => ?_)⟩
  · rw [hrlk, hv, State.put_rlk, hu, State.put_rlk]
  · rw [portState_of_reg hstat, hu]
    exact fld_put_apart s (F.RLK_P_STAT_REACH p) (F.RLK_P_STAT_STATE p) n (by show 4 ≤ 7; decide) (by show 7 < 32; decide) (by show 1 < 4 ∨ 7 < 0; decide)
  · rw [portReach_of_reg hstat, hu]
    exact fld_put_fits s (F.RLK_P_STAT_REACH p) (by show 4 ≤ 7; decide) (by show 7 < 32; decide) (by show n < 2 ^ 4; omega)
  · rw [fld_of_reg (F.RLK_P_CLOSE_T p) (hreg _ (by unfold F.RLK_P_CLOSE_T; dsimp only; omega)), hv]
    exact fld_put_fits u (F.RLK_P_CLOSE_T p) (by show 0 ≤ 23; decide) (by show 23 < 32; decide) (by show _ < 2 ^ 24; omega)
  · rw [hvreg (by unfold StationReg at ho; unfold Reg.RLK_P_CLOSE; omega), hureg (by unfold StationReg at ho; unfold Reg.RLK_P_STAT; omega)]

/-! ### Enumeration (R380 to R382) -/

/-- A port that has come UP with the stations of `l`. -/
def CameUp (p : Nat) (l : List RlkStation) (s t : State) : Prop :=
  portState t p = rlkUp ∧ portReach t p = l.length ∧ t.fld (F.RLK_P_CLOSE_T p) = (rlkPlan (rlkGap s) (figsOf l)).close.toNat ∧ t.mem = s.mem
    ∧ bitAt (t.fld F.RLK_STAT_UP) p = true ∧ ∀ k e, l[k]? = some e → t.reg64 (Reg.RLK_P_S_ID_LO p k) = e.id.toNat
      ∧ t.fld (F.RLK_P_S_CFG_NAX p k) = e.nax.toNat ∧ t.fld (F.RLK_P_S_STAT_DLY p k) = e.dly.toNat ∧ t.fld (F.RLK_P_S_STAT_LOST p k) = 0

theorem comesUp {l : List RlkStation} {s t : State} (hl : l.length ≤ 8) (h : Checked p l s t) (hclose : (rlkPlan (rlkGap s) (figsOf l)).close < 2 ^ 24) :
    CameUp p l s (showPorts ((installPlan p l.length t).put (F.RLK_P_STAT_STATE p) rlkUp)) := by
  have hplan := plan_checked h
  obtain ⟨hstep, hrlk, hstate, hreach, hcl, hlost, hfigs⟩ := installPlan_spec hp hl t (by rw [hplan]; exact hclose)
  generalize installPlan p l.length t = u at hstep hrlk hstate hreach hcl hlost hfigs
  have hset : portState (u.put (F.RLK_P_STAT_STATE p) rlkUp) p = rlkUp :=
    fld_put_fits u (F.RLK_P_STAT_STATE p) (by show 0 ≤ 1; decide) (by show 1 < 32; decide) (by show 3 < 2 ^ 2; decide)
  have hreg {o : Nat} (h1 : o ≠ Reg.RLK_STAT) (h2 : o ≠ Reg.RLK_P_STAT p) : (showPorts (u.put (F.RLK_P_STAT_STATE p) rlkUp)).reg o = u.reg o := by
    rw [reg_showPorts _ h1, reg_put_ne u (F.RLK_P_STAT_STATE p) _ h2]
  refine ⟨?_, ?_, ?_, ?_, ?_, fun k e hk => ?_⟩
  · rw [portState_of_reg (reg_showPorts _ (pstat_ne_stat p)), hset]
  · rw [portReach_of_reg (reg_showPorts _ (pstat_ne_stat p)), ← hreach]
    exact fld_put_apart u (F.RLK_P_STAT_STATE p) (F.RLK_P_STAT_REACH p) _ (by show 0 ≤ 1; decide) (by show 1 < 32; decide) (by show 7 < 0 ∨ 1 < 4; decide)
  · rw [fld_of_reg (F.RLK_P_CLOSE_T p) (hreg (by unfold F.RLK_P_CLOSE_T Reg.RLK_STAT; dsimp only; omega) (by unfold F.RLK_P_CLOSE_T Reg.RLK_P_STAT; dsimp only; omega)),
      hcl, hplan]
  · rw [(portStep_showPorts _).mem, State.put_mem, hstep.mem, h.step.mem]
  · rw [up_showPorts hp, hset]
    rfl
  · have hk8 : k < l.length := (List.getElem?_eq_some_iff.1 hk).1
    have hstation {o : Nat} (ho : StationReg p k o) : (showPorts (u.put (F.RLK_P_STAT_STATE p) rlkUp)).reg o = u.reg o :=
      hreg (by unfold StationReg at ho; unfold Reg.RLK_STAT; omega) (by unfold StationReg at ho; unfold Reg.RLK_P_STAT; omega)
    obtain ⟨h1, h2, -, h4⟩ := hasFigures_congr (hfigs k e (h.figs k hk8 e hk)) fun o ho => hstation ho
    refine ⟨h1, h2, h4, ?_⟩
    rw [fld_of_reg (F.RLK_P_S_STAT_LOST p k) (hstation (by unfold StationReg F.RLK_P_S_STAT_LOST; dsimp only; omega))]
    exact hlost k hk8

/-- A port that stays in ENUM with a report (R380). -/
def Reports (p code : Nat) (s t : State) : Prop := portState t p = portState s p ∧ t.mem = s.mem ∧ LastEvent t code 0x32

omit hp in
theorem rlkEvent_reports (hp : p < 16) {code sev a0 a1 a2 a3 : Nat} (h : sev ≠ 2) {s t : State} (hs : PortStep s t) (hr : t.reg (Reg.RLK_P_STAT p) = s.reg (Reg.RLK_P_STAT p)) :
    Reports p code s (rlkEvent code sev a0 a1 a2 a3 t) := by
  have hev := eventStep_rlkEvent (code := code) (a0 := a0) (a1 := a1) (a2 := a2) (a3 := a3) h t
  exact ⟨(portState_of_reg (hev.reg _ (not_evReg_pstat hp))).trans (portState_of_reg hr), hev.mem.trans hs.mem, lastEvent_rlkEvent h t⟩

/-- What an enumeration leads to. -/
theorem enumerate_spec {l : List RlkStation} (hl : l.length ≤ 8) (s : State) :
    let fits := (rlkPlan (rlkGap s) (figsOf l)).need ≤ (periodNs s * 10 : Nat)
    let t := enumerate p l s
    (l.length = s.fld (F.RLK_P_CFG_NSTM1 p) + 1 → fits → (rlkPlan (rlkGap s) (figsOf l)).close < 2 ^ 24 → CameUp p l s t)
    ∧ (l.length ≠ s.fld (F.RLK_P_CFG_NSTM1 p) + 1 → portState t p = portState s p ∧ t.mem = s.mem ∧ ((rlkPort s p).toldTopo = false → LastEvent t 0x8005 0x32))
    ∧ (l.length = s.fld (F.RLK_P_CFG_NSTM1 p) + 1 → ¬ fits →
      portState t p = portState s p ∧ t.mem = s.mem ∧ ((rlkPort s p).toldSched = false → LastEvent t 0x8006 0x32)) := by
  have htake : l.take 8 = l := List.take_of_length_le hl
  obtain ⟨m, hm⟩ : ∃ m, m = sendFrame p 7 0x80 (List.replicate 8 0) s := ⟨_, rfl⟩
  have hms : PortStep s m := hm ▸ PortStep.emit s _
  have hmreg (o : Nat) : m.reg o = s.reg o := by rw [hm]; exact State.emit_reg s _ o
  have hmrlk : m.rlk = s.rlk := by rw [hm]; rfl
  have hmport := rlkPort_of_rlk hmrlk p
  have hgap : rlkGap m = rlkGap s := by unfold rlkGap; rw [fld_of_reg F.RLK_GAP_GAP (hmreg _)]
  have hper : periodNs m = periodNs s := by unfold periodNs; rw [fld_of_reg F.CMB_PERIOD_PERUS (hmreg _)]
  have hchk := checked_measure hp hl m
  intro fits t
  have e : t = enumerate p l s := rfl
  clear_value t
  unfold enumerate at e
  simp only [htake, ← hm] at e
  refine ⟨fun hn hf hclose => ?_, fun hn => ?_, fun hn hf => ?_⟩
  · rw [if_neg (not_not.2 hn)] at e
    generalize checkIds p l (measureStations p l m) = c at hchk e
    rw [cycleFits_checked hchk, hgap, hper, if_pos (decide_eq_true hf)] at e
    obtain ⟨h1, h2, h3, h4, h5, h6⟩ := comesUp hp hl hchk (by rw [hgap]; exact hclose)
    rw [e]
    exact ⟨h1, h2, by rw [h3, hgap], by rw [h4, hms.mem], h5, h6⟩
  · rw [if_pos hn] at e
    split at e
    · rename_i htold
      rw [hmport] at htold
      rw [e]
      exact ⟨portState_of_reg (hmreg _), hms.mem, fun h => absurd htold (by rw [h]; decide)⟩
    · obtain ⟨h1, h2, h3⟩ := rlkEvent_reports hp (code := 0x8005) (sev := 3) (a0 := p) (a1 := l.length) (a2 := s.fld (F.RLK_P_CFG_NSTM1 p) + 1) (a3 := 0xFF) (by decide)
        (hms.trans (.modPort m p fun x => { x with toldTopo := true })) ((modPort_reg m p _ _).trans (hmreg _))
      rw [e]
      exact ⟨h1, h2, fun _ => h3⟩
  · rw [if_neg (not_not.2 hn)] at e
    generalize checkIds p l (measureStations p l m) = c at hchk e
    rw [cycleFits_checked hchk, hgap, hper, if_neg (fun h => hf (of_decide_eq_true h))] at e
    have hcport : (rlkPort c p).toldSched = (rlkPort s p).toldSched := by rw [hchk.port, ← hmport]
    have hcstat := (pstat_checked hp hchk).trans (hmreg _)
    have hcs := hms.trans hchk.step
    split at e
    · rename_i htold
      rw [hcport] at htold
      rw [e]
      exact ⟨portState_of_reg hcstat, hcs.mem, fun h => absurd htold (by rw [h]; decide)⟩
    · obtain ⟨h1, h2, h3⟩ := rlkEvent_reports hp (code := 0x8006) (sev := 3) (a0 := p) (a1 := cycleNeed c p l.length) (a2 := periodNs c) (a3 := 0) (by decide)
        (hcs.trans (.modPort c p fun x => { x with toldSched := true })) ((modPort_reg c p _ _).trans hcstat)
      rw [e]
      exact ⟨h1, h2, fun _ => h3⟩

/-- A restored line that fits rejoins at the next boundary, another is reported (R384). -/
theorem restore_spec {l : List RlkStation} (hl : l.length ≤ 8) (s : State) :
    let fits := (rlkPlan (rlkGap s) (figsOf l)).need ≤ (periodNs s * 10 : Nat)
    let c := checkIds p l (measureStations p l s)
    let t := if cycleFits c p l.length then modPort p (fun x => { x with rejoin := some l.length }) c
      else rlkEvent 0x8006 3 p (cycleNeed c p l.length) (periodNs c) 0 c
    (fits → (rlkPort t p).rejoin = some l.length ∧ portState t p = portState s p ∧ portReach t p = portReach s p ∧ t.mem = s.mem)
      ∧ (¬ fits → (rlkPort t p).rejoin = (rlkPort s p).rejoin ∧ LastEvent t 0x8006 0x32 ∧ portReach t p = portReach s p) := by
  have hchk := checked_measure hp hl s
  generalize checkIds p l (measureStations p l s) = c at hchk
  have hstat := pstat_checked hp hchk
  dsimp only
  rw [cycleFits_checked hchk]
  refine ⟨fun hf => ?_, fun hf => ?_⟩
  · rw [if_pos (decide_eq_true hf)]
    exact ⟨by rw [rlkPort_modPort_self], portState_of_reg ((modPort_reg c p _ _).trans hstat), portReach_of_reg ((modPort_reg c p _ _).trans hstat),
      (modPort_mem c p _).trans hchk.step.mem⟩
  · rw [if_neg (fun h => hf (of_decide_eq_true h))]
    have hev := eventStep_rlkEvent (code := 0x8006) (sev := 3) (a0 := p) (a1 := cycleNeed c p l.length) (a2 := periodNs c) (a3 := 0) (by decide) c
    refine ⟨?_, lastEvent_rlkEvent (by decide) c, portReach_of_reg ((hev.reg _ (not_evReg_pstat hp)).trans hstat)⟩
    rw [hev.rlkPort, hchk.port]

end

end Sys2Proof.Machine
end

section
/-! Writes of plain read-write words (R10, R12, R14): an admitted, unlocked write stores its fields and reaches the block's work. -/

namespace Sys2Proof.Machine

/-- The word that a write of the fields leaves. -/
def storedWord (data : Nat) (fs : List FieldDef) (was : Nat) : Nat := fs.foldl (fun w f => insertBits w f.hi f.lo (slice data f.hi f.lo)) was

/-- The fields of a plain word: read-write, from low to high, each above the one before. -/
structure PlainFields (fs : List FieldDef) : Prop where
  acc : ∀ f ∈ fs, f.acc = .rw ∨ f.acc = .rwl
  bits : ∀ f ∈ fs, f.lo ≤ f.hi ∧ f.hi < 32
  apart : fs.Pairwise fun f g => f.hi < g.lo

theorem slice_storedWord_apart {fs : List FieldDef} (hb : ∀ f ∈ fs, f.lo ≤ f.hi ∧ f.hi < 32) (data was : Nat) {hi lo : Nat} (ha : ∀ f ∈ fs, hi < f.lo ∨ f.hi < lo) :
    slice (storedWord data fs was) hi lo = slice was hi lo := by
  induction fs generalizing was with
  | nil => rfl
  | cons f fs ih =>
    have hf := hb f List.mem_cons_self
    rw [storedWord, List.foldl_cons]
    refine (ih (fun g hg => hb g (List.mem_cons_of_mem _ hg)) _ fun g hg => ha g (List.mem_cons_of_mem _ hg)).trans ?_
    exact slice_insertBits_apart was f.hi f.lo _ hi lo (by omega) (ha f List.mem_cons_self)

theorem slice_slice_mod (x : Nat) {hi lo : Nat} : slice x hi lo % 2 ^ (hi + 1 - lo) = slice x hi lo := Nat.mod_eq_of_lt (Nat.mod_lt _ (Nat.two_pow_pos _))

/-- Each field of the stored word is that of the data. -/
theorem slice_storedWord {fs : List FieldDef} (h : PlainFields fs) (data was : Nat) {f : FieldDef} (hf : f ∈ fs) :
    slice (storedWord data fs was) f.hi f.lo = slice data f.hi f.lo := by
  obtain ⟨hacc, hbits, hapart⟩ := h
  induction fs generalizing was with
  | nil => exact nomatch hf
  | cons g fs ih =>
    have hg := hbits g List.mem_cons_self
    have hbits' : ∀ x ∈ fs, x.lo ≤ x.hi ∧ x.hi < 32 := fun x hx => hbits x (List.mem_cons_of_mem _ hx)
    rw [storedWord, List.foldl_cons]
    rcases List.mem_cons.1 hf with rfl | hf'
    · refine (slice_storedWord_apart hbits' data _ fun x hx => .inl ((List.pairwise_cons.1 hapart).1 x hx)).trans ?_
      rw [slice_insertBits _ _ _ _ (by omega), slice_slice_mod]
    · exact ih _ hf' (fun x hx => hacc x (List.mem_cons_of_mem _ hx)) hbits' (List.pairwise_cons.1 hapart).2

theorem storedWord_lt {fs : List FieldDef} (hb : ∀ f ∈ fs, f.lo ≤ f.hi ∧ f.hi < 32) (data : Nat) {was : Nat} (h : was < 2 ^ 32) : storedWord data fs was < 2 ^ 32 := by
  induction fs generalizing was with
  | nil => exact h
  | cons f fs ih =>
    obtain ⟨h1, h2⟩ := hb f List.mem_cons_self
    exact ih (fun g hg => hb g (List.mem_cons_of_mem _ hg)) (insertBits_lt _ _ _ _ (by omega) h2 h)

/-- Fields that may be written and are not locked are stored. -/
theorem writeFields_stored {s : State} {off data : Nat} {may : FieldDef → Bool} {locked : FieldDef → Nat → Bool} {fs : List FieldDef}
    (hacc : ∀ f ∈ fs, f.acc = .rw ∨ f.acc = .rwl) (hmay : ∀ f ∈ fs, may f = true)
    (hfree : ∀ f ∈ fs, accLocked s off f = false ∧ locked f (slice data f.hi f.lo) = false) (w : WordWrite) :
    writeFields s off 0 data may locked fs w = { w with new := storedWord data fs w.new } := by
  induction fs generalizing w with
  | nil => rfl
  | cons f fs ih =>
    obtain ⟨ha, hl⟩ := hfree f List.mem_cons_self
    have hm := hmay f List.mem_cons_self
    have hrest := ih (fun g hg => hacc g (List.mem_cons_of_mem _ hg)) (fun g hg => hmay g (List.mem_cons_of_mem _ hg)) fun g hg => hfree g (List.mem_cons_of_mem _ hg)
    rw [writeFields]
    rcases hacc f List.mem_cons_self with e | e <;>
      simp [hm, e, fieldNew, fieldTrig, ha, hl, hrest, storedWord]

/-- A plain word: its fields, and that no rule of the window acts on it but its block's. -/
structure StoredReg (off : Nat) (fs : List FieldDef) : Prop where
  word : PlainWord off fs
  fields : PlainFields fs
  self : selfStored off = false
  rule : ruleOf off = none
  open_ : off ≠ Reg.SYS_XPEN ∧ off ≠ Reg.SAP_RSTCMD ∧ off ≠ Reg.HWD_KICK
  norm : ∀ v, normWord off v = v

theorem alwaysLocked_stored {off : Nat} {fs : List FieldDef} (h : StoredReg off fs) (s : State) (w : RegWr) : alwaysLocked s w off = false := by
  obtain ⟨-, h1, h2⟩ := h.open_
  unfold alwaysLocked
  simp only [h1, h2, decide_false, Bool.false_and, Bool.or_self, Bool.and_false]

/-- The state in which a word is stored, if it changes. -/
def storedIn (off v : Nat) (s : State) : State := if v = (s.reg off).toNat then s else s.setReg off (BitVec.ofNat 32 v)

theorem regsOnly_storedIn (off v : Nat) (s : State) : RegsOnly [off] s (storedIn off v s) := by
  unfold storedIn
  split
  · exact ⟨rfl, fun _ _ => rfl⟩
  · exact ⟨rfl, fun o ho => reg_setReg_ne s _ (by simpa using ho)⟩

theorem reg_storedIn {off v : Nat} (hv : v < 2 ^ 32) (s : State) : ((storedIn off v s).reg off).toNat = v := by
  unfold storedIn
  split
  · exact Eq.symm ‹_›
  · rw [reg_setReg_self, BitVec.toNat_ofNat, Nat.mod_eq_of_lt hv]

theorem applyWord_stored {off : Nat} {fs : List FieldDef} (h : StoredReg off fs) {s : State} {w : RegWr} (hk : w.kind = 0) (hne : fs ≠ [])
    (hmay : ∀ f ∈ fs, mayWrite w.oid off f = true)
    (hfree : ∀ f ∈ fs, accLocked s off f = false ∧ chapterLocked s w off f (slice w.data f.hi f.lo) = false) :
    applyWord w off s = (true, regWritten s w off (s.reg off).toNat { new := storedWord w.data fs (s.reg off).toNat }
      (storedIn off (storedWord w.data fs (s.reg off).toNat) s)) := by
  obtain ⟨d, hd, hfs⟩ := Option.map_eq_some_iff.1 h.word.found
  have hal := alwaysLocked_stored h s w
  have hany : mayAny w.oid off = true := by
    obtain ⟨f, hf⟩ := List.exists_mem_of_ne_nil fs hne
    unfold mayAny
    rw [hd]
    dsimp only
    rw [hfs]
    exact List.any_eq_true.2 ⟨f, hf, hmay f hf⟩
  have hword : wordWrite w off d s = { new := storedWord w.data fs (s.reg off).toNat } := by
    unfold wordWrite
    simp only [hal, Bool.false_eq_true, if_false, hk, hfs]
    exact writeFields_stored h.fields.acc hmay hfree _
  have hcount (t : State) : countChange w off (s.reg off).toNat { new := storedWord w.data fs (s.reg off).toNat } t = t := by
    unfold countChange
    simp [h.rule, h.open_.1]
  have hstore : (if selfStored off || (storedWord w.data fs (s.reg off).toNat = (s.reg off).toNat && decide True) then s
      else storeWord off { new := storedWord w.data fs (s.reg off).toNat } s) = storedIn off (storedWord w.data fs (s.reg off).toNat) s := by
    unfold storedIn storeWord
    rw [h.norm, h.self]
    simp only [Bool.false_or, decide_true, Bool.and_true, decide_eq_true_eq, List.map_nil, List.append_nil]
    rfl
  unfold applyWord
  simp only [hd, if_neg h.word.plain, hword, hcount, hstore, hany, hal, Bool.not_false, Option.isNone_none, Bool.true_or, Bool.and_self, if_true]

/-- An admitted write of a plain word is stored and reaches its block's work. -/
theorem writeReg_stored {oid : BitVec 10} {ctx : BitVec 6} {off data : Nat} {fs : List FieldDef} {s : State} (h : StoredReg off fs) (had : Admitted oid ctx off s)
    (hd : data < 2 ^ 32) (hne : fs ≠ []) (hmay : ∀ f ∈ fs, mayWrite oid.toNat off f = true)
    (hfree : ∀ f ∈ fs, accLocked s off f = false ∧ chapterLocked s (wordWr oid.toNat ctx.toNat off data 0) off f (slice data f.hi f.lo) = false) :
    writeReg oid ctx off data s = writeDone oid.toNat (true, regWritten s (wordWr oid.toNat ctx.toNat off data 0) off (s.reg off).toNat
      { new := storedWord data fs (s.reg off).toNat } (storedIn off (storedWord data fs (s.reg off).toNat) s)) := by
  rw [writeReg_plain h.word had hd, applyWord_stored h rfl hne hmay hfree]
  rfl

end Sys2Proof.Machine
end

section
/-! The enable of a root-link port (R380, R388), exchanges that start (R379), and the obligation about links and stations. -/

namespace Sys2Proof.Machine

theorem normWord_of_block {off b : Nat} (hb : off / 0x10000 = b) (h : b ≠ 1 ∧ b ≠ 2 ∧ b ≠ 0x24) (v : Nat) : normWord off v = v := by
  obtain ⟨h1, h2, h24⟩ := h
  have e (r : Nat) (hr : r / 0x10000 = 1 ∨ r / 0x10000 = 2 ∨ r / 0x10000 = 0x24) : off ≠ r := ne_of_block hb r (by omega)
  unfold normWord
  rw [if_neg (e _ (.inl (by decide))), if_neg (e _ (.inl (by decide))), if_neg (e _ (.inl (by decide))), if_neg (e _ (.inl (by decide))),
    if_neg (e _ (.inr (.inr (by decide)))), if_neg (e _ (.inr (.inl (by decide))))]

/-- The facts that make a word of a block a plain one, all of them finite. -/
theorem storedReg_of {off b : Nat} {fs : List FieldDef} (hfs : PlainFields fs) (hb : off / 0x10000 = b) (hblock : b ≠ 0 ∧ b ≠ 1 ∧ b ≠ 2 ∧ b ≠ 0x24)
    (h : (findReg off).map (·.fields) = some fs ∧ ringOfSigReg off = none ∧ wordGroup off = none ∧ selfStored off = false ∧ ruleOf off = none
      ∧ (off < 0x1000000 ∧ off % 4 = 0 ∧ place (regBase + off) = some (.reg off))) : StoredReg off fs := by
  obtain ⟨hfound, hring, hgroup, hself, hrule, hat⟩ := h
  obtain ⟨h0, h1, h2, h24⟩ := hblock
  have e (r : Nat) (hr : r / 0x10000 = 0 ∨ r / 0x10000 = 1 ∨ r / 0x10000 = 2 ∨ r / 0x10000 = 0x24) : off ≠ r := ne_of_block hb r (by omega)
  exact ⟨⟨hfound, hring, hgroup, hat, e _ (.inr (.inr (.inl (by decide))))⟩, hfs, hself, hrule,
    ⟨e _ (.inl (by decide)), e _ (.inr (.inl (by decide))), e _ (.inr (.inr (.inr (by decide))))⟩, normWord_of_block hb ⟨h1, h2, h24⟩⟩

def portFields : List FieldDef := [⟨0, 0, .rwl, 0, 2⟩, ⟨3, 1, .rwl, 0, 2⟩]

theorem plainFields_port : PlainFields portFields := ⟨by decide, by decide, by decide⟩

theorem storedReg_port (n : Fin 16) : StoredReg (Reg.RLK_P_CFG n) portFields :=
  storedReg_of plainFields_port (by have := n.isLt; unfold Reg.RLK_P_CFG; omega : Reg.RLK_P_CFG n / 0x10000 = 0x26) (by decide) (by revert n; decide +kernel)

theorem rlkWritten_port (n : Fin 16) (trig : Nat) (t : State) : rlkWritten (Reg.RLK_P_CFG n) trig t = portWritten n t := by
  have hn := n.isLt
  have h0 : Reg.RLK_P_CFG n ≠ Reg.RLK_CTRL := by unfold Reg.RLK_P_CFG Reg.RLK_CTRL; omega
  have h1 : 0x100 ≤ Reg.RLK_P_CFG n % 0x10000 ∧ Reg.RLK_P_CFG n % 0x10000 < 0x500 := by unfold Reg.RLK_P_CFG; omega
  have h2 : Reg.RLK_P_CFG n % 0x10000 % 0x40 = 0 := by unfold Reg.RLK_P_CFG; omega
  have h3 : (Reg.RLK_P_CFG n % 0x10000 - 0x100) / 0x40 = n := by unfold Reg.RLK_P_CFG; omega
  unfold rlkWritten
  simp [h0, h1, h2, h3]

theorem lockOf_port (n : Fin 16) : lockOf (Reg.RLK_P_CFG n) = (Reg.RLK_LOCK, 0) := by revert n; decide +kernel

/-- The write of an unlocked port configuration stores it and enables or disables the port. -/
theorem portEnable_eq {oid : BitVec 10} {ctx : BitVec 6} {n : Fin 16} {data : BitVec 32} {s : State} (had : Admitted oid ctx (Reg.RLK_P_CFG n) s) (ho : oid = 1)
    (hlock : s.flag F.RLK_LOCK_LOCK = false) : ∃ u, RegsOnly [Reg.RLK_P_CFG n] s u ∧ u.flag (F.RLK_P_CFG_EN n) = data.getLsbD 0
      ∧ u.fld (F.RLK_P_CFG_NSTM1 n) = data.toNat / 2 % 8 ∧ exec (.portEnable oid ctx n data) s = .next (writeDone 1 (true, portWritten n u)) := by
  have hb : Reg.RLK_P_CFG n / 0x10000 = 0x26 := by have := n.isLt; unfold Reg.RLK_P_CFG; omega
  have hstored := storedReg_port n
  have hv := storedWord_lt hstored.fields.bits data.toNat (s.reg (Reg.RLK_P_CFG n)).isLt
  have hreg := reg_storedIn (off := Reg.RLK_P_CFG n) hv s
  have hslice (f : FieldDef) (hf : f ∈ portFields) := slice_storedWord plainFields_port data.toNat (s.reg (Reg.RLK_P_CFG n)).toNat hf
  have hlk : bitAt (s.reg (lockOf (Reg.RLK_P_CFG n)).1).toNat (lockOf (Reg.RLK_P_CFG n)).2 = false := by
    rw [lockOf_port, ← hlock]
    exact (flag_bit_zero s Reg.RLK_LOCK).symm
  have hmay : ∀ f ∈ portFields, mayWrite oid.toNat (Reg.RLK_P_CFG n) f = true := by
    subst ho
    intro f hf
    refine mayWrite_of_who ?_
    revert f hf
    decide
  have hfree : ∀ f ∈ portFields, accLocked s (Reg.RLK_P_CFG n) f = false
      ∧ chapterLocked s (wordWr oid.toNat ctx.toNat (Reg.RLK_P_CFG n) data.toNat 0) (Reg.RLK_P_CFG n) f (slice data.toNat f.hi f.lo) = false := by
    intro f hf
    have hacc : f.acc = .rwl := by revert f hf; decide
    refine ⟨by unfold accLocked; rw [hacc]; exact hlk, ?_⟩
    rw [chapterLocked_of_block hb (by omega)]
    simp
  refine ⟨_, regsOnly_storedIn _ (storedWord data.toNat portFields (s.reg (Reg.RLK_P_CFG n)).toNat) s, ?_, ?_, ?_⟩
  · rw [show F.RLK_P_CFG_EN n = ⟨Reg.RLK_P_CFG n, 0, 0⟩ from rfl, flag_bit_zero, hreg]
    have h := hslice ⟨0, 0, .rwl, 0, 2⟩ (by decide)
    unfold slice at h
    unfold bitAt
    rw [Nat.testBit_zero, ← BitVec.testBit_toNat, Nat.testBit_zero]
    exact congrArg (fun x => decide (x = 1)) (by simpa using h)
  · unfold State.fld
    show slice ((storedIn _ _ s).reg (Reg.RLK_P_CFG n)).toNat 3 1 = _
    rw [hreg]
    exact hslice ⟨3, 1, .rwl, 0, 2⟩ (by decide)
  · rw [exec_portEnable]
    unfold execPortEnable
    rw [writeReg_stored hstored had data.isLt (by decide) hmay hfree]
    have hrw (x : WordWrite) (t : State) : regWritten s (wordWr oid.toNat ctx.toNat (Reg.RLK_P_CFG n) data.toNat 0) (Reg.RLK_P_CFG n) (s.reg (Reg.RLK_P_CFG n)).toNat x t
        = portWritten n t := by
      unfold regWritten
      simp only [hb]
      exact rlkWritten_port n _ t
    rw [hrw, ho]
    rfl

end Sys2Proof.Machine
end

section
/-! Samples and enumerations as commands, the torque-off repeat (R388), exchanges that start (R379), and the obligation about links and stations. -/

namespace Sys2Proof.Machine

section
variable {port : Fin 16} {f : RlkFrame} {s : State} {g : RxFrame}

theorem execSample_frame (hup : portState s port ≠ rlkDisabled) (hr : received f = { frame := some g }) :
    exec (.rlkSample port f) s = .next (hwdServe (if frameOk g then takeSample port g s else frameError port g s)) := by
  rw [exec_rlkSample]
  unfold execSample
  rw [receive_frame hup hr]

theorem execStatus_frame (hup : portState s port ≠ rlkDisabled) (hr : received f = { frame := some g }) :
    exec (.rlkStatus port f) s = .next (if frameOk g then takeStatus port g s else frameError port g s) := by
  rw [exec_rlkStatus]
  unfold execStatus
  rw [receive_frame hup hr]

theorem execSample_disabled (hc : Calm s) (h : portState s port = rlkDisabled) : exec (.rlkSample port f) s = .next s := by
  rw [exec_rlkSample]
  unfold execSample
  rw [receive_disabled h, hwdServe_of_calm hc]

theorem execStatus_disabled (h : portState s port = rlkDisabled) : exec (.rlkStatus port f) s = .next s := by
  rw [exec_rlkStatus]
  unfold execStatus
  rw [receive_disabled h]

theorem disabled_ne_up : rlkUp ≠ rlkDisabled := by decide

/-- Frames that a port receives (R370, R374 to R376, R379, R386). -/
theorem framesOfPort (port : Fin 16) (f : RlkFrame) (s : State) (hc : Calm s) : let p : Nat := port
    let x := rlkPort s p
    (portState s p = rlkDisabled → exec (.rlkSample port f) s = .next s ∧ exec (.rlkStatus port f) s = .next s)
    ∧ ∀ g, received f = { frame := some g } → let k := frameHop g
      let mine := SampleDue p g s
      (portState s p ≠ rlkDisabled → frameOk g = false → ∀ c ∈ [Instr.rlkSample port f, Instr.rlkStatus port f],
        ∃ t, exec c s = .next t ∧ t.fld (F.RLK_P_ERR_CRC p) = min (s.fld (F.RLK_P_ERR_CRC p) + 1) 0xFFFF ∧ t.mem = s.mem ∧ (rlkPort t p).got = x.got)
      ∧ (portState s p ≠ rlkUp ∨ s.cmb.bound = none ∨ ¬ mine → frameOk g = true → exec (.rlkSample port f) s = .next s)
      ∧ (portState s p = rlkUp → s.cmb.bound ≠ none → frameOk g = true → mine → x.closed = false →
        ∃ t, exec (.rlkSample port f) s = .next t ∧ (rlkPort t p).got = x.got ++ [(k, g.data)] ∧ t.mem = s.mem
          ∧ t.fld (F.RLK_P_S_STAT_SST p k) = leAt g.data 0 2 % 256 ∧ t.fld (F.RLK_P_S_STAT_LOST p k) = 0)
      ∧ (portState s p = rlkUp → s.cmb.bound ≠ none → frameOk g = true → mine → x.closed = true →
        ∃ t, exec (.rlkSample port f) s = .next t ∧ rlkPort t p = x ∧ t.fld (F.RLK_P_S_STAT_SST p k) = leAt g.data 0 2 % 256 ∧ RunsOnly s t)
      ∧ (portState s p = rlkUp → frameOk g = true → frameType g = 6 → leAt g.hdr 4 1 = 0 → x.mg = 3 → k = x.mgReq % 8 →
        ∃ t, exec (.rlkStatus port f) s = .next t ∧ t.flag (F.RLK_P_MGSTAT_BUSY p) = false ∧ (rlkPort t p).mg = 0 ∧ t.reg64 (Reg.RLK_P_MGDATA_LO p) = leAt g.data 8 8
          ∧ (leAt g.data 2 1 = 0 → t.flag (F.RLK_P_MGSTAT_DONE p) = true) ∧ (leAt g.data 2 1 ≠ 0 → t.flag (F.RLK_P_MGSTAT_FAIL p) = true))
      ∧ (frameOk g = true → portState s p ≠ rlkUp ∨ frameType g ≠ 6 ∨ x.mg ≠ 3 ∨ k ≠ x.mgReq % 8 → exec (.rlkStatus port f) s = .next s) := by
  have hp := port.isLt
  intro p x
  refine ⟨fun h => ⟨execSample_disabled hc h, execStatus_disabled h⟩, fun g hr => ?_⟩
  intro k mine
  have hon (h : portState s p = rlkUp) : portState s p ≠ rlkDisabled := h ▸ disabled_ne_up
  refine ⟨fun hup hbad => ?_, fun h hok => ?_, fun hup hb hok hm hx => ?_, fun hup hb hok hm hx => ?_, fun hup hok h6 h0 h3 hk => ?_, fun hok h => ?_⟩
  · obtain ⟨hstep, hcrc, hgot⟩ := frameError_spec hp g s
    intro c hmem
    simp only [List.mem_cons, List.not_mem_nil, or_false] at hmem
    have hcalm := hwdServe_of_calm (hstep.calm hc)
    rcases hmem with rfl | rfl
    · refine ⟨_, execSample_frame hup hr, ?_⟩
      rw [hbad, if_neg (by decide), hcalm]
      exact ⟨hcrc, hstep.mem, hgot⟩
    · refine ⟨_, execStatus_frame hup hr, ?_⟩
      rw [hbad, if_neg (by decide)]
      exact ⟨hcrc, hstep.mem, hgot⟩
  · by_cases hdis : portState s p = rlkDisabled
    · exact execSample_disabled hc hdis
    · rw [execSample_frame hdis hr, if_pos hok, takeSample_discards h, hwdServe_of_calm hc]
  · obtain ⟨t, e, hct, h⟩ := takeSample_kept hp hup hb hm hc hx
    exact ⟨t, by rw [execSample_frame (hon hup) hr, if_pos hok, e, hwdServe_of_calm hct], h⟩
  · obtain ⟨t, e, hct, h⟩ := takeSample_late hp hup hb hm hc hx
    exact ⟨t, by rw [execSample_frame (hon hup) hr, if_pos hok, e, hwdServe_of_calm hct], h⟩
  · exact ⟨_, by rw [execStatus_frame (hon hup) hr, if_pos hok], takeStatus_spec ⟨hup, h6, h0, h3, hk⟩⟩
  · by_cases hdis : portState s p = rlkDisabled
    · exact execStatus_disabled hdis
    · rw [execStatus_frame hdis hr, if_pos hok, takeStatus_discards]
      rintro ⟨h1, h2, -, h4, h5⟩
      rcases h with h | h | h | h
      · exact h h1
      · exact h h2
      · exact h h4
      · exact h h5

/-- The close of the sample window (R376). -/
theorem windowCloses (port : Fin 16) (s : State) : let p : Nat := port
    let x := rlkPort s p
    (portState s p ≠ rlkUp ∨ s.cmb.bound = none ∨ x.closed = true → exec (.sampleWindowClose port) s = .next s)
    ∧ (portState s p = rlkUp → s.cmb.bound ≠ none → x.closed = false → portReach s p ≤ 8 →
      ∃ t, exec (.sampleWindowClose port) s = .next t ∧ (rlkPort t p).closed = true ∧ RunsOnly s t ∧ ∀ k < portReach s p,
        ((∀ e ∈ x.got, e.1 ≠ k) → t.fld (F.RLK_P_S_STAT_LOST p k) = 1
          ∧ ∀ a < 128, axOn s a = true → (axPlace s a).1 = p → (axPlace s a).2.1 = k → axState t a = if axState s a = axActive then axLost else axState s a)
        ∧ ((∃ e ∈ x.got, e.1 = k) → t.fld (F.RLK_P_S_STAT_LOST p k) = s.fld (F.RLK_P_S_STAT_LOST p k))) := by
  intro p x
  rw [exec_sampleWindowClose]
  refine ⟨fun h => ?_, fun hup hb hx hr => execSampleWindowClose_spec port.isLt port rfl s hup hb hx hr⟩
  unfold execSampleWindowClose
  refine if_pos ?_
  simpa [p, x, or_assoc] using h

theorem lineBreaks (port : Fin 16) (hop reason : BitVec 8) (s : State) : let p : Nat := port
    (portState s p ≠ rlkUp → exec (.rlkBreak port hop reason) s = .next s)
    ∧ (portState s p = rlkUp → portReach s p ≤ 8 → ∃ t, exec (.rlkBreak port hop reason) s = .next t ∧ portReach t p = min (portReach s p) (hop.toNat + 1)
      ∧ t.fld (F.RLK_P_LOSS_BREAKS p) = min (s.fld (F.RLK_P_LOSS_BREAKS p) + 1) 0xFFFF ∧ LastEvent t 0x8002 0x32 ∧ portState t p = rlkUp ∧ RunsOnly s t
      ∧ ∀ k, hop.toNat < k → k < portReach s p → t.fld (F.RLK_P_S_STAT_LOST p k) = 1) := by
  intro p
  rw [exec_rlkBreak]
  refine ⟨fun h => ?_, fun hup hr => ⟨_, rfl, portBreak_spec port.isLt hop.toNat reason.toNat s hup hr⟩⟩
  unfold execBreak portBreak
  rw [if_pos h]

theorem lockIsLost (port : Fin 16) (lost errors : Bool) (s : State) : let p : Nat := port
    (portState s p ≠ rlkUp → exec (.linkLockLost port lost errors) s = .next s)
    ∧ exec (.linkLockLost port false false) s = .next s
    ∧ (portState s p = rlkUp → lost = true ∨ errors = true → portReach s p ≤ 8 →
      ∃ t, exec (.linkLockLost port lost errors) s = .next t ∧ portState t p = rlkTrain ∧ portReach t p = 0 ∧ LastEvent t 0x8001 0x32 ∧ RunsOnly s t
        ∧ bitAt (t.fld F.RLK_STAT_UP) p = false ∧ ∀ k < portReach s p, t.fld (F.RLK_P_S_STAT_LOST p k) = 1) := by
  intro p
  rw [exec_linkLockLost, exec_linkLockLost]
  refine ⟨fun h => ?_, ?_, fun hup hc hr => ⟨_, rfl, portDown_spec port.isLt s hup hc hr⟩⟩
  · unfold execLinkLockLost portDown
    rw [if_pos (by simp [show portState s port ≠ rlkUp from h])]
  · unfold execLinkLockLost
    rw [portDown_none]

end

/-! ### Enumeration (R380 to R384) -/

section
variable {p : Nat} (hp : p < 16) {l : List RlkStation} (s : State)

/-- Going to ENUM keeps what an enumeration reads and clears what was told. -/
theorem enumStart : rlkGap (leaveUp p rlkEnum s) = rlkGap s ∧ periodNs (leaveUp p rlkEnum s) = periodNs s
    ∧ (leaveUp p rlkEnum s).fld (F.RLK_P_CFG_NSTM1 p) = s.fld (F.RLK_P_CFG_NSTM1 p)
    ∧ (rlkPort (leaveUp p rlkEnum s) p).toldTopo = false ∧ (rlkPort (leaveUp p rlkEnum s) p).toldSched = false := by
  have hreg {o : Nat} (h1 : o ≠ Reg.RLK_P_MGSTAT p) (h2 : o ≠ Reg.RLK_P_STAT p) (h3 : o ≠ Reg.RLK_STAT) := reg_leaveUp rlkEnum s h1 h2 h3
  refine ⟨?_, ?_, ?_, ?_, ?_⟩
  · unfold rlkGap
    rw [fld_of_reg F.RLK_GAP_GAP (hreg _ _ _)]
    all_goals (unfold F.RLK_GAP_GAP; dsimp only)
    · unfold Reg.RLK_P_MGSTAT; omega
    · unfold Reg.RLK_P_STAT; omega
    · decide
  · unfold periodNs
    rw [fld_of_reg F.CMB_PERIOD_PERUS (hreg _ _ _)]
    all_goals (unfold F.CMB_PERIOD_PERUS; dsimp only)
    · unfold Reg.RLK_P_MGSTAT; omega
    · unfold Reg.RLK_P_STAT; omega
    · decide
  · refine fld_of_reg (F.RLK_P_CFG_NSTM1 p) (hreg ?_ ?_ ?_)
    all_goals (unfold F.RLK_P_CFG_NSTM1; dsimp only)
    · unfold Reg.RLK_P_MGSTAT; omega
    · unfold Reg.RLK_P_STAT; omega
    · unfold Reg.RLK_STAT; omega
  · rw [rlkPort_leaveUp]; rfl
  · rw [rlkPort_leaveUp]; rfl

end

theorem enumerations (port : Fin 16) (l : List RlkStation) (s : State) (hl : l.length ≤ 8) : let p : Nat := port
    let plan := rlkPlan (rlkGap s) (figsOf l)
    let fits := plan.need ≤ (periodNs s * 10 : Nat)
    (portState s p ≠ rlkTrain → exec (.enumeration port l) s = .next s) ∧ (portState s p ≠ rlkEnum → exec (.enumRetry port l) s = .next s)
    ∧ (l.length = s.fld (F.RLK_P_CFG_NSTM1 p) + 1 → fits → 0 ≤ plan.close → plan.close < 2 ^ 24 →
        (portState s p = rlkTrain → ∃ t, exec (.enumeration port l) s = .next t ∧ CameUp p l s t)
        ∧ (portState s p = rlkEnum → ∃ t, exec (.enumRetry port l) s = .next t ∧ CameUp p l s t))
    ∧ (l.length ≠ s.fld (F.RLK_P_CFG_NSTM1 p) + 1 →
        (portState s p = rlkTrain → ∃ t, exec (.enumeration port l) s = .next t ∧ portState t p = rlkEnum ∧ t.mem = s.mem ∧ LastEvent t 0x8005 0x32)
        ∧ (portState s p = rlkEnum → ∃ t, exec (.enumRetry port l) s = .next t ∧ portState t p = rlkEnum ∧ t.mem = s.mem
          ∧ ((rlkPort s p).toldTopo = false → LastEvent t 0x8005 0x32)))
    ∧ (l.length = s.fld (F.RLK_P_CFG_NSTM1 p) + 1 → ¬ fits →
        (portState s p = rlkTrain → ∃ t, exec (.enumeration port l) s = .next t ∧ portState t p = rlkEnum ∧ t.mem = s.mem ∧ LastEvent t 0x8006 0x32)
        ∧ (portState s p = rlkEnum → ∃ t, exec (.enumRetry port l) s = .next t ∧ portState t p = rlkEnum ∧ t.mem = s.mem
          ∧ ((rlkPort s p).toldSched = false → LastEvent t 0x8006 0x32))) := by
  have hp := port.isLt
  intro p plan fits
  obtain ⟨hgap, hper, hnst, htopo, hsched⟩ := enumStart (p := p) s
  have hst := (portState_leaveUp hp (show rlkEnum < 4 by decide) s).1
  have hmem := (portStep_leaveUp hp rlkEnum s).mem
  have htrain (h : portState s p = rlkTrain) : exec (.enumeration port l) s = .next (enumerate p l (leaveUp p rlkEnum s)) := by
    rw [exec_enumeration]; exact if_neg (not_not.2 h)
  have henum (h : portState s p = rlkEnum) : exec (.enumRetry port l) s = .next (enumerate p l s) := by
    rw [exec_enumRetry]; exact congrArg Host.Outcome.next (if_pos h)
  obtain ⟨hup1, htopo1, hsched1⟩ := enumerate_spec hp hl (leaveUp p rlkEnum s)
  obtain ⟨hup2, htopo2, hsched2⟩ := enumerate_spec hp hl s
  generalize hu : leaveUp p rlkEnum s = u at *
  rw [hgap, hper, hnst] at hup1 hsched1
  rw [hnst] at htopo1
  refine ⟨fun h => ?_, fun h => ?_, fun hn hf h0 hcl => ⟨fun ht => ?_, fun he => ?_⟩, fun hn => ⟨fun ht => ?_, fun he => ?_⟩, fun hn hf => ⟨fun ht => ?_, fun he => ?_⟩⟩
  · rw [exec_enumeration]; exact if_pos h
  · rw [exec_enumRetry]; exact congrArg Host.Outcome.next (if_neg h)
  · obtain ⟨h1, h2, h3, h4, h5, h6⟩ := hup1 hn hf hcl
    exact ⟨_, htrain ht, h1, h2, by rw [h3, hgap], h4.trans hmem, h5, h6⟩
  · exact ⟨_, henum he, hup2 hn hf hcl⟩
  · obtain ⟨h1, h2, h3⟩ := htopo1 hn
    exact ⟨_, htrain ht, h1.trans hst, h2.trans hmem, h3 htopo⟩
  · obtain ⟨h1, h2, h3⟩ := htopo2 hn
    exact ⟨_, henum he, h1.trans he, h2, h3⟩
  · obtain ⟨h1, h2, h3⟩ := hsched1 hn hf
    exact ⟨_, htrain ht, h1.trans hst, h2.trans hmem, h3 hsched⟩
  · obtain ⟨h1, h2, h3⟩ := hsched2 hn hf
    exact ⟨_, henum he, h1.trans he, h2, h3⟩

theorem lineRestored (port : Fin 16) (l : List RlkStation) (s : State) (hl : l.length ≤ 8) (hop : BitVec 8) : let p : Nat := port
    let fits := (rlkPlan (rlkGap s) (figsOf l)).need ≤ (periodNs s * 10 : Nat)
    (portState s p ≠ rlkUp ∨ portReach s p ≠ hop.toNat + 1 ∨ l.length ≤ portReach s p → exec (.rlkRestore port hop l) s = .next s)
    ∧ (portState s p = rlkUp → portReach s p = hop.toNat + 1 → portReach s p < l.length →
      (fits → ∃ t, exec (.rlkRestore port hop l) s = .next t ∧ (rlkPort t p).rejoin = some l.length ∧ portState t p = rlkUp ∧ portReach t p = portReach s p ∧ t.mem = s.mem)
      ∧ (¬ fits → ∃ t, exec (.rlkRestore port hop l) s = .next t ∧ (rlkPort t p).rejoin = (rlkPort s p).rejoin ∧ LastEvent t 0x8006 0x32 ∧ portReach t p = portReach s p)) := by
  intro p fits
  have htake : l.take 8 = l := List.take_of_length_le hl
  rw [exec_rlkRestore]
  unfold execRestore
  dsimp only
  rw [htake]
  refine ⟨fun h => if_pos ?_, fun hup hhop hlen => ?_⟩
  · simpa [or_assoc] using h
  · have h1 : portState s port = rlkUp := hup
    have h2 : portReach s port = hop.toNat + 1 := hhop
    have h3 : portReach s port < l.length := hlen
    rw [if_neg (by simp [h1, h2]; omega)]
    obtain ⟨hyes, hno⟩ := restore_spec port.isLt hl s
    generalize checkIds p l (measureStations p l s) = c at *
    split at hyes
    · rename_i hf
      rw [if_pos hf] at hno ⊢
      refine ⟨fun h => ?_, fun h => ⟨_, rfl, hno h⟩⟩
      obtain ⟨h1, h2, h3, h4⟩ := hyes h
      exact ⟨_, rfl, h1, h2.trans hup, h3, h4⟩
    · rename_i hf
      rw [if_neg hf] at hno ⊢
      refine ⟨fun h => ?_, fun h => ⟨_, rfl, hno h⟩⟩
      obtain ⟨h1, h2, h3, h4⟩ := hyes h
      exact ⟨_, rfl, h1, h2.trans hup, h3, h4⟩

end Sys2Proof.Machine
end

section
/-! Torque-off frames (R388), exchanges that start (R379), the enable of a port (R380), and the obligation about links and stations. -/

namespace Sys2Proof.Machine

theorem sendSto_eq (p : Nat) (s : State) : sendSto p s = s.emit (.rlk p 5 (linkFrame 5 0x80 s.cmb.cycle [])) := rfl

theorem torqueOffRepeats (port : Fin 16) (s : State) : let p : Nat := port
    let live := stoHeld s = true ∧ (portState s p = rlkUp ∨ portState s p = rlkEnum)
    (live → exec (.stoRepeat port) s = .next (s.emit (.rlk p 5 (linkFrame 5 0x80 s.cmb.cycle [])))) ∧ (¬ live → exec (.stoRepeat port) s = .next s) := by
  intro p live
  rw [exec_stoRepeat]
  refine ⟨fun h => ?_, fun h => ?_⟩
  · refine (congrArg Host.Outcome.next (if_pos ?_)).trans (by rw [sendSto_eq])
    simpa [live] using h
  · refine congrArg Host.Outcome.next (if_neg ?_)
    simpa [live] using h

/-- The exchange that a write of GO starts, before the port's state is looked at. -/
def exchangeOf (p : Nat) (s : State) : State :=
  modPort p (fun x => { x with mg := 1, mgReq := (s.reg (Reg.RLK_P_MGREQ p)).toNat, mgData := s.reg64 (Reg.RLK_P_MGDATA_LO p) }) (s.put (F.RLK_P_MGSTAT_BUSY p) 1)

theorem startExchange_eq (p : Nat) (s : State) : startExchange p s =
    if s.flag (F.RLK_P_MGSTAT_BUSY p) then s else if portState (exchangeOf p s) p = rlkUp then exchangeOf p s else endExchange p false (exchangeOf p s) := rfl

theorem portState_exchangeOf (p : Nat) (s : State) : portState (exchangeOf p s) p = portState s p := by
  unfold exchangeOf
  exact portState_of_reg ((modPort_reg _ p _ _).trans (reg_put_ne s (F.RLK_P_MGSTAT_BUSY p) _ (pstat_ne_mgstat p p)))

theorem exchangeStarts (p : Nat) (s : State) :
    (s.flag (F.RLK_P_MGSTAT_BUSY p) = true → startExchange p s = s)
    ∧ (s.flag (F.RLK_P_MGSTAT_BUSY p) = false → let t := startExchange p s
      (portState s p = rlkUp → t.flag (F.RLK_P_MGSTAT_BUSY p) = true ∧ (rlkPort t p).mg = 1 ∧ (rlkPort t p).mgReq = (s.reg (Reg.RLK_P_MGREQ p)).toNat
        ∧ (rlkPort t p).mgData = s.reg64 (Reg.RLK_P_MGDATA_LO p))
      ∧ (portState s p ≠ rlkUp → t.flag (F.RLK_P_MGSTAT_BUSY p) = false ∧ (rlkPort t p).mg = 0 ∧ t.flag (F.RLK_P_MGSTAT_FAIL p) = true)) := by
  rw [startExchange_eq, portState_exchangeOf]
  refine ⟨fun h => if_pos h, fun hb => ?_⟩
  rw [if_neg (by rw [hb]; decide)]
  dsimp only
  refine ⟨fun h => ?_, fun h => ?_⟩
  · rw [if_pos h]
    have hport : rlkPort (exchangeOf p s) p
        = { rlkPort s p with mg := 1, mgReq := (s.reg (Reg.RLK_P_MGREQ p)).toNat, mgData := s.reg64 (Reg.RLK_P_MGDATA_LO p) } := by
      unfold exchangeOf
      rw [rlkPort_modPort_self, rlkPort_of_rlk (State.put_rlk s _ _)]
    refine ⟨?_, by rw [hport], by rw [hport], by rw [hport]⟩
    unfold exchangeOf
    rw [modPort_flag]
    exact flag_put_one s (f := F.RLK_P_MGSTAT_BUSY p) rfl (by show 0 < 32; decide)
  · rw [if_neg h]
    obtain ⟨h1, -, h2⟩ := flags_endExchange (p := p) false (exchangeOf p s)
    exact ⟨h1, by rw [rlkPort_endExchange], h2 rfl⟩

/-! ### The enable of a port -/

section
variable {n : Fin 16} {s u : State}

/-- A state that the write of a port configuration leaves, for every answer that follows. -/
theorem writeDone_quiet {oid : Nat} (hc : Calm s) (r : Bool) {b : State} (hb : writeDone oid (r, s) = b) :
    (∀ o, b.reg o = s.reg o) ∧ b.mem = s.mem ∧ b.out = s.out := by
  unfold writeDone at hb
  dsimp only at hb
  rw [hwdServe_answer hc] at hb
  subst hb
  exact ⟨fun o => reg_answer _ _ _ _ _ o, mem_answer _ _ _ _ _, by unfold State.answer; split <;> rfl⟩

theorem portTurnsOn (hp : portState u n = rlkDisabled) (hc : u.flag F.RLK_CTRL_EN = true) (he : u.flag (F.RLK_P_CFG_EN n) = true) :
    portWritten n u = sendBlocks n 0 [idleBlock] (leaveUp n rlkTrain u) := by
  unfold portWritten
  simp [hp, hc, he]

theorem portTurnsOff (hp : portState u n ≠ rlkDisabled) (he : u.flag (F.RLK_P_CFG_EN n) = false) :
    portWritten n u = sendBlocks n 0 [idleBlock] (sendSto n (leaveUp n rlkDisabled (losePort n u))) := by
  unfold portWritten
  simp [hp, he]

theorem losePort_none (hr : portReach u n = 0) : losePort n u = u.put (F.RLK_P_STAT_REACH n) 0 := by
  unfold losePort
  rw [hr]
  rfl

theorem regStep_of_only {os : List Nat} (h : RegsOnly os s u) : RegStep (· ∈ os) s u :=
  ⟨by obtain ⟨h, -⟩ := h; rw [← h], h.2⟩

/-- What the write of the enable leaves of the link registers that a port's change does not name. -/
theorem leaveUp_cfg (st : Nat) (s : State) : (leaveUp n st s).reg (Reg.RLK_P_CFG n) = s.reg (Reg.RLK_P_CFG n) :=
  reg_leaveUp st s (by unfold Reg.RLK_P_CFG Reg.RLK_P_MGSTAT; omega) (by unfold Reg.RLK_P_CFG Reg.RLK_P_STAT; omega)
    (by have := n.isLt; unfold Reg.RLK_P_CFG Reg.RLK_STAT; omega)

end

theorem portEnables (oid : BitVec 10) (ctx : BitVec 6) (n : Fin 16) (data : BitVec 32) (s : State) (hc : Calm s) (had : Admitted oid ctx (Reg.RLK_P_CFG n) s) (ho : oid = 1)
    (hlock : s.flag F.RLK_LOCK_LOCK = false) (hen : s.flag F.RLK_CTRL_EN = true) :
    (data.getLsbD 0 = true → portState s n = rlkDisabled → ∃ t, exec (.portEnable oid ctx n data) s = .next t ∧ portState t n = rlkTrain
      ∧ t.fld (F.RLK_P_CFG_NSTM1 n) = data.toNat / 2 % 8 ∧ t.flag (F.RLK_P_CFG_EN n) = true ∧ t.mem = s.mem ∧ t.out = s.out ++ [.rlk n 0 [idleBlock]])
    ∧ (data.getLsbD 0 = false → portState s n ≠ rlkDisabled → portReach s n = 0 → ∃ t, exec (.portEnable oid ctx n data) s = .next t ∧ portState t n = rlkDisabled
      ∧ t.flag (F.RLK_P_CFG_EN n) = false ∧ t.mem = s.mem ∧ t.out = s.out ++ [.rlk n 5 (linkFrame 5 0x80 s.cmb.cycle []), .rlk n 0 [idleBlock]]) := by
  obtain ⟨u, hu, hon, hnst, e⟩ := portEnable_eq had ho hlock
  have hstat : u.reg (Reg.RLK_P_STAT n) = s.reg (Reg.RLK_P_STAT n) := hu.2 _ (by simp [Reg.RLK_P_STAT, Reg.RLK_P_CFG])
  have hctl : u.flag F.RLK_CTRL_EN = true := by
    rw [← hen]
    unfold State.flag
    rw [fld_of_reg F.RLK_CTRL_EN (hu.2 _ ?_)]
    have := n.isLt
    simp [F.RLK_CTRL_EN, Reg.RLK_P_CFG]
    omega
  have hst := portState_of_reg hstat
  have hcu : Calm u := (regStep_of_only hu).calm (by have := n.isLt; simp [Reg.RLK_P_CFG, Reg.HWD_STATE]; omega) hc
  have hrest := hu.1
  have hmem : u.mem = s.mem := (congrArg State.mem hrest :)
  have hcmb : u.cmb = s.cmb := (congrArg State.cmb hrest :)
  have houts : u.out = s.out := (congrArg State.out hrest :)
  refine ⟨fun hd hs => ?_, fun hd hs hr => ?_⟩
  · have hw := portTurnsOn (hst.trans hs) hctl (hon.trans hd)
    obtain ⟨hstate, -, -⟩ := portState_leaveUp n.isLt (show rlkTrain < 4 by decide) u
    have hstep := portStep_leaveUp n.isLt rlkTrain u
    have hcfg := leaveUp_cfg (n := n) rlkTrain u
    have hout := (quiet_leaveUp (p := n) rlkTrain u).2
    generalize leaveUp n rlkTrain u = v at hw hstate hstep hcfg hout
    rw [hw] at e
    have hsent : PortStep u (sendBlocks n 0 [idleBlock] v) := hstep.trans (.emit v _)
    have hreg (o : Nat) : (sendBlocks n 0 [idleBlock] v).reg o = v.reg o := State.emit_reg v _ o
    have hblk : (sendBlocks n 0 [idleBlock] v).out = v.out ++ [.rlk n 0 [idleBlock]] := rfl
    generalize sendBlocks n 0 [idleBlock] v = w at e hsent hreg hblk
    obtain ⟨t, ht⟩ : ∃ t, writeDone 1 (true, w) = t := ⟨_, rfl⟩
    obtain ⟨htr, htm, hto⟩ := writeDone_quiet (hsent.calm hcu) true ht
    have hcfg' : t.reg (Reg.RLK_P_CFG n) = u.reg (Reg.RLK_P_CFG n) := (htr _).trans ((hreg _).trans hcfg)
    refine ⟨t, by rw [e, ht], ?_, ?_, ?_, ?_, ?_⟩
    · rw [portState_of_reg ((htr _).trans (hreg _)), hstate]
    · rw [fld_of_reg (F.RLK_P_CFG_NSTM1 n) hcfg', hnst]
    · unfold State.flag
      rw [fld_of_reg (F.RLK_P_CFG_EN n) hcfg']
      exact hon.trans hd
    · rw [htm, hsent.mem, hmem]
    · rw [hto, hblk, hout, houts]
  · have hw := portTurnsOff (by rw [hst]; exact hs) (hon.trans hd)
    rw [losePort_none (by rw [portReach_of_reg hstat]; exact hr)] at hw
    have hx : PortStep u (u.put (F.RLK_P_STAT_REACH n) 0) := .put u 0 (page_stat n.isLt)
    have hxcfg : (u.put (F.RLK_P_STAT_REACH n) 0).reg (Reg.RLK_P_CFG n) = u.reg (Reg.RLK_P_CFG n) :=
      reg_put_ne u (F.RLK_P_STAT_REACH n) _ (by unfold F.RLK_P_STAT_REACH Reg.RLK_P_CFG; dsimp only; omega)
    have hxout : (u.put (F.RLK_P_STAT_REACH n) 0).out = u.out := State.put_out u _ _
    generalize u.put (F.RLK_P_STAT_REACH n) 0 = x at hw hx hxcfg hxout
    obtain ⟨hstate, -, -⟩ := portState_leaveUp n.isLt (show rlkDisabled < 4 by decide) x
    have hstep := hx.trans (portStep_leaveUp n.isLt rlkDisabled x)
    have hcfg := (leaveUp_cfg (n := n) rlkDisabled x).trans hxcfg
    have hout := ((quiet_leaveUp (p := n) rlkDisabled x).2.trans hxout).trans houts
    generalize leaveUp n rlkDisabled x = v at hw hstate hstep hcfg hout
    rw [hw, sendSto_eq] at e
    have hsent : PortStep u (sendBlocks n 0 [idleBlock] (v.emit (.rlk n 5 (linkFrame 5 0x80 v.cmb.cycle [])))) := (hstep.trans (.emit v _)).trans (.emit _ _)
    have hreg (o : Nat) : (sendBlocks n 0 [idleBlock] (v.emit (.rlk n 5 (linkFrame 5 0x80 v.cmb.cycle [])))).reg o = v.reg o :=
      (State.emit_reg _ _ o).trans (State.emit_reg v _ o)
    have hblk : (sendBlocks n 0 [idleBlock] (v.emit (.rlk n 5 (linkFrame 5 0x80 v.cmb.cycle [])))).out
        = v.out ++ [.rlk n 5 (linkFrame 5 0x80 v.cmb.cycle []), .rlk n 0 [idleBlock]] := by
      unfold sendBlocks
      rw [State.emit_out, State.emit_out, List.append_assoc]
      rfl
    generalize sendBlocks n 0 [idleBlock] (v.emit (.rlk n 5 (linkFrame 5 0x80 v.cmb.cycle []))) = w at e hsent hreg hblk
    obtain ⟨t, ht⟩ : ∃ t, writeDone 1 (true, w) = t := ⟨_, rfl⟩
    obtain ⟨htr, htm, hto⟩ := writeDone_quiet (hsent.calm hcu) true ht
    refine ⟨t, by rw [e, ht], ?_, ?_, ?_, ?_⟩
    · rw [portState_of_reg ((htr _).trans (hreg _)), hstate]
    · unfold State.flag
      rw [fld_of_reg (F.RLK_P_CFG_EN n) ((htr _).trans ((hreg _).trans hcfg))]
      exact hon.trans hd
    · rw [htm, hsent.mem, hmem]
    · rw [hto, hblk, hout, hstep.cmb, hcmb]

/-- Settles O53. -/
theorem linksAndStations : Obligations.LinksAndStations := by
  unfold Obligations.LinksAndStations
  refine ⟨framesOfPort, windowCloses, lineBreaks, lockIsLost, fun port l s => ?_, fun port s => ?_, portEnables⟩
  · intro p figs plan fits hl
    obtain ⟨h1, h2, h3, h4, h5⟩ := enumerations port l s hl
    exact ⟨h1, h2, ⟨h3, h4, h5⟩, lineRestored port l s hl⟩
  · intro p live
    obtain ⟨h1, h2⟩ := torqueOffRepeats port s
    obtain ⟨h3, h4⟩ := exchangeStarts p s
    exact ⟨h1, h2, h3, h4⟩

end Sys2Proof.Machine
end

section
/-! What is emitted stays emitted: the outputs of a step go before those of the steps after it (for the joint cycle, R346, R357, R372). -/

namespace Sys2Proof.Machine

/-- From `s` to `t` outputs were only added. -/
def Grows (s t : State) : Prop := s.out <+: t.out

namespace Grows
variable {s t u : State}

theorem refl (s : State) : Grows s s := List.prefix_rfl
theorem trans (h : Grows s t) (g : Grows t u) : Grows s u := List.IsPrefix.trans h g
theorem ofOut (h : t.out = s.out) : Grows s t := by unfold Grows; rw [h]
theorem emit (s : State) (o : Out) : Grows s (s.emit o) := ⟨[o], rfl⟩
theorem put (s : State) (f : RegField) (v : Nat) : Grows s (s.put f v) := refl s
theorem mem (h : Grows s t) {o : Out} (ho : o ∈ s.out) : o ∈ t.out := List.IsPrefix.mem ho h
theorem foldl {α : Type} (l : List α) (f : State → α → State) (h : ∀ s, ∀ x ∈ l, Grows s (f s x)) (s : State) : Grows s (l.foldl f s) := by
  induction l generalizing s with
  | nil => exact refl _
  | cons x l ih => exact (h s x List.mem_cons_self).trans (ih (fun s y hy => h s y (List.mem_cons_of_mem _ hy)) _)
end Grows

theorem out_incHold (s : State) (f : RegField) : (s.incHold f).out = s.out := by
  unfold State.incHold
  split <;> rfl

theorem out_numbered (d : Bool) (e : EvRec) (s : State) : (numbered d e s).out = s.out := by
  unfold numbered
  rw [State.setEvq_out, State.put_out]

theorem grows_notify (sev : Nat) (s : State) : Grows s (notify sev s) := by
  have hmsix (s : State) (v : Nat) : Grows s (s.msix v) := by
    unfold State.msix
    split
    · exact .emit _ _
    · exact .ofOut rfl
  have hbgh (u : State) : Grows u (if bitAt (u.fld F.EVQ_BGH_SEVMASK) sev then
      (List.range 8).foldl (fun s c => if bitAt (s.fld F.EVQ_BGH_CORES) c then bghPend c (16 + sev) s else s) u else u) := by
    split
    · exact .foldl _ _ (fun s c _ => by split; exacts [.ofOut rfl, .refl s]) _
    · exact .refl u
  refine Grows.trans ?_ (hbgh _)
  split
  · exact hmsix _ _
  split
  · exact (Grows.ofOut (t := s.setEvq { s.evq with coal := spSet 0 (sevVec s sev) 1 s.evq.coal }) rfl).trans (hmsix _ _)
  · exact .ofOut rfl

theorem grows_acceptEv (e : EvRec) (s : State) : Grows s (acceptEv e s) := by
  have hdrop (r : EvRec) (s : State) : Grows s (dropRecord r s) := by
    unfold dropRecord
    refine Grows.trans (Grows.ofOut ?_) (grows_notify _ _)
    rw [out_incHold, State.setEvq_out]
  have hshed (l : List EvRec) (r : EvRec) (s : State) : Grows s (shedOldest l r s) := by
    unfold shedOldest
    split
    · exact .refl _
    split
    · split
      · exact (Grows.ofOut (State.setEvq_out s _)).trans (hdrop _ _)
      · exact .refl _
    · exact .refl _
  have henter (d : Bool) : Grows s (enterHist d e s).2 := by
    rw [enterHist_eq]
    exact (Grows.ofOut (out_numbered d e s)).trans (hshed _ _ _)
  have hdump (t : DumpTrig) (s : State) : Grows s (dumpTrigger t s) := by
    unfold dumpTrigger
    split
    · exact .ofOut (State.setEvq_out s _)
    split
    · exact .ofOut ((State.put_out _ _ _).trans (State.setEvq_out s _))
    · exact .ofOut (out_incHold _ _)
  unfold acceptEv
  dsimp only
  split
  · exact (henter _).trans (hdump _ _)
  split
  · exact (henter _).trans (hdump _ _)
  · exact henter _

/-- Events of a unit outside the scheduler that tear no context down only add outputs. -/
theorem grows_raise {e : EvRec} (h : e.sev ≠ 2) (ho : ¬ (0x10 ≤ e.oid ∧ e.oid ≤ 0x15) ∧ e.oid ≠ 0x18) (s : State) : Grows s (raise e s) := by
  rw [raise_accepted s h fun _ => ho]
  exact grows_acceptEv e s

theorem grows_cmbEvent {code sev a0 a1 a2 a3 : Nat} (h : sev ≠ 2) (s : State) (time : Nat) : Grows s (cmbEvent code sev a0 a1 a2 a3 s time) := by
  unfold cmbEvent
  exact grows_raise h (by show ¬ (0x10 ≤ 0x31 ∧ 0x31 ≤ 0x15) ∧ 0x31 ≠ 0x18; decide) s

theorem grows_rlkEvent {code sev a0 a1 a2 a3 : Nat} (h : sev ≠ 2) (s : State) : Grows s (rlkEvent code sev a0 a1 a2 a3 s) := by
  unfold rlkEvent
  exact grows_raise h (by show ¬ (0x10 ≤ 0x32 ∧ 0x32 ≤ 0x15) ∧ 0x32 ≠ 0x18; decide) s

theorem grows_axisEvent {code sev a a1 a2 a3 : Nat} (h : sev ≠ 2) (s : State) : Grows s (axisEvent code sev a a1 a2 a3 s) :=
  (grows_cmbEvent h s 0).trans (.emit _ _)

theorem out_setRun (a n : Nat) (s : State) : (setRun a n s).out = s.out := by
  unfold setRun
  rw [State.wrN_out, State.put_out]

theorem grows_loseAxis (a : Nat) (s : State) : Grows s (loseAxis a s) := by
  unfold loseAxis
  split
  · exact .refl s
  · exact (Grows.ofOut ((out_setRun _ _ _).trans (State.put_out s _ _))).trans (grows_axisEvent (by decide) _)

theorem grows_faultAxis (a reason value : Nat) (s : State) : Grows s (faultAxis a reason value s) := by
  unfold faultAxis
  split
  · exact .refl s
  · exact (Grows.put s _ _).trans (grows_axisEvent (by decide) _)

theorem grows_missAxis (a bits : Nat) (s : State) : Grows s (missAxis a bits s) := by
  unfold missAxis
  extract_lets run t u
  have ht : Grows s t := .ofOut ((out_setRun _ _ _).trans (out_incHold s _))
  have hu : Grows t u := by
    unfold u
    split
    · exact grows_cmbEvent (by decide) t 0
    · exact .refl t
  split
  · exact (ht.trans hu).trans (grows_faultAxis a 1 0 u)
  · exact ht.trans hu

theorem grows_stopDone (s : State) : Grows s (stopDone s) := by
  unfold stopDone
  split
  · exact .refl s
  · refine .foldl _ _ (fun t g _ => ?_) s
    dsimp only
    split
    · exact (Grows.emit (t.put F.CMB_STAT_STOPDONE _) _).trans (grows_cmbEvent (by decide) _ 0)
    · exact .refl t

theorem grows_endExchange (p : Nat) (ok : Bool) (s : State) : Grows s (endExchange p ok s) := .ofOut (quiet_endExchange ok s).2

end Sys2Proof.Machine
end

section
/-! Law sources and setpoints of a cycle (R349, R350, R356, R357): what they leave of the state. -/

namespace Sys2Proof.Machine

/-- The registers that the work of a cycle may write: those of axes, channels and events, and those that a memory access counts and reports in. -/
def LawReg (o : Nat) : Prop := (0x251000 ≤ o ∧ o < 0x251600) ∨ o = 0x250018 ∨ (0x250040 ≤ o ∧ o < 0x250060) ∨ NetReg o

/-- From `s` to `t` only sources, setpoints and channels moved: no axis state and, with good check bits, no memory. -/
structure LawStep (s t : State) : Prop where
  rlk : t.rlk = s.rlk
  cmb : { t.cmb with axes := s.cmb.axes } = s.cmb
  reg : ∀ o, ¬ LawReg o → t.reg o = s.reg o
  state : ∀ a < 128, axState t a = axState s a
  sound : s.memsys.synd = [] → t.hwd = s.hwd ∧ t.mem = s.mem ∧ t.memsys.synd = [] ∧ Grows s t

namespace LawStep
variable {s t u : State}

theorem refl (s : State) : LawStep s s := ⟨rfl, rfl, fun _ _ => rfl, fun _ _ => rfl, fun h => ⟨rfl, rfl, h, .refl s⟩⟩

theorem trans (h : LawStep s t) (g : LawStep t u) : LawStep s u := by
  refine ⟨g.rlk.trans h.rlk, ?_, fun o ho => (g.reg o ho).trans (h.reg o ho), fun a ha => (g.state a ha).trans (h.state a ha), fun hs => ?_⟩
  · exact (congrArg (fun x : Cmb => { x with axes := s.cmb.axes }) g.cmb).trans h.cmb
  · obtain ⟨h1, h2, h3, h4⟩ := h.sound hs
    obtain ⟨g1, g2, g3, g4⟩ := g.sound h3
    exact ⟨g1.trans h1, g2.trans h2, g3, h4.trans g4⟩

theorem foldl {α : Type} (l : List α) (f : State → α → State) (h : ∀ s, ∀ x ∈ l, LawStep s (f s x)) (s : State) : LawStep s (l.foldl f s) := by
  induction l generalizing s with
  | nil => exact refl _
  | cons x l ih => exact (h s x List.mem_cons_self).trans (ih (fun s y hy => h s y (List.mem_cons_of_mem _ hy)) _)

theorem foldlPair {α β : Type} (l : List α) (f : β × State → α → β × State) (h : ∀ r, ∀ x ∈ l, LawStep r.2 (f r x).2) (r : β × State) :
    LawStep r.2 (l.foldl f r).2 := by
  induction l generalizing r with
  | nil => exact refl _
  | cons x l ih => exact (h r x List.mem_cons_self).trans (ih (fun s y hy => h s y (List.mem_cons_of_mem _ hy)) _)

theorem modAxis (s : State) (a : Nat) (f : CmbAxis → CmbAxis) : LawStep s (modAxis a f s) :=
  ⟨rfl, rfl, fun _ _ => rfl, fun _ _ => rfl, fun h => ⟨rfl, rfl, h, .refl s⟩⟩

theorem free (s : State) : LawStep s s.freeNat.2 := ⟨rfl, rfl, fun _ _ => rfl, fun _ _ => rfl, fun h => ⟨rfl, rfl, h, .refl s⟩⟩

/-- A field that is no axis state. -/
theorem put (s : State) {f : RegField} (v : Nat) (h : LawReg f.reg) (ha : ∀ a < 128, axState (s.put f v) a = axState s a) : LawStep s (s.put f v) :=
  ⟨rfl, rfl, fun _ hp => reg_setReg_ne s _ fun e => hp (e ▸ h), ha, fun h => ⟨rfl, rfl, h, .refl s⟩⟩

theorem cycle (h : LawStep s t) : t.cmb.cycle = s.cmb.cycle := (congrArg Cmb.cycle h.cmb :)
theorem bound (h : LawStep s t) : t.cmb.bound = s.cmb.bound := (congrArg Cmb.bound h.cmb :)
theorem last (h : LawStep s t) : t.cmb.last = s.cmb.last := (congrArg Cmb.last h.cmb :)
theorem fld (h : LawStep s t) {f : RegField} (hf : ¬ LawReg f.reg) : t.fld f = s.fld f := by unfold State.fld; rw [h.reg _ hf]
theorem calm (h : LawStep s t) (hs : s.memsys.synd = []) (hc : Calm s) : Calm t := by
  have e : seqState t = seqState s := h.fld (f := F.HWD_STATE_SEQ) (by unfold LawReg NetReg EvReg F.HWD_STATE_SEQ; dsimp only; omega)
  exact ⟨by rw [(h.sound hs).1]; exact hc.1, by rw [e]; exact hc.2⟩
end LawStep

theorem not_netReg_cambium {o : Nat} (h : o / 0x10000 = 0x25) : ¬ NetReg o := by unfold NetReg EvReg; omega

theorem axState_of_ne (s : State) {f : RegField} (v : Nat) (h : f.reg < 0x251000 ∨ 0x251200 ≤ f.reg) {a : Nat} (ha : a < 128) :
    axState (s.put f v) a = axState s a :=
  axState_of_reg (reg_put_ne s f v (by unfold Reg.CMB_AX_STAT; omega))

/-- Another field of the axis's status leaves its state. -/
theorem axState_put_status (s : State) {f : RegField} (v b : Nat) (hr : f.reg = Reg.CMB_AX_STAT b) (hl : 2 < f.lo) (h : f.lo ≤ f.hi) (hh : f.hi < 32) (a : Nat) :
    axState (s.put f v) a = axState s a := by
  by_cases e : a = b
  · subst e
    exact fld_put_apart s f (F.CMB_AX_STAT_STATE a) v h hh (.inl hl)
  · exact axState_of_reg (reg_put_ne s f v (by rw [hr]; exact axStat_ne e))

theorem lawReg_stat {a : Nat} (h : a < 128) : LawReg (Reg.CMB_AX_STAT a) := .inl (by unfold Reg.CMB_AX_STAT; omega)

section
variable {a : Nat} (ha : a < 128) (s : State) (v : Nat)
include ha
theorem lawStep_src : LawStep s (s.put (F.CMB_AX_STAT_SRC a) v) := .put s v (lawReg_stat ha) fun b _ =>
  axState_put_status s v a rfl (by show 2 < 3; decide) (by show 3 ≤ 5; decide) (by show 5 < 32; decide) b
theorem lawStep_ch : LawStep s (s.put (F.CMB_AX_STAT_CH a) v) := .put s v (lawReg_stat ha) fun b _ =>
  axState_put_status s v a rfl (by show 2 < 8; decide) (by show 8 ≤ 9; decide) (by show 9 < 32; decide) b
theorem lawStep_ended : LawStep s (s.put (F.CMB_AX_STAT_ENDED a) v) := .put s v (lawReg_stat ha) fun b _ =>
  axState_put_status s v a rfl (by show 2 < 7; decide) (by show 7 ≤ 7; decide) (by show 7 < 32; decide) b
theorem lawStep_lim : LawStep s (s.put (F.CMB_AX_STAT_LIM a) v) := .put s v (lawReg_stat ha) fun b _ =>
  axState_put_status s v a rfl (by show 2 < 6; decide) (by show 6 ≤ 6; decide) (by show 6 < 32; decide) b
theorem lawStep_flagSat (fl : BitVec 4) : LawStep s (flagSat a fl s) :=
  .put s _ (.inl (by unfold F.CMB_AX_FLAGS_SAT_DZ_ACCF_SCLR; dsimp only; omega)) fun _ hb =>
    axState_of_ne s _ (by unfold F.CMB_AX_FLAGS_SAT_DZ_ACCF_SCLR; dsimp only; omega) hb
end

theorem lawStep_chstat (s : State) {f : RegField} (v : Nat) (h : f.reg = Reg.CMB_CHSTAT) : LawStep s (s.put f v) :=
  .put s v (by rw [h]; exact .inr (.inl rfl)) fun _ hb => axState_of_ne s v (by rw [h]; decide) hb

theorem axSrc_put_src {a : Nat} (b : Nat) (s : State) {v : Nat} (hv : v < 8) :
    axSrc (s.put (F.CMB_AX_STAT_SRC a) v) b = if b = a then v else axSrc s b := by
  split
  · rename_i h; subst h
    exact fld_put_fits s (F.CMB_AX_STAT_SRC b) (by show 3 ≤ 5; decide) (by show 5 < 32; decide) (by show v < 2 ^ 3; omega)
  · rename_i h
    exact axSrc_of_reg (reg_put_ne s (F.CMB_AX_STAT_SRC a) v (axStat_ne h))

/-- Another field of the axis's status leaves its source. -/
theorem axSrc_put_status (s : State) {f : RegField} (v b : Nat) (hr : f.reg = Reg.CMB_AX_STAT b) (hl : 5 < f.lo ∨ f.hi < 3) (h : f.lo ≤ f.hi) (hh : f.hi < 32) (a : Nat) :
    axSrc (s.put f v) a = axSrc s a := by
  by_cases e : a = b
  · subst e
    exact fld_put_apart s f (F.CMB_AX_STAT_SRC a) v h hh hl
  · exact axSrc_of_reg (reg_put_ne s f v (by rw [hr]; exact axStat_ne e))

theorem axSrc_put_ch (a b : Nat) (s : State) (v : Nat) : axSrc (s.put (F.CMB_AX_STAT_CH a) v) b = axSrc s b :=
  axSrc_put_status s v a rfl (.inl (by show 5 < 8; decide)) (by show 8 ≤ 9; decide) (by show 9 < 32; decide) b

theorem axSrc_put_ended (a b : Nat) (s : State) (v : Nat) : axSrc (s.put (F.CMB_AX_STAT_ENDED a) v) b = axSrc s b :=
  axSrc_put_status s v a rfl (.inl (by show 5 < 7; decide)) (by show 7 ≤ 7; decide) (by show 7 < 32; decide) b

theorem axSrc_of_ne (s : State) {f : RegField} (v : Nat) (h : f.reg < 0x251000 ∨ 0x251200 ≤ f.reg) {a : Nat} (ha : a < 128) :
    axSrc (s.put f v) a = axSrc s a :=
  axSrc_of_reg (reg_put_ne s f v (by unfold Reg.CMB_AX_STAT; omega))

theorem axSrc_modAxis (a b : Nat) (f : CmbAxis → CmbAxis) (s : State) : axSrc (modAxis a f s) b = axSrc s b := rfl

theorem cmbAxis_put (s : State) (f : RegField) (v b : Nat) : cmbAxis (s.put f v) b = cmbAxis s b := by unfold cmbAxis; rw [State.put_cmb]

theorem cmbAxis_modAxis (a b : Nat) (f : CmbAxis → CmbAxis) (s : State) : cmbAxis (modAxis a f s) b = if b = a then f (cmbAxis s a) else cmbAxis s b := by
  unfold modAxis cmbAxis State.setCmb
  dsimp only
  split
  · rename_i h; subst h; exact spGet_spSet_self _ _ _ _
  · rename_i h; exact spGet_spSet_ne _ _ _ _ _ h

/-! ### A source change (R357) -/

/-- The source of an axis, and its channel where it follows a chunk, as its status shows them. -/
def sourced (a src ch : Nat) (s : State) : State :=
  if src = srcChunk then (s.put (F.CMB_AX_STAT_SRC a) src).put (F.CMB_AX_STAT_CH a) ch else s.put (F.CMB_AX_STAT_SRC a) src

theorem setSource_state (a src ch b : Nat) (r : Changes × State) : (setSource a src ch b r).2
    = if src = srcTraj || src = srcStop then modAxis a (fun x => { x with t0 := b }) (sourced a src ch r.2) else sourced a src ch r.2 := rfl

section
variable {a src ch : Nat} (s : State)

theorem lawStep_sourced (ha : a < 128) : LawStep s (sourced a src ch s) := by
  unfold sourced
  split
  · exact (lawStep_src ha s src).trans (lawStep_ch ha _ ch)
  · exact lawStep_src ha s src

theorem axSrc_sourced (hsrc : src < 8) (x : Nat) : axSrc (sourced a src ch s) x = if x = a then src else axSrc s x := by
  unfold sourced
  split
  · rw [axSrc_put_ch, axSrc_put_src x _ hsrc]
  · rw [axSrc_put_src x _ hsrc]

theorem cmb_sourced : (sourced a src ch s).cmb = s.cmb := by
  unfold sourced
  split
  · rw [State.put_cmb, State.put_cmb]
  · rw [State.put_cmb]

theorem mem_sourced : (sourced a src ch s).mem = s.mem := by
  unfold sourced
  split
  · rw [State.put_mem, State.put_mem]
  · rw [State.put_mem]

theorem reg_sourced {o : Nat} (ho : o ≠ Reg.CMB_AX_STAT a) : (sourced a src ch s).reg o = s.reg o := by
  unfold sourced
  split
  · rw [reg_put_ne _ (F.CMB_AX_STAT_CH a) _ ho, reg_put_ne _ (F.CMB_AX_STAT_SRC a) _ ho]
  · rw [reg_put_ne _ (F.CMB_AX_STAT_SRC a) _ ho]

end

section
variable {a src ch b : Nat} (r : Changes × State)

theorem lawStep_setSource (ha : a < 128) : LawStep r.2 (setSource a src ch b r).2 := by
  rw [setSource_state]
  split
  · exact (lawStep_sourced r.2 ha).trans (.modAxis _ a _)
  · exact lawStep_sourced r.2 ha

theorem axSrc_setSource (hsrc : src < 8) (x : Nat) : axSrc (setSource a src ch b r).2 x = if x = a then src else axSrc r.2 x := by
  rw [setSource_state, ← axSrc_sourced (ch := ch) r.2 hsrc x]
  split <;> rfl

theorem cmbAxis_setSource (x : Nat) : ∃ n, cmbAxis (setSource a src ch b r).2 x = { cmbAxis r.2 x with t0 := n } := by
  have hs : cmbAxis (sourced a src ch r.2) x = cmbAxis r.2 x := by unfold cmbAxis; rw [cmb_sourced]
  rw [setSource_state, ← hs]
  split
  · rw [cmbAxis_modAxis]
    split
    · rename_i h; subst h; exact ⟨b, rfl⟩
    · exact ⟨_, rfl⟩
  · exact ⟨_, rfl⟩

theorem ch_setSource (hch : ch < 4) : (setSource a srcChunk ch b r).2.fld (F.CMB_AX_STAT_CH a) = ch := by
  rw [setSource_state, if_neg (by decide)]
  unfold sourced
  rw [if_pos rfl]
  exact fld_put_fits _ (F.CMB_AX_STAT_CH a) (by show 8 ≤ 9; decide) (by show 9 < 32; decide) (by show ch < 2 ^ 2; omega)

theorem reg_setSource {o : Nat} (ho : o ≠ Reg.CMB_AX_STAT a) : (setSource a src ch b r).2.reg o = r.2.reg o := by
  rw [setSource_state, ← reg_sourced (src := src) (ch := ch) r.2 ho]
  split <;> rfl

theorem mem_setSource : (setSource a src ch b r).2.mem = r.2.mem := by
  rw [setSource_state, ← mem_sourced (a := a) (src := src) (ch := ch) r.2]
  split <;> rfl

end

end Sys2Proof.Machine
end

section
/-! The setpoints of a cycle (R350), latched source changes (R357) and the switch of a channel (R22, R349). -/

namespace Sys2Proof.Machine

theorem suspectWords_sound {s : State} (h : s.memsys.synd = []) (a n : Nat) : suspectWords s a n = [] := by
  unfold suspectWords
  rw [h]
  rfl

theorem noUnit_cmb : NoUnit cmbOid := by unfold NoUnit cmbOid; decide

theorem lawStep_cmbRead (a n : Nat) (s : State) : LawStep s (cmbRead a n s).2 := by
  have hnet := netStep_memRead cmbOid a n s
  have hq : (memRead cmbOid a n s).1 = none → NoUnit cmbOid := fun _ => noUnit_cmb
  refine ⟨hnet.rlk, by rw [show (cmbRead a n s).2.cmb = s.cmb from hnet.cmb], fun o ho => hnet.reg hq o fun h => ho (.inr (.inr (.inr h))), fun b hb => ?_, fun hs => ?_⟩
  · exact axState_of_reg (hnet.reg hq _ (not_netReg_cambium (by unfold Reg.CMB_AX_STAT; omega)))
  · unfold cmbRead memRead
    rw [suspectWords_sound hs]
    simp only [scanWords, if_true]
    split
    · exact ⟨rfl, rfl, hs, .ofOut rfl⟩
    · exact ⟨rfl, rfl, hs, .refl s⟩

/-- A read keeps the sources: what a cycle's step does to the source of an axis. -/
def KeepsSrc (s t : State) : Prop := (∀ a < 128, axSrc t a = axSrc s a) ∧ t.cmb = s.cmb

namespace KeepsSrc
variable {s t u : State}
theorem refl (s : State) : KeepsSrc s s := ⟨fun _ _ => rfl, rfl⟩
theorem trans (h : KeepsSrc s t) (g : KeepsSrc t u) : KeepsSrc s u := ⟨fun a ha => (g.1 a ha).trans (h.1 a ha), g.2.trans h.2⟩
end KeepsSrc

theorem keepsSrc_cmbRead (a n : Nat) (s : State) : KeepsSrc s (cmbRead a n s).2 := by
  have hnet := netStep_memRead cmbOid a n s
  have hq : (memRead cmbOid a n s).1 = none → NoUnit cmbOid := fun _ => noUnit_cmb
  exact ⟨fun b hb => axSrc_of_reg (hnet.reg hq _ (not_netReg_cambium (by unfold Reg.CMB_AX_STAT; omega))), hnet.cmb⟩

/-- A step that only reads for a setpoint. -/
def Looks (s t : State) : Prop := LawStep s t ∧ KeepsSrc s t

namespace Looks
variable {s t u : State}
theorem refl (s : State) : Looks s s := ⟨.refl s, .refl s⟩
theorem trans (h : Looks s t) (g : Looks t u) : Looks s u := ⟨h.1.trans g.1, h.2.trans g.2⟩
theorem read (a n : Nat) (s : State) : Looks s (cmbRead a n s).2 := ⟨lawStep_cmbRead a n s, keepsSrc_cmbRead a n s⟩
theorem free (s : State) : Looks s s.freeNat.2 := ⟨.free s, fun _ _ => rfl, rfl⟩
end Looks

theorem looks_readTraj (base : Nat) (stored : Bool) (s : State) : Looks s (readTraj base stored s).2 := by
  have h := Looks.read base 64 s
  unfold readTraj
  generalize cmbRead base 64 s = x at h
  obtain ⟨l, t⟩ := x
  cases l <;> exact h

theorem looks_trajPoint (j : Traj) (a k : Nat) (s : State) : Looks s (trajPoint j a k s).2 := by
  unfold trajPoint
  have h := Looks.read (j.base + 64 + 8 * (k * bitsBelow j.axmap 128 + bitsBelow j.axmap a)) 8 s
  generalize cmbRead _ 8 s = x at h
  obtain ⟨l, t⟩ := x
  cases l <;> exact h

theorem looks_trajSetpoint (j : Traj) (a n : Nat) (s : State) : Looks s (trajSetpoint j a n s).2 := by
  have hpoint (k : Nat) (s : State) := looks_trajPoint j a k s
  unfold trajSetpoint
  generalize trajPoint j a = point at hpoint
  dsimp only
  split
  · exact (Looks.free s).trans (Looks.free _)
  split
  · have h := hpoint (j.nstep - 1) s
    generalize point (j.nstep - 1) s = x at h
    obtain ⟨l, t⟩ := x
    cases l <;> exact h
  · have h := hpoint (n / (j.stepus / s.fld F.CMB_PERIOD_PERUS)) s
    generalize point (n / (j.stepus / s.fld F.CMB_PERIOD_PERUS)) s = x at h
    obtain ⟨l, t⟩ := x
    cases l with
    | none => exact h
    | some e =>
      have h2 := hpoint (n / (j.stepus / s.fld F.CMB_PERIOD_PERUS) + 1) t
      dsimp only
      generalize point (n / (j.stepus / s.fld F.CMB_PERIOD_PERUS) + 1) t = y at h2
      obtain ⟨l, u⟩ := y
      cases l <;> exact h.trans h2

theorem looks_pos32 (x : Int) (s : State) : Looks s (pos32 x s).2 := by
  unfold pos32
  split
  · exact .refl s
  · exact .free s

theorem looks_axSetpoint (a b : Nat) (s : State) : Looks s (axSetpoint a b s).2 := by
  have htraj := looks_readTraj
  have hset := looks_trajSetpoint
  unfold axSetpoint
  generalize readTraj = rt at htraj
  generalize trajSetpoint = ts at hset
  dsimp only
  split
  · exact .refl s
  split
  · have h := htraj (trajBuf (s.fld (F.CMB_AX_STAT_CH a)) (ofBool (bitAt (s.fld F.CMB_CHSTAT_BUF) (s.fld (F.CMB_AX_STAT_CH a))))) false s
    generalize rt (trajBuf (s.fld (F.CMB_AX_STAT_CH a)) (ofBool (bitAt (s.fld F.CMB_CHSTAT_BUF) (s.fld (F.CMB_AX_STAT_CH a))))) false s = x at h
    obtain ⟨l, t⟩ := x
    cases l with
    | none => exact h
    | some j =>
      dsimp only
      split
      · exact h.trans (hset _ _ _ _)
      · exact h
  split
  · have h := htraj (storedTraj (axGroup s a) (if axSrc s a = srcStop then 1 else 0)) true s
    generalize rt (storedTraj (axGroup s a) (if axSrc s a = srcStop then 1 else 0)) true s = x at h
    obtain ⟨l, t⟩ := x
    cases l with
    | none => exact h
    | some j =>
      dsimp only
      split
      · exact h
      · have h2 := hset j a (cyclesSince t (cmbAxis s a).t0 b) t
        generalize ts j a (cyclesSince t (cmbAxis s a).t0 b) t = y at h2
        obtain ⟨l, u⟩ := y
        cases l with
        | none => exact h.trans h2
        | some e => exact (h.trans h2).trans (looks_pos32 _ _)
  · exact .refl s

/-! ### The setpoint of an axis -/

/-- The setpoint that was formed, shown and kept. -/
def setpointTaken (a : Nat) (e : Setpoint) (s : State) : State :=
  modAxis a (fun x => { x with ps := e.p, vs := e.v }) (flagSat a e.fl (s.put (F.CMB_AX_STAT_ENDED a) (ofBool e.ended)))

theorem updateSetpoint_eq (b : Nat) (r : Changes × State) (a : Nat) : updateSetpoint b r a = match axSetpoint a b r.2 with
    | (none, s) => (r.1, s)
    | (some e, s) => if axSrc (setpointTaken a e s) a = srcStop && e.ended then setSource a srcStopped 0 b (r.1, setpointTaken a e s) else (r.1, setpointTaken a e s) := rfl

theorem lawStep_setpointTaken {a : Nat} (ha : a < 128) (e : Setpoint) (s : State) : LawStep s (setpointTaken a e s) :=
  ((lawStep_ended ha s _).trans (lawStep_flagSat ha _ _)).trans (.modAxis _ a _)

theorem axSrc_setpointTaken (a : Nat) (e : Setpoint) (s : State) {x : Nat} (hx : x < 128) : axSrc (setpointTaken a e s) x = axSrc s x := by
  unfold setpointTaken flagSat
  rw [axSrc_modAxis, axSrc_of_ne _ _ (by unfold F.CMB_AX_FLAGS_SAT_DZ_ACCF_SCLR; dsimp only; omega) hx, axSrc_put_ended]

/-- Only the figures of a setpoint and its time base change. -/
def SetpointOnly (x y : CmbAxis) : Prop := ∃ p v n, y = { x with ps := p, vs := v, t0 := n }

theorem SetpointOnly.refl (x : CmbAxis) : SetpointOnly x x := ⟨x.ps, x.vs, x.t0, rfl⟩
theorem SetpointOnly.trans {x y z : CmbAxis} (h : SetpointOnly x y) (g : SetpointOnly y z) : SetpointOnly x z := by
  obtain ⟨p, v, n, rfl⟩ := h
  obtain ⟨q, w, m, rfl⟩ := g
  exact ⟨q, w, m, rfl⟩

theorem cmbAxis_setpointTaken (a : Nat) (e : Setpoint) (s : State) (x : Nat) : SetpointOnly (cmbAxis s x) (cmbAxis (setpointTaken a e s) x) := by
  unfold setpointTaken flagSat
  rw [cmbAxis_modAxis]
  split
  · rename_i h; subst h
    rw [cmbAxis_put, cmbAxis_put]
    exact ⟨e.p, e.v, _, rfl⟩
  · rw [cmbAxis_put, cmbAxis_put]
    exact .refl _

/-- What a setpoint leaves: an axis at STO stays there and no other comes there, what Cambium keeps of an axis changes in its setpoint only. -/
structure Follows (s t : State) : Prop where
  step : LawStep s t
  sto : ∀ a < 128, axSrc t a = srcSto ↔ axSrc s a = srcSto
  axis : ∀ a, SetpointOnly (cmbAxis s a) (cmbAxis t a)

namespace Follows
variable {s t u : State}
theorem refl (s : State) : Follows s s := ⟨.refl s, fun _ _ => .rfl, fun _ => .refl _⟩
theorem trans (h : Follows s t) (g : Follows t u) : Follows s u :=
  ⟨h.step.trans g.step, fun a ha => (g.sto a ha).trans (h.sto a ha), fun a => (h.axis a).trans (g.axis a)⟩
theorem ofLooks (h : Looks s t) : Follows s t :=
  ⟨h.1, fun a ha => by rw [h.2.1 a ha], fun a => by unfold cmbAxis; rw [h.2.2]; exact .refl _⟩
theorem foldl {α β : Type} (l : List α) (f : β × State → α → β × State) (h : ∀ r, ∀ x ∈ l, Follows r.2 (f r x).2) (r : β × State) :
    Follows r.2 (l.foldl f r).2 := by
  induction l generalizing r with
  | nil => exact refl _
  | cons x l ih => exact (h r x List.mem_cons_self).trans (ih (fun s y hy => h s y (List.mem_cons_of_mem _ hy)) _)
end Follows

theorem follows_updateSetpoint {a : Nat} (ha : a < 128) (b : Nat) (r : Changes × State) : Follows r.2 (updateSetpoint b r a).2 := by
  have h := looks_axSetpoint a b r.2
  rw [updateSetpoint_eq]
  generalize axSetpoint a b r.2 = x at h
  obtain ⟨l, s⟩ := x
  cases l with
  | none => exact .ofLooks h
  | some e =>
    dsimp only at h ⊢
    have htaken : Follows s (setpointTaken a e s) :=
      ⟨lawStep_setpointTaken ha e s, fun x hx => by rw [axSrc_setpointTaken a e s hx], cmbAxis_setpointTaken a e s⟩
    refine (Follows.ofLooks h).trans (htaken.trans ?_)
    generalize setpointTaken a e s = t
    split
    · rename_i hstop
      rw [Bool.and_eq_true, decide_eq_true_eq] at hstop
      refine ⟨lawStep_setSource (r.1, t) ha, fun x hx => ?_, fun x => ?_⟩
      · rw [axSrc_setSource (r.1, t) (by decide)]
        split
        · rename_i e; subst e
          rw [hstop.1]
          decide
        · rfl
      · obtain ⟨n, hn⟩ := cmbAxis_setSource (a := a) (src := srcStopped) (ch := 0) (b := b) (r.1, t) x
        exact ⟨_, _, n, hn⟩
    · exact .refl t

/-! ### Latched changes -/

/-- The state that a latched change is taken in. -/
def nextTaken (a : Nat) (cap : Option Int) (s : State) : State :=
  modAxis a (fun x => match cap with
    | some v => { x with next := none, plat := v, wait := false }
    | none => { x with next := none }) s

theorem applyNext_none {b : Nat} {r : Changes × State} {a : Nat} (h : (cmbAxis r.2 a).next = none) : applyNext b r a = r := by
  unfold applyNext
  rw [h]

theorem applyNext_late {b : Nat} {r : Changes × State} {a src : Nat} {cap : Option Int} (h : (cmbAxis r.2 a).next = some (src, cap)) (hb : b ≤ (cmbAxis r.2 a).nextAt) :
    applyNext b r a = r := by
  unfold applyNext
  rw [h]
  exact if_pos hb

theorem applyNext_due {b : Nat} {r : Changes × State} {a src : Nat} {cap : Option Int} (h : (cmbAxis r.2 a).next = some (src, cap)) (hb : (cmbAxis r.2 a).nextAt < b) :
    applyNext b r a = setSource a src 0 b (r.1, nextTaken a cap r.2) := by
  unfold applyNext
  rw [h]
  exact if_neg (by omega)

/-- A latched change keeps all but its axis. -/
theorem applyNext_frame {a : Nat} (ha : a < 128) (b : Nat) (r : Changes × State) : LawStep r.2 (applyNext b r a).2
    ∧ ∀ x, x ≠ a → (x < 128 → axSrc (applyNext b r a).2 x = axSrc r.2 x) ∧ ∃ n, cmbAxis (applyNext b r a).2 x = { cmbAxis r.2 x with t0 := n } := by
  have hsame : LawStep r.2 r.2 ∧ ∀ x, x ≠ a → (x < 128 → axSrc r.2 x = axSrc r.2 x) ∧ ∃ n, cmbAxis r.2 x = { cmbAxis r.2 x with t0 := n } :=
    ⟨.refl _, fun x _ => ⟨fun _ => rfl, _, rfl⟩⟩
  cases hn : (cmbAxis r.2 a).next with
  | none => rw [applyNext_none hn]; exact hsame
  | some e =>
    obtain ⟨src, cap⟩ := e
    by_cases hb : b ≤ (cmbAxis r.2 a).nextAt
    · rw [applyNext_late hn hb]; exact hsame
    · rw [applyNext_due hn (by omega)]
      have htaken : LawStep r.2 (nextTaken a cap r.2) := LawStep.modAxis r.2 a _
      refine ⟨htaken.trans (lawStep_setSource (r.1, nextTaken a cap r.2) ha), fun x hx => ⟨fun _ => ?_, ?_⟩⟩
      · have hne : Reg.CMB_AX_STAT x ≠ Reg.CMB_AX_STAT a := axStat_ne hx
        exact axSrc_of_reg (reg_setSource (r.1, nextTaken a cap r.2) hne)
      · obtain ⟨n, h⟩ := cmbAxis_setSource (a := a) (src := src) (ch := 0) (b := b) (r.1, nextTaken a cap r.2) x
        refine ⟨n, h.trans ?_⟩
        show ({ cmbAxis (nextTaken a cap r.2) x with t0 := n } : CmbAxis) = _
        unfold nextTaken
        rw [cmbAxis_modAxis, if_neg hx]

/-- Axes whose latched source is STO are at STO when every change of the list has been applied. -/
theorem applyNext_foldl (b : Nat) (l : List Nat) (hl : ∀ a ∈ l, a < 128) (hd : l.Nodup) (r : Changes × State) : LawStep r.2 (l.foldl (applyNext b) r).2
    ∧ ∀ a < 128, (a ∉ l → axSrc (l.foldl (applyNext b) r).2 a = axSrc r.2 a)
      ∧ (a ∈ l → (cmbAxis r.2 a).next = some (srcSto, none) → (cmbAxis r.2 a).nextAt < b → axSrc (l.foldl (applyNext b) r).2 a = srcSto) := by
  induction l generalizing r with
  | nil => exact ⟨.refl _, fun a _ => ⟨fun _ => rfl, fun h => absurd h (by simp)⟩⟩
  | cons x l ih =>
    obtain ⟨hx, hd⟩ := List.nodup_cons.1 hd
    obtain ⟨hstep, hframe⟩ := applyNext_frame (hl x List.mem_cons_self) b r
    obtain ⟨hrest, hsrc⟩ := ih (fun a ha => hl a (List.mem_cons_of_mem _ ha)) hd (applyNext b r x)
    rw [List.foldl_cons]
    refine ⟨hstep.trans hrest, fun a ha => ⟨fun hn => ?_, fun hm hnext hat => ?_⟩⟩
    · have hax : a ≠ x := fun e => hn (e ▸ List.mem_cons_self)
      exact ((hsrc a ha).1 fun h => hn (List.mem_cons_of_mem _ h)).trans ((hframe a hax).1 ha)
    · by_cases hax : a = x
      · subst hax
        rw [(hsrc a ha).1 hx, applyNext_due hnext hat, axSrc_setSource _ (by decide), if_pos rfl]
      · obtain ⟨-, n, hn⟩ := hframe a hax
        refine (hsrc a ha).2 ((List.mem_cons.1 hm).resolve_left hax) ?_ ?_
        · rw [hn]; exact hnext
        · rw [hn]; exact hat

end Sys2Proof.Machine
end

section
/-! The switch of a channel's buffers (R22, R349). -/

namespace Sys2Proof.Machine

/-- May a chunk take over from this source (R349)? -/
def movable (src : Nat) : Bool := src = srcChunk || src = srcHold || src = srcTraj

theorem movable_iff (src : Nat) : movable src = true ↔ src = srcChunk ∨ src = srcHold ∨ src = srcTraj := by
  unfold movable
  simp [or_assoc]

theorem movable_ne_sto {src : Nat} (h : movable src = true) : src ≠ srcSto := by
  rintro rfl
  exact absurd h (by decide)

/-- An axis of a chunk's map is moved to the chunk where its source allows it. -/
def moveAxis (b n : Nat) (r : Changes × State) (a : Nat) : Changes × State := if movable (axSrc r.2 a) then setSource a srcChunk n b r else r

section
variable {b n : Nat} (hn : n < 4) {a : Nat} (ha : a < 128) (r : Changes × State)

include ha in
theorem follows_moveAxis : Follows r.2 (moveAxis b n r a).2 := by
  unfold moveAxis
  split
  · rename_i h
    refine ⟨lawStep_setSource r ha, fun x _ => ?_, fun x => ?_⟩
    · rw [axSrc_setSource r (by decide)]
      split
      · rename_i e; subst e
        exact ⟨fun h => absurd h (by decide), fun e => absurd e (movable_ne_sto h)⟩
      · rfl
    · obtain ⟨k, hk⟩ := cmbAxis_setSource (a := a) (src := srcChunk) (ch := n) (b := b) r x
      exact ⟨_, _, k, hk⟩
  · exact .refl _

theorem reg_moveAxis {o : Nat} (ho : o ≠ Reg.CMB_AX_STAT a) : (moveAxis b n r a).2.reg o = r.2.reg o := by
  unfold moveAxis
  split
  · exact reg_setSource r ho
  · rfl

theorem mem_moveAxis : (moveAxis b n r a).2.mem = r.2.mem := by
  unfold moveAxis
  split
  · exact mem_setSource r
  · rfl

include hn in
theorem moveAxis_moved (h : movable (axSrc r.2 a) = true) :
    axSrc (moveAxis b n r a).2 a = srcChunk ∧ (moveAxis b n r a).2.fld (F.CMB_AX_STAT_CH a) = n := by
  unfold moveAxis
  rw [if_pos h]
  exact ⟨by rw [axSrc_setSource r (by decide), if_pos rfl], ch_setSource r hn⟩

theorem moveAxis_kept (h : ¬ movable (axSrc r.2 a) = true) : moveAxis b n r a = r := if_neg h

theorem moveAxis_other {x : Nat} (hx : x ≠ a) :
    axSrc (moveAxis b n r a).2 x = axSrc r.2 x ∧ (moveAxis b n r a).2.fld (F.CMB_AX_STAT_CH x) = r.2.fld (F.CMB_AX_STAT_CH x) :=
  ⟨axSrc_of_reg (reg_moveAxis r (axStat_ne hx)), fld_of_reg (F.CMB_AX_STAT_CH x) (reg_moveAxis r (axStat_ne hx))⟩

end

/-- Each axis of the list is moved once. -/
theorem moveAxis_foldl {b n : Nat} (hn : n < 4) (l : List Nat) (hl : ∀ a ∈ l, a < 128) (hd : l.Nodup) (r : Changes × State) :
    Follows r.2 (l.foldl (moveAxis b n) r).2 ∧ (∀ o < 0x251000, (l.foldl (moveAxis b n) r).2.reg o = r.2.reg o) ∧ (l.foldl (moveAxis b n) r).2.mem = r.2.mem
    ∧ ∀ a, (a ∈ l ∧ movable (axSrc r.2 a) = true → axSrc (l.foldl (moveAxis b n) r).2 a = srcChunk ∧ (l.foldl (moveAxis b n) r).2.fld (F.CMB_AX_STAT_CH a) = n)
      ∧ (¬ (a ∈ l ∧ movable (axSrc r.2 a) = true) → axSrc (l.foldl (moveAxis b n) r).2 a = axSrc r.2 a
        ∧ (l.foldl (moveAxis b n) r).2.fld (F.CMB_AX_STAT_CH a) = r.2.fld (F.CMB_AX_STAT_CH a)) := by
  induction l generalizing r with
  | nil => exact ⟨.refl _, fun _ _ => rfl, rfl, fun a => ⟨fun h => absurd h.1 (by simp), fun _ => ⟨rfl, rfl⟩⟩⟩
  | cons x l ih =>
    obtain ⟨hx, hd⟩ := List.nodup_cons.1 hd
    obtain ⟨hf, hreg, hmem, hax⟩ := ih (fun a ha => hl a (List.mem_cons_of_mem _ ha)) hd (moveAxis b n r x)
    rw [List.foldl_cons]
    refine ⟨(follows_moveAxis (hl x List.mem_cons_self) r).trans hf, fun o ho => (hreg o ho).trans (reg_moveAxis r (by unfold Reg.CMB_AX_STAT; omega)),
      hmem.trans (mem_moveAxis r), fun a => ?_⟩
    obtain ⟨hin, hout⟩ := hax a
    by_cases e : a = x
    · subst e
      obtain ⟨hout1, hout2⟩ := hout fun h => hx h.1
      rw [hout1, hout2]
      refine ⟨fun h => moveAxis_moved hn r h.2, fun h => ?_⟩
      rw [moveAxis_kept r fun hm => h ⟨List.mem_cons_self, hm⟩]
      exact ⟨rfl, rfl⟩
    · obtain ⟨h1, h2⟩ := moveAxis_other (b := b) (n := n) r e
      rw [h1] at hin hout
      rw [h2] at hout
      have hmem : a ∈ x :: l ↔ a ∈ l := by simp [e]
      rw [hmem]
      exact ⟨hin, hout⟩

/-- The registers of a channel that switches, before its axes follow. -/
def bufferSwapped (ts step n : Nat) (s : State) : State :=
  let u := s.put F.CMB_CHSTAT_PENDING (s.fld F.CMB_CHSTAT_PENDING &&& (15 - 2 ^ n))
  (u.put F.CMB_CHSTAT_BUF (u.fld F.CMB_CHSTAT_BUF ^^^ 2 ^ n)).setReg64 (Reg.CMB_CH_LAST_LO n) (recTime (ts + (s.rdN (pendBuf s n + 8) 2 - 1) * step))

/-- A channel switches at its boundary, when its commit came before it. -/
def SwitchDue (b n : Nat) (s : State) : Prop :=
  bitAt (s.fld F.CMB_CHSTAT_PENDING) n = true ∧ spGet 0 s.cmb.commitAt n < b ∧ bufTs s (pendBuf s n) ≤ b
    ∧ (b - bufTs s (pendBuf s n)) % (s.rdN (pendBuf s n + 12) 4 * 1000) = 0

/-- The axes of the map of a pending buffer. -/
def mappedAxes (n : Nat) (s : State) : List Nat := (axesOn s).filter fun a => bitAt (s.rdN (pendBuf s n + 16) 16) a

theorem switchChannel_idle {b n : Nat} {r : Changes × State} (h : ¬ SwitchDue b n r.2) : switchChannel b r n = r := by
  unfold switchChannel
  refine if_pos ?_
  unfold SwitchDue at h
  simp only [Bool.or_eq_true, Bool.not_eq_true', decide_eq_true_eq, ne_eq]
  by_contra hc
  push Not at hc
  obtain ⟨⟨⟨h1, h2⟩, h3⟩, h4⟩ := hc
  exact h ⟨by simpa using h1, h2, h3, h4⟩

theorem switchChannel_due {b n : Nat} {r : Changes × State} (h : SwitchDue b n r.2) : ∃ u l, u = bufferSwapped (bufTs r.2 (pendBuf r.2 n)) (r.2.rdN (pendBuf r.2 n + 12) 4 * 1000) n r.2
    ∧ l = (axesOn u).filter (fun a => bitAt (r.2.rdN (pendBuf r.2 n + 16) 16) a) ∧ switchChannel b r n = l.foldl (moveAxis b n) (r.1, u) := by
  obtain ⟨h1, h2, h3, h4⟩ := h
  refine ⟨_, _, rfl, rfl, ?_⟩
  unfold switchChannel
  refine if_neg ?_
  simp only [Bool.or_eq_true, Bool.not_eq_true', decide_eq_true_eq, ne_eq, h1, h4, not_true, or_false, Bool.true_eq_false, false_or]
  omega

section
variable (ts step : Nat) {n : Nat} (hn : n < 4) (s : State)

theorem mem_bufferSwapped : (bufferSwapped ts step n s).mem = s.mem := by
  unfold bufferSwapped
  rw [State.setReg64_mem, State.put_mem, State.put_mem]

theorem byte_bufferSwapped (x : Nat) : (bufferSwapped ts step n s).byte x = s.byte x := by
  unfold State.byte
  rw [mem_bufferSwapped]

theorem axesOn_bufferSwapped : axesOn (bufferSwapped ts step n s) = axesOn s := axesOn_runs fun x _ => byte_bufferSwapped ts step s x

theorem cmb_bufferSwapped : (bufferSwapped ts step n s).cmb = s.cmb := by
  unfold bufferSwapped
  rw [State.setReg64_cmb, State.put_cmb, State.put_cmb]

include hn

theorem reg_bufferSwapped {o : Nat} (h1 : o ≠ Reg.CMB_CHSTAT) (h2 : ¬ (0x250040 ≤ o ∧ o < 0x250060)) : (bufferSwapped ts step n s).reg o = s.reg o := by
  unfold bufferSwapped
  dsimp only
  rw [State.setReg64, reg_setReg_ne _ _ (by unfold Reg.CMB_CH_LAST_LO; omega), reg_setReg_ne _ _ (by unfold Reg.CMB_CH_LAST_LO; omega),
    reg_put_ne _ F.CMB_CHSTAT_BUF _ h1, reg_put_ne _ F.CMB_CHSTAT_PENDING _ h1]

theorem lawStep_bufferSwapped : LawStep s (bufferSwapped ts step n s) := by
  have h1 (t : State) (v : Nat) := lawStep_chstat t (f := F.CMB_CHSTAT_PENDING) v rfl
  have h2 (t : State) (v : Nat) := lawStep_chstat t (f := F.CMB_CHSTAT_BUF) v rfl
  have h3 (t : State) (v : Nat) : LawStep t (t.setReg64 (Reg.CMB_CH_LAST_LO n) v) := by
    refine ⟨rfl, rfl, fun o ho => ?_, fun a ha => axState_of_reg ?_, fun h => ⟨rfl, rfl, h, .refl t⟩⟩
    · have hlast : ¬ (0x250040 ≤ o ∧ o < 0x250060) := fun h => ho (.inr (.inr (.inl h)))
      rw [State.setReg64, reg_setReg_ne _ _ (by unfold Reg.CMB_CH_LAST_LO; omega), reg_setReg_ne _ _ (by unfold Reg.CMB_CH_LAST_LO; omega)]
    · rw [State.setReg64, reg_setReg_ne _ _ (by unfold Reg.CMB_CH_LAST_LO Reg.CMB_AX_STAT; omega),
        reg_setReg_ne _ _ (by unfold Reg.CMB_CH_LAST_LO Reg.CMB_AX_STAT; omega)]
  unfold bufferSwapped
  exact ((h1 _ _).trans (h2 _ _)).trans (h3 _ _)

theorem follows_bufferSwapped : Follows s (bufferSwapped ts step n s) := by
  refine ⟨lawStep_bufferSwapped ts step hn s, fun a ha => ?_, fun a => by unfold cmbAxis; rw [cmb_bufferSwapped]; exact .refl _⟩
  rw [axSrc_of_reg (reg_bufferSwapped ts step hn s (by unfold Reg.CMB_AX_STAT Reg.CMB_CHSTAT; omega) (by unfold Reg.CMB_AX_STAT; omega))]

end

theorem bit_clear : ∀ n < 4, ∀ m < 16, bitAt (m &&& (15 - 2 ^ n)) n = false := by decide
theorem bit_toggle : ∀ n < 4, ∀ m < 16, bitAt (m ^^^ 2 ^ n) n = !bitAt m n := by decide
theorem toggle_lt : ∀ n < 4, ∀ m < 16, m ^^^ 2 ^ n < 16 := by decide

theorem bufferSwapped_regs (ts step : Nat) {n : Nat} (hn : n < 4) (s : State) :
    bitAt ((bufferSwapped ts step n s).fld F.CMB_CHSTAT_PENDING) n = false
    ∧ bitAt ((bufferSwapped ts step n s).fld F.CMB_CHSTAT_BUF) n = !(bitAt (s.fld F.CMB_CHSTAT_BUF) n)
    ∧ (bufferSwapped ts step n s).reg64 (Reg.CMB_CH_LAST_LO n) = recTime (ts + (s.rdN (pendBuf s n + 8) 2 - 1) * step) := by
  have hp : s.fld F.CMB_CHSTAT_PENDING < 16 := fld_lt s F.CMB_CHSTAT_PENDING
  have hb : s.fld F.CMB_CHSTAT_BUF < 16 := fld_lt s F.CMB_CHSTAT_BUF
  have hlast (t : State) (v : Nat) : (t.setReg64 (Reg.CMB_CH_LAST_LO n) v).reg Reg.CMB_CHSTAT = t.reg Reg.CMB_CHSTAT := by
    rw [State.setReg64, reg_setReg_ne _ _ (by unfold Reg.CMB_CH_LAST_LO Reg.CMB_CHSTAT; omega), reg_setReg_ne _ _ (by unfold Reg.CMB_CH_LAST_LO Reg.CMB_CHSTAT; omega)]
  have hbuf (t : State) : (t.put F.CMB_CHSTAT_PENDING (t.fld F.CMB_CHSTAT_PENDING &&& (15 - 2 ^ n))).fld F.CMB_CHSTAT_BUF = t.fld F.CMB_CHSTAT_BUF :=
    fld_put_apart t F.CMB_CHSTAT_PENDING F.CMB_CHSTAT_BUF _ (by decide) (by decide) (.inr (by decide))
  unfold bufferSwapped
  refine ⟨?_, ?_, ?_⟩
  · rw [fld_of_reg F.CMB_CHSTAT_PENDING (hlast _ _), fld_put_apart _ F.CMB_CHSTAT_BUF F.CMB_CHSTAT_PENDING _ (by decide) (by decide) (.inl (by decide)),
      fld_put_fits s F.CMB_CHSTAT_PENDING (by decide) (by decide) (Nat.and_le_left.trans_lt hp)]
    exact bit_clear n hn _ hp
  · rw [fld_of_reg F.CMB_CHSTAT_BUF (hlast _ _), hbuf, fld_put_fits _ F.CMB_CHSTAT_BUF (by decide) (by decide) (toggle_lt n hn _ hb)]
    exact bit_toggle n hn _ hb
  · rw [reg64_setReg64_self]
    refine Nat.mod_eq_of_lt ?_
    unfold recTime
    omega

theorem follows_switchChannel {b n : Nat} (hn : n < 4) (r : Changes × State) : Follows r.2 (switchChannel b r n).2 := by
  by_cases h : SwitchDue b n r.2
  · obtain ⟨u, l, hu, hl, e⟩ := switchChannel_due h
    rw [e]
    have hlt : ∀ a ∈ l, a < 128 := fun a ha => (mem_axesOn.1 (List.mem_filter.1 (hl ▸ ha)).1).1
    have hnd : l.Nodup := by rw [hl]; exact ((List.nodup_range).filter _).filter _
    refine Follows.trans ?_ (moveAxis_foldl hn l hlt hnd (r.1, u)).1
    rw [hu]
    exact follows_bufferSwapped _ _ hn _
  · rw [switchChannel_idle h]
    exact .refl _

/-- The switch of a channel (R349). -/
theorem channelSwitches (b : Nat) (n : Fin 4) (s : State) : let base := pendBuf s n
    let ts := bufTs s base
    let step := s.rdN (base + 12) 4 * 1000
    let r := (switchChannel b ([], s) n).2
    let due := bitAt (s.fld F.CMB_CHSTAT_PENDING) n = true ∧ spGet 0 s.cmb.commitAt n < b ∧ ts ≤ b ∧ (b - ts) % step = 0
    (¬ due → switchChannel b ([], s) n = ([], s))
    ∧ (due → bitAt (r.fld F.CMB_CHSTAT_PENDING) n = false ∧ bitAt (r.fld F.CMB_CHSTAT_BUF) n = !(bitAt (s.fld F.CMB_CHSTAT_BUF) n) ∧ r.mem = s.mem
      ∧ r.reg64 (Reg.CMB_CH_LAST_LO n) = recTime (ts + (s.rdN (base + 8) 2 - 1) * step)
      ∧ ∀ a < 128, let c := axOn s a = true ∧ bitAt (s.rdN (base + 16) 16) a = true ∧ (axSrc s a = srcChunk ∨ axSrc s a = srcHold ∨ axSrc s a = srcTraj)
        (c → axSrc r a = srcChunk ∧ r.fld (F.CMB_AX_STAT_CH a) = n.val) ∧ (¬ c → axSrc r a = axSrc s a)) := by
  have hn := n.isLt
  generalize n.val = n at hn
  intro base ts step r due
  refine ⟨fun h => switchChannel_idle (r := ([], s)) h, fun h => ?_⟩
  obtain ⟨u, l, hu, hl, e⟩ := switchChannel_due (r := (([] : Changes), s)) h
  have hlt : ∀ a ∈ l, a < 128 := fun a ha => (mem_axesOn.1 (List.mem_filter.1 (hl ▸ ha)).1).1
  have hnd : l.Nodup := by rw [hl]; exact ((List.nodup_range).filter _).filter _
  obtain ⟨-, hreg, hmem, hax⟩ := moveAxis_foldl (b := b) hn l hlt hnd (([] : Changes), u)
  obtain ⟨hpend, hbuf, hlast⟩ := bufferSwapped_regs ts step hn s
  have hr : r = (l.foldl (moveAxis b n) (([] : Changes), u)).2 := congrArg Prod.snd e
  have hu' : u = bufferSwapped ts step n s := hu
  rw [hr]
  refine ⟨?_, ?_, ?_, ?_, fun a ha => ?_⟩
  · rw [fld_of_reg F.CMB_CHSTAT_PENDING (hreg _ (by decide)), hu', hpend]
  · rw [fld_of_reg F.CMB_CHSTAT_BUF (hreg _ (by decide)), hu', hbuf]
  · rw [hmem, hu', mem_bufferSwapped]
  · rw [reg64_congr (hreg _ (by unfold Reg.CMB_CH_LAST_LO; omega)) (hreg _ (by unfold Reg.CMB_CH_LAST_LO; omega)), hu', hlast]
  · have hsrc : axSrc u a = axSrc s a := by
      rw [hu']
      exact axSrc_of_reg (reg_bufferSwapped ts step hn s (by unfold Reg.CMB_AX_STAT Reg.CMB_CHSTAT; omega) (by unfold Reg.CMB_AX_STAT; omega))
    have hin : a ∈ l ↔ axOn s a = true ∧ bitAt (s.rdN (base + 16) 16) a = true := by
      rw [hl, List.mem_filter, hu', axesOn_bufferSwapped, mem_axesOn]
      exact ⟨fun h => ⟨h.1.2, h.2⟩, fun h => ⟨⟨ha, h.1⟩, h.2⟩⟩
    obtain ⟨h1, h2⟩ := hax a
    dsimp only at h1 h2
    rw [hsrc] at h1 h2
    intro c
    refine ⟨fun hc => h1 ⟨hin.2 ⟨hc.1, hc.2.1⟩, (movable_iff _).2 hc.2.2⟩, fun hc => (h2 fun h => hc ?_).1⟩
    obtain ⟨hon, hmap⟩ := hin.1 h.1
    exact ⟨hon, hmap, (movable_iff _).1 h.2⟩

end Sys2Proof.Machine
end

section
/-! The law of an axis (R352 to R355): its command lies within the limits of the record, its live row is all the memory it writes. -/

namespace Sys2Proof.Machine

/-! ### Signed values in bytes -/

theorem recS_range (r : List Byte) (i : Nat) : -(2 ^ 15) ≤ recS r i 2 ∧ recS r i 2 < 2 ^ 15 := by
  unfold recS sextN wrap uwrap
  rw [show smax (8 * 2) = 32767 from rfl]
  norm_num
  split <;> omega

theorem sextN_uwrap16 {v : Int} (h1 : -(2 ^ 15) ≤ v) (h2 : v < 2 ^ 15) : sextN ((uwrap v 16).toNat % 256 ^ 2) 16 = v := by
  unfold sextN wrap uwrap
  rw [show smax 16 = 32767 from rfl]
  norm_num
  split <;> omega

theorem sextN_word32 {v : Int} (h1 : -(2 ^ 31) ≤ v) (h2 : v < 2 ^ 31) : sextN (word32 v % 256 ^ 4) 32 = v := by
  unfold sextN word32 wrap uwrap
  rw [show smax 32 = 2147483647 from rfl]
  norm_num
  split <;> omega

/-! ### The row -/

/-- The row before the command: law states, integrator, gain. -/
def rowHead (o : LawOut) : List Byte := o.x.flatMap (fun v => leBytes 2 (uwrap v 16).toNat) ++ leBytes 4 (word32 o.ia) ++ leBytes 2 (uwrap o.g 16).toNat

/-- The row before the sample: with the command and the setpoint. -/
def rowLaw (o : LawOut) (ps vs : Int) : List Byte := rowHead o ++ leBytes 2 (uwrap o.u 16).toNat ++ leBytes 4 (word32 ps) ++ leBytes 4 (word32 vs)

section
variable (o : LawOut) (ps vs pm vm mr plat : Int) (oc run : Nat) (ended : Bool)

theorem liveRow_cmd : ∃ b, liveRow o ps vs pm vm mr plat oc run ended = rowHead o ++ (leBytes 2 (uwrap o.u 16).toNat ++ b) := by
  unfold liveRow rowHead
  simp only [List.append_assoc]
  exact ⟨_, rfl⟩

theorem liveRow_pos : ∃ b, liveRow o ps vs pm vm mr plat oc run ended = rowLaw o ps vs ++ (leBytes 4 (word32 pm) ++ b) := by
  unfold liveRow rowLaw rowHead
  simp only [List.append_assoc]
  exact ⟨_, rfl⟩

theorem liveRow_vel : ∃ b, liveRow o ps vs pm vm mr plat oc run ended = (rowLaw o ps vs ++ leBytes 4 (word32 pm)) ++ (leBytes 4 (word32 vm) ++ b) := by
  unfold liveRow rowLaw rowHead
  simp only [List.append_assoc]
  exact ⟨_, rfl⟩

end

theorem length_rowHead {o : LawOut} (hx : o.x.length = 8) : (rowHead o).length = 0x16 := by
  unfold rowHead
  simp [leBytes_length, List.length_flatMap, hx]

theorem length_rowLaw {o : LawOut} (hx : o.x.length = 8) (ps vs : Int) : (rowLaw o ps vs).length = 0x20 := by
  unfold rowLaw
  simp [leBytes_length, length_rowHead hx]

theorem length_liveRow (o : LawOut) (hx : o.x.length = 8) (ps vs pm vm mr plat : Int) (oc run : Nat) (ended : Bool) :
    (liveRow o ps vs pm vm mr plat oc run ended).length = 64 := by
  unfold liveRow
  simp [leBytes_length, List.length_flatMap, hx]

/-- A value of a row is read back where it stands. -/
theorem rdN_wrBytes_slice (s : State) (base : Nat) {row a b : List Byte} {n v : Nat} (h : row = a ++ (leBytes n v ++ b)) :
    (s.wrBytes base row).rdN (base + a.length) n = v % 256 ^ n := by
  have hlen : a.length + n ≤ row.length := by rw [h]; simp [leBytes_length]
  unfold State.rdN
  rw [bytes_wrBytes_in s hlen, h, List.drop_left, List.take_left' (leBytes_length n v), leNat_leBytes]

/-! ### The law -/

/-- What the law of an axis gives: stance hold or the axis law (R352, R355). -/
def lawOf (a : Nat) (r v : List Byte) (pm vm tm : Int) (s : State) : LawOut :=
  let x := cmbAxis s a
  let held := if x.resume.isSome then some (recS v 0x16 2) else none
  if axSrc s a = srcHold then holdLaw r (ints16 v 0 8) (recS v 0x10 4) (leAt v 0x14 2) x.plat pm vm held
  else axisLaw r (ints16 v 0 8) (recS v 0x10 4) (leAt v 0x14 2) x.ps x.vs pm vm tm (axSrc s a = srcChunk) held

theorem length_lawOf (a : Nat) (r v : List Byte) (pm vm tm : Int) (s : State) : (lawOf a r v pm vm tm s).x.length = 8 := by
  unfold lawOf
  dsimp only
  split
  · unfold holdLaw
    dsimp only
    split
    · exact List.length_replicate
    · simp [ints16]
  · unfold axisLaw
    simp

theorem lawOf_within (a : Nat) {r v : List Byte} (pm vm tm : Int) (s : State) (h : recS r 0xF0 2 ≤ recS r 0xF2 2) :
    recS r 0xF0 2 ≤ (lawOf a r v pm vm tm s).u ∧ (lawOf a r v pm vm tm s).u ≤ recS r 0xF2 2 := by
  have hclamp (x : Int) : recS r 0xF0 2 ≤ min (max x (recS r 0xF0 2)) (recS r 0xF2 2) ∧ min (max x (recS r 0xF0 2)) (recS r 0xF2 2) ≤ recS r 0xF2 2 := by omega
  unfold lawOf
  dsimp only
  split
  · exact hclamp _
  · exact hclamp _

/-- What the observer gives for an axis (R354). -/
def observed (a : Nat) (r v : List Byte) (pm vm : Int) (s : State) : Int × Nat × Option Int × BitVec 4 :=
  if bitAt (axCfg r) 3 && (cmbAxis s a).seen then observe r (s.fld F.CMB_PERIOD_PERUS) (cmbAxis s a).pp (cmbAxis s a).vp pm vm (recS v 0x28 4) (leAt v 0x2C 1)
  else (recS v 0x28 4, leAt v 0x2C 1, none, 0)

/-- The axis's registers that the law writes. -/
def lawShown (a : Nat) (o : LawOut) (fl : BitVec 4) (s : State) : State :=
  flagSat a (o.fl ||| fl) ((s.put (F.CMB_AX_MISS_RUN a) 0).put (F.CMB_AX_STAT_LIM a) (ofBool o.lim))

/-- The report of a resume, and its end. -/
def resumeDone (a : Nat) (resume : Option Nat) (u : Int) (s : State) : State :=
  modAxis a (fun x => { x with resume := none }) (match resume with
    | some st => cmbEvent 0x7004 0 a st (word32 u) 0 s
    | none => s)

/-- The observer's fault, unless it is overridden. -/
def observerFault (a : Nat) (res : Option Int) (s : State) : State := match res with
  | some res => if s.flag F.CMB_OBSOVR_OFF then s else faultAxis a 2 (word32 res) s
  | none => s

theorem place_axRec {a : Nat} (ha : a < 128) (x : Nat) : place (axRec a) ≠ some (.dram x) := by
  unfold place axRec cmbWin
  simp only [show ¬ 0x2021000000 + 0x800 * a < 0x1800000000 by omega, if_false, show ¬ 2 ^ 48 ≤ 0x2021000000 + 0x800 * a by omega]
  split
  · split <;> simp
  · repeat' split
    all_goals simp

theorem place_axLive {a : Nat} (ha : a < 128) (x : Nat) : place (axLive a) ≠ some (.dram x) := by
  unfold place axLive cmbWin
  simp only [show ¬ 0x2021000000 + 0xC0000 + 0x200 * a < 0x1800000000 by omega, if_false, show ¬ 2 ^ 48 ≤ 0x2021000000 + 0xC0000 + 0x200 * a by omega]
  split
  · split <;> simp
  · repeat' split
    all_goals simp

theorem memWrite_axLive {a : Nat} (ha : a < 128) {bs : List Byte} (hb : bs.length = 64) {s : State} (hs : s.memsys.synd = []) :
    memWrite cmbOid (axLive a) bs s = s.wrBytes (axLive a) bs := by
  refine memWrite_plain (correctPartial_sound (suspectWords_sound hs _ _)) (pieceBytes_free fun i hi b => ?_) (place_axLive ha)
  unfold sdbLocked
  rw [decide_eq_false (by unfold axLive cmbWin; omega)]
  rfl

theorem computeAxis_eq {a : Nat} (ha : a < 128) (pm vm tm : Int) {s : State} (hs : s.memsys.synd = []) :
    ∃ v o ob, o = lawOf a (axRecord s a) v pm vm tm s ∧ ob = observed a (axRecord s a) v pm vm s ∧ ∃ t, t = lawShown a o ob.2.2.2 s ∧
      computeAxis a pm vm tm s = observerFault a ob.2.2.1 (resumeDone a (cmbAxis s a).resume o.u
        (t.wrBytes (axLive a) (liveRow o (cmbAxis s a).ps (cmbAxis s a).vs pm vm ob.1 (cmbAxis s a).plat ob.2.1 0 (t.flag (F.CMB_AX_STAT_ENDED a))))) := by
  refine ⟨s.bytes (axLive a) 0x40, _, _, rfl, rfl, _, rfl, ?_⟩
  have hlen := length_lawOf a (axRecord s a) (s.bytes (axLive a) 0x40) pm vm tm s
  have hshown (o : LawOut) (fl : BitVec 4) : (lawShown a o fl s).memsys.synd = [] := hs
  rw [← memWrite_axLive ha (length_liveRow _ hlen _ _ _ _ _ _ _ _ _) (hshown _ _)]
  unfold computeAxis cmbRead
  rw [memRead_sound (suspectWords_sound hs _ _) (place_axRec ha)]
  dsimp only
  rw [memRead_sound (suspectWords_sound hs _ _) (place_axLive ha)]
  rfl

/-- The parts of a law that follow the row write no memory and no miss register. -/
theorem after_row {a : Nat} (ha : a < 128) (resume : Option Nat) (u : Int) (res : Option Int) (s : State) :
    (observerFault a res (resumeDone a resume u s)).mem = s.mem
    ∧ (observerFault a res (resumeDone a resume u s)).reg (Reg.CMB_AX_MISS a) = s.reg (Reg.CMB_AX_MISS a) := by
  have h1 : ∃ t, EventStep s t ∧ resumeDone a resume u s = modAxis a (fun x => { x with resume := none }) t := by
    unfold resumeDone
    cases resume with
    | none => exact ⟨s, .refl s, rfl⟩
    | some st => exact ⟨_, eventStep_cmbEvent (by decide) s 0, rfl⟩
  obtain ⟨t, ht, e⟩ := h1
  rw [e]
  have hm : (modAxis a (fun x => { x with resume := none }) t).mem = s.mem ∧ (modAxis a (fun x => { x with resume := none }) t).reg (Reg.CMB_AX_MISS a) = s.reg (Reg.CMB_AX_MISS a) :=
    ⟨ht.mem, ht.reg _ (not_evReg_axMiss ha)⟩
  generalize modAxis a (fun x => { x with resume := none }) t = w at hm
  have hf (v : Nat) : (faultAxis a 2 v w).mem = w.mem ∧ (faultAxis a 2 v w).reg (Reg.CMB_AX_MISS a) = w.reg (Reg.CMB_AX_MISS a) := by
    unfold faultAxis
    split
    · exact ⟨rfl, rfl⟩
    · have hev (x y z : Nat) (t : State) := eventStep_axisEvent (code := 0x7002) (sev := 3) (a := a) (a1 := x) (a2 := y) (a3 := z) (by decide) t
      refine ⟨(hev _ _ _ _).mem.trans (State.put_mem _ _ _), ((hev _ _ _ _).reg _ (not_evReg_axMiss ha)).trans (reg_put_ne w (F.CMB_AX_STAT_STATE a) _ ?_)⟩
      exact (axStat_ne_miss ha).symm
  unfold observerFault
  cases res with
  | none => exact hm
  | some r =>
    dsimp only
    split
    · exact hm
    · exact ⟨(hf _).1.trans hm.1, (hf _).2.trans hm.2⟩

theorem rdN_of_mem {s t : State} (h : t.mem = s.mem) (a n : Nat) : t.rdN a n = s.rdN a n := by
  unfold State.rdN State.bytes State.byte
  rw [h]

/-- The law of an axis (R352 to R354). -/
theorem lawComputes (a : Fin 128) (pm vm tm : Int) (s : State) : let r := axRecord s a
    let t := computeAxis a pm vm tm s
    s.memsys.synd = [] → -(2 ^ 31) ≤ pm → pm < 2 ^ 31 → -(2 ^ 31) ≤ vm → vm < 2 ^ 31 →
    (recS r 0xF0 2 ≤ recS r 0xF2 2 → recS r 0xF0 2 ≤ axU t a ∧ axU t a ≤ recS r 0xF2 2)
    ∧ liveS t a 0x20 4 = pm ∧ liveS t a 0x24 4 = vm ∧ t.fld (F.CMB_AX_MISS_RUN a) = 0
    ∧ ∀ x, x < axLive a ∨ axLive a + 64 ≤ x → t.byte x = s.byte x := by
  intro r t hs hp1 hp2 hv1 hv2
  have ha := a.isLt
  have ht : t = computeAxis a pm vm tm s := rfl
  have hr : r = axRecord s a := rfl
  clear_value t r
  obtain ⟨v, o, ob, ho, -, u, hu, e⟩ := computeAxis_eq ha pm vm tm hs
  generalize hrow : liveRow o _ _ pm vm _ _ _ _ _ = row at e
  obtain ⟨hmem, hmiss⟩ := after_row ha (cmbAxis s a).resume o.u ob.2.2.1 (u.wrBytes (axLive a) row)
  rw [← e, ← ht] at hmem hmiss
  have hx : o.x.length = 8 := by rw [ho]; exact length_lawOf _ _ _ _ _ _ _
  have hlen : row.length = 64 := by rw [← hrow]; exact length_liveRow o hx _ _ _ _ _ _ _ _ _
  obtain ⟨bu, hbu⟩ := liveRow_cmd o (cmbAxis s a).ps (cmbAxis s a).vs pm vm ob.1 (cmbAxis s a).plat ob.2.1 0 (u.flag (F.CMB_AX_STAT_ENDED a))
  obtain ⟨bp, hbp⟩ := liveRow_pos o (cmbAxis s a).ps (cmbAxis s a).vs pm vm ob.1 (cmbAxis s a).plat ob.2.1 0 (u.flag (F.CMB_AX_STAT_ENDED a))
  obtain ⟨bv, hbv⟩ := liveRow_vel o (cmbAxis s a).ps (cmbAxis s a).vs pm vm ob.1 (cmbAxis s a).plat ob.2.1 0 (u.flag (F.CMB_AX_STAT_ENDED a))
  have hcmd := rdN_wrBytes_slice u (axLive a) (hrow.symm.trans hbu)
  have hpos := rdN_wrBytes_slice u (axLive a) (hrow.symm.trans hbp)
  have hvel := rdN_wrBytes_slice u (axLive a) (hrow.symm.trans hbv)
  rw [length_rowHead hx] at hcmd
  rw [length_rowLaw hx] at hpos
  rw [List.length_append, length_rowLaw hx, leBytes_length] at hvel
  refine ⟨fun hle => ?_, ?_, ?_, ?_, fun x hx => ?_⟩
  · rw [hr] at hle ⊢
    obtain ⟨h1, h2⟩ := lawOf_within a (v := v) pm vm tm s hle
    have hlo := recS_range (axRecord s a) 0xF0
    have hhi := recS_range (axRecord s a) 0xF2
    have hU : axU t a = o.u := by
      unfold axU liveS
      rw [rdN_of_mem hmem, hcmd]
      exact sextN_uwrap16 (by rw [ho]; omega) (by rw [ho]; omega)
    rw [hU, ho]
    exact ⟨h1, h2⟩
  · unfold liveS
    rw [rdN_of_mem hmem, hpos]
    exact sextN_word32 hp1 hp2
  · unfold liveS
    rw [rdN_of_mem hmem]
    exact (congrArg (sextN · 32) hvel).trans (sextN_word32 hv1 hv2)
  · have hreg : t.reg (F.CMB_AX_MISS_RUN a).reg = (s.put (F.CMB_AX_MISS_RUN a) 0).reg (F.CMB_AX_MISS_RUN a).reg := by
      have h1 (w : State) (z : Nat) : (w.put (F.CMB_AX_STAT_LIM a) z).reg (Reg.CMB_AX_MISS a) = w.reg (Reg.CMB_AX_MISS a) :=
        reg_put_ne w (F.CMB_AX_STAT_LIM a) z (axStat_ne_miss ha).symm
      have h2 (w : State) (fl : BitVec 4) : (flagSat a fl w).reg (Reg.CMB_AX_MISS a) = w.reg (Reg.CMB_AX_MISS a) :=
        reg_put_ne w (F.CMB_AX_FLAGS_SAT_DZ_ACCF_SCLR a) _ (by unfold Reg.CMB_AX_MISS F.CMB_AX_FLAGS_SAT_DZ_ACCF_SCLR; dsimp only; omega)
      have h3 : u.reg (Reg.CMB_AX_MISS a) = (s.put (F.CMB_AX_MISS_RUN a) 0).reg (Reg.CMB_AX_MISS a) := by
        rw [hu]; unfold lawShown; rw [h2, h1]
      exact (hmiss.trans (State.wrBytes_reg _ _ _ _)).trans h3
    rw [fld_of_reg (F.CMB_AX_MISS_RUN a) hreg]
    exact fld_put_fits s (F.CMB_AX_MISS_RUN a) (by show 16 ≤ 23; decide) (by show 23 < 32; decide) (by show 0 < 2 ^ 8; decide)
  · have hbyte : t.byte x = (u.wrBytes (axLive a) row).byte x := by unfold State.byte; rw [hmem]
    have hum : u.mem = s.mem := by rw [hu]; unfold lawShown flagSat; rw [State.put_mem, State.put_mem, State.put_mem]
    rw [hbyte, byte_wrBytes_out u (by rw [hlen]; exact hx)]
    unfold State.byte
    rw [hum]

end Sys2Proof.Machine
end

section
/-! Samples of axes (R354, R358, R363), the release of commands (R359, R363, R377), and CLEAR (R358). -/

namespace Sys2Proof.Machine

section
variable {a : Nat} (ha : a < 128) (pm : Int) (s : State)

/-- An axis that waits for its first valid sample takes its position from it. -/
def positionTaken (a : Nat) (pm : Int) (s : State) : State := modAxis a (fun x => { x with plat := pm, wait := false }) s

theorem captureSample_eq : captureSample a pm s = if !(cmbAxis s a).wait then s
    else if axSrc s a = srcSto then positionTaken a pm s else (updateSetpoint (s.cmb.last.getD 0) ([], positionTaken a pm s) a).2 := rfl

include ha

theorem captureSample_keeps : axState (captureSample a pm s) a = axState s a ∧ (axSrc (captureSample a pm s) a = srcSto ↔ axSrc s a = srcSto) := by
  rw [captureSample_eq]
  split
  · exact ⟨rfl, .rfl⟩
  split
  · exact ⟨rfl, .rfl⟩
  · have h := follows_updateSetpoint ha (s.cmb.last.getD 0) (([] : Changes), positionTaken a pm s)
    exact ⟨h.step.state a ha, h.sto a ha⟩

theorem captureSample_waiting (h : (cmbAxis s a).wait = true) :
    (cmbAxis (captureSample a pm s) a).plat = pm ∧ (cmbAxis (captureSample a pm s) a).wait = false := by
  have ht : cmbAxis (positionTaken a pm s) a = { cmbAxis s a with plat := pm, wait := false } := by
    unfold positionTaken
    rw [cmbAxis_modAxis, if_pos rfl]
  rw [captureSample_eq, if_neg (by rw [h]; decide)]
  split
  · rw [ht]
    exact ⟨rfl, rfl⟩
  · obtain ⟨p, v, n, e⟩ := (follows_updateSetpoint ha (s.cmb.last.getD 0) (([] : Changes), positionTaken a pm s)).axis a
    dsimp only at e
    rw [e, ht]
    exact ⟨rfl, rfl⟩

end

/-- Losing an ACTIVE axis (R358). -/
theorem loseAxis_active {a : Nat} (ha : a < 128) {s : State} (h : axState s a = axActive) :
    axState (loseAxis a s) a = axLost ∧ LastEvent (loseAxis a s) 0x7003 0x31 ∧ Out.line .axisFault ∈ (loseAxis a s).out ∧ RunsOnly s (loseAxis a s) := by
  refine ⟨by rw [axState_loseAxis ha, if_pos ⟨rfl, h⟩], ?_, ?_, (axisStep_loseAxis ha s).runs⟩
  · unfold loseAxis
    rw [if_neg (not_not.2 h)]
    exact lastEvent_axisEvent (by decide) _
  · unfold loseAxis
    rw [if_neg (not_not.2 h)]
    exact out_axisEvent _ _ _ _ _ _ _

theorem samplesOfAxis (a : Fin 128) (blk : List Byte) (s : State) : let valid := bitAt (leAt blk 10 2) 0
    let pm := sextN (leAt blk 0 4) 32
    let vm := sextN (leAt blk 4 4) 32
    let u := modAxis a (fun x => { x with valid := valid, done := true }) s
    let c := captureSample a pm u
    let seen := modAxis a (fun x => { x with seen := true, pp := pm, vp := vm })
    (valid = false → axState s a ≠ axActive → axisSample a blk s = u)
    ∧ (valid = false → axState s a = axActive → axState (axisSample a blk s) a = axLost ∧ LastEvent (axisSample a blk s) 0x7003 0x31
      ∧ Out.line .axisFault ∈ (axisSample a blk s).out ∧ RunsOnly s (axisSample a blk s))
    ∧ (valid = true → axState s a = axAsto → axisSample a blk s = c)
    ∧ (valid = true → (cmbAxis s a).wait = true → (cmbAxis c a).plat = pm ∧ (cmbAxis c a).wait = false)
    ∧ (valid = true → axState s a = axActive → axSrc s a = srcSto → axisSample a blk s = seen c)
    ∧ (valid = true → axState s a = axActive → axSrc s a ≠ srcSto → axisSample a blk s = seen (computeAxis a pm vm (sextN (leAt blk 8 2) 16) c)) := by
  have ha := a.isLt
  intro valid pm vm u c seen
  have hlost : valid = false → axisSample a blk s = loseAxis a u := fun hv => if_pos (by rw [show bitAt (leAt blk 10 2) 0 = false from hv]; rfl)
  have hu : axState u a = axState s a := rfl
  have hustep : RunsOnly s u := runsOnly_of_mem (modAxis_mem s a _)
  have husrc : axSrc u a = axSrc s a := rfl
  have huwait : (cmbAxis u a).wait = (cmbAxis s a).wait := by
    show (cmbAxis (modAxis a _ s) a).wait = _
    rw [cmbAxis_modAxis, if_pos rfl]
  obtain ⟨hc, hsto⟩ := captureSample_keeps ha pm u
  have hgood : valid = true → axisSample a blk s
      = (let s := if decide (axState c a = axLost) && bitAt (axCfg (axRecord c a)) 1 then resumeAxis a c else c
        if axState s a ≠ axActive then s else seen (if axSrc s a = srcSto then s else computeAxis a pm vm (sextN (leAt blk 8 2) 16) s)) :=
    fun hv => if_neg (by rw [show bitAt (leAt blk 10 2) 0 = true from hv]; decide)
  have hplain (hv : valid = true) (hl : axState s a ≠ axLost) : axisSample a blk s
      = if axState c a ≠ axActive then c else seen (if axSrc c a = srcSto then c else computeAxis a pm vm (sextN (leAt blk 8 2) 16) c) := by
    have hno : (decide (axState c a = axLost) && bitAt (axCfg (axRecord c a)) 1) = false := by
      rw [decide_eq_false (by rw [hc, hu]; exact hl)]
      rfl
    rw [hgood hv, hno]
    rfl
  refine ⟨fun hv hs => ?_, fun hv hs => ?_, fun hv hs => ?_, fun _ hw => captureSample_waiting ha pm u (huwait.trans hw), fun hv hs hsrc => ?_, fun hv hs hsrc => ?_⟩
  · rw [hlost hv]
    exact if_pos (by rw [hu]; exact hs)
  · obtain ⟨h1, h2, h3, h4⟩ := loseAxis_active ha (hu.trans hs)
    rw [hlost hv]
    exact ⟨h1, h2, h3, runsOnly_trans hustep h4⟩
  · rw [hplain hv (by rw [hs]; decide), if_pos (by rw [hc, hu, hs]; decide)]
  · rw [hplain hv (by rw [hs]; decide), if_neg (by rw [hc, hu, hs]; decide), if_pos (hsto.2 (husrc.trans hsrc))]
  · rw [hplain hv (by rw [hs]; decide), if_neg (by rw [hc, hu, hs]; decide), if_neg fun h => hsrc (husrc.symm.trans (hsto.1 h))]

/-! ### Laws and commands of a port -/

theorem notReady (port : Fin 16) (s : State) (h : portReady s port = false) :
    exec (.commandRelease port) s = .next s ∧ ∀ axes, exec (.axisLawCompute port axes) s = .next s := by
  refine ⟨?_, fun axes => ?_⟩
  · rw [exec_commandRelease]
    exact if_pos (by rw [h]; rfl)
  · rw [exec_axisLawCompute]
    exact if_pos (by rw [h]; rfl)

theorem foldl_once {α : Type} (l : List Nat) (hd : l.Nodup) (a : Nat) (ha : a ∈ l) (f : α → Nat → α) (hf : ∀ s, ∀ x ∈ l, x ≠ a → f s x = s) (s : α) : l.foldl f s = f s a := by
  have hid (l : List Nat) (hl : ∀ s, ∀ x ∈ l, f s x = s) (s : α) : l.foldl f s = s := by
    induction l generalizing s with
    | nil => rfl
    | cons x l ih => rw [List.foldl_cons, hl s x List.mem_cons_self]; exact ih (fun s y hy => hl s y (List.mem_cons_of_mem _ hy)) s
  induction l generalizing s with
  | nil => exact absurd ha (by simp)
  | cons x l ih =>
    obtain ⟨hx, hd⟩ := List.nodup_cons.1 hd
    rw [List.foldl_cons]
    by_cases e : x = a
    · subst e
      exact hid l (fun s y hy => hf s y (List.mem_cons_of_mem _ hy) fun h => hx (h ▸ hy)) _
    · rw [hf s x List.mem_cons_self e]
      exact ih hd ((List.mem_cons.1 ha).resolve_left fun h => e h.symm) (fun s y hy => hf s y (List.mem_cons_of_mem _ hy)) s

theorem bitAt_single {a : Nat} (ha : a < 128) (b : Nat) : bitAt (BitVec.ofNat 128 (2 ^ a)).toNat b = decide (a = b) := by
  rw [BitVec.toNat_ofNat, Nat.mod_eq_of_lt (Nat.pow_lt_pow_right (by decide) ha)]
  exact Nat.testBit_two_pow

theorem lawOfOneAxis (port : Fin 16) (a : Fin 128) (d : List Byte) (s : State) : let q := axPlace s a
    Calm s → portReady s port = true → axOn s a = true → q.1 = port.val → (cmbAxis s a).done = false →
    (rlkPort s port).got.find? (fun e => e.1 = q.2.1) = some (q.2.1, d) →
    exec (.axisLawCompute port (BitVec.ofNat 128 (2 ^ a.val))) s = .next (hwdServe (axisSample a ((d.drop (8 + 16 * q.2.2)).take 16) s)) := by
  intro q _ hready hon hport hdone hfind
  have hbit := bitAt_single a.isLt
  rw [exec_axisLawCompute]
  refine (if_neg (by rw [hready]; decide)).trans (congrArg (fun t => Host.Outcome.next (hwdServe t)) ?_)
  rw [foldl_once (List.range 128) List.nodup_range a.val (List.mem_range.2 a.isLt)]
  · rw [if_pos]
    · rw [show (axPlace s a).2.1 = q.2.1 from rfl, hfind]
    · rw [hbit, hon, hdone]
      simp only [decide_true, Bool.true_and, Bool.not_false, Bool.and_true, decide_eq_true_eq]
      exact hport
  · intro t x _ hx
    rw [if_neg]
    rw [hbit, decide_eq_false (fun h => hx h.symm)]
    simp

end Sys2Proof.Machine
end

section
/-! The release of a port's commands (R359, R363, R377) and CLEAR (R358). -/

namespace Sys2Proof.Machine

/-! ### Misses (R359) -/

/-- From `s` to `t` nothing of axis `a` changed, nor what the laws of a port wait for. -/
structure AxisSame (a : Nat) (s t : State) : Prop where
  stat : t.reg (Reg.CMB_AX_STAT a) = s.reg (Reg.CMB_AX_STAT a)
  miss : t.reg (Reg.CMB_AX_MISS a) = s.reg (Reg.CMB_AX_MISS a)
  run : t.byte (axLive a + 0x2D) = s.byte (axLive a + 0x2D)
  cmb : t.cmb = s.cmb
  rlk : t.rlk = s.rlk
  runs : RunsOnly s t

namespace AxisSame
variable {a : Nat} {s t u : State}
theorem refl (a : Nat) (s : State) : AxisSame a s s := ⟨rfl, rfl, rfl, rfl, rfl, runsOnly_refl s⟩
theorem trans (h : AxisSame a s t) (g : AxisSame a t u) : AxisSame a s u :=
  ⟨g.stat.trans h.stat, g.miss.trans h.miss, g.run.trans h.run, g.cmb.trans h.cmb, g.rlk.trans h.rlk, runsOnly_trans h.runs g.runs⟩
end AxisSame

section
variable {a b : Nat} (ha : a < 128) (hb : b < 128)

/-- The parts of a miss: its count and run, its report, its fault. -/
theorem missAxis_eq (b bits : Nat) (s : State) : ∃ run t u, run = min (s.fld (F.CMB_AX_MISS_RUN b) + 1) 255 ∧ t = setRun b run (s.incHold (F.CMB_AX_MISS_CNT b))
    ∧ EventStep t u ∧ missAxis b bits s = if 3 ≤ run then faultAxis b 1 0 u else u := by
  refine ⟨_, _, if min (s.fld (F.CMB_AX_MISS_RUN b) + 1) 255 = 1 then cmbEvent 0x7001 1 b bits
    ((setRun b (min (s.fld (F.CMB_AX_MISS_RUN b) + 1) 255) (s.incHold (F.CMB_AX_MISS_CNT b))).reg Reg.CMB_CYC_LO).toNat
    (word32 (axU (setRun b (min (s.fld (F.CMB_AX_MISS_RUN b) + 1) 255) (s.incHold (F.CMB_AX_MISS_CNT b))) b))
    (setRun b (min (s.fld (F.CMB_AX_MISS_RUN b) + 1) 255) (s.incHold (F.CMB_AX_MISS_CNT b)))
    else setRun b (min (s.fld (F.CMB_AX_MISS_RUN b) + 1) 255) (s.incHold (F.CMB_AX_MISS_CNT b)), rfl, rfl, ?_, rfl⟩
  split
  · exact eventStep_cmbEvent (by decide) _ 0
  · exact .refl _

theorem cmb_incHold (s : State) (f : RegField) : (s.incHold f).cmb = s.cmb := by
  unfold State.incHold
  split <;> rfl

theorem cmb_setRun (b n : Nat) (s : State) : (setRun b n s).cmb = s.cmb := by
  unfold setRun
  rw [State.wrN_cmb, State.put_cmb]

theorem reg_incHold_ne (s : State) {f : RegField} {o : Nat} (h : o ≠ f.reg) : (s.incHold f).reg o = s.reg o := by
  unfold State.incHold
  split
  · exact reg_put_ne s f _ h
  · rfl

theorem reg_setRun_ne (b n : Nat) (s : State) {o : Nat} (h : o ≠ Reg.CMB_AX_MISS b) : (setRun b n s).reg o = s.reg o :=
  (State.wrN_reg _ _ _ _ _).trans (reg_put_ne s (F.CMB_AX_MISS_RUN b) n h)

theorem axMiss_ne {a b : Nat} (h : a ≠ b) : Reg.CMB_AX_MISS a ≠ Reg.CMB_AX_MISS b := by unfold Reg.CMB_AX_MISS; omega

theorem cmb_faultAxis (b reason value : Nat) (s : State) : (faultAxis b reason value s).cmb = s.cmb := by
  unfold faultAxis
  split
  · rfl
  · have h (x y z : Nat) (t : State) : (axisEvent 0x7002 3 b x y z t).cmb = t.cmb :=
      (congrArg State.cmb (eventStep_axisEvent (code := 0x7002) (sev := 3) (a := b) (a1 := x) (a2 := y) (a3 := z) (by decide) t).rest :)
    exact (h _ _ _ _).trans (State.put_cmb _ _ _)

include ha hb in
theorem missAxis_other (h : b ≠ a) (bits : Nat) (s : State) : AxisSame a s (missAxis b bits s) := by
  have hstep := axisStep_missAxis hb bits s
  obtain ⟨run, t, u, -, ht, hu, e⟩ := missAxis_eq b bits s
  have htcmb : t.cmb = s.cmb := by rw [ht, cmb_setRun, cmb_incHold]
  have htreg {o : Nat} (ho : o ≠ Reg.CMB_AX_MISS b) : t.reg o = s.reg o := by
    rw [ht, reg_setRun_ne b run _ ho, reg_incHold_ne s (f := F.CMB_AX_MISS_CNT b) ho]
  have hucmb : u.cmb = s.cmb := Eq.trans (congrArg State.cmb hu.rest :) htcmb
  have hfreg {o : Nat} (ho : o ≠ Reg.CMB_AX_STAT b) (he : ¬ EvReg o) : (faultAxis b 1 0 u).reg o = u.reg o := by
    unfold faultAxis
    split
    · rfl
    · exact ((eventStep_axisEvent (by decide) _).reg _ he).trans (reg_put_ne u (F.CMB_AX_STAT_STATE b) _ ho)
  have hreg {o : Nat} (h1 : o ≠ Reg.CMB_AX_MISS b) (h2 : o ≠ Reg.CMB_AX_STAT b) (he : ¬ EvReg o) : (missAxis b bits s).reg o = s.reg o := by
    rw [e]
    split
    · rw [hfreg h2 he, hu.reg o he, htreg h1]
    · rw [hu.reg o he, htreg h1]
  refine ⟨hreg (axStat_ne_miss ha) (axStat_ne fun e => h e.symm) (not_evReg_axStat ha), hreg (axMiss_ne fun e => h e.symm) (axStat_ne_miss hb).symm (not_evReg_axMiss ha), ?_, ?_,
    hstep.rlk, hstep.runs⟩
  · have hm : (missAxis b bits s).mem = t.mem := by
      rw [e]
      split
      · rw [(regStep_faultAxis hb 1 0 u).mem, hu.mem]
      · exact hu.mem
    have hbyte : (missAxis b bits s).byte (axLive a + 0x2D) = t.byte (axLive a + 0x2D) := by unfold State.byte; rw [hm]
    rw [hbyte, ht]
    unfold setRun
    rw [byte_wrN_outside _ _ (by unfold axLive; omega)]
    unfold State.byte
    rw [State.put_mem, (RegStep.incHold (P := fun _ => True) s (f := F.CMB_AX_MISS_CNT b) trivial).mem]
  · rw [e]
    split
    · rw [cmb_faultAxis, hucmb]
    · exact hucmb

include ha in
/-- A miss of an ACTIVE axis (R359). -/
theorem missAxis_self (bits : Nat) {s : State} (hs : axState s a = axActive) :
    (missAxis a bits s).fld (F.CMB_AX_MISS_RUN a) = min (s.fld (F.CMB_AX_MISS_RUN a) + 1) 255
    ∧ ((missAxis a bits s).byte (axLive a + 0x2D)).toNat = min (s.fld (F.CMB_AX_MISS_RUN a) + 1) 255
    ∧ (2 ≤ s.fld (F.CMB_AX_MISS_RUN a) → axState (missAxis a bits s) a = axFault) := by
  obtain ⟨run, t, u, hrun, ht, hu, e⟩ := missAxis_eq a bits s
  have hrun255 : run < 256 := by omega
  have htfld : t.fld (F.CMB_AX_MISS_RUN a) = run := by
    rw [ht]
    unfold setRun
    rw [State.wrN_fld]
    exact fld_put_fits _ (F.CMB_AX_MISS_RUN a) (by show 16 ≤ 23; decide) (by show 23 < 32; decide) (by show run < 2 ^ 8; omega)
  have hbyte : (t.byte (axLive a + 0x2D)).toNat = run := by rw [ht]; exact byte_wrN_one _ _ hrun255
  have hstat : axState u a = axActive := by
    rw [axState_of_reg (hu.reg _ (not_evReg_axStat ha)), ht, axState_of_reg (reg_setRun_stat ha run _), ← hs]
    exact axState_of_reg (reg_incHold_ne s (f := F.CMB_AX_MISS_CNT a) (axStat_ne_miss ha))
  have hfault : (faultAxis a 1 0 u).reg (Reg.CMB_AX_MISS a) = u.reg (Reg.CMB_AX_MISS a) ∧ axState (faultAxis a 1 0 u) a = axFault := by
    unfold faultAxis
    rw [if_neg (not_not.2 hstat)]
    have hev := fun x y z w => eventStep_axisEvent (code := 0x7002) (sev := 3) (a := x) (a1 := y) (a2 := z) (a3 := w) (by decide)
    refine ⟨((hev _ _ _ _ _).reg _ (not_evReg_axMiss ha)).trans (reg_put_ne u (F.CMB_AX_STAT_STATE a) _ (axStat_ne_miss ha).symm), ?_⟩
    rw [axState_of_reg ((hev _ _ _ _ _).reg _ (not_evReg_axStat ha))]
    exact axState_put u a (by decide)
  have hreg : (missAxis a bits s).reg (Reg.CMB_AX_MISS a) = t.reg (Reg.CMB_AX_MISS a) := by
    rw [e]
    split
    · rw [hfault.1, hu.reg _ (not_evReg_axMiss ha)]
    · exact hu.reg _ (not_evReg_axMiss ha)
  have hmem : (missAxis a bits s).mem = t.mem := by
    rw [e]
    split
    · rw [(regStep_faultAxis ha 1 0 u).mem, hu.mem]
    · exact hu.mem
  refine ⟨?_, ?_, fun h2 => ?_⟩
  · rw [fld_of_reg (F.CMB_AX_MISS_RUN a) hreg, htfld, hrun]
  · have : (missAxis a bits s).byte (axLive a + 0x2D) = t.byte (axLive a + 0x2D) := by unfold State.byte; rw [hmem]
    rw [this, hbyte, hrun]
  · rw [e, if_pos (by omega)]
    exact hfault.2

end

/-! ### The release -/

/-- An axis of the port whose law still waits misses. -/
def missWaiting (p : Nat) (s : State) (a : Nat) : State := if (axPlace s a).1 = p && lawWaits s a then missAxis a 1 s else s

theorem lawWaits_congr {a : Nat} (ha : a < 128) {s t : State} (h : AxisSame a s t) : lawWaits t a = lawWaits s a := by
  unfold lawWaits
  rw [axPlace_runs h.runs ha, axState_of_reg h.stat, axSrc_of_reg h.stat]
  generalize axPlace s a = q
  unfold cmbAxis rlkPort
  rw [h.cmb, h.rlk]

/-- Every axis of a list is looked at once. -/
theorem missWaiting_foldl (p : Nat) {a : Nat} (ha : a < 128) (l : List Nat) (hl : ∀ b ∈ l, b < 128) (hd : l.Nodup) (s : State) :
    (a ∉ l → AxisSame a s (l.foldl (missWaiting p) s)) ∧ (a ∈ l → ∃ u, AxisSame a s u ∧ AxisSame a (missWaiting p u a) (l.foldl (missWaiting p) s)) := by
  induction l generalizing s with
  | nil => exact ⟨fun _ => .refl a s, fun h => absurd h (by simp)⟩
  | cons b l ih =>
    obtain ⟨hb, hd⟩ := List.nodup_cons.1 hd
    obtain ⟨hout, hin⟩ := ih (fun x hx => hl x (List.mem_cons_of_mem _ hx)) hd (missWaiting p s b)
    rw [List.foldl_cons]
    have hother (h : b ≠ a) : AxisSame a s (missWaiting p s b) := by
      unfold missWaiting
      split
      · exact missAxis_other ha (hl b List.mem_cons_self) h 1 s
      · exact .refl a s
    refine ⟨fun h => ?_, fun h => ?_⟩
    · exact (hother fun e => h (e ▸ List.mem_cons_self)).trans (hout fun g => h (List.mem_cons_of_mem _ g))
    · by_cases e : b = a
      · subst e
        exact ⟨s, .refl b s, hout hb⟩
      · obtain ⟨u, h1, h2⟩ := hin ((List.mem_cons.1 h).resolve_left fun g => e g.symm)
        exact ⟨u, (hother e).trans h1, h2⟩

theorem runsOnly_missWaiting (p : Nat) (l : List Nat) (hl : ∀ b ∈ l, b < 128) (s : State) : RunsOnly s (l.foldl (missWaiting p) s)
    ∧ (l.foldl (missWaiting p) s).rlk = s.rlk := by
  have h := AxisStep.foldl l (missWaiting p) (fun t b hb => by
    unfold missWaiting
    split
    · exact axisStep_missAxis (hl b hb) 1 t
    · exact .refl t) s
  exact ⟨h.runs, h.rlk⟩

/-- Frames depend on no output, port state or free value. -/
theorem commandTrain_view (s : State) (x : List Out) (y : Sparse RlkPort) (z : Nat) (p tapp n : Nat) :
    commandTrain { s with out := x, rlk := y, free := z } p tapp n = commandTrain s p tapp n := by
  induction n with
  | zero => rfl
  | succ n ih =>
    unfold commandTrain
    rw [ih]
    rfl

theorem sendTrain_eq (p tapp n : Nat) (s : State) : sendTrain p tapp n s = { s with out := s.out ++ commandTrain s p tapp n } := by
  have hview (s : State) (x : List Out) (n : Nat) : commandTrain { s with out := x } p tapp n = commandTrain s p tapp n := commandTrain_view s x s.rlk s.free p tapp n
  induction n generalizing s with
  | zero => unfold sendTrain commandTrain; rw [List.append_nil]
  | succ n ih =>
    unfold sendTrain commandTrain
    rw [ih]
    by_cases hn : n = 0
    · subst hn
      rw [if_pos rfl, if_pos rfl]
      show ({ s with out := s.out ++ [_] ++ [] } : State) = _
      rw [List.append_nil]
      rfl
    · rw [if_neg hn, if_neg hn]
      show ({ s with out := s.out ++ [_] ++ [_] ++ commandTrain { s with out := s.out ++ [_] ++ [_] } p tapp n } : State) = _
      rw [hview, List.append_assoc, List.append_assoc]
      rfl

/-- The state in which the commands of a port leave. -/
def releasedAt (p : Nat) (s : State) : State := (modPort p (fun x => { x with released := true }) s).freeNat.2

theorem commandRelease_eq {port : Fin 16} {s : State} (hready : portReady s port = true) : ∃ t, t = (axesOn s).foldl (missWaiting port) s ∧ ∃ tapp,
    exec (.commandRelease port) s = .next (runExchange port (sendTrain port tapp (portReach (modPort port (fun x => { x with released := true }) t) port) (releasedAt port t))) := by
  refine ⟨_, rfl, (modPort port (fun x => { x with released := true }) ((axesOn s).foldl (missWaiting port) s)).freeNat.1, ?_⟩
  rw [exec_commandRelease]
  exact if_neg (by rw [hready]; decide)

theorem runExchange_none {p : Nat} {s : State} (h : (rlkPort s p).mg ≠ 2) : runExchange p s = s := if_pos h

/-- COMMAND_RELEASE (R359, R377). -/
theorem commandsLeave (port : Fin 16) (s : State) (hready : portReady s port = true) (hmg : (rlkPort s port).mg ≠ 2) : let p : Nat := port
    ((∀ a < 128, axOn s a = true → (axPlace s a).1 = p → lawWaits s a = false) →
      ∃ t tapp, exec (.commandRelease port) s = .next t ∧ (rlkPort t p).released = true ∧ t.mem = s.mem ∧ t.regs = s.regs
        ∧ t.out = s.out ++ commandTrain s p tapp (portReach s p))
    ∧ ∀ a < 128, axOn s a = true → (axPlace s a).1 = p → lawWaits s a = true →
      ∃ t, exec (.commandRelease port) s = .next t ∧ t.fld (F.CMB_AX_MISS_RUN a) = min (s.fld (F.CMB_AX_MISS_RUN a) + 1) 255
        ∧ (t.byte (axLive a + 0x2D)).toNat = min (s.fld (F.CMB_AX_MISS_RUN a) + 1) 255
        ∧ (2 ≤ s.fld (F.CMB_AX_MISS_RUN a) → axState t a = axFault) ∧ RunsOnly s t := by
  obtain ⟨t, ht, tapp, e⟩ := commandRelease_eq hready
  have hl : ∀ b ∈ axesOn s, b < 128 := fun b hb => (mem_axesOn.1 hb).1
  have hnd : (axesOn s).Nodup := List.nodup_range.filter _
  obtain ⟨hruns, hrlk⟩ := runsOnly_missWaiting port (axesOn s) hl s
  rw [← ht] at hruns hrlk
  have hport : rlkPort (releasedAt port t) port = { rlkPort s port with released := true } := by
    rw [← rlkPort_of_rlk hrlk]
    exact rlkPort_modPort_self port.val (fun x => { x with released := true }) t
  rw [sendTrain_eq, runExchange_none (p := port) (by
    show (rlkPort (releasedAt port t) port).mg ≠ 2
    rw [hport]; exact hmg)] at e
  refine ⟨fun hnone => ?_, fun a ha hon hplace hwait => ?_⟩
  · have hid (l : List Nat) (hl : ∀ b ∈ l, b ∈ axesOn s) : l.foldl (missWaiting port) s = s := by
      induction l with
      | nil => rfl
      | cons b l ih =>
        obtain ⟨hb, hon⟩ := mem_axesOn.1 (hl b List.mem_cons_self)
        have hb' : missWaiting port s b = s := by
          refine if_neg ?_
          rw [Bool.and_eq_true, decide_eq_true_eq]
          exact fun h => Bool.false_ne_true ((hnone b hb hon h.1).symm.trans h.2)
        rw [List.foldl_cons, hb']
        exact ih fun x hx => hl x (List.mem_cons_of_mem _ hx)
    rw [hid (axesOn s) fun _ h => h] at ht
    subst ht
    refine ⟨_, tapp, e, ?_, rfl, rfl, ?_⟩
    · show (rlkPort (releasedAt port t) port).released = true
      rw [hport]
    · show t.out ++ commandTrain (releasedAt port t) port tapp (portReach t port) = _
      exact congrArg (t.out ++ ·) (commandTrain_view t t.out (spSet {} port.val { rlkPort t port with released := true } t.rlk) (t.free + 1) port tapp _)
  · obtain ⟨u, h1, h2⟩ := (missWaiting_foldl port ha (axesOn s) hl hnd s).2 (mem_axesOn.2 ⟨ha, hon⟩)
    rw [← ht] at h2
    have hwaits : lawWaits u a = true := (lawWaits_congr ha h1).trans hwait
    have hu : missWaiting port u a = missAxis a 1 u := by
      refine if_pos ?_
      rw [Bool.and_eq_true, decide_eq_true_eq, axPlace_runs h1.runs ha]
      exact ⟨hplace, hwaits⟩
    have hact : axState u a = axActive := by
      unfold lawWaits at hwaits
      simp only [Bool.and_eq_true, decide_eq_true_eq] at hwaits
      exact hwaits.1.1.1.1
    rw [hu] at h2
    obtain ⟨hrun, hbyte, hfault⟩ := missAxis_self ha 1 hact
    rw [fld_of_reg (F.CMB_AX_MISS_RUN a) h1.miss] at hrun hbyte hfault
    have hr {o : Nat} (w : State) (x : List Out) : ({ w with out := x } : State).reg o = w.reg o := rfl
    have hrel (o : Nat) : (releasedAt port t).reg o = t.reg o := rfl
    refine ⟨_, e, ?_, ?_, fun h => ?_, fun x hx => hruns x hx⟩
    · rw [fld_of_reg (F.CMB_AX_MISS_RUN a) ((hr _ _).trans ((hrel _).trans h2.miss)), hrun]
    · have hb : (t.byte (axLive a + 0x2D)).toNat = min (s.fld (F.CMB_AX_MISS_RUN a) + 1) 255 := by rw [h2.run, hbyte]
      exact hb
    · rw [axState_of_reg ((hr _ _).trans ((hrel _).trans h2.stat))]
      exact hfault h

/-! ### Torque-off blocks, CLEAR -/

theorem torqueOffBlock (s : State) (p k i : Nat) (h : s.hwd.sto = true ∨ inRack s = true) : slotBlock s p k i = [0, 0, 2, 0, 0, 0, 0, 0] := by
  have hheld : stoHeld s = true := by
    unfold stoHeld
    rw [Bool.or_eq_true]
    exact h
  unfold slotBlock
  split
  · rfl
  · rw [hheld]
    simp

theorem axisClears (a : Fin 128) (s : State) : (axOn s a = false → clearAxis a s = s)
    ∧ (axOn s a = true → axState s a = axLost ∨ axState s a = axFault → (cmbAxis s a).valid = true → axState (clearAxis a s) a = axActive)
    ∧ (axOn s a = true → axState s a = axLost ∨ axState s a = axFault → (cmbAxis s a).valid = false → clearAxis a s = s)
    ∧ (axOn s a = true → axState s a = axAsto → axSrc s a = srcSto → clearAxis a s = stopDone (s.put (F.CMB_AX_STAT_STATE a) axOff))
    ∧ (axOn s a = true → axState s a = axAsto → axSrc s a ≠ srcSto → clearAxis a s = s) := by
  have hresume : axState (resumeAxis a s) a = axActive := by
    unfold resumeAxis
    dsimp only
    rw [axState_of_reg ((State.wrN_reg _ _ _ _ _).trans (State.wrN_reg _ _ _ _ _)), axState_modAxis]
    exact axState_put s a (by decide)
  have hnone {st : Nat} (h : st = axLost ∨ st = axFault) : st ≠ axAsto := by
    rcases h with h | h <;> rw [h] <;> decide
  unfold clearAxis
  dsimp only
  refine ⟨fun h => if_pos (by rw [h]; rfl), fun h hs hv => ?_, fun h hs hv => ?_, fun h hs hsrc => ?_, fun h hs hsrc => ?_⟩
  all_goals rw [if_neg (by rw [h]; decide)]
  · rw [if_pos (by simpa [hv] using hs)]
    exact hresume
  · rw [if_neg (by simp [hv]), if_neg (by simp [hnone hs])]
  · rw [if_neg (by simp [hs, axAsto, axLost, axFault]), if_pos (by simp [hs, hsrc])]
  · rw [if_neg (by simp [hs, axAsto, axLost, axFault]), if_neg (by simp [hsrc])]

end Sys2Proof.Machine
end

section
/-! The latches of Heartwood's three lines (R357, R364): what each changes of every axis. -/

namespace Sys2Proof.Machine

/-- From `s` to `t` only what Cambium keeps of axes changed. -/
def AxesOnly (s t : State) : Prop := ∃ axes, t = { s with cmb := { s.cmb with axes := axes } }

theorem axesOnly_refl (s : State) : AxesOnly s s := ⟨s.cmb.axes, rfl⟩
theorem axesOnly_trans {s t u : State} (h : AxesOnly s t) (g : AxesOnly t u) : AxesOnly s u := by
  obtain ⟨x, rfl⟩ := h
  obtain ⟨y, rfl⟩ := g
  exact ⟨y, rfl⟩
theorem axesOnly_modAxis (a : Nat) (f : CmbAxis → CmbAxis) (s : State) : AxesOnly s (modAxis a f s) := ⟨_, rfl⟩

/-- A change of one axis that depends on that axis alone. -/
structure PerAxis (f : State → Nat → State) : Prop where
  only : ∀ s a, AxesOnly s (f s a)
  other : ∀ s a b, b ≠ a → cmbAxis (f s a) b = cmbAxis s b
  own : ∀ s t a, AxesOnly s t → cmbAxis t a = cmbAxis s a → cmbAxis (f t a) a = cmbAxis (f s a) a

theorem perAxis_foldl {f : State → Nat → State} (hf : PerAxis f) (l : List Nat) (hd : l.Nodup) (s : State) : AxesOnly s (l.foldl f s)
    ∧ ∀ a, (a ∉ l → cmbAxis (l.foldl f s) a = cmbAxis s a) ∧ (a ∈ l → cmbAxis (l.foldl f s) a = cmbAxis (f s a) a) := by
  induction l generalizing s with
  | nil => exact ⟨axesOnly_refl s, fun a => ⟨fun _ => rfl, fun h => absurd h (by simp)⟩⟩
  | cons x l ih =>
    obtain ⟨hx, hd⟩ := List.nodup_cons.1 hd
    obtain ⟨honly, hax⟩ := ih hd (f s x)
    rw [List.foldl_cons]
    refine ⟨axesOnly_trans (hf.only s x) honly, fun a => ⟨fun h => ?_, fun h => ?_⟩⟩
    · rw [(hax a).1 fun g => h (List.mem_cons_of_mem _ g), hf.other s x a fun e => h (e ▸ List.mem_cons_self)]
    · by_cases e : a = x
      · subst e
        exact (hax a).1 hx
      · rw [(hax a).2 ((List.mem_cons.1 h).resolve_left e)]
        exact hf.own s (f s x) a (hf.only s x) (hf.other s x a e)

theorem cmbAxis_modAxis_self (a : Nat) (f : CmbAxis → CmbAxis) (s : State) : cmbAxis (modAxis a f s) a = f (cmbAxis s a) := by
  rw [cmbAxis_modAxis, if_pos rfl]

theorem cmbAxis_modAxis_ne {a b : Nat} (h : b ≠ a) (f : CmbAxis → CmbAxis) (s : State) : cmbAxis (modAxis a f s) b = cmbAxis s b := by
  rw [cmbAxis_modAxis, if_neg h]

theorem nextSrc_congr {a : Nat} {s t : State} (h : cmbAxis t a = cmbAxis s a) (hr : t.reg (Reg.CMB_AX_STAT a) = s.reg (Reg.CMB_AX_STAT a)) : nextSrc t a = nextSrc s a := by
  unfold nextSrc
  rw [h, axSrc_of_reg hr]

/-! ### The three commands on an axis -/

/-- The source of the fallback of a group (R357). -/
def fallbackKind (a : Nat) (s : State) : Nat := if bitAt (s.fld F.HWD_FBSEL_MODE) (axGroup s a) then srcTraj else srcHold

def fallbackAxis (s : State) (a : Nat) : State :=
  if nextSrc s a = srcSto then modAxis a (fun x => { x with next := some (fallbackKind a s, none), nextAt := s.ns, wait := true }) s
  else if nextSrc s a = srcChunk || nextSrc s a = srcStopped then modAxis a (fun x => { x with next := some (fallbackKind a s, some x.ps), nextAt := s.ns }) s
  else s

def stopAxis (s : State) (a : Nat) : State :=
  if nextSrc s a = srcChunk || nextSrc s a = srcHold || nextSrc s a = srcTraj then
    modAxis a (fun x => { x with next := some (srcStop, if x.wait then none else some x.ps), nextAt := s.ns }) s
  else s

def stoAxis (s : State) (a : Nat) : State := modAxis a (fun x => { x with next := some (srcSto, none), nextAt := s.ns, wait := false }) s

theorem perAxis_fallback : PerAxis fallbackAxis where
  only s a := by
    unfold fallbackAxis
    split
    · exact axesOnly_modAxis _ _ _
    split
    · exact axesOnly_modAxis _ _ _
    · exact axesOnly_refl s
  other s a b h := by
    unfold fallbackAxis
    split
    · exact cmbAxis_modAxis_ne h _ _
    split
    · exact cmbAxis_modAxis_ne h _ _
    · rfl
  own s t a h hx := by
    obtain ⟨axes, rfl⟩ := h
    have hs : nextSrc { s with cmb := { s.cmb with axes := axes } } a = nextSrc s a := nextSrc_congr hx rfl
    have hk : fallbackKind a { s with cmb := { s.cmb with axes := axes } } = fallbackKind a s := rfl
    unfold fallbackAxis
    rw [hs, hk]
    split
    · rw [cmbAxis_modAxis_self, cmbAxis_modAxis_self, hx]; rfl
    split
    · rw [cmbAxis_modAxis_self, cmbAxis_modAxis_self, hx]; rfl
    · exact hx

theorem perAxis_stop : PerAxis stopAxis where
  only s a := by
    unfold stopAxis
    split
    · exact axesOnly_modAxis _ _ _
    · exact axesOnly_refl s
  other s a b h := by
    unfold stopAxis
    split
    · exact cmbAxis_modAxis_ne h _ _
    · rfl
  own s t a h hx := by
    obtain ⟨axes, rfl⟩ := h
    have hs : nextSrc { s with cmb := { s.cmb with axes := axes } } a = nextSrc s a := nextSrc_congr hx rfl
    unfold stopAxis
    rw [hs]
    split
    · rw [cmbAxis_modAxis_self, cmbAxis_modAxis_self, hx]; rfl
    · exact hx

theorem perAxis_sto : PerAxis stoAxis where
  only s a := axesOnly_modAxis _ _ _
  other s a b h := cmbAxis_modAxis_ne h _ _
  own s t a h hx := by
    obtain ⟨axes, rfl⟩ := h
    unfold stoAxis
    rw [cmbAxis_modAxis_self, cmbAxis_modAxis_self, hx]
    rfl

theorem fallbackAxes_eq {s : State} (h : s.cmb.afterSto = false) : fallbackAxes true s = (axesOn s).foldl fallbackAxis s := by
  unfold fallbackAxes
  rw [h]
  rfl

/-! ### A latch -/

/-- The state in which the latch of a line shows its level. -/
def latched (line was : Bool) (f : RegField) (s : State) : State := (acknowledge line was s).put f (ofBool line)

theorem latched_frame (line was : Bool) {f : RegField} (hf : f.reg = Reg.CMB_STAT) (s : State) : RegStep AxisReg s (latched line was f s)
    ∧ (latched line was f s).cmb = s.cmb ∧ (∀ o, o ≠ Reg.CMB_STAT → (latched line was f s).reg o = s.reg o)
    ∧ (latched line was f s).out = if line = was then s.out else s.out ++ [.line .acknowledge] := by
  have hack : EventStep s (acknowledge line was s) ∧ (acknowledge line was s).cmb = s.cmb ∧ (∀ o, (acknowledge line was s).reg o = s.reg o)
      ∧ (acknowledge line was s).out = if line = was then s.out else s.out ++ [.line .acknowledge] := by
    unfold acknowledge
    split
    · exact ⟨.refl s, rfl, fun _ => rfl, rfl⟩
    · exact ⟨eventStep_pulseLine _ s, rfl, fun _ => rfl, rfl⟩
  obtain ⟨h1, h2, h3, h4⟩ := hack
  unfold latched
  exact ⟨(RegStep.ofEvent h1 fun _ => .inl).trans (.put _ _ (by rw [hf]; exact .inr (.inr rfl))), (State.put_cmb _ _ _).trans h2,
    fun o ho => (reg_put_ne _ f _ (by rw [hf]; exact ho)).trans (h3 o), (State.put_out _ _ _).trans h4⟩

theorem not_axisReg_hwd : ¬ AxisReg Reg.HWD_STATE := by unfold AxisReg EvReg Reg.HWD_STATE; omega

theorem calm_latched {line was : Bool} {f : RegField} (hf : f.reg = Reg.CMB_STAT) {s : State} (hc : Calm s) : Calm (latched line was f s) :=
  (latched_frame line was hf s).1.calm not_axisReg_hwd hc

theorem calm_axesOnly {s t : State} (h : AxesOnly s t) (hc : Calm s) : Calm t := by
  obtain ⟨axes, rfl⟩ := h
  exact hc

end Sys2Proof.Machine
end

section
/-! The latches as commands (R357, R364). -/

namespace Sys2Proof.Machine

/-- What a latch keeps of the state on its way to the axes. -/
structure LatchStep (s t : State) : Prop where
  step : RegStep (fun o => AxisReg o ∨ o = Reg.CMB_CHSTAT) s t
  cmb : t.cmb = s.cmb
  reg : ∀ o, o ≠ Reg.CMB_STAT → o ≠ Reg.CMB_CHSTAT → t.reg o = s.reg o

namespace LatchStep
variable {s t u : State}
theorem trans (h : LatchStep s t) (g : LatchStep t u) : LatchStep s u :=
  ⟨h.step.trans g.step, g.cmb.trans h.cmb, fun o h1 h2 => (g.reg o h1 h2).trans (h.reg o h1 h2)⟩
theorem put (s : State) {f : RegField} (v : Nat) (h : f.reg = Reg.CMB_STAT ∨ f.reg = Reg.CMB_CHSTAT) : LatchStep s (s.put f v) := by
  refine ⟨.put s v ?_, State.put_cmb s f v, fun o h1 h2 => reg_put_ne s f v ?_⟩
  · rcases h with h | h
    · rw [h]; exact .inl (.inr (.inr rfl))
    · rw [h]; exact .inr rfl
  · rcases h with h | h
    · rw [h]; exact h1
    · rw [h]; exact h2
theorem latched (line was : Bool) {f : RegField} (hf : f.reg = Reg.CMB_STAT) (s : State) : LatchStep s (latched line was f s) := by
  obtain ⟨h1, h2, h3, -⟩ := latched_frame line was hf s
  exact ⟨h1.weaken fun _ => .inl, h2, fun o h _ => h3 o h⟩

theorem calm (h : LatchStep s t) (hc : Calm s) : Calm t := h.step.calm (fun h => h.elim not_axisReg_hwd (by decide)) hc
theorem nextSrc (h : LatchStep s t) {a : Nat} (ha : a < 128) : nextSrc t a = nextSrc s a :=
  nextSrc_congr (by unfold cmbAxis; rw [h.cmb]) (h.reg _ (by unfold Reg.CMB_AX_STAT Reg.CMB_STAT; omega) (by unfold Reg.CMB_AX_STAT Reg.CMB_CHSTAT; omega))
theorem axis (h : LatchStep s t) (a : Nat) : cmbAxis t a = cmbAxis s a := by unfold cmbAxis; rw [h.cmb]
theorem axesOn (h : LatchStep s t) : axesOn t = axesOn s := axesOn_runs (runsOnly_of_mem h.step.mem)
theorem axSrc (h : LatchStep s t) {a : Nat} (ha : a < 128) : axSrc t a = axSrc s a :=
  axSrc_of_reg (h.reg _ (by unfold Reg.CMB_AX_STAT Reg.CMB_STAT; omega) (by unfold Reg.CMB_AX_STAT Reg.CMB_CHSTAT; omega))
theorem fallbackKind (h : LatchStep s t) {a : Nat} (ha : a < 128) : fallbackKind a t = fallbackKind a s := by
  unfold Machine.fallbackKind
  rw [axGroup_runs (runsOnly_of_mem h.step.mem) ha, fld_of_reg F.HWD_FBSEL_MODE (h.reg _ (by decide) (by decide))]
end LatchStep

/-! ### Fallback and controlled stop -/

theorem fallbackLatch_unchanged {s : State} (hc : Calm s) (h : s.hwd.fb = false ∨ s.flag F.CMB_STAT_FB = true) :
    exec .fallbackLatch s = .next (latched s.hwd.fb (s.flag F.CMB_STAT_FB) F.CMB_STAT_FB s) := by
  have hhwd : (latched s.hwd.fb (s.flag F.CMB_STAT_FB) F.CMB_STAT_FB s).hwd = s.hwd := (LatchStep.latched _ _ rfl s).step.hwd
  have hno : (s.hwd.fb && !(s.flag F.CMB_STAT_FB)) = false := by rcases h with h | h <;> simp [h]
  have e : latchFallback s = latched s.hwd.fb (s.flag F.CMB_STAT_FB) F.CMB_STAT_FB s := by
    have e1 : (acknowledge s.hwd.fb (s.flag F.CMB_STAT_FB) s).hwd = s.hwd := by unfold acknowledge; split <;> rfl
    unfold latchFallback
    dsimp only
    rw [e1]
    refine if_neg ?_
    rw [State.put_hwd, e1, hno]
    decide
  rw [exec_fallbackLatch]
  unfold execFallbackLatch
  rw [e, hwdServe_of_calm (calm_latched rfl hc)]

theorem stopLatch_unchanged {s : State} (hc : Calm s) (h : s.hwd.stop = false ∨ s.flag F.CMB_STAT_STOP = true) :
    exec .stopLatch s = .next (latched s.hwd.stop (s.flag F.CMB_STAT_STOP) F.CMB_STAT_STOP s) := by
  have hno : (s.hwd.stop && !(s.flag F.CMB_STAT_STOP)) = false := by rcases h with h | h <;> simp [h]
  have e : latchStop s = latched s.hwd.stop (s.flag F.CMB_STAT_STOP) F.CMB_STAT_STOP s := by
    have e1 : (acknowledge s.hwd.stop (s.flag F.CMB_STAT_STOP) s).hwd = s.hwd := by unfold acknowledge; split <;> rfl
    unfold latchStop
    dsimp only
    rw [e1]
    refine if_neg ?_
    rw [State.put_hwd, e1, hno]
    decide
  rw [exec_stopLatch]
  unfold execStopLatch
  rw [e, hwdServe_of_calm (calm_latched rfl hc)]

/-- A rising fallback line: commits dropped, a fresh count of stopped groups. -/
def fallbackRisen (s : State) : State := (dropCommits (latched true false F.CMB_STAT_FB s)).put F.CMB_STAT_STOPDONE 0

theorem latchStep_fallbackRisen (s : State) : LatchStep s (fallbackRisen s) :=
  ((LatchStep.latched true false rfl s).trans (.put _ 0 (.inr rfl))).trans (.put _ 0 (.inl rfl))

theorem out_latched_risen {f : RegField} (hf : f.reg = Reg.CMB_STAT) (s : State) : (latched true false f s).out = s.out ++ [.line .acknowledge] :=
  (latched_frame true false hf s).2.2.2

theorem fallbackRisen_fields (s : State) : (fallbackRisen s).flag F.CMB_STAT_FB = true ∧ (fallbackRisen s).fld F.CMB_CHSTAT_PENDING = 0
    ∧ (fallbackRisen s).fld F.CMB_STAT_STOPDONE = 0 ∧ (fallbackRisen s).flag F.CMB_STAT_STO = s.flag F.CMB_STAT_STO
    ∧ (fallbackRisen s).out = s.out ++ [.line .acknowledge] := by
  have hout := out_latched_risen (f := F.CMB_STAT_FB) rfl s
  have hfb : (latched true false F.CMB_STAT_FB s).flag F.CMB_STAT_FB = true := flag_put_one _ (f := F.CMB_STAT_FB) rfl (by decide)
  have hsto : (latched true false F.CMB_STAT_FB s).flag F.CMB_STAT_STO = s.flag F.CMB_STAT_STO := by
    unfold latched
    rw [flag_put_apart _ F.CMB_STAT_FB F.CMB_STAT_STO _ (by decide) (by decide) (.inr (by decide))]
    unfold acknowledge
    rfl
  unfold fallbackRisen dropCommits
  generalize latched true false F.CMB_STAT_FB s = u at *
  refine ⟨?_, ?_, fld_put_fits _ F.CMB_STAT_STOPDONE (by decide) (by decide) (by decide), ?_, ?_⟩
  · rw [flag_put_apart _ F.CMB_STAT_STOPDONE F.CMB_STAT_FB _ (by decide) (by decide) (.inl (by decide)), flag_put_reg _ _ F.CMB_STAT_FB _ (by decide), hfb]
  · rw [fld_put_reg _ _ F.CMB_CHSTAT_PENDING _ (by decide)]
    exact fld_put_fits _ F.CMB_CHSTAT_PENDING (by decide) (by decide) (by decide)
  · rw [flag_put_apart _ F.CMB_STAT_STOPDONE F.CMB_STAT_STO _ (by decide) (by decide) (.inl (by decide)), flag_put_reg _ _ F.CMB_STAT_STO _ (by decide), hsto]
  · rw [State.put_out, State.put_out, hout]

theorem fallbackRises {s : State} (hc : Calm s) (hfb : s.hwd.fb = true) (hwas : s.flag F.CMB_STAT_FB = false) (hsto : s.flag F.CMB_STAT_STO = false)
    (hafter : s.cmb.afterSto = false) : ∃ t, exec .fallbackLatch s = .next t ∧ t.flag F.CMB_STAT_FB = true ∧ t.fld F.CMB_CHSTAT_PENDING = 0
      ∧ t.fld F.CMB_STAT_STOPDONE = 0 ∧ t.mem = s.mem
      ∧ t.out = s.out ++ [.line .acknowledge] ∧ ∀ a < 128, axOn s a = true → let kind := if bitAt (s.fld F.HWD_FBSEL_MODE) (axGroup s a) = true then srcTraj else srcHold
        (nextSrc s a = srcSto → (cmbAxis t a).next = some (kind, none) ∧ (cmbAxis t a).wait = true)
        ∧ (nextSrc s a = srcChunk ∨ nextSrc s a = srcStopped → (cmbAxis t a).next = some (kind, some (cmbAxis s a).ps))
        ∧ (nextSrc s a = srcHold ∨ nextSrc s a = srcTraj ∨ nextSrc s a = srcStop → cmbAxis t a = cmbAxis s a) := by
  have hstep := latchStep_fallbackRisen s
  obtain ⟨h1, h2, h3, h4, h5⟩ := fallbackRisen_fields s
  have e : latchFallback s = (axesOn s).foldl fallbackAxis (fallbackRisen s) := by
    have e1 : latchFallback s = if (fallbackRisen s).flag F.CMB_STAT_STO then fallbackRisen s else fallbackAxes true (fallbackRisen s) := by
      have e2 : (acknowledge true false s).hwd = s.hwd := rfl
      unfold latchFallback
      dsimp only
      rw [hfb, hwas, e2, hfb]
      refine if_pos ?_
      rw [State.put_hwd, e2, hfb]
      rfl
    rw [e1, h4, hsto, if_neg (by decide), fallbackAxes_eq (by rw [hstep.cmb]; exact hafter), hstep.axesOn]
  generalize fallbackRisen s = u at *
  obtain ⟨honly, hax⟩ := perAxis_foldl perAxis_fallback (axesOn s) (List.nodup_range.filter _) u
  rw [← e] at honly hax
  refine ⟨latchFallback s, ?_, ?_⟩
  · rw [exec_fallbackLatch]
    unfold execFallbackLatch
    rw [hwdServe_of_calm (calm_axesOnly honly (hstep.calm hc))]
  · obtain ⟨axes, ho⟩ := honly
    have hu : cmbAxis (latchFallback s) = fun a => cmbAxis (latchFallback s) a := rfl
    generalize hv : latchFallback s = v at *
    refine ⟨?_, ?_, ?_, ?_, ?_, fun a ha hon => ?_⟩
    · rw [ho]; exact h1
    · rw [ho]; exact h2
    · rw [ho]; exact h3
    · rw [ho]; exact hstep.step.mem
    · rw [ho]; exact h5
    · intro kind
      have hax := (hax a).2 (mem_axesOn.2 ⟨ha, hon⟩)
      have hkind : fallbackKind a u = kind := hstep.fallbackKind ha
      have hnext := hstep.nextSrc ha
      have hown := hstep.axis a
      refine ⟨fun hs => ?_, fun hs => ?_, fun hs => ?_⟩
      · have e : fallbackAxis u a = modAxis a (fun x => { x with next := some (fallbackKind a u, none), nextAt := u.ns, wait := true }) u := if_pos (hnext.trans hs)
        rw [hax, e, cmbAxis_modAxis_self, hkind]
        exact ⟨rfl, rfl⟩
      · have e : fallbackAxis u a = modAxis a (fun x => { x with next := some (fallbackKind a u, some x.ps), nextAt := u.ns }) u := by
          unfold fallbackAxis
          rw [hnext, if_neg (by rcases hs with h | h <;> rw [h] <;> decide), if_pos (by simpa using hs)]
        rw [hax, e, cmbAxis_modAxis_self, hkind, hown]
      · have e : fallbackAxis u a = u := by
          unfold fallbackAxis
          rw [hnext, if_neg (by rcases hs with h | h | h <;> rw [h] <;> decide), if_neg (by rcases hs with h | h | h <;> rw [h] <;> decide)]
        rw [hax, e, hown]

/-- A rising stop line: commits dropped. -/
def stopRisen (s : State) : State := dropCommits (latched true false F.CMB_STAT_STOP s)

theorem latchStep_stopRisen (s : State) : LatchStep s (stopRisen s) := (LatchStep.latched true false rfl s).trans (.put _ 0 (.inr rfl))

theorem stopRises {s : State} (hc : Calm s) (hstop : s.hwd.stop = true) (hwas : s.flag F.CMB_STAT_STOP = false) :
    ∃ t, exec .stopLatch s = .next t ∧ t.flag F.CMB_STAT_STOP = true ∧ t.fld F.CMB_CHSTAT_PENDING = 0 ∧ t.mem = s.mem
      ∧ t.out = s.out ++ [.line .acknowledge] ∧ ∀ a < 128, axOn s a = true →
        (nextSrc s a = srcChunk ∨ nextSrc s a = srcHold ∨ nextSrc s a = srcTraj →
          (cmbAxis t a).next = some (srcStop, if (cmbAxis s a).wait = true then none else some (cmbAxis s a).ps))
        ∧ (nextSrc s a = srcSto ∨ nextSrc s a = srcStop ∨ nextSrc s a = srcStopped → cmbAxis t a = cmbAxis s a) := by
  have hstep := latchStep_stopRisen s
  have h1 : (stopRisen s).flag F.CMB_STAT_STOP = true := by
    unfold stopRisen dropCommits
    rw [flag_put_reg _ _ F.CMB_STAT_STOP _ (by decide)]
    exact flag_put_one _ (f := F.CMB_STAT_STOP) rfl (by decide)
  have h2 : (stopRisen s).fld F.CMB_CHSTAT_PENDING = 0 := fld_put_fits _ F.CMB_CHSTAT_PENDING (by decide) (by decide) (by decide)
  have h3 : (stopRisen s).out = s.out ++ [.line .acknowledge] := (State.put_out _ _ _).trans (out_latched_risen rfl s)
  have e : latchStop s = (axesOn (latched true false F.CMB_STAT_STOP s)).foldl stopAxis (stopRisen s) := by
    have e2 : (acknowledge true false s).hwd = s.hwd := rfl
    unfold latchStop
    dsimp only
    rw [hstop, hwas, e2, hstop]
    refine if_pos ?_
    rw [State.put_hwd, e2, hstop]
    rfl
  rw [(LatchStep.latched true false (f := F.CMB_STAT_STOP) rfl s).axesOn] at e
  generalize stopRisen s = u at *
  obtain ⟨honly, hax⟩ := perAxis_foldl perAxis_stop (axesOn s) (List.nodup_range.filter _) u
  rw [← e] at honly hax
  refine ⟨latchStop s, ?_, ?_⟩
  · rw [exec_stopLatch]
    unfold execStopLatch
    rw [hwdServe_of_calm (calm_axesOnly honly (hstep.calm hc))]
  · obtain ⟨axes, ho⟩ := honly
    generalize hv : latchStop s = v at *
    refine ⟨by rw [ho]; exact h1, by rw [ho]; exact h2, by rw [ho]; exact hstep.step.mem, by rw [ho]; exact h3, fun a ha hon => ?_⟩
    have hax := (hax a).2 (mem_axesOn.2 ⟨ha, hon⟩)
    have hnext := hstep.nextSrc ha
    have hown := hstep.axis a
    refine ⟨fun hs => ?_, fun hs => ?_⟩
    · have e : stopAxis u a = modAxis a (fun x => { x with next := some (srcStop, if x.wait then none else some x.ps), nextAt := u.ns }) u := by
        unfold stopAxis
        rw [hnext, if_pos (by simpa [or_assoc] using hs)]
      rw [hax, e, cmbAxis_modAxis_self, hown]
    · have e : stopAxis u a = u := by
        unfold stopAxis
        rw [hnext, if_neg (by rcases hs with h | h | h <;> rw [h] <;> decide)]
      rw [hax, e, hown]

/-! ### Safe torque-off -/

/-- A rising torque-off line: commits dropped, records checked at the next fallback. -/
def stoRisen (s : State) : State :=
  (dropCommits (latched true false F.CMB_STAT_STO s)).setCmb { s.cmb with afterSto := true }

theorem stoFrames_eq (s : State) : stoFrames s
    = { s with out := s.out ++ ((List.range 16).filter fun p => portState s p = rlkUp || portState s p = rlkEnum).map fun p => .rlk p 5 (linkFrame 5 0x80 s.cmb.cycle []) } := by
  have h (l : List Nat) (x : List Out) : l.foldl (fun s p => if portState s p = rlkUp || portState s p = rlkEnum then sendSto p s else s) { s with out := x }
      = { s with out := x ++ (l.filter fun p => portState s p = rlkUp || portState s p = rlkEnum).map fun p => .rlk p 5 (linkFrame 5 0x80 s.cmb.cycle []) } := by
    induction l generalizing x with
    | nil => simp
    | cons p l ih =>
      have hp : portState { s with out := x } p = portState s p := rfl
      rw [List.foldl_cons, List.filter_cons, hp]
      split
      · rw [sendSto_eq, List.map_cons]
        refine (ih (x ++ [.rlk p 5 (linkFrame 5 0x80 s.cmb.cycle [])])).trans ?_
        rw [List.append_assoc]
        rfl
      · exact ih x
  exact h (List.range 16) s.out

theorem stoRises {s : State} (hc : Calm s) (hsto : s.hwd.sto = true) (hwas : s.flag F.CMB_STAT_STO = false) :
    ∃ t, exec .stoLatch s = .next t ∧ t.flag F.CMB_STAT_STO = true ∧ t.fld F.CMB_CHSTAT_PENDING = 0 ∧ t.cmb.afterSto = true ∧ t.mem = s.mem
      ∧ (∀ a < 128, axOn s a = true → nextSrc t a = srcSto)
      ∧ t.out = s.out ++ [.line .acknowledge] ++ ((List.range 16).filter fun p => portState s p = rlkUp || portState s p = rlkEnum).map fun p => .rlk p 5 (linkFrame 5 0x80 s.cmb.cycle []) := by
  have hl := LatchStep.latched true false (f := F.CMB_STAT_STO) rfl s
  have hd : LatchStep s (dropCommits (latched true false F.CMB_STAT_STO s)) := hl.trans (.put _ 0 (.inr rfl))
  have h1 : (stoRisen s).flag F.CMB_STAT_STO = true := by
    unfold stoRisen dropCommits
    rw [State.setCmb_flag, flag_put_reg _ _ F.CMB_STAT_STO _ (by decide)]
    exact flag_put_one _ (f := F.CMB_STAT_STO) rfl (by decide)
  have h2 : (stoRisen s).fld F.CMB_CHSTAT_PENDING = 0 := by
    unfold stoRisen dropCommits
    rw [State.setCmb_fld]
    exact fld_put_fits _ F.CMB_CHSTAT_PENDING (by decide) (by decide) (by decide)
  have h3 : (stoRisen s).out = s.out ++ [.line .acknowledge] :=
    (State.setCmb_out _ _).trans ((State.put_out _ _ _).trans (out_latched_risen rfl s))
  have h4 : (stoRisen s).mem = s.mem := (State.setCmb_mem _ _).trans hd.step.mem
  have h5 : (stoRisen s).cmb = { s.cmb with afterSto := true } := rfl
  have h6 : Calm (stoRisen s) := hd.calm hc
  have h7 (p : Nat) : portState (stoRisen s) p = portState s p :=
    portState_of_reg ((State.setCmb_reg _ _ _).trans (hd.reg _ (by unfold Reg.RLK_P_STAT Reg.CMB_STAT; omega) (by unfold Reg.RLK_P_STAT Reg.CMB_CHSTAT; omega)))
  have h8 : (stoRisen s).hwd = s.hwd := (State.setCmb_hwd _ _).trans hd.step.hwd
  have e : latchSto s = (axesOn s).foldl stoAxis (stoRisen s) := by
    have hon : axesOn (stoRisen s) = axesOn s := axesOn_runs (runsOnly_of_mem h4)
    have e2 : (acknowledge true false s).hwd = s.hwd := rfl
    rw [← hon]
    unfold latchSto
    dsimp only
    rw [hsto, hwas, e2, hsto]
    refine (if_pos ?_).trans ?_
    · rw [State.put_hwd, e2, hsto]
      rfl
    · have e3 : ((acknowledge true false s).put F.CMB_STAT_STO (ofBool true)).cmb = s.cmb := hl.cmb
      have e4 : stoRisen s = (dropCommits ((acknowledge true false s).put F.CMB_STAT_STO (ofBool true))).setCmb
          { ((acknowledge true false s).put F.CMB_STAT_STO (ofBool true)).cmb with afterSto := true } := by rw [e3]; rfl
      rw [e4]
      rfl
  generalize stoRisen s = u at *
  obtain ⟨honly, hax⟩ := perAxis_foldl perAxis_sto (axesOn s) (List.nodup_range.filter _) u
  rw [← e] at honly hax
  have hport : PortStep (latchSto s) (showPorts (latchSto s)) := portStep_showPorts _
  have hreg {o : Nat} (ho : o ≠ Reg.RLK_STAT) := reg_showPorts (latchSto s) ho
  have hout := out_showPorts (latchSto s)
  have hexec : exec .stoLatch s = .next (hwdServe (if (showPorts (latchSto s)).hwd.sto && !(s.flag F.CMB_STAT_STO) then stoFrames (showPorts (latchSto s)) else showPorts (latchSto s))) := by
    rw [exec_stoLatch]
    rfl
  obtain ⟨axes, ho⟩ := honly
  have hcalm : Calm (latchSto s) := by rw [ho]; exact h6
  generalize hv : latchSto s = v at *
  generalize showPorts v = w at *
  have hw : w.hwd.sto = true := by rw [hport.hwd, ho]; exact (congrArg _ h8).trans hsto
  have hcmb : w.cmb = v.cmb := hport.cmb
  have hvcmb : v.cmb = { s.cmb with afterSto := true, axes := axes } := by rw [ho]; exact congrArg (fun c : Cmb => { c with axes := axes }) h5
  rw [hw, hwas, if_pos (by decide), hwdServe_of_calm (by rw [stoFrames_eq]; exact hport.calm hcalm), stoFrames_eq] at hexec
  refine ⟨_, hexec, ?_, ?_, ?_, ?_, fun a ha hon => ?_, ?_⟩
  · have hf : v.flag F.CMB_STAT_STO = true := by rw [ho]; exact h1
    have : w.flag F.CMB_STAT_STO = true := by
      rw [← hf]
      unfold State.flag
      rw [fld_of_reg F.CMB_STAT_STO (hreg (by decide))]
    exact this
  · have hf : v.fld F.CMB_CHSTAT_PENDING = 0 := by rw [ho]; exact h2
    exact (fld_of_reg F.CMB_CHSTAT_PENDING (hreg (by decide))).trans hf
  · exact (congrArg Cmb.afterSto (hcmb.trans hvcmb) :)
  · have hm : v.mem = s.mem := by rw [ho]; exact h4
    exact hport.mem.trans hm
  · have hx : cmbAxis w a = cmbAxis (stoAxis u a) a := by
      rw [← (hax a).2 (mem_axesOn.2 ⟨ha, hon⟩)]
      unfold cmbAxis
      rw [hcmb]
    have hn : (cmbAxis w a).next = some (srcSto, none) := by
      rw [hx]
      unfold stoAxis
      rw [cmbAxis_modAxis_self]
    have : nextSrc w a = srcSto := by
      unfold nextSrc
      rw [hn]
    exact this
  · have hst (p : Nat) : portState w p = portState s p := by
      rw [portState_of_reg (hreg (pstat_ne_stat p)), ← h7 p, ho]
      rfl
    have hcyc : w.cmb.cycle = s.cmb.cycle := by rw [hcmb, hvcmb]
    have hvo : w.out = s.out ++ [.line .acknowledge] := by rw [hout, ho]; exact h3
    show w.out ++ _ = _
    rw [hvo, hcyc]
    simp only [hst]

end Sys2Proof.Machine
end

section
/-! Cambium's part of a cycle start (R346, R349, R350, R356, R357). -/

namespace Sys2Proof.Machine

theorem synd_axesOnly {s t : State} (h : AxesOnly s t) : t.memsys = s.memsys := by
  obtain ⟨axes, rfl⟩ := h
  rfl

/-- The registers that a cycle start may write. -/
def CycReg (o : Nat) : Prop := LawReg o ∨ o = Reg.CMB_STAT ∨ o = Reg.CMB_CYC_LO ∨ o = Reg.CMB_CYC_LO + 4

theorem cycReg_of_axis {o : Nat} (h : AxisReg o) : CycReg o := by
  rcases h with h | h | h
  · exact .inl (.inr (.inr (.inr (.inl h))))
  · exact .inl (.inl h)
  · exact .inr (.inl h)

/-- What every part of a cycle start leaves, with good check bits. -/
structure Works (s t : State) : Prop where
  rlk : t.rlk = s.rlk
  cmb : { t.cmb with axes := s.cmb.axes, last := s.cmb.last } = s.cmb
  reg : ∀ o, ¬ CycReg o → t.reg o = s.reg o
  due : t.hwd.due = s.hwd.due
  runs : RunsOnly s t
  synd : t.memsys.synd = []
  grows : Grows s t
  state : ∀ a < 128, axState s a = axActive ∨ axState s a = axFault → axState t a = axActive ∨ axState t a = axFault

namespace Works
variable {s t u : State}
theorem refl (hs : s.memsys.synd = []) : Works s s := ⟨rfl, rfl, fun _ _ => rfl, rfl, runsOnly_refl s, hs, .refl s, fun _ _ => id⟩
theorem trans (h : Works s t) (g : Works t u) : Works s u := by
  refine ⟨g.rlk.trans h.rlk, ?_, fun o ho => (g.reg o ho).trans (h.reg o ho), g.due.trans h.due, runsOnly_trans h.runs g.runs, g.synd, h.grows.trans g.grows,
    fun a ha hs => g.state a ha (h.state a ha hs)⟩
  exact (congrArg (fun x : Cmb => { x with axes := s.cmb.axes, last := s.cmb.last }) g.cmb).trans h.cmb
theorem ofLaw (h : LawStep s t) (hs : s.memsys.synd = []) : Works s t := by
  obtain ⟨h1, h2, h3, h4⟩ := h.sound hs
  refine ⟨h.rlk, ?_, fun o ho => h.reg o fun he => ho (.inl he), by rw [h1], runsOnly_of_mem h2, h3, h4, fun a ha hst => by rw [h.state a ha]; exact hst⟩
  exact congrArg (fun x : Cmb => { x with last := s.cmb.last }) h.cmb
theorem ofAxis (h : AxisStep s t) (hs : s.memsys.synd = []) (hg : Grows s t)
    (hst : ∀ a < 128, axState s a = axActive ∨ axState s a = axFault → axState t a = axActive ∨ axState t a = axFault) : Works s t := by
  refine ⟨h.rlk, ?_, fun o ho => h.reg o fun he => ho (cycReg_of_axis he), by rw [h.hwd], h.runs, h.synd hs, hg, hst⟩
  exact congrArg (fun x : Cmb => { x with last := s.cmb.last }) h.cmb
theorem cycle (h : Works s t) : t.cmb.cycle = s.cmb.cycle := (congrArg Cmb.cycle h.cmb :)
theorem bound (h : Works s t) : t.cmb.bound = s.cmb.bound := (congrArg Cmb.bound h.cmb :)
theorem calm (h : Works s t) (hc : Calm s) : Calm t := by
  have e : seqState t = seqState s := by
    unfold seqState
    exact fld_of_reg _ (h.reg _ (by unfold CycReg LawReg NetReg EvReg F.HWD_STATE_SEQ Reg.CMB_CYC_LO Reg.CMB_STAT; dsimp only; omega))
  exact ⟨by rw [h.due]; exact hc.1, by rw [e]; exact hc.2⟩
end Works

/-! ### The cycle before -/

theorem cmb_missAxis (a bits : Nat) (s : State) : (missAxis a bits s).cmb = s.cmb := by
  obtain ⟨run, t, u, -, ht, hu, e⟩ := missAxis_eq a bits s
  have hcmb : u.cmb = t.cmb := (congrArg State.cmb hu.rest :)
  rw [e]
  split
  · rw [cmb_faultAxis, hcmb, ht, cmb_setRun, cmb_incHold]
  · rw [hcmb, ht, cmb_setRun, cmb_incHold]

theorem missAxis_active {a b : Nat} (ha : a < 128) (hb : b < 128) (bits : Nat) (s : State) (h : axState s b = axActive ∨ axState s b = axFault) :
    axState (missAxis a bits s) b = axActive ∨ axState (missAxis a bits s) b = axFault := by
  by_cases e : a = b
  · subst e
    obtain ⟨run, t, u, -, ht, hu, e⟩ := missAxis_eq a bits s
    have hst : axState u a = axState s a := by
      rw [axState_of_reg (hu.reg _ (not_evReg_axStat ha)), ht, axState_of_reg (reg_setRun_stat ha run _)]
      exact axState_of_reg (reg_incHold_ne s (f := F.CMB_AX_MISS_CNT a) (axStat_ne_miss ha))
    have hf : axState (faultAxis a 1 0 u) a = axActive ∨ axState (faultAxis a 1 0 u) a = axFault := by
      unfold faultAxis
      split
      · rw [hst]; exact h
      · rw [axState_of_reg ((eventStep_axisEvent (by decide) _).reg _ (not_evReg_axStat ha))]
        exact .inr (axState_put u a (by decide))
    rw [e]
    split
    · exact hf
    · rw [hst]; exact h
  · rw [axState_of_reg (missAxis_other hb ha e bits s).stat]
    exact h

/-- The end of the cycle before: laws still in computation are missed, the cycle is counted and told to Heartwood. -/
def cycleCounted (waiting : Nat → Bool) (s : State) : State :=
  heartbeat ((axesOn s).foldl (fun s a => if waiting a then missAxis a 2 s else s) (s.inc64 Reg.CMB_CYC_LO))

theorem reg64_inc64_cyc (s : State) : (s.inc64 Reg.CMB_CYC_LO).reg64 Reg.CMB_CYC_LO = (s.reg64 Reg.CMB_CYC_LO + 1) % 2 ^ 64 := reg64_inc64_self s Reg.CMB_CYC_LO 1

theorem cycleCounted_spec (waiting : Nat → Bool) {s : State} (hs : s.memsys.synd = []) : let t := cycleCounted waiting s
    Works s t ∧ t.cmb = s.cmb ∧ t.reg64 Reg.CMB_CYC_LO = (s.reg64 Reg.CMB_CYC_LO + 1) % 2 ^ 64 ∧ Out.line .heartbeat ∈ t.out ∧ t.hwd.beat = s.elapsed := by
  obtain ⟨m, hm⟩ : ∃ m, m = s.inc64 Reg.CMB_CYC_LO := ⟨_, rfl⟩
  have hmreg {o : Nat} (h1 : o ≠ Reg.CMB_CYC_LO) (h2 : o ≠ Reg.CMB_CYC_LO + 4) : m.reg o = s.reg o := by rw [hm]; exact reg_inc64_ne s 1 h1 h2
  have hmcmb : m.cmb = s.cmb := by rw [hm, State.inc64_cmb]
  have hmel : m.elapsed = s.elapsed := by rw [hm, State.inc64_elapsed]
  have hsm : Works s m := by
    refine ⟨by rw [hm, State.inc64_rlk], by rw [hmcmb], fun o ho => hmreg (fun e => ho (.inr (.inr (.inl e)))) (fun e => ho (.inr (.inr (.inr e)))), by rw [hm, State.inc64_hwd],
      runsOnly_of_mem (by rw [hm, State.inc64_mem]), by rw [hm, State.inc64_memsys]; exact hs, .ofOut (by rw [hm, State.inc64_out]), fun a ha h => ?_⟩
    rw [axState_of_reg (hmreg (by unfold Reg.CMB_AX_STAT Reg.CMB_CYC_LO; omega) (by unfold Reg.CMB_AX_STAT Reg.CMB_CYC_LO; omega))]
    exact h
  have hcyc : m.reg64 Reg.CMB_CYC_LO = (s.reg64 Reg.CMB_CYC_LO + 1) % 2 ^ 64 := by rw [hm]; exact reg64_inc64_cyc s
  have hl : ∀ a ∈ axesOn s, a < 128 := fun a ha => (mem_axesOn.1 ha).1
  have hax := AxisStep.foldl (axesOn s) (fun s a => if waiting a then missAxis a 2 s else s) (fun t a ha => by
    split
    · exact axisStep_missAxis (hl a ha) 2 t
    · exact .refl t) m
  have hgr := Grows.foldl (axesOn s) (fun s a => if waiting a then missAxis a 2 s else s) (fun t a _ => by
    split
    · exact grows_missAxis a 2 t
    · exact .refl t) m
  have hfold (l : List Nat) (hl : ∀ a ∈ l, a < 128) (t : State) : (l.foldl (fun s a => if waiting a then missAxis a 2 s else s) t).cmb = t.cmb
      ∧ ∀ b < 128, axState t b = axActive ∨ axState t b = axFault → axState (l.foldl (fun s a => if waiting a then missAxis a 2 s else s) t) b = axActive
        ∨ axState (l.foldl (fun s a => if waiting a then missAxis a 2 s else s) t) b = axFault := by
    induction l generalizing t with
    | nil => exact ⟨rfl, fun _ _ => id⟩
    | cons a l ih =>
      obtain ⟨h1, h2⟩ := ih (fun x hx => hl x (List.mem_cons_of_mem _ hx)) (if waiting a then missAxis a 2 t else t)
      rw [List.foldl_cons]
      refine ⟨h1.trans ?_, fun b hb h => h2 b hb ?_⟩
      · split
        · exact cmb_missAxis a 2 t
        · rfl
      · split
        · exact missAxis_active (hl a List.mem_cons_self) hb 2 t h
        · exact h
  obtain ⟨hfcmb, hfst⟩ := hfold (axesOn s) hl m
  unfold cycleCounted
  rw [← hm]
  generalize (axesOn s).foldl (fun s a => if waiting a then missAxis a 2 s else s) m = f at *
  have hmf : Works m f := .ofAxis hax hsm.synd hgr hfst
  have hfb : Works f (heartbeat f) := ⟨rfl, rfl, fun _ _ => rfl, rfl, runsOnly_refl f, hmf.synd, ⟨[.line .heartbeat], rfl⟩, fun _ _ => id⟩
  refine ⟨(hsm.trans hmf).trans hfb, hfcmb.trans hmcmb, ?_, List.mem_append_right _ (List.mem_singleton.2 rfl), hax.elapsed.trans hmel⟩
  have hreg (o : Nat) : (heartbeat f).reg o = f.reg o := rfl
  rw [reg64_congr ((hreg _).trans (hax.reg _ (by unfold AxisReg EvReg Reg.CMB_CYC_LO; omega))) ((hreg _).trans (hax.reg _ (by unfold AxisReg EvReg Reg.CMB_CYC_LO; omega))), hcyc]

/-! ### The cycle that starts -/

/-- Samples of the cycle before are seen, none of this one is done. -/
def seenAxis (s : State) (a : Nat) : State := modAxis a (fun x => { x with seen := x.seen && x.done, done := false }) s

theorem perAxis_seen : PerAxis seenAxis where
  only s a := axesOnly_modAxis _ _ _
  other s a b h := cmbAxis_modAxis_ne h _ _
  own s t a h hx := by
    unfold seenAxis
    rw [cmbAxis_modAxis_self, cmbAxis_modAxis_self, hx]

/-- The cycle is entered: its boundary noted, RUN shown. -/
def cycleEntered (b : Nat) (on : List Nat) (s : State) : State :=
  let s := on.foldl seenAxis s
  (s.setCmb { s.cmb with last := some b }).put F.CMB_STAT_RUN 1

theorem cycleEntered_spec (b : Nat) {on : List Nat} (hd : on.Nodup) {s : State} (hs : s.memsys.synd = []) : let t := cycleEntered b on s
    Works s t ∧ t.cmb.last = some b ∧ t.flag F.CMB_STAT_RUN = true ∧ (∀ o, o ≠ Reg.CMB_STAT → t.reg o = s.reg o) ∧ t.hwd = s.hwd
      ∧ ∀ a, (cmbAxis t a).next = (cmbAxis s a).next ∧ (cmbAxis t a).nextAt = (cmbAxis s a).nextAt := by
  obtain ⟨honly, hax⟩ := perAxis_foldl perAxis_seen on hd s
  unfold cycleEntered
  generalize on.foldl seenAxis s = u at *
  dsimp only
  have hkeep (a : Nat) : (cmbAxis u a).next = (cmbAxis s a).next ∧ (cmbAxis u a).nextAt = (cmbAxis s a).nextAt := by
    by_cases h : a ∈ on
    · rw [(hax a).2 h]
      unfold seenAxis
      rw [cmbAxis_modAxis_self]
      exact ⟨rfl, rfl⟩
    · rw [(hax a).1 h]
      exact ⟨rfl, rfl⟩
  obtain ⟨axes, rfl⟩ := honly
  have hreg (o : Nat) (ho : o ≠ Reg.CMB_STAT) : ((State.setCmb { s with cmb := { s.cmb with axes := axes } } { s.cmb with axes := axes, last := some b }).put
      F.CMB_STAT_RUN 1).reg o = s.reg o := reg_put_ne _ F.CMB_STAT_RUN 1 ho
  refine ⟨⟨rfl, rfl, fun o ho => hreg o fun e => ho (.inr (.inl e)), rfl, runsOnly_of_mem rfl, hs, .ofOut rfl, fun a ha h => ?_⟩, rfl,
    flag_put_one _ (f := F.CMB_STAT_RUN) rfl (by decide), hreg, rfl, hkeep⟩
  rw [axState_of_reg (hreg _ (by unfold Reg.CMB_AX_STAT Reg.CMB_STAT; omega))]
  exact h

/-- The report of stopped groups writes the status and its events only. -/
theorem stopDone_frame (s : State) : RegStep (fun o => EvReg o ∨ o = Reg.CMB_STAT) s (stopDone s) ∧ (stopDone s).flag F.CMB_STAT_RUN = s.flag F.CMB_STAT_RUN := by
  have hfold (l : List Nat) (f : State → Nat → State)
      (h : ∀ t g, RegStep (fun o => EvReg o ∨ o = Reg.CMB_STAT) t (f t g) ∧ (f t g).flag F.CMB_STAT_RUN = t.flag F.CMB_STAT_RUN) (t : State) :
      RegStep (fun o => EvReg o ∨ o = Reg.CMB_STAT) t (l.foldl f t) ∧ (l.foldl f t).flag F.CMB_STAT_RUN = t.flag F.CMB_STAT_RUN := by
    induction l generalizing t with
    | nil => exact ⟨.refl _, rfl⟩
    | cons x l ih =>
      obtain ⟨h1, h2⟩ := h t x
      obtain ⟨h3, h4⟩ := ih (f t x)
      exact ⟨h1.trans h3, h4.trans h2⟩
  unfold stopDone
  split
  · exact ⟨.refl s, rfl⟩
  · refine hfold _ _ (fun t g => ?_) s
    dsimp only
    split
    · have h1 := RegStep.put (P := fun o => EvReg o ∨ o = Reg.CMB_STAT) t (f := F.CMB_STAT_STOPDONE) (t.fld F.CMB_STAT_STOPDONE ||| 2 ^ g) (.inr rfl)
      have hr : (t.put F.CMB_STAT_STOPDONE (t.fld F.CMB_STAT_STOPDONE ||| 2 ^ g)).flag F.CMB_STAT_RUN = t.flag F.CMB_STAT_RUN :=
        flag_put_apart t F.CMB_STAT_STOPDONE F.CMB_STAT_RUN _ (by decide) (by decide) (.inl (by decide))
      have hev (v : State) (x y z w : Nat) : EventStep v (cmbEvent 0x7008 1 x y z w (pulseLine (.stopDone g) v)) :=
        (eventStep_pulseLine _ _).trans (eventStep_cmbEvent (by decide) _ 0)
      exact ⟨h1.trans (.ofEvent (hev _ _ _ _ _) fun _ => .inl), ((hev _ _ _ _ _).flag (by unfold EvReg F.CMB_STAT_RUN; dsimp only; omega)).trans hr⟩
    · exact ⟨.refl t, rfl⟩

/-- Reports of source changes. -/
theorem changes_frame (b : Nat) (l : Changes) (s : State) :
    EventStep s (l.foldl (fun s e => cmbEvent 0x7007 0 e.2 (e.1 / 4) (b % 1000000000) (if e.1 / 4 = srcChunk then e.1 % 4 else 0) s (recTime b)) s)
    ∧ Grows s (l.foldl (fun s e => cmbEvent 0x7007 0 e.2 (e.1 / 4) (b % 1000000000) (if e.1 / 4 = srcChunk then e.1 % 4 else 0) s (recTime b)) s) := by
  induction l generalizing s with
  | nil => exact ⟨.refl s, .refl s⟩
  | cons e l ih =>
    rw [List.foldl_cons]
    have h1 := eventStep_cmbEvent (code := 0x7007) (sev := 0) (a0 := e.2) (a1 := e.1 / 4) (a2 := b % 1000000000) (a3 := if e.1 / 4 = srcChunk then e.1 % 4 else 0) (by decide) s (recTime b)
    have h2 := grows_cmbEvent (code := 0x7007) (sev := 0) (a0 := e.2) (a1 := e.1 / 4) (a2 := b % 1000000000) (a3 := if e.1 / 4 = srcChunk then e.1 % 4 else 0) (by decide) s (recTime b)
    generalize cmbEvent 0x7007 0 e.2 (e.1 / 4) (b % 1000000000) (if e.1 / 4 = srcChunk then e.1 % 4 else 0) s (recTime b) = t at *
    obtain ⟨h3, h4⟩ := ih t
    exact ⟨h1.trans h3, h2.trans h4⟩

theorem lawStep_refreshChannels (s : State) : LawStep s (refreshChannels s) := lawStep_chstat s _ rfl

/-- The sources and setpoints of the cycle. -/
def cycleSources (b : Nat) (on : List Nat) (s : State) : Changes × State :=
  on.foldl (updateSetpoint b) ((List.range 4).foldl (switchChannel b) (on.foldl (applyNext b) (([] : Changes), s)))

theorem cycleSources_spec (b : Nat) {on : List Nat} (hl : ∀ a ∈ on, a < 128) (hd : on.Nodup) (s : State) : LawStep s (cycleSources b on s).2
    ∧ ∀ a ∈ on, (cmbAxis s a).next = some (srcSto, none) → (cmbAxis s a).nextAt < b → axSrc (cycleSources b on s).2 a = srcSto := by
  obtain ⟨h1, h2⟩ := applyNext_foldl b on hl hd (([] : Changes), s)
  unfold cycleSources
  generalize on.foldl (applyNext b) (([] : Changes), s) = r at *
  have h3 := Follows.foldl (List.range 4) (switchChannel b) (fun r n hn => follows_switchChannel (List.mem_range.1 hn) r) r
  generalize (List.range 4).foldl (switchChannel b) r = r2 at *
  have h4 := Follows.foldl on (updateSetpoint b) (fun r a ha => follows_updateSetpoint (hl a ha) b r) r2
  generalize on.foldl (updateSetpoint b) r2 = r3 at *
  refine ⟨(h1.trans h3.step).trans h4.step, fun a ha hn hat => ?_⟩
  exact (h4.sto a (hl a ha)).2 ((h3.sto a (hl a ha)).2 ((h2 a (hl a ha)).2 ha hn hat))

theorem startCycle_eq (b : Nat) (waiting : Nat → Bool) (s : State) : ∃ c, c = (if s.cmb.last.isSome then cycleCounted waiting s else s)
    ∧ ∃ e, e = cycleEntered b (axesOn s) c ∧ ∃ r, r = cycleSources b (axesOn s) e
    ∧ startCycle b waiting s = r.1.foldl (fun s e => cmbEvent 0x7007 0 e.2 (e.1 / 4) (b % 1000000000) (if e.1 / 4 = srcChunk then e.1 % 4 else 0) s (recTime b))
        (stopDone (refreshChannels r.2)) := ⟨_, rfl, _, rfl, _, rfl, rfl⟩

/-- Cambium's cycle at the boundary `b`. -/
structure Cycled (b : Nat) (s u : State) : Prop where
  works : Works s u
  last : u.cmb.last = some b
  run : u.flag F.CMB_STAT_RUN = true
  count : u.reg64 Reg.CMB_CYC_LO = (s.reg64 Reg.CMB_CYC_LO + if s.cmb.last = none then 0 else 1) % 2 ^ 64
  beat : s.cmb.last ≠ none → Out.line .heartbeat ∈ u.out ∧ u.hwd.beat = s.elapsed
  sto : ∀ a < 128, axOn s a = true → (cmbAxis s a).next = some (srcSto, none) → (cmbAxis s a).nextAt < b → axSrc u a = srcSto

theorem startCycle_spec (b : Nat) (waiting : Nat → Bool) {s : State} (hs : s.memsys.synd = []) : Cycled b s (startCycle b waiting s) := by
  obtain ⟨c, hc, e, he, r, hr, heq⟩ := startCycle_eq b waiting s
  have hl : ∀ a ∈ axesOn s, a < 128 := fun a ha => (mem_axesOn.1 ha).1
  have hd : (axesOn s).Nodup := List.nodup_range.filter _
  have hcount : Works s c ∧ c.cmb = s.cmb ∧ c.reg64 Reg.CMB_CYC_LO = (s.reg64 Reg.CMB_CYC_LO + if s.cmb.last = none then 0 else 1) % 2 ^ 64
      ∧ (s.cmb.last ≠ none → Out.line .heartbeat ∈ c.out ∧ c.hwd.beat = s.elapsed) := by
    rw [hc]
    cases h : s.cmb.last with
    | none =>
      refine ⟨.refl hs, rfl, ?_, fun g => absurd rfl g⟩
      rw [if_neg (by decide), if_pos rfl, Nat.add_zero, Nat.mod_eq_of_lt]
      have h1 := (s.reg Reg.CMB_CYC_LO).isLt
      have h2 := (s.reg (Reg.CMB_CYC_LO + 4)).isLt
      unfold State.reg64
      omega
    | some x =>
      obtain ⟨h1, h2, h3, h4, h5⟩ := cycleCounted_spec waiting hs
      rw [if_pos Option.isSome_some]
      exact ⟨h1, h2, by rw [h3, if_neg (by simp)], fun _ => ⟨h4, h5⟩⟩
  obtain ⟨hw1, hcmb, hcyc, hbeat⟩ := hcount
  obtain ⟨hw2, hlast, hrun, hereg, hehwd, hnext⟩ := cycleEntered_spec b hd (s := c) hw1.synd
  rw [← he] at hw2 hlast hrun hereg hehwd hnext
  obtain ⟨hlaw, hsto⟩ := cycleSources_spec b hl hd e
  rw [← hr] at hlaw hsto
  clear hc he hr
  obtain ⟨h1, v⟩ := r
  dsimp only at hlaw hsto heq
  have hw3 : Works e v := .ofLaw hlaw hw2.synd
  have hlaw2 := lawStep_refreshChannels v
  have hrefreg {o : Nat} (ho : o ≠ Reg.CMB_CHSTAT) : (refreshChannels v).reg o = v.reg o := reg_put_ne v F.CMB_CHSTAT_ACTIVE _ ho
  generalize refreshChannels v = w at *
  have hw4 : Works v w := .ofLaw hlaw2 hw3.synd
  obtain ⟨hdone, hdrun⟩ := stopDone_frame w
  have hdgrow := grows_stopDone w
  generalize stopDone w = x at *
  have hxreg {o : Nat} (h1 : ¬ EvReg o) (h2 : o ≠ Reg.CMB_STAT) : x.reg o = w.reg o := hdone.reg o fun h => h.elim h1 h2
  have hw5 : Works w x := .ofAxis (.ofReg hdone fun o h => h.elim .inl fun e => .inr (.inr e)) hw4.synd hdgrow fun a ha h => by
    rw [axState_of_reg (hxreg (not_evReg_axStat ha) (by unfold Reg.CMB_AX_STAT Reg.CMB_STAT; omega))]; exact h
  obtain ⟨hev, hgr⟩ := changes_frame b h1 x
  rw [← heq] at hev hgr
  generalize startCycle b waiting s = u at *
  have hw6 : Works x u := .ofAxis (.ofEvent hev) hw5.synd hgr fun a ha h => by rw [axState_of_reg (hev.reg _ (not_evReg_axStat ha))]; exact h
  have hafter := ((hw3.trans hw4).trans hw5).trans hw6
  have hreg {o : Nat} (hL : ¬ LawReg o) (h0 : o ≠ Reg.CMB_STAT) (hE : ¬ EvReg o) : u.reg o = c.reg o := by
    rw [hev.reg o hE, hxreg hE h0, hlaw2.reg o hL, hlaw.reg o hL, hereg o h0]
  refine ⟨((hw1.trans hw2).trans hafter), ?_, ?_, ?_, fun h => ?_, fun a ha hon hn hat => ?_⟩
  · have : u.cmb = x.cmb := (congrArg State.cmb hev.rest :)
    rw [this, show x.cmb = w.cmb from (congrArg State.cmb hdone.rest :), hlaw2.last, hlaw.last, hlast]
  · have hvrun : v.flag F.CMB_STAT_RUN = e.flag F.CMB_STAT_RUN := by
      have hstat : v.reg Reg.CMB_STAT = e.reg Reg.CMB_STAT := hlaw.reg _ (by unfold LawReg NetReg EvReg Reg.CMB_STAT; omega)
      unfold State.flag
      rw [fld_of_reg F.CMB_STAT_RUN hstat]
    have hwrun : w.flag F.CMB_STAT_RUN = v.flag F.CMB_STAT_RUN := by
      unfold State.flag
      rw [fld_of_reg F.CMB_STAT_RUN (hrefreg (by decide))]
    rw [hev.flag (by unfold EvReg F.CMB_STAT_RUN; dsimp only; omega), hdrun, hwrun, hvrun, hrun]
  · rw [reg64_congr (hreg (by unfold LawReg NetReg EvReg Reg.CMB_CYC_LO; omega) (by decide) (by unfold EvReg Reg.CMB_CYC_LO; omega))
      (hreg (by unfold LawReg NetReg EvReg Reg.CMB_CYC_LO; omega) (by decide) (by unfold EvReg Reg.CMB_CYC_LO; omega)), hcyc]
  · obtain ⟨h1, h2⟩ := hbeat h
    refine ⟨(hw2.grows.trans hafter.grows).mem h1, ?_⟩
    rw [show u.hwd = x.hwd from (congrArg State.hwd hev.rest :), hdone.hwd, (hlaw2.sound hw3.synd).1, (hlaw.sound hw2.synd).1, hehwd, h2]
  · rw [axSrc_of_reg (hev.reg _ (not_evReg_axStat ha)), axSrc_of_reg (hxreg (not_evReg_axStat ha) (by unfold Reg.CMB_AX_STAT Reg.CMB_STAT; omega)),
      axSrc_of_reg (hrefreg (by unfold Reg.CMB_AX_STAT Reg.CMB_CHSTAT; omega))]
    refine hsto a (mem_axesOn.2 ⟨ha, hon⟩) ?_ ?_
    · rw [(hnext a).1]; unfold cmbAxis at hn ⊢; rw [hcmb]; exact hn
    · rw [(hnext a).2]; unfold cmbAxis at hat ⊢; rw [hcmb]; exact hat

end Sys2Proof.Machine
end

section
/-! The ports at a boundary (R346, R372, R379, R384), the axes they do not reach (R358, R383), and the obligation about joint cycles. -/

namespace Sys2Proof.Machine

/-- The registers of port `p` that a boundary may write; a rejoin clears the loss of its stations. -/
def BoundReg (p o : Nat) : Prop :=
  EvReg o ∨ o = Reg.RLK_P_STAT p ∨ o = Reg.RLK_P_CLOSE p ∨ o = Reg.RLK_P_LOSS p ∨ o = Reg.RLK_P_MGSTAT p ∨ (0x261000 ≤ o ∧ o % 16 = 12)

/-- From `s` to `t` only port `p` and the outputs moved. -/
structure BoundStep (p : Nat) (s t : State) : Prop where
  rest : { t with evq := s.evq, out := s.out, regs := s.regs, rlk := s.rlk, free := s.free } = s
  reg : ∀ o, ¬ BoundReg p o → t.reg o = s.reg o
  grows : Grows s t
  port : ∀ q, q ≠ p → rlkPort t q = rlkPort s q

namespace BoundStep
variable {p : Nat} {s t u : State}
theorem refl (p : Nat) (s : State) : BoundStep p s s := ⟨rfl, fun _ _ => rfl, .refl s, fun _ _ => rfl⟩
theorem trans (h : BoundStep p s t) (g : BoundStep p t u) : BoundStep p s u := by
  refine ⟨?_, fun o ho => (g.reg o ho).trans (h.reg o ho), h.grows.trans g.grows, fun q hq => (g.port q hq).trans (h.port q hq)⟩
  exact (congrArg (fun x : State => { x with evq := s.evq, out := s.out, regs := s.regs, rlk := s.rlk, free := s.free }) g.rest).trans h.rest
theorem put (s : State) {f : RegField} (v : Nat) (h : BoundReg p f.reg) : BoundStep p s (s.put f v) :=
  ⟨rfl, fun _ ho => reg_put_ne s f v fun e => ho (e ▸ h), .ofOut (State.put_out _ _ _), fun q _ => rlkPort_of_rlk (State.put_rlk _ _ _) q⟩
theorem incHold (s : State) {f : RegField} (h : BoundReg p f.reg) : BoundStep p s (s.incHold f) := by
  unfold State.incHold
  split
  · exact put s _ h
  · exact refl p s
theorem modPort (s : State) (f : RlkPort → RlkPort) : BoundStep p s (modPort p f s) :=
  ⟨rfl, fun _ _ => rfl, .ofOut (modPort_out _ _ _), fun q hq => by rw [rlkPort_modPort, if_neg hq]⟩
theorem emit (s : State) (o : Out) : BoundStep p s (s.emit o) := ⟨rfl, fun _ _ => rfl, .emit s o, fun _ _ => rfl⟩
theorem free (s : State) : BoundStep p s s.freeNat.2 := ⟨rfl, fun _ _ => rfl, .ofOut rfl, fun _ _ => rfl⟩
theorem ofEvent (h : EventStep s t) (hg : Grows s t) : BoundStep p s t :=
  ⟨(congrArg (fun x : State => { x with rlk := s.rlk, free := s.free }) h.rest :), fun o ho => h.reg o fun he => ho (.inl he), hg, fun q _ => h.rlkPort q⟩
theorem foldl {α : Type} (l : List α) (f : State → α → State) (h : ∀ s, ∀ x ∈ l, BoundStep p s (f s x)) (s : State) : BoundStep p s (l.foldl f s) := by
  induction l generalizing s with
  | nil => exact refl _ _
  | cons x l ih => exact (h s x List.mem_cons_self).trans (ih (fun s y hy => h s y (List.mem_cons_of_mem _ hy)) _)
theorem mem (h : BoundStep p s t) : t.mem = s.mem := (congrArg State.mem h.rest :)
theorem cmb (h : BoundStep p s t) : t.cmb = s.cmb := (congrArg State.cmb h.rest :)
theorem hwd (h : BoundStep p s t) : t.hwd = s.hwd := (congrArg State.hwd h.rest :)
end BoundStep

theorem boundStep_endExchange {p : Nat} (ok : Bool) (s : State) : BoundStep p s (endExchange p ok s) := by
  have hb (t : State) (v : Nat) : BoundStep p t (t.put (F.RLK_P_MGSTAT_BUSY p) v) := .put t v (.inr (.inr (.inr (.inr (.inl rfl)))))
  have hd (t : State) (v : Nat) : BoundStep p t (t.put (F.RLK_P_MGSTAT_DONE p) v) := .put t v (.inr (.inr (.inr (.inr (.inl rfl)))))
  have hf (t : State) (v : Nat) : BoundStep p t (t.put (F.RLK_P_MGSTAT_FAIL p) v) := .put t v (.inr (.inr (.inr (.inr (.inl rfl)))))
  unfold endExchange
  dsimp only
  split
  · exact ((hb s 0).trans (.modPort _ _)).trans (hd _ 1)
  · exact ((hb s 0).trans (.modPort _ _)).trans (hf _ 1)

theorem boundReg_station (p k : Nat) : BoundReg p (Reg.RLK_P_S_STAT p k) := by
  unfold BoundReg Reg.RLK_P_S_STAT
  omega

/-- A register that the loss of no station is in. -/
theorem pstat_not_station (p q k : Nat) : Reg.RLK_P_STAT p ≠ Reg.RLK_P_S_STAT q k := sstat_ne_pstat q k

/-- The plan of a port with `n` stations is put in force. -/
theorem boundStep_installPlan (p n : Nat) (s : State) : BoundStep p s (installPlan p n s)
    ∧ (n < 16 → portReach (installPlan p n s) p = n) ∧ portState (installPlan p n s) p = portState s p ∧ (installPlan p n s).rlk = s.rlk := by
  have h1 (t : State) (v : Nat) : BoundStep p t (t.put (F.RLK_P_STAT_REACH p) v) := .put t v (.inr (.inl rfl))
  have h2 (t : State) (v : Nat) : BoundStep p t (t.put (F.RLK_P_CLOSE_T p) v) := .put t v (.inr (.inr (.inl rfl)))
  have h3 (k : Nat) (t : State) (v : Nat) : BoundStep p t (t.put (F.RLK_P_S_STAT_LOST p k) v) := .put t v (boundReg_station p k)
  have hfold (l : List Nat) (t : State) : (l.foldl (fun s k => s.put (F.RLK_P_S_STAT_LOST p k) 0) t).reg (Reg.RLK_P_STAT p) = t.reg (Reg.RLK_P_STAT p)
      ∧ (l.foldl (fun s k => s.put (F.RLK_P_S_STAT_LOST p k) 0) t).rlk = t.rlk := by
    induction l generalizing t with
    | nil => exact ⟨rfl, rfl⟩
    | cons k l ih =>
      obtain ⟨i1, i2⟩ := ih (t.put (F.RLK_P_S_STAT_LOST p k) 0)
      rw [List.foldl_cons]
      exact ⟨i1.trans (reg_put_ne t (F.RLK_P_S_STAT_LOST p k) 0 (pstat_not_station p p k)), i2.trans (State.put_rlk _ _ _)⟩
  have hclose (t : State) (v : Nat) : (t.put (F.RLK_P_CLOSE_T p) v).reg (Reg.RLK_P_STAT p) = t.reg (Reg.RLK_P_STAT p) :=
    reg_put_ne t (F.RLK_P_CLOSE_T p) v (by unfold Reg.RLK_P_STAT F.RLK_P_CLOSE_T; dsimp only; omega)
  unfold installPlan
  dsimp only
  generalize (rlkPlan (rlkGap s) (stationFigs s p n)).close.toNat = c
  obtain ⟨hr, hk⟩ := hfold (List.range n) ((s.put (F.RLK_P_STAT_REACH p) n).put (F.RLK_P_CLOSE_T p) c)
  refine ⟨((h1 s n).trans (h2 _ c)).trans (.foldl _ _ (fun t k _ => h3 k t 0) _), fun hn => ?_, ?_, ?_⟩
  · rw [portReach_of_reg (hr.trans (hclose _ _))]
    exact fld_put_fits s (F.RLK_P_STAT_REACH p) (by show 4 ≤ 7; decide) (by show 7 < 32; decide) (by show n < 2 ^ 4; omega)
  · rw [portState_of_reg (hr.trans (hclose _ _))]
    exact fld_put_apart s (F.RLK_P_STAT_REACH p) (F.RLK_P_STAT_STATE p) n (by show 4 ≤ 7; decide) (by show 7 < 32; decide) (by show 1 < 4 ∨ 7 < 0; decide)
  · rw [hk, State.put_rlk, State.put_rlk]

/-- What the exchange of a port is after the boundary (R379). -/
def mgAfter (x : RlkPort) : Nat := if x.mg = 1 then 2 else if x.mg = 3 then 0 else x.mg

/-- The TRIGGER of a cycle. -/
def trigger (p cycle toff perus : Nat) : Out := .rlk p 1 (linkFrame 1 0x80 cycle (leBytes 4 cycle ++ leBytes 2 toff ++ leBytes 2 perus))

/-- An exchange without answer fails at the boundary. -/
def exchangeFailed (p : Nat) (s : State) : State := if (rlkPort s p).mg = 3 then endExchange p false s else s

/-- Restored stations rejoin. -/
def lineRejoined (b p : Nat) (s : State) : State := match (rlkPort s p).rejoin with
  | none => s
  | some n => rlkEvent 0x8003 0 p ((n - portReach s p) % 256) (b % 1000000000) 0 ((installPlan p n s).incHold (F.RLK_P_LOSS_REJOINS p))

theorem portBoundary_eq (b p : Nat) (s : State) (h : portState s p = rlkUp) : ∃ m, m = lineRejoined b p (exchangeFailed p s)
    ∧ ∃ u, u = modPort p (fun x => { x with got := [], closed := false, released := false, rejoin := none, mg := if x.mg = 1 then 2 else x.mg }) m
    ∧ portBoundary b p s = u.freeNat.2.emit (trigger p u.cmb.cycle (u.freeNat.1 % 133) (u.fld F.CMB_PERIOD_PERUS)) := by
  refine ⟨_, rfl, _, rfl, ?_⟩
  unfold portBoundary
  rw [if_neg (not_not.2 h)]
  rfl

theorem exchangeFailed_spec (p : Nat) (s : State) : BoundStep p s (exchangeFailed p s) ∧ (exchangeFailed p s).reg (Reg.RLK_P_STAT p) = s.reg (Reg.RLK_P_STAT p)
    ∧ rlkPort (exchangeFailed p s) p = { rlkPort s p with mg := if (rlkPort s p).mg = 3 then 0 else (rlkPort s p).mg } := by
  unfold exchangeFailed
  split
  · exact ⟨boundStep_endExchange false s, reg_endExchange false s (pstat_ne_mgstat p p), rlkPort_endExchange false s⟩
  · exact ⟨.refl p s, rfl, rfl⟩

theorem lineRejoined_spec {p : Nat} (hp : p < 16) (b : Nat) (s : State) : BoundStep p s (lineRejoined b p s) ∧ portState (lineRejoined b p s) p = portState s p
    ∧ rlkPort (lineRejoined b p s) p = rlkPort s p ∧ (∀ n < 16, (rlkPort s p).rejoin = some n → portReach (lineRejoined b p s) p = n)
    ∧ ((rlkPort s p).rejoin = none → portReach (lineRejoined b p s) p = portReach s p) := by
  unfold lineRejoined
  cases h : (rlkPort s p).rejoin with
  | none => exact ⟨.refl p s, rfl, rfl, fun _ _ h => (nomatch h), fun _ => rfl⟩
  | some n =>
    obtain ⟨h1, h2, h3, h4⟩ := boundStep_installPlan p n s
    dsimp only
    generalize installPlan p n s = t at *
    have hinc : BoundStep p t (t.incHold (F.RLK_P_LOSS_REJOINS p)) := .incHold t (.inr (.inr (.inr (.inl rfl))))
    have hincreg : (t.incHold (F.RLK_P_LOSS_REJOINS p)).reg (Reg.RLK_P_STAT p) = t.reg (Reg.RLK_P_STAT p) :=
      reg_incHold_ne t (f := F.RLK_P_LOSS_REJOINS p) (by unfold Reg.RLK_P_STAT F.RLK_P_LOSS_REJOINS; dsimp only; omega)
    have hincrlk : (t.incHold (F.RLK_P_LOSS_REJOINS p)).rlk = t.rlk := by
      unfold State.incHold
      split
      · exact State.put_rlk _ _ _
      · rfl
    generalize t.incHold (F.RLK_P_LOSS_REJOINS p) = u at *
    have hev := eventStep_rlkEvent (code := 0x8003) (sev := 0) (a0 := p) (a1 := (n - portReach s p) % 256) (a2 := b % 1000000000) (a3 := 0) (by decide) u
    have hgr := grows_rlkEvent (code := 0x8003) (sev := 0) (a0 := p) (a1 := (n - portReach s p) % 256) (a2 := b % 1000000000) (a3 := 0) (by decide) u
    generalize rlkEvent 0x8003 0 p ((n - portReach s p) % 256) (b % 1000000000) 0 u = v at *
    have hreg := (hev.reg _ (not_evReg_pstat hp)).trans hincreg
    refine ⟨(h1.trans hinc).trans (.ofEvent hev hgr), ?_, ?_, fun k hk e => ?_, fun e => (nomatch e)⟩
    · rw [portState_of_reg hreg, h3]
    · rw [hev.rlkPort, rlkPort_of_rlk (hincrlk.trans h4)]
    · rw [portReach_of_reg hreg]
      injection e with e
      subst e
      exact h2 hk

/-- A port at a boundary. -/
structure PortDone (p : Nat) (s t : State) : Prop where
  idle : portState s p ≠ rlkUp → rlkPort t p = rlkPort s p ∧ t.reg (Reg.RLK_P_STAT p) = s.reg (Reg.RLK_P_STAT p)
  state : portState t p = portState s p
  fresh : portState s p = rlkUp → (rlkPort t p).got = [] ∧ (rlkPort t p).closed = false ∧ (rlkPort t p).released = false ∧ (rlkPort t p).rejoin = none
    ∧ (rlkPort t p).mg = mgAfter (rlkPort s p)
  joined : portState s p = rlkUp → (∀ n < 16, (rlkPort s p).rejoin = some n → portReach t p = n) ∧ ((rlkPort s p).rejoin = none → portReach t p = portReach s p)
  sent : portState s p = rlkUp → ∃ toff ≤ 132, trigger p s.cmb.cycle toff (s.fld F.CMB_PERIOD_PERUS) ∈ t.out

theorem perus_not_bound {p : Nat} (hp : p < 16) : ¬ BoundReg p F.CMB_PERIOD_PERUS.reg := by
  unfold BoundReg EvReg F.CMB_PERIOD_PERUS Reg.RLK_P_STAT Reg.RLK_P_CLOSE Reg.RLK_P_LOSS Reg.RLK_P_MGSTAT
  dsimp only
  omega

theorem portBoundary_spec {p : Nat} (hp : p < 16) (b : Nat) (s : State) : BoundStep p s (portBoundary b p s) ∧ PortDone p s (portBoundary b p s) := by
  by_cases h : portState s p = rlkUp
  · obtain ⟨m, hm, u, hu, e⟩ := portBoundary_eq b p s h
    obtain ⟨x1, x2, x3⟩ := exchangeFailed_spec p s
    obtain ⟨y1, y2, y3, y4, y5⟩ := lineRejoined_spec hp b (exchangeFailed p s)
    rw [← hm] at y1 y2 y3 y4 y5
    rw [x3] at y3 y4 y5
    have hmu : BoundStep p m u := by rw [hu]; exact .modPort m _
    have hureg (o : Nat) : u.reg o = m.reg o := by rw [hu]; exact modPort_reg _ _ _ _
    have hport : rlkPort u p = { rlkPort m p with got := [], closed := false, released := false, rejoin := none, mg := if (rlkPort m p).mg = 1 then 2 else (rlkPort m p).mg } := by
      rw [hu, rlkPort_modPort_self]
    have hsu := (x1.trans y1).trans hmu
    have hlast : BoundStep p u (u.freeNat.2.emit (trigger p u.cmb.cycle (u.freeNat.1 % 133) (u.fld F.CMB_PERIOD_PERUS))) := (BoundStep.free u).trans (.emit _ _)
    have hreg (o : Nat) (w : Out) : (u.freeNat.2.emit w).reg o = u.reg o := rfl
    have hst := (portState_of_reg (hureg (Reg.RLK_P_STAT p))).trans (y2.trans (portState_of_reg x2))
    have hrlk (w : Out) : (u.freeNat.2.emit w).rlk = u.rlk := rfl
    have hout (w : Out) : w ∈ (u.freeNat.2.emit w).out := List.mem_append_right _ (List.mem_singleton.2 rfl)
    rw [e]
    refine ⟨hsu.trans hlast, fun g => absurd h g, ?_, fun _ => ?_, fun _ => ⟨fun n hn hj => ?_, fun hj => ?_⟩, fun _ => ⟨u.freeNat.1 % 133, by omega, ?_⟩⟩
    · rw [portState_of_reg (hreg _ _), hst]
    · rw [rlkPort_of_rlk (hrlk _), hport]
      refine ⟨rfl, rfl, rfl, rfl, ?_⟩
      rw [y3]
      unfold mgAfter
      dsimp only
      by_cases h3 : (rlkPort s p).mg = 3
      · simp [h3]
      · rw [if_neg h3]
    · rw [portReach_of_reg ((hreg _ _).trans (hureg _))]
      exact y4 n hn hj
    · rw [portReach_of_reg ((hreg _ _).trans (hureg _)), y5 hj, portReach_of_reg x2]
    · have h1 : u.cmb.cycle = s.cmb.cycle := by rw [hsu.cmb]
      have h2 : u.fld F.CMB_PERIOD_PERUS = s.fld F.CMB_PERIOD_PERUS := fld_of_reg F.CMB_PERIOD_PERUS (hsu.reg _ (perus_not_bound hp))
      rw [← h1, ← h2]
      exact hout _
  · have e : portBoundary b p s = s := if_pos h
    rw [e]
    exact ⟨.refl p s, fun _ => ⟨rfl, rfl⟩, rfl, fun g => absurd g h, fun g => absurd g h, fun g => absurd g h⟩

/-- From `s` to `t` only ports and the outputs moved. -/
structure PortsStep (s t : State) : Prop where
  rest : { t with evq := s.evq, out := s.out, regs := s.regs, rlk := s.rlk, free := s.free } = s
  reg : ∀ o, (∀ p < 16, ¬ BoundReg p o) → t.reg o = s.reg o
  grows : Grows s t

namespace PortsStep
variable {s t u : State}
theorem refl (s : State) : PortsStep s s := ⟨rfl, fun _ _ => rfl, .refl s⟩
theorem trans (h : PortsStep s t) (g : PortsStep t u) : PortsStep s u := by
  refine ⟨?_, fun o ho => (g.reg o ho).trans (h.reg o ho), h.grows.trans g.grows⟩
  exact (congrArg (fun x : State => { x with evq := s.evq, out := s.out, regs := s.regs, rlk := s.rlk, free := s.free }) g.rest).trans h.rest
theorem ofBound {p : Nat} (hp : p < 16) (h : BoundStep p s t) : PortsStep s t := ⟨h.rest, fun o ho => h.reg o (ho p hp), h.grows⟩
theorem mem (h : PortsStep s t) : t.mem = s.mem := (congrArg State.mem h.rest :)
theorem memsys (h : PortsStep s t) : t.memsys = s.memsys := (congrArg State.memsys h.rest :)
theorem cmb (h : PortsStep s t) : t.cmb = s.cmb := (congrArg State.cmb h.rest :)
theorem hwd (h : PortsStep s t) : t.hwd = s.hwd := (congrArg State.hwd h.rest :)
theorem low (h : PortsStep s t) {o : Nat} (hlo : 0x50000 ≤ o) (ho : o < 0x260000) : t.reg o = s.reg o := h.reg o fun p _ => by
  unfold BoundReg EvReg Reg.RLK_P_STAT Reg.RLK_P_CLOSE Reg.RLK_P_LOSS Reg.RLK_P_MGSTAT
  omega
theorem calm (h : PortsStep s t) (hc : Calm s) : Calm t := by
  have e : seqState t = seqState s := by
    unfold seqState
    exact fld_of_reg _ (h.low (by decide) (by decide))
  exact ⟨by rw [h.hwd]; exact hc.1, by rw [e]; exact hc.2⟩
end PortsStep

/-- The status of a place is no register of another port. -/
theorem pstat_apart {p q : Nat} (h : q ≠ p) (hq : q < 256) : ¬ BoundReg p (Reg.RLK_P_STAT q) := by
  unfold BoundReg EvReg Reg.RLK_P_STAT Reg.RLK_P_CLOSE Reg.RLK_P_LOSS Reg.RLK_P_MGSTAT
  omega

theorem PortDone.shift {p q : Nat} (hq : q < 16) {r s t : State} (hqp : p ≠ q) (hp : p < 16) (h : PortDone p s t) (hb : BoundStep q r s) : PortDone p r t := by
  have hreg := hb.reg _ (pstat_apart hqp (by omega : p < 256))
  have hport := hb.port p hqp
  have hst := portState_of_reg hreg
  have hre := portReach_of_reg hreg
  have hper : s.fld F.CMB_PERIOD_PERUS = r.fld F.CMB_PERIOD_PERUS := fld_of_reg F.CMB_PERIOD_PERUS (hb.reg _ (perus_not_bound hq))
  have hcyc : s.cmb.cycle = r.cmb.cycle := by rw [hb.cmb]
  obtain ⟨h1, h2, h3, h4, h5⟩ := h
  rw [hst] at h1 h2 h3 h4 h5
  rw [hport] at h1 h3 h4
  rw [hre] at h4
  rw [hper, hcyc] at h5
  exact ⟨fun g => ⟨(h1 g).1, (h1 g).2.trans hreg⟩, h2, h3, h4, h5⟩

theorem PortDone.extend {p q : Nat} {r s t : State} (hqp : p ≠ q) (hp : p < 16) (h : PortDone p r s) (hb : BoundStep q s t) : PortDone p r t := by
  have hreg := hb.reg _ (pstat_apart hqp (by omega : p < 256))
  have hport := hb.port p hqp
  obtain ⟨h1, h2, h3, h4, h5⟩ := h
  refine ⟨fun g => ?_, (portState_of_reg hreg).trans h2, fun g => by rw [hport]; exact h3 g, fun g => by rw [portReach_of_reg hreg]; exact h4 g, fun g => ?_⟩
  · obtain ⟨a1, a2⟩ := h1 g
    exact ⟨hport.trans a1, hreg.trans a2⟩
  · obtain ⟨toff, k1, k2⟩ := h5 g
    exact ⟨toff, k1, hb.grows.mem k2⟩

theorem portBoundary_foldl (b : Nat) (l : List Nat) (hl : ∀ p ∈ l, p < 16) (hd : l.Nodup) (s : State) : let t := l.foldl (fun s p => portBoundary b p s) s
    PortsStep s t ∧ (∀ p ∈ l, PortDone p s t) ∧ ∀ q < 256, (q ∉ l ∨ portState s q ≠ rlkUp) → t.reg (Reg.RLK_P_STAT q) = s.reg (Reg.RLK_P_STAT q) := by
  induction l generalizing s with
  | nil => exact ⟨.refl s, fun p h => absurd h (by simp), fun _ _ _ => rfl⟩
  | cons x l ih =>
    obtain ⟨hx, hd⟩ := List.nodup_cons.1 hd
    have hx16 := hl x List.mem_cons_self
    obtain ⟨hb, hdone⟩ := portBoundary_spec hx16 b s
    rw [List.foldl_cons]
    generalize portBoundary b x s = m at *
    have hl' : ∀ p ∈ l, p < 16 := fun p hp => hl p (List.mem_cons_of_mem _ hp)
    obtain ⟨hs, hin, hout⟩ := ih hl' hd m
    have hkeep : ∀ (k : List Nat) (t : State), (∀ p ∈ k, p < 16) → x ∉ k → PortDone x s t → PortDone x s (k.foldl (fun s p => portBoundary b p s) t) := by
      intro k
      induction k with
      | nil => exact fun t _ _ h => h
      | cons y k ihk =>
        intro t hk hxk h
        have hy := hk y List.mem_cons_self
        have hxy : x ≠ y := fun e => hxk (e ▸ List.mem_cons_self)
        exact ihk _ (fun p hp => hk p (List.mem_cons_of_mem _ hp)) (fun g => hxk (List.mem_cons_of_mem _ g)) (h.extend hxy hx16 (portBoundary_spec hy b t).1)
    refine ⟨(PortsStep.ofBound hx16 hb).trans hs, fun p hp => ?_, fun q hq h => ?_⟩
    · rcases List.mem_cons.1 hp with rfl | hp
      · exact hkeep l m hl' hx hdone
      · have hpx : p ≠ x := fun e => hx (e ▸ hp)
        exact (hin p hp).shift hx16 hpx (hl' p hp) hb
    · have hm : m.reg (Reg.RLK_P_STAT q) = s.reg (Reg.RLK_P_STAT q) := by
        by_cases e : q = x
        · subst e
          rcases h with h | h
          · exact absurd List.mem_cons_self h
          · exact (hdone.idle h).2
        · exact hb.reg _ (pstat_apart e hq)
      refine (hout q hq ?_).trans hm
      rcases h with h | h
      · exact .inl fun g => h (List.mem_cons_of_mem _ g)
      · exact .inr (by rw [portState_of_reg hm]; exact h)

/-! ### Exchanges without a cycle of Cambium -/

theorem runExchange_spec {p : Nat} (hp : p < 16) (s : State) : BoundStep p s (runExchange p s)
    ∧ (∃ mg, rlkPort (runExchange p s) p = { rlkPort s p with mg := mg }) ∧ (runExchange p s).reg (Reg.RLK_P_STAT p) = s.reg (Reg.RLK_P_STAT p) := by
  have := hp
  unfold runExchange
  extract_lets x k wr reg busy
  split
  · exact ⟨.refl p s, ⟨_, rfl⟩, rfl⟩
  split
  · exact ⟨boundStep_endExchange false s, ⟨_, rlkPort_endExchange false s⟩, reg_endExchange false s (pstat_ne_mgstat p p)⟩
  · obtain ⟨m, hm⟩ : ∃ m, m = sendMgmt p k reg wr (if wr then x.mgData else 0) s := ⟨_, rfl⟩
    rw [← hm]
    have hsm : BoundStep p s m := by rw [hm]; exact .emit s _
    have hrlk : m.rlk = s.rlk := by rw [hm]; rfl
    have hreg : m.reg (Reg.RLK_P_STAT p) = s.reg (Reg.RLK_P_STAT p) := by rw [hm]; exact State.emit_reg _ _ _
    refine ⟨hsm.trans (.modPort m _), ⟨3, ?_⟩, (modPort_reg _ _ _ _).trans hreg⟩
    rw [rlkPort_modPort_self, rlkPort_of_rlk hrlk]

theorem runExchange_foldl (l : List Nat) (hl : ∀ p ∈ l, p < 16) (s : State) : let t := l.foldl (fun s p => runExchange p s) s
    PortsStep s t ∧ ∀ p < 16, (∃ mg, rlkPort t p = { rlkPort s p with mg := mg }) ∧ t.reg (Reg.RLK_P_STAT p) = s.reg (Reg.RLK_P_STAT p) := by
  induction l generalizing s with
  | nil => exact ⟨.refl s, fun p _ => ⟨⟨_, rfl⟩, rfl⟩⟩
  | cons x l ih =>
    have hx := hl x List.mem_cons_self
    obtain ⟨hb, ⟨mg, hport⟩, hreg⟩ := runExchange_spec hx s
    rw [List.foldl_cons]
    generalize runExchange x s = m at *
    obtain ⟨h1, h2⟩ := ih (fun p hp => hl p (List.mem_cons_of_mem _ hp)) m
    refine ⟨(PortsStep.ofBound hx hb).trans h1, fun p hp => ?_⟩
    obtain ⟨⟨mg', h3⟩, h4⟩ := h2 p hp
    by_cases e : p = x
    · subst e
      exact ⟨⟨mg', by rw [h3, hport]⟩, h4.trans hreg⟩
    · exact ⟨⟨mg', by rw [h3, hb.port p e]⟩, h4.trans (hb.reg _ (pstat_apart e (by omega)))⟩

/-! ### Axes out of reach (R358, R383) -/

/-- An axis of a station out of reach is lost. -/
def loseBeyond (s : State) (a : Nat) : State :=
  if portState s (axPlace s a).1 = rlkUp && (axPlace s a).2.1 < portReach s (axPlace s a).1 then s else loseAxis a (modAxis a (fun x => { x with valid := false }) s)

theorem axisStep_loseBeyond {a : Nat} (ha : a < 128) (s : State) : AxisStep s (loseBeyond s a) := by
  unfold loseBeyond
  split
  · exact .refl s
  · exact (AxisStep.modAxis s a _).trans (axisStep_loseAxis ha _)

theorem grows_loseBeyond (a : Nat) (s : State) : Grows s (loseBeyond s a) := by
  unfold loseBeyond
  split
  · exact .refl s
  · exact (Grows.ofOut (modAxis_out s a _)).trans (grows_loseAxis a _)

theorem stat_loseAxis_ne {a b : Nat} (hb : b < 128) (h : b ≠ a) (s : State) : (loseAxis a s).reg (Reg.CMB_AX_STAT b) = s.reg (Reg.CMB_AX_STAT b) := by
  unfold loseAxis
  split
  · rfl
  · rw [(eventStep_axisEvent (by decide) _).reg _ (not_evReg_axStat hb), reg_setRun_stat hb, reg_put_ne s (F.CMB_AX_STAT_STATE a) _ (axStat_ne h)]

theorem axSrc_loseAxis {a b : Nat} (hb : b < 128) (s : State) : axSrc (loseAxis a s) b = axSrc s b := by
  by_cases h : b = a
  · subst h
    unfold loseAxis
    split
    · rfl
    · rw [axSrc_of_reg ((eventStep_axisEvent (by decide) _).reg _ (not_evReg_axStat hb)), axSrc_of_reg (reg_setRun_stat hb _ _)]
      exact axSrc_put_status s _ b rfl (.inr (by show 2 < 3; decide)) (by show 0 ≤ 2; decide) (by show 2 < 32; decide) b
  · exact axSrc_of_reg (stat_loseAxis_ne hb h s)

theorem loseBeyond_axis {a b : Nat} (hb : b < 128) (s : State) : axSrc (loseBeyond s a) b = axSrc s b
    ∧ (axState (loseBeyond s a) b = axState s b ∨ axState (loseBeyond s a) b = axLost) := by
  unfold loseBeyond
  split
  · exact ⟨rfl, .inl rfl⟩
  · refine ⟨axSrc_loseAxis hb _, ?_⟩
    rw [axState_loseAxis hb, axState_modAxis, axState_modAxis]
    split
    · exact .inr rfl
    · exact .inl rfl

theorem reg_loseAxis {a o : Nat} (he : ¬ EvReg o) (h1 : o ≠ Reg.CMB_AX_STAT a) (h2 : o ≠ Reg.CMB_AX_MISS a) (s : State) : (loseAxis a s).reg o = s.reg o := by
  unfold loseAxis
  split
  · rfl
  · rw [(eventStep_axisEvent (by decide) _).reg _ he, reg_setRun_ne a 0 _ h2, reg_put_ne s (F.CMB_AX_STAT_STATE a) _ h1]

/-- Losing axes writes no register below those of the axes. -/
theorem loseUnreached_low (s : State) {o : Nat} (he : ¬ EvReg o) (h : o < 0x251000) : (loseUnreached s).reg o = s.reg o := by
  have hfold (l : List Nat) (t : State) : (l.foldl loseBeyond t).reg o = t.reg o := by
    induction l generalizing t with
    | nil => rfl
    | cons a l ih =>
      rw [List.foldl_cons, ih]
      unfold loseBeyond
      split
      · rfl
      · rw [reg_loseAxis he (by unfold Reg.CMB_AX_STAT; omega) (by unfold Reg.CMB_AX_MISS; omega), modAxis_reg]
  exact hfold (axesOn s) s

/-- Every enabled axis whose port is not UP is no longer ACTIVE. -/
theorem loseUnreached_spec (s : State) : let t := loseUnreached s
    AxisStep s t ∧ Grows s t ∧ (∀ a < 128, axSrc t a = axSrc s a ∧ (axState t a = axState s a ∨ axState t a = axLost))
    ∧ ∀ a < 128, axOn s a = true → portState s (axPlace s a).1 ≠ rlkUp → axState t a ≠ axActive := by
  have hstep (l : List Nat) (hl : ∀ a ∈ l, a < 128) (t : State) := AxisStep.foldl l loseBeyond (fun t a ha => axisStep_loseBeyond (hl a ha) t) t
  have hfold (l : List Nat) (hl : ∀ a ∈ l, a < 128) (t : State) :
      (∀ b < 128, axSrc (l.foldl loseBeyond t) b = axSrc t b ∧ (axState (l.foldl loseBeyond t) b = axState t b ∨ axState (l.foldl loseBeyond t) b = axLost))
      ∧ ∀ b ∈ l, portState t (axPlace t b).1 ≠ rlkUp → axState (l.foldl loseBeyond t) b ≠ axActive := by
    induction l generalizing t with
    | nil => exact ⟨fun b _ => ⟨rfl, .inl rfl⟩, fun b h => absurd h (by simp)⟩
    | cons a l ih =>
      have ha := hl a List.mem_cons_self
      have hl' : ∀ x ∈ l, x < 128 := fun x hx => hl x (List.mem_cons_of_mem _ hx)
      obtain ⟨h1, h2⟩ := ih hl' (loseBeyond t a)
      have hst := axisStep_loseBeyond ha t
      rw [List.foldl_cons]
      refine ⟨fun b hb => ?_, fun b hb hdown => ?_⟩
      · obtain ⟨k1, k2⟩ := loseBeyond_axis (a := a) hb t
        obtain ⟨m1, m2⟩ := h1 b hb
        refine ⟨m1.trans k1, ?_⟩
        rcases m2 with m2 | m2
        · rw [m2]; exact k2
        · exact .inr m2
      · by_cases e : b ∈ l
        · refine h2 b e ?_
          rw [axPlace_runs hst.runs (hl' b e)]
          have hq : (axPlace t b).1 < 256 := (t.byte (axRec b + 0x108)).isLt
          generalize (axPlace t b).1 = q at *
          rw [portState_of_reg (hst.reg _ (by unfold AxisReg EvReg Reg.RLK_P_STAT; omega))]
          exact hdown
        · have e' : b = a := (List.mem_cons.1 hb).resolve_right e
          subst e'
          have hlost : axState (loseBeyond t b) b ≠ axActive := by
            unfold loseBeyond
            rw [if_neg (by simp [hdown]), axState_loseAxis ha, axState_modAxis]
            split
            · decide
            · rename_i hx; exact fun g => hx ⟨rfl, g⟩
          rcases (h1 b ha).2 with g | g
          · rw [g]; exact hlost
          · rw [g]; decide
  have hl : ∀ a ∈ axesOn s, a < 128 := fun a ha => (mem_axesOn.1 ha).1
  obtain ⟨h1, h2⟩ := hfold (axesOn s) hl s
  exact ⟨hstep (axesOn s) hl s, .foldl _ loseBeyond (fun t a _ => grows_loseBeyond a t) s, h1, fun a ha hon hdown => h2 a (mem_axesOn.2 ⟨ha, hon⟩) hdown⟩

/-! ### The start of a joint cycle -/

/-- Does a boundary start a cycle of Cambium? -/
def cycleRuns (b : Nat) (s : State) : Bool := s.flag F.CMB_CTRL_EN && !inRack s && (s.cmb.last.isSome || decide (s.cmb.since ≤ b))

theorem cycleRuns_iff (b : Nat) (s : State) : cycleRuns b s = true ↔ s.flag F.CMB_CTRL_EN = true ∧ inRack s = false ∧ (s.cmb.last ≠ none ∨ s.cmb.since ≤ b) := by
  unfold cycleRuns
  simp [Option.isSome_iff_ne_none, and_assoc]

/-- The boundary is taken. -/
def boundTaken (b : Nat) (s : State) : State := s.setCmb { s.cmb with bound := some b, cycle := (s.cmb.cycle + 1) % 2 ^ 32 }

/-- The command, by the boundary before the present time. -/
def jointCycleAt (s : State) : Option Nat → Ans
  | none => .next s
  | some b => if s.cmb.bound.any fun t => b ≤ t then .next s else
      .next (hwdServe (if cycleRuns b s then loseUnreached (rlkPorts.foldl (fun s p => portBoundary b p s) (if cycleRuns b s then startCycle b (lawWaits s) (boundTaken b s) else boundTaken b s))
        else rlkPorts.foldl (fun s p => runExchange p s) (rlkPorts.foldl (fun s p => portBoundary b p s) (if cycleRuns b s then startCycle b (lawWaits s) (boundTaken b s) else boundTaken b s))))

theorem jointCycle_at (s : State) {x : Option Nat} (h : boundaryBefore s s.ns = x) : exec .jointCycleStart s = jointCycleAt s x := by
  rw [exec_jointCycleStart]
  generalize hf : execJointCycleStart = f
  delta execJointCycleStart at hf
  subst hf
  beta_reduce
  generalize boundaryBefore s s.ns = y at h
  subst h
  cases y <;> rfl

theorem jointCycle_idle {s : State} (h : boundaryBefore s s.ns = none) : exec .jointCycleStart s = .next s := jointCycle_at s h

theorem jointCycle_taken {s : State} {b e : Nat} (h : boundaryBefore s s.ns = some b) (he : s.cmb.bound = some e) (hb : b ≤ e) : exec .jointCycleStart s = .next s := by
  rw [jointCycle_at s h, jointCycleAt]
  exact if_pos (by rw [he]; simpa using hb)

theorem jointCycle_eq {s : State} {b : Nat} (h : boundaryBefore s s.ns = some b) (hnew : ∀ e, s.cmb.bound = some e → e < b) : ∃ u, u = (if cycleRuns b s then startCycle b (lawWaits s) (boundTaken b s) else boundTaken b s)
    ∧ ∃ v, v = rlkPorts.foldl (fun s p => portBoundary b p s) u
    ∧ exec .jointCycleStart s = .next (hwdServe (if cycleRuns b s then loseUnreached v else rlkPorts.foldl (fun s p => runExchange p s) v)) := by
  refine ⟨_, rfl, _, rfl, ?_⟩
  rw [jointCycle_at s h, jointCycleAt]
  refine if_neg ?_
  cases hb : s.cmb.bound with
  | none => simp
  | some e =>
    have := hnew e hb
    simp only [Option.any_some, decide_eq_true_eq]
    omega

/-- What the ports show after the start of a joint cycle. -/
def PortsFresh (runs : Prop) (s t : State) : Prop := ∀ p < 16, portState s p = rlkUp → let x := rlkPort s p
  let y := rlkPort t p
  y.got = [] ∧ y.closed = false ∧ y.released = false ∧ y.rejoin = none ∧ (runs → y.mg = (if x.mg = 1 then 2 else if x.mg = 3 then 0 else x.mg))
  ∧ (∀ n < 16, x.rejoin = some n → portReach t p = n) ∧ (x.rejoin = none → portReach t p = portReach s p)
  ∧ ∃ toff ≤ 132, .rlk p 1 (linkFrame 1 0x80 t.cmb.cycle (leBytes 4 t.cmb.cycle ++ leBytes 2 toff ++ leBytes 2 (s.fld F.CMB_PERIOD_PERUS))) ∈ t.out

/-- Ports stay as the boundary leaves them. -/
theorem portsFresh_of {runs : Prop} {s u v t : State} (hd : ∀ p < 16, PortDone p u v) (hrlk : u.rlk = s.rlk) (hreg : ∀ p < 16, u.reg (Reg.RLK_P_STAT p) = s.reg (Reg.RLK_P_STAT p))
    (hper : u.fld F.CMB_PERIOD_PERUS = s.fld F.CMB_PERIOD_PERUS) (hcyc : t.cmb.cycle = u.cmb.cycle) (hg : Grows v t)
    (hvt : ∀ p < 16, (∃ mg, rlkPort t p = { rlkPort v p with mg := mg } ∧ (runs → mg = (rlkPort v p).mg)) ∧ t.reg (Reg.RLK_P_STAT p) = v.reg (Reg.RLK_P_STAT p)) :
    PortsFresh runs s t := by
  intro p hp hup x y
  obtain ⟨-, -, hfresh, hjoin, hsent⟩ := hd p hp
  rw [portState_of_reg (hreg p hp)] at hfresh hjoin hsent
  rw [rlkPort_of_rlk hrlk] at hfresh hjoin
  rw [portReach_of_reg (hreg p hp)] at hjoin
  obtain ⟨f1, f2, f3, f4, f5⟩ := hfresh hup
  obtain ⟨j1, j2⟩ := hjoin hup
  obtain ⟨toff, t1, t2⟩ := hsent hup
  obtain ⟨⟨mg, hmg, hrun⟩, hst⟩ := hvt p hp
  have hy : y = { rlkPort v p with mg := mg } := hmg
  have hre := portReach_of_reg hst
  refine ⟨by rw [hy]; exact f1, by rw [hy]; exact f2, by rw [hy]; exact f3, by rw [hy]; exact f4, fun hr => ?_, fun n hn hj => ?_, fun hj => ?_, toff, t1, ?_⟩
  · rw [hy]
    exact (hrun hr).trans f5
  · rw [hre]; exact j1 n hn hj
  · rw [hre]; exact j2 hj
  · rw [hcyc, ← hper]
    exact hg.mem t2

theorem jointCycleStarts (s : State) (hc : Calm s) : (boundaryBefore s s.ns = none → exec .jointCycleStart s = .next s) ∧ ∀ b, boundaryBefore s s.ns = some b →
    let runs := s.flag F.CMB_CTRL_EN = true ∧ inRack s = false ∧ (s.cmb.last ≠ none ∨ s.cmb.since ≤ b)
    ((∃ e, s.cmb.bound = some e ∧ b ≤ e) → exec .jointCycleStart s = .next s)
    ∧ ((∀ e, s.cmb.bound = some e → e < b) → s.memsys.synd = [] →
      ∃ t, exec .jointCycleStart s = .next t ∧ RunsOnly s t ∧ t.cmb.bound = some b ∧ t.cmb.cycle = (s.cmb.cycle + 1) % 2 ^ 32
        ∧ (¬ runs → t.mem = s.mem ∧ t.cmb.last = s.cmb.last ∧ t.cmb.axes = s.cmb.axes)
        ∧ (runs → t.cmb.last = some b ∧ t.flag F.CMB_STAT_RUN = true
          ∧ t.reg64 Reg.CMB_CYC_LO = (s.reg64 Reg.CMB_CYC_LO + if s.cmb.last = none then 0 else 1) % 2 ^ 64
          ∧ (s.cmb.last ≠ none → Out.line .heartbeat ∈ t.out ∧ t.hwd.beat = s.elapsed)
          ∧ (∀ a < 128, axOn s a = true → (cmbAxis s a).next = some (srcSto, none) → (cmbAxis s a).nextAt < b → axSrc t a = srcSto)
          ∧ (∀ a < 128, axOn s a = true → axState s a = axActive → portState s (axPlace s a).1 ≠ rlkUp → axState t a = axLost ∨ axState t a = axFault))
        ∧ PortsFresh runs s t) := by
  refine ⟨jointCycle_idle, fun b hb => ?_⟩
  intro runs
  refine ⟨fun ⟨e, he, hle⟩ => jointCycle_taken hb he hle, fun hnew hs => ?_⟩
  obtain ⟨u, hu, v, hv, e⟩ := jointCycle_eq hb hnew
  have hruns : cycleRuns b s = true ↔ runs := cycleRuns_iff b s
  obtain ⟨hports, hdone, hstat⟩ := portBoundary_foldl b rlkPorts (fun p hp => List.mem_range.1 hp) List.nodup_range u
  rw [← hv] at hports hdone hstat
  clear hv
  have hdone' : ∀ p < 16, PortDone p u v := fun p hp => hdone p (List.mem_range.2 hp)
  have hbt : Calm (boundTaken b s) := hc
  by_cases hr : runs
  · have hrt := hruns.2 hr
    rw [hrt, if_pos rfl] at hu e
    obtain ⟨hw, hlast, hrun, hcount, hbeat, hsto⟩ := startCycle_spec b (lawWaits s) (s := boundTaken b s) hs
    rw [← hu] at hw hlast hrun hcount hbeat hsto
    obtain ⟨ha1, ha2, ha3, ha4⟩ := loseUnreached_spec v
    rw [hwdServe_of_calm (ha1.calm (hports.calm (hw.calm hbt)))] at e
    have hlow := fun o => loseUnreached_low v (o := o)
    clear hu
    generalize loseUnreached v = t at *
    have hruns3 : RunsOnly s t := runsOnly_trans (runsOnly_trans hw.runs (runsOnly_of_mem hports.mem)) ha1.runs
    have hrunsv : RunsOnly s v := runsOnly_trans hw.runs (runsOnly_of_mem hports.mem)
    have hureg {o : Nat} (ho : ¬ CycReg o) : u.reg o = s.reg o := hw.reg o ho
    have hcyc : t.cmb.cycle = u.cmb.cycle := by rw [ha1.cycle, hports.cmb]
    have hlowreg {o : Nat} (h1 : 0x50000 ≤ o) (h2 : o < 0x260000) (h3 : ¬ AxisReg o) : t.reg o = u.reg o := (ha1.reg o h3).trans (hports.low h1 h2)
    have hstatreg (q : Nat) (hq : q < 256) : u.reg (Reg.RLK_P_STAT q) = s.reg (Reg.RLK_P_STAT q) :=
      hureg (by unfold CycReg LawReg NetReg EvReg Reg.RLK_P_STAT Reg.CMB_STAT Reg.CMB_CYC_LO; omega)
    have hvax {a : Nat} (ha : a < 128) : v.reg (Reg.CMB_AX_STAT a) = u.reg (Reg.CMB_AX_STAT a) :=
      hports.low (by unfold Reg.CMB_AX_STAT; omega) (by unfold Reg.CMB_AX_STAT; omega)
    refine ⟨t, e, hruns3, ?_, ?_, fun h => absurd hr h, fun _ => ⟨?_, ?_, ?_, fun h => ?_, fun a ha hon hn hat => ?_, fun a ha hon hact hdown => ?_⟩, ?_⟩
    · rw [ha1.bound, hports.cmb, hw.bound]; rfl
    · rw [hcyc, hw.cycle]; rfl
    · rw [ha1.last, hports.cmb, hlast]
    · unfold State.flag
      rw [fld_of_reg F.CMB_STAT_RUN (hlow _ (by unfold EvReg F.CMB_STAT_RUN; dsimp only; omega) (by decide)), fld_of_reg F.CMB_STAT_RUN (hports.low (by decide) (by decide))]
      exact hrun
    · have h1 := hlowreg (o := Reg.CMB_CYC_LO) (by decide) (by decide) (by unfold AxisReg EvReg Reg.CMB_CYC_LO; omega)
      have h2 := hlowreg (o := Reg.CMB_CYC_LO + 4) (by decide) (by decide) (by unfold AxisReg EvReg Reg.CMB_CYC_LO; omega)
      rw [reg64_congr h1 h2, hcount]
      rfl
    · obtain ⟨k1, k2⟩ := hbeat h
      refine ⟨(hports.grows.trans ha2).mem k1, ?_⟩
      rw [ha1.hwd, hports.hwd, k2]
      rfl
    · rw [(ha3 a ha).1, axSrc_of_reg (hvax ha)]
      exact hsto a ha hon hn hat
    · have hq : (axPlace s a).1 < 256 := (s.byte (axRec a + 0x108)).isLt
      have hnot := ha4 a ha (by rw [axOn_runs hrunsv ha]; exact hon) (by
        rw [axPlace_runs hrunsv ha]
        generalize (axPlace s a).1 = q at *
        have h1 : portState u q ≠ rlkUp := by rw [portState_of_reg (hstatreg q hq)]; exact hdown
        rw [portState_of_reg (hstat q hq (.inr h1))]
        exact h1)
      rcases (ha3 a ha).2 with h | h
      · rw [h, axState_of_reg (hvax ha)] at hnot ⊢
        exact .inr ((hw.state a ha (.inl hact)).resolve_left hnot)
      · exact .inl h
    · refine portsFresh_of hdone' (hw.rlk.trans rfl) (fun p hp => hstatreg p (by omega)) (fld_of_reg F.CMB_PERIOD_PERUS (hureg ?_)) hcyc ha2 fun p hp => ?_
      · unfold CycReg LawReg NetReg EvReg F.CMB_PERIOD_PERUS Reg.CMB_STAT Reg.CMB_CYC_LO; dsimp only; omega
      · exact ⟨⟨(rlkPort v p).mg, by rw [rlkPort_of_rlk ha1.rlk], fun _ => rfl⟩, ha1.reg _ (not_axisReg_pstat hp)⟩
  · have hrf : cycleRuns b s = false := by
      rw [← Bool.not_eq_true]
      exact fun h => hr (hruns.1 h)
    rw [hrf, if_neg (by decide)] at hu e
    obtain ⟨hx, hex⟩ := runExchange_foldl rlkPorts (fun p hp => List.mem_range.1 hp) v
    rw [hwdServe_of_calm (hx.calm (hports.calm (by rw [hu]; exact hbt)))] at e
    generalize rlkPorts.foldl (fun s p => runExchange p s) v = t at *
    have hmem : t.mem = s.mem := by rw [hx.mem, hports.mem, hu]; rfl
    have hcmb : t.cmb = { s.cmb with bound := some b, cycle := (s.cmb.cycle + 1) % 2 ^ 32 } := by rw [hx.cmb, hports.cmb, hu]; rfl
    refine ⟨t, e, runsOnly_of_mem hmem, by rw [hcmb], by rw [hcmb], fun _ => ⟨hmem, by rw [hcmb], by rw [hcmb]⟩, fun h => absurd h hr, ?_⟩
    refine portsFresh_of hdone' (by rw [hu]; rfl) (fun p _ => by rw [hu]; rfl) (by rw [hu]; rfl) (by rw [hx.cmb, hports.cmb]) hx.grows fun p hp => ?_
    obtain ⟨⟨mg, hmg⟩, hreg⟩ := hex p hp
    exact ⟨⟨mg, hmg, fun h => absurd h hr⟩, hreg⟩

/-- Settles O52. -/
theorem jointCycles : Obligations.JointCycles := by
  unfold Obligations.JointCycles
  refine ⟨jointCycleStarts, channelSwitches, lawComputes, samplesOfAxis, notReady, lawOfOneAxis, commandsLeave, torqueOffBlock, fun s hc => ?_, axisClears⟩
  exact ⟨fallbackLatch_unchanged hc, fallbackRises hc, stopLatch_unchanged hc, stopRises hc, stoRises hc⟩

end Sys2Proof.Machine
end

section
/-! What the safe-state sequencer's work leaves (R323, R326, R334, R335): its lines, its record but for the gate's channels, the hot units, and every
register outside those of the network and the units. -/

namespace Sys2Proof.Machine

/-- The registers that the gate's signals and discards may write: those of a transaction, and the states of contexts. -/
def GateReg (o : Nat) : Prop := NetReg o ∨ o % 0x20 = 0x14

theorem not_gateReg_hwd {o : Nat} (h : o / 0x100 = 0x2400) (h14 : o % 0x20 ≠ 0x14) : ¬ GateReg o := by
  unfold GateReg NetReg EvReg
  omega

theorem not_gateReg_unit {o : Nat} (h : 0x10 ≤ o / 0x10000 ∧ o / 0x10000 ≤ 0x15 ∧ o % 0x10000 = 0) : ¬ GateReg o := by
  unfold GateReg NetReg EvReg
  omega

/-- What the gate and the restart change of Heartwood's record. -/
def safePart (x : Hwd) : Hwd := { x with due := [], chans := [], forget := false, left := [] }

/-- From `s` to `t` Heartwood's lines and watchdogs, the hot units and the registers outside `P` are kept. -/
structure SafeWork (P : Nat → Prop) (s t : State) : Prop where
  reg : ∀ o, ¬ P o → t.reg o = s.reg o
  hwd : safePart t.hwd = safePart s.hwd
  hot : t.sched.hot = s.sched.hot

namespace SafeWork
variable {P Q : Nat → Prop} {s t u : State}

theorem refl (s : State) : SafeWork P s s := ⟨fun _ _ => rfl, rfl, rfl⟩
theorem trans (h : SafeWork P s t) (g : SafeWork P t u) : SafeWork P s u :=
  ⟨fun o ho => (g.reg o ho).trans (h.reg o ho), g.hwd.trans h.hwd, g.hot.trans h.hot⟩
theorem weaken (h : SafeWork P s t) (hpq : ∀ o, P o → Q o) : SafeWork Q s t := ⟨fun o ho => h.reg o fun hp => ho (hpq o hp), h.hwd, h.hot⟩
theorem ofReg (h : RegStep P s t) : SafeWork P s t := ⟨h.reg, by rw [h.hwd], by rw [h.sched]⟩
theorem ofEvent (h : EventStep s t) : SafeWork GateReg s t := .ofReg (.ofEvent h fun _ h => .inl (.inl h))
theorem put (s : State) {f : RegField} (v : Nat) (h : P f.reg) : SafeWork P s (s.put f v) := .ofReg (.put s v h)
theorem setHwd (s : State) {x : Hwd} (h : safePart x = safePart s.hwd) : SafeWork P s (s.setHwd x) := ⟨fun _ _ => rfl, h, rfl⟩
theorem setSched (s : State) {x : Sched} (h : x.hot = s.sched.hot) : SafeWork P s (s.setSched x) := ⟨fun _ _ => rfl, rfl, h⟩

theorem foldl {α : Type} (l : List α) (f : State → α → State) (h : ∀ s, ∀ x ∈ l, SafeWork P s (f s x)) (s : State) : SafeWork P s (l.foldl f s) := by
  induction l generalizing s with
  | nil => exact refl _
  | cons x l ih => exact (h s x List.mem_cons_self).trans (ih (fun s y hy => h s y (List.mem_cons_of_mem _ hy)) _)

theorem fld (h : SafeWork P s t) {f : RegField} (hf : ¬ P f.reg) : t.fld f = s.fld f := by unfold State.fld; rw [h.reg _ hf]
theorem flag (h : SafeWork P s t) {f : RegField} (hf : ¬ P f.reg) : t.flag f = s.flag f := by unfold State.flag; rw [h.fld hf]
end SafeWork

/-! ### Events and contexts -/

theorem safeWork_tearCtx (c code : Nat) (s : State) : SafeWork GateReg s (tearCtx c code s) := by
  have hst (t : State) (v : Nat) : SafeWork GateReg t (t.put (F.SCH_CTX_STAT_STATE c) v) :=
    .put t v (.inr (by unfold F.SCH_CTX_STAT_STATE; dsimp only; omega))
  have hca (t : State) (v : Nat) : SafeWork GateReg t (t.put (F.SCH_CTX_STAT_CAUSE c) v) :=
    .put t v (.inr (by unfold F.SCH_CTX_STAT_CAUSE; dsimp only; omega))
  unfold tearCtx
  dsimp only
  split
  · exact ((SafeWork.setSched s (x := { s.sched with tearing := spSet 0 c (s.elapsed + 1) s.sched.tearing }) rfl).trans (hst _ _)).trans (hca _ _)
  · split
    · exact hca _ _
    · exact .refl s

theorem safeWork_raise (e : EvRec) (s : State) (h : e.sev ≠ 3) : SafeWork GateReg s (raise e s) := by
  have hev := SafeWork.ofEvent (eventStep_acceptEv e s)
  unfold raise
  dsimp only
  split
  · exact hev.trans (safeWork_tearCtx _ _ _)
  · rw [if_neg (by simp [h]), if_neg (by simp [h])]
    exact hev

theorem safeWork_reportFail (oid ctx : Nat) (wr : Bool) (f : AccFail) (d : Nat) (s : State) : SafeWork GateReg s (reportFail oid ctx wr f d s) := by
  unfold reportFail
  rw [accessEvent_eq]
  exact (SafeWork.ofReg ((regStep_recorded _ _ _ _ _ _ _ s).weaken fun _ h => .inl (netReg_of_accReg h))).trans
    (safeWork_raise _ _ (Nat.ne_of_lt (accSev_lt oid)))

/-! ### Signals and reads of rings -/

theorem safeWork_bumpRing (t d : Nat) (s : State) : SafeWork GateReg s (bumpRing t d s) := by
  unfold bumpRing
  split
  · exact .ofReg (.setReg s _ (.inl (ringReg_netReg ‹_›)))
  · exact .refl s

theorem safeWork_setKvp (s : State) (k : Kvp) : SafeWork GateReg s { s with kvp := k } := ⟨fun _ _ => rfl, rfl, rfl⟩

theorem safeWork_notePost (t oid data : Nat) (s : State) : SafeWork GateReg s (notePost t oid data s) := by
  unfold notePost
  split
  · exact safeWork_setKvp s _
  · exact .refl s

theorem safeWork_applySignal (t oid ctx data : Nat) (s : State) : SafeWork GateReg s (applySignal t oid ctx data s) := by
  unfold applySignal
  split
  · exact .refl s
  · split
    · unfold signalBad
      have hc : GateReg F.GRN_SIGBAD_CNT.reg := .inl (by unfold NetReg F.GRN_SIGBAD_CNT; dsimp only; omega)
      exact (SafeWork.ofReg (.incHold s hc)).trans (safeWork_raise _ _ (by show (1 : Nat) ≠ 3; decide))
    · exact (safeWork_notePost _ _ _ s).trans (safeWork_bumpRing _ _ _)

theorem safeWork_netSignal (t oid ctx d : Nat) (s : State) : SafeWork GateReg s (netSignal t oid ctx d s).2 := by
  unfold netSignal
  split
  · exact safeWork_reportFail _ _ _ _ _ s
  · exact safeWork_applySignal _ _ _ _ s

theorem safeWork_netRingRead (t oid ctx : Nat) (s : State) : SafeWork GateReg s (netRingRead t oid ctx s).2 := by
  unfold netRingRead
  split
  · exact .refl s
  · split
    · exact safeWork_reportFail _ _ _ _ _ s
    · exact .refl s

/-! ### The gate -/

theorem safeWork_gatePending (n : Nat) (s : State) : SafeWork GateReg s (gatePending n s).2 := by
  have h := safeWork_netRingRead (gateBell s n) hwdOid 0 s
  unfold gatePending
  split <;> rename_i e <;> rw [e] at h <;> exact h

theorem safeWork_gateReturn (n k : Nat) (s : State) : SafeWork GateReg s (gateReturn n k s) := by
  induction k generalizing s with
  | zero => exact .refl s
  | succ k ih => exact (safeWork_netSignal _ _ _ _ s).trans (ih _)

theorem safeWork_setGate (n : Nat) (x : GateChan) (s : State) : SafeWork GateReg s (setGate n x s) := .setHwd s rfl

theorem safeWork_gateDiscard (n : Nat) (s : State) : SafeWork GateReg s (gateDiscard n s) := by
  have h := safeWork_gatePending n s
  unfold gateDiscard
  split
  · rename_i e; rw [e] at h; exact h
  · rename_i e; rw [e] at h
    exact (h.trans (safeWork_setGate _ _ _)).trans ((safeWork_raise _ _ (by show (1 : Nat) ≠ 3; decide)).trans (safeWork_gateReturn _ _ _))

/-- The work of a gate that opens or closes, after its flag. -/
def gateMoved (want : Bool) (s : State) : State :=
  if want then
    if s.hwd.forget then
      let s := (List.range 4).foldl (fun s n => setGate n { gateChan s n with accepted := false } s) s
      s.setHwd { s.hwd with forget := false }
    else s
  else (List.range 4).foldl (fun s n =>
    let s := setGate n { gateChan s n with sub := none } s
    if s.flag (F.HWD_GCH_CFG_EN n) then gateDiscard n s else s) s

theorem gateUpdate_eq (s : State) :
    gateUpdate s = if gateWanted s = s.flag F.HWD_STATE_GATE then s else gateMoved (gateWanted s) (s.put F.HWD_STATE_GATE (ofBool (gateWanted s))) := rfl

theorem safeWork_gateMoved (want : Bool) (s : State) : SafeWork GateReg s (gateMoved want s) := by
  unfold gateMoved
  cases want with
  | true =>
    rw [if_pos rfl]
    split
    · exact (SafeWork.foldl _ _ (fun t n _ => safeWork_setGate n _ t) s).trans (.setHwd _ rfl)
    · exact .refl s
  | false =>
    refine .foldl _ _ (fun t n _ => ?_) s
    dsimp only
    split
    · exact (safeWork_setGate n _ t).trans (safeWork_gateDiscard n _)
    · exact safeWork_setGate n _ t

/-- What an opening gate leaves: memory and the events. -/
theorem gateMoved_open (s : State) : (gateMoved true s).mem = s.mem ∧ (gateMoved true s).evq = s.evq := by
  have hfold (l : List Nat) (s : State) : (l.foldl (fun s n => setGate n { gateChan s n with accepted := false } s) s).mem = s.mem
      ∧ (l.foldl (fun s n => setGate n { gateChan s n with accepted := false } s) s).evq = s.evq := by
    induction l generalizing s with
    | nil => exact ⟨rfl, rfl⟩
    | cons x l ih => obtain ⟨h1, h2⟩ := ih (setGate x { gateChan s x with accepted := false } s); exact ⟨h1, h2⟩
  unfold gateMoved
  rw [if_pos rfl]
  split
  · exact hfold _ s
  · exact ⟨rfl, rfl⟩

theorem gateChan_setGate (n m : Nat) (x : GateChan) (s : State) : gateChan (setGate n x s) m = if m = n then x else gateChan s m := by
  unfold gateChan setGate
  exact spGet_spSet _ _ _ _ _

/-- A gate that opens after a restart accepts any first submission number. -/
theorem gateMoved_forgets {s : State} (h : s.hwd.forget = true) : ∀ n < 4, (gateChan (gateMoved true s) n).accepted = false := by
  intro n hn
  have hfold (l : List Nat) : ∀ s, (n ∈ l ∨ (gateChan s n).accepted = false) →
      (gateChan (l.foldl (fun s n => setGate n { gateChan s n with accepted := false } s) s) n).accepted = false := by
    induction l with
    | nil => intro s h; exact h.resolve_left (List.not_mem_nil)
    | cons x l ih =>
      intro s h
      refine ih _ ?_
      by_cases hx : n = x
      · right; rw [gateChan_setGate, if_pos hx]
      · refine h.imp (fun h => (List.mem_cons.1 h).resolve_left hx) fun h => ?_
        rw [gateChan_setGate, if_neg hx]; exact h
  unfold gateMoved
  rw [if_pos rfl, if_pos h]
  exact hfold _ s (.inl (List.mem_range.2 hn))

/-- The gate's flag follows what is wanted; nothing else of the sequencer moves. -/
structure GateStep (s t : State) : Prop where
  flag : t.flag F.HWD_STATE_GATE = gateWanted s
  fld : ∀ f : RegField, ¬ GateReg f.reg → (f.reg = Reg.HWD_STATE → f.hi < 4 ∨ 4 < f.lo) → t.fld f = s.fld f
  hwd : safePart t.hwd = safePart s.hwd
  hot : t.sched.hot = s.sched.hot
  quiet : s.flag F.HWD_STATE_GATE = false → t.mem = s.mem ∧ t.evq = s.evq
  forgot : s.flag F.HWD_STATE_GATE = false → gateWanted s = true → s.hwd.forget = true → ∀ n < 4, (gateChan t n).accepted = false

theorem gateStep_gateUpdate (s : State) : GateStep s (gateUpdate s) := by
  rw [gateUpdate_eq]
  split
  · rename_i h
    exact ⟨h.symm, fun _ _ _ => rfl, rfl, rfl, fun _ => ⟨rfl, rfl⟩, fun h0 h1 => by rw [h1, h0] at h; exact absurd h (by decide)⟩
  · rename_i hne
    obtain ⟨w, hw⟩ : ∃ w, w = gateWanted s := ⟨_, rfl⟩
    rw [← hw] at hne ⊢
    have hm := safeWork_gateMoved w (s.put F.HWD_STATE_GATE (ofBool w))
    refine ⟨?_, fun f hf hr => ?_, ?_, ?_, fun h0 => ?_, fun h0 h1 hf => ?_⟩
    · rw [hm.flag (not_gateReg_hwd (by decide) (by decide)), ← hw]
      cases w
      · exact flag_put_zero s (f := F.HWD_STATE_GATE) (by decide) (by decide)
      · exact flag_put_one s (f := F.HWD_STATE_GATE) (by decide) (by decide)
    · rw [hm.fld hf]
      by_cases h : f.reg = Reg.HWD_STATE
      · exact fld_put_apart s F.HWD_STATE_GATE f _ (by decide) (by decide) (hr h)
      · exact fld_put_reg s F.HWD_STATE_GATE f _ h
    · rw [hm.hwd, State.put_hwd]
    · rw [hm.hot, State.put_sched]
    · have h1 : w = true := by rw [h0] at hne; exact Bool.eq_true_of_not_eq_false hne
      subst h1
      obtain ⟨g1, g2⟩ := gateMoved_open (s.put F.HWD_STATE_GATE (ofBool true))
      exact ⟨g1, g2⟩
    · have h1 : w = true := hw.trans h1
      subst h1
      exact gateMoved_forgets hf

end Sys2Proof.Machine
end

section
/-! Entries into FALLBACK, STOPPING and STO (R334). -/

namespace Sys2Proof.Machine

theorem gateWanted_congr {s t : State} (hseq : t.fld F.HWD_STATE_SEQ = s.fld F.HWD_STATE_SEQ) (hre : t.fld F.HWD_STATE_RESTART = s.fld F.HWD_STATE_RESTART)
    (hseen : t.fld F.HWD_CAUSES_SEEN = s.fld F.HWD_CAUSES_SEEN) : gateWanted t = gateWanted s := by
  unfold gateWanted badSeen seqState State.flag
  rw [hseq, hre, hseen]

namespace GateStep
variable {s t : State}
theorem seq (h : GateStep s t) : seqState t = seqState s := h.fld F.HWD_STATE_SEQ (not_gateReg_hwd (by decide) (by decide)) fun _ => .inl (by decide)
theorem cause (h : GateStep s t) : t.fld F.HWD_STATE_CAUSE = s.fld F.HWD_STATE_CAUSE :=
  h.fld F.HWD_STATE_CAUSE (not_gateReg_hwd (by decide) (by decide)) fun _ => .inr (by decide)
theorem restart (h : GateStep s t) : t.fld F.HWD_STATE_RESTART = s.fld F.HWD_STATE_RESTART :=
  h.fld F.HWD_STATE_RESTART (not_gateReg_hwd (by decide) (by decide)) fun _ => .inr (by decide)
theorem seen (h : GateStep s t) : t.fld F.HWD_CAUSES_SEEN = s.fld F.HWD_CAUSES_SEEN :=
  h.fld F.HWD_CAUSES_SEEN (not_gateReg_hwd (by decide) (by decide)) fun e => absurd e (by decide)
theorem count (h : GateStep s t) : t.fld F.HWD_SAFECNT_CNT = s.fld F.HWD_SAFECNT_CNT :=
  h.fld F.HWD_SAFECNT_CNT (not_gateReg_hwd (by decide) (by decide)) fun e => absurd e (by decide)
theorem wanted (h : GateStep s t) : gateWanted t = gateWanted s := gateWanted_congr h.seq h.restart h.seen
end GateStep

/-- The lines of a safe state: fallback keeps none of the others, STOPPING adds the stop line. -/
def safeLines (st : Nat) (x : Hwd) : Hwd :=
  if st = seqFallback then { x with fb := true, stop := false, sto := false }
  else if st = seqStopping then { x with stop := true }
  else { x with fb := false, stop := false, sto := true }

/-- The sequencer's registers at an entry. -/
def entryRegs (st cause : Nat) (s : State) : State := ((s.put F.HWD_STATE_SEQ st).put F.HWD_STATE_CAUSE cause).incMod F.HWD_SAFECNT_CNT

/-- An entry with its reports, before the gate follows. -/
def safeEntry (st cause arg why : Nat) (s : State) : State :=
  let u := (entryRegs st cause s).setHwd (safeLines st s.hwd)
  let u := hwdEvent 0xA001 4 cause st arg (u.fld F.HWD_CAUSES_SEEN) u
  if st = seqSto then hwdEvent 0xA005 4 why cause 0 0 u else u

theorem entryRegs_hwd (st cause : Nat) (s : State) : (entryRegs st cause s).hwd = s.hwd := rfl

theorem entryLines (st : Nat) (u : State) : (if st = seqFallback then setLines true false false u
    else if st = seqStopping then setLines u.hwd.fb true u.hwd.sto u else setLines false false true u) = u.setHwd (safeLines st u.hwd) := by
  unfold safeLines setLines
  split
  · rfl
  · split <;> rfl

theorem enterSafe_eq (st cause arg why : Nat) (s : State) : enterSafe st cause arg why s = gateUpdate (safeEntry st cause arg why s) := by
  generalize hf : @enterSafe = f
  delta enterSafe at hf
  subst hf
  beta_reduce
  dsimp only
  rw [entryLines]
  rfl

theorem hwdEvent_noted {sev : Nat} (h : sev ≠ 2) (code a0 a1 a2 a3 : Nat) (s : State) (ctx : Nat) :
    EventStep s (hwdEvent code sev a0 a1 a2 a3 s ctx) ∧ LastEvent (hwdEvent code sev a0 a1 a2 a3 s ctx) code 0x30 := by
  unfold hwdEvent
  rw [raise_accepted s h fun _ => ⟨by show ¬ (0x10 ≤ 0x30 ∧ 0x30 ≤ 0x15); decide, by show 0x30 ≠ 0x18; decide⟩]
  exact ⟨eventStep_acceptEv _ s, lastEvent_acceptEv _ s⟩

theorem eventStep_safeEntry (st cause arg why : Nat) (s : State) : EventStep ((entryRegs st cause s).setHwd (safeLines st s.hwd)) (safeEntry st cause arg why s)
    ∧ LastEvent (safeEntry st cause arg why s) (if st = seqSto then 0xA005 else 0xA001) 0x30 := by
  unfold safeEntry
  dsimp only
  generalize (entryRegs st cause s).setHwd (safeLines st s.hwd) = u
  obtain ⟨h1, h2⟩ := hwdEvent_noted (show 4 ≠ 2 by decide) 0xA001 cause st arg (u.fld F.HWD_CAUSES_SEEN) u 0
  split
  · obtain ⟨g1, g2⟩ := hwdEvent_noted (show 4 ≠ 2 by decide) 0xA005 why cause 0 0 (hwdEvent 0xA001 4 cause st arg (u.fld F.HWD_CAUSES_SEEN) u) 0
    exact ⟨h1.trans g1, g2⟩
  · exact ⟨h1, h2⟩

/-- What an entry into a safe state leaves. -/
structure Entered (st cause : Nat) (s t : State) : Prop where
  seq : seqState t = st
  cause : t.fld F.HWD_STATE_CAUSE = cause
  count : t.fld F.HWD_SAFECNT_CNT = (s.fld F.HWD_SAFECNT_CNT + 1) % 2 ^ 32
  seen : t.fld F.HWD_CAUSES_SEEN = s.fld F.HWD_CAUSES_SEEN
  restart : t.fld F.HWD_STATE_RESTART = s.fld F.HWD_STATE_RESTART
  gate : t.flag F.HWD_STATE_GATE = gateWanted t
  lines : (t.hwd.fb, t.hwd.stop, t.hwd.sto) = (if st = seqFallback then (true, false, false) else if st = seqStopping then (s.hwd.fb, true, s.hwd.sto) else (false, false, true))
  hwd : safePart t.hwd = safePart (safeLines st s.hwd)
  quiet : s.flag F.HWD_STATE_GATE = false → t.mem = s.mem ∧ LastEvent t (if st = seqSto then 0xA005 else 0xA001) 0x30
  hot : t.sched.hot = s.sched.hot
  unit : ∀ u : Fin 6, t.fld (F.CRN_STATE_STATE u) = s.fld (F.CRN_STATE_STATE u)

theorem entryRegs_fld (st cause : Nat) (s : State) (f : RegField) (h : f.reg ≠ Reg.HWD_STATE) (h' : f.reg ≠ 0x240028) :
    (entryRegs st cause s).fld f = s.fld f := by
  unfold entryRegs State.incMod
  rw [fld_put_reg _ F.HWD_SAFECNT_CNT f _ h', fld_put_reg _ F.HWD_STATE_CAUSE f _ h, fld_put_reg _ F.HWD_STATE_SEQ f _ h]

theorem entryRegs_state {st cause : Nat} (hst : st < 8) (hcause : cause < 32) (s : State) :
    (entryRegs st cause s).fld F.HWD_STATE_SEQ = st ∧ (entryRegs st cause s).fld F.HWD_STATE_CAUSE = cause
    ∧ (entryRegs st cause s).fld F.HWD_STATE_RESTART = s.fld F.HWD_STATE_RESTART ∧ (entryRegs st cause s).fld F.HWD_STATE_GATE = s.fld F.HWD_STATE_GATE
    ∧ (entryRegs st cause s).fld F.HWD_SAFECNT_CNT = (s.fld F.HWD_SAFECNT_CNT + 1) % 2 ^ 32 := by
  have hcnt (f : RegField) (h : f.reg = Reg.HWD_STATE) (t : State) : (t.incMod F.HWD_SAFECNT_CNT).fld f = t.fld f :=
    fld_put_reg t F.HWD_SAFECNT_CNT f _ (by rw [h]; decide)
  unfold entryRegs
  refine ⟨?_, ?_, ?_, ?_, ?_⟩
  · rw [hcnt F.HWD_STATE_SEQ rfl, fld_put_apart _ F.HWD_STATE_CAUSE F.HWD_STATE_SEQ _ (by decide) (by decide) (by decide)]
    exact fld_put_fits s F.HWD_STATE_SEQ (by decide) (by decide) hst
  · rw [hcnt F.HWD_STATE_CAUSE rfl]
    exact fld_put_fits _ F.HWD_STATE_CAUSE (by decide) (by decide) hcause
  · rw [hcnt F.HWD_STATE_RESTART rfl, fld_put_apart _ F.HWD_STATE_CAUSE F.HWD_STATE_RESTART _ (by decide) (by decide) (by decide),
      fld_put_apart _ F.HWD_STATE_SEQ F.HWD_STATE_RESTART _ (by decide) (by decide) (by decide)]
  · rw [hcnt F.HWD_STATE_GATE rfl, fld_put_apart _ F.HWD_STATE_CAUSE F.HWD_STATE_GATE _ (by decide) (by decide) (by decide),
      fld_put_apart _ F.HWD_STATE_SEQ F.HWD_STATE_GATE _ (by decide) (by decide) (by decide)]
  · unfold State.incMod
    rw [fld_put_self _ F.HWD_SAFECNT_CNT _ (by decide) (by decide), fld_put_reg _ F.HWD_STATE_CAUSE F.HWD_SAFECNT_CNT _ (by decide),
      fld_put_reg _ F.HWD_STATE_SEQ F.HWD_SAFECNT_CNT _ (by decide), Nat.mod_mod]
    rfl

theorem safePart_lines {x y : Hwd} (h : safePart x = safePart y) : (x.fb, x.stop, x.sto) = (y.fb, y.stop, y.sto) :=
  (congrArg (fun z : Hwd => (z.fb, z.stop, z.sto)) h :)

theorem enterSafe_entered {st cause : Nat} (arg why : Nat) (hst : st = seqFallback ∨ st = seqStopping ∨ st = seqSto) (hcause : cause < 32) (s : State) :
    Entered st cause s (enterSafe st cause arg why s) := by
  have hlt : st < 8 := by rcases hst with h | h | h <;> rw [h] <;> decide
  obtain ⟨hev, hlast⟩ := eventStep_safeEntry st cause arg why s
  obtain ⟨hseq, hc, hre, hg, hcnt⟩ := entryRegs_state hlt hcause s
  have hframe := entryRegs_fld st cause s
  have hmem : (entryRegs st cause s).mem = s.mem := by unfold entryRegs State.incMod; rw [State.put_mem, State.put_mem, State.put_mem]
  have hsched : (entryRegs st cause s).sched = s.sched := by unfold entryRegs State.incMod; rw [State.put_sched, State.put_sched, State.put_sched]
  rw [enterSafe_eq]
  generalize safeEntry st cause arg why s = e at hev hlast
  generalize entryRegs st cause s = r at *
  have hgate := gateStep_gateUpdate e
  have hfld (f : RegField) (h : ¬ EvReg f.reg) : e.fld f = r.fld f := hev.fld h
  have hpage {o : Nat} (h : o / 0x100 = 0x2400) : ¬ EvReg o := by unfold EvReg; omega
  generalize gateUpdate e = t at *
  have hh : safePart t.hwd = safePart (safeLines st s.hwd) := by rw [hgate.hwd, hev.hwd]; rfl
  refine ⟨?_, ?_, ?_, ?_, ?_, ?_, ?_, hh, fun h0 => ?_, ?_, fun u => ?_⟩
  · rw [hgate.seq]; exact (hfld F.HWD_STATE_SEQ (hpage (by decide))).trans hseq
  · rw [hgate.cause, hfld F.HWD_STATE_CAUSE (hpage (by decide)), hc]
  · rw [hgate.count, hfld F.HWD_SAFECNT_CNT (hpage (by decide)), hcnt]
  · rw [hgate.seen, hfld F.HWD_CAUSES_SEEN (hpage (by decide)), hframe F.HWD_CAUSES_SEEN (by decide) (by decide)]
  · rw [hgate.restart, hfld F.HWD_STATE_RESTART (hpage (by decide)), hre]
  · rw [hgate.wanted, hgate.flag]
  · rw [safePart_lines hh]
    unfold safeLines
    split
    · rfl
    · split <;> rfl
  · have h1 : e.flag F.HWD_STATE_GATE = false := by
      unfold State.flag at h0 ⊢
      rw [hfld F.HWD_STATE_GATE (hpage (by decide)), hg, h0]
    obtain ⟨g1, g2⟩ := hgate.quiet h1
    refine ⟨?_, ?_⟩
    · rw [g1, hev.mem]; exact hmem
    · unfold LastEvent; rw [g2]; exact hlast
  · rw [hgate.hot, hev.sched]
    show r.sched.hot = s.sched.hot
    rw [hsched]
  · have hu : (F.CRN_STATE_STATE u).reg / 0x10000 = 0x10 + u ∧ (F.CRN_STATE_STATE u).reg % 0x10000 = 0 := by
      unfold F.CRN_STATE_STATE; dsimp only; omega
    have h6 := u.isLt
    rw [hgate.fld (F.CRN_STATE_STATE u) (not_gateReg_unit (by omega)) fun e => absurd e (by unfold Reg.HWD_STATE; omega),
      hfld (F.CRN_STATE_STATE u) (by unfold EvReg; omega), hframe (F.CRN_STATE_STATE u) (by unfold Reg.HWD_STATE; omega) (by omega)]

end Sys2Proof.Machine
end

section
/-! The Crown restart (R335): what it leaves, and where it puts the cores. -/

namespace Sys2Proof.Machine

/-- The registers of core `k`. -/
def CoreReg (k o : Nat) : Prop := o / 0x10000 = 0x10 + k
/-- The registers that work on core `k` with its events may write. -/
def UnitWork (k o : Nat) : Prop := GateReg o ∨ CoreReg k o
/-- The registers that a restart may write beside its own bit. -/
def RestartReg (o : Nat) : Prop := GateReg o ∨ ∃ k < 6, CoreReg k o

theorem unitWork_le {k : Nat} (hk : k < 6) (o : Nat) (h : UnitWork k o) : RestartReg o := h.imp id fun h => ⟨k, hk, h⟩

theorem not_restartReg_hwd {o : Nat} (h : o / 0x100 = 0x2400) (h14 : o % 0x20 ≠ 0x14) : ¬ RestartReg o := by
  refine fun hr => hr.elim (not_gateReg_hwd h h14) fun ⟨k, hk, hc⟩ => ?_
  unfold CoreReg at hc
  omega

theorem coreReg_state (k : Nat) : CoreReg k (F.CRN_STATE_STATE k).reg := by unfold CoreReg F.CRN_STATE_STATE; dsimp only; omega

theorem not_unitWork_state {k u : Nat} (hu : u < 6) (h : k ≠ u) : ¬ UnitWork k (F.CRN_STATE_STATE u).reg := by
  refine fun hw => hw.elim (not_gateReg_unit ?_) fun hc => ?_
  · unfold F.CRN_STATE_STATE; dsimp only; omega
  · unfold CoreReg F.CRN_STATE_STATE at hc; dsimp only at hc; omega

theorem unitField_core {k : Nat} (hk : k < 6) : unitField k = F.CRN_STATE_STATE k := if_pos hk
theorem unitCtxField_core {k : Nat} (hk : k < 6) : unitCtxField k = F.CRN_STATE_CTX k := if_pos hk

/-! ### Loss of the cores -/

/-- One unit is lost. -/
def unitLost (s : State) (u : Nat) : State :=
  setUnit u { unitSt s u with needZero := true, passed := false, retire := false } ((s.put (unitField u) uLost).put (unitCtxField u) 0)

theorem safeWork_setUnit (P : Nat → Prop) (k : Nat) (x : UnitSt) (s : State) : SafeWork P s (setUnit k x s) := .setSched s rfl

theorem safeWork_unitLost {k : Nat} (hk : k < 6) (s : State) : SafeWork (UnitWork k) s (unitLost s k) := by
  unfold unitLost
  rw [unitField_core hk, unitCtxField_core hk]
  exact ((SafeWork.put s _ (.inr (coreReg_state k))).trans (.put _ (f := F.CRN_STATE_CTX k) _ (.inr (coreReg_state k)))).trans (safeWork_setUnit _ _ _ _)

theorem fld_unitLost {k : Nat} (hk : k < 6) (s : State) : (unitLost s k).fld (F.CRN_STATE_STATE k) = uLost := by
  have hset (t : State) (x : UnitSt) : (setUnit k x t).fld (F.CRN_STATE_STATE k) = t.fld (F.CRN_STATE_STATE k) := rfl
  unfold unitLost
  rw [hset, unitField_core hk, unitCtxField_core hk, fld_put_apart _ (F.CRN_STATE_CTX k) (F.CRN_STATE_STATE k) _ (by show 8 ≤ 13; decide) (by show 13 < 32; decide)
    (by show 2 < 8 ∨ 13 < 0; decide)]
  exact fld_put_fits s (F.CRN_STATE_STATE k) (by show 0 ≤ 2; decide) (by show 2 < 32; decide) (by show 5 < 2 ^ 3; decide)

theorem fld_lostUnits {u : Nat} (hu : u < 6) (l : List Nat) (hl : ∀ k ∈ l, k < 6) (s : State) (h : u ∈ l ∨ s.fld (F.CRN_STATE_STATE u) = uLost) :
    (l.foldl unitLost s).fld (F.CRN_STATE_STATE u) = uLost := by
  induction l generalizing s with
  | nil => exact h.resolve_left List.not_mem_nil
  | cons k l ih =>
    refine ih (fun j hj => hl j (List.mem_cons_of_mem _ hj)) _ ?_
    have hk := hl k List.mem_cons_self
    by_cases e : k = u
    · subst e; exact .inr (fld_unitLost hk s)
    · exact h.imp (fun h => (List.mem_cons.1 h).resolve_left (Ne.symm e)) fun h => ((safeWork_unitLost hk s).fld (not_unitWork_state hu e)).trans h

/-- The cores that a restart finds in service. -/
def coresServing (s : State) : List Nat := (List.range 6).filter fun u => s.fld (unitField u) = uIdle || s.fld (unitField u) = uRunning

/-- What a loss notes after the units: the contexts torn down, the loss and its event. -/
def lossNoted (torn ctxs : List Nat) (first cause requeued : Nat) (s : State) : State :=
  let s := torn.foldl (fun s c => tearCtx c 0x4002 s) s
  let s := s.setSched { s.sched with loss := s.sched.loss ++ torn.map fun c => (c, first) }
  let bits := ctxs.foldl (fun b c => b ||| 2 ^ c) 0
  acceptEv { code := 0x4002, oid := unitOid first, ctx := ctxs.headD 0, sev := 3
             a0 := bits % 2 ^ 32, a1 := bits / 2 ^ 32, a2 := cause, a3 := requeued } s

theorem loseUnits_cores (s : State) : loseUnits (List.range 6) 0xA001 s = s ∧ coresServing s = []
    ∨ ∃ torn ctxs first requeued, loseUnits (List.range 6) 0xA001 s = lossNoted torn ctxs first 0xA001 requeued ((coresServing s).foldl unitLost s) := by
  have hno (t : State) (ctxs : List Nat) : crownFault t ctxs 0xA001 = false := by simp [crownFault]
  by_cases h : coresServing s = []
  · exact .inl ⟨if_pos h, h⟩
  · right
    have hus : ¬ (List.range 6).filter (fun u => s.fld (unitField u) = uIdle || s.fld (unitField u) = uRunning) = [] := h
    unfold loseUnits
    dsimp only
    rw [if_neg hus, hno, if_neg Bool.false_ne_true]
    exact ⟨_, _, _, _, rfl⟩

theorem safeWork_lossNoted (torn ctxs : List Nat) (first cause requeued : Nat) (s : State) :
    SafeWork GateReg s (lossNoted torn ctxs first cause requeued s) := by
  have htorn := SafeWork.foldl torn _ (fun t c _ => safeWork_tearCtx c 0x4002 t) s
  unfold lossNoted
  dsimp only
  generalize torn.foldl (fun s c => tearCtx c 0x4002 s) s = t at htorn
  refine (htorn.trans ?_).trans (.ofEvent (eventStep_acceptEv _ _))
  exact .setSched t rfl

theorem mem_coresServing {s : State} {k : Nat} (h : k ∈ coresServing s) : k < 6 := List.mem_range.1 (List.mem_filter.1 h).1

theorem safeWork_loseCores (s : State) : SafeWork RestartReg s (loseUnits (List.range 6) 0xA001 s) := by
  rcases loseUnits_cores s with ⟨e, -⟩ | ⟨torn, ctxs, first, requeued, e⟩
  · rw [e]; exact .refl s
  · rw [e]
    exact (SafeWork.foldl _ _ (fun t k hk => (safeWork_unitLost (mem_coresServing hk) t).weaken (unitWork_le (mem_coresServing hk))) s).trans
      ((safeWork_lossNoted _ _ _ _ _ _).weaken fun _ => .inl)

theorem fld_loseCores {u : Nat} (hu : u < 6) {s : State} (h : s.fld (unitField u) = uIdle ∨ s.fld (unitField u) = uRunning) :
    (loseUnits (List.range 6) 0xA001 s).fld (F.CRN_STATE_STATE u) = uLost := by
  have hmem : u ∈ coresServing s := List.mem_filter.2 ⟨List.mem_range.2 hu, by simpa using h⟩
  rcases loseUnits_cores s with ⟨-, e⟩ | ⟨torn, ctxs, first, requeued, e⟩
  · rw [e] at hmem; exact absurd hmem List.not_mem_nil
  · rw [e, (safeWork_lossNoted _ _ _ _ _ _).fld (not_gateReg_unit (by unfold F.CRN_STATE_STATE; dsimp only; omega))]
    exact fld_lostUnits hu _ (fun k hk => mem_coresServing hk) s (.inl hmem)

/-! ### Re-admission -/

/-- One core is re-admitted as far as it can be. -/
def coreReadmitted (s : State) (k : Nat) : State := admitUnit k (readmitUnit k s)

theorem safeWork_readmitUnit {k : Nat} (hk : k < 6) (s : State) : SafeWork (UnitWork k) s (readmitUnit k s) := by
  unfold readmitUnit
  rw [unitField_core hk]
  split
  · exact (safeWork_setUnit _ _ _ s).trans (.put _ _ (.inr (coreReg_state k)))
  · exact .refl s

theorem safeWork_zeroFloating (P : Nat → Prop) (k : Nat) (s : State) : SafeWork P s (zeroFloating k s) := ⟨fun _ _ => rfl, rfl, rfl⟩
theorem safeWork_setCore (P : Nat → Prop) (k : Nat) (x : Crown) (s : State) : SafeWork P s (s.setCore k x) := ⟨fun _ _ => rfl, rfl, rfl⟩
theorem safeWork_zero (P : Nat → Prop) (a n : Nat) (s : State) : SafeWork P s (s.zero a n) := ⟨fun _ _ => rfl, rfl, rfl⟩
theorem safeWork_unitBack (P : Nat → Prop) (k : Nat) (s : State) : SafeWork P s (unitBack k s) := ⟨fun _ _ => rfl, rfl, rfl⟩

theorem safeWork_zeroCore (k : Nat) (s : State) : SafeWork (UnitWork k) s (zeroCore k s) := by
  have h1 : CoreReg k (F.CRN_ACCSTAT_FROZEN k).reg := by unfold CoreReg F.CRN_ACCSTAT_FROZEN; dsimp only; omega
  have h2 : CoreReg k (F.CRN_FLAGS_SAT_DZ_ACCF_SCLR k).reg := by unfold CoreReg F.CRN_FLAGS_SAT_DZ_ACCF_SCLR; dsimp only; omega
  unfold zeroCore
  exact (((safeWork_zeroFloating _ k s).trans (safeWork_setCore _ _ _ _)).trans (safeWork_zero _ _ _ _)).trans
    ((SafeWork.put _ _ (.inr h1)).trans (.put _ _ (.inr h2)))

theorem safeWork_admitUnit {k : Nat} (hk : k < 6) (s : State) : SafeWork (UnitWork k) s (admitUnit k s) := by
  have hraise (e : EvRec) (h : e.sev = 0) (t : State) : SafeWork (UnitWork k) t (raise e t) :=
    (safeWork_raise e t (by rw [h]; decide)).weaken fun _ => .inl
  unfold admitUnit
  rw [unitField_core hk]
  split
  · dsimp only
    exact ((safeWork_zeroCore k s).trans (safeWork_setUnit _ _ _ _)).trans
      (((SafeWork.put _ _ (.inr (coreReg_state k))).trans (hraise _ rfl _)).trans (safeWork_unitBack _ _ _))
  · exact .refl s

theorem safeWork_coreReadmitted {k : Nat} (hk : k < 6) (s : State) : SafeWork (UnitWork k) s (coreReadmitted s k) :=
  (safeWork_readmitUnit hk s).trans (safeWork_admitUnit hk _)

/-- Where a lost core stands after its re-admission: a hot one stays lost. -/
def backState (s : State) (u : Nat) : Nat := if u ∈ s.sched.hot then uLost else uSelftest

theorem admitUnit_waits {u : Nat} (hu : u < 6) {s : State} (h : s.fld (F.CRN_STATE_STATE u) ≠ uQuarantine) : admitUnit u s = s := by
  unfold admitUnit
  rw [unitField_core hu]
  exact if_neg (by simp [h])

theorem fld_coreReadmitted {u : Nat} (hu : u < 6) {s : State} (h : s.fld (F.CRN_STATE_STATE u) = uLost ∨ s.fld (F.CRN_STATE_STATE u) = backState s u) :
    (coreReadmitted s u).fld (F.CRN_STATE_STATE u) = backState s u := by
  have hr : (readmitUnit u s).fld (F.CRN_STATE_STATE u) = backState s u := by
    unfold backState at h ⊢
    unfold readmitUnit
    rw [unitField_core hu]
    by_cases hhot : u ∈ s.sched.hot
    · rw [if_pos hhot, or_self] at h
      rw [if_pos hhot, if_neg (by simp [hhot]), h]
    · rw [if_neg hhot] at h ⊢
      rcases h with h | h
      · rw [if_pos (by simp [hhot, h])]
        exact fld_put_fits _ (F.CRN_STATE_STATE u) (by show 0 ≤ 2; decide) (by show 2 < 32; decide) (by show uSelftest < 2 ^ 3; decide)
      · rw [if_neg (by rw [h]; simp [uSelftest, uLost]), h]
  unfold coreReadmitted
  rw [admitUnit_waits hu, hr]
  rw [hr]
  unfold backState
  split <;> decide

theorem fld_readmitted {u : Nat} (hu : u < 6) (l : List Nat) (hl : ∀ k ∈ l, k < 6) (s : State)
    (h : u ∈ l ∧ s.fld (F.CRN_STATE_STATE u) = uLost ∨ s.fld (F.CRN_STATE_STATE u) = backState s u) :
    (l.foldl coreReadmitted s).fld (F.CRN_STATE_STATE u) = backState s u := by
  induction l generalizing s with
  | nil => exact h.resolve_left fun h => List.not_mem_nil h.1
  | cons k l ih =>
    have hk := hl k List.mem_cons_self
    have hw := safeWork_coreReadmitted hk s
    have hb : backState (coreReadmitted s k) u = backState s u := by unfold backState; rw [hw.hot]
    rw [List.foldl_cons, ih (fun j hj => hl j (List.mem_cons_of_mem _ hj)) _ ?_, hb]
    rw [hb]
    by_cases e : k = u
    · subst e
      exact .inr (fld_coreReadmitted hk (h.imp And.right id))
    · rw [hw.fld (not_unitWork_state hu e)]
      exact h.imp (fun h => ⟨(List.mem_cons.1 h.1).resolve_left (Ne.symm e), h.2⟩) id

/-! ### The restart -/

/-- Is the register none of the rings of a core? -/
def ringsOut (o : Nat) : Bool := !(0x100000 ≤ o && o < 0x160000 && 0x1000 ≤ o % 0x10000 && o % 0x10000 < 0x1400)

/-- The cores' own state is as after a reset. -/
def coresCleared (s : State) : State := (List.range 6).foldl (fun s k => s.setCore k {}) s
/-- The cores' rings are as after a reset. -/
def ringsReset (s : State) : State := { s with regs := s.regs.filter fun e => ringsOut e.1 }
/-- The cores' pages belong to the host. -/
def pagesReset (s : State) : State :=
  s.setSched { s.sched with owner := s.sched.owner.filter fun e => !(spBase 0 ≤ e.1 * 0x1000 && e.1 * 0x1000 < spBase 6) }
/-- The restart waits for the cores out of service. -/
def restartWaits (s : State) : State := s.setHwd { s.hwd with left := (List.range 6).filter fun k => coreOut s k }

theorem crownRestart_eq (s : State) : crownRestart s = (List.range 6).foldl coreReadmitted (restartWaits (pagesReset (ringsReset (coresCleared
    (loseUnits (List.range 6) 0xA001 ((s.put F.HWD_STATE_RESTART 1).setHwd { (s.put F.HWD_STATE_RESTART 1).hwd with forget := true })))))) := by
  generalize hf : @crownRestart = f
  delta crownRestart at hf
  subst hf
  rfl

theorem safeWork_coresCleared (P : Nat → Prop) (s : State) : SafeWork P s (coresCleared s) := .foldl _ _ (fun t k _ => safeWork_setCore P k {} t) s

theorem reg_ringsReset (s : State) {o : Nat} (h : ringsOut o = true) : (ringsReset s).reg o = s.reg o :=
  (spGet_filter _ ringsOut s.regs o).trans (if_pos h)

theorem ringsOut_of {o : Nat} (h : ¬ RestartReg o) : ringsOut o = true := by
  by_cases hr : 0x100000 ≤ o ∧ o < 0x160000
  · exact absurd (Or.inr ⟨o / 0x10000 - 0x10, by omega, by unfold CoreReg; omega⟩) h
  · unfold ringsOut
    simp only [Bool.not_eq_true', Bool.and_eq_false_iff, decide_eq_false_iff_not]
    omega

theorem safeWork_ringsReset (s : State) : SafeWork RestartReg s (ringsReset s) := ⟨fun _ ho => reg_ringsReset s (ringsOut_of ho), rfl, rfl⟩
theorem safeWork_pagesReset (P : Nat → Prop) (s : State) : SafeWork P s (pagesReset s) := .setSched s rfl
theorem safeWork_restartWaits (P : Nat → Prop) (s : State) : SafeWork P s (restartWaits s) := .setHwd s rfl

/-- The state that the cores of a restart are re-admitted from. -/
def coresReset (s : State) : State := restartWaits (pagesReset (ringsReset (coresCleared s)))

theorem safeWork_coresReset (s : State) : SafeWork RestartReg s (coresReset s) :=
  (((safeWork_coresCleared _ s).trans (safeWork_ringsReset _)).trans (safeWork_pagesReset _ _)).trans (safeWork_restartWaits _ _)

theorem reg_coresReset (s : State) {o : Nat} (h : ringsOut o = true) : (coresReset s).reg o = s.reg o := by
  unfold coresReset
  rw [(safeWork_restartWaits (fun _ => False) _).reg o id, (safeWork_pagesReset (fun _ => False) _).reg o id, reg_ringsReset _ h,
    (safeWork_coresCleared (fun _ => False) s).reg o id]

theorem safeWork_crownRestart (s : State) : SafeWork RestartReg (s.put F.HWD_STATE_RESTART 1) (crownRestart s) := by
  have hforget : SafeWork RestartReg (s.put F.HWD_STATE_RESTART 1) ((s.put F.HWD_STATE_RESTART 1).setHwd { (s.put F.HWD_STATE_RESTART 1).hwd with forget := true }) :=
    .setHwd _ rfl
  rw [crownRestart_eq]
  generalize (s.put F.HWD_STATE_RESTART 1).setHwd { (s.put F.HWD_STATE_RESTART 1).hwd with forget := true } = v at hforget
  exact ((hforget.trans (safeWork_loseCores v)).trans (safeWork_coresReset _)).trans
    (.foldl _ _ (fun t k hk => (safeWork_coreReadmitted (List.mem_range.1 hk) t).weaken (unitWork_le (List.mem_range.1 hk))) _)

theorem ringsOut_state (u : Nat) : ringsOut (F.CRN_STATE_STATE u).reg = true := by
  unfold ringsOut F.CRN_STATE_STATE
  simp only [Bool.not_eq_true', Bool.and_eq_false_iff, decide_eq_false_iff_not]
  omega

theorem fld_crownRestart {u : Nat} (hu : u < 6) {s : State} (h : s.fld (unitField u) = uIdle ∨ s.fld (unitField u) = uRunning) :
    (crownRestart s).fld (F.CRN_STATE_STATE u) = backState s u := by
  have hne : (F.CRN_STATE_STATE u).reg ≠ F.HWD_STATE_RESTART.reg := by unfold F.CRN_STATE_STATE F.HWD_STATE_RESTART; dsimp only; omega
  have hput : (s.put F.HWD_STATE_RESTART 1).fld (F.CRN_STATE_STATE u) = s.fld (F.CRN_STATE_STATE u) := fld_put_reg s F.HWD_STATE_RESTART _ 1 hne
  rw [crownRestart_eq]
  have hvf : ((s.put F.HWD_STATE_RESTART 1).setHwd { (s.put F.HWD_STATE_RESTART 1).hwd with forget := true }).fld (F.CRN_STATE_STATE u)
      = s.fld (F.CRN_STATE_STATE u) := hput
  have hvh : ((s.put F.HWD_STATE_RESTART 1).setHwd { (s.put F.HWD_STATE_RESTART 1).hwd with forget := true }).sched = s.sched := State.put_sched s F.HWD_STATE_RESTART 1
  generalize (s.put F.HWD_STATE_RESTART 1).setHwd { (s.put F.HWD_STATE_RESTART 1).hwd with forget := true } = v at hvf hvh ⊢
  change ((List.range 6).foldl coreReadmitted (coresReset (loseUnits (List.range 6) 0xA001 v))).fld (F.CRN_STATE_STATE u) = backState s u
  have hlost : (loseUnits (List.range 6) 0xA001 v).fld (F.CRN_STATE_STATE u) = uLost :=
    fld_loseCores hu (by rw [unitField_core hu, hvf, ← unitField_core hu]; exact h)
  have hw := (safeWork_loseCores v).trans (safeWork_coresReset _)
  have hb : backState (coresReset (loseUnits (List.range 6) 0xA001 v)) u = backState s u := by unfold backState; rw [hw.hot, hvh]
  rw [fld_readmitted hu _ (fun k hk => List.mem_range.1 hk) _ (.inl ⟨List.mem_range.2 hu, ?_⟩), hb]
  unfold State.fld at hlost ⊢
  rw [reg_coresReset _ (ringsOut_state u)]
  exact hlost

end Sys2Proof.Machine
end

section
/-! The causes served (R333, R334): where each class of cause leads, and what is recorded. -/

namespace Sys2Proof.Machine

/-- The recorded causes with those of a list. -/
def seenWith (cs : List HwdCause) (x : Nat) : Nat := cs.foldl (fun m c => m ||| 2 ^ c.code) x

theorem testBit_seenWith (cs : List HwdCause) (x i : Nat) : (seenWith cs x).testBit i = (x.testBit i || cs.any fun c => c.code = i) := by
  induction cs generalizing x with
  | nil => simp [seenWith]
  | cons c cs ih =>
    have h := ih (x ||| 2 ^ c.code)
    unfold seenWith at h ⊢
    rw [List.foldl_cons, h, Nat.testBit_or, Nat.testBit_two_pow, List.any_cons, Bool.or_assoc]

/-- The sequencer has taken its causes and recorded them. -/
def causesNoted (s : State) : State := (s.setHwd { s.hwd with due := [] }).put F.HWD_CAUSES_SEEN (seenWith s.hwd.due (s.fld F.HWD_CAUSES_SEEN))

theorem fld_causesNoted (s : State) {f : RegField} (h : f.reg ≠ 0x240004) : (causesNoted s).fld f = s.fld f :=
  fld_put_reg (s.setHwd { s.hwd with due := [] }) F.HWD_CAUSES_SEEN f _ h

theorem seen_causesNoted (s : State) : (causesNoted s).fld F.HWD_CAUSES_SEEN = seenWith s.hwd.due (s.fld F.HWD_CAUSES_SEEN) % 2 ^ 16 :=
  fld_put_self (s.setHwd { s.hwd with due := [] }) F.HWD_CAUSES_SEEN _ (by decide) (by decide)

theorem seqState_causesNoted (s : State) : seqState (causesNoted s) = seqState s := fld_causesNoted s (f := F.HWD_STATE_SEQ) (by decide)

theorem hwd_causesNoted (s : State) : (causesNoted s).hwd = { s.hwd with due := [] } := State.put_hwd _ _ _
theorem mem_causesNoted (s : State) : (causesNoted s).mem = s.mem := State.put_mem _ _ _
theorem hot_causesNoted (s : State) : (causesNoted s).sched.hot = s.sched.hot := by
  unfold causesNoted
  rw [State.put_sched]
  rfl

/-- The way of the causes from the state that has recorded them. -/
def causesLead (cs : List HwdCause) (s : State) : State :=
  if seqState s = seqRack then s
  else if cs.any causeSto && seqState s ≠ seqSto then enterSafe seqSto (lowestCause cs).code (lowestCause cs).arg 4 s
  else if cs.any causeStopping && (seqState s = seqNormal || seqState s = seqFallback) then enterSafe seqStopping (lowestCause cs).code (lowestCause cs).arg 0 s
  else if cs.any causeFallback && seqState s = seqNormal then gateUpdate (crownRestart (enterSafe seqFallback (lowestCause cs).code (lowestCause cs).arg 0 s))
  else stopCheck (gateUpdate s)

theorem hwdServe_due {s : State} (h : s.hwd.due ≠ []) : hwdServe s = causesLead s.hwd.due (causesNoted s) := by
  generalize hf : @hwdServe = f
  delta hwdServe at hf
  subst hf
  beta_reduce
  exact if_neg h

/-! ### The lowest cause -/

theorem lowestCause_least (c : HwdCause) (l : List HwdCause) : lowestCause (c :: l) ∈ c :: l ∧ ∀ x ∈ c :: l, (lowestCause (c :: l)).code ≤ x.code := by
  have hfold (l : List HwdCause) : ∀ c : HwdCause, let m := l.foldl (fun m x => if x.code < m.code then x else m) c
      m ∈ c :: l ∧ ∀ x ∈ c :: l, m.code ≤ x.code := by
    induction l with
    | nil => intro c; exact ⟨List.mem_cons_self, fun x hx => by rw [List.mem_singleton.1 hx]; exact Nat.le_refl _⟩
    | cons y l ih =>
      intro c
      obtain ⟨h1, h2⟩ := ih (if y.code < c.code then y else c)
      refine ⟨?_, fun x hx => ?_⟩
      · rcases List.mem_cons.1 h1 with h | h
        · rw [List.foldl_cons, h]; split <;> simp
        · exact List.mem_cons_of_mem _ (List.mem_cons_of_mem _ h)
      · have hm := h2 _ List.mem_cons_self
        rw [List.foldl_cons]
        rcases List.mem_cons.1 hx with rfl | hx
        · split at hm <;> rename_i hlt <;> simp only [hlt, if_true, if_false] at hm ⊢ <;> omega
        · rcases List.mem_cons.1 hx with rfl | hx
          · split at hm <;> rename_i hlt <;> simp only [hlt, if_true, if_false] at hm ⊢ <;> omega
          · exact h2 x (List.mem_cons_of_mem _ hx)
  exact hfold l c

theorem lowestCause_spec {cs : List HwdCause} (h : cs ≠ []) : lowestCause cs ∈ cs ∧ ∀ x ∈ cs, (lowestCause cs).code ≤ x.code := by
  cases cs with
  | nil => exact absurd rfl h
  | cons c l => exact lowestCause_least c l

theorem lowestCause_lt {cs : List HwdCause} (h : cs ≠ []) (hc : ∀ c ∈ cs, 1 ≤ c.code ∧ c.code ≤ 0xB) : (lowestCause cs).code < 32 := by
  have := hc _ (lowestCause_spec h).1
  omega

/-- Every cause belongs to a class. -/
theorem cause_class (c : HwdCause) (h : 1 ≤ c.code ∧ c.code ≤ 0xB) : causeSto c = true ∨ causeStopping c = true ∨ causeFallback c = true := by
  obtain ⟨code, arg⟩ := c
  dsimp only at h
  have hpath : unitPath arg = 0 ∨ unitPath arg = 1 ∨ unitPath arg = 2 := by
    unfold unitPath
    split
    · exact .inl rfl
    · split <;> simp
  unfold causeSto causeStopping causeFallback
  simp only [Bool.or_eq_true, Bool.and_eq_true, decide_eq_true_eq]
  omega

theorem fallback_of_class {cs : List HwdCause} (h : cs ≠ []) (hc : ∀ c ∈ cs, 1 ≤ c.code ∧ c.code ≤ 0xB) (h1 : cs.any causeSto = false)
    (h2 : cs.any causeStopping = false) : cs.any causeFallback = true := by
  obtain ⟨hm, -⟩ := lowestCause_spec h
  refine List.any_eq_true.2 ⟨_, hm, ?_⟩
  have k1 := List.any_eq_false.1 h1 _ hm
  have k2 := List.any_eq_false.1 h2 _ hm
  rcases cause_class _ (hc _ hm) with h | h | h
  · exact absurd h k1
  · exact absurd h k2
  · exact h

/-! ### The ways -/

section
variable {cs : List HwdCause} {s : State}

theorem causesLead_rack (h : seqState s = seqRack) : causesLead cs s = s := if_pos h

theorem causesLead_sto (h : cs.any causeSto = true) (h1 : seqState s ≠ seqRack) (h2 : seqState s ≠ seqSto) :
    causesLead cs s = enterSafe seqSto (lowestCause cs).code (lowestCause cs).arg 4 s := by
  unfold causesLead
  rw [if_neg h1, if_pos (by simp [h, h2])]

theorem causesLead_stopping (h : cs.any causeSto = false) (h1 : cs.any causeStopping = true) (h2 : seqState s = seqNormal ∨ seqState s = seqFallback) :
    causesLead cs s = enterSafe seqStopping (lowestCause cs).code (lowestCause cs).arg 0 s := by
  have hr : seqState s ≠ seqRack := by rcases h2 with h | h <;> rw [h] <;> decide
  unfold causesLead
  rw [if_neg hr, if_neg (by simp [h]), if_pos (by simp [h1, h2])]

theorem causesLead_fallback (h : cs.any causeSto = false) (h1 : cs.any causeStopping = false) (hf : cs.any causeFallback = true)
    (h2 : seqState s = seqNormal) :
    causesLead cs s = gateUpdate (crownRestart (enterSafe seqFallback (lowestCause cs).code (lowestCause cs).arg 0 s)) := by
  have hr : seqState s ≠ seqRack := by rw [h2]; decide
  unfold causesLead
  rw [if_neg hr, if_neg (by simp [h]), if_neg (by simp [h1]), if_pos (by simp [hf, h2])]

end

theorem stopCheck_seen (s : State) : (stopCheck s).fld F.HWD_CAUSES_SEEN = s.fld F.HWD_CAUSES_SEEN := by
  unfold stopCheck
  split
  · exact (enterSafe_entered 0 1 (.inr (.inr rfl)) (fld_lt s F.HWD_STATE_CAUSE) s).seen
  · rfl

/-- The restarted FALLBACK: what `enterSafe` left but for the restart's bit, and the gate closed. -/
structure Restarted (cause : Nat) (s t : State) : Prop where
  seq : seqState t = seqFallback
  cause : t.fld F.HWD_STATE_CAUSE = cause
  count : t.fld F.HWD_SAFECNT_CNT = (s.fld F.HWD_SAFECNT_CNT + 1) % 2 ^ 32
  seen : t.fld F.HWD_CAUSES_SEEN = s.fld F.HWD_CAUSES_SEEN
  restart : t.flag F.HWD_STATE_RESTART = true
  gate : t.flag F.HWD_STATE_GATE = false
  line : t.hwd.fb = true
  unit : ∀ u : Fin 6, s.fld (unitField u) = uIdle ∨ s.fld (unitField u) = uRunning → t.fld (unitField u) = if u.val ∈ s.sched.hot then uLost else uSelftest

theorem restarted_fallback {cause : Nat} (arg : Nat) (hc : cause < 32) (s : State) :
    Restarted cause s (gateUpdate (crownRestart (enterSafe seqFallback cause arg 0 s))) := by
  have he := enterSafe_entered arg 0 (.inl rfl) hc s
  generalize enterSafe seqFallback cause arg 0 s = e at he ⊢
  have hw := safeWork_crownRestart e
  have hu (u : Fin 6) := fld_crownRestart (s := e) u.isLt
  generalize crownRestart e = c at hw hu ⊢
  have hg := gateStep_gateUpdate c
  generalize gateUpdate c = t at hg ⊢
  have hne {o : Nat} (h : o / 0x100 = 0x2400) (h14 : o % 0x20 ≠ 0x14) : ¬ RestartReg o := not_restartReg_hwd h h14
  have hput (f : RegField) (h : f.reg = Reg.HWD_STATE → f.hi < 5 ∨ 5 < f.lo) : (e.put F.HWD_STATE_RESTART 1).fld f = e.fld f := by
    by_cases hf : f.reg = Reg.HWD_STATE
    · exact fld_put_apart e F.HWD_STATE_RESTART f 1 (by decide) (by decide) (h hf)
    · exact fld_put_reg e F.HWD_STATE_RESTART f 1 hf
  have hre : t.flag F.HWD_STATE_RESTART = true := by
    have h1 : c.flag F.HWD_STATE_RESTART = true :=
      (hw.flag (f := F.HWD_STATE_RESTART) (hne (by decide) (by decide))).trans (flag_put_one e (f := F.HWD_STATE_RESTART) (by decide) (by decide))
    unfold State.flag at h1 ⊢
    rw [hg.restart, h1]
  have hseq : seqState t = seqFallback :=
    hg.seq.trans (((hw.fld (f := F.HWD_STATE_SEQ) (hne (by decide) (by decide))).trans (hput F.HWD_STATE_SEQ fun _ => .inl (by decide))).trans he.seq)
  refine ⟨hseq, ?_, ?_, ?_, hre, ?_, ?_, fun u h => ?_⟩
  · rw [hg.cause, hw.fld (f := F.HWD_STATE_CAUSE) (hne (by decide) (by decide)), hput F.HWD_STATE_CAUSE fun _ => .inr (by decide), he.cause]
  · rw [hg.count, hw.fld (f := F.HWD_SAFECNT_CNT) (hne (by decide) (by decide)), hput F.HWD_SAFECNT_CNT fun e => absurd e (by decide), he.count]
  · rw [hg.seen, hw.fld (f := F.HWD_CAUSES_SEEN) (hne (by decide) (by decide)), hput F.HWD_CAUSES_SEEN fun e => absurd e (by decide), he.seen]
  · rw [hg.flag, ← hg.wanted]
    unfold gateWanted
    rw [hseq, hre]
    simp [seqFallback, seqNormal]
  · have h1 : safePart t.hwd = safePart e.hwd := by rw [hg.hwd, hw.hwd, State.put_hwd]
    have h2 := (congrArg Prod.fst (safePart_lines h1)).trans (congrArg Prod.fst he.lines)
    exact h2
  · have h6 := u.isLt
    have hr : (F.CRN_STATE_STATE u).reg / 0x10000 = 0x10 + u ∧ (F.CRN_STATE_STATE u).reg % 0x10000 = 0 := by
      unfold F.CRN_STATE_STATE; dsimp only; omega
    have hb : backState e u = if u.val ∈ s.sched.hot then uLost else uSelftest := by unfold backState; rw [he.hot]
    rw [unitField_core h6] at h ⊢
    rw [hg.fld (F.CRN_STATE_STATE u) (not_gateReg_unit (by omega)) fun e => absurd e (by unfold Reg.HWD_STATE; omega), hu u ?_, hb]
    rw [unitField_core h6, he.unit u]
    exact h

/-! ### The causes served -/

/-- What the first clause asks of causes served from `s`, said of the state that has recorded them. -/
theorem seen_causesLead {cs : List HwdCause} (hne : cs ≠ []) (hc : ∀ c ∈ cs, 1 ≤ c.code ∧ c.code ≤ 0xB) (s : State) :
    (causesLead cs s).fld F.HWD_CAUSES_SEEN = s.fld F.HWD_CAUSES_SEEN := by
  have hlow := lowestCause_lt hne hc
  unfold causesLead
  split
  · rfl
  · split
    · exact (enterSafe_entered _ _ (.inr (.inr rfl)) hlow s).seen
    · split
      · exact (enterSafe_entered _ _ (.inr (.inl rfl)) hlow s).seen
      · split
        · exact (restarted_fallback _ hlow s).seen
        · rw [stopCheck_seen, (gateStep_gateUpdate s).seen]

theorem entered_closed {st cause : Nat} {s t : State} (h : Entered st cause s t) (hst : st = seqStopping ∨ st = seqSto) : t.flag F.HWD_STATE_GATE = false := by
  rw [h.gate]
  unfold gateWanted
  rw [h.seq]
  rcases hst with h | h <;> simp [h, seqStopping, seqSto, seqFallback, seqNormal]

/-- From NORMAL every cause closes the gate, records the lowest code and counts. -/
theorem normal_causesLead {cs : List HwdCause} (hne : cs ≠ []) (hc : ∀ c ∈ cs, 1 ≤ c.code ∧ c.code ≤ 0xB) {s : State} (hn : seqState s = seqNormal) :
    (causesLead cs s).flag F.HWD_STATE_GATE = false ∧ (causesLead cs s).fld F.HWD_STATE_CAUSE = (lowestCause cs).code
    ∧ (causesLead cs s).fld F.HWD_SAFECNT_CNT = (s.fld F.HWD_SAFECNT_CNT + 1) % 2 ^ 32 := by
  have hlow := lowestCause_lt hne hc
  cases h1 : cs.any causeSto with
  | true =>
    rw [causesLead_sto h1 (by rw [hn]; decide) (by rw [hn]; decide)]
    have he := enterSafe_entered (lowestCause cs).arg 4 (.inr (.inr rfl)) hlow s
    exact ⟨entered_closed he (.inr rfl), he.cause, he.count⟩
  | false =>
    cases h2 : cs.any causeStopping with
    | true =>
      rw [causesLead_stopping h1 h2 (.inl hn)]
      have he := enterSafe_entered (lowestCause cs).arg 0 (.inr (.inl rfl)) hlow s
      exact ⟨entered_closed he (.inl rfl), he.cause, he.count⟩
    | false =>
      rw [causesLead_fallback h1 h2 (fallback_of_class hne hc h1 h2) hn]
      have hr := restarted_fallback (lowestCause cs).arg hlow s
      exact ⟨hr.gate, hr.cause, hr.count⟩

theorem put_fld_same (s : State) (f : RegField) (v w : Nat) (hw : w = v % 2 ^ (f.hi + 1 - f.lo)) : s.put f w = s.put f v := by
  unfold State.put
  rw [hw]
  congr 2
  unfold insertBits
  rw [Nat.mod_mod]

end Sys2Proof.Machine
end

section
/-! The commands of the sequencer and its watchdogs (R332, R334, R335, R337, R338). -/

namespace Sys2Proof.Machine

theorem causesServed (s : State) (hne : s.hwd.due ≠ []) (hc : ∀ c ∈ s.hwd.due, 1 ≤ c.code ∧ c.code ≤ 0xB) : let t := hwdServe s
    (∀ i < 16, (t.fld F.HWD_CAUSES_SEEN).testBit i = ((s.fld F.HWD_CAUSES_SEEN).testBit i || s.hwd.due.any fun c => c.code = i))
    ∧ (s.hwd.due.any causeSto = true → seqState s ≠ seqSto → seqState s ≠ seqRack → seqState t = seqSto ∧ t.hwd.sto = true)
    ∧ (s.hwd.due.any causeSto = false → s.hwd.due.any causeStopping = true → seqState s = seqNormal ∨ seqState s = seqFallback →
      seqState t = seqStopping ∧ t.hwd.stop = true ∧ t.hwd.fb = s.hwd.fb ∧ t.hwd.sto = s.hwd.sto)
    ∧ (s.hwd.due.any causeSto = false → s.hwd.due.any causeStopping = false → seqState s = seqNormal →
      seqState t = seqFallback ∧ t.hwd.fb = true ∧ t.flag F.HWD_STATE_RESTART = true
      ∧ ∀ u : Fin 6, s.fld (unitField u) = uIdle ∨ s.fld (unitField u) = uRunning → t.fld (unitField u) = if u.val ∈ s.sched.hot then uLost else uSelftest)
    ∧ (seqState s = seqNormal → t.flag F.HWD_STATE_GATE = false ∧ t.fld F.HWD_STATE_CAUSE = (lowestCause s.hwd.due).code
      ∧ (∃ c ∈ s.hwd.due, t.fld F.HWD_STATE_CAUSE = c.code) ∧ (∀ c ∈ s.hwd.due, t.fld F.HWD_STATE_CAUSE ≤ c.code)
      ∧ t.fld F.HWD_SAFECNT_CNT = (s.fld F.HWD_SAFECNT_CNT + 1) % 2 ^ 32)
    ∧ (seqState s = seqRack → t.regs = (s.put F.HWD_CAUSES_SEEN (t.fld F.HWD_CAUSES_SEEN)).regs ∧ t.mem = s.mem) := by
  intro t
  have ht : t = causesLead s.hwd.due (causesNoted s) := hwdServe_due hne
  clear_value t
  have hlow := lowestCause_lt hne hc
  obtain ⟨hlm, hll⟩ := lowestCause_spec hne
  have hst := seqState_causesNoted s
  have hhwd := hwd_causesNoted s
  have hseen := seen_causesLead hne hc (causesNoted s)
  rw [← ht, seen_causesNoted] at hseen
  refine ⟨fun i hi => ?_, fun h1 h2 h3 => ?_, fun h1 h2 h3 => ?_, fun h1 h2 h3 => ?_, fun hn => ?_, fun hr => ?_⟩
  · rw [hseen, Nat.testBit_mod_two_pow, testBit_seenWith, decide_eq_true hi, Bool.true_and]
  · rw [ht, causesLead_sto h1 (by rw [hst]; exact h3) (by rw [hst]; exact h2)]
    have he := enterSafe_entered (lowestCause s.hwd.due).arg 4 (.inr (.inr rfl)) hlow (causesNoted s)
    generalize enterSafe seqSto (lowestCause s.hwd.due).code (lowestCause s.hwd.due).arg 4 (causesNoted s) = u at he ⊢
    have hl := he.lines
    simp only [seqSto, seqFallback, seqStopping, Prod.mk.injEq, Nat.reduceEqDiff, if_false] at hl
    exact ⟨he.seq, hl.2.2⟩
  · rw [ht, causesLead_stopping h1 h2 (by rw [hst]; exact h3)]
    have he := enterSafe_entered (lowestCause s.hwd.due).arg 0 (.inr (.inl rfl)) hlow (causesNoted s)
    generalize enterSafe seqStopping (lowestCause s.hwd.due).code (lowestCause s.hwd.due).arg 0 (causesNoted s) = u at he ⊢
    have hl := he.lines
    simp only [hhwd, seqFallback, seqStopping, Prod.mk.injEq, Nat.reduceEqDiff, if_false, if_true] at hl
    exact ⟨he.seq, hl.2.1, hl.1, hl.2.2⟩
  · rw [ht, causesLead_fallback h1 h2 (fallback_of_class hne hc h1 h2) (by rw [hst]; exact h3)]
    have hr := restarted_fallback (lowestCause s.hwd.due).arg hlow (causesNoted s)
    refine ⟨hr.seq, hr.line, hr.restart, fun u hu => ?_⟩
    have hreg : (unitField u).reg ≠ 0x240004 := by rw [unitField_core u.isLt]; unfold F.CRN_STATE_STATE; dsimp only; have := u.isLt; omega
    have h := hr.unit u (by rw [fld_causesNoted s hreg]; exact hu)
    rw [hot_causesNoted] at h
    exact h
  · obtain ⟨h1, h2, h3⟩ := normal_causesLead hne hc (s := causesNoted s) (by rw [hst]; exact hn)
    rw [← ht] at h1 h2 h3
    refine ⟨h1, h2, ⟨_, hlm, h2⟩, fun c hcm => h2.le.trans (hll c hcm), ?_⟩
    rw [h3, fld_causesNoted s (f := F.HWD_SAFECNT_CNT) (by decide)]
  · have hc : t = causesNoted s := ht.trans (causesLead_rack (by rw [hst]; exact hr))
    have hput := put_fld_same s F.HWD_CAUSES_SEEN (seenWith s.hwd.due (s.fld F.HWD_CAUSES_SEEN)) (seenWith s.hwd.due (s.fld F.HWD_CAUSES_SEEN) % 2 ^ 16) rfl
    rw [hseen, hput, hc]
    exact ⟨rfl, mem_causesNoted s⟩

theorem entriesReport (st cause arg why : Nat) (s : State) (hst : st = seqFallback ∨ st = seqStopping ∨ st = seqSto) (hcause : cause < 32) :
    let t := enterSafe st cause arg why s
    seqState t = st ∧ t.fld F.HWD_STATE_CAUSE = cause ∧ t.fld F.HWD_SAFECNT_CNT = (s.fld F.HWD_SAFECNT_CNT + 1) % 2 ^ 32
    ∧ t.fld F.HWD_CAUSES_SEEN = s.fld F.HWD_CAUSES_SEEN ∧ t.flag F.HWD_STATE_GATE = gateWanted t
    ∧ (t.hwd.fb, t.hwd.stop, t.hwd.sto) = (if st = seqFallback then (true, false, false) else if st = seqStopping then (s.hwd.fb, true, s.hwd.sto) else (false, false, true))
    ∧ (s.flag F.HWD_STATE_GATE = false → t.mem = s.mem ∧ LastEvent t (if st = seqSto then 0xA005 else 0xA001) 0x30) := by
  have h := enterSafe_entered arg why hst hcause s
  exact ⟨h.seq, h.cause, h.count, h.seen, h.gate, h.lines, h.quiet⟩

/-! ### Commands and limits -/

theorem safeCmd_arm {s : State} (hc : Calm s) : safeCmdWritten 2 s
    = if (s.flag F.SAP_STAT_HWFW && s.flag F.SAP_STAT_ICFG) && (seqState s = seqInit || (seqState s = seqSto && !(badSeen s))) then enterSafe seqFallback 0 0 0 s else s := by
  unfold safeCmdWritten
  rw [show bitAt 2 0 = false from rfl, if_neg Bool.false_ne_true, hwdServe_of_calm hc, show bitAt 2 1 = true from rfl]
  dsimp only
  rw [Bool.true_and]

theorem badSeen_false_iff (s : State) : badSeen s = false ↔ s.fld F.HWD_CAUSES_SEEN &&& 0xFC0 = 0 := by
  unfold badSeen
  simp

theorem sequencerCommands (s : State) (hc : Calm s) : let ready := s.flag F.SAP_STAT_HWFW = true ∧ s.flag F.SAP_STAT_ICFG = true
    let armable := seqState s = seqInit ∨ (seqState s = seqSto ∧ s.fld F.HWD_CAUSES_SEEN &&& 0xFC0 = 0)
    (ready ∧ armable → safeCmdWritten 2 s = enterSafe seqFallback 0 0 0 s) ∧ (¬ (ready ∧ armable) → safeCmdWritten 2 s = s)
    ∧ safeCmdWritten 1 s = hwdServe (hwdDue 5 s)
    ∧ exec .holdExpiry s = .next (if seqState s = seqFallback then enterSafe seqStopping (s.fld F.HWD_STATE_CAUSE) 0 0 s else s)
    ∧ exec .kickTimeout s = .next (if s.hwd.kicked = true ∧ inRack s = false then hwdServe (hwdDue 7 s) else s)
    ∧ exec .heartbeatTimeout s = .next (if seqState s = seqRack ∨ heartbeatLate s = false then s else hwdServe (hwdDue 9 s))
    ∧ (lastInForce s = none → exec .horizonExpiry s = .next s)
    ∧ ∀ e, lastInForce s = some e → exec .horizonExpiry s = .next (if seqState s = seqNormal ∧ e * 65536 < s.time + s.fld F.HWD_GATECFG_HORIZMIN * 1000 * 65536
        then hwdServe (hwdDue 2 s) else s) := by
  intro ready armable
  have hiff : ((s.flag F.SAP_STAT_HWFW && s.flag F.SAP_STAT_ICFG) && (seqState s = seqInit || (seqState s = seqSto && !(badSeen s)))) = true
      ↔ ready ∧ armable := by
    simp only [Bool.and_eq_true, Bool.or_eq_true, decide_eq_true_eq, Bool.not_eq_true', badSeen_false_iff, ready, armable]
  refine ⟨fun h => ?_, fun h => ?_, ?_, ?_, ?_, ?_, fun h => ?_, fun e h => ?_⟩
  · rw [safeCmd_arm hc, if_pos (hiff.2 h)]
  · rw [safeCmd_arm hc, if_neg (mt hiff.1 h)]
  · unfold safeCmdWritten
    rw [show bitAt 1 0 = true from rfl, if_pos rfl, show bitAt 1 1 = false from rfl]
    exact if_neg (by simp)
  · rw [exec_holdExpiry]
    unfold execHoldExpiry
    rw [hwdServe_of_calm hc]
  · rw [exec_kickTimeout]
    unfold execKickTimeout
    rw [hwdServe_of_calm hc]
    refine congrArg Host.Outcome.next (if_congr ?_ rfl rfl)
    simp
  · rw [exec_heartbeatTimeout]
    unfold execHeartbeatTimeout
    rw [hwdServe_of_calm hc]
    refine congrArg Host.Outcome.next (if_congr ?_ rfl rfl)
    simp
  · rw [exec_horizonExpiry]
    unfold execHorizonExpiry
    rw [hwdServe_of_calm hc]
    dsimp only
    rw [h]
  · rw [exec_horizonExpiry]
    unfold execHorizonExpiry
    rw [hwdServe_of_calm hc]
    dsimp only
    rw [h]
    refine congrArg Host.Outcome.next (if_congr ?_ rfl rfl)
    simp

theorem hwdServe_idle {s : State} (h : s.hwd.due = []) : hwdServe s = stopCheck s := by
  generalize hf : @hwdServe = f
  delta hwdServe at hf
  subst hf
  exact if_pos h

theorem stopLimits (s : State) (hd : s.hwd.due = []) :
    (seqState s = seqStopping → allStopped s = false → exec .stopmaxExpiry s = .next (enterSafe seqSto (s.fld F.HWD_STATE_CAUSE) 0 2 s))
    ∧ (seqState s = seqStopping → allStopped s = true → hwdServe s = enterSafe seqSto (s.fld F.HWD_STATE_CAUSE) 0 1 s)
    ∧ (seqState s ≠ seqStopping → exec .stopmaxExpiry s = .next s) := by
  refine ⟨fun h ha => ?_, fun h ha => ?_, fun h => ?_⟩
  · have hs : stopCheck s = s := if_neg (by simp [ha])
    rw [exec_stopmaxExpiry]
    unfold execStopmaxExpiry
    rw [hwdServe_idle hd, hs]
    exact congrArg Host.Outcome.next (if_pos h)
  · rw [hwdServe_idle hd]
    exact if_pos (by simp [h, ha])
  · rw [exec_stopmaxExpiry]
    unfold execStopmaxExpiry
    rw [hwdServe_of_calm ⟨hd, h⟩]
    exact congrArg Host.Outcome.next (if_neg h)

/-! ### Kicks -/

/-- The kick that Heartwood has noted. -/
def kickNoted (s : State) : State := s.setHwd { s.hwd with kicked := true, keyAlt := !s.hwd.keyAlt }

theorem kickWritten_eq (key ns : Nat) (s : State) : kickWritten key ns s =
    if (s.hwd.kicked && ns < s.fld F.HWD_WDG_WMIN * 1000) || (s.hwd.kicked && s.fld F.HWD_WDG_WMAX * 1000 ≤ ns)
      || key ≠ (if s.hwd.keyAlt then 0x3C3C else 0xC3C3) then hwdServe (hwdDue 7 (kickNoted s)) else kickNoted s := rfl

theorem kicks (key : BitVec 16) (ns : BitVec 32) (s : State) (hc : Calm s) :
    (s.hwd.stopped = true → exec (.hwdKick key ns) s = .next s) ∧ (s.hwd.stopped = false →
    (inRack s = true → ∃ t, exec (.hwdKick key ns) s = .next t ∧ LastEvent t 0x3001 0x30 ∧ t.hwd = s.hwd ∧ t.mem = s.mem)
    ∧ (inRack s = false → let k := s.setHwd { s.hwd with kicked := true, keyAlt := !s.hwd.keyAlt }
      let good := key.toNat = (if s.hwd.keyAlt = true then 0x3C3C else 0xC3C3)
        ∧ (s.hwd.kicked = true → s.fld F.HWD_WDG_WMIN * 1000 ≤ ns.toNat ∧ ns.toNat < s.fld F.HWD_WDG_WMAX * 1000)
      (good → exec (.hwdKick key ns) s = .next k) ∧ (¬ good → exec (.hwdKick key ns) s = .next (hwdServe (hwdDue 7 k))))) := by
  have e : exec (.hwdKick key ns) s = if s.hwd.stopped then .next s
      else if inRack s then .next (accessEvent 0x3001 hwdOid 0 (regBase + Reg.HWD_KICK) 4 true 0 key.toNat 0 1 s)
      else .next (kickWritten key.toNat ns.toNat s) := by
    rw [exec_hwdKick]
    unfold execKick
    rw [hwdServe_of_calm hc]
  refine ⟨fun h => e.trans (if_pos h), fun h => ⟨fun hr => ?_, fun hr => ?_⟩⟩
  · have hrec := regStep_recorded 0x3001 hwdOid 0 (regBase + Reg.HWD_KICK) 4 true 0 s
    have hrep := reported_accessEvent (code := 0x3001) (oid := hwdOid) (ctx := 0) (sev := 1) (regBase + Reg.HWD_KICK) 4 true 0 key.toNat 0 s
      (by decide) (by decide)
    refine ⟨_, (e.trans (if_neg (by rw [h]; decide))).trans (if_pos hr), hrep.last, ?_, hrep.mem⟩
    rw [accessEvent_eq, raise_of_minor _ (show 1 < 2 by decide), (eventStep_acceptEv _ _).hwd, hrec.hwd]
  · have e' : exec (.hwdKick key ns) s = .next (kickWritten key.toNat ns.toNat s) := by
      rw [e, if_neg (by rw [h]; decide), if_neg (by rw [hr]; decide)]
    rw [e', kickWritten_eq]
    generalize (if s.hwd.keyAlt = true then 0x3C3C else 0xC3C3) = want
    intro k good
    have hiff : ((s.hwd.kicked && ns.toNat < s.fld F.HWD_WDG_WMIN * 1000) || (s.hwd.kicked && s.fld F.HWD_WDG_WMAX * 1000 ≤ ns.toNat)
        || key.toNat ≠ want) = true ↔ ¬ good := by
      simp only [good]
      cases s.hwd.kicked <;> simp; omega
    exact ⟨fun hg => congrArg Host.Outcome.next (if_neg fun h => hiff.1 h hg), fun hg => congrArg Host.Outcome.next (if_pos (hiff.2 hg))⟩

/-! ### The Crown restart ends -/

/-- The restart has ended, before the gate follows. -/
def restartEnded (us : Nat) (s : State) : State :=
  hwdEvent 0xA007 1 (coresInService ((s.put F.HWD_STATE_RESTART 0).put F.HWD_RESTART_DUR (min us 0xFFFF))) us 0 0
    ((s.put F.HWD_STATE_RESTART 0).put F.HWD_RESTART_DUR (min us 0xFFFF))

theorem crownRestarts (us : BitVec 32) (s : State) (hc : Calm s) :
    (s.flag F.HWD_STATE_RESTART = true → s.hwd.left = [] → s.flag F.HWD_STATE_GATE = false →
      ∃ t, exec (.crownRestartComplete us) s = .next t ∧ t.flag F.HWD_STATE_RESTART = false ∧ t.fld F.HWD_RESTART_DUR = min us.toNat 0xFFFF
        ∧ LastEvent t 0xA007 0x30 ∧ t.mem = s.mem ∧ t.flag F.HWD_STATE_GATE = gateWanted t
        ∧ (gateWanted t = true → s.hwd.forget = true → ∀ n < 4, (gateChan t n).accepted = false))
    ∧ (s.flag F.HWD_STATE_RESTART = false ∨ s.hwd.left ≠ [] → exec (.crownRestartComplete us) s = .next s)
    ∧ (s.flag F.HWD_STATE_RESTART = true → s.hwd.left ≠ [] → ∃ t, exec (.crownRestartTimeout us) s = .next t ∧ LastEvent t 0xA008 0x30 ∧ t.mem = s.mem ∧ t.hwd = s.hwd)
    ∧ (s.flag F.HWD_STATE_RESTART = false ∨ s.hwd.left = [] → exec (.crownRestartTimeout us) s = .next s) := by
  rw [exec_crownRestartComplete, exec_crownRestartTimeout]
  unfold execCrownRestartComplete execCrownRestartTimeout
  rw [hwdServe_of_calm hc]
  refine ⟨fun h1 h2 h3 => ⟨gateUpdate (restartEnded us.toNat s), if_pos (by simp [h1, h2]), ?_⟩, fun h => if_neg ?_, fun h1 h2 => ?_, fun h => ?_⟩
  · obtain ⟨hev, hlast⟩ := hwdEvent_noted (show 1 ≠ 2 by decide) 0xA007
      (coresInService ((s.put F.HWD_STATE_RESTART 0).put F.HWD_RESTART_DUR (min us.toNat 0xFFFF))) us.toNat 0 0
      ((s.put F.HWD_STATE_RESTART 0).put F.HWD_RESTART_DUR (min us.toNat 0xFFFF)) 0
    change EventStep _ (restartEnded us.toNat s) at hev
    change LastEvent (restartEnded us.toNat s) _ _ at hlast
    generalize restartEnded us.toNat s = e at hev hlast ⊢
    have hpage {o : Nat} (h : o / 0x100 = 0x2400) : ¬ EvReg o := by unfold EvReg; omega
    have hg := gateStep_gateUpdate e
    generalize gateUpdate e = t at hg ⊢
    have hre : t.flag F.HWD_STATE_RESTART = false := by
      unfold State.flag
      rw [hg.restart]
      refine (hev.flag (f := F.HWD_STATE_RESTART) (hpage (by decide))).trans ?_
      rw [flag_put_reg _ F.HWD_RESTART_DUR F.HWD_STATE_RESTART _ (by decide)]
      exact flag_put_zero s (f := F.HWD_STATE_RESTART) (by decide) (by decide)
    have hdur : t.fld F.HWD_RESTART_DUR = min us.toNat 0xFFFF := by
      rw [hg.fld F.HWD_RESTART_DUR (not_gateReg_hwd (by decide) (by decide)) fun e => absurd e (by decide), hev.fld (f := F.HWD_RESTART_DUR) (hpage (by decide))]
      exact fld_put_fits _ F.HWD_RESTART_DUR (by decide) (by decide) (show min us.toNat 0xFFFF < 2 ^ 16 by omega)
    have hclosed : e.flag F.HWD_STATE_GATE = false := by
      rw [hev.flag (f := F.HWD_STATE_GATE) (hpage (by decide)), flag_put_reg _ F.HWD_RESTART_DUR F.HWD_STATE_GATE _ (by decide),
        flag_put_apart s F.HWD_STATE_RESTART F.HWD_STATE_GATE _ (by decide) (by decide) (by decide), h3]
    obtain ⟨hm, he⟩ := hg.quiet hclosed
    refine ⟨hre, hdur, ?_, ?_, by rw [hg.flag, hg.wanted], fun hw hf => ?_⟩
    · unfold LastEvent; rw [he]; exact hlast
    · rw [hm, hev.mem, State.put_mem, State.put_mem]
    · exact hg.forgot hclosed (by rw [← hg.wanted, hw]) (by rw [hev.hwd, State.put_hwd, State.put_hwd, hf])
  · rcases h with h | h <;> simp [h]
  · obtain ⟨hev, hlast⟩ := hwdEvent_noted (show 3 ≠ 2 by decide) 0xA008 (coresInService s) us.toNat 0 0 s 0
    exact ⟨_, congrArg Host.Outcome.next (if_pos (by simp [h1, h2])), hlast, hev.mem, hev.hwd⟩
  · refine congrArg Host.Outcome.next (if_neg ?_)
    rcases h with h | h <;> simp [h]

/-! ### Self-tests and the pair -/

theorem pairChecks (s : State) (hc : Calm s) (hr : inRack s = false) : let v := s.setHwd { s.hwd with nextUnit := (s.hwd.nextUnit + 1) % 8 }
    (∀ e o, exec (.selfTestTick true e o) s = .next (testLoopback s.hwd.nextUnit v))
    ∧ (∀ e o, exec (.selfTestTick false e o) s = .next (hwdServe (hwdDue 8 (hwdEvent 0xA006 4 s.hwd.nextUnit e.toNat o.toNat 0 v) s.hwd.nextUnit)))
    ∧ (∀ r0 r1, pairSignature s 0 s.hwd.slice r0 = pairSignature s 1 s.hwd.slice r1 →
      exec (.signatureCheck r0 r1) s = .next (s.setHwd { s.hwd with slice := (s.hwd.slice + 1) % 128 }))
    ∧ (∀ r0 r1, pairSignature s 0 s.hwd.slice r0 ≠ pairSignature s 1 s.hwd.slice r1 →
      ∃ t, exec (.signatureCheck r0 r1) s = .next t ∧ LastEvent t 0xB102 0x30 ∧ t.hwd = { s.hwd with slice := (s.hwd.slice + 1) % 128 } ∧ t.mem = s.mem)
    ∧ (∀ port, exec (.hwdPairTransaction port false) s = .next s)
    ∧ (∀ port, inRack s = true ∨ s.hwd.stopped = true → exec (.hwdPairTransaction port true) s = .next s)
    ∧ (∀ port, s.hwd.stopped = false → seqState s = seqNormal ∨ seqState s = seqFallback →
      ∃ t, exec (.hwdPairTransaction port true) s = .next t ∧ t.hwd.stopped = true ∧ seqState t = seqStopping ∧ t.fld F.HWD_STATE_CAUSE = 6) := by
  intro v
  have hno : ¬ inRack s = true := by rw [hr]; decide
  have htick (ok : Bool) (e o : BitVec 32) : exec (.selfTestTick ok e o) s
      = .next (if ok then testLoopback s.hwd.nextUnit v else hwdServe (hwdDue 8 (hwdEvent 0xA006 4 s.hwd.nextUnit e.toNat o.toNat 0 v) s.hwd.nextUnit)) := by
    rw [exec_selfTestTick]
    unfold execSelfTestTick
    rw [hwdServe_of_calm hc]
    exact if_neg hno
  have hsig (r0 r1 : List (BitVec 32)) : exec (.signatureCheck r0 r1) s
      = .next (if pairSignature s 0 s.hwd.slice r0 = pairSignature s 1 s.hwd.slice r1 then s.setHwd { s.hwd with slice := (s.hwd.slice + 1) % 128 }
        else hwdEvent 0xB102 1 s.hwd.slice (pairSignature s 0 s.hwd.slice r0) (pairSignature s 1 s.hwd.slice r1) 0
          (s.setHwd { s.hwd with slice := (s.hwd.slice + 1) % 128 })) := by
    rw [exec_signatureCheck]
    unfold execSignatureCheck
    rw [hwdServe_of_calm hc]
    exact if_neg hno
  refine ⟨htick true, htick false, fun r0 r1 h => ?_, fun r0 r1 h => ?_, fun port => ?_, fun port h => ?_, fun port hstop hst => ?_⟩
  · rw [hsig, if_pos h]
  · obtain ⟨hev, hlast⟩ := hwdEvent_noted (show 1 ≠ 2 by decide) 0xB102 s.hwd.slice (pairSignature s 0 s.hwd.slice r0) (pairSignature s 1 s.hwd.slice r1) 0
      (s.setHwd { s.hwd with slice := (s.hwd.slice + 1) % 128 }) 0
    rw [hsig, if_neg h]
    exact ⟨_, rfl, hlast, hev.hwd, hev.mem⟩
  · rw [exec_hwdPairTransaction]
    unfold execHwdPairTransaction
    rw [hwdServe_of_calm hc]
    exact if_pos (by simp)
  · rw [exec_hwdPairTransaction]
    unfold execHwdPairTransaction
    rw [hwdServe_of_calm hc]
    exact if_pos (by simpa using h)
  · obtain ⟨hev, -⟩ := hwdEvent_noted (show 4 ≠ 2 by decide) 0xB101 port.toNat (s.freeNat.1 % 2 ^ 32) 0 0 (s.freeNat.2.setHwd { s.freeNat.2.hwd with stopped := true }) 0
    rw [exec_hwdPairTransaction]
    unfold execHwdPairTransaction
    rw [hwdServe_of_calm hc]
    refine ⟨_, if_neg (by simp [hr, hstop]), ?_⟩
    generalize hwdEvent 0xB101 4 port.toNat (s.freeNat.1 % 2 ^ 32) 0 0 (s.freeNat.2.setHwd { s.freeNat.2.hwd with stopped := true }) = e at hev ⊢
    have hpage {o : Nat} (h : o / 0x100 = 0x2400) : ¬ EvReg o := by unfold EvReg; omega
    have hdue : (hwdDue 6 e).hwd.due = [⟨6, 0⟩] := by
      show e.hwd.due ++ [_] = _
      rw [hev.hwd]
      show s.hwd.due ++ [_] = _
      rw [hc.1]
      rfl
    have hseq : seqState (hwdDue 6 e) = seqState s := hev.fld (f := F.HWD_STATE_SEQ) (hpage (by decide))
    have hstopped : (hwdDue 6 e).hwd.stopped = true := by
      show e.hwd.stopped = true
      rw [hev.hwd]
      rfl
    generalize hwdDue 6 e = d at hdue hseq hstopped ⊢
    rw [hwdServe_due (by rw [hdue]; exact List.cons_ne_nil _ _), hdue,
      causesLead_stopping (by decide) (by decide) (by rw [seqState_causesNoted, hseq]; exact hst)]
    have he := enterSafe_entered 0 0 (.inr (.inl rfl)) (show 6 < 32 by decide) (causesNoted d)
    refine ⟨?_, he.seq, he.cause⟩
    have h1 : (enterSafe seqStopping 6 0 0 (causesNoted d)).hwd.stopped = (safeLines seqStopping (causesNoted d).hwd).stopped :=
      (congrArg Hwd.stopped he.hwd :)
    refine h1.trans ?_
    rw [hwd_causesNoted]
    exact hstopped

end Sys2Proof.Machine
end

section
/-! Words of a value of several words (R10, R35, R39): what their fields take, and what a refused one leaves. -/

namespace Sys2Proof.Machine

/-! ### Stored bits -/

/-- Does bit `i` lie in one of the fields? -/
def inFields (fs : List FieldDef) (i : Nat) : Bool := fs.any fun f => decide (f.lo ≤ i) && decide (i ≤ f.hi)

theorem testBit_storedWord {fs : List FieldDef} (hb : ∀ f ∈ fs, f.lo ≤ f.hi ∧ f.hi < 32) (data was i : Nat) :
    (storedWord data fs was).testBit i = if inFields fs i then data.testBit i else was.testBit i := by
  induction fs generalizing was with
  | nil => rfl
  | cons f fs ih =>
    obtain ⟨h1, -⟩ := hb f List.mem_cons_self
    rw [storedWord, List.foldl_cons]
    refine (ih (fun g hg => hb g (List.mem_cons_of_mem _ hg)) _).trans ?_
    rw [insertBits_testBit _ _ _ _ _ (by omega), slice_testBit]
    unfold inFields
    rw [List.any_cons]
    by_cases hf : f.lo ≤ i ∧ i ≤ f.hi
    · have e : f.lo + (i - f.lo) = i := by omega
      simp [hf, e, show i - f.lo < f.hi + 1 - f.lo by omega]
    · simp only [hf, if_false]
      rw [show (decide (f.lo ≤ i) && decide (i ≤ f.hi)) = false by simpa using hf, Bool.false_or]

/-- A mask has the bits of the fields. -/
def MaskOf (fs : List FieldDef) (m : Word) : Prop := ∀ i : Fin 32, m.getLsbD i = inFields fs i

theorem storedWord_mask {fs : List FieldDef} {m : Word} (hb : ∀ f ∈ fs, f.lo ≤ f.hi ∧ f.hi < 32) (hm : MaskOf fs m) (data was : Word) :
    storedWord data.toNat fs was.toNat = ((was &&& ~~~m) ||| (data &&& m)).toNat := by
  refine Nat.eq_of_testBit_eq fun i => ?_
  rw [testBit_storedWord hb, BitVec.testBit_toNat, BitVec.testBit_toNat, BitVec.testBit_toNat, BitVec.getLsbD_or, BitVec.getLsbD_and, BitVec.getLsbD_and,
    BitVec.getLsbD_not]
  by_cases hi : i < 32
  · rw [hm ⟨i, hi⟩]
    cases h : inFields fs i <;> simp [hi]
  · have hz (x : Word) : x.getLsbD i = false := BitVec.getLsbD_of_ge x i (by omega)
    simp [hz]

/-- A word keeps its register exactly when it agrees with it in the fields. -/
theorem storedWord_same_iff {fs : List FieldDef} {m : Word} (hb : ∀ f ∈ fs, f.lo ≤ f.hi ∧ f.hi < 32) (hm : MaskOf fs m) (data was : Word) :
    storedWord data.toNat fs was.toNat = was.toNat ↔ (data ^^^ was) &&& m = 0 := by
  rw [storedWord_mask hb hm, ← BitVec.toNat_inj]
  rw [BitVec.toNat_inj, BitVec.toNat_inj]
  refine ⟨fun h => ?_, fun h => ?_⟩
  · rw [← h]
    ext i hi
    simp only [BitVec.getElem_and, BitVec.getElem_xor, BitVec.getElem_or, BitVec.getElem_not]
    cases m[i] <;> cases data[i] <;> simp
  · ext i hi
    have h1 : ((data ^^^ was) &&& m)[i] = (0#32)[i] := by rw [h]; rfl
    simp only [BitVec.getElem_and, BitVec.getElem_xor, BitVec.getElem_zero, BitVec.getElem_or, BitVec.getElem_not] at h1 ⊢
    revert h1
    cases m[i] <;> cases data[i] <;> cases was[i] <;> decide

/-! ### One word -/

/-- A word of plain fields, of its own or of a value of several words. -/
structure FieldWord (off : Nat) (fs : List FieldDef) : Prop where
  found : (findReg off).map (·.fields) = some fs
  fields : PlainFields fs
  some_ : fs ≠ []
  self : selfStored off = false
  open_ : off ≠ Reg.SYS_XPEN ∧ off ≠ Reg.SAP_RSTCMD ∧ off ≠ Reg.HWD_KICK ∧ off ≠ Reg.LCS_LCCMD
  norm : ∀ v, normWord off v = v

section
variable {off : Nat} {fs : List FieldDef} {s : State} {w : RegWr}

theorem alwaysLocked_fieldWord (h : FieldWord off fs) (s : State) (w : RegWr) : alwaysLocked s w off = false := by
  obtain ⟨-, h1, h2, -⟩ := h.open_
  unfold alwaysLocked
  simp only [h1, h2, decide_false, Bool.false_and, Bool.or_self, Bool.and_false]

theorem mayAny_fieldWord (h : FieldWord off fs) (hmay : ∀ f ∈ fs, mayWrite w.oid off f = true) : mayAny w.oid off = true := by
  obtain ⟨d, hd, hfs⟩ := Option.map_eq_some_iff.1 h.found
  obtain ⟨f, hf⟩ := List.exists_mem_of_ne_nil fs h.some_
  unfold mayAny
  rw [hd]
  dsimp only
  rw [hfs]
  exact List.any_eq_true.2 ⟨f, hf, hmay f hf⟩

/-- A word that meets no lock is stored and reaches its block. -/
theorem applyWord_free (h : FieldWord off fs) (hk : w.kind = 0) (hmay : ∀ f ∈ fs, mayWrite w.oid off f = true)
    (hfree : ∀ f ∈ fs, accLocked s off f = false ∧ chapterLocked s w off f (slice w.data f.hi f.lo) = false) :
    applyWord w off s = (true, regWritten s w off (s.reg off).toNat { new := storedWord w.data fs (s.reg off).toNat }
      (countChange w off (s.reg off).toNat { new := storedWord w.data fs (s.reg off).toNat } (storedIn off (storedWord w.data fs (s.reg off).toNat) s))) := by
  obtain ⟨d, hd, hfs⟩ := Option.map_eq_some_iff.1 h.found
  have hal := alwaysLocked_fieldWord h s w
  have hany := mayAny_fieldWord h hmay
  have hword : wordWrite w off d s = { new := storedWord w.data fs (s.reg off).toNat } := by
    unfold wordWrite
    simp only [hal, Bool.false_eq_true, if_false, hk, hfs]
    exact writeFields_stored h.fields.acc hmay hfree _
  have hstore : (if selfStored off || (storedWord w.data fs (s.reg off).toNat = (s.reg off).toNat && decide True) then s
      else storeWord off { new := storedWord w.data fs (s.reg off).toNat } s) = storedIn off (storedWord w.data fs (s.reg off).toNat) s := by
    unfold storedIn storeWord
    rw [h.norm, h.self]
    simp only [Bool.false_or, decide_true, Bool.and_true, decide_eq_true_eq, List.map_nil, List.append_nil]
    rfl
  obtain ⟨-, -, -, hlc⟩ := h.open_
  unfold applyWord
  simp only [hd, if_neg hlc, hword, hstore, hany, hal, Bool.not_false, Option.isNone_none, Bool.true_or, Bool.and_self, if_true]

/-- Locked fields keep their bits; one that would change is refused. -/
theorem writeFields_locked {data : Nat} {may : FieldDef → Bool} {locked : FieldDef → Nat → Bool} {fs : List FieldDef}
    (hacc : ∀ f ∈ fs, f.acc = .rw ∨ f.acc = .rwl) (hmay : ∀ f ∈ fs, may f = true) (hlock : ∀ f ∈ fs, ∀ v, locked f v = true) (x : WordWrite) :
    ∃ l, writeFields s off 0 data may locked fs x = { x with lock := l } ∧ (l = none → x.lock = none ∧ storedWord data fs x.new = x.new)
      ∧ ∀ a, l = some a → x.lock = some a ∨ a = .rw ∨ a = .rwl := by
  induction fs generalizing x with
  | nil => exact ⟨x.lock, rfl, fun h => ⟨h, rfl⟩, fun _ h => .inl h⟩
  | cons f fs ih =>
    have hm := hmay f List.mem_cons_self
    have hl := hlock f List.mem_cons_self
    have ih' := ih (fun g hg => hacc g (List.mem_cons_of_mem _ hg)) (fun g hg => hmay g (List.mem_cons_of_mem _ hg)) fun g hg => hlock g (List.mem_cons_of_mem _ hg)
    have hn : fieldNew f.acc 0 (slice x.new f.hi f.lo) (slice data f.hi f.lo) = slice data f.hi f.lo ∧ fieldTrig f.acc 0 (slice data f.hi f.lo) = 0 ∧ f.acc ≠ .wos := by
      rcases hacc f List.mem_cons_self with e | e <;> rw [e] <;> exact ⟨rfl, rfl, nofun⟩
    obtain ⟨hnew, htrig, hwos⟩ := hn
    by_cases hc : slice data f.hi f.lo = slice x.new f.hi f.lo
    · rw [hc] at hnew htrig
      have hins : insertBits x.new f.hi f.lo (slice data f.hi f.lo) = x.new := by rw [hc, insertBits_slice]
      obtain ⟨l, e, h1, h2⟩ := ih' x
      refine ⟨l, ?_, fun hl => ?_, h2⟩
      · rw [writeFields]
        simp only [hm, Bool.not_true, Bool.false_eq_true, if_false, hnew, htrig, hc, ne_eq, not_true_eq_false, decide_false, Bool.or_self, Bool.false_and,
          insertBits_slice, Nat.zero_mul, Nat.add_zero, hwos]
        exact e
      · obtain ⟨h3, h4⟩ := h1 hl
        refine ⟨h3, ?_⟩
        rw [storedWord, List.foldl_cons, hins]
        exact h4
    · obtain ⟨l, e, h1, h2⟩ := ih' { x with lock := x.lock.or (some f.acc) }
      refine ⟨l, ?_, fun hl => ?_, fun a ha => ?_⟩
      · rw [writeFields]
        simp only [hm, Bool.not_true, Bool.false_eq_true, if_false, hnew, htrig, hc, ne_eq, not_false_eq_true, decide_true, Bool.true_or, Bool.true_and, hl,
          Bool.or_true, if_true]
        exact e
      · obtain ⟨h3, -⟩ := h1 hl
        cases hx : x.lock <;> rw [hx] at h3 <;> cases h3
      · rcases h2 a ha with h3 | h3
        · cases hx : x.lock with
          | none => rw [hx] at h3; cases h3; exact .inr (hacc f List.mem_cons_self)
          | some b => rw [hx] at h3; exact .inl h3
        · exact .inr h3

/-- The result of a word that a lock refuses, with the report of a violation. -/
theorem applyWord_locked (h : FieldWord off fs) (hk : w.kind = 0) (hmay : ∀ f ∈ fs, mayWrite w.oid off f = true)
    (hlock : ∀ f ∈ fs, ∀ v, chapterLocked s w off f v = true) (hrw : ∀ x t, regWritten s w off (s.reg off).toNat x t = t) :
    ∃ l, let t := countChange w off (s.reg off).toNat { new := (s.reg off).toNat, lock := l } s
      (applyWord w off s = if l.isNone then (true, t) else (false, lockViolation w false t))
      ∧ (l = none → storedWord w.data fs (s.reg off).toNat = (s.reg off).toNat) := by
  obtain ⟨d, hd, hfs⟩ := Option.map_eq_some_iff.1 h.found
  have hal := alwaysLocked_fieldWord h s w
  obtain ⟨-, -, -, hlc⟩ := h.open_
  obtain ⟨l, e, h1, h2⟩ := writeFields_locked (s := s) (off := off) (data := w.data) (may := mayWrite w.oid off) (locked := chapterLocked s w off)
    h.fields.acc hmay hlock { new := (s.reg off).toNat }
  have hword : wordWrite w off d s = { new := (s.reg off).toNat, lock := l } := by
    unfold wordWrite
    simp only [hal, Bool.false_eq_true, if_false, hk, hfs]
    exact e
  refine ⟨l, ?_, fun hl => (h1 hl).2⟩
  unfold applyWord
  simp only [hd, if_neg hlc, hword, hrw, ite_self, decide_true, Bool.and_self, Bool.or_true, if_true]
  cases l with
  | none => rfl
  | some a =>
    have ha : a ≠ .wos := by
      rcases h2 a rfl with h3 | h3 | h3
      · exact nomatch h3
      · rw [h3]; exact nofun
      · rw [h3]; exact nofun
    simp only [ha, decide_false, Option.isNone_some, Bool.false_eq_true, if_false]

end

/-! ### A value -/

theorem writeReg_value {oid : BitVec 10} {ctx : BitVec 6} {off n data : Nat} {s : State} (hfound : (findReg off).isSome = true) (hring : ringOfSigReg off = none)
    (hgroup : wordGroup off = some (off, n)) (had : Admitted oid ctx off s) (hat : AtReg off) (hd : data < 2 ^ 32) :
    writeReg oid ctx off data s = writeDone oid.toNat (applyValue (wordWr oid.toNat ctx.toNat off data 0) off off (stagedWords s oid.toNat off n)
      (unstage oid.toNat off n s)) := by
  have hx : xpenDenied s (wordWr oid.toNat ctx.toNat off data 0).oid off = false := had.unkept
  rw [writeReg_admitted 0 had hat hd]
  unfold regWord
  simp only [Option.isNone_iff_eq_none, Option.ne_none_iff_isSome.2 hfound, if_false, hx, Bool.false_eq_true, hring, hgroup]
  rw [if_neg (show ¬ (wordWr oid.toNat ctx.toNat off data 0).kind ≠ 0 from fun h => h rfl), if_neg fun h => h rfl]
  rfl

theorem writeDone_calm {oid : Nat} {r : Bool} {s : State} (hc : Calm s) : writeDone oid (r, s) = s.answer oid true (wrStatus r) [] := hwdServe_answer hc _ _ _ _

end Sys2Proof.Machine
end

section
/-! The rules of Bark, written as a whole (R39, R340, R344), and the obligation about the safe-state sequencer. -/

namespace Sys2Proof.Machine

/-! ### Words of a rule -/

def ruleFields0 : List FieldDef :=
  [⟨0, 0, .rw, 0, 3⟩, ⟨1, 1, .rw, 0, 3⟩, ⟨2, 2, .rw, 0, 3⟩, ⟨3, 3, .rw, 0, 3⟩, ⟨4, 4, .rw, 0, 3⟩, ⟨11, 6, .rw, 0, 3⟩, ⟨17, 12, .rw, 0, 3⟩, ⟨27, 18, .rw, 0, 3⟩]
def ruleFields1 : List FieldDef := [⟨9, 0, .rw, 0, 3⟩]
def ruleFields2 : List FieldDef := [⟨31, 0, .rw, 0, 3⟩]
def ruleFields3 : List FieldDef := [⟨3, 0, .rw, 0, 3⟩, ⟨31, 4, .rw, 0, 3⟩]

/-- First word of rule `n`. -/
def ruleWord (n : Nat) : Nat := Reg.BRK_RULE_W0 (n / 128) (n % 128)

/-- A word of rule `n` with fields that the host and the firmware write. -/
structure RuleWord (n : Nat) (off : Nat) (fs : List FieldDef) : Prop where
  word : FieldWord off fs
  block : off / 0x10000 = 5
  rule : ruleOf off = some n
  who : ∀ f ∈ fs, f.who = 3 ∧ f.acc = .rw

theorem fieldWord_of {off b : Nat} {fs : List FieldDef} (hfs : PlainFields fs) (hne : fs ≠ []) (hb : off / 0x10000 = b)
    (hblock : b ≠ 0 ∧ b ≠ 1 ∧ b ≠ 2 ∧ b ≠ 0x24) (hfound : (findReg off).map (·.fields) = some fs) (hself : selfStored off = false) : FieldWord off fs := by
  obtain ⟨h0, h1, h2, h24⟩ := hblock
  have e (r : Nat) (hr : r / 0x10000 = 0 ∨ r / 0x10000 = 1 ∨ r / 0x10000 = 2 ∨ r / 0x10000 = 0x24) : off ≠ r := ne_of_block hb r (by omega)
  exact ⟨hfound, hfs, hne, hself, ⟨e _ (.inl (by decide)), e _ (.inr (.inl (by decide))), e _ (.inr (.inr (.inr (by decide)))), e _ (.inr (.inr (.inl (by decide))))⟩,
    normWord_of_block hb ⟨h1, h2, h24⟩⟩

theorem ruleWord_block (n : Fin 512) {k : Nat} (hk : k < 16) : (ruleWord n + k) / 0x10000 = 5 := by
  have := n.isLt
  unfold ruleWord Reg.BRK_RULE_W0
  omega

theorem ruleOf_ruleWord (n : Fin 512) {k : Nat} (hk : k < 16) : ruleOf (ruleWord n + k) = some n.val := by
  have hn := n.isLt
  have hb := ruleWord_block n hk
  have h1 : (ruleWord n + k) % 0x10000 = 0x1000 + 0x1000 * (n.val / 128) + 0x10 * (n.val % 128) + k := by unfold ruleWord Reg.BRK_RULE_W0; omega
  unfold ruleOf
  rw [hb, h1]
  dsimp only
  have h3 : (0x1000 + 0x1000 * (n.val / 128) + 0x10 * (n.val % 128) + k) % 0x1000 < 0x800 := by omega
  rw [if_pos (by simp only [Bool.and_eq_true, decide_eq_true_eq]; exact ⟨⟨⟨trivial, by omega⟩, by omega⟩, h3⟩)]
  have h2 : (0x1000 + 0x1000 * (n.val / 128) + 0x10 * (n.val % 128) + k) % 0x1000 = 0x10 * (n.val % 128) + k := by omega
  rw [h2]
  congr 1
  omega

theorem selfStored_rule (n : Fin 512) {k : Nat} (hk : k < 16) : selfStored (ruleWord n + k) = false := by
  have hb := ruleWord_block n hk
  have h : ruleWord n + k ≠ Reg.TIM_ADJ := ne_of_block hb _ (by decide)
  unfold selfStored
  simp [h, hb]

theorem ruleWord_of (n : Fin 512) {k : Nat} (hk : k < 16) {fs : List FieldDef} (hfs : PlainFields fs) (hne : fs ≠ []) (hw : ∀ f ∈ fs, f.who = 3 ∧ f.acc = .rw)
    (hfound : (findReg (ruleWord n + k)).map (·.fields) = some fs) : RuleWord n (ruleWord n + k) fs :=
  ⟨fieldWord_of hfs hne (ruleWord_block n hk) (by decide) hfound (selfStored_rule n hk), ruleWord_block n hk, ruleOf_ruleWord n hk, hw⟩

theorem ruleWord_low (n : Fin 512) : RuleWord n (ruleWord n) ruleFields0 :=
  ruleWord_of n (k := 0) (by decide) ⟨by decide, by decide, by decide⟩ (by decide) (by decide) (by revert n; decide +kernel)
theorem ruleWord_one (n : Fin 512) : RuleWord n (ruleWord n + 4) ruleFields1 :=
  ruleWord_of n (by decide) ⟨by decide, by decide, by decide⟩ (by decide) (by decide) (by revert n; decide +kernel)
theorem ruleWord_two (n : Fin 512) : RuleWord n (ruleWord n + 8) ruleFields2 :=
  ruleWord_of n (by decide) ⟨by decide, by decide, by decide⟩ (by decide) (by decide) (by revert n; decide +kernel)
theorem ruleWord_three (n : Fin 512) : RuleWord n (ruleWord n + 12) ruleFields3 :=
  ruleWord_of n (by decide) ⟨by decide, by decide, by decide⟩ (by decide) (by decide) (by revert n; decide +kernel)

theorem ruleGroup (n : Fin 512) : (findReg (ruleWord n)).isSome = true ∧ ringOfSigReg (ruleWord n) = none ∧ wordGroup (ruleWord n) = some (ruleWord n, 4)
    ∧ (ruleWord n < 0x1000000 ∧ ruleWord n % 4 = 0 ∧ place (regBase + ruleWord n) = some (.reg (ruleWord n))) := by
  revert n
  decide +kernel

/-! ### What a word of a rule does -/

section
variable {n : Nat} {off : Nat} {fs : List FieldDef} {s : State} {w : RegWr}

theorem chapterLocked_brk (hb : off / 0x10000 = 5) (f : FieldDef) (v : Nat) : chapterLocked s w off f v = brkLocked s w.oid off := by
  have e1 : off ≠ Reg.SYS_STRICT := ne_of_block hb _ (by decide)
  have e2 : off ≠ Reg.SAP_RSTCMD := ne_of_block hb _ (by decide)
  have e3 : off ≠ Reg.SAP_CRNF := ne_of_block hb _ (by decide)
  have e4 : off ≠ Reg.MEM_STARVLIM := ne_of_block hb _ (by decide)
  have e5 : off ≠ Reg.SPL_IDLEPAT := ne_of_block hb _ (by decide)
  have e6 : off ≠ Reg.KVP_ARB := ne_of_block hb _ (by decide)
  have hst : strictChecked off = false := by unfold strictChecked; simp [hb, e3, e4, e5, e6]
  unfold chapterLocked
  simp [hst, e1, e2, hb]

theorem regWritten_brk {s0 : State} {was : Nat} {x : WordWrite} {t : State} (hb : off / 0x10000 = 5) : regWritten s0 w off was x t = t := by
  unfold regWritten
  simp only [hb]

theorem accLocked_rw {f : FieldDef} (h : f.acc = .rw) : accLocked s off f = false := by unfold accLocked; rw [h]

theorem mayWrite_rule (h : RuleWord n off fs) (ho : w.oid ≤ 1) : ∀ f ∈ fs, mayWrite w.oid off f = true :=
  fun f hf => mayWrite_of_who (by rw [(h.who f hf).1]; exact whoMay_three ho)

/-- The state after an unlocked word of a rule. -/
theorem applyRule_free (h : RuleWord n off fs) (hk : w.kind = 0) (ho : w.oid ≤ 1) (hfree : brkLocked s w.oid off = false) :
    applyWord w off s = (true, countChange w off (s.reg off).toNat { new := storedWord w.data fs (s.reg off).toNat }
      (storedIn off (storedWord w.data fs (s.reg off).toNat) s)) := by
  rw [applyWord_free h.word hk (mayWrite_rule h ho) fun f hf => ⟨accLocked_rw (h.who f hf).2, (chapterLocked_brk h.block f _).trans hfree⟩, regWritten_brk h.block]

theorem applyRule_locked (h : RuleWord n off fs) (hk : w.kind = 0) (ho : w.oid ≤ 1) (hlock : brkLocked s w.oid off = true) :
    ∃ l, let t := countChange w off (s.reg off).toNat { new := (s.reg off).toNat, lock := l } s
      (applyWord w off s = if l.isNone then (true, t) else (false, lockViolation w false t))
      ∧ (l = none → storedWord w.data fs (s.reg off).toNat = (s.reg off).toNat) :=
  applyWord_locked h.word hk (mayWrite_rule h ho) (fun f _ v => (chapterLocked_brk h.block f v).trans hlock) fun _ _ => regWritten_brk h.block

end

theorem countChange_staged (w : RegWr) (off was : Nat) (x : WordWrite) (s : State) (h : w.staged = true) : countChange w off was x s = s := by
  unfold countChange
  simp [h]

/-! ### Steps of a rule write -/

/-- Registers that the write of a rule may touch beside the rule itself: the record of a violation and the installer's count. -/
def RuleReg (o : Nat) : Prop := AccReg o ∨ o = Reg.LCS_CHG_INST

/-- From `s` to `t` memory, Heartwood's record and the registers outside `P` are kept. -/
structure BarkStep (P : Nat → Prop) (s t : State) : Prop where
  mem : t.mem = s.mem
  hwd : t.hwd = s.hwd
  reg : ∀ o, ¬ P o → t.reg o = s.reg o

namespace BarkStep
variable {P Q : Nat → Prop} {s t u : State}
theorem refl (s : State) : BarkStep P s s := ⟨rfl, rfl, fun _ _ => rfl⟩
theorem trans (h : BarkStep P s t) (g : BarkStep P t u) : BarkStep P s u :=
  ⟨g.mem.trans h.mem, g.hwd.trans h.hwd, fun o ho => (g.reg o ho).trans (h.reg o ho)⟩
theorem weaken (h : BarkStep P s t) (hpq : ∀ o, P o → Q o) : BarkStep Q s t := ⟨h.mem, h.hwd, fun o ho => h.reg o fun hp => ho (hpq o hp)⟩
theorem fld (h : BarkStep P s t) {f : RegField} (hf : ¬ P f.reg) : t.fld f = s.fld f := by unfold State.fld; rw [h.reg _ hf]
theorem calm (h : BarkStep P s t) (hf : ¬ P Reg.HWD_STATE) (hc : Calm s) : Calm t := by
  have hs : seqState t = seqState s := h.fld (f := F.HWD_STATE_SEQ) hf
  exact ⟨by rw [h.hwd]; exact hc.1, by rw [hs]; exact hc.2⟩
theorem brkLocked (h : BarkStep P s t) (h1 : ¬ P F.BRK_OPBASE_BASE.reg) (h2 : ¬ P F.BRK_LOCK_LOCK.reg) (oid off : Nat) :
    brkLocked t oid off = brkLocked s oid off := by
  unfold Machine.brkLocked State.flag
  rw [h.fld h1, h.fld h2]
end BarkStep

theorem burnNext_hwd (w n : Nat) (s : State) : (burnNext w n s).hwd = s.hwd := by
  unfold burnNext
  split <;> rfl

theorem barkStep_bumpChange (reg : Nat) (s : State) : BarkStep (· = reg) s (bumpChange reg s) := by
  unfold bumpChange
  dsimp only
  split
  · exact .refl s
  · have hset (v : Word) : BarkStep (· = reg) s (s.setReg reg v) := ⟨rfl, rfl, fun o ho => reg_setReg_ne s v ho⟩
    split
    · obtain ⟨hr, hm, -⟩ := burnNext_frame (coarseWord reg) 4 (s.setReg reg (BitVec.ofNat 32 ((s.reg reg).toNat + 1)))
      exact (hset _).trans ⟨hm, burnNext_hwd _ _ _, fun o _ => reg_of_regs hr o⟩
    · exact hset _

theorem barkStep_countChange (w : RegWr) (off was : Nat) (x : WordWrite) (s : State) : BarkStep (· = Reg.LCS_CHG_INST) s (countChange w off was x s) := by
  have h (b : Bool) : BarkStep (· = Reg.LCS_CHG_INST) s (if b then bumpChange Reg.LCS_CHG_INST s else s) := by
    cases b with
    | true => exact barkStep_bumpChange _ s
    | false => exact .refl s
  exact h _

theorem barkStep_lockViolation (w : RegWr) (wos : Bool) (s : State) : BarkStep AccReg s (lockViolation w wos s) := by
  have hrec := regStep_recorded 0x3001 w.oid (evCtx w.oid w.ctx) w.addr w.len true w.kind s
  unfold lockViolation
  rw [accessEvent_eq, raise_of_minor _ (show 1 < 2 by decide)]
  have hev := eventStep_acceptEv { code := 0x3001, oid := w.oid, ctx := evCtx w.oid w.ctx, sev := 1, a0 := w.addr % 2 ^ 32, a1 := accInfo w.addr w.len true w.kind
                                   a2 := w.first % 2 ^ 32, a3 := ofBool wos } (recorded 0x3001 w.oid (evCtx w.oid w.ctx) w.addr w.len true w.kind s)
  exact ⟨hev.mem.trans hrec.mem, hev.hwd.trans hrec.hwd, fun o ho => (hev.reg o fun he => ho (.inl he)).trans (hrec.reg o ho)⟩

theorem lastEvent_lockViolation {w : RegWr} (oid : BitVec 10) (ctx : BitVec 6) (ho : w.oid = oid.toNat) (hc : w.ctx = ctx.toNat) (wos : Bool) (s : State) :
    LastEvent (lockViolation w wos s) 0x3001 oid.toNat := by
  unfold lockViolation
  rw [ho, hc]
  exact (reported_accessEvent _ _ _ _ _ _ s (by decide) (evCtx_lt oid.toNat ctx)).last

theorem barkStep_storedIn (off v : Nat) (s : State) : BarkStep (· = off) s (storedIn off v s) := by
  unfold storedIn
  split
  · exact .refl s
  · exact ⟨rfl, rfl, fun o ho => reg_setReg_ne s _ ho⟩

/-- A locked word of a rule leaves every register but those of its report and the installer's count. -/
theorem barkStep_locked {n off : Nat} {fs : List FieldDef} {s : State} {w : RegWr} (h : RuleWord n off fs) (hk : w.kind = 0) (ho : w.oid ≤ 1)
    (hlock : brkLocked s w.oid off = true) : BarkStep RuleReg s (applyWord w off s).2 := by
  obtain ⟨l, e, -⟩ := applyRule_locked h hk ho hlock
  have hc := (barkStep_countChange w off (s.reg off).toNat { new := (s.reg off).toNat, lock := l } s).weaken (Q := RuleReg) fun _ => .inr
  rw [e]
  split
  · exact hc
  · exact hc.trans ((barkStep_lockViolation w false _).weaken fun _ => .inl)

/-! ### The write -/

theorem stagedWords_three {oid low : Nat} {w1 w2 w3 : Word} {s : State} (h1 : spGet none s.wrStage (shadowKey oid (low + 4 * 1)) = some w1)
    (h2 : spGet none s.wrStage (shadowKey oid (low + 4 * 2)) = some w2) (h3 : spGet none s.wrStage (shadowKey oid (low + 4 * 3)) = some w3) :
    stagedWords s oid low 4 = [(low + 4, w1), (low + 8, w2), (low + 12, w3)] := by
  unfold stagedWords
  simp [List.range, List.range.loop, h1, h2, h3]

/-- A staged word as a write of its own. -/
def stagedWr (w : RegWr) (off : Nat) (v : Word) : RegWr := { w with data := v.toNat, addr := regBase + off, len := 4, first := v.toNat, staged := true }

theorem applyStaged_three (w : RegWr) (s : State) (o1 o2 o3 : Nat) (w1 w2 w3 : Word) : let x1 := applyWord (stagedWr w o1 w1) o1 s
    let x2 := applyWord (stagedWr w o2 w2) o2 x1.2
    let x3 := applyWord (stagedWr w o3 w3) o3 x2.2
    applyStaged w [(o1, w1), (o2, w2), (o3, w3)] (true, s) = (true && x1.1 && x2.1 && x3.1, x3.2) := rfl

theorem applyValue_plain {w : RegWr} {off : Nat} (h1 : off ≠ Reg.TIM_SET_W0) (h2 : off ≠ Reg.TIM_INCR_LO) (ws : List (Nat × Word)) (s : State) :
    (applyValue w off off ws s).2 = (applyWord w off (applyStaged w ws (true, s)).2).2 := by
  have hv (t : State) : valueLocked off t = false := by unfold valueLocked; rw [if_neg h1, if_neg h2]
  unfold applyValue
  simp [hv, h1]

section
variable {n : Fin 512} {oid : BitVec 10} {ctx : BitVec 6} {data w1 w2 w3 : BitVec 32} {s : State}

/-- What the write of a rule with its staged words comes to. -/
def ruleWritten (oid : BitVec 10) (ctx : BitVec 6) (n : Nat) (data w1 w2 w3 : BitVec 32) (s : State) : State :=
  let w := wordWr oid.toNat ctx.toNat (ruleWord n) data.toNat 0
  let o := ruleWord n
  let x1 := applyWord (stagedWr w (o + 4) w1) (o + 4) (unstage oid.toNat o 4 s)
  let x2 := applyWord (stagedWr w (o + 8) w2) (o + 8) x1.2
  let x3 := applyWord (stagedWr w (o + 12) w3) (o + 12) x2.2
  (applyWord w o x3.2).2

theorem exec_rule (had : Admitted oid ctx (ruleWord n) s) (h1 : spGet none s.wrStage (shadowKey oid.toNat (ruleWord n + 4 * 1)) = some w1)
    (h2 : spGet none s.wrStage (shadowKey oid.toNat (ruleWord n + 4 * 2)) = some w2)
    (h3 : spGet none s.wrStage (shadowKey oid.toNat (ruleWord n + 4 * 3)) = some w3) :
    ∃ ok, exec (.barkRuleWrite oid ctx n data) s = .next (writeDone oid.toNat (ok, ruleWritten oid ctx n data w1 w2 w3 s)) := by
  obtain ⟨hf, hr, hg, hat⟩ := ruleGroup n
  have hb := ruleWord_block n (k := 0) (by decide)
  have e1 : ruleWord n ≠ Reg.TIM_SET_W0 := ne_of_block hb _ (by decide)
  have e2 : ruleWord n ≠ Reg.TIM_INCR_LO := ne_of_block hb _ (by decide)
  have hv := applyValue_plain (w := wordWr oid.toNat ctx.toNat (ruleWord n) data.toNat 0) e1 e2 [(ruleWord n + 4, w1), (ruleWord n + 8, w2), (ruleWord n + 12, w3)]
    (unstage oid.toNat (ruleWord n) 4 s)
  rw [applyStaged_three] at hv
  rw [exec_barkRuleWrite]
  unfold execBarkRuleWrite
  rw [show Reg.BRK_RULE_W0 (n / 128) (n % 128) = ruleWord n from rfl, writeReg_value hf hr hg had hat data.isLt, stagedWords_three h1 h2 h3]
  refine ⟨(applyValue (wordWr oid.toNat ctx.toNat (ruleWord n) data.toNat 0) (ruleWord n) (ruleWord n)
    [(ruleWord n + 4, w1), (ruleWord n + 8, w2), (ruleWord n + 12, w3)] (unstage oid.toNat (ruleWord n) 4 s)).1, ?_⟩
  refine congrArg (fun x => Host.Outcome.next (writeDone oid.toNat x)) (Prod.ext rfl ?_)
  exact hv

theorem brkLocked_rule {k : Nat} (hk : k < 16) (s : State) (oid : Nat) :
    brkLocked s oid (ruleWord n + k) = decide (n.val < s.fld F.BRK_OPBASE_BASE ∧ (oid = 0 ∨ s.flag F.BRK_LOCK_LOCK = true)) := by
  unfold brkLocked
  rw [ruleOf_ruleWord n hk]
  simp

theorem barkStep_unstage (P : Nat → Prop) (oid low k : Nat) (s : State) : BarkStep P s (unstage oid low k s) := ⟨rfl, rfl, fun _ _ => rfl⟩

theorem maskOf_rule : MaskOf ruleFields0 0x0FFFFFDF ∧ MaskOf ruleFields1 0x3FF ∧ MaskOf ruleFields2 0xFFFFFFFF ∧ MaskOf ruleFields3 0xFFFFFFFF := by
  unfold MaskOf
  decide

theorem not_ruleReg_hwd : ¬ RuleReg Reg.HWD_STATE := by unfold RuleReg AccReg EvReg Reg.HWD_STATE Reg.BRK_DENYCNT_LO Reg.LCS_CHG_INST; omega

theorem ruleOf_some {o : Nat} (h : (ruleOf o).isSome = true) : o / 0x10000 = 5 ∧ 0x1000 ≤ o % 0x10000 ∧ o % 0x1000 < 0x800 := by
  unfold ruleOf at h
  dsimp only at h
  split at h
  · rename_i hc
    simp only [Bool.and_eq_true, decide_eq_true_eq] at hc
    omega
  · exact nomatch h

/-- A rule that a lock protects keeps its words. -/
theorem ruleRefused (ho : oid.toNat ≤ 1) (hlock : n.val < s.fld F.BRK_OPBASE_BASE ∧ (oid.toNat = 0 ∨ s.flag F.BRK_LOCK_LOCK = true)) :
    BarkStep RuleReg s (ruleWritten oid ctx n data w1 w2 w3 s)
    ∧ ((data ^^^ s.reg (ruleWord n)) &&& 0x0FFFFFDF ≠ 0 → LastEvent (ruleWritten oid ctx n data w1 w2 w3 s) 0x3001 oid.toNat) := by
  have hn : ¬ RuleReg F.BRK_OPBASE_BASE.reg ∧ ¬ RuleReg F.BRK_LOCK_LOCK.reg := by
    unfold RuleReg AccReg EvReg F.BRK_OPBASE_BASE F.BRK_LOCK_LOCK Reg.BRK_DENYCNT_LO Reg.LCS_CHG_INST
    dsimp only
    omega
  have hl {t : State} (h : BarkStep RuleReg s t) {k : Nat} (hk : k < 16) : brkLocked t oid.toNat (ruleWord n + k) = true := by
    rw [h.brkLocked hn.1 hn.2, brkLocked_rule hk]
    exact decide_eq_true hlock
  have h0 := barkStep_unstage RuleReg oid.toNat (ruleWord n) 4 s
  unfold ruleWritten
  dsimp only
  generalize unstage oid.toNat (ruleWord n) 4 s = u at h0 ⊢
  obtain ⟨w, hw⟩ : ∃ w, w = wordWr oid.toNat ctx.toNat (ruleWord n) data.toNat 0 := ⟨_, rfl⟩
  have hwo : w.oid = oid.toNat := by rw [hw]; rfl
  have hwk : w.kind = 0 := by rw [hw]; rfl
  have hwc : w.ctx = ctx.toNat := by rw [hw]; rfl
  have hwd : w.data = data.toNat := by rw [hw]; rfl
  rw [← hw]
  have step {t : State} (h : BarkStep RuleReg s t) {k : Nat} (hk : k < 16) {fs : List FieldDef} (hr : RuleWord n (ruleWord n + k) fs) (v : Word) :
      BarkStep RuleReg s (applyWord (stagedWr w (ruleWord n + k) v) (ruleWord n + k) t).2 :=
    h.trans (barkStep_locked hr hwk (by show w.oid ≤ 1; rw [hwo]; exact ho) (by show brkLocked t w.oid _ = true; rw [hwo]; exact hl h hk))
  have g1 := step h0 (by decide) (ruleWord_one n) w1
  generalize (applyWord (stagedWr w (ruleWord n + 4) w1) (ruleWord n + 4) u).2 = t1 at g1 ⊢
  have g2 := step g1 (by decide) (ruleWord_two n) w2
  generalize (applyWord (stagedWr w (ruleWord n + 8) w2) (ruleWord n + 8) t1).2 = t2 at g2 ⊢
  have g3 := step g2 (by decide) (ruleWord_three n) w3
  generalize (applyWord (stagedWr w (ruleWord n + 12) w3) (ruleWord n + 12) t2).2 = t3 at g3 ⊢
  have hlast : brkLocked t3 w.oid (ruleWord n) = true := by rw [hwo]; exact hl g3 (k := 0) (by decide)
  refine ⟨g3.trans (barkStep_locked (ruleWord_low n) hwk (by rw [hwo]; exact ho) hlast), fun hd => ?_⟩
  obtain ⟨l, e, hsame⟩ := applyRule_locked (ruleWord_low n) hwk (by rw [hwo]; exact ho) hlast
  have hreg : t3.reg (ruleWord n) = s.reg (ruleWord n) := by
    refine g3.reg _ ?_
    have hb := ruleOf_some (o := ruleWord n) (by rw [show ruleWord n = ruleWord n + 0 from rfl, ruleOf_ruleWord n (by decide)]; rfl)
    unfold RuleReg AccReg EvReg Reg.BRK_DENYCNT_LO Reg.LCS_CHG_INST
    omega
  cases l with
  | none =>
    have := (storedWord_same_iff (ruleWord_low n).word.fields.bits maskOf_rule.1 data (s.reg (ruleWord n))).1 (by rw [← hreg, ← hwd]; exact hsame rfl)
    exact absurd this hd
  | some a =>
    rw [e]
    exact lastEvent_lockViolation oid ctx hwo hwc false _

/-- The registers of rule `n`. -/
def InRule (n o : Nat) : Prop := ruleWord n ≤ o ∧ o < ruleWord n + 16

theorem not_inRule {n o : Nat} (h : o < 0x51000) : ¬ InRule n o := by
  unfold InRule ruleWord Reg.BRK_RULE_W0
  omega

theorem masked_all (x v : Word) : (x &&& ~~~0xFFFFFFFF) ||| (v &&& 0xFFFFFFFF) = v := by
  rw [show (0xFFFFFFFF : Word) = BitVec.allOnes 32 from rfl, BitVec.not_allOnes, BitVec.and_zero, BitVec.zero_or, BitVec.and_allOnes]

/-- A word is stored under the mask of its fields. -/
structure WordStored (off : Nat) (m v : Word) (s t : State) : Prop where
  step : BarkStep (· = off) s t
  word : t.reg off = (s.reg off &&& ~~~m) ||| (v &&& m)

theorem WordStored.inRule {n k : Nat} {m v : Word} {s t : State} (h : WordStored (ruleWord n + k) m v s t) (hk : k < 16) : BarkStep (InRule n) s t :=
  h.step.weaken fun o ho => by subst ho; exact ⟨by omega, by omega⟩

theorem wordStored_storedIn {off : Nat} {fs : List FieldDef} {m : Word} (h : FieldWord off fs) (hm : MaskOf fs m) (v : Word) (s : State) :
    WordStored off m v s (storedIn off (storedWord v.toNat fs (s.reg off).toNat) s) := by
  refine ⟨barkStep_storedIn _ _ s, BitVec.eq_of_toNat_eq ?_⟩
  rw [reg_storedIn (storedWord_lt h.fields.bits v.toNat (s.reg off).isLt), storedWord_mask h.fields.bits hm]

/-- A rule that no lock protects takes its words. -/
theorem ruleStored (ho : oid.toNat ≤ 1) (hfree : ¬ (n.val < s.fld F.BRK_OPBASE_BASE ∧ (oid.toNat = 0 ∨ s.flag F.BRK_LOCK_LOCK = true))) :
    let t := ruleWritten oid ctx n data w1 w2 w3 s
    let off := ruleWord n
    BarkStep (fun o => (off ≤ o ∧ o < off + 16) ∨ o = Reg.LCS_CHG_INST) s t
    ∧ t.reg off = (s.reg off &&& 0xF0000020) ||| (data &&& 0x0FFFFFDF) ∧ t.reg (off + 4) = (s.reg (off + 4) &&& 0xFFFFFC00) ||| (w1 &&& 0x3FF)
    ∧ t.reg (off + 8) = w2 ∧ t.reg (off + 12) = w3 := by
  have h0 := barkStep_unstage (InRule n) oid.toNat (ruleWord n) 4 s
  have hu (o : Nat) : (unstage oid.toNat (ruleWord n) 4 s).reg o = s.reg o := (barkStep_unstage (fun _ => False) oid.toNat (ruleWord n) 4 s).reg o id
  unfold ruleWritten
  dsimp only
  generalize unstage oid.toNat (ruleWord n) 4 s = u at hu h0 ⊢
  obtain ⟨w, hw⟩ : ∃ w, w = wordWr oid.toNat ctx.toNat (ruleWord n) data.toNat 0 := ⟨_, rfl⟩
  have hwo : w.oid = oid.toNat := by rw [hw]; rfl
  have hwk : w.kind = 0 := by rw [hw]; rfl
  have hwd : w.data = data.toNat := by rw [hw]; rfl
  rw [← hw]
  have hl {t : State} (h : BarkStep (InRule n) s t) {k : Nat} (hk : k < 16) : brkLocked t oid.toNat (ruleWord n + k) = false := by
    rw [h.brkLocked (not_inRule (by decide)) (not_inRule (by decide)), brkLocked_rule hk]
    exact decide_eq_false hfree
  have step {t : State} (h : BarkStep (InRule n) s t) {k : Nat} (hk : k < 16) {fs : List FieldDef} (hr : RuleWord n (ruleWord n + k) fs) {m : Word} (hm : MaskOf fs m)
      (v : Word) : WordStored (ruleWord n + k) m v t (applyWord (stagedWr w (ruleWord n + k) v) (ruleWord n + k) t).2 := by
    rw [applyRule_free (w := stagedWr w (ruleWord n + k) v) hr hwk (by show w.oid ≤ 1; rw [hwo]; exact ho) (by show brkLocked t w.oid _ = false; rw [hwo]; exact hl h hk), countChange_staged _ _ _ _ _ rfl]
    exact wordStored_storedIn hr.word hm v t
  obtain ⟨m0, m1, m2, m3⟩ := maskOf_rule
  have g1 := step h0 (by decide) (ruleWord_one n) m1 w1
  generalize (applyWord (stagedWr w (ruleWord n + 4) w1) (ruleWord n + 4) u).2 = t1 at g1 ⊢
  have k1 := h0.trans (g1.inRule (by decide))
  have g2 := step k1 (by decide) (ruleWord_two n) m2 w2
  generalize (applyWord (stagedWr w (ruleWord n + 8) w2) (ruleWord n + 8) t1).2 = t2 at g2 ⊢
  have k2 := k1.trans (g2.inRule (by decide))
  have g3 := step k2 (by decide) (ruleWord_three n) m3 w3
  generalize (applyWord (stagedWr w (ruleWord n + 12) w3) (ruleWord n + 12) t2).2 = t3 at g3 ⊢
  have k3 := k2.trans (g3.inRule (by decide))
  rw [applyRule_free (ruleWord_low n) hwk (by rw [hwo]; exact ho) (by rw [hwo]; exact hl k3 (k := 0) (by decide)), hwd]
  dsimp only
  have g4 := wordStored_storedIn (ruleWord_low n).word m0 data t3
  generalize hx : storedWord data.toNat ruleFields0 (t3.reg (ruleWord n)).toNat = x at g4 ⊢
  generalize storedIn (ruleWord n) x t3 = t4 at g4 ⊢
  have k4 := k3.trans (g4.inRule (k := 0) (by decide))
  have g5 := barkStep_countChange w (ruleWord n) (t3.reg (ruleWord n)).toNat { new := x } t4
  generalize countChange w (ruleWord n) (t3.reg (ruleWord n)).toNat { new := x } t4 = t5 at g5 ⊢
  have hne (k : Nat) : ruleWord n + k ≠ Reg.LCS_CHG_INST := by unfold ruleWord Reg.BRK_RULE_W0 Reg.LCS_CHG_INST; omega
  have e5 (k : Nat) : t5.reg (ruleWord n + k) = t4.reg (ruleWord n + k) := g5.reg _ (hne k)
  have off {k j : Nat} (h : k ≠ j) : ¬ ruleWord n + k = ruleWord n + j := by omega
  refine ⟨(k4.weaken fun _ => .inl).trans (g5.weaken fun _ => .inr), ?_, ?_, ?_, ?_⟩
  · change t5.reg (ruleWord n + 0) = _
    rw [e5 0, show t4.reg (ruleWord n + 0) = _ from g4.word, show t3.reg (ruleWord n) = t3.reg (ruleWord n + 0) from rfl, g3.step.reg (ruleWord n + 0) (off (by decide)), g2.step.reg (ruleWord n + 0) (off (by decide)), g1.step.reg (ruleWord n + 0) (off (by decide)), hu]
    rfl
  · rw [e5, g4.step.reg _ (off (j := 0) (by decide)), g3.step.reg _ (off (by decide)), g2.step.reg _ (off (by decide)), g1.word, hu]
    rfl
  · rw [e5, g4.step.reg _ (off (j := 0) (by decide)), g3.step.reg _ (off (by decide)), g2.word, masked_all]
  · rw [e5, g4.step.reg _ (off (j := 0) (by decide)), g3.word, masked_all]

theorem ruleWrites (oid : BitVec 10) (ctx : BitVec 6) (n : Fin 512) (data w1 w2 w3 : BitVec 32) (s : State) (hc : Calm s) (had : Admitted oid ctx (ruleWord n) s)
    (ho : oid.toNat ≤ 1) (h1 : spGet none s.wrStage (shadowKey oid.toNat (ruleWord n + 4 * 1)) = some w1)
    (h2 : spGet none s.wrStage (shadowKey oid.toNat (ruleWord n + 4 * 2)) = some w2)
    (h3 : spGet none s.wrStage (shadowKey oid.toNat (ruleWord n + 4 * 3)) = some w3) : let off := ruleWord n
    (¬ (n.val < s.fld F.BRK_OPBASE_BASE ∧ (oid = 0 ∨ s.flag F.BRK_LOCK_LOCK = true)) → ∃ t, exec (.barkRuleWrite oid ctx n data) s = .next t ∧ t.mem = s.mem
      ∧ t.reg off = (s.reg off &&& 0xF0000020) ||| (data &&& 0x0FFFFFDF) ∧ t.reg (off + 4) = (s.reg (off + 4) &&& 0xFFFFFC00) ||| (w1 &&& 0x3FF)
      ∧ t.reg (off + 8) = w2 ∧ t.reg (off + 12) = w3 ∧ ∀ o, o < off ∨ off + 16 ≤ o → o ≠ Reg.LCS_CHG_INST → t.reg o = s.reg o)
    ∧ (n.val < s.fld F.BRK_OPBASE_BASE → oid = 0 ∨ s.flag F.BRK_LOCK_LOCK = true → ∃ t, exec (.barkRuleWrite oid ctx n data) s = .next t ∧ t.mem = s.mem
      ∧ (∀ o, (ruleOf o).isSome = true → t.reg o = s.reg o) ∧ ((data ^^^ s.reg off) &&& 0x0FFFFFDF ≠ 0 → LastEvent t 0x3001 oid.toNat)) := by
  obtain ⟨ok, e⟩ := exec_rule (data := data) had h1 h2 h3
  have hzero : oid = 0 ↔ oid.toNat = 0 := ⟨fun h => by rw [h]; rfl, fun h => BitVec.eq_of_toNat_eq h⟩
  refine ⟨fun h => ⟨_, e, ?_⟩, fun h4 h5 => ⟨_, e, ?_⟩⟩
  · obtain ⟨hs, r0, r1, r2, r3⟩ := ruleStored (ctx := ctx) (data := data) (w1 := w1) (w2 := w2) (w3 := w3) ho (by rw [← hzero]; exact h)
    generalize ruleWritten oid ctx n data w1 w2 w3 s = t at *
    have hno : ¬ ((ruleWord n ≤ Reg.HWD_STATE ∧ Reg.HWD_STATE < ruleWord n + 16) ∨ Reg.HWD_STATE = Reg.LCS_CHG_INST) := by
      have := n.isLt
      unfold ruleWord Reg.BRK_RULE_W0 Reg.HWD_STATE Reg.LCS_CHG_INST
      omega
    rw [writeDone_calm (hs.calm hno hc)]
    refine ⟨(mem_answer _ _ _ _ _).trans hs.mem, (reg_answer _ _ _ _ _ _).trans r0, (reg_answer _ _ _ _ _ _).trans r1, (reg_answer _ _ _ _ _ _).trans r2,
      (reg_answer _ _ _ _ _ _).trans r3, fun o h6 h7 => (reg_answer _ _ _ _ _ _).trans (hs.reg o ?_)⟩
    rintro (h | h)
    · omega
    · exact h7 h
  · obtain ⟨hs, hl⟩ := ruleRefused (ctx := ctx) (data := data) (w1 := w1) (w2 := w2) (w3 := w3) ho ⟨h4, by rw [← hzero]; exact h5⟩
    generalize ruleWritten oid ctx n data w1 w2 w3 s = t at *
    rw [writeDone_calm (hs.calm not_ruleReg_hwd hc)]
    refine ⟨(mem_answer _ _ _ _ _).trans hs.mem, fun o h6 => (reg_answer _ _ _ _ _ _).trans (hs.reg o ?_), fun h => ?_⟩
    · have := ruleOf_some h6
      unfold RuleReg AccReg EvReg Reg.BRK_DENYCNT_LO Reg.LCS_CHG_INST
      omega
    · unfold LastEvent
      rw [evq_answer]
      exact hl h

end

/-- Settles O51: the causes served, the entries, the commands and watchdogs, the end of a restart, the pair, and the rules of Bark. -/
theorem safeStateSequencer : Obligations.SafeStateSequencer := by
  unfold Obligations.SafeStateSequencer
  exact ⟨causesServed, entriesReport, sequencerCommands, stopLimits, kicks, crownRestarts, pairChecks, ruleWrites⟩

end Sys2Proof.Machine
end

section
/-! The CAN controllers (R390 to R411): reads of their registers and records, their events and interrupts. -/

namespace Sys2Proof.Machine

/-! ### Fields written out -/

theorem fld_put_lit (s : State) (r hi lo r' hi' lo' v : Nat) (h : lo ≤ hi ∧ hi < 32) (ha : r' ≠ r ∨ hi' < lo ∨ hi < lo') :
    (s.put ⟨r, hi, lo⟩ v).fld ⟨r', hi', lo'⟩ = s.fld ⟨r', hi', lo'⟩ := by
  by_cases hr : r' = r
  · exact fld_put_apart s ⟨r, hi, lo⟩ ⟨r', hi', lo'⟩ v h.1 h.2 (ha.resolve_left fun hne => hne hr)
  · exact fld_put_reg s ⟨r, hi, lo⟩ ⟨r', hi', lo'⟩ v hr

theorem fld_put_lit_self (s : State) (r hi lo v : Nat) (h : lo ≤ hi ∧ hi < 32) : (s.put ⟨r, hi, lo⟩ v).fld ⟨r, hi, lo⟩ = v % 2 ^ (hi + 1 - lo) :=
  fld_put_self s ⟨r, hi, lo⟩ v h.1 h.2

theorem reg_put_lit (s : State) (r hi lo v : Nat) {o : Nat} (h : o ≠ r) : (s.put ⟨r, hi, lo⟩ v).reg o = s.reg o := reg_put_ne s ⟨r, hi, lo⟩ v h

theorem fld_congr {s t : State} (f : RegField) (h : t.reg f.reg = s.reg f.reg) : t.fld f = s.fld f := by unfold State.fld; rw [h]

/-! ### Records of the controllers -/

theorem canSt_modCan (c d : Nat) (f : Can → Can) (s : State) : canSt (modCan c f s) d = if d = c then f (canSt s c) else canSt s d := by
  unfold canSt modCan
  exact spGet_spSet _ _ _ _ _

theorem canSt_modCan_self (c : Nat) (f : Can → Can) (s : State) : canSt (modCan c f s) c = f (canSt s c) := by rw [canSt_modCan, if_pos rfl]

theorem canSt_of_can {s t : State} (h : t.can = s.can) (c : Nat) : canSt t c = canSt s c := by unfold canSt; rw [h]

theorem canSt_put (s : State) (f : RegField) (v c : Nat) : canSt (s.put f v) c = canSt s c := canSt_of_can (State.put_can s f v) c

theorem modCan_ns (c : Nat) (f : Can → Can) (s : State) : (modCan c f s).ns = s.ns := rfl

/-! ### Interrupts and events -/

theorem canIrq_eq (c i : Nat) (s : State) : canIrq c i s = s ∨ ∃ o, canIrq c i s = s.emit o := by
  unfold canIrq State.msix
  split
  · split
    · exact .inr ⟨_, rfl⟩
    · exact .inl rfl
  · exact .inl rfl

section
variable (c i : Nat) (s : State)
@[simp] theorem canIrq_reg (o : Nat) : (canIrq c i s).reg o = s.reg o := by obtain h | ⟨x, h⟩ := canIrq_eq c i s <;> rw [h]; rfl
@[simp] theorem canIrq_fld (f : RegField) : (canIrq c i s).fld f = s.fld f := fld_congr f (canIrq_reg c i s _)
@[simp] theorem canIrq_flag (f : RegField) : (canIrq c i s).flag f = s.flag f := by unfold State.flag; rw [canIrq_fld]
@[simp] theorem canIrq_mem : (canIrq c i s).mem = s.mem := by obtain h | ⟨x, h⟩ := canIrq_eq c i s <;> rw [h]; rfl
@[simp] theorem canIrq_evq : (canIrq c i s).evq = s.evq := by obtain h | ⟨x, h⟩ := canIrq_eq c i s <;> rw [h]; rfl
@[simp] theorem canIrq_can : (canIrq c i s).can = s.can := by obtain h | ⟨x, h⟩ := canIrq_eq c i s <;> rw [h]; rfl
@[simp] theorem canSt_canIrq (d : Nat) : canSt (canIrq c i s) d = canSt s d := canSt_of_can (canIrq_can c i s) d
theorem lastEvent_canIrq {code oid : Nat} (h : LastEvent s code oid) : LastEvent (canIrq c i s) code oid := by unfold LastEvent; rw [canIrq_evq]; exact h
end

theorem canEvent_noted {sev : Nat} (h : sev < 2) (code c a1 a2 a3 : Nat) (s : State) :
    EventStep s (canEvent code sev c a1 a2 a3 s) ∧ LastEvent (canEvent code sev c a1 a2 a3 s) code 0x33 := by
  unfold canEvent
  rw [raise_of_minor _ h]
  exact ⟨eventStep_acceptEv _ s, lastEvent_acceptEv _ s⟩

/-- The registers of the controllers are none of the event unit's. -/
theorem not_evReg_can {o : Nat} (h : o / 0x10000 = 0x27) : ¬ EvReg o := by unfold EvReg; omega

theorem canReg_block {c k : Nat} (hc : c < 8) (hk : k < 0x1000) : (0x270000 + k + 0x1000 * c) / 0x10000 = 0x27 := by omega

section
variable {sev : Nat} (h : sev < 2) (code c a1 a2 a3 : Nat) (s : State)
include h
theorem canEvent_reg {o : Nat} (ho : o / 0x10000 = 0x27) : (canEvent code sev c a1 a2 a3 s).reg o = s.reg o :=
  (canEvent_noted h code c a1 a2 a3 s).1.reg o (not_evReg_can ho)
theorem canEvent_fld (f : RegField) (ho : f.reg / 0x10000 = 0x27) : (canEvent code sev c a1 a2 a3 s).fld f = s.fld f :=
  fld_congr f (canEvent_reg h code c a1 a2 a3 s ho)
theorem canEvent_mem : (canEvent code sev c a1 a2 a3 s).mem = s.mem := (canEvent_noted h code c a1 a2 a3 s).1.mem
theorem canEvent_can : (canEvent code sev c a1 a2 a3 s).can = s.can := (canEvent_noted h code c a1 a2 a3 s).1.can
theorem canSt_canEvent (d : Nat) : canSt (canEvent code sev c a1 a2 a3 s) d = canSt s d := canSt_of_can (canEvent_can h code c a1 a2 a3 s) d
theorem lastEvent_canEvent : LastEvent (canEvent code sev c a1 a2 a3 s) code 0x33 := (canEvent_noted h code c a1 a2 a3 s).2
end

end Sys2Proof.Machine
end

section
/-! The error counters of a CAN controller (R399, R400). -/

namespace Sys2Proof.Machine

/-- From `s` to `t` memory, the other controllers and the registers outside `P` are kept. -/
structure CanStep (c : Nat) (P : Nat → Prop) (s t : State) : Prop where
  reg : ∀ o, ¬ EvReg o → ¬ P o → t.reg o = s.reg o
  mem : t.mem = s.mem
  other : ∀ d, d ≠ c → canSt t d = canSt s d

namespace CanStep
variable {c : Nat} {P Q : Nat → Prop} {s t u : State}
theorem refl (s : State) : CanStep c P s s := ⟨fun _ _ _ => rfl, rfl, fun _ _ => rfl⟩
theorem trans (h : CanStep c P s t) (g : CanStep c P t u) : CanStep c P s u :=
  ⟨fun o h1 h2 => (g.reg o h1 h2).trans (h.reg o h1 h2), g.mem.trans h.mem, fun d hd => (g.other d hd).trans (h.other d hd)⟩
theorem weaken (h : CanStep c P s t) (hpq : ∀ o, P o → Q o) : CanStep c Q s t := ⟨fun o h1 h2 => h.reg o h1 fun hp => h2 (hpq o hp), h.mem, h.other⟩
theorem put (s : State) {f : RegField} (v : Nat) (h : P f.reg) : CanStep c P s (s.put f v) :=
  ⟨fun _ _ ho => reg_put_ne s f v fun e => ho (e ▸ h), State.put_mem s f v, fun d _ => canSt_put s f v d⟩
theorem setReg64 (s : State) {o : Nat} (v : Nat) (h : P o) (h4 : P (o + 4)) : CanStep c P s (s.setReg64 o v) :=
  ⟨fun p _ hp => (reg_setReg_ne _ _ fun e => hp (by rw [e]; exact h4)).trans (reg_setReg_ne s _ fun e => hp (by rw [e]; exact h)), State.setReg64_mem s o v, fun d _ => rfl⟩
theorem modCan (s : State) (f : Can → Can) : CanStep c P s (modCan c f s) :=
  ⟨fun _ _ _ => rfl, rfl, fun d hd => by rw [canSt_modCan, if_neg hd]⟩
theorem irq (s : State) (k i : Nat) : CanStep c P s (canIrq k i s) := ⟨fun o _ _ => canIrq_reg k i s o, canIrq_mem k i s, fun d _ => canSt_canIrq k i s d⟩
theorem event {sev : Nat} (h : sev < 2) (code k a1 a2 a3 : Nat) (s : State) : CanStep c P s (canEvent code sev k a1 a2 a3 s) := by
  obtain ⟨hev, -⟩ := canEvent_noted h code k a1 a2 a3 s
  exact ⟨fun o ho _ => hev.reg o ho, hev.mem, fun d _ => canSt_of_can hev.can d⟩
theorem fld (h : CanStep c P s t) (f : RegField) (hb : f.reg / 0x10000 = 0x27) (hf : ¬ P f.reg) : t.fld f = s.fld f :=
  fld_congr f (h.reg _ (not_evReg_can hb) hf)
end CanStep

/-- The registers that a change of the counters writes. -/
def CountReg (c o : Nat) : Prop := o = Reg.CFD_STAT c ∨ o = Reg.CFD_ECNT c

/-! ### The steps of a change -/

/-- The counters and the warning. -/
def countsPut (c tec rec' : Nat) (s : State) : State :=
  ((s.put (F.CFD_ECNT_TEC c) tec).put (F.CFD_ECNT_REC c) rec').put (F.CFD_STAT_EWARN c) (ofBool (96 ≤ tec || 96 ≤ rec'))

/-- The error state follows the level. -/
def countsState (c level : Nat) (s : State) : State :=
  if canOnBus s c && level = 2 then enterBusOff c s
  else if canOnBus s c && canState s c ≠ canSleepPending then s.put (F.CFD_STAT_STATE c) (if level = 1 then canPassive else canActive)
  else s

/-- A worse level is told. -/
def countsTold (c tec rec' old level : Nat) (s : State) : State :=
  if level = 2 && old ≠ 2 then canIrq c 3 (canEvent 0x8041 1 c (s.fld (F.CFD_TXREQ_REQ c)) (canSt s c).lastErr 0 s)
  else if level = 1 && old = 0 then canIrq c 3 (canEvent 0x8040 1 c tec rec' 0 s)
  else s

theorem setCounts_eq (c tec rec' : Nat) (s : State) : setCounts c tec rec' s
    = countsTold c (min tec 256) (min rec' 255) (faultLevel (s.fld (F.CFD_ECNT_TEC c)) (s.fld (F.CFD_ECNT_REC c))) (faultLevel (min tec 256) (min rec' 255))
        (countsState c (faultLevel (min tec 256) (min rec' 255)) (countsPut c (min tec 256) (min rec' 255) s)) := by
  generalize hf : @setCounts = f
  delta setCounts at hf
  subst hf
  rfl

section
variable {c : Nat} (hc : c < 8) (tec rec' : Nat) (s : State)

theorem canStep_countsPut : CanStep c (CountReg c) s (countsPut c tec rec' s) :=
  ((CanStep.put s (f := F.CFD_ECNT_TEC c) _ (.inr rfl)).trans (.put _ (f := F.CFD_ECNT_REC c) _ (.inr rfl))).trans (.put _ (f := F.CFD_STAT_EWARN c) _ (.inl rfl))

theorem can_countsPut : (countsPut c tec rec' s).can = s.can := rfl

theorem countsPut_fields (h1 : tec < 2 ^ 9) (h2 : rec' < 2 ^ 8) : (countsPut c tec rec' s).fld (F.CFD_ECNT_TEC c) = tec
    ∧ (countsPut c tec rec' s).fld (F.CFD_ECNT_REC c) = rec' ∧ canState (countsPut c tec rec' s) c = canState s c
    ∧ (countsPut c tec rec' s).fld (F.CFD_STAT_EWARN c) = ofBool (96 ≤ tec || 96 ≤ rec') := by
  have h3 : ofBool (96 ≤ tec || 96 ≤ rec') < 2 := by unfold ofBool; split <;> decide
  unfold countsPut canState F.CFD_ECNT_TEC F.CFD_ECNT_REC F.CFD_STAT_EWARN F.CFD_STAT_STATE
  simp (disch := omega) only [fld_put_lit, fld_put_lit_self]
  refine ⟨?_, ?_, trivial, ?_⟩
  · exact Nat.mod_eq_of_lt h1
  · exact Nat.mod_eq_of_lt h2
  · exact Nat.mod_eq_of_lt h3

theorem canOnBus_congr {s t : State} (h : canState t c = canState s c) : canOnBus t c = canOnBus s c := by unfold canOnBus; rw [h]

theorem canStep_enterBusOff : CanStep c (CountReg c) s (enterBusOff c s) := by
  unfold enterBusOff
  exact ((CanStep.modCan s _).trans (.put _ (f := F.CFD_STAT_STATE c) _ (.inl rfl))).trans (.put _ (f := F.CFD_ECNT_RECOV c) _ (.inr rfl))

theorem canStep_countsState (level : Nat) : CanStep c (CountReg c) s (countsState c level s) := by
  unfold countsState
  split
  · exact canStep_enterBusOff s
  · split
    · exact .put s _ (.inl rfl)
    · exact .refl s

theorem canStep_countsTold (old level : Nat) : CanStep c (CountReg c) s (countsTold c tec rec' old level s) := by
  unfold countsTold
  split
  · exact (CanStep.event (by decide) _ _ _ _ _ s).trans (.irq _ _ _)
  · split
    · exact (CanStep.event (by decide) _ _ _ _ _ s).trans (.irq _ _ _)
    · exact .refl s

theorem canStep_setCounts : CanStep c (CountReg c) s (setCounts c tec rec' s) := by
  rw [setCounts_eq]
  exact ((canStep_countsPut _ _ s).trans (canStep_countsState _ _)).trans (canStep_countsTold _ _ _ _ _)

/-- The told state has the same registers of the controllers and the same records. -/
theorem countsTold_frame (old level : Nat) : (∀ o, o / 0x10000 = 0x27 → (countsTold c tec rec' old level s).reg o = s.reg o)
    ∧ (countsTold c tec rec' old level s).can = s.can := by
  have h (code a1 a2 : Nat) : (∀ o, o / 0x10000 = 0x27 → (canIrq c 3 (canEvent code 1 c a1 a2 0 s)).reg o = s.reg o)
      ∧ (canIrq c 3 (canEvent code 1 c a1 a2 0 s)).can = s.can :=
    ⟨fun o ho => (canIrq_reg _ _ _ o).trans (canEvent_reg (by decide) _ _ _ _ _ s ho), (canIrq_can _ _ _).trans (canEvent_can (by decide) _ _ _ _ _ s)⟩
  unfold countsTold
  split
  · exact h _ _ _
  · split
    · exact h _ _ _
    · exact ⟨fun _ _ => rfl, rfl⟩

/-- The state that a level leads to. -/
def levelState (s : State) (c level : Nat) : Nat :=
  if canOnBus s c = true ∧ level = 2 then canBusOff else if canState s c = canActive ∨ canState s c = canPassive then (if level = 1 then canPassive else canActive)
  else canState s c

theorem enterBusOff_state : canState (enterBusOff c s) c = canBusOff := by
  unfold enterBusOff canState F.CFD_STAT_STATE F.CFD_ECNT_RECOV
  simp (disch := omega) only [fld_put_lit, fld_put_lit_self]
  rfl

theorem put_state {v : Nat} (hv : v < 8) : canState (s.put (F.CFD_STAT_STATE c) v) c = v := by
  unfold canState
  exact fld_put_fits s (F.CFD_STAT_STATE c) (by show 0 ≤ 2; decide) (by show 2 < 32; decide) hv

theorem countsState_state (level : Nat) : canState (countsState c level s) c = levelState s c level := by
  unfold countsState levelState
  by_cases h1 : canOnBus s c = true ∧ level = 2
  · rw [if_pos (by simpa using h1), if_pos h1, enterBusOff_state]
  · rw [if_neg (by simpa using h1), if_neg h1]
    by_cases h2 : canState s c = canActive ∨ canState s c = canPassive
    · have hne : canState s c ≠ canSleepPending := by rcases h2 with h | h <;> rw [h] <;> decide
      have hon : canOnBus s c = true := by unfold canOnBus; rcases h2 with h | h <;> simp [h]
      rw [if_pos (by simp [hon, hne]), if_pos h2]
      exact put_state s (by split <;> decide)
    · rw [if_neg h2, if_neg]
      unfold canOnBus
      simp only [not_or] at h2
      simp [h2.1, h2.2]

theorem countsState_ecnt (level : Nat) : (countsState c level s).fld (F.CFD_ECNT_TEC c) = s.fld (F.CFD_ECNT_TEC c)
    ∧ (countsState c level s).fld (F.CFD_ECNT_REC c) = s.fld (F.CFD_ECNT_REC c) ∧ (countsState c level s).fld (F.CFD_STAT_EWARN c) = s.fld (F.CFD_STAT_EWARN c) := by
  unfold countsState enterBusOff F.CFD_ECNT_TEC F.CFD_ECNT_REC F.CFD_STAT_EWARN F.CFD_STAT_STATE F.CFD_ECNT_RECOV
  split
  · simp (disch := omega) only [fld_put_lit, modCan_fld]
    exact ⟨trivial, trivial, trivial⟩
  · split
    · simp (disch := omega) only [fld_put_lit]
      exact ⟨trivial, trivial, trivial⟩
    · exact ⟨rfl, rfl, rfl⟩

/-- Off the bus, or below the bus-off level, the record stays. -/
theorem countsState_can {level : Nat} (h : canOnBus s c = false ∨ level ≠ 2) : (countsState c level s).can = s.can := by
  unfold countsState
  rw [if_neg (by rcases h with h | h <;> simp [h])]
  split <;> rfl

/-- A change keeps all of the record but what bus-off ends. -/
theorem countsState_record (level : Nat) : ∃ cur r, canSt (countsState c level s) c = { canSt s c with cur := cur, recovering := r }
    ∧ ((canSt s c).cur = none → cur = none) := by
  unfold countsState enterBusOff
  split
  · exact ⟨none, _, by rw [canSt_put, canSt_put, canSt_modCan_self], fun _ => rfl⟩
  · split
    · exact ⟨_, _, canSt_put s _ _ c, id⟩
    · exact ⟨_, _, rfl, id⟩

end

/-! ### The rule of the counters -/

/-- What new counters of controller `c` leave. -/
structure Counted (c tec rec' : Nat) (s t : State) : Prop where
  step : CanStep c (CountReg c) s t
  tecCount : t.fld (F.CFD_ECNT_TEC c) = min tec 256
  recCount : t.fld (F.CFD_ECNT_REC c) = min rec' 255
  warn : t.fld (F.CFD_STAT_EWARN c) = ofBool (96 ≤ min tec 256 || 96 ≤ min rec' 255)
  state : canState t c = levelState s c (faultLevel (min tec 256) (min rec' 255))
  record : ∃ cur r, canSt t c = { canSt s c with cur := cur, recovering := r } ∧ ((canSt s c).cur = none → cur = none)
  can : canOnBus s c = false ∨ faultLevel (min tec 256) (min rec' 255) ≠ 2 → t.can = s.can

theorem counted_setCounts {c : Nat} (hc : c < 8) (tec rec' : Nat) (s : State) : Counted c tec rec' s (setCounts c tec rec' s) := by
  have hstep := canStep_setCounts (c := c) tec rec' s
  rw [setCounts_eq] at hstep ⊢
  obtain ⟨p1, p2, p3, p4⟩ := countsPut_fields (c := c) (min tec 256) (min rec' 255) s (by omega) (by omega)
  have hcan := can_countsPut (c := c) (min tec 256) (min rec' 255) s
  generalize countsPut c (min tec 256) (min rec' 255) s = u at p1 p2 p3 p4 hcan hstep ⊢
  generalize hl : faultLevel (min tec 256) (min rec' 255) = level at hstep ⊢
  obtain ⟨e1, e2, e3⟩ := countsState_ecnt (c := c) u level
  have hst := countsState_state (c := c) u level
  obtain ⟨cur, r, hr, hcur⟩ := countsState_record (c := c) u level
  have hsame := countsState_can (c := c) u (level := level)
  generalize countsState c level u = v at e1 e2 e3 hst hr hsame hstep ⊢
  obtain ⟨f1, f2⟩ := countsTold_frame (c := c) (min tec 256) (min rec' 255) v (faultLevel (s.fld (F.CFD_ECNT_TEC c)) (s.fld (F.CFD_ECNT_REC c))) level
  generalize countsTold c (min tec 256) (min rec' 255) _ level v = t at f1 f2 hstep ⊢
  have hf (f : RegField) (h : f.reg / 0x10000 = 0x27) : t.fld f = v.fld f := fld_congr f (f1 _ h)
  have hb1 : (F.CFD_ECNT_TEC c).reg / 0x10000 = 0x27 := by unfold F.CFD_ECNT_TEC; dsimp only; omega
  have hb2 : (F.CFD_STAT_EWARN c).reg / 0x10000 = 0x27 := by unfold F.CFD_STAT_EWARN; dsimp only; omega
  have hon := canOnBus_congr p3
  refine ⟨hstep, ?_, ?_, ?_, ?_, ⟨cur, r, ?_, ?_⟩, fun h => ?_⟩
  · rw [hf _ hb1, e1, p1]
  · rw [hf (F.CFD_ECNT_REC c) hb1, e2, p2]
  · rw [hf _ hb2, e3, p4]
  · have h : canState t c = canState v c := hf (F.CFD_STAT_STATE c) hb2
    rw [h, hst, ← hl]
    unfold levelState
    rw [hon, p3]
  · rw [canSt_of_can f2, hr, canSt_of_can hcan]
  · rw [← canSt_of_can hcan]; exact hcur
  · rw [f2, hsame (by rw [hon, ← hl]; exact h), hcan]

theorem lastEvent_setCounts (c tec rec' : Nat) (s : State) : let level := faultLevel (min tec 256) (min rec' 255)
    let old := faultLevel (s.fld (F.CFD_ECNT_TEC c)) (s.fld (F.CFD_ECNT_REC c))
    (level = 2 → old ≠ 2 → LastEvent (setCounts c tec rec' s) 0x8041 0x33) ∧ (level = 1 → old = 0 → LastEvent (setCounts c tec rec' s) 0x8040 0x33) := by
  intro level old
  rw [setCounts_eq]
  generalize countsState c _ _ = u
  unfold countsTold
  refine ⟨fun h1 h2 => ?_, fun h1 h2 => ?_⟩
  · rw [if_pos (by simp [level, old] at h1 h2; simp [h1, h2])]
    exact lastEvent_canIrq _ _ _ (lastEvent_canEvent (by decide) _ _ _ _ _ _)
  · rw [if_neg (by simp [level] at h1; simp [h1]), if_pos (by simp [level, old] at h1 h2; simp [h1, h2])]
    exact lastEvent_canIrq _ _ _ (lastEvent_canEvent (by decide) _ _ _ _ _ _)

theorem reg_other {c d : Nat} (h : d ≠ c) : ¬ CountReg c (Reg.CFD_STAT d) ∧ ¬ CountReg c (Reg.CFD_ECNT d) := by
  unfold CountReg Reg.CFD_STAT Reg.CFD_ECNT
  omega

theorem countersChange (c : Fin 8) (tec rec' : Nat) (s : State) : let t := setCounts c tec rec' s
    let lv := faultLevel (min tec 256) (min rec' 255)
    let old := faultLevel (s.fld (F.CFD_ECNT_TEC c)) (s.fld (F.CFD_ECNT_REC c))
    t.fld (F.CFD_ECNT_TEC c) = min tec 256 ∧ t.fld (F.CFD_ECNT_REC c) = min rec' 255 ∧ t.mem = s.mem ∧ (t.flag (F.CFD_STAT_EWARN c) = true ↔ 96 ≤ tec ∨ 96 ≤ rec')
    ∧ canState t c = (if canOnBus s c = true ∧ lv = 2 then canBusOff else if canState s c = canActive ∨ canState s c = canPassive then
      (if lv = 1 then canPassive else canActive) else canState s c)
    ∧ (lv = 2 → old ≠ 2 → LastEvent t 0x8041 0x33) ∧ (lv = 1 → old = 0 → LastEvent t 0x8040 0x33)
    ∧ ∀ d : Fin 8, d ≠ c → canState t d = canState s d ∧ t.reg (Reg.CFD_ECNT d) = s.reg (Reg.CFD_ECNT d) ∧ canSt t d = canSt s d := by
  have h := counted_setCounts c.isLt tec rec' s
  obtain ⟨h2, h1⟩ := lastEvent_setCounts c tec rec' s
  refine ⟨h.tecCount, h.recCount, h.step.mem, ?_, h.state, h2, h1, fun d hd => ?_⟩
  · unfold State.flag
    rw [h.warn]
    simp only [ofBool, Bool.or_eq_true, decide_eq_true_eq]
    split
    · rename_i hw; exact ⟨fun _ => by omega, fun _ => by simp⟩
    · rename_i hw; exact ⟨fun h => by simp at h, fun h => by omega⟩
  · have hne : d.val ≠ c.val := fun e => hd (Fin.ext e)
    obtain ⟨r1, r2⟩ := reg_other hne
    have hd8 := d.isLt
    have hb (k : Nat) (hk : k < 0x1000) : ¬ EvReg (0x270000 + k + 0x1000 * d) := not_evReg_can (canReg_block hd8 hk)
    exact ⟨fld_congr (F.CFD_STAT_STATE d) (h.step.reg _ (hb 8 (by decide)) r1), h.step.reg _ (hb 0xC (by decide)) r2, h.step.other d hne⟩

end Sys2Proof.Machine
end

section
/-! Arbitration and the end of an attempt (R395 to R399). -/

namespace Sys2Proof.Machine

/-! ### The buffer that arbitration takes -/

/-- The better of the best so far and one more candidate: the smaller key, the earlier among equals. -/
def bestOf (key : Nat → Nat) (best : Option Nat) (b : Nat) : Option Nat :=
  match best with
  | none => some b
  | some w => if key b < key w then some b else best

theorem foldl_bestOf (key : Nat → Nat) (l : List Nat) (init : Option Nat) (hl : l.Pairwise (· < ·)) (hi : ∀ w, init = some w → ∀ b ∈ l, w < b) :
    (l.foldl (bestOf key) init = none → l = [] ∧ init = none)
    ∧ ∀ w, l.foldl (bestOf key) init = some w → (init = some w ∨ w ∈ l) ∧ ∀ d, init = some d ∨ d ∈ l → key w ≤ key d ∧ (d < w → key w < key d) := by
  induction l generalizing init with
  | nil =>
    refine ⟨fun h => ⟨rfl, h⟩, fun w h => ⟨.inl h, fun d hd => ?_⟩⟩
    have e : d = w := by
      have h1 := hd.resolve_right List.not_mem_nil
      rw [show init = some w from h] at h1
      exact (Option.some.inj h1).symm
    subst e
    exact ⟨Nat.le_refl _, fun h => absurd h (Nat.lt_irrefl _)⟩
  | cons b l ih =>
    obtain ⟨hb, hl'⟩ := List.pairwise_cons.1 hl
    rw [List.foldl_cons]
    cases init with
    | none =>
      obtain ⟨h1, h2⟩ := ih (some b) hl' fun w hw x hx => by cases hw; exact hb x hx
      refine ⟨fun h => (nomatch (h1 h).2), fun w hw => ?_⟩
      obtain ⟨h3, h4⟩ := h2 w hw
      refine ⟨.inr ?_, fun d hd => h4 d ?_⟩
      · rcases h3 with h | h
        · cases h; exact List.mem_cons_self
        · exact List.mem_cons_of_mem _ h
      · rcases List.mem_cons.1 (hd.resolve_left nofun) with rfl | h
        · exact .inl rfl
        · exact .inr h
    | some v =>
      have hvb := hi v rfl
      have hv : v < b := hvb b List.mem_cons_self
      by_cases hk : key b < key v
      · have e : bestOf key (some v) b = some b := if_pos hk
        rw [e]
        obtain ⟨h1, h2⟩ := ih (some b) hl' fun w hw x hx => by cases hw; exact hb x hx
        refine ⟨fun h => (nomatch (h1 h).2), fun w hw => ?_⟩
        obtain ⟨h3, h4⟩ := h2 w hw
        have hwb := (h4 b (.inl rfl)).1
        refine ⟨.inr ?_, fun d hd => ?_⟩
        · rcases h3 with h | h
          · cases h; exact List.mem_cons_self
          · exact List.mem_cons_of_mem _ h
        · rcases hd with h | h
          · cases h; exact ⟨by omega, fun _ => by omega⟩
          · rcases List.mem_cons.1 h with rfl | h
            · exact h4 d (.inl rfl)
            · exact h4 d (.inr h)
      · have e : bestOf key (some v) b = some v := if_neg hk
        rw [e]
        obtain ⟨h1, h2⟩ := ih (some v) hl' fun w hw x hx => by cases hw; exact hvb x (List.mem_cons_of_mem _ hx)
        refine ⟨fun h => (nomatch (h1 h).2), fun w hw => ?_⟩
        obtain ⟨h3, h4⟩ := h2 w hw
        obtain ⟨hwv, hwv'⟩ := h4 v (.inl rfl)
        refine ⟨h3.imp id (List.mem_cons_of_mem _), fun d hd => ?_⟩
        rcases hd with h | h
        · exact h4 d (.inl h)
        · rcases List.mem_cons.1 h with rfl | h
          · refine ⟨by omega, fun hlt => ?_⟩
            have := hwv' (by omega)
            omega
          · exact h4 d (.inr h)

section
variable {c : Nat} {s : State}

theorem winner_eq (l : List Nat) : winner s c l = ((List.range 3).filter fun b => l.contains b).foldl (bestOf fun b => arbKey (txFrame s c b)) none := rfl

theorem winner_spec (l : List Nat) : (winner s c l = none → ∀ d < 3, d ∉ l)
    ∧ ∀ w, winner s c l = some w → (w < 3 ∧ w ∈ l) ∧ ∀ d < 3, d ∈ l → arbKey (txFrame s c w) ≤ arbKey (txFrame s c d) ∧ (d < w → arbKey (txFrame s c w) < arbKey (txFrame s c d)) := by
  have hmem (d : Nat) : d ∈ ((List.range 3).filter fun b => l.contains b) ↔ d < 3 ∧ d ∈ l := by simp
  obtain ⟨h1, h2⟩ := foldl_bestOf (fun b => arbKey (txFrame s c b)) ((List.range 3).filter fun b => l.contains b) none
    (List.Pairwise.filter _ List.pairwise_lt_range) nofun
  rw [winner_eq]
  refine ⟨fun h d hd hdl => ?_, fun w hw => ?_⟩
  · have := (hmem d).2 ⟨hd, hdl⟩
    rw [(h1 h).1] at this
    exact List.not_mem_nil this
  · obtain ⟨h3, h4⟩ := h2 w hw
    exact ⟨(hmem w).1 (h3.resolve_left nofun), fun d hd hdl => h4 d (.inr ((hmem d).2 ⟨hd, hdl⟩))⟩

theorem mem_pending {d : Nat} : d ∈ ((List.range 3).filter fun b => canPending s c b) ↔ d < 3 ∧ canPending s c d = true := by simp

theorem chooseBuffer_fixed (h : s.flag (F.CFD_CTRL_TXORD c) = false) : chooseBuffer s c = winner s c ((List.range 3).filter fun b => canPending s c b) := by
  unfold chooseBuffer
  simp [h]

theorem chooseBuffer_pending {b : Nat} (h : chooseBuffer s c = some b) : b < 3 ∧ canPending s c b = true := by
  unfold chooseBuffer at h
  dsimp only at h
  split at h
  · exact mem_pending.1 (((winner_spec _).2 b h).1).2
  · split at h
    · rename_i w hw
      cases h
      have := (((winner_spec _).2 _ hw).1).2
      rw [List.mem_filter] at this
      exact mem_pending.1 (by simpa using this.2)
    · have := List.find?_some h
      exact mem_pending.1 (by simpa using this)

end

theorem arbitrations (c : Fin 8) (s : State) :
    (canOnBus s c = false ∨ s.fld (F.CFD_CTRL_MODE c) ≠ 1 ∨ (canSt s c).cur ≠ none ∨ chooseBuffer s c = none → exec (.txArbitrationStart c) s = .next s)
    ∧ (∀ b, canOnBus s c = true → s.fld (F.CFD_CTRL_MODE c) = 1 → (canSt s c).cur = none → chooseBuffer s c = some b →
      ∃ t, exec (.txArbitrationStart c) s = .next t ∧ canSt t c = { canSt s c with cur := some b } ∧ t.out = s.out ++ [.can c b] ∧ t.regs = s.regs ∧ t.mem = s.mem)
    ∧ (∀ b, chooseBuffer s c = some b → b < 3 ∧ canPending s c b = true ∧ (s.flag (F.CFD_CTRL_TXORD c) = false →
      ∀ d < 3, canPending s c d = true → arbKey (txFrame s c b) ≤ arbKey (txFrame s c d) ∧ (d < b → arbKey (txFrame s c b) < arbKey (txFrame s c d))))
    ∧ (chooseBuffer s c = none → s.flag (F.CFD_CTRL_TXORD c) = false → ∀ d < 3, canPending s c d = false) := by
  rw [exec_txArbitrationStart]
  refine ⟨fun h => ?_, fun b h1 h2 h3 h4 => ?_, fun b h => ?_, fun h ho d hd => ?_⟩
  · unfold execTxArbitrationStart
    dsimp only
    split
    · rfl
    · rename_i hn
      simp only [Bool.or_eq_true, Bool.not_eq_true', decide_eq_true_eq, not_or, Bool.not_eq_false, Option.isSome_iff_ne_none, not_not] at hn
      obtain ⟨⟨g1, g2⟩, g3⟩ := hn
      rcases h with h | h | h | h
      · rw [g1] at h; cases h
      · exact absurd g2 h
      · exact absurd g3 h
      · rw [h]
  · unfold execTxArbitrationStart
    simp only [h1, h2, h3, h4, Bool.not_true, ne_eq, not_true_eq_false, decide_false, Option.isSome_none, Bool.or_self, Bool.false_eq_true, if_false]
    exact ⟨_, rfl, canSt_modCan_self c.val (fun x => { x with cur := some b }) s, rfl, rfl, rfl⟩
  · obtain ⟨h1, h2⟩ := chooseBuffer_pending h
    refine ⟨h1, h2, fun ho d hd hp => ?_⟩
    rw [chooseBuffer_fixed ho] at h
    exact ((winner_spec _).2 b h).2 d hd (mem_pending.2 ⟨hd, hp⟩)
  · rw [chooseBuffer_fixed ho] at h
    have := mt mem_pending.2 ((winner_spec _).1 h d hd)
    exact Bool.eq_false_iff.2 fun hp => this ⟨hd, hp⟩

/-! ### A buffer's result -/

/-- The registers of buffers' requests and results. -/
def TxReg (c o : Nat) : Prop := o = Reg.CFD_TXREQ c ∨ o = Reg.CFD_TXSTAT c

/-- A result field of controller `c`. -/
structure ResultField (c : Nat) (f : RegField) : Prop where
  reg : f.reg = Reg.CFD_TXSTAT c
  width : f.hi = f.lo + 2 ∧ f.hi < 32

theorem resultField_ok (c : Nat) : ResultField c (F.CFD_TXSTAT_OK c) := ⟨rfl, by show 2 = 0 + 2 ∧ 2 < 32; decide⟩
theorem resultField_abrt (c : Nat) : ResultField c (F.CFD_TXSTAT_ABRT c) := ⟨rfl, by show 6 = 4 + 2 ∧ 6 < 32; decide⟩
theorem resultField_abnd (c : Nat) : ResultField c (F.CFD_TXSTAT_ABND c) := ⟨rfl, by show 10 = 8 + 2 ∧ 10 < 32; decide⟩

/-- What a buffer's result leaves. -/
structure Ended (c b : Nat) (f : RegField) (s t : State) : Prop where
  step : CanStep c (TxReg c) s t
  done : canPending t c b = false
  result : bitAt (t.fld f) b = true
  cur : (canSt t c).cur = (canSt s c).cur
  evq : t.evq = s.evq

theorem testBit_without {b : Nat} (hb : b < 3) (x : Nat) : (x &&& (7 - 2 ^ b)).testBit b = false := by
  rw [Nat.testBit_and]
  have : (7 - 2 ^ b).testBit b = false := by interval_cases b <;> decide
  rw [this, Bool.and_false]

theorem bitAt_fld_put {f : RegField} (h : f.hi = f.lo + 2 ∧ f.hi < 32) {b : Nat} (hb : b < 3) (s : State) (v : Nat) : bitAt ((s.put f v).fld f) b = v.testBit b := by
  rw [fld_put_self s f v (by omega) h.2, show f.hi + 1 - f.lo = 3 by omega]
  unfold bitAt
  rw [Nat.testBit_mod_two_pow]
  simp [hb]

theorem ended_endBuffer {c b : Nat} (hb : b < 3) {f : RegField} (hf : ResultField c f) (s : State) : Ended c b f s (endBuffer c b f s) := by
  obtain ⟨hreg, hw⟩ := hf
  unfold endBuffer
  extract_lets s1 s2 s3
  have h1 : CanStep c (TxReg c) s s1 := .put s _ (.inr hreg)
  have h2 : CanStep c (TxReg c) s1 s2 := .put s1 (f := F.CFD_TXREQ_REQ c) _ (.inl rfl)
  have h3 : CanStep c (TxReg c) s2 s3 := .put s2 (f := F.CFD_TXREQ_ABORT c) _ (.inl rfl)
  have hne : f.reg ≠ (F.CFD_TXREQ_REQ c).reg := by rw [hreg]; unfold Reg.CFD_TXSTAT F.CFD_TXREQ_REQ; dsimp only; omega
  refine ⟨((h1.trans h2).trans h3).trans ((CanStep.modCan s3 _).trans (.irq _ _ _)), ?_, ?_, ?_, ?_⟩
  · unfold canPending
    rw [canIrq_fld, modCan_fld]
    have e : s3.fld (F.CFD_TXREQ_REQ c) = s2.fld (F.CFD_TXREQ_REQ c) :=
      fld_put_apart s2 (F.CFD_TXREQ_ABORT c) (F.CFD_TXREQ_REQ c) _ (by show 4 ≤ 6; decide) (by show 6 < 32; decide) (by show 2 < 4 ∨ 6 < 0; decide)
    rw [e, bitAt_fld_put (f := F.CFD_TXREQ_REQ c) (by show 2 = 0 + 2 ∧ 2 < 32; decide) hb s1]
    exact testBit_without hb _
  · rw [canIrq_fld, modCan_fld]
    have e3 : s3.fld f = s2.fld f := fld_put_reg s2 (F.CFD_TXREQ_ABORT c) f _ hne
    have e2 : s2.fld f = s1.fld f := fld_put_reg s1 (F.CFD_TXREQ_REQ c) f _ hne
    rw [e3, e2, bitAt_fld_put hw hb s, Nat.testBit_or, Nat.testBit_two_pow_self, Bool.or_true]
  · rw [canSt_canIrq, canSt_modCan_self]
    rfl
  · rw [canIrq_evq]
    rfl

theorem ended_abandon {c b : Nat} (hb : b < 3) (tries reason : Nat) (s : State) : let t := abandon c b tries reason s
    CanStep c (TxReg c) s t ∧ canPending t c b = false ∧ bitAt (t.fld (F.CFD_TXSTAT_ABND c)) b = true ∧ (canSt t c).cur = (canSt s c).cur ∧ LastEvent t 0x8043 0x33 := by
  have h1 : CanStep c (TxReg c) s (canEvent 0x8043 1 c b tries reason s) := .event (by decide) _ _ _ _ _ s
  have hl := lastEvent_canEvent (sev := 1) (by decide) 0x8043 c b tries reason s
  have hcur := canSt_canEvent (sev := 1) (by decide) 0x8043 c b tries reason s c
  unfold abandon
  generalize canEvent 0x8043 1 c b tries reason s = u at h1 hl hcur ⊢
  have h := ended_endBuffer hb (resultField_abnd c) u
  exact ⟨h1.trans h.step, h.done, h.result, by rw [h.cur, hcur], by unfold LastEvent; rw [h.evq]; exact hl⟩

/-! ### The end of an attempt -/

/-- The controller's attempt is over and counted. -/
def attemptOver (c b : Nat) (s : State) : State :=
  modCan c (fun x => { x with cur := none, tries := spSet 0 b (spGet 0 (canSt s c).tries b + 1) x.tries }) s

theorem failAttempt_eq (c b : Nat) (s : State) : failAttempt c b s = if bitAt (s.fld (F.CFD_TXREQ_ABORT c)) b then endBuffer c b (F.CFD_TXSTAT_ABRT c) (attemptOver c b s)
    else if canState s c = canBusOff then attemptOver c b s
    else if s.flag (F.CFD_CTRL_ONESHOT c) then abandon c b (spGet 0 (canSt s c).tries b + 1) 1 (attemptOver c b s)
    else if s.fld (F.CFD_RETRYLIM_LIM c) ≠ 0 && s.fld (F.CFD_RETRYLIM_LIM c) ≤ spGet 0 (canSt s c).tries b + 1 then
      abandon c b (spGet 0 (canSt s c).tries b + 1) 2 (attemptOver c b s)
    else attemptOver c b s := rfl

theorem cur_attemptOver (c b : Nat) (s : State) : (canSt (attemptOver c b s) c).cur = none := by
  unfold attemptOver
  rw [canSt_modCan_self]

theorem canStep_attemptOver (c b : Nat) (s : State) : CanStep c (TxReg c) s (attemptOver c b s) := .modCan s _

theorem failAttempt_frame {c b : Nat} (hb : b < 3) (s : State) : CanStep c (TxReg c) s (failAttempt c b s) ∧ (canSt (failAttempt c b s) c).cur = none := by
  have h0 := canStep_attemptOver c b s
  have hc := cur_attemptOver c b s
  have habnd (n r : Nat) : CanStep c (TxReg c) s (abandon c b n r (attemptOver c b s)) ∧ (canSt (abandon c b n r (attemptOver c b s)) c).cur = none := by
    obtain ⟨h1, -, -, h2, -⟩ := ended_abandon (c := c) hb n r (attemptOver c b s)
    exact ⟨h0.trans h1, by rw [h2, hc]⟩
  rw [failAttempt_eq]
  split
  · have h := ended_endBuffer hb (resultField_abrt c) (attemptOver c b s)
    exact ⟨h0.trans h.step, by rw [h.cur, hc]⟩
  · split
    · exact ⟨h0, hc⟩
    · split
      · exact habnd _ _
      · split
        · exact habnd _ _
        · exact ⟨h0, hc⟩

theorem showTdcv_cases (c b : Nat) (v : Option (BitVec 7)) (s : State) : showTdcv c b v s = s ∨ ∃ x, showTdcv c b v s = s.put (F.CFD_STAT_TDCV c) x := by
  unfold showTdcv
  split
  · exact .inl rfl
  · split
    · exact .inr ⟨_, rfl⟩
    · exact .inl rfl

/-- What the shown delay leaves: everything but its field. -/
theorem showTdcv_frame (c b : Nat) (v : Option (BitVec 7)) (s : State) : let t := showTdcv c b v s
    CanStep c (· = Reg.CFD_STAT c) s t ∧ t.can = s.can ∧ canState t c = canState s c := by
  rcases showTdcv_cases c b v s with h | ⟨x, h⟩
  · rw [h]; exact ⟨.refl s, rfl, rfl⟩
  · rw [h]
    exact ⟨.put s _ rfl, State.put_can s _ _,
      fld_put_apart s (F.CFD_STAT_TDCV c) (F.CFD_STAT_STATE c) _ (by show 8 ≤ 14; decide) (by show 14 < 32; decide) (by show 2 < 8 ∨ 14 < 0; decide)⟩

end Sys2Proof.Machine
end

section
/-! The outcomes of an attempt (R397 to R399). -/

namespace Sys2Proof.Machine

theorem ns_congr {s t : State} (h : ∀ o, o / 0x10000 = 0x28 → t.reg o = s.reg o) : t.ns = s.ns := by
  unfold State.ns State.time State.fld
  rw [h Reg.TIM_TIME_W2 rfl, h Reg.TIM_TIME_W3 rfl, h F.TIM_TIME_W1_NS.reg rfl, h F.TIM_TIME_W0_FRAC.reg rfl]

theorem not_evReg_tim {o : Nat} (h : o / 0x10000 = 0x28) : ¬ EvReg o := by unfold EvReg; omega

theorem CanStep.ns {c : Nat} {P : Nat → Prop} {s t : State} (h : CanStep c P s t) (hp : ∀ o, P o → o / 0x10000 = 0x27) : t.ns = s.ns :=
  ns_congr fun o ho => h.reg o (not_evReg_tim ho) fun hP => by rw [hp o hP] at ho; cases ho

theorem recTime_lt (ns : Nat) : recTime ns < 2 ^ 64 := by
  have h : ns / 1000000000 % 2 ^ 34 < 2 ^ 34 := Nat.mod_lt _ (by decide)
  unfold recTime
  omega

section
variable {c : Fin 8} {b : Fin 3} {ago : BitVec 32} {v : Option (BitVec 7)} {s : State}

theorem attempt_none (o : CanTx) (h : (canSt s c).cur = none) : exec (.txAttemptEnd c o ago v) s = .next s := by
  rw [exec_txAttemptEnd]
  unfold execTxAttemptEnd
  dsimp only
  rw [h]

/-- The state of a controller whose frame was sent, before its buffer's result. -/
def frameSent (c b t : Nat) (s : State) : State :=
  (countError c (s.fld (F.CFD_ECNT_TEC c) - 1) (s.fld (F.CFD_ECNT_REC c)) (modCan c (fun x => { x with cur := none }) s)).setReg64 (Reg.CFD_TX_TS_LO c b) t

/-- A sent frame with its buffer's result. -/
def bufferSent (c b t : Nat) (s : State) : State := endBuffer c b (F.CFD_TXSTAT_OK c) (frameSent c b t s)

theorem attempt_sent (h : (canSt s c).cur = some b.val) : let u := showTdcv c b v s
    let e := bufferSent c b (recTime (u.ns - ago.toNat)) u
    exec (.txAttemptEnd c .sent ago v) s = .next (if e.flag (F.CFD_CTRL_SELFRX c) || e.flag (F.CFD_CTRL_LOOP c) then
      storeFrame c (txFrame u c b) (recTime (u.ns - ago.toNat)) e else e) := by
  rw [exec_txAttemptEnd]
  unfold execTxAttemptEnd
  dsimp only
  rw [h]
  rfl

theorem attempt_lost (h : (canSt s c).cur = some b.val) : exec (.txAttemptEnd c .lost ago v) s = .next (failAttempt c b (showTdcv c b v s)) := by
  rw [exec_txAttemptEnd]
  unfold execTxAttemptEnd
  dsimp only
  rw [h]

/-- The error of an attempt is noted and counted. -/
def errorCounted (c : Nat) (e : CanErr) (s : State) : State :=
  countError c (s.fld (F.CFD_ECNT_TEC c) + (if e.exempt || (e.kinds = 8 && decide (faultLevel (s.fld (F.CFD_ECNT_TEC c)) (s.fld (F.CFD_ECNT_REC c)) = 1)) then 0 else 8)
    + 8 * e.extra.toNat) (s.fld (F.CFD_ECNT_REC c)) (modCan c (fun x => { x with lastErr := e.kinds.toNat }) s)

theorem attempt_error (e : CanErr) (h : (canSt s c).cur = some b.val) :
    exec (.txAttemptEnd c (.error e) ago v) s = .next (failAttempt c b (errorCounted c e (showTdcv c b v s))) := by
  rw [exec_txAttemptEnd]
  unfold execTxAttemptEnd
  dsimp only
  rw [h]
  rfl

end

theorem countError_on {c : Nat} (tec r : Nat) {s : State} (h : s.fld (F.CFD_CTRL_MODE c) ≠ 3) : countError c tec r s = setCounts c tec r s := if_neg h

/-- The registers that a transmission of controller `c` writes. -/
def SendReg (c o : Nat) : Prop := CountReg c o ∨ TxReg c o ∨ (0x270148 + 0x1000 * c ≤ o ∧ o < 0x270270 + 0x1000 * c)

theorem sendReg_block {c o : Nat} (hc : c < 8) (h : SendReg c o) : o / 0x10000 = 0x27 := by
  unfold SendReg CountReg TxReg Reg.CFD_STAT Reg.CFD_ECNT Reg.CFD_TXREQ Reg.CFD_TXSTAT at h
  omega

theorem not_sendReg {c k : Nat} (h : k ≠ 8 ∧ k ≠ 0xC ∧ k ≠ 0x44 ∧ k ≠ 0x48 ∧ k < 0x148) : ¬ SendReg c (0x270000 + k + 0x1000 * c) := by
  unfold SendReg CountReg TxReg Reg.CFD_STAT Reg.CFD_ECNT Reg.CFD_TXREQ Reg.CFD_TXSTAT
  omega

theorem fld_kept {c k hi lo : Nat} (hc : c < 8) (hk : k ≠ 8 ∧ k ≠ 0xC ∧ k ≠ 0x44 ∧ k ≠ 0x48 ∧ k < 0x148) {s t : State} (h : CanStep c (SendReg c) s t) :
    t.fld ⟨0x270000 + k + 0x1000 * c, hi, lo⟩ = s.fld ⟨0x270000 + k + 0x1000 * c, hi, lo⟩ :=
  h.fld _ (canReg_block hc (by omega)) (not_sendReg hk)

theorem not_txReg_ecnt (c : Nat) : ¬ TxReg c (Reg.CFD_ECNT c) := by
  unfold TxReg Reg.CFD_ECNT Reg.CFD_TXREQ Reg.CFD_TXSTAT
  omega

theorem ecnt_block {c : Nat} (hc : c < 8) : (F.CFD_ECNT_TEC c).reg / 0x10000 = 0x27 := by unfold F.CFD_ECNT_TEC; dsimp only; omega

/-- What the shown delay leaves of controller `c`: everything but one field of its status. -/
structure Shown (c : Fin 8) (s u : State) : Prop where
  step : CanStep c (· = Reg.CFD_STAT c) s u
  can : u.can = s.can
  state : canState u c = canState s c

section
variable {c : Fin 8} {b : Fin 3} {s u : State} (h : Shown c s u)
include h

theorem Shown.reg (k : Nat) (hk : k ≠ 8 ∧ k < 0x1000) : u.reg (0x270000 + k + 0x1000 * c) = s.reg (0x270000 + k + 0x1000 * c) :=
  h.step.reg _ (not_evReg_can (canReg_block c.isLt hk.2)) (by show ¬ (0x270000 + k + 0x1000 * c = Reg.CFD_STAT c); unfold Reg.CFD_STAT; omega)

theorem Shown.fld {f : RegField} (k : Nat) (hf : f.reg = 0x270000 + k + 0x1000 * c) (hk : k ≠ 8 ∧ k < 0x1000) : u.fld f = s.fld f :=
  fld_congr f (by rw [hf]; exact h.reg k hk)

theorem Shown.flag {f : RegField} (k : Nat) (hf : f.reg = 0x270000 + k + 0x1000 * c) (hk : k ≠ 8 ∧ k < 0x1000) : u.flag f = s.flag f := by
  unfold State.flag; rw [h.fld k hf hk]

theorem Shown.ns : u.ns = s.ns := CanStep.ns h.step fun o ho => by rw [ho]; unfold Reg.CFD_STAT; omega

/-- A sent frame: its buffer's result, its time stamp, TEC one lower. -/
theorem sent_spec (hmode : s.fld (F.CFD_CTRL_MODE c) ≠ 3) {t : Nat} (ht : t < 2 ^ 64) : let e := bufferSent c b t u
    (canSt e c).cur = none ∧ canPending e c b = false ∧ bitAt (e.fld (F.CFD_TXSTAT_OK c)) b = true ∧ e.reg64 (Reg.CFD_TX_TS_LO c b) = t
    ∧ e.fld (F.CFD_ECNT_TEC c) = min (s.fld (F.CFD_ECNT_TEC c) - 1) 256 ∧ CanStep c (SendReg c) s e := by
  have hc := c.isLt
  have hb := b.isLt
  have hmodeu : u.fld (F.CFD_CTRL_MODE c) ≠ 3 := by rw [h.fld (f := F.CFD_CTRL_MODE c) 0 rfl (by decide)]; exact hmode
  have htec : u.fld (F.CFD_ECNT_TEC c) = s.fld (F.CFD_ECNT_TEC c) := h.fld 0xC rfl (by decide)
  have hm : CanStep c (SendReg c) u (modCan c (fun x => { x with cur := none }) u) := .modCan u _
  have hmcur : (canSt (modCan c (fun x => { x with cur := none }) u) c).cur = none := by rw [canSt_modCan_self]
  unfold bufferSent frameSent
  rw [countError_on _ _ (by rw [modCan_fld]; exact hmodeu), htec]
  generalize modCan c (fun x => { x with cur := none }) u = m at hm hmcur ⊢
  have hk := counted_setCounts hc (s.fld (F.CFD_ECNT_TEC c) - 1) (u.fld (F.CFD_ECNT_REC c)) m
  generalize setCounts c (s.fld (F.CFD_ECNT_TEC c) - 1) (u.fld (F.CFD_ECNT_REC c)) m = k at hk ⊢
  have hts : CanStep c (SendReg c) k (k.setReg64 (Reg.CFD_TX_TS_LO c b) t) := by
    refine .setReg64 k t (.inr (.inr ?_)) (.inr (.inr ?_)) <;> unfold Reg.CFD_TX_TS_LO <;> omega
  have hself := reg64_setReg64_self k (Reg.CFD_TX_TS_LO c b) t
  have htc : (k.setReg64 (Reg.CFD_TX_TS_LO c b) t).can = k.can := State.setReg64_can k _ _
  have htt : (k.setReg64 (Reg.CFD_TX_TS_LO c b) t).fld (F.CFD_ECNT_TEC c) = k.fld (F.CFD_ECNT_TEC c) := by
    refine fld_congr _ ((reg_setReg_ne _ _ ?_).trans (reg_setReg_ne _ _ ?_)) <;> unfold F.CFD_ECNT_TEC Reg.CFD_TX_TS_LO <;> dsimp only <;> omega
  generalize k.setReg64 (Reg.CFD_TX_TS_LO c b) t = w at hts hself htc htt ⊢
  have he := ended_endBuffer hb (resultField_ok c) w
  generalize endBuffer c b (F.CFD_TXSTAT_OK c) w = e at he ⊢
  have hall : CanStep c (SendReg c) s e := ((((h.step.weaken fun o ho => .inl (.inl ho)).trans hm).trans (hk.step.weaken fun _ => .inl)).trans hts).trans
    (he.step.weaken fun _ ho => .inr (.inl ho))
  refine ⟨?_, he.done, he.result, ?_, ?_, hall⟩
  · rw [he.cur, canSt_of_can htc]
    obtain ⟨cur, r, h4, h5⟩ := hk.record
    rw [h4]
    exact h5 hmcur
  · have hreg (o : Nat) (ho : o / 0x10000 = 0x27) (ho2 : 0x270148 + 0x1000 * c.val ≤ o) : e.reg o = w.reg o :=
      he.step.reg o (not_evReg_can ho) (by unfold TxReg Reg.CFD_TXREQ Reg.CFD_TXSTAT; omega)
    rw [reg64_congr (s := w) (hreg _ ?_ ?_) (hreg _ ?_ ?_), hself, Nat.mod_eq_of_lt ht] <;> unfold Reg.CFD_TX_TS_LO <;> omega
  · rw [he.step.fld _ (ecnt_block hc) (not_txReg_ecnt c), htt, hk.tecCount]

/-- A lost attempt of a buffer that may go on. -/
theorem failAttempt_again (h1 : bitAt (s.fld (F.CFD_TXREQ_ABORT c)) b = false) (h2 : s.flag (F.CFD_CTRL_ONESHOT c) = false) (h3 : s.fld (F.CFD_RETRYLIM_LIM c) = 0) :
    failAttempt c b u = attemptOver c b u := by
  rw [failAttempt_eq, h.fld (f := F.CFD_TXREQ_ABORT c) 0x44 rfl (by decide), h1, h.flag (f := F.CFD_CTRL_ONESHOT c) 0 rfl (by decide), h2,
    h.fld (f := F.CFD_RETRYLIM_LIM c) 0x1C rfl (by decide), h3]
  simp

theorem failAttempt_oneshot (h1 : bitAt (s.fld (F.CFD_TXREQ_ABORT c)) b = false) (h2 : s.flag (F.CFD_CTRL_ONESHOT c) = true) (h3 : canState s c ≠ canBusOff) :
    failAttempt c b u = abandon c b (spGet 0 (canSt u c).tries b + 1) 1 (attemptOver c b u) := by
  rw [failAttempt_eq, h.fld (f := F.CFD_TXREQ_ABORT c) 0x44 rfl (by decide), h1, h.flag (f := F.CFD_CTRL_ONESHOT c) 0 rfl (by decide), h2, h.state]
  simp [h3]

theorem failAttempt_aborted (h1 : bitAt (s.fld (F.CFD_TXREQ_ABORT c)) b = true) : failAttempt c b u = endBuffer c b (F.CFD_TXSTAT_ABRT c) (attemptOver c b u) := by
  rw [failAttempt_eq, h.fld (f := F.CFD_TXREQ_ABORT c) 0x44 rfl (by decide), h1]
  simp

/-- An attempt that ended in an error: TEC rises by its steps. -/
theorem error_spec (hmode : s.fld (F.CFD_CTRL_MODE c) ≠ 3) (e : CanErr) : let t := failAttempt c b (errorCounted c e u)
    (canSt t c).cur = none ∧ t.mem = s.mem ∧ t.fld (F.CFD_ECNT_TEC c) = min (s.fld (F.CFD_ECNT_TEC c)
      + (if e.exempt = true ∨ (e.kinds = 8 ∧ faultLevel (s.fld (F.CFD_ECNT_TEC c)) (s.fld (F.CFD_ECNT_REC c)) = 1) then 0 else 8) + 8 * e.extra.toNat) 256 := by
  have hc := c.isLt
  have hmodeu : u.fld (F.CFD_CTRL_MODE c) ≠ 3 := by rw [h.fld (f := F.CFD_CTRL_MODE c) 0 rfl (by decide)]; exact hmode
  have htec : u.fld (F.CFD_ECNT_TEC c) = s.fld (F.CFD_ECNT_TEC c) := h.fld 0xC rfl (by decide)
  have hrec : u.fld (F.CFD_ECNT_REC c) = s.fld (F.CFD_ECNT_REC c) := h.fld 0xC rfl (by decide)
  have hm : CanStep c (CountReg c) u (modCan c (fun x => { x with lastErr := e.kinds.toNat }) u) := .modCan u _
  unfold errorCounted
  rw [countError_on _ _ (by rw [modCan_fld]; exact hmodeu), htec, hrec]
  simp only [Bool.or_eq_true, Bool.and_eq_true, decide_eq_true_eq]
  generalize s.fld (F.CFD_ECNT_TEC c) + _ + 8 * e.extra.toNat = n
  generalize modCan c (fun x => { x with lastErr := e.kinds.toNat }) u = m at hm ⊢
  have hk := counted_setCounts hc n (s.fld (F.CFD_ECNT_REC c)) m
  generalize setCounts c n (s.fld (F.CFD_ECNT_REC c)) m = k at hk ⊢
  obtain ⟨hf, hcur⟩ := failAttempt_frame (c := c.val) b.isLt k
  refine ⟨hcur, ((hf.mem.trans hk.step.mem).trans hm.mem).trans h.step.mem, ?_⟩
  rw [hf.fld _ (ecnt_block hc) (not_txReg_ecnt c), hk.tecCount]

end

theorem reg_attemptOver (c b : Nat) (s : State) (o : Nat) : (attemptOver c b s).reg o = s.reg o := modCan_reg _ _ _ _

theorem attemptOutcomes (c : Fin 8) (b : Fin 3) (ago : BitVec 32) (v : Option (BitVec 7)) (s : State) (hcur : (canSt s c).cur = some b.val)
    (hmode : s.fld (F.CFD_CTRL_MODE c) ≠ 3) :
    let tec := s.fld (F.CFD_ECNT_TEC c)
    (s.flag (F.CFD_CTRL_SELFRX c) = false → s.flag (F.CFD_CTRL_LOOP c) = false → ∃ t, exec (.txAttemptEnd c .sent ago v) s = .next t ∧ (canSt t c).cur = none
      ∧ canPending t c b = false ∧ bitAt (t.fld (F.CFD_TXSTAT_OK c)) b = true ∧ t.reg64 (Reg.CFD_TX_TS_LO c b) = recTime (s.ns - ago.toNat)
      ∧ t.fld (F.CFD_ECNT_TEC c) = min (tec - 1) 256 ∧ t.mem = s.mem)
    ∧ (bitAt (s.fld (F.CFD_TXREQ_ABORT c)) b = false → s.flag (F.CFD_CTRL_ONESHOT c) = false → s.fld (F.CFD_RETRYLIM_LIM c) = 0 →
      ∃ t, exec (.txAttemptEnd c .lost ago v) s = .next t ∧ (canSt t c).cur = none ∧ t.fld (F.CFD_TXREQ_REQ c) = s.fld (F.CFD_TXREQ_REQ c)
        ∧ t.reg (Reg.CFD_ECNT c) = s.reg (Reg.CFD_ECNT c) ∧ t.reg (Reg.CFD_TXSTAT c) = s.reg (Reg.CFD_TXSTAT c) ∧ t.mem = s.mem)
    ∧ (bitAt (s.fld (F.CFD_TXREQ_ABORT c)) b = false → s.flag (F.CFD_CTRL_ONESHOT c) = true → canState s c ≠ canBusOff →
      ∃ t, exec (.txAttemptEnd c .lost ago v) s = .next t ∧ canPending t c b = false ∧ bitAt (t.fld (F.CFD_TXSTAT_ABND c)) b = true ∧ LastEvent t 0x8043 0x33 ∧ t.mem = s.mem)
    ∧ (bitAt (s.fld (F.CFD_TXREQ_ABORT c)) b = true → ∃ t, exec (.txAttemptEnd c .lost ago v) s = .next t ∧ canPending t c b = false
      ∧ bitAt (t.fld (F.CFD_TXSTAT_ABRT c)) b = true ∧ t.mem = s.mem)
    ∧ ∀ e : CanErr, ∃ t, exec (.txAttemptEnd c (.error e) ago v) s = .next t ∧ (canSt t c).cur = none ∧ t.mem = s.mem ∧ t.fld (F.CFD_ECNT_TEC c)
      = min (tec + (if e.exempt = true ∨ (e.kinds = 8 ∧ faultLevel tec (s.fld (F.CFD_ECNT_REC c)) = 1) then 0 else 8) + 8 * e.extra.toNat) 256 := by
  intro tec
  have hc := c.isLt
  obtain ⟨hs, hcan, hstate⟩ := showTdcv_frame c b v s
  have hsent := attempt_sent (ago := ago) (v := v) hcur
  have hlost := attempt_lost (ago := ago) (v := v) hcur
  have herror (e : CanErr) := attempt_error (ago := ago) (v := v) e hcur
  dsimp only at hsent
  generalize showTdcv c b v s = u at hs hcan hstate hsent hlost herror
  have hu : Shown c s u := ⟨hs, hcan, hstate⟩
  have h0 := canStep_attemptOver c b u
  have hr0 := reg_attemptOver c.val b.val u
  have hc0 := cur_attemptOver c.val b.val u
  refine ⟨fun h1 h2 => ?_, fun h1 h2 h3 => ?_, fun h1 h2 h3 => ?_, fun h1 => ?_, fun e => ?_⟩
  · rw [hu.ns] at hsent
    obtain ⟨g1, g2, g3, g4, g5, g6⟩ := sent_spec (b := b) hu hmode (recTime_lt (s.ns - ago.toNat))
    generalize bufferSent c b (recTime (s.ns - ago.toNat)) u = e at *
    have hno (f : RegField) (hf : f.reg = 0x270000 + 0 + 0x1000 * c) (hz : s.flag f = false) : e.flag f = false := by
      rw [← hz]
      unfold State.flag
      rw [g6.fld f (by rw [hf]; exact canReg_block hc (by decide)) (by rw [hf]; exact not_sendReg (by decide))]
    rw [hno (F.CFD_CTRL_SELFRX c) rfl h1, hno (F.CFD_CTRL_LOOP c) rfl h2, Bool.or_self, if_neg Bool.false_ne_true] at hsent
    exact ⟨e, hsent, g1, g2, g3, g4, g5, g6.mem⟩
  · rw [failAttempt_again hu h1 h2 h3] at hlost
    generalize attemptOver c b u = w at *
    exact ⟨w, hlost, hc0, fld_congr (F.CFD_TXREQ_REQ c) ((hr0 _).trans (hu.reg 0x44 (by decide))), (hr0 _).trans (hu.reg 0xC (by decide)),
      (hr0 _).trans (hu.reg 0x48 (by decide)), h0.mem.trans hs.mem⟩
  · rw [failAttempt_oneshot hu h1 h2 h3] at hlost
    obtain ⟨g1, g2, g3, -, g5⟩ := ended_abandon (c := c.val) b.isLt (spGet 0 (canSt u c).tries b + 1) 1 (attemptOver c b u)
    exact ⟨_, hlost, g2, g3, g5, (h0.trans g1).mem.trans hs.mem⟩
  · rw [failAttempt_aborted hu h1] at hlost
    have he := ended_endBuffer b.isLt (resultField_abrt c) (attemptOver c b u)
    exact ⟨_, hlost, he.done, he.result, (h0.trans he.step).mem.trans hs.mem⟩
  · obtain ⟨g1, g2, g3⟩ := error_spec (b := b) hu hmode e
    exact ⟨_, herror e, g1, g2, g3⟩

end Sys2Proof.Machine
end

section
/-! Received frames (R399, R401 to R407). -/

namespace Sys2Proof.Machine

/-! ### Stores -/

theorem plainSender_can : PlainSender 0x33 0 := by unfold PlainSender NoUnit; omega

theorem netStep_writeSlot (a seq : Nat) (bs : List Byte) (s : State) : NetStep True s (writeSlot a seq bs s).2 := by
  have hw (a : Nat) (bs : List Byte) (s : State) : NetStep True s (nocWrite 0x33 0 a bs s).2 :=
    (netStep_nocWrite 0x33 0 a bs s).weaken fun _ => plainSender_can
  have h1 := hw a (leBytes 4 (seq + 1)) s
  unfold writeSlot
  split
  · rename_i e; rw [e] at h1; exact h1
  · rename_i u e
    rw [e] at h1
    have h2 := hw (a + 4) bs u
    split
    · rename_i e2; rw [e2] at h2; exact h1.trans h2
    · rename_i e2; rw [e2] at h2; exact (h1.trans h2).trans (hw _ _ _)

/-- The registers of reception. -/
def RxReg (c o : Nat) : Prop := 0x270030 + 0x1000 * c ≤ o ∧ o < 0x270044 + 0x1000 * c

/-- What a reception leaves of the registers: those of the controllers but its own. -/
def RxStep (c : Nat) (s t : State) : Prop := ∀ o, o / 0x10000 = 0x27 → ¬ RxReg c o → t.reg o = s.reg o

theorem RxStep.trans {c : Nat} {s t u : State} (h : RxStep c s t) (g : RxStep c t u) : RxStep c s u := fun o h1 h2 => (g o h1 h2).trans (h o h1 h2)
theorem RxStep.fld {c : Nat} {s t : State} (h : RxStep c s t) (f : RegField) (hb : f.reg / 0x10000 = 0x27) (hf : ¬ RxReg c f.reg) : t.fld f = s.fld f :=
  fld_congr f (h _ hb hf)
theorem rxStep_incHold {c : Nat} (s : State) {f : RegField} (h : RxReg c f.reg) : RxStep c s (s.incHold f) := by
  intro o _ ho
  unfold State.incHold
  split
  · exact reg_put_ne s f _ fun e => ho (e ▸ h)
  · rfl
theorem NetStep.rx {s t : State} (h : NetStep True s t) (c : Nat) : RxStep c s t := fun o ho _ => h.reg trivial o (by unfold NetReg EvReg; omega)

theorem reg_setCanBit (lo o : Nat) (s : State) {p : Nat} (h : p ≠ lo ∧ p ≠ lo + 4) : (setCanBit lo o s).reg p = s.reg p :=
  (reg_setReg_ne _ _ h.2).trans (reg_setReg_ne s _ h.1)

theorem rxStep_setCanBit {c lo : Nat} (o : Nat) (s : State) (h : RxReg c lo) (h4 : RxReg c (lo + 4)) : RxStep c s (setCanBit lo o s) :=
  fun p _ hp => reg_setCanBit lo o s ⟨fun e => hp (by rw [e]; exact h), fun e => hp (by rw [e]; exact h4)⟩

theorem canBit_setCanBit (lo : Nat) {o : Nat} (ho : o < 64) (s : State) : canBit lo (setCanBit lo o s) o = true := by
  unfold canBit setCanBit bitAt
  rw [reg64_setReg64_self, Nat.testBit_mod_two_pow, Nat.testBit_or, Nat.testBit_two_pow_self, Bool.or_true]
  simp [ho]

theorem canBit_congr {lo : Nat} {s t : State} (h : t.reg lo = s.reg lo) (h4 : t.reg (lo + 4) = s.reg (lo + 4)) (o : Nat) : canBit lo t o = canBit lo s o := by
  unfold canBit; rw [reg64_congr h h4]

theorem setCanBit_can (lo o : Nat) (s : State) : (setCanBit lo o s).can = s.can := State.setReg64_can s _ _
theorem setCanBit_mem (lo o : Nat) (s : State) : (setCanBit lo o s).mem = s.mem := State.setReg64_mem s _ _

/-- The object's marks of a slot that was written: its sequence, new, lost. -/
def slotMarked (c o seq : Nat) (s : State) : State :=
  let s := modCan c (fun x => { x with seq := spSet 0 o ((seq + 2) % 2 ^ 32) x.seq }) s
  let lost := canBit (Reg.CFD_RXNEW_LO c) s o
  let told := canBit (Reg.CFD_RXLOST_LO c) s o
  let s := if lost then setCanBit (Reg.CFD_RXLOST_LO c) o s else s
  let s := setCanBit (Reg.CFD_RXNEW_LO c) o s
  let s := if lost && !told then canEvent 0x8044 0 c o 0 0 s else s
  canIrq c 0 s

/-- Where the slot of object `o` lies. -/
def rxSlotAt (s : State) (c o : Nat) : Nat := s.fld (F.CFD_RXBASE_LO_BASE_LO c) * 2 ^ 13 + s.fld (F.CFD_RXBASE_HI_BASE_HI c) * 2 ^ 32 + 128 * o

/-- A slot's write ends. -/
def slotEnd (c o seq : Nat) (r : Bool × State) : State :=
  match r with
  | (false, s) => s.incHold (F.CFD_RXDROP_DENY c)
  | (true, s) => slotMarked c o seq s

/-- A frame goes to object `o`. -/
def slotWritten (c o : Nat) (f : CanFrame) (t : Nat) (s : State) : State :=
  slotEnd c o (spGet 0 (canSt s c).seq o) (writeSlot (rxSlotAt s c o) (spGet 0 (canSt s c).seq o) (slotBytes f t) s)

/-- A frame goes to the object found. -/
def frameStored (c : Nat) (f : CanFrame) (t : Nat) (s : State) (x : Nat × State) (found : Option Nat) : State :=
  match found with
  | none => s.incHold (F.CFD_RXDROP_DROP c)
  | some o => slotWritten c o f t (if s.fld (F.CFD_RX_FMSK_FDF c o) = 3 then x.2 else s)

theorem slotWritten_eq (c o : Nat) (f : CanFrame) (t : Nat) (s : State) :
    slotWritten c o f t s = slotEnd c o (spGet 0 (canSt s c).seq o) (writeSlot (rxSlotAt s c o) (spGet 0 (canSt s c).seq o) (slotBytes f t) s) := by
  unfold slotWritten
  rfl

theorem storeFrame_stored (c : Nat) (f : CanFrame) (t : Nat) (s : State) :
    storeFrame c f t s = frameStored c f t s s.freeNat ((List.range 64).find? (canMatches s c s.freeNat.1 f)) := by
  generalize hg : @storeFrame = g
  delta storeFrame at hg
  subst hg
  beta_reduce
  generalize s.freeNat = x
  extract_lets +onlyGivenNames x'
  subst x'
  generalize (List.range 64).find? (canMatches s c x.1 f) = found
  conv =>
    lhs
    arg 4
    ext o
    tactic =>
      refine (?_ : _ = slotWritten c o f t (if s.fld (F.CFD_RX_FMSK_FDF c o) = 3 then x.2 else s))
      rw [slotWritten_eq]
      extract_lets +onlyGivenNames u base seq
      change _ = slotEnd c o seq (writeSlot base seq (slotBytes f t) u)
      generalize writeSlot base seq (slotBytes f t) u = r
      obtain ⟨ok, v⟩ := r
      cases ok <;> rfl
  cases found <;> rfl

theorem storeFrame_eq (c : Nat) (f : CanFrame) (t : Nat) (s : State) : storeFrame c f t s = s.incHold (F.CFD_RXDROP_DROP c) ∧
      (List.range 64).find? (canMatches s c s.freeNat.1 f) = none
    ∨ ∃ o, (List.range 64).find? (canMatches s c s.freeNat.1 f) = some o
      ∧ storeFrame c f t s = slotWritten c o f t (if s.fld (F.CFD_RX_FMSK_FDF c o) = 3 then s.freeNat.2 else s) := by
  rw [storeFrame_stored]
  generalize (List.range 64).find? (canMatches s c s.freeNat.1 f) = found
  cases found with
  | none => exact .inl ⟨rfl, rfl⟩
  | some o => exact .inr ⟨o, rfl, rfl⟩

theorem rxReg_new (c : Nat) : RxReg c (Reg.CFD_RXNEW_LO c) ∧ RxReg c (Reg.CFD_RXNEW_LO c + 4) ∧ RxReg c (Reg.CFD_RXLOST_LO c) ∧ RxReg c (Reg.CFD_RXLOST_LO c + 4) := by
  unfold RxReg Reg.CFD_RXNEW_LO Reg.CFD_RXLOST_LO
  omega

/-- What the marks of a slot leave. -/
theorem slotMarked_spec {c o : Nat} (hc : c < 8) (ho : o < 64) (seq : Nat) (v : State) : let r := slotMarked c o seq v
    RxStep c v r ∧ r.mem = v.mem ∧ canBit (Reg.CFD_RXNEW_LO c) r o = true ∧ spGet 0 (canSt r c).seq o = (seq + 2) % 2 ^ 32
    ∧ (canBit (Reg.CFD_RXNEW_LO c) v o = true → canBit (Reg.CFD_RXLOST_LO c) r o = true ∧ (canBit (Reg.CFD_RXLOST_LO c) v o = false → LastEvent r 0x8044 0x33)) := by
  obtain ⟨n0, n4, l0, l4⟩ := rxReg_new c
  unfold slotMarked
  extract_lets m lost told a b e r
  have hm : RxStep c v m := fun _ _ _ => rfl
  have hma : RxStep c m a := by
    unfold a
    split
    · exact rxStep_setCanBit o m l0 l4
    · exact fun _ _ _ => rfl
  have hmem : b.mem = v.mem := by
    have ha : a.mem = m.mem := by unfold a; split; · exact setCanBit_mem _ _ _
                                  · rfl
    exact (setCanBit_mem _ _ _).trans ha
  have hcan : b.can = m.can := by
    have ha : a.can = m.can := by unfold a; split; · exact setCanBit_can _ _ _
                                  · rfl
    exact (setCanBit_can _ _ _).trans ha
  have hab : RxStep c a b := rxStep_setCanBit o a n0 n4
  have hbnew : canBit (Reg.CFD_RXNEW_LO c) b o = true := canBit_setCanBit _ ho a
  have hblost (h : lost = true) : canBit (Reg.CFD_RXLOST_LO c) b o = true := by
    have ha : canBit (Reg.CFD_RXLOST_LO c) a o = true := by
      unfold a
      rw [if_pos h]
      exact canBit_setCanBit _ ho m
    rw [← ha]
    refine canBit_congr (reg_setCanBit _ _ _ ?_) (reg_setCanBit _ _ _ ?_) o <;> unfold Reg.CFD_RXLOST_LO Reg.CFD_RXNEW_LO <;> omega
  have he : (∀ p, p / 0x10000 = 0x27 → e.reg p = b.reg p) ∧ e.mem = b.mem ∧ e.can = b.can := by
    unfold e
    split
    · exact ⟨fun p hp => canEvent_reg (by decide) _ _ _ _ _ b hp, canEvent_mem (by decide) _ _ _ _ _ b, canEvent_can (by decide) _ _ _ _ _ b⟩
    · exact ⟨fun _ _ => rfl, rfl, rfl⟩
  obtain ⟨e1, e2, e3⟩ := he
  have hr (p : Nat) (hp : p / 0x10000 = 0x27) : r.reg p = b.reg p := (canIrq_reg c 0 e p).trans (e1 p hp)
  have hbit {lo : Nat} (h : lo / 0x10000 = 0x27) (h4 : (lo + 4) / 0x10000 = 0x27) : canBit lo r o = canBit lo b o := canBit_congr (hr _ h) (hr _ h4) o
  have hbn : Reg.CFD_RXNEW_LO c / 0x10000 = 0x27 ∧ (Reg.CFD_RXNEW_LO c + 4) / 0x10000 = 0x27 ∧ Reg.CFD_RXLOST_LO c / 0x10000 = 0x27
      ∧ (Reg.CFD_RXLOST_LO c + 4) / 0x10000 = 0x27 := by unfold Reg.CFD_RXNEW_LO Reg.CFD_RXLOST_LO; omega
  obtain ⟨b1, b2, b3, b4⟩ := hbn
  refine ⟨((hm.trans hma).trans hab).trans fun p hp _ => hr p hp, ?_, ?_, ?_, fun hnew => ⟨?_, fun hold => ?_⟩⟩
  · rw [show r.mem = e.mem from canIrq_mem c 0 e, e2, hmem]
  · rw [hbit b1 b2, hbnew]
  · rw [show canSt r c = canSt e c from canSt_canIrq c 0 e c, canSt_of_can e3, canSt_of_can hcan, canSt_modCan_self]
    exact spGet_spSet_self _ _ _ _
  · rw [hbit b3 b4]
    exact hblost hnew
  · refine lastEvent_canIrq c 0 e ?_
    have hl : lost = true := hnew
    have ht : told = false := hold
    unfold e
    rw [if_pos (by rw [hl, ht]; decide)]
    exact lastEvent_canEvent (by decide) _ _ _ _ _ b

theorem rxReg_drop (c : Nat) : RxReg c (F.CFD_RXDROP_DENY c).reg := by unfold RxReg F.CFD_RXDROP_DENY; dsimp only; omega

theorem rxStep_slotEnd {c o : Nat} (hc : c < 8) (ho : o < 64) (seq : Nat) (r : Bool × State) : RxStep c r.2 (slotEnd c o seq r) := by
  obtain ⟨ok, v⟩ := r
  cases ok with
  | false => exact rxStep_incHold v (rxReg_drop c)
  | true => exact (slotMarked_spec hc ho seq v).1

theorem rxStep_storeFrame {c : Nat} (hc : c < 8) (f : CanFrame) (t : Nat) (s : State) : RxStep c s (storeFrame c f t s) := by
  rcases storeFrame_eq c f t s with ⟨e, -⟩ | ⟨o, hfind, e⟩
  · rw [e]; exact rxStep_incHold s (rxReg_drop c)
  · have ho : o < 64 := List.mem_range.1 (List.mem_of_find?_eq_some hfind)
    have hu : RxStep c s (if s.fld (F.CFD_RX_FMSK_FDF c o) = 3 then s.freeNat.2 else s) := by
      split <;> exact fun _ _ _ => rfl
    rw [e]
    generalize (if s.fld (F.CFD_RX_FMSK_FDF c o) = 3 then s.freeNat.2 else s) = u at hu ⊢
    have hw := (netStep_writeSlot (rxSlotAt u c o) (spGet 0 (canSt u c).seq o) (slotBytes f t) u).rx c
    rw [slotWritten_eq]
    exact (hu.trans hw).trans (rxStep_slotEnd hc ho _ _)

/-! ### Objects -/

theorem canMatches_plain {s : State} {c o : Nat} (h : s.fld (F.CFD_RX_FMSK_FDF c o) ≠ 3) (x : Nat) (f : CanFrame) : canMatches s c x f o = canMatches s c 0 f o := by
  have h4 : s.fld (F.CFD_RX_FMSK_FDF c o) < 4 := fld_lt s (F.CFD_RX_FMSK_FDF c o)
  unfold canMatches
  dsimp only
  generalize s.fld (F.CFD_RX_FMSK_FDF c o) = sel at h h4 ⊢
  interval_cases sel
  · rfl
  · rfl
  · rfl
  · exact absurd rfl h

theorem storeFrame_none {c : Nat} {f : CanFrame} {t : Nat} {s : State} (h : ∀ o < 64, canMatches s c 0 f o = false ∧ s.fld (F.CFD_RX_FMSK_FDF c o) ≠ 3) :
    storeFrame c f t s = s.incHold (F.CFD_RXDROP_DROP c) := by
  rcases storeFrame_eq c f t s with ⟨e, -⟩ | ⟨o, hfind, -⟩
  · exact e
  · have ho : o < 64 := List.mem_range.1 (List.mem_of_find?_eq_some hfind)
    have := List.find?_some hfind
    rw [canMatches_plain (h o ho).2, (h o ho).1] at this
    cases this

theorem storeFrame_some {c o : Nat} {f : CanFrame} {t : Nat} {s : State} (ho : o < 64) (h : canMatches s c 0 f o = true) (hlow : ∀ k < o, canMatches s c 0 f k = false)
    (hsel : ∀ k < 64, s.fld (F.CFD_RX_FMSK_FDF c k) ≠ 3) : storeFrame c f t s = slotWritten c o f t s := by
  have hf : (List.range 64).find? (canMatches s c s.freeNat.1 f) = some o := by
    rw [List.find?_range_eq_some]
    refine ⟨by rw [canMatches_plain (hsel o ho), h], List.mem_range.2 ho, fun k hk => ?_⟩
    rw [canMatches_plain (hsel k (by omega)), hlow k hk]
    rfl
  rcases storeFrame_eq c f t s with ⟨-, e⟩ | ⟨o', hfind, e⟩
  · rw [hf] at e; cases e
  · rw [hf] at hfind
    cases hfind
    rw [e, if_neg (hsel o ho)]

end Sys2Proof.Machine
end

section
/-! Received frames: their effect on counters, state and objects (R399, R401 to R407). -/

namespace Sys2Proof.Machine

/-- REC is above 127 and counted. -/
def recHigh (c : Nat) (s : State) : Bool := decide (127 < s.fld (F.CFD_ECNT_REC c)) && decide (s.fld (F.CFD_CTRL_MODE c) ≠ 3)

/-- A valid frame lowers REC. -/
def rxCounted (c : Nat) (s : State) : State :=
  countError c ((if recHigh c s then s.freeNat.2 else s).fld (F.CFD_ECNT_TEC c)) (if recHigh c s then 119 + s.freeNat.1 % 9 else s.fld (F.CFD_ECNT_REC c) - 1)
    (if recHigh c s then s.freeNat.2 else s)

/-- A valid frame is counted and stored. -/
def rxStored (c : Nat) (f : CanFrame) (ago : BitVec 32) (s : State) : State :=
  storeFrame c f (recTime ((rxCounted c s).ns - ago.toNat)) (rxCounted c s)

/-- A wake-up frame ends a sleep entry. -/
def rxWoken (c : Nat) (f : CanFrame) (s : State) : State :=
  canIrq c 2 (canEvent 0x8046 0 c (canId f) 0 0 (((s.put (F.CFD_STAT_STATE c) canIntegrating).put (F.CFD_STAT_WAKEF c) 1).put (F.CFD_STAT_WCAUSE c) 1))

theorem exec_rxFrameValid_off {c : Fin 8} {s : State} (h : canOnBus s c = false) (f : CanFrame) (ago : BitVec 32) : exec (.rxFrameValid c f ago) s = .next s := by
  rw [exec_rxFrameValid]
  unfold execRxFrameValid
  dsimp only
  rw [if_pos (by rw [h]; rfl)]

theorem exec_rxFrameValid_on {c : Fin 8} {s : State} (h : canOnBus s c = true) (f : CanFrame) (ago : BitVec 32) : exec (.rxFrameValid c f ago) s =
    .next (if canState (rxStored c f ago s) c = canSleepPending && wakeMatches (rxStored c f ago s) c f then
      rxWoken c f (rxStored c f ago s) else rxStored c f ago s) := by
  rw [exec_rxFrameValid]
  unfold execRxFrameValid rxStored rxCounted recHigh rxWoken
  generalize @storeFrame = sf
  generalize @countError = ce
  generalize @State.freeNat = fn
  dsimp only
  rw [if_neg (by rw [h]; decide)]
  exact (apply_ite Host.Outcome.next _ _ _).symm

/-- A number is taken: nothing of the registers, memory or the controllers changes. -/
theorem numbered_frame (b : Bool) (s : State) : (∀ o, (if b then s.freeNat.2 else s).reg o = s.reg o) ∧ (if b then s.freeNat.2 else s).can = s.can := by
  cases b <;> exact ⟨fun _ => rfl, rfl⟩

/-- What a reception of controller `c` leaves of its registers: all but the status, the counters and the marks of reception. -/
def RxKept (c : Nat) (s t : State) : Prop :=
  ∀ k, k < 0x1000 → k ≠ 8 → k ≠ 0xC → (k < 0x30 ∨ 0x44 ≤ k) → t.reg (0x270000 + k + 0x1000 * c) = s.reg (0x270000 + k + 0x1000 * c)

theorem wakeMatches_congr {c : Nat} {s t : State} (h : RxKept c s t) (f : CanFrame) : wakeMatches t c f = wakeMatches s c f := by
  have hf (k hi lo : Nat) (hk : k < 0x1000) (h8 : k ≠ 8) (hC : k ≠ 0xC) (hr : k < 0x30 ∨ 0x44 ≤ k) :
      t.fld ⟨0x270000 + k + 0x1000 * c, hi, lo⟩ = s.fld ⟨0x270000 + k + 0x1000 * c, hi, lo⟩ := fld_congr _ (h k hk h8 hC hr)
  unfold wakeMatches State.flag
  dsimp only
  rw [show t.reg (Reg.CFD_WUF_DMASK_LO c) = s.reg (Reg.CFD_WUF_DMASK_LO c) from h 0x60 (by decide) (by decide) (by decide) (by decide),
    show t.reg (Reg.CFD_WUF_DMASK_HI c) = s.reg (Reg.CFD_WUF_DMASK_HI c) from h 0x64 (by decide) (by decide) (by decide) (by decide),
    show t.fld (F.CFD_WUF_MASK_MASK c) = s.fld (F.CFD_WUF_MASK_MASK c) from hf 0x54 _ _ (by decide) (by decide) (by decide) (by decide),
    show t.fld (F.CFD_WUF_ID_ID c) = s.fld (F.CFD_WUF_ID_ID c) from hf 0x50 _ _ (by decide) (by decide) (by decide) (by decide),
    show t.fld (F.CFD_WUF_ID_IDE c) = s.fld (F.CFD_WUF_ID_IDE c) from hf 0x50 _ _ (by decide) (by decide) (by decide) (by decide),
    show t.fld (F.CFD_WUF_CTL_DLC c) = s.fld (F.CFD_WUF_CTL_DLC c) from hf 0x58 _ _ (by decide) (by decide) (by decide) (by decide),
    show t.fld (F.CFD_WUF_CTL_DLCEN c) = s.fld (F.CFD_WUF_CTL_DLCEN c) from hf 0x58 _ _ (by decide) (by decide) (by decide) (by decide),
    show t.fld (F.CFD_WUF_CTL_DATAEN c) = s.fld (F.CFD_WUF_CTL_DATAEN c) from hf 0x58 _ _ (by decide) (by decide) (by decide) (by decide)]

section
variable {c : Nat} (hc : c < 8) (s : State)
include hc

/-- A valid frame's new counters. -/
theorem rxCounted_counted (hmode : s.fld (F.CFD_CTRL_MODE c) ≠ 3) : ∃ u, (∀ o, u.reg o = s.reg o) ∧ u.can = s.can
    ∧ Counted c (s.fld (F.CFD_ECNT_TEC c)) (if recHigh c s then 119 + s.freeNat.1 % 9 else s.fld (F.CFD_ECNT_REC c) - 1) u (rxCounted c s) := by
  obtain ⟨hr, hcan⟩ := numbered_frame (recHigh c s) s
  unfold rxCounted
  generalize (if recHigh c s then s.freeNat.2 else s) = u at hr hcan ⊢
  refine ⟨u, hr, hcan, ?_⟩
  rw [fld_congr (F.CFD_ECNT_TEC c) (hr _), countError_on _ _ (by rw [fld_congr (F.CFD_CTRL_MODE c) (hr _)]; exact hmode)]
  exact counted_setCounts hc _ _ u

omit hc in
theorem rxCounted_kept : ∀ o, ¬ EvReg o → ¬ CountReg c o → (rxCounted c s).reg o = s.reg o := by
  intro o h1 h2
  obtain ⟨hr, -⟩ := numbered_frame (recHigh c s) s
  unfold rxCounted
  generalize (if recHigh c s then s.freeNat.2 else s) = u at hr ⊢
  rw [← hr o]
  unfold countError
  split
  · rfl
  · exact (canStep_setCounts _ _ u).reg o h1 h2

theorem rxStored_fld (f : CanFrame) (ago : BitVec 32) (g : RegField) (hb : g.reg / 0x10000 = 0x27) (hg : ¬ RxReg c g.reg) :
    (rxStored c f ago s).fld g = (rxCounted c s).fld g := (rxStep_storeFrame hc f _ _).fld g hb hg

theorem rxStored_kept (f : CanFrame) (ago : BitVec 32) : RxKept c s (rxStored c f ago s) := by
  intro k hk h8 hC hr
  have hb := canReg_block hc hk
  refine (rxStep_storeFrame hc f _ _ _ hb ?_).trans (rxCounted_kept s _ (not_evReg_can hb) ?_)
  · unfold RxReg; omega
  · unfold CountReg Reg.CFD_STAT Reg.CFD_ECNT; omega

theorem rxStored_state (f : CanFrame) (ago : BitVec 32) : canState (rxStored c f ago s) c = canState (rxCounted c s) c :=
  rxStored_fld hc s f ago (F.CFD_STAT_STATE c) (canReg_block (k := 8) hc (by decide)) (by unfold RxReg F.CFD_STAT_STATE; dsimp only; omega)

theorem rxStored_rec (f : CanFrame) (ago : BitVec 32) : (rxStored c f ago s).fld (F.CFD_ECNT_REC c) = (rxCounted c s).fld (F.CFD_ECNT_REC c) :=
  rxStored_fld hc s f ago (F.CFD_ECNT_REC c) (canReg_block (k := 0xC) hc (by decide)) (by unfold RxReg F.CFD_ECNT_REC; dsimp only; omega)

/-- A controller that wakes: its state, its flag, its event. -/
theorem rxWoken_spec (f : CanFrame) : let t := rxWoken c f s
    canState t c = canIntegrating ∧ t.flag (F.CFD_STAT_WAKEF c) = true ∧ LastEvent t 0x8046 0x33 ∧ t.fld (F.CFD_ECNT_REC c) = s.fld (F.CFD_ECNT_REC c) := by
  have hs : (0x270008 + 0x1000 * c) / 0x10000 = 0x27 := canReg_block (k := 8) hc (by decide)
  have he : (0x27000C + 0x1000 * c) / 0x10000 = 0x27 := canReg_block (k := 0xC) hc (by decide)
  unfold rxWoken canState State.flag F.CFD_STAT_STATE F.CFD_STAT_WAKEF F.CFD_STAT_WCAUSE F.CFD_ECNT_REC
  refine ⟨?_, ?_, lastEvent_canIrq _ _ _ (lastEvent_canEvent (by decide) _ _ _ _ _ _), ?_⟩
  · rw [canIrq_fld, canEvent_fld (by decide) _ _ _ _ _ _ _ hs]
    simp (disch := omega) only [fld_put_lit, fld_put_lit_self]
    rfl
  · rw [canIrq_fld, canEvent_fld (by decide) _ _ _ _ _ _ _ hs]
    simp (disch := omega) only [fld_put_lit, fld_put_lit_self]
    decide
  · rw [canIrq_fld, canEvent_fld (by decide) _ _ _ _ _ _ _ he]
    simp (disch := omega) only [fld_put_lit]

end

/-- A REC above 127 comes back into 119 to 127. -/
theorem rx_high (c : Fin 8) (f : CanFrame) (ago : BitVec 32) (s : State) (hon : canOnBus s c = true) (h : 127 < s.fld (F.CFD_ECNT_REC c))
    (hmode : s.fld (F.CFD_CTRL_MODE c) ≠ 3) :
    ∃ t, exec (.rxFrameValid c f ago) s = .next t ∧ 119 ≤ t.fld (F.CFD_ECNT_REC c) ∧ t.fld (F.CFD_ECNT_REC c) ≤ 127 := by
  obtain ⟨u, -, -, hcount⟩ := rxCounted_counted c.isLt s hmode
  have hr := hcount.recCount
  rw [if_pos (by unfold recHigh; simp [h, hmode])] at hr
  have hst := rxStored_rec c.isLt s f ago
  refine ⟨_, exec_rxFrameValid_on hon f ago, ?_⟩
  split
  · rw [(rxWoken_spec c.isLt _ f).2.2.2, hst, hr]; omega
  · rw [hst, hr]; omega

/-- An active or passive controller counts and stores. -/
theorem rx_low (c : Fin 8) (f : CanFrame) (ago : BitVec 32) (s : State) (hst : canState s c = canActive ∨ canState s c = canPassive)
    (h : s.fld (F.CFD_ECNT_REC c) ≤ 127) (hmode : s.fld (F.CFD_CTRL_MODE c) ≠ 3) : exec (.rxFrameValid c f ago) s =
      .next (storeFrame c f (recTime (s.ns - ago.toNat)) (setCounts c (s.fld (F.CFD_ECNT_TEC c)) (s.fld (F.CFD_ECNT_REC c) - 1) s)) := by
  have hon : canOnBus s c = true := by unfold canOnBus; rcases hst with h | h <;> simp [h]
  have hlow : recHigh c s = false := by unfold recHigh; rw [decide_eq_false (by omega)]; rfl
  have hcnt : rxCounted c s = setCounts c (s.fld (F.CFD_ECNT_TEC c)) (s.fld (F.CFD_ECNT_REC c) - 1) s := by
    unfold rxCounted
    simp only [hlow]
    exact countError_on _ _ hmode
  have hd := counted_setCounts c.isLt (s.fld (F.CFD_ECNT_TEC c)) (s.fld (F.CFD_ECNT_REC c) - 1) s
  have hns : (rxCounted c s).ns = s.ns := by
    rw [hcnt]
    exact hd.step.ns fun o ho => by have := c.isLt; unfold CountReg Reg.CFD_STAT Reg.CFD_ECNT at ho; omega
  have hne : canState (rxStored c f ago s) c ≠ canSleepPending := by
    rw [rxStored_state c.isLt, hcnt, hd.state]
    unfold levelState
    rw [if_pos hst]
    split
    · decide
    · split <;> decide
  rw [exec_rxFrameValid_on hon, if_neg (by simp [hne])]
  unfold rxStored
  rw [hns, hcnt]

theorem faultLevel_low {tec : Nat} (h : tec ≤ 255) (rec' : Nat) : faultLevel tec rec' ≠ 2 := by
  unfold faultLevel
  rw [if_neg (by omega)]
  generalize (decide (127 < tec) || decide (127 < rec')) = b
  cases b <;> decide

/-- A wake-up frame ends a sleep entry. -/
theorem rx_wake (c : Fin 8) (f : CanFrame) (ago : BitVec 32) (s : State) (hst : canState s c = canSleepPending) (hw : wakeMatches s c f = true)
    (ht : s.fld (F.CFD_ECNT_TEC c) ≤ 255) :
    ∃ t, exec (.rxFrameValid c f ago) s = .next t ∧ canState t c = canIntegrating ∧ t.flag (F.CFD_STAT_WAKEF c) = true ∧ LastEvent t 0x8046 0x33 := by
  have hon : canOnBus s c = true := by unfold canOnBus; simp [hst]
  have hs : canState (rxStored c f ago s) c = canSleepPending := by
    rw [rxStored_state c.isLt]
    by_cases hmode : s.fld (F.CFD_CTRL_MODE c) = 3
    · obtain ⟨hr, -⟩ := numbered_frame (recHigh c s) s
      unfold rxCounted
      generalize (if recHigh c s then s.freeNat.2 else s) = u at hr ⊢
      unfold countError
      rw [if_pos (by rw [fld_congr (F.CFD_CTRL_MODE c) (hr _)]; exact hmode)]
      exact (fld_congr (F.CFD_STAT_STATE c) (hr _)).trans hst
    · obtain ⟨u, hr, -, hcount⟩ := rxCounted_counted c.isLt s hmode
      have hu : canState u c = canSleepPending := (fld_congr (F.CFD_STAT_STATE c) (hr _)).trans hst
      rw [hcount.state]
      unfold levelState
      rw [hu, if_neg, if_neg (by decide)]
      rintro ⟨-, hl⟩
      exact faultLevel_low (by omega) _ hl
  obtain ⟨w1, w2, w3, -⟩ := rxWoken_spec c.isLt (rxStored c f ago s) f
  refine ⟨_, exec_rxFrameValid_on hon f ago, ?_⟩
  rw [if_pos (by rw [hs, wakeMatches_congr (rxStored_kept c.isLt s f ago), hw]; rfl)]
  exact ⟨w1, w2, w3⟩

/-- A frame that is stored in the lowest object that takes it. -/
theorem rx_stored (c : Fin 8) {f : CanFrame} {t0 o : Nat} {s v : State} (ho : o < 64) (h : canMatches s c 0 f o = true) (hlow : ∀ k < o, canMatches s c 0 f k = false)
    (hsel : ∀ k < 64, s.fld (F.CFD_RX_FMSK_FDF c k) ≠ 3)
    (hw : writeSlot (rxSlotAt s c o) (spGet 0 (canSt s c).seq o) (slotBytes f t0) s = (true, v)) : let r := storeFrame c f t0 s
    canBit (Reg.CFD_RXNEW_LO c) r o = true ∧ r.mem = v.mem ∧ spGet 0 (canSt r c).seq o = (spGet 0 (canSt s c).seq o + 2) % 2 ^ 32
      ∧ (canBit (Reg.CFD_RXNEW_LO c) v o = true → canBit (Reg.CFD_RXLOST_LO c) r o = true ∧ (canBit (Reg.CFD_RXLOST_LO c) v o = false → LastEvent r 0x8044 0x33)) := by
  intro r
  have hr : r = slotMarked c o (spGet 0 (canSt s c).seq o) v := by
    unfold r
    rw [storeFrame_some ho h hlow hsel, slotWritten_eq, hw]
    rfl
  obtain ⟨-, h1, h2, h3, h4⟩ := slotMarked_spec c.isLt ho (spGet 0 (canSt s c).seq o) v
  clear_value r
  subst hr
  exact ⟨h2, h1, h3, h4⟩

end Sys2Proof.Machine
end

section
/-! Errors of received frames, and the states of a CAN controller (R394, R399, R400, R405 to R407). -/

namespace Sys2Proof.Machine

/-! ### Errors of received frames -/

theorem rxError_spec (c : Fin 8) (kinds extra : Nat) (s : State) (hmode : s.fld (F.CFD_CTRL_MODE c) ≠ 3) : let t := rxError c kinds extra s
    t.mem = s.mem ∧ t.fld (F.CFD_ECNT_REC c) = min (s.fld (F.CFD_ECNT_REC c) + 1 + 8 * extra) 255 ∧ (canSt t c).lastErr = kinds := by
  have hm : (canSt (modCan c (fun x => { x with lastErr := kinds }) s) c).lastErr = kinds := by rw [canSt_modCan_self]
  have hmem : (modCan c (fun x => { x with lastErr := kinds }) s).mem = s.mem := rfl
  have hf (f : RegField) : (modCan c (fun x => { x with lastErr := kinds }) s).fld f = s.fld f := modCan_fld _ _ _ _
  unfold rxError
  dsimp only
  generalize modCan c (fun x => { x with lastErr := kinds }) s = u at hm hmem hf ⊢
  rw [countError_on _ _ (by rw [hf]; exact hmode), hf, hf]
  have h := counted_setCounts c.isLt (s.fld (F.CFD_ECNT_TEC c)) (s.fld (F.CFD_ECNT_REC c) + 1 + 8 * extra) u
  obtain ⟨cur, r, hrec, -⟩ := h.record
  exact ⟨h.step.mem.trans hmem, h.recCount, by rw [hrec]; exact hm⟩

/-- An error of a received frame raises REC and notes its kinds. -/
theorem rxErrors (c : Fin 8) (e : CanErr) (s : State) : (canOnBus s c = false → exec (.rxFrameError c e) s = .next s)
    ∧ (canOnBus s c = true → s.fld (F.CFD_CTRL_MODE c) ≠ 3 → ∃ t, exec (.rxFrameError c e) s = .next t ∧ t.mem = s.mem
      ∧ t.fld (F.CFD_ECNT_REC c) = min (s.fld (F.CFD_ECNT_REC c) + 1 + 8 * e.extra.toNat) 255 ∧ (canSt t c).lastErr = e.kinds.toNat) := by
  rw [exec_rxFrameError]
  unfold execRxFrameError
  dsimp only
  refine ⟨fun h => by rw [if_neg (by simp [h])], fun h hmode => ⟨rxError c e.kinds.toNat e.extra.toNat s, by rw [if_pos h], ?_⟩⟩
  exact rxError_spec c _ _ s hmode

/-! ### States -/

theorem recovered (c : Fin 8) (us : BitVec 32) (s : State) (h : canState s c = canBusOff) (hr : (canSt s c).recovering = true) :
    ∃ t, exec (.recoveryComplete c us) s = .next t ∧ canState t c = canIntegrating ∧ t.fld (F.CFD_ECNT_TEC c) = 0 ∧ t.fld (F.CFD_ECNT_REC c) = 0
      ∧ LastEvent t 0x8042 0x33 ∧ (canSt t c).recovering = false ∧ t.mem = s.mem := by
  have hc := c.isLt
  rw [exec_recoveryComplete]
  unfold execRecoveryComplete
  dsimp only
  rw [if_neg (by simp [h, hr])]
  refine ⟨_, rfl, ?_⟩
  generalize hm : modCan c (fun x => { x with recovering := false, first := (List.range 3).filter fun b => canPending s c b }) s = m
  have hmrec : (canSt m c).recovering = false := by rw [← hm, canSt_modCan_self]
  have hmmem : m.mem = s.mem := by rw [← hm]; rfl
  generalize hu : (m.put (F.CFD_STAT_STATE c) canIntegrating).put (F.CFD_ECNT_RECOV c) 128 = u
  have hurec : (canSt u c).recovering = false := by rw [← hu, canSt_put, canSt_put, hmrec]
  have humem : u.mem = s.mem := by rw [← hu, State.put_mem, State.put_mem, hmmem]
  have hust : canState u c = canIntegrating := by
    rw [← hu]
    unfold canState F.CFD_STAT_STATE F.CFD_ECNT_RECOV
    simp (disch := omega) only [fld_put_lit, fld_put_lit_self]
    rfl
  have hd := counted_setCounts hc 0 0 u
  have hcan := hd.can (.inr (by decide))
  have hst := hd.state
  generalize setCounts c 0 0 u = t at hd hcan hst ⊢
  have h8 : (0x270008 + 0x1000 * c.val) / 0x10000 = 0x27 := canReg_block (k := 8) hc (by decide)
  have hC : (0x27000C + 0x1000 * c.val) / 0x10000 = 0x27 := canReg_block (k := 0xC) hc (by decide)
  refine ⟨?_, ?_, ?_, lastEvent_canEvent (by decide) _ _ _ _ _ t, ?_, (canEvent_mem (by decide) _ _ _ _ _ t).trans (hd.step.mem.trans humem)⟩
  · refine (canEvent_fld (by decide) _ _ _ _ _ t (F.CFD_STAT_STATE c) h8).trans (hst.trans ?_)
    unfold levelState
    rw [hust, if_neg (by rintro ⟨-, h⟩; cases h), if_neg (by decide)]
  · exact (canEvent_fld (by decide) _ _ _ _ _ t (F.CFD_ECNT_TEC c) hC).trans hd.tecCount
  · exact (canEvent_fld (by decide) _ _ _ _ _ t (F.CFD_ECNT_REC c) hC).trans hd.recCount
  · rw [canSt_canEvent (by decide), canSt_of_can hcan, hurec]

theorem excepted (c : Fin 8) (s : State) (hon : canOnBus s c = true) (hp : s.flag (F.CFD_CTRL_PXHD c) = false) :
    ∃ t, exec (.protocolException c) s = .next t ∧ canState t c = canIntegrating ∧ LastEvent t 0x8047 0x33 ∧ t.mem = s.mem ∧ t.can = s.can := by
  have h8 : (F.CFD_STAT_STATE c).reg / 0x10000 = 0x27 := canReg_block (k := 8) c.isLt (by decide)
  rw [exec_protocolException]
  unfold execProtocolException
  dsimp only
  rw [if_neg (by simp [hon]), if_neg (by simp [hp])]
  refine ⟨_, rfl, ?_, lastEvent_canEvent (by decide) _ _ _ _ _ _, ?_, ?_⟩
  · exact (canEvent_fld (by decide) _ _ _ _ _ _ _ h8).trans (put_state s (by decide))
  · exact (canEvent_mem (by decide) _ _ _ _ _ _).trans (State.put_mem _ _ _)
  · exact (canEvent_can (by decide) _ _ _ _ _ _).trans (State.put_can _ _ _)

/-- Integration, recovery, protocol exception and sleep entry. -/
theorem stateMoves (c : Fin 8) (us : BitVec 32) (s : State) :
    (canState s c = canIntegrating → exec (.integrationComplete c) s = .next (s.put (F.CFD_STAT_STATE c)
      (if faultLevel (s.fld (F.CFD_ECNT_TEC c)) (s.fld (F.CFD_ECNT_REC c)) = 1 then canPassive else canActive)))
    ∧ (canState s c ≠ canIntegrating → exec (.integrationComplete c) s = .next s)
    ∧ (canState s c ≠ canBusOff ∨ (canSt s c).recovering = false → exec (.recoveryComplete c us) s = .next s)
    ∧ (canState s c = canBusOff → (canSt s c).recovering = true → ∃ t, exec (.recoveryComplete c us) s = .next t ∧ canState t c = canIntegrating
      ∧ t.fld (F.CFD_ECNT_TEC c) = 0 ∧ t.fld (F.CFD_ECNT_REC c) = 0 ∧ LastEvent t 0x8042 0x33 ∧ (canSt t c).recovering = false ∧ t.mem = s.mem)
    ∧ (canOnBus s c = true → s.flag (F.CFD_CTRL_PXHD c) = false → ∃ t, exec (.protocolException c) s = .next t ∧ canState t c = canIntegrating ∧ LastEvent t 0x8047 0x33
      ∧ t.mem = s.mem ∧ t.can = s.can)
    ∧ (canOnBus s c = true → s.flag (F.CFD_CTRL_PXHD c) = true → exec (.protocolException c) s = exec (.rxFrameError c ⟨4, 0, false⟩) s)
    ∧ (canOnBus s c = false → exec (.protocolException c) s = .next s)
    ∧ (canState s c = canSleepPending → s.fld (F.CFD_TXREQ_REQ c) = 0 → ∃ t, exec (.sleepEntry c) s = .next t ∧ canState t c = canSleep ∧ (canSt t c).errs = 0 ∧ t.mem = s.mem)
    ∧ (canState s c ≠ canSleepPending ∨ s.fld (F.CFD_TXREQ_REQ c) ≠ 0 → exec (.sleepEntry c) s = .next s) := by
  refine ⟨fun h => ?_, fun h => ?_, fun h => ?_, recovered c us s, excepted c s, fun hon hp => ?_, fun hoff => ?_, fun h hr => ?_, fun h => ?_⟩
  · rw [exec_integrationComplete]; unfold execIntegrationComplete; dsimp only; rw [if_pos h]
  · rw [exec_integrationComplete]; unfold execIntegrationComplete; dsimp only; rw [if_neg h]
  · rw [exec_recoveryComplete]; unfold execRecoveryComplete; dsimp only; rw [if_pos (by rcases h with h | h <;> simp [h])]
  · rw [exec_protocolException, exec_rxFrameError]
    unfold execProtocolException execRxFrameError
    dsimp only
    rw [if_neg (by simp [hon]), if_pos hp, if_pos hon]
    rfl
  · rw [exec_protocolException]; unfold execProtocolException; dsimp only; rw [if_pos (by simp [hoff])]
  · rw [exec_sleepEntry]
    unfold execSleepEntry
    dsimp only
    rw [if_pos (by simp [h, hr])]
    exact ⟨_, rfl, (modCan_fld _ _ _ _).trans (put_state s (by decide)), by rw [canSt_modCan_self], State.put_mem s (F.CFD_STAT_STATE c) canSleep⟩
  · rw [exec_sleepEntry]; unfold execSleepEntry; dsimp only; rw [if_neg (by rcases h with h | h <;> simp [h])]

/-! ### Waking up -/

/-- A controller that wakes: its state, its cause, its flag, its event. -/
theorem canWake_spec (c : Fin 8) {cause : Nat} (hcause : cause < 4) (id : Nat) (s : State) : let t := canWake c cause id s
    canState t c = canIntegrating ∧ t.fld (F.CFD_STAT_WCAUSE c) = cause ∧ t.flag (F.CFD_STAT_WAKEF c) = true ∧ LastEvent t 0x8045 0x33 := by
  have hs : (0x270008 + 0x1000 * c.val) / 0x10000 = 0x27 := canReg_block (k := 8) c.isLt (by decide)
  unfold canWake canState State.flag F.CFD_STAT_STATE F.CFD_STAT_WAKEF F.CFD_STAT_WCAUSE
  refine ⟨?_, ?_, ?_, lastEvent_canIrq _ _ _ (lastEvent_canEvent (by decide) _ _ _ _ _ _)⟩
  · rw [canIrq_fld, canEvent_fld (by decide) _ _ _ _ _ _ _ hs]
    simp (disch := omega) only [fld_put_lit, fld_put_lit_self]
    rfl
  · rw [canIrq_fld, canEvent_fld (by decide) _ _ _ _ _ _ _ hs]
    simp (disch := omega) only [fld_put_lit_self]
    exact Nat.mod_eq_of_lt hcause
  · rw [canIrq_fld, canEvent_fld (by decide) _ _ _ _ _ _ _ hs]
    simp (disch := omega) only [fld_put_lit, fld_put_lit_self]
    decide

/-- What a frame on the bus does to a controller in SLEEP. -/
theorem wakeUps (c : Fin 8) (f : CanFrame) (s : State) :
    (∀ g e, canState s c ≠ canSleep → exec (.wakeUpFrame c g e) s = .next s)
    ∧ (canState s c = canSleep →
      (∀ e, wakeMatches s c f = true → ∃ t, exec (.wakeUpFrame c (some f) e) s = .next t ∧ canState t c = canIntegrating ∧ t.fld (F.CFD_STAT_WCAUSE c) = 1
        ∧ t.flag (F.CFD_STAT_WAKEF c) = true ∧ LastEvent t 0x8045 0x33)
      ∧ (wakeMatches s c f = false → f.fdf = false → exec (.wakeUpFrame c (some f) false) s = .next (modCan c (fun x => { x with errs := x.errs - 1 }) s))
      ∧ ((canSt s c).errs < 31 → exec (.wakeUpFrame c none true) s = .next (modCan c (fun x => { x with errs := x.errs + 1 }) s))
      ∧ (31 ≤ (canSt s c).errs → ∃ t, exec (.wakeUpFrame c none true) s = .next t ∧ canState t c = canIntegrating ∧ t.fld (F.CFD_STAT_WCAUSE c) = 2)
      ∧ exec (.wakeUpFrame c none false) s = .next s) := by
  refine ⟨fun g e h => ?_, fun h => ⟨fun e hm => ?_, fun hm hf => ?_, fun hn => ?_, fun hn => ?_, ?_⟩⟩
  all_goals
    rw [exec_wakeUpFrame]
    unfold execWakeUpFrame
    dsimp only
  · rw [if_pos h]
  · rw [if_neg (by simp [h]), if_pos hm]
    exact ⟨_, rfl, canWake_spec c (by decide) _ s⟩
  · rw [if_neg (by simp [h]), if_neg (by simp [hm]), if_neg (by simp [hf]), if_pos (by decide)]
    rfl
  · rw [if_neg (by simp [h]), if_neg (by decide), if_neg (by omega)]
    rfl
  · rw [if_neg (by simp [h]), if_neg (by decide), if_pos hn]
    obtain ⟨w1, w2, -, -⟩ := canWake_spec c (cause := 2) (by decide) 0 (modCan c (fun x => { x with errs := 32 }) s)
    exact ⟨_, rfl, w1, w2⟩
  · rw [if_neg (by simp [h]), if_pos (by decide)]

/-! ### Commands -/

theorem bitAt_two_pow (b k : Nat) : bitAt (2 ^ b) k = decide (b = k) := Nat.testBit_two_pow

theorem foldl_one {f : State → Nat → State} {b : Nat} (hb : b < 3) (h : ∀ k, k ≠ b → ∀ s, f s k = s) (s : State) : (List.range 3).foldl f s = f s b := by
  have hr : List.range 3 = [0, 1, 2] := rfl
  rw [hr]
  interval_cases b <;> simp [h]

theorem canRequest_one {c b : Nat} (hb : b < 3) (s : State) : canRequest c (2 ^ b) s = if canPending s c b then s
    else if s.flag (F.CFD_TX_CTL_FDF c b) && s.flag (F.CFD_TX_ID_RTR c b) then abandon c b 0 3 s
    else modCan c (fun x => { x with order := x.order ++ [b], tries := spSet 0 b 0 x.tries }) (s.put (F.CFD_TXREQ_REQ c) (s.fld (F.CFD_TXREQ_REQ c) ||| 2 ^ b)) := by
  unfold canRequest
  rw [foldl_one hb fun k hk s => by rw [if_pos]; rw [bitAt_two_pow, decide_eq_false (Ne.symm hk)]; rfl]
  rw [bitAt_two_pow, decide_eq_true rfl]
  rfl

theorem canAbort_one {c b : Nat} (hb : b < 3) (s : State) : canAbort c (2 ^ b) s = if canPending s c b = false then s
    else if (canSt s c).cur = some b then s.put (F.CFD_TXREQ_ABORT c) (s.fld (F.CFD_TXREQ_ABORT c) ||| 2 ^ b)
    else endBuffer c b (F.CFD_TXSTAT_ABRT c) s := by
  unfold canAbort
  rw [foldl_one hb fun k hk s => by rw [if_pos]; rw [bitAt_two_pow, decide_eq_false (Ne.symm hk)]; rfl]
  rw [bitAt_two_pow, decide_eq_true rfl]
  cases canPending s c b <;> rfl

theorem requests (c : Fin 8) (b : Fin 3) (s : State) : (canPending s c b = true → canRequest c (2 ^ b.val) s = s)
    ∧ (canPending s c b = false → (s.flag (F.CFD_TX_CTL_FDF c b) = false ∨ s.flag (F.CFD_TX_ID_RTR c b) = false) →
      canPending (canRequest c (2 ^ b.val) s) c b = true ∧ (canSt (canRequest c (2 ^ b.val) s) c).order = (canSt s c).order ++ [b.val])
    ∧ (canPending s c b = false → s.flag (F.CFD_TX_CTL_FDF c b) = true → s.flag (F.CFD_TX_ID_RTR c b) = true →
      bitAt ((canRequest c (2 ^ b.val) s).fld (F.CFD_TXSTAT_ABND c)) b = true ∧ LastEvent (canRequest c (2 ^ b.val) s) 0x8043 0x33) := by
  rw [canRequest_one b.isLt]
  refine ⟨fun h => if_pos h, fun h hne => ?_, fun h h1 h2 => ?_⟩
  · rw [if_neg (by simp [h]), if_neg (by rcases hne with h | h <;> simp [h])]
    refine ⟨?_, by rw [canSt_modCan_self, canSt_put]⟩
    unfold canPending
    rw [modCan_fld, bitAt_fld_put (f := F.CFD_TXREQ_REQ c) (by show 2 = 0 + 2 ∧ 2 < 32; decide) b.isLt, Nat.testBit_or, Nat.testBit_two_pow_self, Bool.or_true]
  · rw [if_neg (by simp [h]), if_pos (by simp [h1, h2])]
    obtain ⟨-, -, h3, -, h4⟩ := ended_abandon (c := c) b.isLt 0 3 s
    exact ⟨h3, h4⟩

theorem aborts (c : Fin 8) (b : Fin 3) (s : State) : (canPending s c b = false → canAbort c (2 ^ b.val) s = s)
    ∧ (canPending s c b = true → (canSt s c).cur = some b.val → canPending (canAbort c (2 ^ b.val) s) c b = true
      ∧ bitAt ((canAbort c (2 ^ b.val) s).fld (F.CFD_TXREQ_ABORT c)) b = true)
    ∧ (canPending s c b = true → (canSt s c).cur ≠ some b.val → canPending (canAbort c (2 ^ b.val) s) c b = false
      ∧ bitAt ((canAbort c (2 ^ b.val) s).fld (F.CFD_TXSTAT_ABRT c)) b = true) := by
  rw [canAbort_one b.isLt]
  refine ⟨fun h => if_pos h, fun h hcur => ?_, fun h hcur => ?_⟩
  · rw [if_neg (by simp [h]), if_pos hcur]
    refine ⟨?_, ?_⟩
    · unfold canPending at h ⊢
      rw [fld_put_apart s (F.CFD_TXREQ_ABORT c) (F.CFD_TXREQ_REQ c) _ (by show 4 ≤ 6; decide) (by show 6 < 32; decide) (by show 2 < 4 ∨ 6 < 0; decide)]
      exact h
    · rw [bitAt_fld_put (f := F.CFD_TXREQ_ABORT c) (by show 6 = 4 + 2 ∧ 6 < 32; decide) b.isLt, Nat.testBit_or, Nat.testBit_two_pow_self, Bool.or_true]
  · rw [if_neg (by simp [h]), if_neg hcur]
    have hd := ended_endBuffer b.isLt (resultField_abrt c) s
    exact ⟨hd.done, hd.result⟩

theorem stateCommands (c : Fin 8) (s : State) :
    canCmdWritten c 1 s = (if canState s c = canActive ∨ canState s c = canPassive then s.put (F.CFD_STAT_STATE c) canSleepPending else s)
    ∧ (canState s c = canSleepPending → canCmdWritten c 2 s = s.put (F.CFD_STAT_STATE c) canIntegrating)
    ∧ (canState s c = canSleep → canState (canCmdWritten c 2 s) c = canIntegrating ∧ (canCmdWritten c 2 s).fld (F.CFD_STAT_WCAUSE c) = 3)
    ∧ (canState s c = canBusOff → s.flag (F.CFD_CTRL_ABOR c) = false → (canSt (canCmdWritten c 4 s) c).recovering = true)
    ∧ (canState s c ≠ canInit → ∀ d, ecsetWritten c d s = s)
    ∧ (canState s c = canInit → ∀ tec rec', tec < 512 → rec' < 256 → ecsetWritten c (tec + 512 * rec' + 2 ^ 31) s = setCounts c tec rec' s) := by
  have b1 : bitAt 1 0 = true ∧ bitAt 1 1 = false ∧ bitAt 1 2 = false := by decide
  have b2 : bitAt 2 0 = false ∧ bitAt 2 1 = true ∧ bitAt 2 2 = false := by decide
  have b4 : bitAt 4 0 = false ∧ bitAt 4 1 = false ∧ bitAt 4 2 = true := by decide
  refine ⟨?_, fun h => ?_, fun h => ?_, fun h ha => ?_, fun h d => ?_, fun h tec rec' ht hr => ?_⟩
  · unfold canCmdWritten
    simp [b1]
  · unfold canCmdWritten
    simp [b2, h]
  · have e : canCmdWritten c 2 s = (s.put (F.CFD_STAT_STATE c) canIntegrating).put (F.CFD_STAT_WCAUSE c) 3 := by
      unfold canCmdWritten
      simp [b2, h, show ¬ canSleep = canSleepPending by decide]
    rw [e]
    unfold canState F.CFD_STAT_STATE F.CFD_STAT_WCAUSE
    simp (disch := omega) only [fld_put_lit, fld_put_lit_self]
    exact ⟨rfl, rfl⟩
  · unfold canCmdWritten
    simp [b4, h, ha, canSt_modCan_self]
  · unfold ecsetWritten
    rw [if_neg (by simp [h])]
  · have h31 : bitAt (tec + 512 * rec' + 2 ^ 31) 31 = true := by
      unfold bitAt
      rw [Nat.testBit_eq_decide_div_mod_eq]
      simp only [decide_eq_true_eq]
      omega
    unfold ecsetWritten
    rw [if_pos (by rw [h31, decide_eq_true h]; rfl), show (tec + 512 * rec' + 2 ^ 31) % 512 = tec by omega, show (tec + 512 * rec' + 2 ^ 31) / 512 % 256 = rec' by omega]

/-- Settles O54: counters, arbitration, attempts, received frames and their errors, states, wake-ups and commands. -/
theorem canControllers : Obligations.CanControllers := by
  unfold Obligations.CanControllers
  refine ⟨countersChange, arbitrations, fun c o ago v s h => attempt_none o h, attemptOutcomes, fun c f ago s => ?_, rxErrors, stateMoves, wakeUps, fun c b s => ?_⟩
  · exact ⟨fun h => exec_rxFrameValid_off h f ago, rx_low c f ago s, rx_high c f ago s, rx_wake c f ago s, storeFrame_none,
      fun o v ho h hlow hsel hw _ => rx_stored c ho h hlow hsel hw⟩
  · obtain ⟨r1, r2, r3⟩ := requests c b s
    obtain ⟨a1, a2, a3⟩ := aborts c b s
    exact ⟨r1, r2, r3, a1, a2, a3, stateCommands c s⟩

end Sys2Proof.Machine
end

section
/-! Writes of plain read-write words of which a writer may write some fields only (R10, R12, R14). -/

namespace Sys2Proof.Machine

theorem PlainFields.tail {f : FieldDef} {fs : List FieldDef} (h : PlainFields (f :: fs)) : PlainFields fs :=
  ⟨fun g hg => h.acc g (List.mem_cons_of_mem _ hg), fun g hg => h.bits g (List.mem_cons_of_mem _ hg), (List.pairwise_cons.1 h.apart).2⟩

/-- A plain access gives its data and triggers nothing. -/
theorem plainAccess {a : Acc} (h : a = .rw ∨ a = .rwl) (old d : Nat) : fieldNew a 0 old d = d ∧ fieldTrig a 0 d = 0 ∧ a ≠ .wos := by
  rcases h with rfl | rfl <;> exact ⟨rfl, rfl, by decide⟩

/-- Of fields that may be written, those that would change are not locked: each is stored. -/
theorem writeFields_partly {s : State} {off data : Nat} {may : FieldDef → Bool} {locked : FieldDef → Nat → Bool} {fs : List FieldDef} (hfs : PlainFields fs) (w : WordWrite)
    (hfree : ∀ f ∈ fs, may f = true → slice data f.hi f.lo = slice w.new f.hi f.lo ∨ accLocked s off f = false ∧ locked f (slice data f.hi f.lo) = false) :
    writeFields s off 0 data may locked fs w = { w with new := storedWord data (fs.filter may) w.new } := by
  induction fs generalizing w with
  | nil => rfl
  | cons f fs ih =>
    by_cases hm : may f = true
    · have hnew (g : FieldDef) (hg : g ∈ fs) : slice (insertBits w.new f.hi f.lo (slice data f.hi f.lo)) g.hi g.lo = slice w.new g.hi g.lo :=
        slice_insertBits_apart _ _ _ _ _ _ (by have := hfs.bits f List.mem_cons_self; omega) (.inr ((List.pairwise_cons.1 hfs.apart).1 g hg))
      have hrest := ih hfs.tail { w with new := insertBits w.new f.hi f.lo (slice data f.hi f.lo) } fun g hg hmg => by
        rw [hnew g hg]
        exact hfree g (List.mem_cons_of_mem _ hg) hmg
      obtain ⟨h1, h2, h3⟩ := plainAccess (hfs.acc f List.mem_cons_self) (slice w.new f.hi f.lo) (slice data f.hi f.lo)
      rw [writeFields, List.filter_cons_of_pos hm]
      dsimp only
      rw [if_neg (by rw [hm]; decide), h1, h2, if_neg]
      · simpa [h3, storedWord] using hrest
      · rcases hfree f List.mem_cons_self hm with e | ⟨e1, e2⟩
        · simp [e]
        · simp [e1, e2]
    · rw [writeFields, List.filter_cons_of_neg (by simpa using hm)]
      simp only [hm, Bool.not_false, if_true]
      exact ih hfs.tail w fun g hg hmg => hfree g (List.mem_cons_of_mem _ hg) hmg

theorem PlainFields.filter {fs : List FieldDef} (h : PlainFields fs) (p : FieldDef → Bool) : PlainFields (fs.filter p) :=
  ⟨fun f hf => h.acc f (List.mem_filter.1 hf).1, fun f hf => h.bits f (List.mem_filter.1 hf).1, h.apart.sublist List.filter_sublist⟩

/-- A field that the writer may not write keeps its value. -/
theorem slice_storedWord_kept {fs : List FieldDef} (h : PlainFields fs) (p : FieldDef → Bool) (data was : Nat) {f : FieldDef} (hf : f ∈ fs) (hp : p f = false) :
    slice (storedWord data (fs.filter p) was) f.hi f.lo = slice was f.hi f.lo := by
  refine slice_storedWord_apart (h.filter p).bits data was fun g hg => ?_
  obtain ⟨hg, hpg⟩ := List.mem_filter.1 hg
  have hne : f ≠ g := fun e => by rw [e, hpg] at hp; cases hp
  have hs := List.pairwise_iff_getElem.1 h.apart
  obtain ⟨i, hi, rfl⟩ := List.mem_iff_getElem.1 hf
  obtain ⟨j, hj, rfl⟩ := List.mem_iff_getElem.1 hg
  rcases Nat.lt_trichotomy i j with hij | rfl | hij
  · exact .inl (hs i j hi hj hij)
  · exact absurd rfl hne
  · exact .inr (hs j i hj hi hij)

theorem applyWord_partly {off : Nat} {fs : List FieldDef} (h : StoredReg off fs) {s : State} {w : RegWr} (hk : w.kind = 0)
    (hany : ∃ f ∈ fs, mayWrite w.oid off f = true)
    (hfree : ∀ f ∈ fs, mayWrite w.oid off f = true → slice w.data f.hi f.lo = slice (s.reg off).toNat f.hi f.lo
      ∨ accLocked s off f = false ∧ chapterLocked s w off f (slice w.data f.hi f.lo) = false) :
    applyWord w off s = (true, regWritten s w off (s.reg off).toNat { new := storedWord w.data (fs.filter (mayWrite w.oid off)) (s.reg off).toNat }
      (storedIn off (storedWord w.data (fs.filter (mayWrite w.oid off)) (s.reg off).toNat) s)) := by
  obtain ⟨d, hd, hfs⟩ := Option.map_eq_some_iff.1 h.word.found
  have hal := alwaysLocked_stored h s w
  have hmayAny : mayAny w.oid off = true := by
    obtain ⟨f, hf, hm⟩ := hany
    unfold mayAny
    rw [hd]
    dsimp only
    rw [hfs]
    exact List.any_eq_true.2 ⟨f, hf, hm⟩
  generalize hv : storedWord w.data (fs.filter (mayWrite w.oid off)) (s.reg off).toNat = v
  have hword : wordWrite w off d s = { new := v } := by
    unfold wordWrite
    simp only [hal, Bool.false_eq_true, if_false, hk, hfs]
    rw [← hv]
    exact writeFields_partly h.fields { new := (s.reg off).toNat } hfree
  have hcount (t : State) : countChange w off (s.reg off).toNat { new := v } t = t := by
    unfold countChange
    simp [h.rule, h.open_.1]
  have hstore : (if selfStored off || (v = (s.reg off).toNat && decide True) then s else storeWord off { new := v } s) = storedIn off v s := by
    unfold storedIn storeWord
    rw [h.norm, h.self]
    simp only [Bool.false_or, decide_true, Bool.and_true, decide_eq_true_eq, List.map_nil, List.append_nil]
    rfl
  unfold applyWord
  simp only [hd, if_neg h.word.plain, hword, hcount, hstore, hmayAny, hal, Bool.not_false, Option.isNone_none, Bool.true_or, Bool.and_self, if_true]

/-- An admitted write of a plain word stores the fields that the writer may write and reaches its block's work. -/
theorem writeReg_partly {oid : BitVec 10} {ctx : BitVec 6} {off data : Nat} {fs : List FieldDef} {s : State} (h : StoredReg off fs) (had : Admitted oid ctx off s)
    (hd : data < 2 ^ 32) (hany : ∃ f ∈ fs, mayWrite oid.toNat off f = true)
    (hfree : ∀ f ∈ fs, mayWrite oid.toNat off f = true → slice data f.hi f.lo = slice (s.reg off).toNat f.hi f.lo
      ∨ accLocked s off f = false ∧ chapterLocked s (wordWr oid.toNat ctx.toNat off data 0) off f (slice data f.hi f.lo) = false) :
    writeReg oid ctx off data s = writeDone oid.toNat (true, regWritten s (wordWr oid.toNat ctx.toNat off data 0) off (s.reg off).toNat
      { new := storedWord data (fs.filter (mayWrite oid.toNat off)) (s.reg off).toNat }
      (storedIn off (storedWord data (fs.filter (mayWrite oid.toNat off)) (s.reg off).toNat) s)) := by
  rw [writeReg_plain h.word had hd, applyWord_partly h rfl hany hfree]
  rfl

/-- A one-bit field is the bit of its register. -/
theorem flag_bit (s : State) (r k : Nat) : s.flag ⟨r, k, k⟩ = bitAt (s.reg r).toNat k := by
  unfold State.flag State.fld bitAt slice
  rw [Nat.testBit_eq_decide_div_mod_eq, show k + 1 - k = 1 by omega]
  have : (s.reg r).toNat / 2 ^ k % 2 < 2 := Nat.mod_lt _ (by decide)
  simp only [pow_one, decide_not]
  rw [← decide_not]
  exact decide_eq_decide.2 (by omega)

end Sys2Proof.Machine
end

section
/-! Enabling, acknowledging and tearing down a context, and enabling the scheduler (R258, R267, R275). -/

namespace Sys2Proof.Machine

/-! ### The configuration word of a context -/

def ctxFields : List FieldDef := [⟨3, 0, .rwl, 0x0, 3⟩, ⟨4, 4, .rwl, 0x0, 3⟩, ⟨6, 5, .rwl, 0x0, 3⟩, ⟨7, 7, .rwl, 0x0, 2⟩, ⟨13, 8, .rwl, 0x0, 3⟩, ⟨21, 14, .rwl, 0x10, 3⟩]

theorem plainFields_ctx : PlainFields ctxFields := ⟨by decide, by decide, by decide⟩

theorem block_ctxCfg (n : Fin 64) : Reg.SCH_CTX_CFG n / 0x10000 = 3 := by have := n.isLt; unfold Reg.SCH_CTX_CFG; omega

theorem storedReg_ctx (n : Fin 64) : StoredReg (Reg.SCH_CTX_CFG n) ctxFields :=
  storedReg_of plainFields_ctx (block_ctxCfg n) (by decide) (by revert n; decide +kernel)

theorem schWritten_ctxCfg (s0 : State) (n : Fin 64) (was trig : Nat) (t : State) : schWritten s0 (Reg.SCH_CTX_CFG n) was trig t = ctxEnWritten n (bitAt was 4) t := by
  have hn := n.isLt
  have h0 : Reg.SCH_CTX_CFG n ≠ Reg.SCH_CTRL ∧ Reg.SCH_CTX_CFG n ≠ Reg.SCH_UNITCMD ∧ Reg.SCH_CTX_CFG n ≠ Reg.SCH_OWN_CMD := by
    unfold Reg.SCH_CTX_CFG Reg.SCH_CTRL Reg.SCH_UNITCMD Reg.SCH_OWN_CMD; omega
  obtain ⟨e1, e2, e3⟩ := h0
  have h1 : Reg.SCH_CTX_CFG n % 0x10000 = 0x1008 + 0x20 * n := by unfold Reg.SCH_CTX_CFG; omega
  unfold schWritten
  dsimp only
  rw [if_neg e1, if_neg e2, if_neg e3, h1, if_pos (by simp; omega), if_pos (by omega), show (0x1008 + 0x20 * n.val - 0x1000) / 0x20 = n by omega]

theorem lockOf_sch {off : Nat} (h : off / 0x10000 = 3) : lockOf off = (Reg.SCH_LOCK, 0) := by
  have e1 : off ≠ Reg.SYS_STRICT := by rintro rfl; cases h
  have e2 : off ≠ Reg.SYS_XPEN := by rintro rfl; cases h
  unfold lockOf
  dsimp only
  rw [if_neg e1, if_neg e2, h]
  rfl

/-- Which of the fields a writer may write: all but SAFE, which is Heartwood's. -/
theorem mayWrite_ctx {oid : BitVec 10} (ho : oid.toNat ≤ 1) (n : Fin 64) {f : FieldDef} (hf : f ∈ ctxFields) :
    mayWrite oid.toNat (Reg.SCH_CTX_CFG n) f = true ↔ f.lo ≠ 7 ∨ oid = 1 := by
  have hoid : oid = 0 ∨ oid = 1 := by
    rcases Nat.le_one_iff_eq_zero_or_eq_one.1 ho with h | h
    · exact .inl (BitVec.eq_of_toNat_eq h)
    · exact .inr (BitVec.eq_of_toNat_eq h)
  have hown : ownWriter oid.toNat (Reg.SCH_CTX_CFG n) f.lo = false := by
    have hb := block_ctxCfg n
    have e1 : Reg.SCH_CTX_CFG n ≠ Reg.HWD_KICK := fun e => by rw [e] at hb; cases hb
    have e2 : Reg.SCH_CTX_CFG n ≠ Reg.CMB_COMMIT := fun e => by rw [e] at hb; cases hb
    unfold ownWriter
    rw [if_neg (by simp [e1, e2]), hb]
    rfl
  unfold mayWrite
  rw [hown, Bool.or_false]
  clear hown
  rcases hoid with rfl | rfl <;> revert f <;> decide

/-- A slice as a quotient and a remainder. -/
theorem slice_eq (x hi lo d m : Nat) (hd : 2 ^ lo = d := by decide) (hm : 2 ^ (hi + 1 - lo) = m := by decide) : slice x hi lo = x / d % m := by
  subst hd hm
  unfold slice
  rw [Nat.shiftRight_eq_div_pow]

/-- The write of an unlocked configuration word stores it and reaches the context. -/
theorem ctxCfg_written {oid : BitVec 10} {ctx : BitVec 6} {n : Fin 64} {data : BitVec 32} {s : State} (had : Admitted oid ctx (Reg.SCH_CTX_CFG n) s) (ho : oid.toNat ≤ 1)
    (hlock : s.flag F.SCH_LOCK_LOCK = false) (hq : s.flag (F.SCH_CTX_CFG_EN n) = false ∨ data.toNat % 16 = s.fld (F.SCH_CTX_CFG_QSZ n)) :
    ∃ u, RegsOnly [Reg.SCH_CTX_CFG n] s u ∧ u.flag (F.SCH_CTX_CFG_EN n) = data.getLsbD 4 ∧ u.fld (F.SCH_CTX_CFG_QSZ n) = data.toNat % 16
      ∧ u.fld (F.SCH_CTX_CFG_PRIO n) = data.toNat / 32 % 4 ∧ u.fld (F.SCH_CTX_CFG_SHARE n) = data.toNat / 2 ^ 14 % 256
      ∧ u.fld (F.SCH_CTX_CFG_SAFE n) = (if oid = 1 then data.toNat / 128 % 2 else s.fld (F.SCH_CTX_CFG_SAFE n))
      ∧ exec (.contextEnable oid ctx n data) s = .next (writeDone oid.toNat (true, ctxEnWritten n (s.flag (F.SCH_CTX_CFG_EN n)) u)) := by
  have hb := block_ctxCfg n
  have hstored := storedReg_ctx n
  have hmay {f : FieldDef} (hf : f ∈ ctxFields) := mayWrite_ctx ho n hf
  have hlk : bitAt (s.reg (lockOf (Reg.SCH_CTX_CFG n)).1).toNat (lockOf (Reg.SCH_CTX_CFG n)).2 = false := by
    rw [lockOf_sch hb, ← hlock]
    exact (flag_bit_zero s Reg.SCH_LOCK).symm
  have hfree : ∀ f ∈ ctxFields, mayWrite oid.toNat (Reg.SCH_CTX_CFG n) f = true → slice data.toNat f.hi f.lo = slice (s.reg (Reg.SCH_CTX_CFG n)).toNat f.hi f.lo
      ∨ accLocked s (Reg.SCH_CTX_CFG n) f = false ∧ chapterLocked s (wordWr oid.toNat ctx.toNat (Reg.SCH_CTX_CFG n) data.toNat 0) (Reg.SCH_CTX_CFG n) f (slice data.toNat f.hi f.lo) = false := by
    intro f hf
    have hacc : f.acc = .rwl := by revert f hf; decide
    have hhi : f.lo = 0 → f.hi = 3 := by clear hacc; revert f hf; decide
    intro _
    have hchap : chapterLocked s (wordWr oid.toNat ctx.toNat (Reg.SCH_CTX_CFG n) data.toNat 0) (Reg.SCH_CTX_CFG n) f (slice data.toNat f.hi f.lo)
        = (decide (f.lo = 0) && s.flag (F.SCH_CTX_CFG_EN n)) := by
      have hn := n.isLt
      have h1 : Reg.SCH_CTX_CFG n % 0x10000 = 0x1008 + 0x20 * n := by unfold Reg.SCH_CTX_CFG; omega
      have e3 : Reg.SCH_CTX_CFG n ≠ Reg.SCH_OWN_CMD := by unfold Reg.SCH_CTX_CFG Reg.SCH_OWN_CMD; omega
      rw [chapterLocked_of_block hb (by omega)]
      unfold schLocked
      dsimp only
      rw [if_pos rfl, if_neg e3, h1, if_pos (by simp; omega), show (0x1008 + 0x20 * n.val) % 0x20 = 8 by omega,
        show (0x1008 + 0x20 * n.val - 0x1000) / 0x20 = n by omega]
      rfl
    by_cases hlo : f.lo = 0
    · rcases hq with h | h
      · exact .inr ⟨by unfold accLocked; rw [hacc]; exact hlk, by rw [hchap, h, Bool.and_false]⟩
      · rw [hlo, hhi hlo]
        exact .inl ((slice_eq data.toNat 3 0 1 16).trans ((congrArg (· % 16) (Nat.div_one _)).trans h))
    · exact .inr ⟨by unfold accLocked; rw [hacc]; exact hlk, by rw [hchap, decide_eq_false hlo]; rfl⟩
  have hwrite := writeReg_partly hstored had data.isLt ⟨⟨3, 0, .rwl, 0x0, 3⟩, by decide, (hmay (by decide)).2 (.inl (by decide))⟩ hfree
  have hfs := plainFields_ctx.filter (mayWrite oid.toNat (Reg.SCH_CTX_CFG n))
  generalize hv : storedWord data.toNat (ctxFields.filter (mayWrite oid.toNat (Reg.SCH_CTX_CFG n))) (s.reg (Reg.SCH_CTX_CFG n)).toNat = v at hwrite
  have hlt : v < 2 ^ 32 := by rw [← hv]; exact storedWord_lt hfs.bits data.toNat (s.reg (Reg.SCH_CTX_CFG n)).isLt
  have hreg := reg_storedIn (off := Reg.SCH_CTX_CFG n) hlt s
  have hslice (f : FieldDef) (hf : f ∈ ctxFields) (hm : f.lo ≠ 7 ∨ oid = 1) : slice v f.hi f.lo = slice data.toNat f.hi f.lo := by
    rw [← hv]
    exact slice_storedWord hfs data.toNat _ (List.mem_filter.2 ⟨hf, (hmay hf).2 hm⟩)
  have hfld (hi lo : Nat) : (storedIn (Reg.SCH_CTX_CFG n) v s).fld ⟨Reg.SCH_CTX_CFG n, hi, lo⟩ = slice v hi lo := by unfold State.fld; rw [hreg]
  refine ⟨_, regsOnly_storedIn _ v s, ?_, ?_, ?_, ?_, ?_, ?_⟩
  · rw [show F.SCH_CTX_CFG_EN n = ⟨Reg.SCH_CTX_CFG n, 4, 4⟩ from rfl]
    unfold State.flag
    rw [hfld, hslice ⟨4, 4, .rwl, 0x0, 3⟩ (by decide) (.inl (by decide)), slice_eq _ 4 4 16 2, ← BitVec.testBit_toNat, Nat.testBit_eq_decide_div_mod_eq]
    exact decide_eq_decide.2 (by omega)
  · refine (hfld 3 0).trans ((hslice ⟨3, 0, .rwl, 0x0, 3⟩ (by decide) (.inl (by decide))).trans ?_)
    rw [slice_eq _ 3 0 1 16, Nat.div_one]
  · exact (hfld 6 5).trans ((hslice ⟨6, 5, .rwl, 0x0, 3⟩ (by decide) (.inl (by decide))).trans (slice_eq _ 6 5 32 4))
  · exact (hfld 21 14).trans ((hslice ⟨21, 14, .rwl, 0x10, 3⟩ (by decide) (.inl (by decide))).trans (slice_eq _ 21 14 (2 ^ 14) 256))
  · refine (hfld 7 7).trans ?_
    by_cases h1 : oid = 1
    · rw [if_pos h1]
      exact (hslice ⟨7, 7, .rwl, 0x0, 2⟩ (by decide) (.inr h1)).trans (slice_eq _ 7 7 128 2)
    · rw [if_neg h1, ← hv]
      refine slice_storedWord_kept plainFields_ctx _ data.toNat _ (f := ⟨7, 7, .rwl, 0x0, 2⟩) (by decide) ?_
      exact Bool.eq_false_iff.2 fun h => ((hmay (f := ⟨7, 7, .rwl, 0x0, 2⟩) (by decide)).1 h).elim (fun h => h rfl) h1
  · have hrw (x : WordWrite) (t : State) : regWritten s (wordWr oid.toNat ctx.toNat (Reg.SCH_CTX_CFG n) data.toNat 0) (Reg.SCH_CTX_CFG n) (s.reg (Reg.SCH_CTX_CFG n)).toNat x t
        = ctxEnWritten n (s.flag (F.SCH_CTX_CFG_EN n)) t := by
      rw [show F.SCH_CTX_CFG_EN n = ⟨Reg.SCH_CTX_CFG n, 4, 4⟩ from rfl, flag_bit]
      unfold regWritten
      simp only [hb]
      exact schWritten_ctxCfg s n _ _ t
    rw [exec_contextEnable]
    unfold execContextEnable
    rw [hwrite, hrw]

end Sys2Proof.Machine
end

section
/-! The obligation about the commands of contexts and the scheduler's enable (R258, R267, R275). -/

namespace Sys2Proof.Machine

theorem sched_answer (s : State) (oid : Nat) (wr : Bool) (st : RespSt) (d : List Byte) : (s.answer oid wr st d).sched = s.sched := by
  unfold State.answer
  split <;> rfl

/-- What the answer of an obeyed command leaves. -/
theorem obeyed_quiet {t : State} (oid : BitVec 10) (hc : Calm t) : (∀ o, (obeyed oid t).reg o = t.reg o) ∧ (obeyed oid t).mem = t.mem ∧ (obeyed oid t).sched = t.sched := by
  have h : obeyed oid t = t.answer oid.toNat true .ok [] := hwdServe_answer hc _ _ _ _
  rw [h]
  exact ⟨fun o => reg_answer _ _ _ _ _ o, mem_answer _ _ _ _ _, sched_answer _ _ _ _ _⟩

/-! ### The queue of a context -/

section
variable {c : Nat} {s : State}

/-- A queue with nothing in it is restarted by moving its head only. -/
theorem restartQueue_idle (hp : queuePending s c = 0) (hj : ∀ j ∈ s.sched.jobs, j.ctx = c → j.phase ≠ .queued) :
    restartQueue c s = s.put (F.SCH_CTX_HEAD_HEAD c) (s.fld (F.SCH_CTX_TAIL_TAIL c)) := by
  have hl : (s.sched.jobs.filter fun j => j.ctx = c && j.phase = .queued) = [] := by
    refine List.filter_eq_nil_iff.2 fun j hm => ?_
    simp only [Bool.and_eq_true, decide_eq_true_eq, not_and]
    exact hj j hm
  unfold restartQueue discardQueued discardQueue
  rw [hl]
  simp only [List.filter_nil, List.length_nil, List.foldl_nil, hp, Nat.zero_min, Nat.zero_sub, List.range_zero]

/-- A restarted queue is empty: its head is its tail. -/
theorem restartQueue_put (c : Nat) (s : State) : ∃ w : State, restartQueue c s = w.put (F.SCH_CTX_HEAD_HEAD c) (w.fld (F.SCH_CTX_TAIL_TAIL c)) := by
  unfold restartQueue discardQueued discardQueue
  exact ⟨_, rfl⟩

theorem head_put (v : Nat) (hv : v < 2 ^ 32) : (s.put (F.SCH_CTX_HEAD_HEAD c) v).fld (F.SCH_CTX_HEAD_HEAD c) = v :=
  fld_put_fits s (F.SCH_CTX_HEAD_HEAD c) (by show 0 ≤ 31; decide) (by show 31 < 32; decide) hv

theorem tail_lt (s : State) : s.fld (F.SCH_CTX_TAIL_TAIL c) < 2 ^ 32 := fld_lt s (F.SCH_CTX_TAIL_TAIL c)

theorem ctxState_put {v : Nat} (hv : v < 4) : ctxState (s.put (F.SCH_CTX_STAT_STATE c) v) c = v :=
  fld_put_fits s (F.SCH_CTX_STAT_STATE c) (by show 0 ≤ 1; decide) (by show 1 < 32; decide) hv

/-- A word of a context that a change of its state or head leaves. -/
theorem fld_restarted (v w hi lo : Nat) {k : Nat} (h : k < 0x10) :
    ((s.put (F.SCH_CTX_HEAD_HEAD c) v).put (F.SCH_CTX_STAT_STATE c) w).fld ⟨0x31000 + k + 0x20 * c, hi, lo⟩ = s.fld ⟨0x31000 + k + 0x20 * c, hi, lo⟩ :=
  (fld_put_reg _ (F.SCH_CTX_STAT_STATE c) ⟨_, hi, lo⟩ _ (by show 0x31000 + k + 0x20 * c ≠ 0x31014 + 0x20 * c; omega)).trans
    (fld_put_reg _ (F.SCH_CTX_HEAD_HEAD c) ⟨_, hi, lo⟩ _ (by show 0x31000 + k + 0x20 * c ≠ 0x31010 + 0x20 * c; omega))

end

/-! ### Enabling a context -/

/-- The registers of a context's queue and state. -/
def CtxReg (o : Nat) : Prop := o / 0x10000 = 3

theorem not_ctxReg_hwd : ¬ CtxReg Reg.HWD_STATE := by unfold CtxReg; decide

section
variable {oid : BitVec 10} {ctx : BitVec 6} {n : Fin 64} {data : BitVec 32} {s u : State}

/-- What the write of a configuration word leaves. -/
structure CfgWritten (n : Fin 64) (s u : State) : Prop where
  only : ∀ o, o ≠ Reg.SCH_CTX_CFG n → u.reg o = s.reg o
  mem : u.mem = s.mem
  sched : u.sched = s.sched
  calm : Calm s → Calm u

theorem cfgWritten (h : RegsOnly [Reg.SCH_CTX_CFG n] s u) : CfgWritten n s u := by
  have hrest := h.1
  refine ⟨fun o ho => h.2 o (by simpa using ho), (congrArg State.mem hrest :), (congrArg State.sched hrest :), (regStep_of_only h).calm ?_⟩
  have := n.isLt
  simp [Reg.SCH_CTX_CFG, Reg.HWD_STATE]
  omega

theorem CfgWritten.state (h : CfgWritten n s u) : ctxState u n = ctxState s n :=
  fld_of_reg (F.SCH_CTX_STAT_STATE n) (h.only _ (by show 0x31014 + 0x20 * n.val ≠ 0x31008 + 0x20 * n.val; omega))

theorem CfgWritten.tail (h : CfgWritten n s u) : u.fld (F.SCH_CTX_TAIL_TAIL n) = s.fld (F.SCH_CTX_TAIL_TAIL n) :=
  fld_of_reg (F.SCH_CTX_TAIL_TAIL n) (h.only _ (by show 0x3100C + 0x20 * n.val ≠ 0x31008 + 0x20 * n.val; omega))

theorem CfgWritten.pending (h : CfgWritten n s u) : queuePending u n = queuePending s n := by
  unfold queuePending
  rw [h.tail, fld_of_reg (F.SCH_CTX_HEAD_HEAD n) (h.only _ (by show 0x31010 + 0x20 * n.val ≠ 0x31008 + 0x20 * n.val; omega))]

theorem ctxEnWritten_on (hen : u.flag (F.SCH_CTX_CFG_EN n) = true) (hst : ctxState u n = ctxDisabled) :
    ctxEnWritten n false u = (restartQueue n u).put (F.SCH_CTX_STAT_STATE n) ctxActive := by
  unfold ctxEnWritten
  simp [hen, hst]

theorem ctxEnWritten_off (hen : u.flag (F.SCH_CTX_CFG_EN n) = false) (hst : ctxState u n = ctxActive ∨ ctxState u n = ctxFaulted) :
    ctxEnWritten n true u = u.put (F.SCH_CTX_STAT_STATE n) ctxDisabled := by
  unfold ctxEnWritten
  simp [hen, hst]

theorem contextTurnsOn (hc : Calm s) (had : Admitted oid ctx (Reg.SCH_CTX_CFG n) s) (ho : oid.toNat ≤ 1) (hlock : s.flag F.SCH_LOCK_LOCK = false)
    (hoff : s.flag (F.SCH_CTX_CFG_EN n) = false) (hd : data.getLsbD 4 = true) (hst : ctxState s n = ctxDisabled) (hp : queuePending s n = 0)
    (hj : ∀ j ∈ s.sched.jobs, j.ctx = n.val → j.phase ≠ .queued) :
    ∃ t, exec (.contextEnable oid ctx n data) s = .next t ∧ ctxState t n = ctxActive ∧ t.mem = s.mem
      ∧ t.fld (F.SCH_CTX_HEAD_HEAD n) = s.fld (F.SCH_CTX_TAIL_TAIL n) ∧ t.fld (F.SCH_CTX_CFG_QSZ n) = data.toNat % 16
      ∧ t.fld (F.SCH_CTX_CFG_PRIO n) = data.toNat / 32 % 4 ∧ t.fld (F.SCH_CTX_CFG_SHARE n) = data.toNat / 2 ^ 14 % 256
      ∧ t.fld (F.SCH_CTX_CFG_SAFE n) = (if oid = 1 then data.toNat / 128 % 2 else s.fld (F.SCH_CTX_CFG_SAFE n))
      ∧ t.sched.jobs = s.sched.jobs := by
  obtain ⟨u, hu, hen, hqsz, hprio, hshare, hsafe, e⟩ := ctxCfg_written had ho hlock (.inl hoff)
  have hw := cfgWritten hu
  rw [hoff, ctxEnWritten_on (hen.trans hd) (hw.state.trans hst), restartQueue_idle (hw.pending.trans hp) (by rw [hw.sched]; exact hj), hw.tail] at e
  have hstep : RegStep CtxReg u ((u.put (F.SCH_CTX_HEAD_HEAD n) (s.fld (F.SCH_CTX_TAIL_TAIL n))).put (F.SCH_CTX_STAT_STATE n) ctxActive) := by
    have := n.isLt
    exact (RegStep.put u (f := F.SCH_CTX_HEAD_HEAD n) _ (by show (0x31010 + 0x20 * n.val) / 0x10000 = 3; omega)).trans
      (.put _ (f := F.SCH_CTX_STAT_STATE n) _ (by show (0x31014 + 0x20 * n.val) / 0x10000 = 3; omega))
  have hcfg (hi lo : Nat) := fld_restarted (c := n) (s := u) (s.fld (F.SCH_CTX_TAIL_TAIL n)) ctxActive hi lo (k := 8) (by decide)
  have hstate : ctxState ((u.put (F.SCH_CTX_HEAD_HEAD n) (s.fld (F.SCH_CTX_TAIL_TAIL n))).put (F.SCH_CTX_STAT_STATE n) ctxActive) n = ctxActive := ctxState_put (by decide)
  have hhead : ((u.put (F.SCH_CTX_HEAD_HEAD n) (s.fld (F.SCH_CTX_TAIL_TAIL n))).put (F.SCH_CTX_STAT_STATE n) ctxActive).fld (F.SCH_CTX_HEAD_HEAD n)
      = s.fld (F.SCH_CTX_TAIL_TAIL n) :=
    (fld_put_reg _ (F.SCH_CTX_STAT_STATE n) (F.SCH_CTX_HEAD_HEAD n) _ (by show 0x31010 + 0x20 * n.val ≠ 0x31014 + 0x20 * n.val; omega)).trans (head_put _ (tail_lt s))
  generalize (u.put (F.SCH_CTX_HEAD_HEAD n) (s.fld (F.SCH_CTX_TAIL_TAIL n))).put (F.SCH_CTX_STAT_STATE n) ctxActive = v at *
  obtain ⟨hreg, hmem, hsched⟩ := obeyed_quiet oid (hstep.calm not_ctxReg_hwd (hw.calm hc))
  have hf (f : RegField) : (obeyed oid v).fld f = v.fld f := fld_of_reg f (hreg _)
  refine ⟨obeyed oid v, e, (hf _).trans hstate, hmem.trans (hstep.mem.trans hw.mem), (hf _).trans hhead, ?_, ?_, ?_, ?_, ?_⟩
  · exact (hf _).trans ((hcfg 3 0).trans hqsz)
  · exact (hf _).trans ((hcfg 6 5).trans hprio)
  · exact (hf _).trans ((hcfg 21 14).trans hshare)
  · exact (hf _).trans ((hcfg 7 7).trans hsafe)
  · rw [hsched, hstep.sched, hw.sched]

theorem contextTurnsOff (hc : Calm s) (had : Admitted oid ctx (Reg.SCH_CTX_CFG n) s) (ho : oid.toNat ≤ 1) (hlock : s.flag F.SCH_LOCK_LOCK = false)
    (hon : s.flag (F.SCH_CTX_CFG_EN n) = true) (hd : data.getLsbD 4 = false) (hq : data.toNat % 16 = s.fld (F.SCH_CTX_CFG_QSZ n))
    (hst : ctxState s n = ctxActive ∨ ctxState s n = ctxFaulted) :
    ∃ t, exec (.contextEnable oid ctx n data) s = .next t ∧ ctxState t n = ctxDisabled ∧ t.sched = s.sched ∧ t.mem = s.mem := by
  obtain ⟨u, hu, hen, -, -, -, -, e⟩ := ctxCfg_written had ho hlock (.inr hq)
  have hw := cfgWritten hu
  rw [hon, ctxEnWritten_off (hen.trans hd) (by rw [hw.state]; exact hst)] at e
  have hstep : RegStep CtxReg u (u.put (F.SCH_CTX_STAT_STATE n) ctxDisabled) :=
    .put _ (f := F.SCH_CTX_STAT_STATE n) _ (by have := n.isLt; show (0x31014 + 0x20 * n.val) / 0x10000 = 3; omega)
  have hstate : ctxState (u.put (F.SCH_CTX_STAT_STATE n) ctxDisabled) n = ctxDisabled := ctxState_put (by decide)
  generalize u.put (F.SCH_CTX_STAT_STATE n) ctxDisabled = v at *
  obtain ⟨hreg, hmem, hsched⟩ := obeyed_quiet oid (hstep.calm not_ctxReg_hwd (hw.calm hc))
  exact ⟨obeyed oid v, e, (fld_of_reg (F.SCH_CTX_STAT_STATE n) (hreg _)).trans hstate, hsched.trans (hstep.sched.trans hw.sched), hmem.trans (hstep.mem.trans hw.mem)⟩

end

/-! ### Commands -/

theorem ctxCmd_bits : (bitAt 1 0 = true ∧ bitAt 1 2 = false) ∧ (bitAt 2 0 = false ∧ bitAt 2 1 = true ∧ bitAt 2 2 = false)
    ∧ (bitAt 4 0 = false ∧ bitAt 4 1 = false ∧ bitAt 4 2 = true) := by decide

theorem ctxCmdWritten_tear (c : Nat) (s : State) : ctxCmdWritten c 1 s = tearCtx c 0 s := by
  obtain ⟨⟨h0, h2⟩, -⟩ := ctxCmd_bits
  unfold ctxCmdWritten
  simp [h0, h2]

theorem ctxCmdWritten_ack (c : Nat) (s : State) :
    ctxCmdWritten c 2 s = if ctxState s c = ctxFaulted then (restartQueue c s).put (F.SCH_CTX_STAT_STATE c) ctxActive else s := by
  obtain ⟨-, ⟨h0, h1, h2⟩, -⟩ := ctxCmd_bits
  unfold ctxCmdWritten
  simp [h0, h1, h2]

theorem ctxCmdWritten_vt (c : Nat) (s : State) : ctxCmdWritten c 4 s = (leastVt s c).elim s fun v => s.setReg64 (Reg.SCH_CTX_VT_LO c) v := by
  obtain ⟨-, -, h0, h1, h2⟩ := ctxCmd_bits
  unfold ctxCmdWritten
  cases leastVt s c <;> simp [h0, h1, h2]

theorem contextCommand (c : Fin 64) (s : State) :
    (ctxState s c = ctxActive → ctxCmdWritten c 1 s = ((s.setSched { s.sched with tearing := spSet 0 c (s.elapsed + 1) s.sched.tearing }).put
      (F.SCH_CTX_STAT_STATE c) ctxTearing).put (F.SCH_CTX_STAT_CAUSE c) 0)
    ∧ (ctxState s c = ctxFaulted → ctxCmdWritten c 1 s = s)
    ∧ (ctxState s c = ctxFaulted → ctxState (ctxCmdWritten c 2 s) c = ctxActive
      ∧ (ctxCmdWritten c 2 s).fld (F.SCH_CTX_HEAD_HEAD c) = (ctxCmdWritten c 2 s).fld (F.SCH_CTX_TAIL_TAIL c))
    ∧ (ctxState s c = ctxFaulted → queuePending s c = 0 → (∀ j ∈ s.sched.jobs, j.ctx = c.val → j.phase ≠ .queued) →
      ctxCmdWritten c 2 s = (s.put (F.SCH_CTX_HEAD_HEAD c) (s.fld (F.SCH_CTX_TAIL_TAIL c))).put (F.SCH_CTX_STAT_STATE c) ctxActive)
    ∧ (ctxState s c ≠ ctxFaulted → ctxCmdWritten c 2 s = s)
    ∧ (∀ v, leastVt s c = some v → v < 2 ^ 64 → (ctxCmdWritten c 4 s).reg64 (Reg.SCH_CTX_VT_LO c) = v)
    ∧ (leastVt s c = none → ctxCmdWritten c 4 s = s) := by
  rw [ctxCmdWritten_tear, ctxCmdWritten_ack, ctxCmdWritten_vt]
  refine ⟨fun h => ?_, fun h => ?_, fun h => ?_, fun h hp hj => ?_, fun h => if_neg h, fun v h hv => ?_, fun h => by rw [h]; rfl⟩
  · unfold ctxState at h
    unfold tearCtx
    simp only [h]
    rfl
  · unfold ctxState at h
    unfold tearCtx
    simp only [h]
    rfl
  · rw [if_pos h]
    refine ⟨ctxState_put (by decide), ?_⟩
    obtain ⟨w, hw⟩ := restartQueue_put c s
    rw [hw, show F.SCH_CTX_TAIL_TAIL c = ⟨0x31000 + 0xC + 0x20 * c.val, 31, 0⟩ from rfl, fld_restarted _ _ _ _ (by decide),
      fld_put_reg _ (F.SCH_CTX_STAT_STATE c) (F.SCH_CTX_HEAD_HEAD c) _ (by show 0x31010 + 0x20 * c.val ≠ 0x31014 + 0x20 * c.val; omega)]
    exact head_put _ (tail_lt w)
  · rw [if_pos h, restartQueue_idle hp hj]
  · rw [h]
    exact (reg64_setReg64_self s _ v).trans (Nat.mod_eq_of_lt hv)

/-! ### Enabling the scheduler -/

/-- A unit leaves OFF. -/
def unitOn (s : State) (u : Nat) : State := if s.fld (unitField u) = uOff then s.put (unitField u) uIdle else s

theorem unitField_bits (u : Nat) : (unitField u).lo = 0 ∧ (unitField u).hi = 2 := by
  unfold unitField
  split <;> exact ⟨rfl, rfl⟩

theorem unitField_reg_ne {u v : Nat} (hu : u < 7) (hv : v < 7) (h : u ≠ v) : (unitField u).reg ≠ (unitField v).reg := by
  unfold unitField F.CRN_STATE_STATE F.SPL_STATE_STATE
  split <;> split <;> dsimp only <;> omega

theorem unitOn_self (s : State) (u : Nat) : (unitOn s u).fld (unitField u) = if s.fld (unitField u) = uOff then uIdle else s.fld (unitField u) := by
  obtain ⟨h0, h2⟩ := unitField_bits u
  unfold unitOn
  split
  · exact fld_put_fits s (unitField u) (by omega) (by omega) (by rw [h0, h2]; decide)
  · rfl

theorem unitOn_other {u v : Nat} (hu : u < 7) (hv : v < 7) (h : u ≠ v) (s : State) : (unitOn s v).fld (unitField u) = s.fld (unitField u) := by
  unfold unitOn
  split
  · exact fld_put_reg s (unitField v) (unitField u) _ (unitField_reg_ne hu hv h)
  · rfl

/-- The registers of the units' states. -/
def UnitReg (o : Nat) : Prop := ∃ u < 7, o = (unitField u).reg

theorem unitsOn (l : List Nat) (hl : ∀ v ∈ l, v < 7) (hn : l.Nodup) (s : State) : RegStep UnitReg s (l.foldl unitOn s)
    ∧ ∀ u < 7, (l.foldl unitOn s).fld (unitField u) = if u ∈ l ∧ s.fld (unitField u) = uOff then uIdle else s.fld (unitField u) := by
  induction l generalizing s with
  | nil => exact ⟨.refl s, fun u _ => by simp⟩
  | cons v l ih =>
    have hv := hl v List.mem_cons_self
    obtain ⟨hstep, hfld⟩ := ih (fun w hw => hl w (List.mem_cons_of_mem _ hw)) (List.nodup_cons.1 hn).2 (unitOn s v)
    have h1 : RegStep UnitReg s (unitOn s v) := by
      unfold unitOn
      split
      · exact .put s _ ⟨v, hv, rfl⟩
      · exact .refl s
    refine ⟨h1.trans hstep, fun u hu => (hfld u hu).trans ?_⟩
    by_cases huv : u = v
    · subst huv
      have : u ∉ l := (List.nodup_cons.1 hn).1
      rw [if_neg (fun h => this h.1), unitOn_self]
      simp
    · rw [unitOn_other hu hv huv]
      simp [huv]

theorem schCtrlWritten_eq (s : State) : schCtrlWritten s = if s.flag F.SCH_CTRL_EN then (List.range 7).foldl unitOn s else s := rfl

def schFields : List FieldDef := [⟨0, 0, .rwl, 0, 3⟩]

theorem plainFields_sch : PlainFields schFields := ⟨by decide, by decide, by decide⟩

theorem storedReg_sch : StoredReg Reg.SCH_CTRL schFields := storedReg_of plainFields_sch (b := 3) (by decide) (by decide) (by decide +kernel)

theorem schedulerTurnsOn (oid : BitVec 10) (ctx : BitVec 6) (data : BitVec 32) (s : State) (hc : Calm s) (had : Admitted oid ctx Reg.SCH_CTRL s) (ho : oid.toNat ≤ 1)
    (hlock : s.flag F.SCH_LOCK_LOCK = false) (hd : data.getLsbD 0 = true) :
    ∃ t, exec (.schedulerEnable oid ctx data) s = .next t ∧ t.flag F.SCH_CTRL_EN = true ∧ t.sched = s.sched ∧ t.mem = s.mem
      ∧ ∀ u : Fin 7, t.fld (unitField u) = if s.fld (unitField u) = uOff then uIdle else s.fld (unitField u) := by
  have hfree : ∀ f ∈ schFields, accLocked s Reg.SCH_CTRL f = false
      ∧ chapterLocked s (wordWr oid.toNat ctx.toNat Reg.SCH_CTRL data.toNat 0) Reg.SCH_CTRL f (slice data.toNat f.hi f.lo) = false := by
    intro f hf
    have hacc : f.acc = .rwl := by revert f hf; decide
    refine ⟨?_, ?_⟩
    · unfold accLocked
      rw [hacc]
      dsimp only
      rw [lockOf_sch (by decide : Reg.SCH_CTRL / 0x10000 = 3), ← hlock]
      exact (flag_bit_zero s Reg.SCH_LOCK).symm
    · rw [chapterLocked_of_block (by decide : Reg.SCH_CTRL / 0x10000 = 3) (by omega)]
      rfl
  have hwrite := writeReg_stored storedReg_sch had data.isLt (by decide) (fun f hf => mayWrite_of_who (by
    have : f.who = 3 := by revert f hf; decide
    rw [this]
    exact whoMay_three ho)) hfree
  have hlt := storedWord_lt plainFields_sch.bits data.toNat (s.reg Reg.SCH_CTRL).isLt
  have hbit : slice (storedWord data.toNat schFields (s.reg Reg.SCH_CTRL).toNat) 0 0 = slice data.toNat 0 0 :=
    slice_storedWord plainFields_sch data.toNat _ (f := ⟨0, 0, .rwl, 0, 3⟩) (by decide)
  generalize storedWord data.toNat schFields (s.reg Reg.SCH_CTRL).toNat = v at hwrite hlt hbit
  have hreg := reg_storedIn (off := Reg.SCH_CTRL) hlt s
  have honly := regsOnly_storedIn Reg.SCH_CTRL v s
  generalize storedIn Reg.SCH_CTRL v s = u at hwrite hreg honly
  have hen : u.flag F.SCH_CTRL_EN = true := by
    unfold State.flag State.fld
    rw [show F.SCH_CTRL_EN.reg = Reg.SCH_CTRL from rfl, hreg]
    show decide (slice v 0 0 ≠ 0) = true
    rw [hbit, slice_eq _ 0 0 1 2, Nat.div_one]
    rw [← BitVec.testBit_toNat, Nat.testBit_zero] at hd
    simp only [decide_eq_true_eq] at hd ⊢
    omega
  have hstep0 : RegStep (· = Reg.SCH_CTRL) s u := (regStep_of_only honly).weaken fun o h => by simpa using h
  obtain ⟨hstep, hfld⟩ := unitsOn (List.range 7) (fun v hv => List.mem_range.1 hv) List.nodup_range u
  have hunit : ∀ u < 7, (unitField u).reg / 0x10000 ≠ 3 ∧ (unitField u).reg / 0x10000 ≠ 0x24 := by decide
  have hrw (x : WordWrite) : regWritten s (wordWr oid.toNat ctx.toNat Reg.SCH_CTRL data.toNat 0) Reg.SCH_CTRL (s.reg Reg.SCH_CTRL).toNat x u
      = (List.range 7).foldl unitOn u := by
    have h : regWritten s (wordWr oid.toNat ctx.toNat Reg.SCH_CTRL data.toNat 0) Reg.SCH_CTRL (s.reg Reg.SCH_CTRL).toNat x u = schCtrlWritten u := rfl
    rw [h, schCtrlWritten_eq, if_pos hen]
  rw [hrw] at hwrite
  generalize (List.range 7).foldl unitOn u = w at *
  have hcw : Calm w := hstep.calm (by rintro ⟨k, hk, e⟩; have := (hunit k hk).2; rw [← e] at this; exact this (by decide))
    (hstep0.calm (by decide) hc)
  obtain ⟨hr, hm, hs⟩ := obeyed_quiet oid hcw
  have hctl : w.reg Reg.SCH_CTRL = u.reg Reg.SCH_CTRL := hstep.reg _ (by rintro ⟨k, hk, e⟩; have := (hunit k hk).1; rw [← e] at this; exact this (by decide))
  refine ⟨obeyed oid w, by rw [exec_schedulerEnable]; exact congrArg Host.Outcome.next hwrite, ?_, ?_, ?_, fun k => ?_⟩
  · unfold State.flag at hen ⊢
    rw [fld_of_reg F.SCH_CTRL_EN ((hr _).trans hctl)]
    exact hen
  · rw [hs, hstep.sched, hstep0.sched]
  · rw [hm, hstep.mem, hstep0.mem]
  · have hk := k.isLt
    rw [fld_of_reg (unitField k) (hr _), hfld k hk, hstep0.fld (by
      intro e
      have := (hunit k hk).1
      rw [e] at this
      exact this (by decide))]
    simp [hk]

/-- Settles O39: the configuration word is stored by its fields and moves the context; the commands; the scheduler's enable. -/
theorem contextCommands : Obligations.ContextCommands := by
  unfold Obligations.ContextCommands
  refine ⟨fun oid ctx n data s hc had ho hlock => ⟨fun hoff hd hst => ?_, fun hoff hd hst hp hj => contextTurnsOn hc had ho hlock hoff hd hst hp hj,
    fun hon hd hq hst => contextTurnsOff hc had ho hlock hon hd hq hst⟩, contextCommand, schedulerTurnsOn⟩
  obtain ⟨u, hu, hen, -, -, -, -, e⟩ := ctxCfg_written (data := data) had ho hlock (.inl hoff)
  have hw := cfgWritten hu
  rw [hoff, ctxEnWritten_on (hen.trans hd) (hw.state.trans hst)] at e
  exact ⟨u, hen.trans hd, hw.only, hw.mem, hw.sched, e⟩

end Sys2Proof.Machine
end

section
/-! The results of Sapling's operations (09_sapling_engine.md): codes of CONV, POOL and RSMP, candidates, kept boxes. -/

namespace Sys2Proof.Machine

/-! ### Sums -/

theorem foldl_add_map {α : Type} (f : α → Int) (l : List α) (a : Int) : l.foldl (fun t x => t + f x) a = a + (l.map f).sum := by
  induction l generalizing a with
  | nil => simp
  | cons x l ih => rw [List.foldl_cons, ih, List.map_cons, List.sum_cons]; omega

theorem sum_map_flatMap {α β : Type} (f : β → Int) (g : α → List β) (l : List α) : ((l.flatMap g).map f).sum = (l.map fun a => ((g a).map f).sum).sum := by
  induction l with
  | nil => rfl
  | cons a l ih => rw [List.flatMap_cons, List.map_append, List.sum_append, ih, List.map_cons, List.sum_cons]

theorem sum_map_sub {α : Type} (f g : α → Int) (l : List α) : (l.map fun a => f a - g a).sum = (l.map f).sum - (l.map g).sum := by
  induction l with
  | nil => rfl
  | cons a l ih => simp only [List.map_cons, List.sum_cons, ih]; omega

theorem sum_map_const_mul {α : Type} (c : Int) (f : α → Int) (l : List α) : (l.map fun a => c * f a).sum = c * (l.map f).sum := by
  induction l with
  | nil => simp
  | cons a l ih => simp only [List.map_cons, List.sum_cons, ih, Int.mul_add]

/-- A sum over the numbers below a product, by rows. -/
theorem sum_range_mul (f : Nat → Int) (n m : Nat) : ((List.range (n * m)).map f).sum = ((List.range n).map fun i => ((List.range m).map fun j => f (i * m + j)).sum).sum := by
  induction n with
  | zero => simp
  | succ n ih =>
    rw [Nat.succ_mul, List.range_add, List.map_append, List.sum_append, ih, List.range_succ, List.map_append, List.sum_append, List.map_map]
    simp [Function.comp_def]

/-- The kernel's triples with their flat positions. -/
theorem sum_kernel (f : Nat → Int) (kh kw cin : Nat) : ((List.range (kh * kw * cin)).map f).sum
    = ((List.range kh).map fun ky => ((List.range kw).map fun kx => ((List.range cin).map fun ci => f ((ky * kw + kx) * cin + ci)).sum).sum).sum := by
  rw [sum_range_mul, sum_range_mul]

/-! ### CONV -/

theorem convCodes (d : List Byte) (g : Geo) (k : Conv) (w par tab : Array Byte) (r : Rows) (y x o : Nat) (hact : k.act = 0) :
    let zin : Int := (dField d 52 1 : Int) - 128
    let wt (t : Nat) : Int := (w.getD (o * tPad g k + t) 0).toInt
    let word (i : Nat) : Nat := leNat ((List.range 4).map fun j => par.getD (8 * o + i + j) 0)
    let v : Int := ((List.range k.kh).map fun ky => ((List.range k.kw).map fun kx => ((List.range g.cin).map fun ci =>
      (convIn g k zin r ((y * k.sy + ky * k.dy : Nat) - (k.pt : Int)) ((x * k.sx + kx * k.dx : Nat) - (k.pl : Int)) ci - zin)
        * wt ((ky * k.kw + kx) * g.cin + ci)).sum).sum).sum + sextN (word 4) 32
    let sc := (smul (smul (Scale.ofWord (dField d 56 4)) (Scale.ofWord (word 0))).1 (Scale.ofWord (dField d 60 4))).1
    (convCode d g k w par tab r y x o).1 = (sat ((rescale v sc.m sc.e 32).1 + ((dField d 53 1 : Int) - 128)) 8).1 := by
  intro zin wt word v sc
  have hv : v = ((List.range k.kh).flatMap fun ky => (List.range k.kw).flatMap fun kx => (List.range g.cin).map fun ci => (ky, kx, ci)).foldl (fun t p =>
      t + convIn g k zin r ((y * k.sy + p.1 * k.dy : Nat) - (k.pt : Int)) ((x * k.sx + p.2.1 * k.dx : Nat) - (k.pl : Int)) p.2.2
        * wt ((p.1 * k.kw + p.2.1) * g.cin + p.2.2)) 0 - zin * ((List.range (k.kh * k.kw * g.cin)).foldl (fun t i => t + wt i) 0) + sextN (word 4) 32 := by
    unfold v
    rw [foldl_add_map, foldl_add_map, sum_map_flatMap, sum_kernel]
    simp only [sum_map_flatMap, List.map_map, Function.comp_def, zero_add, sub_mul, sum_map_sub, sum_map_const_mul]
  unfold convCode
  simp only [hact, if_neg (show ¬ (0 : Nat) = 1 by decide), if_neg (show ¬ (0 : Nat) = 2 by decide)]
  exact congrArg (fun z => (sat ((rescale z sc.m sc.e 32).1 + ((dField d 53 1 : Int) - 128)) 8).1) hv.symm

/-! ### POOL and RSMP -/

theorem codeAt_ge (r : Rows) (c y x ch : Nat) : -128 ≤ codeAt r c y x ch := by
  unfold codeAt
  have := BitVec.le_toInt ((r.getD y #[]).getD (x * c + ch) 0)
  simpa using this

theorem poolCodes (d : List Byte) (g : Geo) (r : Rows) (y x ch : Nat) (hy : 2 * y + 1 < g.hin) (hx : 2 * x + 1 < g.win) :
    let c (i j : Nat) : Int := codeAt r g.cin (2 * y + i) (2 * x + j) ch
    (dField d 48 1 = 8 → poolCode d g r y x ch = (max (max (c 0 0) (c 0 1)) (max (c 1 0) (c 1 1)), fNone))
    ∧ (dField d 48 1 = 12 → poolCode d g r y x ch = rdiv (c 0 0 + c 0 1 + c 1 0 + c 1 1) 4 8)
    ∧ (dField d 48 1 = 2 → rsmpCode d g r y x ch = (c 0 0, fNone)) := by
  intro c
  have hl (z n : Nat) (h : 2 * z + 1 < n) :
      ((List.range 2).filterMap fun j => if z * 2 + j < 0 || n + 0 ≤ z * 2 + j then none else some (z * 2 + j - 0)) = [2 * z, 2 * z + 1] := by
    have h0 : ¬ n ≤ z * 2 := by omega
    have h1 : ¬ n ≤ z * 2 + 1 := by omega
    simp [show List.range 2 = [0, 1] from rfl, h0, h1, Nat.mul_comm]
  have hwin (h : dField d 48 1 = 8 ∨ dField d 48 1 = 12) : poolWin d = 2 := by
    unfold poolWin
    rcases h with h | h <;> rw [h] <;> rfl
  refine ⟨fun h => ?_, fun h => ?_, fun h => ?_⟩
  · have hge := codeAt_ge r g.cin (2 * y) (2 * x) ch
    unfold poolCode
    simp only [h, hwin (.inl h), if_neg (show ¬ (2 : Nat) = 0 by decide), show 1 + 8 / 8 % 2 = 2 by decide, show 8 / 16 % 2 = 0 by decide, show ¬ 8 / 4 % 2 = 1 by decide,
      if_false]
    rw [hl y g.hin hy, hl x g.win hx]
    refine Prod.ext ?_ rfl
    simp only [List.flatMap_cons, List.flatMap_nil, List.map_cons, List.map_nil, List.append_nil, List.cons_append, List.nil_append, List.foldl_cons, List.foldl_nil]
    show max (max (max (max (-128) (c 0 0)) (c 0 1)) (c 1 0)) (c 1 1) = _
    rw [max_eq_right (show -128 ≤ c 0 0 from hge), max_assoc]
  · unfold poolCode
    simp only [h, hwin (.inr h), if_neg (show ¬ (2 : Nat) = 0 by decide), show 1 + 12 / 8 % 2 = 2 by decide, show 12 / 16 % 2 = 0 by decide, show 12 / 4 % 2 = 1 by decide,
      if_true]
    rw [hl y g.hin hy, hl x g.win hx]
    simp only [List.flatMap_cons, List.flatMap_nil, List.map_cons, List.map_nil, List.append_nil, List.cons_append, List.nil_append, List.foldl_cons, List.foldl_nil,
      List.length_cons, List.length_nil, zero_add]
    rfl
  · unfold rsmpCode
    simp only [h, show Nat.testBit 2 0 = false by decide, show Nat.testBit 2 1 = true by decide]
    rw [min_eq_left (show 2 * y ≤ g.hin - 1 by omega), min_eq_left (show 2 * x ≤ g.win - 1 by omega)]
    rfl

theorem rsmpRepeats (d : List Byte) (g : Geo) (r : Rows) (y x ch : Nat) (hy : y / 2 < g.hin) (hx : x / 2 < g.win) (h : dField d 48 1 = 0) :
    rsmpCode d g r y x ch = (codeAt r g.cin (y / 2) (x / 2) ch, fNone) := by
  unfold rsmpCode
  simp only [h, Nat.zero_testBit]
  rw [min_eq_left (show y / 2 ≤ g.hin - 1 by omega), min_eq_left (show x / 2 ≤ g.win - 1 by omega)]

/-! ### DECODE -/

/-- A score with its key. -/
theorem mem_keyed {scores : List Int} {k : Nat} {v : Int} : (k, v) ∈ (List.range scores.length).zip scores ↔ scores[k]? = some v := by
  rw [List.mem_iff_getElem?]
  constructor
  · rintro ⟨i, hi⟩
    obtain ⟨hr, hv⟩ := List.getElem?_zip_eq_some.1 hi
    obtain ⟨hlt, e⟩ := List.getElem?_eq_some_iff.1 hr
    rw [List.getElem_range] at e
    dsimp only at e
    subst e
    exact hv
  · intro h
    have hk : k < scores.length := (List.getElem?_eq_some_iff.1 h).1
    exact ⟨k, by rw [List.getElem?_zip_eq_some]; exact ⟨List.getElem?_range hk, h⟩⟩

theorem keyed_sorted (scores : List Int) : ((List.range scores.length).zip scores).Pairwise fun a b => a.1 < b.1 := by
  have h : ((List.range scores.length).zip scores).map Prod.fst = List.range scores.length := List.map_fst_zip (by simp)
  rw [← List.pairwise_map (f := Prod.fst) (R := (· < ·)), h]
  exact List.pairwise_lt_range

/-- The candidates by descending code. -/
theorem candidates_eq (scores : List Int) (thr : Int) : candidates scores thr
    = (List.range (128 - thr).toNat).flatMap fun j : Nat => ((List.range scores.length).zip scores).filter fun e : Nat × Int => decide (e.2 = 127 - Int.ofNat j) := by
  unfold candidates
  simp [List.flatMap_assoc]

theorem candidates_spec (scores : List Int) (thr : Int) (hv : ∀ v ∈ scores, -128 ≤ v ∧ v ≤ 127) (h1 : -128 ≤ thr) (h2 : thr ≤ 127) :
    (∀ k v, (k, v) ∈ candidates scores thr ↔ scores[k]? = some v ∧ thr ≤ v)
    ∧ (candidates scores thr).Pairwise fun a b => b.2 < a.2 ∨ a.2 = b.2 ∧ a.1 < b.1 := by
  rw [candidates_eq]
  simp only [Int.ofNat_eq_natCast]
  refine ⟨fun k v => ?_, ?_⟩
  · simp only [List.mem_flatMap, List.mem_range, List.mem_filter, decide_eq_true_eq, mem_keyed]
    constructor
    · rintro ⟨j, hj, hk, e⟩
      exact ⟨hk, by omega⟩
    · rintro ⟨hk, ht⟩
      obtain ⟨-, hv2⟩ := hv v (List.mem_of_getElem? hk)
      exact ⟨(127 - v).toNat, by omega, hk, by omega⟩
  · rw [List.pairwise_flatMap]
    refine ⟨fun j _ => ?_, ?_⟩
    · refine ((keyed_sorted scores).sublist List.filter_sublist).imp_of_mem fun ha hb hab => .inr ⟨?_, hab⟩
      simp only [List.mem_filter, decide_eq_true_eq] at ha hb
      omega
    · refine List.pairwise_lt_range.imp fun hij a ha b hb => Or.inl ?_
      simp only [List.mem_filter, decide_eq_true_eq] at ha hb
      omega

/-! ### NMS -/

theorem nmsKeep_spec (kmax tn : Nat) (cls : Bool) (recs kept : List (List Byte)) (hk : kept.length ≤ kmax)
    (hp : kept.Pairwise fun a b => suppresses tn cls (Box.of a) (Box.of b) = false) : let l := nmsKeep kmax tn cls recs kept
    l.length ≤ kmax ∧ (∃ new, l = kept ++ new ∧ new.Sublist recs) ∧ l.Pairwise (fun a b => suppresses tn cls (Box.of a) (Box.of b) = false)
      ∧ (l.length < kmax → ∀ r ∈ recs, r ∈ l ∨ ∃ k ∈ l, suppresses tn cls (Box.of k) (Box.of r) = true) := by
  induction recs generalizing kept with
  | nil => exact ⟨hk, ⟨[], (List.append_nil _).symm, .refl _⟩, hp, fun _ r hr => nomatch hr⟩
  | cons r rs ih =>
    rw [nmsKeep]
    split
    · rename_i h
      exact ⟨hk, ⟨[], (List.append_nil _).symm, List.nil_sublist _⟩, hp, fun hl => absurd h (by omega)⟩
    · rename_i hlen
      split
      · rename_i hs
        obtain ⟨h1, ⟨new, e, hsub⟩, h3, h4⟩ := ih kept hk hp
        refine ⟨h1, ⟨new, e, hsub.cons r⟩, h3, fun hl x hx => ?_⟩
        rcases List.mem_cons.1 hx with rfl | hx
        · obtain ⟨k, hk, hks⟩ := List.any_eq_true.1 hs
          exact .inr ⟨k, by rw [e]; exact List.mem_append_left _ hk, hks⟩
        · exact h4 hl x hx
      · rename_i hs
        have hpr : (kept ++ [r]).Pairwise fun a b => suppresses tn cls (Box.of a) (Box.of b) = false := by
          refine List.pairwise_append.2 ⟨hp, List.pairwise_singleton _ _, fun a ha b hb => ?_⟩
          obtain rfl := List.mem_singleton.1 hb
          exact Bool.eq_false_iff.2 fun h => hs (List.any_eq_true.2 ⟨a, ha, h⟩)
        obtain ⟨h1, ⟨new, e, hsub⟩, h3, h4⟩ := ih (kept ++ [r]) (by simp; omega) hpr
        refine ⟨h1, ⟨r :: new, by rw [e, List.append_assoc]; rfl, hsub.cons_cons r⟩, h3, fun hl x hx => ?_⟩
        rcases List.mem_cons.1 hx with rfl | hx
        · exact .inl (by rw [e]; simp)
        · exact h4 hl x hx

theorem area_eq (b : Box) : b.area = (if b.x1 < b.x2 ∧ b.y1 < b.y2 then (b.x2 - b.x1) * (b.y2 - b.y1) else 0) := by
  unfold Box.area
  split
  · rename_i h
    rw [max_eq_right (by omega), max_eq_right (by omega)]
  · rename_i h
    rcases not_and_or.1 h with h | h
    · rw [max_eq_left (by omega), zero_mul]
    · rw [max_eq_left (show b.y2 - b.y1 ≤ 0 by omega), mul_zero]

/-- Boxes that suppress each other at threshold 0 overlap. -/
theorem overlap_of_suppresses (b c : Box) (h : suppresses 0 false b c = true) : 0 < min b.x2 c.x2 - max b.x1 c.x1 ∧ 0 < min b.y2 c.y2 - max b.y1 c.y1 := by
  unfold suppresses at h
  simp only [Bool.not_false, Bool.true_or, Bool.true_and, decide_eq_true_eq, Nat.cast_zero, zero_mul] at h
  rw [min_comm b.x2, min_comm b.y2, max_comm b.x1, max_comm b.y1]
  constructor <;> by_contra hn
  · rw [max_eq_left (show min c.x2 b.x2 - max c.x1 b.x1 ≤ 0 by omega), zero_mul] at h
    omega
  · rw [max_eq_left (show min c.y2 b.y2 - max c.y1 b.y1 ≤ 0 by omega), mul_zero] at h
    omega

/-- Settles O47. -/
theorem saplingResults : Obligations.SaplingResults := by
  unfold Obligations.SaplingResults
  refine ⟨convCodes, poolCodes, rsmpRepeats, candidates_spec, fun kmax tn cls recs => ?_, fun b c => ⟨area_eq b, overlap_of_suppresses b c⟩⟩
  obtain ⟨h1, ⟨new, e, hsub⟩, h3, h4⟩ := nmsKeep_spec kmax tn cls recs [] (Nat.zero_le _) .nil
  exact ⟨h1, by rw [e]; exact hsub, h3, h4⟩

end Sys2Proof.Machine
end

section
/-! Memory engines (14_memory_system.md): the code of SECDED, the rows of the macros, refresh, temperature and the march request. -/

namespace Sys2Proof.Machine

/-! ### SECDED -/

theorem eccColumns_facts : eccColumns.length = 64 ∧ eccColumns.Nodup ∧ (∀ c ∈ eccColumns, pop8 c % 2 = 1) ∧ ∀ i : Fin 64, eccDecode (eccColumns.getD i 0) = .data i := by
  decide +kernel

/-- The parity of a count of differing bits. -/
theorem length_filter_xor {α : Type} (p q : α → Bool) (l : List α) : (l.filter fun x => p x ^^ q x).length % 2 = ((l.filter p).length + (l.filter q).length) % 2 := by
  induction l with
  | nil => rfl
  | cons x l ih => cases hp : p x <;> cases hq : q x <;> simp [hp, hq] <;> omega

theorem pop8_xor (x y : Nat) : pop8 (x ^^^ y) % 2 = (pop8 x + pop8 y) % 2 := by
  unfold pop8
  simp only [Nat.testBit_xor]
  exact length_filter_xor _ _ _

/-- Two different columns differ by a word of even weight, which is no column and no check bit. -/
theorem eccCodes (i j : Fin 64) : eccDecode (eccColumns.getD i 0) = .data i ∧ (i ≠ j → eccDecode (eccColumns.getD i 0 ^^^ eccColumns.getD j 0) = .bad) := by
  obtain ⟨hlen, hnodup, hodd, hdata⟩ := eccColumns_facts
  refine ⟨hdata i, fun hne => ?_⟩
  have hget (k : Fin 64) : ∃ h : k.val < eccColumns.length, eccColumns.getD k 0 = eccColumns[k.val] :=
    ⟨by omega, (List.getElem_eq_getD 0).symm⟩
  obtain ⟨hi, ei⟩ := hget i
  obtain ⟨hj, ej⟩ := hget j
  have heven : pop8 (eccColumns.getD i 0 ^^^ eccColumns.getD j 0) % 2 = 0 := by
    have h1 := hodd _ (List.getElem_mem hi)
    have h2 := hodd _ (List.getElem_mem hj)
    rw [pop8_xor, ei, ej]
    omega
  have hx : eccColumns.getD i 0 ^^^ eccColumns.getD j 0 ≠ 0 := fun e => by
    rw [ei, ej] at e
    have := (hnodup.getElem_inj_iff).1 (Nat.xor_eq_zero_iff.1 e)
    exact hne (Fin.ext this)
  generalize eccColumns.getD i 0 ^^^ eccColumns.getD j 0 = x at heven hx ⊢
  have hnot : eccColumns.findIdx? (· = x) = none := by
    rw [List.findIdx?_eq_none_iff]
    intro c hc
    have := hodd c hc
    exact decide_eq_false fun e => by rw [e] at this; omega
  unfold eccDecode
  rw [if_neg hx, hnot]
  dsimp only
  rw [if_neg (by omega)]

/-! ### Rows of the macros -/

/-- The place of a row of macro `m`. -/
def RowPlace (m r : Nat) : Prop := ∃ p, place (rowAddr m r) = some p ∧ macOf p = m ∧ rowOf p = r

/-- The bank bits of a cache row undo the spread of the banks. -/
theorem canopyBank_row {i r : Nat} (hi : i < 64) (hr : r < 8192) : canopyBank ((64 * r + (i ^^^ (r % 64) ^^^ (r / 64 % 64))) * 64) = i
    ∧ slice ((64 * r + (i ^^^ (r % 64) ^^^ (r / 64 % 64))) * 64 / 64) 18 6 = r ∧ (i ^^^ (r % 64) ^^^ (r / 64 % 64)) < 64 := by
  have hx : (i ^^^ (r % 64) ^^^ (r / 64 % 64)) < 2 ^ 6 := Nat.xor_lt_two_pow (Nat.xor_lt_two_pow hi (Nat.mod_lt _ (by decide))) (Nat.mod_lt _ (by decide))
  generalize hX : i ^^^ (r % 64) ^^^ (r / 64 % 64) = x at hx ⊢
  have h0 : slice (64 * r + x) 5 0 = x := by rw [slice_eq _ 5 0 1 64]; omega
  have h6 : slice (64 * r + x) 11 6 = r % 64 := by rw [slice_eq _ 11 6 64 64]; omega
  have h12 : slice (64 * r + x) 17 12 = r / 64 % 64 := by rw [slice_eq _ 17 12 4096 64]; omega
  refine ⟨?_, ?_, hx⟩
  · unfold canopyBank
    dsimp only
    rw [Nat.mul_div_cancel _ (by decide), h0, h6, h12, ← hX]
    simp [Nat.xor_comm, Nat.xor_left_comm]
  · rw [Nat.mul_div_cancel _ (by decide), slice_eq _ 18 6 64 8192]
    omega

theorem place_scratch {a : Nat} {n off : Nat} (hn : n < 6) (ho : off < 0x1800000) (h : a = 0x2000000000 + 0x2000000 * n + off) : place a = some (.scratch n off) := by
  unfold place
  rw [if_neg (by omega), if_neg (by omega), if_pos (by simp; omega), if_pos (by omega), show (a - 0x2000000000) / 0x2000000 = n by omega,
    show (a - 0x2000000000) % 0x2000000 = off by omega]

/-- The rows of macros 0x0000 to 0x011F are those of the scratchpads. -/
theorem rowPlace_scratch {m r : Nat} (hm : m / 0x1000 = 0) (hr : r < macRows m) : RowPlace m r := by
  unfold macRows at hr
  simp only [hm] at hr
  split at hr
  · rename_i hi
    have hmi : m % 0x1000 = m := by omega
    rw [hmi] at hi
    refine ⟨.scratch (m / 48) ((48 * r + m % 48) * 64), ?_, ?_, ?_⟩
    · refine place_scratch (by omega) (by omega) ?_
      unfold rowAddr spBase
      simp only [hm, hmi]
      omega
    · unfold macOf
      dsimp only
      omega
    · unfold rowOf
      dsimp only
      omega
  · omega

theorem place_canopy {off : Nat} (h : off < 0x2000000) : place (0x2010000000 + off) = some (.canopy off) := by
  unfold place
  rw [if_neg (by omega), if_neg (by omega), if_neg (by simp; omega), if_pos (by simp; omega), Nat.add_sub_cancel_left]

theorem place_sapling {off : Nat} (h : off < 0x200000) : place (0x2020000000 + off) = some (.sapling off) := by
  unfold place
  rw [if_neg (by omega), if_neg (by omega), if_neg (by simp; omega), if_neg (by simp; omega), if_pos (by simp; omega), Nat.add_sub_cancel_left]

theorem place_cambium {off : Nat} (h : off < 0x400000) : place (0x2021000000 + off) = some (.cambium off) := by
  unfold place
  rw [if_neg (by omega), if_neg (by omega), if_neg (by simp; omega), if_neg (by simp; omega), if_neg (by simp; omega), if_pos (by simp; omega), Nat.add_sub_cancel_left]

theorem place_seedbed {off : Nat} (h : off < 0x240000) : place (0x2022000000 + off) = some (.seedbed off) := by
  unfold place
  rw [if_neg (by omega), if_neg (by omega), if_neg (by simp; omega), if_neg (by simp; omega), if_neg (by simp; omega), if_neg (by simp; omega), if_pos (by simp; omega), Nat.add_sub_cancel_left]

theorem place_pith {off : Nat} (h : off < 0x40000) : place (0x2023000000 + off) = some (.pith off) := by
  unfold place
  rw [if_neg (by omega), if_neg (by omega), if_neg (by simp; omega), if_neg (by simp; omega), if_neg (by simp; omega), if_neg (by simp; omega), if_neg (by simp; omega), if_pos (by simp; omega), Nat.add_sub_cancel_left]

theorem place_hwd {off : Nat} (h : off < 0x100000) : place (0x2024000000 + off) = some (.hwd off) := by
  unfold place
  rw [if_neg (by omega), if_neg (by omega), if_neg (by simp; omega), if_neg (by simp; omega), if_neg (by simp; omega), if_neg (by simp; omega), if_neg (by simp; omega), if_neg (by simp; omega), if_pos (by simp; omega), Nat.add_sub_cancel_left]

section
variable {m r : Nat}

theorem rowPlace_acc (hm : m / 0x1000 = 1) (hr : r < macRows m) : RowPlace m r := by
  unfold macRows at hr
  simp only [hm] at hr
  split at hr
  · rename_i hi
    refine ⟨.acc (m % 0x1000) (64 * r), ?_, ?_, ?_⟩
    · unfold rowAddr macBase accBase
      simp only [hm, if_true]
      rw [Nat.add_assoc, place_hidden]
      unfold hiddenPlace
      rw [if_pos (by omega), show (m % 0x1000 * 0x240000 + 64 * r) / 0x240000 = m % 0x1000 by omega,
        show (m % 0x1000 * 0x240000 + 64 * r) % 0x240000 = 64 * r by omega]
    · unfold macOf
      dsimp only
      omega
    · unfold rowOf
      dsimp only
      omega
  · omega

theorem rowPlace_canopy (hm : m / 0x1000 = 2) (hr : r < macRows m) : RowPlace m r := by
  unfold macRows at hr
  simp only [hm] at hr
  split at hr
  · rename_i hi
    obtain ⟨hbank, hrow, hlt⟩ := canopyBank_row hi hr
    refine ⟨.canopy ((64 * r + (m % 0x1000 ^^^ (r % 64) ^^^ (r / 64 % 64))) * 64), ?_, ?_, hrow⟩
    · unfold rowAddr
      simp only [hm]
      exact place_canopy (by omega)
    · unfold macOf
      dsimp only
      rw [hbank]
      omega
  · omega

theorem rowPlace_dir (hm : m / 0x1000 = 3) (hr : r < macRows m) : RowPlace m r := by
  unfold macRows at hr
  simp only [hm] at hr
  split at hr
  · refine ⟨.dir (64 * r), ?_, ?_, ?_⟩
    · unfold rowAddr macBase dirBase
      simp only [hm, if_true, if_neg (show ¬ (3 : Nat) = 1 by decide)]
      rw [Nat.add_assoc, place_hidden]
      unfold hiddenPlace
      rw [if_neg (by omega), if_pos (by simp; omega), Nat.add_sub_cancel_left]
    · unfold macOf
      dsimp only
      omega
    · unfold rowOf
      dsimp only
      omega
  · omega

theorem rowPlace_sapling (hm : m / 0x1000 = 4) (hr : r < macRows m) : RowPlace m r := by
  have hi : m % 0x1000 < 3 := by
    unfold macRows at hr
    simp only [hm] at hr
    split at hr
    · omega
    · split at hr <;> omega
  have hb : 64 * r < if m % 0x1000 = 0 then 0x100000 else 0x80000 := by
    unfold macRows at hr
    simp only [hm] at hr
    split at hr
    · rw [if_pos ‹_›]; omega
    · rw [if_neg ‹_›]; omega
  refine ⟨.sapling ((if m % 0x1000 = 0 then 0 else if m % 0x1000 = 1 then 0x100000 else 0x180000) + 64 * r), ?_, ?_, ?_⟩
  · unfold rowAddr
    simp only [hm]
    rw [Nat.add_assoc]
    refine place_sapling ?_
    split_ifs at hb ⊢ <;> omega
  · unfold macOf
    dsimp only
    split_ifs at hb ⊢ <;> omega
  · unfold rowOf
    dsimp only
    split_ifs at hb ⊢ <;> omega

theorem rowPlace_cambium (hm : m / 0x1000 = 5) (hr : r < macRows m) : RowPlace m r := by
  unfold macRows at hr
  simp only [hm] at hr
  split at hr
  · refine ⟨.cambium (0x80000 * (m % 0x1000) + 64 * r), ?_, ?_, ?_⟩
    · unfold rowAddr
      simp only [hm]
      rw [Nat.add_assoc]
      exact place_cambium (by omega)
    · unfold macOf
      dsimp only
      omega
    · unfold rowOf
      dsimp only
      omega
  · omega

theorem rowPlace_cache (hm : m / 0x1000 = 6) (hr : r < macRows m) : RowPlace m r := by
  unfold macRows at hr
  simp only [hm] at hr
  have hbase : rowAddr m r = (if m % 0x1000 % 2 = 0 then l1Base (m % 0x1000 / 2) else l2Base (m % 0x1000 / 2)) + 64 * r := by
    unfold rowAddr macBase
    simp only [hm, if_true, if_neg (show ¬ (6 : Nat) = 1 by decide), if_neg (show ¬ (6 : Nat) = 3 by decide)]
  unfold RowPlace
  rw [hbase]
  split at hr
  · split at hr
    · rename_i hodd
      rw [if_pos hodd]
      refine ⟨.l1 (m % 0x1000 / 2) (64 * r), ?_, ?_, ?_⟩
      · unfold l1Base
        rw [Nat.add_assoc, Nat.add_assoc, place_hidden]
        unfold hiddenPlace
        rw [if_neg (by omega), if_neg (by simp; omega), if_pos (by simp; omega)]
        exact congrArg some (by rw [Place.l1.injEq]; omega)
      · unfold macOf
        dsimp only
        omega
      · unfold rowOf
        dsimp only
        omega
    · rename_i hodd
      rw [if_neg hodd]
      refine ⟨.l2 (m % 0x1000 / 2) (64 * r), ?_, ?_, ?_⟩
      · unfold l2Base
        rw [Nat.add_assoc, Nat.add_assoc, place_hidden]
        unfold hiddenPlace
        rw [if_neg (by omega), if_neg (by simp; omega), if_neg (by simp; omega), if_pos (by simp; omega)]
        exact congrArg some (by rw [Place.l2.injEq]; omega)
      · unfold macOf
        dsimp only
        omega
      · unfold rowOf
        dsimp only
        omega
  · omega

theorem rowPlace_hwd (hm : m / 0x1000 = 7) (hr : r < macRows m) : RowPlace m r := by
  unfold macRows at hr
  simp only [hm] at hr
  split at hr
  · refine ⟨.hwd (0x80000 * (m % 0x1000) + 64 * r), ?_, ?_, ?_⟩
    · unfold rowAddr
      simp only [hm]
      rw [Nat.add_assoc]
      exact place_hwd (by omega)
    · unfold macOf
      dsimp only
      omega
    · unfold rowOf
      dsimp only
      omega
  · omega

theorem rowPlace_pith (hm : m / 0x1000 = 8) (hr : r < macRows m) : RowPlace m r := by
  unfold macRows at hr
  simp only [hm] at hr
  split at hr
  · refine ⟨.pith (64 * r), ?_, ?_, ?_⟩
    · unfold rowAddr
      simp only [hm]
      exact place_pith (by omega)
    · unfold macOf
      dsimp only
      omega
    · unfold rowOf
      dsimp only
      omega
  · omega

theorem rowPlace_seedbed (hm : m / 0x1000 = 9) (hr : r < macRows m) : RowPlace m r := by
  have hb : m % 0x1000 < 12 ∧ r < 2048 ∨ m % 0x1000 = 12 ∧ r < 12288 := by
    unfold macRows at hr
    simp only [hm] at hr
    split at hr
    · omega
    · split at hr <;> omega
  refine ⟨.seedbed ((if m % 0x1000 < 12 then 0x20000 * (m % 0x1000) else 0x180000) + 64 * r), ?_, ?_, ?_⟩
  · unfold rowAddr
    simp only [hm]
    rw [Nat.add_assoc]
    refine place_seedbed ?_
    split_ifs <;> omega
  · unfold macOf
    dsimp only
    split_ifs <;> omega
  · unfold rowOf
    dsimp only
    split_ifs <;> omega

/-- Every row of every macro lies at one place, which names its macro and its row. -/
theorem rowPlaces (m r : Nat) (h0 : macRows m ≠ 0) (hr : r < macRows m) : RowPlace m r := by
  have hk : m / 0x1000 < 10 := by
    by_contra hk
    refine h0 ?_
    unfold macRows
    obtain ⟨k, hk⟩ : ∃ k, m / 0x1000 = k + 10 := ⟨m / 0x1000 - 10, by omega⟩
    rw [hk]
    rfl
  generalize hc : m / 0x1000 = c at hk
  interval_cases c
  · exact rowPlace_scratch hc hr
  · exact rowPlace_acc hc hr
  · exact rowPlace_canopy hc hr
  · exact rowPlace_dir hc hr
  · exact rowPlace_sapling hc hr
  · exact rowPlace_cambium hc hr
  · exact rowPlace_cache hc hr
  · exact rowPlace_hwd hc hr
  · exact rowPlace_pith hc hr
  · exact rowPlace_seedbed hc hr

end

end Sys2Proof.Machine
end

section
/-! The commands of the memory engines (14_memory_system.md): refresh, temperature, scrub, row test, repair, march, bulk clear. -/

namespace Sys2Proof.Machine

theorem raise_minor {e : EvRec} (s : State) (h : e.sev < 2) : EventStep s (raise e s) ∧ LastEvent (raise e s) e.code e.oid := by
  rw [raise_of_minor s h]
  exact ⟨eventStep_acceptEv e s, lastEvent_acceptEv e s⟩

/-! ### Refresh and temperature -/

theorem refreshes (k : Fin 4) (cycles : BitVec 32) (s : State) : ∃ t, exec (.dramRefresh k cycles) s = .next t ∧ t.mem = s.mem
    ∧ t.reg64 (Reg.DRC_REFCYC_LO k) = if s.flag (F.DRC_STAT_INIT k) = true then (s.reg64 (Reg.DRC_REFCYC_LO k) + cycles.toNat) % 2 ^ 64
      else s.reg64 (Reg.DRC_REFCYC_LO k) := by
  rw [exec_dramRefresh]
  unfold execDramRefresh
  refine ⟨_, rfl, ?_, ?_⟩
  · split
    · exact State.inc64_mem _ _ _
    · rfl
  · split
    · exact reg64_inc64_self _ _ _
    · rfl

theorem temperatures (k : Fin 4) (temp : BitVec 8) (s : State) : ∃ t, exec (.stackTemperatureCrossing k temp) s = .next t ∧ t.mem = s.mem
    ∧ t.fld (F.DRC_STAT_TEMP k) = temp.toNat
    ∧ t.fld (F.DRC_STAT_X2 k) = (if 85 < temp.toNat then (if s.flag (F.DRC_STAT_X2 k) = true then s.fld (F.DRC_STAT_X2 k) else 1)
      else if temp.toNat < 82 then 0 else s.fld (F.DRC_STAT_X2 k))
    ∧ (85 < temp.toNat → s.flag (F.DRC_STAT_X2 k) = false → LastEvent t 0x2006 0x38) := by
  have htemp : temp.toNat < 2 ^ 8 := temp.isLt
  generalize hu : s.put (F.DRC_STAT_TEMP k) temp.toNat = u
  have hmem : u.mem = s.mem := by rw [← hu]; exact State.put_mem _ _ _
  have ht : u.fld (F.DRC_STAT_TEMP k) = temp.toNat := by
    rw [← hu]
    exact fld_put_fits s (F.DRC_STAT_TEMP k) (by show 8 ≤ 15; decide) (by show 15 < 32; decide) htemp
  have hx : u.fld (F.DRC_STAT_X2 k) = s.fld (F.DRC_STAT_X2 k) := by
    rw [← hu]
    unfold F.DRC_STAT_X2 F.DRC_STAT_TEMP
    exact fld_put_lit s _ _ _ _ _ _ _ (by omega) (by omega)
  have hflag : u.flag (F.DRC_STAT_X2 k) = s.flag (F.DRC_STAT_X2 k) := by unfold State.flag; rw [hx]
  have hput (v : Nat) : (u.put (F.DRC_STAT_X2 k) v).fld (F.DRC_STAT_TEMP k) = temp.toNat := by
    rw [← ht]
    unfold F.DRC_STAT_X2 F.DRC_STAT_TEMP
    exact fld_put_lit u _ _ _ _ _ _ _ (by omega) (by omega)
  have hset {v : Nat} (hv : v < 2) : (u.put (F.DRC_STAT_X2 k) v).fld (F.DRC_STAT_X2 k) = v :=
    fld_put_fits u (F.DRC_STAT_X2 k) (by show 1 ≤ 1; decide) (by show 1 < 32; decide) hv
  rw [exec_stackTemperatureCrossing]
  unfold execStackTemperatureCrossing
  simp only [hu, hflag]
  by_cases h85 : 85 < temp.toNat
  · rw [if_pos h85]
    by_cases hf : s.flag (F.DRC_STAT_X2 k) = true
    · rw [if_pos hf]
      exact ⟨u, rfl, hmem, ht, by rw [if_pos h85, if_pos hf, hx], fun _ h => absurd hf (by rw [h]; decide)⟩
    · rw [if_neg hf]
      refine ⟨_, rfl, ?_⟩
      obtain ⟨hev, hl⟩ := raise_minor (e := { code := 0x2006, oid := 0x38, sev := 1, a0 := k, a1 := temp.toNat }) (u.put (F.DRC_STAT_X2 k) 1) (by show 1 < 2; decide)
      have hreg (f : RegField) (hf : f.reg = 0x70000 + 0x1000 * k.val) := hev.fld (f := f) (by rw [hf]; have := k.isLt; unfold EvReg; omega)
      refine ⟨hev.mem.trans ((State.put_mem _ _ _).trans hmem), (hreg (F.DRC_STAT_TEMP k) rfl).trans (hput 1), ?_, fun _ _ => hl⟩
      rw [if_pos h85, if_neg hf]
      exact (hreg (F.DRC_STAT_X2 k) rfl).trans (hset (by decide))
  · rw [if_neg h85]
    by_cases h82 : temp.toNat < 82
    · rw [if_pos h82]
      exact ⟨_, rfl, (State.put_mem _ _ _).trans hmem, hput 0, by rw [if_neg h85, if_pos h82]; exact hset (by decide), fun h => absurd h h85⟩
    · rw [if_neg h82]
      exact ⟨u, rfl, hmem, ht, by rw [if_neg h85, if_neg h82, hx], fun h => absurd h h85⟩

/-! ### Scrub -/

/-- From `s` to `t` bytes and check bits are kept. -/
def DataKept (s t : State) : Prop := t.mem = s.mem ∧ t.memsys.synd = s.memsys.synd

theorem DataKept.trans {s t u : State} (h : DataKept s t) (g : DataKept t u) : DataKept s u := ⟨g.1.trans h.1, g.2.trans h.2⟩
theorem dataKept_regStep {P : Nat → Prop} {s t : State} (h : RegStep P s t) : DataKept s t := ⟨h.mem, by rw [h.memsys]⟩
theorem dataKept_event {s t : State} (h : EventStep s t) : DataKept s t := ⟨h.mem, by rw [h.memsys]⟩
theorem dataKept_refl (s : State) : DataKept s s := ⟨rfl, rfl⟩

theorem dataKept_countCe (p : Place) (s : State) : DataKept s (countCe p s) := by
  have hh (f : RegField) : DataKept s (s.incHold f) := dataKept_regStep (P := fun _ => True) (.incHold s trivial)
  cases p with
  | scratch | sapling | dram | acc => exact hh _
  | l1 | l2 => exact dataKept_refl s
  | canopy | cambium | seedbed | pith | hwd | dir | reg => exact dataKept_regStep (P := fun _ => True) (.inc64 s 1 trivial trivial)

theorem dataKept_startRepair (mac a trigger : Nat) (s : State) : DataKept s (startRepair mac a trigger s) := by
  unfold startRepair
  split
  · exact dataKept_refl s
  · split
    · exact (dataKept_regStep (P := fun _ => True) (.incHold s trivial)).trans (dataKept_event (raise_minor _ (by show 1 < 2; decide)).1)
    · exact ⟨rfl, rfl⟩

/-- The word of DRAM after its correction, before it is counted. -/
def wordCorrected (w k mac n : Nat) (s : State) : State :=
  let t : State := { s with mem := spSet 0 (w + k / 8) (s.byte (w + k / 8) ^^^ BitVec.ofNat 8 (2 ^ (k % 8))) s.mem }
  t.setMs { t.memsys with synd := spSet 0 w 0 t.memsys.synd, ceCount := spSet 0 mac n t.memsys.ceCount, ceLast := spSet 0 mac (w + 1) t.memsys.ceLast }

theorem dataKept_correctWord {oid w k d : Nat} {s : State} (h : eccDecode (synd s w) = .data k) :
    DataKept (wordCorrected w k (macOf (.dram d)) (spGet 0 s.memsys.ceCount (macOf (.dram d)) + 1) s) (correctWord oid w (.dram d) s) := by
  unfold correctWord
  extract_lets x mac f n again src u v thr r
  have hf : f = { s with mem := spSet 0 (w + k / 8) (s.byte (w + k / 8) ^^^ BitVec.ofNat 8 (2 ^ (k % 8))) s.mem } := by
    have hx : eccDecode x = .data k := h
    unfold f
    rw [hx]
    rfl
  have hu : u = wordCorrected w k mac n s := by
    unfold u src
    rw [hf]
    rfl
  have hn : n = spGet 0 s.memsys.ceCount (macOf (.dram d)) + 1 := by
    unfold n
    rw [hf]
  have hc : DataKept u v := dataKept_countCe _ u
  have ht : DataKept v r := by
    unfold r
    split
    · exact dataKept_event (raise_minor _ (by show 0 < 2; decide)).1
    · exact dataKept_refl v
  rw [← hn, show macOf (.dram d) = mac from rfl, ← hu]
  split
  · exact (hc.trans ht).trans (dataKept_startRepair _ _ _ r)
  · exact hc.trans ht

theorem linkError_none (oid a : Nat) (s : State) : linkError oid a {} s = (true, s) := by
  unfold linkError
  split
  · simp [parityError]
  · rfl

theorem patrols (g : BitVec 29) (s : State) : let a := g.toNat * 256
    a < 0x1800000000 →
    (s.flag (F.DRC_SCRUB_HOURS (dramChan a / 32)) = false → exec (.patrolScrub g {}) s = .next s)
    ∧ (s.flag (F.DRC_SCRUB_HOURS (dramChan a / 32)) = true → suspectWords s a 256 = [] →
      exec (.patrolScrub g {}) s = .next (s.inc64 (Reg.DRC_RDBYTES_LO (dramChan a / 32)) 256))
    ∧ (∀ w k, s.flag (F.DRC_SCRUB_HOURS (dramChan a / 32)) = true → suspectWords s a 256 = [w] → w % 8 = 0 → w < 0x1800000000 → eccDecode (synd s w) = .data k →
      ∃ t, exec (.patrolScrub g {}) s = .next t ∧ synd t w = 0
        ∧ ∀ b, t.byte b = if b = w + k / 8 then s.byte b ^^^ BitVec.ofNat 8 (2 ^ (k % 8)) else s.byte b) := by
  intro a ha
  have hon (h : s.flag (F.DRC_SCRUB_HOURS (dramChan a / 32)) = true) : exec (.patrolScrub g {}) s
      = .next ((scanWords 0x38 true (suspectWords s a 256) s).2.inc64 (Reg.DRC_RDBYTES_LO (dramChan a / 32)) 256) := by
    rw [exec_patrolScrub]
    unfold execPatrolScrub
    dsimp only
    rw [if_pos (by rw [decide_eq_true ha, h]; rfl), linkError_none]
  refine ⟨fun h => ?_, fun h hw => ?_, fun w k h hw hw8 hwlt hd => ?_⟩
  · rw [exec_patrolScrub]
    unfold execPatrolScrub
    dsimp only
    rw [if_neg (by rw [h, Bool.and_false]; decide)]
  · rw [hon h, hw]
    rfl
  · have hplace : place w = some (.dram w) := by unfold place; exact if_pos hwlt
    have hscan : scanWords 0x38 true [w] s = (true, correctWord 0x38 w (.dram w) s) := by
      unfold scanWords
      rw [hplace]
      dsimp only
      rw [hd]
      rfl
    obtain ⟨hm, hs⟩ := dataKept_correctWord (oid := 0x38) (d := w) hd
    refine ⟨_, hon h, ?_, fun b => ?_⟩
    · unfold synd
      rw [hw, hscan, State.inc64_memsys, hs]
      unfold wordCorrected
      rw [show w / 8 * 8 = w by omega]
      show (spGet 0 (spSet 0 w 0 s.memsys.synd) w).toNat = 0
      rw [spGet_spSet, if_pos rfl]
      rfl
    · rw [hw, hscan, State.inc64_byte]
      unfold State.byte
      rw [hm]
      show spGet 0 (spSet 0 (w + k / 8) (s.byte (w + k / 8) ^^^ BitVec.ofNat 8 (2 ^ (k % 8))) s.mem) b = _
      rw [spGet_spSet]
      split
      · rename_i e
        rw [e]
        rfl
      · rfl

/-! ### Row test, repair -/

theorem rowTests (s : State) : (s.flag F.MEM_BGCTRL_EN = false → exec (.backgroundRowTest []) s = .next s)
    ∧ (s.flag F.MEM_BGCTRL_EN = true → s.memsys.synd = [] → exec (.backgroundRowTest []) s = .next
      (let t := s.setMs { s.memsys with bgRow := s.memsys.bgRow + 1 }
        if t.memsys.bgRow % bgRows = 0 then t.inc64 Reg.MEM_BGPASS_LO else t)) := by
  rw [exec_backgroundRowTest]
  unfold execBackgroundRowTest
  refine ⟨fun h => if_neg (by rw [h]; decide), fun h hs => ?_⟩
  rw [if_pos h]
  simp only [hs, List.map_nil, List.filter_nil, List.foldl_nil, scanWords]

/-- A spare row is taken. -/
def spareTaken (r : Repair) (s : State) : State :=
  if r.mac / 0x1000 = 0xA then
    (s.put (F.DRC_PPR_AVAIL (r.mac % 0x1000 / 32)) (s.fld (F.DRC_PPR_AVAIL (r.mac % 0x1000 / 32)) - 1)).incHold (F.DRC_PPR_USED (r.mac % 0x1000 / 32))
  else s.setMs { s.memsys with spareUsed := spSet 0 r.mac (spGet 0 s.memsys.spareUsed r.mac + 1) s.memsys.spareUsed }

theorem spareTaken_kept (r : Repair) (s : State) : (spareTaken r s).memsys.repairs = s.memsys.repairs ∧ (spareTaken r s).mem = s.mem := by
  unfold spareTaken
  split
  · have h := (RegStep.put (P := fun _ => True) s (f := F.DRC_PPR_AVAIL (r.mac % 0x1000 / 32)) (s.fld (F.DRC_PPR_AVAIL (r.mac % 0x1000 / 32)) - 1) trivial).trans
      (.incHold _ (f := F.DRC_PPR_USED (r.mac % 0x1000 / 32)) trivial)
    exact ⟨congrArg MemSys.repairs h.memsys, h.mem⟩
  · exact ⟨rfl, rfl⟩

/-- The event of a soft repair. -/
def repairEvent (r : Repair) (s : State) : EvRec :=
  { code := 0x2003, oid := 0x38, a0 := memArg0 r.row r.mac, a1 := memArg1 r.row r.mac, a2 := ofBool (decide (r.mac / 0x1000 = 0xA)) + r.trigger * 2, a3 := spareLeft s r.mac }

theorem softRepair_eq {s : State} {r : Repair} {rest : List Repair} (h : s.memsys.repairs = r :: rest) : execSoftRepairComplete s =
    .next (raise (repairEvent r ((spareTaken r (repairWords r.row (s.setMs { s.memsys with repairs := rest }))).incHold F.MEM_RPLOG_SOFT))
      ((spareTaken r (repairWords r.row (s.setMs { s.memsys with repairs := rest }))).incHold F.MEM_RPLOG_SOFT)) := by
  unfold execSoftRepairComplete repairEvent spareTaken
  rw [h]

theorem softRepairs (s : State) : (s.memsys.repairs = [] → exec .softRepairComplete s = .next s)
    ∧ ∀ r rest, s.memsys.repairs = r :: rest → suspectWords s r.row 64 = [] →
      ∃ t, exec .softRepairComplete s = .next t ∧ t.memsys.repairs = rest ∧ t.mem = s.mem ∧ LastEvent t 0x2003 0x38 := by
  rw [exec_softRepairComplete]
  refine ⟨fun h => by unfold execSoftRepairComplete; rw [h], fun r rest h hs => ?_⟩
  have hrep : repairWords r.row (s.setMs { s.memsys with repairs := rest }) = s.setMs { s.memsys with repairs := rest } := by
    unfold repairWords
    rw [show suspectWords (s.setMs { s.memsys with repairs := rest }) r.row 64 = [] from hs]
    rfl
  rw [softRepair_eq h, hrep]
  refine ⟨_, rfl, ?_⟩
  obtain ⟨h1, h2⟩ := spareTaken_kept r (s.setMs { s.memsys with repairs := rest })
  have hw : RegStep (fun _ => True) _ ((spareTaken r (s.setMs { s.memsys with repairs := rest })).incHold F.MEM_RPLOG_SOFT) := .incHold _ trivial
  generalize (spareTaken r (s.setMs { s.memsys with repairs := rest })).incHold F.MEM_RPLOG_SOFT = w at hw ⊢
  obtain ⟨hev, hl⟩ := raise_minor (e := repairEvent r w) w (by show 0 < 2; decide)
  exact ⟨(congrArg MemSys.repairs (hev.memsys.trans hw.memsys)).trans h1, (hev.mem.trans hw.mem).trans h2, hl⟩

/-! ### March tests -/

theorem marchRequests (s : State) : let n := s.fld F.MEM_TSEL_MACRO
    let ok := if s.flag F.MEM_TSEL_FORM = true then macRows n ≠ 0 ∧ n / 0x1000 ≠ 5 ∧ n / 0x1000 ≠ 7 else groupLost s n = true
    (ok ∧ s.flag F.MEM_TSTAT_BUSY = false → exec .memoryTestRequest s
      = .next ((s.put F.MEM_TSTAT_BUSY 1).setMs { s.memsys with test := some ⟨n, s.flag F.MEM_TSEL_FORM, s.fld F.MEM_TSEL_BGS⟩ }))
    ∧ (¬ (ok ∧ s.flag F.MEM_TSTAT_BUSY = false) → exec .memoryTestRequest s = .next (s.put F.MEM_TSTAT_REFUSED 1)) := by
  intro n ok
  have hok : ok ↔ (if s.flag F.MEM_TSEL_FORM then decide (macRows n ≠ 0) && decide (n / 0x1000 ≠ 5) && decide (n / 0x1000 ≠ 7) else groupLost s n) = true := by
    unfold ok
    split
    · simp [and_assoc]
    · rfl
  rw [exec_memoryTestRequest]
  unfold execMemoryTestRequest startTest
  dsimp only
  refine ⟨fun ⟨h1, h2⟩ => ?_, fun h => ?_⟩
  · rw [if_neg (by rw [h2, hok.1 h1]; decide)]
  · rw [if_pos]
    by_cases hb : s.flag F.MEM_TSTAT_BUSY = true
    · rw [hb, Bool.true_or]
    · rw [Bool.eq_false_iff.2 fun e => h ⟨hok.2 e, Bool.eq_false_iff.2 hb⟩]
      simp

/-- The macros of a group zeroed. -/
theorem zeroUnitStores_crown {u : Nat} (hu : u < 6) (s : State) : (∀ a, spBase u ≤ a → a < spBase u + spSize → (zeroUnitStores u s).byte a = 0)
    ∧ ((zeroUnitStores u s).core u).acc = [] := by
  unfold zeroUnitStores
  rw [if_pos hu]
  refine ⟨fun a h1 h2 => ?_, ?_⟩
  · rw [byte_zero, if_pos ⟨h1, h2⟩]
  · show (spGet {} (spSet {} u _ s.crown) u).acc = []
    rw [spGet_spSet, if_pos rfl]

/-- A march's end, without a failing row. -/
theorem marchFails_nil (s : State) : marchFails [] s = s := rfl

theorem marches (s : State) : (s.memsys.test = none → exec (.memoryTestComplete []) s = .next s)
    ∧ ∀ x, s.memsys.test = some x → ∃ t, exec (.memoryTestComplete []) s = .next t ∧ t.flag F.MEM_TSTAT_BUSY = false ∧ t.flag F.MEM_TSTAT_DONE = true
      ∧ t.memsys.test = none ∧ (x.preserving = true → s.memsys.synd = [] → t.mem = s.mem)
      ∧ (x.preserving = false → x.target % 0x1000 < 6 → ∀ a, spBase (x.target % 0x1000) ≤ a → a < spBase (x.target % 0x1000) + spSize → t.byte a = 0)
      ∧ (x.preserving = false → x.target % 0x1000 < 6 → (t.core (x.target % 0x1000)).acc = []) := by
  rw [exec_memoryTestComplete]
  unfold execMemoryTestComplete
  refine ⟨fun h => by rw [h], fun x h => ?_⟩
  rw [h]
  dsimp only
  rw [List.filter_nil, marchFails_nil, if_pos rfl]
  generalize hu : (if x.preserving then _ else _ : State) = u
  have h1 : x.preserving = true → s.memsys.synd = [] → u.mem = s.mem := by
    intro hp hs
    rw [← hu, if_pos hp, hs]
    rfl
  have h2 : x.preserving = false → u = zeroUnitStores (x.target % 0x1000) s := fun hp => by rw [← hu, if_neg (by rw [hp]; decide)]
  refine ⟨_, rfl, ?_, ?_, rfl, h1, fun hp ht a ha hb => ?_, fun hp ht => ?_⟩
  · unfold State.flag F.MEM_TSTAT_BUSY F.MEM_TSTAT_DONE
    simp (disch := omega) only [fld_put_lit, fld_put_lit_self]
    decide
  · exact flag_put_one _ (f := F.MEM_TSTAT_DONE) rfl (by show 1 < 32; decide)
  · have := (zeroUnitStores_crown ht s).1 a ha hb
    rw [← h2 hp] at this
    exact this
  · have := (zeroUnitStores_crown ht s).2
    rw [← h2 hp] at this
    exact this

end Sys2Proof.Machine
end

section
/-! Bulk clears (14_memory_system.md) and the obligation about the memory engines. -/

namespace Sys2Proof.Machine

theorem reg64_inc64_ne (s : State) {o p : Nat} (n : Nat) (h : p ≠ o ∧ p ≠ o + 4 ∧ p + 4 ≠ o) : (s.inc64 o n).reg64 p = s.reg64 p :=
  reg64_congr (reg_inc64_ne s n h.1 h.2.1) (reg_inc64_ne s n h.2.2 (by omega))

/-- The counts of the four stacks after a clear. -/
theorem reg64_bulkCounts (g : Nat → Nat) (s : State) (k : Fin 4) : ((List.range 4).foldl (fun s k => s.inc64 (Reg.DRC_WRBYTES_LO k) (g k)) s).reg64 (Reg.DRC_WRBYTES_LO k)
    = (s.reg64 (Reg.DRC_WRBYTES_LO k) + g k) % 2 ^ 64 := by
  have hne {i j : Nat} (h : i ≠ j) (v : State) (n : Nat) : (v.inc64 (Reg.DRC_WRBYTES_LO i) n).reg64 (Reg.DRC_WRBYTES_LO j) = v.reg64 (Reg.DRC_WRBYTES_LO j) :=
    reg64_inc64_ne v n (by unfold Reg.DRC_WRBYTES_LO; omega)
  rw [show List.range 4 = [0, 1, 2, 3] from rfl]
  simp only [List.foldl_cons, List.foldl_nil]
  obtain ⟨k, hk⟩ := k
  dsimp only
  interval_cases k
  · rw [hne (by decide), hne (by decide), hne (by decide), reg64_inc64_self]
  · rw [hne (by decide), hne (by decide), reg64_inc64_self, hne (by decide)]
  · rw [hne (by decide), reg64_inc64_self, hne (by decide), hne (by decide)]
  · rw [reg64_inc64_self, hne (by decide), hne (by decide), hne (by decide)]

theorem memsys_foldl_inc64 (l : List Nat) (f g : Nat → Nat) (s : State) : (l.foldl (fun s k => s.inc64 (f k) (g k)) s).memsys = s.memsys := by
  induction l generalizing s with
  | nil => rfl
  | cons k l ih => rw [List.foldl_cons, ih, State.inc64_memsys]

theorem enqueueClear_clears (c : BulkClear) (s : State) : (enqueueClear c s).memsys.clears = s.memsys.clears ++ [c] := by
  unfold enqueueClear bulkZero
  rw [memsys_foldl_inc64]
  rfl

/-- A clear of whole superpages counts a quarter of its bytes for every stack. -/
theorem enqueueClear_counts {a n : Nat} (ha : a % 0x8000 = 0) (who : ClearFor) (s : State) (k : Fin 4) :
    (enqueueClear ⟨a, n * 0x200000, who⟩ s).reg64 (Reg.DRC_WRBYTES_LO k) = (s.reg64 (Reg.DRC_WRBYTES_LO k) + n * 0x80000) % 2 ^ 64 := by
  have hb (k : Nat) : stackBytes a (n * 0x200000) k = n * 0x80000 := by
    unfold stackBytes
    rw [if_pos (by simp [ha]; omega)]
    omega
  unfold enqueueClear bulkZero
  rw [reg64_bulkCounts, hb]
  rfl

theorem clearable_host {s : State} {u : Nat} (h1 : ownerOf s u = 64) (h2 : s.flag F.KVP_CTRL_EN = false) (h3 : s.sched.change = none) : clearable s u = true := by
  unfold clearable withdrawn
  simp [h1, h2, h3]

theorem clearable_owned {s : State} {u : Nat} (h : ownerOf s u ≠ 64) : clearable s u = false := by
  unfold clearable
  simp [h]

/-- The start of a bulk clear. -/
theorem bulkClears (s : State) : let a := s.fld F.MEM_BCLR_ADDR_LO_ADDR_LO * 0x200000 + s.fld F.MEM_BCLR_ADDR_HI_ADDR_HI * 2 ^ 32
    let n := s.fld F.MEM_BCLR_LEN_LEN
    (s.flag F.MEM_BCLR_STAT_BUSY = true → exec .bulkClear s = .next s)
    ∧ (s.flag F.MEM_BCLR_STAT_BUSY = false → 0 < n → a + n * 0x200000 ≤ 0x1800000000 → s.flag F.KVP_CTRL_EN = false → s.sched.change = none →
      (∀ i < n, ownerOf s (a / 0x200000 + i) = 64) →
      ∃ t, exec .bulkClear s = .next t ∧ t.memsys.clears = s.memsys.clears ++ [⟨a, n * 0x200000, .role 0⟩] ∧ t.flag F.MEM_BCLR_STAT_BUSY = true
        ∧ (∀ x, t.byte x = if a ≤ x ∧ x < a + n * 0x200000 then 0 else s.byte x)
        ∧ ∀ k : Fin 4, t.reg64 (Reg.DRC_WRBYTES_LO k) = (s.reg64 (Reg.DRC_WRBYTES_LO k) + n * 0x80000) % 2 ^ 64)
    ∧ (s.flag F.MEM_BCLR_STAT_BUSY = false → n = 0 ∨ 0x1800000000 < a + n * 0x200000 ∨ (∃ i < n, ownerOf s (a / 0x200000 + i) ≠ 64) →
      exec .bulkClear s = .next (s.put F.MEM_BCLR_STAT_ERR 1)) := by
  intro a n
  rw [exec_bulkClear]
  unfold execBulkClear
  have hstart (h : s.flag F.MEM_BCLR_STAT_BUSY = false) : startClear 0 s
      = if n = 0 || !(decide (a + n * 0x200000 ≤ 0x1800000000) && (List.range n).all fun i => clearable s (a / 0x200000 + i)) then s.put F.MEM_BCLR_STAT_ERR 1
        else enqueueClear ⟨a, n * 0x200000, .role 0⟩ (s.put F.MEM_BCLR_STAT_BUSY 1) := by
    unfold startClear
    rw [if_neg (by rw [h]; decide)]
  refine ⟨fun h => ?_, fun h hn hfit hkvp hch hown => ?_, fun h hbad => ?_⟩
  · unfold startClear
    rw [if_pos h]
  · have hall : ((List.range n).all fun i => clearable s (a / 0x200000 + i)) = true :=
      List.all_eq_true.2 fun i hi => clearable_host (hown i (List.mem_range.1 hi)) hkvp hch
    rw [hstart h, if_neg (by rw [hall, decide_eq_true hfit, decide_eq_false (by omega : ¬ n = 0)]; decide)]
    have hz := zeroes_enqueueClear (s.put F.MEM_BCLR_STAT_BUSY 1) ⟨a, n * 0x200000, .role 0⟩
    refine ⟨_, rfl, ?_, ?_, fun x => (hz.byte x).trans (by rw [byte_put]), fun k => ?_⟩
    · rw [enqueueClear_clears]
      rfl
    · unfold State.flag
      rw [fld_of_reg F.MEM_BCLR_STAT_BUSY (hz.reg _ (by unfold WrCount Reg.DRC_WRBYTES_LO; rintro ⟨k, hk, e⟩; have h0 : F.MEM_BCLR_STAT_BUSY.reg = 0x60060 := rfl; omega))]
      exact flag_put_one s (f := F.MEM_BCLR_STAT_BUSY) rfl (by show 0 < 32; decide)
    · rw [enqueueClear_counts (by omega)]
      rw [reg64_congr (reg_put_ne s F.MEM_BCLR_STAT_BUSY 1 ?_) (reg_put_ne s F.MEM_BCLR_STAT_BUSY 1 ?_)] <;>
        · show _ ≠ 0x60060
          unfold Reg.DRC_WRBYTES_LO
          omega
  · rw [hstart h, if_pos]
    rcases hbad with h0 | hfit | ⟨i, hi, ho⟩
    · rw [decide_eq_true h0, Bool.true_or]
    · rw [decide_eq_false (by omega : ¬ a + n * 0x200000 ≤ 0x1800000000)]
      simp
    · have hall : ((List.range n).all fun i => clearable s (a / 0x200000 + i)) = false :=
        List.all_eq_false.2 ⟨i, List.mem_range.2 hi, by rw [clearable_owned ho]; decide⟩
      rw [hall]
      simp

/-- The end of a bulk clear. -/
theorem clearEnds (s : State) : (s.memsys.clears = [] → exec .bulkClearComplete s = .next s)
    ∧ (∀ c rest oid, s.memsys.clears = c :: rest → c.who = .role oid → ∃ t, exec .bulkClearComplete s = .next t ∧ t.memsys.clears = rest
      ∧ t.mem = s.mem ∧ t.flag F.MEM_BCLR_STAT_BUSY = false ∧ LastEvent t 0x2008 0x38)
    ∧ ∀ c rest, s.memsys.clears = c :: rest → (∀ oid, c.who ≠ .role oid) → exec .bulkClearComplete s = .next s := by
  rw [exec_bulkClearComplete]
  unfold execBulkClearComplete
  refine ⟨fun h => by rw [h], fun c rest oid h hw => ?_, fun c rest h hw => ?_⟩
  · rw [h]
    dsimp only
    rw [hw]
    refine ⟨_, rfl, ?_⟩
    have hclears : ((dequeueClear s).put F.MEM_BCLR_STAT_BUSY 0).memsys.clears = rest := (congrArg (List.drop 1) h :)
    have hbusy : ((dequeueClear s).put F.MEM_BCLR_STAT_BUSY 0).flag F.MEM_BCLR_STAT_BUSY = false :=
      flag_put_zero (dequeueClear s) (f := F.MEM_BCLR_STAT_BUSY) rfl (by show 0 < 32; decide)
    have hmem : ((dequeueClear s).put F.MEM_BCLR_STAT_BUSY 0).mem = s.mem := rfl
    generalize (dequeueClear s).put F.MEM_BCLR_STAT_BUSY 0 = u at hclears hbusy hmem ⊢
    obtain ⟨hev, hl⟩ := raise_minor (e := { code := 0x2008, oid := 0x38, a0 := c.addr % 2 ^ 32, a1 := memArg1 c.addr 0, a2 := c.len / 0x200000, a3 := oid }) u
      (by show 0 < 2; decide)
    refine ⟨(congrArg MemSys.clears hev.memsys).trans hclears, hev.mem.trans hmem, ?_, hl⟩
    unfold State.flag at hbusy ⊢
    rw [fld_of_reg F.MEM_BCLR_STAT_BUSY (hev.reg _ (by unfold EvReg; have h0 : F.MEM_BCLR_STAT_BUSY.reg = 0x60060 := rfl; omega))]
    exact hbusy
  · rw [h]
    dsimp only
    split
    · rename_i oid e
      exact absurd e (hw oid)
    · rfl

/-- Settles O48. -/
theorem memoryEngines : Obligations.MemoryEngines := by
  unfold Obligations.MemoryEngines
  refine ⟨eccCodes, refreshes, temperatures, patrols, rowTests, rowPlaces, softRepairs, marchRequests, marches, fun s => ?_⟩
  intro a n
  obtain ⟨h1, h2, h3⟩ := bulkClears s
  obtain ⟨h4, h5, h6⟩ := clearEnds s
  exact ⟨h1, h2, h3, h4, h5, h6⟩

end Sys2Proof.Machine
end
